-- ==== Sys2Proof/Word.lean ====
section
/-!
DEFINITION. The words a command carries: a 32-bit register word, a byte, and a 40-bit address of the Scribe view (R485).
-/

namespace Sys2Proof

/-- A 32-bit register word: register blocks take only naturally aligned 32-bit accesses (R9). -/
abbrev Word := BitVec 32

/-- A byte of memory. -/
abbrev Byte := BitVec 8

/-- An address of the one 40-bit physical space (R485). -/
abbrev Addr := BitVec 40

end Sys2Proof
end

