-- ==== Sys2Proof/Syntax.lean ====
section
/-!
DEFINITION. The commands of the block: one constructor for each row of opcode_table.json, with the row's operands. What a
row's occurrence brings from outside the part (a measured value, a received packet, the outcome of a code whose matrix the
manual does not print) is an operand.
-/

namespace Sys2Proof

/-- Who makes a register access (R18). -/
inductive Requester where
  | scribe (q : Fin 8)
  | host (f : Fin 2)
  | verso
  | debug
  deriving DecidableEq, Repr

/-- The two ruling nibs of a pen. -/
inductive RulNib where
  | rni | rno
  deriving DecidableEq, Repr

/-- An address word as found on a ruling nib (R33): its 40 bits, most significant first, and the loop's count at the period
in which its sync pattern began (R47). -/
structure AddrWord where
  bits : BitVec 40
  start : Nat
  deriving DecidableEq, Repr

/-- What is measured of a ruling nib when it is judged lost (the criteria that follow R37). Phases in 1/4,096 period. -/
inductive RulLoss where
  | phase (rms periods : Nat)
  | amplitude (percent : Nat)
  /-- Its Blotter's envelope criterion, which the samples in State judge (R65, R68). -/
  | blot
  | useBit
  deriving DecidableEq, Repr

/-- Which of the two configuration registers of the ruling a write names (R51). -/
inductive BandReg where
  | band | periods
  deriving DecidableEq, Repr

/-- A Blotter criterion (R65): the sum-signal drop, the envelope collapse, or the run-length violations. What each judges is in State. -/
inductive BlotCrit where
  | sum
  | env
  | rlv
  deriving DecidableEq, Repr

/-- What a decode shows, whose code matrix the manual does not print (R86, R87): the iteration after which the syndrome was zero,
if it was, the syndrome weight before the first iteration and the one left, and the information bits as decoded: 4,096 user bytes,
56 header bytes and 8 CRC bytes. -/
structure DecodeResult where
  iters : Nat
  zero : Bool
  initial : Nat
  weight : Nat
  user : List (BitVec 8)
  header : List (BitVec 8)
  crc : List (BitVec 8)
  deriving DecidableEq, Repr

/-- What a replay channel makes of a stored window (R101, R102): the scores of the sync and resync windows, the seven syndrome
weights of the slip test, and the detector's metric differences, as CW_FRAMED carries them. -/
structure Replay where
  scores : List Nat
  rscores : List Nat
  weights : List Nat
  dm : List Int
  deriving DecidableEq, Repr

/-- What a CAL read-back measures of one codeword (R137, R138): the mean corrected sample levels A over its marks and B over its spaces of
length 5 or more, in any one unit, the mean square error, the initial syndrome weight, the iterations, whether its sync mark was found
and whether it decoded. -/
structure CalCw where
  marks : Int
  spaces : Int
  mse : Nat
  weight : Nat
  iters : Nat
  sync : Bool
  decoded : Bool
  deriving DecidableEq, Repr


/-- Where a register access goes: an address of the Scribes' view, or an offset in one of the host's two BARs (R485, R488). -/
inductive BusAddr where
  | block (a : BitVec 40)
  | bar0 (o : BitVec 14)
  | bar2 (o : BitVec 16)
  deriving DecidableEq, Repr

/-- Which memory of a Loop Engine a write names (R167). -/
inductive LeMem where
  | prog | state | coef (bank : Fin 2)
  deriving DecidableEq, Repr

/-- Which of a loop's two configuration registers a write names (R496). -/
inductive LoopReg where
  | ctrl | prog
  deriving DecidableEq, Repr

/-- The chopper tests of R226. -/
inductive ChopFault where
  | noCurrent | noFall | stuck
  deriving DecidableEq, Repr

/-- The raw conversions of an on-window (R209): the floating phase twice, then the shunt. -/
structure WindowConv where
  phase1 : BitVec 12
  phase2 : BitVec 12
  shunt : BitVec 12
  deriving DecidableEq, Repr

/-- Conversions of the three phase voltages in CATCH (R217): the raw codes of U, V and W, the same at `times` samples of 10 µs in a
row. -/
structure CatchConv where
  times : Nat
  u : BitVec 12
  v : BitVec 12
  w : BitVec 12
  deriving DecidableEq, Repr

/-- What an island cycle of a data nib's path does with eight samples (chapter 03): a folio preamble begins here; the
interpolator, whose kernel the manual does not print, has read eight samples, in 1/64 LSB; or the tentative detector, whose
arithmetic it does not print, has decided eight bits of the oldest samples not yet judged (true is +1), with the interpolator's
slope at each in 1/64 LSB. -/
inductive ChanStep where
  | preamble
  | correct (raw : List Int)
  | adapt (dec : List Bool) (slope : List Int)
  deriving DecidableEq, Repr

/-- What ends a training state (R276). -/
inductive TrainResult where
  /-- SLOW_LOCK: every lane locked, with the codeword headers read on each uplink lane, oldest first (R260). -/
  | locked (headers : List (List (BitVec 19)))
  /-- DESKEW or SHIFT: the headers of the codewords that end at one moment on the four uplink lanes, and each lane's skew in 10 ps. -/
  | skew (headers : List (BitVec 19)) (units : List Nat)
  /-- CAPS: the capability record. -/
  | caps (gen nibs : Nat) (penPort dual : Bool) (penId : Word)
  | failed
  deriving DecidableEq, Repr

/-- How an uplink lane is lost (R280): no signal for 1 µs, or a count of uncorrectable codewords within 1 ms. -/
inductive LaneLoss where
  | absent
  | uncorrectable (within1ms : Nat)
  deriving DecidableEq, Repr

/-- The 32-bit header of a link packet: TYPE in bits 31:28, the rest as the type says (R262). -/
abbrev PktHeader : Type := BitVec 32

/-- What the cells do to a read of a block: nothing, one to three errors, an error in an address position, or more errors with
what the code makes of them: 0 clean, 1 corrected, 2 address mismatch, 3 poisoned, 4 uncorrectable (R291, R294). -/
inductive ReadFault where
  | none
  | flips (n : Fin 4)
  | address
  | heavy (outcome : Fin 5)
  deriving DecidableEq, Repr

/-- A 64-byte transfer of a requester: a read, or a write of the bytes whose mask bit is set. -/
inductive InkXfer where
  | read (addr : BitVec 40) (fault : ReadFault)
  | write (addr : BitVec 40) (mask : BitVec 64) (data : List (BitVec 8)) (poison : Bool) (fault : ReadFault)
  deriving DecidableEq, Repr

/-- A pending transfer at a channel: the requester, whether it is a pen whose inbound FIFO is above 75% full, and the transfer. -/
structure InkReq where
  r : Fin 40
  urgent : Bool
  xfer : InkXfer
  deriving DecidableEq, Repr

/-- What the SECDED code of a local memory makes of a word (R311). -/
inductive LocalEcc where
  | clean | corrected | uncorrectable
  deriving DecidableEq, Repr

/-- The atomic operations of the A extension (R315). -/
inductive AmoOp where
  | lr | sc | swap | add | xor | and | or | min | max | minu | maxu
  deriving DecidableEq, Repr

/-- Widths of a Scribe access in bytes: 2 to the power of the value. -/
abbrev AccessSize := Fin 4

/-- An NVMe command as its submission entry gives it (R345). Counts of LBAs are counts, not the base specification's
counts less one. -/
inductive NvmeCmd where
  | read (nsid slba nlb : Nat)
  | write (nsid slba nlb : Nat) (fua : Bool)
  | compare (nsid slba nlb : Nat)
  | writeZeroes (nsid slba nlb : Nat)
  | deallocate (nsid : Nat) (ranges : List (Nat × Nat))
  | flush (nsid : Nat)
  | identify (cns nsid : Nat)
  | getLogPage (lid : Nat)
  | getFeatures (fid : Nat)
  | setFeatures (fid value : Nat) (table : List Nat)
  | createCq (qid size vector : Nat) (ien : Bool)
  | createSq (qid size cq : Nat)
  | deleteSq (qid : Nat)
  | deleteCq (qid : Nat)
  | abort (sq cid : Nat)
  | asyncEvent
  | nsCreate (size : Nat)
  | nsDelete (nsid : Nat)
  | nsAttach (nsid ctrls : Nat) (attach : Bool)
  | format (nsid ses : Nat)
  | sanitize (action : Nat)
  | fwDownload (offset : Nat) (data : List (BitVec 8))
  | fwCommit (slot ca : Nat)
  | securitySend (data : List (BitVec 8))
  | securityReceive (len : Nat)
  | other (opcode : BitVec 8)
  deriving DecidableEq, Repr

/-- What one step of a bind brings (R369, R370). -/
inductive BindStep where
  /-- The bind request: the disc's spindle, whether it is BX2, its disc ID (R122), and its NSID map. -/
  | request (spindle : Fin 8) (bx2 : Bool) (id : BitVec 64) (map : List (Nat × Nat))
  /-- A copy of a Colophon row of side `side` has been read into the Inkwell at `record`; the pen that burned it has `nibs` data
  nibs. -/
  | chain (side : Fin 2) (record : BitVec 40) (nibs : Fin 17)
  /-- No Colophon stands on side `side`. -/
  | blank (side : Fin 2)
  /-- Every run is bucketed. -/
  | sort
  /-- The next span's merged block is built at an address. -/
  | build (block : BitVec 40)
  | unbind
  deriving DecidableEq, Repr

/-- A heartbeat as received (R388). -/
structure Beat where
  node : BitVec 12
  role : Fin 4
  degraded : Bool
  health : Word
  time : BitVec 64
  deriving DecidableEq, Repr

/-- Why the Verso link fails (R391). -/
inductive VersoFail where
  | heartbeat | gcm | down | retrain
  deriving DecidableEq, Repr

/-- A FIRMWARE message (R388, R390): the next one of the transmit ring is sent with its payload length, or one is received,
which firmware may read as the acknowledgement of an admission record. -/
inductive FwMsg where
  | send (len : Nat)
  | receive (data : List (BitVec 8)) (ackOf : Option Nat)
  deriving DecidableEq, Repr

/-- The health tests of the entropy source (R418). -/
inductive EntTest where
  | rct | apt
  deriving DecidableEq, Repr

/-- A command: a row of opcode_table.json. -/
inductive Instr where
  | registerWrite (who : Requester) (addr : BusAddr) (size : AccessSize) (value : BitVec 64)
  | rocRead (who : Requester) (addr : BusAddr) (size : AccessSize)
  | latch (block : BitVec 40)
  | latchCapture (block : BitVec 40)
  | accessAbandoned (who : Requester) (addr : BitVec 40) (isWrite : Bool)
  | rulEnable (n : Fin 16)
  | rulDisable (n : Fin 16)
  | rulJumpSet (n : Fin 16)
  | rulJumpClear (n : Fin 16)
  | rulBandWrite (n : Fin 16) (reg : BandReg) (value : Word)
  | freqAcquired (n : Fin 16) (rateHz errPpm periods : Nat)
  | phaseAcquired (n : Fin 16) (rms periods : Nat) (rniGood rnoGood : Bool)
  | acqTimeout (n : Fin 16) (elapsed : Nat)
  | addrWord (n : Fin 16) (rni rno : Option AddrWord) (rniRms rnoRms : BitVec 16)
  | rulingNibLost (n : Fin 16) (nib : RulNib) (why : RulLoss)
  | rulingNibGood (n : Fin 16) (nib : RulNib) (phase periods : Nat) (wholeBin : Bool) (word : Option AddrWord)
  | holdLimit (n : Fin 16) (elapsedUs : Nat)
  | freqWordSend (n : Fin 16) (word : BitVec 64)
  | rcCtrlWrite (n : Fin 16) (value : Word)
  | blotStart (n k : Fin 16) (crit : BlotCrit) (bit : Nat)
  | blotEnd (n k : Fin 16) (clearBit : Int)
  | cwBoundary (n k : Fin 16) (f : Nat) (idx : Fin 16) (nsSinceSelect : Nat)
  | presetFetchDone (n k : Fin 16) (ue : Bool)
  | ztDirWrite (n : Fin 16) (entry : Fin 2048) (value : Word)
  | syncSearch (n k : Fin 16)
  | resyncSearch (n k : Fin 16)
  | slipTest (n k : Fin 16) (weights : List Nat)
  | cwFramed (n k : Fin 16) (dm : List Int)
  | coreSchedule (core : Fin 64)
  | decodeDone (core : Fin 64) (res : DecodeResult)
  | spillCopyDone
  | samplesLost (n k : Fin 16)
  | replayDone (ch : Fin 4) (res : Replay)
  | revisitStart (n : Fin 16)
  | revisitStep (n : Fin 16)
  | parkWrite (set : Bool)
  | coreOfflineWrite (value : BitVec 64)
  | coreTest (core : Fin 64)
  | coreTestDone (pass : Bool)
  | captureArm (value : Word)
  | captureDone
  | fqHeadWrite (n : Fin 16) (value : Word)
  | groupForm (n : Fin 16)
  | groupStart (n : Fin 16)
  | slotArrival (n k : Fin 16) (f fifoBytes sidx : Nat)
  | burnDone (n k : Fin 16)
  | writeUnderrun (n k : Fin 16)
  | verifyRead (n : Fin 16) (desc : Nat)
  | descComplete (n : Fin 16) (desc : Nat)
  | groupEnd (n : Fin 16)
  | colophonGate (n : Fin 16)
  | colophonReadback (n : Fin 16)
  | calReadback (n : Fin 16) (nibs : List (List CalCw))
  | blankCheck (n : Fin 16) (rms : List Nat)
  | readDesc (n : Fin 16) (desc : Nat)
  | wsLoad (n : Fin 16) (value : Word)
  | wsLoadDone (n : Fin 16) (ack : Bool)
  | gateClr (n : Fin 16)
  | haltWrite (n : Fin 16) (set : Bool)
  | wcDisable (n : Fin 16)
  | writeHoldRise (n : Fin 16)
  | leTick (e : Fin 17) (cycles eccCorr : Nat)
  | loopModeWrite (e : Fin 17) (j : Fin 32) (mode : Fin 8)
  | loopCtrlWrite (e : Fin 17) (j : Fin 32) (reg : LoopReg) (value : Word)
  | bankWrite (e : Fin 17) (j : Fin 32) (bank : Fin 2)
  | leMemoryWrite (e : Fin 17) (mem : LeMem) (index : Fin 512) (high inSwitch : Bool) (value : Word)
  | rcTableWrite (e : Fin 17) (t : Fin 2) (bin : Fin 1024) (value : Word)
  | rcClear (e : Fin 17) (t : Fin 2)
  | rcClearDone (e : Fin 17) (t : Fin 2)
  | leReset (e : Fin 17)
  | lockstepFault (e : Fin 17) (loop : Fin 32) (word : Fin 256) (cycle : Nat) (ecc : Bool)
  | invalidTick (n : Fin 16) (elapsedNs : Nat)
  | resume (n : Fin 16)
  | escapeRetract (n : Fin 16)
  | collapseRetract (n : Fin 16)
  | longGap (n : Fin 16)
  | retractEnd (n : Fin 16)
  | acqStart (n : Fin 16) (layer : Fin 16)
  | approachDone (n : Fin 16)
  | sweepCapture (n : Fin 16)
  | fLock (n : Fin 16)
  | trackCapture (n : Fin 16)
  | tLock (n : Fin 16)
  | trackSlip (n : Fin 16)
  | jumpStart (n : Fin 16) (shallower : Bool) (count : Fin 16)
  | jumpPhaseEnd (n : Fin 16)
  | tjumpStart (n : Fin 16) (tkick : Fin 256) (count : BitVec 9)
  | tjumpEnd (n : Fin 16)
  | supEnWrite (n : Fin 16) (set : Bool)
  | trkAutoWrite (n : Fin 16) (set : Bool)
  | pwmPeriod (k : Fin 8) (conv : Option WindowConv)
  | overcurrentTrip (k : Fin 8) (shunt : BitVec 12)
  | zcConfirm (k : Fin 8) (tBefore tAfter : Nat)
  | commutate (k : Fin 8)
  | missedZc (k : Fin 8)
  | catchEnd (k : Fin 8) (conv : List CatchConv)
  | brakeEnd (k : Fin 8)
  | slotGrant (bus : Fin 2)
  | alignEnd (k : Fin 8)
  | handover (k : Fin 8)
  | openHoldFail (k : Fin 8)
  | coastEnd (k : Fin 8)
  | stopBrakeEnd (k : Fin 8)
  | spSetWrite (k : Fin 8) (value : Word)
  | spEnableWrite (k : Fin 8) (set : Bool)
  | faultClr (k : Fin 8)
  | busSample (adc : Fin 4) (code : BitVec 12) (elapsedNs frameNs : Nat)
  | chopFault (bus : Fin 2) (kind : ChopFault) (sinceUs : Nat)
  | ovClear (bus : Fin 2)
  | i2tLimit (k : Fin 8)
  | seqEntryWrite (i : Fin 64) (value : Word)
  | plannerTick
  | sledTargetWrite (n : Fin 16) (value : Word)
  | sledModeWrite (n : Fin 16) (mode : Fin 8)
  | moveDone (n : Fin 16)
  | extStep (outward : Bool) (elapsedNs : Nat)
  | sledStop (n : Fin 16)
  | posSet (n : Fin 16) (value : Word)
  | switchQualify (n : Fin 16) (stableUs : Nat)
  | ducFrame (bus : Fin 2)
  | stageStatus (a : Fin 24) (record : List (BitVec 8))
  | stageLost (a : Fin 24) (missing : Nat)
  | lkEnableWrite (n : Fin 16) (set : Bool)
  | signalDetect (n : Fin 16)
  | retrain (n : Fin 16)
  | trainStep (n : Fin 16) (res : TrainResult)
  | trainTimeout (n : Fin 16)
  | failWaitEnd (n : Fin 16)
  | pllLock (quad : Fin 4)
  | deskew (n : Fin 16)
  | deskewDone (n : Fin 16) (headers : List (BitVec 19)) (units : List Nat)
  | deskewSuspendExpiry (n : Fin 16)
  | samples (n : Fin 16) (header : PktHeader) (data : List (BitVec 8)) (steps : List ChanStep)
  | ruling (n : Fin 16) (header : PktHeader) (data : List (BitVec 6))
  | servo (n : Fin 16) (header : PktHeader) (words : List Word) (sets : List (List (List Nat)))
  | penStatus (n : Fin 16) (header : PktHeader) (words : List Word) (corrected : List Nat)
  | claimStatus (n : Fin 16) (header : PktHeader) (words : List Word)
  | ack (n k : Fin 16) (header : PktHeader)
  | uncorrectableCodeword (n : Fin 16) (lane : Fin 4) (corrected : Nat) (cut : List PktHeader)
  | laneLost (n : Fin 16) (lane : Fin 4) (why : LaneLoss)
  | linkDown (n : Fin 16)
  | claim (n : Fin 16)
  | write (n k : Fin 16) (filled : Nat)
  | inkGrant (c : Fin 8) (drained : Nat) (reqs : List InkReq)
  | eccWriteback (c : Fin 8)
  | ueWindow
  | fillDone (markMiB : Nat)
  | scrubRead (c : Fin 8) (gapCycles elapsedUs : Nat) (fault : ReadFault)
  | arbBaseWrite (i : Fin 5) (value : Word)
  | longestClear (r : Fin 40) (value : Word) (update : Option Nat)
  | eccTestMech (split : Bool)
  | eccTestArm
  | eccTestStore
  | srEnter
  | srExitStart
  | srExit
  | scribeLoad (q : Fin 8) (addr : BitVec 40) (size : AccessSize) (ecc : LocalEcc)
  | scribeStore (q : Fin 8) (addr : BitVec 40) (size : AccessSize) (value : BitVec 64)
  | scribeFetch (q : Fin 8) (addr : BitVec 40) (ecc : LocalEcc)
  | scribeAmo (q : Fin 8) (op : AmoOp) (addr : BitVec 40) (wide : Bool) (value : BitVec 64)
  | victimWritebackDone
  | writeback
  | invalidate
  | wbInv
  | zero
  | preload (way : Fin 16)
  | cpbOpDone
  | unlock (way : Fin 16)
  | scratchCountWrite (value : Fin 16)
  | scratchFillDone
  | sramEccError (set : Fin 4096) (way : Fin 16) (half : Fin 2) (corrected : Bool)
  | mbxRequestWrite (who : Requester) (m : Fin 32) (word : Fin 64) (value : Word)
  | mbxResultWrite (who : Requester) (m : Fin 32) (word : Fin 64) (value : Word)
  | post (who : Requester) (m : Fin 32)
  | take (who : Requester) (m : Fin 32)
  | cancel (who : Requester) (m : Fin 32)
  | complete (who : Requester) (m : Fin 32)
  | mbxAck (who : Requester) (m : Fin 32)
  | resultHeaderRead (f : Fin 2) (m : Fin 32)
  | mbxCfgWrite (who : Requester) (m : Fin 32) (value : Word)
  | sealTake (who : Requester) (i : Fin 64)
  | sealRelease (who : Requester) (i : Fin 64)
  | clearBroken (who : Requester) (i : Fin 64)
  | perstAssert (port : Fin 2)
  | perstRelease (port : Fin 2) (bifur : Bool)
  | cfgReadyWrite (ready : Bool)
  | ccEnSet (f : Fin 2)
  | ccEnClear (f : Fin 2)
  | flr (f : Fin 2)
  | shnNormal (f : Fin 2)
  | shnAbrupt (f : Fin 2)
  | doorbell (f : Fin 2) (y : Nat) (isCq : Bool) (value : BitVec 16)
  | admitNext (cid : BitVec 16) (cmd : NvmeCmd)
  | rangeLockRelease (adm : Nat)
  | readCmd (adm : Nat) (media : List (BitVec 40))
  | writeCmd (adm : Nat) (data : List (BitVec 8)) (parts : List (Nat × BitVec 40 × BitVec 40))
  | flush (adm : Nat)
  | writeZeroes (adm : Nat) (quire : Nat) (blocks : List (BitVec 40))
  | deallocate (adm : Nat) (quire : Nat) (blocks : List (BitVec 40))
  | compare (adm : Nat) (data : List (BitVec 8)) (media : List (BitVec 40))
  | identify (adm : Nat)
  | getLogPage (adm : Nat)
  | getFeatures (adm : Nat)
  | setFeatures (adm : Nat)
  | createIoQueue (adm : Nat)
  | deleteIoQueue (adm : Nat)
  | abortCmd (adm : Nat) (waiting : Bool)
  | asyncEventRequest (adm : Nat)
  | namespaceManagement (adm : Nat) (room : Bool) (directory : BitVec 40)
  | namespaceAttachment (adm : Nat)
  | formatNvm (adm : Nat) (slot : Fin 128) (quire : Nat) (blocks : List (BitVec 40))
  | sanitize (adm : Nat)
  | firmwareImageDownload (adm : Nat)
  | firmwareCommit (adm : Nat) (unhealthy : Option (Fin 8))
  | securitySend (adm : Nat)
  | securityReceive (adm : Nat) (response : List (BitVec 8))
  | invalidOpcode (adm : Nat)
  | powerStateChange
  | apstDue (f : Fin 2)
  | autonomousExit
  | qpSplitWrite (value : BitVec 8)
  | lookup
  | ldgSwap
  | commitApply (quire : Nat) (pen : Fin 16) (desc : Nat) (disc : Fin 512) (blocks : List (BitVec 40))
  | bind (disc : Fin 512) (step : BindStep)
  | slowLookupResolve (nsid lba count : Nat)
  | vrsOutWrite (k : Fin 40) (value : Word)
  | heartbeat (received : Option Beat)
  | versoLinkFail (cause : VersoFail)
  | versoLinkUp (partnerNonce : List (BitVec 8))
  | writeData (addr : BitVec 40) (data : List (BitVec 8))
  | dataAck (addr : BitVec 40)
  | sealMsg (i : Fin 64) (take : Bool)
  | firmwareMsg (m : FwMsg)
  | gcmFail
  | giveUp
  | takeover (onGiveUp : Bool)
  | stale (k : Fin 40)
  | health
  | degClr
  | diagClear
  | nodeWrite (value : BitVec 12)
  | generate (slot : Fin 128)
  | unwrap (slot : Fin 128) (kek : Fin 4)
  | wrap (slot : Fin 128) (kek : Fin 4)
  | clear (slot : Fin 128)
  | loadDomain
  | loadPair
  | keyDone
  | zeroise
  | selftest
  | selftestDone (fail : BitVec 8)
  | reseed
  | entFail (test : EntTest)
  | katDone (fail : BitVec 8)
  | secError (test : BitVec 8)
  | open1 (f : Fin 2) (authority : BitVec 16) (nonce : List (BitVec 8))
  | open2 (exchange : Nat) (proof : List (BitVec 8))
  | sessionRequest (m : Fin 32)
  | close (id : Fin 9)
  | sessionExpiry (id : Fin 9)
  | debugUnlock (token : List (BitVec 8))
  | resetNAssert (ns : Nat)
  | resetNRelease (testEn : Bool)
  | fuseLoadDone
  | bistDone
  | trainingDone
  | imageCheck (image : List (BitVec 8)) (readError : Bool)
  | release (q : Fin 8) (run : Bool)
  | kick (who : Requester) (q : Fin 8) (value : BitVec 16)
  | wdtTimeoutWrite (q : Fin 8) (value : BitVec 16)
  | wdtWarn (q : Fin 8) (ms : Nat)
  | wdtReset (q : Fin 8) (ms : Nat)
  | scribeReset (q : Fin 8)
  | chipReset (who : Requester) (key : BitVec 16)
  | clkLoss (pcie : Bool)
  | sensorSample (codes : List (BitVec 12))
  | powerManagerUpdate (est : BitVec 16)
  | thermalTrip
  | activationRollback
  | calStart
  | retrimAdcDone (a : Fin 4) (refs gnds : List (BitVec 12))
  | retrimNoSlots (a : Fin 4) (ms : Nat)
  | calAbort
  | calLoad (a : Fin 4)
  | calRevert (a : Fin 4)
  | tsOfsWrite (i : Fin 12) (value : BitVec 16)
  | statusWindowRefresh
  | selfRefreshEntered
  | sledHomeEdge (n : Fin 16) (level same : Bool)
  | interpolatorMicrostep (n : Fin 16) (elapsed : Nat)
  | pcieConfigRequest (f : Fin 2)
  | pcieLinkUp (port : Fin 2) (gen : Fin 16) (width : Fin 17) (flit : Bool)
  | pcieLinkDown (port : Fin 2)
  | scribeDebugHalt (q : Fin 8) (halt : Bool)
  | entropyRecovered
  deriving DecidableEq, Repr

end Sys2Proof
end

