-- ==== Sys2Proof/Decode.lean ====
section
/-!
DEFINITION. The commands that words spell: none. The table of commands gives no row any bits; a command is an occurrence at the
block, not a word that it decodes.
-/

namespace Sys2Proof

/-- The command that a word spells by the table's bits. No row has bits (assumption 2). -/
def decodeTableWord (_nbits _w : Nat) : Option Instr := none

end Sys2Proof
end

