-- ==== Sys2Proof/Config.lean ====
section
/-!
DEFINITION. What one part fixes and the manual does not number: the values its fuses hold (R3, R422, R461, R467), and the
free values, which no proof can evaluate.
-/

namespace Sys2Proof

/-- The k-th free value: what the machine holds where the manual states a value it does not give. -/
opaque Config.freeValue : Nat → Nat

/-- The byte at offset i of the k-th free string (key material, nonces: chapter 16). -/
opaque Config.freeByte : Nat → Nat → BitVec 8

/-- SEC_FW.MIN_SVN as loaded from fuses (R422). -/
opaque Config.fuseMinSvn : BitVec 16

/-- SEC_FW.REVOKED as loaded from fuses (R422). -/
opaque Config.fuseRevoked : BitVec 4

/-- SEC_FW.PRESENT as loaded from fuses (R422). -/
opaque Config.fusePresent : BitVec 4

/-- Factory gain of ADC a (R461, R467). -/
opaque Config.fuseAdcGain : Nat → BitVec 16

/-- Factory offset of ADC a (R461, R467). -/
opaque Config.fuseAdcOfs : Nat → BitVec 16

/-- Channel gain of channel c of ADC a (R461, R467). -/
opaque Config.fuseChGain : Nat → Nat → BitVec 16

/-- Channel offset of channel c of ADC a (R461, R467). -/
opaque Config.fuseChOfs : Nat → Nat → BitVec 16

/-- Gain of die sensor i (R462, R467). -/
opaque Config.fuseTsGain : Nat → BitVec 16

/-- Factory offset of die sensor i (R462, R467). -/
opaque Config.fuseTsOfs : Nat → BitVec 16

/-- Power coefficient i (R447, R467). -/
opaque Config.fusePwr : Nat → BitVec 32

/-- M of ruling track j on BX1 media, whose format defines its radii (R30, R31). -/
opaque Config.bx1Periods : Nat → Nat

/-- Where sled n is parked, and where it moves out of park to: the manual gives no position (R352, R354). -/
opaque Config.parkPosition : Nat → Bool → BitVec 32

/-- Key derivation of SP 800-108 with HMAC-SHA-384: key, label, context (R403). -/
opaque Config.kdf : List (BitVec 8) → List (BitVec 8) → List (BitVec 8) → List (BitVec 8)

/-- HMAC-SHA-384: key, message (R403). -/
opaque Config.hmac : List (BitVec 8) → List (BitVec 8) → List (BitVec 8)

/-- AES-256-GCM: key, nonce, what is authenticated only, and plaintext give the ciphertext and its 16-byte tag (R388, R403). -/
opaque Config.gcm : List (BitVec 8) → List (BitVec 8) → List (BitVec 8) → List (BitVec 8) → List (BitVec 8)

/-- PBKDF2-HMAC-SHA-256: password, salt (R403). -/
opaque Config.pbkdf2 : List (BitVec 8) → List (BitVec 8) → List (BitVec 8)

/-- AES-256-KW: key-encryption key, plaintext (R403). -/
opaque Config.keyWrap : List (BitVec 8) → List (BitVec 8) → List (BitVec 8)

/-- Unwrapping under AES-256-KW: none where the integrity check fails (R403, R412). -/
opaque Config.keyUnwrap : List (BitVec 8) → List (BitVec 8) → Option (List (BitVec 8))

/-- The DEVICE key-encryption key, derived from the fused root key (R410). -/
opaque Config.deviceKey : List (BitVec 8)

/-- The credential of a Lanesque authority as the configuration partition holds it (R405): whether it is a password, its salt,
and the key or the stretched password. -/
opaque Config.credential : Nat → Bool × List (BitVec 8) × List (BitVec 8)

/-- SHA-384 (R403). -/
opaque Config.sha384 : List (BitVec 8) → List (BitVec 8)

/-- Whether an ECDSA P-384 signature of a SHA-384 digest verifies under the public key with a digest: key digest, digest, signature
(R403, R422). -/
opaque Config.ecdsaOk : List (BitVec 8) → List (BitVec 8) → List (BitVec 8) → Bool

/-- The digest of public key j in fuses (R422). -/
opaque Config.fuseKey : Nat → List (BitVec 8)

/-- The chip's fused serial (R423). -/
opaque Config.fuseSerial : List (BitVec 8)

/-- The opcode of QUERY, which firmware defines (R329, R407). -/
opaque Config.queryOpcode : BitVec 16

/-- AES-256-XTS: key, tweak, data unit (R129, R403). -/
opaque Config.xtsEncrypt : List (BitVec 8) → Nat → List (BitVec 8) → List (BitVec 8)

/-- AES-256-XTS decryption: key, tweak, data unit (R129, R403). -/
opaque Config.xtsDecrypt : List (BitVec 8) → Nat → List (BitVec 8) → List (BitVec 8)

/-- Parity bit i of the codeword with these information bits: the base matrix is not printed (R86). -/
opaque Config.parity : List Bool → Nat → Bool

/-- The bit that the modulation encoder inserts in block i of a codeword (R130). -/
opaque Config.inserted : List Bool → Nat → Bool

/-- Whether an LLR halfway between q and q + 1 rounds up (R63). -/
opaque Config.tieUp : Int → Bool

/-- Where the PRBS-31 sequence of calibration data starts (R137). -/
opaque Config.prbsSeed : BitVec 31

/-- The DBG_DISABLE fuse (R423). -/
opaque Config.dbgDisable : Bool

end Sys2Proof
end

