-- ==== Sys2Proof/Machine/Store.lean ====
section
/-!
DEFINITION. Plain data keyed by a number: an association list whose absent entries hold a default, kept sorted with no
repeats by its two operations; and a register field as the register tables describe it.
-/

namespace Sys2Proof.Machine

/-- An association list from numbers to values; what is not listed holds a default that the reader names. -/
abbrev Store (α : Type) := List (Nat × α)

/-- The entry at key k, if one is listed. -/
def Store.find? {α : Type} : Store α → Nat → Option α
  | [], _ => none
  | (j, x) :: r, k => if j = k then some x else Store.find? r k

/-- List the value v at key k, in key order. -/
def Store.insert {α : Type} : Store α → Nat → α → Store α
  | [], k, v => [(k, v)]
  | (j, x) :: r, k, v =>
    if k = j then (k, v) :: r
    else if k < j then (k, v) :: (j, x) :: r
    else (j, x) :: Store.insert r k v

/-- Drop the entry at key k. -/
def Store.erase {α : Type} (m : Store α) (k : Nat) : Store α := m.filter fun e => e.1 != k

/-- The value at key k, or the default d. -/
def Store.getD {α : Type} (m : Store α) (k : Nat) (d : α) : α := (m.find? k).getD d

/-- Set key k to v: a value equal to the default is not listed. -/
def Store.set {α : Type} [DecidableEq α] (m : Store α) (k : Nat) (d v : α) : Store α :=
  if v = d then m.erase k else m.insert k v

/-- Keys strictly rising. -/
def Store.sorted {α : Type} : Store α → Bool
  | [] => true
  | [_] => true
  | (i, _) :: (j, y) :: r => decide (i < j) && Store.sorted ((j, y) :: r)

/-- The access codes of R4. -/
inductive Acc where
  | rw | ro | wo | w1c | w1s | roc
  deriving DecidableEq, Repr

/-- One field of a register map: its address, lowest bit, width, access code (R4), reset value, whether it is latchable
(R21), and whether a row of its own in the opcode table writes it. A field wider than a word spans consecutive words, the
least significant at the lower offset. -/
structure Fld where
  addr : Nat
  lo : Nat
  width : Nat
  acc : Acc
  rst : Nat
  latch : Bool
  own : Bool
  deriving DecidableEq, Repr

/-- The key of a field: its address and its lowest bit. -/
def Fld.key (f : Fld) : Nat := f.addr * 64 + f.lo

end Sys2Proof.Machine
end

