-- ==== Sys2Proof/Machine/RegPen.lean ====
section
/-!
DEFINITION. The register fields of the pen regions: ruling (R52), read channel (R85), write channel (R152) and link (R285) as the spec's register tables give them: address, lowest bit, width, access
code (R4), reset value, whether the field is latchable (R21) and whether a row of its own in the opcode table writes it.
One constant a field, named as the manual names the register and the field; the index parameters are the manual's
(n pen, e engine, k nib, j loop, t table, s spindle, b bus, a ADC or stage, c channel, r requester, q Scribe, m mailbox).
-/

namespace Sys2Proof.Machine

/-- Base of the region of pen n (R52, R485). -/
def penBase (n : Nat) : Nat := 0x2001000000 + 0x100000 * n

/-- Base of Loop Engine e: pens 0 to 15, and the motion engine as e = 16 (R52, R183, R233). -/
def leBase (e : Nat) : Nat := if e < 16 then penBase e + 0x40000 else 0x2000078000

def rulBase (n : Nat) : Nat := penBase n + 0x10000

def RUL_CTRL_HOLD_LIMIT (n : Nat) : Fld := .mk (rulBase n + (0x0)) 16 4 .rw 0x8 false false
def RUL_CTRL_BW (n : Nat) : Fld := .mk (rulBase n + (0x0)) 10 2 .rw 0x2 false false
def RUL_CTRL_USE_RNO (n : Nat) : Fld := .mk (rulBase n + (0x0)) 9 1 .rw 0x1 false false
def RUL_CTRL_USE_RNI (n : Nat) : Fld := .mk (rulBase n + (0x0)) 8 1 .rw 0x1 false false
def RUL_CTRL_JUMP (n : Nat) : Fld := .mk (rulBase n + (0x0)) 1 1 .rw 0x0 false true
def RUL_CTRL_ENABLE (n : Nat) : Fld := .mk (rulBase n + (0x0)) 0 1 .rw 0x0 false true
def RUL_BAND_TRACK (n : Nat) : Fld := .mk (rulBase n + (0x4)) 16 16 .rw 0x0000 false true
def RUL_BAND_LAYER (n : Nat) : Fld := .mk (rulBase n + (0x4)) 12 4 .rw 0x0 false true
def RUL_BAND_SIDE (n : Nat) : Fld := .mk (rulBase n + (0x4)) 11 1 .rw 0x0 false true
def RUL_PERIODS_M_RNO (n : Nat) : Fld := .mk (rulBase n + (0x8)) 16 11 .rw 0x000 false true
def RUL_PERIODS_M_RNI (n : Nat) : Fld := .mk (rulBase n + (0x8)) 0 11 .rw 0x000 false true
def RUL_STATUS_WRITE_OK (n : Nat) : Fld := .mk (rulBase n + (0x10)) 23 1 .ro 0x0 false false
def RUL_STATUS_LAYER_MATCH (n : Nat) : Fld := .mk (rulBase n + (0x10)) 22 1 .ro 0x0 false false
def RUL_STATUS_TRACK_MATCH (n : Nat) : Fld := .mk (rulBase n + (0x10)) 21 1 .ro 0x0 false false
def RUL_STATUS_ANGLE_VALID (n : Nat) : Fld := .mk (rulBase n + (0x10)) 20 1 .ro 0x0 false false
def RUL_STATUS_CLK_SRC (n : Nat) : Fld := .mk (rulBase n + (0x10)) 19 1 .ro 0x0 false false
def RUL_STATUS_RNO_OK (n : Nat) : Fld := .mk (rulBase n + (0x10)) 18 1 .ro 0x0 false false
def RUL_STATUS_RNI_OK (n : Nat) : Fld := .mk (rulBase n + (0x10)) 17 1 .ro 0x0 false false
def RUL_STATUS_SEARCH_WIDE (n : Nat) : Fld := .mk (rulBase n + (0x10)) 16 1 .ro 0x0 false false
def RUL_STATUS_STATE (n : Nat) : Fld := .mk (rulBase n + (0x10)) 0 3 .ro 0x0 false false
def RUL_ANGLE_BIN (n : Nat) : Fld := .mk (rulBase n + (0x20)) 22 10 .ro 0x000 true false
def RUL_ANGLE_OFFSET (n : Nat) : Fld := .mk (rulBase n + (0x20)) 10 11 .ro 0x000 true false
def RUL_REV_REV (n : Nat) : Fld := .mk (rulBase n + (0x24)) 0 32 .ro 0x00000000 true false
def RUL_ADDR_TRACK (n : Nat) : Fld := .mk (rulBase n + (0x28)) 16 16 .ro 0x0000 true false
def RUL_ADDR_LAYER (n : Nat) : Fld := .mk (rulBase n + (0x28)) 12 4 .ro 0x0 true false
def RUL_ADDR_SIDE (n : Nat) : Fld := .mk (rulBase n + (0x28)) 11 1 .ro 0x0 true false
def RUL_ADDR_GEN (n : Nat) : Fld := .mk (rulBase n + (0x28)) 9 2 .ro 0x0 true false
def RUL_FREQ_PERIOD_RATE (n : Nat) : Fld := .mk (rulBase n + (0x30)) 0 32 .ro 0x00000000 true false
def RUL_PHERR_RNO_RMS (n : Nat) : Fld := .mk (rulBase n + (0x34)) 16 16 .ro 0x0000 true false
def RUL_PHERR_RNI_RMS (n : Nat) : Fld := .mk (rulBase n + (0x34)) 0 16 .ro 0x0000 true false
def RUL_EVENT_WRITE_ABORT (n : Nat) : Fld := .mk (rulBase n + (0x40)) 11 1 .w1c 0x0 false false
def RUL_EVENT_CFG_ERR (n : Nat) : Fld := .mk (rulBase n + (0x40)) 10 1 .w1c 0x0 false false
def RUL_EVENT_ACQ_TIMEOUT (n : Nat) : Fld := .mk (rulBase n + (0x40)) 9 1 .w1c 0x0 false false
def RUL_EVENT_LAYER_MISMATCH (n : Nat) : Fld := .mk (rulBase n + (0x40)) 8 1 .w1c 0x0 false false
def RUL_EVENT_TRACK_MISMATCH (n : Nat) : Fld := .mk (rulBase n + (0x40)) 7 1 .w1c 0x0 false false
def RUL_EVENT_SLIP_SUSPECT (n : Nat) : Fld := .mk (rulBase n + (0x40)) 6 1 .w1c 0x0 false false
def RUL_EVENT_UNLOCK (n : Nat) : Fld := .mk (rulBase n + (0x40)) 5 1 .w1c 0x0 false false
def RUL_EVENT_HOLDOVER (n : Nat) : Fld := .mk (rulBase n + (0x40)) 4 1 .w1c 0x0 false false
def RUL_EVENT_RNO_LOST (n : Nat) : Fld := .mk (rulBase n + (0x40)) 3 1 .w1c 0x0 false false
def RUL_EVENT_RNI_LOST (n : Nat) : Fld := .mk (rulBase n + (0x40)) 2 1 .w1c 0x0 false false
def RUL_EVENT_ADDR_CONFLICT (n : Nat) : Fld := .mk (rulBase n + (0x40)) 1 1 .w1c 0x0 false false
def RUL_EVENT_SLIP (n : Nat) : Fld := .mk (rulBase n + (0x40)) 0 1 .w1c 0x0 false false
def RUL_INT_EN_WRITE_ABORT (n : Nat) : Fld := .mk (rulBase n + (0x44)) 11 1 .rw 0x0 false false
def RUL_INT_EN_CFG_ERR (n : Nat) : Fld := .mk (rulBase n + (0x44)) 10 1 .rw 0x0 false false
def RUL_INT_EN_ACQ_TIMEOUT (n : Nat) : Fld := .mk (rulBase n + (0x44)) 9 1 .rw 0x0 false false
def RUL_INT_EN_LAYER_MISMATCH (n : Nat) : Fld := .mk (rulBase n + (0x44)) 8 1 .rw 0x0 false false
def RUL_INT_EN_TRACK_MISMATCH (n : Nat) : Fld := .mk (rulBase n + (0x44)) 7 1 .rw 0x0 false false
def RUL_INT_EN_SLIP_SUSPECT (n : Nat) : Fld := .mk (rulBase n + (0x44)) 6 1 .rw 0x0 false false
def RUL_INT_EN_UNLOCK (n : Nat) : Fld := .mk (rulBase n + (0x44)) 5 1 .rw 0x0 false false
def RUL_INT_EN_HOLDOVER (n : Nat) : Fld := .mk (rulBase n + (0x44)) 4 1 .rw 0x0 false false
def RUL_INT_EN_RNO_LOST (n : Nat) : Fld := .mk (rulBase n + (0x44)) 3 1 .rw 0x0 false false
def RUL_INT_EN_RNI_LOST (n : Nat) : Fld := .mk (rulBase n + (0x44)) 2 1 .rw 0x0 false false
def RUL_INT_EN_ADDR_CONFLICT (n : Nat) : Fld := .mk (rulBase n + (0x44)) 1 1 .rw 0x0 false false
def RUL_INT_EN_SLIP (n : Nat) : Fld := .mk (rulBase n + (0x44)) 0 1 .rw 0x0 false false
def RUL_SLIP_SOURCE (n : Nat) : Fld := .mk (rulBase n + (0x48)) 16 2 .ro 0x0 false false
def RUL_SLIP_AMOUNT (n : Nat) : Fld := .mk (rulBase n + (0x48)) 0 16 .ro 0x0000 false false
def RUL_COUNTS_SLIPS (n : Nat) : Fld := .mk (rulBase n + (0x50)) 16 16 .roc 0x0000 false false
def RUL_COUNTS_ADDR_CRC (n : Nat) : Fld := .mk (rulBase n + (0x50)) 0 16 .roc 0x0000 false false
def RUL_NIB_PHASE_OFFSET (n k : Nat) : Fld := .mk (rulBase n + (0x100 + 0x4 * k + 0x0)) 16 16 .rw 0x0000 false false
def RUL_NIB_PHASE_RESID (n k : Nat) : Fld := .mk (rulBase n + (0x100 + 0x4 * k + 0x0)) 0 16 .ro 0x0000 true false

/-- The fields of the word at offset o of this block; none where the offset is unassigned (R8). -/
def rulAt (n : Nat) (o : Nat) : List Fld :=
  if o = 0x0 then [RUL_CTRL_HOLD_LIMIT n, RUL_CTRL_BW n, RUL_CTRL_USE_RNO n, RUL_CTRL_USE_RNI n, RUL_CTRL_JUMP n, RUL_CTRL_ENABLE n]
  else if o = 0x4 then [RUL_BAND_TRACK n, RUL_BAND_LAYER n, RUL_BAND_SIDE n]
  else if o = 0x8 then [RUL_PERIODS_M_RNO n, RUL_PERIODS_M_RNI n]
  else if o = 0x10 then [RUL_STATUS_WRITE_OK n, RUL_STATUS_LAYER_MATCH n, RUL_STATUS_TRACK_MATCH n, RUL_STATUS_ANGLE_VALID n, RUL_STATUS_CLK_SRC n, RUL_STATUS_RNO_OK n, RUL_STATUS_RNI_OK n, RUL_STATUS_SEARCH_WIDE n, RUL_STATUS_STATE n]
  else if o = 0x20 then [RUL_ANGLE_BIN n, RUL_ANGLE_OFFSET n]
  else if o = 0x24 then [RUL_REV_REV n]
  else if o = 0x28 then [RUL_ADDR_TRACK n, RUL_ADDR_LAYER n, RUL_ADDR_SIDE n, RUL_ADDR_GEN n]
  else if o = 0x30 then [RUL_FREQ_PERIOD_RATE n]
  else if o = 0x34 then [RUL_PHERR_RNO_RMS n, RUL_PHERR_RNI_RMS n]
  else if o = 0x40 then [RUL_EVENT_WRITE_ABORT n, RUL_EVENT_CFG_ERR n, RUL_EVENT_ACQ_TIMEOUT n, RUL_EVENT_LAYER_MISMATCH n, RUL_EVENT_TRACK_MISMATCH n, RUL_EVENT_SLIP_SUSPECT n, RUL_EVENT_UNLOCK n, RUL_EVENT_HOLDOVER n, RUL_EVENT_RNO_LOST n, RUL_EVENT_RNI_LOST n, RUL_EVENT_ADDR_CONFLICT n, RUL_EVENT_SLIP n]
  else if o = 0x44 then [RUL_INT_EN_WRITE_ABORT n, RUL_INT_EN_CFG_ERR n, RUL_INT_EN_ACQ_TIMEOUT n, RUL_INT_EN_LAYER_MISMATCH n, RUL_INT_EN_TRACK_MISMATCH n, RUL_INT_EN_SLIP_SUSPECT n, RUL_INT_EN_UNLOCK n, RUL_INT_EN_HOLDOVER n, RUL_INT_EN_RNO_LOST n, RUL_INT_EN_RNI_LOST n, RUL_INT_EN_ADDR_CONFLICT n, RUL_INT_EN_SLIP n]
  else if o = 0x48 then [RUL_SLIP_SOURCE n, RUL_SLIP_AMOUNT n]
  else if o = 0x50 then [RUL_COUNTS_SLIPS n, RUL_COUNTS_ADDR_CRC n]
  else if 0x100 ≤ o ∧ o < 0x140 then [RUL_NIB_PHASE_OFFSET n ((o - 0x100) / 4), RUL_NIB_PHASE_RESID n ((o - 0x100) / 4)]
  else []

def rcBase (n : Nat) : Nat := penBase n + 0x20000

def RC_CTRL_NIB_EN (n : Nat) : Fld := .mk (rcBase n + (0x0)) 16 16 .rw 0x0000 false true
def RC_CTRL_EDGE_SRC (n : Nat) : Fld := .mk (rcBase n + (0x0)) 4 1 .rw 0x1 false false
def RC_CTRL_XBLANK (n : Nat) : Fld := .mk (rcBase n + (0x0)) 3 1 .rw 0x1 false false
def RC_CTRL_SLIP_TEST (n : Nat) : Fld := .mk (rcBase n + (0x0)) 2 1 .rw 0x1 false false
def RC_CTRL_FREEZE_ALL (n : Nat) : Fld := .mk (rcBase n + (0x0)) 1 1 .rw 0x0 false false
def RC_CTRL_ENABLE (n : Nat) : Fld := .mk (rcBase n + (0x0)) 0 1 .rw 0x0 false true
def RC_EQ_CTRL_LLR_SCALE (n : Nat) : Fld := .mk (rcBase n + (0x4)) 8 8 .rw 0x20 false false
def RC_EQ_CTRL_ITI_EN (n : Nat) : Fld := .mk (rcBase n + (0x4)) 7 1 .rw 0x1 false false
def RC_EQ_CTRL_XTERM_EN (n : Nat) : Fld := .mk (rcBase n + (0x4)) 6 1 .rw 0x1 false false
def RC_EQ_CTRL_FAST (n : Nat) : Fld := .mk (rcBase n + (0x4)) 0 4 .rw 0x2 false false
def RC_ZONE_ZONE_MUL (n : Nat) : Fld := .mk (rcBase n + (0x8)) 16 16 .rw 0x0418 false false
def RC_ZONE_ZONE (n : Nat) : Fld := .mk (rcBase n + (0x8)) 0 6 .ro 0x00 false false
def RC_ZT_BASE_BASE (n : Nat) : Fld := .mk (rcBase n + (0x10)) 21 19 .rw 0x00000 false false
def RC_ADAPT_MU_G (n : Nat) : Fld := .mk (rcBase n + (0x20)) 28 4 .rw 0xA false false
def RC_ADAPT_MU_O (n : Nat) : Fld := .mk (rcBase n + (0x20)) 24 4 .rw 0x9 false false
def RC_ADAPT_MU_A (n : Nat) : Fld := .mk (rcBase n + (0x20)) 20 4 .rw 0xC false false
def RC_ADAPT_MU_P (n : Nat) : Fld := .mk (rcBase n + (0x20)) 16 4 .rw 0x8 false false
def RC_SYNC_CFG_SYNC_THRESH (n : Nat) : Fld := .mk (rcBase n + (0x30)) 16 6 .rw 0x28 false false
def RC_SYNC_CFG_RESYNC_THRESH (n : Nat) : Fld := .mk (rcBase n + (0x30)) 8 5 .rw 0x14 false false
def RC_BLOT_CFG_SUM_EN (n : Nat) : Fld := .mk (rcBase n + (0x40)) 31 1 .rw 0x1 false false
def RC_BLOT_CFG_ENV_EN (n : Nat) : Fld := .mk (rcBase n + (0x40)) 30 1 .rw 0x1 false false
def RC_BLOT_CFG_RLV_EN (n : Nat) : Fld := .mk (rcBase n + (0x40)) 29 1 .rw 0x1 false false
def RC_BLOT_CFG_SUM_DROP (n : Nat) : Fld := .mk (rcBase n + (0x40)) 20 4 .rw 0x8 false false
def RC_BLOT_CFG_ENV_FRAC (n : Nat) : Fld := .mk (rcBase n + (0x40)) 16 4 .rw 0x6 false false
def RC_BLOT_CFG_K_MAX (n : Nat) : Fld := .mk (rcBase n + (0x40)) 11 5 .rw 0x0E false false
def RC_BLOT_CFG_J_MAX (n : Nat) : Fld := .mk (rcBase n + (0x40)) 8 3 .rw 0x4 false false
def RC_BLOT_CFG_RLV_THRESH (n : Nat) : Fld := .mk (rcBase n + (0x40)) 4 4 .rw 0x3 false false
def RC_BLOT_CFG_HOLD (n : Nat) : Fld := .mk (rcBase n + (0x40)) 0 4 .rw 0x4 false false
def RC_EVENT_ABANDONED (n : Nat) : Fld := .mk (rcBase n + (0x50)) 5 1 .w1c 0x0 false false
def RC_EVENT_INCOMPLETE (n : Nat) : Fld := .mk (rcBase n + (0x50)) 4 1 .w1c 0x0 false false
def RC_EVENT_ZT_MISS (n : Nat) : Fld := .mk (rcBase n + (0x50)) 3 1 .w1c 0x0 false false
def RC_EVENT_SLIP_SUSPECT (n : Nat) : Fld := .mk (rcBase n + (0x50)) 2 1 .w1c 0x0 false false
def RC_EVENT_FLYWHEEL (n : Nat) : Fld := .mk (rcBase n + (0x50)) 1 1 .w1c 0x0 false false
def RC_EVENT_BLOT (n : Nat) : Fld := .mk (rcBase n + (0x50)) 0 1 .w1c 0x0 false false
def RC_INT_EN_ABANDONED (n : Nat) : Fld := .mk (rcBase n + (0x54)) 5 1 .rw 0x0 false false
def RC_INT_EN_INCOMPLETE (n : Nat) : Fld := .mk (rcBase n + (0x54)) 4 1 .rw 0x0 false false
def RC_INT_EN_ZT_MISS (n : Nat) : Fld := .mk (rcBase n + (0x54)) 3 1 .rw 0x0 false false
def RC_INT_EN_SLIP_SUSPECT (n : Nat) : Fld := .mk (rcBase n + (0x54)) 2 1 .rw 0x0 false false
def RC_INT_EN_FLYWHEEL (n : Nat) : Fld := .mk (rcBase n + (0x54)) 1 1 .rw 0x0 false false
def RC_INT_EN_BLOT (n : Nat) : Fld := .mk (rcBase n + (0x54)) 0 1 .rw 0x0 false false
def RC_ZT_DIR_GEN (n i : Nat) : Fld := .mk (rcBase n + (0x1000 + 0x4 * i + 0x0)) 8 8 .rw 0x00 false true
def RC_ZT_DIR_VALID (n i : Nat) : Fld := .mk (rcBase n + (0x1000 + 0x4 * i + 0x0)) 0 1 .rw 0x0 false true
def RC_NIB_STATUS_BLOT_ACTIVE (n k : Nat) : Fld := .mk (rcBase n + (0x400 + 0x40 * k + 0x0)) 31 1 .ro 0x0 false false
def RC_NIB_STATUS_FROZEN (n k : Nat) : Fld := .mk (rcBase n + (0x400 + 0x40 * k + 0x0)) 30 1 .ro 0x0 false false
def RC_NIB_STATUS_BANK (n k : Nat) : Fld := .mk (rcBase n + (0x400 + 0x40 * k + 0x0)) 29 1 .ro 0x0 false false
def RC_NIB_STATUS_ALT_VALID (n k : Nat) : Fld := .mk (rcBase n + (0x400 + 0x40 * k + 0x0)) 28 1 .ro 0x0 false false
def RC_NIB_STATUS_LAYER (n k : Nat) : Fld := .mk (rcBase n + (0x400 + 0x40 * k + 0x0)) 24 4 .ro 0x0 false false
def RC_NIB_STATUS_ZONE (n k : Nat) : Fld := .mk (rcBase n + (0x400 + 0x40 * k + 0x0)) 18 6 .ro 0x00 false false
def RC_NIB_STATUS_FLY_RUN (n k : Nat) : Fld := .mk (rcBase n + (0x400 + 0x40 * k + 0x0)) 16 2 .ro 0x0 false false
def RC_NIB_STATUS_GEN (n k : Nat) : Fld := .mk (rcBase n + (0x400 + 0x40 * k + 0x0)) 8 8 .ro 0x00 false false
def RC_NIB_GAIN_GAIN (n k : Nat) : Fld := .mk (rcBase n + (0x400 + 0x40 * k + 0x4)) 16 16 .ro 0x2000 true false
def RC_NIB_GAIN_OFFSET (n k : Nat) : Fld := .mk (rcBase n + (0x400 + 0x40 * k + 0x4)) 0 16 .ro 0x0000 true false
def RC_NIB_ASYM_ASYM (n k : Nat) : Fld := .mk (rcBase n + (0x400 + 0x40 * k + 0x8)) 0 16 .ro 0x0000 true false
def RC_NIB_SYNC_SCORE (n k : Nat) : Fld := .mk (rcBase n + (0x400 + 0x40 * k + 0xc)) 26 6 .ro 0x00 true false
def RC_NIB_SYNC_RSCORE (n k : Nat) : Fld := .mk (rcBase n + (0x400 + 0x40 * k + 0xc)) 21 5 .ro 0x00 true false
def RC_NIB_SYNC_RESYNC_D (n k : Nat) : Fld := .mk (rcBase n + (0x400 + 0x40 * k + 0xc)) 16 5 .ro 0x00 true false
def RC_NIB_SYNC_SHIFT (n k : Nat) : Fld := .mk (rcBase n + (0x400 + 0x40 * k + 0xc)) 12 4 .ro 0x0 true false
def RC_NIB_SYNC_FLYWHEEL (n k : Nat) : Fld := .mk (rcBase n + (0x400 + 0x40 * k + 0xc)) 11 1 .ro 0x0 true false
def RC_NIB_SYNC_SLIPTEST (n k : Nat) : Fld := .mk (rcBase n + (0x400 + 0x40 * k + 0xc)) 10 1 .ro 0x0 true false
def RC_NIB_SYNC_ANCHOR_RESYNC (n k : Nat) : Fld := .mk (rcBase n + (0x400 + 0x40 * k + 0xc)) 9 1 .ro 0x0 true false
def RC_NIB_SYNC_NO_PRESET (n k : Nat) : Fld := .mk (rcBase n + (0x400 + 0x40 * k + 0xc)) 8 1 .ro 0x0 true false
def RC_NIB_MSE_MSE (n k : Nat) : Fld := .mk (rcBase n + (0x400 + 0x40 * k + 0x10)) 0 16 .ro 0x0000 true false
def RC_NIB_XDLY_XDLY_OUT (n k : Nat) : Fld := .mk (rcBase n + (0x400 + 0x40 * k + 0x14)) 8 6 .rw 0x00 false false
def RC_NIB_XDLY_XDLY_IN (n k : Nat) : Fld := .mk (rcBase n + (0x400 + 0x40 * k + 0x14)) 0 6 .rw 0x00 false false
def RC_NIB_CNT_CW_CODEWORDS (n k : Nat) : Fld := .mk (rcBase n + (0x400 + 0x40 * k + 0x18)) 0 32 .roc 0x00000000 false false
def RC_NIB_CNT_FLY_FLYWHEELS (n k : Nat) : Fld := .mk (rcBase n + (0x400 + 0x40 * k + 0x1c)) 16 16 .roc 0x0000 false false
def RC_NIB_CNT_FLY_SLIPTESTS (n k : Nat) : Fld := .mk (rcBase n + (0x400 + 0x40 * k + 0x1c)) 0 16 .roc 0x0000 false false
def RC_NIB_CNT_BLOT_BLOTS (n k : Nat) : Fld := .mk (rcBase n + (0x400 + 0x40 * k + 0x20)) 16 16 .roc 0x0000 false false
def RC_NIB_CNT_BLOT_RESYNC_MISS (n k : Nat) : Fld := .mk (rcBase n + (0x400 + 0x40 * k + 0x20)) 0 16 .roc 0x0000 false false

/-- The fields of the word at offset o of this block; none where the offset is unassigned (R8). -/
def rcAt (n : Nat) (o : Nat) : List Fld :=
  if o = 0x0 then [RC_CTRL_NIB_EN n, RC_CTRL_EDGE_SRC n, RC_CTRL_XBLANK n, RC_CTRL_SLIP_TEST n, RC_CTRL_FREEZE_ALL n, RC_CTRL_ENABLE n]
  else if o = 0x4 then [RC_EQ_CTRL_LLR_SCALE n, RC_EQ_CTRL_ITI_EN n, RC_EQ_CTRL_XTERM_EN n, RC_EQ_CTRL_FAST n]
  else if o = 0x8 then [RC_ZONE_ZONE_MUL n, RC_ZONE_ZONE n]
  else if o = 0x10 then [RC_ZT_BASE_BASE n]
  else if o = 0x14 then [RC_ZT_BASE_BASE n]
  else if o = 0x20 then [RC_ADAPT_MU_G n, RC_ADAPT_MU_O n, RC_ADAPT_MU_A n, RC_ADAPT_MU_P n]
  else if o = 0x30 then [RC_SYNC_CFG_SYNC_THRESH n, RC_SYNC_CFG_RESYNC_THRESH n]
  else if o = 0x40 then [RC_BLOT_CFG_SUM_EN n, RC_BLOT_CFG_ENV_EN n, RC_BLOT_CFG_RLV_EN n, RC_BLOT_CFG_SUM_DROP n, RC_BLOT_CFG_ENV_FRAC n, RC_BLOT_CFG_K_MAX n, RC_BLOT_CFG_J_MAX n, RC_BLOT_CFG_RLV_THRESH n, RC_BLOT_CFG_HOLD n]
  else if o = 0x50 then [RC_EVENT_ABANDONED n, RC_EVENT_INCOMPLETE n, RC_EVENT_ZT_MISS n, RC_EVENT_SLIP_SUSPECT n, RC_EVENT_FLYWHEEL n, RC_EVENT_BLOT n]
  else if o = 0x54 then [RC_INT_EN_ABANDONED n, RC_INT_EN_INCOMPLETE n, RC_INT_EN_ZT_MISS n, RC_INT_EN_SLIP_SUSPECT n, RC_INT_EN_FLYWHEEL n, RC_INT_EN_BLOT n]
  else if 0x1000 ≤ o ∧ o < 0x3000 then [RC_ZT_DIR_GEN n ((o - 0x1000) / 4), RC_ZT_DIR_VALID n ((o - 0x1000) / 4)]
  else if 0x400 ≤ o ∧ o < 0x800 ∧ (o - 0x400) % 0x40 = 0x0 then [RC_NIB_STATUS_BLOT_ACTIVE n ((o - 0x400) / 0x40), RC_NIB_STATUS_FROZEN n ((o - 0x400) / 0x40), RC_NIB_STATUS_BANK n ((o - 0x400) / 0x40), RC_NIB_STATUS_ALT_VALID n ((o - 0x400) / 0x40), RC_NIB_STATUS_LAYER n ((o - 0x400) / 0x40), RC_NIB_STATUS_ZONE n ((o - 0x400) / 0x40), RC_NIB_STATUS_FLY_RUN n ((o - 0x400) / 0x40), RC_NIB_STATUS_GEN n ((o - 0x400) / 0x40)]
  else if 0x400 ≤ o ∧ o < 0x800 ∧ (o - 0x400) % 0x40 = 0x4 then [RC_NIB_GAIN_GAIN n ((o - 0x400) / 0x40), RC_NIB_GAIN_OFFSET n ((o - 0x400) / 0x40)]
  else if 0x400 ≤ o ∧ o < 0x800 ∧ (o - 0x400) % 0x40 = 0x8 then [RC_NIB_ASYM_ASYM n ((o - 0x400) / 0x40)]
  else if 0x400 ≤ o ∧ o < 0x800 ∧ (o - 0x400) % 0x40 = 0xc then [RC_NIB_SYNC_SCORE n ((o - 0x400) / 0x40), RC_NIB_SYNC_RSCORE n ((o - 0x400) / 0x40), RC_NIB_SYNC_RESYNC_D n ((o - 0x400) / 0x40), RC_NIB_SYNC_SHIFT n ((o - 0x400) / 0x40), RC_NIB_SYNC_FLYWHEEL n ((o - 0x400) / 0x40), RC_NIB_SYNC_SLIPTEST n ((o - 0x400) / 0x40), RC_NIB_SYNC_ANCHOR_RESYNC n ((o - 0x400) / 0x40), RC_NIB_SYNC_NO_PRESET n ((o - 0x400) / 0x40)]
  else if 0x400 ≤ o ∧ o < 0x800 ∧ (o - 0x400) % 0x40 = 0x10 then [RC_NIB_MSE_MSE n ((o - 0x400) / 0x40)]
  else if 0x400 ≤ o ∧ o < 0x800 ∧ (o - 0x400) % 0x40 = 0x14 then [RC_NIB_XDLY_XDLY_OUT n ((o - 0x400) / 0x40), RC_NIB_XDLY_XDLY_IN n ((o - 0x400) / 0x40)]
  else if 0x400 ≤ o ∧ o < 0x800 ∧ (o - 0x400) % 0x40 = 0x18 then [RC_NIB_CNT_CW_CODEWORDS n ((o - 0x400) / 0x40)]
  else if 0x400 ≤ o ∧ o < 0x800 ∧ (o - 0x400) % 0x40 = 0x1c then [RC_NIB_CNT_FLY_FLYWHEELS n ((o - 0x400) / 0x40), RC_NIB_CNT_FLY_SLIPTESTS n ((o - 0x400) / 0x40)]
  else if 0x400 ≤ o ∧ o < 0x800 ∧ (o - 0x400) % 0x40 = 0x20 then [RC_NIB_CNT_BLOT_BLOTS n ((o - 0x400) / 0x40), RC_NIB_CNT_BLOT_RESYNC_MISS n ((o - 0x400) / 0x40)]
  else []

def wcBase (n : Nat) : Nat := penBase n + 0x30000

def WC_CTRL_GROUP_MAX (n : Nat) : Fld := .mk (wcBase n + (0x0)) 16 10 .rw 0x150 false false
def WC_CTRL_COL_QUORUM (n : Nat) : Fld := .mk (wcBase n + (0x0)) 8 4 .rw 0x2 false false
def WC_CTRL_HALT (n : Nat) : Fld := .mk (wcBase n + (0x0)) 2 1 .rw 0x0 false true
def WC_CTRL_VMODE (n : Nat) : Fld := .mk (wcBase n + (0x0)) 1 1 .rw 0x0 false false
def WC_CTRL_ENABLE (n : Nat) : Fld := .mk (wcBase n + (0x0)) 0 1 .rw 0x0 false true
def WC_VERIFY_VFY_SW (n : Nat) : Fld := .mk (wcBase n + (0x4)) 16 12 .rw 0x190 false false
def WC_VERIFY_VFY_ICAP (n : Nat) : Fld := .mk (wcBase n + (0x4)) 0 6 .rw 0x06 false false
def WC_TZ_OUT_FIRST (n : Nat) : Fld := .mk (wcBase n + (0x8)) 16 12 .rw 0xF98 false false
def WC_TZ_IN_LAST (n : Nat) : Fld := .mk (wcBase n + (0x8)) 0 12 .rw 0x007 false false
def WC_CAL_BLANK_LEVEL (n : Nat) : Fld := .mk (wcBase n + (0xc)) 16 8 .rw 0x06 false false
def WC_CAL_BETA_TARGET (n : Nat) : Fld := .mk (wcBase n + (0xc)) 0 16 .rw 0x0033 false false
def FQ_BASE_BASE (n : Nat) : Fld := .mk (wcBase n + (0x10)) 12 28 .rw 0x0000000 false false
def FQ_CFG_SIZE (n : Nat) : Fld := .mk (wcBase n + (0x18)) 0 4 .rw 0x8 false false
def FQ_HEAD_HEAD (n : Nat) : Fld := .mk (wcBase n + (0x1c)) 0 32 .rw 0x00000000 false true
def FQ_TAIL_TAIL (n : Nat) : Fld := .mk (wcBase n + (0x20)) 0 32 .ro 0x00000000 false false
def WC_STATUS_WRITING (n : Nat) : Fld := .mk (wcBase n + (0x30)) 16 16 .ro 0x0000 true false
def WC_STATUS_GROUP_LEFT (n : Nat) : Fld := .mk (wcBase n + (0x30)) 5 11 .ro 0x000 true false
def WC_STATUS_WRITE_HOLD (n : Nat) : Fld := .mk (wcBase n + (0x30)) 4 1 .ro 0x0 true false
def WC_STATUS_STATE (n : Nat) : Fld := .mk (wcBase n + (0x30)) 0 3 .ro 0x0 true false
def WC_GATE_GATE_OVF (n : Nat) : Fld := .mk (wcBase n + (0x38)) 31 1 .ro 0x0 false false
def WC_GATE_GATE_CLR (n : Nat) : Fld := .mk (wcBase n + (0x38)) 30 1 .w1s 0x0 false true
def WC_GATE_ENTRIES (n : Nat) : Fld := .mk (wcBase n + (0x38)) 0 10 .ro 0x000 false false
def WC_EVENT_GATE_OVF (n : Nat) : Fld := .mk (wcBase n + (0x40)) 13 1 .w1c 0x0 false false
def WC_EVENT_CUT (n : Nat) : Fld := .mk (wcBase n + (0x40)) 12 1 .w1c 0x0 false false
def WC_EVENT_WS_LOAD_DONE (n : Nat) : Fld := .mk (wcBase n + (0x40)) 11 1 .w1c 0x0 false false
def WC_EVENT_WRITE_HOLD (n : Nat) : Fld := .mk (wcBase n + (0x40)) 10 1 .w1c 0x0 false false
def WC_EVENT_CAL_DONE (n : Nat) : Fld := .mk (wcBase n + (0x40)) 9 1 .w1c 0x0 false false
def WC_EVENT_COL_FAIL (n : Nat) : Fld := .mk (wcBase n + (0x40)) 8 1 .w1c 0x0 false false
def WC_EVENT_COL_PASS (n : Nat) : Fld := .mk (wcBase n + (0x40)) 7 1 .w1c 0x0 false false
def WC_EVENT_GATED (n : Nat) : Fld := .mk (wcBase n + (0x40)) 6 1 .w1c 0x0 false false
def WC_EVENT_DESC_ERR (n : Nat) : Fld := .mk (wcBase n + (0x40)) 5 1 .w1c 0x0 false false
def WC_EVENT_UNDERRUN (n : Nat) : Fld := .mk (wcBase n + (0x40)) 4 1 .w1c 0x0 false false
def WC_EVENT_ABORT (n : Nat) : Fld := .mk (wcBase n + (0x40)) 3 1 .w1c 0x0 false false
def WC_EVENT_VERIFY_FAIL (n : Nat) : Fld := .mk (wcBase n + (0x40)) 2 1 .w1c 0x0 false false
def WC_EVENT_GROUP_DONE (n : Nat) : Fld := .mk (wcBase n + (0x40)) 1 1 .w1c 0x0 false false
def WC_EVENT_DESC_DONE (n : Nat) : Fld := .mk (wcBase n + (0x40)) 0 1 .w1c 0x0 false false
def WC_INT_EN_GATE_OVF (n : Nat) : Fld := .mk (wcBase n + (0x44)) 13 1 .rw 0x0 false false
def WC_INT_EN_CUT (n : Nat) : Fld := .mk (wcBase n + (0x44)) 12 1 .rw 0x0 false false
def WC_INT_EN_WS_LOAD_DONE (n : Nat) : Fld := .mk (wcBase n + (0x44)) 11 1 .rw 0x0 false false
def WC_INT_EN_WRITE_HOLD (n : Nat) : Fld := .mk (wcBase n + (0x44)) 10 1 .rw 0x0 false false
def WC_INT_EN_CAL_DONE (n : Nat) : Fld := .mk (wcBase n + (0x44)) 9 1 .rw 0x0 false false
def WC_INT_EN_COL_FAIL (n : Nat) : Fld := .mk (wcBase n + (0x44)) 8 1 .rw 0x0 false false
def WC_INT_EN_COL_PASS (n : Nat) : Fld := .mk (wcBase n + (0x44)) 7 1 .rw 0x0 false false
def WC_INT_EN_GATED (n : Nat) : Fld := .mk (wcBase n + (0x44)) 6 1 .rw 0x0 false false
def WC_INT_EN_DESC_ERR (n : Nat) : Fld := .mk (wcBase n + (0x44)) 5 1 .rw 0x0 false false
def WC_INT_EN_UNDERRUN (n : Nat) : Fld := .mk (wcBase n + (0x44)) 4 1 .rw 0x0 false false
def WC_INT_EN_ABORT (n : Nat) : Fld := .mk (wcBase n + (0x44)) 3 1 .rw 0x0 false false
def WC_INT_EN_VERIFY_FAIL (n : Nat) : Fld := .mk (wcBase n + (0x44)) 2 1 .rw 0x0 false false
def WC_INT_EN_GROUP_DONE (n : Nat) : Fld := .mk (wcBase n + (0x44)) 1 1 .rw 0x0 false false
def WC_INT_EN_DESC_DONE (n : Nat) : Fld := .mk (wcBase n + (0x44)) 0 1 .rw 0x0 false false
def WC_WS_SEL_SEL (n : Nat) : Fld := .mk (wcBase n + (0x50)) 0 32 .rw 0x00000000 false false
def WC_WS_BASE_BASE (n : Nat) : Fld := .mk (wcBase n + (0x58)) 12 28 .rw 0x0000000 false false
def WC_WS_LOAD_DONE (n : Nat) : Fld := .mk (wcBase n + (0x60)) 31 1 .ro 0x0 false false
def WC_WS_LOAD_START (n : Nat) : Fld := .mk (wcBase n + (0x60)) 30 1 .w1s 0x0 false true
def WC_WS_LOAD_OK (n : Nat) : Fld := .mk (wcBase n + (0x60)) 29 1 .ro 0x0 false false
def WC_WS_LOAD_NIB (n : Nat) : Fld := .mk (wcBase n + (0x60)) 4 4 .rw 0x0 false false
def WC_WS_LOAD_TABLE (n : Nat) : Fld := .mk (wcBase n + (0x60)) 0 2 .rw 0x0 false false
def WC_CNT_FOLIO_BURNED (n : Nat) : Fld := .mk (wcBase n + (0x80)) 0 32 .roc 0x00000000 true false
def WC_CNT_FAIL_VERIFY_FAIL (n : Nat) : Fld := .mk (wcBase n + (0x84)) 16 16 .roc 0x0000 true false
def WC_CNT_FAIL_ABORTED (n : Nat) : Fld := .mk (wcBase n + (0x84)) 0 16 .roc 0x0000 true false
def WC_PWR_PW_OUT (n i : Nat) : Fld := .mk (wcBase n + (0x1000 + 0x4 * i + 0x0)) 16 16 .rw 0x0000 false false
def WC_PWR_PW_IN (n i : Nat) : Fld := .mk (wcBase n + (0x1000 + 0x4 * i + 0x0)) 0 16 .rw 0x0000 false false

/-- The fields of the word at offset o of this block; none where the offset is unassigned (R8). -/
def wcAt (n : Nat) (o : Nat) : List Fld :=
  if o = 0x0 then [WC_CTRL_GROUP_MAX n, WC_CTRL_COL_QUORUM n, WC_CTRL_HALT n, WC_CTRL_VMODE n, WC_CTRL_ENABLE n]
  else if o = 0x4 then [WC_VERIFY_VFY_SW n, WC_VERIFY_VFY_ICAP n]
  else if o = 0x8 then [WC_TZ_OUT_FIRST n, WC_TZ_IN_LAST n]
  else if o = 0xc then [WC_CAL_BLANK_LEVEL n, WC_CAL_BETA_TARGET n]
  else if o = 0x10 then [FQ_BASE_BASE n]
  else if o = 0x14 then [FQ_BASE_BASE n]
  else if o = 0x18 then [FQ_CFG_SIZE n]
  else if o = 0x1c then [FQ_HEAD_HEAD n]
  else if o = 0x20 then [FQ_TAIL_TAIL n]
  else if o = 0x30 then [WC_STATUS_WRITING n, WC_STATUS_GROUP_LEFT n, WC_STATUS_WRITE_HOLD n, WC_STATUS_STATE n]
  else if o = 0x38 then [WC_GATE_GATE_OVF n, WC_GATE_GATE_CLR n, WC_GATE_ENTRIES n]
  else if o = 0x40 then [WC_EVENT_GATE_OVF n, WC_EVENT_CUT n, WC_EVENT_WS_LOAD_DONE n, WC_EVENT_WRITE_HOLD n, WC_EVENT_CAL_DONE n, WC_EVENT_COL_FAIL n, WC_EVENT_COL_PASS n, WC_EVENT_GATED n, WC_EVENT_DESC_ERR n, WC_EVENT_UNDERRUN n, WC_EVENT_ABORT n, WC_EVENT_VERIFY_FAIL n, WC_EVENT_GROUP_DONE n, WC_EVENT_DESC_DONE n]
  else if o = 0x44 then [WC_INT_EN_GATE_OVF n, WC_INT_EN_CUT n, WC_INT_EN_WS_LOAD_DONE n, WC_INT_EN_WRITE_HOLD n, WC_INT_EN_CAL_DONE n, WC_INT_EN_COL_FAIL n, WC_INT_EN_COL_PASS n, WC_INT_EN_GATED n, WC_INT_EN_DESC_ERR n, WC_INT_EN_UNDERRUN n, WC_INT_EN_ABORT n, WC_INT_EN_VERIFY_FAIL n, WC_INT_EN_GROUP_DONE n, WC_INT_EN_DESC_DONE n]
  else if o = 0x50 then [WC_WS_SEL_SEL n]
  else if o = 0x58 then [WC_WS_BASE_BASE n]
  else if o = 0x5c then [WC_WS_BASE_BASE n]
  else if o = 0x60 then [WC_WS_LOAD_DONE n, WC_WS_LOAD_START n, WC_WS_LOAD_OK n, WC_WS_LOAD_NIB n, WC_WS_LOAD_TABLE n]
  else if o = 0x80 then [WC_CNT_FOLIO_BURNED n]
  else if o = 0x84 then [WC_CNT_FAIL_VERIFY_FAIL n, WC_CNT_FAIL_ABORTED n]
  else if 0x1000 ≤ o ∧ o < 0x1400 then [WC_PWR_PW_OUT n ((o - 0x1000) / 4), WC_PWR_PW_IN n ((o - 0x1000) / 4)]
  else []

def lkBase (n : Nat) : Nat := penBase n

def LK_CTRL_DEG_NIBS (n : Nat) : Fld := .mk (lkBase n + (0x0)) 16 16 .rw 0x00FF false false
def LK_CTRL_DESKEW (n : Nat) : Fld := .mk (lkBase n + (0x0)) 4 1 .w1s 0x0 false true
def LK_CTRL_RETRAIN (n : Nat) : Fld := .mk (lkBase n + (0x0)) 3 1 .w1s 0x0 false true
def LK_CTRL_DEG_EN (n : Nat) : Fld := .mk (lkBase n + (0x0)) 2 1 .rw 0x1 false false
def LK_CTRL_AUTO_TRAIN (n : Nat) : Fld := .mk (lkBase n + (0x0)) 1 1 .rw 0x1 false false
def LK_CTRL_ENABLE (n : Nat) : Fld := .mk (lkBase n + (0x0)) 0 1 .rw 0x0 false true
def LK_STATUS_STATE (n : Nat) : Fld := .mk (lkBase n + (0x4)) 28 4 .ro 0x0 false false
def LK_STATUS_GEN (n : Nat) : Fld := .mk (lkBase n + (0x4)) 26 2 .ro 0x0 false false
def LK_STATUS_LANES (n : Nat) : Fld := .mk (lkBase n + (0x4)) 22 4 .ro 0x0 false false
def LK_STATUS_DEGRADED (n : Nat) : Fld := .mk (lkBase n + (0x4)) 21 1 .ro 0x0 false false
def LK_STATUS_PEN_PORT (n : Nat) : Fld := .mk (lkBase n + (0x4)) 20 1 .ro 0x0 false false
def LK_STATUS_OBEYED (n : Nat) : Fld := .mk (lkBase n + (0x4)) 19 1 .ro 0x0 false false
def LK_STATUS_PEN_STATE (n : Nat) : Fld := .mk (lkBase n + (0x4)) 16 3 .ro 0x0 false false
def LK_CAP_GEN (n : Nat) : Fld := .mk (lkBase n + (0x8)) 28 4 .ro 0x0 false false
def LK_CAP_NIBS (n : Nat) : Fld := .mk (lkBase n + (0x8)) 23 5 .ro 0x00 false false
def LK_CAP_DUAL (n : Nat) : Fld := .mk (lkBase n + (0x8)) 22 1 .ro 0x0 false false
def LK_PEN_ID_PEN_ID (n : Nat) : Fld := .mk (lkBase n + (0xc)) 0 32 .ro 0x00000000 false false
def LK_FLAGS_FLAGS (n : Nat) : Fld := .mk (lkBase n + (0x10)) 16 16 .ro 0x0000 true false
def LK_FLAGS_LASER_T (n : Nat) : Fld := .mk (lkBase n + (0x10)) 0 16 .ro 0x0000 true false
def LK_SIDX_SIDX (n : Nat) : Fld := .mk (lkBase n + (0x14)) 0 32 .ro 0x00000000 true false
def LK_CLAIM_OBEYED_PORT (n : Nat) : Fld := .mk (lkBase n + (0x18)) 31 1 .ro 0x0 true false
def LK_CLAIM_HELD (n : Nat) : Fld := .mk (lkBase n + (0x18)) 30 1 .ro 0x0 true false
def LK_CLAIM_CLAIM (n : Nat) : Fld := .mk (lkBase n + (0x18)) 0 16 .ro 0x0000 true false
def LK_CLAIM_PORTS_PORT1 (n : Nat) : Fld := .mk (lkBase n + (0x1c)) 16 16 .ro 0x0000 true false
def LK_CLAIM_PORTS_PORT0 (n : Nat) : Fld := .mk (lkBase n + (0x1c)) 0 16 .ro 0x0000 true false
def LK_LASER_READ_PWR (n : Nat) : Fld := .mk (lkBase n + (0x20)) 0 8 .rw 0x64 false false
def LK_ERR_CFG_UNC_MAX (n : Nat) : Fld := .mk (lkBase n + (0x24)) 0 8 .rw 0x10 false false
def LK_EVENT_WRITE_GAP (n : Nat) : Fld := .mk (lkBase n + (0x30)) 10 1 .w1c 0x0 false false
def LK_EVENT_ACK_LATE (n : Nat) : Fld := .mk (lkBase n + (0x30)) 9 1 .w1c 0x0 false false
def LK_EVENT_OBEY_CHANGE (n : Nat) : Fld := .mk (lkBase n + (0x30)) 8 1 .w1c 0x0 false false
def LK_EVENT_SAFE (n : Nat) : Fld := .mk (lkBase n + (0x30)) 7 1 .w1c 0x0 false false
def LK_EVENT_HOLDING (n : Nat) : Fld := .mk (lkBase n + (0x30)) 6 1 .w1c 0x0 false false
def LK_EVENT_DESKEW_DONE (n : Nat) : Fld := .mk (lkBase n + (0x30)) 5 1 .w1c 0x0 false false
def LK_EVENT_PLL_LOCK (n : Nat) : Fld := .mk (lkBase n + (0x30)) 4 1 .w1c 0x0 false false
def LK_EVENT_DEGRADED (n : Nat) : Fld := .mk (lkBase n + (0x30)) 3 1 .w1c 0x0 false false
def LK_EVENT_TRAIN_FAIL (n : Nat) : Fld := .mk (lkBase n + (0x30)) 2 1 .w1c 0x0 false false
def LK_EVENT_LINK_DOWN (n : Nat) : Fld := .mk (lkBase n + (0x30)) 1 1 .w1c 0x0 false false
def LK_EVENT_LINK_UP (n : Nat) : Fld := .mk (lkBase n + (0x30)) 0 1 .w1c 0x0 false false
def LK_INT_EN_WRITE_GAP (n : Nat) : Fld := .mk (lkBase n + (0x34)) 10 1 .rw 0x0 false false
def LK_INT_EN_ACK_LATE (n : Nat) : Fld := .mk (lkBase n + (0x34)) 9 1 .rw 0x0 false false
def LK_INT_EN_OBEY_CHANGE (n : Nat) : Fld := .mk (lkBase n + (0x34)) 8 1 .rw 0x0 false false
def LK_INT_EN_SAFE (n : Nat) : Fld := .mk (lkBase n + (0x34)) 7 1 .rw 0x0 false false
def LK_INT_EN_HOLDING (n : Nat) : Fld := .mk (lkBase n + (0x34)) 6 1 .rw 0x0 false false
def LK_INT_EN_DESKEW_DONE (n : Nat) : Fld := .mk (lkBase n + (0x34)) 5 1 .rw 0x0 false false
def LK_INT_EN_PLL_LOCK (n : Nat) : Fld := .mk (lkBase n + (0x34)) 4 1 .rw 0x0 false false
def LK_INT_EN_DEGRADED (n : Nat) : Fld := .mk (lkBase n + (0x34)) 3 1 .rw 0x0 false false
def LK_INT_EN_TRAIN_FAIL (n : Nat) : Fld := .mk (lkBase n + (0x34)) 2 1 .rw 0x0 false false
def LK_INT_EN_LINK_DOWN (n : Nat) : Fld := .mk (lkBase n + (0x34)) 1 1 .rw 0x0 false false
def LK_INT_EN_LINK_UP (n : Nat) : Fld := .mk (lkBase n + (0x34)) 0 1 .rw 0x0 false false
def LK_CNT_LINK_DOWNS (n : Nat) : Fld := .mk (lkBase n + (0x40)) 16 16 .roc 0x0000 true false
def LK_CNT_PKT_LOST (n : Nat) : Fld := .mk (lkBase n + (0x40)) 0 16 .roc 0x0000 true false
def LK_LANE_CORR_CORR (n i : Nat) : Fld := .mk (lkBase n + (0x100 + 0x10 * i + 0x0)) 0 32 .roc 0x00000000 false false
def LK_LANE_UNC_UNC (n i : Nat) : Fld := .mk (lkBase n + (0x100 + 0x10 * i + 0x4)) 0 16 .roc 0x0000 false false
def LK_LANE_SKEW_SKEW (n i : Nat) : Fld := .mk (lkBase n + (0x100 + 0x10 * i + 0x8)) 0 16 .ro 0x0000 true false

/-- The fields of the word at offset o of this block; none where the offset is unassigned (R8). -/
def lkAt (n : Nat) (o : Nat) : List Fld :=
  if o = 0x0 then [LK_CTRL_DEG_NIBS n, LK_CTRL_DESKEW n, LK_CTRL_RETRAIN n, LK_CTRL_DEG_EN n, LK_CTRL_AUTO_TRAIN n, LK_CTRL_ENABLE n]
  else if o = 0x4 then [LK_STATUS_STATE n, LK_STATUS_GEN n, LK_STATUS_LANES n, LK_STATUS_DEGRADED n, LK_STATUS_PEN_PORT n, LK_STATUS_OBEYED n, LK_STATUS_PEN_STATE n]
  else if o = 0x8 then [LK_CAP_GEN n, LK_CAP_NIBS n, LK_CAP_DUAL n]
  else if o = 0xc then [LK_PEN_ID_PEN_ID n]
  else if o = 0x10 then [LK_FLAGS_FLAGS n, LK_FLAGS_LASER_T n]
  else if o = 0x14 then [LK_SIDX_SIDX n]
  else if o = 0x18 then [LK_CLAIM_OBEYED_PORT n, LK_CLAIM_HELD n, LK_CLAIM_CLAIM n]
  else if o = 0x1c then [LK_CLAIM_PORTS_PORT1 n, LK_CLAIM_PORTS_PORT0 n]
  else if o = 0x20 then [LK_LASER_READ_PWR n]
  else if o = 0x24 then [LK_ERR_CFG_UNC_MAX n]
  else if o = 0x30 then [LK_EVENT_WRITE_GAP n, LK_EVENT_ACK_LATE n, LK_EVENT_OBEY_CHANGE n, LK_EVENT_SAFE n, LK_EVENT_HOLDING n, LK_EVENT_DESKEW_DONE n, LK_EVENT_PLL_LOCK n, LK_EVENT_DEGRADED n, LK_EVENT_TRAIN_FAIL n, LK_EVENT_LINK_DOWN n, LK_EVENT_LINK_UP n]
  else if o = 0x34 then [LK_INT_EN_WRITE_GAP n, LK_INT_EN_ACK_LATE n, LK_INT_EN_OBEY_CHANGE n, LK_INT_EN_SAFE n, LK_INT_EN_HOLDING n, LK_INT_EN_DESKEW_DONE n, LK_INT_EN_PLL_LOCK n, LK_INT_EN_DEGRADED n, LK_INT_EN_TRAIN_FAIL n, LK_INT_EN_LINK_DOWN n, LK_INT_EN_LINK_UP n]
  else if o = 0x40 then [LK_CNT_LINK_DOWNS n, LK_CNT_PKT_LOST n]
  else if 0x100 ≤ o ∧ o < 0x150 ∧ (o - 0x100) % 0x10 = 0x0 then [LK_LANE_CORR_CORR n ((o - 0x100) / 0x10)]
  else if 0x100 ≤ o ∧ o < 0x150 ∧ (o - 0x100) % 0x10 = 0x4 then [LK_LANE_UNC_UNC n ((o - 0x100) / 0x10)]
  else if 0x100 ≤ o ∧ o < 0x150 ∧ (o - 0x100) % 0x10 = 0x8 then [LK_LANE_SKEW_SKEW n ((o - 0x100) / 0x10)]
  else []

end Sys2Proof.Machine
end

