-- ==== Sys2Proof/Machine/RegServo.lean ====
section
/-!
DEFINITION. The register fields of the servo side: Loop Engines (R183), axis supervisors (R204), motors (R233), Ductus (R258) and trim (R467) as the spec's register tables give them: address, lowest bit, width, access
code (R4), reset value, whether the field is latchable (R21) and whether a row of its own in the opcode table writes it.
One constant a field, named as the manual names the register and the field; the index parameters are the manual's
(n pen, e engine, k nib, j loop, t table, s spindle, b bus, a ADC or stage, c channel, r requester, q Scribe, m mailbox).
-/

namespace Sys2Proof.Machine

/-- Reset of MOT_SEQ_SLOT_i.CH: with j = i / 4, BUS for the even j up to 10, CHOP for the odd j up to 7, then 12, 10, 11. -/
def seqSlotChReset (i : Nat) : Nat :=
  let j := i / 4
  if j = 0 ∨ j = 2 ∨ j = 4 ∨ j = 6 ∨ j = 8 ∨ j = 10 then 8
  else if j = 1 ∨ j = 3 ∨ j = 5 ∨ j = 7 then 9
  else if j = 9 then 12 else if j = 11 then 10 else if j = 12 then 11 else 0

/-- Reset of MOT_SEQ_SLOT_i.FREE: 1 for j = 13 to 15. -/
def seqSlotFreeReset (i : Nat) : Nat := if 13 ≤ i / 4 ∧ i / 4 ≤ 15 then 1 else 0


def LE_CTRL_RESET (e : Nat) : Fld := .mk (leBase e + (0x0)) 1 1 .w1s 0x0 false true
def LE_CTRL_ENABLE (e : Nat) : Fld := .mk (leBase e + (0x0)) 0 1 .rw 0x0 false false
def LE_STATUS_FAULT (e : Nat) : Fld := .mk (leBase e + (0x4)) 31 1 .ro 0x0 true false
def LE_STATUS_FAST_CYCLES (e : Nat) : Fld := .mk (leBase e + (0x4)) 16 8 .ro 0x00 true false
def LE_STATUS_LAST_CYCLES (e : Nat) : Fld := .mk (leBase e + (0x4)) 0 10 .ro 0x000 true false
def LE_TICK_TICK (e : Nat) : Fld := .mk (leBase e + (0x8)) 0 32 .ro 0x00000000 true false
def LE_PEAK_PEAK_CYCLES (e : Nat) : Fld := .mk (leBase e + (0xc)) 0 10 .roc 0x000 false false
def LE_EVENT_RC_CLEAR_DONE (e : Nat) : Fld := .mk (leBase e + (0x10)) 10 1 .w1c 0x0 false false
def LE_EVENT_HOLD (e : Nat) : Fld := .mk (leBase e + (0x10)) 9 1 .w1c 0x0 false false
def LE_EVENT_ECHO_MISS (e : Nat) : Fld := .mk (leBase e + (0x10)) 8 1 .w1c 0x0 false false
def LE_EVENT_SHADOW_MISMATCH (e : Nat) : Fld := .mk (leBase e + (0x10)) 7 1 .w1c 0x0 false false
def LE_EVENT_SAT (e : Nat) : Fld := .mk (leBase e + (0x10)) 6 1 .w1c 0x0 false false
def LE_EVENT_PRESET_CLAMP (e : Nat) : Fld := .mk (leBase e + (0x10)) 5 1 .w1c 0x0 false false
def LE_EVENT_BUDGET_ERR (e : Nat) : Fld := .mk (leBase e + (0x10)) 4 1 .w1c 0x0 false false
def LE_EVENT_PROG_ERR (e : Nat) : Fld := .mk (leBase e + (0x10)) 3 1 .w1c 0x0 false false
def LE_EVENT_CFG_ERR (e : Nat) : Fld := .mk (leBase e + (0x10)) 2 1 .w1c 0x0 false false
def LE_EVENT_OVERRUN (e : Nat) : Fld := .mk (leBase e + (0x10)) 1 1 .w1c 0x0 false false
def LE_EVENT_LOCKSTEP (e : Nat) : Fld := .mk (leBase e + (0x10)) 0 1 .w1c 0x0 false false
def LE_INT_EN_RC_CLEAR_DONE (e : Nat) : Fld := .mk (leBase e + (0x14)) 10 1 .rw 0x0 false false
def LE_INT_EN_HOLD (e : Nat) : Fld := .mk (leBase e + (0x14)) 9 1 .rw 0x0 false false
def LE_INT_EN_ECHO_MISS (e : Nat) : Fld := .mk (leBase e + (0x14)) 8 1 .rw 0x0 false false
def LE_INT_EN_SHADOW_MISMATCH (e : Nat) : Fld := .mk (leBase e + (0x14)) 7 1 .rw 0x0 false false
def LE_INT_EN_SAT (e : Nat) : Fld := .mk (leBase e + (0x14)) 6 1 .rw 0x0 false false
def LE_INT_EN_PRESET_CLAMP (e : Nat) : Fld := .mk (leBase e + (0x14)) 5 1 .rw 0x0 false false
def LE_INT_EN_BUDGET_ERR (e : Nat) : Fld := .mk (leBase e + (0x14)) 4 1 .rw 0x0 false false
def LE_INT_EN_PROG_ERR (e : Nat) : Fld := .mk (leBase e + (0x14)) 3 1 .rw 0x0 false false
def LE_INT_EN_CFG_ERR (e : Nat) : Fld := .mk (leBase e + (0x14)) 2 1 .rw 0x0 false false
def LE_INT_EN_OVERRUN (e : Nat) : Fld := .mk (leBase e + (0x14)) 1 1 .rw 0x0 false false
def LE_INT_EN_LOCKSTEP (e : Nat) : Fld := .mk (leBase e + (0x14)) 0 1 .rw 0x0 false false
def LE_FAULT_LOOP (e : Nat) : Fld := .mk (leBase e + (0x18)) 24 5 .ro 0x00 false false
def LE_FAULT_ADDR (e : Nat) : Fld := .mk (leBase e + (0x18)) 16 8 .ro 0x00 false false
def LE_FAULT_ECC (e : Nat) : Fld := .mk (leBase e + (0x18)) 15 1 .ro 0x0 false false
def LE_FAULT_CYCLE (e : Nat) : Fld := .mk (leBase e + (0x18)) 0 10 .ro 0x000 false false
def LE_CNT_OVERRUNS (e : Nat) : Fld := .mk (leBase e + (0x1c)) 16 16 .roc 0x0000 false false
def LE_CNT_ECC_CORR (e : Nat) : Fld := .mk (leBase e + (0x1c)) 0 16 .roc 0x0000 false false
def LE_CNT_ECHO_ECHO_MISS (e : Nat) : Fld := .mk (leBase e + (0x20)) 0 32 .roc 0x00000000 false false
def LE_OFS_OFS (e i : Nat) : Fld := .mk (leBase e + (0x40 + 0x4 * i + 0x0)) 0 32 .rw 0x00000000 false false
def LE_EXP_EXP (e i : Nat) : Fld := .mk (leBase e + (0x60 + 0x4 * i + 0x0)) 0 32 .ro 0x00000000 true false
def LE_LOOP_CTRL_MODE (e j : Nat) : Fld := .mk (leBase e + (0x100 + 0x40 * j + 0x0)) 29 3 .rw 0x0 false true
def LE_LOOP_CTRL_MODE_ACT (e j : Nat) : Fld := .mk (leBase e + (0x100 + 0x40 * j + 0x0)) 26 3 .ro 0x0 false false
def LE_LOOP_CTRL_BANK (e j : Nat) : Fld := .mk (leBase e + (0x100 + 0x40 * j + 0x0)) 25 1 .rw 0x0 false true
def LE_LOOP_CTRL_ACT_BANK (e j : Nat) : Fld := .mk (leBase e + (0x100 + 0x40 * j + 0x0)) 24 1 .ro 0x0 false false
def LE_LOOP_CTRL_CAPTURE (e j : Nat) : Fld := .mk (leBase e + (0x100 + 0x40 * j + 0x0)) 23 1 .rw 0x0 false true
def LE_LOOP_CTRL_PHASE (e j : Nat) : Fld := .mk (leBase e + (0x100 + 0x40 * j + 0x0)) 10 10 .rw 0x000 false true
def LE_LOOP_CTRL_DIV (e j : Nat) : Fld := .mk (leBase e + (0x100 + 0x40 * j + 0x0)) 0 10 .rw 0x001 false true
def LE_LOOP_PROG_LEN (e j : Nat) : Fld := .mk (leBase e + (0x100 + 0x40 * j + 0x4)) 16 8 .rw 0x00 false true
def LE_LOOP_PROG_START (e j : Nat) : Fld := .mk (leBase e + (0x100 + 0x40 * j + 0x4)) 0 8 .rw 0x00 false true
def LE_LOOP_MAN_MAN_VALUE (e j : Nat) : Fld := .mk (leBase e + (0x100 + 0x40 * j + 0x8)) 0 32 .rw 0x00000000 false false
def LE_LOOP_OUT_OUT (e j : Nat) : Fld := .mk (leBase e + (0x100 + 0x40 * j + 0xc)) 0 32 .ro 0x00000000 true false
def LE_LOOP_BASE_BASE (e j : Nat) : Fld := .mk (leBase e + (0x100 + 0x40 * j + 0x10)) 0 32 .ro 0x00000000 true false
def LE_LOOP_STAT_SAT (e j : Nat) : Fld := .mk (leBase e + (0x100 + 0x40 * j + 0x14)) 31 1 .w1c 0x0 false false
def LE_LOOP_STAT_LIMITED (e j : Nat) : Fld := .mk (leBase e + (0x100 + 0x40 * j + 0x14)) 30 1 .w1c 0x0 false false
def LE_LOOP_STAT_PRESET_CLAMP (e j : Nat) : Fld := .mk (leBase e + (0x100 + 0x40 * j + 0x14)) 29 1 .w1c 0x0 false false
def LE_LOOP_STAT_SHADOW_MISMATCH (e j : Nat) : Fld := .mk (leBase e + (0x100 + 0x40 * j + 0x14)) 28 1 .w1c 0x0 false false
def LE_LOOP_STAT_CYCLES (e j : Nat) : Fld := .mk (leBase e + (0x100 + 0x40 * j + 0x14)) 16 8 .ro 0x00 false false
def LE_LOOP_STAT_LOCKED (e j : Nat) : Fld := .mk (leBase e + (0x100 + 0x40 * j + 0x14)) 15 1 .ro 0x0 false false
def LE_LOOP_TOL_SHADOW_TOL (e j : Nat) : Fld := .mk (leBase e + (0x100 + 0x40 * j + 0x18)) 0 32 .rw 0x00000400 false false
def LE_LOOP_CNT_RUN_RUNS (e j : Nat) : Fld := .mk (leBase e + (0x100 + 0x40 * j + 0x1c)) 0 32 .roc 0x00000000 true false
def LE_LOOP_CNT_ERR_SATS (e j : Nat) : Fld := .mk (leBase e + (0x100 + 0x40 * j + 0x20)) 16 16 .roc 0x0000 true false
def LE_LOOP_CNT_ERR_MISMATCHES (e j : Nat) : Fld := .mk (leBase e + (0x100 + 0x40 * j + 0x20)) 0 16 .roc 0x0000 true false
def LE_RC_CTRL_CLEAR (e t : Nat) : Fld := .mk (leBase e + (0xc00 + 0x10 * t + 0x0)) 31 1 .w1s 0x0 false true
def LE_RC_CTRL_FORGET (e t : Nat) : Fld := .mk (leBase e + (0xc00 + 0x10 * t + 0x0)) 8 5 .rw 0x00 false false
def LE_RC_CTRL_ADV (e t : Nat) : Fld := .mk (leBase e + (0xc00 + 0x10 * t + 0x0)) 4 4 .rw 0x0 false false
def LE_RC_CTRL_PLAY (e t : Nat) : Fld := .mk (leBase e + (0xc00 + 0x10 * t + 0x0)) 1 1 .rw 0x1 false false
def LE_RC_CTRL_LEARN (e t : Nat) : Fld := .mk (leBase e + (0xc00 + 0x10 * t + 0x0)) 0 1 .rw 0x0 false false
def LE_RC_STAT_LEARNING (e t : Nat) : Fld := .mk (leBase e + (0xc00 + 0x10 * t + 0x4)) 31 1 .ro 0x0 true false
def LE_RC_STAT_SLIP_BLOCK (e t : Nat) : Fld := .mk (leBase e + (0xc00 + 0x10 * t + 0x4)) 30 1 .ro 0x0 true false
def LE_RC_STAT_BIN (e t : Nat) : Fld := .mk (leBase e + (0xc00 + 0x10 * t + 0x4)) 0 10 .ro 0x000 true false
def LE_RC_UPDATES_UPDATES (e t : Nat) : Fld := .mk (leBase e + (0xc00 + 0x10 * t + 0x8)) 0 32 .roc 0x00000000 false false
def LE_RC_DISCARDS_DISCARDS (e t : Nat) : Fld := .mk (leBase e + (0xc00 + 0x10 * t + 0xc)) 0 32 .roc 0x00000000 false false
/-- Program word i, 64 bits, read and written as two words (R183). -/
def LE_PROG_WORD (e i : Nat) : Fld := .mk (leBase e + (0x1000 + 8 * i)) 0 64 .rw 0 false true
def LE_STATE_WORD (e w : Nat) : Fld := .mk (leBase e + (0x2000 + 8 * w)) 0 64 .rw 0 false true
def LE_RC_BIN (e t b : Nat) : Fld := .mk (leBase e + (0x3000 + 0x1000 * t + 4 * b)) 0 32 .rw 0 false true
def LE_COEF_WORD (e B w : Nat) : Fld := .mk (leBase e + (0x5000 + 0x1000 * B + 8 * w)) 0 64 .rw 0 false true

/-- The fields of the word at offset o of this block; none where the offset is unassigned (R8). -/
def leAt (e : Nat) (o : Nat) : List Fld :=
  if o = 0x0 then [LE_CTRL_RESET e, LE_CTRL_ENABLE e]
  else if o = 0x4 then [LE_STATUS_FAULT e, LE_STATUS_FAST_CYCLES e, LE_STATUS_LAST_CYCLES e]
  else if o = 0x8 then [LE_TICK_TICK e]
  else if o = 0xc then [LE_PEAK_PEAK_CYCLES e]
  else if o = 0x10 then [LE_EVENT_RC_CLEAR_DONE e, LE_EVENT_HOLD e, LE_EVENT_ECHO_MISS e, LE_EVENT_SHADOW_MISMATCH e, LE_EVENT_SAT e, LE_EVENT_PRESET_CLAMP e, LE_EVENT_BUDGET_ERR e, LE_EVENT_PROG_ERR e, LE_EVENT_CFG_ERR e, LE_EVENT_OVERRUN e, LE_EVENT_LOCKSTEP e]
  else if o = 0x14 then [LE_INT_EN_RC_CLEAR_DONE e, LE_INT_EN_HOLD e, LE_INT_EN_ECHO_MISS e, LE_INT_EN_SHADOW_MISMATCH e, LE_INT_EN_SAT e, LE_INT_EN_PRESET_CLAMP e, LE_INT_EN_BUDGET_ERR e, LE_INT_EN_PROG_ERR e, LE_INT_EN_CFG_ERR e, LE_INT_EN_OVERRUN e, LE_INT_EN_LOCKSTEP e]
  else if o = 0x18 then [LE_FAULT_LOOP e, LE_FAULT_ADDR e, LE_FAULT_ECC e, LE_FAULT_CYCLE e]
  else if o = 0x1c then [LE_CNT_OVERRUNS e, LE_CNT_ECC_CORR e]
  else if o = 0x20 then [LE_CNT_ECHO_ECHO_MISS e]
  else if 0x40 ≤ o ∧ o < 0x60 then [LE_OFS_OFS e ((o - 0x40) / 4)]
  else if 0x60 ≤ o ∧ o < 0x68 then [LE_EXP_EXP e ((o - 0x60) / 4)]
  else if 0x100 ≤ o ∧ o < 0x900 ∧ (o - 0x100) % 0x40 = 0x0 then [LE_LOOP_CTRL_MODE e ((o - 0x100) / 0x40), LE_LOOP_CTRL_MODE_ACT e ((o - 0x100) / 0x40), LE_LOOP_CTRL_BANK e ((o - 0x100) / 0x40), LE_LOOP_CTRL_ACT_BANK e ((o - 0x100) / 0x40), LE_LOOP_CTRL_CAPTURE e ((o - 0x100) / 0x40), LE_LOOP_CTRL_PHASE e ((o - 0x100) / 0x40), LE_LOOP_CTRL_DIV e ((o - 0x100) / 0x40)]
  else if 0x100 ≤ o ∧ o < 0x900 ∧ (o - 0x100) % 0x40 = 0x4 then [LE_LOOP_PROG_LEN e ((o - 0x100) / 0x40), LE_LOOP_PROG_START e ((o - 0x100) / 0x40)]
  else if 0x100 ≤ o ∧ o < 0x900 ∧ (o - 0x100) % 0x40 = 0x8 then [LE_LOOP_MAN_MAN_VALUE e ((o - 0x100) / 0x40)]
  else if 0x100 ≤ o ∧ o < 0x900 ∧ (o - 0x100) % 0x40 = 0xc then [LE_LOOP_OUT_OUT e ((o - 0x100) / 0x40)]
  else if 0x100 ≤ o ∧ o < 0x900 ∧ (o - 0x100) % 0x40 = 0x10 then [LE_LOOP_BASE_BASE e ((o - 0x100) / 0x40)]
  else if 0x100 ≤ o ∧ o < 0x900 ∧ (o - 0x100) % 0x40 = 0x14 then [LE_LOOP_STAT_SAT e ((o - 0x100) / 0x40), LE_LOOP_STAT_LIMITED e ((o - 0x100) / 0x40), LE_LOOP_STAT_PRESET_CLAMP e ((o - 0x100) / 0x40), LE_LOOP_STAT_SHADOW_MISMATCH e ((o - 0x100) / 0x40), LE_LOOP_STAT_CYCLES e ((o - 0x100) / 0x40), LE_LOOP_STAT_LOCKED e ((o - 0x100) / 0x40)]
  else if 0x100 ≤ o ∧ o < 0x900 ∧ (o - 0x100) % 0x40 = 0x18 then [LE_LOOP_TOL_SHADOW_TOL e ((o - 0x100) / 0x40)]
  else if 0x100 ≤ o ∧ o < 0x900 ∧ (o - 0x100) % 0x40 = 0x1c then [LE_LOOP_CNT_RUN_RUNS e ((o - 0x100) / 0x40)]
  else if 0x100 ≤ o ∧ o < 0x900 ∧ (o - 0x100) % 0x40 = 0x20 then [LE_LOOP_CNT_ERR_SATS e ((o - 0x100) / 0x40), LE_LOOP_CNT_ERR_MISMATCHES e ((o - 0x100) / 0x40)]
  else if 0xc00 ≤ o ∧ o < 0xc20 ∧ (o - 0xc00) % 0x10 = 0x0 then [LE_RC_CTRL_CLEAR e ((o - 0xc00) / 0x10), LE_RC_CTRL_FORGET e ((o - 0xc00) / 0x10), LE_RC_CTRL_ADV e ((o - 0xc00) / 0x10), LE_RC_CTRL_PLAY e ((o - 0xc00) / 0x10), LE_RC_CTRL_LEARN e ((o - 0xc00) / 0x10)]
  else if 0xc00 ≤ o ∧ o < 0xc20 ∧ (o - 0xc00) % 0x10 = 0x4 then [LE_RC_STAT_LEARNING e ((o - 0xc00) / 0x10), LE_RC_STAT_SLIP_BLOCK e ((o - 0xc00) / 0x10), LE_RC_STAT_BIN e ((o - 0xc00) / 0x10)]
  else if 0xc00 ≤ o ∧ o < 0xc20 ∧ (o - 0xc00) % 0x10 = 0x8 then [LE_RC_UPDATES_UPDATES e ((o - 0xc00) / 0x10)]
  else if 0xc00 ≤ o ∧ o < 0xc20 ∧ (o - 0xc00) % 0x10 = 0xc then [LE_RC_DISCARDS_DISCARDS e ((o - 0xc00) / 0x10)]
  else if 0x1000 ≤ o ∧ o < 0x1800 then [LE_PROG_WORD e ((o - 0x1000) / 8)]
  else if 0x2000 ≤ o ∧ o < 0x3000 then [LE_STATE_WORD e ((o - 0x2000) / 8)]
  else if 0x3000 ≤ o ∧ o < 0x5000 then [LE_RC_BIN e ((o - 0x3000) / 0x1000) ((o - 0x3000) % 0x1000 / 4)]
  else if 0x5000 ≤ o ∧ o < 0x7000 then [LE_COEF_WORD e ((o - 0x5000) / 0x1000) ((o - 0x5000) % 0x1000 / 8)]
  else []

def svBase (n : Nat) : Nat := penBase n + 0x40000

def SV_CTRL_NIB_USE (n : Nat) : Fld := .mk (svBase n + (0x8000)) 16 16 .rw 0xFFFF false false
def SV_CTRL_MIN_NIBS (n : Nat) : Fld := .mk (svBase n + (0x8000)) 12 4 .rw 0x4 false false
def SV_CTRL_TRK_AUTO (n : Nat) : Fld := .mk (svBase n + (0x8000)) 2 1 .rw 0x1 false true
def SV_CTRL_SUP_EN (n : Nat) : Fld := .mk (svBase n + (0x8000)) 1 1 .rw 0x0 false true
def SV_CTRL_ENABLE (n : Nat) : Fld := .mk (svBase n + (0x8000)) 0 1 .rw 0x0 false false
def SV_MAP_RSA_OFS (n : Nat) : Fld := .mk (svBase n + (0x8004)) 24 3 .rw 0x2 false false
def SV_MAP_RTRK_OFS (n : Nat) : Fld := .mk (svBase n + (0x8004)) 21 3 .rw 0x1 false false
def SV_MAP_RFOC_OFS (n : Nat) : Fld := .mk (svBase n + (0x8004)) 18 3 .rw 0x0 false false
def SV_MAP_SLED (n : Nat) : Fld := .mk (svBase n + (0x8004)) 15 3 .rw 0x5 false false
def SV_MAP_SA (n : Nat) : Fld := .mk (svBase n + (0x8004)) 12 3 .rw 0x4 false false
def SV_MAP_TILT (n : Nat) : Fld := .mk (svBase n + (0x8004)) 9 3 .rw 0x3 false false
def SV_MAP_YAW (n : Nat) : Fld := .mk (svBase n + (0x8004)) 6 3 .rw 0x2 false false
def SV_MAP_TRACK (n : Nat) : Fld := .mk (svBase n + (0x8004)) 3 3 .rw 0x1 false false
def SV_MAP_FOCUS (n : Nat) : Fld := .mk (svBase n + (0x8004)) 0 3 .rw 0x0 false false
def SV_LEVELS_SUM_ON (n : Nat) : Fld := .mk (svBase n + (0x8008)) 24 8 .rw 0x20 false false
def SV_LEVELS_SUM_HOLD (n : Nat) : Fld := .mk (svBase n + (0x8008)) 20 4 .rw 0x8 false false
def SV_LEVELS_SUM_COLLAPSE (n : Nat) : Fld := .mk (svBase n + (0x8008)) 16 4 .rw 0x2 false false
def SV_LEVELS_NIB_MIN (n : Nat) : Fld := .mk (svBase n + (0x8008)) 12 4 .rw 0x8 false false
def SV_GAPS_LONG_GAP (n : Nat) : Fld := .mk (svBase n + (0x800c)) 16 16 .rw 0x01F4 false false
def SV_GAPS_SHORT_GAP (n : Nat) : Fld := .mk (svBase n + (0x800c)) 8 8 .rw 0x0A false false
def SV_GAPS_RESUME_N (n : Nat) : Fld := .mk (svBase n + (0x800c)) 0 4 .rw 0x2 false false
def SV_FWIN_CAPTURE (n : Nat) : Fld := .mk (svBase n + (0x8010)) 16 16 .rw 0x4000 false false
def SV_FWIN_LOCK (n : Nat) : Fld := .mk (svBase n + (0x8010)) 0 16 .rw 0x051F false false
def SV_TWIN_CAPTURE (n : Nat) : Fld := .mk (svBase n + (0x8014)) 16 16 .rw 0x4000 false false
def SV_TWIN_LOCK (n : Nat) : Fld := .mk (svBase n + (0x8014)) 0 16 .rw 0x07AE false false
def SV_SLOPE_FOCUS_SLOPE (n : Nat) : Fld := .mk (svBase n + (0x8018)) 16 16 .rw 0x068E false false
def SV_SLOPE_TRACK_SLOPE (n : Nat) : Fld := .mk (svBase n + (0x8018)) 0 16 .rw 0x13A9 false false
def SV_ACQ_START (n : Nat) : Fld := .mk (svBase n + (0x8020)) 31 1 .w1s 0x0 false true
def SV_ACQ_LAYER (n : Nat) : Fld := .mk (svBase n + (0x8020)) 16 4 .rw 0x0 false false
def SV_SWEEP_SWEEP_STEP (n : Nat) : Fld := .mk (svBase n + (0x8024)) 0 32 .rw 0x00008638 false false
def SV_RETRACT_RAMP_STEP (n : Nat) : Fld := .mk (svBase n + (0x8028)) 0 32 .rw 0x00014F8B false false
def SV_POS_RETRACT_POS (n : Nat) : Fld := .mk (svBase n + (0x802c)) 16 16 .rw 0x8000 false false
def SV_POS_START_POS (n : Nat) : Fld := .mk (svBase n + (0x802c)) 0 16 .rw 0xE000 false false
def SV_JUMP_START (n : Nat) : Fld := .mk (svBase n + (0x8030)) 31 1 .w1s 0x0 false true
def SV_JUMP_DIR (n : Nat) : Fld := .mk (svBase n + (0x8030)) 30 1 .rw 0x0 false false
def SV_JUMP_COUNT (n : Nat) : Fld := .mk (svBase n + (0x8030)) 16 4 .rw 0x1 false false
def SV_JUMP_CFG_KICK (n : Nat) : Fld := .mk (svBase n + (0x8034)) 16 16 .rw 0x0400 false false
def SV_JUMP_CFG_LAYER_FF (n : Nat) : Fld := .mk (svBase n + (0x8034)) 0 16 .rw 0x0312 false false
def SV_JUMP_LIM_KICK_MAX (n : Nat) : Fld := .mk (svBase n + (0x8038)) 16 8 .rw 0x14 false false
def SV_JUMP_LIM_CATCH_MAX (n : Nat) : Fld := .mk (svBase n + (0x8038)) 8 8 .rw 0x19 false false
def SV_JUMP_LIM_SETTLE (n : Nat) : Fld := .mk (svBase n + (0x8038)) 0 8 .rw 0x10 false false
def SV_TJUMP_START (n : Nat) : Fld := .mk (svBase n + (0x803c)) 31 1 .w1s 0x0 false true
def SV_TJUMP_TKICK (n : Nat) : Fld := .mk (svBase n + (0x803c)) 16 8 .rw 0x08 false false
def SV_TJUMP_COUNT (n : Nat) : Fld := .mk (svBase n + (0x803c)) 0 9 .rw 0x011 false false
def SV_STATUS_LAYER_CNT (n : Nat) : Fld := .mk (svBase n + (0x8040)) 24 4 .ro 0x0 true false
def SV_STATUS_USABLE (n : Nat) : Fld := .mk (svBase n + (0x8040)) 16 5 .ro 0x00 true false
def SV_STATUS_RETRY_OFS (n : Nat) : Fld := .mk (svBase n + (0x8040)) 11 1 .ro 0x0 true false
def SV_STATUS_AUX_HOLD (n : Nat) : Fld := .mk (svBase n + (0x8040)) 10 1 .ro 0x0 true false
def SV_STATUS_T_LOCKED (n : Nat) : Fld := .mk (svBase n + (0x8040)) 9 1 .ro 0x0 true false
def SV_STATUS_F_LOCKED (n : Nat) : Fld := .mk (svBase n + (0x8040)) 8 1 .ro 0x0 true false
def SV_STATUS_TRACK_STATE (n : Nat) : Fld := .mk (svBase n + (0x8040)) 4 3 .ro 0x0 true false
def SV_STATUS_FOCUS_STATE (n : Nat) : Fld := .mk (svBase n + (0x8040)) 0 4 .ro 0x0 true false
def SV_GAP_GAP (n : Nat) : Fld := .mk (svBase n + (0x8044)) 16 16 .ro 0x0000 true false
def SV_GAP_CAUSE (n : Nat) : Fld := .mk (svBase n + (0x8044)) 0 6 .ro 0x00 true false
def SV_EVENT_REFUSED (n : Nat) : Fld := .mk (svBase n + (0x8048)) 12 1 .w1c 0x0 false false
def SV_EVENT_SUP_OVERRIDE (n : Nat) : Fld := .mk (svBase n + (0x8048)) 11 1 .w1c 0x0 false false
def SV_EVENT_DELAY_OVER (n : Nat) : Fld := .mk (svBase n + (0x8048)) 10 1 .w1c 0x0 false false
def SV_EVENT_TRACK_SLIP (n : Nat) : Fld := .mk (svBase n + (0x8048)) 9 1 .w1c 0x0 false false
def SV_EVENT_TJUMP_DONE (n : Nat) : Fld := .mk (svBase n + (0x8048)) 8 1 .w1c 0x0 false false
def SV_EVENT_JUMP_FAIL (n : Nat) : Fld := .mk (svBase n + (0x8048)) 7 1 .w1c 0x0 false false
def SV_EVENT_JUMP_DONE (n : Nat) : Fld := .mk (svBase n + (0x8048)) 6 1 .w1c 0x0 false false
def SV_EVENT_ACQ_FAIL (n : Nat) : Fld := .mk (svBase n + (0x8048)) 5 1 .w1c 0x0 false false
def SV_EVENT_LOST (n : Nat) : Fld := .mk (svBase n + (0x8048)) 4 1 .w1c 0x0 false false
def SV_EVENT_RESUME (n : Nat) : Fld := .mk (svBase n + (0x8048)) 3 1 .w1c 0x0 false false
def SV_EVENT_HOLD (n : Nat) : Fld := .mk (svBase n + (0x8048)) 2 1 .w1c 0x0 false false
def SV_EVENT_T_LOCK (n : Nat) : Fld := .mk (svBase n + (0x8048)) 1 1 .w1c 0x0 false false
def SV_EVENT_F_LOCK (n : Nat) : Fld := .mk (svBase n + (0x8048)) 0 1 .w1c 0x0 false false
def SV_INT_EN_REFUSED (n : Nat) : Fld := .mk (svBase n + (0x804c)) 12 1 .rw 0x0 false false
def SV_INT_EN_SUP_OVERRIDE (n : Nat) : Fld := .mk (svBase n + (0x804c)) 11 1 .rw 0x0 false false
def SV_INT_EN_DELAY_OVER (n : Nat) : Fld := .mk (svBase n + (0x804c)) 10 1 .rw 0x0 false false
def SV_INT_EN_TRACK_SLIP (n : Nat) : Fld := .mk (svBase n + (0x804c)) 9 1 .rw 0x0 false false
def SV_INT_EN_TJUMP_DONE (n : Nat) : Fld := .mk (svBase n + (0x804c)) 8 1 .rw 0x0 false false
def SV_INT_EN_JUMP_FAIL (n : Nat) : Fld := .mk (svBase n + (0x804c)) 7 1 .rw 0x0 false false
def SV_INT_EN_JUMP_DONE (n : Nat) : Fld := .mk (svBase n + (0x804c)) 6 1 .rw 0x0 false false
def SV_INT_EN_ACQ_FAIL (n : Nat) : Fld := .mk (svBase n + (0x804c)) 5 1 .rw 0x0 false false
def SV_INT_EN_LOST (n : Nat) : Fld := .mk (svBase n + (0x804c)) 4 1 .rw 0x0 false false
def SV_INT_EN_RESUME (n : Nat) : Fld := .mk (svBase n + (0x804c)) 3 1 .rw 0x0 false false
def SV_INT_EN_HOLD (n : Nat) : Fld := .mk (svBase n + (0x804c)) 2 1 .rw 0x0 false false
def SV_INT_EN_T_LOCK (n : Nat) : Fld := .mk (svBase n + (0x804c)) 1 1 .rw 0x0 false false
def SV_INT_EN_F_LOCK (n : Nat) : Fld := .mk (svBase n + (0x804c)) 0 1 .rw 0x0 false false
def SV_DELAY_MAX_NS (n : Nat) : Fld := .mk (svBase n + (0x8050)) 16 16 .roc 0x0000 true false
def SV_DELAY_LAST_NS (n : Nat) : Fld := .mk (svBase n + (0x8050)) 0 16 .ro 0x0000 true false
def SV_DELAY_CFG_LIMIT_NS (n : Nat) : Fld := .mk (svBase n + (0x8054)) 0 16 .rw 0x06A4 false false
def SV_CNT_HOLDS (n : Nat) : Fld := .mk (svBase n + (0x8058)) 16 16 .roc 0x0000 true false
def SV_CNT_RETRACTS (n : Nat) : Fld := .mk (svBase n + (0x8058)) 0 16 .roc 0x0000 true false
def SV_SEL_NIB (n : Nat) : Fld := .mk (svBase n + (0x805c)) 0 4 .rw 0x0 false false
def SV_ERR_ERR (n i : Nat) : Fld := .mk (svBase n + (0x8060 + 0x4 * i + 0x0)) 0 32 .ro 0x00000000 true false
def SV_NIB_ERR_FE (n k : Nat) : Fld := .mk (svBase n + (0x8100 + 0x8 * k + 0x0)) 16 16 .ro 0x0000 true false
def SV_NIB_ERR_TE (n k : Nat) : Fld := .mk (svBase n + (0x8100 + 0x8 * k + 0x0)) 0 16 .ro 0x0000 true false
def SV_NIB_SUM_USED (n k : Nat) : Fld := .mk (svBase n + (0x8100 + 0x8 * k + 0x4)) 31 1 .ro 0x0 true false
def SV_NIB_SUM_SUM (n k : Nat) : Fld := .mk (svBase n + (0x8100 + 0x8 * k + 0x4)) 0 16 .ro 0x0000 true false

/-- The fields of the word at offset o of this block; none where the offset is unassigned (R8). -/
def svAt (n : Nat) (o : Nat) : List Fld :=
  if o = 0x8000 then [SV_CTRL_NIB_USE n, SV_CTRL_MIN_NIBS n, SV_CTRL_TRK_AUTO n, SV_CTRL_SUP_EN n, SV_CTRL_ENABLE n]
  else if o = 0x8004 then [SV_MAP_RSA_OFS n, SV_MAP_RTRK_OFS n, SV_MAP_RFOC_OFS n, SV_MAP_SLED n, SV_MAP_SA n, SV_MAP_TILT n, SV_MAP_YAW n, SV_MAP_TRACK n, SV_MAP_FOCUS n]
  else if o = 0x8008 then [SV_LEVELS_SUM_ON n, SV_LEVELS_SUM_HOLD n, SV_LEVELS_SUM_COLLAPSE n, SV_LEVELS_NIB_MIN n]
  else if o = 0x800c then [SV_GAPS_LONG_GAP n, SV_GAPS_SHORT_GAP n, SV_GAPS_RESUME_N n]
  else if o = 0x8010 then [SV_FWIN_CAPTURE n, SV_FWIN_LOCK n]
  else if o = 0x8014 then [SV_TWIN_CAPTURE n, SV_TWIN_LOCK n]
  else if o = 0x8018 then [SV_SLOPE_FOCUS_SLOPE n, SV_SLOPE_TRACK_SLOPE n]
  else if o = 0x8020 then [SV_ACQ_START n, SV_ACQ_LAYER n]
  else if o = 0x8024 then [SV_SWEEP_SWEEP_STEP n]
  else if o = 0x8028 then [SV_RETRACT_RAMP_STEP n]
  else if o = 0x802c then [SV_POS_RETRACT_POS n, SV_POS_START_POS n]
  else if o = 0x8030 then [SV_JUMP_START n, SV_JUMP_DIR n, SV_JUMP_COUNT n]
  else if o = 0x8034 then [SV_JUMP_CFG_KICK n, SV_JUMP_CFG_LAYER_FF n]
  else if o = 0x8038 then [SV_JUMP_LIM_KICK_MAX n, SV_JUMP_LIM_CATCH_MAX n, SV_JUMP_LIM_SETTLE n]
  else if o = 0x803c then [SV_TJUMP_START n, SV_TJUMP_TKICK n, SV_TJUMP_COUNT n]
  else if o = 0x8040 then [SV_STATUS_LAYER_CNT n, SV_STATUS_USABLE n, SV_STATUS_RETRY_OFS n, SV_STATUS_AUX_HOLD n, SV_STATUS_T_LOCKED n, SV_STATUS_F_LOCKED n, SV_STATUS_TRACK_STATE n, SV_STATUS_FOCUS_STATE n]
  else if o = 0x8044 then [SV_GAP_GAP n, SV_GAP_CAUSE n]
  else if o = 0x8048 then [SV_EVENT_REFUSED n, SV_EVENT_SUP_OVERRIDE n, SV_EVENT_DELAY_OVER n, SV_EVENT_TRACK_SLIP n, SV_EVENT_TJUMP_DONE n, SV_EVENT_JUMP_FAIL n, SV_EVENT_JUMP_DONE n, SV_EVENT_ACQ_FAIL n, SV_EVENT_LOST n, SV_EVENT_RESUME n, SV_EVENT_HOLD n, SV_EVENT_T_LOCK n, SV_EVENT_F_LOCK n]
  else if o = 0x804c then [SV_INT_EN_REFUSED n, SV_INT_EN_SUP_OVERRIDE n, SV_INT_EN_DELAY_OVER n, SV_INT_EN_TRACK_SLIP n, SV_INT_EN_TJUMP_DONE n, SV_INT_EN_JUMP_FAIL n, SV_INT_EN_JUMP_DONE n, SV_INT_EN_ACQ_FAIL n, SV_INT_EN_LOST n, SV_INT_EN_RESUME n, SV_INT_EN_HOLD n, SV_INT_EN_T_LOCK n, SV_INT_EN_F_LOCK n]
  else if o = 0x8050 then [SV_DELAY_MAX_NS n, SV_DELAY_LAST_NS n]
  else if o = 0x8054 then [SV_DELAY_CFG_LIMIT_NS n]
  else if o = 0x8058 then [SV_CNT_HOLDS n, SV_CNT_RETRACTS n]
  else if o = 0x805c then [SV_SEL_NIB n]
  else if 0x8060 ≤ o ∧ o < 0x8084 then [SV_ERR_ERR n ((o - 0x8060) / 4)]
  else if 0x8100 ≤ o ∧ o < 0x8180 ∧ (o - 0x8100) % 0x8 = 0x0 then [SV_NIB_ERR_FE n ((o - 0x8100) / 0x8), SV_NIB_ERR_TE n ((o - 0x8100) / 0x8)]
  else if 0x8100 ≤ o ∧ o < 0x8180 ∧ (o - 0x8100) % 0x8 = 0x4 then [SV_NIB_SUM_USED n ((o - 0x8100) / 0x8), SV_NIB_SUM_SUM n ((o - 0x8100) / 0x8)]
  else []

abbrev motBase : Nat := 0x2000070000

def MOT_CTRL_ENABLE : Fld := .mk (motBase + (0x0)) 0 1 .rw 0x0 false false
def MOT_BUS_CTRL_CHOP_ON (b : Nat) : Fld := .mk (motBase + (0x100 + 0x20 * b + 0x0)) 20 12 .rw 0xABE false false
def MOT_BUS_CTRL_CHOP_OFF (b : Nat) : Fld := .mk (motBase + (0x100 + 0x20 * b + 0x0)) 8 12 .rw 0xA8C false false
def MOT_BUS_CTRL_SPIN_SLOTS (b : Nat) : Fld := .mk (motBase + (0x100 + 0x20 * b + 0x0)) 1 3 .rw 0x2 false false
def MOT_BUS_CTRL_CHOP_EN (b : Nat) : Fld := .mk (motBase + (0x100 + 0x20 * b + 0x0)) 0 1 .rw 0x1 false false
def MOT_BUS_STATUS_CHOPPING (b : Nat) : Fld := .mk (motBase + (0x100 + 0x20 * b + 0x4)) 31 1 .ro 0x0 true false
def MOT_BUS_STATUS_REGEN_OK (b : Nat) : Fld := .mk (motBase + (0x100 + 0x20 * b + 0x4)) 30 1 .ro 0x0 true false
def MOT_BUS_STATUS_SLOTS_USED (b : Nat) : Fld := .mk (motBase + (0x100 + 0x20 * b + 0x4)) 27 3 .ro 0x0 true false
def MOT_BUS_STATUS_V_BUS (b : Nat) : Fld := .mk (motBase + (0x100 + 0x20 * b + 0x4)) 0 12 .ro 0x000 true false
def MOT_BUS_ENERGY_E_MAX (b : Nat) : Fld := .mk (motBase + (0x100 + 0x20 * b + 0x8)) 16 16 .rw 0x3A98 false false
def MOT_BUS_ENERGY_E_ACC (b : Nat) : Fld := .mk (motBase + (0x100 + 0x20 * b + 0x8)) 0 16 .ro 0x0000 true false
def MOT_BUS_CHOPCFG_CHOP_I_MIN (b : Nat) : Fld := .mk (motBase + (0x100 + 0x20 * b + 0xc)) 16 16 .rw 0x00C8 false false
def MOT_BUS_CHOPCFG_LEAK (b : Nat) : Fld := .mk (motBase + (0x100 + 0x20 * b + 0xc)) 0 16 .rw 0x00FA false false
def MOT_BUS_EVENT_COAST_DOWN (b : Nat) : Fld := .mk (motBase + (0x100 + 0x20 * b + 0x10)) 5 1 .w1c 0x0 false false
def MOT_BUS_EVENT_E_LIMIT (b : Nat) : Fld := .mk (motBase + (0x100 + 0x20 * b + 0x10)) 4 1 .w1c 0x0 false false
def MOT_BUS_EVENT_OV (b : Nat) : Fld := .mk (motBase + (0x100 + 0x20 * b + 0x10)) 3 1 .w1c 0x0 false true
def MOT_BUS_EVENT_CHOP_NOFALL (b : Nat) : Fld := .mk (motBase + (0x100 + 0x20 * b + 0x10)) 2 1 .w1c 0x0 false false
def MOT_BUS_EVENT_CHOP_NOCUR (b : Nat) : Fld := .mk (motBase + (0x100 + 0x20 * b + 0x10)) 1 1 .w1c 0x0 false false
def MOT_BUS_EVENT_CHOP_STUCK (b : Nat) : Fld := .mk (motBase + (0x100 + 0x20 * b + 0x10)) 0 1 .w1c 0x0 false false
def MOT_BUS_INT_EN_COAST_DOWN (b : Nat) : Fld := .mk (motBase + (0x100 + 0x20 * b + 0x14)) 5 1 .rw 0x0 false false
def MOT_BUS_INT_EN_E_LIMIT (b : Nat) : Fld := .mk (motBase + (0x100 + 0x20 * b + 0x14)) 4 1 .rw 0x0 false false
def MOT_BUS_INT_EN_OV (b : Nat) : Fld := .mk (motBase + (0x100 + 0x20 * b + 0x14)) 3 1 .rw 0x0 false false
def MOT_BUS_INT_EN_CHOP_NOFALL (b : Nat) : Fld := .mk (motBase + (0x100 + 0x20 * b + 0x14)) 2 1 .rw 0x0 false false
def MOT_BUS_INT_EN_CHOP_NOCUR (b : Nat) : Fld := .mk (motBase + (0x100 + 0x20 * b + 0x14)) 1 1 .rw 0x0 false false
def MOT_BUS_INT_EN_CHOP_STUCK (b : Nat) : Fld := .mk (motBase + (0x100 + 0x20 * b + 0x14)) 0 1 .rw 0x0 false false
def MOT_SP_CTRL_LOOP (s : Nat) : Fld := .mk (motBase + (0x1000 + 0x100 * s + 0x0)) 3 5 .rw s false false
def MOT_SP_CTRL_FAULT_CLR (s : Nat) : Fld := .mk (motBase + (0x1000 + 0x100 * s + 0x0)) 2 1 .w1s 0x0 false true
def MOT_SP_CTRL_AUTO_RECATCH (s : Nat) : Fld := .mk (motBase + (0x1000 + 0x100 * s + 0x0)) 1 1 .rw 0x1 false false
def MOT_SP_CTRL_ENABLE (s : Nat) : Fld := .mk (motBase + (0x1000 + 0x100 * s + 0x0)) 0 1 .rw 0x0 false true
def MOT_SP_SET_DIR (s : Nat) : Fld := .mk (motBase + (0x1000 + 0x100 * s + 0x4)) 31 1 .rw 0x0 false true
def MOT_SP_SET_RAMP (s : Nat) : Fld := .mk (motBase + (0x1000 + 0x100 * s + 0x4)) 16 11 .rw 0x5DC false true
def MOT_SP_SET_SET_RPM (s : Nat) : Fld := .mk (motBase + (0x1000 + 0x100 * s + 0x4)) 0 13 .rw 0x0000 false true
def MOT_SP_STATUS_STATE (s : Nat) : Fld := .mk (motBase + (0x1000 + 0x100 * s + 0x8)) 28 4 .ro 0x0 true false
def MOT_SP_STATUS_STEP (s : Nat) : Fld := .mk (motBase + (0x1000 + 0x100 * s + 0x8)) 25 3 .ro 0x0 true false
def MOT_SP_STATUS_SLOT (s : Nat) : Fld := .mk (motBase + (0x1000 + 0x100 * s + 0x8)) 24 1 .ro 0x0 true false
def MOT_SP_STATUS_LIMITING (s : Nat) : Fld := .mk (motBase + (0x1000 + 0x100 * s + 0x8)) 23 1 .ro 0x0 true false
def MOT_SP_STATUS_COAST_DOWN (s : Nat) : Fld := .mk (motBase + (0x1000 + 0x100 * s + 0x8)) 22 1 .ro 0x0 true false
def MOT_SP_STATUS_DEMAND_LOST (s : Nat) : Fld := .mk (motBase + (0x1000 + 0x100 * s + 0x8)) 21 1 .ro 0x0 true false
def MOT_SP_STATUS_M (s : Nat) : Fld := .mk (motBase + (0x1000 + 0x100 * s + 0x8)) 16 5 .ro 0x01 true false
def MOT_SP_STATUS_CATCH_DIR (s : Nat) : Fld := .mk (motBase + (0x1000 + 0x100 * s + 0x8)) 14 2 .ro 0x0 true false
def MOT_SP_STATUS_CATCH_RPM (s : Nat) : Fld := .mk (motBase + (0x1000 + 0x100 * s + 0x8)) 0 13 .ro 0x0000 true false
def MOT_SP_SPEED_MEAS (s : Nat) : Fld := .mk (motBase + (0x1000 + 0x100 * s + 0xc)) 0 20 .ro 0x00000 true false
def MOT_SP_REF_REF (s : Nat) : Fld := .mk (motBase + (0x1000 + 0x100 * s + 0x10)) 0 20 .ro 0x00000 true false
def MOT_SP_COMM_ADV (s : Nat) : Fld := .mk (motBase + (0x1000 + 0x100 * s + 0x14)) 28 4 .rw 0x5 false false
def MOT_SP_COMM_BLANK (s : Nat) : Fld := .mk (motBase + (0x1000 + 0x100 * s + 0x14)) 20 8 .rw 0x40 false false
def MOT_SP_COMM_ZC_CONFIRM (s : Nat) : Fld := .mk (motBase + (0x1000 + 0x100 * s + 0x14)) 16 2 .rw 0x2 false false
def MOT_SP_COMM_MISS_MAX (s : Nat) : Fld := .mk (motBase + (0x1000 + 0x100 * s + 0x14)) 0 4 .rw 0x6 false false
def MOT_SP_START_ALIGN_I (s : Nat) : Fld := .mk (motBase + (0x1000 + 0x100 * s + 0x18)) 16 16 .rw 0x00C8 false false
def MOT_SP_START_ALIGN_MS (s : Nat) : Fld := .mk (motBase + (0x1000 + 0x100 * s + 0x18)) 8 8 .rw 0xC8 false false
def MOT_SP_START_OPEN_HOLD (s : Nat) : Fld := .mk (motBase + (0x1000 + 0x100 * s + 0x18)) 0 8 .rw 0x32 false false
def MOT_SP_CATCH_BRAKE_T (s : Nat) : Fld := .mk (motBase + (0x1000 + 0x100 * s + 0x1c)) 24 8 .rw 0x0A false false
def MOT_SP_CATCH_BRAKE_MAX (s : Nat) : Fld := .mk (motBase + (0x1000 + 0x100 * s + 0x1c)) 16 8 .rw 0x3C false false
def MOT_SP_CATCH_CATCH_HYST (s : Nat) : Fld := .mk (motBase + (0x1000 + 0x100 * s + 0x1c)) 8 8 .rw 0x32 false false
def MOT_SP_CATCH_STOP_BRAKE (s : Nat) : Fld := .mk (motBase + (0x1000 + 0x100 * s + 0x1c)) 0 8 .rw 0x64 false false
def MOT_SP_LIM_I_TRIP (s : Nat) : Fld := .mk (motBase + (0x1000 + 0x100 * s + 0x20)) 16 16 .rw 0x0320 false false
def MOT_SP_LIM_I_LIM (s : Nat) : Fld := .mk (motBase + (0x1000 + 0x100 * s + 0x20)) 0 16 .rw 0x0190 false false
def MOT_SP_I2T_I2T_MAX (s : Nat) : Fld := .mk (motBase + (0x1000 + 0x100 * s + 0x24)) 16 16 .rw 0x2710 false false
def MOT_SP_I2T_I2T (s : Nat) : Fld := .mk (motBase + (0x1000 + 0x100 * s + 0x24)) 0 16 .ro 0x0000 true false
def MOT_SP_I2T_CFG_SB_I (s : Nat) : Fld := .mk (motBase + (0x1000 + 0x100 * s + 0x28)) 16 16 .rw 0x0190 false false
def MOT_SP_I2T_CFG_I_CONT (s : Nat) : Fld := .mk (motBase + (0x1000 + 0x100 * s + 0x28)) 0 16 .rw 0x0096 false false
def MOT_SP_J_J (s : Nat) : Fld := .mk (motBase + (0x1000 + 0x100 * s + 0x2c)) 0 16 .rw 0x009E false false
def MOT_SP_EVENT_AT_SPEED (s : Nat) : Fld := .mk (motBase + (0x1000 + 0x100 * s + 0x40)) 10 1 .w1c 0x0 false false
def MOT_SP_EVENT_SET_REFUSED (s : Nat) : Fld := .mk (motBase + (0x1000 + 0x100 * s + 0x40)) 9 1 .w1c 0x0 false false
def MOT_SP_EVENT_RUN (s : Nat) : Fld := .mk (motBase + (0x1000 + 0x100 * s + 0x40)) 8 1 .w1c 0x0 false false
def MOT_SP_EVENT_STOPPED (s : Nat) : Fld := .mk (motBase + (0x1000 + 0x100 * s + 0x40)) 7 1 .w1c 0x0 false false
def MOT_SP_EVENT_CATCH_FAIL (s : Nat) : Fld := .mk (motBase + (0x1000 + 0x100 * s + 0x40)) 6 1 .w1c 0x0 false false
def MOT_SP_EVENT_START_FAIL (s : Nat) : Fld := .mk (motBase + (0x1000 + 0x100 * s + 0x40)) 5 1 .w1c 0x0 false false
def MOT_SP_EVENT_DESYNC (s : Nat) : Fld := .mk (motBase + (0x1000 + 0x100 * s + 0x40)) 4 1 .w1c 0x0 false false
def MOT_SP_EVENT_OVERCURRENT (s : Nat) : Fld := .mk (motBase + (0x1000 + 0x100 * s + 0x40)) 3 1 .w1c 0x0 false false
def MOT_SP_EVENT_I2T_LIMIT (s : Nat) : Fld := .mk (motBase + (0x1000 + 0x100 * s + 0x40)) 2 1 .w1c 0x0 false false
def MOT_SP_EVENT_SLOT_WAIT (s : Nat) : Fld := .mk (motBase + (0x1000 + 0x100 * s + 0x40)) 1 1 .w1c 0x0 false false
def MOT_SP_EVENT_MISSED_ZC (s : Nat) : Fld := .mk (motBase + (0x1000 + 0x100 * s + 0x40)) 0 1 .w1c 0x0 false false
def MOT_SP_INT_EN_AT_SPEED (s : Nat) : Fld := .mk (motBase + (0x1000 + 0x100 * s + 0x44)) 10 1 .rw 0x0 false false
def MOT_SP_INT_EN_SET_REFUSED (s : Nat) : Fld := .mk (motBase + (0x1000 + 0x100 * s + 0x44)) 9 1 .rw 0x0 false false
def MOT_SP_INT_EN_RUN (s : Nat) : Fld := .mk (motBase + (0x1000 + 0x100 * s + 0x44)) 8 1 .rw 0x0 false false
def MOT_SP_INT_EN_STOPPED (s : Nat) : Fld := .mk (motBase + (0x1000 + 0x100 * s + 0x44)) 7 1 .rw 0x0 false false
def MOT_SP_INT_EN_CATCH_FAIL (s : Nat) : Fld := .mk (motBase + (0x1000 + 0x100 * s + 0x44)) 6 1 .rw 0x0 false false
def MOT_SP_INT_EN_START_FAIL (s : Nat) : Fld := .mk (motBase + (0x1000 + 0x100 * s + 0x44)) 5 1 .rw 0x0 false false
def MOT_SP_INT_EN_DESYNC (s : Nat) : Fld := .mk (motBase + (0x1000 + 0x100 * s + 0x44)) 4 1 .rw 0x0 false false
def MOT_SP_INT_EN_OVERCURRENT (s : Nat) : Fld := .mk (motBase + (0x1000 + 0x100 * s + 0x44)) 3 1 .rw 0x0 false false
def MOT_SP_INT_EN_I2T_LIMIT (s : Nat) : Fld := .mk (motBase + (0x1000 + 0x100 * s + 0x44)) 2 1 .rw 0x0 false false
def MOT_SP_INT_EN_SLOT_WAIT (s : Nat) : Fld := .mk (motBase + (0x1000 + 0x100 * s + 0x44)) 1 1 .rw 0x0 false false
def MOT_SP_INT_EN_MISSED_ZC (s : Nat) : Fld := .mk (motBase + (0x1000 + 0x100 * s + 0x44)) 0 1 .rw 0x0 false false
def MOT_SP_CNT_DESYNCS (s : Nat) : Fld := .mk (motBase + (0x1000 + 0x100 * s + 0x48)) 16 16 .roc 0x0000 true false
def MOT_SP_CNT_MISSED (s : Nat) : Fld := .mk (motBase + (0x1000 + 0x100 * s + 0x48)) 0 16 .roc 0x0000 true false
def MOT_SEQ_STATUS_SEQ_ERR : Fld := .mk (motBase + (0x2000)) 31 1 .w1c 0x0 false false
def MOT_SEQ_STATUS_FRAME_MAX : Fld := .mk (motBase + (0x2000)) 0 16 .roc 0x0000 false false
def MOT_SEQ_SLOT_FREE (i : Nat) : Fld := .mk (motBase + (0x2100 + 0x4 * i + 0x0)) 8 1 .rw (seqSlotFreeReset i) false true
def MOT_SEQ_SLOT_CH (i : Nat) : Fld := .mk (motBase + (0x2100 + 0x4 * i + 0x0)) 0 4 .rw (seqSlotChReset i) false true
def MOT_ADC_RES_VALUE (a c : Nat) : Fld := .mk (motBase + (0x2400 + 0x40 * a + 4 * c)) 16 16 .ro 0x0000 true false
def MOT_ADC_RES_CODE (a c : Nat) : Fld := .mk (motBase + (0x2400 + 0x40 * a + 4 * c)) 0 12 .ro 0x000 true false

/-- The fields of the word at offset o of this block; none where the offset is unassigned (R8). -/
def motAt (o : Nat) : List Fld :=
  if o = 0x0 then [MOT_CTRL_ENABLE]
  else if 0x100 ≤ o ∧ o < 0x140 ∧ (o - 0x100) % 0x20 = 0x0 then [MOT_BUS_CTRL_CHOP_ON ((o - 0x100) / 0x20), MOT_BUS_CTRL_CHOP_OFF ((o - 0x100) / 0x20), MOT_BUS_CTRL_SPIN_SLOTS ((o - 0x100) / 0x20), MOT_BUS_CTRL_CHOP_EN ((o - 0x100) / 0x20)]
  else if 0x100 ≤ o ∧ o < 0x140 ∧ (o - 0x100) % 0x20 = 0x4 then [MOT_BUS_STATUS_CHOPPING ((o - 0x100) / 0x20), MOT_BUS_STATUS_REGEN_OK ((o - 0x100) / 0x20), MOT_BUS_STATUS_SLOTS_USED ((o - 0x100) / 0x20), MOT_BUS_STATUS_V_BUS ((o - 0x100) / 0x20)]
  else if 0x100 ≤ o ∧ o < 0x140 ∧ (o - 0x100) % 0x20 = 0x8 then [MOT_BUS_ENERGY_E_MAX ((o - 0x100) / 0x20), MOT_BUS_ENERGY_E_ACC ((o - 0x100) / 0x20)]
  else if 0x100 ≤ o ∧ o < 0x140 ∧ (o - 0x100) % 0x20 = 0xc then [MOT_BUS_CHOPCFG_CHOP_I_MIN ((o - 0x100) / 0x20), MOT_BUS_CHOPCFG_LEAK ((o - 0x100) / 0x20)]
  else if 0x100 ≤ o ∧ o < 0x140 ∧ (o - 0x100) % 0x20 = 0x10 then [MOT_BUS_EVENT_COAST_DOWN ((o - 0x100) / 0x20), MOT_BUS_EVENT_E_LIMIT ((o - 0x100) / 0x20), MOT_BUS_EVENT_OV ((o - 0x100) / 0x20), MOT_BUS_EVENT_CHOP_NOFALL ((o - 0x100) / 0x20), MOT_BUS_EVENT_CHOP_NOCUR ((o - 0x100) / 0x20), MOT_BUS_EVENT_CHOP_STUCK ((o - 0x100) / 0x20)]
  else if 0x100 ≤ o ∧ o < 0x140 ∧ (o - 0x100) % 0x20 = 0x14 then [MOT_BUS_INT_EN_COAST_DOWN ((o - 0x100) / 0x20), MOT_BUS_INT_EN_E_LIMIT ((o - 0x100) / 0x20), MOT_BUS_INT_EN_OV ((o - 0x100) / 0x20), MOT_BUS_INT_EN_CHOP_NOFALL ((o - 0x100) / 0x20), MOT_BUS_INT_EN_CHOP_NOCUR ((o - 0x100) / 0x20), MOT_BUS_INT_EN_CHOP_STUCK ((o - 0x100) / 0x20)]
  else if 0x1000 ≤ o ∧ o < 0x1800 ∧ (o - 0x1000) % 0x100 = 0x0 then [MOT_SP_CTRL_LOOP ((o - 0x1000) / 0x100), MOT_SP_CTRL_FAULT_CLR ((o - 0x1000) / 0x100), MOT_SP_CTRL_AUTO_RECATCH ((o - 0x1000) / 0x100), MOT_SP_CTRL_ENABLE ((o - 0x1000) / 0x100)]
  else if 0x1000 ≤ o ∧ o < 0x1800 ∧ (o - 0x1000) % 0x100 = 0x4 then [MOT_SP_SET_DIR ((o - 0x1000) / 0x100), MOT_SP_SET_RAMP ((o - 0x1000) / 0x100), MOT_SP_SET_SET_RPM ((o - 0x1000) / 0x100)]
  else if 0x1000 ≤ o ∧ o < 0x1800 ∧ (o - 0x1000) % 0x100 = 0x8 then [MOT_SP_STATUS_STATE ((o - 0x1000) / 0x100), MOT_SP_STATUS_STEP ((o - 0x1000) / 0x100), MOT_SP_STATUS_SLOT ((o - 0x1000) / 0x100), MOT_SP_STATUS_LIMITING ((o - 0x1000) / 0x100), MOT_SP_STATUS_COAST_DOWN ((o - 0x1000) / 0x100), MOT_SP_STATUS_DEMAND_LOST ((o - 0x1000) / 0x100), MOT_SP_STATUS_M ((o - 0x1000) / 0x100), MOT_SP_STATUS_CATCH_DIR ((o - 0x1000) / 0x100), MOT_SP_STATUS_CATCH_RPM ((o - 0x1000) / 0x100)]
  else if 0x1000 ≤ o ∧ o < 0x1800 ∧ (o - 0x1000) % 0x100 = 0xc then [MOT_SP_SPEED_MEAS ((o - 0x1000) / 0x100)]
  else if 0x1000 ≤ o ∧ o < 0x1800 ∧ (o - 0x1000) % 0x100 = 0x10 then [MOT_SP_REF_REF ((o - 0x1000) / 0x100)]
  else if 0x1000 ≤ o ∧ o < 0x1800 ∧ (o - 0x1000) % 0x100 = 0x14 then [MOT_SP_COMM_ADV ((o - 0x1000) / 0x100), MOT_SP_COMM_BLANK ((o - 0x1000) / 0x100), MOT_SP_COMM_ZC_CONFIRM ((o - 0x1000) / 0x100), MOT_SP_COMM_MISS_MAX ((o - 0x1000) / 0x100)]
  else if 0x1000 ≤ o ∧ o < 0x1800 ∧ (o - 0x1000) % 0x100 = 0x18 then [MOT_SP_START_ALIGN_I ((o - 0x1000) / 0x100), MOT_SP_START_ALIGN_MS ((o - 0x1000) / 0x100), MOT_SP_START_OPEN_HOLD ((o - 0x1000) / 0x100)]
  else if 0x1000 ≤ o ∧ o < 0x1800 ∧ (o - 0x1000) % 0x100 = 0x1c then [MOT_SP_CATCH_BRAKE_T ((o - 0x1000) / 0x100), MOT_SP_CATCH_BRAKE_MAX ((o - 0x1000) / 0x100), MOT_SP_CATCH_CATCH_HYST ((o - 0x1000) / 0x100), MOT_SP_CATCH_STOP_BRAKE ((o - 0x1000) / 0x100)]
  else if 0x1000 ≤ o ∧ o < 0x1800 ∧ (o - 0x1000) % 0x100 = 0x20 then [MOT_SP_LIM_I_TRIP ((o - 0x1000) / 0x100), MOT_SP_LIM_I_LIM ((o - 0x1000) / 0x100)]
  else if 0x1000 ≤ o ∧ o < 0x1800 ∧ (o - 0x1000) % 0x100 = 0x24 then [MOT_SP_I2T_I2T_MAX ((o - 0x1000) / 0x100), MOT_SP_I2T_I2T ((o - 0x1000) / 0x100)]
  else if 0x1000 ≤ o ∧ o < 0x1800 ∧ (o - 0x1000) % 0x100 = 0x28 then [MOT_SP_I2T_CFG_SB_I ((o - 0x1000) / 0x100), MOT_SP_I2T_CFG_I_CONT ((o - 0x1000) / 0x100)]
  else if 0x1000 ≤ o ∧ o < 0x1800 ∧ (o - 0x1000) % 0x100 = 0x2c then [MOT_SP_J_J ((o - 0x1000) / 0x100)]
  else if 0x1000 ≤ o ∧ o < 0x1800 ∧ (o - 0x1000) % 0x100 = 0x40 then [MOT_SP_EVENT_AT_SPEED ((o - 0x1000) / 0x100), MOT_SP_EVENT_SET_REFUSED ((o - 0x1000) / 0x100), MOT_SP_EVENT_RUN ((o - 0x1000) / 0x100), MOT_SP_EVENT_STOPPED ((o - 0x1000) / 0x100), MOT_SP_EVENT_CATCH_FAIL ((o - 0x1000) / 0x100), MOT_SP_EVENT_START_FAIL ((o - 0x1000) / 0x100), MOT_SP_EVENT_DESYNC ((o - 0x1000) / 0x100), MOT_SP_EVENT_OVERCURRENT ((o - 0x1000) / 0x100), MOT_SP_EVENT_I2T_LIMIT ((o - 0x1000) / 0x100), MOT_SP_EVENT_SLOT_WAIT ((o - 0x1000) / 0x100), MOT_SP_EVENT_MISSED_ZC ((o - 0x1000) / 0x100)]
  else if 0x1000 ≤ o ∧ o < 0x1800 ∧ (o - 0x1000) % 0x100 = 0x44 then [MOT_SP_INT_EN_AT_SPEED ((o - 0x1000) / 0x100), MOT_SP_INT_EN_SET_REFUSED ((o - 0x1000) / 0x100), MOT_SP_INT_EN_RUN ((o - 0x1000) / 0x100), MOT_SP_INT_EN_STOPPED ((o - 0x1000) / 0x100), MOT_SP_INT_EN_CATCH_FAIL ((o - 0x1000) / 0x100), MOT_SP_INT_EN_START_FAIL ((o - 0x1000) / 0x100), MOT_SP_INT_EN_DESYNC ((o - 0x1000) / 0x100), MOT_SP_INT_EN_OVERCURRENT ((o - 0x1000) / 0x100), MOT_SP_INT_EN_I2T_LIMIT ((o - 0x1000) / 0x100), MOT_SP_INT_EN_SLOT_WAIT ((o - 0x1000) / 0x100), MOT_SP_INT_EN_MISSED_ZC ((o - 0x1000) / 0x100)]
  else if 0x1000 ≤ o ∧ o < 0x1800 ∧ (o - 0x1000) % 0x100 = 0x48 then [MOT_SP_CNT_DESYNCS ((o - 0x1000) / 0x100), MOT_SP_CNT_MISSED ((o - 0x1000) / 0x100)]
  else if o = 0x2000 then [MOT_SEQ_STATUS_SEQ_ERR, MOT_SEQ_STATUS_FRAME_MAX]
  else if 0x2100 ≤ o ∧ o < 0x2200 then [MOT_SEQ_SLOT_FREE ((o - 0x2100) / 4), MOT_SEQ_SLOT_CH ((o - 0x2100) / 4)]
  else if 0x2400 ≤ o ∧ o < 0x2500 ∧ (o - 0x2400) % 0x40 < 0x34 then [MOT_ADC_RES_VALUE ((o - 0x2400) / 0x40) ((o - 0x2400) % 0x40 / 4), MOT_ADC_RES_CODE ((o - 0x2400) / 0x40) ((o - 0x2400) % 0x40 / 4)]
  else []

abbrev ducBase : Nat := 0x2000080000

def DUC_CTRL_TX_DB : Fld := .mk (ducBase + (0x0)) 1 1 .rw 0x0 false false
def DUC_CTRL_TX_DA : Fld := .mk (ducBase + (0x0)) 0 1 .rw 0x0 false false
def DUC_ERRSEL_SL : Fld := .mk (ducBase + (0x4)) 0 32 .rw 0x76543210 false false
def DUC_EXT_EXT_OVF : Fld := .mk (ducBase + (0x8)) 31 1 .w1c 0x0 false false
def DUC_EXT_SLED : Fld := .mk (ducBase + (0x8)) 16 4 .rw 0x0 false false
def DUC_EXT_FIRST : Fld := .mk (ducBase + (0x8)) 0 16 .rw 0x03E8 false false
def DUC_STG_STAGE_LOST (a : Nat) : Fld := .mk (ducBase + (0x200 + 0x4 * a + 0x0)) 31 1 .w1c 0x0 false false
def DUC_STG_HELD_HERE (a : Nat) : Fld := .mk (ducBase + (0x200 + 0x4 * a + 0x0)) 30 1 .ro 0x0 false false
def DUC_STG_FLAGS (a : Nat) : Fld := .mk (ducBase + (0x200 + 0x4 * a + 0x0)) 24 6 .ro 0x00 false false
def DUC_STG_CRC_ERR (a : Nat) : Fld := .mk (ducBase + (0x200 + 0x4 * a + 0x0)) 16 8 .roc 0x00 false false
def DUC_STG_CLAIM (a : Nat) : Fld := .mk (ducBase + (0x200 + 0x4 * a + 0x0)) 0 16 .ro 0x0000 false false
def DUC_SL_CTRL_STOP (n : Nat) : Fld := .mk (ducBase + (0x1000 + 0x80 * n + 0x0)) 31 1 .w1s 0x0 false true
def DUC_SL_CTRL_JOG (n : Nat) : Fld := .mk (ducBase + (0x1000 + 0x80 * n + 0x0)) 30 1 .rw 0x0 false false
def DUC_SL_CTRL_FOLLOW_V (n : Nat) : Fld := .mk (ducBase + (0x1000 + 0x80 * n + 0x0)) 16 14 .rw 0x0190 false false
def DUC_SL_CTRL_PROFILE (n : Nat) : Fld := .mk (ducBase + (0x1000 + 0x80 * n + 0x0)) 4 1 .rw 0x0 false false
def DUC_SL_CTRL_MODE (n : Nat) : Fld := .mk (ducBase + (0x1000 + 0x80 * n + 0x0)) 0 3 .rw 0x0 false true
def DUC_SL_TARGET_TARGET (n : Nat) : Fld := .mk (ducBase + (0x1000 + 0x80 * n + 0x4)) 0 32 .rw 0x00000000 false true
def DUC_SL_POS_POS (n : Nat) : Fld := .mk (ducBase + (0x1000 + 0x80 * n + 0x8)) 0 32 .ro 0x00000000 true false
def DUC_SL_POS_SET_POS_SET (n : Nat) : Fld := .mk (ducBase + (0x1000 + 0x80 * n + 0xc)) 0 32 .wo 0x00000000 false true
def DUC_SL_KIN_VMAX (n : Nat) : Fld := .mk (ducBase + (0x1000 + 0x80 * n + 0x10)) 16 16 .rw 0x2EE0 false false
def DUC_SL_KIN_ACC (n : Nat) : Fld := .mk (ducBase + (0x1000 + 0x80 * n + 0x10)) 0 16 .rw 0x0BB8 false false
def DUC_SL_HOME_HOME_FAST (n : Nat) : Fld := .mk (ducBase + (0x1000 + 0x80 * n + 0x14)) 20 12 .rw 0x1F4 false false
def DUC_SL_HOME_HOME_SLOW (n : Nat) : Fld := .mk (ducBase + (0x1000 + 0x80 * n + 0x14)) 12 8 .rw 0x32 false false
def DUC_SL_HOME_BACKOFF (n : Nat) : Fld := .mk (ducBase + (0x1000 + 0x80 * n + 0x14)) 0 12 .rw 0x022 false false
def DUC_SL_CFG_QUAL_T (n : Nat) : Fld := .mk (ducBase + (0x1000 + 0x80 * n + 0x18)) 16 16 .rw 0x00C8 false false
def DUC_SL_CFG_ACTIVE_LOW (n : Nat) : Fld := .mk (ducBase + (0x1000 + 0x80 * n + 0x18)) 9 1 .rw 0x1 false false
def DUC_SL_CFG_RUN_I (n : Nat) : Fld := .mk (ducBase + (0x1000 + 0x80 * n + 0x18)) 4 4 .rw 0xC false false
def DUC_SL_CFG_HOLD_I (n : Nat) : Fld := .mk (ducBase + (0x1000 + 0x80 * n + 0x18)) 0 4 .rw 0x5 false false
def DUC_SL_CHAT_CHATTER_MAX (n : Nat) : Fld := .mk (ducBase + (0x1000 + 0x80 * n + 0x1c)) 0 5 .rw 0x08 false false
def DUC_SL_SOFT_MIN_LIMIT (n : Nat) : Fld := .mk (ducBase + (0x1000 + 0x80 * n + 0x20)) 0 32 .rw 0 false false
def DUC_SL_SOFT_MAX_LIMIT (n : Nat) : Fld := .mk (ducBase + (0x1000 + 0x80 * n + 0x24)) 0 32 .rw 0x00096000 false false
def DUC_SL_HOME_POS_HOME_POS (n : Nat) : Fld := .mk (ducBase + (0x1000 + 0x80 * n + 0x28)) 0 32 .rw 0x00000000 false false
def DUC_SL_LATCH_POS_LATCH_POS (n : Nat) : Fld := .mk (ducBase + (0x1000 + 0x80 * n + 0x2c)) 0 32 .ro 0x00000000 false false
def DUC_SL_STATUS_SPEED (n : Nat) : Fld := .mk (ducBase + (0x1000 + 0x80 * n + 0x30)) 16 16 .ro 0x0000 true false
def DUC_SL_STATUS_HOME_STATE (n : Nat) : Fld := .mk (ducBase + (0x1000 + 0x80 * n + 0x30)) 13 3 .ro 0x0 true false
def DUC_SL_STATUS_SW_RAW (n : Nat) : Fld := .mk (ducBase + (0x1000 + 0x80 * n + 0x30)) 12 1 .ro 0x0 true false
def DUC_SL_STATUS_SW_QUAL (n : Nat) : Fld := .mk (ducBase + (0x1000 + 0x80 * n + 0x30)) 11 1 .ro 0x0 true false
def DUC_SL_STATUS_MOVING (n : Nat) : Fld := .mk (ducBase + (0x1000 + 0x80 * n + 0x30)) 10 1 .ro 0x0 true false
def DUC_SL_STATUS_POS_STATE (n : Nat) : Fld := .mk (ducBase + (0x1000 + 0x80 * n + 0x30)) 8 2 .ro 0x0 true false
def DUC_SL_STATUS_MODE_ACT (n : Nat) : Fld := .mk (ducBase + (0x1000 + 0x80 * n + 0x30)) 0 3 .ro 0x0 true false
def DUC_SL_EVENT_DEMAND_LOST (n : Nat) : Fld := .mk (ducBase + (0x1000 + 0x80 * n + 0x40)) 9 1 .w1c 0x0 false false
def DUC_SL_EVENT_SOFT_LIMIT (n : Nat) : Fld := .mk (ducBase + (0x1000 + 0x80 * n + 0x40)) 8 1 .w1c 0x0 false false
def DUC_SL_EVENT_REFUSED (n : Nat) : Fld := .mk (ducBase + (0x1000 + 0x80 * n + 0x40)) 7 1 .w1c 0x0 false false
def DUC_SL_EVENT_GLITCH (n : Nat) : Fld := .mk (ducBase + (0x1000 + 0x80 * n + 0x40)) 6 1 .w1c 0x0 false false
def DUC_SL_EVENT_CHATTER (n : Nat) : Fld := .mk (ducBase + (0x1000 + 0x80 * n + 0x40)) 5 1 .w1c 0x0 false false
def DUC_SL_EVENT_LIMIT_TRIP (n : Nat) : Fld := .mk (ducBase + (0x1000 + 0x80 * n + 0x40)) 4 1 .w1c 0x0 false false
def DUC_SL_EVENT_STOPPED_HARD (n : Nat) : Fld := .mk (ducBase + (0x1000 + 0x80 * n + 0x40)) 3 1 .w1c 0x0 false false
def DUC_SL_EVENT_HOME_FAIL (n : Nat) : Fld := .mk (ducBase + (0x1000 + 0x80 * n + 0x40)) 2 1 .w1c 0x0 false false
def DUC_SL_EVENT_HOMED (n : Nat) : Fld := .mk (ducBase + (0x1000 + 0x80 * n + 0x40)) 1 1 .w1c 0x0 false false
def DUC_SL_EVENT_MOVE_DONE (n : Nat) : Fld := .mk (ducBase + (0x1000 + 0x80 * n + 0x40)) 0 1 .w1c 0x0 false false
def DUC_SL_INT_EN_DEMAND_LOST (n : Nat) : Fld := .mk (ducBase + (0x1000 + 0x80 * n + 0x44)) 9 1 .rw 0x0 false false
def DUC_SL_INT_EN_SOFT_LIMIT (n : Nat) : Fld := .mk (ducBase + (0x1000 + 0x80 * n + 0x44)) 8 1 .rw 0x0 false false
def DUC_SL_INT_EN_REFUSED (n : Nat) : Fld := .mk (ducBase + (0x1000 + 0x80 * n + 0x44)) 7 1 .rw 0x0 false false
def DUC_SL_INT_EN_GLITCH (n : Nat) : Fld := .mk (ducBase + (0x1000 + 0x80 * n + 0x44)) 6 1 .rw 0x0 false false
def DUC_SL_INT_EN_CHATTER (n : Nat) : Fld := .mk (ducBase + (0x1000 + 0x80 * n + 0x44)) 5 1 .rw 0x0 false false
def DUC_SL_INT_EN_LIMIT_TRIP (n : Nat) : Fld := .mk (ducBase + (0x1000 + 0x80 * n + 0x44)) 4 1 .rw 0x0 false false
def DUC_SL_INT_EN_STOPPED_HARD (n : Nat) : Fld := .mk (ducBase + (0x1000 + 0x80 * n + 0x44)) 3 1 .rw 0x0 false false
def DUC_SL_INT_EN_HOME_FAIL (n : Nat) : Fld := .mk (ducBase + (0x1000 + 0x80 * n + 0x44)) 2 1 .rw 0x0 false false
def DUC_SL_INT_EN_HOMED (n : Nat) : Fld := .mk (ducBase + (0x1000 + 0x80 * n + 0x44)) 1 1 .rw 0x0 false false
def DUC_SL_INT_EN_MOVE_DONE (n : Nat) : Fld := .mk (ducBase + (0x1000 + 0x80 * n + 0x44)) 0 1 .rw 0x0 false false

/-- The fields of the word at offset o of this block; none where the offset is unassigned (R8). -/
def ducAt (o : Nat) : List Fld :=
  if o = 0x0 then [DUC_CTRL_TX_DB, DUC_CTRL_TX_DA]
  else if o = 0x4 then [DUC_ERRSEL_SL]
  else if o = 0x8 then [DUC_EXT_EXT_OVF, DUC_EXT_SLED, DUC_EXT_FIRST]
  else if 0x200 ≤ o ∧ o < 0x260 then [DUC_STG_STAGE_LOST ((o - 0x200) / 4), DUC_STG_HELD_HERE ((o - 0x200) / 4), DUC_STG_FLAGS ((o - 0x200) / 4), DUC_STG_CRC_ERR ((o - 0x200) / 4), DUC_STG_CLAIM ((o - 0x200) / 4)]
  else if 0x1000 ≤ o ∧ o < 0x1800 ∧ (o - 0x1000) % 0x80 = 0x0 then [DUC_SL_CTRL_STOP ((o - 0x1000) / 0x80), DUC_SL_CTRL_JOG ((o - 0x1000) / 0x80), DUC_SL_CTRL_FOLLOW_V ((o - 0x1000) / 0x80), DUC_SL_CTRL_PROFILE ((o - 0x1000) / 0x80), DUC_SL_CTRL_MODE ((o - 0x1000) / 0x80)]
  else if 0x1000 ≤ o ∧ o < 0x1800 ∧ (o - 0x1000) % 0x80 = 0x4 then [DUC_SL_TARGET_TARGET ((o - 0x1000) / 0x80)]
  else if 0x1000 ≤ o ∧ o < 0x1800 ∧ (o - 0x1000) % 0x80 = 0x8 then [DUC_SL_POS_POS ((o - 0x1000) / 0x80)]
  else if 0x1000 ≤ o ∧ o < 0x1800 ∧ (o - 0x1000) % 0x80 = 0xc then [DUC_SL_POS_SET_POS_SET ((o - 0x1000) / 0x80)]
  else if 0x1000 ≤ o ∧ o < 0x1800 ∧ (o - 0x1000) % 0x80 = 0x10 then [DUC_SL_KIN_VMAX ((o - 0x1000) / 0x80), DUC_SL_KIN_ACC ((o - 0x1000) / 0x80)]
  else if 0x1000 ≤ o ∧ o < 0x1800 ∧ (o - 0x1000) % 0x80 = 0x14 then [DUC_SL_HOME_HOME_FAST ((o - 0x1000) / 0x80), DUC_SL_HOME_HOME_SLOW ((o - 0x1000) / 0x80), DUC_SL_HOME_BACKOFF ((o - 0x1000) / 0x80)]
  else if 0x1000 ≤ o ∧ o < 0x1800 ∧ (o - 0x1000) % 0x80 = 0x18 then [DUC_SL_CFG_QUAL_T ((o - 0x1000) / 0x80), DUC_SL_CFG_ACTIVE_LOW ((o - 0x1000) / 0x80), DUC_SL_CFG_RUN_I ((o - 0x1000) / 0x80), DUC_SL_CFG_HOLD_I ((o - 0x1000) / 0x80)]
  else if 0x1000 ≤ o ∧ o < 0x1800 ∧ (o - 0x1000) % 0x80 = 0x1c then [DUC_SL_CHAT_CHATTER_MAX ((o - 0x1000) / 0x80)]
  else if 0x1000 ≤ o ∧ o < 0x1800 ∧ (o - 0x1000) % 0x80 = 0x20 then [DUC_SL_SOFT_MIN_LIMIT ((o - 0x1000) / 0x80)]
  else if 0x1000 ≤ o ∧ o < 0x1800 ∧ (o - 0x1000) % 0x80 = 0x24 then [DUC_SL_SOFT_MAX_LIMIT ((o - 0x1000) / 0x80)]
  else if 0x1000 ≤ o ∧ o < 0x1800 ∧ (o - 0x1000) % 0x80 = 0x28 then [DUC_SL_HOME_POS_HOME_POS ((o - 0x1000) / 0x80)]
  else if 0x1000 ≤ o ∧ o < 0x1800 ∧ (o - 0x1000) % 0x80 = 0x2c then [DUC_SL_LATCH_POS_LATCH_POS ((o - 0x1000) / 0x80)]
  else if 0x1000 ≤ o ∧ o < 0x1800 ∧ (o - 0x1000) % 0x80 = 0x30 then [DUC_SL_STATUS_SPEED ((o - 0x1000) / 0x80), DUC_SL_STATUS_HOME_STATE ((o - 0x1000) / 0x80), DUC_SL_STATUS_SW_RAW ((o - 0x1000) / 0x80), DUC_SL_STATUS_SW_QUAL ((o - 0x1000) / 0x80), DUC_SL_STATUS_MOVING ((o - 0x1000) / 0x80), DUC_SL_STATUS_POS_STATE ((o - 0x1000) / 0x80), DUC_SL_STATUS_MODE_ACT ((o - 0x1000) / 0x80)]
  else if 0x1000 ≤ o ∧ o < 0x1800 ∧ (o - 0x1000) % 0x80 = 0x40 then [DUC_SL_EVENT_DEMAND_LOST ((o - 0x1000) / 0x80), DUC_SL_EVENT_SOFT_LIMIT ((o - 0x1000) / 0x80), DUC_SL_EVENT_REFUSED ((o - 0x1000) / 0x80), DUC_SL_EVENT_GLITCH ((o - 0x1000) / 0x80), DUC_SL_EVENT_CHATTER ((o - 0x1000) / 0x80), DUC_SL_EVENT_LIMIT_TRIP ((o - 0x1000) / 0x80), DUC_SL_EVENT_STOPPED_HARD ((o - 0x1000) / 0x80), DUC_SL_EVENT_HOME_FAIL ((o - 0x1000) / 0x80), DUC_SL_EVENT_HOMED ((o - 0x1000) / 0x80), DUC_SL_EVENT_MOVE_DONE ((o - 0x1000) / 0x80)]
  else if 0x1000 ≤ o ∧ o < 0x1800 ∧ (o - 0x1000) % 0x80 = 0x44 then [DUC_SL_INT_EN_DEMAND_LOST ((o - 0x1000) / 0x80), DUC_SL_INT_EN_SOFT_LIMIT ((o - 0x1000) / 0x80), DUC_SL_INT_EN_REFUSED ((o - 0x1000) / 0x80), DUC_SL_INT_EN_GLITCH ((o - 0x1000) / 0x80), DUC_SL_INT_EN_CHATTER ((o - 0x1000) / 0x80), DUC_SL_INT_EN_LIMIT_TRIP ((o - 0x1000) / 0x80), DUC_SL_INT_EN_STOPPED_HARD ((o - 0x1000) / 0x80), DUC_SL_INT_EN_HOME_FAIL ((o - 0x1000) / 0x80), DUC_SL_INT_EN_HOMED ((o - 0x1000) / 0x80), DUC_SL_INT_EN_MOVE_DONE ((o - 0x1000) / 0x80)]
  else []

abbrev calBase : Nat := 0x20000A0000

def CAL_CTRL_START : Fld := .mk (calBase + (0x0)) 31 1 .w1s 0x0 false true
def CAL_CTRL_ABORT : Fld := .mk (calBase + (0x0)) 30 1 .w1s 0x0 false true
def CAL_CTRL_SAMPLES : Fld := .mk (calBase + (0x0)) 8 4 .rw 0xA false false
def CAL_CTRL_ADC_MASK : Fld := .mk (calBase + (0x0)) 0 4 .rw 0xF false false
def CAL_STATUS_BUSY : Fld := .mk (calBase + (0x4)) 31 1 .ro 0x0 false false
def CAL_STATUS_PENDING : Fld := .mk (calBase + (0x4)) 0 4 .ro 0x0 false false
def CAL_EVENT_APPLIED : Fld := .mk (calBase + (0x10)) 3 1 .w1c 0x0 false false
def CAL_EVENT_REFUSED : Fld := .mk (calBase + (0x10)) 2 1 .w1c 0x0 false false
def CAL_EVENT_RETRIM_FAIL : Fld := .mk (calBase + (0x10)) 1 1 .w1c 0x0 false false
def CAL_EVENT_RETRIM_DONE : Fld := .mk (calBase + (0x10)) 0 1 .w1c 0x0 false false
def CAL_INT_EN_APPLIED : Fld := .mk (calBase + (0x14)) 3 1 .rw 0x0 false false
def CAL_INT_EN_REFUSED : Fld := .mk (calBase + (0x14)) 2 1 .rw 0x0 false false
def CAL_INT_EN_RETRIM_FAIL : Fld := .mk (calBase + (0x14)) 1 1 .rw 0x0 false false
def CAL_INT_EN_RETRIM_DONE : Fld := .mk (calBase + (0x14)) 0 1 .rw 0x0 false false
def CAL_FACT_GAIN (a : Nat) : Fld := .mk (calBase + (0x100 + 0x20 * a + 0x0)) 16 16 .ro (Config.fuseAdcGain a).toNat false false
def CAL_FACT_OFS (a : Nat) : Fld := .mk (calBase + (0x100 + 0x20 * a + 0x0)) 0 16 .ro (Config.fuseAdcOfs a).toNat false false
def CAL_ACT_GAIN (a : Nat) : Fld := .mk (calBase + (0x100 + 0x20 * a + 0x4)) 16 16 .ro (Config.fuseAdcGain a).toNat true false
def CAL_ACT_OFS (a : Nat) : Fld := .mk (calBase + (0x100 + 0x20 * a + 0x4)) 0 16 .ro (Config.fuseAdcOfs a).toNat true false
def CAL_USER_GAIN (a : Nat) : Fld := .mk (calBase + (0x100 + 0x20 * a + 0x8)) 16 16 .rw 0x4000 false false
def CAL_USER_OFS (a : Nat) : Fld := .mk (calBase + (0x100 + 0x20 * a + 0x8)) 0 16 .rw 0 false false
def CAL_MEAS_M_REF (a : Nat) : Fld := .mk (calBase + (0x100 + 0x20 * a + 0xc)) 16 16 .ro 0x0000 false false
def CAL_MEAS_M_GND (a : Nat) : Fld := .mk (calBase + (0x100 + 0x20 * a + 0xc)) 0 16 .ro 0x0000 false false
def CAL_CMD_LOAD (a : Nat) : Fld := .mk (calBase + (0x100 + 0x20 * a + 0x10)) 31 1 .w1s 0x0 false true
def CAL_CMD_REVERT (a : Nat) : Fld := .mk (calBase + (0x100 + 0x20 * a + 0x10)) 30 1 .w1s 0x0 false true
def CAL_CMD_RESULT (a : Nat) : Fld := .mk (calBase + (0x100 + 0x20 * a + 0x10)) 0 3 .ro 0x0 false false
def CAL_CH_GAIN (a c : Nat) : Fld := .mk (calBase + (0x400 + 0x40 * a + 4 * c)) 16 16 .ro (Config.fuseChGain a c).toNat false false
def CAL_CH_OFS (a c : Nat) : Fld := .mk (calBase + (0x400 + 0x40 * a + 4 * c)) 0 16 .ro (Config.fuseChOfs a c).toNat false false
def CAL_TS_FACT_GAIN (i : Nat) : Fld := .mk (calBase + (0x800 + 8 * i + 0x0)) 16 16 .ro (Config.fuseTsGain i).toNat false false
def CAL_TS_FACT_OFS (i : Nat) : Fld := .mk (calBase + (0x800 + 8 * i + 0x0)) 0 16 .ro (Config.fuseTsOfs i).toNat false false
def CAL_TS_OFS_OFS (i : Nat) : Fld := .mk (calBase + (0x800 + 8 * i + 0x4)) 0 16 .rw (Config.fuseTsOfs i).toNat false true
def CAL_PWR_COEF (i : Nat) : Fld := .mk (calBase + (0xc00 + 0x4 * i + 0x0)) 0 32 .ro (Config.fusePwr i).toNat false false

/-- The fields of the word at offset o of this block; none where the offset is unassigned (R8). -/
def calAt (o : Nat) : List Fld :=
  if o = 0x0 then [CAL_CTRL_START, CAL_CTRL_ABORT, CAL_CTRL_SAMPLES, CAL_CTRL_ADC_MASK]
  else if o = 0x4 then [CAL_STATUS_BUSY, CAL_STATUS_PENDING]
  else if o = 0x10 then [CAL_EVENT_APPLIED, CAL_EVENT_REFUSED, CAL_EVENT_RETRIM_FAIL, CAL_EVENT_RETRIM_DONE]
  else if o = 0x14 then [CAL_INT_EN_APPLIED, CAL_INT_EN_REFUSED, CAL_INT_EN_RETRIM_FAIL, CAL_INT_EN_RETRIM_DONE]
  else if 0x100 ≤ o ∧ o < 0x180 ∧ (o - 0x100) % 0x20 = 0x0 then [CAL_FACT_GAIN ((o - 0x100) / 0x20), CAL_FACT_OFS ((o - 0x100) / 0x20)]
  else if 0x100 ≤ o ∧ o < 0x180 ∧ (o - 0x100) % 0x20 = 0x4 then [CAL_ACT_GAIN ((o - 0x100) / 0x20), CAL_ACT_OFS ((o - 0x100) / 0x20)]
  else if 0x100 ≤ o ∧ o < 0x180 ∧ (o - 0x100) % 0x20 = 0x8 then [CAL_USER_GAIN ((o - 0x100) / 0x20), CAL_USER_OFS ((o - 0x100) / 0x20)]
  else if 0x100 ≤ o ∧ o < 0x180 ∧ (o - 0x100) % 0x20 = 0xc then [CAL_MEAS_M_REF ((o - 0x100) / 0x20), CAL_MEAS_M_GND ((o - 0x100) / 0x20)]
  else if 0x100 ≤ o ∧ o < 0x180 ∧ (o - 0x100) % 0x20 = 0x10 then [CAL_CMD_LOAD ((o - 0x100) / 0x20), CAL_CMD_REVERT ((o - 0x100) / 0x20), CAL_CMD_RESULT ((o - 0x100) / 0x20)]
  else if 0x400 ≤ o ∧ o < 0x500 ∧ (o - 0x400) % 0x40 < 0x34 then [CAL_CH_GAIN ((o - 0x400) / 0x40) ((o - 0x400) % 0x40 / 4), CAL_CH_OFS ((o - 0x400) / 0x40) ((o - 0x400) % 0x40 / 4)]
  else if 0x800 ≤ o ∧ o < 0x860 ∧ (o - 0x800) % 0x8 = 0x0 then [CAL_TS_FACT_GAIN ((o - 0x800) / 0x8), CAL_TS_FACT_OFS ((o - 0x800) / 0x8)]
  else if 0x800 ≤ o ∧ o < 0x860 ∧ (o - 0x800) % 0x8 = 0x4 then [CAL_TS_OFS_OFS ((o - 0x800) / 0x8)]
  else if 0xc00 ≤ o ∧ o < 0xd00 then [CAL_PWR_COEF ((o - 0xc00) / 4)]
  else []

end Sys2Proof.Machine
end

