-- ==== Sys2Proof/Machine/RegChip.lean ====
section
/-!
DEFINITION. The register fields of the chip: SYS (R444, R454, R483), Inkwell, Copybook (R338), mailboxes (R339) and decoder pool (R115) as the spec's register tables give them: address, lowest bit, width, access
code (R4), reset value, whether the field is latchable (R21) and whether a row of its own in the opcode table writes it.
One constant a field, named as the manual names the register and the field; the index parameters are the manual's
(n pen, e engine, k nib, j loop, t table, s spindle, b bus, a ADC or stage, c channel, r requester, q Scribe, m mailbox).
-/

namespace Sys2Proof.Machine

/-- Reset of INK_ARB_BASE_i (R299). -/
def arbBaseReset (i : Nat) : Nat :=
  if i = 0 ∨ i = 1 then 0x88888888 else if i = 2 ∨ i = 3 then 0x99999999 else 0x0487A766

abbrev sysBase : Nat := 0x2000000000

def SYS_CHIP_ID_PART : Fld := .mk (sysBase + (0x0)) 16 16 .ro 0x0256 false false
def SYS_CHIP_ID_STEP_LETTER : Fld := .mk (sysBase + (0x0)) 12 4 .ro 0x1 false false
def SYS_CHIP_ID_STEP_DIGIT : Fld := .mk (sysBase + (0x0)) 8 4 .ro 0x1 false false
def SYS_XING_ERR_VALID : Fld := .mk (sysBase + (0x20)) 31 1 .w1c 0x0 false false
def SYS_XING_ERR_OVERRUN : Fld := .mk (sysBase + (0x20)) 30 1 .w1c 0x0 false false
def SYS_XING_ERR_ISLAND : Fld := .mk (sysBase + (0x20)) 24 6 .ro 0x00 false false
def SYS_XING_ERR_REQUESTER : Fld := .mk (sysBase + (0x20)) 20 4 .ro 0x0 false false
def SYS_XING_ERR_ADDR_HI : Fld := .mk (sysBase + (0x20)) 0 8 .ro 0x00 false false
def SYS_XING_ADDR_ADDR_LO : Fld := .mk (sysBase + (0x24)) 0 32 .ro 0x00000000 false false
def SYS_TIME_TIME : Fld := .mk (sysBase + (0x10)) 0 64 .ro 0x0000000000000000 true false
def SYS_CTRL_KEY : Fld := .mk (sysBase + (0x30)) 16 16 .wo 0x0000 false true
def SYS_CTRL_CHIP_RESET : Fld := .mk (sysBase + (0x30)) 0 1 .wo 0x0 false true
def SYS_BOOT_STATE : Fld := .mk (sysBase + (0x40)) 28 4 .ro 0x0 false false
def SYS_BOOT_FALLBACK : Fld := .mk (sysBase + (0x40)) 27 1 .ro 0x0 false false
def SYS_BOOT_TRIAL : Fld := .mk (sysBase + (0x40)) 26 1 .ro 0x0 false false
def SYS_BOOT_SLOT : Fld := .mk (sysBase + (0x40)) 25 1 .ro 0x0 false false
def SYS_BOOT_FAIL1 : Fld := .mk (sysBase + (0x40)) 20 4 .ro 0x0 false false
def SYS_BOOT_FAIL0 : Fld := .mk (sysBase + (0x40)) 16 4 .ro 0x0 false false
def SYS_BOOT_SVN : Fld := .mk (sysBase + (0x40)) 0 16 .ro 0x0000 false false
def SYS_BOOT_VER_VERSION : Fld := .mk (sysBase + (0x48)) 0 64 .ro 0x0000000000000000 false false
def SYS_CLK_STATUS_PCIE_LOSS : Fld := .mk (sysBase + (0x44)) 1 1 .w1c 0x0 false false
def SYS_CLK_STATUS_SD_LOSS : Fld := .mk (sysBase + (0x44)) 0 1 .w1c 0x0 false false
def SYS_EVENT_THERMAL : Fld := .mk (sysBase + (0x50)) 8 8 .w1c 0x00 false false
def SYS_EVENT_RELEASE_REFUSED : Fld := .mk (sysBase + (0x50)) 4 1 .w1c 0x0 false false
def SYS_EVENT_WDT_RESET : Fld := .mk (sysBase + (0x50)) 3 1 .w1c 0x0 false false
def SYS_EVENT_WDT_WARN : Fld := .mk (sysBase + (0x50)) 2 1 .w1c 0x0 false false
def SYS_EVENT_CLK_LOSS : Fld := .mk (sysBase + (0x50)) 1 1 .w1c 0x0 false false
def SYS_EVENT_XING : Fld := .mk (sysBase + (0x50)) 0 1 .w1c 0x0 false false
def SYS_INT_EN_THERMAL : Fld := .mk (sysBase + (0x54)) 8 8 .rw 0x0 false false
def SYS_INT_EN_RELEASE_REFUSED : Fld := .mk (sysBase + (0x54)) 4 1 .rw 0x0 false false
def SYS_INT_EN_WDT_RESET : Fld := .mk (sysBase + (0x54)) 3 1 .rw 0x0 false false
def SYS_INT_EN_WDT_WARN : Fld := .mk (sysBase + (0x54)) 2 1 .rw 0x0 false false
def SYS_INT_EN_CLK_LOSS : Fld := .mk (sysBase + (0x54)) 1 1 .rw 0x0 false false
def SYS_INT_EN_XING : Fld := .mk (sysBase + (0x54)) 0 1 .rw 0x0 false false
def SYS_SCR_CTRL_RESET (q : Nat) : Fld := .mk (sysBase + (0x100 + 0x10 * q + 0x0)) 1 1 .w1s 0x0 false true
def SYS_SCR_CTRL_RELEASE (q : Nat) : Fld := .mk (sysBase + (0x100 + 0x10 * q + 0x0)) 0 1 .rw (if q = 0 then 1 else 0) false true
def SYS_SCR_WDT_TIMEOUT (q : Nat) : Fld := .mk (sysBase + (0x100 + 0x10 * q + 0x4)) 16 16 .rw 0x0000 false true
def SYS_SCR_WDT_KICK (q : Nat) : Fld := .mk (sysBase + (0x100 + 0x10 * q + 0x4)) 0 16 .wo 0x0000 false true
def SYS_SCR_STATUS_RUNNING (q : Nat) : Fld := .mk (sysBase + (0x100 + 0x10 * q + 0x8)) 31 1 .ro 0x0 true false
def SYS_SCR_STATUS_HALTED (q : Nat) : Fld := .mk (sysBase + (0x100 + 0x10 * q + 0x8)) 30 1 .ro 0x0 true false
def SYS_SCR_STATUS_WARN (q : Nat) : Fld := .mk (sysBase + (0x100 + 0x10 * q + 0x8)) 29 1 .w1c 0x0 true false
def SYS_SCR_STATUS_WDT_RESETS (q : Nat) : Fld := .mk (sysBase + (0x100 + 0x10 * q + 0x8)) 8 8 .roc 0x00 true false
def SYS_SCR_STATUS_RESETS (q : Nat) : Fld := .mk (sysBase + (0x100 + 0x10 * q + 0x8)) 0 8 .roc 0x00 true false
def SYS_IRQ_ROUTE_SCRIBES (i : Nat) : Fld := .mk (sysBase + (0x200 + 0x4 * i + 0x0)) 0 8 .rw 0x01 false false
def SYS_IRQ_PEND_MBX (q : Nat) : Fld := .mk (sysBase + (0x300 + 0x4 * q + 0x0)) 24 1 .ro 0x0 false false
def SYS_IRQ_PEND_SRC (q : Nat) : Fld := .mk (sysBase + (0x300 + 0x4 * q + 0x0)) 0 24 .ro 0x000000 false false
def SYS_TH_CTRL_THROTTLE_C : Fld := .mk (sysBase + (0x800)) 16 8 .rw 0x64 false false
def SYS_TH_CTRL_SPRINT_ENTRY_C : Fld := .mk (sysBase + (0x800)) 8 8 .rw 0x5A false false
def SYS_TH_CTRL_SPRINT_EN : Fld := .mk (sysBase + (0x800)) 0 1 .rw 0x1 false false
def SYS_TH_STATUS_THERM_TRIP : Fld := .mk (sysBase + (0x804)) 31 1 .w1c 0x0 true false
def SYS_TH_STATUS_THROTTLING : Fld := .mk (sysBase + (0x804)) 30 1 .ro 0x0 true false
def SYS_TH_STATUS_HOT : Fld := .mk (sysBase + (0x804)) 29 1 .ro 0x0 true false
def SYS_TH_STATUS_SPRINTING : Fld := .mk (sysBase + (0x804)) 28 1 .ro 0x0 true false
def SYS_TH_STATUS_HOT_SENSOR : Fld := .mk (sysBase + (0x804)) 24 4 .ro 0x0 true false
def SYS_TH_STATUS_SENSOR_OK : Fld := .mk (sysBase + (0x804)) 12 12 .ro 0x000 true false
def SYS_TH_STATUS_TJ : Fld := .mk (sysBase + (0x804)) 0 12 .ro 0x000 true false
def SYS_TH_SENSOR_CORR (i : Nat) : Fld := .mk (sysBase + (0x810 + 0x4 * i + 0x0)) 16 16 .ro 0x0000 true false
def SYS_TH_SENSOR_VALID (i : Nat) : Fld := .mk (sysBase + (0x810 + 0x4 * i + 0x0)) 15 1 .ro 0x0 true false
def SYS_TH_SENSOR_RAW (i : Nat) : Fld := .mk (sysBase + (0x810 + 0x4 * i + 0x0)) 0 12 .ro 0x000 true false
def SYS_PWR_EST : Fld := .mk (sysBase + (0x840)) 16 16 .ro 0x0000 true false
def SYS_PWR_SPRINT_LEFT : Fld := .mk (sysBase + (0x840)) 0 16 .ro 0x1770 true false
def SYS_PWR_CFG_SUSTAIN : Fld := .mk (sysBase + (0x844)) 16 16 .rw 0x0334 false false
def SYS_PWR_CFG_PEAK : Fld := .mk (sysBase + (0x844)) 0 16 .rw 0x03C0 false false
def SYS_GPIO_OE_OE : Fld := .mk (sysBase + (0x600)) 0 16 .rw 0x0000 false false
def SYS_GPIO_OUT_OUT : Fld := .mk (sysBase + (0x604)) 0 16 .rw 0x0000 false false
def SYS_GPIO_IN_IN : Fld := .mk (sysBase + (0x608)) 0 16 .ro 0x0000 true false

/-- The fields of the word at offset o of this block; none where the offset is unassigned (R8). -/
def sysAt (o : Nat) : List Fld :=
  if o = 0x0 then [SYS_CHIP_ID_PART, SYS_CHIP_ID_STEP_LETTER, SYS_CHIP_ID_STEP_DIGIT]
  else if o = 0x20 then [SYS_XING_ERR_VALID, SYS_XING_ERR_OVERRUN, SYS_XING_ERR_ISLAND, SYS_XING_ERR_REQUESTER, SYS_XING_ERR_ADDR_HI]
  else if o = 0x24 then [SYS_XING_ADDR_ADDR_LO]
  else if o = 0x10 then [SYS_TIME_TIME]
  else if o = 0x14 then [SYS_TIME_TIME]
  else if o = 0x30 then [SYS_CTRL_KEY, SYS_CTRL_CHIP_RESET]
  else if o = 0x40 then [SYS_BOOT_STATE, SYS_BOOT_FALLBACK, SYS_BOOT_TRIAL, SYS_BOOT_SLOT, SYS_BOOT_FAIL1, SYS_BOOT_FAIL0, SYS_BOOT_SVN]
  else if o = 0x48 then [SYS_BOOT_VER_VERSION]
  else if o = 0x4c then [SYS_BOOT_VER_VERSION]
  else if o = 0x44 then [SYS_CLK_STATUS_PCIE_LOSS, SYS_CLK_STATUS_SD_LOSS]
  else if o = 0x50 then [SYS_EVENT_THERMAL, SYS_EVENT_RELEASE_REFUSED, SYS_EVENT_WDT_RESET, SYS_EVENT_WDT_WARN, SYS_EVENT_CLK_LOSS, SYS_EVENT_XING]
  else if o = 0x54 then [SYS_INT_EN_THERMAL, SYS_INT_EN_RELEASE_REFUSED, SYS_INT_EN_WDT_RESET, SYS_INT_EN_WDT_WARN, SYS_INT_EN_CLK_LOSS, SYS_INT_EN_XING]
  else if 0x100 ≤ o ∧ o < 0x180 ∧ (o - 0x100) % 0x10 = 0x0 then [SYS_SCR_CTRL_RESET ((o - 0x100) / 0x10), SYS_SCR_CTRL_RELEASE ((o - 0x100) / 0x10)]
  else if 0x100 ≤ o ∧ o < 0x180 ∧ (o - 0x100) % 0x10 = 0x4 then [SYS_SCR_WDT_TIMEOUT ((o - 0x100) / 0x10), SYS_SCR_WDT_KICK ((o - 0x100) / 0x10)]
  else if 0x100 ≤ o ∧ o < 0x180 ∧ (o - 0x100) % 0x10 = 0x8 then [SYS_SCR_STATUS_RUNNING ((o - 0x100) / 0x10), SYS_SCR_STATUS_HALTED ((o - 0x100) / 0x10), SYS_SCR_STATUS_WARN ((o - 0x100) / 0x10), SYS_SCR_STATUS_WDT_RESETS ((o - 0x100) / 0x10), SYS_SCR_STATUS_RESETS ((o - 0x100) / 0x10)]
  else if 0x200 ≤ o ∧ o < 0x260 then [SYS_IRQ_ROUTE_SCRIBES ((o - 0x200) / 4)]
  else if 0x300 ≤ o ∧ o < 0x320 then [SYS_IRQ_PEND_MBX ((o - 0x300) / 4), SYS_IRQ_PEND_SRC ((o - 0x300) / 4)]
  else if o = 0x800 then [SYS_TH_CTRL_THROTTLE_C, SYS_TH_CTRL_SPRINT_ENTRY_C, SYS_TH_CTRL_SPRINT_EN]
  else if o = 0x804 then [SYS_TH_STATUS_THERM_TRIP, SYS_TH_STATUS_THROTTLING, SYS_TH_STATUS_HOT, SYS_TH_STATUS_SPRINTING, SYS_TH_STATUS_HOT_SENSOR, SYS_TH_STATUS_SENSOR_OK, SYS_TH_STATUS_TJ]
  else if 0x810 ≤ o ∧ o < 0x840 then [SYS_TH_SENSOR_CORR ((o - 0x810) / 4), SYS_TH_SENSOR_VALID ((o - 0x810) / 4), SYS_TH_SENSOR_RAW ((o - 0x810) / 4)]
  else if o = 0x840 then [SYS_PWR_EST, SYS_PWR_SPRINT_LEFT]
  else if o = 0x844 then [SYS_PWR_CFG_SUSTAIN, SYS_PWR_CFG_PEAK]
  else if o = 0x600 then [SYS_GPIO_OE_OE]
  else if o = 0x604 then [SYS_GPIO_OUT_OUT]
  else if o = 0x608 then [SYS_GPIO_IN_IN]
  else []

abbrev inkBase : Nat := 0x2000010000

def INK_CTRL_SR_REQ : Fld := .mk (inkBase + (0x0)) 0 1 .rw 0x0 false true
def INK_STATUS_FILL_DONE : Fld := .mk (inkBase + (0x4)) 31 1 .ro 0x0 false false
def INK_STATUS_FILL_RUN : Fld := .mk (inkBase + (0x4)) 30 1 .ro 0x0 false false
def INK_STATUS_SR_STATE : Fld := .mk (inkBase + (0x4)) 28 2 .ro 0x0 false false
def INK_STATUS_FILL_MARK : Fld := .mk (inkBase + (0x4)) 0 16 .ro 0x0000 false false
def INK_ADDR_ERR_VALID : Fld := .mk (inkBase + (0x10)) 63 1 .w1c 0x0 false false
def INK_ADDR_ERR_OVERRUN : Fld := .mk (inkBase + (0x10)) 62 1 .w1c 0x0 false false
def INK_ADDR_ERR_SOURCE : Fld := .mk (inkBase + (0x10)) 56 6 .ro 0x00 false false
def INK_ADDR_ERR_ADDR : Fld := .mk (inkBase + (0x10)) 6 34 .ro 0x000000000 false false
def INK_UE_LOG_VALID : Fld := .mk (inkBase + (0x18)) 63 1 .w1c 0x0 false false
def INK_UE_LOG_OVERRUN : Fld := .mk (inkBase + (0x18)) 62 1 .w1c 0x0 false false
def INK_UE_LOG_SOURCE : Fld := .mk (inkBase + (0x18)) 56 6 .ro 0x00 false false
def INK_UE_LOG_ADDR : Fld := .mk (inkBase + (0x18)) 6 34 .ro 0x000000000 false false
def INK_ECC_CTRL_UE_WIN : Fld := .mk (inkBase + (0x20)) 24 8 .rw 0x64 false false
def INK_ECC_CTRL_UE_LIMIT : Fld := .mk (inkBase + (0x20)) 16 8 .rw 0x10 false false
def INK_ECC_CTRL_UE_WB : Fld := .mk (inkBase + (0x20)) 1 1 .rw 0x1 false false
def INK_ECC_CTRL_CE_WB : Fld := .mk (inkBase + (0x20)) 0 1 .rw 0x1 false false
def INK_EVENT_SR_EXIT : Fld := .mk (inkBase + (0x30)) 8 1 .w1c 0x0 false false
def INK_EVENT_SCRUB_LAP : Fld := .mk (inkBase + (0x30)) 7 1 .w1c 0x0 false false
def INK_EVENT_TEST_REFUSED : Fld := .mk (inkBase + (0x30)) 6 1 .w1c 0x0 false false
def INK_EVENT_TEST_DONE : Fld := .mk (inkBase + (0x30)) 5 1 .w1c 0x0 false false
def INK_EVENT_ADDR_ERR : Fld := .mk (inkBase + (0x30)) 4 1 .w1c 0x0 false false
def INK_EVENT_UE_RATE : Fld := .mk (inkBase + (0x30)) 3 1 .w1c 0x0 false false
def INK_EVENT_UE : Fld := .mk (inkBase + (0x30)) 2 1 .w1c 0x0 false false
def INK_EVENT_CE : Fld := .mk (inkBase + (0x30)) 1 1 .w1c 0x0 false false
def INK_EVENT_FILL_DONE : Fld := .mk (inkBase + (0x30)) 0 1 .w1c 0x0 false false
def INK_INT_EN_SR_EXIT : Fld := .mk (inkBase + (0x34)) 8 1 .rw 0x0 false false
def INK_INT_EN_SCRUB_LAP : Fld := .mk (inkBase + (0x34)) 7 1 .rw 0x0 false false
def INK_INT_EN_TEST_REFUSED : Fld := .mk (inkBase + (0x34)) 6 1 .rw 0x0 false false
def INK_INT_EN_TEST_DONE : Fld := .mk (inkBase + (0x34)) 5 1 .rw 0x0 false false
def INK_INT_EN_ADDR_ERR : Fld := .mk (inkBase + (0x34)) 4 1 .rw 0x0 false false
def INK_INT_EN_UE_RATE : Fld := .mk (inkBase + (0x34)) 3 1 .rw 0x0 false false
def INK_INT_EN_UE : Fld := .mk (inkBase + (0x34)) 2 1 .rw 0x0 false false
def INK_INT_EN_CE : Fld := .mk (inkBase + (0x34)) 1 1 .rw 0x0 false false
def INK_INT_EN_FILL_DONE : Fld := .mk (inkBase + (0x34)) 0 1 .rw 0x0 false false
def INK_ARB_CTRL_CLR_ON_LATCH : Fld := .mk (inkBase + (0x100)) 0 1 .rw 0x1 false false
def INK_ARB_BASE_BASE (i : Nat) : Fld := .mk (inkBase + (0x110 + 0x4 * i + 0x0)) 0 32 .rw (arbBaseReset i) false true
def INK_ARB_GRANTS_GRANTS (r : Nat) : Fld := .mk (inkBase + (0x1000 + 0x20 * r + 0x0)) 0 48 .ro 0x000000000000 true false
def INK_ARB_WAIT_WAIT (r : Nat) : Fld := .mk (inkBase + (0x1000 + 0x20 * r + 0x8)) 0 48 .ro 0x000000000000 true false
def INK_ARB_LONGEST_LONGEST (r : Nat) : Fld := .mk (inkBase + (0x1000 + 0x20 * r + 0x10)) 0 32 .w1c 0x00000000 true true
def INK_CH_SCRUB_EN (c : Nat) : Fld := .mk (inkBase + (0x400 + 0x40 * c + 0x0)) 31 1 .rw 0x1 false false
def INK_CH_SCRUB_BUSY (c : Nat) : Fld := .mk (inkBase + (0x400 + 0x40 * c + 0x0)) 30 1 .ro 0x0 false false
def INK_CH_SCRUB_GAP (c : Nat) : Fld := .mk (inkBase + (0x400 + 0x40 * c + 0x0)) 0 16 .rw 0x0040 false false
def INK_CH_SCRUB_POS_POS (c : Nat) : Fld := .mk (inkBase + (0x400 + 0x40 * c + 0x4)) 0 27 .ro 0x0000000 true false
def INK_CH_LAP_LAST_MS (c : Nat) : Fld := .mk (inkBase + (0x400 + 0x40 * c + 0x8)) 0 32 .ro 0x00000000 true false
def INK_CH_LAP_MAX_MS (c : Nat) : Fld := .mk (inkBase + (0x400 + 0x40 * c + 0xc)) 0 32 .roc 0x00000000 true false
def INK_CH_LAP_ELAPSED_MS (c : Nat) : Fld := .mk (inkBase + (0x400 + 0x40 * c + 0x10)) 0 32 .ro 0x00000000 true false
def INK_CH_ERRCNT_UE (c : Nat) : Fld := .mk (inkBase + (0x400 + 0x40 * c + 0x14)) 16 16 .roc 0x0000 true false
def INK_CH_ERRCNT_CE (c : Nat) : Fld := .mk (inkBase + (0x400 + 0x40 * c + 0x14)) 0 16 .roc 0x0000 true false
def INK_CH_STATUS_RR_PTR (c : Nat) : Fld := .mk (inkBase + (0x400 + 0x40 * c + 0x18)) 16 6 .ro 0x00 true false
def INK_CH_STATUS_QUEUED (c : Nat) : Fld := .mk (inkBase + (0x400 + 0x40 * c + 0x18)) 0 6 .ro 0x00 true false
def INK_ECC_TEST_HALF : Fld := .mk (inkBase + (0x40)) 3 1 .ro 0x0 false false
def INK_ECC_TEST_STORE : Fld := .mk (inkBase + (0x40)) 2 1 .w1s 0x0 false true
def INK_ECC_TEST_ARM : Fld := .mk (inkBase + (0x40)) 1 1 .w1s 0x0 false true
def INK_ECC_TEST_MECH : Fld := .mk (inkBase + (0x40)) 0 1 .rw 0x0 false true
def INK_ECC_TEST_ADDR_ADDR : Fld := .mk (inkBase + (0x44)) 6 34 .rw 0x000000000 false false
def INK_ECC_TEST_DFLIP_DFLIP : Fld := .mk (inkBase + (0x50)) 0 64 .rw 0x0000000000000000 false false
def INK_ECC_TEST_CHECK_CHECK : Fld := .mk (inkBase + (0x58)) 0 32 .rw 0x00000000 false false

/-- The fields of the word at offset o of this block; none where the offset is unassigned (R8). -/
def inkAt (o : Nat) : List Fld :=
  if o = 0x0 then [INK_CTRL_SR_REQ]
  else if o = 0x4 then [INK_STATUS_FILL_DONE, INK_STATUS_FILL_RUN, INK_STATUS_SR_STATE, INK_STATUS_FILL_MARK]
  else if o = 0x10 then [INK_ADDR_ERR_ADDR]
  else if o = 0x14 then [INK_ADDR_ERR_VALID, INK_ADDR_ERR_OVERRUN, INK_ADDR_ERR_SOURCE, INK_ADDR_ERR_ADDR]
  else if o = 0x18 then [INK_UE_LOG_ADDR]
  else if o = 0x1c then [INK_UE_LOG_VALID, INK_UE_LOG_OVERRUN, INK_UE_LOG_SOURCE, INK_UE_LOG_ADDR]
  else if o = 0x20 then [INK_ECC_CTRL_UE_WIN, INK_ECC_CTRL_UE_LIMIT, INK_ECC_CTRL_UE_WB, INK_ECC_CTRL_CE_WB]
  else if o = 0x30 then [INK_EVENT_SR_EXIT, INK_EVENT_SCRUB_LAP, INK_EVENT_TEST_REFUSED, INK_EVENT_TEST_DONE, INK_EVENT_ADDR_ERR, INK_EVENT_UE_RATE, INK_EVENT_UE, INK_EVENT_CE, INK_EVENT_FILL_DONE]
  else if o = 0x34 then [INK_INT_EN_SR_EXIT, INK_INT_EN_SCRUB_LAP, INK_INT_EN_TEST_REFUSED, INK_INT_EN_TEST_DONE, INK_INT_EN_ADDR_ERR, INK_INT_EN_UE_RATE, INK_INT_EN_UE, INK_INT_EN_CE, INK_INT_EN_FILL_DONE]
  else if o = 0x100 then [INK_ARB_CTRL_CLR_ON_LATCH]
  else if 0x110 ≤ o ∧ o < 0x124 then [INK_ARB_BASE_BASE ((o - 0x110) / 4)]
  else if 0x1000 ≤ o ∧ o < 0x1500 ∧ (o - 0x1000) % 0x20 = 0x0 then [INK_ARB_GRANTS_GRANTS ((o - 0x1000) / 0x20)]
  else if 0x1000 ≤ o ∧ o < 0x1500 ∧ (o - 0x1000) % 0x20 = 0x4 then [INK_ARB_GRANTS_GRANTS ((o - 0x1000) / 0x20)]
  else if 0x1000 ≤ o ∧ o < 0x1500 ∧ (o - 0x1000) % 0x20 = 0x8 then [INK_ARB_WAIT_WAIT ((o - 0x1000) / 0x20)]
  else if 0x1000 ≤ o ∧ o < 0x1500 ∧ (o - 0x1000) % 0x20 = 0xc then [INK_ARB_WAIT_WAIT ((o - 0x1000) / 0x20)]
  else if 0x1000 ≤ o ∧ o < 0x1500 ∧ (o - 0x1000) % 0x20 = 0x10 then [INK_ARB_LONGEST_LONGEST ((o - 0x1000) / 0x20)]
  else if 0x400 ≤ o ∧ o < 0x600 ∧ (o - 0x400) % 0x40 = 0x0 then [INK_CH_SCRUB_EN ((o - 0x400) / 0x40), INK_CH_SCRUB_BUSY ((o - 0x400) / 0x40), INK_CH_SCRUB_GAP ((o - 0x400) / 0x40)]
  else if 0x400 ≤ o ∧ o < 0x600 ∧ (o - 0x400) % 0x40 = 0x4 then [INK_CH_SCRUB_POS_POS ((o - 0x400) / 0x40)]
  else if 0x400 ≤ o ∧ o < 0x600 ∧ (o - 0x400) % 0x40 = 0x8 then [INK_CH_LAP_LAST_MS ((o - 0x400) / 0x40)]
  else if 0x400 ≤ o ∧ o < 0x600 ∧ (o - 0x400) % 0x40 = 0xc then [INK_CH_LAP_MAX_MS ((o - 0x400) / 0x40)]
  else if 0x400 ≤ o ∧ o < 0x600 ∧ (o - 0x400) % 0x40 = 0x10 then [INK_CH_LAP_ELAPSED_MS ((o - 0x400) / 0x40)]
  else if 0x400 ≤ o ∧ o < 0x600 ∧ (o - 0x400) % 0x40 = 0x14 then [INK_CH_ERRCNT_UE ((o - 0x400) / 0x40), INK_CH_ERRCNT_CE ((o - 0x400) / 0x40)]
  else if 0x400 ≤ o ∧ o < 0x600 ∧ (o - 0x400) % 0x40 = 0x18 then [INK_CH_STATUS_RR_PTR ((o - 0x400) / 0x40), INK_CH_STATUS_QUEUED ((o - 0x400) / 0x40)]
  else if o = 0x40 then [INK_ECC_TEST_HALF, INK_ECC_TEST_STORE, INK_ECC_TEST_ARM, INK_ECC_TEST_MECH]
  else if o = 0x44 then [INK_ECC_TEST_ADDR_ADDR]
  else if o = 0x48 then [INK_ECC_TEST_ADDR_ADDR]
  else if o = 0x50 then [INK_ECC_TEST_DFLIP_DFLIP]
  else if o = 0x54 then [INK_ECC_TEST_DFLIP_DFLIP]
  else if o = 0x58 then [INK_ECC_TEST_CHECK_CHECK]
  else []

abbrev cpbBase : Nat := 0x2000020000

def CPB_CTRL_DEFAULT : Fld := .mk (cpbBase + (0x0)) 0 2 .rw 0x0 false false
def CPB_STATUS_LOCKED_HOLE : Fld := .mk (cpbBase + (0x4)) 31 1 .ro 0x0 false false
def CPB_STATUS_BUSY : Fld := .mk (cpbBase + (0x4)) 30 1 .ro 0x0 false false
def CPB_STATUS_SCRATCH_BUSY : Fld := .mk (cpbBase + (0x4)) 29 1 .ro 0x0 false false
def CPB_STATUS_VICTIMS : Fld := .mk (cpbBase + (0x4)) 0 3 .ro 0x0 false false
def CPB_LFSR_LFSR : Fld := .mk (cpbBase + (0x8)) 0 16 .rw 0xACE1 false false
def CPB_SCRATCH_COUNT : Fld := .mk (cpbBase + (0xc)) 0 4 .rw 0x0 false true
def CPB_OP_DONE : Fld := .mk (cpbBase + (0x10)) 31 1 .ro 0x0 false false
def CPB_OP_START : Fld := .mk (cpbBase + (0x10)) 30 1 .w1s 0x0 false true
def CPB_OP_OK : Fld := .mk (cpbBase + (0x10)) 29 1 .ro 0x0 false false
def CPB_OP_WAY : Fld := .mk (cpbBase + (0x10)) 4 4 .rw 0x0 false false
def CPB_OP_KIND : Fld := .mk (cpbBase + (0x10)) 0 3 .rw 0x0 false false
def CPB_OP_ADDR_ADDR : Fld := .mk (cpbBase + (0x18)) 7 33 .rw 0x000000000 false false
def CPB_OP_LINES_LINES : Fld := .mk (cpbBase + (0x20)) 0 20 .rw 0x00000 false false
def CPB_EVENT_SRAM_UE : Fld := .mk (cpbBase + (0x40)) 6 1 .w1c 0x0 false false
def CPB_EVENT_SRAM_CE : Fld := .mk (cpbBase + (0x40)) 5 1 .w1c 0x0 false false
def CPB_EVENT_POISON : Fld := .mk (cpbBase + (0x40)) 4 1 .w1c 0x0 false false
def CPB_EVENT_LOCKED_HOLE : Fld := .mk (cpbBase + (0x40)) 3 1 .w1c 0x0 false false
def CPB_EVENT_CFG_REFUSED : Fld := .mk (cpbBase + (0x40)) 2 1 .w1c 0x0 false false
def CPB_EVENT_OP_REFUSED : Fld := .mk (cpbBase + (0x40)) 1 1 .w1c 0x0 false false
def CPB_EVENT_OP_DONE : Fld := .mk (cpbBase + (0x40)) 0 1 .w1c 0x0 false false
def CPB_INT_EN_SRAM_UE : Fld := .mk (cpbBase + (0x44)) 6 1 .rw 0x0 false false
def CPB_INT_EN_SRAM_CE : Fld := .mk (cpbBase + (0x44)) 5 1 .rw 0x0 false false
def CPB_INT_EN_POISON : Fld := .mk (cpbBase + (0x44)) 4 1 .rw 0x0 false false
def CPB_INT_EN_LOCKED_HOLE : Fld := .mk (cpbBase + (0x44)) 3 1 .rw 0x0 false false
def CPB_INT_EN_CFG_REFUSED : Fld := .mk (cpbBase + (0x44)) 2 1 .rw 0x0 false false
def CPB_INT_EN_OP_REFUSED : Fld := .mk (cpbBase + (0x44)) 1 1 .rw 0x0 false false
def CPB_INT_EN_OP_DONE : Fld := .mk (cpbBase + (0x44)) 0 1 .rw 0x0 false false
def CPB_POISON_LOG_VALID : Fld := .mk (cpbBase + (0x50)) 63 1 .w1c 0x0 false false
def CPB_POISON_LOG_OVERRUN : Fld := .mk (cpbBase + (0x50)) 62 1 .w1c 0x0 false false
def CPB_POISON_LOG_SCRIBE : Fld := .mk (cpbBase + (0x50)) 58 4 .ro 0x0 false false
def CPB_POISON_LOG_ADDR : Fld := .mk (cpbBase + (0x50)) 0 40 .ro 0x0000000000 false false
def CPB_CNT_HIT_COUNT : Fld := .mk (cpbBase + (0x60)) 0 48 .ro 0x000000000000 true false
def CPB_CNT_MISS_COUNT : Fld := .mk (cpbBase + (0x68)) 0 48 .ro 0x000000000000 true false
def CPB_CNT_MISC_VICTIM_HITS : Fld := .mk (cpbBase + (0x70)) 16 16 .roc 0x0000 true false
def CPB_CNT_MISC_BYPASS : Fld := .mk (cpbBase + (0x70)) 0 16 .roc 0x0000 true false
def CPB_WAY_UNLOCK (w : Nat) : Fld := .mk (cpbBase + (0x100 + 0x4 * w + 0x0)) 31 1 .w1s 0x0 false true
def CPB_WAY_LOCKED (w : Nat) : Fld := .mk (cpbBase + (0x100 + 0x4 * w + 0x0)) 30 1 .ro 0x0 false false
def CPB_WAY_HOLE (w : Nat) : Fld := .mk (cpbBase + (0x100 + 0x4 * w + 0x0)) 29 1 .ro 0x0 false false
def CPB_WAY_SCRATCH (w : Nat) : Fld := .mk (cpbBase + (0x100 + 0x4 * w + 0x0)) 28 1 .ro 0x0 false false
def CPB_WAY_BASE (w : Nat) : Fld := .mk (cpbBase + (0x100 + 0x4 * w + 0x0)) 0 21 .ro 0x00000 false false
def CPB_REGION_BASE (i : Nat) : Fld := .mk (cpbBase + (0x200 + 0x8 * i + 0x0)) 16 24 .rw 0x000000 false false
def CPB_REGION_SIZE (i : Nat) : Fld := .mk (cpbBase + (0x200 + 0x8 * i + 0x0)) 4 6 .rw 0x10 false false
def CPB_REGION_EN (i : Nat) : Fld := .mk (cpbBase + (0x200 + 0x8 * i + 0x0)) 3 1 .rw 0x0 false false
def CPB_REGION_POL (i : Nat) : Fld := .mk (cpbBase + (0x200 + 0x8 * i + 0x0)) 0 2 .rw 0x0 false false

/-- The fields of the word at offset o of this block; none where the offset is unassigned (R8). -/
def cpbAt (o : Nat) : List Fld :=
  if o = 0x0 then [CPB_CTRL_DEFAULT]
  else if o = 0x4 then [CPB_STATUS_LOCKED_HOLE, CPB_STATUS_BUSY, CPB_STATUS_SCRATCH_BUSY, CPB_STATUS_VICTIMS]
  else if o = 0x8 then [CPB_LFSR_LFSR]
  else if o = 0xc then [CPB_SCRATCH_COUNT]
  else if o = 0x10 then [CPB_OP_DONE, CPB_OP_START, CPB_OP_OK, CPB_OP_WAY, CPB_OP_KIND]
  else if o = 0x18 then [CPB_OP_ADDR_ADDR]
  else if o = 0x1c then [CPB_OP_ADDR_ADDR]
  else if o = 0x20 then [CPB_OP_LINES_LINES]
  else if o = 0x40 then [CPB_EVENT_SRAM_UE, CPB_EVENT_SRAM_CE, CPB_EVENT_POISON, CPB_EVENT_LOCKED_HOLE, CPB_EVENT_CFG_REFUSED, CPB_EVENT_OP_REFUSED, CPB_EVENT_OP_DONE]
  else if o = 0x44 then [CPB_INT_EN_SRAM_UE, CPB_INT_EN_SRAM_CE, CPB_INT_EN_POISON, CPB_INT_EN_LOCKED_HOLE, CPB_INT_EN_CFG_REFUSED, CPB_INT_EN_OP_REFUSED, CPB_INT_EN_OP_DONE]
  else if o = 0x50 then [CPB_POISON_LOG_ADDR]
  else if o = 0x54 then [CPB_POISON_LOG_VALID, CPB_POISON_LOG_OVERRUN, CPB_POISON_LOG_SCRIBE, CPB_POISON_LOG_ADDR]
  else if o = 0x60 then [CPB_CNT_HIT_COUNT]
  else if o = 0x64 then [CPB_CNT_HIT_COUNT]
  else if o = 0x68 then [CPB_CNT_MISS_COUNT]
  else if o = 0x6c then [CPB_CNT_MISS_COUNT]
  else if o = 0x70 then [CPB_CNT_MISC_VICTIM_HITS, CPB_CNT_MISC_BYPASS]
  else if 0x100 ≤ o ∧ o < 0x140 then [CPB_WAY_UNLOCK ((o - 0x100) / 4), CPB_WAY_LOCKED ((o - 0x100) / 4), CPB_WAY_HOLE ((o - 0x100) / 4), CPB_WAY_SCRATCH ((o - 0x100) / 4), CPB_WAY_BASE ((o - 0x100) / 4)]
  else if 0x200 ≤ o ∧ o < 0x280 ∧ (o - 0x200) % 0x8 = 0x0 then [CPB_REGION_BASE ((o - 0x200) / 0x8), CPB_REGION_SIZE ((o - 0x200) / 0x8), CPB_REGION_EN ((o - 0x200) / 0x8), CPB_REGION_POL ((o - 0x200) / 0x8)]
  else if 0x200 ≤ o ∧ o < 0x280 ∧ (o - 0x200) % 0x8 = 0x4 then [CPB_REGION_BASE ((o - 0x200) / 0x8)]
  else []

abbrev mbxBase : Nat := 0x2000050000

def MBX_CTRL_CANCEL (m : Nat) : Fld := .mk (mbxBase + (0x4000 + 0x10 * m + 0x0)) 4 1 .w1s 0x0 false true
def MBX_CTRL_ACK (m : Nat) : Fld := .mk (mbxBase + (0x4000 + 0x10 * m + 0x0)) 3 1 .w1s 0x0 false true
def MBX_CTRL_COMPLETE (m : Nat) : Fld := .mk (mbxBase + (0x4000 + 0x10 * m + 0x0)) 2 1 .w1s 0x0 false true
def MBX_CTRL_TAKE (m : Nat) : Fld := .mk (mbxBase + (0x4000 + 0x10 * m + 0x0)) 1 1 .w1s 0x0 false true
def MBX_CTRL_POST (m : Nat) : Fld := .mk (mbxBase + (0x4000 + 0x10 * m + 0x0)) 0 1 .w1s 0x0 false true
def MBX_STATUS_STATE (m : Nat) : Fld := .mk (mbxBase + (0x4000 + 0x10 * m + 0x4)) 30 2 .ro 0x0 false false
def MBX_STATUS_CANCEL_REQ (m : Nat) : Fld := .mk (mbxBase + (0x4000 + 0x10 * m + 0x4)) 29 1 .ro 0x0 false false
def MBX_STATUS_RETAKEN (m : Nat) : Fld := .mk (mbxBase + (0x4000 + 0x10 * m + 0x4)) 28 1 .ro 0x0 false false
def MBX_STATUS_ORPHAN (m : Nat) : Fld := .mk (mbxBase + (0x4000 + 0x10 * m + 0x4)) 27 1 .ro 0x0 false false
def MBX_STATUS_READ_COUNT (m : Nat) : Fld := .mk (mbxBase + (0x4000 + 0x10 * m + 0x4)) 4 3 .ro 0x0 false false
def MBX_STATUS_TAKER (m : Nat) : Fld := .mk (mbxBase + (0x4000 + 0x10 * m + 0x4)) 0 4 .ro 0xF false false
def MBX_CFG_FUNC (m : Nat) : Fld := .mk (mbxBase + (0x4000 + 0x10 * m + 0x8)) 4 1 .rw 0x0 false true
def MBX_CFG_SCRIBE (m : Nat) : Fld := .mk (mbxBase + (0x4000 + 0x10 * m + 0x8)) 0 3 .rw 0x0 false true
def MBX_POSTED_MASK : Fld := .mk (mbxBase + (0x4400)) 0 32 .ro 0x00000000 false false
def MBX_DONE_MASK : Fld := .mk (mbxBase + (0x4404)) 0 32 .ro 0x00000000 false false
def MBX_PROTO_ERR_MASK : Fld := .mk (mbxBase + (0x4408)) 0 32 .w1c 0x00000000 false false
def MBX_SEAL_TAKE (i : Nat) : Fld := .mk (mbxBase + (0x6000 + 0x4 * i + 0x0)) 31 1 .w1s 0x0 false true
def MBX_SEAL_RELEASE (i : Nat) : Fld := .mk (mbxBase + (0x6000 + 0x4 * i + 0x0)) 30 1 .w1s 0x0 false true
def MBX_SEAL_CLEAR_BROKEN (i : Nat) : Fld := .mk (mbxBase + (0x6000 + 0x4 * i + 0x0)) 29 1 .w1s 0x0 false true
def MBX_SEAL_BROKEN (i : Nat) : Fld := .mk (mbxBase + (0x6000 + 0x4 * i + 0x0)) 28 1 .ro 0x0 false false
def MBX_SEAL_OWNER (i : Nat) : Fld := .mk (mbxBase + (0x6000 + 0x4 * i + 0x0)) 24 4 .ro 0xF false false
def MBX_SEAL_CONTEND (i : Nat) : Fld := .mk (mbxBase + (0x6000 + 0x4 * i + 0x0)) 0 8 .roc 0x00 false true
def MBX_SEAL_BROKEN_MASK : Fld := .mk (mbxBase + (0x6100)) 0 64 .w1c 0x0000000000000000 false false
def MBX_SEAL_ERR_MASK : Fld := .mk (mbxBase + (0x6108)) 0 64 .w1c 0x0000000000000000 false false
/-- Word i of the request area of mailbox m (R339). -/
def MBX_REQ_WORD (m i : Nat) : Fld := .mk (mbxBase + (0x200 * m + 4 * i)) 0 32 .rw 0 false true
def MBX_RES_WORD (m i : Nat) : Fld := .mk (mbxBase + (0x200 * m + 0x100 + 4 * i)) 0 32 .rw 0 false true

/-- The fields of the word at offset o of this block; none where the offset is unassigned (R8). -/
def mbxAt (o : Nat) : List Fld :=
  if 0x4000 ≤ o ∧ o < 0x4200 ∧ (o - 0x4000) % 0x10 = 0x0 then [MBX_CTRL_CANCEL ((o - 0x4000) / 0x10), MBX_CTRL_ACK ((o - 0x4000) / 0x10), MBX_CTRL_COMPLETE ((o - 0x4000) / 0x10), MBX_CTRL_TAKE ((o - 0x4000) / 0x10), MBX_CTRL_POST ((o - 0x4000) / 0x10)]
  else if 0x4000 ≤ o ∧ o < 0x4200 ∧ (o - 0x4000) % 0x10 = 0x4 then [MBX_STATUS_STATE ((o - 0x4000) / 0x10), MBX_STATUS_CANCEL_REQ ((o - 0x4000) / 0x10), MBX_STATUS_RETAKEN ((o - 0x4000) / 0x10), MBX_STATUS_ORPHAN ((o - 0x4000) / 0x10), MBX_STATUS_READ_COUNT ((o - 0x4000) / 0x10), MBX_STATUS_TAKER ((o - 0x4000) / 0x10)]
  else if 0x4000 ≤ o ∧ o < 0x4200 ∧ (o - 0x4000) % 0x10 = 0x8 then [MBX_CFG_FUNC ((o - 0x4000) / 0x10), MBX_CFG_SCRIBE ((o - 0x4000) / 0x10)]
  else if o = 0x4400 then [MBX_POSTED_MASK]
  else if o = 0x4404 then [MBX_DONE_MASK]
  else if o = 0x4408 then [MBX_PROTO_ERR_MASK]
  else if 0x6000 ≤ o ∧ o < 0x6100 then [MBX_SEAL_TAKE ((o - 0x6000) / 4), MBX_SEAL_RELEASE ((o - 0x6000) / 4), MBX_SEAL_CLEAR_BROKEN ((o - 0x6000) / 4), MBX_SEAL_BROKEN ((o - 0x6000) / 4), MBX_SEAL_OWNER ((o - 0x6000) / 4), MBX_SEAL_CONTEND ((o - 0x6000) / 4)]
  else if o = 0x6100 then [MBX_SEAL_BROKEN_MASK]
  else if o = 0x6104 then [MBX_SEAL_BROKEN_MASK]
  else if o = 0x6108 then [MBX_SEAL_ERR_MASK]
  else if o = 0x610c then [MBX_SEAL_ERR_MASK]
  else if o < 0x4000 ∧ o % 0x200 < 0x100 then [MBX_REQ_WORD (o / 0x200) (o % 0x200 / 4)]
  else if o < 0x4000 then [MBX_RES_WORD (o / 0x200) (o % 0x100 / 4)]
  else []

abbrev ldpcBase : Nat := 0x20000B0000

def LDPC_CTRL_RUNG_EN : Fld := .mk (ldpcBase + (0x0)) 17 7 .rw 0x7F false false
def LDPC_CTRL_PARK : Fld := .mk (ldpcBase + (0x0)) 3 1 .rw 0x0 false true
def LDPC_CTRL_REPLAY_REREAD : Fld := .mk (ldpcBase + (0x0)) 2 1 .rw 0x1 false false
def LDPC_CTRL_POISON_FILL : Fld := .mk (ldpcBase + (0x0)) 1 1 .rw 0x0 false false
def LDPC_CTRL_ENABLE : Fld := .mk (ldpcBase + (0x0)) 0 1 .rw 0x0 false false
def LDPC_CAP_EFF_RETRY : Fld := .mk (ldpcBase + (0x4)) 24 6 .ro 0x3C false false
def LDPC_CAP_EFF_L0 : Fld := .mk (ldpcBase + (0x4)) 16 6 .ro 0x0A false false
def LDPC_CAP_ICAP_RETRY : Fld := .mk (ldpcBase + (0x4)) 8 6 .rw 0x3C false false
def LDPC_CAP_ICAP_L0 : Fld := .mk (ldpcBase + (0x4)) 0 6 .rw 0x0A false false
def LDPC_SCHED_STEP : Fld := .mk (ldpcBase + (0x8)) 16 4 .ro 0x0 false false
def LDPC_SCHED_L0_RESERVE : Fld := .mk (ldpcBase + (0x8)) 8 8 .ro 0x32 false false
def LDPC_SCHED_RETRY_MAX : Fld := .mk (ldpcBase + (0x8)) 0 5 .rw 0x0C false false
def LDPC_RETRY_CFG_POWER_STEP : Fld := .mk (ldpcBase + (0xc)) 28 4 .rw 0xA false false
def LDPC_RETRY_CFG_SA_STEP : Fld := .mk (ldpcBase + (0xc)) 16 8 .rw 0x08 false false
def LDPC_RETRY_CFG_FOCUS_STEP : Fld := .mk (ldpcBase + (0xc)) 8 8 .rw 0x19 false false
def LDPC_RETRY_CFG_TRACK_DELTA : Fld := .mk (ldpcBase + (0xc)) 0 6 .rw 0x0C false false
def LDPC_CORE_OFFLINE_OFFLINE : Fld := .mk (ldpcBase + (0x10)) 0 64 .rw 0x0000000000000000 false true
def LDPC_CORE_ONLINE_ONLINE : Fld := .mk (ldpcBase + (0x18)) 0 64 .ro 0xFFFFFFFFFFFFFFFF false false
def LDPC_CORE_TEST_DONE : Fld := .mk (ldpcBase + (0x20)) 31 1 .ro 0x0 false false
def LDPC_CORE_TEST_PASS : Fld := .mk (ldpcBase + (0x20)) 30 1 .ro 0x0 false false
def LDPC_CORE_TEST_START : Fld := .mk (ldpcBase + (0x20)) 7 1 .w1s 0x0 false true
def LDPC_CORE_TEST_CORE : Fld := .mk (ldpcBase + (0x20)) 0 6 .rw 0x00 false false
def LDPC_STATUS_INBUF : Fld := .mk (ldpcBase + (0x30)) 24 8 .ro 0x00 true false
def LDPC_STATUS_REVISIT : Fld := .mk (ldpcBase + (0x30)) 16 8 .ro 0x00 true false
def LDPC_STATUS_RETRY_BUSY : Fld := .mk (ldpcBase + (0x30)) 8 8 .ro 0x00 true false
def LDPC_STATUS_BUSY : Fld := .mk (ldpcBase + (0x30)) 0 7 .ro 0x00 true false
def LDPC_REVISIT_LO_REVISIT : Fld := .mk (ldpcBase + (0x34)) 0 8 .ro 0x00 true false
def LDPC_SPILL_BASE_BASE : Fld := .mk (ldpcBase + (0x40)) 20 20 .rw 0x00000 false false
def LDPC_SPILL_CFG_SLOTS : Fld := .mk (ldpcBase + (0x48)) 0 11 .rw 0x400 false false
def LDPC_SPILL_STATUS_QUEUED : Fld := .mk (ldpcBase + (0x4c)) 16 6 .ro 0x00 true false
def LDPC_SPILL_STATUS_FREE : Fld := .mk (ldpcBase + (0x4c)) 0 11 .ro 0x400 true false
def LDPC_CAPTURE_DONE : Fld := .mk (ldpcBase + (0x58)) 31 1 .ro 0x0 false false
def LDPC_CAPTURE_ARM : Fld := .mk (ldpcBase + (0x58)) 30 1 .w1s 0x0 false true
def LDPC_CAPTURE_SLOT : Fld := .mk (ldpcBase + (0x58)) 20 10 .rw 0x3FF false false
def LDPC_CAPTURE_OK : Fld := .mk (ldpcBase + (0x58)) 19 1 .ro 0x0 false false
def LDPC_CAPTURE_PEN : Fld := .mk (ldpcBase + (0x58)) 8 4 .rw 0x0 false false
def LDPC_CAPTURE_NIB : Fld := .mk (ldpcBase + (0x58)) 4 4 .rw 0x0 false false
def LDPC_RES_BASE_BASE : Fld := .mk (ldpcBase + (0x60)) 12 28 .rw 0x0000000 false false
def LDPC_RES_CFG_SIZE : Fld := .mk (ldpcBase + (0x68)) 0 4 .rw 0xC false false
def LDPC_RES_HEAD_HEAD : Fld := .mk (ldpcBase + (0x6c)) 0 32 .ro 0x00000000 false false
def LDPC_RES_TAIL_TAIL : Fld := .mk (ldpcBase + (0x70)) 0 32 .rw 0x00000000 false false
def LDPC_EVENT_CAP_LOWERED : Fld := .mk (ldpcBase + (0x80)) 10 1 .w1c 0x0 false false
def LDPC_EVENT_CAPTURE_DONE : Fld := .mk (ldpcBase + (0x80)) 9 1 .w1c 0x0 false false
def LDPC_EVENT_TEST_DONE : Fld := .mk (ldpcBase + (0x80)) 8 1 .w1c 0x0 false false
def LDPC_EVENT_MISCORRECT : Fld := .mk (ldpcBase + (0x80)) 7 1 .w1c 0x0 false false
def LDPC_EVENT_INBUF_OVF : Fld := .mk (ldpcBase + (0x80)) 6 1 .w1c 0x0 false false
def LDPC_EVENT_SAMPLES_LOST : Fld := .mk (ldpcBase + (0x80)) 5 1 .w1c 0x0 false false
def LDPC_EVENT_SPILL_FULL : Fld := .mk (ldpcBase + (0x80)) 4 1 .w1c 0x0 false false
def LDPC_EVENT_RELOCATE : Fld := .mk (ldpcBase + (0x80)) 3 1 .w1c 0x0 false false
def LDPC_EVENT_POISON : Fld := .mk (ldpcBase + (0x80)) 2 1 .w1c 0x0 false false
def LDPC_EVENT_RES_OVF : Fld := .mk (ldpcBase + (0x80)) 1 1 .w1c 0x0 false false
def LDPC_EVENT_RESULT : Fld := .mk (ldpcBase + (0x80)) 0 1 .w1c 0x0 false false
def LDPC_INT_EN_CAP_LOWERED : Fld := .mk (ldpcBase + (0x84)) 10 1 .rw 0x0 false false
def LDPC_INT_EN_CAPTURE_DONE : Fld := .mk (ldpcBase + (0x84)) 9 1 .rw 0x0 false false
def LDPC_INT_EN_TEST_DONE : Fld := .mk (ldpcBase + (0x84)) 8 1 .rw 0x0 false false
def LDPC_INT_EN_MISCORRECT : Fld := .mk (ldpcBase + (0x84)) 7 1 .rw 0x0 false false
def LDPC_INT_EN_INBUF_OVF : Fld := .mk (ldpcBase + (0x84)) 6 1 .rw 0x0 false false
def LDPC_INT_EN_SAMPLES_LOST : Fld := .mk (ldpcBase + (0x84)) 5 1 .rw 0x0 false false
def LDPC_INT_EN_SPILL_FULL : Fld := .mk (ldpcBase + (0x84)) 4 1 .rw 0x0 false false
def LDPC_INT_EN_RELOCATE : Fld := .mk (ldpcBase + (0x84)) 3 1 .rw 0x0 false false
def LDPC_INT_EN_POISON : Fld := .mk (ldpcBase + (0x84)) 2 1 .rw 0x0 false false
def LDPC_INT_EN_RES_OVF : Fld := .mk (ldpcBase + (0x84)) 1 1 .rw 0x0 false false
def LDPC_INT_EN_RESULT : Fld := .mk (ldpcBase + (0x84)) 0 1 .rw 0x0 false false
def LDPC_CNT_RUNG_DELIVERED (i : Nat) : Fld := .mk (ldpcBase + (0x100 + 0x4 * i + 0x0)) 0 32 .roc 0x00000000 true false
def LDPC_CNT_POISON_CUT : Fld := .mk (ldpcBase + (0x120)) 16 16 .roc 0x0000 true false
def LDPC_CNT_POISON_EXHAUSTED : Fld := .mk (ldpcBase + (0x120)) 0 16 .roc 0x0000 true false
def LDPC_CNT_LOSS_SAMPLES_LOST : Fld := .mk (ldpcBase + (0x124)) 16 16 .roc 0x0000 true false
def LDPC_CNT_LOSS_SPILL_FULL : Fld := .mk (ldpcBase + (0x124)) 0 16 .roc 0x0000 true false
def LDPC_CNT_OVF_INBUF_OVF : Fld := .mk (ldpcBase + (0x128)) 16 16 .roc 0x0000 true false
def LDPC_CNT_OVF_RES_OVF : Fld := .mk (ldpcBase + (0x128)) 0 16 .roc 0x0000 true false
def LDPC_CNT_MISC_MISCORRECT : Fld := .mk (ldpcBase + (0x12c)) 0 16 .roc 0x0000 true false
def LDPC_CNT_ITER_ITERATIONS : Fld := .mk (ldpcBase + (0x130)) 0 64 .ro 0x0000000000000000 true false

/-- The fields of the word at offset o of this block; none where the offset is unassigned (R8). -/
def ldpcAt (o : Nat) : List Fld :=
  if o = 0x0 then [LDPC_CTRL_RUNG_EN, LDPC_CTRL_PARK, LDPC_CTRL_REPLAY_REREAD, LDPC_CTRL_POISON_FILL, LDPC_CTRL_ENABLE]
  else if o = 0x4 then [LDPC_CAP_EFF_RETRY, LDPC_CAP_EFF_L0, LDPC_CAP_ICAP_RETRY, LDPC_CAP_ICAP_L0]
  else if o = 0x8 then [LDPC_SCHED_STEP, LDPC_SCHED_L0_RESERVE, LDPC_SCHED_RETRY_MAX]
  else if o = 0xc then [LDPC_RETRY_CFG_POWER_STEP, LDPC_RETRY_CFG_SA_STEP, LDPC_RETRY_CFG_FOCUS_STEP, LDPC_RETRY_CFG_TRACK_DELTA]
  else if o = 0x10 then [LDPC_CORE_OFFLINE_OFFLINE]
  else if o = 0x14 then [LDPC_CORE_OFFLINE_OFFLINE]
  else if o = 0x18 then [LDPC_CORE_ONLINE_ONLINE]
  else if o = 0x1c then [LDPC_CORE_ONLINE_ONLINE]
  else if o = 0x20 then [LDPC_CORE_TEST_DONE, LDPC_CORE_TEST_PASS, LDPC_CORE_TEST_START, LDPC_CORE_TEST_CORE]
  else if o = 0x30 then [LDPC_STATUS_INBUF, LDPC_STATUS_REVISIT, LDPC_STATUS_RETRY_BUSY, LDPC_STATUS_BUSY]
  else if o = 0x34 then [LDPC_REVISIT_LO_REVISIT]
  else if o = 0x40 then [LDPC_SPILL_BASE_BASE]
  else if o = 0x44 then [LDPC_SPILL_BASE_BASE]
  else if o = 0x48 then [LDPC_SPILL_CFG_SLOTS]
  else if o = 0x4c then [LDPC_SPILL_STATUS_QUEUED, LDPC_SPILL_STATUS_FREE]
  else if o = 0x58 then [LDPC_CAPTURE_DONE, LDPC_CAPTURE_ARM, LDPC_CAPTURE_SLOT, LDPC_CAPTURE_OK, LDPC_CAPTURE_PEN, LDPC_CAPTURE_NIB]
  else if o = 0x60 then [LDPC_RES_BASE_BASE]
  else if o = 0x64 then [LDPC_RES_BASE_BASE]
  else if o = 0x68 then [LDPC_RES_CFG_SIZE]
  else if o = 0x6c then [LDPC_RES_HEAD_HEAD]
  else if o = 0x70 then [LDPC_RES_TAIL_TAIL]
  else if o = 0x80 then [LDPC_EVENT_CAP_LOWERED, LDPC_EVENT_CAPTURE_DONE, LDPC_EVENT_TEST_DONE, LDPC_EVENT_MISCORRECT, LDPC_EVENT_INBUF_OVF, LDPC_EVENT_SAMPLES_LOST, LDPC_EVENT_SPILL_FULL, LDPC_EVENT_RELOCATE, LDPC_EVENT_POISON, LDPC_EVENT_RES_OVF, LDPC_EVENT_RESULT]
  else if o = 0x84 then [LDPC_INT_EN_CAP_LOWERED, LDPC_INT_EN_CAPTURE_DONE, LDPC_INT_EN_TEST_DONE, LDPC_INT_EN_MISCORRECT, LDPC_INT_EN_INBUF_OVF, LDPC_INT_EN_SAMPLES_LOST, LDPC_INT_EN_SPILL_FULL, LDPC_INT_EN_RELOCATE, LDPC_INT_EN_POISON, LDPC_INT_EN_RES_OVF, LDPC_INT_EN_RESULT]
  else if 0x100 ≤ o ∧ o < 0x120 then [LDPC_CNT_RUNG_DELIVERED ((o - 0x100) / 4)]
  else if o = 0x120 then [LDPC_CNT_POISON_CUT, LDPC_CNT_POISON_EXHAUSTED]
  else if o = 0x124 then [LDPC_CNT_LOSS_SAMPLES_LOST, LDPC_CNT_LOSS_SPILL_FULL]
  else if o = 0x128 then [LDPC_CNT_OVF_INBUF_OVF, LDPC_CNT_OVF_RES_OVF]
  else if o = 0x12c then [LDPC_CNT_MISC_MISCORRECT]
  else if o = 0x130 then [LDPC_CNT_ITER_ITERATIONS]
  else if o = 0x134 then [LDPC_CNT_ITER_ITERATIONS]
  else []

end Sys2Proof.Machine
end

