-- ==== Sys2Proof/Machine/RegHost.lean ====
section
/-!
DEFINITION. The register fields of the host side: HQ (R357), ledger (R381), SEC (R425) and Verso (R402) as the spec's register tables give them: address, lowest bit, width, access
code (R4), reset value, whether the field is latchable (R21) and whether a row of its own in the opcode table writes it.
One constant a field, named as the manual names the register and the field; the index parameters are the manual's
(n pen, e engine, k nib, j loop, t table, s spindle, b bus, a ADC or stage, c channel, r requester, q Scribe, m mailbox).
-/

namespace Sys2Proof.Machine

abbrev hqBase : Nat := 0x2000030000

def HQ_CTRL_FETCH_STOP : Fld := .mk (hqBase + (0x0)) 1 1 .rw 0x0 false false
def HQ_CTRL_CFG_READY : Fld := .mk (hqBase + (0x0)) 0 1 .rw 0x0 false true
def HQ_QP_SPLIT_F0_QPS : Fld := .mk (hqBase + (0x4)) 0 8 .rw 0x40 false true
def HQ_LINK_STATUS_UP (p : Nat) : Fld := .mk (hqBase + (0x10 + 0x4 * p + 0x0)) 31 1 .ro 0x0 false false
def HQ_LINK_STATUS_FLIT (p : Nat) : Fld := .mk (hqBase + (0x10 + 0x4 * p + 0x0)) 30 1 .ro 0x0 false false
def HQ_LINK_STATUS_BIFUR (p : Nat) : Fld := .mk (hqBase + (0x10 + 0x4 * p + 0x0)) 29 1 .ro 0x0 false false
def HQ_LINK_STATUS_WIDTH (p : Nat) : Fld := .mk (hqBase + (0x10 + 0x4 * p + 0x0)) 16 8 .ro 0x00 false false
def HQ_LINK_STATUS_GEN (p : Nat) : Fld := .mk (hqBase + (0x10 + 0x4 * p + 0x0)) 0 4 .ro 0x0 false false
def HQ_ADMIT_STALL : Fld := .mk (hqBase + (0x20)) 28 4 .ro 0x0 true false
def HQ_ADMIT_HELD : Fld := .mk (hqBase + (0x20)) 0 14 .ro 0x0000 true false
def HQ_ADM_SEQ_SEQ : Fld := .mk (hqBase + (0x28)) 0 64 .ro 0x0000000000000000 true false
def HQ_PWR_STATUS_TRANSITION : Fld := .mk (hqBase + (0x40)) 31 1 .ro 0x0 true false
def HQ_PWR_STATUS_TARGET : Fld := .mk (hqBase + (0x40)) 12 3 .ro 0x0 true false
def HQ_PWR_STATUS_PS : Fld := .mk (hqBase + (0x40)) 8 3 .ro 0x0 true false
def HQ_PWR_STATUS_F1_PS : Fld := .mk (hqBase + (0x40)) 4 3 .ro 0x0 true false
def HQ_PWR_STATUS_F0_PS : Fld := .mk (hqBase + (0x40)) 0 3 .ro 0x0 true false
def HQ_IDLE_MS (f : Nat) : Fld := .mk (hqBase + (0x48 + 0x4 * f + 0x0)) 0 32 .ro 0x00000000 true false
def HQ_MBX_VEC_VEC (f : Nat) : Fld := .mk (hqBase + (0x50 + 0x4 * f + 0x0)) 0 8 .rw 0x81 false false
def HQ_EVENT_PS_CHANGE : Fld := .mk (hqBase + (0x60)) 7 1 .w1c 0x0 false false
def HQ_EVENT_APST_DUE : Fld := .mk (hqBase + (0x60)) 6 1 .w1c 0x0 false false
def HQ_EVENT_SHN : Fld := .mk (hqBase + (0x60)) 5 1 .w1c 0x0 false false
def HQ_EVENT_FLR : Fld := .mk (hqBase + (0x60)) 4 1 .w1c 0x0 false false
def HQ_EVENT_CC_EN_FALL : Fld := .mk (hqBase + (0x60)) 3 1 .w1c 0x0 false false
def HQ_EVENT_PERST : Fld := .mk (hqBase + (0x60)) 2 1 .w1c 0x0 false false
def HQ_EVENT_LINK_DOWN : Fld := .mk (hqBase + (0x60)) 1 1 .w1c 0x0 false false
def HQ_EVENT_STALL : Fld := .mk (hqBase + (0x60)) 0 1 .w1c 0x0 false false
def HQ_INT_EN_PS_CHANGE : Fld := .mk (hqBase + (0x64)) 7 1 .rw 0x0 false false
def HQ_INT_EN_APST_DUE : Fld := .mk (hqBase + (0x64)) 6 1 .rw 0x0 false false
def HQ_INT_EN_SHN : Fld := .mk (hqBase + (0x64)) 5 1 .rw 0x0 false false
def HQ_INT_EN_FLR : Fld := .mk (hqBase + (0x64)) 4 1 .rw 0x0 false false
def HQ_INT_EN_CC_EN_FALL : Fld := .mk (hqBase + (0x64)) 3 1 .rw 0x0 false false
def HQ_INT_EN_PERST : Fld := .mk (hqBase + (0x64)) 2 1 .rw 0x0 false false
def HQ_INT_EN_LINK_DOWN : Fld := .mk (hqBase + (0x64)) 1 1 .rw 0x0 false false
def HQ_INT_EN_STALL : Fld := .mk (hqBase + (0x64)) 0 1 .rw 0x0 false false
def HQ_CNT_STALL_QUIRE : Fld := .mk (hqBase + (0x70)) 16 16 .roc 0x0000 true false
def HQ_CNT_STALL_LOCK : Fld := .mk (hqBase + (0x70)) 0 16 .roc 0x0000 true false
def HQ_RL_CNT_CONFLICTS : Fld := .mk (hqBase + (0x78)) 0 32 .roc 0x00000000 true false

/-- The fields of the word at offset o of this block; none where the offset is unassigned (R8). -/
def hqAt (o : Nat) : List Fld :=
  if o = 0x0 then [HQ_CTRL_FETCH_STOP, HQ_CTRL_CFG_READY]
  else if o = 0x4 then [HQ_QP_SPLIT_F0_QPS]
  else if 0x10 ≤ o ∧ o < 0x18 then [HQ_LINK_STATUS_UP ((o - 0x10) / 4), HQ_LINK_STATUS_FLIT ((o - 0x10) / 4), HQ_LINK_STATUS_BIFUR ((o - 0x10) / 4), HQ_LINK_STATUS_WIDTH ((o - 0x10) / 4), HQ_LINK_STATUS_GEN ((o - 0x10) / 4)]
  else if o = 0x20 then [HQ_ADMIT_STALL, HQ_ADMIT_HELD]
  else if o = 0x28 then [HQ_ADM_SEQ_SEQ]
  else if o = 0x2c then [HQ_ADM_SEQ_SEQ]
  else if o = 0x40 then [HQ_PWR_STATUS_TRANSITION, HQ_PWR_STATUS_TARGET, HQ_PWR_STATUS_PS, HQ_PWR_STATUS_F1_PS, HQ_PWR_STATUS_F0_PS]
  else if 0x48 ≤ o ∧ o < 0x50 then [HQ_IDLE_MS ((o - 0x48) / 4)]
  else if 0x50 ≤ o ∧ o < 0x58 then [HQ_MBX_VEC_VEC ((o - 0x50) / 4)]
  else if o = 0x60 then [HQ_EVENT_PS_CHANGE, HQ_EVENT_APST_DUE, HQ_EVENT_SHN, HQ_EVENT_FLR, HQ_EVENT_CC_EN_FALL, HQ_EVENT_PERST, HQ_EVENT_LINK_DOWN, HQ_EVENT_STALL]
  else if o = 0x64 then [HQ_INT_EN_PS_CHANGE, HQ_INT_EN_APST_DUE, HQ_INT_EN_SHN, HQ_INT_EN_FLR, HQ_INT_EN_CC_EN_FALL, HQ_INT_EN_PERST, HQ_INT_EN_LINK_DOWN, HQ_INT_EN_STALL]
  else if o = 0x70 then [HQ_CNT_STALL_QUIRE, HQ_CNT_STALL_LOCK]
  else if o = 0x78 then [HQ_RL_CNT_CONFLICTS]
  else []

abbrev ldgBase : Nat := 0x2000040000

def LDG_CTRL_BULK_MIN : Fld := .mk (ldgBase + (0x0)) 16 16 .rw 0x1000 false false
def LDG_CTRL_ENABLE : Fld := .mk (ldgBase + (0x0)) 0 1 .rw 0x0 false false
def LDG_BASE_BASE : Fld := .mk (ldgBase + (0x8)) 30 10 .rw 0x000 false false
def LDG_SWAP_ADDR_ADDR : Fld := .mk (ldgBase + (0x10)) 4 36 .rw 0x000000000 false false
def LDG_SWAP_W0_WORD : Fld := .mk (ldgBase + (0x18)) 0 64 .rw 0x0000000000000000 false false
def LDG_SWAP_W1_WORD : Fld := .mk (ldgBase + (0x20)) 0 64 .rw 0x0000000000000000 false false
def LDG_SWAP_CTRL_DONE : Fld := .mk (ldgBase + (0x28)) 31 1 .ro 0x0 false false
def LDG_SWAP_CTRL_START : Fld := .mk (ldgBase + (0x28)) 30 1 .w1s 0x0 false true
def LDG_SWAP_CTRL_OK : Fld := .mk (ldgBase + (0x28)) 29 1 .ro 0x0 false false
def LDG_SWAP_SEQ_SEQ : Fld := .mk (ldgBase + (0x2c)) 0 32 .ro 0x00000000 true false
def LDG_OLDEST_SEQ : Fld := .mk (ldgBase + (0x30)) 0 32 .ro 0x00000000 true false
def LDG_STATUS_ACTIVE : Fld := .mk (ldgBase + (0x34)) 0 3 .ro 0x0 true false
def LDG_EVENT_SWAP_REFUSED : Fld := .mk (ldgBase + (0x40)) 10 1 .w1c 0x0 false false
def LDG_EVENT_SWAP_DONE : Fld := .mk (ldgBase + (0x40)) 9 1 .w1c 0x0 false false
def LDG_EVENT_FAULT : Fld := .mk (ldgBase + (0x40)) 8 1 .w1c 0x0 false false
def LDG_EVENT_RESP : Fld := .mk (ldgBase + (0x40)) 0 8 .w1c 0x00 false false
def LDG_INT_EN_SWAP_REFUSED : Fld := .mk (ldgBase + (0x44)) 10 1 .rw 0x0 false false
def LDG_INT_EN_SWAP_DONE : Fld := .mk (ldgBase + (0x44)) 9 1 .rw 0x0 false false
def LDG_INT_EN_FAULT : Fld := .mk (ldgBase + (0x44)) 8 1 .rw 0x0 false false
def LDG_INT_EN_RESP : Fld := .mk (ldgBase + (0x44)) 0 8 .rw 0x0 false false
def LDG_CNT_LOOKUP_LOOKUPS : Fld := .mk (ldgBase + (0x60)) 0 48 .ro 0x000000000000 true false
def LDG_CNT_EXC_FAULTS : Fld := .mk (ldgBase + (0x68)) 16 16 .roc 0x0000 true false
def LDG_CNT_EXC_SLOWS : Fld := .mk (ldgBase + (0x68)) 0 16 .roc 0x0000 true false
def LDG_Q_BASE_BASE (q : Nat) : Fld := .mk (ldgBase + (0x100 + 0x20 * q + 0x0)) 12 28 .rw 0x0000000 false false
def LDG_Q_CFG_EN (q : Nat) : Fld := .mk (ldgBase + (0x100 + 0x20 * q + 0x8)) 31 1 .rw 0x0 false false
def LDG_Q_CFG_SIZE (q : Nat) : Fld := .mk (ldgBase + (0x100 + 0x20 * q + 0x8)) 0 4 .rw 0x6 false false
def LDG_Q_HEAD_HEAD (q : Nat) : Fld := .mk (ldgBase + (0x100 + 0x20 * q + 0xc)) 0 32 .rw 0x00000000 false false
def LDG_Q_TAIL_TAIL (q : Nat) : Fld := .mk (ldgBase + (0x100 + 0x20 * q + 0x10)) 0 32 .ro 0x00000000 false false

/-- The fields of the word at offset o of this block; none where the offset is unassigned (R8). -/
def ldgAt (o : Nat) : List Fld :=
  if o = 0x0 then [LDG_CTRL_BULK_MIN, LDG_CTRL_ENABLE]
  else if o = 0x8 then [LDG_BASE_BASE]
  else if o = 0xc then [LDG_BASE_BASE]
  else if o = 0x10 then [LDG_SWAP_ADDR_ADDR]
  else if o = 0x14 then [LDG_SWAP_ADDR_ADDR]
  else if o = 0x18 then [LDG_SWAP_W0_WORD]
  else if o = 0x1c then [LDG_SWAP_W0_WORD]
  else if o = 0x20 then [LDG_SWAP_W1_WORD]
  else if o = 0x24 then [LDG_SWAP_W1_WORD]
  else if o = 0x28 then [LDG_SWAP_CTRL_DONE, LDG_SWAP_CTRL_START, LDG_SWAP_CTRL_OK]
  else if o = 0x2c then [LDG_SWAP_SEQ_SEQ]
  else if o = 0x30 then [LDG_OLDEST_SEQ]
  else if o = 0x34 then [LDG_STATUS_ACTIVE]
  else if o = 0x40 then [LDG_EVENT_SWAP_REFUSED, LDG_EVENT_SWAP_DONE, LDG_EVENT_FAULT, LDG_EVENT_RESP]
  else if o = 0x44 then [LDG_INT_EN_SWAP_REFUSED, LDG_INT_EN_SWAP_DONE, LDG_INT_EN_FAULT, LDG_INT_EN_RESP]
  else if o = 0x60 then [LDG_CNT_LOOKUP_LOOKUPS]
  else if o = 0x64 then [LDG_CNT_LOOKUP_LOOKUPS]
  else if o = 0x68 then [LDG_CNT_EXC_FAULTS, LDG_CNT_EXC_SLOWS]
  else if 0x100 ≤ o ∧ o < 0x200 ∧ (o - 0x100) % 0x20 = 0x0 then [LDG_Q_BASE_BASE ((o - 0x100) / 0x20)]
  else if 0x100 ≤ o ∧ o < 0x200 ∧ (o - 0x100) % 0x20 = 0x4 then [LDG_Q_BASE_BASE ((o - 0x100) / 0x20)]
  else if 0x100 ≤ o ∧ o < 0x200 ∧ (o - 0x100) % 0x20 = 0x8 then [LDG_Q_CFG_EN ((o - 0x100) / 0x20), LDG_Q_CFG_SIZE ((o - 0x100) / 0x20)]
  else if 0x100 ≤ o ∧ o < 0x200 ∧ (o - 0x100) % 0x20 = 0xc then [LDG_Q_HEAD_HEAD ((o - 0x100) / 0x20)]
  else if 0x100 ≤ o ∧ o < 0x200 ∧ (o - 0x100) % 0x20 = 0x10 then [LDG_Q_TAIL_TAIL ((o - 0x100) / 0x20)]
  else []

abbrev secBase : Nat := 0x2000060000

def SEC_CTRL_RESEED : Fld := .mk (secBase + (0x0)) 2 1 .w1s 0x0 false true
def SEC_CTRL_SELFTEST : Fld := .mk (secBase + (0x0)) 1 1 .w1s 0x0 false true
def SEC_CTRL_ZEROISE : Fld := .mk (secBase + (0x0)) 0 1 .w1s 0x0 false true
def SEC_STATUS_APPROVED : Fld := .mk (secBase + (0x4)) 31 1 .ro 0x0 true false
def SEC_STATUS_STATE : Fld := .mk (secBase + (0x4)) 28 3 .ro 0x0 true false
def SEC_STATUS_KAT_DONE : Fld := .mk (secBase + (0x4)) 27 1 .ro 0x0 true false
def SEC_STATUS_DBG_OPEN : Fld := .mk (secBase + (0x4)) 26 1 .ro 0x0 true false
def SEC_STATUS_ENT_OK : Fld := .mk (secBase + (0x4)) 25 1 .ro 0x0 true false
def SEC_STATUS_FAIL_ID : Fld := .mk (secBase + (0x4)) 8 8 .ro 0x00 true false
def SEC_AUTH_SERVICE : Fld := .mk (secBase + (0x8)) 2 1 .rw 0x0 false false
def SEC_AUTH_DIAG : Fld := .mk (secBase + (0x8)) 1 1 .rw 0x0 false false
def SEC_AUTH_OFFICER : Fld := .mk (secBase + (0x8)) 0 1 .rw 0x0 false false
def SEC_FW_MIN_SVN : Fld := .mk (secBase + (0x10)) 16 16 .ro Config.fuseMinSvn.toNat false false
def SEC_FW_LISTED : Fld := .mk (secBase + (0x10)) 8 8 .ro 0x00 false false
def SEC_FW_REVOKED : Fld := .mk (secBase + (0x10)) 4 4 .ro Config.fuseRevoked.toNat false false
def SEC_FW_PRESENT : Fld := .mk (secBase + (0x10)) 0 4 .ro Config.fusePresent.toNat false false
def SEC_KEY_CMD_DONE : Fld := .mk (secBase + (0x20)) 31 1 .ro 0x0 false false
def SEC_KEY_CMD_START : Fld := .mk (secBase + (0x20)) 30 1 .w1s 0x0 false true
def SEC_KEY_CMD_OK : Fld := .mk (secBase + (0x20)) 29 1 .ro 0x0 false false
def SEC_KEY_CMD_OP : Fld := .mk (secBase + (0x20)) 20 4 .rw 0x0 false false
def SEC_KEY_CMD_KEK : Fld := .mk (secBase + (0x20)) 18 2 .rw 0x0 false false
def SEC_KEY_CMD_SLOT : Fld := .mk (secBase + (0x20)) 0 7 .rw 0x00 false false
def SEC_KEY_ADDR_ADDR : Fld := .mk (secBase + (0x28)) 3 37 .rw 0x000000000 false false
def SEC_SELFTEST_DONE : Fld := .mk (secBase + (0x30)) 31 1 .ro 0x0 false false
def SEC_SELFTEST_PASS : Fld := .mk (secBase + (0x30)) 30 1 .ro 0x0 false false
def SEC_SELFTEST_PEN_DONE : Fld := .mk (secBase + (0x30)) 0 16 .ro 0x0000 false false
def SEC_ENT_APT_FAIL : Fld := .mk (secBase + (0x40)) 16 16 .roc 0x0000 false false
def SEC_ENT_RCT_FAIL : Fld := .mk (secBase + (0x40)) 0 16 .roc 0x0000 false false
def SEC_DBG_NONCE_NONCE : Fld := .mk (secBase + (0x50)) 0 128 .ro 0 false false
def SEC_EVENT_SELFTEST_DONE : Fld := .mk (secBase + (0x60)) 8 1 .w1c 0x0 false false
def SEC_EVENT_DBG_OPEN : Fld := .mk (secBase + (0x60)) 7 1 .w1c 0x0 false false
def SEC_EVENT_ACCESS : Fld := .mk (secBase + (0x60)) 6 1 .w1c 0x0 false false
def SEC_EVENT_KEY_DONE : Fld := .mk (secBase + (0x60)) 5 1 .w1c 0x0 false false
def SEC_EVENT_APPROVED_LOST : Fld := .mk (secBase + (0x60)) 4 1 .w1c 0x0 false false
def SEC_EVENT_ZEROISED : Fld := .mk (secBase + (0x60)) 3 1 .w1c 0x0 false false
def SEC_EVENT_ENT_FAIL : Fld := .mk (secBase + (0x60)) 2 1 .w1c 0x0 false false
def SEC_EVENT_KAT_FAIL : Fld := .mk (secBase + (0x60)) 1 1 .w1c 0x0 false false
def SEC_EVENT_KAT_DONE : Fld := .mk (secBase + (0x60)) 0 1 .w1c 0x0 false false
def SEC_INT_EN_SELFTEST_DONE : Fld := .mk (secBase + (0x64)) 8 1 .rw 0x0 false false
def SEC_INT_EN_DBG_OPEN : Fld := .mk (secBase + (0x64)) 7 1 .rw 0x0 false false
def SEC_INT_EN_ACCESS : Fld := .mk (secBase + (0x64)) 6 1 .rw 0x0 false false
def SEC_INT_EN_KEY_DONE : Fld := .mk (secBase + (0x64)) 5 1 .rw 0x0 false false
def SEC_INT_EN_APPROVED_LOST : Fld := .mk (secBase + (0x64)) 4 1 .rw 0x0 false false
def SEC_INT_EN_ZEROISED : Fld := .mk (secBase + (0x64)) 3 1 .rw 0x0 false false
def SEC_INT_EN_ENT_FAIL : Fld := .mk (secBase + (0x64)) 2 1 .rw 0x0 false false
def SEC_INT_EN_KAT_FAIL : Fld := .mk (secBase + (0x64)) 1 1 .rw 0x0 false false
def SEC_INT_EN_KAT_DONE : Fld := .mk (secBase + (0x64)) 0 1 .rw 0x0 false false
def SEC_SLOT_LOADED (i : Nat) : Fld := .mk (secBase + (0x100 + 0x4 * i + 0x0)) 31 1 .ro 0x0 true false
def SEC_SLOT_READ_OK (i : Nat) : Fld := .mk (secBase + (0x100 + 0x4 * i + 0x0)) 30 1 .rw 0x0 false false
def SEC_SLOT_WRITE_OK (i : Nat) : Fld := .mk (secBase + (0x100 + 0x4 * i + 0x0)) 29 1 .rw 0x0 false false
def SEC_SLOT_IN_USE (i : Nat) : Fld := .mk (secBase + (0x100 + 0x4 * i + 0x0)) 28 1 .ro 0x0 true false
def SEC_SLOT_KEY_ID (i : Nat) : Fld := .mk (secBase + (0x100 + 0x4 * i + 0x0)) 0 16 .ro 0x0000 true false

/-- The fields of the word at offset o of this block; none where the offset is unassigned (R8). -/
def secAt (o : Nat) : List Fld :=
  if o = 0x0 then [SEC_CTRL_RESEED, SEC_CTRL_SELFTEST, SEC_CTRL_ZEROISE]
  else if o = 0x4 then [SEC_STATUS_APPROVED, SEC_STATUS_STATE, SEC_STATUS_KAT_DONE, SEC_STATUS_DBG_OPEN, SEC_STATUS_ENT_OK, SEC_STATUS_FAIL_ID]
  else if o = 0x8 then [SEC_AUTH_SERVICE, SEC_AUTH_DIAG, SEC_AUTH_OFFICER]
  else if o = 0x10 then [SEC_FW_MIN_SVN, SEC_FW_LISTED, SEC_FW_REVOKED, SEC_FW_PRESENT]
  else if o = 0x20 then [SEC_KEY_CMD_DONE, SEC_KEY_CMD_START, SEC_KEY_CMD_OK, SEC_KEY_CMD_OP, SEC_KEY_CMD_KEK, SEC_KEY_CMD_SLOT]
  else if o = 0x28 then [SEC_KEY_ADDR_ADDR]
  else if o = 0x2c then [SEC_KEY_ADDR_ADDR]
  else if o = 0x30 then [SEC_SELFTEST_DONE, SEC_SELFTEST_PASS, SEC_SELFTEST_PEN_DONE]
  else if o = 0x40 then [SEC_ENT_APT_FAIL, SEC_ENT_RCT_FAIL]
  else if o = 0x50 then [SEC_DBG_NONCE_NONCE]
  else if o = 0x54 then [SEC_DBG_NONCE_NONCE]
  else if o = 0x58 then [SEC_DBG_NONCE_NONCE]
  else if o = 0x5c then [SEC_DBG_NONCE_NONCE]
  else if o = 0x60 then [SEC_EVENT_SELFTEST_DONE, SEC_EVENT_DBG_OPEN, SEC_EVENT_ACCESS, SEC_EVENT_KEY_DONE, SEC_EVENT_APPROVED_LOST, SEC_EVENT_ZEROISED, SEC_EVENT_ENT_FAIL, SEC_EVENT_KAT_FAIL, SEC_EVENT_KAT_DONE]
  else if o = 0x64 then [SEC_INT_EN_SELFTEST_DONE, SEC_INT_EN_DBG_OPEN, SEC_INT_EN_ACCESS, SEC_INT_EN_KEY_DONE, SEC_INT_EN_APPROVED_LOST, SEC_INT_EN_ZEROISED, SEC_INT_EN_ENT_FAIL, SEC_INT_EN_KAT_FAIL, SEC_INT_EN_KAT_DONE]
  else if 0x100 ≤ o ∧ o < 0x300 then [SEC_SLOT_LOADED ((o - 0x100) / 4), SEC_SLOT_READ_OK ((o - 0x100) / 4), SEC_SLOT_WRITE_OK ((o - 0x100) / 4), SEC_SLOT_IN_USE ((o - 0x100) / 4), SEC_SLOT_KEY_ID ((o - 0x100) / 4)]
  else []

abbrev vrsBase : Nat := 0x2000090000

def VRS_CTRL_DEG_CLR : Fld := .mk (vrsBase + (0x0)) 5 1 .w1s 0x0 false true
def VRS_CTRL_HEALTH_AUTO : Fld := .mk (vrsBase + (0x0)) 4 1 .rw 0x1 false false
def VRS_CTRL_AUTO_TAKE : Fld := .mk (vrsBase + (0x0)) 3 1 .rw 0x1 false false
def VRS_CTRL_RETRAIN : Fld := .mk (vrsBase + (0x0)) 2 1 .w1s 0x0 false true
def VRS_CTRL_DUPLEX : Fld := .mk (vrsBase + (0x0)) 1 1 .rw 0x0 false false
def VRS_CTRL_ENABLE : Fld := .mk (vrsBase + (0x0)) 0 1 .rw 0x0 false false
def VRS_NODE_NODE_ID : Fld := .mk (vrsBase + (0x4)) 0 12 .rw 0x000 false true
def VRS_EPOCH_EPOCH : Fld := .mk (vrsBase + (0x8)) 0 32 .rw 0x00000000 false false
def VRS_STATUS_LINK : Fld := .mk (vrsBase + (0x10)) 29 3 .ro 0x0 true false
def VRS_STATUS_ROLE : Fld := .mk (vrsBase + (0x10)) 27 2 .ro 0x0 true false
def VRS_STATUS_DEGRADED : Fld := .mk (vrsBase + (0x10)) 26 1 .ro 0x0 true false
def VRS_STATUS_HB_OK : Fld := .mk (vrsBase + (0x10)) 25 1 .ro 0x0 true false
def VRS_STATUS_NODE_CLASH : Fld := .mk (vrsBase + (0x10)) 24 1 .ro 0x0 true false
def VRS_STATUS_PARTNER_NODE : Fld := .mk (vrsBase + (0x10)) 12 12 .ro 0x000 true false
def VRS_DIAG_EN_EN : Fld := .mk (vrsBase + (0x20)) 0 5 .rw 0x1F false false
def VRS_DIAG_GAVE_UP : Fld := .mk (vrsBase + (0x24)) 31 1 .ro 0x0 false false
def VRS_DIAG_GIVE_UP : Fld := .mk (vrsBase + (0x24)) 30 1 .w1s 0x0 false true
def VRS_DIAG_CLEAR : Fld := .mk (vrsBase + (0x24)) 29 1 .w1s 0x0 false true
def VRS_DIAG_CAUSE : Fld := .mk (vrsBase + (0x24)) 0 5 .w1c 0x00 false false
def VRS_HB_HB_LOSS : Fld := .mk (vrsBase + (0x28)) 8 8 .rw 0x0A false false
def VRS_HEALTH_SEQ : Fld := .mk (vrsBase + (0x40)) 24 8 .ro 0x00 true false
def VRS_HEALTH_LINK_OK : Fld := .mk (vrsBase + (0x40)) 4 1 .ro 0x0 true false
def VRS_HEALTH_COMM_OK : Fld := .mk (vrsBase + (0x40)) 3 1 .ro 0x0 true false
def VRS_HEALTH_ECHO_OK : Fld := .mk (vrsBase + (0x40)) 2 1 .ro 0x0 true false
def VRS_HEALTH_SHADOW_OK : Fld := .mk (vrsBase + (0x40)) 1 1 .ro 0x0 true false
def VRS_HEALTH_VALID : Fld := .mk (vrsBase + (0x40)) 0 1 .ro 0x0 true false
def VRS_PARTNER_HEALTH_SEQ : Fld := .mk (vrsBase + (0x50)) 24 8 .ro 0x00 true false
def VRS_PARTNER_HEALTH_LINK_OK : Fld := .mk (vrsBase + (0x50)) 4 1 .ro 0x0 true false
def VRS_PARTNER_HEALTH_COMM_OK : Fld := .mk (vrsBase + (0x50)) 3 1 .ro 0x0 true false
def VRS_PARTNER_HEALTH_ECHO_OK : Fld := .mk (vrsBase + (0x50)) 2 1 .ro 0x0 true false
def VRS_PARTNER_HEALTH_SHADOW_OK : Fld := .mk (vrsBase + (0x50)) 1 1 .ro 0x0 true false
def VRS_PARTNER_HEALTH_VALID : Fld := .mk (vrsBase + (0x50)) 0 1 .ro 0x0 true false
def VRS_HEALTH_PEN_ECHO_FAIL : Fld := .mk (vrsBase + (0x44)) 16 16 .ro 0x0000 true false
def VRS_HEALTH_PEN_SHADOW_FAIL : Fld := .mk (vrsBase + (0x44)) 0 16 .ro 0x0000 true false
def VRS_HEALTH_SPN_COMM_FAIL : Fld := .mk (vrsBase + (0x48)) 0 8 .ro 0x00 true false
def VRS_HEALTH_CFG_ECHO_MAX : Fld := .mk (vrsBase + (0x4c)) 8 8 .rw 0x10 false false
def VRS_HEALTH_CFG_MISMATCH_MAX : Fld := .mk (vrsBase + (0x4c)) 0 8 .rw 0x04 false false
def VRS_MSG_BASE_BASE : Fld := .mk (vrsBase + (0x60)) 16 24 .rw 0x000000 false false
def VRS_MSG_CFG_SIZE : Fld := .mk (vrsBase + (0x68)) 0 4 .rw 0x8 false false
def VRS_TX_HEAD_PTR : Fld := .mk (vrsBase + (0x6c)) 0 32 .rw 0x00000000 false false
def VRS_TX_TAIL_PTR : Fld := .mk (vrsBase + (0x70)) 0 32 .ro 0x00000000 false false
def VRS_RX_HEAD_PTR : Fld := .mk (vrsBase + (0x74)) 0 32 .ro 0x00000000 false false
def VRS_RX_TAIL_PTR : Fld := .mk (vrsBase + (0x78)) 0 32 .rw 0x00000000 false false
def VRS_EVENT_CFG_REFUSED : Fld := .mk (vrsBase + (0x80)) 14 1 .w1c 0x0 false false
def VRS_EVENT_GCM_FAIL : Fld := .mk (vrsBase + (0x80)) 13 1 .w1c 0x0 false false
def VRS_EVENT_RX_OVF : Fld := .mk (vrsBase + (0x80)) 12 1 .w1c 0x0 false false
def VRS_EVENT_RX_MSG : Fld := .mk (vrsBase + (0x80)) 11 1 .w1c 0x0 false false
def VRS_EVENT_NODE_CLASH : Fld := .mk (vrsBase + (0x80)) 10 1 .w1c 0x0 false false
def VRS_EVENT_HEALTH_FAIL : Fld := .mk (vrsBase + (0x80)) 9 1 .w1c 0x0 false false
def VRS_EVENT_HEALTH : Fld := .mk (vrsBase + (0x80)) 8 1 .w1c 0x0 false false
def VRS_EVENT_STALE : Fld := .mk (vrsBase + (0x80)) 7 1 .w1c 0x0 false false
def VRS_EVENT_CLAIM_REFUSED : Fld := .mk (vrsBase + (0x80)) 6 1 .w1c 0x0 false false
def VRS_EVENT_TAKEOVER : Fld := .mk (vrsBase + (0x80)) 5 1 .w1c 0x0 false false
def VRS_EVENT_PARTNER_GAVE_UP : Fld := .mk (vrsBase + (0x80)) 4 1 .w1c 0x0 false false
def VRS_EVENT_GAVE_UP : Fld := .mk (vrsBase + (0x80)) 3 1 .w1c 0x0 false false
def VRS_EVENT_DEGRADED : Fld := .mk (vrsBase + (0x80)) 2 1 .w1c 0x0 false false
def VRS_EVENT_LINK_FAIL : Fld := .mk (vrsBase + (0x80)) 1 1 .w1c 0x0 false false
def VRS_EVENT_LINK_UP : Fld := .mk (vrsBase + (0x80)) 0 1 .w1c 0x0 false false
def VRS_INT_EN_CFG_REFUSED : Fld := .mk (vrsBase + (0x84)) 14 1 .rw 0x0 false false
def VRS_INT_EN_GCM_FAIL : Fld := .mk (vrsBase + (0x84)) 13 1 .rw 0x0 false false
def VRS_INT_EN_RX_OVF : Fld := .mk (vrsBase + (0x84)) 12 1 .rw 0x0 false false
def VRS_INT_EN_RX_MSG : Fld := .mk (vrsBase + (0x84)) 11 1 .rw 0x0 false false
def VRS_INT_EN_NODE_CLASH : Fld := .mk (vrsBase + (0x84)) 10 1 .rw 0x0 false false
def VRS_INT_EN_HEALTH_FAIL : Fld := .mk (vrsBase + (0x84)) 9 1 .rw 0x0 false false
def VRS_INT_EN_HEALTH : Fld := .mk (vrsBase + (0x84)) 8 1 .rw 0x0 false false
def VRS_INT_EN_STALE : Fld := .mk (vrsBase + (0x84)) 7 1 .rw 0x0 false false
def VRS_INT_EN_CLAIM_REFUSED : Fld := .mk (vrsBase + (0x84)) 6 1 .rw 0x0 false false
def VRS_INT_EN_TAKEOVER : Fld := .mk (vrsBase + (0x84)) 5 1 .rw 0x0 false false
def VRS_INT_EN_PARTNER_GAVE_UP : Fld := .mk (vrsBase + (0x84)) 4 1 .rw 0x0 false false
def VRS_INT_EN_GAVE_UP : Fld := .mk (vrsBase + (0x84)) 3 1 .rw 0x0 false false
def VRS_INT_EN_DEGRADED : Fld := .mk (vrsBase + (0x84)) 2 1 .rw 0x0 false false
def VRS_INT_EN_LINK_FAIL : Fld := .mk (vrsBase + (0x84)) 1 1 .rw 0x0 false false
def VRS_INT_EN_LINK_UP : Fld := .mk (vrsBase + (0x84)) 0 1 .rw 0x0 false false
def VRS_CNT_HB_MISS : Fld := .mk (vrsBase + (0x90)) 16 16 .roc 0x0000 true false
def VRS_CNT_GCM_FAIL : Fld := .mk (vrsBase + (0x90)) 0 16 .roc 0x0000 true false
def VRS_CNT_LINK_RETRAINS : Fld := .mk (vrsBase + (0x94)) 16 16 .roc 0x0000 true false
def VRS_CNT_LINK_LINK_FAILS : Fld := .mk (vrsBase + (0x94)) 0 16 .roc 0x0000 true false
def VRS_OUT_CLASS (k : Nat) : Fld := .mk (vrsBase + (0x100 + 0x4 * k + 0x0)) 28 4 .rw 0x0 false true
def VRS_OUT_READY (k : Nat) : Fld := .mk (vrsBase + (0x100 + 0x4 * k + 0x0)) 27 1 .rw 0x0 false false
def VRS_OUT_HELD_HERE (k : Nat) : Fld := .mk (vrsBase + (0x100 + 0x4 * k + 0x0)) 26 1 .ro 0x0 true false
def VRS_OUT_OTHER_HOLDS (k : Nat) : Fld := .mk (vrsBase + (0x100 + 0x4 * k + 0x0)) 25 1 .ro 0x0 true false
def VRS_OUT_OTHER_CLAIM (k : Nat) : Fld := .mk (vrsBase + (0x100 + 0x4 * k + 0x0)) 0 16 .ro 0x0000 true false

/-- The fields of the word at offset o of this block; none where the offset is unassigned (R8). -/
def vrsAt (o : Nat) : List Fld :=
  if o = 0x0 then [VRS_CTRL_DEG_CLR, VRS_CTRL_HEALTH_AUTO, VRS_CTRL_AUTO_TAKE, VRS_CTRL_RETRAIN, VRS_CTRL_DUPLEX, VRS_CTRL_ENABLE]
  else if o = 0x4 then [VRS_NODE_NODE_ID]
  else if o = 0x8 then [VRS_EPOCH_EPOCH]
  else if o = 0x10 then [VRS_STATUS_LINK, VRS_STATUS_ROLE, VRS_STATUS_DEGRADED, VRS_STATUS_HB_OK, VRS_STATUS_NODE_CLASH, VRS_STATUS_PARTNER_NODE]
  else if o = 0x20 then [VRS_DIAG_EN_EN]
  else if o = 0x24 then [VRS_DIAG_GAVE_UP, VRS_DIAG_GIVE_UP, VRS_DIAG_CLEAR, VRS_DIAG_CAUSE]
  else if o = 0x28 then [VRS_HB_HB_LOSS]
  else if o = 0x40 then [VRS_HEALTH_SEQ, VRS_HEALTH_LINK_OK, VRS_HEALTH_COMM_OK, VRS_HEALTH_ECHO_OK, VRS_HEALTH_SHADOW_OK, VRS_HEALTH_VALID]
  else if o = 0x50 then [VRS_PARTNER_HEALTH_SEQ, VRS_PARTNER_HEALTH_LINK_OK, VRS_PARTNER_HEALTH_COMM_OK, VRS_PARTNER_HEALTH_ECHO_OK, VRS_PARTNER_HEALTH_SHADOW_OK, VRS_PARTNER_HEALTH_VALID]
  else if o = 0x44 then [VRS_HEALTH_PEN_ECHO_FAIL, VRS_HEALTH_PEN_SHADOW_FAIL]
  else if o = 0x48 then [VRS_HEALTH_SPN_COMM_FAIL]
  else if o = 0x4c then [VRS_HEALTH_CFG_ECHO_MAX, VRS_HEALTH_CFG_MISMATCH_MAX]
  else if o = 0x60 then [VRS_MSG_BASE_BASE]
  else if o = 0x64 then [VRS_MSG_BASE_BASE]
  else if o = 0x68 then [VRS_MSG_CFG_SIZE]
  else if o = 0x6c then [VRS_TX_HEAD_PTR]
  else if o = 0x70 then [VRS_TX_TAIL_PTR]
  else if o = 0x74 then [VRS_RX_HEAD_PTR]
  else if o = 0x78 then [VRS_RX_TAIL_PTR]
  else if o = 0x80 then [VRS_EVENT_CFG_REFUSED, VRS_EVENT_GCM_FAIL, VRS_EVENT_RX_OVF, VRS_EVENT_RX_MSG, VRS_EVENT_NODE_CLASH, VRS_EVENT_HEALTH_FAIL, VRS_EVENT_HEALTH, VRS_EVENT_STALE, VRS_EVENT_CLAIM_REFUSED, VRS_EVENT_TAKEOVER, VRS_EVENT_PARTNER_GAVE_UP, VRS_EVENT_GAVE_UP, VRS_EVENT_DEGRADED, VRS_EVENT_LINK_FAIL, VRS_EVENT_LINK_UP]
  else if o = 0x84 then [VRS_INT_EN_CFG_REFUSED, VRS_INT_EN_GCM_FAIL, VRS_INT_EN_RX_OVF, VRS_INT_EN_RX_MSG, VRS_INT_EN_NODE_CLASH, VRS_INT_EN_HEALTH_FAIL, VRS_INT_EN_HEALTH, VRS_INT_EN_STALE, VRS_INT_EN_CLAIM_REFUSED, VRS_INT_EN_TAKEOVER, VRS_INT_EN_PARTNER_GAVE_UP, VRS_INT_EN_GAVE_UP, VRS_INT_EN_DEGRADED, VRS_INT_EN_LINK_FAIL, VRS_INT_EN_LINK_UP]
  else if o = 0x90 then [VRS_CNT_HB_MISS, VRS_CNT_GCM_FAIL]
  else if o = 0x94 then [VRS_CNT_LINK_RETRAINS, VRS_CNT_LINK_LINK_FAILS]
  else if 0x100 ≤ o ∧ o < 0x1a0 then [VRS_OUT_CLASS ((o - 0x100) / 4), VRS_OUT_READY ((o - 0x100) / 4), VRS_OUT_HELD_HERE ((o - 0x100) / 4), VRS_OUT_OTHER_HOLDS ((o - 0x100) / 4), VRS_OUT_OTHER_CLAIM ((o - 0x100) / 4)]
  else []

end Sys2Proof.Machine
end

