-- ==== Sys2Proof/Machine/State.lean ====
section
/-!
DEFINITION. The state of the block: every register field in one sparse map, and what the manual gives the machine that no
register shows, engine by engine; the commands that wait; reset.
-/

namespace Sys2Proof.Machine

/-- Ruling state of a pen that no register shows (chapter 02). -/
structure Ruling where
  /-- RNI-referenced periods since bin 0, offset 0 (R42). -/
  count : Nat := 0
  /-- Ruling samples received past the period `count` began: eight make a period, and more wait at a bin's end for its address
  word (R42, R262). -/
  sub : Nat := 0
  /-- Sample rate of the NCO in 2^−16 Hz: eight times the period rate (R35, R39). -/
  nco : Nat := 0
  /-- Pending slip correction e (R47). -/
  pending : Option Int := none
  /-- Consecutive bin boundaries with no valid word (R47). -/
  miss : Nat := 0
  /-- Bins and referred payloads of the valid words of the last boundary in ADDR, RNI's first (R493). -/
  prev : List (Nat × Nat) := []
  /-- The bin whose words confirmed the last slip, until the next boundary, which is that bin's end (R47). -/
  slipBin : Option Nat := none
  /-- The count before that slip's correction, and the correction, until the same boundary (R84). -/
  slipFrom : Option (Nat × Int) := none
  /-- The lost ruling nib that counts as good again in SINGLE, until it has done so for one whole bin (R35, R37). -/
  back : Option RulNib := none
  /-- HOLD_LIMIT was reached in JUMP (R35). -/
  holdExpired : Bool := false
  deriving DecidableEq, Repr

/-- A preset choice: bank, layer, zone and generation (R73). -/
structure Preset where
  bank : Nat
  layer : Nat
  zone : Nat
  gen : Nat
  deriving DecidableEq, Repr

/-- A codeword under way at a nib, from its boundary to its framing (R77 to R81). -/
structure NibCw where
  f : Nat
  idx : Nat
  /-- Sample index of the predicted start, by the count as its sync window opened (R49, R77, R84). -/
  sample : Int
  spans : List (Nat × Nat) := []
  /-- Sync found at p with its score (R78). -/
  sync : Option (Int × Nat) := none
  /-- Resync offset d with its score (R79). -/
  resync : Option (Int × Nat) := none
  syncScore : Nat := 0
  resyncScore : Nat := 0
  /-- Shift kept by the slip test (R81). -/
  shift : Option Int := none
  noPreset : Bool := false
  /-- Sum of e² over its samples so far, in 2^−122 LSB², and their number (R85). -/
  err : Nat := 0
  judged : Nat := 0
  deriving DecidableEq, Repr

/-- Read-channel state of one data nib that no register shows (chapter 03). -/
structure Nib where
  /-- The preset applied since ENABLE. -/
  held : Option Preset := none
  /-- Its 64 bytes (R71). -/
  bytes : List (BitVec 8) := []
  /-- The entry being fetched (R74). -/
  fetching : Option Preset := none
  /-- A fetched entry that waits for its boundary (R74). -/
  fetched : Option (Preset × List (BitVec 8)) := none
  /-- Samples in the ink ring, newest first, at most 81,920 (R55). -/
  ring : List (BitVec 8) := []
  /-- Sample index just past the newest sample corrected and stored (R262, R263). -/
  at_ : Nat := 0
  /-- Channel bit of the present codeword at which the blot in progress began (R65). -/
  blotFrom : Option Nat := none
  /-- A blot is in progress on a ruling nib, with the samples since its criterion last fired (R66, R68). -/
  rulBlot : Option Nat := none
  /-- Codewords under way, the oldest first: a boundary passes before the codeword behind it is framed (R53, R80). -/
  cws : List NibCw := []
  /-- Corrected samples, newest first, at most 2,048: x1 in 2^−19 LSB, x2 in 2^−53 LSB, and x2 as the neighbours see it, 0 while
  it is blanked (R61); and how many of them the loops have not judged yet. -/
  corr : List (Int × Int × Int) := []
  lag : Nat := 0
  /-- Tentative decisions, newest first, at most 2,048: ±1, and as the neighbours' main detectors see them (R61). -/
  dec : List (Int × Int) := []
  /-- Interference terms that the main detector has subtracted, newest first, at most 64, in 1/256. -/
  iti : List Int := []
  /-- XTERM_EN and ITI_EN as they stood at the last codeword boundary (R62). -/
  xterm : Bool := true
  itiOn : Bool := true
  /-- Channel bits left of the first 4,000 of a folio preamble (R58). -/
  early : Nat := 0
  /-- The running averages of the Blotter (R65): servo sums over 128 ns, at most 500, and peak-to-peak values over 64 samples, at
  most 64, newest first; and the samples of the window under way. -/
  sums : List Nat := []
  peaks : List Nat := []
  window : List Int := []
  /-- Sum of the element samples of the 16 under way, and their number (R65). -/
  elem : Nat × Nat := (0, 0)
  /-- The last total over 16 element samples, and the last peak-to-peak over 64 corrected samples in 2^−6 LSB (R65). -/
  short : Nat := 0
  peak : Nat := 0
  /-- Samples have passed that the ring does not take, since the island lost the ruling clock or the pen left the nib out: the next
  ones begin anew (R57, R279, R280). -/
  anew : Bool := false
  deriving DecidableEq, Repr

/-- What a codeword waits for or undergoes in the decoder pool and the ladder (R89 to R108). -/
inductive CwPhase where
  /-- In the input buffer, waiting for its L0 decode. -/
  | l0
  /-- L0 failed; the spill record is queued or being copied (R98). -/
  | spilling
  | l1
  /-- Waiting for, or in, an L2 replay (R101). -/
  | l2
  /-- In the four passes of L3 (R102). -/
  | l3
  /-- Waiting at L4 or a later rung (R104). -/
  | pending
  /-- A fresh read's decode (R106). -/
  | fresh
  deriving DecidableEq, Repr

/-- One codeword of the decoder pool or the ladder (R89 to R114). -/
structure Cw where
  pen : Nat
  nib : Nat
  f : Nat
  idx : Nat
  dest : Nat
  track : Nat
  layer : Nat
  side : Nat
  key : Nat
  bypass : Bool
  verify : Bool
  desc : Nat
  /-- Status bits of R112. -/
  status : Nat
  spans : List (Nat × Nat)
  syncWord : Nat
  sample : Int
  preset : Preset
  altValid : Bool
  /-- Framed RESYNC_SPLIT (R82). -/
  split : Bool := false
  llrs : List Int
  /-- Passes the framing test of R140: sync found, d = 0, and none of FLYWHEEL, SLIPTEST or RESYNC_MISS. -/
  clean : Bool := true
  /-- The folio header and user data a verify or read-back expects: their Inkwell addresses (R140, R145). -/
  hdr : Nat := 0
  row : Bool := false
  /-- Order of entry to its rung among all retry tasks (R90). -/
  entry : Nat := 0
  /-- Its samples are lost to the ring writer (R56). -/
  lost : Bool := false
  /-- The five sample windows as the spill engine copies them: offset in the window and samples, oldest first (R96, R98). -/
  windows : List (Nat × List (BitVec 8)) := []
  /-- The preset a replay fetched at its start (R101, R109), and the LLRs that wait in its replay channel (R103). -/
  replay : Option (Preset × List (BitVec 8)) := none
  rllrs : List Int := []
  /-- Neighbours whose L3 decode succeeded, with their decoded bytes: −1 and +1 as 0 and 1 (R102). -/
  aids : List (Nat × List (BitVec 8)) := []
  /-- The preset entries of the neighbours that an L3 replay fetched at its start, lower first (R102, R109). -/
  sides : List (Option (List (BitVec 8))) := []
  phase : CwPhase := .l0
  /-- Rung it stands at, and the L6 step, 0 to 3 for a to d (R104). -/
  rung : Nat := 0
  sub : Nat := 0
  /-- Holds an input buffer slot (R89). -/
  inBuf : Bool := true
  /-- Spill slot (R99). -/
  slot : Option Nat := none
  /-- L2 replay output waits in a replay channel (R103). -/
  replayReady : Bool := false
  /-- L3 passes done, and neighbour decodes still due (R102). -/
  passes : Nat := 0
  neighbours : Nat := 0
  iters : Nat := 0
  weight : Nat := 0
  /-- Hard decisions of the last failed decode (R111). -/
  lastData : List (BitVec 8) := []
  deriving DecidableEq, Repr

/-- What a core works on: a codeword at L0, a retry decode of it, or the decode of one of its neighbours at L3, k − 1 or k + 1. -/
inductive TaskKind where
  | l0 | retry | neighbour (upper : Bool)
  deriving DecidableEq, Repr

/-- A decoder core's task and the cap in force when it started (R91). -/
structure Task where
  cw : Nat
  kind : TaskKind
  cap : Nat
  deriving DecidableEq, Repr

/-- A pen's revisit sequence (R104, R105): whether it is running, steps taken (0 to 7), the codewords still to be read in the step in
force, and the place where its read revolution begins, in bins since ADDR was entered. -/
structure Revisit where
  running : Bool := false
  step : Nat := 0
  todo : List Nat := []
  from_ : Nat := 0
  /-- The place where that revolution ends, and whether the step's rung was enabled as it took force (R95, R105). -/
  stop_ : Nat := 0
  decodes : Bool := true
  deriving DecidableEq, Repr

/-- Decoder-pool and ladder state that no register shows (chapter 04). -/
structure Ldpc where
  cws : Store Cw := []
  nextCw : Nat := 0
  /-- L0 codewords in hand-off order (R90). -/
  l0q : List Nat := []
  /-- Retry tasks that are ready, and the entries to a rung made so far (R90). -/
  retryq : List (Nat × TaskKind) := []
  entries : Nat := 0
  /-- Tasks of busy cores. -/
  busy : Store Task := []
  /-- Spill records in order of failure (R98). -/
  spillq : List Nat := []
  /-- Codewords waiting for a replay channel, in order. -/
  replayq : List Nat := []
  /-- Codeword in each busy replay channel (R103). -/
  chans : Store Nat := []
  revisit : Store Revisit := []
  /-- The codeword whose capture record is being written (R114). -/
  capture : Option Cw := none
  deriving DecidableEq, Repr

/-- One descriptor of the current group (R125), with what has come of it so far. -/
structure Desc where
  idx : Nat
  kind : Nat
  nib : Nat
  layer : Nat
  side : Nat
  bypass : Bool
  irq : Bool
  band : Nat
  mask : Nat
  f : Nat
  key : Nat
  data : Nat
  hdr : Nat
  /-- Codewords or nibs delivered or passing. -/
  pass : Nat := 0
  /-- Codewords poisoned, abandoned or handed to the revisit rungs. -/
  bad : Nat := 0
  /-- Nibs that burn now, and nibs whose burn has completed. -/
  burning : Nat := 0
  burned : Nat := 0
  /-- A WRITE that is read back in its group: VMODE as its burn completed (R141). -/
  readBack : Bool := true
  /-- Nibs whose read or read-back pass has begun at the folio's first codeword, and the codewords framed in it by nib (R127). -/
  reading : Nat := 0
  taken : Store Nat := []
  /-- Codewords of each nib's copy of a Colophon that pass, and that have been judged (R145). -/
  good : Store Nat := []
  judged : Store Nat := []
  /-- The header block's sixteen headers and the user data of the sixteen codewords, as read and encrypted when its group started
  (R120, R129). -/
  headers : List (List (BitVec 8)) := []
  users : List (List (BitVec 8)) := []
  maxIter : Nat := 0
  /-- The status it will complete with, once known (R128). -/
  verdict : Option Nat := none
  done : Bool := false
  deriving DecidableEq, Repr

/-- Write-channel state of a pen that no register shows (chapter 05). -/
structure Wc where
  group : List Desc := []
  started : Bool := false
  /-- The gate ledger: original PFA and whether it is marked RELOCATE (R143). -/
  ledger : Store Bool := []
  /-- Bytes in each nib's write FIFO, at most 32,768, and the channel bits of its folio that have left it (R132). -/
  fifo : Store Nat := []
  sent : Store Nat := []
  /-- Write power in force for each burning nib, 0.01 mW (R135). -/
  power : Store Nat := []
  /-- Strategy table in force for each burning nib (R134). -/
  table : Store Nat := []
  /-- The strategy tables acknowledged by the pen: key 4k + t, bytes as sent (R133). -/
  loading : Option (Nat × Nat × List (BitVec 8)) := none
  tables : Store (List (BitVec 8)) := []
  deriving DecidableEq, Repr

/-- A shadow loop's output that waits for the echo of its sample (R174). -/
structure Await where
  loop : Nat
  dest : Nat
  /-- The sample: a servo WINDOW, or a stage's frame number. -/
  sample : Nat
  out : Int
  /-- P + D + Σc of that run, in Q17.47 (R171). -/
  rest : Int
  /-- A tick has ended since. -/
  old : Bool := false
  deriving DecidableEq, Repr

/-- How the repetitive term of a table plays (R178). -/
structure Fade where
  /-- ANGLE_VALID at the loop's last sample. -/
  valid : Bool := false
  /-- Scale of the term, in 1/256. -/
  scale : Nat := 0
  /-- The last value played, and the one played when ANGLE_VALID fell. -/
  last : Int := 0
  fall : Int := 0
  /-- Bins written behind a running clear, which has passed them already (R179). -/
  kept : Store Nat := []
  deriving DecidableEq, Repr

/-- Loop Engine state that no register shows (chapter 06). -/
structure Engine where
  /-- MODE writes, and requests of the axis supervisor or a commutator, that wait for a loop's boundary (R170, R172). -/
  modeReq : Store Nat := []
  supReq : Store Nat := []
  /-- Every block's output in the loop's last run, first block first (R171). -/
  prevOut : Store (List Int) := []
  /-- The LIMIT blocks that held their output in the loop's last run, and in which direction (R162). -/
  held : Store (List (Nat × Int)) := []
  /-- The last command the engine sent to each destination (R165). -/
  sent : Store Int := []
  /-- Last echo received for each destination: its sample and value. -/
  echo : Store (Nat × Int) := []
  /-- Last echoed command of each loop since it entered SHADOW (R170). -/
  echoed : Store Int := []
  /-- Outputs waiting for an echo, and echoes that came after their run: value, output, rest (R174). -/
  await : List Await := []
  late : Store (List (Int × Int × Int)) := []
  /-- An update formed for table t: loop, bin, word, and whether a blot was seen since (R177). -/
  upd : Store (Nat × Nat × Nat × Bool) := []
  fade : Store Fade := []
  /-- A blot began on the pen since the last tick. -/
  blotSeen : Bool := false
  /-- A slip was confirmed since the last tick (R182). -/
  slipNew : Bool := false
  /-- Shadow mismatches and echo misses since the last health report (R398). -/
  healthMis : Nat := 0
  healthMiss : Nat := 0
  deriving DecidableEq, Repr

/-- A completed servo sample that waits for its tick (R153, R186, R192). -/
structure Sample where
  /-- Cause bits of R192; none set means valid. -/
  cause : Nat
  /-- Array sum in Q1.31 of full scale; none where the tick carries no measured sample. -/
  sum : Option Nat := none
  fe : Int := 0
  te : Int := 0
  /-- Usable nibs. -/
  usable : Nat := 0
  window : Nat := 0
  /-- Bin in force when it was taken, while the angle index is valid (R43). -/
  bin : Option Nat := none
  /-- The supervisor has evaluated it. -/
  seen : Bool := false
  deriving DecidableEq, Repr

/-- The phases of a layer jump (R199). -/
inductive JumpPhase where
  | none | prepare | kick | brake | catching | settle
  deriving DecidableEq, Repr

/-- The phases of a track jump (R200). -/
inductive TrackJump where
  | none | prepare | kick | brake | wait
  deriving DecidableEq, Repr

/-- Error front end and axis supervisor of a pen: what no register shows (chapter 07). -/
structure Sup where
  sample : Option Sample := none
  /-- The last tick was started for want of a sample (R191). -/
  noPacket : Bool := false
  /-- WINDOW of the last completed servo window, and the parts and element sums of the one under way: key 8k + element. -/
  lastWindow : Option Nat := none
  parts : List Nat := []
  window : Nat := 0
  acc : Store Nat := []
  /-- Latchable values of the engine's block as the last completed tick left them, kept while a tick is under way (R203). -/
  before : Store Nat := []
  /-- ERR0 to ERR8 of the last valid sample (R187). -/
  errs : List Int := []
  /-- Array sums of the last valid samples taken while focus was LOCKED, newest first, at most 1,024 (R187). -/
  sums : List Nat := []
  resumeRun : Nat := 0
  escapeRun : Nat := 0
  /-- FE at the last tick not skipped, and TE at the last valid tick (R196, R197, R200). -/
  lastFe : Option Int := none
  lastTe : Option Int := none
  /-- Consecutive valid ticks inside the lock window, and ticks in LOCKING (R196, R197). -/
  lockRun : Nat := 0
  lockTicks : Nat := 0
  trackRun : Nat := 0
  slipRun : Nat := 0
  /-- TRACK_STATE that HOLD returns to; 0 for none. -/
  heldTrack : Nat := 0
  /-- HOLD was entered from LOCKING. -/
  fromLocking : Bool := false
  /-- The focus command the supervisor ramps: MAN_VALUE of the focus loop, kept on a standby too (R203). -/
  man : Int := 0
  /-- S-curves counted in the sweep, and whether this tick's crossing is the one sought. -/
  curves : Nat := 0
  capture : Bool := false
  /-- A TE crossing at which WAIT captures was seen on this tick. -/
  teCapture : Bool := false
  /-- Loops the supervisor holds: bit 0 yaw, 1 tilt, 2 aberration, 3 sled follow. -/
  auxHeld : Nat := 0
  /-- Focus (bit 0) and tracking (bit 1) loops that a takeover asks into AUTO: once there, they follow their supervisor's state (R396). -/
  tookOver : Nat := 0
  /-- Axes taken from the supervisor until the next ACQ.START: bit 0 focus, 1 tracking, 2 yaw, 3 tilt, 4 aberration, 5 sled
  follow (R203). -/
  taken : Nat := 0
  /-- TRK_AUTO was written 1 and WAIT is to be entered at the next tick (R497). -/
  waitNext : Bool := false
  /-- ACQ.START was written since the last tick (R203). -/
  acqNow : Bool := false
  jump : JumpPhase := .none
  jumpsLeft : Nat := 0
  jumpBase : Int := 0
  jumpTicks : Nat := 0
  jumpEnd : Bool := false
  jumpFail : Bool := false
  tjump : TrackJump := .none
  tjBase : Int := 0
  tjTicks : Nat := 0
  tjCrossings : Nat := 0
  tjSlip : Bool := false
  deriving DecidableEq, Repr

/-- A burn that a SLOT packet has scheduled (R270). -/
structure Slot where
  start : Nat
  bits : Nat
  power : Nat
  table : Nat
  /-- The powers of the sixteen codewords of a CAL position; empty where the whole slot burns at `power` (R137; assumption 84). -/
  steps : List Nat := []
  /-- SEQ of the packet. -/
  seq : Nat := 0
  deriving DecidableEq, Repr

/-- The last ACTUATOR packet sent (R269). -/
structure Actuator where
  window : Nat
  mask : Nat
  laser : Nat
  power : Nat
  slots : List Nat
  deriving DecidableEq, Repr

/-- Link state of a pen port that no register shows (chapter 10). -/
structure Link where
  abort : Nat := 0
  slots : Store Slot := []
  tableSent : Option (Nat × Nat) := none
  /-- The TABLE packets of that load: SEQ, segment, and the segment's ten entries (R268, R272). -/
  tableSegs : List (Nat × Nat × List Nat) := []
  /-- The last SEQ sent of SLOT, FREQ and TABLE packets, by 16 × TYPE + data nib (R262, R268). -/
  dnSeqs : Store Nat := []
  freqWord : Option Nat := none
  actuator : Option Actuator := none
  /-- Lens offset of the last PEN_STATUS, Q1.15 (R187, R266). -/
  lens : Nat := 0
  /-- The sample index extended to 64 bits (R264). -/
  sidx : Nat := 0
  /-- The same at the close of the last interval of which a packet has come, and the COUNT of that interval (R263). -/
  closed : Nat := 0
  lastCount : Nat := 0
  /-- In SHIFT, the lanes have locked again at N2 rates (R276). -/
  relocked : Bool := false
  /-- Last sequence number received of each packet type and source: key 32 × TYPE + source (R279). -/
  seqs : Store Nat := []
  /-- PLL_LOCK has suspended lane-loss counting (R278). -/
  suspended : Bool := false
  /-- The N2 PLL of quad q is locked: kept with port 4q (R277). -/
  quadLocked : Bool := false
  /-- Obeyed port and HELD of the last CLAIM_STATUS (R385), and the ages of the two ports' claims in µs (R267). -/
  claimSeen : Option (Bool × Bool) := none
  ages : Nat × Nat := (0, 0)
  /-- SYS_TIME at which that CLAIM_STATUS came: the claims age from there (R387). -/
  claimAt : Nat := 0
  /-- Nibs burning and pen temperature in 0.5 °C of the last PEN_STATUS, and the nib status words: N1's 16-bit ones of the last
  PEN_STATUS, N2's 32-bit ones of the last SERVO packet (R262, R266). -/
  burning : Nat := 0
  penTemp : Nat := 0
  nibWords : List Nat := []
  /-- The last CLAIM packet sent: SEQ, claim, domain epoch, SYS_TIME (R268). -/
  claimSent : Option (Nat × Nat × Nat × Nat) := none
  /-- The last WRITE packet sent for each nib: SEQ and its 1,024 channel bits (R268). -/
  written : Store (Nat × Nat) := []
  deriving DecidableEq, Repr

/-- A switching command to a spindle stage (R206, R252): phases 0 U, 1 V, 2 W; mode 0 DRIVE, 1 REGEN, 2 SHORT, 3 OFF; times in
4 ns from the apply time of the first frame that carries the command. -/
structure Pwm where
  high : Nat := 0
  low : Nat := 0
  mode : Nat := 3
  on : Nat := 0
  off : Nat := 0
  seq : Nat := 0
  deriving DecidableEq, Repr

/-- A spindle commutator: what no register shows (chapter 08). -/
structure Spindle where
  /-- Step intervals in ns, newest first, at most six (R213). -/
  intervals : List Nat := []
  /-- Time of the next commutation after the last one, ns, once a crossing is confirmed (R212). -/
  nextAt : Option Nat := none
  misses : Nat := 0
  /-- Brake bursts and failed handovers of this start (R215). -/
  brakes : Nat := 0
  openFails : Nat := 0
  /-- Consecutive crossings inside ±15° (R219). -/
  qual : Nat := 0
  /-- Samples of the floating phase since the last commutation, newest first, at most 16: twice the sample less the bus sample latest
  then, in 10 mV (R211). -/
  zc : List Int := []
  /-- Three times the square of the open-loop speed in rpm (R219). -/
  openSq : Nat := 0
  /-- The ramp is held for a slot and SLOT_WAIT has been set for it (R223). -/
  slotWait : Bool := false
  /-- Consecutive steps of RUN within ±0.5% of the set point, and MEAS at the last steps, newest first, at most 64 (R221). -/
  steady : Nat := 0
  recent : List Nat := []
  /-- REF is at the set point and the last 64 steps were near it (R221). -/
  atSpeed : Bool := false
  /-- On its way out of PS3 or PS4: the set point is 3,600 rpm until AT_SPEED, and then 7,200 rpm (R27, R354). -/
  staged : Bool := false
  /-- PWM periods still without a pulse after a trip, and the SYS_TIME of the last trips (R214). -/
  skip : Nat := 0
  trips : List Nat := []
  /-- Place in the m periods of pulse shifting (R210). -/
  shift : Nat := 0
  /-- REF's fraction of 1/16 rpm, in 1/2,500 (R221). -/
  refFrac : Nat := 0
  /-- Winding estimate in (5 mA)² × 25 µs, and its clamp (R228). -/
  heat : Nat := 0
  clamp : Bool := false
  /-- Latest shunt magnitude, 5 mA. -/
  current : Nat := 0
  /-- Predicted energy of a deceleration under way, 0.01 J (R225). -/
  regen : Option Nat := none
  /-- Taken off regeneration by a chopper fault (R226). -/
  chopShort : Bool := false
  /-- Back from that short with a demand of 0, while the fault stays latched (R226). -/
  chopZero : Bool := false
  /-- In the 100 ms coast after a failed handover (R215). -/
  coastWait : Bool := false
  /-- COAST after DESYNC with AUTO_RECATCH = 0. -/
  desync : Bool := false
  cmd : Pwm := {}
  /-- Commutations of a standby's tracking that disagreed with the stage's echo since the last health report (R398). -/
  disagree : Nat := 0
  /-- The step of the commutation in progress, where it has been counted in disagreement already (R398). -/
  disStep : Option Nat := none
  deriving DecidableEq, Repr

/-- A motor bus: what no register shows (R223, R225). -/
structure MotorBus where
  /-- Energy accumulator in 5 × 10^−14 J. -/
  energy : Nat := 0
  /-- Spindles that wait for a spin-up slot, in request order. -/
  waiting : List Nat := []
  /-- The latest chopper current, 5 mA (R226). -/
  current : Nat := 0
  deriving DecidableEq, Repr

/-- One segment of a sled's plan (R238 to R240): kind 0 a change of speed, 1 a cruise, 2 a blend-out; speeds in nm/s, duration
in ns, length in fm (10^−15 m). -/
structure Seg where
  kind : Nat
  v0 : Int
  v1 : Int
  dur : Nat
  dist : Int
  deriving DecidableEq, Repr

/-- A qualification window of a limit switch (R247): raw edges in it, and the position at the first one (R248). -/
structure SwWindow where
  edges : Nat
  pos : Int
  deriving DecidableEq, Repr

/-- What a sled does when its profiled stop ends (R249). -/
inductive HomeNext where
  | none | back | approach | finish
  deriving DecidableEq, Repr

/-- A sled: what no register shows (chapter 09). Positions of the plan in fm, of the interpolator in microsteps. -/
structure Sled where
  /-- Writes that wait for the planner tick (R237, R240). -/
  modeReq : Option Nat := none
  targetReq : Option (Int × Bool) := none
  plan : List Seg := []
  /-- ns into the first segment, its shape, and the plan's position at its start. -/
  t : Nat := 0
  shape : Nat := 0
  x : Int := 0
  /-- Speed and acceleration of the plan, nm/s and µm/s². -/
  v : Int := 0
  a : Int := 0
  /-- A point-to-point plan is under way, or at its end and waiting for MOVE_DONE. -/
  moving : Bool := false
  /-- The microstep the interpolator runs to, its interval and the time since the last coarse event, ns (R243). -/
  goal : Int := 0
  interval : Nat := 0
  since : Nat := 0
  /-- The sled was at rest at the last planner tick; since it left rest, the plan last ran outward or inward (R243). -/
  rest : Bool := true
  inward : Bool := false
  /-- EXT edges that wait for the interpolator: outward, and the interval each takes (R244). -/
  edges : List (Bool × Nat) := []
  extSeen : Bool := false
  /-- Where the present homing travel began, the end of the back-off once the switch has released, and what follows the
  profiled stop under way (R249). -/
  homeFrom : Int := 0
  homeMark : Option Int := none
  homeNext : HomeNext := .none
  win : Option SwWindow := none
  /-- The unit held the stage's claim at the last planner tick, and the stage has obeyed this unit since it last obeyed another
  (R236, R245). -/
  claimed : Bool := false
  mine : Bool := false
  /-- Stopped at once since the last planner tick (R257). -/
  stopped : Bool := false
  deriving DecidableEq, Repr

/-- A stage as its status records show it (R253, R255). -/
structure Stage where
  missing : Nat := 0
  /-- Apply time of the command in force, echo bytes 8 to 11, and temperature in 0.5 °C. -/
  applied : Nat := 0
  echo : List (BitVec 8) := []
  temp : Nat := 0
  deriving DecidableEq, Repr

/-- A Ductus bus: the cycle number and the last frame sent (R251). -/
structure DucBus where
  cycle : Nat := 0
  frame : List (BitVec 8) := []
  deriving DecidableEq, Repr

/-- A message on the Verso link (R388). -/
inductive VersoMsg where
  | heartbeat (node role : Nat) (degraded : Bool) (health time : Nat)
  | writeData (addr : Nat) (data : List (BitVec 8))
  | dataAck (addr : Nat)
  | sealOp (which : Nat) (take : Bool)
  | giveUp (cause : Nat)
  | firmware (data : List (BitVec 8))
  deriving DecidableEq, Repr

/-- The Verso link and self-diagnosis: what no register shows (chapter 15). -/
structure Verso where
  /-- The messages sent since the link came up, oldest first, each with its bytes on the link, and the message counter of this
  direction (R388). -/
  sent : List (VersoMsg × List (BitVec 8)) := []
  counter : Nat := 0
  /-- SYS_TIME of recent messages that failed authentication (R391). -/
  gcmFails : List Nat := []
  /-- The link has been UP throughout the present health period (R398). -/
  linkOk : Bool := false
  /-- Inkwell addresses of mirrored writes that the partner has acknowledged (R389). -/
  acked : List Nat := []
  /-- Consecutive heartbeat times at which none arrived. -/
  missRun : Nat := 0
  deriving DecidableEq, Repr

/-- A write-back that waits for an idle cycle of its channel (R292): the block, whether it stores the poison mark, and whether
the scrubber found it. -/
structure WriteBack where
  block : Nat
  poison : Bool
  scrub : Bool
  deriving DecidableEq, Repr

/-- An Inkwell channel: what no register shows (chapter 11). -/
structure InkCh where
  /-- Ages of the requesters, and cycles each one's present transfer has waited (R298, R300). -/
  age : Store Nat := []
  waited : Store Nat := []
  wbs : List WriteBack := []
  /-- The scrubber's next block, and its lap so far in µs (R302, R303). -/
  scrub : Nat := 0
  lapUs : Nat := 0
  deriving DecidableEq, Repr

/-- A write that the power-on fill has not yet passed (R297): len bytes from an address, the first ones given and the rest zero. -/
structure EarlyWrite where
  addr : Nat
  len : Nat
  bytes : List (BitVec 8)
  mark : Bool
  deriving DecidableEq, Repr

/-- The Inkwell: what no register shows (chapter 11). -/
structure Ink where
  chans : Store InkCh := []
  /-- What a planted test pattern decodes to: 2 address mismatch, 3 poisoned, 4 uncorrectable, or corrected: 1 with one error, 5 with two,
  6 with an unknown number (R305, R306). -/
  planted : Store Nat := []
  /-- Uncorrectables in the present rate window, and whether the self-diagnosis is still to be told of their rate (R295). -/
  ueCount : Nat := 0
  told : Bool := false
  /-- The block of the split test under way, and the data its first half stored, until another write (R306). -/
  halfBlock : Nat := 0
  half : Option (List (BitVec 8)) := none
  /-- Writes made before the fill has passed them, oldest first (R297). -/
  early : List EarlyWrite := []
  /-- The last block read by each requester, and whether it came marked poison. -/
  rets : Store (List (BitVec 8) × Bool) := []
  deriving DecidableEq, Repr

/-- A line of the Copybook: its tag, whether it is valid or a hole, the dirty bit and poison mark of each 64-byte half (bits 0
and 1), and its 128 bytes (R317, R326). Scratch ways keep their content in the same lines. -/
structure CpbLine where
  tag : Nat
  valid : Bool
  hole : Bool
  dirty : Nat
  poison : Nat
  data : List (BitVec 8)
  deriving DecidableEq, Repr

/-- An entry of the victim buffer (R321). -/
structure Victim where
  addr : Nat
  dirty : Nat
  poison : Nat
  data : List (BitVec 8)
  deriving DecidableEq, Repr

/-- The Copybook: what no register shows (chapter 12). -/
structure Copybook where
  /-- Lines by 16 × set + way. -/
  lines : Store CpbLine := []
  victims : List Victim := []
  /-- KIND and WAY of the operation that runs (R323). -/
  op : Option (Nat × Nat) := none
  /-- Tag that the running PRELOAD gives its way. -/
  base : Nat := 0
  deriving DecidableEq, Repr

/-- A Scribe as its accesses see it (R310 to R315): what the last access returned, the exception the last one took (cause and
mtval), and its reservation. -/
structure Scribe where
  value : Nat := 0
  trap : Option (Nat × Nat) := none
  resv : Option Nat := none
  /-- It runs in user mode; the mode its last exception came from; and its PMP entries, lowest first, each a configuration byte and an
  address (R310). -/
  user : Bool := false
  prevUser : Bool := false
  pmp : List (Nat × Nat) := []
  /-- Milliseconds of its watchdog's count when last seen, and whether this count has passed TIMEOUT (R437). -/
  count : Nat := 0
  warned : Bool := false
  deriving DecidableEq, Repr

/-- A submission queue: its completion queue, entries, and pointers. What its entries hold is host memory (R346). -/
structure Sq where
  cq : Nat
  size : Nat
  head : Nat := 0
  tail : Nat := 0
  deriving DecidableEq, Repr

/-- A completion entry (R346): the submission queue and command it answers, NVMe status (type × 256 + code) and DW0. -/
structure Cqe where
  sq : Nat
  cid : Nat
  status : Nat
  dw0 : Nat
  deriving DecidableEq, Repr

/-- A completion queue (R344, R346): its vector, whether it interrupts, entries, pointers, and the entries the host has not taken. -/
structure Cq where
  size : Nat
  vector : Nat
  ien : Bool
  head : Nat := 0
  tail : Nat := 0
  entries : List Cqe := []
  /-- Completions that wait for room in the queue (R346). -/
  waiting : List Cqe := []
  deriving DecidableEq, Repr

/-- One host function: its NVMe controller and MSI-X (R344, R488). -/
structure HostFn where
  /-- CC.EN, CSTS.RDY, CSTS.PP, and the bits of CC other than EN and SHN. -/
  en : Bool := false
  rdy : Bool := false
  pp : Bool := false
  cc : Nat := 0
  /-- CC.SHN and CSTS.SHST. -/
  shn : Nat := 0
  shst : Nat := 0
  /-- AQA, ASQ and ACQ. -/
  aqa : Nat := 0
  asq : Nat := 0
  acq : Nat := 0
  sqs : Store Sq := []
  cqs : Store Cq := []
  /-- Feature values by feature identifier, and the APST table (R345, R355). -/
  features : Store Nat := []
  apst : Option (List Nat) := none
  /-- Asynchronous Event Requests that wait, and events that no request has reported (R345). -/
  aers : List Nat := []
  events : List Nat := []
  /-- MSI-X table words, pending bits, and interrupts sent by vector (R344). -/
  msix : Store Nat := []
  pba : Store Bool := []
  irqs : Store Nat := []
  /-- The data that host DMA last carried to the host for this function. -/
  dma : List (BitVec 8) := []
  /-- Last configuration request answered with Configuration Request Retry Status (R343). -/
  crs : Bool := false
  /-- SYS_TIME at which the present idle period began (R355). -/
  idleFrom : Option Nat := none
  /-- HQ_ADM_SEQ when a normal shutdown was notified: the writes it flushes are those admitted before (R350). -/
  shnAt : Nat := 0
  /-- Commands aborted while they still wait in a submission queue: queue and command identifier (R348). -/
  aborts : List (Nat × Nat) := []
  deriving DecidableEq, Repr

/-- A run of LBAs with its precedence, as Scribe 5 holds it (R360, R368): an unmapping, or data on a disc. -/
structure MRun where
  nsid : Nat
  lba : Nat
  count : Nat
  unmap : Bool := false
  disc : Nat := 0
  /-- Folio index in its quire and codeword index in its folio of the first LBA, and the PFA of that folio. -/
  folio : Nat := 0
  cw : Nat := 0
  pfa : Nat := 0
  /-- Positions between its quire and the next one that it runs on into (R362). -/
  gap : Nat := 0
  /-- Data nibs of the pen that burned it, and its media generation (R119, R25). -/
  nibs : Nat := 16
  bx2 : Bool := true
  /-- Ledger stamp, node, side (2 × disc + side) and Colophon sequence number (R124, R368). -/
  stamp : Nat := 0
  node : Nat := 0
  side : Nat := 0
  seq : Nat := 0
  deriving DecidableEq, Repr

/-- What an open or closed quire holds of one command: its LBAs and where their data lies, none for an unmapping (R376). -/
structure QRun where
  adm : Nat
  nsid : Nat
  lba : Nat
  count : Nat
  addr : Option Nat
  deriving DecidableEq, Repr

/-- A quire in flight (R376 to R379). -/
structure Quire where
  isOpen : Bool := true
  byFlush : Bool := false
  /-- Its runs, trimmed by later ones; codewords of data it has taken, and the commands it has taken runs of, each with its namespace
  (R119, R349, R368). -/
  runs : List QRun := []
  used : Nat := 0
  took : List (Nat × Nat) := []
  /-- Relocated copies of its folios that have been burned (R123, R142). -/
  relocs : Nat := 0
  /-- Its COLOPHON has completed OK (R146). -/
  committed : Bool := false
  deriving DecidableEq, Repr

/-- The states of a bound disc (R370). -/
inductive BindState where
  | chain | sort | build | ready
  deriving DecidableEq, Repr

/-- Why a bind is refused: the disc's generation does not match its spindle's pens (R25, R369), or the key that a data codeword of
the disc names is in no slot (R413). -/
inductive BindRefusal where
  | generation | noKey
  deriving DecidableEq, Repr

/-- The header of a Colophon record, as its layout gives it (R122, R368). -/
structure ColHead where
  flags : Nat
  seq : Nat
  quire : Nat
  node : Nat
  epoch : Nat
  time : Nat
  stamp : Nat
  deriving DecidableEq, Repr

/-- A disc that is bound, or being bound or unbound (R369, R370). -/
structure Disc where
  spindle : Nat
  bx2 : Bool
  /-- Disc ID in its Colophon records (R122), and the records that count so far: side, sequence number, CRC (R124, R149). -/
  id : Nat := 0
  records : List (Nat × Nat × Nat) := []
  heads : List ColHead := []
  phase : BindState := .chain
  /-- The NSID map: a disc's NSID to the local namespace. -/
  map : Store Nat := []
  /-- Sides whose chain has been read to its end. -/
  ends : List Nat := []
  runs : List MRun := []
  /-- Spans still to build: key 2^32 × namespace + span, pulled ones first. -/
  todo : List Nat := []
  leaving : Bool := false
  deriving DecidableEq, Repr

/-- Ledger state that no register shows (chapter 14). -/
structure Ledger where
  /-- The ring served last (R364). -/
  ring : Nat := 7
  quires : Store Quire := []
  discs : Store Disc := []
  /-- Runs of quires that this node has committed. -/
  applied : List MRun := []
  /-- The node's commit counter (R368, R369). -/
  counter : Nat := 0
  /-- The header of the record last committed here. -/
  head : Option ColHead := none
  /-- Spans to rebuild after a FAULT, and whether the directory entries are still to be written after RESET_N (R365, R372). -/
  rebuild : List Nat := []
  restore : Bool := true
  /-- The bind that was last refused, by disc, and why (R25, R369). -/
  bindRefused : Option (Nat × BindRefusal) := none
  /-- The run entries that resolve the last SLOW lookup; none for Namespace Not Ready (R371, R372). -/
  slow : Option (List (Nat × Nat)) := none
  deriving DecidableEq, Repr

/-- A range-lock entry: namespace, LBAs from lo up to hi, and whether it is write-class (R373). -/
structure Lock where
  nsid : Nat
  lo : Nat
  hi : Nat
  write : Bool
  deriving DecidableEq, Repr

/-- An admitted command (R347). -/
structure Admitted where
  fn : Nat
  sq : Nat
  cid : Nat
  cmd : NvmeCmd
  lock : Option Lock := none
  /-- Its data transfer or media work has begun (R348). -/
  began : Bool := false
  /-- A Write's data is whole in the Inkwell, and its runs are in the overlay (R350, R376). -/
  dataWhole : Bool := false
  /-- It has waited on an earlier conflicting entry (R374). -/
  waited : Bool := false
  /-- Quires whose commit it waits for: those of a Flush or of a Write with FUA (R349, R377). -/
  quires : List Nat := []
  /-- Addresses whose DATA_ACK it waits for, and whether it waits for the acknowledgement of its admission record (R390). -/
  acks : List Nat := []
  record : Bool := false
  /-- Completed, or dropped: only its lock is still held. -/
  over_ : Bool := false
  deriving DecidableEq, Repr

/-- A Firmware Commit with CA = 3 that waits to be rolled back (R351, R455, R456): the command, the Scribes already switched,
newest first, and the Scribes that were listed before. -/
structure Activation where
  adm : Nat
  switched : List Nat
  before : Nat
  deriving DecidableEq, Repr

/-- A namespace: its size in LBAs and the functions it is attached to, as a mask (R344, R345). -/
structure Ns where
  size : Nat
  ctrls : Nat
  dir : Nat := 0
  deriving DecidableEq, Repr

/-- Host-side state that belongs to no one function (chapter 13). -/
structure HostQ where
  cmds : Store Admitted := []
  /-- The queue last served and the commands taken from it in this round (R347). -/
  round : Nat × Nat × Nat := (0, 0, 0)
  /-- LBAs of the next command, a Write without room in the quires in flight (R347). -/
  noRoom : Option Nat := none
  /-- The queue whose command was next when fetch stopped: function and queue (R347). -/
  next : Option (Nat × Nat) := none
  nss : Store Ns := []
  /-- PERST# is asserted at a port; its link trains (R340). -/
  perst : List Nat := [0, 1]
  training : List Nat := []
  /-- The operational state last selected (R353). -/
  lastOp : Nat := 0
  /-- Resets that wait for an activation to complete (R356): 0 CC.EN and 1 FLR with the function, 2 PERST# with the port. -/
  heldResets : List (Nat × Nat) := []
  /-- Image data downloaded, by byte offset (R345). -/
  image : Store (BitVec 8) := []
  activation : Option Activation := none
  /-- TCG Opal payload last received from the host (R415). -/
  opal : List (BitVec 8) := []
  deriving DecidableEq, Repr

/-- A Lanesque session (R405 to R408): authority, function that opened it, session key, last sequence number accepted. -/
structure Session where
  auth : Nat
  fn : Nat
  key : List (BitVec 8)
  seq : Nat
  deriving DecidableEq, Repr

/-- An OPEN_1 exchange that waits for its OPEN_2 (R405): function, authority, host nonce, device nonce. -/
structure Opening where
  fn : Nat
  auth : Nat
  host : List (BitVec 8)
  device : List (BitVec 8)
  deriving DecidableEq, Repr

/-- What a session exchange last answered, with the MAC over its result area where it is protected (R405 to R408). -/
inductive SesResult where
  | none
  | nonce (device salt : List (BitVec 8)) (kind : Nat)
  | opened (id seq : Nat) (mac : List (BitVec 8))
  | accepted (id : Nat) (mac : List (BitVec 8))
  | authFail
  | noSession
  deriving DecidableEq, Repr

/-- A key command as at its START (R411): OP, KEK, slot, blob address; and, once it has been performed or refused, its OK. -/
structure KeyCmd where
  op : Nat
  kek : Nat
  slot : Nat
  addr : Nat
  ok : Option Bool := none
  deriving DecidableEq, Repr

/-- The SEC block: what no register shows (chapter 16). Keys are their bytes; an empty list is zeros or no key. -/
structure Sec where
  slots : Store (List (BitVec 8)) := []
  /-- Whole key IDs of the slots (R412). -/
  ids : Store Nat := []
  device : List (BitVec 8) := []
  domain : List (BitVec 8) := []
  pair : List (BitVec 8) := []
  verso : List (BitVec 8) := []
  /-- The key command that runs (R411). -/
  cmd : Option KeyCmd := none
  sessions : Store Session := []
  openings : Store Opening := []
  nextOpening : Nat := 0
  /-- Consecutive failed proofs by authority (R408). -/
  fails : Store Nat := []
  result : SesResult := .none
  /-- SYS_TIME of recent entropy failures; DRBG output withheld (R418). -/
  entFails : List Nat := []
  withheld : Bool := false
  /-- Generate requests since the last reseed, and reseeds made (R418). -/
  draws : Nat := 0
  reseeds : Nat := 0
  /-- SELFTEST is running (R420). -/
  testing : Bool := false
  /-- APPROVED has been lost since RESET_N (R422). -/
  lost : Bool := false
  deriving DecidableEq, Repr

/-- The boot flash, which a reset keeps (R433): PREFERRED, TRIAL, the images of the two slots, and the trial count that
firmware keeps (R457). -/
structure Flash where
  preferred : Nat := 0
  trial : Bool := false
  slots : Store (List (BitVec 8)) := []
  count : Nat := 0
  deriving DecidableEq, Repr

/-- Start-up (chapter 17): how far the sequence of R430 has come. -/
structure Boot where
  /-- The part is in reset: RESET_N is low, or rose while TESTEN was high (R478). -/
  low : Bool := true
  fuses : Bool := false
  bist : Bool := false
  trained : Bool := false
  /-- The slot being tried, and slots that have failed (R436). -/
  slot : Nat := 0
  failed : List Nat := []
  /-- Pins that a reset or a trip drives: BOOT_FAIL high, THERMTRIP_N low (R436, R450). -/
  bootFail : Bool := false
  thermTrip : Bool := false
  /-- A thermal trip holds the part in reset until the board asserts RESET_N (R450). -/
  held : Bool := false
  /-- SYS_TIME at which firmware that is on trial started, its attempt counted (R457). -/
  attempt : Option Nat := none
  /-- The image that the Scribes run (R456). -/
  image : List (BitVec 8) := []
  deriving DecidableEq, Repr

/-- A die sensor's history (R446): samples since its code last changed, its code, and every CORR at that change. -/
structure Sensor where
  same : Nat := 0
  code : Nat := 0
  others : List Int := []
  deriving DecidableEq, Repr

/-- The power manager: what no register shows (R448, R449). -/
structure Thermal where
  sensors : Store Sensor := []
  /-- Consecutive samples at 120 °C or more (R449). -/
  trips : Nat := 0
  /-- Sprint budget in 0.2 ms. -/
  left : Nat := 300000
  /-- Milliseconds since the step was last raised and lowered, saturating. -/
  raised : Nat := 1000
  lowered : Nat := 1000
  /-- Consecutive milliseconds of EST at or below SUSTAIN − 4 W, and of Tj below THROTTLE_C − 5 °C. -/
  low : Nat := 0
  cool : Nat := 0
  deriving DecidableEq, Repr

/-- What stops the machine. No command does: the exceptions of chapter 12 are taken by the Scribe that made the access, and every
error the manual describes is a state the machine goes on in. -/
inductive Fault where
  deriving DecidableEq, Repr

/-- What the model declines. -/
inductive Refusal where
  /-- A command that has no meaning in the model yet, by its mnemonic; raised by its arm in Dispatch.lean alone. Safe. -/
  | notModelled (mnemonic : String)
  deriving DecidableEq, Repr

/-- The state of the block. Every register field is in `fld` (RegPen, RegServo, RegChip, RegHost name them); a key that is not
listed there holds the field's reset value. The other fields hold what the manual gives the machine that no register shows. -/
structure State where
  /-- The commands that wait, first in, first out. -/
  pending : List Instr := []
  /-- Register fields by key; an absent one holds its reset value. -/
  fld : Store Nat := []
  /-- Shadows of latchable fields, and the bases of the blocks that have been captured since reset (R20 to R22). -/
  shadow : Store Nat := []
  captured : List Nat := []
  /-- The bytes of the Inkwell, and the blocks that carry the poison mark (R287, R294). -/
  mem : List Host.Cell := []
  poison : Store Bool := []
  /-- The model's own counter of the free values taken so far. -/
  freeCtr : Nat := 0
  /-- SYS_TIME runs (R19, R430). -/
  running : Bool := false
  /-- Chapters 02 to 05, by pen, by nib, and the decoder pool. -/
  rul : Store Ruling := []
  nibs : Store Nib := []
  ldpc : Ldpc := {}
  wc : Store Wc := []
  /-- The read-power step of a revisit that each pen is at (R104, R105). -/
  readPower : Store Nat := []
  /-- Chapter 10, by port. -/
  links : Store Link := []
  /-- Chapters 06 and 07: engines (the motion engine as 16) and pens. -/
  engines : Store Engine := []
  sups : Store Sup := []
  /-- Chapter 08: spindles, buses, and the sequencer entries in force. -/
  spindles : Store Spindle := []
  motorBuses : Store MotorBus := []
  seqFrame : Store Nat := []
  /-- The place in its frame at which each ADC takes its next entry (R230). -/
  seqPos : Store Nat := []
  /-- Chapter 09: sleds, stages and the buses of the Ductus. -/
  sleds : Store Sled := []
  stages : Store Stage := []
  ducBuses : Store DucBus := []
  /-- Chapters 15, 11 and 12: the Verso link, the Inkwell and the Copybook. -/
  verso : Verso := {}
  ink : Ink := {}
  cpb : Copybook := {}
  /-- Chapter 12: Scribes, their local memories by byte, and the words of those that are uncorrectable. -/
  scribes : Store Scribe := []
  locals : Store (BitVec 8) := []
  localBad : Store Bool := []
  /-- Host functions (chapter 13), and what the last read of each requester other than a Scribe returned (R9, R18). -/
  host : Store HostFn := []
  returned : Store Nat := []
  /-- Chapters 14, 13, 16, 17 and 18: the ledger, the host side, the SEC block, the boot flash, start-up, and the power manager. -/
  ledger : Ledger := {}
  hq : HostQ := {}
  sec : Sec := {}
  flash : Flash := {}
  boot : Boot := {}
  thermal : Thermal := {}
  /-- Coefficients that an ADC takes at its next frame start, GAIN and OFS (R463, R465); and whether an ADC of the re-trim under way
  has not passed. -/
  calNext : Store (Nat × Nat) := []
  calFailed : Bool := false
  /-- The host status window as last refreshed (R490). -/
  window : Store Nat := []
  /-- A takeover has not yet been followed by an enabled channel: the ANA state is Change (R400). -/
  anaChange : Bool := false
  /-- The levels outside drives on the GPIO balls (R483). -/
  gpioPins : Nat := 0
  deriving DecidableEq, Repr

/-- The machine right after reset: RESET_N low, every register field at its reset value, no memory byte listed, nothing
waiting. -/
def State.reset : State := {}

end Sys2Proof.Machine
end

