-- ==== Sys2Proof/Machine/Ops.lean ====
section
/-!
DEFINITION. The named operations over registers, memory and the queue of commands, and the meaning of a register access by
its access code (R4 to R9, R20 to R22, R492). Everything that touches a register field or a byte goes through these.
-/

namespace Sys2Proof.Machine

/-- The outcome of a command. -/
abbrev Res := Host.Outcome State Fault Refusal

/-! ### Register fields -/

/-- The live value of a field: the bits of its width. -/
def State.get (s : State) (f : Fld) : Nat := s.fld.getD f.key f.rst % 2 ^ f.width

/-- Set the live value of a field, cut to its width. -/
def State.set (s : State) (f : Fld) (v : Nat) : State :=
  { s with fld := s.fld.set f.key f.rst (v % 2 ^ f.width) }

/-- Record an event bit. -/
def State.ev (s : State) (f : Fld) : State := s.set f 1

/-- Count k events in a saturating counter. -/
def State.bump (s : State) (f : Fld) (k : Nat) : State :=
  s.set f (min (s.get f + k) (2 ^ f.width - 1))

/-- Advance a wrapping counter by k. -/
def State.wrap (s : State) (f : Fld) (k : Nat) : State := s.set f (s.get f + k)

/-- A one-bit field reads 1. -/
def State.on (s : State) (f : Fld) : Bool := s.get f == 1

/-- Bit i of a field. -/
def State.bit (s : State) (f : Fld) (i : Nat) : Bool := (s.get f).testBit i

/-- Set bit i of a field to b. -/
def State.setBit (s : State) (f : Fld) (i : Nat) (b : Bool) : State :=
  let v := s.get f
  s.set f (if b then v ||| 2 ^ i else v ^^^ (v &&& 2 ^ i))

/-- Apply a change only under a condition. -/
def State.iff (s : State) (c : Bool) (k : State → State) : State := if c then k s else s

/-- Apply a change once for each element of a list, in order. -/
def State.each {α : Type} (s : State) (l : List α) (k : State → α → State) : State := l.foldl k s

/-- Do something that gives a result for every element of a list in turn, and keep the results in order. -/
def State.collect {α β : Type} (s : State) (l : List α) (f : State → α → β × State) : List β × State :=
  l.foldl (fun (a : List β × State) x => (a.1 ++ [(f a.2 x).1], (f a.2 x).2)) ([], s)

/-- A free value, and the counter moved on: nothing constrains the value. -/
def State.fresh (s : State) : Nat × State := (Config.freeValue s.freeCtr, { s with freeCtr := s.freeCtr + 1 })

/-- An open yes-or-no: the parity of the next free value. -/
def State.freeBit (s : State) : Bool := Config.freeValue s.freeCtr % 2 == 1

/-- An open yes-or-no, and the counter moved on. -/
def State.coin (s : State) : Bool × State := (s.freeBit, { s with freeCtr := s.freeCtr + 1 })

/-- A quotient whose rounding the manual leaves open: exact where it is exact, else one of the two neighbouring integers; a
quotient by zero is a free value. -/
def State.divFree (s : State) (a : Int) (d : Nat) : Int × State :=
  if d = 0 then let (v, s) := s.fresh; ((v : Int), s)
  else if a % (d : Int) = 0 then (a / (d : Int), s)
  else let (up, s) := s.coin; (a / (d : Int) + (if up then 1 else 0), s)

/-- Two's complement of w bits. -/
def toSigned (w v : Nat) : Int := if 2 ^ (w - 1) ≤ v % 2 ^ w then ((v % 2 ^ w : Nat) : Int) - ((2 ^ w : Nat) : Int) else ((v % 2 ^ w : Nat) : Int)

/-- The w-bit two's complement encoding of an integer. -/
def ofSigned (w : Nat) (i : Int) : Nat := (i % ((2 ^ w : Nat) : Int)).toNat

/-- Clamp an integer into a closed range. -/
def clampInt (lo hi i : Int) : Int := if i < lo then lo else if hi < i then hi else i

/-- The present SYS_TIME. -/
def State.now (s : State) : Nat := s.get SYS_TIME_TIME

/-! ### Memory of the Inkwell -/

/-- First address past the Inkwell data (R287, R288). -/
abbrev inkLimit : Nat := 0x0F00000000

/-- First address past the check-region window (R288). -/
abbrev inkWindowEnd : Nat := 0x1000000000

/-- What a byte that is not listed reads as: the power-on fill writes zero (R296). -/
def unlistedByte : BitVec 8 := 0

/-- A memory in canonical form: addresses strictly rising, and no entry equal to what an unlisted address reads as. -/
def Memory.wf (m : List Host.Cell) : Bool := Store.sorted m && m.all fun c => c.2 != unlistedByte

/-- Read one byte. -/
def State.byte (s : State) (a : Nat) : BitVec 8 := Store.getD s.mem a unlistedByte

/-- Write one byte, keeping the canonical form. -/
def State.putByte (s : State) (a : Nat) (b : BitVec 8) : State := { s with mem := Store.set s.mem a unlistedByte b }

/-- Write bytes at rising addresses. -/
def State.putBytes (s : State) (a : Nat) : List (BitVec 8) → State
  | [] => s
  | b :: r => (s.putByte a b).putBytes (a + 1) r

/-- Zero every byte of a range. -/
def State.zeroBytes (s : State) (a len : Nat) : State :=
  { s with mem := s.mem.filter fun c => !(decide (a ≤ c.1) && decide (c.1 < a + len)) }

/-- The n bytes from an address. -/
def State.bytesAt (s : State) (a : Nat) : Nat → List (BitVec 8)
  | 0 => []
  | n + 1 => s.byte a :: s.bytesAt (a + 1) n

/-- Little-endian value of n bytes. -/
def State.le (s : State) (a : Nat) : Nat → Nat
  | 0 => 0
  | n + 1 => (s.byte a).toNat + 256 * s.le (a + 1) n

/-- The n little-endian bytes of a value. -/
def leBytes : Nat → Nat → List (BitVec 8)
  | 0, _ => []
  | n + 1, v => BitVec.ofNat 8 v :: leBytes n (v / 256)

/-- Little-endian value of a byte list. -/
def leVal : List (BitVec 8) → Nat
  | [] => 0
  | b :: r => b.toNat + 256 * leVal r

/-- The 64-byte blocks a range of bytes touches. -/
def blocksOf (a len : Nat) : List Nat :=
  if len = 0 then [] else (List.range ((a + len - 1) / 64 - a / 64 + 1)).map (a / 64 + ·)

/-- Whether block b carries the poison mark (R294). -/
def State.poisoned (s : State) (b : Nat) : Bool := s.poison.getD b false

/-- Set or clear the poison mark of block b. -/
def State.setPoison (s : State) (b : Nat) (p : Bool) : State := { s with poison := s.poison.set b false p }

/-- Any block of a range of bytes carries the poison mark. -/
def State.anyPoison (s : State) (a len : Nat) : Bool := (blocksOf a len).any s.poisoned

/-- Record an access to the check-region window (R288). -/
def State.addrErr (s : State) (source a : Nat) : State :=
  if s.on INK_ADDR_ERR_VALID then (s.ev INK_ADDR_ERR_OVERRUN).ev INK_EVENT_ADDR_ERR
  else ((((s.set INK_ADDR_ERR_VALID 1).set INK_ADDR_ERR_SOURCE source).set INK_ADDR_ERR_ADDR (a / 64)).ev INK_EVENT_ADDR_ERR)

/-- A requester reads from an address: one in the check-region window is recorded (R288). -/
def State.reads (s : State) (source a : Nat) : State := if a < inkLimit then s else s.addrErr source a

/-! ### Register accesses -/

/-- The register block of an address: its base, or none outside every block (R485). -/
def blockBase (a : Nat) : Option Nat :=
  if 0x2000000000 ≤ a ∧ a < 0x20000C0000 then some (a / 0x10000 * 0x10000)
  else if 0x2001000000 ≤ a ∧ a < 0x2002000000 ∧ (a - 0x2001000000) % 0x100000 < 0x50000 then some (a / 0x10000 * 0x10000)
  else none

/-- LATCH.SEQ of the block at base b (R20). -/
def LATCH_SEQ (b : Nat) : Fld := .mk (b + 0xFF00) 8 8 .ro 0 false false
/-- LATCH.LATCH of the block at base b (R20). -/
def LATCH_LATCH (b : Nat) : Fld := .mk (b + 0xFF00) 0 1 .w1s 0 false true
/-- LATCH_TIME of the block at base b (R20). -/
def LATCH_TIME (b : Nat) : Fld := .mk (b + 0xFF08) 0 64 .ro 0 false false

/-- The fields of the word at address a; none where the offset is unassigned (R8), as the places of loops 8 to 31 are on a pen engine
(R154, R183). -/
def fieldsAt (a : Nat) : List Fld :=
  let o := a % 0x10000
  let b := a / 0x10000 * 0x10000
  if o = 0xFF00 then [LATCH_SEQ b, LATCH_LATCH b]
  else if o = 0xFF08 ∨ o = 0xFF0C then [LATCH_TIME b]
  else if b = sysBase then sysAt o
  else if b = inkBase then inkAt o
  else if b = cpbBase then cpbAt o
  else if b = hqBase then hqAt o
  else if b = ldgBase then ldgAt o
  else if b = mbxBase then mbxAt o
  else if b = secBase then secAt o
  else if b = motBase then (if 0x8000 ≤ o then leAt 16 (o - 0x8000) else motAt o)
  else if b = ducBase then ducAt o
  else if b = vrsBase then vrsAt o
  else if b = calBase then calAt o
  else if b = ldpcBase then ldpcAt o
  else if 0x2001000000 ≤ a ∧ a < 0x2002000000 then
    let n := (a - 0x2001000000) / 0x100000
    match (a - 0x2001000000) % 0x100000 / 0x10000 with
    | 0 => lkAt n o
    | 1 => rulAt n o
    | 2 => rcAt n o
    | 3 => wcAt n o
    | 4 => if 0x8000 ≤ o then svAt n o else if 0x300 ≤ o ∧ o < 0x900 then [] else leAt n o
    | _ => []
  else []

/-- A stored field value that a capture of its block copies (R21). -/
def captured? (b : Nat) (e : Nat × Nat) : Bool :=
  decide (b * 64 ≤ e.1) && decide (e.1 < (b + 0x10000) * 64) && (fieldsAt (e.1 / 64)).any fun f => f.latch && f.key == e.1

/-- The island of the block at an address (R15). -/
def islandOf (a : Nat) : Nat :=
  let b := a / 0x10000 * 0x10000
  if b = hqBase ∨ b = mbxBase then 0
  else if b = inkBase then 1
  else if b = sysBase then 2
  else if b = cpbBase ∨ b = ldgBase then 3
  else if b = ldpcBase then 4
  else if b = secBase then 5
  else if b = motBase ∨ b = ducBase ∨ b = calBase then 6
  else if b = vrsBase then 7
  else
    let n := (a - 0x2001000000) / 0x100000
    let sub := (a - 0x2001000000) % 0x100000 / 0x10000
    if sub = 0 ∨ sub = 4 then 24 + n else 8 + n

/-- The part of a field that the 32-bit word at address a carries, placed in that word. -/
def Fld.toWord (f : Fld) (a v : Nat) : Nat :=
  let j := (a - f.addr) / 4
  (((v % 2 ^ f.width) <<< f.lo) >>> (32 * j)) % 2 ^ 32

/-- The bits of a field's value that the word v written at address a gives, and the mask of the bits it reaches. -/
def Fld.ofWord (f : Fld) (a v : Nat) : Nat × Nat :=
  let j := (a - f.addr) / 4
  ((((v % 2 ^ 32) <<< (32 * j)) >>> f.lo) % 2 ^ f.width, (((2 ^ 32 - 1) <<< (32 * j)) >>> f.lo) % 2 ^ f.width)

/-- The value a read of a field returns: a latchable field reads its shadow once its block has been captured (R21), a
write-only field reads 0 (R4). -/
def State.visible (s : State) (b : Nat) (f : Fld) : Nat :=
  match f.acc with
  | .wo => 0
  | _ => if f.latch && s.captured.contains b then s.shadow.getD f.key f.rst else s.get f

/-- One field written by its access code (R4). -/
def State.writeField (s : State) (f : Fld) (a v : Nat) : State :=
  let (w, m) := f.ofWord a v
  let x := s.get f
  match f.acc with
  | .rw => s.set f ((x ^^^ (x &&& m)) ||| (w &&& m))
  | .wo => s.set f ((x ^^^ (x &&& m)) ||| (w &&& m))
  | .w1c => s.set f (x ^^^ (x &&& w))
  | .w1s => s.set f (x ||| w)
  | .ro => s
  | .roc => s

/-- The read of one field as it changes the state: an ROC field clears (R4, R6), and once its block has been captured the
read clears the shadow and takes the value off the live counter, which stays saturated if it has saturated (R492). -/
def State.readField (s : State) (b : Nat) (f : Fld) : State :=
  match f.acc with
  | .roc =>
    if f.latch && s.captured.contains b then
      let v := s.shadow.getD f.key f.rst
      let live := s.get f
      let s := { s with shadow := s.shadow.set f.key f.rst 0 }
      if live = 2 ^ f.width - 1 then s else s.set f (live - v)
    else s.set f 0
  | _ => s

/-- The port of pen n carries an N1 pen (R26). -/
def isN1 (s : State) (n : Nat) : Bool := s.get (LK_STATUS_GEN n) == 1

/-- The bits of the word at a register address that an N1 port does not have: the nib registers of nibs 8 to 15, and their nib
bits in SV_CTRL. They read 0 and ignore writes (R26, R85, R152, R204). -/
def absentBits (s : State) (a : Nat) : Nat :=
  let o := (a - 0x2001000000) % 0x100000
  if 0x2001000000 ≤ a ∧ a < 0x2002000000 ∧ isN1 s ((a - 0x2001000000) / 0x100000) = true then
    if (0x10120 ≤ o ∧ o < 0x10140) ∨ (0x20600 ≤ o ∧ o < 0x20800) ∨ (0x31200 ≤ o ∧ o < 0x31400) ∨ (0x48140 ≤ o ∧ o < 0x48180) then 2 ^ 32 - 1
    else if o = 0x48000 then 0xFF000000
    else 0
  else 0

/-- A word without the bits its port does not have. -/
def State.present (s : State) (a w : Nat) : Nat := w ^^^ (w &&& absentBits s a)

/-- The value of the word at an aligned register address (R7, R8: what no field covers reads 0). -/
def State.readWord (s : State) (a : Nat) : Nat :=
  s.present a ((fieldsAt a).foldl (fun w f => w ||| f.toWord a (s.visible (a / 0x10000 * 0x10000) f)) 0)

/-- The live value of the word at an aligned register address: no shadow, nothing cleared. -/
def liveWord (s : State) (a : Nat) : Nat := s.present a ((fieldsAt a).foldl (fun w f => w ||| f.toWord a (s.get f)) 0)

/-- The word that a write of v leaves where only bits the port has take it: an absent bit keeps what is stored. -/
def writtenWord (s : State) (a v : Nat) : Nat :=
  s.present a v ||| ((fieldsAt a).foldl (fun w f => w ||| f.toWord a (s.get f)) 0 &&& absentBits s a)

/-- The part is held in reset: RESET_N is low, or rose while TESTEN was high, or a thermal trip holds it (R450, R478). -/
def inReset (s : State) : Bool := s.boot.low

/-- The device is in PS3 or PS4 and not on its way out: out of them the clocks run from the start of the exit, in which the rulings lock
(DEDUCED from R354, assumption 76). -/
def asleep (s : State) : Bool :=
  decide (3 ≤ s.get HQ_PWR_STATUS_PS) && !(s.on HQ_PWR_STATUS_TRANSITION && decide (s.get HQ_PWR_STATUS_TARGET < 3))

/-- Islands whose clock is stopped: all of them while the part is held in reset; and the LDPC island and the sixteen PENn DATA islands,
gated in PS3 and in PS4 alike (R18, R352). -/
def islandStopped (s : State) (i : Nat) : Bool := inReset s || (asleep s && (i == 4 || (decide (8 ≤ i) && decide (i < 24))))

/-- A register write that is a row of its own, at an island: performed where the island's clock runs. Where it stands, the access is
abandoned, and its record is the row ACCESS_ABANDONED (R18; assumption 76). -/
def State.clocked (s : State) (i : Nat) (k : State → State) : State := if islandStopped s i then s else k s

/-- The PENn DATA island of pen n (R15). -/
abbrev dataIsland (n : Nat) : Nat := 8 + n

/-- The HQ island: host queues, mailboxes and seals (R15). -/
abbrev hqIsland : Nat := 0
/-- The INK island. -/
abbrev inkIsland : Nat := 1
/-- The SYS island. -/
abbrev sysIsland : Nat := 2
/-- The CPB island: the Copybook and the ledger. -/
abbrev cpbIsland : Nat := 3
/-- The LDPC island. -/
abbrev ldpcIsland : Nat := 4
/-- The SEC island. -/
abbrev secIsland : Nat := 5
/-- The MOT island: spindles, sleds and calibration. -/
abbrev motIsland : Nat := 6
/-- The VRS island. -/
abbrev vrsIsland : Nat := 7
/-- The PENn CTRL island of pen n: its link and its Loop Engine. -/
abbrev ctrlIsland (n : Nat) : Nat := 24 + n

/-- The island of Loop Engine e. -/
def engineIsland (e : Nat) : Nat := if e < 16 then ctrlIsland e else motIsland

/-- What a read of the word at an aligned register address does to the state. -/
def State.readWordEffect (s : State) (a : Nat) : State :=
  s.each (fieldsAt a) fun s f => s.readField (a / 0x10000 * 0x10000) f

end Sys2Proof.Machine
end

