-- ==== Sys2Proof/Machine/Ecc.lean ====
section
/-!
DEFINITION. The Inkwell's inline ECC as requesters meet it (R291 to R296, R305, R306), and a requester's write (R287, R288, R293,
R297, R308). Memory holds a block as its requesters read it; a planted pattern is kept with the outcome its decoding has. The matrix
of the code is not printed: what it makes of four or more errors is a free value, or comes with the command (assumption 9).
-/

namespace Sys2Proof.Machine

/-- POISON_MASK (R294). -/
abbrev poisonMask : Nat := 0xA5C3961E

/-- Ones among the low w bits. -/
def popcount (w v : Nat) : Nat := ((List.range w).filter v.testBit).length

/-- Channel c. -/
def State.inkCh (s : State) (c : Nat) : InkCh := s.ink.chans.getD c {}

/-- Change channel c. -/
def State.modCh (s : State) (c : Nat) (f : InkCh → InkCh) : State :=
  { s with ink := { s.ink with chans := s.ink.chans.set c {} (f (s.inkCh c)) } }

/-- The channel of an address (R287). -/
def channelOf (a : Nat) : Nat := a / 256 % 8

/-- n bytes that the manual does not give. -/
def freeBytes (s : State) (n : Nat) : List (BitVec 8) × State :=
  ((List.range n).map (Config.freeByte s.freeCtr), { s with freeCtr := s.freeCtr + 1 })

/-! ### What a block decodes to -/

/-- What is stored at block b (R305, R306): a planted pattern, else clean or poisoned. -/
def patternOf (s : State) (b : Nat) : Nat := (s.ink.planted.find? b).getD (if s.poisoned b then 3 else 0)

/-- The outcome of a pattern: 5 and 6 are corrected, as 1 is. -/
def patternOutcome (p : Nat) : Nat := if 5 ≤ p then 1 else p

/-- The errors a correctable pattern holds, where that is known. -/
def patternWeight (p : Nat) : Option Nat := match p with | 0 => some 0 | 1 => some 1 | 5 => some 2 | _ => none

/-- What decoding block b gives (R291, R294): 0 clean, 1 corrected, 2 address mismatch, 3 poisoned, 4 uncorrectable; and whether the data
read is known. Errors may fall on ones already there and undo them. -/
def decodeBlock (s : State) (b : Nat) (f : ReadFault) : Nat × Bool × State :=
  let p := patternOf s b
  match f with
  | .none => (patternOutcome p, true, s)
  | .address => (2, false, s)
  | .heavy o => (o, false, s)
  | .flips n =>
    if n.val = 0 then (patternOutcome p, true, s)
    else if p = 3 then (4, false, s)
    else
      match patternWeight p with
      | some w =>
        if w = 0 then (if n.val ≤ 2 then 1 else 4, decide (n.val ≤ 2), s)
        else if w + n.val ≤ 2 then let (up, s) := s.coin; (if up then 1 else 0, true, s)
        else if w + n.val = 3 then let (up, s) := s.coin; (if up then 1 else 4, up, s)
        else let (v, s) := s.fresh; (v % 5, false, s)
      | none => let (v, s) := s.fresh; (v % 5, false, s)

/-- An uncorrectable counts toward the rate; reaching UE_LIMIT in a window sets UE_RATE, and the self-diagnosis is to be told (R295;
assumption 122). -/
def countUe (s : State) : State :=
  let n := s.ink.ueCount + 1
  let s := { s with ink := { s.ink with ueCount := n } }
  if n = max 1 (s.get INK_ECC_CTRL_UE_LIMIT) then
    let s := s.ev INK_EVENT_UE_RATE
    { s with ink := { s.ink with told := true } }
  else s

/-- Log an uncorrectable read (R291). -/
def logUe (s : State) (source b : Nat) : State :=
  if s.on INK_UE_LOG_VALID then s.ev INK_UE_LOG_OVERRUN
  else ((s.set INK_UE_LOG_VALID 1).set INK_UE_LOG_SOURCE source).set INK_UE_LOG_ADDR b

/-- The scrubber of a channel is busy while a write-back of its own waits. -/
def refreshScrub (s : State) (c : Nat) : State :=
  s.set (INK_CH_SCRUB_BUSY c) (if (s.inkCh c).wbs.any (·.scrub) then 1 else 0)

/-- A write-back is set to wait, once for a block (R292). -/
def addWriteBack (s : State) (c : Nat) (w : WriteBack) : State :=
  refreshScrub (s.modCh c fun h => { h with wbs := (h.wbs.filter fun x => x.block != w.block) ++ [w] }) c

/-- The write-backs of a block that wait are dropped: it has been written (R292). -/
def dropWriteBacks (s : State) (b : Nat) : State :=
  let c := channelOf (64 * b)
  if (s.inkCh c).wbs.any (·.block == b) then refreshScrub (s.modCh c fun h => { h with wbs := h.wbs.filter fun x => x.block != b }) c
  else s

/-- A read of block b by a source: decoded, counted, recorded, and written back as ECC_CTRL says (R291, R292). Whether the data read is
known comes with the outcome. -/
def decodeRead (s : State) (source b : Nat) (f : ReadFault) : Nat × Bool × State :=
  let c := channelOf (64 * b)
  let (o, known, s) := decodeBlock s b f
  let scrub := source == 0x3E
  if o = 1 then
    let s := (s.bump (INK_CH_ERRCNT_CE c) 1).ev INK_EVENT_CE
    (o, known, s.iff (s.on INK_ECC_CTRL_CE_WB) fun s => addWriteBack s c { block := b, poison := false, scrub := scrub })
  else if o = 2 ∨ o = 4 then
    let s := (logUe (s.bump (INK_CH_ERRCNT_UE c) 1) source b).ev INK_EVENT_UE
    let s := s.iff (s.on INK_ECC_CTRL_UE_WB) fun s => addWriteBack s c { block := b, poison := true, scrub := scrub }
    (o, known, countUe s)
  else (o, known, s)

/-- The data that a read of block b returns: what is held there, or open bytes where errors made it unknown. -/
def blockData (s : State) (b : Nat) (known : Bool) : List (BitVec 8) × State :=
  if known then (s.bytesAt (64 * b) 64, s) else freeBytes s 64

/-! ### Test patterns (R305, R306) -/

/-- A block takes a test pattern: the outcome its decoding has from now on. -/
def plant (s : State) (b p : Nat) : State :=
  let s := { s with ink := { s.ink with planted := if p = 0 then s.ink.planted.erase b else s.ink.planted.insert b p } }
  s.setPoison b (decide (p = 2) || decide (p = 3) || decide (p = 4))

/-- A block whose code word is open: any outcome; what a correction makes of its data is open as well. -/
def plantOpen (s : State) (b : Nat) : State :=
  let (v, s) := s.fresh
  if v % 5 = 1 then
    let (d, s) := freeBytes s 64
    plant (s.putBytes (64 * b) d) b 6
  else plant s b (v % 5)

/-- Flip data bits 63:0 of a block. -/
def flipData (s : State) (b mask : Nat) : State :=
  s.each (List.range 8) fun s i => s.putByte (64 * b + i) (s.byte (64 * b + i) ^^^ BitVec.ofNat 8 (mask / 256 ^ i))

/-- The bits in which two byte lists of one length differ. -/
def bitDiff (x y : List (BitVec 8)) : Nat := ((x.zip y).map fun e => popcount 8 (e.1 ^^^ e.2).toNat).foldl (· + ·) 0

/-- The split test write: the data of block b has been stored over a block that held the bytes `old` in pattern p, and the old check word
stands. One or two bits changed read as corrected, to the old data (R291, R306). -/
def splitWrite (s : State) (b p : Nat) (old : List (BitVec 8)) : State :=
  let new := s.bytesAt (64 * b) 64
  let s := s.set INK_ECC_TEST_HALF 1
  let s := { s with ink := { s.ink with halfBlock := b, half := some new } }
  let d := bitDiff old new
  if p = 0 ∧ d = 0 then plant s b 0
  else if p = 0 ∧ d ≤ 2 then plant (s.putBytes (64 * b) old) b (if d = 1 then 1 else 5)
  else if p = 3 ∧ d = 0 then plant s b 3
  else if (p = 0 ∨ p = 3) ∧ d ≤ 3 then plant s b 4
  else plantOpen s b

/-- The flip-mask test write: the block has just been stored with its mark. A pattern within three errors of poison is uncorrectable
(R294, R305). -/
def flipWrite (s : State) (b : Nat) (mark : Bool) : State :=
  let dflip := s.get INK_ECC_TEST_DFLIP_DFLIP
  let cflip := s.get INK_ECC_TEST_CHECK_CHECK ^^^ (if mark then poisonMask else 0)
  let w := popcount 64 dflip + popcount 32 cflip
  let p := popcount 64 dflip + popcount 32 (cflip ^^^ poisonMask)
  if w = 0 then plant s b 0
  else if w = 1 then plant s b 1
  else if w = 2 then plant s b 5
  else
    let s := flipData s b dflip
    if p = 0 then plant s b 3
    else if w = 3 ∨ p ≤ 3 then plant s b 4
    else plantOpen s b

/-- The armed test write: the block has just been stored with its mark, over the bytes `old` in pattern p (R305, R306). -/
def testWrite (s : State) (b : Nat) (mark : Bool) (p : Nat) (old : List (BitVec 8)) : State :=
  let s := (s.set INK_ECC_TEST_ARM 0).ev INK_EVENT_TEST_DONE
  if s.on INK_ECC_TEST_MECH then splitWrite s b p old else flipWrite s b mark

/-- An armed test takes a write that reaches its block (R305, R306): k makes the write. -/
def testHook (s : State) (a len : Nat) (k : State → State) : State :=
  let t := s.get INK_ECC_TEST_ADDR_ADDR
  if s.on INK_ECC_TEST_ARM && (blocksOf a len).contains t then
    let old := s.bytesAt (64 * t) 64
    let p := patternOf s t
    let s := k s
    testWrite s t (s.poisoned t) p old
  else k s

/-! ### A requester's write -/

/-- A request in self-refresh starts the exit and clears SR_REQ (R308). -/
def wakeInk (s : State) : State := if s.get INK_STATUS_SR_STATE = 2 then (s.set INK_CTRL_SR_REQ 0).set INK_STATUS_SR_STATE 3 else s

/-- Block b is written: a pattern planted there, a write-back that waits and the data half of a split test there are gone. -/
def freshBlock (s : State) (b : Nat) : State :=
  let s := dropWriteBacks s b
  let half := if s.ink.halfBlock = b then none else s.ink.half
  { s with ink := { s.ink with planted := s.ink.planted.erase b, half := half } }

/-- The mark of a block of a write: one written whole takes the writer's mark; one written in part is read first, and where that read
finds it poisoned or uncorrectable it keeps the mark (R293). -/
def markBlock (source a len : Nat) (mark : Bool) (s : State) (b : Nat) : State :=
  if a ≤ b * 64 ∧ b * 64 + 64 ≤ a + len then (freshBlock s b).setPoison b mark
  else
    let (o, _, s) := decodeRead s source b .none
    (freshBlock s b).setPoison b (mark || decide (2 ≤ o))

/-- The marks of the blocks of a write. -/
def State.markBlocks (s : State) (source a len : Nat) (mark : Bool) : State := s.each (blocksOf a len) (markBlock source a len mark)

/-- A write that the power-on fill has not yet passed waits for it (R297): the fill lets it stand. -/
def noteEarly (s : State) (a len : Nat) (bytes : List (BitVec 8)) (mark : Bool) : State :=
  if s.on INK_STATUS_FILL_DONE = true ∨ len = 0 ∨ a + len ≤ s.get INK_STATUS_FILL_MARK * 2 ^ 20 then s
  else { s with ink := { s.ink with early := s.ink.early ++ [{ addr := a, len := len, bytes := bytes, mark := mark }] } }

/-- Bytes of a requester stored below the check-region window. -/
def inkStore (s : State) (source a : Nat) (bytes : List (BitVec 8)) (mark : Bool) : State :=
  testHook (noteEarly (wakeInk s) a bytes.length bytes mark) a bytes.length fun s => (s.markBlocks source a bytes.length mark).putBytes a bytes

/-- The blocks of a range that lie in the check-region window are recorded (R288). -/
def addrErrs (s : State) (source a len : Nat) : State := s.each (blocksOf a len) fun s b => s.addrErr source (64 * b)

/-- A write of a requester's bytes to the Inkwell (R287, R288, R293): what falls in the check-region window is dropped and recorded. -/
def State.inkWrite (s : State) (source a : Nat) (bytes : List (BitVec 8)) (mark : Bool) : State :=
  if a + bytes.length ≤ inkLimit then inkStore s source a bytes mark
  else
    let low := inkLimit - a
    addrErrs (s.iff (decide (a < inkLimit)) fun s => inkStore s source a (bytes.take low) mark) source (a + low) (bytes.length - low)

/-- len bytes stored below the check-region window: the first ones given and the rest zero. -/
def inkStoreZ (s : State) (source a len : Nat) (bytes : List (BitVec 8)) (mark : Bool) : State :=
  testHook (noteEarly (wakeInk s) a len (bytes.take len) mark) a len fun s =>
    ((s.markBlocks source a len mark).zeroBytes a len).putBytes a (bytes.take len)

/-- A write of len bytes, the first ones given and the rest zero. -/
def State.inkWriteZ (s : State) (source a len : Nat) (bytes : List (BitVec 8)) (mark : Bool) : State :=
  if a + len ≤ inkLimit then inkStoreZ s source a len bytes mark
  else
    let low := inkLimit - a
    addrErrs (s.iff (decide (a < inkLimit)) fun s => inkStoreZ s source a low bytes mark) source (a + low) (len - low)

/-- A read of the blocks of a range by a requester whose data the caller takes: every block is decoded (R291), and one found poisoned or
uncorrectable marks the data. -/
def State.inkRead (s : State) (source a len : Nat) : Bool × State :=
  (blocksOf a len).foldl (fun (acc : Bool × State) b =>
    let (o, _, s) := decodeRead acc.2 source b .none
    (acc.1 || decide (2 ≤ o), s)) (false, wakeInk s)

end Sys2Proof.Machine
end

