-- ==== Sys2Proof/Machine/Operands.lean ====
section
/-!
DEFINITION. The operand forms of commands: pens and their data nibs, the parts of a pen's hidden state, queue sizes and
zones, as the manual numbers and limits them.
-/

namespace Sys2Proof.Machine

/-- Data nibs of pen n: 8 on an N1 port, else 16 (R26). -/
def dataNibs (s : State) (n : Nat) : Nat := if isN1 s n then 8 else 16

/-- The module is in power state PS1 (R352). -/
def State.ps1 (s : State) : Bool := s.get HQ_PWR_STATUS_PS == 1

/-- The link of port n is UP (R276: state 5). -/
def linkUp (s : State) (n : Nat) : Bool := s.get (LK_STATUS_STATE n) == 5

/-- Ruling state of pen n. -/
def State.ruling (s : State) (n : Nat) : Ruling := s.rul.getD n {}

/-- Change the ruling state of pen n. -/
def State.modRul (s : State) (n : Nat) (f : Ruling → Ruling) : State := { s with rul := s.rul.set n {} (f (s.ruling n)) }

/-- Read-channel state of nib k of pen n: data nibs 0 to 15, RNI as 16, RNO as 17. -/
def State.nib (s : State) (n k : Nat) : Nib := s.nibs.getD (32 * n + k) {}

/-- Change the read-channel state of nib k of pen n. -/
def State.modNib (s : State) (n k : Nat) (f : Nib → Nib) : State :=
  { s with nibs := s.nibs.set (32 * n + k) {} (f (s.nib n k)) }

/-- Write-channel state of pen n. -/
def State.writeCh (s : State) (n : Nat) : Wc := s.wc.getD n {}

/-- Change the write-channel state of pen n. -/
def State.modWc (s : State) (n : Nat) (f : Wc → Wc) : State := { s with wc := s.wc.set n {} (f (s.writeCh n)) }

/-- Hidden state of Loop Engine e: pens 0 to 15, the motion engine as 16. -/
def State.engine (s : State) (e : Nat) : Engine := s.engines.getD e {}

/-- Change the hidden state of Loop Engine e. -/
def State.modEng (s : State) (e : Nat) (f : Engine → Engine) : State := { s with engines := s.engines.set e {} (f (s.engine e)) }

/-- Error front end and supervisor of pen n. -/
def State.sup (s : State) (n : Nat) : Sup := s.sups.getD n {}

/-- Change the front end and supervisor of pen n. -/
def State.modSup (s : State) (n : Nat) (f : Sup → Sup) : State := { s with sups := s.sups.set n {} (f (s.sup n)) }

/-- Link state of port n. -/
def State.link (s : State) (n : Nat) : Link := s.links.getD n {}

/-- Change the link state of port n. -/
def State.modLink (s : State) (n : Nat) (f : Link → Link) : State := { s with links := s.links.set n {} (f (s.link n)) }

/-- Uplink payload arrives: the port is UP, and no N1 port has lost its lane alignment to a PLL lock (R278). -/
def receiving (s : State) (n : Nat) : Bool := linkUp s n && !(s.link n).suspended

/-- The nibs that a pen sends in degraded mode: those of DEG_NIBS, the lowest 8 on N2 and 5 on N1 (R280). -/
def sentNibs (s : State) (n : Nat) : List Nat :=
  ((List.range (dataNibs s n)).filter (s.bit (LK_CTRL_DEG_NIBS n))).take (if isN1 s n then 5 else 8)

/-- In degraded mode the pen sends no samples of this nib (R280). -/
def nibUnsent (s : State) (n k : Nat) : Bool := s.on (LK_STATUS_DEGRADED n) && !(sentNibs s n).contains k

/-! ### Packet headers (R262, R268) -/

/-- TYPE of a packet header. -/
def pktType (h : Nat) : Nat := h / 2 ^ 28 % 16
/-- Bits 27:24: the nib of SAMPLES and WRITE, the ruling nib of RULING, the kind of ACK. -/
def pktNib (h : Nat) : Nat := h / 2 ^ 24 % 16
/-- SEQ, bits 23:16. -/
def pktSeq (h : Nat) : Nat := h / 2 ^ 16 % 256
/-- COUNT, bits 10:0. -/
def pktCount (h : Nat) : Nat := h % 2 ^ 11
/-- PART of SERVO, bits 27:23. -/
def pktPart (h : Nat) : Nat := h / 2 ^ 23 % 32
/-- WINDOW, bits 15:0. -/
def pktWindow (h : Nat) : Nat := h % 2 ^ 16
/-- A header from its TYPE, bits 27:24, SEQ and the bits below. -/
def pktHeader (type nib seq low : Nat) : Nat := type * 2 ^ 28 + nib * 2 ^ 24 + seq * 2 ^ 16 + low

/-- Packets of a source that are missing before this one: the gap in its sequence numbers, modulo their range (R279). -/
def pktGap (s : State) (n key seq range : Nat) : Nat :=
  match (s.link n).seqs.find? key with
  | none => 0
  | some p => (seq + 2 * range - p - 1) % range

/-- Count the packets missing before this one, and remember it (R279). -/
def notePkt (s : State) (n key seq range : Nat) : State :=
  (s.bump (LK_CNT_PKT_LOST n) (pktGap s n key seq range)).modLink n fun l => { l with seqs := l.seqs.insert key seq }

/-- The unit claims output k with class 0xC: only then does it send commands to it (R383). Pens are outputs 0 to 15, the
stage at address a is output 16 + a. -/
def claims (s : State) (k : Nat) : Bool := s.get (VRS_OUT_CLASS k) == 0xC

/-- Descriptors the folio queue of pen n holds (PENn_FQ_CFG.SIZE, below 4 as 4, above 12 as 12). -/
def fqSize (s : State) (n : Nat) : Nat := 2 ^ min 12 (max 4 (s.get (FQ_CFG_SIZE n)))

/-- A ruling nib's USE bit (PENn_RUL_CTRL). -/
def useBit (n : Nat) : RulNib → Fld
  | .rni => RUL_CTRL_USE_RNI n
  | .rno => RUL_CTRL_USE_RNO n

/-- A ruling nib's OK bit (PENn_RUL_STATUS). -/
def okBit (n : Nat) : RulNib → Fld
  | .rni => RUL_STATUS_RNI_OK n
  | .rno => RUL_STATUS_RNO_OK n

/-- A ruling nib's LOST event (PENn_RUL_EVENT). -/
def lostEvent (n : Nat) : RulNib → Fld
  | .rni => RUL_EVENT_RNI_LOST n
  | .rno => RUL_EVENT_RNO_LOST n

/-- The other ruling nib. -/
def otherNib : RulNib → RulNib
  | .rni => .rno
  | .rno => .rni

/-- The zone of pen n: (TRACK × ZONE_MUL) / 2^16, at most 63 (R72). -/
def zoneOf (s : State) (n : Nat) : Nat :=
  min 63 (s.get (RUL_BAND_TRACK n) * s.get (RC_ZONE_ZONE_MUL n) / 2 ^ 16)

/-- Present the zone in PENn_RC_ZONE (R72). -/
def refreshZone (s : State) (n : Nat) : State := s.set (RC_ZONE_ZONE n) (zoneOf s n)

/-- Folio positions of a band with M periods a bin: floor(1,024 M / 79,000) (R116). -/
def positions (m : Nat) : Nat := 1024 * m / 79000

/-- The PFA of a slot (R118). -/
def pfaOf (side layer band nib pos : Nat) : Nat :=
  side % 2 * 2 ^ 31 + layer % 16 * 2 ^ 27 + band % 4096 * 2 ^ 15 + nib % 16 * 2 ^ 11 + pos % 32 * 2 ^ 6

end Sys2Proof.Machine
end

