-- ==== Sys2Proof/Machine/Coding.lean ====
section
/-!
DEFINITION. The codes of a codeword and of a folio as the manual prints them: the CRC-64 and the order of the information bits, the
modulation code and NRZI, the frame with its marks and guard, encryption of a data unit, calibration data, and the scaling and
framing of LLRs (R63, R77, R86, R120, R129 to R131, R137).
-/

namespace Sys2Proof.Machine

/-! ### CRC-64 and bits -/

/-- One shift of the CRC-64 register, first bit in the lowest place, with the ECMA-182 polynomial in that order (R86). -/
def crcShift (r : Nat) : Nat := if r % 2 = 1 then (r / 2) ^^^ 0xC96C5795D7870F42 else r / 2

/-- A byte enters the CRC-64 register, bit 0 first. -/
def crcByte (r : Nat) (b : BitVec 8) : Nat :=
  crcShift (crcShift (crcShift (crcShift (crcShift (crcShift (crcShift (crcShift (r ^^^ b.toNat))))))))

/-- CRC-64 with the ECMA-182 polynomial, initial value and final XOR all ones (R86). DESIGN CHOICE (assumption 72): bit 0 of each
byte first, and the register's first bit lowest. -/
def crc64 (bytes : List (BitVec 8)) : Nat := bytes.foldl crcByte (2 ^ 64 - 1) ^^^ (2 ^ 64 - 1)

/-- The CRC-64 of a codeword's information bits 0 to 33,215: the user bytes, then the header bytes (R86). -/
def infoCrc (user header : List (BitVec 8)) : Nat := crc64 (user ++ header)

/-- Bits of bytes, least significant bit first. -/
def bitsOf (bytes : List (BitVec 8)) : List Bool := bytes.flatMap fun b => (List.range 8).map b.getLsbD

/-- The w bits of a mark, most significant bit first (R131). -/
def markBits (w v : Nat) : List Bool := (List.range w).map fun i => v.testBit (w - 1 - i)

/-! ### A folio header as burned and as expected -/

/-- The 56 header bytes of codeword `idx` of a folio: those of its header block, with bytes 2 and 12 to 15 as the write channel
inserts them (R120). -/
def burnedHeader (block : List (BitVec 8)) (idx pfa : Nat) : List (BitVec 8) :=
  block.take 2 ++ leBytes 1 idx ++ (block.drop 3).take 9 ++ leBytes 4 pfa ++ (block.drop 16).take 40

/-- Type of a header (R120). -/
def hdrType (h : List (BitVec 8)) : Nat := (h.getD 0 0).toNat

/-- The header says that its codeword is encrypted (R120, R129). -/
def hdrEnc (h : List (BitVec 8)) : Bool := (h.getD 3 0).getLsbD 0

/-- Tweak of a data unit: the LBA in bits 63:0, the namespace ID in bits 71:64 (R129). -/
def hdrTweak (h : List (BitVec 8)) : Nat := leVal ((h.drop 32).take 8) + 2 ^ 64 * (h.getD 6 0).toNat

/-- The user bytes of a codeword as its pen's XTS engine passes them on a read: decrypted where the header says encrypted, unless
bypassed (R110, R129). -/
def decrypted (key : List (BitVec 8)) (bypass : Bool) (user header : List (BitVec 8)) : List (BitVec 8) :=
  if hdrEnc header && !bypass then Config.xtsDecrypt key (hdrTweak header) user else user

/-- The user bytes as burned: data codewords whose header says encrypted pass the XTS engine, others do not (R129). DESIGN CHOICE
(assumption 121): one of TYPE 0x01 whose header has byte 3 bit 0 clear is burned as it is. -/
def encrypted (key : List (BitVec 8)) (user header : List (BitVec 8)) : List (BitVec 8) :=
  if hdrEnc header && hdrType header == 1 then Config.xtsEncrypt key (hdrTweak header) user else user

/-! ### Encoding, modulation and the frame -/

/-- The 37,440 codeword bits: user bits, header bits, CRC bits, then the parity, whose matrix the manual does not print (R86, R130). -/
def codewordBits (user header : List (BitVec 8)) : List Bool :=
  let info := bitsOf (user ++ header ++ leBytes 8 (infoCrc user header))
  info ++ (List.range 4160).map (Config.parity info)

/-- Blocks of 32 bits written as 33, with one bit inserted at block position 16 as the modulation encoder chooses (R130). The
first argument is how many blocks, `i` the number of the first one. -/
def modulate (cw : List Bool) : Nat → Nat → List Bool → List Bool
  | 0, _, _ => []
  | n + 1, i, bits => bits.take 16 ++ Config.inserted cw i :: ((bits.drop 16).take 16 ++ modulate cw n (i + 1) (bits.drop 32))

/-- NRZI: a 1 toggles the written level (R130). -/
def nrzi : Bool → List Bool → List Bool
  | _, [] => []
  | l, b :: r => (l != b) :: nrzi (l != b) r

/-- The preamble tone at channel bit j of a folio: four 1s and four 0s, continued in the guards (R131). -/
def tone (j : Nat) : Bool := decide (j % 8 < 4)

/-- The sync mark of a frame (R131). -/
def syncMark : Nat := 0x1F3CA5D26B0E

/-- The resync mark of a frame (R131). -/
def resyncMark : Nat := 0xE2B478

/-- The 39,000 channel bits of a codeword frame (R77, R130, R131): mark, 585 blocks, resync mark, 585 blocks, guard. DESIGN CHOICE
(assumption 73): NRZI starts each half from the level of the mark's last bit. -/
def frameBits (user header : List (BitVec 8)) : List Bool :=
  let cw := codewordBits user header
  let sync := markBits 48 syncMark
  let resync := markBits 24 resyncMark
  sync ++ nrzi (sync.getLastD false) (modulate cw 585 0 cw) ++ resync
    ++ nrzi (resync.getLastD false) (modulate cw 585 585 (cw.drop 18720)) ++ (List.range 318).map fun j => tone (38682 + j)

/-- The 632,000 channel bits of a folio (R116, R131). -/
def folioBits (users headers : List (List (BitVec 8))) : List Bool :=
  (List.range 8000).map tone ++ (List.range 16).flatMap fun i => frameBits (users.getD i []) (headers.getD i [])

/-! ### Calibration data -/

/-- One step of the PRBS-31 generator, x^31 + x^28 + 1 (PRESUMED, assumption 74). -/
def prbsStep (r : Nat) : Nat := r * 2 % 2 ^ 31 + (r / 2 ^ 30 + r / 2 ^ 27) % 2

/-- The next n bytes of the PRBS-31 sequence from a register value (R137). -/
def prbsBytes : Nat → Nat → List (BitVec 8)
  | 0, _ => []
  | n + 1, r =>
    let next := (List.range 8).foldl (fun r _ => prbsStep r) r
    BitVec.ofNat 8 next :: prbsBytes n next

/-- User bytes of a calibration codeword (R137). -/
def calUser : List (BitVec 8) := prbsBytes 4096 Config.prbsSeed.toNat

/-- Power of codeword i of a CAL folio: i/40 + 0.800 of the nib's power, in the manual's 0.01 mW, rounded down (R137; assumption 75). -/
def calPower (power i : Nat) : Nat := power * (i + 32) / 40

/-! ### LLRs -/

/-- An LLR: clamp(round(Δm × LLR_SCALE / 64), −31, +31) (R63); a half goes the way the part rounds, which the manual does not say. -/
def llrOf (scale : Nat) (dm : Int) : Int :=
  let a := dm * (scale : Int)
  let q := a / 64
  clampInt (-31) 31 (if a % 64 < 32 then q else if 32 < a % 64 then q + 1 else if Config.tieUp q then q + 1 else q)

/-- Blocks of 33 without their inserted bit, at block position 16 (R63, R130). The first argument is how many blocks. -/
def stripInserted {α : Type} : Nat → List α → List α
  | 0, _ => []
  | n + 1, l => l.take 16 ++ ((l.drop 17).take 16 ++ stripInserted n (l.drop 33))

/-- The metric differences of a codeword's channel bits start this far before its predicted start. -/
abbrev dmLead : Nat := 128

/-- The 37,440 LLRs of a codeword framed with its first half's mark at channel bit `a` and its second half at `b`, relative to the
predicted start (R63, R77, R80). -/
def frameLlrs (scale : Nat) (dm : List Int) (a b : Int) : List Int :=
  if dm.isEmpty then []
  else
    let half := fun (p : Int) => stripInserted 585 ((dm.drop ((p + dmLead).toNat)).take 19305)
    (half (a + 48) ++ half b).map (llrOf scale)

/-- Metric differences inside erasure spans set to 0, as a replay sets its LLRs (R101). -/
def eraseSpans (spans : List (Nat × Nat)) (dm : List Int) : List Int :=
  ((List.range dm.length).zip dm).map fun e =>
    if spans.any fun p => decide (p.1 + dmLead ≤ e.1) && decide (e.1 < p.1 + p.2 + dmLead) then 0 else e.2

end Sys2Proof.Machine
end

