-- ==== Sys2Proof/Machine/Framing.lean ====
section
/-!
DEFINITION. Codeword framing: the sync and resync searches, the slip test, and the framing table, for live codewords and for replayed
ones (R78 to R82, R101).
-/

namespace Sys2Proof.Machine

/-- Best-scoring position of a list of scores whose element i stands at position i - half: the highest score at or above the
threshold; a tie goes to the position nearer 0, then to the earlier one (R78, R79). -/
def bestScore (half thresh : Nat) (scores : List Nat) : Option (Int × Nat) :=
  ((List.range scores.length).zip scores).foldl (fun best e =>
    let p : Int := (e.1 : Int) - half
    if e.2 < thresh then best
    else
      match best with
      | none => some (p, e.2)
      | some (q, v) => if v < e.2 then some (p, e.2) else if v = e.2 ∧ p.natAbs < q.natAbs then some (p, e.2) else best) none

/-- The outcome of the sync search on a pen (R78). -/
def findSync (s : State) (n : Nat) (scores : List Nat) : Option (Int × Nat) := bestScore 64 (min 48 (s.get (RC_SYNC_CFG_SYNC_THRESH n))) scores

/-- The outcome of the resync search on a pen (R79). -/
def findResync (s : State) (n : Nat) (scores : List Nat) : Option (Int × Nat) := bestScore 8 (min 24 (s.get (RC_SYNC_CFG_RESYNC_THRESH n))) scores

/-- The hypothesis with the lowest syndrome weight; element i is h = i - 3; a tie goes to the smaller |h|, then to the
negative h (R81). -/
def bestShift (weights : List Nat) : Int :=
  (((List.range weights.length).zip weights).foldl (fun (best : Option (Int × Nat)) e =>
    let h : Int := (e.1 : Int) - 3
    match best with
    | none => some (h, e.2)
    | some (g, w) => if e.2 < w ∨ (e.2 = w ∧ h.natAbs < g.natAbs) then some (h, e.2) else best) none).elim 0 (·.1)

/-- The slip test applies: sync found and 1 ≤ |d| ≤ 3, with SLIP_TEST = 1 (R80, R81). -/
def slipDue (on : Bool) (sync resync : Option (Int × Nat)) : Bool :=
  on && sync.isSome && (match resync with | some (d, _) => decide (1 ≤ d.natAbs) && decide (d.natAbs ≤ 3) | none => false)

/-- How a codeword is framed (R80): status bits of R112 and whether the first half is anchored on the resync. -/
structure Framing where
  flywheel : Bool
  slipTest : Bool
  split : Bool
  resyncMiss : Bool
  anchor : Bool
  deriving DecidableEq, Repr

/-- The framing table of R80. -/
def framingOf (on : Bool) (sync resync : Option (Int × Nat)) : Framing :=
  match sync, resync with
  | some _, some (d, _) =>
    if d = 0 then ⟨false, false, false, false, false⟩
    else if slipDue on sync resync then ⟨false, true, false, false, false⟩
    else ⟨false, false, true, false, false⟩
  | some _, none => ⟨false, false, false, true, false⟩
  | none, some _ => ⟨true, false, false, false, true⟩
  | none, none => ⟨true, false, false, true, false⟩

/-- First bit of the first half's mark and first bit of the second half, relative to the predicted start (R80); `shift` is the slip
test's winner. -/
def anchors (on : Bool) (sync resync : Option (Int × Nat)) (shift : Int) : Int × Int :=
  match sync, resync with
  | some (p, _), some (d, _) =>
    if d = 0 then (p, p + 19377)
    else if slipDue on sync resync then (p + shift, p + 19353 + d + 24)
    else (p, p + 19353 + d + 24)
  | some (p, _), none => (p, p + 19377)
  | none, some (d, _) => (d, 19353 + d + 24)
  | none, none => (0, 19377)

/-- The same in a replay: a codeword that was framed RESYNC_SPLIT, or is so framed now, has its first half anchored at the resync
position less 19,353 (R82). -/
def replayAnchors (on wasSplit : Bool) (sync resync : Option (Int × Nat)) (shift : Int) : Int × Int :=
  let (a, b) := anchors on sync resync shift
  if (wasSplit && resync.isSome) || (framingOf on sync resync).split then (b - 19377, b) else (a, b)

/-- A codeword is framed as a verify asks: sync found, d = 0, and none of FLYWHEEL, SLIPTEST or RESYNC_MISS (R140). -/
def framedClean (sync resync : Option (Int × Nat)) : Bool :=
  sync.isSome && (match resync with | some (d, _) => d == 0 | none => false)

/-- The status word of a framing (R112). -/
def Framing.status (f : Framing) : Nat :=
  (if f.flywheel then 1 else 0) + (if f.slipTest then 2 else 0) + (if f.split then 4 else 0)
    + (if f.resyncMiss then 8 else 0) + (if f.anchor then 2 ^ 10 else 0)

end Sys2Proof.Machine
end

