-- ==== Sys2Proof/Machine/Ladder.lean ====
section
/-!
DEFINITION. The decoder pool, the retry ladder, spill, revisit sequences and poison (chapter 04: R86 to R115).
-/

namespace Sys2Proof.Machine

/-! ### Codewords and counters -/

/-- Change the pool's hidden state. -/
def State.modLdpc (s : State) (f : Ldpc → Ldpc) : State := { s with ldpc := f s.ldpc }

/-- The codeword with identity id. -/
def State.cw? (s : State) (id : Nat) : Option Cw := s.ldpc.cws.find? id

/-- Replace codeword id. -/
def State.putCw (s : State) (id : Nat) (c : Cw) : State := s.modLdpc fun l => { l with cws := l.cws.insert id c }

/-- Change codeword id, if it is there. -/
def State.modCw (s : State) (id : Nat) (f : Cw → Cw) : State :=
  match s.cw? id with
  | some c => s.putCw id (f c)
  | none => s

/-- A codeword leaves the pool and the ladder: every queue and replay channel drops it. -/
def State.dropCw (s : State) (id : Nat) : State :=
  s.modLdpc fun l =>
    { l with
      cws := l.cws.erase id
      l0q := l.l0q.filter (· != id)
      retryq := l.retryq.filter (·.1 != id)
      spillq := l.spillq.filter (· != id)
      replayq := l.replayq.filter (· != id)
      chans := l.chans.filter (·.2 != id) }

/-- Slots the ladder may allocate (LDPC_SPILL_CFG.SLOTS, above 1,024 as 1,024). -/
def ladderSlots (s : State) : Nat := min (s.get LDPC_SPILL_CFG_SLOTS) 1024

/-- Slots that codewords hold. -/
def usedSlots (s : State) : List Nat := s.ldpc.cws.filterMap fun e => e.2.slot

/-- A free ladder slot (R99). DESIGN CHOICE (assumption 117): the lowest-numbered one. -/
def freeSlot? (s : State) : Option Nat := (List.range (ladderSlots s)).find? fun i => !(usedSlots s).contains i

/-- Number of input buffer slots occupied (R89). -/
def inBufCount (s : State) : Nat := (s.ldpc.cws.filter fun e => e.2.inBuf).length

/-- A cap register field as it acts: 0 as 1, above 60 as 60 (R91). -/
def capOf (v : Nat) : Nat := if v = 0 then 1 else min v 60

/-- The effective L0 cap in power step st (R93). -/
def effL0 (s : State) (st : Nat) : Nat :=
  let c := capOf (s.get LDPC_CAP_ICAP_L0)
  let c := if s.ps1 then min c 8 else c
  if st = 3 then min c 8 else if 4 ≤ st then min c 6 else c

/-- The effective retry cap in power step st (R93). -/
def effRetry (s : State) (st : Nat) : Nat :=
  let c := capOf (s.get LDPC_CAP_ICAP_RETRY)
  if st = 0 then c else if st = 1 then min c 30 else min c 15

/-- Cores in scheduling (R92). -/
def onlineCount (s : State) : Nat := ((List.range 64).filter fun c => s.bit LDPC_CORE_ONLINE_ONLINE c).length

/-- Cores on retry work. -/
def retryBusy (s : State) : Nat := (s.ldpc.busy.filter fun e => e.2.kind != .l0).length

/-- Whether a codeword is held by the revisit rungs. -/
def Cw.inRevisit (c : Cw) : Bool := c.phase == .pending || decide (4 ≤ c.rung)

/-- The pens with pending revisit work, one bit each. -/
def revisitMask (s : State) : Nat :=
  (List.range 16).foldl (fun m p => if s.ldpc.cws.any fun e => e.2.pen == p && e.2.inRevisit then m ||| 2 ^ p else m) 0

/-- The status registers that follow from the pool's state: caps in force, occupied slots, busy cores, revisit pens, free slots. -/
def refreshLdpc (s : State) : State :=
  let st := s.get LDPC_SCHED_STEP
  s.set LDPC_CAP_EFF_L0 (effL0 s st)
    |>.set LDPC_CAP_EFF_RETRY (effRetry s st)
    |>.set LDPC_STATUS_INBUF (inBufCount s)
    |>.set LDPC_STATUS_BUSY s.ldpc.busy.length
    |>.set LDPC_STATUS_RETRY_BUSY (retryBusy s)
    |>.set LDPC_STATUS_REVISIT (revisitMask s / 256)
    |>.set LDPC_REVISIT_LO_REVISIT (revisitMask s % 256)
    |>.set LDPC_SPILL_STATUS_QUEUED s.ldpc.spillq.length
    |>.set LDPC_SPILL_STATUS_FREE (ladderSlots s - ((usedSlots s).filter (decide <| · < ladderSlots s)).length)

/-! ### Outcomes -/

/-- The 32 bytes of a result entry (R112). -/
def resultBytes (s : State) (c : Cw) (outcome : Nat) : List (BitVec 8) :=
  leBytes 1 c.pen ++ leBytes 1 c.nib ++ leBytes 1 (c.rung + (if c.rung = 6 then c.sub * 16 else 0)) ++ leBytes 1 outcome
    ++ leBytes 2 c.status ++ leBytes 2 c.iters ++ leBytes 2 c.track ++ leBytes 1 (c.layer + 16 * c.side) ++ leBytes 1 c.idx
    ++ leBytes 4 c.f ++ leBytes 8 c.dest ++ leBytes 4 c.weight ++ leBytes 4 s.now

/-- Entries the result ring holds (LDPC_RES_CFG.SIZE, below 6 as 6). -/
def resSize (s : State) : Nat := 2 ^ max 6 (s.get LDPC_RES_CFG_SIZE)

/-- A result entry falls due: written with HEAD advanced, or dropped with RES_OVF when the ring is full (R112, R109). -/
def resultEntry (s : State) (c : Cw) (outcome : Nat) : State :=
  let head := s.get LDPC_RES_HEAD_HEAD
  if (head + 2 ^ 32 - s.get LDPC_RES_TAIL_TAIL) % 2 ^ 32 = resSize s then
    (s.ev LDPC_EVENT_RES_OVF).bump LDPC_CNT_OVF_RES_OVF 1
  else
    let a := s.get LDPC_RES_BASE_BASE * 2 ^ 12 + 32 * (head % resSize s)
    ((s.inkWrite 35 a (resultBytes s c outcome) false).wrap LDPC_RES_HEAD_HEAD 1).ev LDPC_EVENT_RESULT

/-- A descriptor of the pen's group learns what came of one of its codewords: delivered (good) or not (R128). -/
def noteDesc (s : State) (c : Cw) (good : Bool) : State :=
  s.modWc c.pen fun w =>
    { w with group := w.group.map fun d =>
        if d.idx = c.desc ∧ d.done = false then
          (if good then { d with pass := d.pass ||| 2 ^ c.idx } else { d with bad := d.bad ||| 2 ^ c.idx })
        else d }

/-- A descriptor of the pen's group learns the verdict on one codeword of a verify or read-back, by nib (R140, R145). -/
def noteVerify (s : State) (c : Cw) (good : Bool) (iters : Nat) : State :=
  s.modWc c.pen fun w =>
    { w with group := w.group.map fun d =>
        if d.idx = c.desc ∧ d.done = false then
          let add := fun (m : Store Nat) => m.set c.nib 0 (m.getD c.nib 0 ||| 2 ^ c.idx)
          { d with judged := add d.judged, good := if good then add d.good else d.good, maxIter := max d.maxIter iters }
        else d }

/-- A codeword succeeds at its rung: its user data goes to its Inkwell destination as requester n for pen n, its slots are
freed, and an entry falls due unless this was the first decode at L0 (R110, R112, R113). -/
def deliver (s : State) (id : Nat) (c : Cw) (data : List (BitVec 8)) : State :=
  let s := s.inkWrite c.pen c.dest data false
  let s := s.bump (LDPC_CNT_RUNG_DELIVERED (c.rung % 8)) 1
  let s := noteDesc s c true
  let s := s.iff (decide (c.rung ≠ 0)) fun s => resultEntry s c 0
  let s := s.iff (decide (4 ≤ c.rung)) fun s => s.ev LDPC_EVENT_RELOCATE
  s.dropCw id

/-- A codeword is poisoned with an outcome of R112: all 64 of its blocks are written with the poison mark (R111). -/
def poisonCw (s : State) (id : Nat) (c : Cw) (outcome : Nat) : State :=
  let data := if s.on LDPC_CTRL_POISON_FILL then c.lastData else []
  let s := s.inkWriteZ c.pen c.dest 4096 data true
  let s := s.ev LDPC_EVENT_POISON
  let s := if outcome = 1 then s.bump LDPC_CNT_POISON_EXHAUSTED 1 else s.bump LDPC_CNT_POISON_CUT 1
  let s := noteDesc s c false
  let s := resultEntry s c outcome
  s.dropCw id

/-- A codeword is abandoned: not decoded, no data written, reported only (R54, R108). DESIGN CHOICE (assumption 118): its descriptor counts it
as not delivered, so that a READ completes PARTIAL. -/
def abandonCw (s : State) (c : Cw) : State := resultEntry (noteDesc s c false) c 4

/-! ### Moving along the ladder -/

/-- Rung Li is enabled (LDPC_CTRL.RUNG_EN; L0 always). -/
def rungEnabled (s : State) (i : Nat) : Bool := i == 0 || s.bit LDPC_CTRL_RUNG_EN (i - 1)

/-- The revisit steps in order: rung and L6 step (R105). -/
def revisitSteps : List (Nat × Nat) := [(4, 0), (5, 0), (6, 0), (6, 1), (6, 2), (6, 3), (7, 0)]

/-- Position of a rung and L6 step among the revisit steps, counted from 1; 0 for an earlier rung. -/
def stepPos (rung sub : Nat) : Nat :=
  if rung < 4 then 0 else if rung = 4 then 1 else if rung = 5 then 2 else if rung = 6 then 3 + sub else 7

/-- The first enabled revisit step after position p. -/
def nextRevisit (s : State) (p : Nat) : Option (Nat × Nat) := (revisitSteps.drop p).find? fun r => rungEnabled s r.1

/-- The codeword's samples are in its spill slot and may be replayed (R108). -/
def Cw.hasSamples (c : Cw) : Bool := c.slot.isSome && !c.lost

/-- The pen has left the band, layer or side on which the codeword was read (R107), or its ruling is not locked to it. -/
def leftBand (s : State) (c : Cw) : Bool :=
  s.get (RUL_BAND_TRACK c.pen) != c.track || s.get (RUL_BAND_LAYER c.pen) != c.layer || s.get (RUL_BAND_SIDE c.pen) != c.side

/-- A codeword goes on to the revisit rungs after step position p: it waits while an enabled step remains, and is poisoned when
none does (R95, R111), or cut when its pen has left the band (R107). One that comes from an earlier rung stands at its next step;
one that has been read in the step in force keeps that step's rung until the next one sets its condition (R106). The descriptor
counts it as handed on (R128). -/
def toRevisit (s : State) (id p : Nat) : State :=
  match s.cw? id with
  | none => s
  | some c =>
    match nextRevisit s p with
    | none => poisonCw s id c 1
    | some (r, sub) =>
      let c := { c with phase := .pending, rung := if c.rung < 4 then r else c.rung, sub := if c.rung < 4 then sub else c.sub }
      if leftBand s c then poisonCw s id c 2
      else noteDesc (s.putCw id c) c false

/-- What cuts a pen's pending codewords holds of this one: its ruling has fallen to FREQ, its nib is off, or its link is not UP (R107). -/
def cutOff (s : State) (c : Cw) : Bool :=
  s.get (RUL_STATUS_STATE c.pen) == 1 || s.get (RUL_STATUS_STATE c.pen) == 2 || !linkUp s c.pen
    || !(s.on (RC_CTRL_ENABLE c.pen) && s.bit (RC_CTRL_NIB_EN c.pen) c.nib)

/-- A codeword whose decode has failed goes on to the revisit rungs. DESIGN CHOICE (assumption 119): one that becomes pending only after
what cuts a pending codeword (R107) has come about is cut then; one that the same happening sends there as INCOMPLETE (R57) is not. -/
def joinRevisit (s : State) (id p : Nat) : State :=
  match s.cw? id with
  | none => s
  | some c => if (nextRevisit s p).isSome && cutOff s c then poisonCw s id c 2 else toRevisit s id p

/-! ### Preset entries (R70, R74, R101) -/

/-- Index of a directory word (PENn_RC_ZT_DIR). -/
def dirIndex (bank layer zone : Nat) : Nat := bank * 1024 + layer * 64 + zone

/-- Inkwell address of a preset entry (R70). -/
def presetAddr (s : State) (n k : Nat) (p : Preset) : Nat :=
  s.get (RC_ZT_BASE_BASE n) * 2 ^ 21 + (((p.bank * 16 + p.layer) * 64 + p.zone) * 16 + k) * 64

/-- A requester reads 64 bytes: none from the check-region window, which is recorded, and none where a block comes as poison (R288,
R294). -/
def fetch64 (s : State) (source a : Nat) : Option (List (BitVec 8)) × State :=
  if inkLimit ≤ a then (none, s.addrErr source a)
  else if s.anyPoison a 64 then (none, s)
  else (some (s.bytesAt a 64), s)

/-- Requester 16 + n fetches an entry directly from the Inkwell: its 64 bytes, or none where they come as poison; an address in the
check-region window is recorded and reads as poison (R70, R288). -/
def fetchPreset (s : State) (n k : Nat) (p : Preset) : Option (List (BitVec 8)) × State := fetch64 s (16 + n) (presetAddr s n k p)

/-- The directory entry of the bank that a codeword's preset is not of (R74). -/
def otherEntry (c : Cw) : Nat := dirIndex (1 - c.preset.bank) c.preset.layer c.preset.zone

/-- The other bank's preset for the codeword's layer and zone, as the directory has it now. -/
def otherPreset (s : State) (c : Cw) : Preset := { c.preset with bank := 1 - c.preset.bank, gen := s.get (RC_ZT_DIR_GEN c.pen (otherEntry c)) }

/-- An entry fetched for a replay, as the selected bank's. -/
def asOwn (c : Cw) (noAlt : Bool) (r : Option (List (BitVec 8)) × State) : Option (Preset × List (BitVec 8)) × Bool × State :=
  (r.1.map fun e => (c.preset, e), noAlt, r.2)

/-- The selected bank's entry, fetched for a replay; at L2 with ALT_NONE recorded. -/
def ownPreset (s : State) (c : Cw) (noAlt : Bool) : Option (Preset × List (BitVec 8)) × Bool × State :=
  asOwn c noAlt (fetchPreset s c.pen c.nib c.preset)

/-- The entry an L2 replay works with: the other bank's for the codeword's layer and zone, if that bank is VALID as the replay
starts and its entry can be fetched, and else the selected bank's, with ALT_NONE recorded (R74, R101). DEDUCED (assumption 78): VALID is judged
at the replay's start, where the replay fetches the preset it keeps (R109). -/
def altPreset (s : State) (c : Cw) : Option (Preset × List (BitVec 8)) × Bool × State :=
  if s.on (RC_ZT_DIR_VALID c.pen (otherEntry c)) then
    match fetchPreset s c.pen c.nib (otherPreset s c) with
    | (some e, s) => (some (otherPreset s c, e), false, s)
    | (none, s) => ownPreset s c true
  else ownPreset s c true

/-- A replay keeps the entry fetched for it (R109): at L2 the alternate bank's, with ALT_NONE if there is none, at L3 the selected one. -/
def keepPreset (id : Nat) (c : Cw) (r : Option (Preset × List (BitVec 8)) × Bool × State) : State :=
  r.2.2.putCw id { c with replay := r.1, status := if r.2.1 then c.status ||| 2 ^ 8 else c.status }

/-- The data neighbours of nib k, lower first. -/
def neighboursOf (s : State) (n k : Nat) : List Nat := (if k = 0 then [] else [k - 1]) ++ (if k + 1 < dataNibs s n then [k + 1] else [])

/-- An L3 replay fetches the neighbours' own presets beside nib k's (R102). -/
def keepSides (s : State) (id : Nat) : State :=
  match s.cw? id with
  | none => s
  | some c =>
    let got := s.collect (neighboursOf s c.pen c.nib) fun s m => fetchPreset s c.pen m c.preset
    got.2.putCw id { c with sides := got.1 }

/-- A codeword's replay starts (R101, R102). -/
def openReplay (s : State) (id : Nat) : State :=
  match s.cw? id with
  | none => s
  | some c => if c.phase = .l3 then keepSides (keepPreset id c (ownPreset s c false)) id else keepPreset id c (altPreset s c)

/-- A replay channel that is free takes the oldest waiting codeword and fetches the preset it will keep (R101 to R103, R109). -/
def startReplay (s : State) (ch : Nat) : State :=
  match s.ldpc.chans.find? ch, s.ldpc.replayq with
  | none, id :: rest => openReplay (s.modLdpc fun l => { l with chans := l.chans.insert ch id, replayq := rest }) id
  | _, _ => s

/-- Every free replay channel takes work. -/
def startReplays (s : State) : State := s.each [0, 1, 2, 3] startReplay

/-- Whether a codeword waits for or holds a replay channel. -/
def replaying (s : State) (id : Nat) : Bool := s.ldpc.replayq.contains id || s.ldpc.chans.any (·.2 == id)

/-- A codeword enters a rung of retry work, after every entry made before (R90). -/
def enterRung (s : State) (id : Nat) (c : Cw) : State :=
  (s.putCw id { c with entry := s.ldpc.entries }).modLdpc fun l => { l with entries := l.entries + 1 }

/-- A retry task is ready. -/
def readyTask (s : State) (id : Nat) (k : TaskKind) : State := s.modLdpc fun l => { l with retryq := l.retryq ++ [(id, k)] }

/-- A codeword that has failed rung position r (0 to 3) goes to its next enabled rung (R94, R95, R103, R108). -/
def advance (s : State) (id r : Nat) : State :=
  match s.cw? id with
  | none => s
  | some c =>
    let mark := fun (i : Nat) => if 4 ≤ c.rung then c.rung else i
    if r < 1 ∧ c.rung < 4 ∧ rungEnabled s 1 then readyTask (enterRung s id { c with phase := .l1, rung := mark 1 }) id .retry
    else if r < 2 ∧ rungEnabled s 2 ∧ c.hasSamples then
      let s := enterRung s id { c with phase := .l2, rung := mark 2 }
      if c.replayReady then readyTask s id .retry
      else if replaying s id then s
      else startReplays (s.modLdpc fun l => { l with replayq := l.replayq ++ [id] })
    else if r < 3 ∧ rungEnabled s 3 ∧ c.hasSamples then
      let s := enterRung s id { c with phase := .l3, rung := mark 3, passes := 0, replayReady := false, rllrs := [], aids := [], sides := [] }
      startReplays (s.modLdpc fun l => { l with replayq := l.replayq.filter (· != id) ++ [id], chans := l.chans.filter (·.2 != id) })
    else joinRevisit s id (stepPos c.rung c.sub)

/-! ### The conditions of a revisit (R105, R188) -/

/-- The revisit record of a pen. -/
def State.revisit (s : State) (n : Nat) : Revisit := s.ldpc.revisit.getD n {}

/-- Replace the revisit record of a pen. -/
def State.setRevisit (s : State) (n : Nat) (r : Revisit) : State := s.modLdpc fun l => { l with revisit := l.revisit.set n {} r }

/-- The retry offset registers of a pen (PENn_SV_MAP, R188) are zeroed. -/
def zeroRetryOffsets (s : State) (n : Nat) : State :=
  (((s.set (LE_OFS_OFS n (s.get (SV_MAP_RTRK_OFS n))) 0).set (LE_OFS_OFS n (s.get (SV_MAP_RFOC_OFS n))) 0).set
    (LE_OFS_OFS n (s.get (SV_MAP_RSA_OFS n))) 0).set (SV_STATUS_RETRY_OFS n) 0

/-- Read power of a pen above nominal, in percent: raised only in the L7 step (R105). -/
def setReadPower (s : State) (n pct : Nat) : State := { s with readPower := s.readPower.set n 0 pct }

/-- A sequence of pen n is over: its offsets and its read power return, and its record is cleared (R105, R188). -/
def endSequence (s : State) (n : Nat) : State := (setReadPower (zeroRetryOffsets s n) n 0).setRevisit n {}

/-- The pending codewords of a pen that a test selects are cut: poisoned with outcome CUT (R107). With none left the sequence ends,
and takes its offsets with it (R105, R188). -/
def cutPending (s : State) (n : Nat) (sel : Cw → Bool) : State :=
  let s := s.each s.ldpc.cws fun s e => s.iff (e.2.pen == n && e.2.inRevisit && sel e.2) fun s => poisonCw s e.1 e.2 2
  let over_ := !s.ldpc.cws.any fun e => e.2.pen == n && e.2.inRevisit
  let r := s.revisit n
  refreshLdpc (s.iff over_ fun s => if r.running || decide (r.step ≠ 0) then endSequence s n else s.setRevisit n {})

/-! ### The spill record -/

/-- The 64 descriptor bytes of a spill record (R97). DESIGN CHOICE (assumption 77): bits 6:5 of byte 2 hold the GEN of the pen's link as
the record is written, 0 if the link is down by then. -/
def spillDesc (s : State) (c : Cw) (rung : Nat) : List (BitVec 8) :=
  leBytes 1 c.pen ++ leBytes 1 c.nib ++ leBytes 1 (c.layer + 16 * c.side + 32 * s.get (LK_STATUS_GEN c.pen)) ++ leBytes 1 c.preset.zone
    ++ leBytes 1 (c.preset.bank + if c.altValid then 2 else 0) ++ leBytes 1 c.preset.gen ++ leBytes 1 c.idx ++ leBytes 1 rung
    ++ leBytes 4 c.syncWord ++ leBytes 4 (c.f + 1000 + 4875 * c.idx) ++ leBytes 2 c.track ++ leBytes 2 c.spans.length
    ++ ((List.range 8).flatMap fun i => leBytes 2 (c.spans.getD i (0, 0)).1 ++ leBytes 2 (c.spans.getD i (0, 0)).2)
    ++ leBytes 4 c.weight ++ leBytes 8 s.now

/-- The samples of a window that a ring still holds: their offset in the window and the samples, oldest first. A window is
40,960 samples from 980 before the predicted start, by the pen's sample index, which all its rings share (R96, R263). -/
def windowOf (r : Nib) (sample : Int) : Nat × List (BitVec 8) :=
  let st := sample - 980
  let oldest : Int := (r.at_ : Int) - r.ring.length
  let lo := max st oldest
  let hi := min (st + 40960) (r.at_ : Int)
  ((lo - st).toNat, (((r.ring.drop ((r.at_ : Int) - hi).toNat).take (hi - lo).toNat)).reverse)

/-- The ring that window position d of data nib k reads: a data nib, or the ruling nib just beyond the edge under EDGE_SRC;
none where the window holds zeros (R96, R60). -/
def windowNib (s : State) (n k : Nat) (d : Int) : Option Nat :=
  let p : Int := (k : Int) + d
  let top := dataNibs s n
  if p = -1 then (if s.on (RC_CTRL_EDGE_SRC n) then some 16 else none)
  else if p = (top : Int) then (if s.on (RC_CTRL_EDGE_SRC n) then some 17 else none)
  else if 0 ≤ p ∧ p < (top : Int) then (if s.bit (RC_CTRL_NIB_EN n) p.toNat then some p.toNat else none)
  else none

/-- The five windows of a codeword as the rings hold them now, nib k - 2 first (R96). -/
def windowsNow (s : State) (c : Cw) : List (Nat × List (BitVec 8)) :=
  [(-2 : Int), -1, 0, 1, 2].map fun d =>
    match windowNib s c.pen c.nib d with
    | some r => windowOf (s.nib c.pen r) c.sample
    | none => (0, [])

/-- The five windows are stored in a record at `a`. -/
def putWindows (s : State) (a : Nat) (ws : List (Nat × List (BitVec 8))) : State :=
  s.each ([0xB000, 0x15000, 0x1F000, 0x29000, 0x33000].zip ws) fun s w => s.putBytes (a + w.1 + w.2.1) w.2.2

/-- The spill engine writes a codeword's record into a slot as requester 35 (R96, R98). It copies the samples first, oldest first, so
what the rings held as the record was queued is in it unless the ring writer overtook the copy; later samples of the windows are
taken as they come. -/
def writeRecord (s : State) (slot : Nat) (c : Cw) (rung : Nat) : State :=
  let a := s.get LDPC_SPILL_BASE_BASE * 2 ^ 20 + slot * 0x40000
  let now := windowsNow s c
  let s := s.inkWriteZ 35 a 0x40000 (spillDesc s c rung) false
  s.iff (decide (a < inkLimit)) fun s =>
    let s := s.putBytes (a + 0x1000) ((c.llrs.take 37440).map fun l => BitVec.ofNat 8 (ofSigned 8 l))
    (putWindows s a now).iff (!c.lost) fun s => putWindows s a c.windows

/-- A decode failed and its record is to be spilled: into its own slot, or a free one; no slot, or 32 records queued already,
records SPILL_FULL and keeps neither LLRs nor samples. A slot the codeword owns stays its own until it is delivered or poisoned
(R98, R99). -/
def spillOrFull (s : State) (id : Nat) : State :=
  match s.cw? id with
  | none => s
  | some c =>
    match (if s.ldpc.spillq.length < 32 then (c.slot <|> freeSlot? s) else none) with
    | some sl =>
      (s.putCw id { c with phase := .spilling, slot := some sl, windows := windowsNow s c }).modLdpc fun l => { l with spillq := l.spillq ++ [id] }
    | none =>
      let s := (s.ev LDPC_EVENT_SPILL_FULL).bump LDPC_CNT_LOSS_SPILL_FULL 1
      let s := s.putCw id { c with status := c.status ||| 2 ^ 6, inBuf := false, llrs := [], lost := true }
      joinRevisit s id (stepPos c.rung c.sub)

/-! ### The rows -/

/-- The oldest retry task that is ready: the one whose codeword entered its rung first (R90, R109). -/
def oldestTask (s : State) : Option (Nat × TaskKind) :=
  let entry := fun (t : Nat × TaskKind) => ((s.cw? t.1).map fun c => c.entry).getD 0
  s.ldpc.retryq.foldl (fun best t => match best with | none => some t | some b => if entry t < entry b then some t else best) none

/-- The retry queue without one task. -/
def withoutTask (t : Nat × TaskKind) (l : List (Nat × TaskKind)) : List (Nat × TaskKind) := l.erase t

/-- A retry decode starts on what a replay channel holds: an L2 or an L3 decode, whose LLRs then leave the channel (R101, R103). -/
def takesChannel (s : State) (t : Nat × TaskKind) : Bool :=
  t.2 == .retry && (match s.cw? t.1 with | some c => c.phase == .l2 || c.phase == .l3 | none => true)

/-- CORE_SCHEDULE (R90, R91, R102): a free core in scheduling takes the oldest L0 codeword, or, within the retry limit, the
oldest retry task, with the cap in force now. -/
def coreSchedule (core : Nat) (s : State) : State :=
  if (s.ldpc.busy.find? core).isSome ∨ s.bit LDPC_CORE_ONLINE_ONLINE core = false then s
  else
    let st := s.get LDPC_SCHED_STEP
    match s.ldpc.l0q with
    | id :: rest =>
      let cap := match s.cw? id with
        | some c => if c.verify then capOf (s.get (WC_VERIFY_VFY_ICAP c.pen)) else effL0 s st
        | none => effL0 s st
      refreshLdpc (s.modLdpc fun l => { l with l0q := rest, busy := l.busy.insert core { cw := id, kind := .l0, cap := cap } })
    | [] =>
      if retryBusy s < min (s.get LDPC_SCHED_RETRY_MAX) (onlineCount s - s.get LDPC_SCHED_L0_RESERVE) then
        match oldestTask s with
        | some t =>
          let cap := match t.2 with | .neighbour _ => 10 | _ => effRetry s st
          let frees := takesChannel s t
          let s := s.modLdpc fun l =>
            { l with retryq := withoutTask t l.retryq, busy := l.busy.insert core { cw := t.1, kind := t.2, cap := cap }
                     chans := if frees then l.chans.filter (·.2 != t.1) else l.chans }
          refreshLdpc (startReplays s)
        | none => s
      else s

def execCoreSchedule (core : Fin 64) (s : State) : Res := .next (coreSchedule core s)

/-- A decode fails at the rung its codeword stands at (R94, R99, R106). -/
def decodeFailed (s : State) (id : Nat) (c : Cw) : State :=
  match c.phase with
  | .l0 => spillOrFull s id
  | .fresh => spillOrFull s id
  | .l1 => advance s id 1
  | .l2 => advance s id 2
  | .l3 => advance s id 3
  | .spilling => s
  | .pending => s

/-- What one decode came to: whether the syndrome became zero within the cap, the iterations run, and whether the CRC-64 over user and
header bits checks then (R86, R87). A decode that fails has run to its cap. -/
def decodeVerdict (t : Task) (r : DecodeResult) : Bool × Nat × Bool :=
  let zero := r.zero && decide (r.iters ≤ t.cap)
  (zero, if zero then max 1 r.iters else t.cap, zero && leVal r.crc == infoCrc r.user r.header)

/-- The data key of a slot. -/
def slotKey (s : State) (k : Nat) : List (BitVec 8) := s.sec.slots.getD k []

/-- The user bytes of a codeword as its pen's XTS engine passes them on (R110, R129); without a key there is nothing to decrypt with. -/
def clearData (s : State) (c : Cw) (user header : List (BitVec 8)) : List (BitVec 8) :=
  decrypted (slotKey s c.key) (c.bypass || c.key == 0xFFFF) user header

/-- The header a codeword of a verify or read-back should carry: that of its header block, as burned at its place (R120, R140). -/
def expectedHeader (s : State) (c : Cw) : List (BitVec 8) :=
  burnedHeader (s.bytesAt (c.hdr + 64 * c.idx) 64) c.idx (pfaOf c.side c.layer c.track c.nib (c.f / 79000))

/-- A codeword passes verify: it is framed as asked, its initial syndrome weight is low enough, it decodes within its cap with a
correct CRC-64, and its header is the expected one (R140); of a Colophon's copy, its user data equals the record too (R145). -/
def verifyPass (s : State) (c : Cw) (crcOk : Bool) (r : DecodeResult) : Bool :=
  c.clean && decide (r.initial ≤ s.get (WC_VERIFY_VFY_SW c.pen)) && crcOk && r.header == expectedHeader s c
    && (!c.row || r.user == s.bytesAt c.dest 4096)

/-- A codeword's decode succeeds: it is delivered, or poisoned NO_KEY where its header says encrypted and its READ names no key
(R110, R111, R129). -/
def decodeSucceeds (s : State) (id : Nat) (c : Cw) (r : DecodeResult) : State :=
  let data := clearData s c r.user r.header
  if hdrEnc r.header && c.key == 0xFFFF && !c.bypass then
    let c := { c with status := c.status ||| 2 ^ 11, lastData := data, weight := 0 }
    poisonCw (s.putCw id c) id c 5
  else
    let c := { c with weight := 0 }
    deliver (s.putCw id c) id c data

/-- A neighbour's decode at L3 ends: its decoded bytes, if it succeeded, serve the fourth pass and nothing else; after the last one the
fourth pass waits for a replay channel (R102). -/
def neighbourDone (s : State) (id : Nat) (c : Cw) (upper ok : Bool) (r : DecodeResult) : State :=
  let aids := if ok then Store.insert c.aids (if upper then 1 else 0) (r.user ++ r.header ++ r.crc) else c.aids
  let s := s.putCw id { c with neighbours := c.neighbours - 1, aids := aids }
  s.iff (c.neighbours == 1) fun s => s.modLdpc fun l => { l with replayq := l.replayq ++ [id] }

/-- DECODE_DONE (R86 to R88, R92, R102, R106, R110 to R113, R129, R140): the core is free again; a success is delivered, a failure
moves on, a miscorrection is a failure; a verify codeword is judged and its data discarded. -/
def decodeDone (core : Nat) (r : DecodeResult) (s : State) : State :=
  match s.ldpc.busy.find? core with
  | none => s
  | some t =>
    let (zero, iters, crcOk) := decodeVerdict t r
    let s := s.modLdpc fun l => { l with busy := l.busy.erase core }
    let s := s.wrap LDPC_CNT_ITER_ITERATIONS iters
    let s := s.iff (s.bit LDPC_CORE_OFFLINE_OFFLINE core) fun s => s.setBit LDPC_CORE_ONLINE_ONLINE core false
    match s.cw? t.cw with
    | none => refreshLdpc s
    | some c =>
      let mis := zero && !crcOk
      let s := s.iff mis fun s => (s.ev LDPC_EVENT_MISCORRECT).bump LDPC_CNT_MISC_MISCORRECT 1
      match t.kind with
      | .neighbour upper => refreshLdpc (startReplays (neighbourDone s t.cw c upper crcOk r))
      | _ =>
        let c := { c with iters := iters, status := if mis then c.status ||| 2 ^ 9 else c.status }
        if c.verify then refreshLdpc ((noteVerify s c (verifyPass s c crcOk r) iters).dropCw t.cw)
        else if crcOk then refreshLdpc (startReplays (decodeSucceeds s t.cw c r))
        else
          let c := { c with weight := r.weight, lastData := clearData s c r.user r.header }
          refreshLdpc (startReplays (decodeFailed (s.putCw t.cw c) t.cw c))

def execDecodeDone (core : Fin 64) (res : DecodeResult) (s : State) : Res := .next (decodeDone core res s)

/-- SPILL_COPY_DONE (R96 to R99, R103, R106): the oldest record's copy is complete; the input buffer slot is free, and the
codeword goes on to its next rung; its L2 replay may start beside its L1 decode. -/
def spillCopyDone (s : State) : State :=
  match s.ldpc.spillq with
  | [] => s
  | id :: rest =>
    let s := s.modLdpc fun l => { l with spillq := rest }
    match s.cw? id with
    | none => refreshLdpc s
    | some c =>
      let s := match c.slot with
        | some sl => writeRecord s sl c c.rung
        | none => s
      let s := s.putCw id { c with inBuf := false, replayReady := false, rllrs := [], windows := [] }
      if 4 ≤ c.rung then
        refreshLdpc (if s.on LDPC_CTRL_REPLAY_REREAD then advance s id 1 else joinRevisit s id (stepPos c.rung c.sub))
      else
        let early := rungEnabled s 1 && rungEnabled s 2 && c.hasSamples
        let s := advance s id 0
        refreshLdpc (s.iff early fun s => startReplays (s.modLdpc fun l => { l with replayq := l.replayq ++ [id] }))

def execSpillCopyDone (s : State) : Res := .next (spillCopyDone s)

/-- SAMPLES_LOST (R56, R98, R108, R109): the ring writer has overtaken the copy of a codeword of this nib; its samples are
lost, so L2 and L3 will be skipped. -/
def samplesLost (n k : Nat) (s : State) : State :=
  match s.ldpc.spillq.find? fun id => match s.cw? id with | some c => c.pen == n && c.nib == k && !c.lost | none => false with
  | some id =>
    let s := s.modCw id fun c => { c with status := c.status ||| 2 ^ 7, lost := true }
    (s.ev LDPC_EVENT_SAMPLES_LOST).bump LDPC_CNT_LOSS_SAMPLES_LOST 1
  | none =>
    match s.ldpc.capture with
    | some c =>
      if c.pen == n && c.nib == k then
        let s := s.modLdpc fun l => { l with capture := some { c with status := c.status ||| 2 ^ 7, lost := true } }
        (s.ev LDPC_EVENT_SAMPLES_LOST).bump LDPC_CNT_LOSS_SAMPLES_LOST 1
      else s
    | none => s

def execSamplesLost (n k : Fin 16) (s : State) : Res := .next (samplesLost n k s)

/-- The LLRs that a replay of the codeword's own window gives: the framer searches the stored window again, and LLRs inside erasure
spans are 0 (R101, R82). -/
def replayLlrs (s : State) (c : Cw) (r : Replay) : List Int :=
  let on := s.on (RC_CTRL_SLIP_TEST c.pen)
  let sync := findSync s c.pen r.scores
  let resync := findResync s c.pen r.rscores
  let shift := if slipDue on sync resync then bestShift r.weights else 0
  let (a, b) := replayAnchors on c.split sync resync shift
  frameLlrs (s.get (RC_EQ_CTRL_LLR_SCALE c.pen)) (eraseSpans c.spans r.dm) a b

/-- The neighbour decodes of an L3 codeword, and the fourth pass at once where nib k has no data neighbour (R102). -/
def neighbourTasks (s : State) (n k : Nat) : List TaskKind :=
  (neighboursOf s n k).map fun m => .neighbour (decide (k < m))

/-- REPLAY_DONE (R101 to R103): an L2 pass leaves its LLRs waiting in the channel until L1 has failed; at L3, three passes,
then the neighbour decodes, then a fourth pass, then the decode. -/
def replayDone (ch : Nat) (r : Replay) (s : State) : State :=
  match s.ldpc.chans.find? ch with
  | none => s
  | some id =>
    match s.cw? id with
    | none => s.modLdpc fun l => { l with chans := l.chans.erase ch }
    | some c =>
      if c.replayReady then s
      else if c.phase = .l3 then
        if c.passes + 1 = 3 then
          let ks := neighbourTasks s c.pen c.nib
          let s := s.putCw id { c with passes := 3, neighbours := ks.length }
          let s := s.modLdpc fun l =>
            { l with chans := l.chans.erase ch
                     retryq := l.retryq ++ ks.map fun k => (id, k)
                     replayq := if ks.isEmpty then l.replayq ++ [id] else l.replayq }
          refreshLdpc (startReplays s)
        else if 4 ≤ c.passes + 1 then
          readyTask (s.putCw id { c with passes := 4, replayReady := true, rllrs := replayLlrs s c r }) id .retry
        else s.putCw id { c with passes := c.passes + 1 }
      else
        let s := s.putCw id { c with replayReady := true, rllrs := replayLlrs s c r }
        if c.phase = .l2 then readyTask s id .retry else s

def execReplayDone (ch : Fin 4) (res : Replay) (s : State) : Res := .next (replayDone ch res s)

/-! ### Revisit sequences -/

/-- The offset of a revisit step is written, the others zeroed (R105, R188); L7 raises the read power instead. -/
def retryOffsets (s : State) (n rung sub : Nat) : State :=
  let s := (zeroRetryOffsets s n).iff (decide (rung ≤ 6)) fun s => s.set (SV_STATUS_RETRY_OFS n) 1
  let trk : Nat := s.get LDPC_RETRY_CFG_TRACK_DELTA * s.get (SV_SLOPE_TRACK_SLOPE n) * 2 ^ 11
  let foc : Nat := s.get LDPC_RETRY_CFG_FOCUS_STEP * s.get (SV_SLOPE_FOCUS_SLOPE n) * 2 ^ 11
  let sa : Nat := s.get LDPC_RETRY_CFG_SA_STEP * 2 ^ 16
  let q31 := fun (i : Int) => ofSigned 32 (clampInt (-(2 ^ 31)) (2 ^ 31 - 1) i)
  if rung = 4 then s.set (LE_OFS_OFS n (s.get (SV_MAP_RTRK_OFS n))) (q31 (trk : Int))
  else if rung = 5 then s.set (LE_OFS_OFS n (s.get (SV_MAP_RTRK_OFS n))) (q31 (-(trk : Int)))
  else if rung = 6 ∧ sub = 0 then s.set (LE_OFS_OFS n (s.get (SV_MAP_RFOC_OFS n))) (q31 (foc : Int))
  else if rung = 6 ∧ sub = 1 then s.set (LE_OFS_OFS n (s.get (SV_MAP_RFOC_OFS n))) (q31 (-(foc : Int)))
  else if rung = 6 ∧ sub = 2 then s.set (LE_OFS_OFS n (s.get (SV_MAP_RSA_OFS n))) (q31 (sa : Int))
  else if rung = 6 ∧ sub = 3 then s.set (LE_OFS_OFS n (s.get (SV_MAP_RSA_OFS n))) (q31 (-(sa : Int)))
  else s

/-- The descriptor queue of a pen is empty, or its next descriptor lies on another band, layer or side (R104). -/
def queueElsewhere (s : State) (n : Nat) : Bool :=
  let tail := s.get (FQ_TAIL_TAIL n)
  if s.get (FQ_HEAD_HEAD n) = tail then true
  else
    let a := s.get (FQ_BASE_BASE n) * 2 ^ 12 + 64 * (tail % fqSize s n)
    s.le (a + 4) 2 != s.get (RUL_BAND_TRACK n) || (s.byte (a + 2)).toNat % 16 != s.get (RUL_BAND_LAYER n)
      || (s.byte (a + 2)).toNat / 16 % 2 != s.get (RUL_BAND_SIDE n)

/-- The start conditions of R104 hold for pen n. -/
def revisitReady (s : State) (n : Nat) : Bool :=
  queueElsewhere s n
    && (s.ldpc.cws.all fun e => e.2.pen != n || e.2.phase == .pending)
    && (s.ldpc.cws.any fun e => e.2.pen == n)
    && s.get (RUL_STATUS_STATE n) == 4 && s.on (RUL_STATUS_TRACK_MATCH n) && s.on (RUL_STATUS_LAYER_MATCH n)
    && s.get LDPC_CTRL_PARK == 0

/-- REVISIT_START (R104, R107, R188): the sequence starts, or after PARK resumes at its next step, with the offsets at zero. -/
def revisitStart (n : Nat) (s : State) : State :=
  let r := s.revisit n
  if r.running = false ∧ revisitReady s n then zeroRetryOffsets (s.setRevisit n { r with running := true }) n else s

def execRevisitStart (n : Fin 16) (s : State) : Res := .next (revisitStart n s)

/-- The pen's place on the disc in bins since ADDR was entered. -/
def binPlace (s : State) (n : Nat) : Nat := s.get (RUL_REV_REV n) * 1024 + s.get (RUL_ANGLE_BIN n)

/-- Bin b of the revolution holds a part of a pending codeword's window, from 980 samples before its predicted start to 39,979 after
it (R96, R105). -/
def inWindow (m b : Nat) (c : Cw) : Bool :=
  let st := c.f + 1000 + 4875 * c.idx
  let lo := (st + 1024 * m - 123) / m
  let hi := (st + 1024 * m + 4997) / m
  (List.range (hi - lo + 1)).any fun i => (lo + i) % 1024 == b

/-- For each element, how many elements true stand from it on without a gap. -/
def runLengths (l : List Bool) : List Nat := l.foldr (fun x r => (if x then r.headD 0 + 1 else 0) :: r) []

/-- The longest arc of at least 16 bins that holds no pending codeword's window: its first bin and its length; of equal ones the
first from bin 0 (R105). -/
def longestArc (s : State) (n : Nat) (cs : List Cw) : Option (Nat × Nat) :=
  let m := s.get (RUL_PERIODS_M_RNI n)
  if m = 0 then none
  else
    let free := (List.range 1024).map fun b => !cs.any (inWindow m b)
    let lens := (runLengths (free ++ free)).take 1024
    let best := ((List.range 1024).zip lens).foldl (fun (best : Nat × Nat) e => if best.2 < min 1024 e.2 then (e.1, min 1024 e.2) else best) (0, 0)
    if 16 ≤ best.2 then some best else none

/-- The codewords of pen n that the revisit rungs hold, by identity. -/
def pendingOf (s : State) (n : Nat) : Store Cw := s.ldpc.cws.filter fun e => e.2.pen == n && e.2.inRevisit

/-- The sequence ends: offsets and read power return, and what is still pending has no rung left (R105, R111). -/
def revisitEnd (n : Nat) (s : State) : State :=
  let s := s.each s.ldpc.cws fun s e => s.iff (e.2.pen == n && e.2.phase == .pending) fun s => poisonCw s e.1 e.2 1
  refreshLdpc (endSequence s n)

/-- The step in force is over: every pending codeword has been read in it, or its read revolution has passed, and no codeword of the pen
is still being decoded or replayed from its fresh read (R105, R106). -/
def stepOver (s : State) (n : Nat) : Bool :=
  let r := s.revisit n
  (r.step == 0 || r.todo.isEmpty || decide (r.stop_ ≤ binPlace s n))
    && (pendingOf s n).all fun e => e.2.phase == .pending

/-- A revisit step takes force for the whole pen: its offset or its read power, and the read revolution, from the end of the arc to its
next start, or, where there is none, a whole one after a revolution in which to settle; an aberration step always settles for a
revolution (R105). Whether its rung is enabled counts as it takes force (R95). -/
def applyStep (s : State) (n rung sub arc : Nat) : State :=
  let r := s.revisit n
  let s := retryOffsets s n rung sub
  let s := setReadPower s n (if rung = 7 then s.get LDPC_RETRY_CFG_POWER_STEP else 0)
  let todo := (pendingOf s n).map (·.1)
  let s := s.modLdpc fun l => { l with cws := l.cws.map fun e =>
    if e.2.pen = n ∧ e.2.phase = .pending then (e.1, { e.2 with rung := rung, sub := sub }) else e }
  let settle := if arc = 0 ∨ (rung = 6 ∧ 2 ≤ sub) then 1024 else 0
  let from_ := binPlace s n + arc + settle
  s.setRevisit n { r with step := r.step + 1, todo := todo, from_ := from_, stop_ := from_ + (1024 - arc), decodes := rungEnabled s rung }

/-- REVISIT_STEP (R105 to R107): once the step in force is over, the next one takes force at the start of the longest free arc, or at
once where there is none, and every pending codeword is to be read once under it; with PARK set no new step starts, and the offsets and the read power return; with none
pending, or after the last step, the sequence ends. -/
def revisitStep (n : Nat) (s : State) : State :=
  let r := s.revisit n
  let pend := (pendingOf s n).map (·.2)
  if r.running = false then s
  else if pend.isEmpty then revisitEnd n s
  else if stepOver s n = false then s
  else if s.on LDPC_CTRL_PARK then (setReadPower (zeroRetryOffsets s n) n 0).setRevisit n { r with running := false, todo := [] }
  else
    match revisitSteps[r.step]? with
    | none => revisitEnd n s
    | some (rung, sub) =>
      match longestArc s n pend with
      | some (b, len) => s.iff (s.get (RUL_ANGLE_BIN n) == b) fun s => applyStep s n rung sub len
      | none => applyStep s n rung sub 0

def execRevisitStep (n : Fin 16) (s : State) : Res := .next (revisitStep n s)

/-- PARK_WRITE (R107): setting PARK stops new steps; on clearing it a pen that has meanwhile left the band has its pending
codewords cut. -/
def parkWrite (set : Bool) (s : State) : State :=
  if set then s.set LDPC_CTRL_PARK 1
  else (s.set LDPC_CTRL_PARK 0).each (List.range 16) fun s n => cutPending s n (leftBand s)

def execParkWrite (set : Bool) (s : State) : Res := .next (s.clocked ldpcIsland (parkWrite set))

/-! ### Cores, tests and captures -/

/-- Cores offline or going offline. -/
def offlineCount (v : Nat) : Nat := ((List.range 64).filter fun c => v.testBit c).length

/-- CORE_OFFLINE_WRITE (R92, R459): newly set bits take effect in ascending core number until 14 cores are offline, the rest
are ignored; an idle core leaves scheduling at once, a busy one after its decode; a cleared bit brings its core back. -/
def coreOfflineWrite (value : Nat) (s : State) : State :=
  let old := s.get LDPC_CORE_OFFLINE_OFFLINE
  let new := (List.range 64).foldl (fun m c =>
    if value.testBit c && (old.testBit c || decide (offlineCount m < 14)) then m ||| 2 ^ c else m) (old &&& value)
  let s := s.set LDPC_CORE_OFFLINE_OFFLINE new
  s.each (List.range 64) fun s c =>
    if new.testBit c then (if (s.ldpc.busy.find? c).isSome then s else s.setBit LDPC_CORE_ONLINE_ONLINE c false)
    else s.setBit LDPC_CORE_ONLINE_ONLINE c true

def execCoreOfflineWrite (value : BitVec 64) (s : State) : Res := .next (s.clocked ldpcIsland (coreOfflineWrite value.toNat))

/-- CORE_TEST (R92): on an offline core the test starts; on an online core it does nothing, and DONE is set with PASS = 0. DESIGN CHOICE
(assumption 120): START while a test runs starts it again, with the core then named. -/
def coreTest (core : Nat) (s : State) : State :=
  let s := (s.set LDPC_CORE_TEST_CORE core).set LDPC_CORE_TEST_PASS 0
  if s.bit LDPC_CORE_ONLINE_ONLINE core then (s.set LDPC_CORE_TEST_DONE 1).ev LDPC_EVENT_TEST_DONE
  else (s.set LDPC_CORE_TEST_DONE 0).set LDPC_CORE_TEST_START 1

def execCoreTest (core : Fin 64) (s : State) : Res := .next (s.clocked ldpcIsland (coreTest core))

/-- CORE_TEST_DONE (R92): a running test ends with DONE and its verdict. -/
def coreTestDone (pass : Bool) (s : State) : State :=
  if s.on LDPC_CORE_TEST_START then
    (((s.set LDPC_CORE_TEST_START 0).set LDPC_CORE_TEST_DONE 1).set LDPC_CORE_TEST_PASS (if pass then 1 else 0)).ev LDPC_EVENT_TEST_DONE
  else s

def execCoreTestDone (pass : Bool) (s : State) : Res := .next (coreTestDone pass s)

/-- A capture ends (R114). -/
def captureEnd (ok : Bool) (s : State) : State :=
  ((((s.set LDPC_CAPTURE_ARM 0).set LDPC_CAPTURE_DONE 1).set LDPC_CAPTURE_OK (if ok then 1 else 0)).ev LDPC_EVENT_CAPTURE_DONE).modLdpc
    fun l => { l with capture := none }

/-- CAPTURE_ARM (R114): a write of LDPC_CAPTURE; with ARM = 1 it arms a capture, or is refused for a slot below SLOTS. -/
def captureArm (value : Nat) (s : State) : State :=
  let s := ((s.set LDPC_CAPTURE_SLOT (value / 2 ^ 20)).set LDPC_CAPTURE_PEN (value / 2 ^ 8)).set LDPC_CAPTURE_NIB (value / 2 ^ 4)
  if value.testBit 30 then
    if s.get LDPC_CAPTURE_SLOT < ladderSlots s then captureEnd false s
    else ((s.set LDPC_CAPTURE_ARM 1).set LDPC_CAPTURE_DONE 0).modLdpc fun l => { l with capture := none }
  else s

def execCaptureArm (value : Word) (s : State) : Res := .next (s.clocked ldpcIsland (captureArm value.toNat))

/-- CAPTURE_DONE (R114): the armed capture's record has been written; its descriptor byte 7 reads 0. A capture whose samples
were lost writes no full record. -/
def captureDone (s : State) : State :=
  match s.ldpc.capture with
  | none => s
  | some c =>
    if s.on LDPC_CAPTURE_ARM then
      if c.status.testBit 7 then captureEnd false s
      else captureEnd true (writeRecord s (s.get LDPC_CAPTURE_SLOT) c 0)
    else s

def execCaptureDone (s : State) : Res := .next (captureDone s)

end Sys2Proof.Machine
end

