-- ==== Sys2Proof/Machine/ReadChannel.lean ====
section
/-!
DEFINITION. The read channel: presets in two banks, the datapath with its adaptive loops and cross terms, the Blotter, and the framing
of codewords (chapter 03: R53 to R85).
-/

namespace Sys2Proof.Machine

/-- Data nib k of pen n exists on its port and is enabled (R26, R54). -/
def nibOn (s : State) (n k : Nat) : Bool :=
  decide (k < dataNibs s n) && s.on (RC_CTRL_ENABLE n) && s.bit (RC_CTRL_NIB_EN n) k

/-- Present whether a nib's adaptive loops are frozen (R59). -/
def refreshFrozen (s : State) (n k : Nat) : State :=
  let st := s.get (RUL_STATUS_STATE n)
  let frozen := (s.nib n k).blotFrom.isSome || s.on (RC_CTRL_FREEZE_ALL n) || st == 6 || st == 7
  s.set (RC_NIB_STATUS_FROZEN n k) (if frozen then 1 else 0)

/-- The same for every data nib of a pen. -/
def refreshFrozenPen (s : State) (n : Nat) : State := s.each (List.range (dataNibs s n)) fun s k => refreshFrozen s n k

/-! ### Presets -/

/-- The bank the directory selects for a layer and zone (R73); none when neither is VALID. -/
def selectBank (s : State) (n layer zone : Nat) : Option Nat :=
  let v0 := s.on (RC_ZT_DIR_VALID n (dirIndex 0 layer zone))
  let v1 := s.on (RC_ZT_DIR_VALID n (dirIndex 1 layer zone))
  let g0 := s.get (RC_ZT_DIR_GEN n (dirIndex 0 layer zone))
  let g1 := s.get (RC_ZT_DIR_GEN n (dirIndex 1 layer zone))
  if v0 && v1 then
    let d := (g1 + 256 - g0) % 256
    if d = 0 then some 0
    else if d ≤ 127 then some 1
    else if (g0 + 256 - g1) % 256 ≤ 127 then some 0
    else if s.freeBit then some 1 else some 0
  else if v0 then some 0
  else if v1 then some 1
  else none

/-- Two VALID banks whose GENs differ by exactly 128: neither is newer, and the choice is left open. -/
def bankTie (s : State) (n layer zone : Nat) : Bool :=
  s.on (RC_ZT_DIR_VALID n (dirIndex 0 layer zone)) && s.on (RC_ZT_DIR_VALID n (dirIndex 1 layer zone))
    && (s.get (RC_ZT_DIR_GEN n (dirIndex 1 layer zone)) + 256 - s.get (RC_ZT_DIR_GEN n (dirIndex 0 layer zone))) % 256 == 128

/-- The adaptive loops load a preset's initial gain, offset and asymmetry (R58, R71). -/
def loadInitial (s : State) (n k : Nat) (bytes : List (BitVec 8)) : State :=
  s.set (RC_NIB_GAIN_GAIN n k) ((bytes.getD 44 0).toNat * 256)
    |>.set (RC_NIB_GAIN_OFFSET n k) (ofSigned 16 ((bytes.getD 45 0).toInt * 64))
    |>.set (RC_NIB_ASYM_ASYM n k) (ofSigned 16 ((bytes.getD 46 0).toInt * 32))

/-- A preset entry is applied: its initial values are loaded (R58, R71), and the status names it. -/
def applyPreset (s : State) (n k : Nat) (p : Preset) (bytes : List (BitVec 8)) : State :=
  let s := s.modNib n k fun b => { b with held := some p, bytes := bytes, fetched := none }
  loadInitial (s.set (RC_NIB_STATUS_BANK n k) p.bank
    |>.set (RC_NIB_STATUS_LAYER n k) p.layer
    |>.set (RC_NIB_STATUS_ZONE n k) p.zone
    |>.set (RC_NIB_STATUS_GEN n k) p.gen) n k bytes

/-- A folio preamble starts: the adaptive loops load the held preset's initial values again, and the next 4,000 channel bits are
its fast part (R58). DESIGN CHOICE (assumption 80): a load comes through while the loops are frozen, as R59 does not say that a
freeze holds back a load; here and where a preset is applied. -/
def reloadPreset (s : State) (n k : Nat) : State :=
  let s := s.modNib n k fun b => { b with early := 4000 }
  match (s.nib n k).held with
  | some _ => loadInitial s n k (s.nib n k).bytes
  | none => s

/-- Present whether the other bank is VALID for the present layer and zone (R74). -/
def refreshAlt (s : State) (n k : Nat) : State :=
  let layer := s.get (RUL_BAND_LAYER n)
  let zone := zoneOf s n
  let bank := (selectBank s n layer zone).getD 0
  s.set (RC_NIB_STATUS_ALT_VALID n k) (s.get (RC_ZT_DIR_VALID n (dirIndex (1 - bank) layer zone)))

/-- The same for every data nib of a pen. -/
def refreshAltPen (s : State) (n : Nat) : State := s.each (List.range (dataNibs s n)) fun s k => refreshAlt s n k

/-- The zone of a pen and what its nibs show of the directory follow TRACK, LAYER, ZONE_MUL and the directory (R72, R74). -/
def refreshPresets (s : State) (n : Nat) : State := refreshAltPen (refreshZone s n) n

/-- The selection of R73 at a codeword boundary, or on a zone or layer change under JUMP (R76): a fetch starts for an entry
the nib does not hold; with no VALID bank the nib keeps its preset and ZT_MISS is set. -/
def selectPreset (s : State) (n k : Nat) : State :=
  let layer := s.get (RUL_BAND_LAYER n)
  let zone := zoneOf s n
  let tie := bankTie s n layer zone
  let pick := selectBank s n layer zone
  let s := s.iff tie fun s => { s with freeCtr := s.freeCtr + 1 }
  let s := match pick with
    | none => s.ev (RC_EVENT_ZT_MISS n)
    | some bank =>
      let p : Preset := { bank := bank, layer := layer, zone := zone, gen := s.get (RC_ZT_DIR_GEN n (dirIndex bank layer zone)) }
      let b := s.nib n k
      if b.held = some p then s.modNib n k fun b => { b with fetching := none, fetched := none }
      else if (b.fetched.map (·.1)) = some p ∨ b.fetching = some p then s
      else s.modNib n k fun b => { b with fetching := some p, fetched := none }
  refreshAlt s n k

/-- A fetched entry is applied at a boundary at least 2 µs after the selection that required it (R74). -/
def applyFetched (s : State) (n k ns : Nat) : State :=
  match (s.nib n k).fetched with
  | some (p, bytes) => if 2000 ≤ ns then applyPreset s n k p bytes else s
  | none => s

/-- What a nib makes of a fetch: where the entry came as poison, or with an Inkwell uncorrectable, it keeps its preset, ZT_MISS is set, and
the fetch is tried again at the next boundary (R76). -/
def takePreset (n k : Nat) (ue : Bool) (p : Preset) (r : Option (List (BitVec 8)) × State) : State :=
  match (if ue then none else r.1) with
  | none => (r.2.modNib n k fun b => { b with fetching := none }).ev (RC_EVENT_ZT_MISS n)
  | some bytes => r.2.modNib n k fun b => { b with fetching := none, fetched := some (p, bytes) }

/-- PRESET_FETCH_DONE (R70, R74, R76, R288): the entry's 64 bytes are in. -/
def presetFetchDone (n k : Nat) (ue : Bool) (s : State) : State :=
  match (s.nib n k).fetching with
  | none => s
  | some p => takePreset n k ue p (fetchPreset s n k p)

def execPresetFetchDone (n k : Fin 16) (ue : Bool) (s : State) : Res := .next (presetFetchDone n k ue s)

/-- ZT_DIR_WRITE (R74 to R76): the directory word changes; each nib sees it at its next codeword boundary, and ALT_VALID shows it. -/
def ztDirWrite (n i value : Nat) (s : State) : State :=
  refreshAltPen ((s.set (RC_ZT_DIR_GEN n i) (value / 2 ^ 8)).set (RC_ZT_DIR_VALID n i) value) n

def execZtDirWrite (n : Fin 16) (entry : Fin 2048) (value : Word) (s : State) : Res :=
  .next (s.clocked (dataIsland n) (ztDirWrite n entry value.toNat))

/-! ### The datapath (R58 to R63) -/

/-- A signed byte of a nib's applied preset (R71). -/
def tap (b : Nib) (i : Nat) : Int := (b.bytes.getD i 0).toInt

/-- The criteria's windows of 64 corrected samples: the peak-to-peak of each one that fills joins the running envelope of 4,096
samples, except during a blot (R65, R66). Values in 2^−6 LSB. DESIGN CHOICE (assumption 113): the windows of 64, and those of 16 element
samples, lie back to back, and a running average not yet full is the mean of what it has. -/
def pushWindow (b : Nib) (blot : Bool) (v : Int) : Nib :=
  let w := v :: b.window
  if w.length < 64 then { b with window := w }
  else
    let peak := (w.foldl max v - w.foldl min v).toNat
    { b with window := [], peak := peak, peaks := if blot then b.peaks else (peak :: b.peaks).take 64 }

/-- One sample of a nib's servo elements, their sum, enters the 16 under way; their total joins the running average of the last `keep`
outside a blot (R65, R66). DESIGN CHOICE (assumption 93): on N1 too the sum is over 16 element samples. -/
def pushElement (keep : Nat) (b : Nib) (v : Nat) : Nib :=
  let (t, c) := b.elem
  if c + 1 < 16 then { b with elem := (t + v, c + 1) }
  else { b with elem := (0, 0), short := t + v, sums := if b.blotFrom.isSome then b.sums else ((t + v) :: b.sums).take keep }

/-- A corrected sample (x1 and x2) from an interpolated one in 2^−6 LSB, with the gain, offset and asymmetry in force; the neighbours see 0 in its
place while the nib is blotted and XBLANK = 1 (R61). -/
def correctOne (n k : Nat) (s : State) (raw : Int) : State :=
  let x1 := (s.get (RC_NIB_GAIN_GAIN n k) : Int) * (raw - toSigned 16 (s.get (RC_NIB_GAIN_OFFSET n k)))
  let x2 := x1 * 2 ^ 34 + toSigned 16 (s.get (RC_NIB_ASYM_ASYM n k)) * x1 * x1
  let blot := (s.nib n k).blotFrom.isSome
  let seen := if blot && s.on (RC_CTRL_XBLANK n) then 0 else x2
  s.modNib n k fun b =>
    pushWindow { b with corr := ((x1, x2, seen) :: b.corr).take 2048, lag := b.lag + 1, at_ := b.at_ + 1 } blot (x2 / 2 ^ 47)

/-- An element of a list at an integer place, 0 outside it. -/
def atPlace (l : List Int) (p : Int) : Int := if p < 0 then 0 else l.getD p.toNat 0

/-- The corrected sample with index i of the neighbour of nib k towards RNI (`upper` false) or RNO, as nib k's cross term sees it: the
data nib's own, 0 while that nib is off; at the edge of the array the ruling nib's 6-bit samples shifted left by 2 under EDGE_SRC, else zero (R60, R61).
DESIGN CHOICE (assumption 81): the 6-bit samples are unsigned. -/
def crossSample (s : State) (n k : Nat) (upper : Bool) (i : Int) : Int :=
  let edge := fun (r : Nat) =>
    let b := s.nib n r
    let p := (b.at_ : Int) - 1 - i
    if s.on (RC_CTRL_EDGE_SRC n) && decide (0 ≤ p) then ((b.ring.getD p.toNat 0).toNat : Int) * 2 ^ 53 else 0
  let data := fun (m : Nat) =>
    let b := s.nib n m
    if nibOn s n m then atPlace (b.corr.map fun e => e.2.2) ((b.at_ : Int) - 1 - i) else 0
  if upper then (if k + 1 < dataNibs s n then data (k + 1) else edge 17)
  else if k = 0 then edge 16 else data (k - 1)

/-- The tentative decision on sample i of a data neighbour as nib k's main detector sees it: +1, −1, or 0 where it is blanked or
there is no data nib (R61, R63). -/
def crossDecision (s : State) (n k : Nat) (upper : Bool) (i : Int) : Int :=
  let data := fun (m : Nat) =>
    let b := s.nib n m
    if nibOn s n m then atPlace (b.dec.map fun e => e.2) ((b.at_ : Int) - 1 - b.lag - i) else 0
  if upper then (if k + 1 < dataNibs s n then data (k + 1) else 0) else if k = 0 then 0 else data (k - 1)

/-- Sum of integers. -/
def sumInt (l : List Int) : Int := l.foldl (· + ·) 0

/-- A field of six bits as a delay in samples. -/
def delayOf (v : Nat) : Int := toSigned 6 v

/-- The equaliser's output at sample i of nib k, in 2^−61: fifteen own taps and, with the cross terms on, five on either neighbour's samples
(R60 to R62, R71). -/
def equalised (s : State) (n k : Nat) (i : Int) : Int :=
  let b := s.nib n k
  let head : Int := (b.at_ : Int) - 1
  let own := sumInt ((List.range 15).map fun j => 4 * tap b j * atPlace (b.corr.map fun e => e.2.1) (head - (i - ((j : Int) - 7))))
  let cross := fun (at_ : Nat) (upper : Bool) (dly : Int) =>
    sumInt ((List.range 5).map fun j => tap b (at_ + j) * crossSample s n k upper (i - ((j : Int) - 2) + dly))
  own + (if b.xterm then cross 16 false (delayOf (s.get (RC_NIB_XDLY_XDLY_IN n k))) + cross 21 true (delayOf (s.get (RC_NIB_XDLY_XDLY_OUT n k))) else 0)

/-- The interference term that the main detector subtracts at sample i, in 1/256 (R62). -/
def itiTerm (s : State) (n k : Nat) (i : Int) : Int :=
  let b := s.nib n k
  if b.itiOn then
    sumInt ((List.range 3).map fun j =>
      tap b (36 + j) * crossDecision s n k false (i + ((j : Int) - 1)) + tap b (39 + j) * crossDecision s n k true (i + ((j : Int) - 1)))
  else 0

/-- The sums of an island cycle (the adaptive loops of R58): s_e in 2^−61, s_ed in 2^−66, s_ex in 2^−99 and s_ep in 2^−67. -/
structure LoopSums where
  e : Int := 0
  ed : Int := 0
  ex : Int := 0
  ep : Int := 0
  deriving DecidableEq, Repr

/-- One sample of an island cycle, the oldest the tentative detector has not judged before: its decision, the value d that the target predicts, and
the error e = z − d in the sums. -/
def judgeSample (n k : Nat) (a : State × LoopSums) (x : Bool × Int) : State × LoopSums :=
  let (s, q) := a
  let b := s.nib n k
  let i : Int := (b.at_ : Int) - b.lag
  let v : Int := if x.1 then 1 else -1
  let seen := if b.blotFrom.isSome && s.on (RC_CTRL_XBLANK n) then 0 else v
  let x1 := atPlace (b.corr.map fun e => e.1) ((b.lag : Int) - 1)
  let z := equalised s n k i
  let dec := ((v, seen) :: b.dec).take 2048
  let d := sumInt ((List.range 5).map fun j => tap b (28 + j) * atPlace (dec.map fun e => e.1) j)
  let e := z - d * 2 ^ 56
  let t := itiTerm s n k i
  let cws := b.cws.map fun c => if c.sample ≤ i ∧ i < c.sample + 39000 then { c with err := c.err + (e * e).toNat, judged := c.judged + 1 } else c
  (s.modNib n k fun b => { b with dec := dec, lag := b.lag - 1, iti := (t :: b.iti).take 64, cws := cws },
    { e := q.e + e, ed := q.ed + e * d, ex := q.ex + e * x1 * x1, ep := q.ep + e * x.2 })

/-- A 16-bit register takes a value; beyond its range the manual does not say what it holds. -/
def adapt (s : State) (f : Fld) (lo hi v : Int) : State :=
  if lo ≤ v ∧ v ≤ hi then s.set f (ofSigned 16 v) else let (w, s) := s.fresh; s.set f w

/-- The loops at the end of an island cycle, unless frozen (R59); every MU is FAST less in the first 4,000 bits of a preamble (R58).
DESIGN CHOICE (assumption 82): MU less FAST is at least 0. -/
def applySums (n k : Nat) (s : State) (q : LoopSums) : State :=
  if s.on (RC_NIB_STATUS_FROZEN n k) then s
  else
    let fast := if (s.nib n k).early = 0 then 0 else s.get (RC_EQ_CTRL_FAST n)
    let scale := fun (base : Nat) (f : Fld) => 2 ^ (base + (s.get f - fast))
    let gain := s.get (RC_NIB_GAIN_GAIN n k)
    let (mo, mg, ma, mp) := (scale 55 (RC_ADAPT_MU_O n), scale 66 (RC_ADAPT_MU_G n), scale 84 (RC_ADAPT_MU_A n), scale 67 (RC_ADAPT_MU_P n))
    let (o, s) := s.divFree q.e mo
    let s := adapt s (RC_NIB_GAIN_OFFSET n k) (-32768) 32767 (toSigned 16 (s.get (RC_NIB_GAIN_OFFSET n k)) + o)
    let (g, s) := s.divFree (q.ed * gain) mg
    let s := adapt s (RC_NIB_GAIN_GAIN n k) 0 65535 (gain - g)
    let (a, s) := s.divFree q.ex ma
    let s := adapt s (RC_NIB_ASYM_ASYM n k) (-32768) 32767 (toSigned 16 (s.get (RC_NIB_ASYM_ASYM n k)) - a)
    let (p, s) := s.divFree q.ep mp
    s.set (RUL_NIB_PHASE_RESID n k) (ofSigned 16 (clampInt (-2048) 2048 (toSigned 16 (s.get (RUL_NIB_PHASE_RESID n k)) - p)))

/-- One step of a nib's path (ChanStep). Decisions on more samples than have been corrected show nothing. -/
def chanStep (n k : Nat) (s : State) : ChanStep → State
  | .preamble => reloadPreset s n k
  | .correct raw => raw.foldl (correctOne n k) s
  | .adapt dec slope =>
    if (s.nib n k).lag < dec.length then s
    else
      let (s, q) := ((dec.zip slope).foldl (judgeSample n k) (s, {}))
      (applySums n k s q).modNib n k fun b => { b with early := b.early - dec.length }

/-! ### Blots -/

/-- Sum of naturals. -/
def total (l : List Nat) : Nat := l.foldl (· + ·) 0

/-- Lengths of the stretches of true elements of a list. -/
def stretches (l : List Bool) : List Nat :=
  let (c, acc) := l.foldl (fun (a : Nat × List Nat) x => if x then (a.1 + 1, a.2) else (0, if a.1 = 0 then a.2 else a.1 :: a.2)) (0, [])
  if c = 0 then acc else c :: acc

/-- Runs of tentative decisions that break the code limits in the last 256 bits: more than K_MAX equal bits, or more than J_MAX
consecutive transitions (R65). -/
def violations (s : State) (n k : Nat) : Nat :=
  let w := ((s.nib n k).dec.take 256).map fun e => e.1
  let moves := (w.zip (w.drop 1)).map fun e => decide (e.1 ≠ e.2)
  ((stretches (moves.map fun x => !x)).filter fun r => decide (s.get (RC_BLOT_CFG_K_MAX n) < r + 1)).length
    + ((stretches moves).filter fun r => decide (s.get (RC_BLOT_CFG_J_MAX n) < r)).length

/-- The envelope of a nib's last 64 samples has collapsed against its running envelope (R65, R68). -/
def collapsed (s : State) (n k : Nat) : Bool :=
  let l := (s.nib n k).peaks
  s.on (RC_BLOT_CFG_ENV_EN n) && decide ((s.nib n k).peak * 16 * l.length < s.get (RC_BLOT_CFG_ENV_FRAC n) * total l)

/-- The event's criterion is enabled and fires against the nib's running averages (R65). -/
def blotFires (s : State) (n k : Nat) : BlotCrit → Bool
  | .sum =>
    let l := (s.nib n k).sums
    s.on (RC_BLOT_CFG_SUM_EN n) && decide ((s.nib n k).short * 16 * l.length < s.get (RC_BLOT_CFG_SUM_DROP n) * total l)
  | .env => collapsed s n k
  | .rlv => s.on (RC_BLOT_CFG_RLV_EN n) && decide (s.get (RC_BLOT_CFG_RLV_THRESH n) < violations s n k)

/-- Channel bits in 200 ns at the pen's period rate, eight bits a period (R67). -/
def lagBits (s : State) (n : Nat) : Nat := (s.get (RUL_FREQ_PERIOD_RATE n) * 8 * 200 + 500000000) / 1000000000

/-- Add a span to an erasure map of at most 8: a ninth and every further one is merged into the eighth (R69). -/
def addSpan (l : List (Nat × Nat)) (start stop : Nat) : List (Nat × Nat) :=
  if l.length < 8 then l ++ [(start, stop - start)]
  else
    match l.getLast? with
    | some (a, len) => l.dropLast ++ [(a, max (a + len) stop - a)]
    | none => l

/-- Change the newest codeword under way at a nib. -/
def Nib.modNewest (b : Nib) (f : NibCw → NibCw) : Nib :=
  match b.cws.getLast? with
  | some c => { b with cws := b.cws.dropLast ++ [f c] }
  | none => b

/-- The part of a blot that reaches `bits` back past the start of the newest codeword belongs to the one before it, where that frame
ends as the newest begins (R67, R69, R77). -/
def Nib.spanBefore (b : Nib) (bits : Nat) : Nib :=
  match b.cws.reverse with
  | c :: p :: older => if p.f = c.f ∧ p.idx + 1 = c.idx ∧ bits ≠ 0 then { b with cws := older.reverse ++ [{ p with spans := addSpan p.spans (39000 - min 39000 bits) 39000 }, c] } else b
  | _ => b

/-- A learned table's update is discarded when a blot comes between (R177): the pen's engine is told of the blot. -/
def tellEngineBlot (s : State) (n : Nat) : State := s.modEng n fun g => { g with blotSeen := true }

/-- A blot begins on nib k at channel bit `bit` of the newest codeword, widened by 200 ns at its start (R67), into the codeword before
where it must: the nib's loops freeze and its neighbours see zeros (R59, R61). -/
def beginBlot (s : State) (n k bit : Nat) : State :=
  let lag := lagBits s n
  let s := s.modNib n k fun b => { (b.spanBefore (lag - bit)) with blotFrom := some (bit - lag) }
  let s := (s.set (RC_NIB_STATUS_BLOT_ACTIVE n k) 1).ev (RC_EVENT_BLOT n)
  tellEngineBlot (refreshFrozen (s.bump (RC_NIB_CNT_BLOT_BLOTS n k) 1) n k) n

/-- BLOT_START (R59, R61, R65, R67, R68): a criterion fires at channel bit `bit` of the newest codeword. During the hold a criterion
extends the same blot (R66). -/
def blotStart (n k : Nat) (crit : BlotCrit) (bit : Nat) (s : State) : State :=
  if nibOn s n k && blotFires s n k crit && (s.nib n k).blotFrom.isNone then beginBlot s n k bit else s

def execBlotStart (n k : Fin 16) (crit : BlotCrit) (bit : Nat) (s : State) : Res := .next (blotStart n k crit bit s)

/-- Blot hold in samples (R66; HOLD = 0 acts as 1). -/
def holdSamples (s : State) (n : Nat) : Nat := 32 * max 1 (s.get (RC_BLOT_CFG_HOLD n))

/-- BLOT_END (R66, R69): the blot ends HOLD × 32 samples after its last criterion clears, at channel bit `clearBit` of the newest
codeword, before it where that is negative; its span joins the codeword's erasure map. -/
def blotEnd (n k : Nat) (clearBit : Int) (s : State) : State :=
  match (s.nib n k).blotFrom with
  | none => s
  | some a =>
    let stop := min 39000 (clearBit + holdSamples s n).toNat
    let s := s.modNib n k fun b =>
      { (b.modNewest fun c => { c with spans := addSpan c.spans a stop }) with blotFrom := none }
    refreshFrozen (s.set (RC_NIB_STATUS_BLOT_ACTIVE n k) 0) n k

def execBlotEnd (n k : Fin 16) (clearBit : Int) (s : State) : Res := .next (blotEnd n k clearBit s)

/-! ### Codewords -/

/-- Kinds whose mask names nibs: COLOPHON, CAL, BLANK; each always forms a group of its own (R125, R127). -/
def Desc.solo (d : Desc) : Bool := d.kind == 3 || d.kind == 4 || d.kind == 5

/-- The nibs a descriptor works on. -/
def Desc.nibs (d : Desc) : List Nat :=
  if d.solo then (List.range 16).filter d.mask.testBit else [d.nib]

/-- The codewords that a descriptor reads of its folio through the decoder pool: those of a READ's or a VERIFY's mask, all of a WRITE's
and a COLOPHON's read-back (R125, R140, R141, R145). -/
def Desc.wanted (d : Desc) : Nat :=
  if d.kind = 0 ∨ d.kind = 2 then d.mask % 2 ^ 16 else if d.kind = 1 ∨ d.kind = 3 then 0xFFFF else 0

/-- The codewords of nib k that a descriptor has had framed in its pass. -/
def Desc.takenOf (d : Desc) (k : Nat) : Nat := d.taken.getD k 0

/-- A descriptor burns its slot before it can read it. -/
def Desc.burns (d : Desc) : Bool := d.kind == 1 || d.kind == 3 || d.kind == 4

/-- A descriptor has no more use for an arrival of its slot at nib k. -/
def Desc.spent (d : Desc) (k : Nat) : Bool :=
  d.done || d.verdict.isSome || ((!d.burns || d.burned.testBit k) && d.takenOf k &&& d.wanted == d.wanted)

/-- The descriptor that an arrival of F at nib k serves: the first of the group, in queue order, that names them and is not spent there.
One that comes after it waits for the next revolution (R127; DEDUCED, assumption 83: an arrival serves one descriptor). -/
def arrivalDesc (s : State) (n k f : Nat) : Option Desc :=
  let w := s.writeCh n
  if w.started then w.group.find? fun d => d.f == f && d.nibs.contains k && !d.spent k else none

/-- The descriptor of the current group that reads this codeword: its pass over the folio has begun at this nib, and the codeword is
one that it wants and has not had (R125, R127, R141, R145). -/
def readDescOf (s : State) (n k f idx : Nat) : Option Desc :=
  let w := s.writeCh n
  if w.started then
    w.group.find? fun d => d.f == f && d.nibs.contains k && !d.done && d.verdict.isNone && d.reading.testBit k && d.wanted.testBit idx
      && !(d.takenOf k).testBit idx
  else none

/-- Change the descriptor with queue index i in the current group. -/
def modDesc (s : State) (n i : Nat) (f : Desc → Desc) : State :=
  s.modWc n fun w => { w with group := w.group.map fun d => if d.idx = i then f d else d }

/-- The first codeword of a folio passes a nib: the descriptor that this arrival serves begins its reading pass there, unless it has yet
to burn, or HALT starts no new slot (R127, R151). -/
def beginPass (s : State) (n k f : Nat) : State :=
  match arrivalDesc s n k f with
  | some d =>
    if (d.burns && !d.burned.testBit k) || s.on (WC_CTRL_HALT n) then s
    else modDesc s n d.idx fun d => { d with reading := d.reading ||| 2 ^ k }
  | none => s

/-- A codeword has been framed for a descriptor. -/
def noteTaken (s : State) (n k : Nat) (d : Desc) (idx : Nat) : State :=
  modDesc s n d.idx fun d => { d with taken := d.taken.set k 0 (d.takenOf k ||| 2 ^ idx) }

/-- The place in the revolution at which a codeword is predicted, in ruling periods (R77). -/
def predicted (f idx : Nat) : Nat := f + 1000 + 4875 * idx

/-- Periods of a revolution of the RNI track: 1,024 M (R31, R32). -/
def periodsPerRev (s : State) (n : Nat) : Nat := 1024 * s.get (RUL_PERIODS_M_RNI n)

/-- A codeword's place in the count as it stands: the predicted one, or, where a slip was confirmed while its sync window, which opens
eight periods before it, was already open, that place as the old count had it (R78, R84). -/
def placeOfCw (s : State) (n f idx : Nat) : Nat :=
  let p := periodsPerRev s n
  let q := predicted f idx % p
  match (s.ruling n).slipFrom with
  | some (c, e) => if 1 ≤ (q + p - c) % p ∧ (q + p - c) % p ≤ 8 then (((q : Int) + e) % (p : Int)).toNat else q
  | none => q

/-- Periods that the count has passed a codeword's predicted start by; none while the angle index is not valid (R77, R84). -/
def sincePredicted (s : State) (n f idx : Nat) : Option Nat :=
  let p := periodsPerRev s n
  if s.on (RUL_STATUS_ANGLE_VALID n) && p != 0 then some (((s.ruling n).count + p - placeOfCw s n f idx) % p) else none

/-- The sample index at which the pen's count stood `periods` ago: the newest RNI sample is `sub` samples past the count (R42, R263). -/
def sampleAgo (s : State) (n periods : Nat) : Int := ((s.nib n 16).at_ : Int) - (s.ruling n).sub - 8 * periods

/-- The place in bins at which the window of a codeword now passing began (R42, R105). -/
def startPlace (s : State) (n f idx : Nat) : Nat :=
  binPlace s n - (sincePredicted s n f idx).getD 0 / max 1 (s.get (RUL_PERIODS_M_RNI n))

/-- The codeword of a pending revisit that this frame reads again: the read revolution of the step in force has begun, and the codeword
has not been read in it (R105, R106). -/
def freshOf (s : State) (n k f idx : Nat) : Option (Nat × Cw) :=
  let r := s.revisit n
  if r.running && decide (r.from_ ≤ startPlace s n f idx) then
    List.find? (fun (e : Nat × Cw) => e.2.pen == n && e.2.nib == k && e.2.f == f && e.2.idx == idx && e.2.phase == .pending && r.todo.contains e.1) s.ldpc.cws
  else none

/-- CW_BOUNDARY (R58, R62, R69, R72 to R77, R84, R127): the count passes the predicted start of codeword `idx` of the folio at F, on the
nib's data track. The nib selects its preset and applies a fetched one that is due; XTERM_EN and ITI_EN take effect; a new codeword is
under way, at the place the count now predicts; a blot in progress stays in the codeword it began in, to its end, and goes on into the
new one. DESIGN CHOICE (assumption 79): an entry that is due is applied before the selection is made, also where the selection then
names another entry or finds none VALID. DESIGN CHOICE (assumption 114): a codeword that begins before the nib has applied any preset,
its first entry still being fetched, is NO_PRESET. -/
def cwBoundary (n k f idx ns : Nat) (s : State) : State :=
  match sincePredicted s n f idx with
  | some d =>
    if nibOn s n k ∧ d < 4875 then
      let s := refreshZone s n
      let s := applyFetched s n k ns
      let s := selectPreset s n k
      let s := s.iff (idx == 0) fun s => beginPass s n k f
      let x := s.on (RC_EQ_CTRL_XTERM_EN n)
      let i := s.on (RC_EQ_CTRL_ITI_EN n)
      let start := sampleAgo s n d
      s.modNib n k fun b =>
        let b := match b.blotFrom with
          | some a => { (b.modNewest fun c => { c with spans := addSpan c.spans a 39000 }) with blotFrom := some 0 }
          | none => b
        { b with xterm := x, itiOn := i, cws := b.cws ++ [{ f := f, idx := idx, sample := start, noPreset := b.held.isNone }] }
    else s
  | none => s

def execCwBoundary (n k : Fin 16) (f : Nat) (idx : Fin 16) (nsSinceSelect : Nat) (s : State) : Res :=
  .next (cwBoundary n k f idx nsSinceSelect s)

/-- The tentative decisions of a nib on `len` samples from index `i`, the oldest first; 0 for one that is not there (R78). -/
def decisionsFrom (b : Nib) (i : Int) (len : Nat) : List Int :=
  let l := b.dec.map fun e => e.1
  (List.range len).map fun j => atPlace l ((b.at_ : Int) - b.lag - 1 - (i + j))

/-- Bits of a mark that decisions match, from the first on; +1 is a bit of 1 (R78, R79; DEDUCED, assumption 115). -/
def markScore (mark : List Bool) (l : List Int) : Nat := ((mark.zip l).filter fun e => e.2 == (if e.1 then 1 else -1)).length

/-- The scores of a mark at positions `-half` to `half` from sample index `i` (R78, R79). -/
def markScores (b : Nib) (mark : List Bool) (half : Nat) (i : Int) : List Nat :=
  let l := decisionsFrom b (i - half) (2 * half + mark.length)
  (List.range (2 * half + 1)).map fun p => markScore mark (l.drop p)

/-- SYNC_SEARCH (R78): the sync window of the newest codeword has closed, 64 bits either side of its predicted start. -/
def syncSearch (n k : Nat) (s : State) : State :=
  s.modNib n k fun b => b.modNewest fun c =>
    let scores := markScores b (markBits 48 syncMark) 64 c.sample
    { c with sync := findSync s n scores, syncScore := scores.foldl max 0 }

def execSyncSearch (n k : Fin 16) (s : State) : Res := .next (syncSearch n k s)

/-- RESYNC_SEARCH (R79): its resync window has passed, 8 bits either side of the place that the first half's start implies. -/
def resyncSearch (n k : Nat) (s : State) : State :=
  s.modNib n k fun b => b.modNewest fun c =>
    let scores := markScores b (markBits 24 resyncMark) 8 (c.sample + (c.sync.elim 0 (·.1)) + 19353)
    { c with resync := findResync s n scores, resyncScore := scores.foldl max 0 }

def execResyncSearch (n k : Fin 16) (s : State) : Res := .next (resyncSearch n k s)

/-- SLIP_TEST (R81): the seven-hypothesis test of the oldest codeword under way is done and its winner kept. The syndrome weights come
with the row: the code's matrix is not printed. -/
def slipTest (n k : Nat) (weights : List Nat) (s : State) : State :=
  let on := s.on (RC_CTRL_SLIP_TEST n)
  s.modNib n k fun b =>
    match b.cws with
    | c :: r => if slipDue on c.sync c.resync then { b with cws := { c with shift := some (bestShift weights) } :: r } else b
    | [] => b

def execSlipTest (n k : Fin 16) (weights : List Nat) (s : State) : Res := .next (slipTest n k weights s)

/-- PENn_RC_NIB_SYNC describes the codeword just framed. -/
def setNibSync (s : State) (n k : Nat) (c : NibCw) (f : Framing) : State :=
  s.set (RC_NIB_SYNC_SCORE n k) c.syncScore
    |>.set (RC_NIB_SYNC_RSCORE n k) c.resyncScore
    |>.set (RC_NIB_SYNC_RESYNC_D n k) (match c.resync with | some (d, _) => ofSigned 5 d | none => 16)
    |>.set (RC_NIB_SYNC_SHIFT n k) (if f.slipTest then ofSigned 4 (c.shift.getD 0) else 0)
    |>.set (RC_NIB_SYNC_FLYWHEEL n k) (if f.flywheel then 1 else 0)
    |>.set (RC_NIB_SYNC_SLIPTEST n k) (if f.slipTest then 1 else 0)
    |>.set (RC_NIB_SYNC_ANCHOR_RESYNC n k) (if f.anchor then 1 else 0)
    |>.set (RC_NIB_SYNC_NO_PRESET n k) (if c.noPreset then 1 else 0)

/-- The nib's counters and its consecutive-flywheel count: two in a row raise SLIP_SUSPECT to the ruling (R48, R83). -/
def countFraming (s : State) (n k : Nat) (f : Framing) : State :=
  let s := s.bump (RC_NIB_CNT_CW_CODEWORDS n k) 1
  let s := s.iff f.slipTest fun s => s.bump (RC_NIB_CNT_FLY_SLIPTESTS n k) 1
  let s := s.iff f.resyncMiss fun s => s.bump (RC_NIB_CNT_BLOT_RESYNC_MISS n k) 1
  if f.flywheel then
    let s := (s.bump (RC_NIB_CNT_FLY_FLYWHEELS n k) 1).ev (RC_EVENT_FLYWHEEL n)
    if s.get (RC_NIB_STATUS_FLY_RUN n k) = 0 then s.set (RC_NIB_STATUS_FLY_RUN n k) 1
    else ((s.set (RC_NIB_STATUS_FLY_RUN n k) 0).ev (RC_EVENT_SLIP_SUSPECT n)).ev (RUL_EVENT_SLIP_SUSPECT n)
  else s.set (RC_NIB_STATUS_FLY_RUN n k) 0

/-- A codeword for the pool as a nib has framed it, for no descriptor yet: `f` is how it was framed (R96, R97, R112). -/
def framedCw (s : State) (n k : Nat) (c : NibCw) (f : Framing) (llrs : List Int) : Cw :=
  { pen := n, nib := k, f := c.f, idx := c.idx, dest := 0
    track := s.get (RUL_BAND_TRACK n), layer := s.get (RUL_BAND_LAYER n), side := s.get (RUL_BAND_SIDE n)
    key := 0xFFFF, bypass := false, verify := false, desc := 0, status := f.status, spans := c.spans
    syncWord := liveWord s (RC_NIB_SYNC_SCORE n k).addr, sample := c.sample
    preset := ((s.nib n k).held).getD { bank := 0, layer := 0, zone := 0, gen := 0 }
    altValid := s.on (RC_NIB_STATUS_ALT_VALID n k), split := f.split, clean := framedClean c.sync c.resync, llrs := llrs }

/-- The same as a descriptor reads it: where its data goes, or lies, and the key it names (R110, R125, R140). -/
def Cw.forDesc (c : Cw) (d : Desc) : Cw :=
  { c with dest := d.data + 4096 * c.idx, key := d.key, bypass := d.bypass, verify := d.kind != 0, desc := d.idx, hdr := d.hdr, row := d.kind == 3 }

/-- A new identity for a codeword of the pool, and the codeword stored under it. -/
def newCw (s : State) (c : Cw) : Nat × State :=
  let id := s.ldpc.nextCw
  (id, (s.modLdpc fun l => { l with nextCw := l.nextCw + 1 }).putCw id c)

/-- The input buffer takes no codeword now: every slot is occupied, or the pool is not enabled (R89; assumption 13). -/
def inBufClosed (s : State) : Bool := decide (128 ≤ inBufCount s) || s.get LDPC_CTRL_ENABLE == 0

/-- A codeword finds the input buffer closed (R89). -/
def inBufOvf (s : State) : State := (s.ev LDPC_EVENT_INBUF_OVF).bump LDPC_CNT_OVF_INBUF_OVF 1

/-- A codeword reaches the decoder pool for the first time (R73, R89, R108, R140): NO_PRESET is poisoned at once; one that finds the
buffer closed is not decoded and goes to the revisit rungs as INBUF_OVF. A codeword of a verify fails it in either case. -/
def handOff (s : State) (c : Cw) (noPreset : Bool) : State :=
  if c.verify && (noPreset || inBufClosed s) then noteVerify (s.iff (!noPreset) inBufOvf) c false 0
  else if noPreset then
    let c := { c with inBuf := false }
    let (id, s) := newCw s c
    refreshLdpc (poisonCw s id c 3)
  else if inBufClosed s then
    let (id, s) := newCw (inBufOvf s) { c with inBuf := false, llrs := [], lost := true, status := c.status ||| 2 ^ 5 }
    refreshLdpc (toRevisit s id 0)
  else
    let (id, s) := newCw s c
    refreshLdpc (s.modLdpc fun l => { l with l0q := l.l0q ++ [id] })

/-- A pending codeword has had its read in the step in force (R105). -/
def readInStep (s : State) (n id : Nat) : State :=
  let r := s.revisit n
  s.setRevisit n { r with todo := r.todo.filter (· != id) }

/-- A fresh read of a pending codeword reaches the pool (R73, R105, R106, R108): decoded once under the step's rung with the new samples,
unless that rung was disabled as the step took force, the nib has no preset, or the buffer is closed. -/
def handOffFresh (s : State) (id : Nat) (old new : Cw) (noPreset : Bool) : State :=
  let s := readInStep s old.pen id
  if (s.revisit old.pen).decodes = false then s
  else if noPreset then refreshLdpc (poisonCw s id old 3)
  else if inBufClosed s then
    let s := (inBufOvf s).putCw id { old with status := old.status ||| 2 ^ 5 }
    refreshLdpc (toRevisit s id (stepPos old.rung old.sub))
  else
    let c : Cw := { old with
      status := old.status ||| new.status, spans := new.spans, syncWord := new.syncWord, sample := new.sample
      preset := new.preset, altValid := new.altValid, split := new.split, llrs := new.llrs, lost := false, phase := .fresh, inBuf := true }
    refreshLdpc (readyTask (enterRung s id c) id .retry)

/-- An armed capture takes the next codeword framed on its pen and nib (R114). -/
def takeCapture (s : State) (c : Cw) : State :=
  if s.on LDPC_CAPTURE_ARM && s.ldpc.capture.isNone && s.get LDPC_CAPTURE_PEN == c.pen && s.get LDPC_CAPTURE_NIB == c.nib then
    let w := windowsNow s c
    s.modLdpc fun l => { l with capture := some { c with windows := w } }
  else s

/-- The mean of e² over a codeword's samples, in 1/256 LSB², saturating (R85). DESIGN CHOICE (assumption 116): with no sample judged the
register keeps its value. -/
def setMse (s : State) (n k : Nat) (c : NibCw) : State :=
  if c.judged = 0 then s
  else
    let (m, s) := s.divFree c.err (2 ^ 114 * c.judged)
    s.set (RC_NIB_MSE_MSE n k) (min m.toNat (2 ^ 16 - 1))

/-- The LLRs of the oldest codeword as its framing gives them; NO_PRESET leaves with all LLRs zero (R63, R73, R80). -/
def framedLlrs (s : State) (n : Nat) (c : NibCw) (dm : List Int) : List Int :=
  if c.noPreset then []
  else
    let (a, b) := anchors (s.on (RC_CTRL_SLIP_TEST n)) c.sync c.resync (c.shift.getD 0)
    frameLlrs (s.get (RC_EQ_CTRL_LLR_SCALE n)) dm a b

/-- A codeword ends without a decode, for the descriptor that was to read it: abandoned (R54), or cut short (R57), which sends it to
the first rung that reads the disc again. A codeword of a verify fails it, and has its result entry too where it is abandoned (R112). -/
def endUnread (s : State) (n k : Nat) (c : NibCw) (incomplete : Bool) : State :=
  match readDescOf s n k c.f c.idx with
  | none => s
  | some d =>
    let f : Framing := ⟨false, false, false, false, false⟩
    let new := (framedCw s n k c f []).forDesc d
    let s := noteTaken s n k d c.idx
    if new.verify then (noteVerify s new false 0).iff (!incomplete) fun s => resultEntry s new 4
    else if incomplete then
      let (id, s) := newCw s { new with status := 2 ^ 4, inBuf := false, lost := true }
      toRevisit s id 0
    else abandonCw s new

/-- CW_FRAMED (R48, R54, R63, R64, R69, R80 to R83, R89, R105, R108, R114, R127): the oldest codeword under way at the nib is framed and
handed to the decoder pool with its LLRs and its erasure map. A nib that its pen leaves out in degraded mode has no samples, and its
codeword is INCOMPLETE (R57, R280). -/
def cwFramed (n k : Nat) (dm : List Int) (s : State) : State :=
  match (s.nib n k).cws with
  | [] => s
  | c :: rest =>
    if nibUnsent s n k then
      let s := (s.modNib n k fun b => { b with cws := rest }).ev (RC_EVENT_INCOMPLETE n)
      refreshLdpc (endUnread s n k c true)
    else if nibOn s n k then
      let c := match rest, (s.nib n k).blotFrom with
        | [], some a => { c with spans := addSpan c.spans a 39000 }
        | _, _ => c
      let f := framingOf (s.on (RC_CTRL_SLIP_TEST n)) c.sync c.resync
      let s := setNibSync (setMse s n k c) n k c f
      let s := countFraming s n k f
      let s := s.modNib n k fun b => { b with cws := rest, blotFrom := if rest.isEmpty then b.blotFrom.map fun _ => 39000 else b.blotFrom }
      let new := framedCw s n k c f (framedLlrs s n c dm)
      let s := takeCapture s new
      match freshOf s n k c.f c.idx, readDescOf s n k c.f c.idx with
      | some (id, old), _ => handOffFresh s id old new c.noPreset
      | none, some d => handOff (noteTaken s n k d c.idx) (new.forDesc d) c.noPreset
      | none, none => s
    else s

def execCwFramed (n k : Fin 16) (dm : List Int) (s : State) : Res := .next (cwFramed n k dm s)

/-- Every codeword in progress at a nib ends without a decode; one whose samples are all in is not cut short, and is framed yet (R57). -/
def endCws (s : State) (n k : Nat) (incomplete : Bool) : State :=
  let whole := fun (c : NibCw) => incomplete && decide (c.sample + 39000 ≤ ((s.nib n k).at_ : Int))
  let cws := (s.nib n k).cws.filter fun c => !whole c
  let s := s.modNib n k fun b => { b with cws := b.cws.filter whole }
  let s := s.iff (!cws.isEmpty) fun s => s.ev (if incomplete then RC_EVENT_INCOMPLETE n else RC_EVENT_ABANDONED n)
  s.each cws fun s c => endUnread s n k c incomplete

/-- The codewords in progress at a nib are abandoned (R54): not decoded, reported only. -/
def abandonNib (s : State) (n k : Nat) : State := endCws s n k false

/-- The codewords in progress of a pen are cut short (R57): handed on as INCOMPLETE with no LLRs. -/
def incompletePen (s : State) (n : Nat) : State :=
  refreshLdpc (s.each (List.range (dataNibs s n)) fun s k => endCws s n k true)

/-- A nib is enabled again: a blot on it and what its path held are gone, and where ENABLE has been 0 it has applied no preset (R54, R73). -/
def nibComes (s : State) (n k : Nat) (wasEnabled : Bool) : State :=
  let s := s.modNib n k fun b =>
    { b with held := if wasEnabled then b.held else none, fetching := none, fetched := none, ring := [], blotFrom := none, corr := [], lag := 0,
             dec := [], iti := [], early := 0, window := [], cws := [] }
  s.set (RC_NIB_STATUS_BLOT_ACTIVE n k) 0

/-- RC_CTRL_WRITE (R54, R107, R108): the control word is written; a nib that is no longer enabled abandons its codewords in
progress and has its pending codewords cut; with ENABLE written 1 again no nib has applied a preset since (R73). -/
def rcCtrlWrite (n value : Nat) (s : State) : State :=
  let nibs := if isN1 s n then value / 2 ^ 16 % 256 else value / 2 ^ 16
  let wanted := fun k => decide (k < dataNibs s n) && value.testBit 0 && nibs.testBit k
  let gone := (List.range 16).filter fun k => nibOn s n k && !wanted k
  let came := (List.range 16).filter fun k => !nibOn s n k && wanted k
  let was := s.on (RC_CTRL_ENABLE n)
  let s := s.each gone fun s k => abandonNib s n k
  let s := s.set (RC_CTRL_NIB_EN n) nibs
    |>.set (RC_CTRL_EDGE_SRC n) (value / 2 ^ 4)
    |>.set (RC_CTRL_XBLANK n) (value / 2 ^ 3)
    |>.set (RC_CTRL_SLIP_TEST n) (value / 2 ^ 2)
    |>.set (RC_CTRL_FREEZE_ALL n) (value / 2)
    |>.set (RC_CTRL_ENABLE n) value
  let s := s.iff (!gone.isEmpty) fun s => cutPending s n (fun c => gone.contains c.nib)
  let s := s.iff (!was && value.testBit 0) fun s => s.each (List.range 16) fun s k => s.modNib n k fun b => { b with held := none }
  let s := s.each came fun s k => nibComes s n k was
  refreshFrozenPen s n

end Sys2Proof.Machine
end

