-- ==== Sys2Proof/Machine/WriteChannel.lean ====
section
/-!
DEFINITION. The write channel: the folio queue, groups, what they burn, verify, the gate ledger and Colophons
(chapter 05: R116 to R152, R494; R202, R270 to R272, R413).
-/

namespace Sys2Proof.Machine

/-! ### Status codes of R128 -/

/-- Completed as asked. -/
abbrev stOk : Nat := 0
/-- A verify or read-back criterion failed. -/
abbrev stVerifyFail : Nat := 1
/-- The burn was stopped under R45. -/
abbrev stAborted : Nat := 2
/-- The nib's write FIFO ran empty during a burn. -/
abbrev stUnderrun : Nat := 3
/-- ENABLE cleared, claim lost or link lost during the descriptor. -/
abbrev stCut : Nat := 4
/-- Refused; nothing burned or read. -/
abbrev stDescErr : Nat := 5
/-- A COLOPHON refused under R142. -/
abbrev stGated : Nat := 6
/-- Fewer copies than COL_QUORUM passed read-back. -/
abbrev stColFail : Nat := 7
/-- A READ with codewords poisoned, or waiting at L4 or later. -/
abbrev stPartial : Nat := 8
/-- A WRITE burned under VMODE = 1. -/
abbrev stUnverified : Nat := 9

/-! ### Descriptors -/

/-- Address of the descriptor with queue index i (R125). -/
def descAddr (s : State) (n i : Nat) : Nat := s.get (FQ_BASE_BASE n) * 2 ^ 12 + 64 * (i % fqSize s n)

/-- The descriptor with queue index i, as it lies in the Inkwell (R125). -/
def readDescriptor (s : State) (n i : Nat) : Desc :=
  let a := descAddr s n i
  let b2 := (s.byte (a + 2)).toNat
  let b3 := (s.byte (a + 3)).toNat
  { idx := i, kind := (s.byte a).toNat, nib := (s.byte (a + 1)).toNat, layer := b2 % 16, side := b2 / 16 % 2
    bypass := b3.testBit 0, irq := b3.testBit 1, band := s.le (a + 4) 2, mask := s.le (a + 6) 2, f := s.le (a + 8) 4
    key := s.le (a + 12) 2, data := s.le (a + 16) 8 % 2 ^ 40, hdr := s.le (a + 24) 8 % 2 ^ 40 }

/-- The write power of nib k on a layer, for a band's zone: PW_IN + (PW_OUT - PW_IN) × z / 63, truncated toward zero (R135). -/
def writePower (s : State) (n k layer band : Nat) : Nat :=
  let z : Int := (min 63 (band * s.get (RC_ZONE_ZONE_MUL n) / 2 ^ 16) : Nat)
  let pin : Int := (s.get (WC_PWR_PW_IN n (16 * k + layer)) : Nat)
  let pout : Int := (s.get (WC_PWR_PW_OUT n (16 * k + layer)) : Nat)
  (pin + Int.tdiv ((pout - pin) * z) 63).toNat

/-- A band lies in a test zone (R117). -/
def inTestZone (s : State) (n band : Nat) : Bool :=
  decide (band ≤ s.get (WC_TZ_IN_LAST n)) || decide (s.get (WC_TZ_OUT_FIRST n) ≤ band)

/-- The key slot test of R413, with the bypass rule of R129. -/
def keyAllows (s : State) (d : Desc) : Bool :=
  if d.kind = 0 then
    if d.bypass then s.on SEC_AUTH_DIAG || s.on SEC_AUTH_OFFICER
    else d.key == 0xFFFF || (decide (d.key < 128) && s.on (SEC_SLOT_LOADED d.key) && s.on (SEC_SLOT_READ_OK d.key))
  else if d.kind = 1 then
    !d.bypass && decide (d.key < 128) && s.on (SEC_SLOT_LOADED d.key) && s.on (SEC_SLOT_WRITE_OK d.key)
  else true

/-- The validity rules of R126 (with R117, R129, R413), against the earlier descriptors of the group. -/
def descValid (s : State) (n : Nat) (earlier : List Desc) (d : Desc) : Bool :=
  decide (d.kind ≤ 5)
    && (d.f % 79000 == 0) && decide (d.f / 79000 < positions (s.get (RUL_PERIODS_M_RNI n)))
    && (d.nibs.all fun k => decide (k < dataNibs s n))
    && (d.kind == 1 || d.mask != 0)
    && (if d.kind = 1 ∨ d.kind = 3 ∨ d.kind = 4 then d.nibs.all fun k => writePower s n k d.layer d.band != 0 else true)
    && (earlier.all fun e => !(e.kind == 1 || e.kind == 3) || e.f != d.f || !(d.nibs.any e.nibs.contains))
    && (if d.kind = 1 ∨ d.kind = 3 then !inTestZone s n d.band else if d.kind = 4 then inTestZone s n d.band else true)
    && keyAllows s d

/-- The descriptor with queue index i in the current group. -/
def desc? (s : State) (n i : Nat) : Option Desc := (s.writeCh n).group.find? fun d => d.idx == i

/-- Settle what a descriptor will complete with, once. -/
def setVerdict (s : State) (n i v : Nat) : State :=
  modDesc s n i fun d => if d.verdict.isNone && !d.done then { d with verdict := some v, burning := 0 } else d

/-- PENn_WC_STATUS follows the group: nibs that burn, and descriptors not yet complete. -/
def refreshWc (s : State) (n : Nat) : State :=
  let w := s.writeCh n
  let writing := w.group.foldl (fun m d => m ||| d.burning) 0
  (s.set (WC_STATUS_WRITING n) writing).set (WC_STATUS_GROUP_LEFT n) (w.group.filter fun d => !d.done).length

/-- Key slot k is in use while a started descriptor that needs it has not completed (R413). -/
def refreshInUse (s : State) (k : Nat) : State :=
  let busy := (List.range 16).any fun n =>
    let w := s.writeCh n
    w.started && w.group.any fun d => !d.done && d.key == k && (d.kind == 1 || (d.kind == 0 && !d.bypass))
  if k < 128 then s.set (SEC_SLOT_IN_USE k) (if busy then 1 else 0) else s

/-! ### The gate ledger -/

/-- The original PFA of a descriptor: bytes 44 to 47 of its header block's codeword 0 when that marks a relocated copy, else
the slot's own PFA (R143). -/
def originalPfa (s : State) (d : Desc) : Nat × Bool :=
  if (s.byte (d.hdr + 3)).getLsbD 1 then (s.le (d.hdr + 44) 4, true)
  else (pfaOf d.side d.layer d.band d.nib (d.f / 79000), false)

/-- Present the number of ledger entries. -/
def refreshGate (s : State) (n : Nat) : State := s.set (WC_GATE_ENTRIES n) (s.writeCh n).ledger.length

/-- Add or mark an entry; a 513th sets GATE_OVF instead (R143). -/
def ledgerAdd (s : State) (n pfa : Nat) (relocate : Bool) : State :=
  let l := (s.writeCh n).ledger
  match l.find? pfa with
  | some r => s.modWc n fun w => { w with ledger := w.ledger.insert pfa (r || relocate) }
  | none =>
    if 512 ≤ l.length then (s.set (WC_GATE_GATE_OVF n) 1).ev (WC_EVENT_GATE_OVF n)
    else refreshGate (s.modWc n fun w => { w with ledger := w.ledger.insert pfa relocate }) n

/-- Remove an entry. -/
def ledgerRemove (s : State) (n pfa : Nat) : State :=
  refreshGate (s.modWc n fun w => { w with ledger := w.ledger.erase pfa }) n

/-- Empty the ledger. -/
def ledgerEmpty (s : State) (n : Nat) : State := refreshGate (s.modWc n fun w => { w with ledger := [] }) n

/-- The completions table of R143. -/
def ledgerUpdate (s : State) (n : Nat) (d : Desc) (v : Nat) : State :=
  let (pfa, copy) := originalPfa s d
  if d.kind = 3 then (if v = stOk ∨ v = stColFail then ledgerEmpty s n else s)
  else if d.kind = 1 ∨ d.kind = 2 then
    if v = stVerifyFail ∨ (d.kind = 1 ∧ (v = stAborted ∨ v = stUnderrun ∨ v = stCut)) then ledgerAdd s n pfa true
    else if v = stDescErr ∨ (d.kind = 2 ∧ v = stCut) then ledgerAdd s n pfa false
    else if v = stOk then
      if copy then ledgerRemove s n pfa
      else if (s.writeCh n).ledger.find? pfa = some false then ledgerRemove s n pfa
      else s
    else s
  else s

/-- A quire that needs all 480 places of the relocation list is closed early (R123). -/
abbrev maxRelocs : Nat := 480

/-- A relocated copy passes verify: as it is burned, or, in deferred mode, by the VERIFY that removes its entry of the gate ledger (R142,
R143). -/
def copyPassed (s : State) (n : Nat) (d : Desc) (v : Nat) : Bool :=
  let (pfa, copy) := originalPfa s d
  copy && v == stOk && (d.kind == 1 || (d.kind == 2 && ((s.writeCh n).ledger.find? pfa).isSome))

/-- A relocated copy that has passed takes a place in the relocation list of its quire, which its header names (R120, R123). DEDUCED
(assumption 106): commands name a quire by its sequence number. -/
def countRelocation (s : State) (d : Desc) (passed : Bool) : State :=
  let q := s.le (d.hdr + 24) 8
  if passed then
    match s.ledger.quires.find? q with
    | some x =>
      { s with ledger := { s.ledger with quires := s.ledger.quires.insert q { x with relocs := x.relocs + 1, isOpen := x.isOpen && decide (x.relocs + 1 < maxRelocs) } } }
    | none => s
  else s

/-- Firmware closes a quire early when it reaches band 3,991 (R119). -/
def closeAtRim (s : State) (d : Desc) : State :=
  let q := s.le (d.hdr + 24) 8
  if d.kind = 1 ∧ 3991 ≤ d.band then
    match s.ledger.quires.find? q with
    | some x => { s with ledger := { s.ledger with quires := s.ledger.quires.insert q { x with isOpen := false } } }
    | none => s
  else s

/-! ### Completing -/

/-- A descriptor completes with its verdict: bytes 48 to 63 are written, the ledger is updated, its events are set
(R125, R128, R143). -/
def completeDesc (s : State) (n i : Nat) : State :=
  match desc? s n i with
  | none => s
  | some d =>
    match d.verdict with
    | none => s
    | some v =>
      if d.done then s
      else
        let s := s.inkWrite (16 + n) (descAddr s n i + 48)
          (leBytes 2 v ++ leBytes 2 d.pass ++ leBytes 2 d.maxIter ++ leBytes 2 0 ++ leBytes 8 s.now) false
        let s := modDesc s n i fun d => { d with done := true, burning := 0 }
        let s := countRelocation (ledgerUpdate s n d v) d (copyPassed s n d v)
        let s := s.iff d.irq fun s => s.ev (WC_EVENT_DESC_DONE n)
        let s := s.iff (v == stCut) fun s => s.ev (WC_EVENT_CUT n)
        let s := s.iff (v == stDescErr) fun s => s.ev (WC_EVENT_DESC_ERR n)
        let s := s.iff (v == stGated) fun s => s.ev (WC_EVENT_GATED n)
        let s := s.iff (d.kind == 3 && v == stOk) fun s => s.ev (WC_EVENT_COL_PASS n)
        let s := s.iff (v == stColFail) fun s => s.ev (WC_EVENT_COL_FAIL n)
        let s := s.iff (d.kind == 4) fun s => s.ev (WC_EVENT_CAL_DONE n)
        refreshInUse (refreshWc s n) d.key

/-- DESC_COMPLETE (R125, R128, R143). -/
def execDescComplete (n : Fin 16) (desc : Nat) (s : State) : Res := .next (completeDesc s n desc)

/-- Every uncompleted descriptor of the group completes CUT; burns in progress, one on each nib, count as ended (R151, R152). -/
def cutGroup (s : State) (n : Nat) : State :=
  let s := s.each (s.writeCh n).group fun s d =>
    if d.done then s
    else
      let s := s.bump (WC_CNT_FAIL_ABORTED n) (popcount 16 d.burning)
      completeDesc (modDesc s n d.idx fun d => { d with verdict := some stCut, burning := 0 }) n d.idx
  refreshWc s n

/-- The ABORT packet to a pen, with the nibs it names (R271). -/
def sendAbort (s : State) (n mask : Nat) : State := s.modLink n fun l => { l with abort := mask, slots := l.slots.filter fun e => !mask.testBit e.1 }

/-- The nibs of a pen that burn now. -/
def burningNibs (s : State) (n : Nat) : Nat := (s.writeCh n).group.foldl (fun m d => m ||| d.burning) 0

/-- The laser stops and the group is cut: ENABLE has been cleared, or the claim on the pen has been lost (R128, R151, R271). -/
def stopGroup (s : State) (n : Nat) : State :=
  let mask := burningNibs s n
  cutGroup (s.iff (mask != 0) fun s => sendAbort s n mask) n

/-- Every burn in progress of a pen is stopped (R45, R202, R271): ABORT to the pen, WRITE_ABORT, descriptors to complete ABORTED. -/
def abortBurns (s : State) (n : Nat) : State :=
  let mask := burningNibs s n
  if mask = 0 then s
  else
    let s := s.each (s.writeCh n).group fun s d =>
      if d.burning = 0 then s
      else setVerdict (s.bump (WC_CNT_FAIL_ABORTED n) (popcount 16 d.burning)) n d.idx stAborted
    refreshWc (((sendAbort s n mask).ev (WC_EVENT_ABORT n)).ev (RUL_EVENT_WRITE_ABORT n)) n

/-! ### The rows -/

/-- FQ_HEAD_WRITE (R127, R151): firmware advances HEAD; the new descriptors wait for the next group. -/
def fqHeadWrite (n value : Nat) (s : State) : State := s.set (FQ_HEAD_HEAD n) value

def execFqHeadWrite (n : Fin 16) (value : Word) (s : State) : Res := .next (s.clocked (dataIsland n) (fqHeadWrite n value.toNat))

/-- The descriptors of the group at TAIL: while side, layer and band agree, to HEAD or GROUP_MAX; a COLOPHON, CAL or BLANK
stands alone (R127). `left` is how many more may join. -/
def collect (s : State) (n head : Nat) (first : Desc) : Nat → Nat → List Desc
  | 0, _ => []
  | left + 1, i =>
    if i % 2 ^ 32 = head then []
    else
      let d := readDescriptor s n (i % 2 ^ 32)
      if d.solo ∨ d.side ≠ first.side ∨ d.layer ≠ first.layer ∨ d.band ≠ first.band then []
      else d :: collect s n head first left (i + 1)

/-- Refuse the invalid descriptors of a formed group: their verdict is DESC_ERR (R126). -/
def judge (s : State) (n : Nat) : List Desc → List Desc → List Desc
  | _, [] => []
  | earlier, d :: r =>
    (if descValid s n earlier d then d else { d with verdict := some stDescErr }) :: judge s n (earlier ++ [d]) r

/-- GROUP_FORM (R126, R127, R142): with the queue running, the group at TAIL is formed; a COLOPHON waits at its gate. -/
def groupForm (n : Nat) (s : State) : State :=
  let tail := s.get (FQ_TAIL_TAIL n)
  let head := s.get (FQ_HEAD_HEAD n)
  if s.on (WC_CTRL_ENABLE n) ∧ (s.writeCh n).group.isEmpty ∧ head ≠ tail then
    let first := readDescriptor s n tail
    let rest := if first.solo then [] else collect s n head first (max 1 (s.get (WC_CTRL_GROUP_MAX n)) - 1) (tail + 1)
    let s := s.each (first :: rest) fun s d => closeAtRim (s.reads (16 + n) (descAddr s n d.idx)) d
    let s := s.modWc n fun w => { w with group := judge s n [] (first :: rest), started := false }
    refreshWc (s.set (WC_STATUS_STATE n) (if first.kind = 3 then 4 else 1)) n
  else s

def execGroupForm (n : Fin 16) (s : State) : Res := .next (groupForm n s)

/-- The ruling stands on the group's band, layer and side (R127). -/
def onGroupBand (s : State) (n : Nat) : Bool :=
  match (s.writeCh n).group with
  | d :: _ => s.get (RUL_BAND_TRACK n) == d.band && s.get (RUL_BAND_LAYER n) == d.layer && s.get (RUL_BAND_SIDE n) == d.side
  | [] => false

/-- A descriptor that burns with its header block and its user data as requester 16 + n reads them and the XTS engine passes them: a
WRITE's 64 KiB, a Colophon's record, or calibration data (R120, R121, R129, R137). DESIGN CHOICE (assumption 85): data that comes
marked poison is burned as it comes. -/
def Desc.load (s : State) (d : Desc) : Desc :=
  if d.burns && d.verdict.isNone then
    let headers := (List.range 16).map fun i => s.bytesAt (d.hdr + 64 * i) 64
    let user := fun (i : Nat) => if d.kind = 4 then calUser else s.bytesAt (d.data + 4096 * i) 4096
    { d with headers := headers, users := (List.range 16).map fun i => encrypted (slotKey s d.key) (user i) (headers.getD i []) }
  else d

/-- GROUP_START (R120, R121, R127, R129, R130, R413): on its band with the ruling LOCKED or SINGLE the group starts: what it burns is
read, and the key slots it reads are in use. The key and the authority that a descriptor needs are judged again as it starts (R409,
R413). -/
def groupStart (n : Nat) (s : State) : State :=
  let st := s.get (RUL_STATUS_STATE n)
  if s.on (WC_CTRL_ENABLE n) ∧ (s.writeCh n).started = false ∧ onGroupBand s n ∧ (st = 4 ∨ st = 5) ∧ s.get (WC_STATUS_STATE n) = 1 then
    let s := s.modWc n fun w => { w with group := w.group.map fun d => if keyAllows s d || d.verdict.isSome then d else { d with verdict := some stDescErr } }
    let s := s.each (s.writeCh n).group fun s d =>
      s.iff (d.burns && d.verdict.isNone) fun s => (s.reads (16 + n) d.hdr).iff (d.kind != 4) fun s => s.reads (16 + n) d.data
    let s := s.modWc n fun w => { w with group := w.group.map (Desc.load s), started := true }
    let s := s.set (WC_STATUS_STATE n) (if s.on (WC_CTRL_HALT n) then 3 else 2)
    s.each (s.writeCh n).group fun s d => refreshInUse s d.key
  else s

def execGroupStart (n : Fin 16) (s : State) : Res := .next (groupStart n s)

/-- Focus and tracking are LOCKED, with no layer or track jump in progress (R202). -/
def servoLocked (s : State) (n : Nat) : Bool := s.get (SV_STATUS_FOCUS_STATE n) == 4 && s.get (SV_STATUS_TRACK_STATE n) == 3

/-- The descriptor that a slot's arrival burns: the one that the arrival serves, if it burns and has yet to (R127). -/
def slotDesc (s : State) (n k f : Nat) : Option Desc :=
  (arrivalDesc s n k f).filter fun d => d.burns && !d.burned.testBit k && !d.burning.testBit k

/-- Bytes a write FIFO holds (R132). -/
abbrev fifoSize : Nat := 32768

/-- The conditions under which a slot's burn may begin (R44, R132, R136, R151, R202), with the pen claimed (R383). -/
def mayBurn (s : State) (n fifo : Nat) : Bool :=
  (s.writeCh n).started && !s.on (WC_CTRL_HALT n) && s.on (WC_CTRL_ENABLE n) && decide (16384 ≤ fifo)
    && s.on (RUL_STATUS_WRITE_OK n) && !s.on (WC_STATUS_WRITE_HOLD n) && servoLocked s n && claims s n

/-- The next SEQ of a downlink packet of a type and source (R262, R268). -/
def nextSeq (s : State) (n key : Nat) : Nat :=
  match (s.link n).dnSeqs.find? key with
  | some q => (q + 1) % 256
  | none => 0

/-- A downlink packet of that type and source is sent. -/
def countDn (s : State) (n key : Nat) : State := s.modLink n fun l => { l with dnSeqs := l.dnSeqs.insert key (nextSeq s n key) }

/-- No SLOT is sent more than 2^30 samples ahead of the present index, modulo 2^32; one whose start has passed is answered LATE (R264,
R270). -/
def slotInReach (s : State) (n sidx : Nat) : Bool :=
  let d := (sidx % 2 ^ 32 + 2 ^ 32 - (s.link n).sidx % 2 ^ 32) % 2 ^ 32
  decide (d ≤ 2 ^ 30) || decide (2 ^ 31 ≤ d)

/-- SLOT_ARRIVAL (R121, R127, R131, R132, R134 to R137, R202, R264, R268, R270): the slot's preamble starts at the nib, whose FIFO holds
`fifo` bytes by now; its burn begins with the power and table in force, scheduled by a SLOT packet at `sidx`, or the slot is
skipped unburned. -/
def slotArrival (n k f fifo sidx : Nat) (s : State) : State :=
  let s := s.modWc n fun w => { w with fifo := w.fifo.set k 0 (min fifoSize fifo) }
  match slotDesc s n k f with
  | some d =>
    if mayBurn s n fifo && slotInReach s n sidx then
      let p := writePower s n k d.layer d.band
      let t := s.get (WC_WS_SEL_SEL n) / 4 ^ d.layer % 4
      let steps := if d.kind = 4 then (List.range 16).map (calPower p) else []
      let s := modDesc s n d.idx fun d => { d with burning := d.burning ||| 2 ^ k }
      let s := s.modWc n fun w => { w with power := w.power.set k 0 p, table := w.table.set k 0 t, sent := w.sent.set k 0 0 }
      let q := nextSeq s n (32 + k)
      let s := (countDn s n (32 + k)).modLink n fun l =>
        { l with slots := l.slots.insert k { start := sidx % 2 ^ 32, bits := 632000, power := p, table := t, steps := steps, seq := q } }
      refreshWc s n
    else s
  | none => s

def execSlotArrival (n k : Fin 16) (f fifoBytes sidx : Nat) (s : State) : Res := .next (slotArrival n k f fifoBytes sidx s)

/-- The descriptor whose slot nib k burns now. -/
def burningDesc (s : State) (n k : Nat) : Option Desc := (s.writeCh n).group.find? fun d => d.burning.testBit k

/-- The 632,000 channel bits that a descriptor burns on nib k: its codewords with their headers as burned there (R120, R130, R131). -/
def Desc.channelBits (d : Desc) (k : Nat) : List Bool :=
  folioBits d.users (((List.range 16).zip d.headers).map fun e => burnedHeader e.2 e.1 (pfaOf d.side d.layer d.band k (d.f / 79000)))

/-- The next 1,024 channel bits of a nib's folio that are not yet sent, as a number, the first-burned bit highest; past the folio's last
bit 0 (R268; assumption 86). -/
def nextBits (d : Desc) (k sent : Nat) : Nat :=
  let l := ((d.channelBits k).drop sent).take 1024
  (l ++ List.replicate (1024 - l.length) false).foldl (fun v b => 2 * v + (if b then 1 else 0)) 0

/-- BURN_DONE (R131, R141): the slot's burn completes. VMODE as it stands now says what follows (DESIGN CHOICE, assumption 87): a WRITE completes
UNVERIFIED in deferred mode, and is read back in its group in interleaved mode, whatever VMODE reads by then. -/
def burnDone (n k : Nat) (s : State) : State :=
  match burningDesc s n k with
  | none => s
  | some d =>
    let now := !s.on (WC_CTRL_VMODE n)
    let s := modDesc s n d.idx fun d => { d with burning := d.burning ^^^ 2 ^ k, burned := d.burned ||| 2 ^ k, readBack := now }
    let s := s.modLink n fun l => { l with slots := l.slots.erase k }
    let s := s.bump (WC_CNT_FOLIO_BURNED n) 1
    let s := s.iff (d.kind == 1 && s.on (WC_CTRL_VMODE n)) fun s => setVerdict s n d.idx stUnverified
    refreshWc s n

def execBurnDone (n k : Fin 16) (s : State) : Res := .next (burnDone n k s)

/-- The burns of a descriptor end UNDERRUN, one counted on each nib that burned (R132, R152, R271). -/
def underrun (s : State) (n : Nat) (d : Desc) : State :=
  (((setVerdict s n d.idx stUnderrun).bump (WC_CNT_FAIL_ABORTED n) (popcount 16 d.burning))).ev (WC_EVENT_UNDERRUN n)

/-- A nib's FIFO is empty with bits of its folio still to be sent: it holds less than the next WRITE packet carries (R132, R268). -/
def fifoDry (s : State) (n k : Nat) : Bool :=
  let w := s.writeCh n
  decide (w.sent.getD k 0 < 632000) && decide (8 * w.fifo.getD k 0 < min 1024 (632000 - w.sent.getD k 0))

/-- WRITE_UNDERRUN (R132, R271): an empty FIFO during a burn stops the laser; the descriptor completes UNDERRUN. -/
def writeUnderrun (n k : Nat) (s : State) : State :=
  match burningDesc s n k with
  | none => s
  | some d =>
    if fifoDry s n k then
      let s := s.modWc n fun w => { w with fifo := w.fifo.set k 0 0 }
      refreshWc (sendAbort (underrun s n d) n d.burning) n
    else s

def execWriteUnderrun (n k : Fin 16) (s : State) : Res := .next (writeUnderrun n k s)

/-- A descriptor's slot is read back in its group, or is one to verify (R140, R141). -/
def Desc.verifies (d : Desc) : Bool := d.kind == 2 || (d.kind == 1 && d.burned.testBit d.nib && d.readBack)

/-- Codewords of a descriptor that the pool has judged under R140 at nib k, and those that passed. -/
def Desc.judgedAt (d : Desc) (k : Nat) : Nat := d.judged.getD k 0

/-- See `Desc.judgedAt`. -/
def Desc.goodAt (d : Desc) (k : Nat) : Nat := d.good.getD k 0

/-- VERIFY_READ (R140, R141, R494): every codeword asked for of a slot has been judged by the pool: OK when each one passes. -/
def verifyRead (n i : Nat) (s : State) : State :=
  match desc? s n i with
  | none => s
  | some d =>
    if (s.writeCh n).started ∧ d.verdict.isNone ∧ d.done = false ∧ d.verifies ∧ d.judgedAt d.nib &&& d.wanted = d.wanted then
      let pass := d.goodAt d.nib &&& d.wanted
      let s := modDesc s n i fun d => { d with pass := pass }
      if pass = d.wanted then setVerdict s n i stOk
      else ((setVerdict s n i stVerifyFail).ev (WC_EVENT_VERIFY_FAIL n)).bump (WC_CNT_FAIL_VERIFY_FAIL n) 1
    else s

def execVerifyRead (n : Fin 16) (desc : Nat) (s : State) : Res := .next (verifyRead n desc s)

/-- GROUP_END (R127): all descriptors have completed; TAIL advances past the whole group. -/
def groupEnd (n : Nat) (s : State) : State :=
  let g := (s.writeCh n).group
  if g.isEmpty = false ∧ (g.all (·.done)) then
    let s := s.wrap (FQ_TAIL_TAIL n) g.length
    let s := s.modWc n fun w => { w with group := [], started := false }
    refreshWc ((s.ev (WC_EVENT_GROUP_DONE n)).set (WC_STATUS_STATE n) 0) n
  else s

def execGroupEnd (n : Fin 16) (s : State) : Res := .next (groupEnd n s)

/-- COLOPHON_GATE (R142): every earlier descriptor has completed; the COLOPHON is released, or is to complete GATED when the
ledger holds an entry or has overflowed. -/
def colophonGate (n : Nat) (s : State) : State :=
  if s.get (WC_STATUS_STATE n) = 4 then
    match (s.writeCh n).group with
    | d :: _ =>
      if (s.writeCh n).ledger.isEmpty ∧ s.get (WC_GATE_GATE_OVF n) = 0 then s.set (WC_STATUS_STATE n) 1
      else setVerdict s n d.idx stGated
    | [] => s
  else s

def execColophonGate (n : Fin 16) (s : State) : Res := .next (colophonGate n s)

/-- The copies of a Colophon row that pass: all 16 codewords pass R140, each with the record's data (R145). -/
def Desc.copies (d : Desc) : Nat :=
  (List.range 16).foldl (fun m k => if d.mask.testBit k && d.goodAt k == 0xFFFF then m ||| 2 ^ k else m) 0

/-- COLOPHON_READBACK (R140, R145, R377, R494): every copy has been read back: OK when at least COL_QUORUM copies pass, COL_FAIL
otherwise. -/
def colophonReadback (n : Nat) (s : State) : State :=
  match (s.writeCh n).group with
  | d :: _ =>
    if d.kind = 3 ∧ d.verdict.isNone ∧ d.done = false ∧ (s.writeCh n).started ∧ d.burned = d.mask ∧
        (d.nibs.all fun k => d.judgedAt k == 0xFFFF) then
      let pass := d.copies
      let s := modDesc s n d.idx fun d => { d with pass := pass }
      let s := s.bump (WC_CNT_FAIL_VERIFY_FAIL n) (popcount 16 (d.mask ^^^ pass))
      setVerdict s n d.idx (if max 1 (s.get (WC_CTRL_COL_QUORUM n)) ≤ popcount 16 pass then stOk else stColFail)
    else s
  | [] => s

def execColophonReadback (n : Fin 16) (s : State) : Res := .next (colophonReadback n s)

/-- Beta of a codeword in 1/1,024, (A + B) / (A − B) (R137); a free value where A and B are equal, since the manual gives none then. -/
def calBeta (s : State) (c : CalCw) : Int × State :=
  let d := c.marks - c.spaces
  s.divFree (if d < 0 then -(1024 * (c.marks + c.spaces)) else 1024 * (c.marks + c.spaces)) d.natAbs

/-- The betas of a nib's codewords. -/
def calBetas (s : State) (l : List CalCw) : List (CalCw × Int) × State :=
  l.foldl (fun a c =>
    let (b, s) := calBeta a.2 c
    (a.1 ++ [(c, b)], s)) ([], s)

/-- An exact quotient, or one of the two integers next to it: the manual gives no rounding. -/
def quotFree (s : State) (a b : Int) : Int × State :=
  if b = 0 then (0, s)
  else if a % b = 0 then (a / b, s)
  else
    let (v, s) := s.fresh
    (a / b + (v % 2 : Nat), s)

/-- The first adjacent pair of steps, both with sync found, whose beta values straddle the target (R139). -/
def straddle (target : Int) : Nat → List (CalCw × Int) → Option (Nat × Int × Int)
  | _, [] => none
  | _, [_] => none
  | i, a :: b :: r =>
    if a.1.sync && b.1.sync && ((decide (a.2 ≤ target) && decide (target ≤ b.2)) || (decide (b.2 ≤ target) && decide (target ≤ a.2)))
    then some (i, a.2, b.2) else straddle target (i + 1) (b :: r)

/-- Proposed power at BETA_TARGET: step i is i/40 + 0.800 of the nib's power (R137, R139). -/
def proposed (s : State) (power : Nat) (target : Int) (cws : List (CalCw × Int)) : Option Int × State :=
  match straddle target 0 cws with
  | none => (none, s)
  | some (i, b0, b1) =>
    let (num, den) : Int × Int := if b1 = b0 then ((i : Int) + 32, 40) else (((i : Int) + 32) * (b1 - b0) + (target - b0), 40 * (b1 - b0))
    let (q, s) := quotFree s (if den < 0 then -((power : Int) * num) else (power : Int) * num) (if den < 0 then -den else den)
    (some q, s)

/-- Iterations of a CAL decode: its cap is 60 (R137). -/
def calIters (c : CalCw) : Nat := min 60 c.iters

/-- The 8 bytes of one codeword of a CAL result (R138). -/
def calBytes (c : CalCw) (beta : Int) : List (BitVec 8) :=
  leBytes 2 (ofSigned 16 beta) ++ leBytes 2 (min c.mse 65535) ++ leBytes 2 c.weight ++ leBytes 1 (calIters c)
    ++ leBytes 1 ((if c.sync then 1 else 0) + (if c.decoded then 2 else 0))

/-- CAL_READBACK (R137 to R139): the measures of each nib in the mask are written with the proposed power. -/
def calReadback (n : Nat) (nibs : List (List CalCw)) (s : State) : State :=
  match (s.writeCh n).group with
  | d :: _ =>
    if d.kind = 4 ∧ d.verdict.isNone ∧ d.done = false ∧ (s.writeCh n).started ∧ d.burned = d.mask then
      let target := toSigned 16 (s.get (WC_CAL_BETA_TARGET n))
      let s := s.inkWriteZ (16 + n) d.data 4096 [] false
      let s := s.each ((List.range 16).zip nibs) fun s e =>
        if d.mask.testBit e.1 then
          let (l, s) := calBetas s (e.2.take 16)
          let (p, s) := proposed s ((s.writeCh n).power.getD e.1 0) target l
          let s := s.inkWrite (16 + n) (d.data + 256 * e.1)
            ((l.flatMap fun x => calBytes x.1 x.2) ++ List.replicate (128 - 8 * (min 16 e.2.length)) 0
              ++ leBytes 2 (p.getD 0).toNat ++ leBytes 1 (if p.isSome then 1 else 0)) false
          modDesc s n d.idx fun d => { d with pass := if p.isSome then d.pass ||| 2 ^ e.1 else d.pass, maxIter := e.2.foldl (fun m c => max m (calIters c)) d.maxIter }
        else s
      setVerdict s n d.idx stOk
    else s
  | [] => s

def execCalReadback (n : Fin 16) (nibs : List (List CalCw)) (s : State) : Res := .next (calReadback n nibs s)

/-- BLANK_CHECK (R150, R494): a nib is marked, with its pass-mask bit set, if some window of its samples has an AC RMS above
BLANK_LEVEL; element k of the list is the largest of nib k. -/
def blankCheck (n : Nat) (rms : List Nat) (s : State) : State :=
  match (s.writeCh n).group with
  | d :: _ =>
    if d.kind = 5 ∧ d.verdict.isNone ∧ d.done = false ∧ (s.writeCh n).started then
      let marked := ((List.range 16).zip rms).foldl (fun m e => if d.mask.testBit e.1 && decide (s.get (WC_CAL_BLANK_LEVEL n) < e.2) then m ||| 2 ^ e.1 else m) 0
      setVerdict (modDesc s n d.idx fun d => { d with pass := marked }) n d.idx stOk
    else s
  | [] => s

def execBlankCheck (n : Fin 16) (rms : List Nat) (s : State) : Res := .next (blankCheck n rms s)

/-- READ_DESC (R128): each codeword in the mask has been delivered, poisoned or handed to the revisit rungs. -/
def readDescDone (n i : Nat) (s : State) : State :=
  match desc? s n i with
  | some d =>
    if d.kind = 0 ∧ (s.writeCh n).started ∧ d.verdict.isNone ∧ d.done = false ∧ (d.pass ||| d.bad) &&& d.mask = d.mask then
      setVerdict s n i (if d.bad = 0 then stOk else stPartial)
    else s
  | none => s

def execReadDesc (n : Fin 16) (desc : Nat) (s : State) : Res := .next (readDescDone n desc s)

/-- A strategy-table load ends (R133, R272). -/
def wsLoadEnd (n : Nat) (ok : Bool) (s : State) : State :=
  (((s.set (WC_WS_LOAD_START n) 0).set (WC_WS_LOAD_DONE n) 1).set (WC_WS_LOAD_OK n) (if ok then 1 else 0)).ev (WC_EVENT_WS_LOAD_DONE n)

/-- A strategy table goes to the pen as eight TABLE packets in segment order, each of ten entries, the lowest first (R133, R268). -/
def sendTable (s : State) (n k t : Nat) (bytes : List (BitVec 8)) : State :=
  let s := s.modLink n fun l => { l with tableSent := some (k, t), tableSegs := [] }
  s.each (List.range 8) fun s g =>
    let q := nextSeq s n (112 + k)
    (countDn s n (112 + k)).modLink n fun l =>
      { l with tableSegs := l.tableSegs ++ [(q, g, (List.range 10).map fun i => leVal ((bytes.drop (40 * g + 4 * i)).take 4))] }

/-- WS_LOAD (R133, R134, R268): a write of PENn_WC_WS_LOAD; START reads the table and sends its segments to the pen, and is refused if
the table is selected for the layer of a group that has started. -/
def wsLoad (n value : Nat) (s : State) : State :=
  let s := (s.set (WC_WS_LOAD_NIB n) (value / 16)).set (WC_WS_LOAD_TABLE n) value
  if value.testBit 30 then
    let k := s.get (WC_WS_LOAD_NIB n)
    let t := s.get (WC_WS_LOAD_TABLE n)
    let w := s.writeCh n
    if w.started && w.group.any fun d => s.get (WC_WS_SEL_SEL n) / 4 ^ d.layer % 4 == t then
      wsLoadEnd n false (s.set (WC_WS_LOAD_DONE n) 0)
    else
      let a := s.get (WC_WS_BASE_BASE n) * 2 ^ 12 + 512 * (4 * k + t)
      let s := s.reads (16 + n) a
      let s := ((s.set (WC_WS_LOAD_START n) 1).set (WC_WS_LOAD_DONE n) 0).modWc n fun w => { w with loading := some (k, t, s.bytesAt a 320) }
      s.iff (claims s n) fun s => sendTable s n k t (s.bytesAt a 320)
  else s

def execWsLoad (n : Fin 16) (value : Word) (s : State) : Res := .next (s.clocked (dataIsland n) (wsLoad n value.toNat))

/-- WS_LOAD_DONE (R133, R272): the pen's ACK, or 100 µs without one, completes the load; an acknowledged table is held by the pen. -/
def wsLoadDone (n : Nat) (ack : Bool) (s : State) : State :=
  match (s.writeCh n).loading with
  | none => s
  | some (k, t, bytes) =>
    let s := s.modWc n fun w => { w with loading := none, tables := if ack then w.tables.insert (4 * k + t) bytes else w.tables }
    wsLoadEnd n ack s

def execWsLoadDone (n : Fin 16) (ack : Bool) (s : State) : Res := .next (wsLoadDone n ack s)

/-- GATE_CLR (R143): the ledger is emptied and GATE_OVF cleared. -/
def gateClr (n : Nat) (s : State) : State := (ledgerEmpty s n).set (WC_GATE_GATE_OVF n) 0

def execGateClr (n : Fin 16) (s : State) : Res := .next (s.clocked (dataIsland n) (gateClr n))

/-- HALT_WRITE (R151): set, no new slot starts; cleared, the group resumes, or is cut if the band has been left by then. -/
def haltWrite (n : Nat) (set : Bool) (s : State) : State :=
  let w := s.writeCh n
  if set then (s.set (WC_CTRL_HALT n) 1).iff w.started fun s => s.set (WC_STATUS_STATE n) 3
  else
    let s := s.set (WC_CTRL_HALT n) 0
    if w.started then (if onGroupBand s n then s.set (WC_STATUS_STATE n) 2 else cutGroup (s.set (WC_STATUS_STATE n) 2) n) else s

def execHaltWrite (n : Fin 16) (set : Bool) (s : State) : Res := .next (s.clocked (dataIsland n) (haltWrite n set))

/-- WC_DISABLE (R143, R151): the laser stops, every uncompleted descriptor of the group completes CUT, the ledger is emptied. -/
def wcDisable (n : Nat) (s : State) : State := ledgerEmpty (stopGroup (s.set (WC_CTRL_ENABLE n) 0) n) n

def execWcDisable (n : Fin 16) (s : State) : Res := .next (s.clocked (dataIsland n) (wcDisable n))

/-- WRITE_HOLD_RISE (R136): the pen reports WRITE_HOLD; no new slot burn starts until it clears. -/
def writeHoldRise (n : Nat) (s : State) : State := (s.set (WC_STATUS_WRITE_HOLD n) 1).ev (WC_EVENT_WRITE_HOLD n)

def execWriteHoldRise (n : Fin 16) (s : State) : Res := .next (writeHoldRise n s)

end Sys2Proof.Machine
end

