-- ==== Sys2Proof/Machine/Ruling.lean ====
section
/-!
DEFINITION. The ruling loop of each pen: acquisition, lock states, address words, slips and the angle index
(chapter 02: R28 to R52, R493).
-/

namespace Sys2Proof.Machine

/-! ### State codes of R35 -/

/-- OFF. -/
abbrev rulOff : Nat := 0
/-- FREQ. -/
abbrev rulFreq : Nat := 1
/-- PHASE. -/
abbrev rulPhase : Nat := 2
/-- ADDR. -/
abbrev rulAddr : Nat := 3
/-- LOCKED. -/
abbrev rulLocked : Nat := 4
/-- SINGLE. -/
abbrev rulSingle : Nat := 5
/-- HOLDOVER. -/
abbrev rulHoldover : Nat := 6
/-- JUMP. -/
abbrev rulJump : Nat := 7

/-- The conditions of WRITE_OK (R44). -/
def writeOk (s : State) (n : Nat) : Bool :=
  s.get (RUL_STATUS_STATE n) == rulLocked && s.on (RUL_STATUS_TRACK_MATCH n) && s.on (RUL_STATUS_LAYER_MATCH n) && (s.ruling n).pending.isNone

/-- WRITE_OK as R44 defines it. A burn in progress completes in SINGLE; where WRITE_OK falls in another state, or SINGLE is left for one
in which nothing is written, it is aborted (R45, R151; DEDUCED, assumption 88). -/
def refreshWriteOk (s : State) (n : Nat) : State :=
  let was := s.on (RUL_STATUS_WRITE_OK n)
  let now := writeOk s n
  let st := s.get (RUL_STATUS_STATE n)
  (s.set (RUL_STATUS_WRITE_OK n) (if now then 1 else 0)).iff (!now && st != rulSingle && (was || st != rulLocked)) fun s => abortBurns s n

/-- Enter a loop state: the status reports it, WRITE_OK and the nibs' freezes follow. -/
def setRulState (s : State) (n st : Nat) : State := refreshFrozenPen (refreshWriteOk (s.set (RUL_STATUS_STATE n) st) n) n

/-- The count takes a value modulo the revolution, and BIN and OFFSET follow (R42). -/
def setCount (s : State) (n : Nat) (c : Int) : State :=
  let m := s.get (RUL_PERIODS_M_RNI n)
  let c := (c % (periodsPerRev s n : Int)).toNat
  let s := s.modRul n fun r => { r with count := c }
  (s.set (RUL_ANGLE_BIN n) (c / m)).set (RUL_ANGLE_OFFSET n) (c % m)

/-- Both M values are non-zero, as leaving OFF needs (R35). -/
def bothM (s : State) (n : Nat) : Bool := s.get (RUL_PERIODS_M_RNI n) != 0 && s.get (RUL_PERIODS_M_RNO n) != 0

/-- The NCO takes a sample rate in 2^−16 Hz; the period rate is an eighth of it (R32, R39). -/
def setNco (s : State) (n v : Nat) : State := (s.modRul n fun r => { r with nco := v }).set (RUL_FREQ_PERIOD_RATE n) (v / 2 ^ 19)

/-- The NCO is seeded from M_RNI and the spindle speed the MOT block measures, in 1/16 rpm (R35, R213): 1,024 M × rpm / 60 periods a
second. -/
def seedNco (s : State) (n : Nat) : State :=
  setNco s n (1024 * s.get (RUL_PERIODS_M_RNI n) * s.get (MOT_SP_SPEED_MEAS (n / 2)) * 2 ^ 19 / 960)

/-- The loop enters FREQ with its NCO seeded (R35). -/
def enterFreq (s : State) (n : Nat) : State := setRulState (seedNco s n) n rulFreq

/-- The loop gives up its lock for state `st`, FREQ or OFF: the island runs from the reference synthesiser, the angle index is no
longer valid, the pen's pending codewords are cut where it falls to FREQ, and codewords in progress are handed on INCOMPLETE (R36, R40,
R57, R107): samples pass unstored until the ruling clock drives the island again. DESIGN CHOICE (assumption 110): RNI_OK and RNO_OK keep what they showed until PHASE is left. -/
def unlock (s : State) (n st : Nat) : State :=
  let s := (s.set (RUL_STATUS_ANGLE_VALID n) 0).set (RUL_STATUS_CLK_SRC n) 0
  let s := s.modRul n fun r => { r with sub := 0, pending := none, miss := 0, prev := [], slipBin := none, slipFrom := none, back := none, holdExpired := false }
  let s := setRulState (s.set (RUL_STATUS_SEARCH_WIDE n) 0) n st
  let s := incompletePen (s.iff (st == rulFreq) fun s => cutPending s n (fun _ => true)) n
  s.each (List.range 16) fun s k => s.modNib n k fun b => { b with anew := true }

/-- The loop falls back to FREQ, which seeds its NCO (R35). -/
def fallToFreq (s : State) (n : Nat) : State := unlock (seedNco s n) n rulFreq

/-- HOLD_LIMIT in µs: units of 25 µs, 0 and 1 both one unit, at most 8 units (PENn_RUL_CTRL). -/
def holdLimitUs (s : State) (n : Nat) : Nat := 25 * min 8 (max 1 (s.get (RUL_CTRL_HOLD_LIMIT n)))

/-! ### The rows -/

/-- RUL_ENABLE (R35, R38): ENABLE is a level; with both M values non-zero the loop leaves OFF for FREQ, else CFG_ERR. -/
def rulEnable (n : Nat) (s : State) : State :=
  let s := s.set (RUL_CTRL_ENABLE n) 1
  if s.get (RUL_STATUS_STATE n) = rulOff then
    if bothM s n then enterFreq s n else s.ev (RUL_EVENT_CFG_ERR n)
  else s

def execRulEnable (n : Fin 16) (s : State) : Res := .next (s.clocked (dataIsland n) (rulEnable n))

/-- RUL_DISABLE (R36, R40, R57, R107): OFF from any state; the reference synthesiser drives the island. -/
def rulDisable (n : Nat) (s : State) : State :=
  let s := s.set (RUL_CTRL_ENABLE n) 0
  if s.get (RUL_STATUS_STATE n) = rulOff then s
  else unlock s n rulOff

def execRulDisable (n : Fin 16) (s : State) : Res := .next (s.clocked (dataIsland n) (rulDisable n))

/-- RUL_JUMP_SET (R37): JUMP is entered from LOCKED, SINGLE or HOLDOVER; in FREQ, PHASE and ADDR it is armed for the end of
acquisition. WRITE_OK falls with LOCKED, and a burn in progress is aborted (R151). -/
def rulJumpSet (n : Nat) (s : State) : State :=
  let s := s.set (RUL_CTRL_JUMP n) 1
  let st := s.get (RUL_STATUS_STATE n)
  if st = rulLocked ∨ st = rulSingle ∨ st = rulHoldover then
    setRulState (s.modRul n fun r => { r with holdExpired := false }) n rulJump
  else s

def execRulJumpSet (n : Fin 16) (s : State) : Res := .next (s.clocked (dataIsland n) (rulJumpSet n))

/-- Entry to ADDR: each data nib's residual phase starts at its OFFSET, saturated at ±32.0 samples (R41); REV counts from
here. -/
def enterAddr (s : State) (n : Nat) : State :=
  let s := s.each (List.range (dataNibs s n)) fun s k =>
    s.set (RUL_NIB_PHASE_RESID n k) (ofSigned 16 (clampInt (-2048) 2048 (toSigned 16 (s.get (RUL_NIB_PHASE_OFFSET n k)))))
  let s := s.set (RUL_REV_REV n) 0
  setRulState (s.modRul n fun r => { r with prev := [], miss := 0, pending := none, slipBin := none, slipFrom := none, back := none, holdExpired := false }) n rulAddr

/-- RUL_JUMP_CLEAR (R35, R37): in JUMP, to ADDR with ANGLE_VALID kept, or to FREQ once HOLD_LIMIT has been reached. -/
def rulJumpClear (n : Nat) (s : State) : State :=
  let s := s.set (RUL_CTRL_JUMP n) 0
  if s.get (RUL_STATUS_STATE n) = rulJump then
    if (s.ruling n).holdExpired then fallToFreq s n else enterAddr s n
  else s

def execRulJumpClear (n : Fin 16) (s : State) : Res := .next (s.clocked (dataIsland n) (rulJumpClear n))

/-- RUL_BAND_WRITE (R35, R44, R51, R72, R76, R107): accepted in OFF or JUMP only, else CFG_ERR. A write of BAND clears the two
matches and cuts the pending codewords of a band that is left; under JUMP each nib selects its preset at once. In OFF with
ENABLE = 1, the write that makes both M values non-zero starts acquisition; while the angle index is valid BIN and OFFSET follow the
count by the new M_RNI (R42). DESIGN CHOICE (assumption 89): the count itself stays the number of periods it is, unscaled. -/
def rulBandWrite (n : Nat) (reg : BandReg) (value : Nat) (s : State) : State :=
  let st := s.get (RUL_STATUS_STATE n)
  if st = rulOff ∨ st = rulJump then
    match reg with
    | .band =>
      let s := ((s.set (RUL_BAND_TRACK n) (value / 2 ^ 16)).set (RUL_BAND_LAYER n) (value / 2 ^ 12)).set (RUL_BAND_SIDE n) (value / 2 ^ 11)
      let s := (s.set (RUL_STATUS_TRACK_MATCH n) 0).set (RUL_STATUS_LAYER_MATCH n) 0
      let s := refreshPresets (refreshWriteOk s n) n
      let s := cutPending s n (leftBand s)
      s.iff (st == rulJump) fun s => s.each (List.range 16) fun s k => s.iff (nibOn s n k) fun s => selectPreset s n k
    | .periods =>
      let s := (s.set (RUL_PERIODS_M_RNO n) (value / 2 ^ 16)).set (RUL_PERIODS_M_RNI n) value
      let s := s.iff (s.on (RUL_STATUS_ANGLE_VALID n) && s.get (RUL_PERIODS_M_RNI n) != 0) fun s => setCount s n ((s.ruling n).count : Nat)
      s.iff (st == rulOff && s.on (RUL_CTRL_ENABLE n) && bothM s n) fun s => enterFreq s n
  else s.ev (RUL_EVENT_CFG_ERR n)

def execRulBandWrite (n : Fin 16) (reg : BandReg) (value : Word) (s : State) : Res :=
  .next (s.clocked (dataIsland n) (rulBandWrite n reg value.toNat))

/-- FREQ_ACQUIRED (R35): an error below 0.02% (200 ppm) for 64 consecutive periods moves FREQ to PHASE; the NCO runs at the
rate found. -/
def freqAcquired (n rate errPpm periods : Nat) (s : State) : State :=
  if s.get (RUL_STATUS_STATE n) = rulFreq ∧ errPpm < 200 ∧ 64 ≤ periods then
    setRulState (setNco s n (rate * 2 ^ 19)) n rulPhase
  else s

def execFreqAcquired (n : Fin 16) (rateHz errPpm periods : Nat) (s : State) : Res := .next (freqAcquired n rateHz errPpm periods s)

/-- PHASE_ACQUIRED (R35, R40, R41): an RMS phase error below 1/16 period (256/4,096) over 256 periods moves PHASE to ADDR and
switches the island to the ruling clock; a ruling nib is good only with its USE bit. -/
def phaseAcquired (n rms periods : Nat) (rniGood rnoGood : Bool) (s : State) : State :=
  if s.get (RUL_STATUS_STATE n) = rulPhase ∧ rms < 256 ∧ 256 ≤ periods then
    let s := s.set (RUL_STATUS_CLK_SRC n) 1
    let s := s.set (RUL_STATUS_RNI_OK n) (if rniGood && s.on (RUL_CTRL_USE_RNI n) then 1 else 0)
    let s := s.set (RUL_STATUS_RNO_OK n) (if rnoGood && s.on (RUL_CTRL_USE_RNO n) then 1 else 0)
    enterAddr s n
  else s

def execPhaseAcquired (n : Fin 16) (rms periods : Nat) (rniGood rnoGood : Bool) (s : State) : Res :=
  .next (phaseAcquired n rms periods rniGood rnoGood s)

/-- ACQ_TIMEOUT (R35): 200 µs in FREQ or PHASE, or 32 bins in ADDR, restart FREQ and set ACQ_TIMEOUT. -/
def acqTimeout (n elapsed : Nat) (s : State) : State :=
  let st := s.get (RUL_STATUS_STATE n)
  if (st = rulFreq ∧ 200 ≤ elapsed) ∨ (st = rulPhase ∧ 200 ≤ elapsed) ∨ (st = rulAddr ∧ 32 ≤ elapsed) then
    (fallToFreq s n).ev (RUL_EVENT_ACQ_TIMEOUT n)
  else s

def execAcqTimeout (n : Fin 16) (elapsed : Nat) (s : State) : Res := .next (acqTimeout n elapsed s)

/-! ### Address words -/

/-- CRC-6 with x^6 + x + 1 and initial value 0 over the low `k` bits of v, most significant first (R33). -/
def crc6 (v : Nat) : Nat → Nat
  | 0 => 0
  | k + 1 =>
    let c := crc6 (v / 2) k
    let fb := (c / 32 + v % 2) % 2
    (c * 2 % 64) ^^^ (if fb = 1 then 3 else 0)

/-- The sync pattern of an address word is found and its CRC checks (R33). -/
def wordGood (w : AddrWord) : Bool :=
  w.bits.toNat / 2 ^ 32 == 0b10110001 && crc6 (w.bits.toNat / 2 ^ 6 % 2 ^ 26) 26 == w.bits.toNat % 64

/-- Bin number of an address word. -/
def wordBin (w : AddrWord) : Nat := w.bits.toNat / 2 ^ 22 % 1024

/-- Payload of an address word. -/
def wordPayload (w : AddrWord) : Nat := w.bits.toNat / 2 ^ 6 % 2 ^ 16

/-- The payload referred to RNI: an even-bin payload read by RNO carries the next track's index (R47). -/
def referred (nib : RulNib) (w : AddrWord) : Nat :=
  if (wordBin w) % 2 = 0 then (match nib with | .rni => (wordPayload w) | .rno => ((wordPayload w) + 2 ^ 16 - 1) % 2 ^ 16) else (wordPayload w)

/-- A ruling nib is in the loop: its USE bit is 1 and it does not count as lost (R47). -/
def inLoop (s : State) (n : Nat) (nib : RulNib) : Bool := s.on (useBit n nib) && s.on (okBit n nib)

/-- Two bins are at most one apart, around the revolution. -/
def binNear (a b : Nat) : Bool := (a + 1024 - b + 1) % 1024 ≤ 2

/-- Disagreement of a word with the loop's count: implied count minus the count at its sync pattern, around the revolution,
as the nearest value (R47). -/
def disagreement (s : State) (n : Nat) (w : AddrWord) : Int :=
  let p : Int := (periodsPerRev s n : Int)
  let e := ((((wordBin w) * s.get (RUL_PERIODS_M_RNI n) : Nat) : Int) - (w.start : Int)) % p
  if p < 2 * e then e - p else e

/-- A word that counts in LOCKED or SINGLE: found within ±64 periods of offset 0, around the revolution, unless the search is wide,
valid, and its bin within 1 of the predicted bin (R47). -/
def countedWord (s : State) (n : Nat) (nib : RulNib) (w : Option AddrWord) : Option AddrWord :=
  match w with
  | none => none
  | some w =>
    let p := periodsPerRev s n
    let near := decide ((w.start % p + p + 64 - (s.ruling n).count) % p ≤ 128) || s.on (RUL_STATUS_SEARCH_WIDE n)
    if inLoop s n nib && wordGood w && near && binNear (wordBin w) (s.get (RUL_ANGLE_BIN n)) then some w else none

/-- What the last address words showed is reported: track, layer, side and generation, and whether they match the expected
band (R44, R47). -/
def reportWord (s : State) (n : Nat) (nib : RulNib) (w : AddrWord) : State :=
  let p := referred nib w
  if (wordBin w) % 2 = 0 then
    let s := s.set (RUL_ADDR_TRACK n) p
    let ok := p == s.get (RUL_BAND_TRACK n)
    (s.set (RUL_STATUS_TRACK_MATCH n) (if ok then 1 else 0)).iff (!ok) fun s => s.ev (RUL_EVENT_TRACK_MISMATCH n)
  else
    let s := ((s.set (RUL_ADDR_LAYER n) (p / 2 ^ 12)).set (RUL_ADDR_SIDE n) (p / 2 ^ 11)).set (RUL_ADDR_GEN n) (p / 2 ^ 9)
    let ok := p / 2 ^ 12 % 16 == s.get (RUL_BAND_LAYER n) && p / 2 ^ 11 % 2 == s.get (RUL_BAND_SIDE n)
    (s.set (RUL_STATUS_LAYER_MATCH n) (if ok then 1 else 0)).iff (!ok) fun s => s.ev (RUL_EVENT_LAYER_MISMATCH n)

/-- Report the words of both nibs. DESIGN CHOICE (assumption 90): RNO's is reported first and RNI's is the last one, where they differ. -/
def reportWords (s : State) (n : Nat) (a b : Option AddrWord) : State :=
  let s := match b with | some w => reportWord s n .rno w | none => s
  match a with | some w => reportWord s n .rni w | none => s

/-- The count moves on by d periods. A wrap to bin 0 advances REV and lets the repetitive controllers learn again (R42, R182). -/
def countOn (s : State) (n d : Nat) : State :=
  let c := (s.ruling n).count + d
  (setCount s n (c : Nat)).iff (decide (periodsPerRev s n ≤ c)) fun s =>
    (((s.wrap (RUL_REV_REV n) 1).modEng n fun g => { g with slipNew := false }).set (LE_RC_STAT_SLIP_BLOCK n 0) 0).set (LE_RC_STAT_SLIP_BLOCK n 1) 0

/-- Whole periods left before the next bin boundary: the end of the bin in which the count stands, or of the one whose words have just
confirmed a slip, which may begin a little later than the corrected count (R42, R47). -/
def periodsLeft (s : State) (n : Nat) : Nat :=
  let m := s.get (RUL_PERIODS_M_RNI n)
  let r := s.ruling n
  let p := periodsPerRev s n
  ((r.slipBin.getD (r.count / m) + 1) * m + p - 1 - r.count) % p

/-- A slip is confirmed by the words of bin `bin` (R45, R47, R49, R84, R176): the count is adjusted by e at this boundary, and with it
every prediction made from now on; SLIP is set and recorded, burns are aborted, and the repetitive controllers stop learning until
bin 0. DESIGN CHOICE (assumption 91): REV moves where the correction takes the count past bin 0, forward or back. -/
def confirmSlip (s : State) (n : Nat) (e : Int) (bin source : Nat) : State :=
  let was := (s.ruling n).count
  let c := (was : Int) + e
  let s := s.set (RUL_REV_REV n) (ofSigned 32 ((s.get (RUL_REV_REV n) : Int) + (if c < 0 then -1 else if (periodsPerRev s n : Int) ≤ c then 1 else 0)))
  let s := setCount s n c
  let s := s.modRul n fun q => { q with pending := none, miss := 0, slipBin := some bin, slipFrom := some (was, e) }
  let s := (s.ev (RUL_EVENT_SLIP n)).bump (RUL_COUNTS_SLIPS n) 1
  let s := ((s.set (RUL_SLIP_SOURCE n) source).set (RUL_SLIP_AMOUNT n) (ofSigned 16 e)).set (RUL_STATUS_SEARCH_WIDE n) 0
  let s := s.modEng n fun g => { g with slipNew := true }
  abortBurns s n

/-- The count moves on to its next bin boundary, past which the samples that wait have gone; after a slip that is the end of the bin
whose words confirmed it (R42, R47). -/
def nextBin (s : State) (n : Nat) : State :=
  let d := periodsLeft s n + 1
  countOn (s.modRul n fun r => { r with slipBin := none, slipFrom := none, sub := r.sub - 8 * d }) n d

/-- The bin-boundary table of R47, for LOCKED and SINGLE. DESIGN CHOICE (assumption 92): SLIP.SOURCE names the words of the confirming
boundary alone; words that all disagree by another amount than the pending one replace it; a boundary without a valid word leaves it
pending. -/
def judgeWords (s : State) (n : Nat) (rni rno : Option AddrWord) : State :=
  let a := countedWord s n .rni rni
  let b := countedWord s n .rno rno
  let s := reportWords s n a b
  let pend := (s.ruling n).pending
  let ea := a.map (disagreement s n)
  let eb := b.map (disagreement s n)
  let source := match ea, eb with | some _, some _ => 2 | none, some _ => 1 | _, _ => 0
  let bin := ((a <|> b).map wordBin).getD 0
  let keep := fun (s : State) => s.modRul n fun r => { r with miss := 0 }
  let conflict := fun (s : State) => s.ev (RUL_EVENT_ADDR_CONFLICT n)
  let s :=
    match ea.toList ++ eb.toList with
    | [] =>
      let s := (s.bump (RUL_COUNTS_ADDR_CRC n) 1).modRul n fun r => { r with miss := r.miss + 1 }
      s.iff (decide (4 ≤ (s.ruling n).miss) && (inLoop s n .rni || inLoop s n .rno)) fun s => s.set (RUL_STATUS_SEARCH_WIDE n) 1
    | l =>
      if l.contains 0 then
        let s := (keep s).set (RUL_STATUS_SEARCH_WIDE n) 0
        let s := s.iff (l.any (· != 0)) conflict
        let s := s.iff pend.isSome conflict
        s.modRul n fun r => { r with pending := none }
      else
        match l with
        | [] => s
        | e :: r =>
          if r.all (· == e) then
            if pend = some e then confirmSlip s n e bin source else (keep s).modRul n fun r => { r with pending := some e }
          else conflict (keep s)
  refreshWriteOk s n

/-- A word that counts in ADDR: valid, and from a nib in the loop (R493). -/
def addrGood (s : State) (n : Nat) (nib : RulNib) (w : Option AddrWord) : Option AddrWord := w.filter fun w => inLoop s n nib && wordGood w

/-- The bins and referred payloads of a boundary's words in ADDR, RNI's first; none where the nibs' words of one bin differ (R493). -/
def addrObs (s : State) (n : Nat) (rni rno : Option AddrWord) : List (Nat × Nat) :=
  let a := ((addrGood s n .rni rni).map fun w => (wordBin w, referred .rni w)).toList
  let b := ((addrGood s n .rno rno).map fun w => (wordBin w, referred .rno w)).toList
  if a.any fun x => b.any fun y => x.1 == y.1 && x.2 != y.2 then [] else a ++ b

/-- A payload is acceptable for its bin's parity (R493). -/
def payloadOk (bin p : Nat) : Bool :=
  if bin % 2 = 0 then decide (p ≤ 4000) else p % 2 ^ 9 == 0 && (p / 2 ^ 9 % 4 == 1 || p / 2 ^ 9 % 4 == 2)

/-- The first word of a boundary that follows one of the boundary before with a consistent payload: its bin (R35, R493). -/
def addrPair (prev now : List (Nat × Nat)) : Option Nat :=
  (now.find? fun y => payloadOk y.1 y.2 && prev.any fun x => (x.1 + 1) % 1024 == y.1 && payloadOk x.1 x.2).map (·.1)

/-- Both ruling nibs are in the loop: LOCKED, else SINGLE (R35). -/
def lockState (s : State) (n : Nat) : Nat := if inLoop s n .rni && inLoop s n .rno then rulLocked else rulSingle

/-- ADDR at a bin boundary (R35, R37, R493): two consecutive valid words with consistent payloads lock the loop. DESIGN CHOICE (assumption
111): after a JUMP, whose count was kept, the words' bin replaces the count where the two differ, and no event tells of it. -/
def judgeAddr (s : State) (n : Nat) (rni rno : Option AddrWord) : State :=
  let s := reportWords s n (addrGood s n .rni rni) (addrGood s n .rno rno)
  let now := addrObs s n rni rno
  match addrPair (s.ruling n).prev now with
  | some bin =>
    let s := setCount s n ((bin * s.get (RUL_PERIODS_M_RNI n) : Nat) : Int)
    let kept := s.on (RUL_STATUS_ANGLE_VALID n)
    let s := (s.set (RUL_STATUS_ANGLE_VALID n) 1).modRul n fun r => { r with prev := [], miss := 0, pending := none, sub := if kept then r.sub else 0 }
    setRulState s n (if s.on (RUL_CTRL_JUMP n) then rulJump else lockState s n)
  | none => refreshWriteOk (s.modRul n fun r => { r with prev := now }) n

/-- The RMS phase errors over the last bin are reported (PENn_RUL_PHERR). -/
def reportRms (s : State) (n rni rno : Nat) : State :=
  s.iff (decide (rulAddr ≤ s.get (RUL_STATUS_STATE n))) fun s => (s.set (RUL_PHERR_RNI_RMS n) rni).set (RUL_PHERR_RNO_RMS n) rno

/-- ADDR_WORD (R35, R42 to R45, R47 to R50, R52, R84, R493): a bin boundary passes, with the address words found on the ruling
nibs and their RMS phase errors over the bin. In ADDR the words may lock the loop; in LOCKED and SINGLE they confirm, suspect or
correct the count; in HOLDOVER and JUMP the count runs on. -/
def addrWord (n : Nat) (rni rno : Option AddrWord) (rniRms rnoRms : Nat) (s : State) : State :=
  let s := reportRms s n rniRms rnoRms
  let st := s.get (RUL_STATUS_STATE n)
  if st = rulAddr then
    judgeAddr (if s.on (RUL_STATUS_ANGLE_VALID n) then nextBin s n else s) n rni rno
  else if st = rulLocked ∨ st = rulSingle then judgeWords (nextBin s n) n rni rno
  else if st = rulHoldover ∨ st = rulJump then nextBin s n
  else s

def execAddrWord (n : Fin 16) (rni rno : Option AddrWord) (rniRms rnoRms : BitVec 16) (s : State) : Res :=
  .next (addrWord n rni rno rniRms.toNat rnoRms.toNat s)

/-! ### Losing and regaining ruling nibs -/

/-- A ruling nib's place among the nibs of its pen. -/
def rulIndex : RulNib → Nat
  | .rni => 16
  | .rno => 17

/-- The loss criterion holds (the list that follows R37): 1/4 period is 1,024/4,096. -/
def lossHolds (s : State) (n : Nat) (nib : RulNib) : RulLoss → Bool
  | .phase rms periods => decide (1024 < rms) && decide (64 ≤ periods)
  | .amplitude percent => decide (percent < 25)
  | .blot => collapsed s n (rulIndex nib)
  | .useBit => !s.on (useBit n nib)

/-- HOLDOVER is entered (R35, R45): burns are aborted, the event is set. -/
def enterHoldover (s : State) (n : Nat) : State :=
  setRulState ((abortBurns s n).ev (RUL_EVENT_HOLDOVER n)) n rulHoldover

/-- A ruling nib leaves the loop (R35, R37, R45, R46): LOCKED falls to SINGLE, SINGLE to HOLDOVER. DESIGN CHOICE (assumption 112): where
SINGLE loses its nib while the other is good again, if not yet for a whole bin, it goes on with that one. -/
def nibLeaves (n : Nat) (nib : RulNib) (s : State) : State :=
  if s.on (okBit n nib) then
    let s := ((s.set (okBit n nib) 0).ev (lostEvent n nib)).modRul n fun r => { r with back := if r.back = some nib then none else r.back }
    let st := s.get (RUL_STATUS_STATE n)
    let other := s.on (okBit n (otherNib nib))
    if st = rulLocked ∨ st = rulSingle then (if other then setRulState s n rulSingle else enterHoldover s n)
    else s
  else s

/-- The Blotter flags a ruling nib, for HOLD × 32 samples from now unless the criterion fires again; the nib is lost, and the engine is
told (R66, R68, R177). -/
def rulBlotted (n : Nat) (nib : RulNib) (s : State) : State :=
  nibLeaves n nib (tellEngineBlot (s.modNib n (rulIndex nib) fun b => { b with rulBlot := some 0 }) n)

/-- A ruling nib whose USE bit is 0 counts as lost (R37). -/
def useLost (s : State) (n : Nat) : State :=
  let s := s.iff (!s.on (useBit n .rni)) fun s => nibLeaves n .rni s
  s.iff (!s.on (useBit n .rno)) fun s => nibLeaves n .rno s

/-- RULING_NIB_LOST (R35, R37, R45, R46, R66, R68, R271): a nib that meets a loss criterion leaves the loop. -/
def rulingNibLost (n : Nat) (nib : RulNib) (why : RulLoss) (s : State) : State :=
  if lossHolds s n nib why then (match why with | .blot => rulBlotted n nib s | _ => nibLeaves n nib s) else s

def execRulingNibLost (n : Fin 16) (nib : RulNib) (why : RulLoss) (s : State) : Res := .next (rulingNibLost n nib why s)

/-- RULING_NIB_GOOD (R35, R37): below 1/16 period for 256 periods a lost nib, with its USE bit and no blot on it, counts as good;
SINGLE returns to LOCKED once the nib that was lost has been so for one whole bin, HOLDOVER returns when the phase error is within
1/4 period and the next address word agrees with the count. -/
def rulingNibGood (n : Nat) (nib : RulNib) (phase periods : Nat) (wholeBin : Bool) (word : Option AddrWord) (s : State) : State :=
  let st := s.get (RUL_STATUS_STATE n)
  if s.on (useBit n nib) ∧ phase < 256 ∧ 256 ≤ periods ∧ (s.nib n (rulIndex nib)).rulBlot.isNone then
    let was := s.on (okBit n nib)
    let s := s.set (okBit n nib) 1
    if st = rulSingle then
      let s := s.iff (!was) fun s => s.modRul n fun r => { r with back := some nib }
      if wholeBin ∧ (s.ruling n).back = some nib ∧ lockState s n = rulLocked then
        setRulState (s.modRul n fun r => { r with back := none }) n rulLocked
      else s
    else if st = rulHoldover then
      match word with
      | some w => if wordGood w ∧ disagreement s n w = 0 then setRulState s n (lockState s n) else s
      | none => s
    else s
  else s

def execRulingNibGood (n : Fin 16) (nib : RulNib) (phase periods : Nat) (wholeBin : Bool) (word : Option AddrWord) (s : State) : Res :=
  .next (rulingNibGood n nib phase periods wholeBin word s)

/-- HOLD_LIMIT (R35, R57, R107): the limit is reached in HOLDOVER, which falls to FREQ, or in JUMP, which stays until JUMP is
cleared; ANGLE_VALID = 0 and UNLOCK set in both. -/
def holdLimit (n elapsedUs : Nat) (s : State) : State :=
  let st := s.get (RUL_STATUS_STATE n)
  if elapsedUs < holdLimitUs s n then s
  else if st = rulHoldover then (fallToFreq s n).ev (RUL_EVENT_UNLOCK n)
  else if st = rulJump ∧ (s.ruling n).holdExpired = false then
    let s := (s.set (RUL_STATUS_ANGLE_VALID n) 0).modRul n fun r => { r with holdExpired := true }
    incompletePen (s.ev (RUL_EVENT_UNLOCK n)) n
  else s

def execHoldLimit (n : Fin 16) (elapsedUs : Nat) (s : State) : Res := .next (holdLimit n elapsedUs s)

/-- FREQ_WORD_SEND (R35, R39, R46, R268, R273, R383): 256 ruling periods have passed. The NCO stands at `word`, a sample rate in
2^−16 Hz, by its loop, or at the rate it is frozen at in HOLDOVER and JUMP; that word sets the island's clock, and goes to the pen in a
FREQ packet. What the elastic buffer between the two absorbs is timing, and nothing of it shows. -/
def freqWordSend (n word : Nat) (s : State) : State :=
  let st := s.get (RUL_STATUS_STATE n)
  if st = rulOff then s
  else
    let s := s.iff (st != rulHoldover && st != rulJump) fun s => setNco s n word
    s.iff (linkUp s n && claims s n) fun s => (countDn s n 80).modLink n fun l => { l with freqWord := some (s.ruling n).nco }

def execFreqWordSend (n : Fin 16) (word : BitVec 64) (s : State) : Res := .next (freqWordSend n word.toNat s)

end Sys2Proof.Machine
end

