-- ==== Sys2Proof/Machine/LoopEngine.lean ====
section
/-!
DEFINITION. The Loop Engine (chapter 06): fixed-point datapath, programs of blocks, modes and bumpless transfer, banks, the
repetitive controller, and the writes an engine accepts.
-/

namespace Sys2Proof.Machine

/-! ### Mode codes (R170) and event places -/

/-- OFF. -/
abbrev mOff : Nat := 0
/-- MANUAL. -/
abbrev mManual : Nat := 1
/-- AUTO. -/
abbrev mAuto : Nat := 2
/-- HOLD. -/
abbrev mHold : Nat := 3
/-- SHADOW. -/
abbrev mShadow : Nat := 4

/-- Loops of engine e (R154). -/
def loopsOf (e : Nat) : Nat := if e < 16 then 8 else 32

/-- Words of a loop's coefficient and state windows (R167). -/
def leWindow (e : Nat) : Nat := if e < 16 then 64 else 16

/-- Mode in force of loop j. -/
def modeOf (s : State) (e j : Nat) : Nat := s.get (LE_LOOP_CTRL_MODE_ACT e j)

/-- The loop's rate divider: a written 0 acts as 1 (R154). -/
def divOf (s : State) (e j : Nat) : Nat := max 1 (s.get (LE_LOOP_CTRL_DIV e j))

/-- A refused write or request. -/
def leCfgErr (s : State) (e : Nat) : State := s.ev (LE_EVENT_CFG_ERR e)

/-- A signed Q1.31 register. -/
def q31 (s : State) (f : Fld) : Int := toSigned 32 (s.get f)

/-! ### Numbers (R157, R158, R495) -/

/-- Largest and smallest Q1.31 values. -/
def qMax : Int := 2 ^ 31 - 1
/-- The least Q1.31 value. -/
def qMin : Int := -(2 ^ 31)

/-- Saturate into Q1.31, and whether it acted. -/
def satQ (v : Int) : Int × Bool := (clampInt qMin qMax v, decide (v < qMin ∨ qMax < v))

/-- VALUE of a coefficient word. -/
def coefValue (w : Nat) : Int := toSigned 32 w

/-- The product of a signal and a coefficient in Q17.47 (R158). -/
def mulQ (x : Int) (w : Nat) : Int := x * coefValue w / 2 ^ (15 - w / 2 ^ 32 % 16)

/-- A saturating accumulator with its saturation mark. -/
abbrev Accum := Int × Bool

/-- One saturating addition. -/
def accAdd (a : Accum) (t : Int) : Accum :=
  let v := a.1 + t
  (clampInt (-(2 ^ 63 - 1)) (2 ^ 63 - 1) v, a.2 || decide (v < -(2 ^ 63 - 1) ∨ 2 ^ 63 - 1 < v))

/-- Terms added one by one from zero. -/
def accSum (l : List Int) : Accum := l.foldl accAdd (0, false)

/-- A block's output from its accumulator. -/
def accOut (a : Accum) : Accum :=
  let (v, sat) := satQ ((a.1 + 2 ^ 15) / 2 ^ 16)
  (v, a.2 || sat)

/-! ### Programs (R159 to R161) -/

/-- An instruction word's fields. -/
structure Block where
  op : Nat
  flags : Nat
  src : Nat
  aux : Nat
  coef : Nat
  state : Nat
  deriving DecidableEq, Repr

/-- The fields of an instruction word (R159). -/
def blockOf (w : Nat) : Block :=
  { op := w / 2 ^ 60 % 16, flags := w / 2 ^ 56 % 16, src := w / 2 ^ 48 % 256, aux := w / 2 ^ 40 % 256,
    coef := w / 2 ^ 24 % 256, state := w / 2 ^ 16 % 256 }

/-- Coefficient words, state words and cycles of a block type; none for an OP that R161 does not list. -/
def blockCost (op : Nat) : Option (Nat × Nat × Nat) :=
  match op with
  | 1 => some (1, 0, 1)
  | 2 => some (5, 4, 5)
  | 3 => some (6, 3, 6)
  | 4 => some (1, 0, 1)
  | 5 => some (3, 1, 2)
  | 6 => some (3, 1, 2)
  | 7 => some (1, 0, 3)
  | 8 => some (0, 0, 1)
  | _ => none

/-- The blocks of a program of len words from start. -/
def programAt (s : State) (e start len : Nat) : List Block :=
  ((List.range len).filter fun i => decide (start + i < 256)).map fun i => blockOf (s.get (LE_PROG_WORD e (start + i)))

/-- The program of loop j. -/
def programOf (s : State) (e j : Nat) : List Block := programAt s e (s.get (LE_LOOP_PROG_START e j)) (s.get (LE_LOOP_PROG_LEN e j))

/-- The cost of a program in cycles: 2 and its blocks (R155). -/
def programCost (l : List Block) : Nat :=
  l.foldl (fun n b => n + match blockCost b.op with | some (_, _, c) => c | none => 0) 2

/-- Cost of loop j. -/
def loopCost (s : State) (e j : Nat) : Nat := programCost (programOf s e j)

/-- Summed cost of the loops with DIV = 1 that are not OFF, loop `skip` left out (R156). -/
def fastCycles (s : State) (e skip : Nat) : Nat :=
  (List.range (loopsOf e)).foldl (fun n j =>
    n + if j ≠ skip ∧ divOf s e j = 1 ∧ modeOf s e j ≠ mOff then loopCost s e j else 0) 0

/-- Present FAST_CYCLES. -/
def refreshFast (s : State) (e : Nat) : State := s.set (LE_STATUS_FAST_CYCLES e) (fastCycles s e (loopsOf e))

/-- A source code that R160 makes valid on the engine. -/
def validSource (e c : Nat) : Bool :=
  c == 0 || c == 1 || (decide (0x10 ≤ c) && decide (c ≤ 0x27)) || (decide (0x40 ≤ c) && decide (c < 0x40 + loopsOf e))
    || (e == 16 && decide (0x80 ≤ c) && decide (c ≤ 0x9F))

/-- A destination that R165 gives for the engine. -/
def validDest (e a : Nat) : Bool :=
  decide (a < 8) || a == 0xFF || (if e < 16 then a == 0x20 || a == 0x21 else decide (0x10 ≤ a) && decide (a ≤ 0x1F))

/-- OUT's destination of a program. -/
def destOf (l : List Block) : Option Nat := l.getLast?.bind fun b => if b.op = 8 then some b.aux else none

/-- Index of the TRK PID. -/
def trkOf (l : List Block) : Option Nat := l.findIdx? fun b => b.op == 3 && b.flags.testBit 0

/-- The RC tables a program names, in order. -/
def rcTables (l : List Block) : List Nat := (l.filter fun b => b.op == 7).map fun b => b.flags % 2

/-- A list names no value twice. -/
def distinct : List Nat → Bool
  | [] => true
  | a :: r => !r.contains a && distinct r

/-- The program checks of R166 for loop j, towards mode `target`. -/
def programOk (s : State) (e j target : Nat) : Bool :=
  let start := s.get (LE_LOOP_PROG_START e j)
  let len := s.get (LE_LOOP_PROG_LEN e j)
  let l := programAt s e start len
  let others := (List.range (loopsOf e)).filter fun i => decide (i ≠ j ∧ modeOf s e i ≠ mOff)
  len != 0 && decide (start + len ≤ 256)
    && (l.all fun b => (blockCost b.op).isSome && validSource e b.src && (!(b.op == 4 || b.op == 7) || validSource e b.aux))
    && (l.filter fun b => b.op == 8).length == 1
    && (match destOf l with
        | none => false
        | some a => validDest e a && (a == 0xFF || others.all fun i => destOf (programOf s e i) != some a))
    && (l.all fun b => match blockCost b.op with
        | none => false
        | some (c, w, _) => (c == 0 || decide (b.coef + c ≤ leWindow e)) && (w == 0 || decide (b.state + w ≤ leWindow e)))
    && (decide (e < 16) || (rcTables l).isEmpty)
    && (l.all fun b => b.op != 7 || decide (b.flags < 2))
    && distinct (rcTables l)
    && (others.all fun i => (rcTables (programOf s e i)).all fun t => !(rcTables l).contains t)
    && decide ((l.filter fun b => b.op == 3 && b.flags.testBit 0).length ≤ 1)
    && (match trkOf l with
        | none => target != mShadow
        | some i => (l.drop (i + 1)).all fun b => b.op == 4 || b.op == 7 || b.op == 5 || b.op == 8)

/-! ### Mode changes at a boundary (R156, R166, R168, R170 to R172) -/

/-- A transition that R170 gives. -/
def transitionOk (f m : Nat) : Bool :=
  decide (m ≤ 4) && !(f == mOff && (m == mAuto || m == mHold)) && !(m == mHold && (f == mManual || f == mShadow))

/-- A transition at which the program is checked (R166). -/
def checkedChange (f m : Nat) : Bool :=
  (f == mOff && m != mOff) || (f == mManual && (m == mAuto || m == mShadow)) || (f == mHold && m == mShadow)

/-- Zero the state words of loop j's window (R170). -/
def zeroWindow (s : State) (e j : Nat) : State :=
  s.each (List.range (leWindow e)) fun s w => s.set (LE_STATE_WORD e (leWindow e * j + w)) 0

/-- MODE reads back as MODE_ACT, and no request waits (R166). -/
def dropRequest (s : State) (e j : Nat) : State :=
  (s.set (LE_LOOP_CTRL_MODE e j) (modeOf s e j)).modEng e fun g => { g with modeReq := g.modeReq.erase j, supReq := g.supReq.erase j }

/-- Send a loop's value to its destination (R165). -/
def sendOut (s : State) (e : Nat) (dest : Option Nat) (v : Int) : State :=
  match dest with
  | none => s
  | some d =>
    if d = 0xFF then s
    else if e < 16 ∧ (d = 0x20 ∨ d = 0x21) then s.set (LE_EXP_EXP e (d - 0x20)) (ofSigned 32 v)
    else s.modEng e fun g => { g with sent := g.sent.insert d v }

/-- A loop's boundary: the bank switch first, then the mode change that waits, a write before an event (R168, R172, R182).
The second value is the target of a transfer into AUTO (R171). A loop that leaves OFF for MANUAL puts MAN_VALUE out at once, due or not
(R170). -/
def boundary (s : State) (e j : Nat) : State × Option Int :=
  let s := s.set (LE_LOOP_CTRL_ACT_BANK e j) (s.get (LE_LOOP_CTRL_BANK e j))
  let g := s.engine e
  let req := match g.modeReq.find? j with | some m => some m | none => g.supReq.find? j
  match req with
  | none => (s, none)
  | some m =>
    let f := modeOf s e j
    let s := dropRequest s e j
    if m = f then (s, none)
    else if !transitionOk f m then (leCfgErr s e, none)
    else if checkedChange f m && !programOk s e j m then (s.ev (LE_EVENT_PROG_ERR e), none)
    else if f = mOff ∧ divOf s e j = 1 ∧ 100 < fastCycles s e j + loopCost s e j then (s.ev (LE_EVENT_BUDGET_ERR e), none)
    else
      let out := q31 s (LE_LOOP_OUT_OUT e j)
      let man := q31 s (LE_LOOP_MAN_MAN_VALUE e j)
      let s := if f = mOff then (zeroWindow s e j).modEng e fun g => { g with prevOut := g.prevOut.erase j, held := g.held.erase j } else s
      let target :=
        if m = mAuto then
          if f = mManual then some man
          else if f = mHold then some out
          else some ((g.echoed.find? j).getD out)
        else none
      let s :=
        if m = mManual then
          let v := if (g.modeReq.find? j).isSome ∧ (f = mAuto ∨ f = mShadow) ∧ s.on (LE_LOOP_CTRL_CAPTURE e j) then out else man
          let s := (s.set (LE_LOOP_MAN_MAN_VALUE e j) (ofSigned 32 v)).set (LE_LOOP_OUT_OUT e j) (ofSigned 32 v)
          s.iff (f == mOff) fun s => sendOut s e (destOf (programOf s e j)) v
        else s
      let s := s.iff (m == mHold) fun s => s.ev (LE_EVENT_HOLD e)
      let s := s.iff (m == mShadow) fun s => s.modEng e fun g =>
        { g with echoed := g.echoed.erase j, late := g.late.erase j, await := g.await.filter fun w => w.loop != j }
      let s := (s.set (LE_LOOP_CTRL_MODE_ACT e j) m).set (LE_LOOP_CTRL_MODE e j) m
      (refreshFast s e, target)

/-! ### The repetitive controller (R175 to R179) -/

/-- Address range of RC table t. -/
def rcFrom (e t : Nat) : Nat := leBase e + 0x3000 + 0x1000 * t

/-- The fade of table t. -/
def fadeOf (s : State) (e t : Nat) : Fade := (s.engine e).fade.getD t {}

/-- Change the fade of table t. -/
def modFade (s : State) (e t : Nat) (k : Fade → Fade) : State :=
  s.modEng e fun g => { g with fade := g.fade.set t {} (k (g.fade.getD t {})) }

/-- The word a bin plays: while a clear runs, zero once the clear has passed it, which the moment decides (R179). -/
def rcPlayed (s : State) (e t b : Nat) : Int × State :=
  let v := q31 s (LE_RC_BIN e t b)
  if s.on (LE_RC_CTRL_CLEAR e t) ∧ (fadeOf s e t).kept.find? b = none ∧ v ≠ 0 then
    let (passed, s) := s.coin
    (if passed then 0 else v, s)
  else (v, s)

/-- The repetitive term of table t at a sample tagged with bin b, or without a valid angle (R175, R178). -/
def rcTerm (s : State) (e t : Nat) (bin : Option Nat) : Int × State :=
  let f := fadeOf s e t
  let play := s.on (LE_RC_CTRL_PLAY e t)
  match bin with
  | some b =>
    let k := min 256 ((if f.valid then f.scale else 0) + 1)
    let (v, s) := rcPlayed s e t ((b + s.get (LE_RC_CTRL_ADV e t)) % 1024)
    let (term, s) := s.divFree (v * (k : Int)) 256
    let term := if play then term else 0
    (term, modFade s e t fun f => { f with valid := true, scale := k, last := term })
  | none =>
    let fall := if f.valid then f.last else f.fall
    let k := (if f.valid then 256 else f.scale) - 1
    let (term, s) := s.divFree (fall * (k : Int)) 256
    let term := if play then term else 0
    (term, modFade s e t fun f => { f with valid := false, scale := k, fall := fall, last := term })

/-- Write, or discard, the updates that loop j formed at its last sample (R177). -/
def settleUpdates (s : State) (e j : Nat) : State :=
  s.each [0, 1] fun s t =>
    match (s.engine e).upd.find? t with
    | none => s
    | some (l, b, v, blot) =>
      if l ≠ j then s
      else
        let s := s.modEng e fun g => { g with upd := g.upd.erase t }
        if blot then s.bump (LE_RC_DISCARDS_DISCARDS e t) 1
        else
          let s := (s.set (LE_RC_BIN e t b) v).bump (LE_RC_UPDATES_UPDATES e t) 1
          if s.on (LE_RC_CTRL_CLEAR e t) then
            let (passed, s) := s.coin
            s.iff passed fun s => modFade s e t fun f => { f with kept := f.kept.insert b v }
          else s

/-! ### One run of a loop -/

/-- What a tick brings to its runs: the ERR inputs, the bin, whether the tick is valid, whether a blot met the sample, and the
sample's name for the echoes. -/
structure TickIn where
  errs : List Int
  bin : Option Nat
  valid : Bool
  blot : Bool
  sample : Nat
  deriving DecidableEq, Repr

/-- The term of table t among the terms of a run. -/
def termOf (terms : List (Nat × Int)) (t : Nat) : Int :=
  match terms.find? (fun p : Nat × Int => p.1 == t) with
  | some p => p.2
  | none => 0

/-- A run in progress. -/
structure Run where
  s : State
  prev : Int := 0
  outs : List Int := []
  sat : Bool := false
  limited : Bool := false
  held : List (Nat × Int) := []
  /-- Input of the first RC block. -/
  rcIn : Option Int := none
  /-- G·a of each RC block, by table. -/
  learn : List (Nat × Int) := []
  /-- P + D + Σc of the TRK PID and what follows it. -/
  rest : Int := 0
  /-- The preset's clamp acted. -/
  clamp : Bool := false

/-- The signal of a source code (R160, R182). -/
def source (s : State) (e : Nat) (inp : TickIn) (c : Nat) (prev : Int) : Int :=
  if c = 1 then prev
  else if 0x10 ≤ c ∧ c < 0x20 then inp.errs.getD (c - 0x10) 0
  else if 0x20 ≤ c ∧ c < 0x28 then q31 s (LE_OFS_OFS e (c - 0x20))
  else if 0x40 ≤ c ∧ c < 0x40 + loopsOf e then q31 s (LE_LOOP_OUT_OUT e (c - 0x40))
  else if e = 16 ∧ 0x80 ≤ c ∧ c < 0xA0 then q31 s (LE_EXP_EXP ((c - 0x80) / 2) ((c - 0x80) % 2))
  else 0

/-- Coefficient word i of a block in loop j. -/
def coefOf (s : State) (e j : Nat) (b : Block) (i : Nat) : Nat :=
  s.get (LE_COEF_WORD e (s.get (LE_LOOP_CTRL_ACT_BANK e j)) (leWindow e * j + b.coef + i))

/-- State word i of a block in loop j. -/
def stateFld (e j : Nat) (b : Block) (i : Nat) : Fld := LE_STATE_WORD e (leWindow e * j + b.state + i)

/-- A Q1.31 state word. -/
def stateQ (s : State) (e j : Nat) (b : Block) (i : Nat) : Int := toSigned 32 (s.get (stateFld e j b i))

/-- Write a state word sign-extended (R495). -/
def putState (s : State) (e j : Nat) (b : Block) (i : Nat) (v : Int) : State := s.set (stateFld e j b i) (ofSigned 64 v)

/-- BIQUAD (R161). -/
def runBiquad (r : Run) (e j : Nat) (b : Block) (x : Int) : Run × Accum :=
  let s := r.s
  let c := coefOf s e j b
  let x1 := stateQ s e j b 0
  let y1 := stateQ s e j b 2
  let y := accOut (accSum [mulQ x (c 0), mulQ x1 (c 1), mulQ (stateQ s e j b 1) (c 2), -mulQ y1 (c 3), -mulQ (stateQ s e j b 3) (c 4)])
  let s := putState (putState (putState (putState s e j b 3 y1) e j b 2 y.1) e j b 1 x1) e j b 0 x
  ({ r with s := s }, y)

/-- PID (R162), with the preset of R171 in place of step 1 where a target and Σc are given. -/
def runPid (r : Run) (e j : Nat) (b : Block) (idx : Nat) (x : Int) (frozen : Bool) (last : List (Nat × Int)) (preset : Option (Int × Int)) : Run × Accum :=
  let s := r.s
  let c := coefOf s e j b
  let lo := coefValue (c 5) * 2 ^ 16
  let hi := coefValue (c 4) * 2 ^ 16
  let i0 := toSigned 64 (s.get (stateFld e j b 0))
  let inc := mulQ x (c 1)
  let windup := b.flags.testBit 1 && last.any fun h => decide (idx < h.1) && decide (0 < h.2 * inc)
  let (d32, dsat) := satQ (x - stateQ s e j b 2)
  let d := accOut (accSum [mulQ (stateQ s e j b 1) (c 3), mulQ d32 (c 2)])
  let p := mulQ x (c 0)
  let step := accAdd (i0, false) inc
  let i := match preset with
    | some (u, sum) => (clampInt lo hi (u * 2 ^ 16 - p - d.1 * 2 ^ 16 - sum), false)
    | none => if frozen || windup then (i0, false) else (clampInt lo hi step.1, step.2)
  let clamp := match preset with
    | some (u, sum) => decide (i.1 ≠ u * 2 ^ 16 - p - d.1 * 2 ^ 16 - sum)
    | none => false
  let y := accOut (accSum [p, i.1, d.1 * 2 ^ 16])
  let s := putState (putState (putState s e j b 0 i.1) e j b 1 d.1) e j b 2 x
  ({ r with s := s, clamp := r.clamp || clamp, rest := if b.flags.testBit 0 then p + d.1 * 2 ^ 16 else r.rest },
   (y.1, y.2 || dsat || d.2 || i.2))

/-- LIMIT (R163): the output and the direction in which a limit acted. -/
def limitOut (hi lo rate prev x : Int) : Int × Int :=
  let (y, d) := if hi < x then (hi, (1 : Int)) else (x, 0)
  let (y, d) := if y < lo then (lo, (-1 : Int)) else (y, d)
  let m := if rate = qMin then qMax else (if rate < 0 then -rate else rate)
  if m = 0 then (y, d)
  else if prev + m < y then (prev + m, 1)
  else if y < prev - m then (prev - m, -1)
  else (y, d)

/-- HYST's next state (R164). -/
def hystNext (st : Nat) (hi lo x : Int) : Nat :=
  match st with
  | 1 => if x < -hi then 2 else if -lo < x ∧ x < lo then 0 else 1
  | 2 => if hi < x then 1 else if -lo < x ∧ x < lo then 0 else 2
  | _ => if hi < x then 1 else if x < -hi then 2 else 0

/-- One block (R161 to R165). -/
def runBlock (e j : Nat) (inp : TickIn) (frozen : Bool) (last : List (Nat × Int)) (terms : List (Nat × Int)) (base : Option Int)
    (preset : Option (Int × Int)) (r : Run) (idx : Nat) (b : Block) : Run :=
  let x := match base, r.outs with
    | some v, [] => v
    | _, _ => source r.s e inp b.src r.prev
  let a := source r.s e inp b.aux r.prev
  let k0 := coefOf r.s e j b 0
  let isTrk := b.op == 3 && b.flags.testBit 0
  let (r, y) :=
    match b.op with
    | 1 => (r, accOut (accSum [mulQ x k0]))
    | 2 => runBiquad r e j b x
    | 3 => runPid r e j b idx x frozen last (if isTrk then preset else none)
    | 4 => ({ r with rest := r.rest + mulQ a k0 }, accOut (accSum [x * 2 ^ 16, mulQ a k0]))
    | 5 =>
      let (y, d) := limitOut (coefValue k0) (coefValue (coefOf r.s e j b 1)) (coefValue (coefOf r.s e j b 2)) (stateQ r.s e j b 0) x
      let y := clampInt qMin qMax y
      ({ r with s := putState r.s e j b 0 y, limited := r.limited || d != 0, held := if d = 0 then r.held else r.held ++ [(idx, d)] }, (y, false))
    | 6 =>
      let st := hystNext (s0 r.s b) (coefValue k0) (coefValue (coefOf r.s e j b 1)) x
      let lv := coefValue (coefOf r.s e j b 2)
      let y := if st = 0 then 0 else if b.flags.testBit 0 then (if st = 1 then lv else clampInt qMin qMax (-lv)) else x
      ({ r with s := r.s.set (stateFld e j b 0) st }, (y, false))
    | 7 =>
      let t := b.flags % 2
      let term := termOf terms t
      ({ r with rcIn := if r.rcIn.isNone then some x else r.rcIn, learn := r.learn ++ [(t, mulQ a k0)], rest := r.rest + term * 2 ^ 16 },
       accOut (accSum [x * 2 ^ 16, term * 2 ^ 16]))
    | _ => (r, (x, false))
  { r with prev := y.1, outs := r.outs ++ [y.1], sat := r.sat || y.2 }
where
  /-- HYST's stored state: other than 0, 1 or 2 acts as 0 (R495). -/
  s0 (s : State) (b : Block) : Nat := let v := s.get (stateFld e j b 0); if v ≤ 2 then v else 0

/-- The blocks from index idx on. -/
def runBlocks (e j : Nat) (inp : TickIn) (frozen : Bool) (last : List (Nat × Int)) (terms : List (Nat × Int)) (base : Option Int)
    (preset : Option (Int × Int)) : Run → Nat → List Block → Run
  | r, _, [] => r
  | r, idx, b :: l => runBlocks e j inp frozen last terms base preset (runBlock e j inp frozen last terms base preset r idx b) (idx + 1) l

/-- Σc of R171: the contributions of the SUM and RC blocks after the TRK PID at the moment of the preset; AUX 0x01 reads the
previous block's output of the loop's previous run. -/
def presetSum (s : State) (e j : Nat) (inp : TickIn) (l : List Block) (trk : Nat) (terms : List (Nat × Int)) : Int :=
  let before := (s.engine e).prevOut.getD j []
  ((List.range l.length).filter (trk < ·)).foldl (fun sum i =>
    match l[i]? with
    | none => sum
    | some b =>
      if b.op = 4 then sum + mulQ (source s e inp b.aux (before.getD (i - 1) 0)) (coefOf s e j b 0)
      else if b.op = 7 then sum + termOf terms (b.flags % 2) * 2 ^ 16
      else sum) 0

/-- Every LIMIT's y_prev takes u; whether u lies outside a LIMIT's range (R171). -/
def presetLimits (s : State) (e j : Nat) (l : List Block) (u : Int) : State × Bool :=
  l.foldl (fun (s, out) b =>
    if b.op = 5 then
      (putState s e j b 0 u, out || decide (u < coefValue (coefOf s e j b 1)) || decide (coefValue (coefOf s e j b 0) < u))
    else (s, out)) (s, false)

/-- PRESET_CLAMP of a transfer that steps. -/
def presetClamp (s : State) (e j : Nat) : State := (s.ev (LE_EVENT_PRESET_CLAMP e)).ev (LE_LOOP_STAT_PRESET_CLAMP e j)

/-- A shadow comparison with its preset (R174): output against echo, and the TRK integrator toward the echo. -/
def compareEcho (s : State) (e j : Nat) (l : List Block) (echo out rest : Int) : State :=
  let diff := out - echo
  let s := s.iff (decide ((s.get (LE_LOOP_TOL_SHADOW_TOL e j) : Int) < (if diff < 0 then -diff else diff))) fun s =>
    (((s.ev (LE_EVENT_SHADOW_MISMATCH e)).ev (LE_LOOP_STAT_SHADOW_MISMATCH e j)).bump (LE_LOOP_CNT_ERR_MISMATCHES e j) 1).modEng e fun g =>
      { g with healthMis := g.healthMis + 1 }
  match trkOf l with
  | none => s
  | some i =>
    match l[i]? with
    | none => s
    | some b =>
      let want := echo * 2 ^ 16 - rest
      let v := clampInt (coefValue (coefOf s e j b 5) * 2 ^ 16) (coefValue (coefOf s e j b 4) * 2 ^ 16) want
      let (s, out) := presetLimits (putState s e j b 0 v) e j l echo
      s.iff (out || v != want) fun s => presetClamp s e j

/-- A destination whose command comes back as an echo: a pen's actuator slots (R266). A stage echoes no loop's command: steps are
compared by the commutators, sleds not at all (R398). -/
def echoedDest (e d : Nat) : Bool := decide (e < 16) && decide (d < 8)

/-- An update of R176, where every condition holds. -/
def learnBin (s : State) (e j mode : Nat) (inp : TickIn) (r : Run) (t : Nat) (ga : Int) : State :=
  let st := s.get (RUL_STATUS_STATE e)
  let s := s.set (LE_RC_STAT_BIN e t) (inp.bin.getD 0)
  match inp.bin with
  | some b =>
    if s.on (LE_RC_CTRL_LEARN e t) ∧ (mode = mAuto ∨ mode = mShadow) ∧ s.on (LE_LOOP_STAT_LOCKED e j) ∧ inp.valid ∧ (st = 4 ∨ st = 5)
        ∧ inp.blot = false ∧ s.get (LE_RC_STAT_SLIP_BLOCK e t) = 0 ∧ r.limited = false ∧ r.sat = false ∧ (fadeOf s e t).scale = 256 then
      let (old, s) := rcPlayed s e t b
      let forget := s.get (LE_RC_CTRL_FORGET e t)
      let v := (accOut (accSum [old * 2 ^ 16, if forget = 0 then 0 else -(old / 2 ^ forget) * 2 ^ 16, ga])).1
      (s.set (LE_RC_STAT_LEARNING e t) 1).modEng e fun g => { g with upd := g.upd.insert t (j, b, ofSigned 32 v, false) }
    else s.set (LE_RC_STAT_LEARNING e t) 0
  | none => s.set (LE_RC_STAT_LEARNING e t) 0

/-- The repetitive terms that a loop's program plays at this bin; MANUAL plays none (R170, R178). -/
def playTerms (s : State) (e mode : Nat) (bin : Option Nat) (l : List Block) : State × List (Nat × Int) :=
  (rcTables l).foldl (fun (s, ts) t => let (v, s) := rcTerm s e t bin; (s, ts ++ [(t, if mode = mManual then 0 else v)])) (s, [])

/-- The LIMITs of a loop that enters AUTO by a preset (R171): whether its target lies outside one of them. -/
def presetOutside (s : State) (e j : Nat) (l : List Block) (preset : Option (Int × Int)) : State × Bool :=
  match preset with
  | some (u, _) => presetLimits s e j l u
  | none => (s, false)

/-- A loop's program runs in its mode (R161 to R171): HOLD runs the blocks from the first RC block on. -/
def runProgram (s : State) (e j : Nat) (inp : TickIn) (l : List Block) (mode : Nat) (terms : List (Nat × Int)) (preset : Option (Int × Int)) : Run :=
  let last := (s.engine e).held.getD j []
  let first := match l.findIdx? (fun b => b.op == 7) with | some i => i | none => l.length - 1
  let (s, outside) := presetOutside s e j l preset
  let run0 : Run := { s := s, clamp := outside }
  let r :=
    if mode = mHold then runBlocks e j inp true last terms (some (q31 s (LE_LOOP_BASE_BASE e j))) none run0 first (l.drop first)
    else runBlocks e j inp (mode == mManual) last terms none preset run0 0 l
  let kept := if mode = mHold then ((r.s.engine e).prevOut.getD j []).take first ++ r.outs else r.outs
  { r with s := r.s.modEng e fun g => { g with held := g.held.insert j r.held, prevOut := g.prevOut.insert j kept } }

/-- What a run leaves in the loop's registers: its flags and counters, OUT and BASE (R161 to R171). -/
def reportRun (s : State) (e j mode : Nat) (l : List Block) (r : Run) (value : Int) : State :=
  let s := s.iff r.clamp fun s => presetClamp s e j
  let s := s.iff r.sat fun s => ((s.ev (LE_EVENT_SAT e)).ev (LE_LOOP_STAT_SAT e j)).bump (LE_LOOP_CNT_ERR_SATS e j) 1
  let s := s.iff r.limited fun s => s.ev (LE_LOOP_STAT_LIMITED e j)
  let s := (s.bump (LE_LOOP_CNT_RUN_RUNS e j) 1).set (LE_LOOP_STAT_CYCLES e j) (programCost l)
  let s := s.set (LE_LOOP_OUT_OUT e j) (ofSigned 32 value)
  s.iff (mode == mAuto) fun s => s.set (LE_LOOP_BASE_BASE e j) (ofSigned 32 (r.rcIn.getD r.prev))

/-- A shadow loop's output meets the echo of its sample, or waits for it (R174). -/
def shadowOut (s : State) (e j : Nat) (inp : TickIn) (l : List Block) (dest : Option Nat) (value rest : Int) : State :=
  match dest with
  | none => s
  | some d =>
    if echoedDest e d then
      if (((s.engine e).echo.find? d).map (·.1)) = some inp.sample then
        compareEcho s e j l ((((s.engine e).echo.find? d).map (·.2)).getD 0) value rest
      else s.modEng e fun g => { g with await := g.await ++ [{ loop := j, dest := d, sample := inp.sample, out := value, rest := rest }] }
    else s

/-- A due loop runs in a mode other than OFF: the echoes that came after their runs (R174), the preset of a transfer into AUTO
(R171), its program, and what it sends (R165). -/
def runMode (s : State) (e j : Nat) (inp : TickIn) (mode : Nat) (target : Option Int) (l : List Block) (terms : List (Nat × Int)) : State :=
  let late := (s.engine e).late.getD j []
  let s := s.modEng e fun g => { g with late := g.late.erase j }
  let s := s.iff (mode == mShadow) fun s => s.each late fun s w => compareEcho s e j l w.1 w.2.1 w.2.2
  let preset := match target, trkOf l with
    | some u, some i => some (u, presetSum s e j inp l i terms)
    | _, _ => none
  let r := runProgram s e j inp l mode terms preset
  let value := if mode = mManual then q31 r.s (LE_LOOP_MAN_MAN_VALUE e j) else r.prev
  let s := reportRun r.s e j mode l r value
  let s := if mode = mShadow then shadowOut s e j inp l (destOf l) value r.rest else sendOut s e (destOf l) value
  s.each r.learn fun s p => learnBin s e j mode inp r p.1 p.2

/-- A due loop runs (R161 to R174): its waiting update, its boundary, then its program as the mode in force has it. -/
def runLoop (s : State) (e j : Nat) (inp : TickIn) : State :=
  let b := boundary (settleUpdates s e j) e j
  let mode := modeOf b.1 e j
  if mode = mOff then b.1
  else
    let l := programOf b.1 e j
    let p := playTerms b.1 e mode inp.bin l
    runMode p.1 e j inp mode b.2 l p.2

/-- An echo arrives for a destination (R170, R174): it is the last one of the shadow loops that drive it, and it answers an output
that waits for it, at that loop's next run. -/
def echoArrives (s : State) (e dest sample : Nat) (v : Int) : State :=
  let mine := (List.range (loopsOf e)).filter fun j => modeOf s e j == mShadow && destOf (programOf s e j) == some dest
  s.modEng e fun g =>
    let hit := fun (w : Await) => w.dest == dest && w.sample == sample
    { g with
      echo := g.echo.insert dest (sample, v)
      echoed := mine.foldl (fun l j => l.insert j v) g.echoed
      await := g.await.filter fun w => !hit w
      late := (g.await.filter hit).foldl (fun l w => l.insert w.loop (l.getD w.loop [] ++ [(v, w.out, w.rest)])) g.late }

/-- The end of a tick: an output whose echo has not come by the end of the tick after its own is missed (R174). -/
def expireEchoes (s : State) (e : Nat) : State :=
  let missed := ((s.engine e).await.filter fun w => w.old).length
  let s := s.modEng e fun g => { g with await := (g.await.filter fun w => !w.old).map fun w => { w with old := true } }
  s.iff (missed != 0) fun s => ((s.bump (LE_CNT_ECHO_ECHO_MISS e) missed).ev (LE_EVENT_ECHO_MISS e)).modEng e fun g =>
    { g with healthMiss := g.healthMiss + missed }

/-! ### A tick (R153 to R156) -/

/-- The loops due on tick t in rising order: those with DIV = 1, which run first, or the others (R154, R155). -/
def dueLoops (s : State) (e t : Nat) (fast : Bool) : List Nat :=
  (List.range (loopsOf e)).filter fun j =>
    modeOf s e j != mOff && t % divOf s e j == s.get (LE_LOOP_CTRL_PHASE e j) && (divOf s e j == 1) == fast

/-- Run loops in order while their cost fits; once one does not, it and the rest are skipped: the state, the cycles used and
whether any was skipped (R155). -/
def runDue (e : Nat) (inp : TickIn) (limit : Nat) : State → Nat → List Nat → State × Nat × Bool
  | s, used, [] => (s, used, false)
  | s, used, j :: l =>
    let c := loopCost s e j
    if limit < used + c then (s, used, true)
    else runDue e inp limit (runLoop s e j inp) (used + c) l

/-- A blot stands on a data nib or a ruling nib of pen n, its hold counted (R66, R68, R176). -/
def blotNow (s : State) (n : Nat) : Bool :=
  (List.range 16).any (fun k => (s.nib n k).blotFrom.isSome) || (s.nib n 16).rulBlot.isSome || (s.nib n 17).rulBlot.isSome

/-- A blot stands on the pen, or has stood on it since the last tick (R176, R177). -/
def blotOn (s : State) (n : Nat) : Bool := (s.engine n).blotSeen || blotNow s n

/-- An engine runs no loop: it is in FAULT, or not enabled. -/
def engineIdle (s : State) (e : Nat) : Bool := s.on (LE_STATUS_FAULT e) || !s.on (LE_CTRL_ENABLE e)

/-- The first part of an engine's tick, up to the end of its DIV = 1 loops: the state, the cycles used, the loops due after them, and
whether any was skipped (R154, R155, R156, R168, R170, R177). -/
def engineFast (s : State) (e limit : Nat) (inp : TickIn) : State × Nat × List Nat × Bool :=
  if engineIdle s e then (s, 0, [], false)
  else
    let t := s.get (LE_TICK_TICK e)
    -- a blot since the update was formed
    let s := s.iff inp.blot fun s => s.modEng e fun g => { g with upd := g.upd.map fun u => (u.1, u.2.1, u.2.2.1, u.2.2.2.1, true) }
    -- an OFF loop's boundary is the tick itself
    let s := s.each ((List.range (loopsOf e)).filter fun j => modeOf s e j == mOff) fun s j => (boundary s e j).1
    let rest := dueLoops s e t false
    let (s, used, skipped) := runDue e inp limit s 0 (dueLoops s e t true)
    (s, used, rest, skipped)

/-- The rest of an engine's tick: the loops with DIV above 1 that fit, and the tick's end (R154, R155, R174, R176, R182). -/
def engineRest (e limit : Nat) (inp : TickIn) (a : State × Nat × List Nat × Bool) : State :=
  let (s, used, rest, skipped) := a
  if engineIdle s e then s
  else
    let (s, used, skipped) := if skipped then (s, used, true) else runDue e inp limit s used rest
    let s := s.iff skipped fun s => (s.ev (LE_EVENT_OVERRUN e)).bump (LE_CNT_OVERRUNS e) 1
    let s := s.set (LE_STATUS_LAST_CYCLES e) used
    let s := s.set (LE_PEAK_PEAK_CYCLES e) (max used (s.get (LE_PEAK_PEAK_CYCLES e)))
    -- a slip confirmed during the sample stops learning from the next one
    let s := s.iff ((s.engine e).slipNew) fun s =>
      ((s.set (LE_RC_STAT_SLIP_BLOCK e 0) 1).set (LE_RC_STAT_SLIP_BLOCK e 1) 1).modEng e fun g => { g with slipNew := false }
    let s := expireEchoes s e
    (s.wrap (LE_TICK_TICK e) 1).modEng e fun g => { g with blotSeen := decide (e < 16) && blotNow s e }

/-- A whole tick of an engine that sends nothing on the way (R154). -/
def engineTick (s : State) (e limit : Nat) (inp : TickIn) : State := engineRest e limit inp (engineFast s e limit inp)

/-! ### Requests and whole-engine effects -/

/-- A request of the supervisor or of a commutator for a loop's next boundary (R172, R193). -/
def requestMode (s : State) (e j m : Nat) : State :=
  if j < loopsOf e ∧ !s.on (LE_STATUS_FAULT e) ∧ s.on (LE_CTRL_ENABLE e) then s.modEng e fun g => { g with supReq := g.supReq.insert j m } else s

/-- A loop goes OFF at once. -/
def loopOff (s : State) (e j : Nat) : State := dropRequest (s.set (LE_LOOP_CTRL_MODE_ACT e j) mOff) e j

/-- Every loop of an engine goes OFF. -/
def allOff (s : State) (e : Nat) : State := refreshFast (s.each (List.range (loopsOf e)) fun s j => loopOff s e j) e

/-- Set ENABLE of an engine: t starts at 0; while it is 0 all loops are OFF (PENn_LE_CTRL). -/
def leEnable (s : State) (e : Nat) (set : Bool) : State :=
  if set then s.iff (!s.on (LE_CTRL_ENABLE e)) fun s => (s.set (LE_CTRL_ENABLE e) 1).set (LE_TICK_TICK e) 0
  else allOff (s.set (LE_CTRL_ENABLE e) 0) e

/-! ### The rows -/

/-- The MODE write itself, before what an axis supervisor or a commutator makes of it: a request that R170 refuses from the
mode in force sets CFG_ERR and MODE reads back as MODE_ACT (R170, R172). -/
def modeWrite (s : State) (e j m : Nat) : State :=
  if loopsOf e ≤ j then s
  else
    let f := modeOf s e j
    if !transitionOk f m || (m != mOff && !s.on (LE_CTRL_ENABLE e)) then leCfgErr (dropRequest s e j) e
    else (s.set (LE_LOOP_CTRL_MODE e j) m).modEng e fun g => { g with modeReq := g.modeReq.insert j m }

/-- LOOP_CTRL_WRITE (R156, R496): the fields other than MODE and BANK that the present mode lets a write set. -/
def loopCtrlWrite (e j : Nat) (reg : LoopReg) (v : Nat) (s : State) : State :=
  if loopsOf e ≤ j then s
  else
    let f := modeOf s e j
    match reg with
    | .ctrl =>
      let s := s.set (LE_LOOP_CTRL_CAPTURE e j) (v / 2 ^ 23)
      if f = mOff then (s.set (LE_LOOP_CTRL_PHASE e j) (v / 2 ^ 10)).set (LE_LOOP_CTRL_DIV e j) v
      else s.iff (v / 2 ^ 10 % 1024 != s.get (LE_LOOP_CTRL_PHASE e j) || v % 1024 != s.get (LE_LOOP_CTRL_DIV e j)) fun s => leCfgErr s e
    | .prog =>
      let len := v / 2 ^ 16 % 256
      let start := v % 256
      if f = mOff ∨ f = mManual then
        if f = mManual ∧ divOf s e j = 1 ∧ 100 < fastCycles s e j + programCost (programAt s e start len) then s.ev (LE_EVENT_BUDGET_ERR e)
        else refreshFast ((s.set (LE_LOOP_PROG_LEN e j) len).set (LE_LOOP_PROG_START e j) start) e
      else s.iff (len != s.get (LE_LOOP_PROG_LEN e j) || start != s.get (LE_LOOP_PROG_START e j)) fun s => leCfgErr s e

def execLoopCtrlWrite (e : Fin 17) (j : Fin 32) (reg : LoopReg) (value : Word) (s : State) : Res := .next (s.clocked (engineIsland e) fun s => loopCtrlWrite e j reg value.toNat s)

/-- BANK_WRITE (R168): a bank is requested for the loop's next run; the last write counts. -/
def bankWrite (e j b : Nat) (s : State) : State := if loopsOf e ≤ j then s else s.set (LE_LOOP_CTRL_BANK e j) b

def execBankWrite (e : Fin 17) (j : Fin 32) (bank : Fin 2) (s : State) : Res := .next (s.clocked (engineIsland e) fun s => bankWrite e j bank s)

/-- One 32-bit half of a 64-bit word replaced. -/
def putHalf (old : Nat) (high : Bool) (v : Nat) : Nat := if high then old % 2 ^ 32 + v * 2 ^ 32 else old / 2 ^ 32 * 2 ^ 32 + v

/-- The loop owning word w of a window memory. -/
def ownerOf (e w : Nat) : Nat := w / leWindow e

/-- A loop whose memories a write may not touch (R167). -/
def running (s : State) (e j : Nat) : Bool := !(modeOf s e j == mOff || modeOf s e j == mManual)

/-- LE_MEMORY_WRITE (R167, R169, R495): a program, coefficient or state word half; `inSwitch` says that it comes in the cycle
of the switch that made its bank active. -/
def leMemoryWrite (e : Nat) (mem : LeMem) (i : Nat) (high inSwitch : Bool) (v : Nat) (s : State) : State :=
  match mem with
  | .prog =>
    let covers := fun j => running s e j && decide (s.get (LE_LOOP_PROG_START e j) ≤ i) && decide (i < s.get (LE_LOOP_PROG_START e j) + s.get (LE_LOOP_PROG_LEN e j))
    if 256 ≤ i then s
    else if (List.range (loopsOf e)).any covers then leCfgErr s e
    else refreshFast (s.set (LE_PROG_WORD e i) (putHalf (s.get (LE_PROG_WORD e i)) high v)) e
  | .state => if running s e (ownerOf e i) then leCfgErr s e else s.set (LE_STATE_WORD e i) (putHalf (s.get (LE_STATE_WORD e i)) high v)
  | .coef b =>
    let act := s.get (LE_LOOP_CTRL_ACT_BANK e (ownerOf e i)) == b.val
    if act && (inSwitch || running s e (ownerOf e i)) then leCfgErr s e
    else s.set (LE_COEF_WORD e b i) (putHalf (s.get (LE_COEF_WORD e b i)) high v)

def execLeMemoryWrite (e : Fin 17) (mem : LeMem) (index : Fin 512) (high inSwitch : Bool) (value : Word) (s : State) : Res :=
  .next (s.clocked (engineIsland e) fun s => leMemoryWrite e mem index high inSwitch value.toNat s)

/-- RC_TABLE_WRITE (R179): accepted only while LEARN is 0 and no CLEAR runs; the motion engine has no tables (R183). -/
def rcTableWrite (e t b v : Nat) (s : State) : State :=
  if e = 16 then s
  else if s.on (LE_RC_CTRL_LEARN e t) || s.on (LE_RC_CTRL_CLEAR e t) then leCfgErr s e
  else s.set (LE_RC_BIN e t b) v

def execRcTableWrite (e : Fin 17) (t : Fin 2) (bin : Fin 1024) (value : Word) (s : State) : Res := .next (s.clocked (engineIsland e) fun s => rcTableWrite e t bin value.toNat s)

/-- RC_CLEAR (R179): the table's clear starts; CLEAR reads 1 until it is done. -/
def rcClear (e t : Nat) (s : State) : State :=
  if e = 16 ∨ s.on (LE_RC_CTRL_CLEAR e t) then s
  else modFade (s.set (LE_RC_CTRL_CLEAR e t) 1) e t fun f => { f with kept := [] }

def execRcClear (e : Fin 17) (t : Fin 2) (s : State) : Res := .next (s.clocked (engineIsland e) fun s => rcClear e t s)

/-- Every field stored at an address of a range returns to its reset value. -/
def clearFields (s : State) (a b : Nat) : State := { s with fld := s.fld.filter fun p => !(decide (a * 64 ≤ p.1) && decide (p.1 < b * 64)) }

/-- RC_CLEAR_DONE (R179): the clear finishes: every bin is zero but those written after it had passed them. -/
def rcClearDone (e t : Nat) (s : State) : State :=
  if s.on (LE_RC_CTRL_CLEAR e t) then
    let kept := (fadeOf s e t).kept
    let s := clearFields s (rcFrom e t) (rcFrom e t + 0x1000)
    let s := s.each kept fun s p => s.set (LE_RC_BIN e t p.1) p.2
    let s := modFade s e t fun f => { f with kept := [] }
    (s.set (LE_RC_CTRL_CLEAR e t) 0).ev (LE_EVENT_RC_CLEAR_DONE e)
  else s

def execRcClearDone (e : Fin 17) (t : Fin 2) (s : State) : Res := .next (rcClearDone e t s)

/-- LE_RESET (R181, R182): FAULT is cleared, every loop goes OFF, the state memory is zero; programs, coefficients and tables
stay, and a clear goes on. -/
def leReset (e : Nat) (s : State) : State :=
  let s := allOff (s.set (LE_STATUS_FAULT e) 0) e
  let s := clearFields s (leBase e + 0x2000) (leBase e + 0x3000)
  (s.set (LE_CTRL_RESET e) 0).modEng e fun g => { g with prevOut := [], held := [], upd := [], await := [], late := [], echoed := [] }

def execLeReset (e : Fin 17) (s : State) : Res := .next (s.clocked (engineIsland e) fun s => leReset e s)

/-- An engine enters FAULT (R180, R181): the loop, program word and cycle are recorded; the last commands stand. -/
def engineFault (s : State) (e loop word cycle : Nat) (ecc : Bool) : State :=
  let s := ((s.set (LE_FAULT_LOOP e) loop).set (LE_FAULT_ADDR e) word).set (LE_FAULT_CYCLE e) cycle
  let s := s.set (LE_FAULT_ECC e) (if ecc then 1 else 0)
  ((s.set (LE_STATUS_FAULT e) 1).ev (LE_EVENT_LOCKSTEP e)).modEng e fun g => { g with modeReq := [], supReq := [] }

end Sys2Proof.Machine
end

