-- ==== Sys2Proof/Machine/Servo.lean ====
section
/-!
DEFINITION. Error front end and axis supervisor of each pen (chapter 07), the tick of a Loop Engine with what comes about in
it, and the writes of a loop's MODE.
-/

namespace Sys2Proof.Machine

/-! ### State codes (PENn_SV_STATUS) -/

/-- Focus OFF. -/
abbrev fOff : Nat := 0
/-- Focus APPROACH. -/
abbrev fApproach : Nat := 1
/-- Focus SWEEP. -/
abbrev fSweep : Nat := 2
/-- Focus LOCKING. -/
abbrev fLocking : Nat := 3
/-- Focus LOCKED. -/
abbrev fLocked : Nat := 4
/-- Focus JUMP. -/
abbrev fJump : Nat := 5
/-- Focus HOLD. -/
abbrev fHold : Nat := 6
/-- Focus RETRACT. -/
abbrev fRetract : Nat := 7
/-- Focus LOST. -/
abbrev fLost : Nat := 8
/-- Tracking OFF. -/
abbrev tOff : Nat := 0
/-- Tracking WAIT. -/
abbrev tWait : Nat := 1
/-- Tracking LOCKING. -/
abbrev tLocking : Nat := 2
/-- Tracking LOCKED. -/
abbrev tLocked : Nat := 3
/-- Tracking JUMP. -/
abbrev tJump : Nat := 4
/-- Tracking HOLD. -/
abbrev tHold : Nat := 5
/-- Tracking LOST. -/
abbrev tLost : Nat := 6

/-- FOCUS_STATE of pen n. -/
def focusOf (s : State) (n : Nat) : Nat := s.get (SV_STATUS_FOCUS_STATE n)

/-- TRACK_STATE of pen n. -/
def trackOf (s : State) (n : Nat) : Nat := s.get (SV_STATUS_TRACK_STATE n)

/-- Focus takes a state; leaving LOCKED stops the pen's burns (R202). -/
def setFocus (s : State) (n st : Nat) : State :=
  let was := focusOf s n
  let s := (s.set (SV_STATUS_FOCUS_STATE n) st).set (SV_STATUS_F_LOCKED n) (if st = fLocked then 1 else 0)
  s.iff (was == fLocked && st != fLocked) fun s => abortBurns s n

/-- Tracking takes a state; leaving LOCKED stops the pen's burns (R202). -/
def setTrack (s : State) (n st : Nat) : State :=
  let was := trackOf s n
  let s := (s.set (SV_STATUS_TRACK_STATE n) st).set (SV_STATUS_T_LOCKED n) (if st = tLocked then 1 else 0)
  s.iff (was == tLocked && st != tLocked) fun s => abortBurns s n

/-- An axis is taken from the supervisor: bit 0 focus, 1 tracking, 2 yaw, 3 tilt, 4 aberration, 5 sled follow (R203). -/
def takenBit (s : State) (n axis : Nat) : Bool := (s.sup n).taken.testBit axis

/-- The loop PENn_SV_MAP names for an axis. -/
def axisLoop (s : State) (n axis : Nat) : Nat :=
  match axis with
  | 0 => s.get (SV_MAP_FOCUS n)
  | 1 => s.get (SV_MAP_TRACK n)
  | 2 => s.get (SV_MAP_YAW n)
  | 3 => s.get (SV_MAP_TILT n)
  | 4 => s.get (SV_MAP_SA n)
  | _ => s.get (SV_MAP_SLED n)

/-- The supervisor requests a mode of an axis: not of one taken from it, and never of a loop in SHADOW (R203). -/
def supRequest (s : State) (n axis m : Nat) : State :=
  let j := axisLoop s n axis
  if takenBit s n axis || modeOf s n j == mShadow then s else requestMode s n j m

/-- The supervisor moves an axis's MAN_VALUE. -/
def supMan (s : State) (n axis : Nat) (v : Int) : State :=
  let j := axisLoop s n axis
  let v := clampInt qMin qMax v
  let s := s.iff (axis == 0) fun s => s.modSup n fun u => { u with man := v }
  if takenBit s n axis || modeOf s n j == mShadow then s else s.set (LE_LOOP_MAN_MAN_VALUE n j) (ofSigned 32 v)

/-- The last output of an axis's loop. -/
def axisOut (s : State) (n axis : Nat) : Int := q31 s (LE_LOOP_OUT_OUT n (axisLoop s n axis))

/-- An axis goes to MANUAL at its last output. -/
def toManualHere (s : State) (n axis : Nat) : State := supRequest (supMan s n axis (axisOut s n axis)) n axis mManual

/-! ### The error front end (R185 to R187, R191, R192) -/

/-- SUM_REF as a fraction: 0.5 until a sum has been averaged (R187). -/
def sumRef (s : State) (n : Nat) : Nat × Nat :=
  match (s.sup n).sums with
  | [] => (2 ^ 30, 1)
  | l => (l.foldl (· + ·) 0, l.length)

/-- A sum lies below k/16 of SUM_REF. -/
def belowRef (s : State) (n k sum : Nat) : Bool := decide (sum * 16 * (sumRef s n).2 < k * (sumRef s n).1)

/-- Parts of a servo window, sets of a part, and samples of the window (R185, R262). -/
def servoParts (s : State) (n : Nat) : Nat := if isN1 s n then 25 else 20
/-- Element samples in a servo window (R185). -/
def servoSamples (s : State) (n : Nat) : Nat := if isN1 s n then 250 else 500

/-- The errors of one data nib (R185). -/
structure NibErr where
  sum : Nat
  fe : Int
  te : Int
  rt : Int
  sa : Int
  deriving DecidableEq, Repr

/-- A ratio in Q1.31; a zero sum gives 0 (R185). -/
def ratioQ (s : State) (a : Int) (d : Nat) : Int × State :=
  if d = 0 then (0, s) else let (v, s) := s.divFree (a * 2 ^ 31) d; (clampInt qMin qMax v, s)

/-- The quantities of R185 for nib k from its element sums. -/
def nibErr (s : State) (n k : Nat) : NibErr × State :=
  let el := fun i => (s.sup n).acc.getD (8 * k + i) 0
  let z := fun i => ((el i : Nat) : Int)
  let n1 := isN1 s n
  let core := el 0 + el 1 + el 2 + el 3
  let ann := if n1 then el 4 + el 5 else el 4 + el 5 + el 6 + el 7
  let (fe, s) := ratioQ s (z 0 + z 2 - z 1 - z 3) core
  let (te, s) := ratioQ s (z 0 + z 3 - z 1 - z 2) core
  let (rt, s) := ratioQ s (if n1 then z 4 - z 5 else z 4 + z 7 - z 5 - z 6) ann
  let (sa, s) := if n1 then (0, s) else ratioQ s (z 4 + z 6 - z 5 - z 7) ann
  ({ sum := core, fe := fe, te := te, rt := if ann = 0 then 0 else clampInt qMin qMax (rt - te),
     sa := if n1 ∨ ann = 0 then 0 else clampInt qMin qMax (sa - fe) }, s)

/-- The errors of every data nib. -/
def nibErrs (s : State) (n : Nat) : List NibErr × State :=
  (List.range (dataNibs s n)).foldl (fun (l, s) k => let (e, s) := nibErr s n k; (l ++ [e], s)) ([], s)

/-- Mean of a quantity over the usable nibs, in Q1.31. -/
def meanQ (s : State) (l : List Int) : Int × State :=
  let (v, s) := s.divFree (l.foldl (· + ·) 0) l.length
  (clampInt qMin qMax v, s)

/-- The per-nib servo registers (R204). -/
def putNibRegs (s : State) (n : Nat) (errs : List NibErr) (usable : List Nat) : State :=
  s.each (List.range errs.length) fun s k =>
    match errs[k]? with
    | none => s
    | some e =>
      let (fe, s) := s.divFree e.fe (2 ^ 16)
      let (te, s) := s.divFree e.te (2 ^ 16)
      let (sum, s) := s.divFree ((e.sum * 2 ^ 16 : Nat) : Int) (4 * 4095 * servoSamples s n)
      let s := (s.set (SV_NIB_ERR_FE n k) (ofSigned 16 (clampInt (-(2 ^ 15)) (2 ^ 15 - 1) fe))).set (SV_NIB_ERR_TE n k) (ofSigned 16 (clampInt (-(2 ^ 15)) (2 ^ 15 - 1) te))
      (s.set (SV_NIB_SUM_SUM n k) (min (2 ^ 16 - 1) sum.toNat)).set (SV_NIB_SUM_USED n k) (if usable.contains k then 1 else 0)

/-- A tick begins: a capture made before it ends takes the values of the last completed one (R203). -/
def beginTick (s : State) (n : Nat) : State :=
  s.iff ((s.sup n).sample.isNone) fun s => s.modSup n fun u => { u with before := s.fld.filter (captured? (leBase n)) }

/-- A servo window completes: the array errors, the causes of an invalid tick and the sample that waits for its tick
(R43, R186, R187, R192). -/
def formSample (s : State) (n window : Nat) : State :=
  let (errs, s) := nibErrs (beginTick s n) n
  let at' := fun k => errs.getD k { sum := 0, fe := 0, te := 0, rt := 0, sa := 0 }
  let used := (List.range errs.length).filter fun k => (s.get (SV_CTRL_NIB_USE n)).testBit k
  let total := used.foldl (fun t k => t + (at' k).sum) 0
  let usable := used.filter fun k => decide (s.get (SV_LEVELS_NIB_MIN n) * total ≤ (at' k).sum * 16 * used.length)
  let m := usable.length
  let s := putNibRegs s n errs usable
  let (fe, s) := meanQ s (usable.map fun k => (at' k).fe)
  let (te, s) := meanQ s (usable.map fun k => (at' k).te)
  let (rt, s) := meanQ s (usable.map fun k => (at' k).rt)
  let (sa, s) := meanQ s (usable.map fun k => (at' k).sa)
  let ksum : Nat := usable.foldl (· + ·) 0
  let dev := fun k => ((m * k : Nat) : Int) - (ksum : Int)
  let num : Int := usable.foldl (fun t k => t + dev k * (at' k).te) 0
  let den : Int := usable.foldl (fun t k => t + dev k * dev k) 0
  let (ye, s) := s.divFree ((m : Int) * num) den.toNat
  let ye := clampInt qMin qMax ye
  let (sum, s) := s.divFree (((usable.foldl (fun t k => t + (at' k).sum) 0) * 2 ^ 31 : Nat) : Int) (m * (4 * 4095 * servoSamples s n))
  let sum := sum.toNat
  let ref := sumRef s n
  let (e5, s) := s.divFree ((sum * 2 ^ 31 * ref.2 : Nat) : Int) ref.1
  let sel := at' (s.get (SV_SEL_NIB n))
  let stall := (s.sup n).lastWindow == some window
  let alive := (s.get (LK_FLAGS_FLAGS n)).testBit 15
  let few := decide (m < max 1 (s.get (SV_CTRL_MIN_NIBS n)))
  let low := m != 0 && belowRef s n (s.get (SV_LEVELS_SUM_HOLD n)) sum
  let cause := (if stall then 2 else 0) + (if alive then 0 else 4) + (if linkUp s n then 0 else 8) + (if low then 16 else 0) + (if few then 32 else 0)
  let new := [fe, te, ye, rt, sa, clampInt qMin qMax e5, toSigned 16 (s.link n).lens * 2 ^ 16, sel.fe, sel.te]
  s.modSup n fun u =>
    { u with
      sample := some { cause := cause, sum := if m = 0 then none else some sum, fe := fe, te := te, usable := m, window := window,
                       bin := if s.on (RUL_STATUS_ANGLE_VALID n) then some (s.get (RUL_ANGLE_BIN n)) else none }
      lastWindow := some window, noPacket := false, errs := if cause = 0 then new else u.errs, parts := [], acc := [] }

/-- Add a nib's element sets of one packet to its sums. -/
def addSets (acc : Store Nat) (k : Nat) (sets : List (List Nat)) : Store Nat :=
  sets.foldl (fun acc set => (List.range set.length).foldl (fun acc i => acc.set (8 * k + i) 0 (acc.getD (8 * k + i) 0 + set.getD i 0 % 4096)) acc) acc

/-- The element samples of a packet reach the Blotters of the data nibs that are on (R65, R67). -/
def blotSums (s : State) (n : Nat) (sets : List (List (List Nat))) : State :=
  s.each ((List.range (dataNibs s n)).filter (nibOn s n)) fun s k =>
    s.modNib n k fun b => ((sets.getD k []).map fun l => l.foldl (fun t v => t + v % 4096) 0).foldl (pushElement (servoSamples s n)) b

/-- SERVO (R65, R153, R185 to R187, R192, R262, R265, R279): a SERVO packet with a part of a servo window: for each nib its element
sets, and on N2 its 32-bit status word. The last part closes the window; one that has lost a part does not complete. -/
def servo (n header : Nat) (words : List Nat) (sets : List (List (List Nat))) (s : State) : State :=
  let part := pktPart header
  let window := pktWindow header
  if pktType header ≠ 3 then s else
  let s := s.iff (receiving s n && decide (part < servoParts s n)) fun s =>
    let s := blotSums (notePkt s n 96 (window * servoParts s n + part) (65536 * servoParts s n)) n sets
    s.iff (!isN1 s n) fun s => s.modLink n fun l => { l with nibWords := words.take 16 }
  if receiving s n ∧ s.on (SV_CTRL_ENABLE n) ∧ part < servoParts s n then
    let s := s.iff ((s.sup n).window != window || part == 0) fun s => s.modSup n fun u => { u with window := window, parts := [], acc := [] }
    let s := s.modSup n fun u =>
      { u with parts := u.parts ++ [part]
               acc := (List.range (dataNibs s n)).foldl (fun acc k => addSets acc k (sets.getD k [])) u.acc }
    if part + 1 = servoParts s n then
      if (s.sup n).parts = List.range (servoParts s n) then formSample s n window
      else s.modSup n fun u => { u with parts := [], acc := [] }
    else s
  else s

def execServo (n : Fin 16) (header : PktHeader) (words : List Word) (sets : List (List (List Nat))) (s : State) : Res :=
  .next (servo n header.toNat (words.map BitVec.toNat) sets s)

/-- INVALID_TICK (R191, R192): no servo sample within 4.2 µs of the previous tick, or 4.0 µs more without one: a tick marked
invalid, whose ERR inputs repeat. -/
def invalidTick (n elapsedNs : Nat) (s : State) : State :=
  let u := s.sup n
  if s.on (SV_CTRL_ENABLE n) ∧ u.sample = none ∧ (4200 ≤ elapsedNs ∨ (u.noPacket = true ∧ 4000 ≤ elapsedNs)) then
    let alive := (s.get (LK_FLAGS_FLAGS n)).testBit 15
    let cause := 1 + (if alive then 0 else 4) + (if linkUp s n then 0 else 8)
    (beginTick s n).modSup n fun u =>
      { u with noPacket := true
               sample := some { cause := cause, usable := s.get (SV_STATUS_USABLE n), window := u.lastWindow.getD 0
                                bin := if s.on (RUL_STATUS_ANGLE_VALID n) then some (s.get (RUL_ANGLE_BIN n)) else none } }
  else s

def execInvalidTick (n : Fin 16) (elapsedNs : Nat) (s : State) : Res := .next (invalidTick n elapsedNs s)

/-! ### The supervisor's states -/

/-- |v| below a threshold in 2^−16 of full scale. -/
def within (v : Int) (th : Nat) : Bool := decide ((if v < 0 then -v else v) < ((th * 2 ^ 15 : Nat) : Int))

/-- A Q1.15 register as Q1.31. -/
def q15 (v : Nat) : Int := toSigned 16 v * 2 ^ 16

/-- The tick carries a measured sample: invalid, if at all, for SUM_LOW or FEW_NIBS only, with a usable nib (R196). -/
def measured (p : Sample) : Bool := p.sum.isSome && p.cause % 16 == 0

/-- Tracking enters WAIT, where the next crossing counts from this tick's TE on; with TRK_AUTO = 0 it reads OFF, in MANUAL at its last
output (R197, R497). -/
def enterWait (s : State) (n : Nat) : State :=
  if takenBit s n 1 then s
  else if s.on (SV_CTRL_TRK_AUTO n) then
    supRequest ((setTrack s n tWait).modSup n fun u => { u with waitNext := false }) n 1 mManual
  else setTrack (toManualHere s n 1) n tOff

/-- Focus has become LOCKED again: tracking that reads OFF or LOST enters WAIT (R197, R497). -/
def onLocked (s : State) (n : Nat) : State :=
  s.iff (trackOf s n == tOff || trackOf s n == tLost) fun s => enterWait s n

/-- Tracking slips: MANUAL at its last output, TRACK_SLIP, and WAIT again if TRK_AUTO = 1 (R197, R200, R497). -/
def slipTrack (s : State) (n : Nat) : State :=
  let s := (toManualHere s n 1).ev (SV_EVENT_TRACK_SLIP n)
  let s := (s.set (SV_TJUMP_START n) 0).modSup n fun u => { u with tjump := .none, tjSlip := false, slipRun := 0, trackRun := 0 }
  setTrack s n (if s.on (SV_CTRL_TRK_AUTO n) then tWait else tOff)

/-- Focus and tracking enter HOLD on an invalid tick (R193, R194, R196, R197, R200). -/
def enterHold (s : State) (n : Nat) : State :=
  let was := focusOf s n
  let s := s.modSup n fun u => { u with resumeRun := 0, escapeRun := 0, fromLocking := was == fLocking }
  let s := supRequest ((setFocus s n fHold).set (SV_GAP_GAP n) 1) n 0 mHold
  let s := (s.ev (SV_EVENT_HOLD n)).bump (SV_CNT_HOLDS n) 1
  let t := trackOf s n
  if t = tLocking ∨ t = tLocked then
    supRequest (setTrack (s.modSup n fun u => { u with heldTrack := t, trackRun := 0, slipRun := 0 }) n tHold) n 1 mHold
  else s

/-- Focus enters RETRACT (R194, R497). -/
def enterRetract (s : State) (n : Nat) : State :=
  let s := ((setFocus s n fRetract).set (SV_GAP_GAP n) 0).bump (SV_CNT_RETRACTS n) 1
  let s := toManualHere s n 0
  let s := s.modSup n fun u => { u with jump := .none, jumpEnd := false, jumpFail := false, tjump := .none, tjSlip := false, waitNext := false }
  let s := ((s.set (SV_ACQ_START n) 0).set (SV_JUMP_START n) 0).set (SV_TJUMP_START n) 0
  if takenBit s n 1 then s else setTrack (toManualHere s n 1) n tLost

/-- The signed direction of a layer jump: + for deeper. -/
def jumpSign (s : State) (n : Nat) : Int := if s.on (SV_JUMP_DIR n) then -1 else 1

/-- A layer jump's Prepare phase and the first tick of its KICK (R199). -/
def jumpPrepare (s : State) (n : Nat) : State :=
  let base := axisOut s n 0
  let t := trackOf s n
  let s := s.iff (t == tLocking || t == tLocked) fun s =>
    supRequest (setTrack (s.modSup n fun u => { u with heldTrack := t, trackRun := 0, slipRun := 0 }) n tHold) n 1 mHold
  let s := s.modSup n fun u => { u with jump := .kick, jumpBase := base, jumpTicks := 1, jumpEnd := false, jumpFail := false }
  supMan (supRequest s n 0 mManual) n 0 (base + jumpSign s n * q15 (s.get (SV_JUMP_CFG_KICK n)))

/-- The signed count of a track jump. -/
def tjCount (s : State) (n : Nat) : Int := toSigned 9 (s.get (SV_TJUMP_COUNT n))

/-- Kick of a track jump in its direction, Q1.31. -/
def tjKick (s : State) (n : Nat) : Int := (if tjCount s n < 0 then -1 else 1) * ((s.get (SV_TJUMP_TKICK n) * 2 ^ 23 : Nat) : Int)

/-- A track jump's first tick (R200). -/
def tjumpPrepare (s : State) (n : Nat) : State :=
  let base := axisOut s n 1
  let s := s.modSup n fun u => { u with tjump := .kick, tjBase := base, tjTicks := 1, tjCrossings := 0, tjSlip := false }
  supMan (supRequest s n 1 mManual) n 1 (base + tjKick s n)

/-- TE crosses zero at a track centre in a direction: + outward (R200). -/
def teCrosses (last : Option Int) (te : Int) (outward : Bool) : Bool :=
  match last with
  | none => false
  | some l => if outward then decide (l < 0 ∧ 0 ≤ te) else decide (0 < l ∧ te ≤ 0)

/-- A tick of a track jump (R200). -/
def tjumpTick (s : State) (n : Nat) (p : Sample) : State :=
  let u := s.sup n
  if u.tjump = .prepare then tjumpPrepare s n
  else if p.cause ≠ 0 then s.modSup n fun u => { u with tjSlip := true }
  else
    let want := (tjCount s n).natAbs
    let c := u.tjCrossings + (if teCrosses u.lastTe p.te (decide (0 < tjCount s n)) then 1 else 0)
    let s := s.modSup n fun u => { u with tjCrossings := c }
    if want ≤ c then s
    else
      match u.tjump with
      | .kick =>
        if (want + 1) / 2 ≤ c then supMan (s.modSup n fun u => { u with tjump := .brake }) n 1 (u.tjBase - tjKick s n)
        else s.modSup n fun u => { u with tjTicks := u.tjTicks + 1 }
      | .brake =>
        if u.tjTicks ≤ 1 then supMan (s.modSup n fun u => { u with tjump := .wait, tjTicks := 0 }) n 1 u.tjBase
        else s.modSup n fun u => { u with tjTicks := u.tjTicks - 1 }
      | .wait => s.modSup n fun u => { u with tjTicks := u.tjTicks + 1, tjSlip := decide (64 ≤ u.tjTicks + 1) }
      | _ => s

/-- A tick of a layer jump (R199). -/
def jumpTick (s : State) (n : Nat) (p : Sample) : State :=
  let u := s.sup n
  let low := measured p && belowRef s n (s.get (SV_LEVELS_SUM_HOLD n)) (p.sum.getD 0)
  if p.cause % 16 + p.cause / 32 * 32 ≠ 0 then s.modSup n fun u => { u with jumpFail := true }
  else if u.jump = .prepare then jumpPrepare s n
  else
    match u.jump with
    | .kick =>
      if low then s.modSup n fun u => { u with jumpEnd := true }
      else if s.get (SV_JUMP_LIM_KICK_MAX n) ≤ u.jumpTicks then s.modSup n fun u => { u with jumpFail := true }
      else s.modSup n fun u => { u with jumpTicks := u.jumpTicks + 1 }
    | .brake => s.modSup n fun u => { u with jumpTicks := u.jumpTicks - 1, jumpEnd := decide (u.jumpTicks ≤ 1) }
    | .catching =>
      let crossed := measured p && decide (s.get (SV_LEVELS_SUM_ON n) * 2 ^ 23 ≤ p.sum.getD 0) && teCrosses u.lastFe p.fe (decide (0 < jumpSign s n))
      if crossed then s.modSup n fun u => { u with jumpEnd := true }
      else s.modSup n fun u => { u with jumpTicks := u.jumpTicks + 1, jumpFail := decide (s.get (SV_JUMP_LIM_CATCH_MAX n) ≤ u.jumpTicks + 1) }
    | .settle =>
      let k := u.jumpTicks + (if p.cause == 0 && within p.fe (s.get (SV_FWIN_LOCK n)) then 1 else 0)
      s.modSup n fun u => { u with jumpTicks := k, jumpEnd := decide (s.get (SV_JUMP_LIM_SETTLE n) ≤ k) }
    | _ => s

/-- Tracking on a tick, whatever focus does; WAIT looks for its crossing with focus LOCKED alone, and the other runs count consecutive
valid ticks (R197, R200, R497). -/
def trackTick (s : State) (n : Nat) (p : Sample) : State :=
  let u := s.sup n
  let t := trackOf s n
  if p.cause ≠ 0 then s.modSup n fun u => { u with trackRun := 0, slipRun := 0 }
  else if t = tWait then s.modSup n fun u => { u with teCapture := focusOf s n == fLocked && teCrosses u.lastTe p.te false }
  else if t = tLocking then s.modSup n fun u => { u with trackRun := if within p.te (s.get (SV_TWIN_LOCK n)) then u.trackRun + 1 else 0 }
  else if t = tLocked then s.modSup n fun u => { u with slipRun := if within p.te (s.get (SV_TWIN_CAPTURE n)) then 0 else u.slipRun + 1 }
  else if t = tJump ∧ u.tjump ≠ .prepare then tjumpTick s n p
  else s

/-- A tick in HOLD (R193). -/
def holdTick (s : State) (n : Nat) (p : Sample) : State :=
  let s := s.set (SV_GAP_GAP n) (min 0xFFFF (s.get (SV_GAP_GAP n) + 1))
  if p.cause ≠ 0 then s.modSup n fun u => { u with resumeRun := 0, escapeRun := 0 }
  else if within p.fe (s.get (SV_FWIN_CAPTURE n)) && within p.te (s.get (SV_TWIN_CAPTURE n)) then
    s.modSup n fun u => { u with resumeRun := u.resumeRun + 1, escapeRun := 0 }
  else s.modSup n fun u => { u with resumeRun := 0, escapeRun := u.escapeRun + 1 }

/-- RETRACT_POS and START_POS in Q1.31. -/
def retractPos (s : State) (n : Nat) : Int := q15 (s.get (SV_POS_RETRACT_POS n))
/-- START_POS in Q1.31. -/
def startPos (s : State) (n : Nat) : Int := q15 (s.get (SV_POS_START_POS n))

/-- A tick of SWEEP: the S-curves, and the ramp unless this crossing is the one sought (R196). -/
def sweepTick (s : State) (n : Nat) (p : Sample) : State :=
  let u := s.sup n
  let crossed := measured p && decide (s.get (SV_LEVELS_SUM_ON n) * 2 ^ 23 ≤ p.sum.getD 0) && teCrosses u.lastFe p.fe true
  let c := u.curves + (if crossed then 1 else 0)
  let found := crossed && c == s.get (SV_ACQ_LAYER n) + 1
  let s := (s.set (SV_STATUS_LAYER_CNT n) (min 15 c)).modSup n fun u => { u with curves := c, capture := found }
  s.iff (!found) fun s => supMan s n 0 (u.man + ((s.get (SV_SWEEP_SWEEP_STEP n) : Nat) : Int))

/-- The supervisor's evaluation of the sample that waits for its tick, once (R193, R194, R196 to R200). What has a row of its
own is decided by that row, in the same tick. -/
def supEval (s : State) (n : Nat) : State :=
  match (s.sup n).sample with
  | none => s
  | some p =>
    if p.seen then s
    else
      let s := s.modSup n fun u => { u with sample := some { p with seen := true }, capture := false, teCapture := false }
      let s := s.set (SV_STATUS_USABLE n) p.usable
      let s := s.iff (p.cause != 0) fun s => s.set (SV_GAP_CAUSE n) p.cause
      let s := s.iff (p.cause == 0 && focusOf s n == fLocked) fun s => s.modSup n fun u => { u with sums := (p.sum.getD 0 :: u.sums).take 1024 }
      if !s.on (SV_CTRL_SUP_EN n) then s
      else
        let s := s.iff ((s.sup n).waitNext) fun s =>
          if trackOf s n = tOff ∧ focusOf s n = fLocked then enterWait s n else s.modSup n fun u => { u with waitNext := false }
        let f := focusOf s n
        let jumping := trackOf s n == tJump
        let s :=
          if f = fLocked then s.iff (p.cause != 0) fun s => enterHold s n
          else if f = fLocking then
            if p.cause ≠ 0 then enterHold s n
            else s.modSup n fun u => { u with lockTicks := u.lockTicks + 1, lockRun := if within p.fe (s.get (SV_FWIN_LOCK n)) then u.lockRun + 1 else 0 }
          else if f = fHold then holdTick s n p
          else if f = fRetract then
            let v := (s.sup n).man - ((s.get (SV_RETRACT_RAMP_STEP n) : Nat) : Int)
            supMan s n 0 (if (s.sup n).man ≤ retractPos s n then (s.sup n).man else if v < retractPos s n then retractPos s n else v)
          else if f = fApproach then
            let step := ((s.get (SV_RETRACT_RAMP_STEP n) : Nat) : Int)
            supMan s n 0 (clampInt ((s.sup n).man - step) ((s.sup n).man + step) (startPos s n))
          else if f = fSweep then sweepTick s n p
          else if f = fJump then jumpTick s n p
          else s
        let s := trackTick s n p
        -- an invalid tick ends a track jump, whatever focus does
        let s := s.iff (jumping && p.cause != 0) fun s => s.modSup n fun u => { u with tjSlip := true, tjump := .wait }
        let s := s.iff (jumping && (s.sup n).tjump == .prepare && p.cause == 0) fun s => tjumpPrepare s n
        s.modSup n fun u => { u with lastFe := if measured p then some p.fe else u.lastFe, lastTe := if p.cause = 0 then some p.te else u.lastTe }

/-- Yaw, tilt, aberration and sled follow are held and resumed; a loop asked back to AUTO that has not run since is held again
(R194, R199 to R201). -/
def supAux (s : State) (n : Nat) : State :=
  if !s.on (SV_CTRL_SUP_EN n) then s
  else
    let f := focusOf s n
    let t := trackOf s n
    let hold := !(f == fLocked && t == tLocked)
    let sled := f == fJump || f == fHold || f == fRetract || f == fLost || t == tJump
    let s := s.each [0, 1, 2, 3] fun s i =>
      let want := if i = 3 then sled else hold
      let held := (s.sup n).auxHeld.testBit i
      if takenBit s n (i + 2) then s
      else if want && !held && (modeOf s n (axisLoop s n (i + 2)) == mAuto || (s.engine n).supReq.find? (axisLoop s n (i + 2)) == some mAuto) then
        supRequest (s.modSup n fun u => { u with auxHeld := u.auxHeld ||| 2 ^ i }) n (i + 2) mHold
      else if !want && held then
        supRequest (s.modSup n fun u => { u with auxHeld := u.auxHeld ^^^ 2 ^ i }) n (i + 2) mAuto
      else s
    s.set (SV_STATUS_AUX_HOLD n) (if (s.sup n).auxHeld % 8 = 0 then 0 else 1)

/-- The mode that the state of focus (axis 0) or tracking (axis 1) asks of its loop, where it is not AUTO (R193 to R200). -/
def stateMode (s : State) (n axis : Nat) : Option Nat :=
  let u := s.sup n
  if axis = 0 then
    let f := focusOf s n
    if f = fHold then some mHold
    else if f = fRetract ∨ f = fLost ∨ f = fApproach ∨ f = fSweep ∨ (f = fJump ∧ (u.jump = .kick ∨ u.jump = .brake ∨ u.jump = .catching)) then some mManual
    else none
  else
    let t := trackOf s n
    if t = tHold then some mHold
    else if t = tWait ∨ t = tLost ∨ (t = tJump ∧ (u.tjump = .kick ∨ u.tjump = .brake ∨ u.tjump = .wait)) then some mManual
    else none

/-- A loop that a takeover has brought into AUTO is asked for the mode of the state its supervisor has been computing all along (R203,
R396): HOLD, or MANUAL, focus at the value its supervisor has reached and tracking at its last output. -/
def supAssert (s : State) (n : Nat) : State :=
  if !s.on (SV_CTRL_SUP_EN n) then s
  else
    s.each [0, 1] fun s axis =>
      let j := axisLoop s n axis
      if (s.sup n).tookOver.testBit axis && modeOf s n j == mAuto then
        let s := s.modSup n fun u => { u with tookOver := u.tookOver ^^^ 2 ^ axis }
        match stateMode s n axis with
        | none => s
        | some m => supRequest (s.iff (m == mManual) fun s => supMan s n axis (if axis = 0 then (s.sup n).man else axisOut s n 1)) n axis m
      else s

/-! ### The rows that end a state -/

/-- RESUME_N, where 0 acts as 1. -/
def resumeN (s : State) (n : Nat) : Nat := max 1 (s.get (SV_GAPS_RESUME_N n))

/-- RESUME (R171, R194, R195): the resume run is complete; focus and tracking return to AUTO. -/
def resume (n : Nat) (s : State) : State :=
  let s := supEval s n
  if focusOf s n = fHold ∧ resumeN s n ≤ (s.sup n).resumeRun then
    let s := supRequest ((setFocus s n fLocked).set (SV_GAP_GAP n) 0) n 0 mAuto
    let s := (s.ev (SV_EVENT_RESUME n)).modSup n fun u => { u with resumeRun := 0, escapeRun := 0 }
    if trackOf s n = tHold then
      supRequest (setTrack (s.modSup n fun u => { u with heldTrack := 0 }) n ((s.sup n).heldTrack)) n 1 mAuto
    else if (s.sup n).fromLocking ∧ trackOf s n ≠ tWait then enterWait s n
    else onLocked s n
  else s

def execResume (n : Fin 16) (s : State) : Res := .next (resume n s)

/-- ESCAPE_RETRACT (R194): the escape run is complete. -/
def escapeRetract (n : Nat) (s : State) : State :=
  let s := supEval s n
  if focusOf s n = fHold ∧ resumeN s n ≤ (s.sup n).escapeRun then enterRetract s n else s

def execEscapeRetract (n : Fin 16) (s : State) : Res := .next (escapeRetract n s)

/-- The resume condition is complete on this tick: it wins over a gap limit (R195). -/
def resuming (s : State) (n : Nat) : Bool := decide (resumeN s n ≤ (s.sup n).resumeRun)

/-- COLLAPSE_RETRACT (R194, R195): the gap has reached SHORT_GAP on a measured sum below SUM_COLLAPSE/16 of SUM_REF. -/
def collapseRetract (n : Nat) (s : State) : State :=
  let s := supEval s n
  match (s.sup n).sample with
  | none => s
  | some p =>
    if focusOf s n = fHold ∧ resuming s n = false ∧ max 1 (s.get (SV_GAPS_SHORT_GAP n)) ≤ s.get (SV_GAP_GAP n) ∧ measured p = true
        ∧ belowRef s n (s.get (SV_LEVELS_SUM_COLLAPSE n)) (p.sum.getD 0) = true then enterRetract s n
    else s

def execCollapseRetract (n : Fin 16) (s : State) : Res := .next (collapseRetract n s)

/-- LONG_GAP (R194, R195): the gap has reached LONG_GAP. -/
def longGap (n : Nat) (s : State) : State :=
  let s := supEval s n
  if focusOf s n = fHold ∧ resuming s n = false ∧ max 1 (s.get (SV_GAPS_LONG_GAP n)) ≤ s.get (SV_GAP_GAP n) then enterRetract s n else s

def execLongGap (n : Fin 16) (s : State) : Res := .next (longGap n s)

/-- RETRACT_END (R194, R195): MAN_VALUE has reached RETRACT_POS. -/
def retractEnd (n : Nat) (s : State) : State :=
  let s := supEval s n
  if focusOf s n = fRetract ∧ (s.sup n).man ≤ retractPos s n then (setFocus s n fLost).ev (SV_EVENT_LOST n) else s

def execRetractEnd (n : Fin 16) (s : State) : Res := .next (retractEnd n s)

/-- APPROACH_DONE (R196): MAN_VALUE has reached START_POS. -/
def approachDone (n : Nat) (s : State) : State :=
  let s := supEval s n
  if focusOf s n = fApproach ∧ (s.sup n).man = startPos s n then
    setFocus (s.modSup n fun u => { u with curves := 0, capture := false }) n fSweep
  else s

def execApproachDone (n : Fin 16) (s : State) : Res := .next (approachDone n s)

/-- SWEEP_CAPTURE (R196): the target S-curve's crossing closes the loop, preset to MAN_VALUE; MAN_VALUE at +1.0 fails. -/
def sweepCapture (n : Nat) (s : State) : State :=
  let s := supEval s n
  if focusOf s n ≠ fSweep then s
  else if (s.sup n).capture then
    let s := (s.set (SV_ACQ_START n) 0).modSup n fun u => { u with capture := false, lockRun := 0, lockTicks := 0 }
    supRequest (setFocus s n fLocking) n 0 mAuto
  else if qMax ≤ (s.sup n).man then (enterRetract s n).ev (SV_EVENT_ACQ_FAIL n)
  else s

def execSweepCapture (n : Fin 16) (s : State) : Res := .next (sweepCapture n s)

/-- F_LOCK (R196, R197): 64 consecutive valid ticks inside FWIN.LOCK, or 2,500 ticks without them. -/
def fLock (n : Nat) (s : State) : State :=
  let s := supEval s n
  if focusOf s n ≠ fLocking then s
  else if 64 ≤ (s.sup n).lockRun then enterWait ((setFocus s n fLocked).ev (SV_EVENT_F_LOCK n)) n
  else if 2500 ≤ (s.sup n).lockTicks then (enterRetract s n).ev (SV_EVENT_ACQ_FAIL n)
  else s

def execFLock (n : Fin 16) (s : State) : Res := .next (fLock n s)

/-- TRACK_CAPTURE (R197, R497): in WAIT with focus LOCKED, TE has crossed from positive to negative on a valid tick. -/
def trackCapture (n : Nat) (s : State) : State :=
  let s := supEval s n
  if trackOf s n = tWait ∧ focusOf s n = fLocked ∧ (s.sup n).teCapture = true then
    supRequest (setTrack (s.modSup n fun u => { u with teCapture := false, trackRun := 0 }) n tLocking) n 1 mAuto
  else s

def execTrackCapture (n : Fin 16) (s : State) : Res := .next (trackCapture n s)

/-- T_LOCK (R197): 64 consecutive valid ticks inside TWIN.LOCK. -/
def tLock (n : Nat) (s : State) : State :=
  let s := supEval s n
  if trackOf s n = tLocking ∧ 64 ≤ (s.sup n).trackRun then
    (setTrack (s.modSup n fun u => { u with trackRun := 0, slipRun := 0 }) n tLocked).ev (SV_EVENT_T_LOCK n)
  else s

def execTLock (n : Fin 16) (s : State) : Res := .next (tLock n s)

/-- TRACK_SLIP (R197): four consecutive valid ticks out of capture. -/
def trackSlip (n : Nat) (s : State) : State :=
  let s := supEval s n
  if trackOf s n = tLocked ∧ 4 ≤ (s.sup n).slipRun then slipTrack s n else s

def execTrackSlip (n : Fin 16) (s : State) : Res := .next (trackSlip n s)

/-- JUMP_PHASE_END (R199): the phase of a layer jump has ended on its condition, or failed. -/
def jumpPhaseEnd (n : Nat) (s : State) : State :=
  let s := supEval s n
  let u := s.sup n
  let sign := jumpSign s n
  if focusOf s n ≠ fJump then s
  else if u.jumpFail then (enterRetract s n).ev (SV_EVENT_JUMP_FAIL n)
  else if !u.jumpEnd then s
  else
    let s := s.modSup n fun u => { u with jumpEnd := false }
    match u.jump with
    | .kick => supMan (s.modSup n fun u => { u with jump := .brake }) n 0 (u.jumpBase - sign * q15 (s.get (SV_JUMP_CFG_KICK n)))
    | .brake =>
      supMan (s.modSup n fun u => { u with jump := .catching, jumpTicks := 0 }) n 0 (u.jumpBase + sign * q15 (s.get (SV_JUMP_CFG_LAYER_FF n)))
    | .catching =>
      let s := s.set (SV_STATUS_LAYER_CNT n) (min 15 (s.get (SV_STATUS_LAYER_CNT n) + 1))
      supRequest (s.modSup n fun u => { u with jump := .settle, jumpTicks := 0 }) n 0 mAuto
    | .settle =>
      if 1 < u.jumpsLeft then jumpPrepare (s.modSup n fun u => { u with jumpsLeft := u.jumpsLeft - 1 }) n
      else
        let s := (s.modSup n fun u => { u with jump := .none, jumpsLeft := 0 }).set (SV_JUMP_START n) 0
        let s := (setFocus s n fLocked).ev (SV_EVENT_JUMP_DONE n)
        if trackOf s n = tHold then supRequest (setTrack s n u.heldTrack) n 1 mAuto else onLocked s n
    | _ => s

def execJumpPhaseEnd (n : Fin 16) (s : State) : Res := .next (jumpPhaseEnd n s)

/-- TJUMP_END (R200): the last crossing ends a track jump; 64 ticks without it, or an invalid tick, end it as a slip. -/
def tjumpEnd (n : Nat) (s : State) : State :=
  let s := supEval s n
  let u := s.sup n
  if trackOf s n ≠ tJump ∨ u.tjump = .prepare then s
  else if u.tjSlip then slipTrack s n
  else if (tjCount s n).natAbs ≤ u.tjCrossings then
    let s := (s.set (SV_TJUMP_START n) 0).modSup n fun u => { u with tjump := .none, slipRun := 0 }
    (supRequest (setTrack s n tLocked) n 1 mAuto).ev (SV_EVENT_TJUMP_DONE n)
  else s

def execTjumpEnd (n : Fin 16) (s : State) : Res := .next (tjumpEnd n s)

/-! ### The rows that start -/

/-- A START that is refused. -/
def refuseStart (s : State) (n : Nat) (f : Fld) : State := (s.set f 0).ev (SV_EVENT_REFUSED n)

/-- Layer and track jumps written in the same tick as ACQ.START are refused (R203). -/
def cancelPrepared (s : State) (n : Nat) : State :=
  let s := s.iff ((s.sup n).jump == .prepare && focusOf s n == fJump) fun s =>
    refuseStart (setFocus (s.modSup n fun u => { u with jump := .none }) n fLocked) n (SV_JUMP_START n)
  s.iff ((s.sup n).tjump == .prepare) fun s =>
    refuseStart (setTrack (s.modSup n fun u => { u with tjump := .none }) n tLocked) n (SV_TJUMP_START n)

/-- ACQ_START (R195, R196, R203): acquisition of a layer, from OFF or LOST with SUP_EN = 1. -/
def acqStart (n layer : Nat) (s : State) : State :=
  let s := s.set (SV_ACQ_LAYER n) layer
  let s := (cancelPrepared s n).modSup n fun u => { u with acqNow := true }
  let f := focusOf s n
  if s.on (SV_CTRL_SUP_EN n) ∧ (f = fOff ∨ f = fLost) then
    let s := (s.set (SV_ACQ_START n) 1).set (SV_STATUS_LAYER_CNT n) 0
    let s := s.modSup n fun u =>
      { u with taken := 0, curves := 0, capture := false, lastFe := none, man := q31 s (LE_LOOP_MAN_MAN_VALUE n (s.get (SV_MAP_FOCUS n))) }
    supRequest (setFocus s n fApproach) n 0 mManual
  else refuseStart s n (SV_ACQ_START n)

def execAcqStart (n layer : Fin 16) (s : State) : Res := .next (s.clocked (ctrlIsland n) fun s => acqStart n layer s)

/-- JUMP_START (R199, R203): COUNT layer jumps, with focus LOCKED. -/
def jumpStart (n : Nat) (shallower : Bool) (count : Nat) (s : State) : State :=
  let s := (s.set (SV_JUMP_DIR n) (if shallower then 1 else 0)).set (SV_JUMP_COUNT n) count
  if s.on (SV_CTRL_SUP_EN n) ∧ focusOf s n = fLocked ∧ count ≠ 0 ∧ (s.revisit n).running = false ∧ (s.sup n).acqNow = false then
    let s := ((s.set (SV_JUMP_START n) 1).set (SV_STATUS_LAYER_CNT n) 0).modSup n fun u => { u with jump := .prepare, jumpsLeft := count }
    setFocus s n fJump
  else refuseStart s n (SV_JUMP_START n)

def execJumpStart (n : Fin 16) (shallower : Bool) (count : Fin 16) (s : State) : Res := .next (s.clocked (ctrlIsland n) fun s => jumpStart n shallower count s)

/-- TJUMP_START (R200, R203): a jump of COUNT tracks, with focus and tracking LOCKED. -/
def tjumpStart (n tkick count : Nat) (s : State) : State :=
  let s := (s.set (SV_TJUMP_TKICK n) tkick).set (SV_TJUMP_COUNT n) count
  if s.on (SV_CTRL_SUP_EN n) ∧ focusOf s n = fLocked ∧ trackOf s n = tLocked ∧ count ≠ 0 ∧ (s.revisit n).running = false ∧ (s.sup n).acqNow = false then
    let s := (s.set (SV_TJUMP_START n) 1).modSup n fun u => { u with tjump := .prepare, tjCrossings := 0, tjSlip := false }
    setTrack s n tJump
  else refuseStart s n (SV_TJUMP_START n)

def execTjumpStart (n : Fin 16) (tkick : Fin 256) (count : BitVec 9) (s : State) : Res := .next (s.clocked (ctrlIsland n) fun s => tjumpStart n tkick count.toNat s)

/-- The supervisor stops acting on axes: their states read OFF and no jump or START is left (R203). -/
def supStop (s : State) (n taken : Nat) : State :=
  let s := setTrack (setFocus s n fOff) n tOff
  let s := (((s.set (SV_ACQ_START n) 0).set (SV_JUMP_START n) 0).set (SV_TJUMP_START n) 0).set (SV_GAP_GAP n) 0
  let s := (s.set (SV_STATUS_AUX_HOLD n) 0).modEng n fun g => { g with supReq := [] }
  s.modSup n fun u => { u with taken := taken, auxHeld := 0, jump := .none, jumpEnd := false, jumpFail := false, tjump := .none, tjSlip := false, waitNext := false }

/-- SUP_EN_WRITE (R195, R203): clearing SUP_EN stops requests at once; loops keep their modes; states read OFF. -/
def supEnWrite (n : Nat) (set : Bool) (s : State) : State :=
  if set then s.set (SV_CTRL_SUP_EN n) 1 else supStop (s.set (SV_CTRL_SUP_EN n) 0) n (s.sup n).taken

def execSupEnWrite (n : Fin 16) (set : Bool) (s : State) : Res := .next (s.clocked (ctrlIsland n) fun s => supEnWrite n set s)

/-- TRK_AUTO_WRITE (R497): 1, while tracking is OFF and focus LOCKED, enters WAIT at the next tick. -/
def trkAutoWrite (n : Nat) (set : Bool) (s : State) : State :=
  let s := s.set (SV_CTRL_TRK_AUTO n) (if set then 1 else 0)
  s.iff (set && trackOf s n == tOff && focusOf s n == fLocked && s.on (SV_CTRL_SUP_EN n)) fun s => s.modSup n fun u => { u with waitNext := true }

def execTrkAutoWrite (n : Fin 16) (set : Bool) (s : State) : Res := .next (s.clocked (ctrlIsland n) fun s => trkAutoWrite n set s)

/-- Set ENABLE of the error front end: SUM_REF starts at 0.5 (R187); while it is 0 no errors form and no tick starts. -/
def svEnable (s : State) (n : Nat) (set : Bool) : State :=
  if set then s.iff (!s.on (SV_CTRL_ENABLE n)) fun s => (s.set (SV_CTRL_ENABLE n) 1).modSup n fun u => { u with sums := [], sample := none, parts := [], acc := [], noPacket := false, lastWindow := none }
  else (s.set (SV_CTRL_ENABLE n) 0).modSup n fun u => { u with sample := none, parts := [], acc := [] }

/-! ### MODE writes on a pen (R170, R172, R203) -/

/-- A firmware MODE write on a loop that the supervisor governs takes that axis from it (R195, R203). -/
def overrideAxes (s : State) (n j : Nat) : State :=
  if !s.on (SV_CTRL_SUP_EN n) then s
  else
    let f := focusOf s n
    let s := s.iff (axisLoop s n 0 == j && f != fOff && f != fLost) fun s =>
      let s := ((setFocus s n fOff).set (SV_GAP_GAP n) 0).ev (SV_EVENT_SUP_OVERRIDE n)
      ((s.set (SV_ACQ_START n) 0).set (SV_JUMP_START n) 0).modSup n fun u => { u with taken := u.taken ||| 1, jump := .none, jumpEnd := false, jumpFail := false }
    let t := trackOf s n
    let s := s.iff (axisLoop s n 1 == j && t != tOff && t != tLost) fun s =>
      let s := (setTrack s n tOff).ev (SV_EVENT_SUP_OVERRIDE n)
      (s.set (SV_TJUMP_START n) 0).modSup n fun u => { u with taken := u.taken ||| 2, tjump := .none, tjSlip := false, waitNext := false }
    s.each [0, 1, 2, 3] fun s i =>
      s.iff (axisLoop s n (i + 2) == j && (s.sup n).auxHeld.testBit i) fun s =>
        (s.ev (SV_EVENT_SUP_OVERRIDE n)).modSup n fun u => { u with taken := u.taken ||| 2 ^ (i + 2), auxHeld := u.auxHeld ^^^ 2 ^ i }

/-! ### The tick of a pen engine -/

/-- LOCKED of each loop from the supervisor (R198). -/
def refreshLocked (s : State) (n : Nat) : State :=
  let f := focusOf s n == fLocked
  let t := trackOf s n == tLocked
  s.each (List.range 8) fun s j =>
    let on := (axisLoop s n 0 == j && f) || (axisLoop s n 1 == j && t)
      || ((axisLoop s n 2 == j || axisLoop s n 3 == j || axisLoop s n 4 == j) && f && t)
    s.set (LE_LOOP_STAT_LOCKED n j) (if on then 1 else 0)

/-- A value rounded to the width of its actuator slot: half an LSB added, truncated, saturated (R165). -/
def slotValue (i : Nat) (v : Int) : Nat :=
  if i < 4 then ofSigned 24 (clampInt (-(2 ^ 23)) (2 ^ 23 - 1) ((v + 2 ^ 7) / 2 ^ 8))
  else ofSigned 16 (clampInt (-(2 ^ 15)) (2 ^ 15 - 1) ((v + 2 ^ 15) / 2 ^ 16))

/-- The slot valid mask: a loop not in OFF, and not shadowing, drives the slot (R165, R174, R269). -/
def slotMask (s : State) (n : Nat) : Nat :=
  ((List.range 8).filter fun j => modeOf s n j != mOff && modeOf s n j != mShadow).foldl (fun m j =>
    match destOf (programOf s n j) with
    | some d => if d < 8 then m ||| 2 ^ d else m
    | none => m) 0

/-- The ACTUATOR packet of a tick (R181, R269, R383); from PS2 on the laser of a pen out of focus is off (R352). -/
def sendActuator (s : State) (n window : Nat) : State :=
  if linkUp s n && claims s n && s.on (LE_CTRL_ENABLE n) && !s.on (LE_STATUS_FAULT n) then
    let f := focusOf s n
    let g := s.engine n
    let pkt : Actuator :=
      { window := window, mask := slotMask s n, laser := (if 2 ≤ s.get HQ_PWR_STATUS_PS ∧ (f = fOff ∨ f = fRetract ∨ f = fLost) then 0 else if f = fRetract ∨ f = fLost then 1 else 2),
        power := (s.get (LK_LASER_READ_PWR n) + s.readPower.getD n 0) % 256,
        slots := (List.range 8).map fun i => slotValue i (g.sent.getD i 0) }
    s.modLink n fun l => { l with actuator := some pkt }
  else s

/-- Every decision of the supervisor that has a row of its own, in the order of R194 to R200. -/
def supDecide (s : State) (n : Nat) : State :=
  tjumpEnd n (jumpPhaseEnd n (trackSlip n (tLock n (trackCapture n (fLock n (sweepCapture n (approachDone n
    (retractEnd n (longGap n (collapseRetract n (escapeRetract n (resume n s))))))))))))

/-- A pen engine's tick (R153, R193, R198, R269): the supervisor first, then the loops with DIV = 1, then the ACTUATOR packet, then the other
loops. -/
def penTick (s : State) (n cycles : Nat) : State :=
  match (s.sup n).sample with
  | none => s
  | some p =>
    let s := refreshLocked (supAssert (supAux (supDecide (supEval s n) n) n) n) n
    let errs := (s.sup n).errs
    let inp : TickIn := { errs := errs, bin := p.bin, valid := p.cause == 0, blot := blotOn s n, sample := p.window }
    let (s, done) := engineFast s n cycles inp
    let s := engineRest n cycles inp (sendActuator s n p.window, done)
    let s := s.each (List.range 9) fun s i => s.set (SV_ERR_ERR n i) (ofSigned 32 (errs.getD i 0))
    s.modSup n fun u => { u with sample := none, before := [], acqNow := false }

/-- A pen engine's FAULT stops its supervisor until the next ACQ.START (R203). -/
def penFault (s : State) (n : Nat) : State := supStop s n 63

end Sys2Proof.Machine
end

