-- ==== Sys2Proof/Machine/Spindle.lean ====
section
/-!
DEFINITION. Spindle commutators, catching, starting, braking, the motor buses and the ADC sequencer (chapter 08), with the
correction of conversions (R461).
-/

namespace Sys2Proof.Machine

/-! ### State codes of R215 and plain access -/

/-- STOPPED. -/
abbrev spStopped : Nat := 0
/-- COAST. -/
abbrev spCoast : Nat := 1
/-- CATCH. -/
abbrev spCatch : Nat := 2
/-- BRAKE. -/
abbrev spBrake : Nat := 3
/-- QUEUED. -/
abbrev spQueued : Nat := 4
/-- ALIGN. -/
abbrev spAlign : Nat := 5
/-- OPEN. -/
abbrev spOpen : Nat := 6
/-- RUN. -/
abbrev spRun : Nat := 7
/-- STOPPING. -/
abbrev spStopping : Nat := 8
/-- FAULT. -/
abbrev spFault : Nat := 9

/-- Hidden state of spindle k. -/
def State.spindle (s : State) (k : Nat) : Spindle := s.spindles.getD k {}

/-- Change the hidden state of spindle k. -/
def State.modSp (s : State) (k : Nat) (f : Spindle → Spindle) : State := { s with spindles := s.spindles.set k {} (f (s.spindle k)) }

/-- Hidden state of motor bus b: 0 for A, 1 for B. -/
def State.motorBus (s : State) (b : Nat) : MotorBus := s.motorBuses.getD b {}

/-- Change the hidden state of bus b. -/
def State.modBus (s : State) (b : Nat) (f : MotorBus → MotorBus) : State := { s with motorBuses := s.motorBuses.set b {} (f (s.motorBus b)) }

/-- STATE of spindle k. -/
def spState (s : State) (k : Nat) : Nat := s.get (MOT_SP_STATUS_STATE k)

/-- The bus of spindle k (R10). -/
def busOf (k : Nat) : Nat := k / 4

/-- The spindles of a bus. -/
def busSpindles (b : Nat) : List Nat := [4 * b, 4 * b + 1, 4 * b + 2, 4 * b + 3]

/-- High, low and floating phase of a step: 0 U, 1 V, 2 W (R208). -/
def stepPhases (i : Nat) : Nat × Nat × Nat :=
  match i with
  | 0 => (0, 1, 2)
  | 1 => (0, 2, 1)
  | 2 => (1, 2, 0)
  | 3 => (1, 0, 2)
  | 4 => (2, 0, 1)
  | _ => (2, 1, 0)

/-- The floating phase rises through the midpoint in even steps (R208). -/
def stepRising (i : Nat) : Bool := i % 2 == 0

/-! ### Corrected conversions (R229, R461) -/

/-- A shunt channel. -/
def shuntChannel (c : Nat) : Bool := c == 3 || c == 7

/-- The corrected value of a conversion (R461), rounded to nearest; a tie is left open. -/
def corrected (s : State) (a c code : Nat) : Int × State :=
  let k : Int := (16 * (code : Int) - toSigned 16 (s.get (CAL_ACT_OFS a))) * ((s.get (CAL_ACT_GAIN a) : Nat) : Int)
  let v : Int := (k - toSigned 16 (s.get (CAL_CH_OFS a c)) * 2 ^ 14) * ((s.get (CAL_CH_GAIN a c) : Nat) : Int)
  let den : Int := 16 * 2 ^ 14 * 2 ^ 14
  let v := if shuntChannel c then v - 2048 * den else v
  let (r, s) := if (2 * v + den) % (2 * den) = 0 then let (up, s) := s.coin; ((2 * v + den) / (2 * den) - (if up then 0 else 1), s) else ((2 * v + den) / (2 * den), s)
  (if shuntChannel c then clampInt (-(2 ^ 15)) (2 ^ 15 - 1) r else clampInt 0 (2 ^ 16 - 1) r, s)

/-- A conversion of channel c on ADC a: MOT_ADCa_RES_c takes it (R229). -/
def convert (s : State) (a c code : Nat) : Int × State :=
  let (v, s) := corrected s a c code
  (v, (s.set (MOT_ADC_RES_CODE a c) code).set (MOT_ADC_RES_VALUE a c) (ofSigned 16 v))

/-- The largest r below 2^k with r² ≤ m, found bit by bit above r0. -/
def sqrtBits (m : Nat) : Nat → Nat → Nat
  | 0, r => r
  | k + 1, r => if (r + 2 ^ k) * (r + 2 ^ k) ≤ m then sqrtBits m k (r + 2 ^ k) else sqrtBits m k r

/-! ### Buses (R223 to R227) -/

/-- Spin-up slots of a bus: 0 acts as 1, above 4 as 4. -/
def spinSlots (s : State) (b : Nat) : Nat := max 1 (min 4 (s.get (MOT_BUS_CTRL_SPIN_SLOTS b)))

/-- Slots held on a bus. -/
def slotsUsed (s : State) (b : Nat) : Nat := ((busSpindles b).filter fun k => s.on (MOT_SP_STATUS_SLOT k)).length

/-- A chopper fault is latched on the bus (R226). -/
def chopLatched (s : State) (b : Nat) : Bool :=
  s.on (MOT_BUS_EVENT_CHOP_NOFALL b) || s.on (MOT_BUS_EVENT_CHOP_NOCUR b) || s.on (MOT_BUS_EVENT_CHOP_STUCK b)

/-- OV is set on the bus of spindle k. -/
def ovOn (s : State) (k : Nat) : Bool := s.on (MOT_BUS_EVENT_OV (busOf k))

/-- REGEN_OK as R225 defines it. -/
def regenOk (s : State) (b : Nat) : Bool :=
  s.on (MOT_BUS_CTRL_CHOP_EN b) && !chopLatched s b && decide (s.get (MOT_BUS_ENERGY_E_ACC b) < s.get (MOT_BUS_ENERGY_E_MAX b))

/-- The bus status follows. -/
def refreshBus (s : State) (b : Nat) : State :=
  let s := s.iff (!s.on (MOT_BUS_CTRL_CHOP_EN b) || chopLatched s b) fun s => s.set (MOT_BUS_STATUS_CHOPPING b) 0
  (s.set (MOT_BUS_STATUS_SLOTS_USED b) (slotsUsed s b)).set (MOT_BUS_STATUS_REGEN_OK b) (if regenOk s b then 1 else 0)

/-- Take the slot from a spindle, and its place in the queue. -/
def releaseSlot (s : State) (k : Nat) : State :=
  let s := (s.set (MOT_SP_STATUS_SLOT k) 0).modBus (busOf k) fun m => { m with waiting := m.waiting.filter (· != k) }
  refreshBus (s.modSp k fun p => { p with slotWait := false }) (busOf k)

/-- Ask for a slot, once; requests of one cycle are asked in spindle order (R223). -/
def askSlot (s : State) (k : Nat) : State :=
  if (s.motorBus (busOf k)).waiting.contains k then s else s.modBus (busOf k) fun m => { m with waiting := m.waiting ++ [k] }

/-- Request a mode of the spindle's loop, as the axis supervisor does (R216). -/
def spRequest (s : State) (k m : Nat) : State :=
  let j := s.get (MOT_SP_CTRL_LOOP k)
  if modeOf s 16 j = mShadow then s else requestMode s 16 j m

/-- A spindle enters a state: leaving RUN requests MANUAL, slots stay only where R223 lets them, and what belongs to the state
left is dropped. -/
def enterSp (s : State) (k st : Nat) : State :=
  let was := spState s k
  let s := s.iff (was == spRun && st != spRun) fun s => spRequest s k mManual
  let s := s.set (MOT_SP_STATUS_STATE k) st
  let s := s.iff (!(st == spQueued || st == spAlign || st == spOpen || st == spRun)) fun s => releaseSlot s k
  let s := s.iff (st != spRun) fun s => ((s.set (MOT_SP_STATUS_COAST_DOWN k) 0).set (MOT_SP_STATUS_DEMAND_LOST k) 0).modSp k fun p =>
    { p with regen := none, chopShort := false, chopZero := false, steady := 0, recent := [], atSpeed := false, nextAt := none, misses := 0, shift := 0 }
  s.iff (st == spStopped) fun s => s.ev (MOT_SP_EVENT_STOPPED k)

/-- The spindle's commutator may run. -/
def spEnabled (s : State) (k : Nat) : Bool := s.on MOT_CTRL_ENABLE && s.on (MOT_SP_CTRL_ENABLE k)

/-- STOPPED and COAST leave through CATCH when the spindle may run (R215). -/
def tryCatch (s : State) (k : Nat) : State :=
  let st := spState s k
  let p := s.spindle k
  if (st = spStopped ∨ st = spCoast) ∧ spEnabled s k = true ∧ s.get (MOT_SP_SET_SET_RPM k) ≠ 0 ∧ ovOn s k = false ∧ p.desync = false ∧ p.coastWait = false then
    enterSp (s.modSp k fun p => { p with brakes := 0, openFails := 0, qual := 0 }) k spCatch
  else s

/-- A spindle goes to COAST, whatever it does (R215). -/
def coast (s : State) (k : Nat) : State := enterSp (s.modSp k fun p => { p with coastWait := false }) k spCoast

/-! ### Speed, ramp and regeneration -/

/-- MEAS in 1/16 rpm from the last step intervals (R213). -/
def measure (s : State) (k : Nat) : State :=
  let l := (s.spindle k).intervals
  let sum : Nat := l.foldl (· + ·) 0
  let (v, s) := s.divFree ((1666667 * 1000 * 16 * l.length : Nat) : Int) sum
  s.set (MOT_SP_SPEED_MEAS k) (min (2 ^ 20 - 1) v.toNat)

/-- SET_RPM in 1/16 rpm. -/
def setPoint (s : State) (k : Nat) : Nat := 16 * s.get (MOT_SP_SET_SET_RPM k)

/-- RAMP: 0 acts as 1, above 1,500 as 1,500 (R220). -/
def rampOf (s : State) (k : Nat) : Nat := max 1 (min 1500 (s.get (MOT_SP_SET_RAMP k)))

/-- The torque demand of spindle k, if a loop commands it (R214). -/
def demand (s : State) (k : Nat) : Option Int :=
  let driven := (List.range 32).any fun j => modeOf s 16 j != mOff && modeOf s 16 j != mShadow && destOf (programOf s 16 j) == some k
  if driven && !s.on (LE_STATUS_FAULT 16) && s.on (LE_CTRL_ENABLE 16) then some ((s.engine 16).sent.getD k 0) else none

/-- Predicted energy of a deceleration, in 0.01 J: ½ × J × (ω_now² − ω_end²) (R225). -/
def predict (s : State) (k : Nat) : Nat × State :=
  let now := s.get (MOT_SP_SPEED_MEAS k)
  let stop := if s.get (MOT_SP_SET_SET_RPM k) = 0 then 300 * 16 else setPoint s k
  let r := s.divFree ((98696044011 * (s.get (MOT_SP_J_J k) * (now * now - stop * stop)) : Nat) : Int) 46080000000000000000
  (r.1.toNat, r.2)

/-- The regeneration check: at its beginning and at every commutation (R225, R232). -/
def regenCheck (s : State) (k : Nat) : State :=
  let b := busOf k
  let p := predict s k
  let e := p.1
  let s := p.2
  let others : Nat := ((busSpindles b).filter (· != k)).foldl (fun t j => t + ((s.spindle j).regen).getD 0) 0
  if regenOk s b = true ∧ s.get (MOT_BUS_ENERGY_E_ACC b) + others + e ≤ s.get (MOT_BUS_ENERGY_E_MAX b) then
    (s.set (MOT_SP_STATUS_COAST_DOWN k) 0).modSp k fun p => { p with regen := some e }
  else ((s.set (MOT_SP_STATUS_COAST_DOWN k) 1).ev (MOT_BUS_EVENT_COAST_DOWN b)).modSp k fun p => { p with regen := none }

/-- REF of a RUN spindle over one PWM period (R219, R221, R223, R225). -/
def rampRef (s : State) (k : Nat) : State :=
  let ref := s.get (MOT_SP_REF_REF k)
  let goal := setPoint s k
  if s.on (MOT_SP_STATUS_COAST_DOWN k) then
    s.set (MOT_SP_REF_REF k) (min ref (s.get (MOT_SP_SPEED_MEAS k)))
  else if ref < goal ∧ s.on (MOT_SP_STATUS_SLOT k) = false then
    let s := askSlot s k
    s.iff (!(s.spindle k).slotWait && decide (spinSlots s (busOf k) ≤ slotsUsed s (busOf k))) fun s =>
      (s.ev (MOT_SP_EVENT_SLOT_WAIT k)).modSp k fun p => { p with slotWait := true }
  else
    let acc := (s.spindle k).refFrac + rampOf s k
    let d := acc / 2500
    let s := s.modSp k fun p => { p with refFrac := acc % 2500 }
    let ref := if ref < goal then min goal (ref + d) else max goal (ref - d)
    let s := s.set (MOT_SP_REF_REF k) ref
    if goal ≤ ref ∧ s.on (MOT_SP_STATUS_SLOT k) = true then releaseSlot s k else s

/-! ### The winding estimate (R228) -/

/-- I2T_MAX in (5 mA)² × 25 µs. -/
def heatMax (s : State) (k : Nat) : Nat := s.get (MOT_SP_I2T_I2T_MAX k) * 16000000

/-- One PWM period of the winding estimate at a current in 5 mA. -/
def heatStep (s : State) (k current : Nat) : State :=
  let c := 2 * s.get (MOT_SP_I2T_CFG_I_CONT k)
  let h := (s.spindle k).heat + current * current - c * c
  let (v, s) := s.divFree ((h : Nat) : Int) 16000000
  let s := (s.set (MOT_SP_I2T_I2T k) (min (2 ^ 16 - 1) v.toNat)).modSp k fun p => { p with heat := h }
  s.iff (decide (2 * h < heatMax s k)) fun s => s.modSp k fun p => { p with clamp := false }

/-! ### The rows -/

/-- Mode of the phases in a state, before any pulse: 0 DRIVE, 2 SHORT, 3 OFF (R215, R226, R228). -/
def phaseMode (s : State) (k : Nat) : Nat :=
  let st := spState s k
  let p := s.spindle k
  if st = spBrake ∨ st = spStopping ∨ (st = spRun ∧ p.chopShort = true) then (if p.clamp || decide (heatMax s k ≤ p.heat) then 3 else 2)
  else if st = spAlign ∨ st = spOpen ∨ st = spRun then 0
  else 3

/-- The on-time of a demand for this period, in 4 ns, with pulse shifting; and m (R210). -/
def pulse (s : State) (k : Nat) (d : Nat) : Nat × Nat × State :=
  let t := d * 6250
  let w := 500 * 2 ^ 31
  if t = 0 then (0, 1, s)
  else if w ≤ t then let (v, s) := s.divFree (t : Int) (2 ^ 31); (v.toNat, 1, s)
  else
    let m := min 16 ((w + t - 1) / t)
    if (s.spindle k).shift = 0 then (500, m, s)
    else let (v, s) := s.divFree ((m * t - w : Nat) : Int) ((m - 1) * 2 ^ 31); (v.toNat, m, s)

/-- A regulated or shortened on-time: the law is not given, so it is any value up to a bound. -/
def upTo (s : State) (bound : Nat) : Nat × State := let (v, s) := s.fresh; (v % (bound + 1), s)

/-- The window of the period under way takes its conversions: the step's pair drives or regenerates for at least 2.0 µs under the command
in force (R209). A standby's commutator tracks the rotor that another unit drives (R206). -/
def windowOpen (s : State) (k : Nat) : Bool :=
  let c := (s.spindle k).cmd
  !claims s (16 + k) || (decide (c.mode ≤ 1) && decide (c.on + 500 ≤ c.off))

/-- The conversions of a period's window: the floating phase twice, each held against the bus sample latest then, and the shunt, whose
magnitude is kept (R209, R211). -/
def windowSamples (s : State) (k : Nat) (conv : Option WindowConv) : State :=
  match conv with
  | none => s
  | some c =>
    if windowOpen s k = false then s else
    let a := k / 2
    let ch := 4 * (k % 2)
    let fl := (stepPhases (s.get (MOT_SP_STATUS_STEP k))).2.2
    let p1 := convert s a (ch + fl) c.phase1.toNat
    let p2 := convert p1.2 a (ch + fl) c.phase2.toNat
    let i := convert p2.2 a (ch + 3) c.shunt.toNat
    let v : Int := s.get (MOT_BUS_STATUS_V_BUS (busOf k))
    i.2.modSp k fun p => { p with current := i.1.natAbs, zc := ((2 * p2.1 - v) :: (2 * p1.1 - v) :: p.zc).take 16 }

/-- A spindle in a chopper short is back, with a demand of 0, once REF ≥ MEAS; the demand of the loop counts again once no fault is
latched (R226; assumption 95). -/
def chopReturn (s : State) (k : Nat) : State :=
  let s := s.iff ((s.spindle k).chopShort && decide (s.get (MOT_SP_SPEED_MEAS k) ≤ s.get (MOT_SP_REF_REF k))) fun s =>
    s.modSp k fun p => { p with chopShort := false, chopZero := true }
  s.iff (!chopLatched s (busOf k)) fun s => s.modSp k fun p => { p with chopZero := false }

/-- The demand of a RUN spindle for the next period (R214, R225): DEMAND_LOST where no loop commands it; a deceleration begins with
the regeneration check, and one that the bus cannot take coasts. -/
def runDemand (s : State) (k : Nat) : Int × State :=
  let dem := demand s k
  let d := dem.getD 0
  let s := chopReturn (s.set (MOT_SP_STATUS_DEMAND_LOST k) (if dem.isNone then 1 else 0)) k
  let s :=
    if d < 0 then (if (s.spindle k).regen.isNone && !s.on (MOT_SP_STATUS_COAST_DOWN k) then regenCheck s k else s)
    else (s.set (MOT_SP_STATUS_COAST_DOWN k) 0).modSp k fun p => { p with regen := none }
  let d := if (d < 0 ∧ (s.spindle k).regen.isNone = true) ∨ (s.spindle k).chopShort = true ∨ (s.spindle k).chopZero = true then 0 else d
  (d, rampRef s k)

/-- The on-time of the next period, in 4 ns, and m (R210, R214, R219): a regulated start current and a limited pulse follow laws that
are not given; after a trip there is no pulse. -/
def onTime (s : State) (k mode : Nat) (d : Int) (limiting : Bool) : Nat × Nat × State :=
  let run := decide (spState s k = spRun)
  let skip := (s.spindle k).skip
  let r := if run then pulse s k d.natAbs else if mode = 0 then ((upTo s 6250).1, 1, (upTo s 6250).2) else (0, 1, s)
  let l := if run && limiting then upTo r.2.2 r.1 else (r.1, r.2.2)
  (if skip ≠ 0 then 0 else l.1, r.2.1, l.2)

/-- The start of spindle k's PWM period after the reference edge, in ns (R207). -/
def pwmStart (k : Nat) : Nat := k % 2 * 12500 + k / 2 % 2 * 6250

/-- A speed lies within ±0.5% of the set point (R221). -/
def nearSet (s : State) (k meas : Nat) : Bool := decide (200 * (meas - setPoint s k) ≤ setPoint s k) && decide (200 * (setPoint s k - meas) ≤ setPoint s k)

/-- A set point written in RUN re-plans the ramp from MEAS (R220); the steps that count for AT_SPEED are those near the new one (R221). -/
def rampFrom (s : State) (k : Nat) : State :=
  let s := (s.set (MOT_SP_REF_REF k) (s.get (MOT_SP_SPEED_MEAS k))).modSp k fun p =>
    { p with refFrac := 0, steady := (p.recent.takeWhile (nearSet s k)).length, atSpeed := false }
  s.iff (decide (setPoint s k ≤ s.get (MOT_SP_REF_REF k))) fun s => releaseSlot s k

/-- AT_SPEED of a spindle on its way out of PS3 or PS4 raises its set point to 7,200 rpm (R27, R354). -/
def raiseStaged (s : State) (k : Nat) : State :=
  if (s.spindle k).staged then
    let s := s.modSp k fun p => { p with staged := false }
    if s.get (MOT_SP_SET_SET_RPM k) = 3600 then rampFrom (s.set (MOT_SP_SET_SET_RPM k) 7200) k else s
  else s

/-- AT_SPEED, with the staged set point, once REF equals SET_RPM and the last 64 steps have been near it, whichever comes about last: at a
step, as REF arrives, or at a write (R221, R354). -/
def noteSpeed (s : State) (k : Nat) : State :=
  let now := s.get (MOT_SP_REF_REF k) == setPoint s k && decide (64 ≤ (s.spindle k).steady)
  let was := (s.spindle k).atSpeed
  (s.modSp k fun p => { p with atSpeed := now }).iff (now && !was) fun s => raiseStaged (s.ev (MOT_SP_EVENT_AT_SPEED k)) k

/-- PWM_PERIOD (R206, R207, R209, R210, R214, R219, R221, R223, R228, R461): the commutator forms the stage's command for the next
period, from the conversions of this one's window. The pulse's times count from the apply time of the last frame at or before that
period's start, on a grid of 5 µs from the reference edge (R207, R251, R252). -/
def pwmPeriod (k : Nat) (conv : Option WindowConv) (s : State) : State :=
  let ph := stepPhases (s.get (MOT_SP_STATUS_STEP k))
  let s := windowSamples s k conv
  let mode := phaseMode s k
  let limiting := decide (2 * s.get (MOT_SP_LIM_I_LIM k) < (s.spindle k).current) || (s.spindle k).clamp
  let q := if spState s k = spRun then runDemand s k else (0, s)
  let o := onTime q.2 k mode q.1 limiting
  let s := (o.2.2.set (MOT_SP_STATUS_M k) o.2.1).set (MOT_SP_STATUS_LIMITING k) (if limiting then 1 else 0)
  let b := s.divFree ((6250 - o.1 + pwmStart k % 5000 / 2 : Nat) : Int) 2
  let start := b.1.toNat
  let s := b.2.modSp k fun p =>
    { p with
      skip := p.skip - 1
      shift := if o.2.1 ≤ 1 then 0 else (p.shift + 1) % o.2.1
      cmd := { high := ph.1, low := ph.2.1, mode := if mode = 0 ∧ q.1 < 0 then 1 else mode, on := start, off := start + o.1, seq := (p.cmd.seq + 1) % 256 } }
  let s := s.iff (spState s k == spRun) fun s => noteSpeed s k
  heatStep s k (if mode = 2 then 2 * s.get (MOT_SP_I2T_CFG_SB_I k) else if mode = 3 then 0 else (s.spindle k).current)

def execPwmPeriod (k : Fin 8) (conv : Option WindowConv) (s : State) : Res := .next (pwmPeriod k conv s)

/-- OVERCURRENT_TRIP (R214): a shunt sample above I_TRIP ends the pulse; three periods carry none; three trips within 1 ms are
a FAULT. -/
def overcurrentTrip (k code : Nat) (s : State) : State :=
  let (i, s) := convert s (k / 2) (4 * (k % 2) + 3) code
  if 2 * s.get (MOT_SP_LIM_I_TRIP k) < i.natAbs then
    let now := s.now
    let recent := ((s.spindle k).trips.filter fun t => decide (now - t ≤ 38400)) ++ [now]
    let s := s.modSp k fun p => { p with skip := 3, current := i.natAbs, trips := recent }
    if 3 ≤ recent.length then (enterSp (s.modSp k fun p => { p with trips := [] }) k spFault).ev (MOT_SP_EVENT_OVERCURRENT k) else s
  else s

def execOvercurrentTrip (k : Fin 8) (shunt : BitVec 12) (s : State) : Res := .next (overcurrentTrip k shunt.toNat s)

/-- An open-loop speed in 10^−9 rpm from three times its square in rpm² (R219). -/
def openSpeed (q : Nat) : Nat := sqrtBits (q * 10 ^ 18 / 3) 40 0

/-- Three times the square of the open-loop speed after one more step of 60°, at most at 600 rpm (R219). -/
def openNext (s : State) (k : Nat) : Nat := min 1080000 ((s.spindle k).openSq + 10 * rampOf s k)

/-- The open-loop interval in ns that raises the speed at RAMP rpm/s, holding 600 rpm once it is reached (R219). DESIGN CHOICE
(assumption 97): the first interval starts from rest, and each is cut to whole ns. -/
def openInterval (s : State) (k : Nat) : Nat :=
  let r := rampOf s k
  let q := (s.spindle k).openSq
  (openSpeed (openNext s k) - openSpeed q) / r + (q + 10 * r - openNext s k) * 25000000 / (90 * r)

/-- ZC_CONFIRM (R208, R211, R212, R219): the newest ZC_CONFIRM samples of the floating phase lie on the new side of half the bus
voltage, each against the bus sample latest then, and the sample before them on the old one (times of the two samples at the change,
in ns after the last commutation): the crossing schedules the next commutation in RUN and counts for the handover in OPEN, where it
lies within ±15° of the midpoint of its own two commutations. -/
def zcConfirm (k tb ta : Nat) (s : State) : State :=
  let st := spState s k
  let p := s.spindle k
  let t := p.intervals.headD 0
  let rising := stepRising (s.get (MOT_SP_STATUS_STEP k))
  let new := p.zc.takeWhile fun d => if rising then decide (0 ≤ d) else decide (d ≤ 0)
  match new.getLast?, (p.zc.drop new.length).head? with
  | some da, some db =>
    if (st = spRun ∨ st = spOpen) ∧ p.nextAt = none ∧ tb < ta ∧ s.get (MOT_SP_COMM_BLANK k) * t ≤ 256 * tb
        ∧ max 1 (s.get (MOT_SP_COMM_ZC_CONFIRM k)) ≤ new.length then
      let span := (da - db).natAbs
      -- crossing = tb + (ta − tb) × |db| / span; commutation after T × (30 − ADV) / 60 more
      let c := tb * span + (ta - tb) * db.natAbs
      let (at', s) := s.divFree ((c * 60 + t * (30 - s.get (MOT_SP_COMM_ADV k)) * span : Nat) : Int) (60 * span)
      let s := s.modSp k fun p => { p with nextAt := some at'.toNat }
      if st = spOpen then
        let own := openInterval s k
        let inside := decide (own * span ≤ 4 * c) && decide (4 * c ≤ 3 * own * span)
        s.modSp k fun p => { p with qual := if inside then p.qual + 1 else 0 }
      else s
    else s
  | _, _ => s

def execZcConfirm (k : Fin 8) (tBefore tAfter : Nat) (s : State) : Res := .next (zcConfirm k tBefore tAfter s)

/-- A commutation after an interval: the step, the last six intervals and MEAS (R208, R213). -/
def stepOn (s : State) (k interval : Nat) : State :=
  let s := s.set (MOT_SP_STATUS_STEP k) ((s.get (MOT_SP_STATUS_STEP k) + 1) % 6)
  measure (s.modSp k fun p => { p with intervals := (interval :: p.intervals).take 6, nextAt := none, zc := [] }) k

/-- RUN is entered: REF starts at MEAS, MAN_VALUE takes the demand that matches the present back-EMF (no value is given), AUTO
is requested (R216). -/
def enterRun (s : State) (k : Nat) : State :=
  let s := (enterSp s k spRun).ev (MOT_SP_EVENT_RUN k)
  let s := (s.set (MOT_SP_REF_REF k) (s.get (MOT_SP_SPEED_MEAS k))).modSp k fun p => { p with refFrac := 0, steady := 0, recent := [], atSpeed := false, misses := 0, qual := 0 }
  let (v, s) := s.fresh
  let j := s.get (MOT_SP_CTRL_LOOP k)
  let s := s.iff (modeOf s 16 j != mShadow) fun s => s.set (LE_LOOP_MAN_MAN_VALUE 16 j) v
  let s := s.iff (decide (setPoint s k ≤ s.get (MOT_SP_REF_REF k))) fun s => releaseSlot s k
  spRequest s k mAuto

/-- What follows a commutation in RUN: the regeneration check, the end of a chopper short, AT_SPEED with the staged set point, and the
stop (R27, R215, R221, R222, R225, R226, R354). -/
def afterStep (s : State) (k : Nat) : State :=
  let meas := s.get (MOT_SP_SPEED_MEAS k)
  let goal := setPoint s k
  let s := chopReturn s k
  let s := s.iff ((s.spindle k).regen.isSome || s.on (MOT_SP_STATUS_COAST_DOWN k)) fun s => regenCheck s k
  if goal = 0 ∧ meas < 300 * 16 then enterSp s k spStopping
  else
    noteSpeed (s.modSp k fun p => { p with recent := (meas :: p.recent).take 64, steady := if nearSet s k meas then p.steady + 1 else 0 }) k

/-- HANDOVER (R216, R219): an open-loop step; the first at 600 rpm or above with 12 qualified crossings enters RUN. -/
def handover (k : Nat) (s : State) : State :=
  if spState s k = spOpen then
    let missed := (s.spindle k).nextAt.isNone
    let next := openNext s k
    let s := stepOn s k (openInterval s k)
    let s := s.modSp k fun p => { p with openSq := next, qual := if missed then 0 else p.qual }
    if 600 * 16 ≤ s.get (MOT_SP_SPEED_MEAS k) ∧ 12 ≤ (s.spindle k).qual then enterRun s k else s
  else s

def execHandover (k : Fin 8) (s : State) : Res := .next (handover k s)

/-- COMMUTATE (R208, R212, R213, R219, R221, R222, R225): the step at the scheduled time in RUN; in OPEN, an open-loop step, which is
the handover where that is qualified. -/
def commutate (k : Nat) (s : State) : State :=
  if spState s k = spRun then
    match (s.spindle k).nextAt with
    | none => s
    | some t => afterStep ((stepOn s k t).modSp k fun p => { p with misses := 0 }) k
  else handover k s

def execCommutate (k : Fin 8) (s : State) : Res := .next (commutate k s)

/-- MISSED_ZC (R212, R215): no crossing by 1.25 T: the commutator steps then; MISS_MAX in a row are a DESYNC. -/
def missedZc (k : Nat) (s : State) : State :=
  let p := s.spindle k
  if spState s k = spRun ∧ p.nextAt = none then
    let (t, s) := s.divFree ((5 * p.intervals.headD 0 : Nat) : Int) 4
    let s := (s.ev (MOT_SP_EVENT_MISSED_ZC k)).bump (MOT_SP_CNT_MISSED k) 1
    let s := (stepOn s k t.toNat).modSp k fun p => { p with misses := p.misses + 1 }
    if max 1 (s.get (MOT_SP_COMM_MISS_MAX k)) ≤ (s.spindle k).misses then
      let s := ((enterSp s k spCoast).ev (MOT_SP_EVENT_DESYNC k)).bump (MOT_SP_CNT_DESYNCS k) 1
      tryCatch (s.modSp k fun p => { p with desync := !s.on (MOT_SP_CTRL_AUTO_RECATCH k) }) k
    else afterStep s k
  else s

def execMissedZc (k : Fin 8) (s : State) : Res := .next (missedZc k s)

/-- A catch measurement under way (R217): samples of 10 µs so far, the side on which each line-to-line difference stands (0 U − V,
1 V − W, 2 W − U; true above), and the crossings, newest first: sample, difference, and whether it rose. -/
structure CatchRun where
  count : Nat := 0
  sides : List (Option Bool) := [none, none, none]
  seen : List (Nat × Nat × Bool) := []
  deriving DecidableEq, Repr

/-- One line-to-line difference, in 10 mV, with the hysteresis in mV (R217). DESIGN CHOICE (assumption 98): a side is taken beyond the
hysteresis, and the first one taken is no crossing. After 50 ms, 5,000 samples, nothing more is measured. -/
def CatchRun.judge (r : CatchRun) (hyst i : Nat) (d : Int) : CatchRun :=
  let side := if (hyst : Int) < 10 * d then some true else if 10 * d < -(hyst : Int) then some false else none
  match side with
  | none => r
  | some b =>
    let was := r.sides.getD i none
    let seen := if was = some (!b) ∧ r.seen.length < 13 ∧ r.count < 5000 then (r.count, i, b) :: r.seen else r.seen
    { r with sides := r.sides.set i (some b), seen := seen }

/-- The conversions of one entry: the three phases (R217, R229), then the three differences. -/
def catchSample (k : Nat) (s : State) (r : CatchRun) (c : CatchConv) : CatchRun × State :=
  let ch := 4 * (k % 2)
  let u := convert s (k / 2) ch c.u.toNat
  let v := convert u.2 (k / 2) (ch + 1) c.v.toNat
  let w := convert v.2 (k / 2) (ch + 2) c.w.toNat
  let h := s.get (MOT_SP_CATCH_CATCH_HYST k)
  let r := ((r.judge h 0 (u.1 - v.1)).judge h 1 (v.1 - w.1)).judge h 2 (w.1 - u.1)
  ({ r with count := r.count + c.times }, w.2)

/-- The measurement over its conversions. -/
def catchRun (s : State) (k : Nat) (conv : List CatchConv) : CatchRun × State :=
  conv.foldl (fun q c => catchSample k q.2 q.1 c) ({}, s)

/-- The steps from each crossing to the next all run one way round: forward, W − U, V − W, U − V (R208, R217); a mixed order is open. -/
def catchForward (s : State) (seen : List (Nat × Nat × Bool)) : Bool × State :=
  let turns := (seen.zip seen.tail).map fun p => (p.1.2.1 + 3 - p.2.2.1) % 3
  if turns.all (· == 2) then (true, s) else if turns.all (· == 1) then (false, s) else s.coin

/-- The step that begins at a line-to-line crossing (R208; DEDUCED, assumption 99). -/
def catchStep (seen : List (Nat × Nat × Bool)) : Nat :=
  match seen with
  | (_, 2, true) :: _ => 0
  | (_, 1, false) :: _ => 1
  | (_, 0, true) :: _ => 2
  | (_, 2, false) :: _ => 3
  | (_, 1, true) :: _ => 4
  | _ => 5

/-- Samples from the first crossing to the last. -/
def catchSpan (seen : List (Nat × Nat × Bool)) : Nat := ((seen.head?.map (·.1)).getD 0) - ((seen.getLast?.map (·.1)).getD 0)

/-- CATCH_END (R215, R217): the measurement ends at the thirteenth crossing or after 50 ms (B1-04) and classifies the rotor. -/
def catchEnd (k : Nat) (conv : List CatchConv) (s : State) : State :=
  let q := catchRun s k conv
  let seen := q.1.seen
  if spState s k = spCatch ∧ (13 ≤ seen.length ∨ 5000 ≤ q.1.count) then
    let n := seen.length - 1
    let d := catchSpan seen
    let (rpm, s) := q.2.divFree ((1666667 * n : Nat) : Int) (10 * d)
    let (forward, s) := catchForward s seen
    let stopped := decide (seen.length < 3) || decide (1666667 * n < 600 * d)
    let s := (s.set (MOT_SP_STATUS_CATCH_RPM k) (min (2 ^ 13 - 1) rpm.toNat)).set (MOT_SP_STATUS_CATCH_DIR k) (if stopped then 0 else if forward then 1 else 2)
    if stopped then askSlot (enterSp s k spQueued) k
    else if forward ∧ 3000 * d ≤ 1666667 * n then
      let (tc, s) := s.divFree ((10000 * d : Nat) : Int) n
      let s := (s.set (MOT_SP_STATUS_STEP k) (catchStep seen)).modSp k fun p => { p with intervals := [tc.toNat], nextAt := none, zc := [] }
      enterRun (measure s k) k
    else enterSp (s.modSp k fun p => { p with brakes := p.brakes + 1 }) k spBrake
  else s

def execCatchEnd (k : Fin 8) (conv : List CatchConv) (s : State) : Res := .next (catchEnd k conv s)

/-- BRAKE_END (R215, R218): back to CATCH after BRAKE_T, or FAULT after more than BRAKE_MAX bursts. -/
def brakeEnd (k : Nat) (s : State) : State :=
  if spState s k = spBrake then
    if s.get (MOT_SP_CATCH_BRAKE_MAX k) < (s.spindle k).brakes then (enterSp s k spFault).ev (MOT_SP_EVENT_CATCH_FAIL k)
    else enterSp s k spCatch
  else s

def execBrakeEnd (k : Fin 8) (s : State) : Res := .next (brakeEnd k s)

/-- SLOT_GRANT (R215, R219, R223): a free slot goes to the first spindle that waits. -/
def slotGrant (b : Nat) (s : State) : State :=
  match (s.motorBus b).waiting with
  | [] => s
  | k :: rest =>
    if slotsUsed s b < spinSlots s b then
      let s := ((s.modBus b fun m => { m with waiting := rest }).set (MOT_SP_STATUS_SLOT k) 1).modSp k fun p => { p with slotWait := false }
      refreshBus (if spState s k = spQueued then (enterSp s k spAlign).set (MOT_SP_STATUS_STEP k) 0 else s) b
    else s

def execSlotGrant (bus : Fin 2) (s : State) : Res := .next (slotGrant bus s)

/-- ALIGN_END (R215, R219): ALIGN_MS has elapsed. -/
def alignEnd (k : Nat) (s : State) : State :=
  if spState s k = spAlign then enterSp (s.modSp k fun p => { p with intervals := [], qual := 0, nextAt := none, zc := [], openSq := 0 }) k spOpen else s

def execAlignEnd (k : Fin 8) (s : State) : Res := .next (alignEnd k s)

/-- OPEN_HOLD_FAIL (R215): OPEN_HOLD at 600 rpm without qualification: COAST for 100 ms; the third failure is a FAULT. -/
def openHoldFail (k : Nat) (s : State) : State :=
  if spState s k = spOpen ∧ 600 * 16 ≤ s.get (MOT_SP_SPEED_MEAS k) ∧ (s.spindle k).qual < 12 then
    let s := s.modSp k fun p => { p with openFails := p.openFails + 1 }
    if 3 ≤ (s.spindle k).openFails then (enterSp s k spFault).ev (MOT_SP_EVENT_START_FAIL k)
    else (enterSp s k spCoast).modSp k fun p => { p with coastWait := true }
  else s

def execOpenHoldFail (k : Fin 8) (s : State) : Res := .next (openHoldFail k s)

/-- COAST_END (R215): the 100 ms coast ends in CATCH, in the same start. -/
def coastEnd (k : Nat) (s : State) : State :=
  if spState s k = spCoast ∧ (s.spindle k).coastWait = true then
    let s := s.modSp k fun p => { p with coastWait := false, qual := 0 }
    if spEnabled s k = true ∧ s.get (MOT_SP_SET_SET_RPM k) ≠ 0 ∧ ovOn s k = false then enterSp s k spCatch else s
  else s

def execCoastEnd (k : Fin 8) (s : State) : Res := .next (coastEnd k s)

/-- STOP_BRAKE_END (R215, R222): STOP_BRAKE has elapsed in STOPPING. -/
def stopBrakeEnd (k : Nat) (s : State) : State := if spState s k = spStopping then tryCatch (enterSp s k spStopped) k else s

def execStopBrakeEnd (k : Fin 8) (s : State) : Res := .next (stopBrakeEnd k s)

/-- SP_SET_WRITE (R220 to R222, R232): a legal set point is stored and re-plans the ramp from MEAS; any other write is refused
in full. -/
def spSetWrite (k v : Nat) (s : State) : State :=
  let rpm := v % 2 ^ 13
  if v.testBit 31 ∨ ¬(rpm = 0 ∨ (600 ≤ rpm ∧ rpm ≤ 7200)) then s.ev (MOT_SP_EVENT_SET_REFUSED k)
  else
    let s := (s.set (MOT_SP_SET_SET_RPM k) rpm).set (MOT_SP_SET_RAMP k) (v / 2 ^ 16)
    let s := s.modSp k fun p => { p with desync := false }
    let st := spState s k
    if st = spRun then noteSpeed (rampFrom s k) k
    else if rpm = 0 ∧ ((spCatch ≤ st ∧ st ≤ spOpen) ∨ (st = spCoast ∧ (s.spindle k).coastWait = true)) then
      enterSp (s.modSp k fun p => { p with coastWait := false }) k (if s.get (MOT_SP_STATUS_CATCH_DIR k) = 0 then spStopped else spCoast)
    else if rpm = 0 then s.modSp k fun p => { p with coastWait := false }
    else tryCatch s k

def execSpSetWrite (k : Fin 8) (value : Word) (s : State) : Res := .next (s.clocked motIsland fun s => spSetWrite k value.toNat s)

/-- SP_ENABLE_WRITE (R215, R216, R232): ENABLE with a set point starts CATCH; clearing it is COAST at once. -/
def spEnableWrite (k : Nat) (set : Bool) (s : State) : State :=
  let s := (s.set (MOT_SP_CTRL_ENABLE k) (if set then 1 else 0)).modSp k fun p => { p with desync := false }
  if set then tryCatch s k else coast s k

def execSpEnableWrite (k : Fin 8) (set : Bool) (s : State) : Res := .next (s.clocked motIsland fun s => spEnableWrite k set s)

/-- Set or clear MOT_CTRL.ENABLE: 0 holds every spindle in COAST (R231). -/
def motEnable (s : State) (set : Bool) : State :=
  let s := s.set MOT_CTRL_ENABLE (if set then 1 else 0)
  s.each (List.range 8) fun s k => if set then tryCatch s k else coast s k

/-- FAULT_CLR (R215): FAULT to COAST. -/
def faultClr (k : Nat) (s : State) : State := if spState s k = spFault then tryCatch (enterSp s k spCoast) k else s

def execFaultClr (k : Fin 8) (s : State) : Res := .next (s.clocked motIsland fun s => faultClr k s)

/-- CHOP_ON and CHOP_OFF as they act (MOT_BUS_CTRL). -/
def chopOn (s : State) (b : Nat) : Nat := max 2500 (min 3000 (s.get (MOT_BUS_CTRL_CHOP_ON b)))
/-- CHOP_OFF as it acts. -/
def chopOff (s : State) (b : Nat) : Nat := min (chopOn s b - 20) (s.get (MOT_BUS_CTRL_CHOP_OFF b))

/-- A chopper sample: the energy accumulator gains V_BUS × current and leaks, and saturates (R225, R233). -/
def chopEnergy (s : State) (b current elapsed : Nat) : State :=
  let e := (s.motorBus b).energy + s.get (MOT_BUS_STATUS_V_BUS b) * current * elapsed - s.get (MOT_BUS_CHOPCFG_LEAK b) * 200 * elapsed
  let e := min (65535 * 200000000000) e
  let was := s.get (MOT_BUS_ENERGY_E_ACC b)
  let (v, s) := s.divFree (e : Int) 200000000000
  let acc := min (2 ^ 16 - 1) v.toNat
  let s := (s.set (MOT_BUS_ENERGY_E_ACC b) acc).modBus b fun m => { m with energy := e, current := current }
  s.iff (decide (was < s.get (MOT_BUS_ENERGY_E_MAX b) ∧ s.get (MOT_BUS_ENERGY_E_MAX b) ≤ acc)) fun s => s.ev (MOT_BUS_EVENT_E_LIMIT b)

/-- At a frame start the entries of the sequencer take effect (R230), and coefficients that wait for the ADC (R463, R465, R466). -/
def frameStart (s : State) (a frameNs : Nat) : State :=
  let s := s.set MOT_SEQ_STATUS_FRAME_MAX (max (s.get MOT_SEQ_STATUS_FRAME_MAX) (min (2 ^ 16 - 1) frameNs))
  let s := match s.calNext.find? a with
    | some (gain, ofs) =>
      let s := ((s.set (CAL_ACT_GAIN a) gain).set (CAL_ACT_OFS a) ofs).ev CAL_EVENT_APPLIED
      { s with calNext := s.calNext.erase a }
    | none => s
  { s with seqFrame := (List.range 16).foldl (fun m i =>
      let e := 4 * i + a
      m.insert e (256 * s.get (MOT_SEQ_SLOT_FREE e) + s.get (MOT_SEQ_SLOT_CH e))) s.seqFrame }

/-- An entry of the sequencer in force: 256 × FREE + CH, the reset frame until a frame start takes another (R230, R231). -/
def entryInForce (s : State) (e : Nat) : Nat := s.seqFrame.getD e (256 * seqSlotFreeReset e + seqSlotChReset e)

/-- The place, at or after one in the frame of ADC a, of the next entry that converts: a FREE one takes its time and converts
nothing (R230). -/
def nextEntry (s : State) (a place : Nat) : Option Nat := ((List.range 16).drop place).find? fun j => entryInForce s (4 * j + a) / 256 == 0

/-- The entry ADC a takes next; past the last one its next frame starts (R230). -/
def takeEntry (s : State) (a frameNs : Nat) : Nat × State :=
  match nextEntry s a (s.seqPos.getD a 0) with
  | some j => (j, s)
  | none => let s := frameStart s a frameNs; ((nextEntry s a 0).getD 0, s)

/-- A bus voltage, in 10 mV: the chopper gate turns on at CHOP_ON and off at CHOP_OFF, and 31.0 V sends the bus's spindles to COAST with OV
(R224, R227). -/
def busVoltage (s : State) (b v : Nat) : State :=
  let s := s.set (MOT_BUS_STATUS_V_BUS b) v
  let allowed := s.on (MOT_BUS_CTRL_CHOP_EN b) && !chopLatched s b
  let s := s.iff (allowed && decide (chopOn s b ≤ v)) fun s => s.set (MOT_BUS_STATUS_CHOPPING b) 1
  let s := s.iff (decide (v ≤ chopOff s b)) fun s => s.set (MOT_BUS_STATUS_CHOPPING b) 0
  s.iff (decide (3100 ≤ v)) fun s => (s.ev (MOT_BUS_EVENT_OV b)).each (busSpindles b) fun s k => coast s k

/-- The corrected value of channel c of a bus's ADC acts: 8 is the bus voltage, 9 the chopper current (R224, R225, R229). -/
def busValue (s : State) (b c elapsed : Nat) (v : Int) : State :=
  if c = 8 then busVoltage s b (min 4095 v.toNat) else if c = 9 then chopEnergy s b v.toNat elapsed else s

/-- BUS_SAMPLE (R224, R225, R227, R230, R232, R461): the sequencer's next conversion on an ADC, of the channel its entry in force names.
A chopper current adds its energy over the time since the last one. Where a frame starts, the one before it took frameNs. -/
def busSample (a code elapsed frameNs : Nat) (s : State) : State :=
  let (j, s) := takeEntry s a frameNs
  let s := { s with seqPos := s.seqPos.set a 0 (j + 1) }
  let c := entryInForce s (4 * j + a) % 16
  let (v, s) := convert s a c code
  refreshBus (busValue s (a / 2) c elapsed v) (a / 2)

def execBusSample (adc : Fin 4) (code : BitVec 12) (elapsedNs frameNs : Nat) (s : State) : Res :=
  .next (busSample adc code.toNat elapsedNs frameNs s)

/-- A chopper test fails (R226): the latest chopper current against CHOP_I_MIN, and the latest bus sample against CHOP_ON, so long after
the gate turned on or off. -/
def chopFails (s : State) (b : Nat) (kind : ChopFault) (sinceUs : Nat) : Bool :=
  let gate := s.on (MOT_BUS_STATUS_CHOPPING b)
  let flows := decide (s.get (MOT_BUS_CHOPCFG_CHOP_I_MIN b) ≤ (s.motorBus b).current)
  match kind with
  | .noCurrent => gate && decide (20 ≤ sinceUs) && !flows
  | .noFall => gate && decide (500 ≤ sinceUs) && decide (chopOn s b ≤ s.get (MOT_BUS_STATUS_V_BUS b))
  | .stuck => !gate && decide (100 ≤ sinceUs) && flows

/-- CHOP_FAULT (R226): a failed chopper test is latched; the gate is held off and spindles that regenerate go to SHORT, or OFF
at I2T_MAX. -/
def chopFault (b : Nat) (kind : ChopFault) (sinceUs : Nat) (s : State) : State :=
  if chopFails s b kind sinceUs = false then s
  else
    let s := s.ev (match kind with | .noCurrent => MOT_BUS_EVENT_CHOP_NOCUR b | .noFall => MOT_BUS_EVENT_CHOP_NOFALL b | .stuck => MOT_BUS_EVENT_CHOP_STUCK b)
    let s := s.each (busSpindles b) fun s k =>
      s.iff (spState s k == spRun && (s.spindle k).regen.isSome) fun s => s.modSp k fun p => { p with chopShort := true, regen := none }
    refreshBus s b

def execChopFault (bus : Fin 2) (kind : ChopFault) (sinceUs : Nat) (s : State) : Res := .next (chopFault bus kind sinceUs s)

/-- OV_CLEAR (R227): effective only while V_BUS is below 29.0 V. -/
def ovClear (b : Nat) (s : State) : State :=
  if s.get (MOT_BUS_STATUS_V_BUS b) < 2900 then
    (s.set (MOT_BUS_EVENT_OV b) 0).each (busSpindles b) fun s k => tryCatch s k
  else s

def execOvClear (bus : Fin 2) (s : State) : Res := .next (s.clocked motIsland fun s => ovClear bus s)

/-- I2T_LIMIT (R228): at I2T_MAX the current is clamped to I_CONT and SHORT becomes OFF. -/
def i2tLimit (k : Nat) (s : State) : State :=
  if heatMax s k ≤ (s.spindle k).heat ∧ (s.spindle k).clamp = false then
    ((s.ev (MOT_SP_EVENT_I2T_LIMIT k)).set (MOT_SP_STATUS_LIMITING k) 1).modSp k fun p => { p with clamp := true }
  else s

def execI2tLimit (k : Fin 8) (s : State) : Res := .next (i2tLimit k s)

/-- Entries of an ADC with a channel, were entry i to hold (free, ch). -/
def entriesWith (s : State) (i free ch c : Nat) : Nat :=
  ((List.range 16).filter fun j =>
    let e := 4 * j + i % 4
    if e = i then free == 0 && ch == c else s.get (MOT_SEQ_SLOT_FREE e) == 0 && s.get (MOT_SEQ_SLOT_CH e) == c).length

/-- SEQ_ENTRY_WRITE (R230, R231): refused with SEQ_ERR if its ADC would keep fewer than 4 BUS or 2 CHOP entries, or for channels
13 to 15; else the entry applies from the next frame. -/
def seqEntryWrite (i v : Nat) (s : State) : State :=
  let free := v / 2 ^ 8 % 2
  let ch := v % 16
  if 13 ≤ ch ∨ entriesWith s i free ch 8 < 4 ∨ entriesWith s i free ch 9 < 2 then s.ev MOT_SEQ_STATUS_SEQ_ERR
  else (s.set (MOT_SEQ_SLOT_FREE i) free).set (MOT_SEQ_SLOT_CH i) ch

def execSeqEntryWrite (i : Fin 64) (value : Word) (s : State) : Res := .next (s.clocked motIsland fun s => seqEntryWrite i value.toNat s)

end Sys2Proof.Machine
end

