-- ==== Sys2Proof/Machine/Ductus.lean ====
section
/-!
DEFINITION. Chapter 09: sled plans, microsteps, limit switches and homing, and the two Ductus buses. Plans are held in nm/s,
ns and fm; a rounding the manual leaves open is a free value (assumption 8).
-/

namespace Sys2Proof.Machine

/-- Sled n. -/
def State.sled (s : State) (n : Nat) : Sled := s.sleds.getD n {}

/-- Change sled n. -/
def State.modSled (s : State) (n : Nat) (f : Sled → Sled) : State := { s with sleds := s.sleds.set n {} (f (s.sled n)) }

/-- Modes of R237. -/
abbrev slOff : Nat := 0
/-- HOLD. -/
abbrev slHold : Nat := 1
/-- POSITION. -/
abbrev slPosition : Nat := 2
/-- FOLLOW. -/
abbrev slFollow : Nat := 3
/-- HOMING. -/
abbrev slHoming : Nat := 4
/-- EXT. -/
abbrev slExt : Nat := 5

/-- The mode in force. -/
def sledMode (s : State) (n : Nat) : Nat := s.get (DUC_SL_STATUS_MODE_ACT n)

/-- The output number of sled n's stage, address 8 + n (R235, R383). -/
def sledOut (n : Nat) : Nat := 24 + n

/-- The interpolator's position (R243). -/
def sledPos (s : State) (n : Nat) : Int := toSigned 32 (s.get (DUC_SL_POS_POS n))

/-- Set the interpolator's position. -/
def setPos (s : State) (n : Nat) (p : Int) : State := s.set (DUC_SL_POS_POS n) (ofSigned 32 p)

/-- A microstep and a full step in fm (R234). -/
def microFm : Int := 58593750
/-- A full step in fm. -/
def stepFm : Int := 15000000000

/-- ACC in mm/s²: above 3,000 acts as 3,000, 0 as 1. -/
def accOf (s : State) (n : Nat) : Nat := max 1 (min 3000 (s.get (DUC_SL_KIN_ACC n)))

/-- VMAX in nm/s: above 12,000 acts as 12,000. -/
def vmaxOf (s : State) (n : Nat) : Nat := min 12000 (s.get (DUC_SL_KIN_VMAX n)) * 10000

/-- HOME_FAST in nm/s. -/
def homeFast (s : State) (n : Nat) : Nat := s.get (DUC_SL_HOME_HOME_FAST n) * 10000

/-- HOME_SLOW in nm/s. -/
def homeSlow (s : State) (n : Nat) : Nat := s.get (DUC_SL_HOME_HOME_SLOW n) * 10000

/-! ### Shapes (R238, R240), in 1/2^60 -/

/-- One in the fixed point of the shapes. -/
def qOne : Int := 2 ^ 60
/-- π in that fixed point. -/
def qPi : Int := 3622009729038561421

/-- The k remaining terms of the cosine series: term t, square x2, next index i. -/
def cosTerms : Nat → Nat → Int → Int → Int
  | 0, _, _, _ => 0
  | k + 1, i, x2, t =>
    t + cosTerms k (i + 2) x2 (-(t * x2 / qOne) / (((i + 1) * (i + 2) : Nat) : Int))

/-- cos(π a / b). -/
def cosPi (a b : Nat) : Int := if b = 0 then qOne else let x := qPi * a / b; cosTerms 30 0 (x * x / qOne) qOne

/-- sin(π a / b) for a ≤ 2 b. -/
def sinPi (a b : Nat) : Int := if 2 * a ≤ b then cosPi (b - 2 * a) (2 * b) else cosPi (2 * a - b) (2 * b)

/-- The share of its distance beyond v0 × t that a segment of a kind and shape has gained at t of T: the integral of the share of
its speed change, over T. -/
def gained (kind shape t T : Nat) : Int :=
  let a : Int := t
  let b : Int := T
  if T = 0 ∨ kind = 1 then 0
  else if kind = 0 then
    if shape = 0 then qOne * (a * a) / (2 * b * b) - (qOne - cosPi (2 * t) T) * qOne / (4 * qPi) * qOne / qPi
    else qOne * (14 * a ^ 5 * b ^ 3 - 28 * a ^ 6 * b ^ 2 + 20 * a ^ 7 * b - 5 * a ^ 8) / (2 * b ^ 8)
  else
    if shape = 0 then qOne * (a * a) / (2 * b * b) + (qOne - cosPi t T) * qOne / qPi * qOne / qPi
    else qOne * (140 * a ^ 2 * b ^ 6 - 70 * a ^ 4 * b ^ 4 + 28 * a ^ 6 * b ^ 2 - 5 * a ^ 8) / (128 * b ^ 8)

/-- The share of its speed change that a segment has made at t of T. -/
def sped (kind shape t T : Nat) : Int :=
  let a : Int := t
  let b : Int := T
  if T = 0 ∨ kind = 1 then 0
  else if kind = 0 then
    if shape = 0 then qOne * a / b - sinPi (2 * t) T * qOne / (2 * qPi)
    else qOne * (35 * a ^ 4 * b ^ 3 - 84 * a ^ 5 * b ^ 2 + 70 * a ^ 6 * b - 20 * a ^ 7) / b ^ 7
  else
    if shape = 0 then qOne * a / b + sinPi t T * qOne / qPi
    else qOne * (35 * a * b ^ 6 - 35 * a ^ 3 * b ^ 4 + 21 * a ^ 5 * b ^ 2 - 5 * a ^ 7) / (16 * b ^ 7)

/-- The acceleration at t of T, over the segment's mean one. -/
def accShare (kind shape t T : Nat) : Int :=
  let a : Int := t
  let b : Int := T
  if T = 0 ∨ kind = 1 then 0
  else if kind = 0 then
    if shape = 0 then qOne - cosPi (2 * t) T
    else qOne * (140 * a ^ 3 * (b - a) ^ 3) / b ^ 6
  else
    if shape = 0 then qOne + cosPi t T
    else qOne * (35 * (b * b - a * a) ^ 3) / (16 * b ^ 6)

/-- The displacement within a segment at t ns, in fm. -/
def along (s : State) (g : Seg) (shape t : Nat) : Int × State :=
  if g.dur ≤ t then (g.dist, s)
  else s.divFree (g.v0 * t * qOne + (g.v1 - g.v0) * g.dur * gained g.kind shape t g.dur) (1000 * 2 ^ 60)

/-! ### Plans -/

/-- A change of speed at the mean acceleration ACC (R238). -/
def rampSeg (s : State) (n : Nat) (v0 v1 : Int) : Seg × State :=
  let (t, s) := s.divFree (1000 * ((v1 - v0).natAbs : Int)) (accOf s n)
  let (d, s) := s.divFree ((v0 + v1) * t) 2000
  (.mk 0 v0 v1 t.toNat d, s)

/-- A stop from v that ends exactly d further on (fm): the duration follows from the distance. -/
def stopSeg (s : State) (v d : Int) : Seg × State :=
  if v = 0 then (.mk 1 0 0 0 d, s)
  else let (t, s) := s.divFree (2000 * (d.natAbs : Int)) v.natAbs; (.mk 0 v 0 t.toNat d, s)

/-- A cruise over d fm. -/
def cruiseSeg (s : State) (v d : Int) : Seg × State :=
  let (t, s) := s.divFree (1000 * (d.natAbs : Int)) v.natAbs
  (.mk 1 v v t.toNat d, s)

/-- A square root whose rounding is open. -/
def State.sqrtFree (s : State) (m : Nat) : Nat × State :=
  let r := sqrtBits m 48 0
  if r * r = m then (r, s) else let (up, s) := s.coin; (r + (if up then 1 else 0), s)

/-- R239 for a start toward the target, from speed v ≥ 0 along direction σ at distance d ≥ 0 with room to stop, at most vm. -/
def planToward (s : State) (n : Nat) (σ : Int) (v d vm : Nat) : List Seg × State :=
  if d = 0 ∧ v = 0 then ([], s)
  else
    let acc := accOf s n
    let (half, s) := s.divFree ((v * v : Nat) : Int) 2
    let (peak, s) := s.sqrtFree (acc * d + half.toNat)
    let vp := min vm peak
    if vp = 0 then ([], s)
    else
      let (up, s) := rampSeg s n (σ * v) (σ * vp)
      if vp = vm then
        let (stop, s) := s.divFree ((vp * vp : Nat) : Int) (2 * acc)
        let (down, s) := stopSeg s (σ * vp) (σ * stop)
        let (mid, s) := cruiseSeg s (σ * vp) (σ * d - up.dist - down.dist)
        ([up, mid, down], s)
      else
        let (down, s) := stopSeg s (σ * vp) (σ * d - up.dist)
        ([up, down], s)

/-- Keep the segments that last. -/
def lasting (l : List Seg) : List Seg := l.filter fun g => g.dur != 0 || g.dist != 0

/-- A point-to-point plan from x with speed v to the target (R239). -/
def planTo (s : State) (n : Nat) (x v target : Int) (vm : Nat) : List Seg × State :=
  let d := target - x
  let σ : Int := if d < 0 then -1 else 1
  if v = 0 then planToward s n σ 0 d.natAbs vm
  else
    let (stop, s) := rampSeg s n v 0
    if 0 ≤ σ * v ∧ stop.dist.natAbs ≤ d.natAbs then planToward s n σ v.natAbs d.natAbs vm
    else
      let d := target - (x + stop.dist)
      let (rest, s) := planToward s n (if d < 0 then -1 else 1) 0 d.natAbs vm
      (stop :: rest, s)

/-- The blend-out of R240, if there is acceleration. -/
def blendOut (s : State) (n : Nat) (v a : Int) (shape : Nat) : Option Seg × State :=
  if a = 0 then (none, s)
  else
    let (t, s) := s.divFree (10000 * (a.natAbs : Int)) (accOf s n)
    let (dv, s) := s.divFree (a * t) 2000000
    let g : Seg := .mk 2 v (v + dv) t.toNat 0
    let (d, s) := s.divFree (v * t * qOne + dv * t * gained 2 shape t.toNat t.toNat) (1000 * 2 ^ 60)
    (some { g with dist := d }, s)

/-- Start a plan: the shape of its first segment is the one chosen now. -/
def startPlan (s : State) (n : Nat) (l : List Seg) : State :=
  let shape := s.get (DUC_SL_CTRL_PROFILE n)
  s.modSled n fun q => { q with plan := lasting l, t := 0, shape := shape }

/-- The plan's present position, in fm. -/
def planPos (s : State) (n : Nat) : Int × State :=
  let q := s.sled n
  match q.plan with
  | [] => (q.x, s)
  | g :: _ => let (d, s) := along s g q.shape q.t; (q.x + d, s)

/-- Stand at the plan's present position with nothing planned; its speed and acceleration stay. -/
def freeze (s : State) (n : Nat) : State :=
  let (x, s) := planPos s n
  s.modSled n fun q => { q with plan := [], t := 0, x := x }

/-- Re-plan from the present position, speed and acceleration (R240): blend out, then the plan that k forms. -/
def replan (s : State) (n : Nat) (k : State → Int → Int → List Seg × State) : State :=
  let s := freeze s n
  let q := s.sled n
  let (b, s) := blendOut s n q.v q.a (s.get (DUC_SL_CTRL_PROFILE n))
  match b with
  | none => let (l, s) := k s q.x q.v; startPlan s n l
  | some g => let (l, s) := k s (q.x + g.dist) g.v1; startPlan s n (g :: l)

/-- Decelerate to rest along the profile. -/
def profiledStop (s : State) (n : Nat) : State :=
  replan s n fun s _ v => if v = 0 then ([], s) else let (g, s) := rampSeg s n v 0; ([g], s)

/-- Run at speed w until something else is planned: through rest where the direction turns. -/
def runAt (s : State) (n : Nat) (w : Int) : State :=
  replan s n fun s _ v =>
    let far : Int := (if w < 0 then -1 else 1) * (2 ^ 32 * microFm)
    if v * w < 0 then
      let (a, s) := rampSeg s n v 0
      let (b, s) := rampSeg s n 0 w
      let (c, s) := if w = 0 then (.mk 1 0 0 0 0, s) else cruiseSeg s w far
      ([a, b, c], s)
    else
      let (b, s) := rampSeg s n v w
      let (c, s) := if w = 0 then (.mk 1 0 0 0 0, s) else cruiseSeg s w far
      ([b, c], s)

/-- MOVING: a plan or interpolation in progress. -/
def sledBusy (s : State) (n : Nat) : Bool :=
  let q := s.sled n
  q.moving || !q.plan.isEmpty || q.v != 0 || q.goal != sledPos s n || !q.edges.isEmpty

/-- Present MOVING. -/
def showMoving (s : State) (n : Nat) : State := s.set (DUC_SL_STATUS_MOVING n) (if sledBusy s n then 1 else 0)

/-- POS_STATE becomes UNCERTAIN, or stays UNKNOWN after a homing failure (R236, R249). -/
def uncertain (s : State) (n : Nat) (keepUnknown : Bool) : State :=
  if keepUnknown = true ∧ s.get (DUC_SL_STATUS_POS_STATE n) = 0 then s else s.set (DUC_SL_STATUS_POS_STATE n) 2

/-- Nothing planned: the plan stands where the interpolator stands. -/
def dropPlan (s : State) (n : Nat) : State :=
  let p := sledPos s n
  (s.set (DUC_SL_STATUS_SPEED n) 0).modSled n fun q =>
    { q with plan := [], t := 0, x := p * microFm, v := 0, a := 0, moving := false, goal := p, rest := true, edges := [], homeNext := .none, homeMark := none }

/-- Stop at once (R245, R249, R257): the interpolator holds, MODE_ACT becomes HOLD and a moving sled loses its position; a
homing sequence fails. DEDUCED (assumption 96): what was written since the last planner tick, before the stop or after it, is discarded. -/
def stopAtOnce (s : State) (n : Nat) : State :=
  let homing := sledMode s n == slHoming
  let moving := sledBusy s n
  let s := (dropPlan s n).modSled n fun q => { q with modeReq := none, targetReq := none, stopped := true }
  let s := s.set (DUC_SL_STATUS_MODE_ACT n) slHold
  let s := s.iff moving fun s => (if homing then s else uncertain s n false).ev (DUC_SL_EVENT_STOPPED_HARD n)
  let s := s.iff homing fun s => ((uncertain s n true).set (DUC_SL_STATUS_HOME_STATE n) 4).ev (DUC_SL_EVENT_HOME_FAIL n)
  showMoving s n

/-! ### Homing (R249) -/

/-- BACK begins: outward at HOME_FAST. -/
def homeBack (s : State) (n : Nat) : State :=
  let s := (runAt (s.set (DUC_SL_STATUS_HOME_STATE n) 2) n (homeFast s n))
  s.modSled n fun q => { q with homeFrom := q.x, homeMark := none, homeNext := .none }

/-- SEEK begins: inward at HOME_FAST. -/
def homeSeek (s : State) (n : Nat) : State :=
  let s := (runAt (s.set (DUC_SL_STATUS_HOME_STATE n) 1) n (-(homeFast s n : Int)))
  s.modSled n fun q => { q with homeFrom := q.x, homeMark := none, homeNext := .none }

/-- APPROACH begins: inward at HOME_SLOW. -/
def homeApproach (s : State) (n : Nat) : State :=
  let s := (runAt (s.set (DUC_SL_STATUS_HOME_STATE n) 3) n (-(homeSlow s n : Int)))
  s.modSled n fun q => { q with homeFrom := q.x, homeMark := none, homeNext := .none }

/-- START: the switch chooses BACK or SEEK. -/
def homeStart (s : State) (n : Nat) : State :=
  let s := s.set (DUC_SL_STATUS_HOME_STATE n) 0
  if s.on (DUC_SL_STATUS_SW_QUAL n) then homeBack s n else homeSeek s n

/-- The end of APPROACH: the position is shifted by the latch. -/
def homeFinish (s : State) (n : Nat) : State :=
  let d := toSigned 32 (s.get (DUC_SL_HOME_POS_HOME_POS n)) - toSigned 32 (s.get (DUC_SL_LATCH_POS_LATCH_POS n))
  let s := dropPlan (setPos s n (sledPos s n + d)) n
  ((s.set (DUC_SL_STATUS_POS_STATE n) 1).ev (DUC_SL_EVENT_HOMED n)).set (DUC_SL_STATUS_MODE_ACT n) slHold

/-- A profiled stop of the sequence has ended. -/
def homeRest (s : State) (n : Nat) : State :=
  match (s.sled n).homeNext with
  | .none => s
  | .back => homeBack s n
  | .approach => homeApproach s n
  | .finish => homeFinish s n

/-- Begin the profiled stop after which k follows. -/
def homeStop (s : State) (n : Nat) (k : HomeNext) : State :=
  (profiledStop s n).modSled n fun q => { q with homeNext := k, homeMark := none }

/-- The travel limits and the end of the back-off, at a planner tick with the plan at x. -/
def homeCheck (s : State) (n : Nat) (x : Int) : State :=
  let q := s.sled n
  let st := s.get (DUC_SL_STATUS_HOME_STATE n)
  let travel := (x - q.homeFrom).natAbs
  let b := s.get (DUC_SL_HOME_BACKOFF n)
  let limit := stepFm.natAbs * (if st = 1 then 2700 else if st = 2 then 4 * b else 2 * b)
  if sledMode s n = slHoming ∧ q.homeNext = .none then
    match q.homeMark with
    | some m => if m ≤ x then homeStop s n .approach else s
    | none => if limit ≤ travel then stopAtOnce s n else s
  else s

/-! ### The planner tick (R237 to R243) -/

/-- A mode request taken up (R237). -/
def takeMode (s : State) (n m : Nat) : State :=
  let was := sledMode s n
  if m = was then s
  else
    let s := (s.set (DUC_SL_STATUS_MODE_ACT n) m).modSled n fun q => { q with moving := false, edges := [], extSeen := false, homeNext := .none, homeMark := none }
    if m = slOff then uncertain (dropPlan s n) n false
    else if m = slFollow then freeze s n
    else if m = slHoming then homeStart s n
    else profiledStop s n

/-- A TARGET write taken up: an absolute target, or under JOG a displacement at no more than HOME_FAST (R239, R240, R242). -/
def takeTarget (s : State) (n : Nat) (t : Int) (jog : Bool) : State :=
  let (x, s) := planPos s n
  let goal := if jog then x + t * microFm else t * microFm
  let vm := if jog then min (vmaxOf s n) (homeFast s n) else vmaxOf s n
  (replan s n fun s x v => planTo s n x v goal vm).modSled n fun q => { q with moving := true }

/-- The demand of sled n, if its loop commands it (R165, R241). -/
def sledDemand (s : State) (n : Nat) : Option Int :=
  let driven := (List.range 32).any fun j => modeOf s 16 j != mOff && modeOf s 16 j != mShadow && destOf (programOf s 16 j) == some (0x10 + n)
  if driven && !s.on (LE_STATUS_FAULT 16) && s.on (LE_CTRL_ENABLE 16) then some ((s.engine 16).sent.getD (0x10 + n) 0) else none

/-- FOLLOW over one tick (R241): the speed moves toward the demand by no more than ACC; a motion that would pass a soft limit
stops there. -/
def followTick (s : State) (n : Nat) : State :=
  let dem := sledDemand s n
  let s := s.iff dem.isNone fun s => s.ev (DUC_SL_EVENT_DEMAND_LOST n)
  let q := s.sled n
  if q.plan ≠ [] then s
  else
    let vm : Int := vmaxOf s n
    let (w, s) := s.divFree (dem.getD 0 * (10000 * s.get (DUC_SL_CTRL_FOLLOW_V n) : Nat)) (2 ^ 31)
    let w := clampInt (-vm) vm w
    let most : Int := 4 * accOf s n
    let v := q.v + clampInt (-most) most (w - q.v)
    let (stop, s) := s.divFree (v * v) (2 * accOf s n)
    let lo := toSigned 32 (s.get (DUC_SL_SOFT_MIN_LIMIT n)) * microFm
    let hi := toSigned 32 (s.get (DUC_SL_SOFT_MAX_LIMIT n)) * microFm
    let room := if v < 0 then q.x - lo else hi - q.x
    if v ≠ 0 ∧ room < stop + 4 * (v.natAbs : Int) then
      let s := s.ev (DUC_SL_EVENT_SOFT_LIMIT n)
      let d := if v < 0 then lo - q.x else hi - q.x
      if 0 < room ∧ q.v ≠ 0 ∧ 0 < q.v * v then let (g, s) := stopSeg s q.v d; startPlan (s.modSled n fun q => { q with a := 0 }) n [g]
      else s.modSled n fun q => { q with v := 0, a := 0 }
    else s.modSled n fun q => { q with x := q.x + (q.v + v) * 2, v := v, a := (v - q.v) * 250 }

/-- Advance a plan by t ns. -/
def sledAdvance (s : State) (n : Nat) : Nat → Nat → State
  | 0, _ => s
  | k + 1, t =>
    let q := s.sled n
    match q.plan with
    | [] => s
    | g :: r =>
      if g.dur ≤ q.t + t then
        let shape := s.get (DUC_SL_CTRL_PROFILE n)
        let s := s.modSled n fun q => { q with plan := r, t := 0, x := q.x + g.dist, v := g.v1, a := 0, shape := shape }
        sledAdvance s n k (q.t + t - g.dur)
      else
        let u := q.t + t
        let dv := s.divFree ((g.v1 - g.v0) * sped g.kind q.shape u g.dur) (2 ^ 60)
        let a := dv.2.divFree ((g.v1 - g.v0) * 1000000 * accShare g.kind q.shape u g.dur) (g.dur * 2 ^ 60)
        a.2.modSled n fun q => { q with t := u, v := g.v0 + dv.1, a := a.1 }

/-- The distance that a segment of a shape has covered at t ns, in fm, rounded down. -/
def reach (g : Seg) (shape t : Nat) : Int :=
  if g.dur ≤ t then g.dist else (g.v0 * t * qOne + (g.v1 - g.v0) * g.dur * gained g.kind shape t g.dur) / (1000 * 2 ^ 60)

/-- The largest t below 2^k above t0 at which a segment still moves the way it began, found bit by bit. -/
def turnBits (g : Seg) (shape : Nat) : Nat → Nat → Nat
  | 0, t => t
  | k + 1, t =>
    let u := t + 2 ^ k
    if u < g.dur ∧ 0 < (g.v0 * qOne + (g.v1 - g.v0) * sped g.kind shape u g.dur) * g.v0 then turnBits g shape k u else turnBits g shape k t

/-- Where in its time a segment turns, if it does: its speed changes sign on the way (a blend-out may, R240). -/
def turnTime (g : Seg) (shape : Nat) : Option Nat := if g.v0 * g.v1 < 0 then some (turnBits g shape 48 0) else none

/-- Where the plan next stops or turns, seen from the start x of its first segment in direction σ: the end of the segments that keep that
direction, or the turning point within the one that leaves it. The first segment has the given shape, later ones the next. -/
def runEnd (σ : Int) (shape next : Nat) : Int → List Seg → Int
  | x, [] => x
  | x, g :: r =>
    if g.v1 * σ < 0 then (if 0 < g.v0 * σ then x + reach g shape ((turnTime g shape).getD 0) else x)
    else runEnd σ next next (x + g.dist) r

/-- The next full-step boundary beyond x in direction σ, in fm. -/
def nextBoundary (x σ : Int) : Int := if 0 < σ then (x / stepFm + 1) * stepFm else -((-x) / stepFm + 1) * stepFm

/-- The part of a segment's time, in ns, over which it moves in direction σ: all of it, or the part before or after its turn. -/
def sameWay (σ : Int) (g : Seg) (shape : Nat) : Nat × Nat :=
  match turnTime g shape with
  | none => (0, g.dur)
  | some t => if 0 < g.v0 * σ then (0, t) else (t, g.dur)

/-- Segment g, of a shape, has covered d fm in direction σ at t ns. -/
def covers (σ : Int) (g : Seg) (shape : Nat) (d : Int) (t : Nat) : Bool :=
  let (lo, hi) := sameWay σ g shape
  decide (hi ≤ t) || (decide (lo < t) && decide (σ * d * (1000 * 2 ^ 60) ≤ σ * (g.v0 * t * qOne + (g.v1 - g.v0) * g.dur * gained g.kind shape t g.dur)))

/-- The largest t below 2^k above t0 at which a segment has not yet covered d, found bit by bit. -/
def lateBits (σ : Int) (g : Seg) (shape : Nat) (d : Int) : Nat → Nat → Nat
  | 0, t => t
  | k + 1, t => if covers σ g shape d (t + 2 ^ k) then lateBits σ g shape d k t else lateBits σ g shape d k (t + 2 ^ k)

/-- When a plan has covered d fm in direction σ from the start of its first segment, in whole ns: later segments take the shape PROFILE
now names (R240, R243; assumption 8). -/
def coverTime (σ : Int) (shape next : Nat) : Int → List Seg → Nat
  | _, [] => 0
  | d, g :: r =>
    if σ * d ≤ σ * reach g shape (sameWay σ g shape).2 then lateBits σ g shape d 48 0 + 1 else g.dur + coverTime σ next next (d - g.dist) r

/-- The planner's predicted interval of the step that ends at a goal (fm): the plan's own time from the place where it left rest, or from
now, to there (R243). FOLLOW has no plan: what its demand will be is not known, and the value is free. -/
def stepInterval (s : State) (n : Nat) (σ goal : Int) (fromRest : Bool) : Nat × State :=
  let q := s.sled n
  match q.plan with
  | [] => s.fresh
  | l => (coverTime σ q.shape (s.get (DUC_SL_CTRL_PROFILE n)) (goal - q.x) l - (if fromRest then 0 else q.t), s)

/-- A coarse event in direction σ at the plan position x (R243). -/
def coarse (s : State) (n : Nat) (x σ : Int) (fromRest : Bool) : State :=
  let q := s.sled n
  let b := nextBoundary x σ
  let e := runEnd σ q.shape (s.get (DUC_SL_CTRL_PROFILE n)) q.x q.plan
  let goal := if q.plan = [] then b else if 0 < σ then min b (max e x) else max b (min e x)
  let (i, s) := if fromRest = true ∨ 20000000 < q.since then stepInterval s n σ goal fromRest else (q.since, s)
  let (g, s) := s.divFree goal microFm.natAbs
  s.modSled n fun q => { q with goal := g, interval := i, since := 0 }

/-- A plan formed since the last coarse event may stop or turn before the boundary the interpolator runs to: that place is its boundary
then (R243). -/
def shorten (s : State) (n : Nat) (σ : Int) : State :=
  let q := s.sled n
  let e := runEnd σ q.shape (s.get (DUC_SL_CTRL_PROFILE n)) q.x q.plan
  if q.plan ≠ [] ∧ microFm ≤ σ * (q.goal * microFm - e) then
    let (g, s) := s.divFree e microFm.natAbs
    s.modSled n fun q => { q with goal := g }
  else s

/-- The coarse event of this tick, if the plan left rest, turned, or crossed a full step between x0 and x1. -/
def events (s : State) (n : Nat) (x0 x1 : Int) : State :=
  let q := s.sled n
  if x1 = x0 then s
  else
    let σ : Int := if q.v < 0 ∨ (q.v = 0 ∧ x1 < x0) then -1 else 1
    if q.rest = true ∨ q.inward ≠ decide (σ < 0) ∨ nextBoundary x0 σ ≠ nextBoundary x1 σ then
      (coarse s n x1 σ q.rest).modSled n fun q => { q with rest := false, inward := decide (σ < 0) }
    else shorten s n σ

/-- The plan has come to rest: the interpolator runs to its end point, rounded once, as the sled arrives. -/
def settleRest (s : State) (n : Nat) : State :=
  let q := s.sled n
  if q.plan = [] ∧ q.v = 0 then
    let (g, s) := if q.rest then (q.goal, s) else s.divFree q.x microFm.natAbs
    let s := s.modSled n fun q => { q with goal := g, rest := true }
    if sledPos s n = g then
      let s := if sledMode s n = slHoming then homeRest s n else s
      s.iff (sledMode s n == slHold || sledMode s n == slFollow || !(s.sled n).moving) fun s => s.modSled n fun q => { q with moving := false }
    else s
  else s

/-- A sled loses its stage (R236, R245, R249, R257): it stops at once, and its position is uncertain even at rest; a homing sequence
fails. -/
def loseSled (s : State) (n : Nat) : State :=
  let homing := sledMode s n == slHoming
  uncertain (stopAtOnce s n) n homing

/-- The unit has given up its claim on a sled's stage since the last planner tick: a claim loss (R236, R245, R249). -/
def dropClaim (s : State) (n : Nat) : State :=
  if !claims s (sledOut n) && (s.sled n).claimed then loseSled (s.modSled n fun q => { q with claimed := false }) n else s

/-- The next boundary of a full step beyond a microstep (R243, R244). -/
def stepBeyond (p : Int) (outward : Bool) : Int := if outward then (p / 256 + 1) * 256 else -((-p) / 256 + 1) * 256

/-- In EXT, at rest of the stop that entered it and with the interpolator at its boundary, the next waiting edge is a coarse event toward
the next boundary in its direction (R244). -/
def extServe (s : State) (n : Nat) : State :=
  let q := s.sled n
  match q.edges with
  | [] => s
  | (out, i) :: r =>
    if q.plan = [] ∧ q.v = 0 ∧ q.goal = sledPos s n then
      let goal := stepBeyond q.goal out
      s.modSled n fun q => { q with edges := r, interval := i, since := 0, goal := goal, x := goal * microFm }
    else s

/-- The sled's signed speed in nm/s (R256, R258): the plan's, and in EXT, which has no plan, that of the full step under way. -/
def sledSpeed (s : State) (n : Nat) : Int × State :=
  let q := s.sled n
  if sledMode s n = slExt ∧ q.plan = [] ∧ q.v = 0 then
    if q.goal = sledPos s n then (0, s)
    else s.divFree (if q.goal < sledPos s n then -15000000000000 else 15000000000000) q.interval
  else (q.v, s)

/-- One sled over one planner tick of 4 µs. -/
def sledTick (s : State) (n : Nat) : State :=
  if claims s (sledOut n) = false then
    let s := (dropClaim s n).modSled n fun q => { q with stopped := false }
    let s := (s.set (DUC_SL_STATUS_MODE_ACT n) slHold).modSled n fun q => { q with modeReq := none, targetReq := none }
    showMoving (dropPlan s n) n
  else
    let q := s.sled n
    let s := s.modSled n fun q => { q with modeReq := none, targetReq := none, since := q.since + 4000, claimed := true }
    let s := match q.modeReq with
      | some m => if q.stopped then s else takeMode s n m
      | none => s
    let s := match q.targetReq with
      | some (t, jog) => if sledMode s n = slPosition ∧ q.stopped = false then takeTarget s n t jog else s
      | none => s
    let standing := sledMode s n == slExt && (s.sled n).plan.isEmpty && (s.sled n).v == 0
    let (x0, s) := planPos s n
    let s := if sledMode s n = slFollow ∧ (s.sled n).plan = [] then followTick s n else sledAdvance (s.iff (sledMode s n == slFollow) fun s => s.iff (sledDemand s n).isNone fun s => s.ev (DUC_SL_EVENT_DEMAND_LOST n)) n 8 4000
    let (x1, s) := planPos s n
    let s := homeCheck s n x1
    let s := if standing then s else settleRest (events s n x0 x1) n
    let s := (if sledMode s n = slExt then extServe s n else s).modSled n fun q => { q with stopped := false }
    let (v, s) := sledSpeed s n
    let (v, s) := s.divFree v 10000
    showMoving (s.set (DUC_SL_STATUS_SPEED n) (ofSigned 16 v)) n

/-- PLANNER_TICK (R236 to R243, R249, R257). -/
def plannerTick (s : State) : State := s.each (List.range 16) sledTick

def execPlannerTick (s : State) : Res := .next (plannerTick s)

/-! ### Writes -/

/-- SLED_TARGET_WRITE (R236, R239, R240, R242, R257): planned at the next tick, or refused. -/
def sledTargetWrite (n v : Nat) (s : State) : State :=
  let t := toSigned 32 v
  let jog := s.on (DUC_SL_CTRL_JOG n)
  let inside := decide (toSigned 32 (s.get (DUC_SL_SOFT_MIN_LIMIT n)) ≤ t) && decide (t ≤ toSigned 32 (s.get (DUC_SL_SOFT_MAX_LIMIT n)))
  if jog || (inside && s.get (DUC_SL_STATUS_POS_STATE n) == 1) then
    (s.set (DUC_SL_TARGET_TARGET n) v).modSled n fun q => { q with targetReq := some (t, jog) }
  else s.ev (DUC_SL_EVENT_REFUSED n)

def execSledTargetWrite (n : Fin 16) (value : Word) (s : State) : Res := .next (s.clocked motIsland fun s => sledTargetWrite n value.toNat s)

/-- SLED_MODE_WRITE (R237): a code the table does not give is refused. -/
def sledModeWrite (n m : Nat) (s : State) : State :=
  if 5 < m then s.ev (DUC_SL_EVENT_REFUSED n)
  else (s.set (DUC_SL_CTRL_MODE n) m).modSled n fun q => { q with modeReq := some m }

def execSledModeWrite (n : Fin 16) (mode : Fin 8) (s : State) : Res := .next (s.clocked motIsland fun s => sledModeWrite n mode s)

/-- MOVE_DONE (R239): a point-to-point plan has ended at rest and the interpolator stands at its end. -/
def moveDone (n : Nat) (s : State) : State :=
  let q := s.sled n
  if q.moving = true ∧ q.plan = [] ∧ q.v = 0 ∧ q.goal = sledPos s n then
    showMoving ((s.modSled n fun q => { q with moving := false }).ev (DUC_SL_EVENT_MOVE_DONE n)) n
  else s

def execMoveDone (n : Fin 16) (s : State) : Res := .next (moveDone n s)

/-- EXT_STEP (R244): a rising edge on DUC_STEP with DUC_DIR outward or not, elapsed ns after the one before. Up to 4 edges wait, those of
the stop that enters EXT among them. -/
def extStep (outward : Bool) (elapsed : Nat) (s : State) : State :=
  let n := s.get DUC_EXT_SLED
  let q := s.sled n
  if sledMode s n = slExt then
    if 4 ≤ q.edges.length then s.ev DUC_EXT_EXT_OVF
    else
      let i := if q.extSeen then elapsed else 1000 * s.get DUC_EXT_FIRST
      showMoving (extServe (s.modSled n fun q => { q with edges := q.edges ++ [(outward, i)], extSeen := true }) n) n
  else s

def execExtStep (outward : Bool) (elapsedNs : Nat) (s : State) : Res := .next (extStep outward elapsedNs s)

/-- SLED_STOP (R245, R257): a write of STOP. -/
def execSledStop (n : Fin 16) (s : State) : Res := .next (s.clocked motIsland fun s => stopAtOnce s n)

/-- POS_SET (R246, R257): at rest only. -/
def posSet (n v : Nat) (s : State) : State :=
  if s.on (DUC_SL_STATUS_MOVING n) || sledBusy s n then s.ev (DUC_SL_EVENT_REFUSED n)
  else (dropPlan (setPos s n (toSigned 32 v)) n).set (DUC_SL_STATUS_POS_STATE n) 1

def execPosSet (n : Fin 16) (value : Word) (s : State) : Res := .next (s.clocked motIsland fun s => posSet n value.toNat s)

/-! ### Microsteps and the limit switch -/

/-- INTERPOLATOR_MICROSTEP (R243, R244): one microstep toward the boundary, elapsed ns after the last one or the event. -/
def microstep (n elapsed : Nat) (s : State) : State :=
  let q := s.sled n
  let p := sledPos s n
  if q.goal ≠ p ∧ q.interval ≤ 256 * elapsed then
    let p := if q.goal < p then p - 1 else p + 1
    let s := setPos s n p
    showMoving (s.iff (sledMode s n == slExt) (extServe · n)) n
  else s

def execInterpolatorMicrostep (n : Fin 16) (elapsed : Nat) (s : State) : Res := .next (microstep n elapsed s)

/-- The qualification window after one more raw edge; an edge in the cycle of a microstep opens it at the position before or after
that microstep (R247, R248). -/
def edgeWindow (s : State) (n : Nat) (same : Bool) : SwWindow × State :=
  let q := s.sled n
  let p := sledPos s n
  match q.win with
  | some w => ({ w with edges := w.edges + 1 }, s)
  | none =>
    if same = true ∧ q.goal ≠ p then
      let (after, s) := s.coin
      (SwWindow.mk 1 (if after then (if q.goal < p then p - 1 else p + 1) else p), s)
    else (SwWindow.mk 1 p, s)

/-- SLED_HOME_EDGE (R247, R248, R257): a raw edge to the given level; same: in the MOT cycle of a microstep (B1-05). -/
def homeEdge (n : Nat) (level same : Bool) (s : State) : State :=
  let raw := level != s.on (DUC_SL_CFG_ACTIVE_LOW n)
  if raw = s.on (DUC_SL_STATUS_SW_RAW n) ∨ inReset s = true then s
  else
    let s := s.set (DUC_SL_STATUS_SW_RAW n) (if raw then 1 else 0)
    let (w, s) := edgeWindow s n same
    let s := s.modSled n fun q => { q with win := some w }
    if s.get (DUC_SL_CHAT_CHATTER_MAX n) < w.edges then stopAtOnce (s.ev (DUC_SL_EVENT_CHATTER n)) n else s

def execSledHomeEdge (n : Fin 16) (level same : Bool) (s : State) : Res := .next (homeEdge n level same s)

/-- SWITCH_QUALIFY (R247, R248, R249): the raw level has been stable for stableUs. -/
def switchQualify (n stableUs : Nat) (s : State) : State :=
  match (s.sled n).win with
  | none => s
  | some w =>
    if stableUs < s.get (DUC_SL_CFG_QUAL_T n) then s
    else
      let s := s.modSled n fun q => { q with win := none }
      let raw := s.on (DUC_SL_STATUS_SW_RAW n)
      if raw = s.on (DUC_SL_STATUS_SW_QUAL n) then s.ev (DUC_SL_EVENT_GLITCH n)
      else
        let s := (s.set (DUC_SL_STATUS_SW_QUAL n) (if raw then 1 else 0)).set (DUC_SL_LATCH_POS_LATCH_POS n) (ofSigned 32 w.pos)
        let q := s.sled n
        let st := s.get (DUC_SL_STATUS_HOME_STATE n)
        if sledMode s n = slHoming then
          if raw = true ∧ st = 1 ∧ q.homeNext = .none then homeStop s n .back
          else if raw = true ∧ st = 3 ∧ q.homeNext = .none then homeStop s n .finish
          else if raw = false ∧ st = 2 ∧ q.homeNext = .none ∧ q.homeMark = none then
            let (x, s) := planPos s n
            s.modSled n fun q => { q with homeMark := some (x + stepFm * s.get (DUC_SL_HOME_BACKOFF n)) }
          else s
        else if raw then
          let s := s.iff (sledBusy s n) fun s => s.ev (DUC_SL_EVENT_LIMIT_TRIP n)
          stopAtOnce s n
        else s

def execSwitchQualify (n : Fin 16) (stableUs : Nat) (s : State) : Res := .next (switchQualify n stableUs s)

/-! ### The Ductus bus -/

/-- CRC-16/CCITT-FALSE of a byte list (R251, R253). -/
def crc16 (l : List (BitVec 8)) : Nat :=
  l.foldl (fun (c : Nat) b =>
    (List.range 8).foldl (fun c _ => if 0x8000 ≤ c then (2 * c % 0x10000) ^^^ 0x1021 else 2 * c) (c ^^^ (b.toNat * 256))) 0xFFFF

/-- A Ductus bus. -/
def State.ducBus (s : State) (b : Nat) : DucBus := s.ducBuses.getD b {}

/-- The six bytes of a spindle's record (R252). -/
def spindleRecord (s : State) (k : Nat) : List (BitVec 8) :=
  let c := (s.spindle k).cmd
  leBytes 1 (c.high + 4 * c.low + 16 * c.mode + (if claims s (16 + k) then 0 else 64)) ++ leBytes 2 c.on ++ leBytes 2 c.off ++ leBytes 1 c.seq

/-- The six bytes of a sled's record (R252). -/
def sledRecord (s : State) (n : Nat) : List (BitVec 8) :=
  let i := if sledMode s n = slOff then 0 else if s.on (DUC_SL_STATUS_MOVING n) then s.get (DUC_SL_CFG_RUN_I n) else s.get (DUC_SL_CFG_HOLD_I n)
  leBytes 1 (i + (if claims s (sledOut n) then 0 else 64)) ++ leBytes 4 (s.get (DUC_SL_POS_POS n)) ++ leBytes 1 0

/-- The stages of a bus in index order (R250). -/
def busStages (b : Nat) : List Nat := (List.range 4).map (4 * b + ·) ++ (List.range 8).map (8 + 8 * b + ·)

/-- The class a frame carries: the one its outputs share; where they differ the manual does not say which of the three a device sends
(R382). -/
def frameClass (s : State) (b : Nat) : Nat × State :=
  let l := (busStages b).map fun a => s.get (VRS_OUT_CLASS (16 + a))
  if l.all (· == l.headD 0) then (l.headD 0, s) else let (v, s) := s.fresh; ([12, 4, 0].getD (v % 3) 0, s)

/-- DUC_FRAME (R251, R252, R383): the frame of a bus, if it is sent. -/
def ducFrame (b : Nat) (s : State) : State :=
  let q := s.ducBus b
  let cycle := (q.cycle + 1) % 256
  if s.on (if b = 0 then DUC_CTRL_TX_DA else DUC_CTRL_TX_DB) then
    let (c, s) := frameClass s b
    let head := leBytes 1 1 ++ leBytes 2 (c * 4096 + s.get VRS_NODE_NODE_ID) ++ leBytes 4 (s.now + 384) ++ leBytes 1 q.cycle
    let body := head ++ (busStages b).flatMap fun a => if a < 8 then spindleRecord s a else sledRecord s (a - 8)
    { s with ducBuses := s.ducBuses.set b {} { cycle := cycle, frame := body ++ leBytes 2 (crc16 body) } }
  else { s with ducBuses := s.ducBuses.set b {} { q with cycle := cycle } }

def execDucFrame (bus : Fin 2) (s : State) : Res := .next (ducFrame bus s)

/-- Stage a. -/
def State.stage (s : State) (a : Nat) : Stage := s.stages.getD a {}

/-- Change stage a. -/
def State.modStage (s : State) (a : Nat) (f : Stage → Stage) : State := { s with stages := s.stages.set a {} (f (s.stage a)) }

/-- STAGE_STATUS (R253, R174, R236, R245, R387, R398): a record received from stage a; one that fails its CRC counts as missing. A sled
stage that comes to obey another port, be it after a time of obeying none, is lost; one that comes to obey none makes the position
uncertain, and fails a homing sequence (R257). -/
def stageStatus (a : Nat) (rec : List (BitVec 8)) (s : State) : State :=
  if rec.length ≠ 16 ∨ leVal (rec.drop 14) ≠ crc16 (rec.take 14) then
    (s.bump (DUC_STG_CRC_ERR a) 1).modStage a fun g => { g with missing := g.missing + 1 }
  else
    let b0 := leVal (rec.take 1)
    let claim := leVal ((rec.drop 1).take 2)
    let flags := leVal ((rec.drop 3).take 1) % 64
    let held := b0.testBit 7
    let here := held && claim % 4096 == s.get VRS_NODE_NODE_ID
    let other := held && !here
    let wasHere := s.on (DUC_STG_HELD_HERE a)
    let s := s.modStage a fun _ => { missing := 0, applied := leVal ((rec.drop 4).take 4), echo := (rec.drop 8).take 4, temp := leVal ((rec.drop 12).take 2) }
    let s := ((s.set (DUC_STG_HELD_HERE a) (if here then 1 else 0)).set (DUC_STG_FLAGS a) flags).set (DUC_STG_CLAIM a) claim
    let k := 16 + a
    let s := ((s.set (VRS_OUT_HELD_HERE k) (if here then 1 else 0)).set (VRS_OUT_OTHER_HOLDS k) (if other then 1 else 0)).set (VRS_OUT_OTHER_CLAIM k) (if other then claim else 0)
    if a < 8 then
      let e0 := leVal ((rec.drop 8).take 1)
      let (hi, lo, _) := stepPhases (s.get (MOT_SP_STATUS_STEP a))
      let c := (s.spindle a).cmd
      let agrees := (e0 % 4 == hi && e0 / 4 % 4 == lo) || (e0 % 4 == c.high && e0 / 4 % 4 == c.low)
      let step := s.get (MOT_SP_STATUS_STEP a)
      let s := s.iff ((s.spindle a).disStep != some step) fun s => s.modSp a fun p => { p with disStep := none }
      s.iff (s.get (VRS_OUT_CLASS k) == 4 && !agrees && (s.spindle a).disStep.isNone) fun s =>
        s.modSp a fun p => { p with disagree := p.disagree + 1, disStep := some step }
    else
      let n := a - 8
      let s := dropClaim s n
      let s := if other = true ∧ (s.sled n).mine = true then loseSled s n
        else if wasHere = true ∧ here = false then (if sledMode s n = slHoming then loseSled s n else uncertain s n false)
        else s
      let s := s.modSled n fun q => { q with mine := here || (q.mine && !other) }
      let s := if flags.testBit 0 then stopAtOnce s n else s
      if claims s k then s else dropPlan (setPos s n (toSigned 32 (leVal ((rec.drop 8).take 4)))) n

def execStageStatus (a : Fin 24) (record : List (BitVec 8)) (s : State) : Res := .next (stageStatus a record s)

/-- STAGE_LOST (R255, R245): records missing in their slots; the fifth in a row loses the stage. -/
def stageLost (a missing : Nat) (s : State) : State :=
  let m := (s.stage a).missing + missing
  let s := s.modStage a fun g => { g with missing := m }
  if 5 ≤ m then
    let s := s.ev (DUC_STG_STAGE_LOST a)
    if a < 8 then s else stopAtOnce s (a - 8)
  else s

def execStageLost (a : Fin 24) (missing : Nat) (s : State) : Res := .next (stageLost a missing s)

end Sys2Proof.Machine
end

