-- ==== Sys2Proof/Machine/HostPort.lean ====
section
/-!
DEFINITION. What the rest of the part does to the host side: interrupts, completion entries, asynchronous events, the ANA state,
and the completion of admitted commands that wait (R344, R347, R376, R377, R390, R400).
-/

namespace Sys2Proof.Machine

/-- Host function f. -/
def State.fn (s : State) (f : Nat) : HostFn := s.host.getD f {}

/-- Change host function f. -/
def State.modFn (s : State) (f : Nat) (k : HostFn → HostFn) : State := { s with host := s.host.set f {} (k (s.fn f)) }

/-- Change the host side that belongs to no one function. -/
def State.modHq (s : State) (f : HostQ → HostQ) : State := { s with hq := f s.hq }

/-- The MSI-X table word at index 4 × vector + i: vectors are masked at reset, and vectors 0 to 129 exist (R344, R488). -/
def msixWord (h : HostFn) (i : Nat) : Nat := h.msix.getD i (if i % 4 = 3 then 1 else 0)

/-- Send the interrupt of a vector to function f: a masked one becomes pending (R344). -/
def sendMsix (s : State) (f v : Nat) : State :=
  s.modFn f fun h =>
    if (msixWord h (4 * v + 3)).testBit 0 then { h with pba := h.pba.set v false true }
    else { h with irqs := h.irqs.set v 0 (h.irqs.getD v 0 + 1) }

/-- Post a completion entry to queue q of function f, or keep it while the queue is full; a queue that is gone takes none. -/
def postCqe (s : State) (f q : Nat) (e : Cqe) : State :=
  match (s.fn f).cqs.find? q with
  | none => s
  | some c =>
    if (c.tail + 1) % max 1 c.size = c.head then s.modFn f fun h => { h with cqs := h.cqs.insert q { c with waiting := c.waiting ++ [e] } }
    else
      let s := s.modFn f fun h => { h with cqs := h.cqs.insert q { c with entries := c.entries ++ [e], tail := (c.tail + 1) % max 1 c.size } }
      s.iff c.ien fun s => sendMsix s f c.vector

/-- An asynchronous event for function f: the oldest request that waits completes, or the event is kept (R345). -/
def asyncEvent (s : State) (f code : Nat) : State :=
  match (s.fn f).aers with
  | c :: r => postCqe (s.modFn f fun h => { h with aers := r }) f 0 { sq := 0, cid := c, status := 0, dw0 := code }
  | [] => s.modFn f fun h => { h with events := if h.events.contains code then h.events else h.events ++ [code] }

/-- The ANA states a controller reports (R400). -/
inductive Ana where
  | optimized | inaccessible | change
  deriving DecidableEq, Repr

/-- The unit's ANA state (R400): after a takeover it is Change until a channel is enabled (R397). -/
def anaOf (s : State) : Ana :=
  if s.get VRS_STATUS_ROLE = 1 ∨ s.get VRS_STATUS_ROLE = 3 then .inaccessible
  else if s.anaChange = true ∧ ((List.range 16).any fun n => s.on (RC_CTRL_ENABLE n) && s.on (WC_CTRL_ENABLE n)) = false then .change
  else .optimized

/-- DW0 of an ANA Change notice. -/
abbrev anaNotice : Nat := 0x0C0302

/-- Do something, and raise ANA Change on both functions where it changes the unit's ANA state (R400). -/
def withAna (s : State) (k : State → State) : State :=
  let t := k s
  if anaOf t = anaOf s then t else asyncEvent (asyncEvent t 0 anaNotice) 1 anaNotice

/-- NVMe status: type × 256 + code. -/
abbrev ncOk : Nat := 0x000
/-- Invalid Command Opcode. -/
abbrev ncOpcode : Nat := 0x001
/-- Invalid Field in Command. -/
abbrev ncField : Nat := 0x002
/-- Command Abort Requested. -/
abbrev ncAborted : Nat := 0x007
/-- Invalid Namespace or Format. -/
abbrev ncNamespace : Nat := 0x00B
/-- LBA Out of Range. -/
abbrev ncRange : Nat := 0x080
/-- Capacity Exceeded. -/
abbrev ncCapacity : Nat := 0x081
/-- Namespace Not Ready. -/
abbrev ncNotReady : Nat := 0x082
/-- Completion Queue Invalid. -/
abbrev ncCqInvalid : Nat := 0x100
/-- Invalid Queue Identifier. -/
abbrev ncQid : Nat := 0x101
/-- Invalid Queue Size. -/
abbrev ncQsize : Nat := 0x102
/-- Invalid Firmware Slot. -/
abbrev ncFwSlot : Nat := 0x106
/-- Invalid Firmware Image. -/
abbrev ncFwImage : Nat := 0x107
/-- Invalid Format. -/
abbrev ncFormat : Nat := 0x10A
/-- Invalid Queue Deletion. -/
abbrev ncQueueDeletion : Nat := 0x10C
/-- Feature Not Changeable. -/
abbrev ncNotChangeable : Nat := 0x10E
/-- Namespace Identifier Unavailable. -/
abbrev ncNsid : Nat := 0x116
/-- Namespace Already Attached. -/
abbrev ncAttached : Nat := 0x118
/-- Namespace Not Attached. -/
abbrev ncNotAttached : Nat := 0x11A
/-- Unrecovered Read Error. -/
abbrev ncUnrecovered : Nat := 0x281
/-- Compare Failure. -/
abbrev ncCompare : Nat := 0x285
/-- Asymmetric Access Inaccessible. -/
abbrev ncInaccessible : Nat := 0x302
/-- Asymmetric Access Transition. -/
abbrev ncTransition : Nat := 0x303

/-- Admitted command a. -/
def State.cmd? (s : State) (a : Nat) : Option Admitted := s.hq.cmds.find? a

/-- Change admitted command a. -/
def modCmd (s : State) (a : Nat) (f : Admitted → Admitted) : State :=
  s.modHq fun h => match h.cmds.find? a with | some c => { h with cmds := h.cmds.insert a (f c) } | none => h

/-- LBAs of data in the quires in flight, and of admitted Writes whose data is not there yet. -/
def quireLbas (s : State) : Nat :=
  (s.ledger.quires.foldl (fun n (e : Nat × Quire) => n + e.2.used) 0) +
    s.hq.cmds.foldl (fun n (e : Nat × Admitted) => match e.2.cmd with | .write _ _ k _ => if e.2.dataWhole || e.2.over_ then n else n + k | _ => n) 0

/-- The quires in flight have room for n more LBAs of data: they hold at most 32 GiB (R347, R379). -/
def quireRoom (s : State) (n : Nat) : Bool := decide (quireLbas s + n ≤ 8388608)

/-! ### The order of fetch (R347) -/

/-- Commands wait in queue q of function f, and are fetched: the controller is ready and no shutdown has been notified. -/
def queueWaits (s : State) (f q : Nat) : Bool :=
  let h := s.fn f
  h.en && h.rdy && h.shn == 0 && (match h.sqs.find? q with | some x => x.head != x.tail | none => false)

/-- Place of a queue in the round: function 0's admin queue, function 1's, then I/O queues by function and queue ID. -/
def queueRank (f q : Nat) : Nat := if q = 0 then f else 2 + f * 65536 + q

/-- Every queue in round order. -/
def roundOrder (s : State) : List (Nat × Nat) :=
  [(0, 0), (1, 0)] ++ [0, 1].flatMap fun f => ((s.fn f).sqs.filter fun (e : Nat × Sq) => e.1 != 0).map fun (e : Nat × Sq) => (f, e.1)

/-- The arbitration burst of function f: 2 to the power of the feature's AB field, 7 without limit. -/
def burstOf (s : State) (f : Nat) : Nat :=
  let ab := (s.fn f).features.getD 1 0 % 8
  if ab = 7 then 2 ^ 32 else 2 ^ ab

/-- The queue that the round comes to next. -/
def roundQueue (s : State) : Option (Nat × Nat) :=
  let (f, q, taken) := s.hq.round
  if queueWaits s f q && decide (taken < burstOf s f) then some (f, q)
  else
    let l := (roundOrder s).filter fun e => queueWaits s e.1 e.2
    match l.find? fun e => decide (queueRank f q < queueRank e.1 e.2) with
    | some e => some e
    | none => l.head?

/-- The queue that the next command is taken from: after a stall, the one whose command was next (R347). -/
def nextQueue (s : State) : Option (Nat × Nat) :=
  match s.hq.next with
  | some e => if queueWaits s e.1 e.2 then some e else roundQueue s
  | none => roundQueue s

/-- Function f is idle (R355): no queue holds a command, and none is admitted and not completed, a request for an asynchronous event that
waits included. -/
def isIdle (s : State) (f : Nat) : Bool :=
  ((s.fn f).sqs.all fun (e : Nat × Sq) => e.2.head == e.2.tail) && (s.hq.cmds.all fun (e : Nat × Admitted) => e.2.fn != f || e.2.over_) &&
    (s.fn f).aers.isEmpty

/-- HQ_IDLE_f as SYS_TIME goes on: the milliseconds of the present idle period, 38,400 ticks each (R355). -/
def countIdle (s : State) : State :=
  s.each [0, 1] fun s f =>
    if isIdle s f then
      match (s.fn f).idleFrom with
      | some t => s.set (HQ_IDLE_MS f) (min ((s.now - t) / 38400) (2 ^ 32 - 1))
      | none => (s.set (HQ_IDLE_MS f) 0).modFn f fun h => { h with idleFrom := some s.now }
    else s.iff (s.fn f).idleFrom.isSome fun s => (s.set (HQ_IDLE_MS f) 0).modFn f fun h => { h with idleFrom := none }

/-- Present the held range locks, and which causes stop the fetch; a new stall on the range lock or on quire space is counted.
The queue that was next when fetch stopped stays next (R347). -/
def refreshStall (s : State) : State :=
  let held := (s.hq.cmds.filter fun e => e.2.lock.isSome).length
  let was := s.get HQ_ADMIT_STALL
  let lock := decide (8192 ≤ held)
  let room := match s.hq.noRoom with | some n => !quireRoom s n | none => false
  let s := s.set HQ_ADMIT_HELD held
  let s := s.iff (lock && !was.testBit 0) fun s => (s.bump HQ_CNT_STALL_LOCK 1).ev HQ_EVENT_STALL
  let s := s.iff (room && !was.testBit 1) fun s => (s.bump HQ_CNT_STALL_QUIRE 1).ev HQ_EVENT_STALL
  let s := s.set HQ_ADMIT_STALL ((if lock then 1 else 0) + (if room then 2 else 0) + (if s.on HQ_CTRL_FETCH_STOP then 4 else 0)
    + (if (s.fn 0).pp || (s.fn 1).pp then 8 else 0))
  s.iff (s.get HQ_ADMIT_STALL != 0) fun s => s.modHq fun h => { h with next := nextQueue s }

/-- Command a is over: one that holds no range lock is forgotten, the others keep their lock until it is released (R374). -/
def endCmd (s : State) (a : Nat) : State :=
  match s.cmd? a with
  | none => s
  | some c => if c.lock.isSome then modCmd s a fun c => { c with over_ := true } else s.modHq fun h => { h with cmds := h.cmds.erase a }

/-- Command a completes with a status and DW0; nothing is posted once the function has been told of an abrupt shutdown (R350). -/
def completeCmd (s : State) (a status dw0 : Nat) : State :=
  match s.cmd? a with
  | none => s
  | some c =>
    if c.over_ then s
    else if (s.fn c.fn).shn = 2 then endCmd s a
    else
      let q := match (s.fn c.fn).sqs.find? c.sq with | some x => x.cq | none => 65536
      endCmd (postCqe s c.fn q { sq := c.sq, cid := c.cid, status := status, dw0 := dw0 }) a

/-- Writes wait for the partner: the link is UP and DEGRADED is 0 (R390). -/
def mirrored (s : State) : Bool := s.get VRS_STATUS_LINK == 2 && !s.on VRS_STATUS_DEGRADED

/-- A command that only waited has nothing left to wait for. -/
def readyToComplete (s : State) (c : Admitted) : Bool :=
  !c.over_ && c.dataWhole && c.quires.isEmpty && (!mirrored s || (c.acks.isEmpty && !c.record))

/-- Drop the admitted commands that meet a test: nothing is posted, and their range locks are released (R350, R380, R400). -/
def dropCmds (s : State) (p : Admitted → Bool) : State :=
  refreshStall (s.modHq fun h => { h with cmds := h.cmds.filter fun (e : Nat × Admitted) => !p e.2 })

/-- A quire holds writes of commands admitted before number a. -/
def holdsBefore (a : Nat) (q : Quire) : Bool := q.took.any fun r => decide (r.1 < a)

/-- A Write, Write Zeroes or Deallocate that is admitted and whose runs are not in the overlay yet. -/
def writeOpen (c : Admitted) : Bool := !c.over_ && !c.dataWhole && (match c.lock with | some x => x.write | none => false)

/-- Function f's normal shutdown: the quires it flushes are closed, and SHST shows complete once its commands have completed, every
earlier write of the other function is in a quire, and the quires of earlier writes have committed (R349, R350). -/
def shutdownStep (s : State) (f : Nat) : State :=
  let h := s.fn f
  if h.shst = 1 then
    let s := { s with ledger := { s.ledger with quires := s.ledger.quires.map fun (e : Nat × Quire) =>
      (e.1, if e.2.isOpen && holdsBefore h.shnAt e.2 then { e.2 with isOpen := false, byFlush := true } else e.2) } }
    if (s.hq.cmds.all fun (e : Nat × Admitted) => (e.2.fn != f || e.2.over_) && (decide (h.shnAt ≤ e.1) || !writeOpen e.2)) && (s.ledger.quires.all fun (e : Nat × Quire) => e.2.committed || !holdsBefore h.shnAt e.2) then
      s.modFn f fun h => { h with shst := 2 }
    else s
  else s

/-- Command a completes once it has nothing left to wait for. -/
def completeReady (s : State) (a : Nat) : State :=
  match s.cmd? a with
  | none => s
  | some c => s.iff (readyToComplete s c) fun s => completeCmd s a ncOk 0

/-- Complete every command that has nothing left to wait for (R349, R376, R377, R390), and a shutdown that has (R350). -/
def settle (s : State) : State :=
  let s := s.each s.hq.cmds fun s e => completeReady s e.1
  refreshStall (shutdownStep (shutdownStep s 0) 1)

/-- CSTS.RDY of an enabled controller: once the fill is done and every Scribe is released (R343, R430). -/
def refreshReady (s : State) : State :=
  let up := s.on INK_STATUS_FILL_DONE && (List.range 8).all fun q => s.on (SYS_SCR_CTRL_RELEASE q)
  s.each [0, 1] fun s f => s.iff (up && (s.fn f).en) fun s => s.modFn f fun h => { h with rdy := true }

end Sys2Proof.Machine
end

