-- ==== Sys2Proof/Machine/Link.lean ====
section
/-!
DEFINITION. Chapter 10: training, the uplink packets as they arrive, the downlink packets as they are sent, lanes and link loss.
-/

namespace Sys2Proof.Machine

/-! ### Codewords of a lane (R260, R261) -/

/-- A codeword header: lane in bits 18:17, counter in bits 16:13, pointer in bits 12:0 (R260). -/
def cwHeader (lane counter pointer : Nat) : Nat := lane * 2 ^ 17 + counter % 16 * 2 ^ 13 + pointer
/-- Lane number of a codeword header. -/
def headLane (h : Nat) : Nat := h / 2 ^ 17
/-- Codeword counter. -/
def headCounter (h : Nat) : Nat := h / 2 ^ 13 % 16
/-- Pointer: the offset of the first packet header that starts in the codeword; none where it reads 0x1FFF (R260, R279). -/
def headPointer (h : Nat) : Option Nat := if h % 2 ^ 13 = 0x1FFF then none else some (h % 2 ^ 13)

/-- The pointer of a codeword in whose payload packet headers start at these offsets (R260). -/
def pointerOf (starts : List Nat) : Nat := ((starts.filter fun p => decide (p < 5121)).min?).getD 0x1FFF

/-- The 5,140 message bits of a codeword: its header, most significant bit first (assumption 101), then 5,121 bits of payload (R260). -/
def cwMessage (lane counter : Nat) (starts : List Nat) (payload : List Bool) : List Bool :=
  let h := cwHeader lane counter (pointerOf starts)
  (List.range 19).map (fun i => h.testBit (18 - i)) ++ (payload ++ List.replicate (5121 - payload.length) false).take 5121

/-- A header read on a lane is valid: its lane number, and a pointer into the payload or none (R260, R276). -/
def headValid (lane h : Nat) : Bool :=
  headLane h == lane && (match headPointer h with | some p => decide (p < 5121) | none => true)

/-- The last eight codewords on a lane have valid headers, their counters consecutive (R276). -/
def laneLocked (lane : Nat) (heads : List Nat) : Bool :=
  let l := heads.reverse.take 8
  l.length == 8 && l.all (headValid lane) && (l.zip l.tail).all fun p => headCounter p.1 == (headCounter p.2 + 1) % 16

/-- The lag of each lane behind the earliest one, in codewords, from the counters of the codewords that end together; none where it
exceeds the 7 that the receiver tolerates (R261). -/
def laneLags (heads : List Nat) : Option (List Nat) :=
  let c := heads.map headCounter
  (c.find? fun a => c.all fun b => decide ((a + 16 - b) % 16 ≤ 7)).map fun a => c.map fun b => (a + 16 - b) % 16

/-- The payload stream of the bonded lanes over some rounds from a counter: lane 0, 1, 2, 3, then lane 0 again, matched by their
counters; a codeword that failed is zeros (R261, R279). -/
def bonded (got : List (Nat × List Bool)) (first rounds : Nat) : List Bool :=
  (List.range rounds).flatMap fun r => (List.range 4).flatMap fun lane =>
    ((got.find? fun c => headLane c.1 == lane && headCounter c.1 == (first + r) % 16).map (·.2)).getD (List.replicate 5121 false)

/-- Training states of R276. -/
abbrev lkDown : Nat := 0
/-- SLOW_LOCK. -/
abbrev lkSlow : Nat := 1
/-- DESKEW. -/
abbrev lkDeskew : Nat := 2
/-- CAPS. -/
abbrev lkCaps : Nat := 3
/-- SHIFT. -/
abbrev lkShift : Nat := 4
/-- UP. -/
abbrev lkUp : Nat := 5
/-- FAIL. -/
abbrev lkFail : Nat := 6

/-- State of port n. -/
def lkState (s : State) (n : Nat) : Nat := s.get (LK_STATUS_STATE n)

/-- The quad's N2 PLL runs while any of its ports is in SHIFT or UP at N2 (R277). -/
def pllRuns (s : State) (q : Nat) : Bool :=
  [4 * q, 4 * q + 1, 4 * q + 2, 4 * q + 3].any fun n => lkState s n == lkShift || (lkState s n == lkUp && s.get (LK_STATUS_GEN n) == 2)

/-- The N2 PLL of the port's quad stops when nothing needs it. -/
def refreshQuad (s : State) (n : Nat) : State :=
  s.iff (!pllRuns s (n / 4)) fun s => s.modLink (n / 4 * 4) fun l => { l with quadLocked := false }

/-- Port n enters a state. -/
def enterLk (s : State) (n st : Nat) : State := refreshQuad (s.set (LK_STATUS_STATE n) st) n

/-- Port n is DOWN: it has no generation and no lanes (assumption 29). -/
def enterDown (s : State) (n : Nat) : State := enterLk ((s.set (LK_STATUS_GEN n) 0).set (LK_STATUS_LANES n) 0) n lkDown

/-- SLOW_LOCK begins: nothing is known of the pen yet (R276). -/
def startTraining (s : State) (n : Nat) : State :=
  enterLk (((s.set (LK_STATUS_GEN n) 0).set (LK_STATUS_LANES n) 0).set (LK_STATUS_DEGRADED n) 0) n lkSlow

/-- Training fails (R276). -/
def trainFail (s : State) (n : Nat) : State := (enterLk s n lkFail).ev (LK_EVENT_TRAIN_FAIL n)

/-- The port trains now. -/
def isTraining (s : State) (n : Nat) : Bool := decide (lkSlow ≤ lkState s n) && decide (lkState s n ≤ lkShift)

/-- The link goes DOWN (R281): pending revisit codewords are cut, codewords being read complete INCOMPLETE, descriptors in
progress complete CUT; ticks are invalid from now on, since the port is not UP (R192). -/
def linkLoss (s : State) (n : Nat) : State :=
  if linkUp s n then
    let s := (s.ev (LK_EVENT_LINK_DOWN n)).bump (LK_CNT_LINK_DOWNS n) 1
    let s := cutGroup (incompletePen (cutPending s n fun _ => true) n) n
    let s := s.modLink n fun l => { l with suspended := false, seqs := [], slots := [] }
    enterDown ((s.set (LK_STATUS_DEGRADED n) 0).set (LK_CTRL_DESKEW n) 0) n
  else s

/-- LINK_DOWN (R281): DN_LOCK lost, or PEN_STATUS ceased for 20 µs. -/
def execLinkDown (n : Fin 16) (s : State) : Res := .next (linkLoss s n)

/-- LK_ENABLE_WRITE (R276, R281). -/
def lkEnableWrite (n : Nat) (set : Bool) (s : State) : State :=
  if set then s.set (LK_CTRL_ENABLE n) 1 else enterDown ((linkLoss s n).set (LK_CTRL_ENABLE n) 0) n

def execLkEnableWrite (n : Fin 16) (set : Bool) (s : State) : Res := .next (s.clocked (ctrlIsland n) fun s => lkEnableWrite n set s)

/-- SIGNAL_DETECT (R276, R282): signal on all four lanes for 10 ms. -/
def signalDetect (n : Nat) (s : State) : State :=
  if lkState s n = lkDown ∧ s.on (LK_CTRL_ENABLE n) = true ∧ s.on (LK_CTRL_AUTO_TRAIN n) = true then startTraining s n else s

def execSignalDetect (n : Fin 16) (s : State) : Res := .next (signalDetect n s)

/-- RETRAIN (R276, R281): nothing with ENABLE = 0; an UP port goes DOWN first. -/
def retrain (n : Nat) (s : State) : State := if s.on (LK_CTRL_ENABLE n) then startTraining (linkLoss s n) n else s

def execRetrain (n : Fin 16) (s : State) : Res := .next (s.clocked (ctrlIsland n) fun s => retrain n s)

/-- Report the uplink lanes' skews. -/
def setSkews (s : State) (n : Nat) (units : List Nat) : State :=
  s.each [0, 1, 2, 3] fun s i => s.set (LK_LANE_SKEW_SKEW n i) (units.getD i 0)

/-- The port comes UP: SIDX is 0, and nothing that the nibs hold belongs to the new count (R276). -/
def comeUp (s : State) (n : Nat) : State :=
  let s := s.each (List.range 18) fun s k => s.modNib n k fun b => { b with ring := [], at_ := 0, corr := [], lag := 0, dec := [], iti := [], window := [], anew := false }
  let s := s.modLink n fun l => { l with sidx := 0, closed := 0, lastCount := 0, seqs := [], suspended := false, slots := [] }
  (enterLk ((((s.set (LK_SIDX_SIDX n) 0).set (LK_STATUS_LANES n) 15).set (LK_STATUS_DEGRADED n) 0)) n lkUp).ev (LK_EVENT_LINK_UP n)

/-- TRAIN_STEP (R26, R276, R277, R458): a training state ends, well or not. SHIFT needs the N2 PLL and the lock of SLOW_LOCK again before its
skew counts. -/
def trainStep (n : Nat) (res : TrainResult) (s : State) : State :=
  let st := lkState s n
  match res with
  | .locked heads =>
    if (List.range 4).all fun i => laneLocked i ((heads.getD i []).map BitVec.toNat) then
      if st = lkSlow then enterLk s n lkDeskew
      else s.iff (st == lkShift && (s.link (n / 4 * 4)).quadLocked) fun s => s.modLink n fun l => { l with relocked := true }
    else s
  | .skew heads units =>
    let good := (laneLags (heads.map BitVec.toNat)).isSome
    if st = lkDeskew then if good then enterLk (setSkews s n units) n lkCaps else trainFail s n
    else if st = lkShift ∧ (s.link n).relocked = true then if good then comeUp (setSkews s n units) n else trainFail s n
    else s
  | .caps gen nibs port dual id =>
    if st = lkCaps then
      if (gen = 1 ∧ nibs = 8) ∨ (gen = 2 ∧ nibs = 16) then
        let s := ((s.set (LK_CAP_GEN n) gen).set (LK_CAP_NIBS n) nibs).set (LK_CAP_DUAL n) (if dual then 1 else 0)
        let s := ((s.set (LK_PEN_ID_PEN_ID n) id.toNat).set (LK_STATUS_PEN_PORT n) (if port then 1 else 0)).set (LK_STATUS_GEN n) gen
        if gen = 1 then comeUp s n else enterLk (s.modLink n fun l => { l with relocked := false }) n lkShift
      else trainFail s n
    else s
  | .failed => if isTraining s n then trainFail s n else s

def execTrainStep (n : Fin 16) (res : TrainResult) (s : State) : Res := .next (trainStep n res s)

/-- TRAIN_TIMEOUT (R276). -/
def trainTimeout (n : Nat) (s : State) : State := if isTraining s n then trainFail s n else s

def execTrainTimeout (n : Fin 16) (s : State) : Res := .next (trainTimeout n s)

/-- FAIL_WAIT_END (R276): the 100 ms of FAIL end. -/
def failWaitEnd (n : Nat) (s : State) : State := if lkState s n = lkFail then enterDown s n else s

def execFailWaitEnd (n : Fin 16) (s : State) : Res := .next (failWaitEnd n s)

/-- PLL_LOCK (R277, R278): all four ports of the quad are told; its N1 ports that are UP lose their lane alignment (B1-01). -/
def pllLock (q : Nat) (s : State) : State :=
  if pllRuns s q = true ∧ (s.link (4 * q)).quadLocked = false then
    let s := s.modLink (4 * q) fun l => { l with quadLocked := true }
    s.each [4 * q, 4 * q + 1, 4 * q + 2, 4 * q + 3] fun s n =>
      (s.ev (LK_EVENT_PLL_LOCK n)).iff (linkUp s n && isN1 s n) fun s => s.modLink n fun l => { l with suspended := true }
  else s

def execPllLock (quad : Fin 4) (s : State) : Res := .next (pllLock quad s)

/-- DESKEW (R278, R284): ignored on a port that is not UP, or is N2. -/
def deskew (n : Nat) (s : State) : State :=
  if linkUp s n ∧ isN1 s n = true then s.set (LK_CTRL_DESKEW n) 1 else s.ev (LK_EVENT_DESKEW_DONE n)

def execDeskew (n : Fin 16) (s : State) : Res := .next (s.clocked (ctrlIsland n) fun s => deskew n s)

/-- DESKEW_DONE (R261, R278): the skew has been measured from the counters. On an N1 port payload flows again and lane-loss counting
resumes; an N2 port, which measures it continuously, reports it. A skew beyond the 7 codewords that the receiver tolerates shows
nothing. -/
def deskewDone (n : Nat) (heads units : List Nat) (s : State) : State :=
  if (laneLags heads).isNone then s
  else if s.on (LK_CTRL_DESKEW n) = true ∧ linkUp s n then
    let s := (setSkews (s.set (LK_CTRL_DESKEW n) 0) n units).ev (LK_EVENT_DESKEW_DONE n)
    s.modLink n fun l => { l with suspended := false }
  else if linkUp s n = true ∧ isN1 s n = false then setSkews s n units
  else s

def execDeskewDone (n : Fin 16) (headers : List (BitVec 19)) (units : List Nat) (s : State) : Res :=
  .next (deskewDone n (headers.map BitVec.toNat) units s)

/-- DESKEW_SUSPEND_EXPIRY (R278): 1 ms without a deskew: the lanes are lost and the link goes DOWN. -/
def suspendExpiry (n : Nat) (s : State) : State := if (s.link n).suspended then linkLoss s n else s

def execDeskewSuspendExpiry (n : Fin 16) (s : State) : Res := .next (suspendExpiry n s)

/-! ### Samples (R55 to R59, R262, R263, R279) -/

/-- Samples enter the ink ring, the newest of them just before sample index `at_` (R55, R57). -/
def ringPush (s : State) (n k : Nat) (data : List (BitVec 8)) (at_ : Nat) : State :=
  s.modNib n k fun b => { b with ring := (data.reverse ++ b.ring).take 81920, at_ := at_ }

/-- Lost samples enter as 0 and are flagged as a blot, from the sample where they begin (R69, R279). -/
def lostSamples (s : State) (n k count : Nat) : State :=
  if count ≠ 0 ∧ nibOn s n k = true ∧ s.on (RUL_STATUS_CLK_SRC n) = true then
    let b := s.nib n k
    let bit := match b.cws.getLast? with | some c => (((b.at_ : Nat) : Int) - c.sample).toNat | none => 0
    let s := if b.blotFrom.isNone then beginBlot s n k bit else s
    let s := s.modNib n k fun b => { b with corr := (List.replicate (min count 2048) (0, 0, 0) ++ b.corr).take 2048, lag := min 2048 (b.lag + count), window := [] }
    ringPush s n k (List.replicate (min count 81920) 0) (b.at_ + count)
  else s

/-- Before samples from index `start_` are stored, what is missing between them and the nib's newest enters as lost; where the nib
holds nothing yet, or the count has been set back, its samples are numbered anew (R263, R279). Samples that the ring was not to take are
not lost: where they would lie it holds zeros, and the path begins anew (R57, R279, R280). -/
def fillTo (s : State) (n k start_ : Nat) : State :=
  let b := s.nib n k
  if b.anew then
    s.modNib n k fun b =>
      { b with ring := if b.ring = [] then [] else (List.replicate (min (start_ - b.at_) 81920) 0 ++ b.ring).take 81920
               at_ := start_, corr := [], lag := 0, dec := [], iti := [], window := [], anew := false }
  else if b.ring ≠ [] ∧ b.at_ < start_ then lostSamples s n k (start_ - b.at_) else s.modNib n k fun b => { b with at_ := start_ }

/-- Intervals that close with a packet of this SEQ; key 512 remembers the last one (R263). -/
def newIntervals (s : State) (n seq : Nat) : Nat :=
  match (s.link n).seqs.find? 512 with
  | some p => if (seq + 256 - p) % 256 < 128 then (seq + 256 - p) % 256 else 0
  | none => 1

/-- The sample index moves on, from the close of the last interval, with a packet that closes a new one (R263, R264). DESIGN CHOICE
(assumption 100): an interval of which no packet has come counts as long as this one. -/
def advanceSidx (s : State) (n seq count : Nat) : State :=
  let d := newIntervals s n seq
  if d = 0 then s
  else
    let i := (s.link n).closed + d * count
    (s.set (LK_SIDX_SIDX n) i).modLink n fun l => { l with sidx := i, closed := i, lastCount := count, seqs := l.seqs.insert 512 seq }

/-- PEN_STATUS shows the index at its window's end, which may lie within an interval: the intervals go on being counted from their own
closes while it lies in the one under way, and from it where it shows them wrong (R263; DEDUCED, assumption 100). -/
def showSidx (s : State) (n i : Nat) : State :=
  (s.set (LK_SIDX_SIDX n) i).modLink n fun l =>
    if l.closed ≤ i ∧ i < l.closed + max 1 (2 * l.lastCount) then { l with sidx := i }
    else { l with sidx := i, closed := i, seqs := l.seqs.erase 512 }

/-- SAMPLES (R41, R53, R55, R57 to R63, R262, R263, R279): the nib and SEQ of the header, and the samples of its interval, with what the
nib's path does to them. -/
def samples (n header : Nat) (data : List (BitVec 8)) (steps : List ChanStep) (s : State) : State :=
  let k := pktNib header
  let seq := pktSeq header
  if pktType header = 1 ∧ receiving s n = true ∧ k < dataNibs s n ∧ nibUnsent s n k = false then
    let s := advanceSidx (notePkt s n (32 + k) seq 256) n seq data.length
    if nibOn s n k = true ∧ s.on (RUL_STATUS_CLK_SRC n) = true then
      let i := (s.link n).closed
      let s := fillTo s n k (i - data.length)
      ringPush (steps.foldl (chanStep n k) s) n k data i
    else s
  else s

def execSamples (n : Fin 16) (header : PktHeader) (data : List (BitVec 8)) (steps : List ChanStep) (s : State) : Res :=
  .next (samples n header.toNat data steps s)

/-- The count moves on within its bin by the periods of some samples, eight samples to a period; what goes past the bin's end waits for
its boundary (R42). -/
def advanceCount (s : State) (n count : Nat) : State :=
  if s.on (RUL_STATUS_ANGLE_VALID n) = true ∧ s.get (RUL_PERIODS_M_RNI n) ≠ 0 then
    let t := (s.ruling n).sub + count
    let moved := min (periodsLeft s n) (t / 8)
    countOn (s.modRul n fun r => { r with sub := t - 8 * moved }) n moved
  else s

/-- Samples of a ruling nib are stored, shifted left by 2 as the edge cross terms and the edge windows take them; its Blotter's window
and hold go on (R60, R65, R66, R68, R96). -/
def rulPush (s : State) (n r : Nat) (data : List (BitVec 6)) (at_ : Nat) : State :=
  let s := ringPush s n r (data.map fun x => BitVec.ofNat 8 (4 * x.toNat)) at_
  let hold := holdSamples s n
  s.modNib n r fun b =>
    let b := data.foldl (fun b x => pushWindow b b.rulBlot.isSome (64 * (x.toNat : Int))) b
    { b with rulBlot := match b.rulBlot with | some c => if c + data.length < hold then some (c + data.length) else none | none => none }

/-- Samples of a ruling nib up to index `stop_` are lost: they enter as 0, flagged as a blot, and the nib is lost (R36, R68, R279). -/
def rulLost (s : State) (n : Nat) (nib : RulNib) (stop_ : Nat) : State :=
  let r := rulIndex nib
  let b := s.nib n r
  if b.ring ≠ [] ∧ b.at_ < stop_ then
    rulBlotted n nib ((ringPush s n r (List.replicate (min (stop_ - b.at_) 81920) 0) stop_).modNib n r fun b => { b with window := [] })
  else s.modNib n r fun b => { b with at_ := stop_ }

/-- The ruling nib that bits 27:24 of a RULING header name (R262). -/
def rulNib? (c : Nat) : Option RulNib := if c = 0 then some .rni else if c = 1 then some .rno else none

/-- RULING (R42, R60, R65, R66, R68, R262, R263, R279): ruling samples; lost ones are a blot on the nib, which is lost. -/
def rulingPkt (n header : Nat) (data : List (BitVec 6)) (s : State) : State :=
  let seq := pktSeq header
  match rulNib? (pktNib header) with
  | none => s
  | some nib =>
    if pktType header = 2 ∧ receiving s n = true then
      let r := rulIndex nib
      let s := advanceSidx (notePkt s n (64 + pktNib header) seq 256) n seq data.length
      let i := (s.link n).closed
      let b := s.nib n r
      let fresh := if b.ring = [] then data.length else i - b.at_
      let s := rulPush (rulLost s n nib (i - data.length)) n r data i
      if nib = .rni then advanceCount s n fresh else s
    else s

def execRuling (n : Fin 16) (header : PktHeader) (data : List (BitVec 6)) (s : State) : Res :=
  .next (rulingPkt n header.toNat data s)

/-! ### Pen status, claims and acknowledgements -/

/-- Events of the pen's reported state (R275). -/
def penState (s : State) (n flags : Nat) : State :=
  let st := if flags.testBit 28 then 2 else if flags.testBit 29 then 1 else 0
  let was := s.get (LK_STATUS_PEN_STATE n)
  let s := s.set (LK_STATUS_PEN_STATE n) st
  let s := s.iff (st == 1 && was != 1) fun s => s.ev (LK_EVENT_HOLDING n)
  s.iff (st == 2 && was != 2) fun s => s.ev (LK_EVENT_SAFE n)

/-- The loop delay reported, in 4 ns (R190). -/
def penDelay (s : State) (n d : Nat) : State :=
  let ns := min 65535 (4 * d)
  let s := (s.set (SV_DELAY_LAST_NS n) ns).set (SV_DELAY_MAX_NS n) (max ns (s.get (SV_DELAY_MAX_NS n)))
  s.iff (decide (s.get (SV_DELAY_CFG_LIMIT_NS n) < ns)) fun s => s.ev (SV_EVENT_DELAY_OVER n)

/-- The echo of the applied command: slots 0 to 3 in 24 bits, 4 to 7 in 16 (R174, R266). -/
def penEcho (s : State) (n window : Nat) (w : List Nat) : State :=
  let s := s.each [0, 1, 2, 3] fun s i => echoArrives s n i window (toSigned 24 (w.getD (4 + i) 0) * 2 ^ 8)
  s.each [0, 1, 2, 3] fun s i =>
    echoArrives s n (4 + i) window (toSigned 16 (w.getD (8 + i / 2) 0 / 2 ^ (16 - 16 * (i % 2))) * 2 ^ 16)

/-- PEN_STATUS (R136, R174, R187, R190, R263, R264, R266, R275, R281, R285, R452). Word i of the manual is element i − 1. `corrected` is what
the receiver has corrected on each uplink lane since the last window, in codewords that it could correct. -/
def penStatus (n header : Nat) (words : List Word) (corrected : List Nat) (s : State) : State :=
  let window := pktWindow header
  if pktType header = 4 ∧ receiving s n = true then
    let w := words.map BitVec.toNat
    let s := notePkt s n 128 window 65536
    let old := (s.link n).sidx
    let sidx := (old + (toSigned 32 ((w.getD 0 0 + 2 ^ 32 - old % 2 ^ 32) % 2 ^ 32))).toNat
    let flags := w.getD 1 0
    let s := s.modLink n fun l =>
      { l with lens := w.getD 2 0 / 2 ^ 16, burning := flags % 2 ^ 16, penTemp := w.getD 11 0 / 2 ^ 16
               nibWords := if isN1 s n then ((w.drop 12).take 4).flatMap fun x => [x / 2 ^ 16, x % 2 ^ 16] else l.nibWords }
    let s := ((showSidx s n sidx).set (LK_FLAGS_FLAGS n) (flags / 2 ^ 16)).set (LK_FLAGS_LASER_T n) (w.getD 3 0)
    let s := penState s n flags
    let hold := flags.testBit 30
    let s := if hold = true ∧ s.on (WC_STATUS_WRITE_HOLD n) = false then writeHoldRise n s else s.set (WC_STATUS_WRITE_HOLD n) (if hold then 1 else 0)
    let s := penDelay s n (w.getD 2 0 % 2 ^ 16)
    let s := penEcho s n (w.getD 3 0 / 2 ^ 16) w
    let s := s.each [0, 1, 2, 3] fun s i => s.bump (LK_LANE_CORR_CORR n i) (corrected.getD i 0)
    let s := (s.bump (LK_LANE_CORR_CORR n 4) (w.getD 10 0 / 2 ^ 16)).bump (LK_LANE_UNC_UNC n 4) (w.getD 10 0 % 2 ^ 16)
    if flags.testBit 27 then s else linkLoss s n
  else s

def execPenStatus (n : Fin 16) (header : PktHeader) (words : List Word) (corrected : List Nat) (s : State) : Res :=
  .next (penStatus n header.toNat words corrected s)

/-- The age of the last claim on the other port of pen n, in tenths of a SYS_TIME tick: as the last CLAIM_STATUS gives it, and since
that came (R267, R387). -/
def otherAge (s : State) (n : Nat) : Nat :=
  let l := s.link n
  (if s.on (LK_STATUS_PEN_PORT n) then l.ages.1 else l.ages.2) * 384 + (s.now - l.claimAt) * 10

/-- As SYS_TIME goes on, a class-0xC claim on a pen's other port that is 250 µs old no longer shows another unit in authority (R387). -/
def ageClaims (s : State) : State :=
  s.each (List.range 16) fun s n => s.iff (s.on (VRS_OUT_OTHER_HOLDS n) && decide (96000 ≤ otherAge s n)) fun s => s.set (VRS_OUT_OTHER_HOLDS n) 0

/-- CLAIM_STATUS (R128, R151, R267, R383, R385, R387): what the pen obeys, and the claims it has received. A pen that no longer obeys
this port has ended its burns: the claim is lost (DEDUCED, assumption 102). -/
def claimStatus (n header : Nat) (words : List Word) (s : State) : State :=
  if pktType header = 5 ∧ receiving s n = true then
    let w := words.map BitVec.toNat
    let s := notePkt s n 160 (pktSeq header) 256
    let w1 := w.getD 0 0
    let port := w1.testBit 31
    let held := w1.testBit 30
    let p0 := w.getD 1 0 / 2 ^ 16
    let p1 := w.getD 1 0 % 2 ^ 16
    let changed := match (s.link n).claimSeen with | some q => q != (port, held) | none => false
    let s := s.iff changed fun s => s.ev (LK_EVENT_OBEY_CHANGE n)
    let s := s.modLink n fun l => { l with claimSeen := some (port, held), ages := (w.getD 2 0 / 2 ^ 16, w.getD 2 0 % 2 ^ 16), claimAt := s.now }
    let s := ((s.set (LK_CLAIM_OBEYED_PORT n) (if port then 1 else 0)).set (LK_CLAIM_HELD n) (if held then 1 else 0)).set (LK_CLAIM_CLAIM n) w1
    let s := (s.set (LK_CLAIM_PORTS_PORT0 n) p0).set (LK_CLAIM_PORTS_PORT1 n) p1
    let mine := s.on (LK_STATUS_PEN_PORT n)
    let here := held && port == mine
    let s := s.iff (s.on (LK_STATUS_OBEYED n) && !here) fun s => stopGroup s n
    let s := (s.set (LK_STATUS_OBEYED n) (if here then 1 else 0)).set (VRS_OUT_HELD_HERE n) (if here then 1 else 0)
    let other := if mine then p0 else p1
    let s := s.set (VRS_OUT_OTHER_CLAIM n) other
    s.set (VRS_OUT_OTHER_HOLDS n) (if other / 4096 = 12 ∧ otherAge s n < 96000 then 1 else 0)
  else s

def execClaimStatus (n : Fin 16) (header : PktHeader) (words : List Word) (s : State) : Res := .next (claimStatus n header.toNat words s)

/-- A slot answered LATE, by the SEQ of its SLOT packet, counts as skipped unburned (R132, R270). -/
def slotSkipped (s : State) (n k seq : Nat) : State :=
  match burningDesc s n k, (s.link n).slots.find? k with
  | some d, some x => if x.seq ≠ seq then s else refreshWc ((modDesc s n d.idx fun d => { d with burning := d.burning ^^^ 2 ^ k }).modLink n fun l => { l with slots := l.slots.erase k }) n
  | _, _ => s

/-- The ACK of a strategy table carries the SEQ of the last segment of the load under way (R272). -/
def acksLoad (s : State) (n k seq : Nat) : Bool :=
  (match (s.writeCh n).loading with | some (q, _, _) => q == k | none => false) && (s.link n).dnSeqs.find? (112 + k) == some seq

/-- ACK (R132, R264, R270, R272, R279), for a packet sent for nib k: the kind of its header; other kinds are not given. -/
def ack (n k header : Nat) (s : State) : State :=
  if pktType header = 6 ∧ receiving s n = true then
    match pktNib header with
    | 1 => s.iff (acksLoad s n k (pktSeq header)) (wsLoadDone n true)
    | 2 => s.iff (acksLoad s n k (pktSeq header)) (wsLoadDone n false)
    | 3 => slotSkipped (s.ev (LK_EVENT_ACK_LATE n)) n k (pktSeq header)
    | 4 =>
      let s := s.ev (LK_EVENT_WRITE_GAP n)
      match burningDesc s n k with
      | none => s
      | some d => refreshWc (underrun s n d) n
    | _ => s
  else s

def execAck (n k : Fin 16) (header : PktHeader) (s : State) : Res := .next (ack n k header.toNat s)

/-! ### Errors and lanes (R278 to R281, R284) -/

/-- What losing a packet in part does; its header has been seen (R262, R263, R279). IDLE, ACK and LINK packets are not counted. -/
def cutPacket (n : Nat) (s : State) (header : Nat) : State :=
  let seq := pktSeq header
  let count := pktCount header
  let lost := fun (s : State) => s.bump (LK_CNT_PKT_LOST n) 1
  match pktType header with
  | 1 =>
    let k := pktNib header
    let s := advanceSidx (notePkt (lost s) n (32 + k) seq 256) n seq count
    fillTo s n k (s.link n).closed
  | 2 =>
    match rulNib? (pktNib header) with
    | none => s
    | some nib =>
      let s := advanceSidx (notePkt (lost s) n (64 + pktNib header) seq 256) n seq count
      let i := (s.link n).closed
      let b := s.nib n (rulIndex nib)
      let fresh := if b.ring = [] then count else i - b.at_
      let s := rulBlotted n nib (rulLost s n nib i)
      if nib = .rni then advanceCount s n fresh else s
  | 3 =>
    (notePkt (lost s) n 96 (pktWindow header * servoParts s n + pktPart header) (65536 * servoParts s n)).modSup n fun u => { u with parts := [], acc := [] }
  | 4 => notePkt (lost s) n 128 (pktWindow header) 65536
  | 5 => notePkt (lost s) n 160 seq 256
  | _ => s

/-- UNCORRECTABLE_CODEWORD (R278, R279, R284): a codeword of an uplink lane, with the corrected symbols since the last one
reported and the packets that it cuts. -/
def uncorrectable (n lane corrected : Nat) (cut : List Nat) (s : State) : State :=
  if linkUp s n then
    let s := (s.bump (LK_LANE_UNC_UNC n lane) 1).bump (LK_LANE_CORR_CORR n lane) corrected
    cut.foldl (cutPacket n) s
  else s

def execUncorrectableCodeword (n : Fin 16) (lane : Fin 4) (corrected : Nat) (cut : List PktHeader) (s : State) : Res :=
  .next (uncorrectable n lane corrected (cut.map BitVec.toNat) s)

/-- In degraded mode, SAMPLES packets of nibs that are not sent are not lost: a nib sent again counts from its first packet, and its ring
goes on with that (R279, R280). -/
def refreshDegraded (s : State) (n : Nat) : State :=
  s.iff (s.on (LK_STATUS_DEGRADED n)) fun s =>
    let s := s.modLink n fun l =>
      { l with seqs := l.seqs.filter fun e => decide (e.1 < 32) || decide (48 ≤ e.1) || (sentNibs s n).contains (e.1 - 32) }
    s.each (List.range 16) fun s k => s.iff (nibUnsent s n k) fun s => s.modNib n k fun b => { b with anew := true }

/-- LANE_LOST (R278, R280, R281, R284): the port degrades to three lanes, or the link goes down; in training it fails. -/
def laneLost (n lane : Nat) (why : LaneLoss) (s : State) : State :=
  let holds := match why with
    | .absent => true
    | .uncorrectable c => !(s.link n).suspended && decide (max 1 (s.get (LK_ERR_CFG_UNC_MAX n)) ≤ c)
  if holds = false then s
  else if isTraining s n then trainFail s n
  else if linkUp s n = true ∧ s.bit (LK_STATUS_LANES n) lane = true then
    if s.on (LK_STATUS_DEGRADED n) = true ∨ s.on (LK_CTRL_DEG_EN n) = false then linkLoss s n
    else refreshDegraded (((s.setBit (LK_STATUS_LANES n) lane false).set (LK_STATUS_DEGRADED n) 1).ev (LK_EVENT_DEGRADED n)) n
  else s

def execLaneLost (n : Fin 16) (lane : Fin 4) (why : LaneLoss) (s : State) : Res := .next (laneLost n lane why s)

/-! ### Claims and write data on the downlink (R268) -/

/-- CLAIM (R268, R383): the unit's claim on pen n, its domain epoch and SYS_TIME. -/
def sendClaim (n : Nat) (s : State) : State :=
  if linkUp s n then
    let c := s.get (VRS_OUT_CLASS n) * 4096 + s.get VRS_NODE_NODE_ID
    s.modLink n fun l => { l with claimSent := some ((match l.claimSent with | some (q, _) => (q + 1) % 256 | none => 0), c, s.get VRS_EPOCH_EPOCH, s.now % 2 ^ 32) }
  else s

def execClaim (n : Fin 16) (s : State) : Res := .next (sendClaim n s)

/-- WRITE (R120, R130 to R132, R268, R383): `filled` bytes of encoded data have entered nib k's FIFO, which holds at most 32 KiB, and where it
holds them the next 1,024 channel bits of the burn leave it for the pen. -/
def writePkt (n k filled : Nat) (s : State) : State :=
  if linkUp s n = true ∧ claims s n = true then
    let s := s.modWc n fun w => { w with fifo := w.fifo.set k 0 (min fifoSize (w.fifo.getD k 0 + filled)) }
    match burningDesc s n k with
    | none => s
    | some d =>
      let sent := (s.writeCh n).sent.getD k 0
      if 632000 ≤ sent ∨ fifoDry s n k = true then s
      else
        let s := s.modWc n fun w =>
          { w with fifo := w.fifo.set k 0 (w.fifo.getD k 0 - min 128 ((632000 - sent) / 8)), sent := w.sent.set k 0 (sent + 1024) }
        s.modLink n fun l =>
          { l with written := l.written.insert k ((match l.written.find? k with | some (q, _) => (q + 1) % 256 | none => 0), nextBits d k sent) }
  else s

def execWrite (n k : Fin 16) (filled : Nat) (s : State) : Res := .next (writePkt n k filled s)

end Sys2Proof.Machine
end

