-- ==== Sys2Proof/Machine/Diagnosis.lean ====
section
/-!
DEFINITION. A unit's claims on its outputs, self-diagnosis and giving up (R382, R383, R392, R393); and the three rows of the
Loop Engine chapter whose effect reaches beyond one engine: a tick, a MODE write and a lockstep fault.
-/

namespace Sys2Proof.Machine

/-- Change the Verso state. -/
def State.modVerso (s : State) (f : Verso → Verso) : State := { s with verso := f s.verso }

/-- The Verso link is UP (VRS_STATUS.LINK = 2). -/
def versoUp (s : State) : Bool := s.get VRS_STATUS_LINK == 2

/-- TYPE of a message (R388). -/
def VersoMsg.type : VersoMsg → Nat
  | .heartbeat .. => 1
  | .writeData .. => 2
  | .dataAck .. => 3
  | .sealOp .. => 4
  | .giveUp .. => 5
  | .firmware .. => 8

/-- The payload of a message, its fields in the order R388 lists them. DESIGN CHOICE (assumption 125): the bytes each takes, and the
zeros that fill the last 16, as R388 prints no layout. -/
def VersoMsg.payload (m : VersoMsg) : List (BitVec 8) :=
  let b := match m with
    | .heartbeat node role degraded health time => leBytes 2 node ++ leBytes 1 role ++ leBytes 1 (if degraded then 1 else 0) ++ leBytes 4 health ++ leBytes 8 time
    | .writeData a d => leBytes 8 a ++ d
    | .dataAck a => leBytes 8 a
    | .sealOp i take => leBytes 1 i ++ leBytes 1 (if take then 1 else 0)
    | .giveUp cause => leBytes 4 cause
    | .firmware d => d
  b ++ List.replicate ((16 - b.length % 16) % 16) 0

/-- The direction bit of this unit's messages: DESIGN CHOICE (assumption 125), 1 at the unit with the higher node ID. -/
def versoDirection (s : State) : Nat := if s.get VRS_STATUS_PARTNER_NODE < s.get VRS_NODE_NODE_ID then 1 else 0

/-- The nonce of this unit's message with a counter: the direction bit, then 95 bits of counter, the highest byte first (R388). -/
def versoNonce (s : State) (counter : Nat) : List (BitVec 8) := (leBytes 12 (versoDirection s * 2 ^ 95 + counter)).reverse

/-- A message as it goes on the link (R388): the header and the counter word, authenticated only, then the encrypted payload and the
GCM tag. -/
def versoBytes (s : State) (m : VersoMsg) : List (BitVec 8) :=
  let p := m.payload
  let head := leBytes 4 (m.type * 2 ^ 28 + p.length / 16 * 2 ^ 16) ++ leBytes 4 s.verso.counter
  head ++ Config.gcm s.sec.verso (versoNonce s s.verso.counter) head p

/-- Send a message, when the link is UP. -/
def sendVerso (s : State) (m : VersoMsg) : State :=
  s.iff (versoUp s) fun s => s.modVerso fun v => { v with sent := v.sent ++ [(m, versoBytes s m)], counter := (v.counter + 1) % 2 ^ 95 }

/-- ROLE as VRS_STATUS gives it. -/
def refreshRole (s : State) : State :=
  let has := fun c => (List.range 40).any fun k => s.get (VRS_OUT_CLASS k) == c
  s.set VRS_STATUS_ROLE (if s.on VRS_DIAG_GAVE_UP then 3 else if has 12 then 2 else if has 4 then 1 else 0)

/-- Set the class of output k; a change goes out to a pen in a CLAIM packet at once (R383). A pen whose class leaves 0xC is lost to the
unit: its laser stops, and the group's descriptors complete CUT (R128, R151). -/
def setClass (s : State) (k c : Nat) : State :=
  if s.get (VRS_OUT_CLASS k) = c then s
  else
    let s := s.iff (decide (k < 16) && claims s k) fun s => stopGroup s k
    refreshRole ((s.set (VRS_OUT_CLASS k) c).iff (decide (k < 16)) (sendClaim k))

/-- An engine's supervisors and commutators make no further request once its loops are sent to OFF. -/
def engineStops (s : State) (e : Nat) : State :=
  let s := allOff s e
  if e < 16 then s.iff (s.on (SV_CTRL_SUP_EN e)) fun s => supStop s e 63 else s

/-- Relinquish everything (R393): every class 0x0, burns aborted, every loop OFF, GIVE_UP to the partner. I/O commands in flight
are not completed (R400). -/
def relinquish (s : State) : State :=
  let s := dropCmds s fun c => c.sq != 0
  let s := s.each (List.range 16) fun s n => s.iff (claims s n || burningNibs s n != 0) fun s => stopGroup s n
  let s := s.each (List.range 17) engineStops
  let s := s.each (List.range 40) fun s k => setClass s k 0
  refreshRole (sendVerso s (.giveUp (s.get VRS_DIAG_CAUSE)))

/-- Give up whole (R393), which changes the ANA state (R400). -/
def giveUp (s : State) : State := withAna s fun s => relinquish ((s.set VRS_DIAG_GAVE_UP 1).ev VRS_EVENT_GAVE_UP)

/-- A cause of R392 occurs: it is recorded, and gives the unit up if VRS_DIAG_EN enables it. -/
def diagnose (s : State) (cause : Nat) : State :=
  let s := s.setBit VRS_DIAG_CAUSE cause true
  s.iff (s.bit VRS_DIAG_EN_EN cause) giveUp

/-- The self-diagnosis is told that the uncorrectables of a window have reached UE_LIMIT (R295, R392). -/
def tellDiagnosis (s : State) : State :=
  if s.ink.told then diagnose { s with ink := { s.ink with told := false } } 4 else s

/-! ### Rows of the Loop Engine chapter -/

/-- The motion engine's inputs: ERR0 to ERR7 the spindles' speed errors, ERR8 to ERR15 the speeds of the sleds named (R256). -/
def motionErrs (s : State) : List Int × State :=
  let sp := (List.range 8).map fun k =>
    clampInt (-(2 ^ 31)) (2 ^ 31 - 1) (((s.get (MOT_SP_REF_REF k) : Int) - s.get (MOT_SP_SPEED_MEAS k)) * 131072)
  (List.range 8).foldl (fun (acc : List Int × State) m =>
    let n := acc.2.get DUC_ERRSEL_SL / 16 ^ m % 16
    let (v, s) := sledSpeed acc.2 n
    let (v, s) := s.divFree (v * 2 ^ 31) (vmaxOf s n)
    (acc.1 ++ [clampInt (-(2 ^ 31)) (2 ^ 31 - 1) v], s)) (sp, s)

/-- LE_TICK (R153 to R156, R158, R160 to R166, R168, R170 to R178, R180, R182, R187, R189, R192 to R194, R196, R198, R201 to R203, R216,
R256, R269, R383, R396, R495, R497): engine e's tick, with the cycles until the next one and the single errors its memories
corrected. A pen engine ticks when its front end has a sample, the motion engine every 1,000 cycles. -/
def leTick (e cycles ecc : Nat) (s : State) : State :=
  let s := s.bump (LE_CNT_ECC_CORR e) ecc
  if e < 16 then penTick s e cycles
  else
    let (errs, s) := motionErrs s
    engineTick s 16 1000 { errs := errs, bin := none, valid := true, blot := false, sample := 0 }

def execLeTick (e : Fin 17) (cycles eccCorr : Nat) (s : State) : Res := .next (leTick e cycles eccCorr s)

/-- LOOP_MODE_WRITE (R156, R166, R170, R172, R195, R203). -/
def loopModeWrite (e j m : Nat) (s : State) : State :=
  let s := if e < 16 then overrideAxes s e j else s
  modeWrite s e j m

def execLoopModeWrite (e : Fin 17) (j : Fin 32) (mode : Fin 8) (s : State) : Res := .next (s.clocked (engineIsland e) fun s => loopModeWrite e j mode s)

/-- LOCKSTEP_FAULT (R180, R181, R195, R203, R214, R392): a comparison mismatch, or an uncorrectable error of a memory. -/
def lockstepFault (e loop word cycle : Nat) (ecc : Bool) (s : State) : State :=
  let s := engineFault s e loop word cycle ecc
  if e < 16 then diagnose (penFault s e) 0 else diagnose s 1

def execLockstepFault (e : Fin 17) (loop : Fin 32) (word : Fin 256) (cycle : Nat) (ecc : Bool) (s : State) : Res :=
  .next (lockstepFault e loop word cycle ecc s)

/-- GIVE_UP (R388, R392, R393, R400): firmware writes VRS_DIAG.GIVE_UP. -/
def execGiveUp (s : State) : Res := .next (s.clocked vrsIsland fun s => giveUp s)

end Sys2Proof.Machine
end

