-- ==== Sys2Proof/Machine/Inkwell.lean ====
section
/-!
DEFINITION. Chapter 11: the channel arbiters, write-backs, the scrubbers, ECC tests and self-refresh.
-/

namespace Sys2Proof.Machine

/-- The address of block b of channel c (R287). -/
def scrubAddr (c b : Nat) : Nat := b / 4 * 2048 + c * 256 + b % 4 * 64

/-- A requester's write to a block, granted (R292, R293, R305, R306): the bytes of the mask over what the block decodes to. -/
def grantWrite (s : State) (r a : Nat) (mask : Nat) (data : List (BitVec 8)) (poison : Bool) (f : ReadFault) : State :=
  let b := a / 64
  testHook s (64 * b) 64 fun s =>
    if mask = 2 ^ 64 - 1 then
      ((freshBlock s b).putBytes (64 * b) ((List.range 64).map fun i => data.getD i 0)).setPoison b poison
    else
      let (o, known, s) := decodeRead s r b f
      let (old, s) := blockData s b known
      ((freshBlock s b).putBytes (64 * b) ((List.range 64).map fun i => if mask.testBit i then data.getD i 0 else old.getD i 0)).setPoison b
        (poison || decide (2 ≤ o))

/-- A requester's read of a block, granted: the data goes back, marked poison where the table of R291 says so. -/
def grantRead (s : State) (r a : Nat) (f : ReadFault) : State :=
  let b := a / 64
  let (o, known, s) := decodeRead s r b f
  let (d, s) := blockData s b known
  { s with ink := { s.ink with rets := s.ink.rets.insert r (d, decide (2 ≤ o)) } }

/-- The address of a transfer. -/
def xferAddr : InkXfer → Nat
  | .read a _ => a.toNat
  | .write a _ _ _ _ => a.toNat

/-- Perform a granted transfer; one to the check-region window is not performed (R288). -/
def perform (s : State) (r : Nat) (x : InkXfer) : State :=
  let a := xferAddr x
  if inkLimit ≤ a then
    let s := s.addrErr r a
    match x with
    | .read _ _ => { s with ink := { s.ink with rets := s.ink.rets.insert r (List.replicate 64 0, true) } }
    | .write .. => s
  else
    match x with
    | .read _ f => grantRead s r a f
    | .write _ mask data poison f => grantWrite s r a mask.toNat data poison f

/-! ### The arbiter (R297 to R300) -/

/-- Base priority of requester r. -/
def baseOf (s : State) (r : Nat) : Nat := s.get (INK_ARB_BASE_BASE (r / 8)) / 16 ^ (r % 8) % 16

/-- Effective priority of a candidate (R298). -/
def effOf (s : State) (c : Nat) (q : InkReq) : Nat :=
  if q.r.val ≤ 15 ∧ q.urgent = true then 31 else min 31 (baseOf s q.r + (s.inkCh c).age.getD q.r 0)

/-- The request may be granted before the fill is done: one at or above FILL_MARK waits until the mark has passed it (R297). -/
def fillAllows (s : State) (q : InkReq) : Bool :=
  s.on INK_STATUS_FILL_DONE
    || ((q.r.val == 36 || q.r.val == 38) && decide (xferAddr q.xfer / 2 ^ 20 < s.get INK_STATUS_FILL_MARK))

/-- The winner among the candidates: the highest, searched upward from rr_ptr and wrapping. -/
def winner (s : State) (c : Nat) (cands : List InkReq) : Option InkReq :=
  let top := cands.foldl (fun m q => max m (effOf s c q)) 0
  let rr := s.get (INK_CH_STATUS_RR_PTR c)
  ((List.range 40).map fun i => (rr + i) % 40).findSome? fun r => cands.find? fun q => q.r.val == r && effOf s c q == top

/-- A requester waits one cycle at a channel (R300). -/
def waitOne (c : Nat) (s : State) (q : InkReq) : State :=
  (s.bump (INK_ARB_WAIT_WAIT q.r) 1).modCh c fun h => { h with waited := h.waited.set q.r 0 (h.waited.getD q.r 0 + 1) }

/-- Grant a transfer (R298, R300). -/
def grant (s : State) (c : Nat) (q : InkReq) : State :=
  let w := (s.inkCh c).waited.getD q.r 0
  let s := (s.bump (INK_ARB_GRANTS_GRANTS q.r) 1).set (INK_ARB_LONGEST_LONGEST q.r) (max (s.get (INK_ARB_LONGEST_LONGEST q.r)) (min w (2 ^ 32 - 1)))
  let s := s.modCh c fun h => { h with age := h.age.set q.r 0 0, waited := h.waited.set q.r 0 0 }
  let s := (s.set (INK_CH_STATUS_RR_PTR c) ((q.r + 1) % 40)).set (INK_CH_STATUS_QUEUED c) (s.get (INK_CH_STATUS_QUEUED c) + 1)
  perform s q.r q.xfer

/-- INK_GRANT (R287 to R291, R293 to R295, R297, R298, R300, R305, R306, R308, R309): a cycle of channel c: `drained` transfers have left
its command queue, and the requests pending at it compete: those whose address is its own. -/
def inkGrant (c drained : Nat) (pending : List InkReq) (s : State) : State :=
  let reqs := pending.filter fun q => channelOf (xferAddr q.xfer) == c
  let s := s.set (INK_CH_STATUS_QUEUED c) (s.get (INK_CH_STATUS_QUEUED c) - drained)
  if s.get INK_STATUS_SR_STATE ≠ 0 then
    let s := reqs.foldl (waitOne c) s
    if s.get INK_STATUS_SR_STATE = 2 ∧ reqs ≠ [] then (s.set INK_CTRL_SR_REQ 0).set INK_STATUS_SR_STATE 3 else s
  else if 32 ≤ s.get (INK_CH_STATUS_QUEUED c) then reqs.foldl (waitOne c) s
  else
    let cands := reqs.filter (fillAllows s)
    match winner s c cands with
    | none => reqs.foldl (waitOne c) s
    | some w =>
      let s := (reqs.filter fun q => q.r != w.r).foldl (waitOne c) s
      let s := s.each (cands.filter fun q => q.r != w.r) fun s q => s.modCh c fun h => { h with age := h.age.set q.r 0 (min 31 (h.age.getD q.r 0 + 1)) }
      grant s c w

def execInkGrant (c : Fin 8) (drained : Nat) (reqs : List InkReq) (s : State) : Res := .next (tellDiagnosis (inkGrant c drained reqs s))

/-! ### Write-backs, rate window, fill, scrubber -/

/-- One write-back is made: the corrected block as it should be, or the poison mark over a block found uncorrectable (R292). -/
def writeBack (s : State) (c : Nat) : State :=
  match (s.inkCh c).wbs with
  | [] => s
  | w :: r =>
    let s := refreshScrub (s.modCh c fun h => { h with wbs := r }) c
    (freshBlock s w.block).setPoison w.block w.poison

/-- ECC_WRITEBACK (R292, R309): the channel's next cycle with no request pending. -/
def execEccWriteback (c : Fin 8) (s : State) : Res := .next (writeBack s c)

/-- UE_WINDOW (R295): UE_WIN ms have passed; the rate counter restarts, once the self-diagnosis has been told of the last window. -/
def ueWindow (s : State) : State := let s := tellDiagnosis s; { s with ink := { s.ink with ueCount := 0 } }

def execUeWindow (s : State) : Res := .next (ueWindow s)

/-- The blocks from a to b lose their poison marks. -/
def clearMarks (s : State) (a b : Nat) : State :=
  { s with poison := s.poison.filter fun e => !(decide (a ≤ e.1) && decide (e.1 < b)) }

/-- The blocks from a to b lose what was planted in them and the write-backs that wait for them (R292, R296). -/
def clearPatterns (s : State) (a b : Nat) : State :=
  let inside := fun (x : Nat) => decide (a ≤ x) && decide (x < b)
  let s := { s with ink := { s.ink with planted := s.ink.planted.filter fun e => !inside e.1 } }
  s.each (List.range 8) fun s c => refreshScrub (s.modCh c fun h => { h with wbs := h.wbs.filter fun w => !inside w.block }) c

/-- A write that waited for the fill is made over the zeros (R297). -/
def lateWrite (s : State) (w : EarlyWrite) : State :=
  (s.each (blocksOf w.addr w.len) fun s b => s.setPoison b (w.mark || s.poisoned b)).zeroBytes w.addr w.len |>.putBytes w.addr w.bytes

/-- The writes that waited and now lie below the mark, in the order they came. -/
def lateWrites (s : State) (m : Nat) : State :=
  let due := s.ink.early.filter fun w => decide (w.addr + w.len ≤ m * 2 ^ 20)
  let s := { s with ink := { s.ink with early := s.ink.early.filter fun w => !decide (w.addr + w.len ≤ m * 2 ^ 20) } }
  s.each due lateWrite

/-- FILL_DONE (R296, R297, R430): the fill has reached a mark, in MiB; at 0xF000 it is done. -/
def fillDone (mark : Nat) (s : State) : State :=
  if s.on INK_STATUS_FILL_RUN then
    let old := s.get INK_STATUS_FILL_MARK
    let m := min 0xF000 mark
    if old < m then
      let s := clearMarks (s.zeroBytes (old * 2 ^ 20) ((m - old) * 2 ^ 20)) (old * 2 ^ 14) (m * 2 ^ 14)
      let s := lateWrites (clearPatterns s (old * 2 ^ 14) (m * 2 ^ 14)) m
      let s := s.set INK_STATUS_FILL_MARK m
      if m = 0xF000 then ((s.set INK_STATUS_FILL_RUN 0).set INK_STATUS_FILL_DONE 1).ev INK_EVENT_FILL_DONE else s
    else s
  else s

def execFillDone (markMiB : Nat) (s : State) : Res := .next (fillDone markMiB s)

/-- Blocks of a channel (R302). -/
abbrev channelBlocks : Nat := 125829120

/-- SCRUB_READ (R291, R295, R302, R303, R307, R309): the scrubber's next block, gapCycles after its previous read, elapsedUs of lap
time later. Between the halves of a split test it writes the check line back (B1-07). -/
def scrubRead (c gapCycles elapsedUs : Nat) (f : ReadFault) (s : State) : State :=
  if s.on (INK_CH_SCRUB_EN c) = true ∧ s.get INK_STATUS_SR_STATE = 0 ∧ s.get (INK_CH_STATUS_QUEUED c) = 0 ∧ max 1 (s.get (INK_CH_SCRUB_GAP c)) ≤ gapCycles then
    let i := (s.inkCh c).scrub
    let b := scrubAddr c i / 64
    let (_, _, s) := decodeRead s 0x3E b f
    let t := s.ink.halfBlock
    let s := s.iff (s.on INK_ECC_TEST_HALF && channelOf (64 * t) == c && t / 32 * 4 + t % 4 - (t / 32 * 4 + t % 4) % 16 == i - i % 16) fun s => plantOpen s t
    let us := (s.inkCh c).lapUs + elapsedUs
    let j := (i + 1) % channelBlocks
    let s := s.modCh c fun h => { h with scrub := j, lapUs := if j = 0 then 0 else us }
    let s := s.set (INK_CH_SCRUB_POS_POS c) (j / 64)
    let ms := min (2 ^ 32 - 1) (us / 1000)
    if j = 0 then
      (((s.set (INK_CH_LAP_LAST_MS c) ms).set (INK_CH_LAP_MAX_MS c) (max ms (s.get (INK_CH_LAP_MAX_MS c)))).set (INK_CH_LAP_ELAPSED_MS c) 0).ev INK_EVENT_SCRUB_LAP
    else s.set (INK_CH_LAP_ELAPSED_MS c) ms
  else s

def execScrubRead (c : Fin 8) (gapCycles elapsedUs : Nat) (fault : ReadFault) (s : State) : Res :=
  .next (tellDiagnosis (scrubRead c gapCycles elapsedUs fault s))

/-- ARB_BASE_WRITE (R299, R309): the new bases hold from the next arbitration; ages stay as they are. -/
def execArbBaseWrite (i : Fin 5) (value : Word) (s : State) : Res := .next (s.clocked inkIsland fun s => s.set (INK_ARB_BASE_BASE i) value.toNat)

/-- LONGEST_CLEAR (R301, R309): a write-one-to-clear of LONGEST; an update of the same cycle is kept (R5). -/
def longestClear (r value : Nat) (update : Option Nat) (s : State) : State :=
  let x := s.get (INK_ARB_LONGEST_LONGEST r)
  let x := x ^^^ (x &&& value)
  s.set (INK_ARB_LONGEST_LONGEST r) (match update with | some u => max x u | none => x)

def execLongestClear (r : Fin 40) (value : Word) (update : Option Nat) (s : State) : Res := .next (s.clocked inkIsland fun s => longestClear r value.toNat update s)

/-! ### ECC tests (R304 to R306) -/

/-- Diagnostic or Crypto Officer authority (R304, R409). -/
def testAuthority (s : State) : Bool := s.on SEC_AUTH_DIAG || s.on SEC_AUTH_OFFICER

/-- ECC_TEST_MECH (R304): a write that changes MECH. -/
def eccTestMech (split : Bool) (s : State) : State :=
  let m := if split then 1 else 0
  if m = s.get INK_ECC_TEST_MECH then s
  else if testAuthority s then s.set INK_ECC_TEST_MECH m else s.ev INK_EVENT_TEST_REFUSED

def execEccTestMech (split : Bool) (s : State) : Res := .next (s.clocked inkIsland fun s => eccTestMech split s)

/-- ECC_TEST_ARM (R304 to R306): the next write to TEST_ADDR is the test write. -/
def eccTestArm (s : State) : State := if testAuthority s then s.set INK_ECC_TEST_ARM 1 else s.ev INK_EVENT_TEST_REFUSED

def execEccTestArm (s : State) : Res := .next (s.clocked inkIsland fun s => eccTestArm s)

/-- ECC_TEST_STORE (R304, R306): CHECK becomes the check word of the block whose data half stands stored; what the code makes of it is
open. -/
def eccTestStore (s : State) : State :=
  if testAuthority s then
    if s.on INK_ECC_TEST_HALF then
      let b := s.ink.halfBlock
      let s := match s.ink.half with | some d => s.putBytes (64 * b) d | none => s
      let s := { s with ink := { s.ink with half := none } }
      (plantOpen (s.set INK_ECC_TEST_HALF 0) b).ev INK_EVENT_TEST_DONE
    else s
  else s.ev INK_EVENT_TEST_REFUSED

def execEccTestStore (s : State) : Res := .next (s.clocked inkIsland fun s => eccTestStore s)

/-! ### Self-refresh (R308) -/

/-- SR_ENTER: every channel stops granting and drains. -/
def srEnter (s : State) : State :=
  let s := s.set INK_CTRL_SR_REQ 1
  if s.get INK_STATUS_SR_STATE = 0 then s.set INK_STATUS_SR_STATE 1 else s

def execSrEnter (s : State) : Res := .next (s.clocked inkIsland fun s => srEnter s)

/-- SR_EXIT_START: SR_REQ is cleared, or a requester asks while in self-refresh. -/
def srExitStart (s : State) : State :=
  let s := s.set INK_CTRL_SR_REQ 0
  if s.get INK_STATUS_SR_STATE = 1 ∨ s.get INK_STATUS_SR_STATE = 2 then s.set INK_STATUS_SR_STATE 3 else s

def execSrExitStart (s : State) : Res := .next (s.clocked inkIsland fun s => srExitStart s)

/-- SR_EXIT: the channels resume; where SR_REQ has been written to 1 during the exit they enter self-refresh again. -/
def srExit (s : State) : State :=
  if s.get INK_STATUS_SR_STATE = 3 then (s.set INK_STATUS_SR_STATE (if s.on INK_CTRL_SR_REQ then 1 else 0)).ev INK_EVENT_SR_EXIT else s

def execSrExit (s : State) : Res := .next (srExit s)

/-- Every pending write-back of a channel is made. -/
def flushWriteBacks (s : State) (c : Nat) : State := s.each (s.inkCh c).wbs fun s _ => writeBack s c

/-- SELF_REFRESH_ENTERED: all eight channels have completed their queues and write-backs. -/
def selfRefreshEntered (s : State) : State :=
  if s.get INK_STATUS_SR_STATE = 1 then
    let s := s.each (List.range 8) fun s c => (flushWriteBacks s c).set (INK_CH_STATUS_QUEUED c) 0
    s.set INK_STATUS_SR_STATE 2
  else s

def execSelfRefreshEntered (s : State) : Res := .next (selfRefreshEntered s)

end Sys2Proof.Machine
end

