-- ==== Sys2Proof/Machine/Copybook.lean ====
section
/-!
DEFINITION. Chapter 12, first part: the Copybook, its operations and scratch ways, and a Scribe's accesses to memory.
-/

namespace Sys2Proof.Machine

/-- Change the Copybook. -/
def State.modCpb (s : State) (f : Copybook → Copybook) : State := { s with cpb := f s.cpb }

/-- Scribe q. -/
def State.scribe (s : State) (q : Nat) : Scribe := s.scribes.getD q {}

/-- Change Scribe q. -/
def State.modScribe (s : State) (q : Nat) (f : Scribe → Scribe) : State := { s with scribes := s.scribes.set q {} (f (s.scribe q)) }

/-! ### Lines -/

/-- Set and tag of an address (R317). -/
def setOf (a : Nat) : Nat := a / 128 % 4096
/-- A[39:19]. -/
def tagOf (a : Nat) : Nat := a / 2 ^ 19

/-- The key of a line: set and way. -/
def lineKey (i w : Nat) : Nat := 16 * i + w

/-- Line of a set and way. -/
def State.line? (s : State) (i w : Nat) : Option CpbLine := s.cpb.lines.find? (lineKey i w)

/-- Put a line. -/
def putLine (s : State) (i w : Nat) (l : CpbLine) : State := s.modCpb fun c => { c with lines := c.lines.insert (lineKey i w) l }

/-- Drop a line. -/
def dropLine (s : State) (i w : Nat) : State := s.modCpb fun c => { c with lines := c.lines.erase (lineKey i w) }

/-- The way that holds an address, valid. -/
def hitWay (s : State) (a : Nat) : Option Nat :=
  (List.range 16).find? fun w => !s.on (CPB_WAY_SCRATCH w) && match s.line? (setOf a) w with
    | some l => l.valid && l.tag == tagOf a
    | none => false

/-- The way that holds a hole of an address (R326). -/
def holeWay (s : State) (a : Nat) : Option Nat :=
  (List.range 16).find? fun w => match s.line? (setOf a) w with
    | some l => l.hole && l.tag == tagOf a
    | none => false

/-- A way that PRELOAD is filling (R322). -/
def preloadWay (s : State) : Option Nat := match s.cpb.op with | some (4, w) => some w | _ => none

/-- A way may be replaced: neither locked nor scratch, nor named by a running PRELOAD (R320, R322). -/
def eligible (s : State) (w : Nat) : Bool := !s.on (CPB_WAY_LOCKED w) && !s.on (CPB_WAY_SCRATCH w) && preloadWay s != some w

/-- Reservations on a line that another agent than `but` loses (R315). -/
def loseResv (s : State) (a : Nat) (but : Option Nat) : State :=
  s.each (List.range 8) fun s q => s.iff ((s.scribe q).resv == some (a / 128) && but != some q) fun s => s.modScribe q fun c => { c with resv := none }

/-- Halves of a line that bytes [o, o + n) touch. -/
def halvesOf (o n : Nat) : Nat := (if o < 64 ∧ 0 < n then 1 else 0) + (if 64 < o + n then 2 else 0)

/-- The 128 bytes of a line as the Inkwell holds them, and the poison marks of its halves: those of a mask are read by requester 36, and
decoded as every read is (R291, R317). -/
def inkLine (s : State) (a mask : Nat) : List (BitVec 8) × Nat × State :=
  let b := a / 128 * 128
  let half := fun (s : State) (h : Nat) =>
    if mask.testBit h then let (o, _, s) := decodeRead (wakeInk s) 36 (b / 64 + h) .none; (if 2 ≤ o then 2 ^ h else 0, s) else (0, s)
  let (p, s) := half s 0
  let (r, s) := half s 1
  (s.bytesAt b 128, p + r, s)

/-- Write the halves of a mask to the Inkwell as whole blocks, with their marks, as requester 36 (R294, R317). -/
def storeHalves (s : State) (a mask poison : Nat) (data : List (BitVec 8)) : State :=
  s.each [0, 1] fun s h => s.iff (mask.testBit h) fun s =>
    s.inkWrite 36 (a / 128 * 128 + 64 * h) ((data.drop (64 * h)).take 64) (poison.testBit h)

/-- Present how many victims wait. -/
def refreshVictims (s : State) : State := s.set CPB_STATUS_VICTIMS s.cpb.victims.length

/-- The oldest victim's writeback is performed and its entry freed (R321). -/
def victimDone (s : State) : State :=
  match s.cpb.victims with
  | [] => s
  | v :: r => refreshVictims ((storeHalves s v.addr v.dirty v.poison v.data).modCpb fun c => { c with victims := r })

/-- The writeback of one line held in the buffer is performed. -/
def flushVictim (s : State) (a : Nat) : State :=
  let b := a / 128 * 128
  let s := s.each (s.cpb.victims.filter (·.addr == b)) fun s v => storeHalves s v.addr v.dirty v.poison v.data
  refreshVictims (s.modCpb fun c => { c with victims := c.victims.filter (·.addr != b) })

/-- The newest entry of the victim buffer for a line. -/
def victimOf (s : State) (a : Nat) : Option Victim := s.cpb.victims.reverse.find? (·.addr == a / 128 * 128)

/-- A line leaves its way: a dirty one goes to the victim buffer, once an entry is free; a clean one is dropped (R321). -/
def evict (s : State) (i w : Nat) : State :=
  match s.line? i w with
  | none => s
  | some l =>
    let a := l.tag * 2 ^ 19 + i * 128
    let s := loseResv (dropLine s i w) a none
    if l.valid = true ∧ l.dirty ≠ 0 then
      let s := if 4 ≤ s.cpb.victims.length then victimDone s else s
      refreshVictims (s.modCpb fun c => { c with victims := c.victims ++ [{ addr := a, dirty := l.dirty, poison := l.poison, data := l.data }] })
    else s

/-- Write a line's dirty halves back, after an older writeback of it that waits (R321); it stays, clean. -/
def cleanLine (s : State) (i w : Nat) : State :=
  match s.line? i w with
  | none => s
  | some l =>
    if l.valid = true ∧ l.dirty ≠ 0 then
      let a := l.tag * 2 ^ 19 + i * 128
      putLine (storeHalves (flushVictim s a) a l.dirty l.poison l.data) i w { l with dirty := 0 }
    else s

/-- The LFSR's next value (R320). -/
def lfsrNext (l : Nat) : Nat :=
  l / 2 ||| ((l ^^^ (l / 4) ^^^ (l / 8) ^^^ (l / 32)) % 2 * 2 ^ 15)

/-- The way an allocation takes in a set, emptied; none where no way is eligible (R320, R321). -/
def chooseWay (s : State) (i : Nat) : Option Nat × State :=
  let ways := (List.range 16).filter (eligible s)
  match ways.find? fun w => match s.line? i w with | some l => !l.valid | none => true with
  | some w => (some w, dropLine s i w)
  | none =>
    if ways = [] then (none, s)
    else
      let l := s.get CPB_LFSR_LFSR
      let l := lfsrNext (if l = 0 then 0xACE1 else l)
      let w := ways.getD (l % ways.length) 0
      (some w, evict (s.set CPB_LFSR_LFSR l) i w)

/-- The policy of an address (R319). -/
def policyOf (s : State) (a : Nat) : Nat :=
  let m := (List.range 16).find? fun i =>
    let z := max 16 (min 36 (s.get (CPB_REGION_SIZE i)))
    let b := s.get (CPB_REGION_BASE i) * 2 ^ 16
    s.on (CPB_REGION_EN i) && b % 2 ^ z == 0 && a / 2 ^ z == b / 2 ^ z
  match m with
  | some i => s.get (CPB_REGION_POL i)
  | none => s.get CPB_CTRL_DEFAULT

/-- How an access to a line is served. -/
inductive Served where
  /-- In way w. -/
  | inWay (w : Nat)
  /-- By block transfers, with nothing allocated. -/
  | direct
  deriving DecidableEq, Repr

/-- Bring a line to where an access is served: hit, hole, victim buffer, allocation or bypass (R319 to R321, R326). -/
def serve (s : State) (a : Nat) (allocate : Bool) : Served × State :=
  let i := setOf a
  let bypass := fun (s : State) => (Served.direct, (s.bump CPB_CNT_MISS_COUNT 1).bump CPB_CNT_MISC_BYPASS 1)
  match hitWay s a with
  | some w => (.inWay w, s.bump CPB_CNT_HIT_COUNT 1)
  | none =>
    if (holeWay s a).isSome then bypass (flushVictim s a)
    else
      match victimOf s a with
      | some v =>
        match chooseWay s i with
        | (some w, s) =>
          (.inWay w, putLine ((s.bump CPB_CNT_HIT_COUNT 1).bump CPB_CNT_MISC_VICTIM_HITS 1) i w { tag := tagOf a, valid := true, hole := false, dirty := 0, poison := v.poison, data := v.data })
        | (none, s) => bypass (flushVictim s a)
      | none =>
        if allocate then
          match chooseWay s i with
          | (some w, s) =>
            let (d, p, s) := inkLine s a 3
            (.inWay w, putLine (s.bump CPB_CNT_MISS_COUNT 1) i w { tag := tagOf a, valid := true, hole := false, dirty := 0, poison := p, data := d })
          | (none, s) => bypass s
        else (.direct, s.bump CPB_CNT_MISS_COUNT 1)

/-- Bytes of a list from an offset replaced. -/
def patch (l : List (BitVec 8)) (o : Nat) (b : List (BitVec 8)) : List (BitVec 8) := l.take o ++ b ++ l.drop (o + b.length)

/-- The line at an address as it is served: its bytes and poison halves, from its way, or read by requester 36 for n bytes. -/
def servedLine (s : State) (a n : Nat) (r : Served) : List (BitVec 8) × Nat × State :=
  match r with
  | .inWay w => match s.line? (setOf a) w with | some l => (l.data, l.poison, s) | none => ([], 0, s)
  | .direct => inkLine s a (halvesOf (a % 128) n)

/-- Read n bytes within one line: the bytes, and whether poison was met (R314, R319). -/
def cpbRead (s : State) (a n : Nat) : List (BitVec 8) × Bool × State :=
  if inkLimit ≤ a then (List.replicate n 0, true, s.addrErr 36 a)
  else
    let o := a % 128
    let (r, s) := serve s a (policyOf s a != 3)
    let (d, p, s) := servedLine s a n r
    ((d.drop o).take n, (p &&& halvesOf o n) != 0, s)

/-- Write bytes within one line, under the region's policy (R319, R294). -/
def cpbWrite (s : State) (q : Option Nat) (a : Nat) (b : List (BitVec 8)) : State :=
  if inkLimit ≤ a then s.addrErr 36 a
  else
    let o := a % 128
    let pol := policyOf s a
    let (r, s) := serve s a (pol == 0 || pol == 1)
    let s := loseResv s a q
    match r with
    | .inWay w =>
      match s.line? (setOf a) w with
      | none => s
      | some l =>
        let h := halvesOf o b.length
        let d := patch l.data o b
        if pol = 0 then putLine s (setOf a) w { l with data := d, dirty := l.dirty ||| h }
        else storeHalves (putLine (flushVictim s a) (setOf a) w { l with data := d, dirty := l.dirty ^^^ (l.dirty &&& h) }) a h l.poison d
    | .direct => s.inkWrite 36 a b false

/-- The parts of a range of bytes within its lines: an address and a length each. -/
def linesIn (a n : Nat) : List (Nat × Nat) :=
  (List.range ((a % 128 + n + 127) / 128)).map fun i =>
    let lo := max a (a / 128 * 128 + 128 * i)
    (lo, min (a + n) (a / 128 * 128 + 128 * i + 128) - lo)

/-! ### Scratch ways (R324) -/

/-- Scratch ways in force. -/
def scratchWays (s : State) : Nat := min 12 (s.get CPB_SCRATCH_COUNT)

/-- Set and way of a scratch offset. -/
def scratchAt (o : Nat) : Nat × Nat := (o / 128 % 4096, 15 - o / 2 ^ 19)

/-- A scratch line; one never written reads as zero (R324). -/
def scratchLine (s : State) (o : Nat) : CpbLine :=
  (s.line? (scratchAt o).1 (scratchAt o).2).getD { tag := 0, valid := false, hole := false, dirty := 0, poison := 0, data := List.replicate 128 0 }

/-- Read within one scratch line. -/
def scratchRead (s : State) (o n : Nat) : List (BitVec 8) × Bool :=
  let l := scratchLine s o
  ((l.data.drop (o % 128)).take n, (l.poison &&& halvesOf (o % 128) n) != 0)

/-- Write within one scratch line. -/
def scratchWrite (s : State) (q : Nat) (o : Nat) (b : List (BitVec 8)) : State :=
  let l := scratchLine s o
  putLine (loseResv s (0x1000000000 + o) (some q)) (scratchAt o).1 (scratchAt o).2 { l with data := patch l.data (o % 128) b }

/-! ### A Scribe's address space (R311 to R313, R485) -/

/-- What an address is to Scribe q. -/
inductive Place where
  | ink | scratch (o : Nat) | block | localMem (i : Nat) (isData : Bool) (o : Nat) | absent
  deriving DecidableEq, Repr

/-- The place of an address for Scribe q. -/
def placeOf (s : State) (q a : Nat) : Place :=
  if a < inkWindowEnd then .ink
  else if 0x1000000000 ≤ a ∧ a < 0x1000000000 + scratchWays s * 2 ^ 19 then .scratch (a - 0x1000000000)
  else if (blockBase a).isSome then .block
  else if 0x3000000000 ≤ a ∧ a < 0x3000010000 then .localMem q false (a - 0x3000000000)
  else if 0x3000010000 ≤ a ∧ a < 0x3000020000 then .localMem q true (a - 0x3000010000)
  else if q = 0 ∧ 0x3010000000 ≤ a ∧ a < 0x3010200000 then
    let i := (a - 0x3010000000) / 0x40000
    let o := (a - 0x3010000000) % 0x40000
    if o < 0x10000 then .localMem i false o
    else if 0x20000 ≤ o ∧ o < 0x30000 then .localMem i true (o - 0x20000)
    else .absent
  else .absent

/-- The place of n bytes from an address: an access that leaves the kind of place it began in for one that does not follow it is to
no place at all (R312, R313, R324). A local memory's data part follows its instruction part, and scratch the Inkwell window. -/
def placeOfAll (s : State) (q a n : Nat) : Place :=
  match placeOf s q a, placeOf s q (a + n - 1) with
  | .ink, .ink | .ink, .scratch _ => .ink
  | .scratch o, .scratch _ => .scratch o
  | .block, .block => .block
  | .localMem i d o, .localMem j e p => if i = j ∧ p + (if d = e then 0 else 65536) = o + n - 1 then .localMem i d o else .absent
  | _, _ => .absent

/-- The key of a byte of a local memory. -/
def localKey (i : Nat) (isData : Bool) (o : Nat) : Nat := (2 * i + (if isData then 1 else 0)) * 65536 + o

/-- A Scribe's access takes an exception (R314): no register is written, and it is taken in machine mode. -/
def trapScribe (s : State) (q cause a : Nat) : State :=
  s.modScribe q fun c => { c with trap := some (cause, a), prevUser := c.user, user := false }

/-! ### A Scribe's modes and protection (R310): the RISC-V privileged architecture (PRESUMED, assumption 123) -/

/-- mhartid of Scribe q. -/
def mhartid (q : Nat) : Nat := q

/-- mtime of every Scribe. -/
def mtime (s : State) : Nat := s.now

/-- The bytes that a PMP entry names, from the first to the one past the last; `below` is the address of the entry before it. -/
def pmpRange (below cfg addr : Nat) : Nat × Nat :=
  match cfg / 8 % 4 with
  | 0 => (0, 0)
  | 1 => (4 * below, 4 * addr)
  | 2 => (4 * addr, 4 * addr + 4)
  | _ =>
    let size := 8 * 2 ^ (((List.range 54).find? fun i => !addr.testBit i).getD 54)
    (4 * addr / size * size, 4 * addr / size * size + size)

/-- Whether PMP entries let n bytes at an address be accessed: the lowest entry that names any of them decides, by its bit 0 for a read, 1
for a write or 2 for a fetch. Machine mode is bound by locked entries alone. -/
def pmpVerdict (user : Bool) (bit a n : Nat) : Nat → List (Nat × Nat) → Bool
  | _, [] => !user
  | below, (cfg, addr) :: r =>
    let (lo, hi) := pmpRange below cfg addr
    if hi ≤ lo ∨ hi ≤ a ∨ a + n ≤ lo then pmpVerdict user bit a n addr r
    else decide (lo ≤ a) && decide (a + n ≤ hi) && (cfg.testBit bit || (!user && !cfg.testBit 7))

/-- Scribe q may access n bytes at an address, as far as its 16 PMP entries go. -/
def permits (s : State) (q bit a n : Nat) : Bool := pmpVerdict (s.scribe q).user bit a n 0 ((s.scribe q).pmp.take 16)

/-- The consumption of poison is recorded (R314). -/
def logPoison (s : State) (q a : Nat) : State :=
  let s := s.ev CPB_EVENT_POISON
  if s.on CPB_POISON_LOG_VALID then s.ev CPB_POISON_LOG_OVERRUN
  else ((s.set CPB_POISON_LOG_VALID 1).set CPB_POISON_LOG_SCRIBE q).set CPB_POISON_LOG_ADDR a

/-- An access returns a value to a Scribe. -/
def giveScribe (s : State) (q v : Nat) : State := s.modScribe q fun c => { c with value := v, trap := none }

/-- Read bytes within one line: from scratch, or through the Copybook. -/
def lineRead (s : State) (l : Nat × Nat) : List (BitVec 8) × Bool × State :=
  if 0x1000000000 ≤ l.1 then ((scratchRead s (l.1 - 0x1000000000) l.2).1, (scratchRead s (l.1 - 0x1000000000) l.2).2, s)
  else cpbRead s l.1 l.2

/-- Read n bytes of the Inkwell or scratch for Scribe q: the little-endian value, and whether poison was met. -/
def memRead (s : State) (a n : Nat) : Nat × Bool × State :=
  let r := (linesIn a n).foldl (fun (acc : List (BitVec 8) × Bool × State) (l : Nat × Nat) =>
    ((acc.1 ++ (lineRead acc.2.2 l).1), acc.2.1 || (lineRead acc.2.2 l).2.1, (lineRead acc.2.2 l).2.2)) ([], false, s)
  (leVal r.1, r.2.1, r.2.2)

/-- Write n bytes of the Inkwell or scratch for Scribe q. -/
def memWrite (s : State) (q a n v : Nat) : State :=
  let bytes := leBytes n v
  s.each (linesIn a n) fun s l =>
    let b := (bytes.drop (l.1 - a)).take l.2
    if 0x1000000000 ≤ l.1 then scratchWrite s q (l.1 - 0x1000000000) b else cpbWrite s (some q) l.1 b

/-- Read n bytes of a local memory: an uncorrectable word takes an access fault (R311). -/
def localRead (s : State) (q cause i : Nat) (isData : Bool) (o n a : Nat) (ecc : LocalEcc) : State :=
  let words := (List.range n).map fun k => localKey i isData (o + k) / 8
  let s := if ecc = .uncorrectable then s.each words fun s w => { s with localBad := s.localBad.set w false true } else s
  if words.any fun w => s.localBad.getD w false then trapScribe s q cause a
  else giveScribe s q (leVal ((List.range n).map fun k => s.locals.getD (localKey i isData (o + k)) 0))

/-- Write n bytes of a local memory; a word written whole is good again. -/
def localWrite (s : State) (i : Nat) (isData : Bool) (o n v : Nat) : State :=
  let s := s.each (List.range n) fun s k => { s with locals := s.locals.set (localKey i isData (o + k)) 0 (BitVec.ofNat 8 (v / 256 ^ k)) }
  if n = 8 ∧ o % 8 = 0 then { s with localBad := s.localBad.erase (localKey i isData o / 8) } else s

/-- A memory load of Scribe q (R311 to R314, R319, R485); a register block is served elsewhere. -/
def loadMem (s : State) (q a n : Nat) (ecc : LocalEcc) : State :=
  match placeOfAll s q a n with
  | .ink | .scratch _ =>
    let (v, p, s) := memRead s a n
    if p then trapScribe (logPoison s q a) q 5 a else giveScribe s q v
  | .localMem i d o => localRead s q 5 i d o n a ecc
  | .block | .absent => trapScribe s q 5 a

/-- A memory store of Scribe q (R312, R313, R319). -/
def storeMem (s : State) (q a n v : Nat) : State :=
  match placeOfAll s q a n with
  | .ink | .scratch _ => (memWrite s q a n v).modScribe q fun c => { c with trap := none }
  | .localMem i d o => (localWrite s i d o n v).modScribe q fun c => { c with trap := none }
  | .block | .absent => trapScribe s q 7 a

/-- SCRIBE_FETCH (R310, R311, R314): four bytes from an ILM or memory; any byte in a DLM or a register block faults. -/
def scribeFetch (q a : Nat) (ecc : LocalEcc) (s : State) : State :=
  if !permits s q 2 a 4 then trapScribe s q 1 a
  else match placeOfAll s q a 4 with
  | .ink | .scratch _ =>
    let (v, p, s) := memRead s a 4
    if p then trapScribe (logPoison s q a) q 1 a else giveScribe s q v
  | .localMem i false o => if o + 4 ≤ 65536 then localRead s q 1 i false o 4 a ecc else trapScribe s q 1 a
  | .localMem _ true _ | .block | .absent => trapScribe s q 1 a

def execScribeFetch (q : Fin 8) (addr : BitVec 40) (ecc : LocalEcc) (s : State) : Res :=
  .next (tellDiagnosis (scribeFetch q addr.toNat ecc s))

/-! ### LR, SC and AMO (R315) -/

/-- The value an atomic operation stores. -/
def amoValue (op : AmoOp) (w old v : Nat) : Nat :=
  match op with
  | .lr => old
  | .sc => v
  | .swap => v
  | .add => old + v
  | .xor => old ^^^ v
  | .and => old &&& v
  | .or => old ||| v
  | .min => if toSigned w old ≤ toSigned w v then old else v
  | .max => if toSigned w old ≤ toSigned w v then v else old
  | .minu => min old v
  | .maxu => max old v

/-- Addresses at which an atomic operation is performed: write-back and write-through regions, and scratch (R315). -/
def amoAllowed (s : State) (q a : Nat) : Bool :=
  match placeOf s q a with
  | .scratch _ => true
  | .ink => decide (a < inkLimit) && (policyOf s a == 0 || policyOf s a == 1)
  | _ => false

/-- What an atomic operation needs of the PMP: LR reads, SC writes, the others do both. -/
def amoPermitted (s : State) (q : Nat) (op : AmoOp) (a n : Nat) : Bool :=
  (op == .sc || permits s q 0 a n) && (op == .lr || permits s q 1 a n)

/-- SCRIBE_AMO (R310, R314, R315, R327): performed in the Copybook, or a store/AMO access fault. A failing SC stores nothing and
returns 1. -/
def scribeAmo (q : Nat) (op : AmoOp) (a : Nat) (wide : Bool) (v : Nat) (s : State) : State :=
  let n := if wide then 8 else 4
  let v := v % 256 ^ n
  if amoAllowed s q a = false ∨ amoPermitted s q op a n = false ∨ a % n ≠ 0 then trapScribe s q 7 a
  else if op = .sc then
    if (s.scribe q).resv = some (a / 128) then giveScribe ((memWrite s q a n v).modScribe q fun c => { c with resv := none }) q 0
    else giveScribe (s.modScribe q fun c => { c with resv := none }) q 1
  else
    let (old, p, s) := memRead s a n
    if p then trapScribe (logPoison s q a) q 7 a
    else if op = .lr then giveScribe (s.modScribe q fun c => { c with resv := some (a / 128) }) q old
    else giveScribe (memWrite s q a n (amoValue op (8 * n) old v % 256 ^ n)) q old

def execScribeAmo (q : Fin 8) (op : AmoOp) (addr : BitVec 40) (wide : Bool) (value : BitVec 64) (s : State) : Res :=
  .next (tellDiagnosis (scribeAmo q op addr.toNat wide value.toNat s))

/-- VICTIM_WRITEBACK_DONE (R321). -/
def execVictimWritebackDone (s : State) : Res := .next (victimDone s)

/-! ### Operations (R322, R323, R326, R327) -/

/-- Present the hole marks. -/
def refreshHoles (s : State) : State :=
  let s := s.each (List.range 16) fun s w =>
    s.set (CPB_WAY_HOLE w) (if s.cpb.lines.any fun e => e.1 % 16 == w && e.2.hole then 1 else 0)
  s.set CPB_STATUS_LOCKED_HOLE (if s.cpb.lines.any fun e => e.2.hole then 1 else 0)

/-- Keys of the valid cached lines in a range of lines from an address. -/
def cachedIn (s : State) (a lines : Nat) : List Nat :=
  (s.cpb.lines.filter fun e =>
    let b := e.2.tag * 2 ^ 19 + e.1 / 16 * 128
    e.2.valid && !s.on (CPB_WAY_SCRATCH (e.1 % 16)) && decide (a ≤ b) && decide (b < a + 128 * lines)).map (·.1)

/-- The victims of a range are written back. -/
def flushRange (s : State) (a lines : Nat) : State :=
  s.each (s.cpb.victims.filter fun v => decide (a ≤ v.addr) && decide (v.addr < a + 128 * lines)) fun s v => flushVictim s v.addr

/-- A line is invalidated; in a locked way it leaves a hole (R326). -/
def invalidateLine (s : State) (k : Nat) : State :=
  match s.line? (k / 16) (k % 16) with
  | none => s
  | some l =>
    let s := loseResv s (l.tag * 2 ^ 19 + k / 16 * 128) none
    if s.on (CPB_WAY_LOCKED (k % 16)) then
      (putLine s (k / 16) (k % 16) { l with valid := false, hole := true, dirty := 0, poison := 0, data := [] }).ev CPB_EVENT_LOCKED_HOLE
    else dropLine s (k / 16) (k % 16)

/-- A START that the Copybook refuses (R323). -/
def opRefused (s : State) : State := (((s.set CPB_OP_START 0).set CPB_OP_DONE 1).set CPB_OP_OK 0).ev CPB_EVENT_OP_REFUSED

/-- A START that R323 admits: no operation runs, there are lines, and all lie in the data region. -/
def opAdmits (s : State) (kind : Nat) : Bool :=
  !s.on CPB_STATUS_BUSY && s.get CPB_OP_LINES_LINES != 0 && decide (kind ≤ 4)
    && decide (s.get CPB_OP_ADDR_ADDR * 128 + s.get CPB_OP_LINES_LINES * 128 ≤ inkLimit)

/-- Start an operation: KIND takes effect; k does the work over the range. -/
def startOp (s : State) (kind : Nat) (k : State → Nat → Nat → State) : State :=
  let s := s.set CPB_OP_KIND kind
  if opAdmits s kind then
    let s := ((s.set CPB_OP_START 1).set CPB_OP_DONE 0).set CPB_OP_OK 0
    let s := (s.set CPB_STATUS_BUSY 1).modCpb fun c => { c with op := some (kind, s.get CPB_OP_WAY) }
    k s (s.get CPB_OP_ADDR_ADDR * 128) (s.get CPB_OP_LINES_LINES)
  else opRefused s

/-- WRITEBACK (R323, R327). -/
def cpbWriteback (s : State) : State :=
  startOp s 0 fun s a n => let s := flushRange s a n; s.each (cachedIn s a n) fun s k => cleanLine s (k / 16) (k % 16)

def execWriteback (s : State) : Res := .next (s.clocked cpbIsland cpbWriteback)

/-- INVALIDATE (R323, R326, R327). -/
def cpbInvalidate (s : State) : State :=
  startOp s 1 fun s a n => refreshHoles (s.each (cachedIn s a n) invalidateLine)

def execInvalidate (s : State) : Res := .next (s.clocked cpbIsland cpbInvalidate)

/-- WB_INV (R323, R326, R327). -/
def cpbWbInv (s : State) : State :=
  startOp s 2 fun s a n =>
    let s := flushRange s a n
    refreshHoles (s.each (cachedIn s a n) fun s k => invalidateLine (cleanLine s (k / 16) (k % 16)) k)

def execWbInv (s : State) : Res := .next (s.clocked cpbIsland cpbWbInv)

/-- A line that is present is zeroed in its way: dirty, and clean of poison (R323). -/
def zeroLine (s : State) (k : Nat) : State :=
  match s.line? (k / 16) (k % 16) with
  | some l => putLine s (k / 16) (k % 16) { l with dirty := 3, poison := 0, data := List.replicate 128 0 }
  | none => s

/-- Zero the memory from a to e but for the lines present, given in rising order (R323). -/
def zeroAround (s : State) (e : Nat) : Nat → List Nat → State
  | a, [] => s.inkWriteZ 36 a (e - a) [] false
  | a, p :: r => zeroAround (s.inkWriteZ 36 a (p - a) [] false) e (p + 128) r

/-- Reservations on any line of a range are lost: each line of it is written (R315). -/
def loseRange (s : State) (a lines : Nat) : State :=
  s.each (List.range 8) fun s q =>
    match (s.scribe q).resv with
    | some l => s.iff (decide (a / 128 ≤ l) && decide (l < a / 128 + lines)) fun s => s.modScribe q fun c => { c with resv := none }
    | none => s

/-- ZERO (R315, R323, R327): lines present are zeroed, clean of poison and dirty; the rest is written as zero blocks. -/
def cpbZero (s : State) : State :=
  startOp s 3 fun s a n =>
    let s := loseRange (flushRange s a n) a n
    let keys := cachedIn s a n
    let present := keys.foldl (fun (m : Store Unit) k => m.insert (((s.line? (k / 16) (k % 16)).map (·.tag)).getD 0 * 2 ^ 19 + k / 16 * 128) ()) []
    (zeroAround s (a + 128 * n) a (present.map (·.1))).each keys zeroLine

def execZero (s : State) : Res := .next (s.clocked cpbIsland cpbZero)

/-- Place a line in way w (R322). -/
def placeLine (w : Nat) (s : State) (a : Nat) : State :=
  let i := setOf a
  match hitWay s a with
  | some v =>
    if v = w then s
    else match s.line? i v with
      | some l => putLine (dropLine s i v) i w l
      | none => s
  | none =>
    let (d, p, s) := inkLine (flushVictim s a) a 3
    putLine s i w { tag := tagOf a, valid := true, hole := false, dirty := 0, poison := p, data := d }

/-- PRELOAD's own limits (R322). -/
def preloadAdmits (s : State) (w : Nat) : Bool :=
  let a := s.get CPB_OP_ADDR_ADDR * 128
  let n := s.get CPB_OP_LINES_LINES
  !s.on (CPB_WAY_SCRATCH w) && (!s.on (CPB_WAY_LOCKED w) || s.get (CPB_WAY_BASE w) == tagOf a)
    && decide (n ≤ 4096) && tagOf a == tagOf (a + 128 * n - 1)

/-- The lines of a way leave it, the dirty ones written back; reservations on them are lost (R315, R322, R324). -/
def emptyWay (s : State) (w : Nat) : State :=
  s.each ((s.cpb.lines.filter fun e => e.1 % 16 == w).map (·.1)) fun s k =>
    let s := match s.line? (k / 16) w with | some l => loseResv s (l.tag * 2 ^ 19 + k / 16 * 128) none | none => s
    dropLine (cleanLine s (k / 16) w) (k / 16) w

/-- PRELOAD (R322, R323, R327). -/
def cpbPreload (w : Nat) (s : State) : State :=
  let s := s.set CPB_OP_WAY w
  if opAdmits s 4 = true ∧ preloadAdmits s w = false then opRefused (s.set CPB_OP_KIND 4)
  else
    startOp s 4 fun s a n =>
      let s := s.modCpb fun c => { c with base := tagOf a }
      let s := if s.on (CPB_WAY_LOCKED w) then s
        else emptyWay s w
      refreshHoles (s.each ((List.range n).map fun j => a + 128 * j) (placeLine w))

def execPreload (way : Fin 16) (s : State) : Res := .next (s.clocked cpbIsland fun s => tellDiagnosis (cpbPreload way s))

/-- CPB_OP_DONE (R322, R323): every transfer of the operation has been performed; a PRELOAD locks its way. -/
def cpbOpDone (s : State) : State :=
  match s.cpb.op with
  | none => s
  | some (kind, w) =>
    let s := ((s.set CPB_STATUS_BUSY 0).modCpb fun c => { c with op := none }).set CPB_OP_START 0
    let s := ((s.set CPB_OP_DONE 1).set CPB_OP_OK 1).ev CPB_EVENT_OP_DONE
    if kind = 4 then (s.set (CPB_WAY_LOCKED w) 1).set (CPB_WAY_BASE w) s.cpb.base else s

def execCpbOpDone (s : State) : Res := .next (cpbOpDone s)

/-- UNLOCK (R322): the way is eligible again and its holes are dropped; refused while a PRELOAD of it runs. -/
def cpbUnlock (w : Nat) (s : State) : State :=
  if preloadWay s = some w then s.ev CPB_EVENT_CFG_REFUSED
  else
    let s := s.modCpb fun c => { c with lines := c.lines.filter fun e => !(e.1 % 16 == w && e.2.hole) }
    refreshHoles (s.set (CPB_WAY_LOCKED w) 0)

def execUnlock (way : Fin 16) (s : State) : Res := .next (s.clocked cpbIsland (cpbUnlock way))

/-- SCRATCH_COUNT_WRITE (R324, R327, R491). -/
def scratchCountWrite (v : Nat) (s : State) : State :=
  let new := min 12 v
  let old := scratchWays s
  let fresh := (List.range 16).filter fun w => decide (16 - new ≤ w) && decide (w < 16 - old)
  if s.on CPB_STATUS_SCRATCH_BUSY || fresh.any fun w => s.on (CPB_WAY_LOCKED w) || preloadWay s == some w then s.ev CPB_EVENT_CFG_REFUSED
  else
    let s := s.set CPB_SCRATCH_COUNT v
    let gone := (List.range 16).filter fun w => decide (16 - old ≤ w) && decide (w < 16 - new)
    let s := s.each gone fun s w =>
      (s.set (CPB_WAY_SCRATCH w) 0).modCpb fun c => { c with lines := c.lines.filter fun e => e.1 % 16 != w }
    let s := s.each fresh fun s w => (emptyWay s w).set (CPB_WAY_SCRATCH w) 1
    s.iff (!fresh.isEmpty) fun s => s.set CPB_STATUS_SCRATCH_BUSY 1

def execScratchCountWrite (value : Fin 16) (s : State) : Res := .next (s.clocked cpbIsland (scratchCountWrite value))

/-- SCRATCH_FILL_DONE (R324): the converted ways are zero. -/
def execScratchFillDone (s : State) : Res := .next (s.set CPB_STATUS_SCRATCH_BUSY 0)

/-- SRAM_ECC_ERROR (R325). -/
def sramEccError (i w half : Nat) (corrected : Bool) (s : State) : State :=
  if corrected then s.ev CPB_EVENT_SRAM_CE
  else
    let s := s.ev CPB_EVENT_SRAM_UE
    if s.on (CPB_WAY_SCRATCH w) then
      let l := scratchLine s ((15 - w) * 2 ^ 19 + i * 128)
      putLine s i w { l with poison := l.poison ||| 2 ^ half }
    else match s.line? i w with
      | some l => if l.valid then putLine s i w { l with poison := l.poison ||| 2 ^ half } else s
      | none => s

def execSramEccError (set : Fin 4096) (way : Fin 16) (half : Fin 2) (corrected : Bool) (s : State) : Res :=
  .next (sramEccError set way half corrected s)

end Sys2Proof.Machine
end

