-- ==== Sys2Proof/Machine/Mailboxes.lean ====
section
/-!
DEFINITION. Chapter 12, second part: mailboxes and seals (R328 to R337), what resets do to them, and the interrupts sent to a
host function.
-/

namespace Sys2Proof.Machine

/-- The owner code of a requester (R18, R333). -/
def codeOf : Requester → Nat
  | .scribe q => q
  | .host f => 8 + f
  | .verso => 0xA
  | .debug => 0xB

/-- What a read returned to a requester that is no Scribe. -/
def giveRead (s : State) (who v : Nat) : State := { s with returned := s.returned.set who 0 v }

/-- What a read returned to any requester. -/
def giveAny (s : State) (who : Requester) (v : Nat) : State :=
  match who with
  | .scribe q => giveScribe s q v
  | _ => giveRead s (codeOf who) v

/-! ### Mailboxes -/

/-- Ignored, with the mailbox's bit in MBX_PROTO_ERR (R328). -/
def protoErr (s : State) (m : Nat) : State := s.setBit MBX_PROTO_ERR_MASK m true

/-- The requester is the function that owns mailbox m. -/
def isOwner (s : State) (who : Requester) (m : Nat) : Bool := codeOf who == 8 + s.get (MBX_CFG_FUNC m)

/-- The requester is the Scribe that took mailbox m. -/
def isTaker (s : State) (who : Requester) (m : Nat) : Bool := s.get (MBX_STATUS_STATE m) == 2 && codeOf who == s.get (MBX_STATUS_TAKER m)

/-- Move mailbox m to a state; MBX_POSTED and MBX_DONE show it. -/
def mbxMove (s : State) (m st : Nat) : State :=
  ((s.set (MBX_STATUS_STATE m) st).setBit MBX_POSTED_MASK m (st == 1)).setBit MBX_DONE_MASK m (st == 3)

/-- Zero the request area of mailbox m. -/
def zeroRequest (s : State) (m : Nat) : State := s.each (List.range 64) fun s i => s.set (MBX_REQ_WORD m i) 0

/-- Zero the result area of mailbox m. -/
def zeroResult (s : State) (m : Nat) : State := s.each (List.range 64) fun s i => s.set (MBX_RES_WORD m i) 0

/-- Mailbox m becomes EMPTY as by ACK (R328, R331). -/
def mbxEmpty (s : State) (m : Nat) : State :=
  let s := mbxMove (zeroResult (zeroRequest s m) m) m 0
  ((((s.set (MBX_STATUS_READ_COUNT m) 0).set (MBX_STATUS_CANCEL_REQ m) 0).set (MBX_STATUS_RETAKEN m) 0).set (MBX_STATUS_ORPHAN m) 0).set (MBX_STATUS_TAKER m) 0xF

/-- MBX_REQUEST_WRITE (R328). -/
def mbxRequestWrite (who : Requester) (m word v : Nat) (s : State) : State :=
  if isOwner s who m = true ∧ s.get (MBX_STATUS_STATE m) = 0 then s.set (MBX_REQ_WORD m word) v else protoErr s m

def execMbxRequestWrite (who : Requester) (m : Fin 32) (word : Fin 64) (value : Word) (s : State) : Res :=
  .next (s.clocked hqIsland fun s => mbxRequestWrite who m word value.toNat s)

/-- MBX_RESULT_WRITE (R328, R329): READY and READ_COUNT are the device's. -/
def mbxResultWrite (who : Requester) (m word v : Nat) (s : State) : State :=
  if isTaker s who m then s.set (MBX_RES_WORD m word) (if word = 0 then v % 2 ^ 28 else v) else protoErr s m

def execMbxResultWrite (who : Requester) (m : Fin 32) (word : Fin 64) (value : Word) (s : State) : Res :=
  .next (s.clocked hqIsland fun s => mbxResultWrite who m word value.toNat s)

/-- POST (R328, R332, R438). -/
def post (who : Requester) (m : Nat) (s : State) : State :=
  if isOwner s who m = true ∧ s.get (MBX_STATUS_STATE m) = 0 then mbxMove s m 1 else protoErr s m

def execPost (who : Requester) (m : Fin 32) (s : State) : Res := .next (s.clocked hqIsland fun s => post who m s)

/-- TAKE (R328, R332): by any Scribe. -/
def take (who : Requester) (m : Nat) (s : State) : State :=
  match who with
  | .scribe q => if s.get (MBX_STATUS_STATE m) = 1 then (mbxMove s m 2).set (MBX_STATUS_TAKER m) q else protoErr s m
  | _ => protoErr s m

def execTake (who : Requester) (m : Fin 32) (s : State) : Res := .next (s.clocked hqIsland fun s => take who m s)

/-- CANCEL (R328, R332). -/
def cancel (who : Requester) (m : Nat) (s : State) : State :=
  if isOwner s who m then
    if s.get (MBX_STATUS_STATE m) = 1 then mbxMove (zeroRequest s m) m 0
    else if s.get (MBX_STATUS_STATE m) = 2 then s.set (MBX_STATUS_CANCEL_REQ m) 1
    else protoErr s m
  else protoErr s m

def execCancel (who : Requester) (m : Fin 32) (s : State) : Res := .next (s.clocked hqIsland fun s => cancel who m s)

/-- COMPLETE (R328, R330, R331, R344): the function is interrupted, or an ORPHAN mailbox empties. -/
def complete (who : Requester) (m : Nat) (s : State) : State :=
  if isTaker s who m then
    if s.on (MBX_STATUS_ORPHAN m) then mbxEmpty s m
    else
      let f := s.get (MBX_CFG_FUNC m)
      sendMsix (mbxMove s m 3) f (min 129 (s.get (HQ_MBX_VEC_VEC f)))
  else protoErr s m

def execComplete (who : Requester) (m : Fin 32) (s : State) : Res := .next (s.clocked hqIsland fun s => complete who m s)

/-- MBX_ACK (R328, R332). -/
def mbxAck (who : Requester) (m : Nat) (s : State) : State :=
  if isOwner s who m = true ∧ s.get (MBX_STATUS_STATE m) = 3 then mbxEmpty s m else protoErr s m

def execMbxAck (who : Requester) (m : Fin 32) (s : State) : Res := .next (s.clocked hqIsland fun s => mbxAck who m s)

/-- READY of mailbox m. -/
def mbxReady (s : State) (m : Nat) : Bool := s.get (MBX_STATUS_STATE m) == 3

/-- A word of the result area as a requester reads it (R329, R330): zero to the host while READY is 0. -/
def resultWord (s : State) (host : Bool) (m i : Nat) : Nat :=
  if host && !mbxReady s m then 0
  else if i = 0 then
    s.get (MBX_RES_WORD m 0) % 2 ^ 28 + s.get (MBX_STATUS_READ_COUNT m) * 2 ^ 28 + (if mbxReady s m then 2 ^ 31 else 0)
  else s.get (MBX_RES_WORD m i)

/-- RESULT_HEADER_READ (R330, R332): a host read with READY = 1 returns READ_COUNT and then counts itself. -/
def resultHeaderRead (f m : Nat) (s : State) : State :=
  let s := giveRead s (8 + f) (resultWord s true m 0)
  s.iff (mbxReady s m) fun s => s.set (MBX_STATUS_READ_COUNT m) (min 7 (s.get (MBX_STATUS_READ_COUNT m) + 1))

def execResultHeaderRead (f : Fin 2) (m : Fin 32) (s : State) : Res := .next (s.clocked hqIsland fun s => resultHeaderRead f m s)

/-- MBX_CFG_WRITE (R328, R332, R489): read-only to the host; a change of FUNC while not EMPTY refuses the write. -/
def mbxCfgWrite (who : Requester) (m v : Nat) (s : State) : State :=
  match who with
  | .host _ | .verso => s
  | _ =>
    let f := v / 16 % 2
    if f ≠ s.get (MBX_CFG_FUNC m) ∧ s.get (MBX_STATUS_STATE m) ≠ 0 then protoErr s m
    else (s.set (MBX_CFG_FUNC m) f).set (MBX_CFG_SCRIBE m) (v % 8)

def execMbxCfgWrite (who : Requester) (m : Fin 32) (value : Word) (s : State) : Res := .next (s.clocked hqIsland fun s => mbxCfgWrite who m value.toNat s)

/-! ### Seals -/

/-- Ignored, with the seal's bit in MBX_SEAL_ERR (R333). -/
def sealErr (s : State) (i : Nat) : State := s.setBit MBX_SEAL_ERR_MASK i true

/-- TAKE of seal i by owner code c (R333, R337). -/
def takeSeal (s : State) (c i : Nat) : State :=
  if s.get (MBX_SEAL_OWNER i) = 0xF then s.set (MBX_SEAL_OWNER i) c
  else if s.get (MBX_SEAL_OWNER i) = c then s
  else s.bump (MBX_SEAL_CONTEND i) 1

/-- RELEASE of seal i by owner code c (R333, R335). -/
def releaseSeal (s : State) (c i : Nat) : State :=
  if s.get (MBX_SEAL_OWNER i) = c then s.set (MBX_SEAL_OWNER i) 0xF else sealErr s i

/-- SEAL_TAKE (R333, R334, R337). -/
def sealTake (who : Requester) (i : Nat) (s : State) : State := takeSeal s (codeOf who) i

def execSealTake (who : Requester) (i : Fin 64) (s : State) : Res := .next (s.clocked hqIsland fun s => sealTake who i s)

/-- SEAL_RELEASE (R333, R335). -/
def sealRelease (who : Requester) (i : Nat) (s : State) : State := releaseSeal s (codeOf who) i

def execSealRelease (who : Requester) (i : Fin 64) (s : State) : Res := .next (s.clocked hqIsland fun s => sealRelease who i s)

/-- CLEAR_BROKEN (R333, R335). -/
def clearBroken (who : Requester) (i : Nat) (s : State) : State :=
  if s.get (MBX_SEAL_OWNER i) = codeOf who then s.set (MBX_SEAL_BROKEN i) 0 else sealErr s i

def execClearBroken (who : Requester) (i : Fin 64) (s : State) : Res := .next (s.clocked hqIsland fun s => clearBroken who i s)

/-- Every seal that owner code c holds becomes free with BROKEN = 1 (R336). -/
def breakSeals (s : State) (c : Nat) : State :=
  s.each (List.range 64) fun s i => s.iff (s.get (MBX_SEAL_OWNER i) == c) fun s =>
    ((s.set (MBX_SEAL_OWNER i) 0xF).set (MBX_SEAL_BROKEN i) 1).setBit MBX_SEAL_BROKEN_MASK i true

/-! ### Resets (R331, R336) -/

/-- Host function f is reset: its mailboxes and seals. -/
def mbxFunctionReset (s : State) (f : Nat) : State :=
  let s := s.each (List.range 32) fun s m => s.iff (s.get (MBX_CFG_FUNC m) == f) fun s =>
    match s.get (MBX_STATUS_STATE m) with
    | 1 => mbxEmpty s m
    | 2 => s.set (MBX_STATUS_ORPHAN m) 1
    | 3 => mbxEmpty s m
    | _ => s
  breakSeals s (8 + f)

/-- Scribe q is reset: the mailboxes it had taken, and its seals. -/
def mbxScribeReset (s : State) (q : Nat) : State :=
  let s := s.each (List.range 32) fun s m => s.iff (s.get (MBX_STATUS_STATE m) == 2 && s.get (MBX_STATUS_TAKER m) == q) fun s =>
    if s.on (MBX_STATUS_ORPHAN m) then mbxEmpty s m
    else (((mbxMove (zeroResult s m) m 1).set (MBX_STATUS_READ_COUNT m) 0).set (MBX_STATUS_RETAKEN m) 1).set (MBX_STATUS_TAKER m) 0xF
  breakSeals s q

end Sys2Proof.Machine
end

