-- ==== Sys2Proof/Machine/Ledger.lean ====
section
/-!
DEFINITION. Chapter 14: the ledger's structures, the walker's lookups and the swap; what Scribe 5 does with them: overlays,
commits, binds and slow lookups.
-/

namespace Sys2Proof.Machine

/-- Change the ledger's hidden state. -/
def State.modLdg (s : State) (f : Ledger → Ledger) : State := { s with ledger := f s.ledger }

/-! ### Words of the structures (R358 to R360) -/

/-- A little-endian value read through the Copybook, without its effects. -/
def viewLe (s : State) (a n : Nat) : Nat := (memRead s a n).1

/-- Bits lo to lo + w - 1 of a word. -/
def field (v lo w : Nat) : Nat := v / 2 ^ lo % 2 ^ w

/-- First LBA of a run entry. -/
def runLba (w0 : Nat) : Nat := field w0 0 40
/-- LBA count of a run entry. -/
def runCount (w1 : Nat) : Nat := field w1 48 16 + 1
/-- TYPE of a run entry. -/
def runType (w0 : Nat) : Nat := field w0 60 4
/-- COUNT of a directory word. -/
def dirCount (w : Nat) : Nat := field w 43 19
/-- Block address of a directory word. -/
def dirBlock (w : Nat) : Nat := field w 0 34 * 64
/-- BUILT of a COMMITTED word. -/
def dirBuilt (w : Nat) : Bool := w.testBit 63
/-- A directory word. -/
def dirWord (built : Bool) (count addr : Nat) : Nat := (if built then 2 ^ 63 else 0) + count % 2 ^ 19 * 2 ^ 43 + addr / 64 % 2 ^ 34

/-- LBAs of a span (R359). -/
abbrev spanLbas : Nat := 262144

/-- The namespace entry's address (R358). -/
def nsEntry (s : State) (nsid : Nat) : Nat := s.get LDG_BASE_BASE * 2 ^ 30 + 64 * (nsid - 1)

/-- The directory entry's address of a span (R359). -/
def dirEntry (s : State) (nsid span : Nat) : Nat := viewLe s (nsEntry s nsid + 8) 8 + 16 * span

/-- An UNMAPPED run entry. -/
def unmappedEntry (nsid lba count : Nat) : Nat × Nat :=
  (2 * 2 ^ 60 + (nsid - 1) % 64 * 2 ^ 40 + lba % 2 ^ 40, (count - 1) % 2 ^ 16 * 2 ^ 48)

/-- An INKWELL run entry. -/
def inkwellEntry (nsid lba count addr : Nat) : Nat × Nat :=
  (2 ^ 60 + (nsid - 1) % 64 * 2 ^ 40 + lba % 2 ^ 40, (count - 1) % 2 ^ 16 * 2 ^ 48 + addr % 2 ^ 40 / 4096 * 4096)

/-- A MEDIA run entry. -/
def mediaEntry (r : MRun) : Nat × Nat :=
  (r.folio % 1024 * 2 ^ 50 + r.cw % 16 * 2 ^ 46 + (r.nsid - 1) % 64 * 2 ^ 40 + r.lba % 2 ^ 40,
   (r.count - 1) % 2 ^ 16 * 2 ^ 48 + r.disc % 512 * 2 ^ 32 + r.pfa % 2 ^ 32 / 64 * 64 + r.gap % 32)

/-! ### The walker (R363 to R365) -/

/-- The four run entries of a 64-byte group of a block, and whether poison was met: through the Copybook, or directly as
requester 34 for a bulk block (R365). -/
def readGroup (s : State) (a : Nat) (bulk : Bool) : List (Nat × Nat) × Bool × State :=
  if bulk then
    if inkLimit ≤ a then ([], true, s.addrErr 34 a)
    else let (p, s) := s.inkRead 34 a 64; ((List.range 4).map fun i => (s.le (a + 16 * i) 8, s.le (a + 16 * i + 8) 8), p, s)
  else
    let (v, p, s) := memRead s a 64
    ((List.range 4).map fun i => (field v (128 * i) 64, field v (128 * i + 64) 64), p, s)

/-- What the search of a block finds for an LBA: the last run that starts at or below it, and where the next run starts. -/
structure Probe where
  cand : Option (Nat × Nat)
  next : Option Nat
  poison : Bool
  deriving DecidableEq, Repr

/-- The last group in [lo, hi) whose first entry starts at or below an LBA; group lo is known to. -/
def findGroup (base lba : Nat) (bulk : Bool) : Nat → State → Nat → Nat → Nat × Bool × State
  | 0, s, lo, _ => (lo, false, s)
  | fuel + 1, s, lo, hi =>
    if hi ≤ lo + 1 then (lo, false, s)
    else
      let mid := (lo + hi) / 2
      let (g, p, s) := readGroup s (base + 64 * mid) bulk
      if p then (lo, true, s)
      else if runLba (g.headD (0, 0)).1 ≤ lba then findGroup base lba bulk fuel s mid hi
      else findGroup base lba bulk fuel s lo mid

/-- Search a block of run entries for an LBA. -/
def searchBlock (s : State) (base count lba : Nat) (bulk : Bool) : Probe × State :=
  if count = 0 then ({ cand := none, next := none, poison := false }, s)
  else
    let groups := (count + 3) / 4
    let (g, p, s) := readGroup s base bulk
    if p then ({ cand := none, next := none, poison := true }, s)
    else if lba < runLba (g.headD (0, 0)).1 then ({ cand := none, next := some (runLba (g.headD (0, 0)).1), poison := false }, s)
    else
      let (k, p, s) := findGroup base lba bulk 20 s 0 groups
      if p then ({ cand := none, next := none, poison := true }, s)
      else
        let (g, p, s) := readGroup s (base + 64 * k) bulk
        if p then ({ cand := none, next := none, poison := true }, s)
        else
          let g := g.take (count - 4 * k)
          let here := g.filter fun e => decide (runLba e.1 ≤ lba)
          match (g.find? fun e => decide (lba < runLba e.1)) with
          | some e => ({ cand := here.getLast?, next := some (runLba e.1), poison := false }, s)
          | none =>
            if k + 1 < groups then
              let (h, p, s) := readGroup s (base + 64 * (k + 1)) bulk
              ({ cand := here.getLast?, next := some (runLba (h.headD (0, 0)).1), poison := p }, s)
            else ({ cand := here.getLast?, next := none, poison := false }, s)

/-- A run entry covers an LBA. -/
def coversLba (e : Nat × Nat) (lba : Nat) : Bool := decide (runLba e.1 ≤ lba) && decide (lba < runLba e.1 + runCount e.2)

/-- What the walker reports of one LBA (R363): a run entry or an UNMAPPED gap, with the first LBA after those it speaks for. -/
inductive Found where
  | run (e : Nat × Nat) (upTo : Nat)
  | gap (upTo : Nat)
  | slow | range | fault
  deriving DecidableEq, Repr

/-- The least of some LBAs. -/
def earliest (l : List (Option Nat)) (d : Nat) : Nat := l.foldl (fun m o => match o with | some x => min m x | none => m) d

/-- The bulk of a span is searched once its merged block has no entry for the LBA: a run, or a gap up to the next entry, the
namespace's end or the span's (R363, R365). -/
def bulkSearch (s : State) (size w0 lba : Nat) (next : Option Nat) : Found × State :=
  let c := searchBlock s (dirBlock w0) (dirCount w0) lba (decide (s.get LDG_CTRL_BULK_MIN ≤ dirCount w0))
  if c.1.poison then (.fault, c.2)
  else
    match c.1.cand.filter fun e => coversLba e lba with
    | some e => (.run e (earliest [next] (runLba e.1 + runCount e.2)), c.2)
    | none => (.gap (earliest [next, c.1.next] (min size (spanLbas * (lba / spanLbas + 1)))), c.2)

/-- The overlay of a span is searched first, then its bulk if it is built (R363, R365). -/
def spanSearch (s : State) (size w0 w1 lba : Nat) : Found × State :=
  let o := searchBlock s (dirBlock w1) (dirCount w1) lba false
  if o.1.poison then (.fault, o.2)
  else
    match o.1.cand.filter fun e => coversLba e lba with
    | some e => (.run e (runLba e.1 + runCount e.2), o.2)
    | none => if dirBuilt w0 then bulkSearch o.2 size w0 lba o.1.next else (.slow, o.2)

/-- Resolve one LBA (R363, R365). -/
def resolve (s : State) (nsid lba : Nat) : Found × State :=
  if nsid = 0 ∨ 64 < nsid then (.range, s)
  else
    let v := memRead s (nsEntry s nsid) 24
    if v.2.1 then (.fault, v.2.2)
    else if (field v.1 128 1 = 0 ∨ field v.1 0 64 ≤ lba) then (.range, v.2.2)
    else
      let d := memRead v.2.2 (field v.1 64 64 + 16 * (lba / spanLbas)) 16
      if d.2.1 then (.fault, d.2.2)
      else spanSearch d.2.2 (field v.1 0 64) (field d.1 0 64) (field d.1 64 64) lba

/-- Walk a range of LBAs, at most three extents (R364): extents, status, and the first LBA not covered. -/
def walk (nsid upTo : Nat) : Nat → State → Nat → List (Nat × Nat) × Nat × Nat × State
  | 0, s, lba => ([], 0, lba, s)
  | fuel + 1, s, lba =>
    if upTo ≤ lba then ([], 0, lba, s)
    else
      let (f, s) := resolve s nsid lba
      match f with
      | .run e n =>
        let (l, st, last, s) := walk nsid upTo fuel s (min upTo n)
        (e :: l, st, last, s)
      | .gap n =>
        let m := min upTo (min n (lba + 65536))
        let (l, st, last, s) := walk nsid upTo fuel s m
        (unmappedEntry nsid lba (m - lba) :: l, st, last, s)
      | .range => ([], 1, lba, s)
      | .slow => ([], 2, lba, s)
      | .fault => ([], 3, lba, s)

/-- A fourth LBA range is only asked for its status: a response that ends by SLOW, RANGE or FAULT right after its third extent
names it. -/
def lookupRange (s : State) (nsid lba count : Nat) : List (Nat × Nat) × Nat × Nat × State :=
  let (l, st, last, s) := walk nsid (lba + count) 3 s lba
  if st = 0 ∧ last < lba + count then
    match resolve s nsid last with
    | (.range, s) => (l, 1, last, s)
    | (.slow, s) => (l, 2, last, s)
    | (.fault, s) => (l, 3, last, s)
    | (_, _) => (l, 0, last, s)
  else (l, st, last, s)

/-- Slots of ring q (LDG_Qq_CFG). -/
def ringSize (s : State) (q : Nat) : Nat := 2 ^ min 12 (max 4 (s.get (LDG_Q_CFG_SIZE q)))

/-- The walker writes through the Copybook. -/
def walkerWrite (s : State) (a : Nat) (b : List (BitVec 8)) : State :=
  s.each (linesIn a b.length) fun s l => cpbWrite s none l.1 ((b.drop (l.1 - a)).take l.2)

/-- The ring served next: the first after the last one that is enabled and holds a request. -/
def nextRing (s : State) : Option Nat :=
  ((List.range 8).map fun i => (s.ledger.ring + 1 + i) % 8).find? fun q =>
    s.on (LDG_Q_CFG_EN q) && s.get (LDG_Q_HEAD_HEAD q) != s.get (LDG_Q_TAIL_TAIL q)

/-- A span's build-order key: 2^32 × namespace + span. -/
def spanKey (nsid span : Nat) : Nat := nsid * 2 ^ 32 + span

/-- A span whose blocks gave a FAULT is to be rebuilt from the Colophon records (R365, R380). -/
def askRebuild (s : State) (nsid lba : Nat) : State :=
  let k := spanKey nsid (lba / spanLbas)
  if s.ledger.rebuild.contains k then s else s.modLdg fun l => { l with rebuild := l.rebuild ++ [k] }

/-- LOOKUP (R358 to R360, R363 to R366, R380): the next request is answered in its slot. -/
def lookup (s : State) : State :=
  if s.on LDG_CTRL_ENABLE then
    match nextRing s with
    | none => s
    | some q =>
      let s := s.modLdg fun l => { l with ring := q }
      let t := s.get (LDG_Q_TAIL_TAIL q)
      let a := s.get (LDG_Q_BASE_BASE q) * 4096 + 64 * (t % ringSize s q)
      let (req, p, s) := memRead s a 64
      let lba := field req 64 40
      let count := field req 112 16 + 1
      let (ext, st, last, s) := if p then ([], 3, lba, s) else lookupRange s (field req 32 8) lba count
      let s := walkerWrite s a (leBytes 4 (field req 0 32) ++ [BitVec.ofNat 8 st, BitVec.ofNat 8 ext.length, if last < lba + count then 1 else 0, 0]
        ++ leBytes 8 last ++ ((ext ++ List.replicate (3 - ext.length) (0, 0)).flatMap fun (e : Nat × Nat) => leBytes 8 e.1 ++ leBytes 8 e.2))
      let s := (s.set (LDG_Q_TAIL_TAIL q) (t + 1)).setBit LDG_EVENT_RESP q true
      let s := s.bump LDG_CNT_LOOKUP_LOOKUPS 1
      let s := s.iff (st == 2) fun s => s.bump LDG_CNT_EXC_SLOWS 1
      s.iff (st == 3) fun s => ((s.bump LDG_CNT_EXC_FAULTS 1).ev LDG_EVENT_FAULT).iff (!p) fun s => askRebuild s (field req 32 8) last
  else s

def execLookup (s : State) : Res := .next (tellDiagnosis (lookup s))

/-- LDG_SWAP (R359, R366, R380): both words of the entry in one cycle; refused outside the Inkwell window. Between lookups the
oldest one in progress is none, and LDG_OLDEST shows the count of swaps. -/
def ldgSwap (s : State) : State :=
  let a := s.get LDG_SWAP_ADDR_ADDR * 16
  let s := ((s.set LDG_SWAP_CTRL_START 0).set LDG_SWAP_CTRL_DONE 1).ev LDG_EVENT_SWAP_DONE
  if a < inkLimit then
    let s := cpbWrite s none a (leBytes 8 (s.get LDG_SWAP_W0_WORD) ++ leBytes 8 (s.get LDG_SWAP_W1_WORD))
    let s := (s.wrap LDG_SWAP_SEQ_SEQ 1).set LDG_SWAP_CTRL_OK 1
    s.set LDG_OLDEST_SEQ (s.get LDG_SWAP_SEQ_SEQ)
  else (s.set LDG_SWAP_CTRL_OK 0).ev LDG_EVENT_SWAP_REFUSED

def execLdgSwap (s : State) : Res := .next (s.clocked cpbIsland fun s => ldgSwap s)

/-- Scribe 5 swaps both words of a directory entry (R366). -/
def swapEntry (s : State) (a w0 w1 : Nat) : State :=
  ldgSwap (((s.set LDG_SWAP_ADDR_ADDR (a / 16)).set LDG_SWAP_W0_WORD w0).set LDG_SWAP_W1_WORD w1)

/-- Scribe 5 writes a block and writes it back (R361). -/
def writeBlock (s : State) (a : Nat) (l : List (Nat × Nat)) : State :=
  let b := l.flatMap fun (e : Nat × Nat) => leBytes 8 e.1 ++ leBytes 8 e.2
  let s := walkerWrite s a b
  s.each (cachedIn s (a / 128 * 128) ((a + b.length - a / 128 * 128 + 127) / 128)) fun s k => cleanLine s (k / 16) (k % 16)

/-- The run entries of a block. -/
def readBlock (s : State) (a count : Nat) : List (Nat × Nat) :=
  (List.range count).map fun i => (viewLe s (a + 16 * i) 8, viewLe s (a + 16 * i + 8) 8)

/-! ### Lists of runs -/

/-- The parts of a run [lo, lo + n) that a range [a, a + m) leaves, as offset and length. -/
def leftOver (lo n a m : Nat) : List (Nat × Nat) :=
  (if lo < a then [(0, min n (a - lo))] else []) ++
    (if a + m < lo + n then [(max lo (a + m) - lo, lo + n - max lo (a + m))] else [])

/-- An overlay run: where its data lies, none for UNMAPPED. -/
structure ORun where
  lba : Nat
  count : Nat
  addr : Option Nat
  deriving DecidableEq, Repr

/-- Part of an overlay run. -/
def ORun.cut (r : ORun) (k n : Nat) : ORun := { lba := r.lba + k, count := n, addr := r.addr.map fun a => a + 4096 * k }

/-- Take a range of LBAs out of overlay runs. -/
def ocut (l : List ORun) (a m : Nat) : List ORun := l.flatMap fun r => (leftOver r.lba r.count a m).map fun p => r.cut p.1 p.2

/-- Put a run among sorted overlay runs, over whatever it covers. -/
def oput (l : List ORun) (r : ORun) : List ORun :=
  let l := ocut l r.lba r.count
  (l.filter fun x => decide (x.lba < r.lba)) ++ [r] ++ l.filter fun x => decide (r.lba ≤ x.lba)

/-- An overlay run entry. -/
def ORun.entry (nsid : Nat) (r : ORun) : Nat × Nat :=
  match r.addr with
  | some a => inkwellEntry nsid r.lba r.count a
  | none => unmappedEntry nsid r.lba r.count

/-- The overlay runs of a span. -/
def overlayOf (s : State) (nsid span : Nat) : List ORun :=
  let w := viewLe s (dirEntry s nsid span + 8) 8
  (readBlock s (dirBlock w) (dirCount w)).map fun e =>
    { lba := runLba e.1, count := runCount e.2, addr := if runType e.1 = 1 then some (field e.2 12 28 * 4096) else none }

/-- A new overlay for a span: the block is built at an address, and swapped in (R361, R366, R376). -/
def putOverlay (s : State) (nsid span at_ : Nat) (l : List ORun) : State :=
  let e := dirEntry s nsid span
  let s := writeBlock s at_ (l.map (ORun.entry nsid))
  swapEntry s e (viewLe s e 8) (dirWord false l.length at_)

/-- M of ruling track b (R31): BX1's radii are the format's. -/
def periodsOf (bx2 : Bool) (b : Nat) : Nat := if bx2 then (1628 * (48000 + 17 * b) + 58000) / 116000 else Config.bx1Periods b

/-- The next position of a position sequence (R119). -/
def nextPosition (bx2 : Bool) (p : Nat × Nat) : Nat × Nat :=
  if p.2 + 1 < positions (periodsOf bx2 p.1) then (p.1, p.2 + 1) else (p.1 + 1, 0)

/-- Some positions on. -/
def positionsOn (bx2 : Bool) : Nat → Nat × Nat → Nat × Nat
  | 0, p => p
  | k + 1, p => positionsOn bx2 k (nextPosition bx2 p)

/-- The PFA of the folio k folios after folio f of a quire, which lies at pfa (R118, R119); past folio 1,023 the next quire follows, gap
positions on (R362). -/
def folioOn (bx2 : Bool) (d gap f pfa k : Nat) : Nat :=
  let d := max 1 d
  let g := (f + k) % 1024
  let p := positionsOn bx2 ((f + k) / 1024 * ((1023 + d) / d + gap) + g / d - f / d) (field pfa 15 12, field pfa 6 5)
  field pfa 31 1 * 2 ^ 31 + field pfa 27 4 * 2 ^ 27 + p.1 % 4096 * 2 ^ 15 + g % d * 2 ^ 11 + p.2 % 32 * 2 ^ 6

/-- Part of a run: dropping LBAs at its start moves its codeword, folio and PFA on (R360, R362). -/
def MRun.cut (r : MRun) (k n : Nat) : MRun :=
  if r.unmap then { r with lba := r.lba + k, count := n }
  else
    let c := r.cw + k
    { r with lba := r.lba + k, count := n, folio := (r.folio + c / 16) % 1024, cw := c % 16, pfa := if c / 16 = 0 then r.pfa else folioOn r.bx2 r.nibs r.gap r.folio r.pfa (c / 16) }

/-- Take a range of a namespace's LBAs out of runs. -/
def mcut (l : List MRun) (nsid a m : Nat) : List MRun :=
  l.flatMap fun r => if r.nsid = nsid then (leftOver r.lba r.count a m).map fun p => r.cut p.1 p.2 else [r]

/-- Put a run among sorted runs, over whatever it covers. -/
def mput (l : List MRun) (r : MRun) : List MRun :=
  let l := mcut l r.nsid r.lba r.count
  (l.filter fun x => decide (x.lba < r.lba)) ++ [r] ++ l.filter fun x => decide (r.lba ≤ x.lba)

/-- The part of runs that lies in a range of a namespace. -/
def mclip (l : List MRun) (nsid a m : Nat) : List MRun :=
  l.filterMap fun r =>
    let lo := max r.lba a
    let hi := min (r.lba + r.count) (a + m)
    if r.nsid = nsid ∧ lo < hi then some (r.cut (lo - r.lba) (hi - lo)) else none

/-- The precedence of R368: run a yields to run b. -/
def yields (a b : MRun) : Bool :=
  if a.side = b.side then decide (a.seq < b.seq)
  else decide (a.stamp < b.stamp) || (a.stamp == b.stamp && decide (a.node < b.node))

/-- Insert a run after every run that yields to it. -/
def insertRun (r : MRun) : List MRun → List MRun
  | [] => [r]
  | x :: l => if yields r x then r :: x :: l else x :: insertRun r l

/-- Runs in rising precedence. -/
def byPrecedence (l : List MRun) : List MRun := l.foldl (fun acc r => insertRun r acc) []

/-- Old runs with others put over them in rising precedence; unmappings leave their LBAs UNMAPPED. -/
def merge (old new : List MRun) : List MRun := ((byPrecedence new).foldl mput old).filter fun r => !r.unmap

/-- The spans a range of LBAs touches. -/
def spansOf (lba count : Nat) : List Nat :=
  if count = 0 then [] else (List.range ((lba + count - 1) / spanLbas - lba / spanLbas + 1)).map (lba / spanLbas + ·)

/-- Insert a key in rising order, once. -/
def addKey (k : Nat) : List Nat → List Nat
  | [] => [k]
  | x :: l => if k < x then k :: x :: l else if k = x then x :: l else x :: addKey k l

/-- The spans that runs touch: namespace and span, each once, in ascending order. -/
def touched (l : List MRun) : List (Nat × Nat) :=
  ((l.flatMap fun r => (spansOf r.lba r.count).map fun k => r.nsid * 2 ^ 32 + k).foldl (fun acc k => addKey k acc) []).map
    fun k => (k / 2 ^ 32, k % 2 ^ 32)

/-- The media generation and nibs of a disc's runs. -/
def discGeom (s : State) (d : Nat) : Bool := match s.ledger.discs.find? d with | some x => x.bx2 | none => true

/-- Some bytes of the ledger's structures meet poison as they are read. -/
def viewBad (s : State) (a n : Nat) : Bool := (memRead s a n).2.1

/-- The committed runs of a span, but those on a disc that is leaving; of a directory entry or a block that meets poison, none (R365). -/
def committedOf (s : State) (nsid span : Nat) : List MRun :=
  let w := viewLe s (dirEntry s nsid span) 8
  let bad := viewBad s (dirEntry s nsid span) 16 || viewBad s (dirBlock w) (16 * dirCount w)
  let l : List MRun := (if bad then [] else readBlock s (dirBlock w) (dirCount w)).map fun e =>
    let d := field e.2 32 9
    { nsid := nsid, lba := runLba e.1, count := runCount e.2, disc := d, folio := field e.1 50 10, cw := field e.1 46 4, pfa := field e.2 6 26 * 64, gap := field e.2 0 5, nibs := if discGeom s d then 16 else 8, bx2 := discGeom s d, side := 2 * d + field e.2 31 1 }
  l.filter fun r => match s.ledger.discs.find? r.disc with | some x => !x.leaving | none => true

/-- The span's entry shows BUILT. -/
def isBuilt (s : State) (nsid span : Nat) : Bool := dirBuilt (viewLe s (dirEntry s nsid span) 8)

/-! ### Quires and commits (R376, R368) -/

/-- The part of a quire's run that no run of a later command in any quire covers. -/
def stillLatest (s : State) (r : QRun) : List ORun :=
  let later := (s.ledger.quires.flatMap fun e => e.2.runs).filter fun x => x.nsid == r.nsid && decide (r.adm < x.adm)
  later.foldl (fun l x => ocut l x.lba x.count) [{ lba := r.lba, count := r.count, addr := r.addr }]

/-- The overlay of a span without the runs of quires that are committed (R376). -/
def overlayLeft (s : State) (nsid span : Nat) : List ORun :=
  let gone := ((s.ledger.quires.filter fun e => e.2.committed).flatMap fun e => e.2.runs).filter fun r => r.nsid == nsid
  (gone.flatMap (stillLatest s)).foldl (fun l x => ocut l x.lba x.count) (overlayOf s nsid span)

/-- Run a of one or more quires and run b as one, where b goes on from a's last codeword on the same layer, gap positions on (R360, R362):
a ends a full quire, and b begins with one. -/
def joinTwo (a b : MRun) : Option MRun :=
  let last := 16 * a.folio + a.cw + a.count
  if !a.unmap && !b.unmap && a.nsid == b.nsid && a.disc == b.disc && a.nibs == b.nibs && b.lba == a.lba + a.count && last % 16384 == 0
      && b.folio == 0 && b.cw == 0 && decide (16384 ≤ b.count) && decide (a.cw + a.count + b.count ≤ 65536) then
    ((List.range 32).find? fun g => (decide (last ≤ 16384) || g == a.gap) && (decide (b.count ≤ 16384) || g == b.gap)
      && folioOn a.bx2 a.nibs g a.folio a.pfa (last / 16 - a.folio) == b.pfa).map fun g => { a with count := a.count + b.count, gap := g }
  else none

/-- Runs that go on into each other joined. -/
def joinRuns (l : List MRun) : List MRun :=
  l.foldr (fun a acc => match acc with
    | [] => [a]
    | b :: r => match joinTwo a b with | some c => c :: r | none => a :: b :: r) []

/-- Build a span's committed and overlay blocks at an address, the overlay after the committed one, and swap both in. -/
def buildSpan (s : State) (nsid span at_ : Nat) (merged : List MRun) : State :=
  let runs := joinRuns merged
  let ov := overlayLeft s nsid span
  let e := dirEntry s nsid span
  let o := (at_ + 16 * runs.length + 63) / 64 * 64
  let s := writeBlock (writeBlock s at_ (runs.map mediaEntry)) o (ov.map (ORun.entry nsid))
  swapEntry s e (dirWord true runs.length at_) (dirWord false ov.length o)

/-- The relocated folios of a Colophon record: folio index and new PFA (R123). -/
def relocations (s : State) (a : Nat) : List (Nat × Nat) :=
  (List.range (min 480 (s.le (a + 0x34) 2))).map fun i => (s.le (a + 0xF000 + 8 * i) 2, s.le (a + 0xF004 + 8 * i) 4)

/-- A run broken at the relocated folios. -/
def relocate (l : List (Nat × Nat)) (r : MRun) : List MRun :=
  l.foldl (fun acc e => acc.flatMap fun x =>
    let c := 16 * x.folio + x.cw
    let lo := max c (16 * e.1)
    let hi := min (c + x.count) (16 * e.1 + 16)
    if x.unmap = false ∧ lo < hi then
      (if c < lo then [x.cut 0 (lo - c)] else []) ++ [{ x.cut (lo - c) (hi - lo) with pfa := e.2 }]
        ++ (if hi < c + x.count then [x.cut (hi - c) (c + x.count - hi)] else [])
    else [x]) [r]

/-- The runs of a Colophon record in the Inkwell (R122, R123, R368); bx2 and nibs are those of the pen that burned it. -/
def colophonRuns (s : State) (a disc nibs : Nat) (bx2 : Bool) : List MRun :=
  let pfa := s.le (a + 0x2C) 4
  (List.range (min 3824 (s.le (a + 0x32) 2))).flatMap fun i =>
    let e := a + 0x100 + 16 * i
    let c := s.le (e + 10) 2
    let base : MRun :=
      { nsid := s.le (e + 12) 1, lba := s.le e 8, count := s.le (e + 8) 2, unmap := decide (c = 0xFFFF), disc := disc, nibs := nibs, bx2 := bx2, stamp := s.le (a + 0x40) 8, node := s.le (a + 0x20) 2, side := 2 * disc + field pfa 31 1, seq := s.le (a + 8) 8, pfa := pfa }
    if base.unmap then [base]
    else relocate (relocations s a) { base with folio := c / 16, cw := c % 16, pfa := folioOn bx2 nibs 0 0 pfa (c / 16) }

/-- The header of a Colophon record in the Inkwell. -/
def colHead (s : State) (a : Nat) : ColHead :=
  { flags := s.le (a + 6) 2, seq := s.le (a + 8) 8, quire := s.le (a + 0x10) 8, node := s.le (a + 0x20) 2, epoch := s.le (a + 0x24) 4,
    time := s.le (a + 0x38) 8, stamp := s.le (a + 0x40) 8 }

/-- A Colophon record of disc `id`, as its layout says (R122, R123). DEDUCED (assumption 103): a block of 64 KiB whose magic, version,
disc ID or counts are not a record's is no record of that disc. -/
def recordForm (s : State) (a id : Nat) : Bool :=
  s.le a 4 == 0x7C0F0A01 && s.le (a + 4) 2 == 1 && s.le (a + 0x18) 8 == id
    && decide (1 ≤ s.le (a + 0x30) 2) && decide (s.le (a + 0x30) 2 ≤ 1024) && decide (s.le (a + 0x32) 2 ≤ 3824) && decide (s.le (a + 0x34) 2 ≤ 480)

/-- The copy of a Colophon that was read to an address counts at rebuild: its sixteen codewords were delivered, none being marked poison,
and its record's CRC-64 is correct (R149, R494). -/
def copyCounts (s : State) (a id : Nat) : Bool :=
  recordForm s a id && !s.anyPoison a 65536 && s.le (a + 0xFFF8) 8 == crc64 (s.bytesAt a 0xFFF8)

/-- Committed quires none of whose spans is being rebuilt are freed (R376, R380). -/
def freeQuires (s : State) : State :=
  s.modLdg fun l => { l with quires := l.quires.filter fun e =>
    !e.2.committed || (e.2.runs.any fun r => (spansOf r.lba r.count).any fun k => !isBuilt s r.nsid k) }

/-- The disc is leaving: unbinding runs BUILD without it (R370). -/
def isLeaving (s : State) (d : Nat) : Bool := match s.ledger.discs.find? d with | some x => x.leaving | none => false

/-- Every run that Scribe 5 knows: of quires committed here, and of discs in some states; none on a disc that is leaving. -/
def runsIn (s : State) (p : BindState → Bool) : List MRun :=
  (s.ledger.applied.filter fun r => !isLeaving s r.disc) ++ (s.ledger.discs.filter fun e => p e.2.phase && !e.2.leaving).flatMap fun e => e.2.runs

/-- The runs that a build merges: of discs past SORT. -/
def knownRuns (s : State) : List MRun := runsIn s fun p => p == .build || p == .ready

/-- The committed block of a span with every known run put over it by precedence (R124, R368). -/
def mergedSpan (s : State) (nsid span : Nat) : List MRun :=
  merge (committedOf s nsid span) (mclip (knownRuns s) nsid (span * spanLbas) spanLbas)

/-- The spans that a commit of runs swaps: those touched that are not being rebuilt (R376, R380). -/
def commitSpans (s : State) (runs : List MRun) : List (Nat × Nat) := (touched runs).filter fun e => isBuilt s e.1 e.2

/-- The commit counter after one more Colophon of this node: above what it was, and not below the record's own stamp of the current epoch
(R368). -/
def counterAfter (s : State) (h : ColHead) : Nat :=
  max (s.ledger.counter + 1) (if h.stamp / 2 ^ 32 = s.get VRS_EPOCH_EPOCH then h.stamp % 2 ^ 32 else 0)

/-- A quire's Colophon has completed OK: its runs go into the committed blocks by their precedence, one swap for each touched span
that is not being rebuilt (R124, R376, R380). -/
def commitQuire (s : State) (q : Nat) (head : ColHead) (runs : List MRun) (blocks : List Nat) : State :=
  match s.ledger.quires.find? q with
  | none => s
  | some x =>
    let s := s.modLdg fun l =>
      { l with
        quires := l.quires.insert q { x with committed := true, isOpen := false }
        applied := l.applied ++ runs
        head := some head
        counter := counterAfter s head }
    freeQuires (s.each ((commitSpans s runs).zip blocks) fun s e => buildSpan s e.1.1 e.1.2 e.2 (mergedSpan s e.1.1 e.1.2))

/-! ### Binding (R368 to R372) -/

/-- Disc d, bound or in a bind. -/
def disc? (s : State) (d : Nat) : Option Disc := s.ledger.discs.find? d

/-- Change disc d. -/
def modDisc (s : State) (d : Nat) (f : Disc → Disc) : State :=
  s.modLdg fun l => match l.discs.find? d with | some x => { l with discs := l.discs.insert d (f x) } | none => l

/-- Refuse a bind and report why: no span changes state (R25, R369, R380). -/
def refuseBind (s : State) (d : Nat) (why : BindRefusal) : State :=
  s.modLdg fun l => { l with bindRefused := some (d, why), discs := l.discs.erase d }

/-- Mark spans BUILT = 0, keeping their blocks (R370). -/
def markSpans (s : State) (l : List (Nat × Nat)) : State :=
  s.each l fun s e =>
    let a := dirEntry s e.1 e.2
    swapEntry s a (viewLe s a 8 % 2 ^ 63) (viewLe s (a + 8) 8)

/-- Spans as build-order keys. -/
def spanKeys (l : List (Nat × Nat)) : List Nat := l.map fun e => spanKey e.1 e.2

/-- The node's commit counter rises above the highest counter found on the disc under the current epoch, whatever its records hold (R369). -/
def raiseCounter (s : State) (x : Disc) : State :=
  s.modLdg fun l => { l with counter := x.heads.foldl (fun m h => if h.stamp / 2 ^ 32 = s.get VRS_EPOCH_EPOCH then max m (h.stamp % 2 ^ 32 + 1) else m) l.counter }

/-- A disc none of whose spans is left to build becomes READY, or leaves. -/
def settleDisc (s : State) (d : Nat) : State :=
  match disc? s d with
  | none => s
  | some x =>
    if x.phase = .build ∧ x.todo = [] then
      if x.leaving then s.modLdg fun l => { l with discs := l.discs.erase d, applied := l.applied.filter fun r => r.disc != d }
      else raiseCounter (modDisc s d fun x => { x with phase := .ready }) x
    else s

/-- A key that a slot holds (R413). -/
def holdsKey (s : State) (id : Nat) : Bool := s.sec.ids.any fun e => e.2 == id && s.on (SEC_SLOT_LOADED e.1)

/-- The chain of a side has been read to its end; CHAIN ends with the second one (R370). -/
def endSide (side : Nat) (x : Disc) : Disc :=
  let ends := if x.ends.contains side then x.ends else side :: x.ends
  { x with ends := ends, phase := if ends.length = 2 then .sort else .chain }

/-- A copy of a Colophon of a side has been read to an address (R124, R149, R370): one that does not count leaves the row to its other
copies, and the old mapping stands where none counts (R148); a record read before is one commit with it. The runs of the namespaces that
the map names are kept; a data run whose key is in no slot refuses the bind (R413). -/
def chainStep (s : State) (d a side nibs : Nat) (x : Disc) : State :=
  let key := (side, s.le (a + 8) 8, s.le (a + 0xFFF8) 8)
  if copyCounts s a x.id = false ∨ x.records.contains key = true then s
  else
    let runs := (colophonRuns s a d nibs x.bx2).filterMap fun r => (x.map.find? r.nsid).map fun n => { r with nsid := n }
    if (runs.any fun r => !r.unmap) = true ∧ s.le (a + 0x48) 8 ≠ 0 ∧ holdsKey s (s.le (a + 0x48) 8) = false then refuseBind s d .noKey
    else
      let s := modDisc s d fun x => { x with records := key :: x.records, heads := colHead s a :: x.heads, runs := x.runs ++ runs }
      s.iff (s.le (a + 0x28) 4 == 0xFFFFFFFF) fun s => modDisc s d (endSide side)

/-- The next span that gave a FAULT is rebuilt from the Colophon records (R365, R380). -/
def rebuildNext (s : State) (block : Nat) : State :=
  match s.ledger.rebuild with
  | [] => s
  | k :: r =>
    let n := k / 2 ^ 32
    let p := k % 2 ^ 32
    freeQuires ((buildSpan s n p block (mergedSpan s n p)).modLdg fun l => { l with rebuild := r })

/-- The entry of the ledger's namespace table (R358). -/
def putNsEntry (s : State) (n size dir : Nat) (valid : Bool) : State :=
  walkerWrite s (nsEntry s n) (leBytes 8 size ++ leBytes 8 dir ++ [if valid then 1 else 0])

/-- After RESET_N every namespace has its table entry, and every directory entry BUILT = 0 (R372). DESIGN CHOICE (assumption 124): firmware
writes them as it enables the ledger. -/
def restoreLedger (s : State) : State :=
  if s.on LDG_CTRL_ENABLE = true ∧ s.ledger.restore = true then
    let s := s.modLdg fun l => { l with restore := false }
    s.each s.hq.nss fun s e => (putNsEntry s e.1 e.2.size e.2.dir true).inkWriteZ 36 e.2.dir (16 * ((e.2.size + spanLbas - 1) / spanLbas)) [] false
  else s

/-- BIND (R25, R124, R148, R149, R368 to R370, R372, R380, R413, R494): one step of a bind or an unbind. DESIGN CHOICE (assumption 104): a
pen whose link is not UP shows GEN 0, and the bind is refused as if its generation did not match (R25). DEDUCED (assumption 105): the
chain of a side that no Colophon stands on has reached its end. -/
def bindStep (d : Nat) (step : BindStep) (s : State) : State :=
  match step with
  | .request sp bx2 id map =>
    let pen := fun n => s.get (LK_STATUS_GEN n) == (if bx2 then 2 else 1)
    if (disc? s d).isSome then s
    else if pen (2 * sp.val) && pen (2 * sp.val + 1) then
      s.modLdg fun l => { l with discs := l.discs.insert d { spindle := sp, bx2 := bx2, id := id.toNat, map := map }, bindRefused := none }
    else refuseBind s d .generation
  | .chain side rec nibs =>
    match disc? s d with
    | none => s
    | some x => if x.phase = .chain then chainStep s d rec.toNat side nibs x else s
  | .blank side =>
    match disc? s d with
    | none => s
    | some x => if x.phase = .chain then modDisc s d (endSide side) else s
  | .sort =>
    match disc? s d with
    | none => s
    | some x =>
      if x.phase = .sort then
        let l := touched x.runs
        settleDisc (modDisc (markSpans s l) d fun x => { x with phase := .build, todo := spanKeys l }) d
      else s
  | .build block =>
    match disc? s d with
    | none => s
    | some x =>
      match x.phase, x.todo with
      | .build, k :: _ =>
        let n := k / 2 ^ 32
        let p := k % 2 ^ 32
        let s := buildSpan s n p block.toNat (mergedSpan s n p)
        let s := s.modLdg fun l => { l with discs := l.discs.map fun e => (e.1, { e.2 with todo := if e.2.phase = .build then e.2.todo.filter (· != k) else e.2.todo }) }
        freeQuires (s.each (s.ledger.discs.map (·.1)) settleDisc)
      | _, _ => rebuildNext s block.toNat
  | .unbind =>
    match disc? s d with
    | none => s
    | some x =>
      if x.phase = .ready then
        let l := touched (x.runs ++ s.ledger.applied.filter fun r => r.disc == d)
        settleDisc (modDisc (markSpans s l) d fun x => { x with leaving := true, phase := .build, todo := spanKeys l }) d
      else s

def execBind (disc : Fin 512) (step : BindStep) (s : State) : Res := .next (bindStep disc step s)

/-- The runs of a span as a SLOW lookup finds them (R371): the committed block with the runs of every disc that has passed CHAIN put over it
by precedence. -/
def slowSpan (s : State) (nsid span : Nat) : List MRun :=
  merge (committedOf s nsid span) (mclip (runsIn s fun p => p != .chain) nsid (span * spanLbas) spanLbas)

/-- The runs that a SLOW lookup of a range finds; none while a disc of the namespace is in CHAIN (R372). -/
def slowRuns (s : State) (nsid lba count : Nat) : Option (List MRun) :=
  if s.ledger.discs.any fun e => e.2.phase == .chain && e.2.map.any fun m => m.2 == nsid then none
  else some (((spansOf lba count).flatMap (slowSpan s nsid)).filter fun r => decide (r.lba < lba + count) && decide (lba < r.lba + r.count))

/-- UNMAPPED extents over n LBAs. -/
def gapEntries (nsid lba n : Nat) : List (Nat × Nat) :=
  (List.range ((n + 65535) / 65536)).map fun i => unmappedEntry nsid (lba + 65536 * i) (min 65536 (n - 65536 * i))

/-- Sorted runs as the walker reports them up to an LBA: each run's entry unchanged, and UNMAPPED extents between (R364, R371). -/
def extentsOf (nsid upTo : Nat) : Nat → List MRun → List (Nat × Nat)
  | lba, [] => gapEntries nsid lba (upTo - lba)
  | lba, r :: l => gapEntries nsid lba (r.lba - lba) ++ mediaEntry r :: extentsOf nsid upTo (r.lba + r.count) l

/-- The spans of a range that wait to be built move to the front of each disc's BUILD order (R371). -/
def pullSpans (s : State) (nsid lba count : Nat) : State :=
  let keys := spanKeys ((spansOf lba count).map fun k => (nsid, k))
  s.modLdg fun l => { l with discs := l.discs.map fun e =>
    (e.1, { e.2 with todo := (e.2.todo.filter keys.contains) ++ e.2.todo.filter fun k => !keys.contains k }) }

/-- SLOW_LOOKUP_RESOLVE (R368, R371, R372, R380): run entries in the walker's form, by precedence. -/
def slowLookupResolve (nsid lba count : Nat) (s : State) : State :=
  (pullSpans s nsid lba count).modLdg fun l => { l with slow := (slowRuns s nsid lba count).map (extentsOf nsid (lba + count) lba) }

def execSlowLookupResolve (nsid lba count : Nat) (s : State) : Res := .next (slowLookupResolve nsid lba count s)

end Sys2Proof.Machine
end

