-- ==== Sys2Proof/Machine/Verso.lean ====
section
/-!
DEFINITION. Chapter 15: claims on outputs, the Verso link, takeover and health.
-/

namespace Sys2Proof.Machine

/-- Outputs of the unit: 16 pens and 24 stages (R383). -/
def outputs : List Nat := List.range 40

/-- VRS_OUT_WRITE (R382, R383, R387, R393, R400, R401). -/
def vrsOutWrite (k v : Nat) (s : State) : State :=
  let c := v / 2 ^ 28 % 16
  let ready := v / 2 ^ 27 % 2
  if c = s.get (VRS_OUT_CLASS k) then s.set (VRS_OUT_READY k) ready
  else
    let bad := c != 0 && c != 4 && c != 12
    let claim := s.on VRS_DIAG_GAVE_UP || (c == 12 && (s.on (VRS_OUT_OTHER_HOLDS k) || s.on VRS_STATUS_NODE_CLASH))
    let s := s.iff bad fun s => s.ev VRS_EVENT_CFG_REFUSED
    let s := s.iff claim fun s => s.ev VRS_EVENT_CLAIM_REFUSED
    if bad || claim then s else withAna s fun s => setClass (s.set (VRS_OUT_READY k) ready) k c

def execVrsOutWrite (k : Fin 40) (value : Word) (s : State) : Res := .next (s.clocked vrsIsland fun s => vrsOutWrite k value.toNat s)

/-! ### The link -/

/-- DEGRADED is set on a unit that is active when the link fails (R399). -/
def degrade (s : State) : State :=
  s.iff (s.get VRS_STATUS_ROLE == 2) fun s => (s.set VRS_STATUS_DEGRADED 1).ev VRS_EVENT_DEGRADED

/-- Change the SEC state. -/
def State.modSec (s : State) (f : Sec → Sec) : State := { s with sec := f s.sec }

/-- The link fails (R391): the key is gone, the partner's seals break, and it retrains; writes no longer wait for the partner. -/
def linkFails (s : State) : State :=
  let up := versoUp s
  let s := s.iff up fun s => degrade (breakSeals ((s.ev VRS_EVENT_LINK_FAIL).bump VRS_CNT_LINK_LINK_FAILS 1) 0xA)
  let s := (s.set VRS_STATUS_HB_OK 0).modVerso fun v => { v with sent := [], gcmFails := [], linkOk := false, missRun := 0 }
  let s := s.modSec fun c => { c with verso := [] }
  let s := if s.on VRS_CTRL_ENABLE then (s.set VRS_STATUS_LINK 3).bump VRS_CNT_LINK_RETRAINS 1 else s.set VRS_STATUS_LINK 0
  settle s

/-- Heartbeats lost before the link fails (VRS_HB). -/
def hbLoss (s : State) : Nat := max 1 (s.get VRS_HB_HB_LOSS)

/-- VERSO_LINK_FAIL (R336, R390, R391, R399 to R401). -/
def versoLinkFail (cause : VersoFail) (s : State) : State :=
  match cause with
  | .heartbeat => if versoUp s = true ∧ hbLoss s ≤ s.verso.missRun then linkFails s else s
  | .gcm | .down => if versoUp s then linkFails s else s
  | .retrain => linkFails s

def execVersoLinkFail (cause : VersoFail) (s : State) : Res := .next (versoLinkFail cause s)

/-- n bytes of the DRBG, and the counter moved on; it reseeds every 2^20 requests (R403, R418). -/
def drbg (s : State) (n : Nat) : List (BitVec 8) × State :=
  ((List.range n).map (Config.freeByte s.freeCtr), { s with freeCtr := s.freeCtr + 1 }.modSec fun c =>
    if c.draws + 1 = 2 ^ 20 then { c with draws := 0, reseeds := c.reseeds + 1 } else { c with draws := c.draws + 1 })

/-- VERSO_LINK_UP (R388, R399, R414): trained with a fresh key; without a pairing secret the link stays in training. -/
def versoLinkUp (partner : List (BitVec 8)) (s : State) : State :=
  if s.on VRS_CTRL_ENABLE = true ∧ (s.get VRS_STATUS_LINK = 1 ∨ s.get VRS_STATUS_LINK = 3) ∧ s.sec.pair ≠ [] then
    let (own, s) := drbg s 16
    let ctx := if s.get VRS_NODE_NODE_ID ≤ s.get VRS_STATUS_PARTNER_NODE then own ++ partner else partner ++ own
    let s := s.modSec fun c => { c with verso := Config.kdf c.pair [0x56, 0x52, 0x53, 0x4F] ctx }
    ((s.set VRS_STATUS_LINK 2).ev VRS_EVENT_LINK_UP).modVerso fun v => { v with sent := [], counter := 0, missRun := 0 }
  else s

def execVersoLinkUp (partnerNonce : List (BitVec 8)) (s : State) : Res := .next (versoLinkUp partnerNonce s)

/-- HEARTBEAT (R388, R391, R401): one is sent, and the partner's, if one has come, is taken. -/
def heartbeat (r : Option Beat) (s : State) : State :=
  if versoUp s then
    let s := sendVerso s (.heartbeat (s.get VRS_NODE_NODE_ID) (s.get VRS_STATUS_ROLE) (s.on VRS_STATUS_DEGRADED) (liveWord s (vrsBase + 0x40)) s.now)
    match r with
    | none =>
      let s := (s.bump VRS_CNT_HB_MISS 1).modVerso fun v => { v with missRun := v.missRun + 1 }
      s.iff (decide (hbLoss s ≤ s.verso.missRun)) fun s => s.set VRS_STATUS_HB_OK 0
    | some b =>
      let clash := b.node.toNat == s.get VRS_NODE_NODE_ID
      let h := b.health.toNat
      let s := ((s.set VRS_STATUS_HB_OK 1).set VRS_STATUS_PARTNER_NODE b.node.toNat).modVerso fun v => { v with missRun := 0 }
      let s := (s.set VRS_STATUS_NODE_CLASH (if clash then 1 else 0)).iff clash fun s => s.ev VRS_EVENT_NODE_CLASH
      let s := ((s.set VRS_PARTNER_HEALTH_SEQ (h / 2 ^ 24)).set VRS_PARTNER_HEALTH_LINK_OK (h / 16)).set VRS_PARTNER_HEALTH_COMM_OK (h / 8)
      ((s.set VRS_PARTNER_HEALTH_ECHO_OK (h / 4)).set VRS_PARTNER_HEALTH_SHADOW_OK (h / 2)).set VRS_PARTNER_HEALTH_VALID h
  else s

def execHeartbeat (received : Option Beat) (s : State) : Res := .next (heartbeat received s)

/-- GCM_FAIL (R391): dropped and counted; four within 1 ms fail the link. -/
def gcmFail (s : State) : State :=
  let s := (s.ev VRS_EVENT_GCM_FAIL).bump VRS_CNT_GCM_FAIL 1
  let t := (s.verso.gcmFails.filter fun x => decide (s.now < x + 38400)) ++ [s.now]
  let s := s.modVerso fun v => { v with gcmFails := t }
  if 4 ≤ t.length then versoLinkFail .gcm s else s

def execGcmFail (s : State) : Res := .next (gcmFail s)

/-- WRITE_DATA (R388, R389): written at the same address as requester 37, then acknowledged. -/
def writeData (a : Nat) (data : List (BitVec 8)) (s : State) : State :=
  if versoUp s then sendVerso (s.inkWrite 37 a data false) (.dataAck a) else s

def execWriteData (addr : BitVec 40) (data : List (BitVec 8)) (s : State) : Res := .next (writeData addr.toNat data s)

/-- DATA_ACK (R389, R390): writes no longer wait for the address. -/
def dataAck (a : Nat) (s : State) : State :=
  if versoUp s then
    settle ((s.modVerso fun v => { v with acked := if v.acked.contains a then v.acked else a :: v.acked }).modHq fun h =>
      { h with cmds := h.cmds.map fun e => (e.1, { e.2 with acks := e.2.acks.filter (· != a) }) })
  else s

def execDataAck (addr : BitVec 40) (s : State) : Res := .next (dataAck addr.toNat s)

/-- SEAL_MSG (R333, R337, R388, R487): the partner acts as owner code 0xA. -/
def sealMsg (i : Nat) (take : Bool) (s : State) : State :=
  if versoUp s then (if take then takeSeal s 0xA i else releaseSeal s 0xA i) else s

def execSealMsg (i : Fin 64) (take : Bool) (s : State) : Res := .next (sealMsg i take s)

/-- Slots of a message ring (VRS_MSG_CFG). -/
def msgSlots (s : State) : Nat := 2 ^ min 10 (max 4 (s.get VRS_MSG_CFG_SIZE))

/-- FIRMWARE_MSG (R388, R390): sent from the transmit ring, or placed in the receive ring. -/
def firmwareMsg (m : FwMsg) (s : State) : State :=
  if versoUp s then
    let base := s.get VRS_MSG_BASE_BASE * 2 ^ 16
    match m with
    | .send len =>
      let t := s.get VRS_TX_TAIL_PTR
      if s.get VRS_TX_HEAD_PTR = t then s
      else
        let d := s.bytesAt (base + 256 * (t % msgSlots s)) (min 240 (max 16 len))
        (sendVerso s (.firmware d)).set VRS_TX_TAIL_PTR (t + 1)
    | .receive data ackOf =>
      let h := s.get VRS_RX_HEAD_PTR
      -- a message that finds the ring full is dropped whole: firmware reads no acknowledgement from it
      if msgSlots s ≤ (h + 2 ^ 32 - s.get VRS_RX_TAIL_PTR) % 2 ^ 32 then s.ev VRS_EVENT_RX_OVF
      else
        let s := s.inkWrite 37 (base + 256 * (msgSlots s + h % msgSlots s)) (data.take 240) false
        let s := (s.set VRS_RX_HEAD_PTR (h + 1)).ev VRS_EVENT_RX_MSG
        match ackOf with
        | none => s
        | some a => settle (modCmd s a fun c => { c with record := false })
  else s

def execFirmwareMsg (m : FwMsg) (s : State) : Res := .next (firmwareMsg m s)

/-! ### Takeover and staleness -/

/-- Every loop in SHADOW is asked into AUTO, as an event (R172, R394). -/
def askAuto (s : State) : State :=
  s.each (List.range 17) fun s e => s.each (List.range (loopsOf e)) fun s j => s.iff (modeOf s e j == mShadow) fun s => requestMode s e j mAuto

/-- The supervisors of the pens whose axis loops are shadows are to act on the states they have been computing (R203, R396). -/
def noteTakeover (s : State) : State :=
  s.each (List.range 16) fun s n =>
    let mask := ([0, 1].filter fun axis => modeOf s n (axisLoop s n axis) == mShadow).foldl (fun m axis => m + 2 ^ axis) 0
    s.modSup n fun u => { u with tookOver := mask }

/-- The outputs are taken over (R394, R396). -/
def takeOver (s : State) : State :=
  let s := (noteTakeover s).each outputs fun s k => s.iff (s.get (VRS_OUT_CLASS k) == 4) fun s => setClass s k (if s.on (VRS_OUT_READY k) then 12 else 0)
  askAuto ({ s with anaChange := true }.ev VRS_EVENT_TAKEOVER)

/-- TAKEOVER (R394, R396, R397, R400, R401): a GIVE_UP has arrived, or claims are stale with the link down. -/
def takeover (onGiveUp : Bool) (s : State) : State :=
  let s := s.iff onGiveUp fun s => s.ev VRS_EVENT_PARTNER_GAVE_UP
  let standby := s.on VRS_CTRL_AUTO_TAKE && !(outputs.any fun k => s.get (VRS_OUT_CLASS k) == 12) && outputs.any fun k => s.get (VRS_OUT_CLASS k) == 4
  let unheld := !versoUp s && outputs.all fun k => s.get (VRS_OUT_CLASS k) != 4 || !s.on (VRS_OUT_OTHER_HOLDS k)
  if standby && (onGiveUp || unheld) then withAna s takeOver else s

def execTakeover (onGiveUp : Bool) (s : State) : Res := .next (takeover onGiveUp s)

/-- STALE (R395): an output at 0x4 whose other-port claim is stale, and not taken over within 1 ms, is relinquished. -/
def stale (k : Nat) (s : State) : State :=
  if s.get (VRS_OUT_CLASS k) = 4 ∧ s.on (VRS_OUT_OTHER_HOLDS k) = false then withAna (s.ev VRS_EVENT_STALE) fun s => setClass s k 0 else s

def execStale (k : Fin 40) (s : State) : Res := .next (stale k s)

/-! ### Health -/

/-- HEALTH (R398, R401): the 100 ms report over the outputs at class 0x4. -/
def health (s : State) : State :=
  let standby := fun k => s.get (VRS_OUT_CLASS k) == 4
  let mm := s.get VRS_HEALTH_CFG_MISMATCH_MAX
  let mis := (List.range 16).filter fun p => standby p && decide (mm < (s.engine p).healthMis)
  let miss := (List.range 16).filter fun p => standby p && decide (s.get VRS_HEALTH_CFG_ECHO_MAX < (s.engine p).healthMiss)
  let spn := (List.range 8).filter fun k => standby (16 + k) && decide (mm < (s.spindle k).disagree)
  let mask := fun (l : List Nat) => l.foldl (fun m k => m + 2 ^ k) 0
  let flag := fun (b : Bool) => if b then 1 else 0
  let s := (s.wrap VRS_HEALTH_SEQ 1).set VRS_HEALTH_VALID 1
  let s := ((s.set VRS_HEALTH_LINK_OK (flag s.verso.linkOk)).set VRS_HEALTH_COMM_OK (flag spn.isEmpty)).set VRS_HEALTH_ECHO_OK (flag miss.isEmpty)
  let s := (s.set VRS_HEALTH_SHADOW_OK (flag mis.isEmpty)).set VRS_HEALTH_PEN_ECHO_FAIL (mask miss)
  let s := (s.set VRS_HEALTH_PEN_SHADOW_FAIL (mask mis)).set VRS_HEALTH_SPN_COMM_FAIL (mask spn)
  let failing := mis ++ miss ++ spn.map (16 + ·)
  let s := (s.ev VRS_EVENT_HEALTH).iff (!failing.isEmpty) fun s => s.ev VRS_EVENT_HEALTH_FAIL
  let s := s.iff (s.on VRS_CTRL_HEALTH_AUTO) fun s => s.each failing fun s k => s.set (VRS_OUT_READY k) 0
  let s := s.each (List.range 16) fun s p => s.modEng p fun g => { g with healthMis := 0, healthMiss := 0 }
  let s := s.each (List.range 8) fun s k => s.modSp k fun p => { p with disagree := 0 }
  s.modVerso fun v => { v with linkOk := versoUp s }

def execHealth (s : State) : Res := .next (health s)

/-! ### DEGRADED, GAVE_UP and the node ID -/

/-- DEG_CLR (R399): ignored unless the link is UP. -/
def degClr (s : State) : State := s.iff (versoUp s) fun s => s.set VRS_STATUS_DEGRADED 0

def execDegClr (s : State) : Res := .next (s.clocked vrsIsland degClr)

/-- DIAG_CLEAR (R393, R400): ends GAVE_UP only when every CAUSE bit is clear. -/
def diagClear (s : State) : State :=
  if s.get VRS_DIAG_CAUSE = 0 then withAna s fun s => refreshRole (s.set VRS_DIAG_GAVE_UP 0) else s

def execDiagClear (s : State) : Res := .next (s.clocked vrsIsland diagClear)

/-- NODE_WRITE (R402): only while every CLASS is 0x0. -/
def nodeWrite (v : Nat) (s : State) : State :=
  if outputs.all fun k => s.get (VRS_OUT_CLASS k) == 0 then s.set VRS_NODE_NODE_ID v else s.ev VRS_EVENT_CFG_REFUSED

def execNodeWrite (value : BitVec 12) (s : State) : Res := .next (s.clocked vrsIsland fun s => nodeWrite value.toNat s)

end Sys2Proof.Machine
end

