-- ==== Sys2Proof/Machine/Security.lean ====
section
/-!
DEFINITION. Chapter 16: the key store, the self-tests and the error state, zeroisation, sessions and the debug port.
-/

namespace Sys2Proof.Machine

/-! ### Approved mode, zeroisation and ERROR -/

/-- The conditions of APPROVED (R422): OPERATIONAL, every running Scribe LISTED, the debug port closed, and never lost since
RESET_N. -/
def approvedNow (s : State) : Bool :=
  s.get SEC_STATUS_STATE == 1 && !s.on SEC_STATUS_DBG_OPEN && !s.sec.lost &&
    (List.range 8).all fun q => !s.on (SYS_SCR_STATUS_RUNNING q) || s.bit SEC_FW_LISTED q

/-- APPROVED follows its conditions; once it falls it stays 0 until RESET_N (R422). -/
def refreshApproved (s : State) : State :=
  if approvedNow s then s.set SEC_STATUS_APPROVED 1
  else if s.on SEC_STATUS_APPROVED then
    ((s.set SEC_STATUS_APPROVED 0).ev SEC_EVENT_APPROVED_LOST).modSec fun c => { c with lost := true }
  else s

/-- A started descriptor needs the pen's XTS engine; and, where `keyed`, a key slot as well (R129, R413). -/
def needsEngine (keyed : Bool) (d : Desc) : Bool :=
  !d.done && (d.kind == 1 || (d.kind == 0 && !d.bypass && !(keyed && d.key == 0xFFFF)))

/-- Descriptors in progress that need a key, or an engine, complete CUT, and their burns stop under R271 (R419, R421). -/
def cutKeyed (keyed : Bool) (s : State) : State :=
  s.each (List.range 16) fun s n =>
    let w := s.writeCh n
    let l := if w.started then w.group.filter (needsEngine keyed) else []
    let mask := l.foldl (fun m d => m ||| d.burning) 0
    let s := s.iff (mask != 0) fun s => sendAbort s n mask
    let s := s.each l fun s d =>
      let s := s.iff (d.burning != 0) fun s => s.bump (WC_CNT_FAIL_ABORTED n) 1
      completeDesc (modDesc s n d.idx fun d => { d with verdict := some stCut, burning := 0 }) n d.idx
    refreshWc s n

/-- Clear every SEC_AUTH bit (R409). -/
def clearAuth (s : State) : State := ((s.set SEC_AUTH_OFFICER 0).set SEC_AUTH_DIAG 0).set SEC_AUTH_SERVICE 0

/-- Close every session and drop every OPEN exchange (R408). -/
def closeAll (s : State) : State := s.modSec fun c => { c with sessions := [], openings := [] }

/-- Slot k holds zeros. -/
def emptySlot (s : State) (k : Nat) : State :=
  ((s.set (SEC_SLOT_LOADED k) 0).set (SEC_SLOT_KEY_ID k) 0).modSec fun c => { c with slots := c.slots.erase k, ids := c.ids.erase k }

/-- Zeroisation (R421, R424): keys and DRBG state overwritten, SEC_AUTH cleared, sessions closed, descriptors that need a key
cut; a key command that runs completes with OK = 0. -/
def zeroiseAll (s : State) : State :=
  let s := s.each (List.range 128) emptySlot
  let s := s.modSec fun c => { c with device := [], domain := [], pair := [], verso := [], cmd := c.cmd.map fun k => { k with ok := some false } }
  (cutKeyed true (closeAll (clearAuth s))).ev SEC_EVENT_ZEROISED

/-- ZEROISE (R408, R421, R424): ignored unless OFFICER is held. -/
def zeroise (s : State) : State := if s.on SEC_AUTH_OFFICER then zeroiseAll s else s

def execZeroise (s : State) : Res := .next (s.clocked secIsland zeroise)

/-- ERROR is entered (R392, R419, R424): zeroised, XTS engines stopped, the Verso link failed, APPROVED = 0, KAT reported. -/
def secError (test : Nat) (s : State) : State :=
  if s.get SEC_STATUS_STATE = 2 then s
  else
    let s := (s.set SEC_STATUS_STATE 2).iff (s.get SEC_STATUS_FAIL_ID == 0) fun s => s.set SEC_STATUS_FAIL_ID test
    let s := cutKeyed false (zeroiseAll (s.ev SEC_EVENT_KAT_FAIL))
    diagnose (refreshApproved (versoLinkFail .down s)) 3

def execSecError (test : BitVec 8) (s : State) : Res := .next (secError test.toNat s)

/-! ### Self-tests and entropy -/

/-- KAT_DONE (R417, R419, R443): fail is the first test that failed, 0 for none. -/
def katDone (fail : Nat) (s : State) : State :=
  if s.get SEC_STATUS_STATE = 0 then
    let s := s.set SEC_STATUS_KAT_DONE 1
    if fail = 0 then
      let (nonce, s) := drbg ((s.set SEC_STATUS_STATE 1).set SEC_STATUS_ENT_OK 1) 16
      refreshApproved ((s.set SEC_DBG_NONCE_NONCE (leVal nonce)).ev SEC_EVENT_KAT_DONE)
    else secError fail s
  else s

def execKatDone (fail : BitVec 8) (s : State) : Res := .next (katDone fail.toNat s)

/-- SELFTEST (R420, R424): ignored in ERROR. -/
def selftest (s : State) : State :=
  if s.get SEC_STATUS_STATE = 2 then s
  else (((s.set SEC_SELFTEST_DONE 0).set SEC_SELFTEST_PASS 0).set SEC_SELFTEST_PEN_DONE 0).modSec fun c => { c with testing := true }

def execSelftest (s : State) : Res := .next (s.clocked secIsland selftest)

/-- SELFTEST_DONE (R420, R419): fail is the first test that failed, 0 for none. -/
def selftestDone (fail : Nat) (s : State) : State :=
  if s.sec.testing then
    let s := ((s.set SEC_SELFTEST_DONE 1).set SEC_SELFTEST_PEN_DONE 0xFFFF).modSec fun c => { c with testing := false }
    let s := (s.ev SEC_EVENT_SELFTEST_DONE).set SEC_SELFTEST_PASS (if fail = 0 then 1 else 0)
    if fail = 0 then s else secError fail s
  else s

def execSelftestDone (fail : BitVec 8) (s : State) : Res := .next (selftestDone fail.toNat s)

/-- RESEED (R418). -/
def reseed (s : State) : State := s.modSec fun c => { c with draws := 0, reseeds := c.reseeds + 1 }

def execReseed (s : State) : Res := .next (s.clocked secIsland reseed)

/-- ENT_FAIL (R418): counted, DRBG output withheld; three within a second put the block into ERROR. -/
def entFail (test : EntTest) (s : State) : State :=
  let s := match test with
    | .rct => s.bump SEC_ENT_RCT_FAIL 1
    | .apt => s.bump SEC_ENT_APT_FAIL 1
  let t := (s.sec.entFails.filter fun x => decide (s.now < x + 38400000)) ++ [s.now]
  let s := ((s.ev SEC_EVENT_ENT_FAIL).set SEC_STATUS_ENT_OK 0).modSec fun c => { c with withheld := true, entFails := t }
  if 3 ≤ t.length then
    let (id, s) := s.fresh
    secError id s
  else s

def execEntFail (test : EntTest) (s : State) : Res := .next (entFail test s)

/-- ENTROPY_RECOVERED (R418): 1,024 consecutive samples have passed. -/
def execEntropyRecovered (s : State) : Res :=
  .next (if s.sec.withheld then (s.set SEC_STATUS_ENT_OK 1).modSec fun c => { c with withheld := false } else s)

/-! ### Key commands -/

/-- The bytes of KEK k: 0 DEVICE, 1 DOMAIN. -/
def kekOf (s : State) (k : Nat) : List (BitVec 8) := if k = 0 then s.sec.device else if k = 1 then s.sec.domain else []

/-- Slot k takes a key pair with its ID, locked for reads and writes (R411). -/
def fillSlot (s : State) (k : Nat) (id : List (BitVec 8)) (pair : List (BitVec 8)) : State :=
  let s := (((s.set (SEC_SLOT_LOADED k) 1).set (SEC_SLOT_READ_OK k) 0).set (SEC_SLOT_WRITE_OK k) 0).set (SEC_SLOT_KEY_ID k) (leVal id)
  s.modSec fun c => { c with slots := c.slots.insert k pair, ids := c.ids.insert k (leVal id) }

/-- The pair in the blob at an address, unwrapped under a key, with its ID (R412): none where a check fails. -/
def openBlob (s : State) (key : List (BitVec 8)) (a : Nat) : Option (List (BitVec 8) × List (BitVec 8)) :=
  let b := s.bytesAt a 88
  if inkLimit < a + 88 ∨ s.anyPoison a 88 = true ∨ key = [] then none
  else
    match Config.keyUnwrap key (b.drop 8) with
    | none => none
    | some p => if p.take 8 = b.take 8 then some (p.take 8, p.drop 8) else none

/-- Perform key command c: whether it succeeds, and its effect (R411, R412). -/
def keyOp (s : State) (c : KeyCmd) : Bool × State :=
  let s := s.iff (decide (inkLimit ≤ c.addr) && (c.op == 1 || c.op == 2 || c.op == 4 || c.op == 5)) fun s => s.addrErr 38 c.addr
  match c.op with
  | 0 =>
    let (pair, s) := drbg s 64
    let (id, s) := drbg s 8
    (true, fillSlot s c.slot id pair)
  | 1 =>
    match openBlob s (kekOf s c.kek) c.addr with
    | some (id, pair) => (true, fillSlot s c.slot id pair)
    | none => (false, s)
  | 2 =>
    if (c.kek = 1 ∧ s.on SEC_AUTH_OFFICER = false) ∨ kekOf s c.kek = [] ∨ s.on (SEC_SLOT_LOADED c.slot) = false ∨ inkLimit ≤ c.addr then (false, s)
    else
      let id := leBytes 8 (s.sec.ids.getD c.slot 0)
      (true, s.inkWrite 38 c.addr (id ++ (Config.keyWrap (kekOf s c.kek) (id ++ s.sec.slots.getD c.slot [])).take 80) false)
  | 3 => (true, emptySlot s c.slot)
  | 4 =>
    match s.on SEC_AUTH_OFFICER, openBlob s s.sec.device c.addr with
    | true, some (_, pair) => (true, s.modSec fun x => { x with domain := pair.take 32 })
    | _, _ => (false, s)
  | 5 =>
    match s.on SEC_AUTH_OFFICER, openBlob s s.sec.device c.addr with
    | true, some (_, pair) => (true, s.modSec fun x => { x with pair := pair.take 32 })
    | _, _ => (false, s)
  | _ => (false, s)

/-- The command that runs is performed once nothing holds it up: an operation on a slot waits until IN_USE falls, and GENERATE
waits for DRBG output; nothing is performed outside OPERATIONAL (R411, R417, R418). -/
def performKey (s : State) : State :=
  match s.sec.cmd with
  | none => s
  | some c =>
    if c.ok.isSome then s
    else if s.get SEC_STATUS_STATE ≠ 1 then s.modSec fun x => { x with cmd := some { c with ok := some false } }
    else if (c.op ≤ 3 ∧ s.on (SEC_SLOT_IN_USE c.slot) = true) ∨ (c.op = 0 ∧ s.sec.withheld = true) then s
    else
      let (ok, s) := keyOp s c
      s.modSec fun x => { x with cmd := some { c with ok := some ok } }

/-- START of a key command (R411): it is performed at once where nothing holds it up; a START while one runs completes with
OK = 0. -/
def keyStart (op kek slot : Nat) (s : State) : State :=
  let s := ((s.set SEC_KEY_CMD_OP op).set SEC_KEY_CMD_KEK kek).set SEC_KEY_CMD_SLOT slot
  if s.sec.cmd.isSome then ((s.set SEC_KEY_CMD_DONE 1).set SEC_KEY_CMD_OK 0).ev SEC_EVENT_KEY_DONE
  else
    let s := ((s.set SEC_KEY_CMD_START 1).set SEC_KEY_CMD_DONE 0).set SEC_KEY_CMD_OK 0
    performKey (s.modSec fun x => { x with cmd := some { op := op, kek := kek, slot := slot, addr := s.get SEC_KEY_ADDR_ADDR * 8 } })

/-- GENERATE (R411, R418, R424). -/
def execGenerate (slot : Fin 128) (s : State) : Res := .next (s.clocked secIsland fun s => keyStart 0 (s.get SEC_KEY_CMD_KEK) slot s)
/-- UNWRAP (R411, R412, R424). -/
def execUnwrap (slot : Fin 128) (kek : Fin 4) (s : State) : Res := .next (s.clocked secIsland fun s => keyStart 1 kek slot s)
/-- WRAP (R411, R412). -/
def execWrap (slot : Fin 128) (kek : Fin 4) (s : State) : Res := .next (s.clocked secIsland fun s => keyStart 2 kek slot s)
/-- CLEAR (R411, R424). -/
def execClear (slot : Fin 128) (s : State) : Res := .next (s.clocked secIsland fun s => keyStart 3 (s.get SEC_KEY_CMD_KEK) slot s)
/-- LOAD_DOMAIN (R411, R412). -/
def execLoadDomain (s : State) : Res := .next (s.clocked secIsland fun s => keyStart 4 (s.get SEC_KEY_CMD_KEK) (s.get SEC_KEY_CMD_SLOT) s)
/-- LOAD_PAIR (R411, R412). -/
def execLoadPair (s : State) : Res := .next (s.clocked secIsland fun s => keyStart 5 (s.get SEC_KEY_CMD_KEK) (s.get SEC_KEY_CMD_SLOT) s)

/-- KEY_DONE (R411, R424): the command completes, having been performed or refused. -/
def keyDone (s : State) : State :=
  let s := performKey s
  match s.sec.cmd with
  | some { ok := some b, .. } =>
    let s := ((s.set SEC_KEY_CMD_START 0).set SEC_KEY_CMD_DONE 1).set SEC_KEY_CMD_OK (if b then 1 else 0)
    (s.ev SEC_EVENT_KEY_DONE).modSec fun x => { x with cmd := none }
  | _ => s

def execKeyDone (s : State) : Res := .next (keyDone s)

/-! ### Sessions -/

/-- The SEC_AUTH bit of an authority (R404, R409). -/
def authBit (a : Nat) : Option Fld :=
  if a = 1 then some SEC_AUTH_OFFICER else if a = 2 then some SEC_AUTH_DIAG else if a = 3 then some SEC_AUTH_SERVICE else none

/-- SEC_AUTH bit of an authority set or cleared. -/
def setAuth (s : State) (a v : Nat) : State := match authBit a with | some f => s.set f v | none => s

/-- Close session id; the authority's bit falls unless another session holds it (R408, R409). -/
def closeSession (s : State) (id : Nat) : State :=
  match s.sec.sessions.find? id with
  | none => s
  | some x =>
    let s := s.modSec fun c => { c with sessions := c.sessions.erase id }
    if s.sec.sessions.any fun e => e.2.auth == x.auth then s else setAuth s x.auth 0

/-- Function f is reset: its sessions close (R408). -/
def closeFunction (s : State) (f : Nat) : State :=
  let s := s.each (s.sec.sessions.filter fun (e : Nat × Session) => e.2.fn == f) fun s e => closeSession s e.1
  s.modSec fun c => { c with openings := c.openings.filter fun (e : Nat × Opening) => e.2.fn != f }

/-- Scribe 0 is reset: every session closes and SEC_AUTH clears (R408, R409). -/
def secScribeReset (s : State) : State := closeAll (clearAuth s)

/-- What a session exchange answers. -/
def sesAnswer (s : State) (r : SesResult) : State := s.modSec fun c => { c with result := r }

/-- An authority that exists and is not locked out (R404, R408). -/
def mayOpen (s : State) (a : Nat) : Bool := (authBit a).isSome && decide (s.sec.fails.getD a 0 < 5)

/-- OPEN_1 (R405, R408, R417, R418). -/
def open1 (f auth : Nat) (nonce : List (BitVec 8)) (s : State) : State :=
  if s.get SEC_STATUS_STATE ≠ 1 ∨ s.sec.withheld = true then s
  else if mayOpen s auth then
    let (dev, s) := drbg s 16
    let (kind, salt, _) := Config.credential auth
    let i := s.sec.nextOpening
    let s := s.modSec fun c =>
      { c with openings := c.openings.insert i { fn := f, auth := auth, host := nonce, device := dev }, nextOpening := i + 1 }
    sesAnswer s (.nonce dev salt (if kind then 1 else 0))
  else sesAnswer s .authFail

def execOpen1 (f : Fin 2) (authority : BitVec 16) (nonce : List (BitVec 8)) (s : State) : Res :=
  .next (open1 f authority.toNat nonce s)

/-- The 32-byte secret that a proof shows for an authority, if it proves it (R405): the key itself, or the stretched password. -/
def proved (o : Opening) (proof : List (BitVec 8)) : Option (List (BitVec 8)) :=
  let (password, salt, secret) := Config.credential o.auth
  if password then (if (Config.pbkdf2 proof salt).take 32 = secret then some secret else none)
  else if proof = Config.hmac secret (o.host ++ o.device) then some secret
  else none

/-- Bytes 0 to 239 of a result area (R329): status, sequence number, payload length and payload. -/
def resultArea (status seq : Nat) (payload : List (BitVec 8)) : List (BitVec 8) :=
  (leBytes 4 status ++ leBytes 4 seq ++ leBytes 4 payload.length ++ leBytes 4 0 ++ payload ++ List.replicate 224 0).take 240

/-- The MAC that protects a message of a session: the first 16 bytes of HMAC-SHA-384 under its key (R407). -/
def sessionMac (key area : List (BitVec 8)) : List (BitVec 8) := (Config.hmac key area).take 16

/-- OPEN_2 (R405, R406, R408, R409, R424): its result, which assigns the session ID and the first sequence number, is the first message
protected with the session key. The first sequence number is a free value. DESIGN CHOICE (assumption 126): the result's payload is the
ID and that number, four bytes each, as firmware defines it. -/
def open2 (exchange : Nat) (proof : List (BitVec 8)) (s : State) : State :=
  match s.sec.openings.find? exchange with
  | none => sesAnswer s .noSession
  | some o =>
    let s := s.modSec fun c => { c with openings := c.openings.erase exchange }
    if mayOpen s o.auth then
      match proved o proof with
      | none => sesAnswer (s.modSec fun c => { c with fails := c.fails.set o.auth 0 (c.fails.getD o.auth 0 + 1) }) .authFail
      | some secret =>
        let s := s.modSec fun c => { c with fails := c.fails.set o.auth 0 0 }
        match ((List.range 8).map (· + 1)).find? fun i => (s.sec.sessions.find? i).isNone with
        | none => sesAnswer s .noSession
        | some id =>
          let key := (Config.kdf secret [0x4C, 0x4E, 0x53, 0x51] (o.host ++ o.device ++ leBytes 4 id)).take 48
          let (v, s) := s.fresh
          let s := s.modSec fun c => { c with sessions := c.sessions.insert id { auth := o.auth, fn := o.fn, key := key, seq := v % 2 ^ 32 } }
          sesAnswer (setAuth s o.auth 1) (.opened id (v % 2 ^ 32) (sessionMac key (resultArea 0 0 (leBytes 4 id ++ leBytes 4 (v % 2 ^ 32)))))
    else sesAnswer s .authFail

def execOpen2 (exchange : Nat) (proof : List (BitVec 8)) (s : State) : Res := .next (open2 exchange proof s)

/-- Words lo to lo + n of a mailbox's request area, as bytes. -/
def requestBytes (s : State) (m lo n : Nat) : List (BitVec 8) :=
  (List.range n).flatMap fun i => leBytes 4 (s.get (MBX_REQ_WORD m (lo + i)))

/-- Bytes 0 to 239 of mailbox m's result area as firmware has written them, with the sequence number it echoes (R329). -/
def answerBytes (s : State) (m seq : Nat) : List (BitVec 8) :=
  (List.range 60).flatMap fun i => leBytes 4 (if i = 1 then seq else s.get (MBX_RES_WORD m i))

/-- SESSION_REQUEST (R407, R409, R424): the request in mailbox m is accepted, or completes AUTH_FAIL. Its result is protected over the
result area as firmware has written it. Session ID 0 admits, besides OPEN_1 and OPEN_2, which have rows, QUERY alone, and protects
nothing. -/
def sessionRequest (m : Nat) (s : State) : State :=
  let id := s.get (MBX_REQ_WORD m 2)
  if id = 0 then sesAnswer s (if s.get (MBX_REQ_WORD m 0) % 2 ^ 16 = Config.queryOpcode.toNat then .accepted 0 [] else .authFail)
  else match s.sec.sessions.find? id with
  | none => sesAnswer s .authFail
  | some x =>
    if s.get (MBX_REQ_WORD m 1) = (x.seq + 1) % 2 ^ 32 ∧ requestBytes s m 60 4 = sessionMac x.key (requestBytes s m 0 60) then
      sesAnswer (setAuth (s.modSec fun c => { c with sessions := c.sessions.insert id { x with seq := (x.seq + 1) % 2 ^ 32 } }) x.auth 1) (.accepted id (sessionMac x.key (answerBytes s m (x.seq + 1))))
    else sesAnswer s .authFail

def execSessionRequest (m : Fin 32) (s : State) : Res := .next (sessionRequest m s)

/-- CLOSE (R408, R409). -/
def execClose (id : Fin 9) (s : State) : Res := .next (closeSession s id)

/-- SESSION_EXPIRY (R408, R409, R424): 300 s have passed without an accepted request. -/
def execSessionExpiry (id : Fin 9) (s : State) : Res := .next (closeSession s id)

/-! ### The debug port -/

/-- A debug token: key 0's signature of the nonce, the fused serial and the debug attribute (R423). DESIGN CHOICE (assumption 126): how the
signed message lays them out. -/
def tokenOk (s : State) (token : List (BitVec 8)) : Bool :=
  Config.ecdsaOk (Config.fuseKey 0) (Config.sha384 (leBytes 16 (s.get SEC_DBG_NONCE_NONCE) ++ Config.fuseSerial ++ [1])) token

/-- DEBUG_UNLOCK (R421 to R423): a valid token zeroises, clears APPROVED and opens the port; with DBG_DISABLE blown it never
opens. -/
def debugUnlock (token : List (BitVec 8)) (s : State) : State :=
  if tokenOk s token = true ∧ Config.dbgDisable = false ∧ s.on SEC_STATUS_DBG_OPEN = false then
    refreshApproved (((zeroiseAll s).set SEC_STATUS_DBG_OPEN 1).ev SEC_EVENT_DBG_OPEN)
  else s

def execDebugUnlock (token : List (BitVec 8)) (s : State) : Res := .next (debugUnlock token s)

end Sys2Proof.Machine
end

