-- ==== Sys2Proof/Machine/Boot.lean ====
section
/-!
DEFINITION. Chapter 17: reset, start-up, the boot image, and the Scribes' release, watchdogs and resets.
-/

namespace Sys2Proof.Machine

/-- Change the start-up state. -/
def State.modBoot (s : State) (f : Boot → Boot) : State := { s with boot := f s.boot }

/-! ### Chip reset -/

/-- Everything is reset but fuses, flash and media; the Inkwell keeps its cells until it is filled again, the pins what drives
them, and the record of a thermal trip survives (R296, R439, R440, R450). -/
def chipReset (s : State) : State :=
  { State.reset with
    pending := s.pending
    freeCtr := s.freeCtr
    mem := s.mem
    poison := s.poison
    ink := { planted := s.ink.planted }
    flash := s.flash
    gpioPins := s.gpioPins
    hq := { perst := s.hq.perst, nss := s.hq.nss }
    boot := { thermTrip := s.boot.thermTrip, held := s.boot.held } }

/-- RESET_N_ASSERT (R440, R443, R464, R484): a pulse below 50 ns is ignored. -/
def resetAssert (ns : Nat) (s : State) : State := if ns < 50 then s else (chipReset s).modBoot fun b => { b with held := false }

def execResetNAssert (ns : Nat) (s : State) : Res := .next (resetAssert ns s)

/-- RESET_N_RELEASE (R427, R430, R431, R450, R478): SYS_TIME starts from 0, the GPIO levels reach IN (R483); links of ports whose PERST#
is high will train. With TESTEN high the device stays in reset. -/
def resetRelease (testEn : Bool) (s : State) : State :=
  if testEn = false ∧ s.boot.low = true ∧ s.boot.held = false then
    let s := s.set SYS_TH_STATUS_THERM_TRIP (if s.boot.thermTrip then 1 else 0)
    let s := ((s.set SYS_TIME_TIME 0).set SYS_GPIO_IN_IN s.gpioPins).modBoot fun b => { b with low := false, thermTrip := false }
    { s with running := true }.modHq fun h => { h with training := [0, 1].filter fun p => !h.perst.contains p }
  else s

def execResetNRelease (testEn : Bool) (s : State) : Res := .next (resetRelease testEn s)

/-- FUSE_LOAD_DONE (R3, R410, R430, R465): fuses and trim are loaded, and DEVICE is derived. -/
def fuseLoadDone (s : State) : State :=
  if s.boot.low = false ∧ s.boot.fuses = false then
    (s.modBoot fun b => { b with fuses := true }).modSec fun c => { c with device := Config.deviceKey }
  else s

def execFuseLoadDone (s : State) : Res := .next (fuseLoadDone s)

/-- BIST_DONE (R430, R432): the memories are cleared; Scribe 0 leaves reset into the boot ROM. -/
def bistDone (s : State) : State :=
  if s.boot.fuses = true ∧ s.boot.bist = false then
    ({ s with locals := [], localBad := [], cpb := {} }.modBoot fun b => { b with bist := true }).set (SYS_SCR_STATUS_RUNNING 0) 1
  else s

def execBistDone (s : State) : Res := .next (bistDone s)

/-- TRAINING_DONE (R296, R417, R430, R433, R436): the fill, the self-tests and the load of the preferred slot start. -/
def trainingDone (s : State) : State :=
  if s.boot.bist = true ∧ s.boot.trained = false then
    let s := (s.set INK_STATUS_FILL_RUN 1).set SYS_BOOT_TRIAL (if s.flash.trial then 1 else 0)
    (s.set SYS_BOOT_STATE 1).modBoot fun b => { b with trained := true, slot := s.flash.preferred }
  else s

def execTrainingDone (s : State) : Res := .next (trainingDone s)

/-! ### Images (R422, R434, R435) -/

/-- A little-endian field of an image. -/
def imgLe (img : List (BitVec 8)) (o n : Nat) : Nat := leVal ((img.drop o).take n)

/-- A section of an image: target, offset in the image, length, load address. -/
structure Section where
  target : Nat
  off : Nat
  len : Nat
  load : Nat
  deriving DecidableEq, Repr

/-- The sections of an image. -/
def sectionsOf (img : List (BitVec 8)) : List Section :=
  (List.range (min 32 (imgLe img 0x10 4))).map fun i =>
    let e := 0x200 + 32 * i
    { target := imgLe img e 1, off := imgLe img (e + 4) 4, len := imgLe img (e + 8) 4, load := imgLe img (e + 16) 8 }

/-- A section lies within its image and its target. -/
def sectionOk (total : Nat) (x : Section) : Bool :=
  decide (x.off + x.len ≤ total) &&
    (if x.target = 0x20 then decide (x.load + x.len ≤ inkLimit)
     else (decide (x.target ≤ 7) || (decide (0x10 ≤ x.target) && decide (x.target ≤ 0x17))) && decide (x.load + x.len ≤ 65536))

/-- Length of an image, as its header gives it. -/
def imgLen (img : List (BitVec 8)) : Nat := imgLe img 0x0C 4

/-- An image's signature verifies, over the SHA-384 digest of the whole image with the signature read as zero (R422, R434, R435). -/
def imageSigned (img : List (BitVec 8)) : Bool :=
  let whole := img.take (imgLen img)
  Config.ecdsaOk (Config.fuseKey (imgLe img 6 2)) (Config.sha384 (whole.take 0x100 ++ List.replicate 0x60 0 ++ whole.drop 0x160)) ((whole.drop 0x100).take 0x60)

/-- The failure code of an image, in the order of SYS_BOOT's codes but for a read error, which comes first; 0 for none. -/
def imageCode (s : State) (img : List (BitVec 8)) (readError : Bool) : Nat :=
  let key := imgLe img 6 2
  if readError then 6
  else if imgLe img 0 4 ≠ 0x4C4E5747 ∨ imgLe img 4 2 ≠ 1 then 1
  else if 33554432 < imgLen img ∨ img.length < imgLen img ∨ imgLen img < 4096 ∨ imgLe img 0x10 4 = 0 ∨ 32 < imgLe img 0x10 4
      ∨ ((sectionsOf img).all (sectionOk (imgLen img))) = false then 2
  else if 3 < key ∨ s.bit SEC_FW_PRESENT key = false ∨ s.bit SEC_FW_REVOKED key = true then 3
  else if imgLe img 8 2 < s.get SEC_FW_MIN_SVN then 4
  else if s.get SEC_STATUS_STATE ≠ 1 then 7
  else if imageSigned img then 0 else 5

/-- An image is listed: key 0 signed it, and it carries the validated attribute (R422). -/
def imageListed (img : List (BitVec 8)) : Bool := imgLe img 6 2 == 0 && imgLe img 0xA 2 % 2 == 1

/-- Copy a section to its place: a local memory, or the Inkwell as requester 38 (R312, R435). -/
def copySection (img : List (BitVec 8)) (s : State) (x : Section) : State :=
  let b := (img.drop x.off).take x.len
  if x.target = 0x20 then s.inkWrite 38 x.load b false
  else
    let i := x.target % 16
    let d := decide (0x10 ≤ x.target)
    let l := (List.range b.length).zip b
    { s with locals := l.foldl (fun m (e : Nat × BitVec 8) => Store.set m (localKey i d (x.load + e.1)) 0 e.2) s.locals }

/-- The slot's bytes as the ROM reads them: what a Firmware Commit has written there, or what the flash is shown to hold. -/
def slotBytes (s : State) (image : List (BitVec 8)) : List (BitVec 8) := (s.flash.slots.find? s.boot.slot).getD image

/-- Firmware starts from the slot booted: with TRIAL = 1 it counts the attempt, or on a third start gives the slot up and resets
the chip (R457). -/
def trialStart (s : State) : State :=
  if s.flash.trial then
    if 2 ≤ s.flash.count then
      resetRelease false ((chipReset { s with flash := { s.flash with preferred := 1 - s.flash.preferred, trial := false } }))
    else { s with flash := { s.flash with count := s.flash.count + 1 } }.modBoot fun b => { b with attempt := some s.now }
  else s

/-- Trial firmware that has run healthy for 60 s is kept (R457). -/
def trialTick (s : State) : State :=
  match s.boot.attempt with
  | some t =>
    if t + 2304000000 ≤ s.now then { s with flash := { s.flash with trial := false, count := 0 } }.modBoot fun b => { b with attempt := none }
    else s
  | none => s

/-- One tick of SYS_TIME where it runs (R430), and what waits on that clock alone (R457). -/
def clockTick (s : State) : State := if s.running then trialTick (countIdle (ageClaims (s.wrap SYS_TIME_TIME 1))) else s

/-- IMAGE_CHECK (R417, R422, R430, R433 to R436, R443, R457): the slot being tried, loaded at 0x10_0000 as requester 38, is
judged once the known-answer tests have finished. -/
def imageCheck (image : List (BitVec 8)) (readError : Bool) (s : State) : State :=
  if s.get SYS_BOOT_STATE = 1 ∧ s.get SEC_STATUS_STATE ≠ 0 then
    let img := slotBytes s image
    let slot := s.boot.slot
    let s := s.inkWrite 38 0x100000 (img.take 33554432) false
    let c := imageCode s img readError
    let s := s.set (if slot = 0 then SYS_BOOT_FAIL0 else SYS_BOOT_FAIL1) c
    if c = 0 then
      let s := s.each (sectionsOf img) (copySection img)
      let s := ((s.set SYS_BOOT_SLOT slot).set SYS_BOOT_SVN (imgLe img 8 2)).set SYS_BOOT_VER_VERSION (imgLe img 0x18 8)
      let s := (s.set SYS_BOOT_STATE 3).set SEC_FW_LISTED (if imageListed img then 0xFF else 0)
      trialStart (refreshApproved (s.modBoot fun b => { b with image := img }))
    else
      let s := s.modBoot fun b => { b with failed := slot :: b.failed, slot := 1 - slot }
      if s.boot.failed.length = 2 then (s.set SYS_BOOT_STATE 4).modBoot fun b => { b with bootFail := true }
      else s.set SYS_BOOT_FALLBACK 1
  else s

def execImageCheck (image : List (BitVec 8)) (readError : Bool) (s : State) : Res := .next (imageCheck image readError s)

/-! ### Scribes -/

/-- A Scribe reset: its registers and CSRs, its reservation, the mailboxes it had taken and its seals; of Scribe 0 also sessions and
SEC_AUTH. Its local memories stay (R316, R331, R336, R408, R409, R439). -/
def scribeResets (s : State) (q : Nat) : State :=
  let s := mbxScribeReset ({ s with scribes := s.scribes.erase q }.bump (SYS_SCR_STATUS_RESETS q) 1) q
  s.iff (q == 0) secScribeReset

/-- RELEASE (R432, R437, R439, R443): refused before FILL_DONE; RELEASE = 0 resets the Scribe and holds it. -/
def release (q : Nat) (run : Bool) (s : State) : State :=
  if run then
    if s.on (SYS_SCR_CTRL_RELEASE q) then s
    else if s.on INK_STATUS_FILL_DONE then
      let s := (s.set (SYS_SCR_CTRL_RELEASE q) 1).set (SYS_SCR_STATUS_RUNNING q) 1
      refreshReady (refreshApproved (s.modScribe q fun c => { c with count := 0, warned := false }))
    else s.ev SYS_EVENT_RELEASE_REFUSED
  else if s.on (SYS_SCR_CTRL_RELEASE q) then
    refreshApproved (scribeResets ((s.set (SYS_SCR_CTRL_RELEASE q) 0).set (SYS_SCR_STATUS_RUNNING q) 0) q)
  else s

def execRelease (q : Fin 8) (run : Bool) (s : State) : Res := .next (s.clocked sysIsland fun s => release q run s)

/-- KICK (R437, R444): Scribe 0 may kick every watchdog, another Scribe its own; a value other than 0x5CA1 is ignored. -/
def kick (who : Requester) (q v : Nat) (s : State) : State :=
  if (who = .scribe 0 ∨ codeOf who = q) ∧ v = 0x5CA1 then s.modScribe q fun c => { c with count := 0, warned := false } else s

def execKick (who : Requester) (q : Fin 8) (value : BitVec 16) (s : State) : Res := .next (s.clocked sysIsland fun s => kick who q value.toNat s)

/-- WDT_TIMEOUT_WRITE (R437): the count runs on, or starts where TIMEOUT leaves 0. -/
def wdtTimeoutWrite (q v : Nat) (s : State) : State :=
  let was := s.get (SYS_SCR_WDT_TIMEOUT q)
  (s.set (SYS_SCR_WDT_TIMEOUT q) v).modScribe q fun c => { c with warned := false, count := if was = 0 ∧ v ≠ 0 then 0 else c.count }

def execWdtTimeoutWrite (q : Fin 8) (value : BitVec 16) (s : State) : Res := .next (s.clocked sysIsland fun s => wdtTimeoutWrite q value.toNat s)

/-- Scribe q's watchdog counts: TIMEOUT is set, the Scribe released and not halted; and its count has come to ms. -/
def wdtAt (s : State) (q ms : Nat) : Bool :=
  s.get (SYS_SCR_WDT_TIMEOUT q) != 0 && s.on (SYS_SCR_STATUS_RUNNING q) && !s.on (SYS_SCR_STATUS_HALTED q) && decide ((s.scribe q).count ≤ ms)

/-- WDT_WARN (R437): ms since the last kick. -/
def wdtWarn (q ms : Nat) (s : State) : State :=
  if wdtAt s q ms then
    let s := s.modScribe q fun c => { c with count := ms }
    if s.get (SYS_SCR_WDT_TIMEOUT q) ≤ ms ∧ (s.scribe q).warned = false then
      ((s.ev SYS_EVENT_WDT_WARN).ev (SYS_SCR_STATUS_WARN q)).modScribe q fun c => { c with warned := true }
    else s
  else s

def execWdtWarn (q : Fin 8) (ms : Nat) (s : State) : Res := .next (wdtWarn q ms s)

/-- WDT_RESET (R392, R437, R439, R443): ms since the last kick; the Scribe restarts, since RELEASE stays 1. -/
def wdtReset (q ms : Nat) (s : State) : State :=
  if wdtAt s q ms = true ∧ 2 * s.get (SYS_SCR_WDT_TIMEOUT q) ≤ ms then
    diagnose (scribeResets ((s.ev SYS_EVENT_WDT_RESET).bump (SYS_SCR_STATUS_WDT_RESETS q) 1) q) 2
  else s

def execWdtReset (q : Fin 8) (ms : Nat) (s : State) : Res := .next (wdtReset q ms s)

/-- SCRIBE_RESET (R439). -/
def execScribeReset (q : Fin 8) (s : State) : Res := .next (s.clocked sysIsland fun s => scribeResets s q)

/-- CHIP_RESET (R441, R443): from Scribe 0 with the key alone; exactly as a RESET_N pulse. -/
def chipResetWrite (who : Requester) (key : Nat) (s : State) : State :=
  if who = .scribe 0 ∧ key = 0xA11C then resetRelease false (resetAssert 50 s) else s

def execChipReset (who : Requester) (key : BitVec 16) (s : State) : Res := .next (s.clocked sysIsland fun s => chipResetWrite who key.toNat s)

/-- CLK_LOSS (R429). -/
def clkLoss (pcie : Bool) (s : State) : State :=
  (s.ev (if pcie then SYS_CLK_STATUS_PCIE_LOSS else SYS_CLK_STATUS_SD_LOSS)).ev SYS_EVENT_CLK_LOSS

def execClkLoss (pcie : Bool) (s : State) : Res := .next (clkLoss pcie s)

/-- SCRIBE_DEBUG_HALT (R24, R423, R437): only that Scribe stops or goes on; it keeps its seals, and its count pauses. -/
def scribeDebugHalt (q : Nat) (halt : Bool) (s : State) : State :=
  if s.on SEC_STATUS_DBG_OPEN then s.set (SYS_SCR_STATUS_HALTED q) (if halt then 1 else 0) else s

def execScribeDebugHalt (q : Fin 8) (halt : Bool) (s : State) : Res := .next (scribeDebugHalt q halt s)

end Sys2Proof.Machine
end

