-- ==== Sys2Proof/Machine/Admission.lean ====
section
/-!
DEFINITION. Chapter 13, first part: the PCIe ports, the resets of a function, doorbells, admission, and power states.
-/

namespace Sys2Proof.Machine

/-! ### Ports and functions -/

/-- PCIE_BIFUR as sampled: two ×8 ports (R340). -/
def bifurcated (s : State) : Bool := s.on (HQ_LINK_STATUS_BIFUR 0)

/-- The functions on a port (R340). -/
def portFns (s : State) (port : Nat) : List Nat := if bifurcated s then [port] else if port = 0 then [0, 1] else []

/-- Queue pairs of function f (R346). -/
def queuePairs (s : State) (f : Nat) : Nat :=
  let n := min 128 (s.get HQ_QP_SPLIT_F0_QPS)
  if f = 0 then n else 128 - n

/-- The power state that function f selects. -/
def fnPs (f : Nat) : Fld := if f = 0 then HQ_PWR_STATUS_F0_PS else HQ_PWR_STATUS_F1_PS

/-- The command that was next when fetch stopped is gone where its queue is. -/
def dropNext (s : State) (f : Nat) : State :=
  s.iff (match s.hq.next with | some e => e.1 == f | none => false) fun s => s.modHq fun h => { h with next := none, noRoom := none }

/-- What every reset of a function does (R331, R336, R350, R380, R408): its commands are dropped and post nothing, data complete
stays in its quires, queues and features are gone, mailboxes, seals and sessions follow. -/
def functionReset (s : State) (f : Nat) : State :=
  let s := dropCmds (dropNext s f) fun c => c.fn == f
  let s := s.modFn f fun h =>
    { h with en := false, rdy := false, shn := 0, shst := 0, sqs := [], cqs := [], features := [], apst := none, aers := [], events := [], aborts := [] }
  closeFunction (mbxFunctionReset (s.set (fnPs f) 0) f) f

/-- CC.EN 1 to 0 (R350). -/
def ccEnFall (f : Nat) (s : State) : State := if (s.fn f).en then (functionReset s f).ev HQ_EVENT_CC_EN_FALL else s

/-- A function level reset (R350): the function's registers and MSI-X table are reset as well. -/
def fnReset (f : Nat) (s : State) : State := ((functionReset s f).modFn f fun _ => {}).ev HQ_EVENT_FLR

/-- The link of a port is down: HQ_EVENT.LINK_DOWN where it was up (R357). -/
def portDown (s : State) (port : Nat) : State :=
  let s := s.iff (s.on (HQ_LINK_STATUS_UP port)) fun s => s.ev HQ_EVENT_LINK_DOWN
  s.set (HQ_LINK_STATUS_UP port) 0

/-- PERST# of a port (R340, R343, R350, R356, R477): as FLR for every function on it; of port B, ignored in 1×16 mode. CFG_READY falls once
no port is out of PERST#. -/
def perst (port : Nat) (s : State) : State :=
  if portFns s port = [] then s.modHq fun h => { h with perst := port :: h.perst.filter (· != port) }
  else
    let s := (s.each (portFns s port) fun s f => (functionReset s f).modFn f fun _ => {}).ev HQ_EVENT_PERST
    let s := (portDown s port).modHq fun h => { h with perst := port :: h.perst.filter (· != port), training := h.training.filter (· != port) }
    s.iff (!bifurcated s || s.hq.perst.length == 2) fun s => s.set HQ_CTRL_CFG_READY 0

/-- A reset that arrives during an activation waits for it to complete (R356). -/
def resetOrHold (s : State) (kind x : Nat) (k : State → State) : State :=
  if s.hq.activation.isSome then s.modHq fun h => { h with heldResets := h.heldResets ++ [(kind, x)] } else k s

/-- The resets that waited act, in order (R356). -/
def runHeld (s : State) : State :=
  let l := s.hq.heldResets
  (s.modHq fun h => { h with heldResets := [] }).each l fun s e =>
    if e.1 = 0 then ccEnFall e.2 s else if e.1 = 1 then fnReset e.2 s else perst e.2 s

/-- PERST_ASSERT (R340, R350, R356, R439, R484). -/
def execPerstAssert (port : Fin 2) (s : State) : Res := .next (resetOrHold s 2 port (perst port))

/-- PERST_RELEASE (R340, R343, R431, R443): port A's release samples PCIE_BIFUR; training starts, or waits for RESET_N. -/
def perstRelease (port : Nat) (bifur : Bool) (s : State) : State :=
  let b := if bifur then 1 else 0
  let s := s.iff (port == 0) fun s => (s.set (HQ_LINK_STATUS_BIFUR 0) b).set (HQ_LINK_STATUS_BIFUR 1) b
  s.modHq fun h =>
    { h with
      perst := h.perst.filter (· != port)
      training := if s.boot.low then h.training else port :: h.training.filter (· != port) }

def execPerstRelease (port : Fin 2) (bifur : Bool) (s : State) : Res := .next (perstRelease port bifur s)

/-- CFG_READY_WRITE (R343, R430). -/
def execCfgReadyWrite (ready : Bool) (s : State) : Res := .next (s.clocked hqIsland fun s => s.set HQ_CTRL_CFG_READY (if ready then 1 else 0))

/-- PCIE_CONFIG_REQUEST (R343, R431): answered by Configuration Request Retry Status until CFG_READY is 1. -/
def execPcieConfigRequest (f : Fin 2) (s : State) : Res := .next (s.modFn f fun h => { h with crs := !s.on HQ_CTRL_CFG_READY })

/-- PCIE_LINK_UP (R340): a port that trains reaches L0 at a generation and a width it supports. -/
def pcieLinkUp (port gen width : Nat) (flit : Bool) (s : State) : State :=
  let most := if bifurcated s then 8 else 16
  if s.hq.training.contains port = true ∧ portFns s port ≠ [] ∧ 3 ≤ gen ∧ gen ≤ 6 ∧ [1, 2, 4, 8, 16].contains width = true ∧ width ≤ most then
    let s := ((s.set (HQ_LINK_STATUS_UP port) 1).set (HQ_LINK_STATUS_GEN port) gen).set (HQ_LINK_STATUS_WIDTH port) width
    (s.set (HQ_LINK_STATUS_FLIT port) (if flit || gen == 6 then 1 else 0)).modHq fun h => { h with training := h.training.filter (· != port) }
  else s

def execPcieLinkUp (port : Fin 2) (gen : Fin 16) (width : Fin 17) (flit : Bool) (s : State) : Res := .next (pcieLinkUp port gen width flit s)

/-- PCIE_LINK_DOWN (R357): the port trains again. -/
def pcieLinkDown (port : Nat) (s : State) : State :=
  if s.on (HQ_LINK_STATUS_UP port) then (portDown s port).modHq fun h => { h with training := port :: h.training.filter (· != port) } else s

def execPcieLinkDown (port : Fin 2) (s : State) : Res := .next (pcieLinkDown port s)

/-- CC_EN_SET (R343, R344): the admin queues that AQA sizes exist from now on; CSTS.RDY follows. -/
def ccEnSet (f : Nat) (s : State) : State :=
  if (s.fn f).en then s
  else
    refreshReady (s.modFn f fun h =>
      { h with
        en := true
        sqs := h.sqs.insert 0 { cq := 0, size := min 256 (h.aqa % 4096 + 1) }
        cqs := h.cqs.insert 0 { size := min 256 (h.aqa / 65536 % 4096 + 1), vector := 0, ien := true } })

def execCcEnSet (f : Fin 2) (s : State) : Res := .next (s.clocked hqIsland fun s => ccEnSet f s)

/-- CC_EN_CLEAR (R331, R336, R350, R356, R380, R439). -/
def execCcEnClear (f : Fin 2) (s : State) : Res := .next (s.clocked hqIsland fun s => resetOrHold s 0 f (ccEnFall f))

/-- FLR (R331, R336, R350, R356, R408, R439). -/
def execFlr (f : Fin 2) (s : State) : Res := .next (resetOrHold s 1 f (fnReset f))

/-- SHN_NORMAL (R350): fetch of the function stops, admitted commands complete, and then every namespace is flushed. -/
def shnNormal (f : Nat) (s : State) : State :=
  settle ((s.modFn f fun h => { h with shn := 1, shst := 1, shnAt := s.get HQ_ADM_SEQ_SEQ }).ev HQ_EVENT_SHN)

def execShnNormal (f : Fin 2) (s : State) : Res := .next (s.clocked hqIsland fun s => shnNormal f s)

/-- SHN_ABRUPT (R350): nothing is posted any more. Admitted writes go on, while power remains. -/
def shnAbrupt (f : Nat) (s : State) : State :=
  ((dropCmds s fun c => c.fn == f && !(match c.lock with | some x => x.write | none => false)).modFn f fun h => { h with shn := 2, shst := 2 }).ev HQ_EVENT_SHN

def execShnAbrupt (f : Fin 2) (s : State) : Res := .next (s.clocked hqIsland fun s => shnAbrupt f s)

/-- QP_SPLIT_WRITE (R346): only while CC.EN is 0 on both functions. -/
def qpSplitWrite (v : Nat) (s : State) : State := if (s.fn 0).en || (s.fn 1).en then s else s.set HQ_QP_SPLIT_F0_QPS v

def execQpSplitWrite (value : BitVec 8) (s : State) : Res := .next (s.clocked hqIsland fun s => qpSplitWrite value.toNat s)

/-! ### Doorbells -/

/-- The asynchronous events of an invalid doorbell register and of an invalid doorbell value. -/
def badDoorbell (register : Bool) : Nat := if register then 0x010000 else 0x010100

/-- Entries that the host has taken leave a completion queue, and completions that waited for room are posted. -/
def cqHead (s : State) (f y v : Nat) (c : Cq) : State :=
  let n := (v + c.size - c.head) % max 1 c.size
  let s := s.modFn f fun h => { h with cqs := h.cqs.insert y { c with head := v, entries := c.entries.drop n, waiting := [] } }
  s.each c.waiting fun s e => postCqe s f y e

/-- DOORBELL (R346, R347, R356, R488, R491): dropped while the controller is not enabled; a queue that is not there, or a value
beyond it, is an invalid doorbell. -/
def doorbell (f y : Nat) (isCq : Bool) (v : Nat) (s : State) : State :=
  let h := s.fn f
  if h.en = false then s
  else if isCq then
    match h.cqs.find? y with
    | none => asyncEvent s f (badDoorbell true)
    | some c => if c.size ≤ v ∨ c.entries.length < (v + c.size - c.head) % max 1 c.size then asyncEvent s f (badDoorbell false) else cqHead s f y v c
  else
    match h.sqs.find? y with
    | none => asyncEvent s f (badDoorbell true)
    | some q =>
      if q.size ≤ v then asyncEvent s f (badDoorbell false)
      else (s.modFn f fun h => { h with sqs := h.sqs.insert y { q with tail := v } }).iff (v != q.head) fun s => s.set (HQ_IDLE_MS f) 0

def execDoorbell (f : Fin 2) (y : Nat) (isCq : Bool) (value : BitVec 16) (s : State) : Res := .next (s.clocked hqIsland fun s => doorbell f y isCq value.toNat s)

/-! ### Admission (R347, R373, R374) -/

/-- The range-lock entry of a command (R373): a Deallocate locks the least range that covers its ranges. -/
def lockOf : NvmeCmd → Option Lock
  | .read n a k => some { nsid := n, lo := a, hi := a + k, write := false }
  | .compare n a k => some { nsid := n, lo := a, hi := a + k, write := false }
  | .write n a k _ => some { nsid := n, lo := a, hi := a + k, write := true }
  | .writeZeroes n a k => some { nsid := n, lo := a, hi := a + k, write := true }
  | .deallocate n l =>
    match l with
    | [] => some { nsid := n, lo := 0, hi := 0, write := true }
    | (a, k) :: r => some { nsid := n, lo := r.foldl (fun m e => min m e.1) a, hi := r.foldl (fun m e => max m (e.1 + e.2)) (a + k), write := true }
  | _ => none

/-- Two range-lock entries conflict (R373). -/
def Lock.conflicts (x y : Lock) : Bool := x.nsid == y.nsid && decide (x.lo < y.hi) && decide (y.lo < x.hi) && (x.write || y.write)

/-- An entry that conflicts with a lock is held by a command admitted before number a (R374). -/
def lockedBefore (s : State) (a : Nat) (x : Lock) : Bool :=
  s.hq.cmds.any fun (e : Nat × Admitted) => decide (e.1 < a) && (match e.2.lock with | some y => x.conflicts y | none => false)

/-- LBAs of data that a Write brings. -/
def writeLbas : NvmeCmd → Option Nat
  | .write _ _ k _ => some k
  | _ => none

/-- Remove the first element that equals x. -/
def dropOne (x : Nat × Nat) : List (Nat × Nat) → List (Nat × Nat)
  | [] => []
  | y :: r => if y = x then r else y :: dropOne x r

/-- The head of queue q of function f moves on. -/
def sqAdvance (s : State) (f q : Nat) : State :=
  s.modFn f fun h => { h with sqs := match h.sqs.find? q with | some x => h.sqs.insert q { x with head := (x.head + 1) % max 1 x.size } | none => h.sqs }

/-- The power state that the device is to run in (R352, R449, R453): the lower-numbered of the functions' states, and at least PS2
while HOT. -/
def wantedPs (s : State) : Nat :=
  let t := min (s.get HQ_PWR_STATUS_F0_PS) (s.get HQ_PWR_STATUS_F1_PS)
  if s.on SYS_TH_STATUS_HOT then max 2 t else t

/-- Functions in a non-operational state go back to an operational one: out of PS3 and PS4 to the one the host last selected (R353), and
during the entry to them to the one the device is still in (R356). -/
def wakeUp (s : State) : State :=
  let ps := s.get HQ_PWR_STATUS_PS
  let back := if ps < 3 then ps else s.hq.lastOp
  s.each [0, 1] fun s f => s.iff (decide (3 ≤ s.get (fnPs f))) fun s => s.set (fnPs f) back

/-- ADMIT (R346 to R348, R353, R355, R356, R373, R374, R379): the next command in round order, unless fetch is stopped. -/
def admitNext (cid : Nat) (cmd : NvmeCmd) (s : State) : State :=
  match nextQueue s with
  | none => s
  | some (f, q) =>
    if (s.fn f).aborts.contains (q, cid) then
      (sqAdvance s f q).modFn f fun h => { h with aborts := dropOne (q, cid) h.aborts }
    else
      let s := refreshStall (s.modHq fun h => { h with noRoom := writeLbas cmd })
      if s.get HQ_ADMIT_STALL ≠ 0 then s
      else
        let a := s.get HQ_ADM_SEQ_SEQ
        let lock := lockOf cmd
        let waits := match lock with | some x => lockedBefore s a x | none => false
        let s := (sqAdvance s f q).wrap HQ_ADM_SEQ_SEQ 1
        let s := s.modHq fun h =>
          { h with
            noRoom := none
            next := none
            round := (f, q, if h.round.1 = f ∧ h.round.2.1 = q ∧ h.round.2.2 < burstOf s f then h.round.2.2 + 1 else 1)
            cmds := h.cmds.insert a { fn := f, sq := q, cid := cid, cmd := cmd, lock := lock, waited := waits } }
        let s := (s.set (HQ_IDLE_MS f) 0).iff waits fun s => s.bump HQ_RL_CNT_CONFLICTS 1
        let s := s.iff (q != 0 && s.on HQ_PWR_STATUS_TRANSITION && decide (3 ≤ s.get HQ_PWR_STATUS_TARGET)) wakeUp
        refreshStall s

def execAdmitNext (cid : BitVec 16) (cmd : NvmeCmd) (s : State) : Res := .next (admitNext cid.toNat cmd s)

/-- RANGE_LOCK_RELEASE (R374): the entry of a command that has completed or been aborted is released. -/
def rangeLockRelease (a : Nat) (s : State) : State :=
  match s.cmd? a with
  | some c => if c.over_ then refreshStall (s.modHq fun h => { h with cmds := h.cmds.erase a }) else s
  | none => s

def execRangeLockRelease (adm : Nat) (s : State) : Res := .next (rangeLockRelease adm s)

/-! ### Power states (R352 to R355) -/

/-- Write a set point of every spindle, keeping its ramp; a staged one is raised to 7,200 rpm at AT_SPEED (R354). -/
def setSpeeds (s : State) (rpm : Nat) (staged : Bool) : State :=
  s.each (List.range 8) fun s k => spSetWrite k (rpm + s.get (MOT_SP_SET_RAMP k) * 2 ^ 16) (s.modSp k fun p => { p with staged := staged })

/-- Focus of every supervised pen is retracted. -/
def retractAll (s : State) : State :=
  s.each (List.range 16) fun s n => s.iff (s.on (SV_CTRL_SUP_EN n) && focusOf s n != fOff && focusOf s n != fRetract && focusOf s n != fLost) fun s => enterRetract s n

/-- Enable or disable every Ndoura port. -/
def allPorts (s : State) (on : Bool) : State := s.each (List.range 16) fun s n => lkEnableWrite n on s

/-- Every sled whose position is known moves to its park position, or out of it (R352, R354). DESIGN CHOICE (assumption 127): firmware does so by
a move in POSITION; where to is left open. -/
def parkSleds (s : State) (out : Bool) : State :=
  s.each (List.range 16) fun s n => s.iff (s.get (DUC_SL_STATUS_POS_STATE n) == 1) fun s =>
    let t := clampInt (toSigned 32 (s.get (DUC_SL_SOFT_MIN_LIMIT n))) (toSigned 32 (s.get (DUC_SL_SOFT_MAX_LIMIT n))) (Config.parkPosition n out).toInt
    sledTargetWrite n (ofSigned 32 t) (sledModeWrite n slPosition (s.set (DUC_SL_CTRL_JOG n) 0))

/-- A sprint that ends (R448, R453). -/
def endSprint (s : State) : State :=
  if s.on SYS_TH_STATUS_SPRINTING then (s.set SYS_TH_STATUS_SPRINTING 0).set SYS_EVENT_THERMAL (s.get SYS_EVENT_THERMAL ||| 2) else s

/-- What the module is told at the start of a transition (R27, R308, R352, R354): out of PS3 and PS4 every spindle goes to
3,600 rpm first, and to 7,200 rpm from there where the target is PS0 or PS1; only PS0 allows a sprint (R352, R453). -/
def startTransition (s : State) (source target : Nat) : State :=
  let s := ((s.set HQ_PWR_STATUS_TRANSITION 1).set HQ_PWR_STATUS_TARGET target).iff (target != 0) endSprint
  if 3 ≤ target then if 3 ≤ source then (if target = 3 then srExitStart s else s) else setSpeeds (allPorts (parkSleds (retractAll s) false) false) 0 false
  else
    let s := s.iff (source == 4) srExitStart
    if 3 ≤ source then setSpeeds (allPorts (parkSleds s true) true) 3600 (target != 2)
    else if target = 2 then setSpeeds (retractAll s) 3600 false
    else if source = 2 then (if 3 ≤ s.get HQ_PWR_STATUS_PS then setSpeeds s 3600 true else setSpeeds s 7200 false)
    else s

/-- Every admitted write is committed (R354). -/
def allCommitted (s : State) : Bool :=
  (s.ledger.quires.all fun (e : Nat × Quire) => e.2.committed || e.2.runs.isEmpty) &&
    s.hq.cmds.all fun (e : Nat × Admitted) => e.2.over_ || (match e.2.lock with | some x => !x.write | none => true)

/-- POWER_STATE_CHANGE (R27, R93, R308, R352 to R354, R356, R449): a transition starts, or the one in progress is completed; one to
PS3 or PS4 waits for every admitted write, and one whose target is no longer wanted turns back. -/
def powerStateChange (s : State) : State :=
  let t := wantedPs s
  if s.on HQ_PWR_STATUS_TRANSITION then
    if t = s.get HQ_PWR_STATUS_TARGET then
      let s := (((s.set HQ_PWR_STATUS_PS t).set HQ_PWR_STATUS_TRANSITION 0).ev HQ_EVENT_PS_CHANGE)
      refreshLdpc (s.iff (t == 4) srEnter)
    else if 3 ≤ t ∧ allCommitted s = false then s
    else startTransition s (s.get HQ_PWR_STATUS_TARGET) t
  else if t = s.get HQ_PWR_STATUS_PS then s
  else if 3 ≤ t ∧ allCommitted s = false then s
  else startTransition s (s.get HQ_PWR_STATUS_PS) t

def execPowerStateChange (s : State) : Res := .next (powerStateChange s)

/-- The APST table in force for function f: the table set, or the firmware's defaults (R355). -/
def apstTable (s : State) (f : Nat) : List Nat :=
  (s.fn f).apst.getD [2 * 8 + 30000 * 256, 2 * 8 + 30000 * 256, 3 * 8 + 300000 * 256, 4 * 8 + 1800000 * 256]

/-- APST_DUE (R355, R356): the idle period of function f, as HQ_IDLE_f counts it, may have reached the entry of its present state. -/
def apstDue (f : Nat) (s : State) : State :=
  if isIdle s f then
    let ms := s.get (HQ_IDLE_MS f)
    let e := (apstTable s f).getD (s.get (fnPs f)) 0
    if (s.fn f).features.getD 0xC 1 % 2 = 1 ∧ field e 8 24 ≠ 0 ∧ field e 8 24 ≤ ms ∧ s.get (fnPs f) < field e 3 5 ∧ field e 3 5 ≤ 4 then
      (s.set (fnPs f) (field e 3 5)).ev HQ_EVENT_APST_DUE
    else s
  else s

def execApstDue (f : Fin 2) (s : State) : Res := .next (apstDue f s)

/-- AUTONOMOUS_EXIT (R353, R356): an I/O command waits in PS3 or PS4; an exit that is under way goes on. -/
def autonomousExit (s : State) : State :=
  if (s.hq.cmds.any fun (e : Nat × Admitted) => e.2.sq != 0 && !e.2.over_) = true ∧
      (3 ≤ s.get HQ_PWR_STATUS_PS ∨ (s.on HQ_PWR_STATUS_TRANSITION = true ∧ 3 ≤ s.get HQ_PWR_STATUS_TARGET)) then
    let s := wakeUp s
    s.iff (decide (wantedPs s < 3) && !(s.on HQ_PWR_STATUS_TRANSITION && s.get HQ_PWR_STATUS_TARGET == wantedPs s)) fun s =>
      startTransition s (if s.on HQ_PWR_STATUS_TRANSITION then s.get HQ_PWR_STATUS_TARGET else s.get HQ_PWR_STATUS_PS) (wantedPs s)
  else s

def execAutonomousExit (s : State) : Res := .next (autonomousExit s)

end Sys2Proof.Machine
end

