-- ==== Sys2Proof/Machine/Nvme.lean ====
section
/-!
DEFINITION. Chapter 13, second part: what admitted commands do, and the commit of a quire (R344 to R349, R351, R367, R374 to
R378, R455 to R457).
-/

namespace Sys2Proof.Machine

/-! ### How a command begins -/

/-- The kinds of command: those below 6 belong to I/O queues, the others to admin queues; 22 is none that R345 lists. -/
def kindOf : NvmeCmd → Nat
  | .read .. => 0
  | .write .. => 1
  | .compare .. => 2
  | .writeZeroes .. => 3
  | .deallocate .. => 4
  | .flush .. => 5
  | .identify .. => 6
  | .getLogPage .. => 7
  | .getFeatures .. => 8
  | .setFeatures .. => 9
  | .createCq .. => 10
  | .createSq .. => 10
  | .deleteSq .. => 11
  | .deleteCq .. => 11
  | .abort .. => 12
  | .asyncEvent => 13
  | .nsCreate .. => 14
  | .nsDelete .. => 14
  | .nsAttach .. => 15
  | .format .. => 16
  | .sanitize .. => 17
  | .fwDownload .. => 18
  | .fwCommit .. => 19
  | .securitySend .. => 20
  | .securityReceive .. => 21
  | .other .. => 22

/-- Spindle k is media-ready (R354): it measures 3,600 rpm, and its pens have focus, tracking and the ruling locked. -/
def mediaReady (s : State) (k : Nat) : Bool :=
  decide (3600 * 16 ≤ s.get (MOT_SP_SPEED_MEAS k)) && [2 * k, 2 * k + 1].all fun n =>
    focusOf s n == fLocked && trackOf s n == tLocked && s.get (RUL_STATUS_STATE n) == rulLocked

/-- The discs on which an LBA is to be read. -/
def discsAt (s : State) (n lba : Nat) : List Nat :=
  match (resolve s n lba).1 with
  | .run e _ => if runType e.1 = 0 then [field e.2 32 9] else []
  | .slow | .fault => match slowRuns s n lba 1 with | some l => l.map (·.disc) | none => []
  | _ => []

/-- The media are there for a command: out of PS3 and PS4 once the exit is complete, and for a Read or Compare before that, where the
spindle of every disc it reads is media-ready (R353, R354). -/
def mediaThere (s : State) (c : Admitted) : Bool :=
  decide (s.get HQ_PWR_STATUS_PS < 3) || (!asleep s && match c.lock with
    | some x =>
      let l := (List.range (x.hi - x.lo)).flatMap fun i => discsAt s x.nsid (x.lo + i)
      !x.write && !l.isEmpty && l.all fun d => match disc? s d with | some y => mediaReady s y.spindle | none => false
    | none => false)

/-- Run an I/O command of a kind that may begin: its lock is free of earlier conflicting entries, no activation has stopped the host
side, and the media are there (R351, R353, R374). `again` admits a command that has begun; a Flush that waits has not (R348). -/
def startIo (kind : Nat) (again : Bool) (a : Nat) (s : State) (k : Admitted → State → State) : State :=
  match s.cmd? a with
  | none => s
  | some c =>
    let held := match c.lock with | some x => lockedBefore s a x | none => false
    if kindOf c.cmd != kind || c.over_ || c.sq == 0 || (c.began && !again) || c.dataWhole || held || (s.fn c.fn).pp || !mediaThere s c then s
    else settle (k c (modCmd s a fun c => { c with began := kind != 5 }))

/-- Run an admin command of a kind. -/
def startAdmin (kind a : Nat) (s : State) (k : Admitted → State → State) : State :=
  match s.cmd? a with
  | none => s
  | some c => if kindOf c.cmd != kind || c.over_ || c.sq != 0 || c.began || (s.fn c.fn).pp then s else settle (k c s)

/-- Namespace n is attached to function f. -/
def attached (s : State) (f n : Nat) : Bool := match s.hq.nss.find? n with | some x => x.ctrls.testBit f | none => false

/-- The status that ends an I/O command before it does anything (R400; the path, the namespace, the LBAs, MDTS); none where it goes
on. -/
def ioError (s : State) (f n hi count : Nat) : Option Nat :=
  match anaOf s with
  | .inaccessible => some ncInaccessible
  | .change => some ncTransition
  | .optimized =>
    if attached s f n = false then some ncNamespace
    else if 16384 < count then some ncField
    else if (match s.hq.nss.find? n with | some x => x.size | none => 0) < hi then some ncRange
    else none

/-- Go on unless a status ends the command. -/
def unlessError (a : Nat) (s : State) (e : Option Nat) (k : State → State) : State :=
  match e with
  | some st => completeCmd s a st 0
  | none => k s

/-! ### Read and Compare -/

/-- What one LBA reads as. -/
inductive Got where
  | data (b : List (BitVec 8))
  /-- The data comes from the media: the next item that the read brings. -/
  | media
  | bad
  | notReady
  | range
  deriving DecidableEq, Repr

/-- A block of zeros. -/
def zeroBlock : List (BitVec 8) := List.replicate 4096 0

/-- What a SLOW LBA resolves to (R371, R372). -/
def slowLba (s : State) (n lba : Nat) : Got :=
  match slowRuns s n lba 1 with
  | none => .notReady
  | some [] => .data zeroBlock
  | some _ => .media

/-- What an LBA reads as (R363, R365, R367, R371): overlay data, the media, or zeros. -/
def lbaAt (s : State) (n lba : Nat) : Got :=
  match (resolve s n lba).1 with
  | .run e _ =>
    if runType e.1 = 2 then .data zeroBlock
    else if runType e.1 = 1 then
      let a := field e.2 12 28 * 4096 + 4096 * (lba - runLba e.1)
      if s.anyPoison a 4096 then .bad else .data (s.bytesAt a 4096)
    else .media
  | .gap _ => .data zeroBlock
  | .slow | .fault => slowLba s n lba
  | .range => .range

/-- A media read to an address is under way: a READ descriptor that is to fill it has not completed, or its codeword is still in the
pool or on the ladder (R110, R127). -/
def awaited (s : State) (a : Nat) : Bool :=
  (s.ldpc.cws.any fun (e : Nat × Cw) => e.2.dest == a && !e.2.verify && !e.2.row)
    || s.wc.any fun (e : Nat × Wc) => e.2.group.any fun d => d.kind == 0 && !d.done && decide (d.data ≤ a) && decide (a < d.data + 65536)

/-- What a range of LBAs yields: its data, the status that stops it, or nothing yet. -/
inductive Gathered where
  | data (b : List (BitVec 8))
  | stop (status : Nat)
  | wait
  deriving DecidableEq, Repr

/-- Data in front of what the rest of a range yields. -/
def Gathered.after (b : List (BitVec 8)) : Gathered → Gathered
  | .data l => .data (b ++ l)
  | g => g

/-- A status in front of what the rest of a range yields: the command ends once its last codeword is delivered (R110, R111). -/
def Gathered.failing (st : Nat) : Gathered → Gathered
  | .wait => .wait
  | _ => .stop st

/-- The data of a range of LBAs; `media` names the 4 KiB of read staging that each LBA on the media is delivered to, in order. Staging
that carries the poison mark is an Unrecovered Read Error (R111); a range waits until its media reads have been made and delivered
(R110). -/
def gather (s : State) (n : Nat) : Nat → Nat → List Nat → Gathered
  | 0, _, _ => .data []
  | k + 1, lba, media =>
    match lbaAt s n lba with
    | .data b => (gather s n k (lba + 1) media).after b
    | .media =>
      match media with
      | a :: r =>
        if awaited s a then .wait
        else if inkLimit ≤ a ∨ s.anyPoison a 4096 = true then (gather s n k (lba + 1) r).failing ncUnrecovered
        else (gather s n k (lba + 1) r).after (s.bytesAt a 4096)
      | [] => .wait
    | .bad => (gather s n k (lba + 1) media).failing ncUnrecovered
    | .notReady => .stop ncNotReady
    | .range => .stop ncRange

/-- Host DMA reads staging as its function's requester: an address in the check-region window is recorded (R288). -/
def dmaReads (s : State) (f : Nat) (media : List Nat) : State := s.each media fun s a => s.reads (32 + f) a

/-- What a lookup of a range asks of Scribe 5: SLOW spans to the front of the build order, and spans that gave a FAULT rebuilt (R365, R371,
R380). -/
def askSpans (s : State) (n lba k : Nat) : State :=
  let faults := (List.range k).filter fun i => (resolve s n (lba + i)).1 == .fault
  (pullSpans s n lba k).each faults fun s i => askRebuild s n (lba + i)

/-- READ (R110, R111, R345, R353, R354, R365, R367, R371, R374, R375, R400). -/
def readCmd (a : Nat) (media : List Nat) (s : State) : State :=
  startIo 0 true a s fun c s =>
    match c.cmd with
    | .read n lba k =>
      unlessError a s (ioError s c.fn n (lba + k) k) fun s =>
        let s := askSpans s n lba k
        match gather s n k lba media with
        | .wait => s
        | .stop st => completeCmd (dmaReads s c.fn media) a st 0
        | .data b => completeCmd ((dmaReads s c.fn media).modFn c.fn fun h => { h with dma := b }) a ncOk 0
    | _ => s

def execReadCmd (adm : Nat) (media : List (BitVec 40)) (s : State) : Res := .next (readCmd adm (media.map BitVec.toNat) s)

/-- COMPARE (R110, R111, R345, R374). -/
def compare (a : Nat) (data : List (BitVec 8)) (media : List Nat) (s : State) : State :=
  startIo 2 true a s fun c s =>
    match c.cmd with
    | .compare n lba k =>
      unlessError a s (ioError s c.fn n (lba + k) k) fun s =>
        let s := askSpans s n lba k
        match gather s n k lba media with
        | .wait => s
        | .stop st => completeCmd (dmaReads s c.fn media) a st 0
        | .data b => completeCmd (dmaReads s c.fn media) a (if b = data then ncOk else ncCompare) 0
    | _ => s

def execCompare (adm : Nat) (data : List (BitVec 8)) (media : List (BitVec 40)) (s : State) : Res :=
  .next (compare adm data (media.map BitVec.toNat) s)

/-! ### Write and the commands that unmap -/

/-- A range of LBAs divided at multiples of w. -/
def chunks (w lba count : Nat) : List (Nat × Nat) :=
  if count = 0 then []
  else (List.range ((lba + count - 1) / w - lba / w + 1)).map fun i =>
    let lo := max lba ((lba / w + i) * w)
    (lo, min (lba + count) ((lba / w + i + 1) * w) - lo)

/-- Codewords that a run needs: one for each LBA of data (R119). -/
def QRun.cws (r : QRun) : Nat := if r.addr.isSome then r.count else 0

/-- The entries of a quire's runs with one more run, which trims those it overlaps (R123, R368). -/
def Quire.put (x : Quire) (r : QRun) : List QRun :=
  (x.runs.flatMap fun o =>
    if o.nsid = r.nsid then (leftOver o.lba o.count r.lba r.count).map fun p => { o with lba := o.lba + p.1, count := p.2, addr := o.addr.map fun a => a + 4096 * p.1 }
    else [o]) ++ [r]

/-- An open quire takes a run where its 16,384 codewords and the 3,824 entries of its Colophon have room for it (R119, R123). -/
def Quire.takes (x : Quire) (r : QRun) : Bool :=
  x.isOpen && decide (x.used + r.cws ≤ 16384) && decide ((x.put r).length ≤ 3824)

/-- A quire with one more run; it closes when its codewords or its entries are full (R123, R376, R379). -/
def Quire.add (x : Quire) (r : QRun) : Quire :=
  let runs := x.put r
  { x with
    runs := runs
    used := x.used + r.cws
    took := x.took ++ [(r.adm, r.nsid)]
    isOpen := x.isOpen && decide (x.used + r.cws < 16384) && decide (runs.length < 3824) }

/-- Quire q, new where no quire in flight has that number. -/
def quireAt (s : State) (q : Nat) : Quire := (s.ledger.quires.find? q).getD {}

/-- A quire takes a run, of at most 16,384 LBAs. -/
def addRun (s : State) (q : Nat) (r : QRun) : State := s.modLdg fun l => { l with quires := l.quires.insert q ((quireAt s q).add r) }

/-- Quires take runs one after another. -/
def takesAll : Store Quire → List (Nat × QRun) → Bool
  | _, [] => true
  | l, (q, r) :: rest => let x := (l.find? q).getD {}; x.takes r && takesAll (l.insert q (x.add r)) rest

/-- Quire q where it takes a run, else the next number whose quire does. -/
def takingQuire (s : State) (q : Nat) (r : QRun) : Nat :=
  (((List.range (s.ledger.quires.length + 1)).map (q + ·)).find? fun k => (quireAt s k).takes r).getD q

/-- Close quires with the flag that says a Flush closed them (R122, R349, R377). -/
def closeQuires (s : State) (qs : List Nat) : State :=
  s.modLdg fun l => { l with quires := l.quires.map fun (e : Nat × Quire) =>
    (e.1, if qs.contains e.1 && e.2.isOpen then { e.2 with isOpen := false, byFlush := true } else e.2) }

/-- Write data of command a enters the Inkwell from function f; while the link is UP, it is copied to the partner as it enters, up to
4 KiB a message, DEGRADED or not (R14, R388, R389, R399). -/
def teeWrite (a f : Nat) (s : State) (buf : Nat) (data : List (BitVec 8)) : State :=
  let s := s.inkWrite (32 + f) buf data false
  s.iff (versoUp s) fun s => s.each ((List.range ((data.length + 4095) / 4096)).map (4096 * ·)) fun s o =>
    modCmd (sendVerso s (.writeData (buf + o) ((data.drop o).take 4096))) a fun c => { c with acks := (buf + o) :: c.acks, record := true }

/-- One part of a Write: its data goes to the quire buffer, and to the partner, and its run into the overlay (R376, R378, R390). -/
def writePart (a f n : Nat) (s : State) (p : (Nat × Nat) × List (BitVec 8) × (Nat × Nat × Nat)) : State :=
  let ((lba, count), data, (q, buf, block)) := p
  let s := teeWrite a f s buf data
  let s := addRun s q { adm := a, nsid := n, lba := lba, count := count, addr := some buf }
  let span := lba / spanLbas
  putOverlay s n span block (oput (overlayOf s n span) { lba := lba, count := count, addr := some buf })

/-- The run that each part of a Write puts into its quire (R376, R378). -/
def partRuns (a n : Nat) (pieces : List (Nat × Nat)) (parts : List (Nat × Nat × Nat)) : List (Nat × QRun) :=
  (pieces.zip parts).map fun (e : (Nat × Nat) × Nat × Nat × Nat) => (e.2.1, { adm := a, nsid := n, lba := e.1.1, count := e.1.2, addr := some e.2.2.1 })

/-- WRITE_CMD (R14, R345, R353, R374 to R378, R390, R399): each part is a piece of the Write between 16,384-LBA boundaries, with its quire, its
buffer and a place for the span's new overlay block; one of more than 16,384 LBAs is divided like any other. Data that is not whole waits
in the first buffer. -/
def writeCmd (a : Nat) (data : List (BitVec 8)) (parts : List (Nat × Nat × Nat)) (s : State) : State :=
  startIo 1 true a s fun c s =>
    match c.cmd with
    | .write n lba k fua =>
      unlessError a s (ioError s c.fn n (lba + k) 0) fun s =>
        let pieces := chunks 16384 lba k
        if pieces.length ≠ parts.length ∨ takesAll s.ledger.quires (partRuns a n pieces parts) = false then s
        else if data.length < 4096 * k then
          match parts with
          | e :: _ => teeWrite a c.fn s e.2.1 data
          | [] => s
        else
          let datas := pieces.map fun (e : Nat × Nat) => (data.drop (4096 * (e.1 - lba))).take (4096 * e.2)
          let s := s.each (pieces.zip (datas.zip parts)) (writePart a c.fn n)
          let qs := parts.map (·.1)
          modCmd (s.iff fua fun s => closeQuires s qs) a fun c => { c with dataWhole := true, quires := if fua then qs else [] }
    | _ => s

def execWriteCmd (adm : Nat) (data : List (BitVec 8)) (parts : List (Nat × BitVec 40 × BitVec 40)) (s : State) : Res :=
  .next (writeCmd adm data (parts.map fun (e : Nat × BitVec 40 × BitVec 40) => (e.1, e.2.1.toNat, e.2.2.toNat)) s)

/-- The spans that ranges of LBAs touch, each once, ascending. -/
def rangeSpans (l : List (Nat × Nat)) : List Nat :=
  (l.flatMap fun e => spansOf e.1 e.2).foldl (fun acc k => addKey k acc) []

/-- The parts of ranges that lie in a span, in runs of at most 65,536 LBAs. -/
def rangesIn (l : List (Nat × Nat)) (span : Nat) : List (Nat × Nat) :=
  l.flatMap fun e =>
    let lo := max e.1 (span * spanLbas)
    let hi := min (e.1 + e.2) ((span + 1) * spanLbas)
    if lo < hi then chunks 65536 lo (hi - lo) else []

/-- Ranges of a namespace become UNMAPPED in the overlay, one new block for each span, and go into a quire as unmapping entries, of
which a record has 3,824; what is left goes into the next quire that takes runs (R123, R345, R376). -/
def unmapRanges (a n q : Nat) (l : List (Nat × Nat)) (blocks : List Nat) (s : State) : State :=
  let s := s.each ((rangeSpans l).zip blocks) fun s e =>
    putOverlay s n e.1 e.2 ((rangesIn l e.1).foldl (fun o r => oput o { lba := r.1, count := r.2, addr := none }) (overlayOf s n e.1))
  s.each (l.flatMap fun e => chunks 16384 e.1 e.2) fun s r =>
    let run : QRun := { adm := a, nsid := n, lba := r.1, count := r.2, addr := none }
    addRun s (takingQuire s q run) run

/-- Unmap ranges for command a, which then has nothing left to wait for; not before the quire and a block for each span are there. -/
def unmapFor (a n q : Nat) (l : List (Nat × Nat)) (blocks : List Nat) (s : State) : State :=
  if (quireAt s q).isOpen = true ∧ (rangeSpans l).length = blocks.length then modCmd (unmapRanges a n q l blocks s) a fun c => { c with dataWhole := true } else s

/-- WRITE_ZEROES (R345, R374, R376). -/
def writeZeroes (a q : Nat) (blocks : List Nat) (s : State) : State :=
  startIo 3 true a s fun c s =>
    match c.cmd with
    | .writeZeroes n lba k => unlessError a s (ioError s c.fn n (lba + k) 0) (unmapFor a n q [(lba, k)] blocks)
    | _ => s

def execWriteZeroes (adm quire : Nat) (blocks : List (BitVec 40)) (s : State) : Res :=
  .next (writeZeroes adm quire (blocks.map BitVec.toNat) s)

/-- DEALLOCATE (R345, R374, R376). -/
def deallocate (a q : Nat) (blocks : List Nat) (s : State) : State :=
  startIo 4 true a s fun c s =>
    match c.cmd with
    | .deallocate n l => unlessError a s (ioError s c.fn n (l.foldl (fun m e => max m (e.1 + e.2)) 0) 0) (unmapFor a n q l blocks)
    | _ => s

def execDeallocate (adm quire : Nat) (blocks : List (BitVec 40)) (s : State) : Res :=
  .next (deallocate adm quire (blocks.map BitVec.toNat) s)

/-- The namespaces that a Flush names (R349). -/
def flushNames (n x : Nat) : Bool := n == 0xFFFFFFFF || n == x

/-- FLUSH (R349, R356, R380): earlier writes to the namespaces it names are all in quires, which it closes and waits for. -/
def flush (a : Nat) (s : State) : State :=
  startIo 5 true a s fun c s =>
    match c.cmd with
    | .flush n =>
      unlessError a s (if n = 0xFFFFFFFF then (match anaOf s with | .inaccessible => some ncInaccessible | .change => some ncTransition | .optimized => none) else ioError s c.fn n 0 0) fun s =>
        let earlier := s.hq.cmds.any fun (e : Nat × Admitted) =>
          decide (e.1 < a) && writeOpen e.2 && (match e.2.lock with | some x => flushNames n x.nsid | none => false)
        if earlier then s
        else
          let qs := (s.ledger.quires.filter fun (e : Nat × Quire) => !e.2.committed && e.2.took.any fun r => decide (r.1 < a) && flushNames n r.2).map (·.1)
          modCmd (closeQuires s qs) a fun c => { c with dataWhole := true, quires := qs }
    | _ => s

def execFlush (adm : Nat) (s : State) : Res := .next (flush adm s)

/-- The record at an address is quire q's Colophon, by its magic, version and quire sequence number (R122; assumption 106). -/
def recordOf (s : State) (a q : Nat) : Bool := s.le a 4 == 0x7C0F0A01 && s.le (a + 4) 2 == 1 && s.le (a + 0x10) 8 == q

/-- The record's flags say whether a Flush closed the quire (R122, R349, R377; DEDUCED, assumption 106). -/
def flagsOf (s : State) (a : Nat) (x : Quire) : Bool := (s.le (a + 6) 2).testBit 2 == x.byFlush

/-- COMMIT_APPLY (R122, R124, R146, R349, R368, R376, R377, R380): the COLOPHON descriptor of a pen's queue has completed OK; its record's runs go
into the committed blocks, and whatever waited for the quire goes on. -/
def commitApply (q n i disc : Nat) (blocks : List Nat) (s : State) : State :=
  let d := readDescriptor s n i
  let passed := (s.get (FQ_TAIL_TAIL n) + 2 ^ 32 - i) % 2 ^ 32
  match s.ledger.quires.find? q with
  | none => s
  | some x =>
    if d.kind = 3 ∧ s.le (descAddr s n i + 48) 2 = 0 ∧ 0 < passed ∧ passed ≤ fqSize s n ∧ x.committed = false ∧ recordOf s d.data q = true ∧ flagsOf s d.data x = true
        ∧ (commitSpans s (colophonRuns s d.data disc (dataNibs s n) (!isN1 s n))).length = blocks.length then
      let s := commitQuire s q (colHead s d.data) (colophonRuns s d.data disc (dataNibs s n) (!isN1 s n)) blocks
      settle (s.modHq fun h => { h with cmds := h.cmds.map fun (e : Nat × Admitted) => (e.1, { e.2 with quires := e.2.quires.filter (· != q) }) })
    else s

def execCommitApply (quire : Nat) (pen : Fin 16) (desc : Nat) (disc : Fin 512) (blocks : List (BitVec 40)) (s : State) : Res :=
  .next (commitApply quire pen desc disc (blocks.map BitVec.toNat) s)

/-! ### Admin commands -/

/-- Bytes put over others at an offset. -/
def overlay (l : List (BitVec 8)) (o : Nat) (b : List (BitVec 8)) : List (BitVec 8) := l.take o ++ b ++ l.drop (o + b.length)

/-- Fields put over bytes: offset, width and value of each. -/
def withFields (l : List (BitVec 8)) (fs : List (Nat × Nat × Nat)) : List (BitVec 8) :=
  fs.foldl (fun l e => overlay l e.1 (leBytes e.2.1 e.2.2)) l

/-- A command returns data and completes. -/
def giveData (s : State) (a f : Nat) (b : List (BitVec 8)) : State := completeCmd (s.modFn f fun h => { h with dma := b }) a ncOk 0

/-- Power state descriptor i (R352): MP in 0.01 W, whether it is non-operational, and its entry and exit latencies in µs. -/
def powerDescriptor (i mp : Nat) (sleeps : Bool) (entry exit : Nat) : List (Nat × Nat × Nat) :=
  [(2048 + 32 * i, 2, mp), (2051 + 32 * i, 1, if sleeps then 2 else 0), (2052 + 32 * i, 4, entry), (2056 + 32 * i, 4, exit)]

/-- What Identify Controller shows of R344, R345, R352, R400, R433 and R434, over bytes that are free where no rule states them: the
firmware revision, CMIC with two controllers and ANA, MDTS, VER 2.0, RTD3E, OACS, FRMW with two slots, NPSS, APSTA, MTFA, SANICAP, ANATT, ANACAP with
the three states, one ANA group, NN, ONCS, FNA, VWC, AWUPF, SGLS, and the power states. -/
def identifyController (s : State) (b : List (BitVec 8)) : List (Nat × Nat × Nat) :=
  let open_ := fun (o : Nat) => (b.getD o 0).toNat
  [(64, 8, s.get SYS_BOOT_VER_VERSION), (76, 1, 10 + open_ 76 % 2), (77, 1, 14), (80, 4, 0x20000), (88, 4, 10000000), (256, 2, 0xF), (260, 1, 0x14),
   (263, 1, 4), (265, 1, 1), (270, 2, 15), (328, 1, 1), (342, 1, 2), (343, 1, 0x15 + open_ 343 / 64 * 64), (344, 4, 1), (348, 4, 1), (516, 4, 64),
   (520, 2, 0x4D + open_ 520 / 16 % 2 * 16), (524, 1, 4), (525, 1, 7), (528, 2, 0), (536, 4, 1)]
    ++ powerDescriptor 0 9600 false 0 0 ++ powerDescriptor 1 8200 false 1000 1000 ++ powerDescriptor 2 4500 false 200000 1200000
    ++ powerDescriptor 3 1400 true 5700000 6000000 ++ powerDescriptor 4 450 true 5800000 6500000

/-- What Identify Namespace shows: size, one LBA format of 4,096 bytes without metadata or end-to-end protection, sharing, atomicity, and
its ANA group (R344, R400). -/
def identifyNamespace (n : Ns) : List (Nat × Nat × Nat) :=
  [(0, 8, n.size), (8, 8, n.size), (25, 1, 0), (26, 1, 0), (27, 1, 0), (28, 1, 0), (29, 1, 0), (30, 1, 1), (36, 2, 16383), (42, 2, 0), (44, 2, 16383),
   (92, 4, 1), (128, 4, 0x000C0000)]

/-- The namespaces attached to a function, ascending. -/
def attachedTo (s : State) (f : Nat) : List Nat := (s.hq.nss.filter fun (e : Nat × Ns) => e.2.ctrls.testBit f).map (·.1)

/-- IDENTIFY (R344). -/
def identify (a : Nat) (s : State) : State :=
  startAdmin 6 a s fun c s =>
    match c.cmd with
    | .identify 1 _ =>
      let (b, s) := freeBytes s 4096
      giveData s a c.fn (withFields b (identifyController s b))
    | .identify 0 n =>
      match s.hq.nss.find? n with
      | some x =>
        let (b, s) := freeBytes s 4096
        giveData s a c.fn (if x.ctrls.testBit c.fn then withFields b (identifyNamespace x) else zeroBlock)
      | none => if 1 ≤ n ∧ n ≤ 64 then giveData s a c.fn zeroBlock else completeCmd s a ncNamespace 0
    | .identify 2 n =>
      let l := ((attachedTo s c.fn).filter fun k => decide (n < k)).flatMap (leBytes 4)
      giveData s a c.fn ((l ++ zeroBlock).take 4096)
    | .identify _ _ => completeCmd s a ncField 0
    | _ => s

def execIdentify (adm : Nat) (s : State) : Res := .next (identify adm s)

/-- The code of an ANA state in its log. -/
def anaCode : Ana → Nat
  | .optimized => 1
  | .inaccessible => 3
  | .change => 15

/-- The health log's critical warning byte, with its temperature bit as HOT says (R449; assumption 107). -/
def criticalWarning (s : State) (b : BitVec 8) : Nat := b.toNat - b.toNat / 2 % 2 * 2 + (if s.on SYS_TH_STATUS_HOT then 2 else 0)

/-- The ANA log: one group with every namespace of the controller, of at most 64, and its state (R344, R400). -/
def anaLog (s : State) (f : Nat) : List (Nat × Nat × Nat) :=
  let l := (attachedTo s f).take 64
  [(8, 2, 1), (16, 4, 1), (20, 4, l.length), (32, 1, anaCode (anaOf s))] ++ (l.zip (List.range l.length)).map fun (e : Nat × Nat) => (48 + 4 * e.2, 4, e.1)

/-- GET_LOG_PAGE (R345, R400, R449): the ANA log shows the one group and its state, the health log the temperature warning; nothing else
of a page is stated. -/
def getLogPage (a : Nat) (s : State) : State :=
  startAdmin 7 a s fun c s =>
    match c.cmd with
    | .getLogPage lid =>
      let (b, s) := freeBytes s 512
      giveData s a c.fn (if lid = 0xC then withFields b (anaLog s c.fn)
        else if lid = 2 then withFields b [(0, 1, criticalWarning s (b.headD 0))] else b)
    | _ => s

def execGetLogPage (adm : Nat) (s : State) : Res := .next (getLogPage adm s)

/-- The supported features (R345) but Power Management, by identifier, and what each is until it is set. -/
def featureDefault : List (Nat × Nat) :=
  [(1, 0), (4, 0), (6, 1), (7, 0), (8, 0), (0xB, 0), (0xC, 1), (0xE, 0), (0x16, 0)]

/-- Number of Queues as a function reports it: its share of each kind, less one (R346). -/
def queuesFeature (s : State) (f : Nat) : Nat × State :=
  match queuePairs s f with
  | 0 => s.fresh
  | n + 1 => (n + n * 65536, s)

/-- GET_FEATURES (R345, R346, R352, R355). -/
def getFeatures (a : Nat) (s : State) : State :=
  startAdmin 8 a s fun c s =>
    match c.cmd with
    | .getFeatures fid =>
      let h := s.fn c.fn
      if fid = 2 then completeCmd s a ncOk (s.get (fnPs c.fn))
      else if fid = 7 then
        let (v, s) := queuesFeature s c.fn
        completeCmd s a ncOk v
      else if fid = 0xC then
        completeCmd (s.modFn c.fn fun h => { h with dma := (apstTable s c.fn).flatMap (leBytes 8) }) a ncOk (h.features.getD 0xC 1)
      else if fid = 0xE then
        completeCmd (s.modFn c.fn fun h => { h with dma := leBytes 8 (h.features.getD 0xE 0 + (s.now - h.features.getD 0x10E 0) / 38400) }) a ncOk 0
      else
        match featureDefault.find? fun e => e.1 == fid with
        | some e => completeCmd s a ncOk (h.features.getD fid e.2)
        | none => completeCmd s a ncField 0
    | _ => s

def execGetFeatures (adm : Nat) (s : State) : Res := .next (getFeatures adm s)

/-- Set a feature of function f. -/
def setFeature (s : State) (f fid v : Nat) : State := s.modFn f fun h => { h with features := h.features.insert fid v }

/-- A function selects a power state (R352, R353); PS1 ends a sprint at once (R453). -/
def selectPs (s : State) (f v : Nat) : State :=
  let s := (s.set (fnPs f) v).iff (decide (v ≤ 2)) fun s => s.modHq fun h => { h with lastOp := v }
  s.iff (wantedPs s == 1) endSprint

/-- SET_FEATURES (R345, R346, R352, R355, R453): disabling the write cache is refused. -/
def setFeatures (a : Nat) (s : State) : State :=
  startAdmin 9 a s fun c s =>
    match c.cmd with
    | .setFeatures fid v table =>
      if fid = 2 then (if v % 32 ≤ 4 then completeCmd (selectPs s c.fn (v % 32)) a ncOk 0 else completeCmd s a ncField 0)
      else if fid = 6 ∧ v % 2 = 0 then completeCmd s a ncNotChangeable 0
      else if fid = 7 then
        let (q, s) := queuesFeature s c.fn
        completeCmd s a ncOk q
      else if fid = 0xC then completeCmd ((setFeature s c.fn fid v).modFn c.fn fun h => { h with apst := some table }) a ncOk 0
      else if fid = 0xE then completeCmd (setFeature (setFeature s c.fn fid v) c.fn 0x10E s.now) a ncOk 0
      else if featureDefault.any fun e => e.1 == fid then completeCmd (setFeature s c.fn fid v) a ncOk 0
      else completeCmd s a ncField 0
    | _ => s

def execSetFeatures (adm : Nat) (s : State) : Res := .next (setFeatures adm s)

/-- Invalid Interrupt Vector. -/
abbrev ncVector : Nat := 0x108
/-- Namespace Insufficient Capacity. -/
abbrev ncNsCapacity : Nat := 0x115

/-- CREATE_IO_QUEUE (R344, R346): within the function's share, at most 512 entries. -/
def createIoQueue (a : Nat) (s : State) : State :=
  startAdmin 10 a s fun c s =>
    let h := s.fn c.fn
    let bad := fun q => q == 0 || decide (queuePairs s c.fn < q)
    match c.cmd with
    | .createCq q size v ien =>
      if bad q || (h.cqs.find? q).isSome then completeCmd s a ncQid 0
      else if size < 2 ∨ 512 < size then completeCmd s a ncQsize 0
      else if v = 0 ∨ 128 < v then completeCmd s a ncVector 0
      else completeCmd (s.modFn c.fn fun h => { h with cqs := h.cqs.insert q { size := size, vector := v, ien := ien } }) a ncOk 0
    | .createSq q size cq =>
      if bad q || (h.sqs.find? q).isSome then completeCmd s a ncQid 0
      else if size < 2 ∨ 512 < size then completeCmd s a ncQsize 0
      else if cq = 0 ∨ (h.cqs.find? cq).isNone then completeCmd s a ncCqInvalid 0
      else completeCmd (s.modFn c.fn fun h => { h with sqs := h.sqs.insert q { cq := cq, size := size } }) a ncOk 0
    | _ => s

def execCreateIoQueue (adm : Nat) (s : State) : Res := .next (createIoQueue adm s)

/-- DELETE_IO_QUEUE (R345, R346): a completion queue that a submission queue still uses is not deleted. -/
def deleteIoQueue (a : Nat) (s : State) : State :=
  startAdmin 11 a s fun c s =>
    let h := s.fn c.fn
    match c.cmd with
    | .deleteSq q =>
      if q = 0 ∨ (h.sqs.find? q).isNone then completeCmd s a ncQid 0
      else completeCmd (s.modFn c.fn fun h => { h with sqs := h.sqs.erase q, aborts := h.aborts.filter fun e => e.1 != q }) a ncOk 0
    | .deleteCq q =>
      if q = 0 ∨ (h.cqs.find? q).isNone then completeCmd s a ncQid 0
      else if h.sqs.any fun (e : Nat × Sq) => e.2.cq == q then completeCmd s a ncQueueDeletion 0
      else completeCmd (s.modFn c.fn fun h => { h with cqs := h.cqs.erase q }) a ncOk 0
    | _ => s

def execDeleteIoQueue (adm : Nat) (s : State) : Res := .next (deleteIoQueue adm s)

/-- ABORT_CMD (R348, R356, R380): a command that still waits in its queue, or an admitted one neither whose data transfer nor whose
media work has begun, is aborted; otherwise DW0 bit 0 is 1. -/
def abortCmd (a : Nat) (waiting : Bool) (s : State) : State :=
  startAdmin 12 a s fun c s =>
    match c.cmd with
    | .abort q cid =>
      match (s.hq.cmds.filter fun (e : Nat × Admitted) => e.2.fn == c.fn && e.2.sq == q && e.2.cid == cid && !e.2.over_ && e.1 != a).head? with
      | some e =>
        if e.2.began || e.2.dataWhole then completeCmd s a ncOk 1 else completeCmd (completeCmd s e.1 ncAborted 0) a ncOk 0
      | none =>
        if q = 0 ∧ (s.fn c.fn).aers.contains cid = true then
          let s := s.modFn c.fn fun h => { h with aers := h.aers.erase cid }
          completeCmd (postCqe s c.fn 0 { sq := 0, cid := cid, status := ncAborted, dw0 := 0 }) a ncOk 0
        else if waiting && (match (s.fn c.fn).sqs.find? q with | some x => x.head != x.tail | none => false) then
          let s := s.modFn c.fn fun h => { h with aborts := h.aborts ++ [(q, cid)] }
          let cq := match (s.fn c.fn).sqs.find? q with | some x => x.cq | none => 65536
          completeCmd (postCqe s c.fn cq { sq := q, cid := cid, status := ncAborted, dw0 := 0 }) a ncOk 0
        else completeCmd s a ncOk 1
    | _ => s

def execAbortCmd (adm : Nat) (waiting : Bool) (s : State) : Res := .next (abortCmd adm waiting s)

/-- ASYNC_EVENT_REQUEST (R345, R400): answered by an event that waits, else it waits for one. -/
def asyncEventRequest (a : Nat) (s : State) : State :=
  startAdmin 13 a s fun c s =>
    match c.cmd with
    | .asyncEvent =>
      match (s.fn c.fn).events with
      | e :: r => completeCmd (s.modFn c.fn fun h => { h with events := r }) a ncOk e
      | [] => endCmd (s.modFn c.fn fun h => { h with aers := h.aers ++ [c.cid] }) a
    | _ => s

def execAsyncEventRequest (adm : Nat) (s : State) : Res := .next (asyncEventRequest adm s)

/-- NAMESPACE_MANAGEMENT (R344, R345, R358): capacity is taken from the ledger, whose region has room or not; a new namespace gets the
lowest free NSID of 64 and a directory. -/
def namespaceManagement (a : Nat) (room : Bool) (dir : Nat) (s : State) : State :=
  startAdmin 14 a s fun c s =>
    match c.cmd with
    | .nsCreate size =>
      match ((List.range 64).map (· + 1)).find? fun n => (s.hq.nss.find? n).isNone with
      | none => completeCmd s a ncNsid 0
      | some n =>
        if room then
          completeCmd ((putNsEntry s n size (dir / 64 * 64) true).modHq fun h => { h with nss := h.nss.insert n { size := size, ctrls := 0, dir := dir / 64 * 64 } }) a ncOk n
        else completeCmd s a ncNsCapacity 0
    | .nsDelete n =>
      if n = 0xFFFFFFFF then
        completeCmd ((s.each s.hq.nss fun s e => putNsEntry s e.1 0 0 false).modHq fun h => { h with nss := [] }) a ncOk 0
      else if (s.hq.nss.find? n).isSome then
        completeCmd ((putNsEntry s n 0 0 false).modHq fun h => { h with nss := h.nss.erase n }) a ncOk 0
      else completeCmd s a ncNamespace 0
    | _ => s

def execNamespaceManagement (adm : Nat) (room : Bool) (directory : BitVec 40) (s : State) : Res :=
  .next (namespaceManagement adm room directory.toNat s)

/-- NAMESPACE_ATTACHMENT (R344, R345): to either function or both. -/
def namespaceAttachment (a : Nat) (s : State) : State :=
  startAdmin 15 a s fun c s =>
    match c.cmd with
    | .nsAttach n m on =>
      match s.hq.nss.find? n with
      | none => completeCmd s a ncNamespace 0
      | some x =>
        let m := m % 4
        if on then
          if x.ctrls &&& m ≠ 0 then completeCmd s a ncAttached 0
          else completeCmd (s.modHq fun h => { h with nss := h.nss.insert n { x with ctrls := x.ctrls ||| m } }) a ncOk 0
        else if x.ctrls &&& m ≠ m then completeCmd s a ncNotAttached 0
        else completeCmd (s.modHq fun h => { h with nss := h.nss.insert n { x with ctrls := x.ctrls ^^^ m } }) a ncOk 0
    | _ => s

def execNamespaceAttachment (adm : Nat) (s : State) : Res := .next (namespaceAttachment adm s)

/-- Internal Error. -/
abbrev ncInternal : Nat := 0x006

/-- Crypto erase: the key of a slot is regenerated (R345, R416). -/
def regenerate (s : State) (k : Nat) : State := (keyOp s { op := 0, kek := 0, slot := k, addr := 0 }).2

/-- A slot may be regenerated now: the SEC block is OPERATIONAL with DRBG output, and the slot is not in use (R411, R417, R418). -/
def slotFree (s : State) (k : Nat) : Bool := !s.on (SEC_SLOT_IN_USE k)

/-- No key can be generated: the SEC block is not OPERATIONAL (R417). -/
def noKeys (s : State) : Bool := s.get SEC_STATUS_STATE != 1 || s.sec.withheld

/-- FORMAT_NVM (R345, R416): SES = 0 unmaps the namespace, SES = 2 regenerates its key, SES = 1 is refused. -/
def formatNvm (a k q : Nat) (blocks : List Nat) (s : State) : State :=
  startAdmin 16 a s fun c s =>
    match c.cmd with
    | .format n ses =>
      match s.hq.nss.find? n with
      | none => completeCmd s a ncNamespace 0
      | some x =>
        if ses = 0 then
          if (quireAt s q).isOpen = true ∧ (rangeSpans [(0, x.size)]).length = blocks.length then completeCmd (unmapRanges a n q [(0, x.size)] blocks s) a ncOk 0 else s
        else if ses = 2 then
          if noKeys s then completeCmd s a ncInternal 0
          else if slotFree s k then completeCmd (regenerate s k) a ncOk 0 else s
        else completeCmd s a ncFormat 0
    | _ => s

def execFormatNvm (adm : Nat) (slot : Fin 128) (quire : Nat) (blocks : List (BitVec 40)) (s : State) : Res :=
  .next (formatNvm adm slot quire (blocks.map BitVec.toNat) s)

/-- SANITIZE (R345, R416): a crypto erase regenerates every loaded slot, once none is in use; no other action is supported. -/
def sanitize (a : Nat) (s : State) : State :=
  startAdmin 17 a s fun c s =>
    match c.cmd with
    | .sanitize action =>
      let l := (List.range 128).filter fun k => s.on (SEC_SLOT_LOADED k)
      if action ≠ 4 then completeCmd s a ncField 0
      else if noKeys s then completeCmd s a ncInternal 0
      else if l.all (slotFree s) then completeCmd (s.each l regenerate) a ncOk 0
      else s
    | _ => s

def execSanitize (adm : Nat) (s : State) : Res := .next (sanitize adm s)

/-- FIRMWARE_IMAGE_DOWNLOAD (R345, R434): at most 32 MiB. -/
def firmwareImageDownload (a : Nat) (s : State) : State :=
  startAdmin 18 a s fun c s =>
    match c.cmd with
    | .fwDownload o b =>
      if 33554432 < o + b.length then completeCmd s a ncField 0
      else
        completeCmd (s.modHq fun h => { h with image := ((List.range b.length).zip b).foldl (fun (m : Store (BitVec 8)) (e : Nat × BitVec 8) => m.insert (o + e.1) e.2) h.image }) a ncOk 0
    | _ => s

def execFirmwareImageDownload (adm : Nat) (s : State) : Res := .next (firmwareImageDownload adm s)

/-! ### Firmware activation -/

/-- The image downloaded. -/
def downloaded (s : State) : List (BitVec 8) :=
  let head := (List.range 4096).map fun i => s.hq.image.getD i 0
  head ++ (List.range (min 33554432 (imgLen head) - 4096)).map fun i => s.hq.image.getD (4096 + i) 0

/-- The image that an activation takes: the one downloaded, or else a slot's. -/
def newImage (s : State) (slot : Nat) : List (BitVec 8) := if s.hq.image = [] then s.flash.slots.getD slot [] else downloaded s

/-- Scribe q goes over to an image (R455): its seals are released, the sections for it copied, and it is reset; Scribe 0 jumps
instead. -/
def switchScribe (img : List (BitVec 8)) (listed : Bool) (s : State) (q : Nat) : State :=
  let s := s.each (List.range 64) fun s i => s.iff (s.get (MBX_SEAL_OWNER i) == q) fun s => s.set (MBX_SEAL_OWNER i) 0xF
  let s := s.each ((sectionsOf img).filter fun x => x.target != 0x20 && x.target % 16 == q) (copySection img)
  refreshApproved ((s.iff (q != 0) fun s => scribeResets s q).setBit SEC_FW_LISTED q listed)

/-- The order in which Scribes are switched (R455). -/
def switchOrder : List Nat := [1, 2, 3, 4, 5, 6, 7, 0]

/-- The host side stops, on both functions, and the engines drain (R351, steps 1 and 2), or all of it goes on (step 5). -/
def stopHost (s : State) (on : Bool) : State :=
  let s := refreshStall (s.each [0, 1] fun s f => s.modFn f fun h => { h with pp := on })
  let s := s.each (List.range 16) fun s n => haltWrite n on s
  parkWrite on s

/-- FIRMWARE_COMMIT (R345, R351, R356, R422, R424, R455 to R457): a slot is written or marked, or the Scribes are switched; where one of
them will not signal healthy, the roll-back is still to come. -/
def firmwareCommit (a : Nat) (unhealthy : Option Nat) (s : State) : State :=
  startAdmin 19 a s fun c s =>
    match c.cmd with
    | .fwCommit fs ca =>
      let other := 1 - s.get SYS_BOOT_SLOT
      if 2 < fs ∨ (ca ≤ 1 ∧ fs ≠ 0 ∧ fs ≠ other + 1) then completeCmd s a ncFwSlot 0
      else if ca ≤ 1 then
        let s := { s with flash := { s.flash with slots := s.flash.slots.insert other (downloaded s) } }
        let s := if ca = 1 then { s with flash := { s.flash with preferred := other, trial := true, count := 0 } } else s
        completeCmd (s.modHq fun h => { h with image := [] }) a ncOk 0
      else if ca = 2 then
        completeCmd { s with flash := { s.flash with preferred := if fs = 0 then other else fs - 1, trial := true, count := 0 } } a ncOk 0
      else if ca = 3 then
        let img := newImage s (if fs = 0 then other else fs - 1)
        if imageCode s img false ≠ 0 then completeCmd s a ncFwImage 0
        else
          let before := s.get SEC_FW_LISTED
          let order := switchOrder.filter fun q => s.on (SYS_SCR_STATUS_RUNNING q)
          let upTo := match unhealthy with | some q => if order.contains q then order.takeWhile (· != q) ++ [q] else order | none => order
          let s := (stopHost s true).each upTo (switchScribe img (imageListed img))
          match unhealthy with
          | some q =>
            if order.contains q then
              (modCmd s a fun c => { c with began := true }).modHq fun h => { h with activation := some { adm := a, switched := upTo.reverse, before := before } }
            else completeCmd ((stopHost s false).modBoot fun b => { b with image := img }) a ncOk 0
          | none => completeCmd (((stopHost s false).modBoot fun b => { b with image := img }).modHq fun h => { h with image := [] }) a ncOk 0
      else completeCmd s a ncField 0
    | _ => s

def execFirmwareCommit (adm : Nat) (unhealthy : Option (Fin 8)) (s : State) : Res :=
  .next (firmwareCommit adm (unhealthy.map Fin.val) s)

/-- ACTIVATION_ROLLBACK (R351, R356, R456): every Scribe switched goes back to the previous image, and the commit completes with
Invalid Firmware Image; resets that waited act now. -/
def activationRollback (s : State) : State :=
  match s.hq.activation with
  | none => s
  | some x =>
    let s := s.each x.switched fun s q => switchScribe s.boot.image (x.before.testBit q) s q
    let s := stopHost (s.modHq fun h => { h with activation := none, image := [] }) false
    settle (runHeld (completeCmd s x.adm ncFwImage 0))

def execActivationRollback (s : State) : Res := .next (activationRollback s)

/-! ### Security Send and Receive, and other opcodes -/

/-- SECURITY_SEND (R415, R416): the payload reaches firmware. -/
def securitySend (a : Nat) (s : State) : State :=
  startAdmin 20 a s fun c s =>
    match c.cmd with
    | .securitySend b => completeCmd (s.modHq fun h => { h with opal := b }) a ncOk 0
    | _ => s

def execSecuritySend (adm : Nat) (s : State) : Res := .next (securitySend adm s)

/-- SECURITY_RECEIVE (R415): firmware's response. -/
def securityReceive (a : Nat) (response : List (BitVec 8)) (s : State) : State :=
  startAdmin 21 a s fun c s =>
    match c.cmd with
    | .securityReceive n => giveData s a c.fn (response.take n)
    | _ => s

def execSecurityReceive (adm : Nat) (response : List (BitVec 8)) (s : State) : Res := .next (securityReceive adm response s)

/-- INVALID_OPCODE (R345): an opcode outside the table of supported commands, or in the other kind of queue. -/
def invalidOpcode (a : Nat) (s : State) : State :=
  match s.cmd? a with
  | none => s
  | some c => if !c.over_ && (kindOf c.cmd == 22 || (c.sq == 0) == decide (kindOf c.cmd < 6)) then settle (completeCmd s a ncOpcode 0) else s

def execInvalidOpcode (adm : Nat) (s : State) : Res := .next (invalidOpcode adm s)

end Sys2Proof.Machine
end

