-- ==== Sys2Proof/Machine/Thermal.lean ====
section
/-!
DEFINITION. Chapter 18: die temperature, the power manager and the thermal trip.
-/

namespace Sys2Proof.Machine

/-- Change the power manager's hidden state. -/
def State.modTh (s : State) (f : Thermal → Thermal) : State := { s with thermal := f s.thermal }

/-- A thermal event: bit 8 + i of SYS_EVENT (R454). -/
def thEvent (s : State) (i : Nat) : State := s.setBit SYS_EVENT_THERMAL i true

/-- Tj in 0.125 °C. -/
def tjOf (s : State) : Int := toSigned 12 (s.get SYS_TH_STATUS_TJ)

/-- CORR of sensor i in 0.125 °C. -/
def corrOf (s : State) (i : Nat) : Int := toSigned 16 (s.get (SYS_TH_SENSOR_CORR i))

/-- Every CORR. -/
def allCorr (s : State) : List Int := (List.range 12).map (corrOf s)

/-- A sensor is corrected with its coefficients (R445, R462). -/
def correct (s : State) (i raw : Nat) : State :=
  let (v, s) := s.divFree ((raw * s.get (CAL_TS_FACT_GAIN i) : Nat) : Int) 16384
  let c := clampInt (-(2 ^ 15)) (2 ^ 15 - 1) (v + toSigned 16 (s.get (CAL_TS_OFS_OFS i)))
  (s.set (SYS_TH_SENSOR_RAW i) raw).set (SYS_TH_SENSOR_CORR i) (ofSigned 16 c)

/-- A sensor's history and validity (R446): in range, and not stuck for 10 s (100,000 samples) while another moved by 5 °C. -/
def judgeSensor (s : State) (i : Nat) : State :=
  let was := s.thermal.sensors.getD i {}
  let code := s.get (SYS_TH_SENSOR_RAW i)
  let h : Sensor :=
    if was.others = [] ∨ was.code ≠ code then { same := 0, code := code, others := allCorr s } else { was with same := min 100000 (was.same + 1) }
  let moved := (h.others.zip (allCorr s)).any fun e => decide (e.1 + 40 ≤ e.2) || decide (e.2 + 40 ≤ e.1)
  let ok := decide (-320 ≤ corrOf s i) && decide (corrOf s i ≤ 1200) && !(h.same == 100000 && moved)
  let s := s.iff (!ok && (s.on (SYS_TH_SENSOR_VALID i) || was.others.isEmpty)) fun s => thEvent s 6
  ((s.set (SYS_TH_SENSOR_VALID i) (if ok then 1 else 0)).setBit SYS_TH_STATUS_SENSOR_OK i ok).modTh fun t => { t with sensors := t.sensors.insert i h }

/-- The valid sensor with the highest CORR, the lowest-numbered on a tie. -/
def hottest (s : State) : Option Nat :=
  ((List.range 12).filter fun i => s.on (SYS_TH_SENSOR_VALID i)).foldl (fun m i =>
    match m with
    | some j => if corrOf s j < corrOf s i then some i else some j
    | none => some i) none

/-- DW0 of the NVMe temperature critical warning (R449): a SMART event, temperature threshold, health log (PRESUMED, assumption 107). -/
abbrev hotNotice : Nat := 0x020101

/-- SENSOR_SAMPLE (R445, R446, R449, R453, R462): the raw codes of the 12 sensors. -/
def sensorSample (codes : List Nat) (s : State) : State :=
  let s := s.each (List.range 12) fun s i => correct s i (codes.getD i 0)
  let s := s.each (List.range 12) judgeSensor
  let bad := (List.range 12).filter fun i => !s.on (SYS_TH_SENSOR_VALID i)
  let hot := (hottest s).getD 0
  let tj : Int := if 3 < bad.length then ((100 + bad.length) * 8 : Nat) else corrOf s hot
  let s := (s.set SYS_TH_STATUS_HOT_SENSOR hot).set SYS_TH_STATUS_TJ (ofSigned 12 (clampInt (-2048) 2047 tj))
  let s :=
    if 880 ≤ tj then if s.on SYS_TH_STATUS_HOT then s else asyncEvent (asyncEvent (thEvent (s.set SYS_TH_STATUS_HOT 1) 5) 0 hotNotice) 1 hotNotice
    else if tj < 840 then s.set SYS_TH_STATUS_HOT 0
    else s
  s.modTh fun t => { t with trips := if 960 ≤ tj then min 3 (t.trips + 1) else 0 }

def execSensorSample (codes : List (BitVec 12)) (s : State) : Res := .next (sensorSample (codes.map BitVec.toNat) s)

/-- THROTTLE_C as it acts, in 0.125 °C. -/
def throttleAt (s : State) : Int := ((min 100 (max 85 (s.get SYS_TH_CTRL_THROTTLE_C)) * 8 : Nat) : Int)

/-- SPRINT_ENTRY_C as it acts, in 0.125 °C. -/
def entryAt (s : State) : Int := ((min 90 (s.get SYS_TH_CTRL_SPRINT_ENTRY_C) * 8 : Nat) : Int)

/-- Set the power step, which the caps follow (R93). -/
def setStep (s : State) (st : Nat) : State := refreshLdpc (thEvent (s.set LDPC_SCHED_STEP st) 2)

/-- Raise the step by 1, at most once per 10 ms, at most to 4 (R93, R448). -/
def raiseStep (s : State) : State :=
  let st := s.get LDPC_SCHED_STEP
  if 10 ≤ s.thermal.raised ∧ st < 4 then ((setStep s (st + 1)).ev LDPC_EVENT_CAP_LOWERED).modTh fun t => { t with raised := 0 } else s

/-- Lower the step by 1, at most once per 1 s (R448). -/
def lowerStep (s : State) : State :=
  let st := s.get LDPC_SCHED_STEP
  if 1000 ≤ s.thermal.lowered ∧ 0 < st then (setStep s (st - 1)).modTh fun t => { t with lowered := 0 } else s

/-- Present the sprint budget, in 10 ms. -/
def showLeft (s : State) : State := s.set SYS_PWR_SPRINT_LEFT (s.thermal.left / 50)

/-- EST exceeds SUSTAIN (R448): a sprint starts or goes on, or the step rises. -/
def overSustain (s : State) (est sustain peak : Nat) : State :=
  let s := s.iff (!s.on SYS_TH_STATUS_SPRINTING && s.on SYS_TH_CTRL_SPRINT_EN && s.get HQ_PWR_STATUS_PS == 0 && decide (0 < s.thermal.left)
      && decide (tjOf s < entryAt s)) fun s => thEvent (s.set SYS_TH_STATUS_SPRINTING 1) 0
  let s := s.iff (s.on SYS_TH_STATUS_SPRINTING) fun s =>
    let s := s.modTh fun t => { t with left := t.left - 5 }
    s.iff (s.thermal.left == 0) endSprint
  let sprinting := s.on SYS_TH_STATUS_SPRINTING
  let s := s.iff (!sprinting && s.get LDPC_SCHED_STEP == 4 && decide (sustain < est)) fun s => thEvent s 7
  if !sprinting || decide (peak < est) then raiseStep s else s

/-- EST is at or below SUSTAIN (R448): the budget refills, and the step may be lowered. -/
def underSustain (s : State) : State :=
  let s := (endSprint s).modTh fun t => { t with left := min 300000 (t.left + 1) }
  if tjOf s < throttleAt s - 40 ∧ s.on SYS_TH_STATUS_THROTTLING = false ∧ (1000 ≤ s.thermal.low ∨ s.thermal.left = 300000) then lowerStep s else s

/-- The throttle state (R449). -/
def throttle (s : State) : State :=
  if throttleAt s ≤ tjOf s then if s.on SYS_TH_STATUS_THROTTLING then s else thEvent (s.set SYS_TH_STATUS_THROTTLING 1) 3
  else if s.on SYS_TH_STATUS_THROTTLING = true ∧ 1000 ≤ s.thermal.cool then thEvent (s.set SYS_TH_STATUS_THROTTLING 0) 4
  else s

/-- POWER_MANAGER_UPDATE (R93, R447 to R449, R451, R453): EST of the last millisecond, in 0.1 W. -/
def powerManagerUpdate (est : Nat) (s : State) : State :=
  let sustain := min 820 (s.get SYS_PWR_CFG_SUSTAIN)
  let peak := min 960 (s.get SYS_PWR_CFG_PEAK)
  let cool := decide (tjOf s < throttleAt s - 40)
  let s := (s.set SYS_PWR_EST est).modTh fun t =>
    { t with
      raised := min 1000 (t.raised + 1)
      lowered := min 1000 (t.lowered + 1)
      low := if est + 40 ≤ sustain then min 1000 (t.low + 1) else 0
      cool := if cool then min 1000 (t.cool + 1) else 0 }
  let s := throttle s
  let s :=
    if throttleAt s ≤ tjOf s then raiseStep (endSprint s)
    else if sustain < est then overSustain s est sustain peak
    else underSustain s
  showLeft s

def execPowerManagerUpdate (est : BitVec 16) (s : State) : Res := .next (powerManagerUpdate est.toNat s)

/-- THERMAL_TRIP (R393, R440, R449, R450, R453): after three consecutive samples at 120 °C, everything is relinquished with no cause
bit, THERMTRIP_N goes low, and the part stays in reset; what the partner has received remains. -/
def thermalTrip (s : State) : State :=
  if 3 ≤ s.thermal.trips then
    let s := relinquish s
    let sent := s.verso.sent
    ((chipReset s).modBoot fun b => { b with thermTrip := true, held := true }).modVerso fun v => { v with sent := sent }
  else s

def execThermalTrip (s : State) : Res := .next (thermalTrip s)

end Sys2Proof.Machine
end

