-- ==== Sys2Proof/Machine/Cal.lean ====
section
/-!
DEFINITION. Chapter 19: re-trim of the motor ADCs, stored coefficients, and sensor offsets.
-/

namespace Sys2Proof.Machine

/-- The authority that a trim needs: SERVICE or OFFICER (R463, R465). -/
def trimAuthority (s : State) : Bool := s.on SEC_AUTH_SERVICE || s.on SEC_AUTH_OFFICER

/-- The re-trim of the ADCs still pending is over for those in a mask; after the last one BUSY clears (R463). -/
def retrimEnds (s : State) (mask : Nat) : State :=
  let left := (List.range 4).foldl (fun m a => if (s.get CAL_STATUS_PENDING).testBit a && !mask.testBit a then m + 2 ^ a else m) 0
  let s := s.set CAL_STATUS_PENDING left
  if left = 0 then
    let s := ((s.set CAL_STATUS_BUSY 0).ev CAL_EVENT_RETRIM_DONE).iff s.calFailed fun s => s.ev CAL_EVENT_RETRIM_FAIL
    { s with calFailed := false }
  else s

/-- CAL_START (R463, R466). -/
def calStart (s : State) : State :=
  if trimAuthority s = true ∧ s.on CAL_STATUS_BUSY = false then
    let s := (s.set CAL_STATUS_BUSY 1).set CAL_STATUS_PENDING (s.get CAL_CTRL_ADC_MASK)
    { s with calFailed := false }.iff (s.get CAL_CTRL_ADC_MASK == 0) fun s => retrimEnds s 0
  else s.ev CAL_EVENT_REFUSED

def execCalStart (s : State) : Res := .next (s.clocked motIsland fun s => calStart s)

/-- A gain lies within 3% of the factory gain (R463). -/
def gainOk (s : State) (a : Nat) (g : Int) : Bool :=
  let f : Int := s.get (CAL_FACT_GAIN a)
  decide (100 * (g - f) ≤ 3 * f) && decide (100 * (f - g) ≤ 3 * f)

/-- An offset lies within 20 LSB of the factory offset (R463). -/
def ofsOk (s : State) (a : Nat) (o : Int) : Bool :=
  let f := toSigned 16 (s.get (CAL_FACT_OFS a))
  decide (o - f ≤ 320) && decide (f - o ≤ 320)

/-- log2 of the conversions of each input: below 8 acts as 8, above 14 as 14 (CAL_CTRL.SAMPLES). -/
def retrimSamples (s : State) : Nat := max 8 (min 14 (s.get CAL_CTRL_SAMPLES))

/-- NEW.GAIN = round(2,500 × 16 × 2^14 / (M_REF − M_GND)) (R463). No 16-bit difference makes a tie; a difference of 0 leaves the
gain free (assumption 59). -/
def newGain (s : State) (d : Int) : Int × State :=
  if d = 0 then let (v, s) := s.fresh; (((v % 2 ^ 16 : Nat) : Int), s)
  else ((((2 * 655360000 + d.natAbs) / (2 * d.natAbs) : Nat) : Int) * d.sign, s)

/-- RESULT of a re-trim: a new gain and offset against the factory values (R463). -/
def trimResult (s : State) (a : Nat) (gain ofs : Int) : Nat := if gainOk s a gain = false then 2 else if ofsOk s a ofs then 1 else 3

/-- The means and the outcome are written, and values that pass are taken at the ADC's next frame start (R463). -/
def recordTrim (s : State) (a mRef mGnd : Nat) (gain : Int) (res : Nat) : State :=
  let s := ((s.set (CAL_MEAS_M_REF a) mRef).set (CAL_MEAS_M_GND a) mGnd).set (CAL_CMD_RESULT a) res
  if res = 1 then { s with calNext := s.calNext.insert a (gain.toNat, mGnd) } else { s with calFailed := true }

/-- The means of ADC a, in 1/16 LSB, are formed: the new values are computed, checked and recorded (R463). -/
def retrimJudge (a mRef mGnd : Nat) (s : State) : State :=
  let (gain, s) := newGain s ((mRef : Int) - toSigned 16 mGnd)
  retrimEnds (recordTrim s a mRef mGnd gain (trimResult s a gain (toSigned 16 mGnd))) (2 ^ a)

/-- The mean of raw codes in 1/16 LSB: where it is no whole number its rounding is open (assumption 59). -/
def meanSixteenths (s : State) (codes : List (BitVec 12)) : Nat × State :=
  let (m, s) := s.divFree ((16 * (codes.map (·.toNat)).sum : Nat) : Int) codes.length
  (m.toNat, s)

/-- RETRIM_ADC_DONE (R463, R466): the raw codes of REFIN and of GND that ADC a converted in its FREE entries; the ADC has finished
once there are 2^SAMPLES of each. -/
def retrimAdcDone (a : Nat) (refs gnds : List (BitVec 12)) (s : State) : State :=
  let k := 2 ^ retrimSamples s
  if (s.get CAL_STATUS_PENDING).testBit a = true ∧ refs.length = k ∧ gnds.length = k then
    let (mRef, s) := meanSixteenths s refs
    let (mGnd, s) := meanSixteenths s gnds
    retrimJudge a (mRef % 2 ^ 16) (mGnd % 2 ^ 16) s
  else s

def execRetrimAdcDone (a : Fin 4) (refs gnds : List (BitVec 12)) (s : State) : Res := .next (retrimAdcDone a refs gnds s)

/-- RETRIM_NO_SLOTS (R464): no FREE entry for ms milliseconds. -/
def retrimNoSlots (a ms : Nat) (s : State) : State :=
  if (s.get CAL_STATUS_PENDING).testBit a = true ∧ 10 ≤ ms then
    let s := s.set (CAL_CMD_RESULT a) 4
    retrimEnds { s with calFailed := true } (2 ^ a)
  else s

def execRetrimNoSlots (a : Fin 4) (ms : Nat) (s : State) : Res := .next (retrimNoSlots a ms s)

/-- CAL_ABORT (R464): every unfinished ADC ends. -/
def calAbort (s : State) : State :=
  if s.on CAL_STATUS_BUSY then
    let s := s.each (List.range 4) fun s a => s.iff ((s.get CAL_STATUS_PENDING).testBit a) fun s => s.set (CAL_CMD_RESULT a) 5
    retrimEnds { s with calFailed := true } 15
  else s

def execCalAbort (s : State) : Res := .next (s.clocked motIsland fun s => calAbort s)

/-- A LOAD or REVERT is refused. -/
def calRefuse (s : State) (a : Nat) : State := (s.set (CAL_CMD_RESULT a) 6).ev CAL_EVENT_REFUSED

/-- CAL_LOAD (R465, R466): under authority and within the limits, USER is taken at the ADC's next frame start. -/
def calLoad (a : Nat) (s : State) : State :=
  if trimAuthority s && !s.on CAL_STATUS_BUSY && gainOk s a (s.get (CAL_USER_GAIN a)) && ofsOk s a (toSigned 16 (s.get (CAL_USER_OFS a))) then
    { s with calNext := s.calNext.insert a (s.get (CAL_USER_GAIN a), s.get (CAL_USER_OFS a)) }
  else calRefuse s a

def execCalLoad (a : Fin 4) (s : State) : Res := .next (s.clocked motIsland fun s => calLoad a s)

/-- CAL_REVERT (R465, R466): the factory values, at the ADC's next frame start. -/
def calRevert (a : Nat) (s : State) : State :=
  if s.on CAL_STATUS_BUSY then calRefuse s a else { s with calNext := s.calNext.insert a (s.get (CAL_FACT_GAIN a), s.get (CAL_FACT_OFS a)) }

def execCalRevert (a : Fin 4) (s : State) : Res := .next (s.clocked motIsland fun s => calRevert a s)

/-- TS_OFS_WRITE (R462, R467): under authority, within 64 codes of the factory offset. -/
def tsOfsWrite (i v : Nat) (s : State) : State :=
  let d := toSigned 16 v - toSigned 16 (s.get (CAL_TS_FACT_OFS i))
  if trimAuthority s = true ∧ -64 ≤ d ∧ d ≤ 64 then s.set (CAL_TS_OFS_OFS i) v else s.ev CAL_EVENT_REFUSED

def execTsOfsWrite (i : Fin 12) (value : BitVec 16) (s : State) : Res := .next (s.clocked motIsland fun s => tsOfsWrite i value.toNat s)

end Sys2Proof.Machine
end

