-- ==== Sys2Proof/Machine/Flags.lean ====
section
/-!
DEFINITION. The flags that other registers make: pending interrupt sources and the interrupts of the Scribes (R438), the levels of
the GPIO balls (R483); and the value of a register word with these in place.
-/

namespace Sys2Proof.Machine

/-- Addresses of the EVENT registers of interrupt source i; each INT_EN register follows its EVENT register (R438). -/
def eventsOf (i : Nat) : List Nat :=
  if i < 16 then [lkBase i + 0x30, rulBase i + 0x40, rcBase i + 0x50, wcBase i + 0x40, leBase i + 0x10, svBase i + 0x8048]
  else match i with
    | 16 => [leBase 16 + 0x10] ++ ((List.range 2).map fun b => motBase + 0x110 + 0x20 * b) ++ ((List.range 8).map fun k => motBase + 0x1040 + 0x100 * k)
        ++ ((List.range 16).map fun n => ducBase + 0x1040 + 0x80 * n) ++ [calBase + 0x10]
    | 17 => [inkBase + 0x30]
    | 18 => [cpbBase + 0x40, ldgBase + 0x40]
    | 19 => [ldpcBase + 0x80]
    | 20 => [hqBase + 0x60]
    | 21 => [vrsBase + 0x80]
    | 22 => [secBase + 0x60]
    | 23 => [sysBase + 0x50]
    | _ => []

/-- Interrupt source i is pending: an event bit is set together with its enable (R438). -/
def irqPending (s : State) (i : Nat) : Bool := (eventsOf i).any fun a => (liveWord s a &&& liveWord s (a + 4)) != 0

/-- Source i is pending and routed to Scribe q. -/
def irqRouted (s : State) (q i : Nat) : Bool := s.bit (SYS_IRQ_ROUTE_SCRIBES i) q && irqPending s i

/-- A mailbox that names Scribe q is POSTED (R438). -/
def mbxPosted (s : State) (q : Nat) : Bool :=
  (List.range 32).any fun m => s.get (MBX_STATUS_STATE m) == 1 && s.get (MBX_CFG_SCRIBE m) == q

/-- The word SYS_IRQ_PEND_q. -/
def irqPendWord (s : State) (q : Nat) : Nat :=
  (List.range 24).foldl (fun w i => if irqRouted s q i then w + 2 ^ i else w) (if mbxPosted s q then 2 ^ 24 else 0)

/-- The machine external interrupt of Scribe q is asserted (R438). -/
def irqAsserted (s : State) (q : Nat) : Bool := irqPendWord s q != 0

/-- The levels of the GPIO balls: a ball with OE drives its OUT bit, another has the level outside drives (R483). -/
def gpioLevels (s : State) : Nat :=
  let oe := s.get SYS_GPIO_OE_OE
  ((s.get SYS_GPIO_OUT_OUT &&& oe) ||| (s.gpioPins ^^^ (s.gpioPins &&& oe))) % 2 ^ 16

/-- The motion engine's repetitive-control registers and tables read as zero and ignore writes (R183). -/
def noTables (a : Nat) : Bool :=
  let o := a - leBase 16
  decide (leBase 16 ≤ a) && ((decide (0xC00 ≤ o) && decide (o < 0xC20)) || (decide (0x3000 ≤ o) && decide (o < 0x5000)))

/-- What a read of the word at an aligned register address returns, with the words that other registers make. -/
def blockWord (s : State) (a : Nat) : Nat :=
  if sysBase + 0x300 ≤ a ∧ a < sysBase + 0x320 then irqPendWord s ((a - sysBase - 0x300) / 4)
  else if noTables a then 0
  else s.readWord a

end Sys2Proof.Machine
end

