-- ==== Sys2Proof/Machine/RegOps.lean ====
section
/-!
DEFINITION. Register accesses as the bus makes them: writes of a word by its access codes (R4), what such a write does beyond its
fields, reads with their effects (R4, R6, R492), captures (R20 to R22), abandoned accesses (R18, R19), the host's two windows
(R488 to R490), and a Scribe's loads and stores (R9, R313). A word may hold fields that a row of its own writes: a bus store acts
on those as their rows do.
-/

namespace Sys2Proof.Machine

/-! ### Writes by access code -/

/-- A field that a write may not change now: sizes that are written only while their unit is disabled. DESIGN CHOICE (assumption 70): by the
EN or ENABLE that stands when the write arrives, also where the same word writes it. -/
def writeClosed (s : State) (f : Fld) : Bool :=
  (f == LDPC_SPILL_CFG_SLOTS && s.on LDPC_CTRL_ENABLE)
    || (f == VRS_MSG_CFG_SIZE && s.on VRS_CTRL_ENABLE)
    || (List.range 16).any (fun n => f == FQ_CFG_SIZE n && s.on (WC_CTRL_ENABLE n))
    || (List.range 8).any (fun q => f == LDG_Q_CFG_SIZE q && s.on (LDG_Q_CFG_EN q))

/-- The pen of a pen region's address. -/
def penOf (a : Nat) : Nat := (a - 0x2001000000) / 0x100000

/-- The Loop Engine whose registers lie at an address, if it is one's. -/
def engineOf (a : Nat) : Option Nat :=
  if motBase + 0x8000 ≤ a ∧ a < motBase + 0x10000 then some 16
  else if 0x2001000000 ≤ a ∧ a < 0x2002000000 ∧ (a - 0x2001000000) % 0x100000 / 0x8000 = 8 then some (penOf a)
  else none

/-- A channel's ENABLE may have changed: the unit's ANA state follows, and a Change ends (R400). -/
def channelsChanged (s : State) (k : State → State) : State :=
  withAna s fun s =>
    let t := k s
    if t.anaChange = true ∧ ((List.range 16).any fun n => t.on (RC_CTRL_ENABLE n) && t.on (WC_CTRL_ENABLE n)) = true then { t with anaChange := false } else t

/-- What follows in the registers of a Loop Engine: ENABLE starts it, or sends its loops to OFF (PENn_LE_CTRL). -/
def afterEngine (s : State) (e a v : Nat) : State :=
  s.iff (a == leBase e && decide (v.testBit 0 ≠ s.on (LE_CTRL_ENABLE e))) fun s => leEnable s e (v.testBit 0)

/-- A write of an ENABLE, or of a field that a status register follows, beside the fields themselves: performed on the state
before the fields are written, for those whose change is an event of its own. -/
def beforeFields (s : State) (a v : Nat) : State :=
  match engineOf a with
  | some e => afterEngine s e a v
  | none =>
    if a = motBase then s.iff (decide (v.testBit 0 ≠ s.on MOT_CTRL_ENABLE)) fun s => motEnable s (v.testBit 0)
    else if 0x2001000000 ≤ a ∧ a < 0x2002000000 ∧ a = svBase (penOf a) + 0x8000 then
      s.iff (decide (v.testBit 0 ≠ s.on (SV_CTRL_ENABLE (penOf a)))) fun s => svEnable s (penOf a) (v.testBit 0)
    else s

/-- VRS_CTRL.ENABLE has been written: training starts, or the link is down and has failed (R391, VRS_STATUS.LINK). -/
def afterVersoEnable (s : State) : State :=
  if s.on VRS_CTRL_ENABLE then s.iff (s.get VRS_STATUS_LINK == 0) fun s => s.set VRS_STATUS_LINK 1
  else s.iff (s.get VRS_STATUS_LINK != 0) linkFails

/-- What follows once the fields of the word at an address are written. -/
def afterFields (s : State) (a : Nat) : State :=
  let b := a / 0x10000 * 0x10000
  let n := penOf a
  if b = ldpcBase then refreshLdpc s
  else if b = sysBase then s.set SYS_GPIO_IN_IN (gpioLevels s)
  else if b = hqBase then refreshStall s
  else if b = ldgBase then restoreLedger s
  else if a = vrsBase then afterVersoEnable s
  else if b = motBase ∧ a < motBase + 0x200 then refreshBus (refreshBus s 0) 1
  else if 0x2001000000 ≤ a ∧ a < 0x2002000000 then
    if b = rcBase n then refreshFrozenPen (refreshPresets s n) n
    else if a = lkBase n then refreshDegraded s n
    else s.iff (a == rulBase n) fun s => useLost s n
  else s

/-- The fields of the word at an aligned address that have no row of their own take a write by their access codes (R4, R7); at an
unassigned offset a write is ignored (R8), and so are bits that the port of an N1 pen does not have (R26). -/
def fieldsWrite (s : State) (a v : Nat) : State :=
  if noTables a || (fieldsAt a).isEmpty || absentBits s a == 2 ^ 32 - 1 then s
  else
    let v := writtenWord s a v
    let taken := (fieldsAt a).filter fun f => !f.own && !writeClosed s f
    afterFields ((beforeFields s a v).each taken fun s f => s.writeField f a v) a

/-! ### The fields that have rows -/

/-- A write of v at address a would change field f. -/
def differs (s : State) (f : Fld) (a v : Nat) : Bool :=
  let (w, m) := f.ofWord a v
  (s.get f &&& m) != w &&& m

/-- SYS: the fields that have rows; only Scribe 0 gets here, but for KICK (R444). -/
def sysRows (who : Requester) (s : State) (o v : Nat) : State :=
  if o = 0x30 then s.iff (v.testBit 0) (chipResetWrite who (v / 2 ^ 16))
  else if 0x100 ≤ o ∧ o < 0x180 then
    let q := (o - 0x100) / 0x10
    if o % 0x10 = 0 then
      let moved := v.testBit 0 != s.on (SYS_SCR_CTRL_RELEASE q)
      if moved then release q (v.testBit 0) s else s.iff (v.testBit 1) fun s => scribeResets s q
    else if o % 0x10 = 4 then
      let s := s.iff (v / 2 ^ 16 != s.get (SYS_SCR_WDT_TIMEOUT q)) (wdtTimeoutWrite q (v / 2 ^ 16))
      kick who q (v % 2 ^ 16) s
    else s
  else s

/-- INK: the fields that have rows. A write of INK_ECC_TEST without authority is ignored in full (R304). -/
def inkRows (s : State) (o v : Nat) : State :=
  if o = 0 then (if v.testBit 0 then srEnter s else s.iff (s.on INK_CTRL_SR_REQ) srExitStart)
  else if 0x110 ≤ o ∧ o < 0x124 then s.set (INK_ARB_BASE_BASE ((o - 0x110) / 4)) v
  else if 0x1000 ≤ o ∧ o < 0x1500 ∧ o % 0x20 = 0x10 then longestClear ((o - 0x1000) / 0x20) v none s
  else if o = 0x40 then
    let asks := v.testBit 0 != s.on INK_ECC_TEST_MECH || v.testBit 1 || v.testBit 2
    if asks && !testAuthority s then s.ev INK_EVENT_TEST_REFUSED
    else ((eccTestMech (v.testBit 0) s).iff (v.testBit 1) eccTestArm).iff (v.testBit 2) eccTestStore
  else s

/-- CPB: the fields that have rows. -/
def cpbRows (s : State) (o v : Nat) : State :=
  if o = 0xC then scratchCountWrite (v % 16) s
  else if o = 0x10 then
    if v.testBit 30 then
      match s.get CPB_OP_KIND with
      | 0 => cpbWriteback s
      | 1 => cpbInvalidate s
      | 2 => cpbWbInv s
      | 3 => cpbZero s
      | 4 => cpbPreload (s.get CPB_OP_WAY) s
      | _ => opRefused s
    else s
  else if 0x100 ≤ o ∧ o < 0x140 then s.iff (v.testBit 31) (cpbUnlock ((o - 0x100) / 4))
  else s

/-- MBX: the fields that have rows, as a requester writes them (R328, R333). -/
def mbxRows (who : Requester) (s : State) (o v : Nat) : State :=
  if o < 0x4000 then
    let m := o / 0x200
    if o % 0x200 < 0x100 then mbxRequestWrite who m (o % 0x100 / 4) v s else mbxResultWrite who m (o % 0x100 / 4) v s
  else if o < 0x4200 then
    let m := (o - 0x4000) / 0x10
    if o % 0x10 = 0 then
      let n := popcount 5 v
      if n = 0 then s
      else if 1 < n then protoErr s m
      else if v.testBit 0 then post who m s
      else if v.testBit 1 then take who m s
      else if v.testBit 2 then complete who m s
      else if v.testBit 3 then mbxAck who m s
      else cancel who m s
    else if o % 0x10 = 8 then mbxCfgWrite who m v s
    else s
  else if 0x6000 ≤ o ∧ o < 0x6100 then
    let i := (o - 0x6000) / 4
    let n := popcount 3 (v / 2 ^ 29)
    if n = 0 then s
    else if 1 < n then sealErr s i
    else if v.testBit 31 then sealTake who i s
    else if v.testBit 30 then sealRelease who i s
    else clearBroken who i s
  else s

/-- LDPC: the fields that have rows. -/
def ldpcRows (s : State) (o v : Nat) : State :=
  if o = 0 then s.iff (v.testBit 3 != s.on LDPC_CTRL_PARK) (parkWrite (v.testBit 3))
  else if o = 0x10 then coreOfflineWrite (putHalf (s.get LDPC_CORE_OFFLINE_OFFLINE) false v) s
  else if o = 0x14 then coreOfflineWrite (putHalf (s.get LDPC_CORE_OFFLINE_OFFLINE) true v) s
  else if o = 0x20 then s.iff (v.testBit 7) (coreTest (s.get LDPC_CORE_TEST_CORE))
  else if o = 0x58 then s.iff (v.testBit 30) (captureArm v)
  else s

/-- HQ: the fields that have rows. -/
def hqRows (s : State) (o v : Nat) : State :=
  if o = 0 then s.set HQ_CTRL_CFG_READY v else if o = 4 then qpSplitWrite (v % 256) s else s

/-- SEC: the fields that have rows; only Scribe 0 gets here (R404). -/
def secRows (s : State) (o v : Nat) : State :=
  if o = 0 then ((s.iff (v.testBit 2) reseed).iff (v.testBit 1) selftest).iff (v.testBit 0) zeroise
  else if o = 0x20 then s.iff (v.testBit 30) fun s => keyStart (s.get SEC_KEY_CMD_OP) (s.get SEC_KEY_CMD_KEK) (s.get SEC_KEY_CMD_SLOT) s
  else s

/-- VRS: the fields that have rows. -/
def vrsRows (s : State) (o v : Nat) : State :=
  if o = 0 then (s.iff (v.testBit 5) degClr).iff (v.testBit 2) (versoLinkFail .retrain)
  else if o = 4 then nodeWrite (v % 4096) s
  else if o = 0x24 then (s.iff (v.testBit 30) giveUp).iff (v.testBit 29) diagClear
  else if 0x100 ≤ o ∧ o < 0x1A0 then vrsOutWrite ((o - 0x100) / 4) v s
  else s

/-- CAL: the fields that have rows; LOAD and REVERT together are a REVERT (R466). -/
def calRows (s : State) (o v : Nat) : State :=
  if o = 0 then (s.iff (v.testBit 31) calStart).iff (v.testBit 30) calAbort
  else if 0x100 ≤ o ∧ o < 0x180 ∧ o % 0x20 = 0x10 then
    let a := (o - 0x100) / 0x20
    if v.testBit 30 then calRevert a s else s.iff (v.testBit 31) (calLoad a)
  else if 0x800 ≤ o ∧ o < 0x860 ∧ o % 8 = 4 then tsOfsWrite ((o - 0x800) / 8) (v % 2 ^ 16) s
  else s

/-- A Loop Engine: the fields that have rows (R156, R167, R168, R170, R179, R181, R496). -/
def leRows (s : State) (e o v : Nat) : State :=
  if o = 0 then s.iff (v.testBit 1) (leReset e)
  else if 0x100 ≤ o ∧ o < 0x100 + 0x40 * loopsOf e then
    let j := (o - 0x100) / 0x40
    if o % 0x40 = 0 then
      let s := loopCtrlWrite e j .ctrl v s
      let s := s.iff (v / 2 ^ 25 % 2 != s.get (LE_LOOP_CTRL_BANK e j)) (bankWrite e j (v / 2 ^ 25 % 2))
      s.iff (v / 2 ^ 29 != s.get (LE_LOOP_CTRL_MODE e j)) (loopModeWrite e j (v / 2 ^ 29))
    else if o % 0x40 = 4 then loopCtrlWrite e j .prog v s
    else s
  else if 0xC00 ≤ o ∧ o < 0xC20 ∧ o % 0x10 = 0 then s.iff (v.testBit 31) (rcClear e ((o - 0xC00) / 0x10))
  else if 0x1000 ≤ o ∧ o < 0x1800 then leMemoryWrite e .prog ((o - 0x1000) / 8) (o % 8 == 4) false v s
  else if 0x2000 ≤ o ∧ o < 0x3000 then leMemoryWrite e .state ((o - 0x2000) / 8) (o % 8 == 4) false v s
  else if 0x3000 ≤ o ∧ o < 0x5000 then rcTableWrite e ((o - 0x3000) / 0x1000) (o % 0x1000 / 4) v s
  else if 0x5000 ≤ o ∧ o < 0x6000 then leMemoryWrite e (.coef 0) ((o - 0x5000) / 8) (o % 8 == 4) false v s
  else if 0x6000 ≤ o ∧ o < 0x7000 then leMemoryWrite e (.coef 1) ((o - 0x6000) / 8) (o % 8 == 4) false v s
  else s

/-- MOT: the fields that have rows. -/
def motRows (s : State) (o v : Nat) : State :=
  if 0x8000 ≤ o then leRows s 16 (o - 0x8000) v
  else if o = 0x110 ∨ o = 0x130 then s.iff (v.testBit 3) (ovClear ((o - 0x110) / 0x20))
  else if 0x1000 ≤ o ∧ o < 0x1800 then
    let k := (o - 0x1000) / 0x100
    if o % 0x100 = 0 then
      let s := s.iff (v.testBit 2) (faultClr k)
      s.iff (v.testBit 0 != s.on (MOT_SP_CTRL_ENABLE k) || (s.spindle k).desync) (spEnableWrite k (v.testBit 0))
    else if o % 0x100 = 4 then spSetWrite k v s
    else s
  else if 0x2100 ≤ o ∧ o < 0x2200 then seqEntryWrite ((o - 0x2100) / 4) v s
  else s

/-- DUC: the fields that have rows. -/
def ducRows (s : State) (o v : Nat) : State :=
  if 0x1000 ≤ o ∧ o < 0x1800 then
    let n := (o - 0x1000) / 0x80
    if o % 0x80 = 0 then
      let s := sledModeWrite n (v % 8) s
      s.iff (v.testBit 31) fun s => stopAtOnce s n
    else if o % 0x80 = 4 then sledTargetWrite n v s
    else if o % 0x80 = 0xC then posSet n v s
    else s
  else s

/-- The ruling of pen n: the fields that have rows. -/
def rulRows (s : State) (n o v : Nat) : State :=
  if o = 0 then
    let s := s.iff (v.testBit 0 != s.on (RUL_CTRL_ENABLE n)) (if v.testBit 0 then rulEnable n else rulDisable n)
    s.iff (v.testBit 1 != s.on (RUL_CTRL_JUMP n)) (if v.testBit 1 then rulJumpSet n else rulJumpClear n)
  else if o = 4 then rulBandWrite n .band v s
  else if o = 8 then rulBandWrite n .periods v s
  else s

/-- The read channel of pen n: the fields that have rows. -/
def rcRows (s : State) (n o v : Nat) : State :=
  if o = 0 then channelsChanged s (rcCtrlWrite n v)
  else if 0x1000 ≤ o ∧ o < 0x3000 then ztDirWrite n ((o - 0x1000) / 4) v s
  else s

/-- The write channel of pen n is enabled: ENABLE is set by a register write, and cleared by WC_DISABLE. -/
def wcEnableSet (s : State) (n v : Nat) : State :=
  s.iff (v.testBit 0 && !s.on (WC_CTRL_ENABLE n)) fun s => channelsChanged s fun s => s.set (WC_CTRL_ENABLE n) 1

/-- The write channel of pen n: the fields that have rows. -/
def wcRows (s : State) (n o v : Nat) : State :=
  if o = 0 then
    let s := wcEnableSet s n v
    let s := s.iff (!v.testBit 0 && s.on (WC_CTRL_ENABLE n)) fun s => channelsChanged s (wcDisable n)
    s.iff (v.testBit 2 != s.on (WC_CTRL_HALT n)) (haltWrite n (v.testBit 2))
  else if o = 0x1C then fqHeadWrite n v s
  else if o = 0x38 then s.iff (v.testBit 30) (gateClr n)
  else if o = 0x60 then s.iff (v.testBit 30) (wsLoad n v)
  else s

/-- The link of pen n: the fields that have rows. -/
def lkRows (s : State) (n o v : Nat) : State :=
  if o = 0 then
    let s := s.iff (v.testBit 0 != s.on (LK_CTRL_ENABLE n)) (lkEnableWrite n (v.testBit 0))
    (s.iff (v.testBit 3) (retrain n)).iff (v.testBit 4) (deskew n)
  else s

/-- The error front end and supervisor of pen n: the fields that have rows. -/
def svRows (s : State) (n o v : Nat) : State :=
  if o = 0x8000 then
    let s := s.iff (v.testBit 1 != s.on (SV_CTRL_SUP_EN n)) (supEnWrite n (v.testBit 1))
    s.iff (v.testBit 2 != s.on (SV_CTRL_TRK_AUTO n)) (trkAutoWrite n (v.testBit 2))
  else if o = 0x8020 then s.iff (v.testBit 31) fun s => acqStart n (s.get (SV_ACQ_LAYER n)) s
  else if o = 0x8030 then s.iff (v.testBit 31) fun s => jumpStart n (s.get (SV_JUMP_DIR n) == 1) (s.get (SV_JUMP_COUNT n)) s
  else if o = 0x803C then s.iff (v.testBit 31) fun s => tjumpStart n (s.get (SV_TJUMP_TKICK n)) (s.get (SV_TJUMP_COUNT n)) s
  else s

/-- LATCH (R20, R22): a capture of the block at base b is asked for; one that is pending takes this one in. -/
def latch (b : Nat) (s : State) : State := if blockBase b = some b then s.set (LATCH_LATCH b) 1 else s

/-- The fields of the word at an aligned block address that have rows take a write as those rows do. -/
def rowsWrite (who : Requester) (s : State) (a v : Nat) : State :=
  let o := a % 0x10000
  let b := a / 0x10000 * 0x10000
  if o = 0xFF00 then s.iff (v.testBit 0) (latch b)
  else if b = sysBase then sysRows who s o v
  else if b = inkBase then inkRows s o v
  else if b = cpbBase then cpbRows s o v
  else if b = hqBase then hqRows s o v
  else if b = ldgBase then (if o = 0x28 then s.iff (v.testBit 30) ldgSwap else s)
  else if b = mbxBase then mbxRows who s o v
  else if b = secBase then secRows s o v
  else if b = motBase then motRows s o v
  else if b = ducBase then ducRows s o v
  else if b = vrsBase then vrsRows s o v
  else if b = calBase then calRows s o v
  else if b = ldpcBase then ldpcRows s o v
  else
    let n := penOf a
    match (a - 0x2001000000) % 0x100000 / 0x10000 with
    | 0 => lkRows s n o v
    | 1 => rulRows s n o v
    | 2 => rcRows s n o v
    | 3 => wcRows s n o v
    | _ => if 0x8000 ≤ o then svRows s n o v else leRows s n o v

/-! ### Who may write what -/

/-- Whether a block takes a requester's write (R404, R444), and what a refused one leaves: SEC records it. -/
def writeAllowed (who : Requester) (a : Nat) : Bool :=
  let b := a / 0x10000 * 0x10000
  who == .scribe 0 || !(b == sysBase || b == secBase)

/-- A write that a block does not take from this requester (R404, R444); a Scribe kicks its own watchdog all the same. -/
def writeRefused (who : Requester) (s : State) (a v : Nat) : State :=
  if a / 0x10000 * 0x10000 = secBase then s.ev SEC_EVENT_ACCESS
  else
    let o := a - sysBase
    s.iff (decide (0x100 ≤ o) && decide (o < 0x180) && o % 0x10 == 4) (kick who ((o - 0x100) / 0x10) (v % 2 ^ 16))

/-- VRS_OUT_k is refused or taken as a whole (R382, R387): a write that changes CLASS belongs to its row. -/
def outWriteElsewhere (s : State) (a v : Nat) : Bool :=
  decide (vrsBase + 0x100 ≤ a) && decide (a < vrsBase + 0x1A0) && v / 2 ^ 28 != s.get (VRS_OUT_CLASS ((a - vrsBase - 0x100) / 4))

/-- A write that sets several action bits of a mailbox or a seal is no row's: it is ignored and recorded (R328, R333). -/
def mbxActions (s : State) (a v : Nat) : State :=
  let o := a - mbxBase
  if mbxBase + 0x4000 ≤ a ∧ a < mbxBase + 0x4200 ∧ o % 0x10 = 0 ∧ 1 < popcount 5 v then protoErr s ((o - 0x4000) / 0x10)
  else if mbxBase + 0x6000 ≤ a ∧ a < mbxBase + 0x6100 ∧ 1 < popcount 3 (v / 2 ^ 29) then sealErr s ((o - 0x6000) / 4)
  else s

/-- A word written at an aligned block address: its fields that have no row, and then the others where `rows` asks for them. -/
def wordWrite (who : Requester) (rows : Bool) (s : State) (a v : Nat) : State :=
  if writeAllowed who a then
    if rows then
      let whole := a / 0x10000 * 0x10000 == vrsBase && decide (0x100 ≤ a % 0x10000)
      rowsWrite who (if whole then s else fieldsWrite s a v) a v
    else if outWriteElsewhere s a v then s
    else
      let s := mbxActions (fieldsWrite s a v) a v
      s.iff (decide (0x2001000000 ≤ a) && a == wcBase (penOf a)) fun s => wcEnableSet s (penOf a) v
  else writeRefused who s a v

/-! ### Abandoned accesses -/

/-- The record of an abandoned access (R18, R19). -/
def recordXing (s : State) (who : Requester) (a : Nat) : State :=
  let s := s.ev SYS_EVENT_XING
  if s.on SYS_XING_ERR_VALID then s.ev SYS_XING_ERR_OVERRUN
  else ((((s.set SYS_XING_ERR_VALID 1).set SYS_XING_ERR_ISLAND (islandOf a)).set SYS_XING_ERR_REQUESTER (codeOf who)).set
    SYS_XING_ERR_ADDR_HI (a / 2 ^ 32)).set SYS_XING_ADDR_ADDR_LO (a % 2 ^ 32)

/-- All ones, as a read that is not performed returns to the host (R9, R18). -/
abbrev allOnes : Nat := 2 ^ 32 - 1

/-- An access that is not performed: a Scribe takes an access fault, another requester reads all ones, a write is dropped
(R9, R18). -/
def notPerformed (s : State) (who : Requester) (a : Nat) (isWrite : Bool) : State :=
  match who with
  | .scribe q => trapScribe s q (if isWrite then 7 else 5) a
  | _ => if isWrite then s else giveRead s (codeOf who) allOnes

/-- An access into an island whose clock is stopped is abandoned (R18, R19). While the whole part is held in reset the SYS block is held
too and records nothing (assumption 66). -/
def abandon (s : State) (who : Requester) (a : Nat) (isWrite : Bool) : State :=
  notPerformed (if inReset s then s else recordXing s who a) who a isWrite

/-- ACCESS_ABANDONED (R18, R19): where the island at the address is stopped. -/
def accessAbandoned (who : Requester) (a : Nat) (isWrite : Bool) (s : State) : State :=
  if (blockBase a).isSome && islandStopped s (islandOf a) then abandon s who a isWrite else s

def execAccessAbandoned (who : Requester) (addr : BitVec 40) (isWrite : Bool) (s : State) : Res :=
  .next (accessAbandoned who addr.toNat isWrite s)

/-! ### Accesses to register blocks -/

/-- A requester that has a path to register blocks: the debug port while it is open; the host sees only its BARs, and the Verso
partner no address (R487, R488). -/
def reaches (s : State) : Requester → Bool
  | .scribe _ => true
  | .debug => s.on SEC_STATUS_DBG_OPEN
  | .host _ => false
  | .verso => false

/-- The only accesses that register blocks accept: naturally aligned and 32 bits wide, a size being log2 of its bytes (R9). -/
def wordAccess (size a : Nat) : Bool := size == 2 && a % 4 == 0

/-- A write to an address of the Scribe view: performed as a naturally aligned 32-bit access in a block whose island runs (R8, R9, R18,
R313). -/
def blockWrite (who : Requester) (rows : Bool) (size a v : Nat) (s : State) : State :=
  if (blockBase a).isNone || !wordAccess size a then notPerformed s who a true
  else if islandStopped s (islandOf a) then abandon s who a true
  else
    let s := match who with | .scribe q => s.modScribe q fun c => { c with trap := none } | _ => s
    wordWrite who rows s a (v % 2 ^ 32)

/-- The value that a read of the word at an aligned block address returns to a requester (R330 for results). -/
def wordFor (who : Requester) (s : State) (a : Nat) : Nat :=
  let o := a - mbxBase
  if mbxBase ≤ a ∧ a < mbxBase + 0x4000 ∧ 0x100 ≤ o % 0x200 then
    resultWord s (match who with | .host _ => true | _ => false) (o / 0x200) (o % 0x100 / 4)
  else blockWord s a

/-- What such a read does: fields that clear on a read clear, and a host's read of a ready result header counts itself. -/
def wordReadEffect (who : Requester) (s : State) (a : Nat) : State :=
  let o := a - mbxBase
  match who with
  | .host _ =>
    if mbxBase ≤ a ∧ a < mbxBase + 0x4000 ∧ o % 0x200 = 0x100 then
      s.iff (mbxReady s (o / 0x200)) fun s => s.set (MBX_STATUS_READ_COUNT (o / 0x200)) (min 7 (s.get (MBX_STATUS_READ_COUNT (o / 0x200)) + 1))
    else s.readWordEffect a
  | _ => s.readWordEffect a

/-- A read of an address of the Scribe view. -/
def blockRead (who : Requester) (size a : Nat) (s : State) : State :=
  if (blockBase a).isNone || !wordAccess size a then notPerformed s who a false
  else if islandStopped s (islandOf a) then abandon s who a false
  else wordReadEffect who (giveAny s who (wordFor who s a)) a

/-! ### BAR0 (R344, R488, R489) -/

/-- CC as a read returns it. -/
def ccWord (h : HostFn) : Nat := h.cc + h.shn * 2 ^ 14 + (if h.en then 1 else 0)

/-- CSTS as a read returns it. -/
def cstsWord (h : HostFn) : Nat := (if h.rdy then 1 else 0) + h.shst * 4 + (if h.pp then 32 else 0)

/-- The pending bits of vectors 32 i to 32 i + 31. -/
def pbaWord (h : HostFn) (i : Nat) : Nat :=
  (List.range 32).foldl (fun w b => if h.pba.getD (32 * i + b) false then w + 2 ^ b else w) 0

/-- The word at an aligned BAR0 offset; none where the base specification leaves what a read returns open (a doorbell). -/
def bar0Word (h : HostFn) (o : Nat) : Option Nat :=
  if o = 0x00 then some (511 + 2 ^ 16 + 4 * 2 ^ 24)
  else if o = 0x04 then some (2 ^ 5)
  else if o = 0x08 then some 0x20000
  else if o = 0x14 then some (ccWord h)
  else if o = 0x1C then some (cstsWord h)
  else if o = 0x24 then some h.aqa
  else if o = 0x28 then some (h.asq % 2 ^ 32)
  else if o = 0x2C then some (h.asq / 2 ^ 32)
  else if o = 0x30 then some (h.acq % 2 ^ 32)
  else if o = 0x34 then some (h.acq / 2 ^ 32)
  else if 0x1000 ≤ o ∧ o < 0x1408 then none
  else if 0x2000 ≤ o ∧ o < 0x2820 then some (msixWord h ((o - 0x2000) / 4))
  else if 0x3000 ≤ o ∧ o < 0x3018 then some (pbaWord h ((o - 0x3000) / 4))
  else some 0

/-- The accesses that BAR0 accepts: naturally aligned, of 32 or of 64 bits (R489). -/
def bar0Access (size o : Nat) : Bool := (size == 2 && o % 4 == 0) || (size == 3 && o % 8 == 0)

/-- The word that a read of BAR0 returns: where the base specification leaves it open, a free value. -/
def bar0Value (s : State) (f o : Nat) : Nat × State :=
  match bar0Word (s.fn f) o with
  | some v => (v, s)
  | none => let (v, s) := s.fresh; (v % 2 ^ 32, s)

/-- A read of function f's BAR0: one word, or two for a 64-bit access. -/
def bar0Read (f size o : Nat) (s : State) : State :=
  if bar0Access size o = false ∨ inReset s = true then giveRead s (8 + f) allOnes
  else
    let (v, s) := bar0Value s f o
    if size = 3 then let (h, s) := bar0Value s f (o + 4); giveRead s (8 + f) (v + h * 2 ^ 32) else giveRead s (8 + f) v

/-- A word of the MSI-X table written: a vector unmasked with its interrupt pending sends it. -/
def msixWrite (s : State) (f i v : Nat) : State :=
  let s := s.modFn f fun h => { h with msix := h.msix.set i (if i % 4 = 3 then 1 else 0) v }
  let n := i / 4
  s.iff (i % 4 == 3 && !v.testBit 0 && (s.fn f).pba.getD n false) fun s =>
    sendMsix (s.modFn f fun h => { h with pba := h.pba.set n false false }) f n

/-- A word of function f's BAR0 written, but for what has rows: EN and SHN of CC, and the doorbells. -/
def bar0WordWrite (f o v : Nat) (s : State) : State :=
  if o = 0x14 then s.modFn f fun h => { h with cc := v / 2 ^ 16 % 2 ^ 8 * 2 ^ 16 + v / 16 % 2 ^ 10 * 16 }
  else if o = 0x24 then s.modFn f fun h => { h with aqa := v % 2 ^ 12 + v / 2 ^ 16 % 2 ^ 12 * 2 ^ 16 }
  else if o = 0x28 then s.modFn f fun h => { h with asq := putHalf h.asq false (v / 4096 * 4096) }
  else if o = 0x2C then s.modFn f fun h => { h with asq := putHalf h.asq true v }
  else if o = 0x30 then s.modFn f fun h => { h with acq := putHalf h.acq false (v / 4096 * 4096) }
  else if o = 0x34 then s.modFn f fun h => { h with acq := putHalf h.acq true v }
  else if 0x2000 ≤ o ∧ o < 0x2820 then msixWrite s f ((o - 0x2000) / 4) v
  else s

/-- A write to function f's BAR0: one word, or two for a 64-bit access, the lower first. -/
def bar0Write (f size o v : Nat) (s : State) : State :=
  if bar0Access size o = false ∨ inReset s = true then s
  else (bar0WordWrite f o (v % 2 ^ 32) s).iff (size == 3) (bar0WordWrite f (o + 4) (v / 2 ^ 32))

/-! ### BAR2 (R489, R490) -/

/-- A read of BAR2 for function f: the mailboxes and seals, or the status window. An access of another size, or not naturally aligned,
returns all ones (R9, R489). -/
def bar2Read (f : Fin 2) (size o : Nat) (s : State) : State :=
  if o < 0x8000 then blockRead (.host f) size (mbxBase + o) s
  else giveRead s (8 + f) (if wordAccess size o && !inReset s then s.window.getD o 0 else allOnes)

/-- A write to BAR2 for function f; the window is read-only, and an access of another size or not naturally aligned is dropped (R9,
R489). -/
def bar2Write (f : Fin 2) (size o v : Nat) (s : State) : State :=
  if 0x8000 ≤ o then s else blockWrite (.host f) false size (mbxBase + o) v s

/-- The words of the status window and where they come from (R490). -/
def windowWords : List (Nat × Nat) :=
  [(0x8004, sysBase), (0x8008, secBase + 4), (0x800C, sysBase + 0x40), (0x8010, vrsBase + 0x10), (0x8014, sysBase + 0x804),
    (0x8018, sysBase + 0x840), (0x801C, hqBase + 0x40), (0x8020, sysBase + 0x10), (0x8024, sysBase + 0x14), (0x8028, sysBase + 0x48),
    (0x802C, sysBase + 0x4C)]
    ++ ((List.range 16).map fun n => (0x8040 + 4 * n, lkBase n + 4)) ++ (List.range 8).map fun k => (0x8080 + 4 * k, motBase + 0x1008 + 0x100 * k)

/-- STATUS_WINDOW_REFRESH (R490): each word whose island runs, and then SEQ. -/
def statusWindowRefresh (s : State) : State :=
  if s.running then
    let w := windowWords.foldl (fun w (e : Nat × Nat) => if islandStopped s (islandOf e.2) then w else Store.set w e.1 0 (liveWord s e.2)) s.window
    { s with window := w.set 0x8000 0 ((w.getD 0x8000 0 + 1) % 2 ^ 32) }
  else s

def execStatusWindowRefresh (s : State) : Res := .next (statusWindowRefresh s)

/-! ### The rows -/

/-- REGISTER_WRITE (R4, R5, R7 to R9, R18, R19, R404, R444, R487 to R490): a write of 2^size bytes, as far as the fields it reaches have
no row of their own. -/
def registerWrite (who : Requester) (a : BusAddr) (size v : Nat) (s : State) : State :=
  match a with
  | .block b => if reaches s who then blockWrite who false size b.toNat v s else s
  | .bar0 o => match who with | .host f => bar0Write f size o.toNat v s | _ => s
  | .bar2 o => match who with | .host f => bar2Write f size o.toNat v s | _ => s

def execRegisterWrite (who : Requester) (addr : BusAddr) (size : AccessSize) (value : BitVec 64) (s : State) : Res :=
  .next (registerWrite who addr size value.toNat s)

/-- ROC_READ (R4, R6 to R9, R18, R21, R330, R487 to R490, R492): a read of 2^size bytes. -/
def rocRead (who : Requester) (a : BusAddr) (size : Nat) (s : State) : State :=
  match a with
  | .block b => if reaches s who then blockRead who size b.toNat s else giveAny s who allOnes
  | .bar0 o => match who with | .host f => bar0Read f size o.toNat s | _ => s
  | .bar2 o => match who with | .host f => bar2Read f size o.toNat s | _ => s

def execRocRead (who : Requester) (addr : BusAddr) (size : AccessSize) (s : State) : Res := .next (rocRead who addr size s)

/-- LATCH (R18, R20, R22). -/
def execLatch (block : BitVec 40) (s : State) : Res := .next (s.clocked (islandOf block.toNat) (latch block.toNat))

/-- An INK capture with CLR_ON_LATCH = 1 clears every requester's GRANTS and WAIT (R300); LONGEST stays (R301). -/
def clearOnLatch (b : Nat) (s : State) : State :=
  s.iff (b == inkBase && s.on INK_ARB_CTRL_CLR_ON_LATCH) fun s =>
    s.each (List.range 40) fun s r => (s.set (INK_ARB_GRANTS_GRANTS r) 0).set (INK_ARB_WAIT_WAIT r) 0

/-- The stored values that a capture of a block copies: the live ones; in the middle of a servo tick, those that the pen's engine block
held at its last completed tick (R203). -/
def captureOf (s : State) (b : Nat) : Store Nat :=
  match (List.range 16).find? fun n => b == leBase n && (s.sup n).sample.isSome with
  | some n => (s.sup n).before
  | none => s.fld.filter (captured? b)

/-- LATCH_CAPTURE (R20 to R22, R50, R203, R300, R309): every latchable value of the block goes to its shadow; a field at its reset value
has no stored one. DESIGN CHOICE (assumption 108): a capture still pending when its island's clock stops is made all the same, as R21
does not say what becomes of it. -/
def latchCapture (b : Nat) (s : State) : State :=
  if s.on (LATCH_LATCH b) then
    let rest : Store Nat := s.shadow.filter fun e => !(decide (b * 64 ≤ e.1) && decide (e.1 < (b + 0x10000) * 64))
    let sh := (captureOf s b).foldl (fun m (e : Nat × Nat) => Store.insert m e.1 e.2) rest
    let s := { s with shadow := sh, captured := b :: s.captured.filter (· != b) }
    clearOnLatch b (((s.set (LATCH_LATCH b) 0).wrap (LATCH_SEQ b) 1).set (LATCH_TIME b) s.now)
  else s

def execLatchCapture (block : BitVec 40) (s : State) : Res := .next (latchCapture block.toNat s)

/-- RC_CTRL_WRITE (R54, R107, R108, R400): the control word of a read channel, and what its ENABLE means for the ANA state. -/
def execRcCtrlWrite (n : Fin 16) (value : Word) (s : State) : Res := .next (s.clocked (dataIsland n) fun s => channelsChanged s (rcCtrlWrite n value.toNat))

/-- SCRIBE_LOAD (R9, R17, R18, R310 to R314, R319 to R321, R325, R326, R485): memory, or a register block by a 32-bit access. -/
def scribeLoad (q : Fin 8) (a size : Nat) (ecc : LocalEcc) (s : State) : State :=
  if !permits s q 0 a (2 ^ size) then trapScribe s q 5 a
  else match placeOf s q a with
  | .block => blockRead (.scribe q) size a s
  | _ => loadMem s q a (2 ^ size) ecc

def execScribeLoad (q : Fin 8) (addr : BitVec 40) (size : AccessSize) (ecc : LocalEcc) (s : State) : Res :=
  .next (tellDiagnosis (scribeLoad q addr.toNat size ecc s))

/-- SCRIBE_STORE (R9, R17, R18, R310, R312, R313, R319 to R321, R324, R326, R485): memory, or a register block by a 32-bit access, with
what the rows of its fields do. -/
def scribeStore (q : Fin 8) (a size v : Nat) (s : State) : State :=
  if !permits s q 1 a (2 ^ size) then trapScribe s q 7 a
  else match placeOf s q a with
  | .block => blockWrite (.scribe q) true size a v s
  | _ => storeMem s q a (2 ^ size) v

def execScribeStore (q : Fin 8) (addr : BitVec 40) (size : AccessSize) (value : BitVec 64) (s : State) : Res :=
  .next (tellDiagnosis (scribeStore q addr.toNat size value.toNat s))

end Sys2Proof.Machine
end

