-- ==== Sys2Proof/Machine/Dispatch.lean ====
section
/-!
DEFINITION. What a command does to everything but the queue: one arm for each constructor, each a direct call of its meaning.
-/

namespace Sys2Proof.Machine

def exec (i : Instr) (s : State) : Host.Outcome State Fault Refusal :=
  match i with
  | .registerWrite who addr size value => Sys2Proof.Machine.execRegisterWrite who addr size value s
  | .rocRead who addr size => Sys2Proof.Machine.execRocRead who addr size s
  | .latch block => Sys2Proof.Machine.execLatch block s
  | .latchCapture block => Sys2Proof.Machine.execLatchCapture block s
  | .accessAbandoned who addr isWrite => Sys2Proof.Machine.execAccessAbandoned who addr isWrite s
  | .rulEnable n => Sys2Proof.Machine.execRulEnable n s
  | .rulDisable n => Sys2Proof.Machine.execRulDisable n s
  | .rulJumpSet n => Sys2Proof.Machine.execRulJumpSet n s
  | .rulJumpClear n => Sys2Proof.Machine.execRulJumpClear n s
  | .rulBandWrite n reg value => Sys2Proof.Machine.execRulBandWrite n reg value s
  | .freqAcquired n rateHz errPpm periods => Sys2Proof.Machine.execFreqAcquired n rateHz errPpm periods s
  | .phaseAcquired n rms periods rniGood rnoGood => Sys2Proof.Machine.execPhaseAcquired n rms periods rniGood rnoGood s
  | .acqTimeout n elapsed => Sys2Proof.Machine.execAcqTimeout n elapsed s
  | .addrWord n rni rno rniRms rnoRms => Sys2Proof.Machine.execAddrWord n rni rno rniRms rnoRms s
  | .rulingNibLost n nib why => Sys2Proof.Machine.execRulingNibLost n nib why s
  | .rulingNibGood n nib phase periods wholeBin word => Sys2Proof.Machine.execRulingNibGood n nib phase periods wholeBin word s
  | .holdLimit n elapsedUs => Sys2Proof.Machine.execHoldLimit n elapsedUs s
  | .freqWordSend n word => Sys2Proof.Machine.execFreqWordSend n word s
  | .rcCtrlWrite n value => Sys2Proof.Machine.execRcCtrlWrite n value s
  | .blotStart n k crit bit => Sys2Proof.Machine.execBlotStart n k crit bit s
  | .blotEnd n k clearBit => Sys2Proof.Machine.execBlotEnd n k clearBit s
  | .cwBoundary n k f idx nsSinceSelect => Sys2Proof.Machine.execCwBoundary n k f idx nsSinceSelect s
  | .presetFetchDone n k ue => Sys2Proof.Machine.execPresetFetchDone n k ue s
  | .ztDirWrite n entry value => Sys2Proof.Machine.execZtDirWrite n entry value s
  | .syncSearch n k => Sys2Proof.Machine.execSyncSearch n k s
  | .resyncSearch n k => Sys2Proof.Machine.execResyncSearch n k s
  | .slipTest n k weights => Sys2Proof.Machine.execSlipTest n k weights s
  | .cwFramed n k dm => Sys2Proof.Machine.execCwFramed n k dm s
  | .coreSchedule core => Sys2Proof.Machine.execCoreSchedule core s
  | .decodeDone core res => Sys2Proof.Machine.execDecodeDone core res s
  | .spillCopyDone => Sys2Proof.Machine.execSpillCopyDone s
  | .samplesLost n k => Sys2Proof.Machine.execSamplesLost n k s
  | .replayDone ch res => Sys2Proof.Machine.execReplayDone ch res s
  | .revisitStart n => Sys2Proof.Machine.execRevisitStart n s
  | .revisitStep n => Sys2Proof.Machine.execRevisitStep n s
  | .parkWrite set => Sys2Proof.Machine.execParkWrite set s
  | .coreOfflineWrite value => Sys2Proof.Machine.execCoreOfflineWrite value s
  | .coreTest core => Sys2Proof.Machine.execCoreTest core s
  | .coreTestDone pass => Sys2Proof.Machine.execCoreTestDone pass s
  | .captureArm value => Sys2Proof.Machine.execCaptureArm value s
  | .captureDone => Sys2Proof.Machine.execCaptureDone s
  | .fqHeadWrite n value => Sys2Proof.Machine.execFqHeadWrite n value s
  | .groupForm n => Sys2Proof.Machine.execGroupForm n s
  | .groupStart n => Sys2Proof.Machine.execGroupStart n s
  | .slotArrival n k f fifoBytes sidx => Sys2Proof.Machine.execSlotArrival n k f fifoBytes sidx s
  | .burnDone n k => Sys2Proof.Machine.execBurnDone n k s
  | .writeUnderrun n k => Sys2Proof.Machine.execWriteUnderrun n k s
  | .verifyRead n desc => Sys2Proof.Machine.execVerifyRead n desc s
  | .descComplete n desc => Sys2Proof.Machine.execDescComplete n desc s
  | .groupEnd n => Sys2Proof.Machine.execGroupEnd n s
  | .colophonGate n => Sys2Proof.Machine.execColophonGate n s
  | .colophonReadback n => Sys2Proof.Machine.execColophonReadback n s
  | .calReadback n nibs => Sys2Proof.Machine.execCalReadback n nibs s
  | .blankCheck n rms => Sys2Proof.Machine.execBlankCheck n rms s
  | .readDesc n desc => Sys2Proof.Machine.execReadDesc n desc s
  | .wsLoad n value => Sys2Proof.Machine.execWsLoad n value s
  | .wsLoadDone n ack => Sys2Proof.Machine.execWsLoadDone n ack s
  | .gateClr n => Sys2Proof.Machine.execGateClr n s
  | .haltWrite n set => Sys2Proof.Machine.execHaltWrite n set s
  | .wcDisable n => Sys2Proof.Machine.execWcDisable n s
  | .writeHoldRise n => Sys2Proof.Machine.execWriteHoldRise n s
  | .leTick e cycles eccCorr => Sys2Proof.Machine.execLeTick e cycles eccCorr s
  | .loopModeWrite e j mode => Sys2Proof.Machine.execLoopModeWrite e j mode s
  | .loopCtrlWrite e j reg value => Sys2Proof.Machine.execLoopCtrlWrite e j reg value s
  | .bankWrite e j bank => Sys2Proof.Machine.execBankWrite e j bank s
  | .leMemoryWrite e mem index high inSwitch value => Sys2Proof.Machine.execLeMemoryWrite e mem index high inSwitch value s
  | .rcTableWrite e t bin value => Sys2Proof.Machine.execRcTableWrite e t bin value s
  | .rcClear e t => Sys2Proof.Machine.execRcClear e t s
  | .rcClearDone e t => Sys2Proof.Machine.execRcClearDone e t s
  | .leReset e => Sys2Proof.Machine.execLeReset e s
  | .lockstepFault e loop word cycle ecc => Sys2Proof.Machine.execLockstepFault e loop word cycle ecc s
  | .invalidTick n elapsedNs => Sys2Proof.Machine.execInvalidTick n elapsedNs s
  | .resume n => Sys2Proof.Machine.execResume n s
  | .escapeRetract n => Sys2Proof.Machine.execEscapeRetract n s
  | .collapseRetract n => Sys2Proof.Machine.execCollapseRetract n s
  | .longGap n => Sys2Proof.Machine.execLongGap n s
  | .retractEnd n => Sys2Proof.Machine.execRetractEnd n s
  | .acqStart n layer => Sys2Proof.Machine.execAcqStart n layer s
  | .approachDone n => Sys2Proof.Machine.execApproachDone n s
  | .sweepCapture n => Sys2Proof.Machine.execSweepCapture n s
  | .fLock n => Sys2Proof.Machine.execFLock n s
  | .trackCapture n => Sys2Proof.Machine.execTrackCapture n s
  | .tLock n => Sys2Proof.Machine.execTLock n s
  | .trackSlip n => Sys2Proof.Machine.execTrackSlip n s
  | .jumpStart n shallower count => Sys2Proof.Machine.execJumpStart n shallower count s
  | .jumpPhaseEnd n => Sys2Proof.Machine.execJumpPhaseEnd n s
  | .tjumpStart n tkick count => Sys2Proof.Machine.execTjumpStart n tkick count s
  | .tjumpEnd n => Sys2Proof.Machine.execTjumpEnd n s
  | .supEnWrite n set => Sys2Proof.Machine.execSupEnWrite n set s
  | .trkAutoWrite n set => Sys2Proof.Machine.execTrkAutoWrite n set s
  | .pwmPeriod k conv => Sys2Proof.Machine.execPwmPeriod k conv s
  | .overcurrentTrip k shunt => Sys2Proof.Machine.execOvercurrentTrip k shunt s
  | .zcConfirm k tBefore tAfter => Sys2Proof.Machine.execZcConfirm k tBefore tAfter s
  | .commutate k => Sys2Proof.Machine.execCommutate k s
  | .missedZc k => Sys2Proof.Machine.execMissedZc k s
  | .catchEnd k conv => Sys2Proof.Machine.execCatchEnd k conv s
  | .brakeEnd k => Sys2Proof.Machine.execBrakeEnd k s
  | .slotGrant bus => Sys2Proof.Machine.execSlotGrant bus s
  | .alignEnd k => Sys2Proof.Machine.execAlignEnd k s
  | .handover k => Sys2Proof.Machine.execHandover k s
  | .openHoldFail k => Sys2Proof.Machine.execOpenHoldFail k s
  | .coastEnd k => Sys2Proof.Machine.execCoastEnd k s
  | .stopBrakeEnd k => Sys2Proof.Machine.execStopBrakeEnd k s
  | .spSetWrite k value => Sys2Proof.Machine.execSpSetWrite k value s
  | .spEnableWrite k set => Sys2Proof.Machine.execSpEnableWrite k set s
  | .faultClr k => Sys2Proof.Machine.execFaultClr k s
  | .busSample adc code elapsedNs frameNs => Sys2Proof.Machine.execBusSample adc code elapsedNs frameNs s
  | .chopFault bus kind sinceUs => Sys2Proof.Machine.execChopFault bus kind sinceUs s
  | .ovClear bus => Sys2Proof.Machine.execOvClear bus s
  | .i2tLimit k => Sys2Proof.Machine.execI2tLimit k s
  | .seqEntryWrite ix value => Sys2Proof.Machine.execSeqEntryWrite ix value s
  | .plannerTick => Sys2Proof.Machine.execPlannerTick s
  | .sledTargetWrite n value => Sys2Proof.Machine.execSledTargetWrite n value s
  | .sledModeWrite n mode => Sys2Proof.Machine.execSledModeWrite n mode s
  | .moveDone n => Sys2Proof.Machine.execMoveDone n s
  | .extStep outward elapsedNs => Sys2Proof.Machine.execExtStep outward elapsedNs s
  | .sledStop n => Sys2Proof.Machine.execSledStop n s
  | .posSet n value => Sys2Proof.Machine.execPosSet n value s
  | .switchQualify n stableUs => Sys2Proof.Machine.execSwitchQualify n stableUs s
  | .ducFrame bus => Sys2Proof.Machine.execDucFrame bus s
  | .stageStatus a record => Sys2Proof.Machine.execStageStatus a record s
  | .stageLost a missing => Sys2Proof.Machine.execStageLost a missing s
  | .lkEnableWrite n set => Sys2Proof.Machine.execLkEnableWrite n set s
  | .signalDetect n => Sys2Proof.Machine.execSignalDetect n s
  | .retrain n => Sys2Proof.Machine.execRetrain n s
  | .trainStep n res => Sys2Proof.Machine.execTrainStep n res s
  | .trainTimeout n => Sys2Proof.Machine.execTrainTimeout n s
  | .failWaitEnd n => Sys2Proof.Machine.execFailWaitEnd n s
  | .pllLock quad => Sys2Proof.Machine.execPllLock quad s
  | .deskew n => Sys2Proof.Machine.execDeskew n s
  | .deskewDone n headers units => Sys2Proof.Machine.execDeskewDone n headers units s
  | .deskewSuspendExpiry n => Sys2Proof.Machine.execDeskewSuspendExpiry n s
  | .samples n header data steps => Sys2Proof.Machine.execSamples n header data steps s
  | .ruling n header data => Sys2Proof.Machine.execRuling n header data s
  | .servo n header words sets => Sys2Proof.Machine.execServo n header words sets s
  | .penStatus n header words corrected => Sys2Proof.Machine.execPenStatus n header words corrected s
  | .claimStatus n header words => Sys2Proof.Machine.execClaimStatus n header words s
  | .ack n k header => Sys2Proof.Machine.execAck n k header s
  | .uncorrectableCodeword n lane corrected cut => Sys2Proof.Machine.execUncorrectableCodeword n lane corrected cut s
  | .laneLost n lane why => Sys2Proof.Machine.execLaneLost n lane why s
  | .linkDown n => Sys2Proof.Machine.execLinkDown n s
  | .claim n => Sys2Proof.Machine.execClaim n s
  | .write n k filled => Sys2Proof.Machine.execWrite n k filled s
  | .inkGrant c drained reqs => Sys2Proof.Machine.execInkGrant c drained reqs s
  | .eccWriteback c => Sys2Proof.Machine.execEccWriteback c s
  | .ueWindow => Sys2Proof.Machine.execUeWindow s
  | .fillDone markMiB => Sys2Proof.Machine.execFillDone markMiB s
  | .scrubRead c gapCycles elapsedUs fault => Sys2Proof.Machine.execScrubRead c gapCycles elapsedUs fault s
  | .arbBaseWrite ix value => Sys2Proof.Machine.execArbBaseWrite ix value s
  | .longestClear r value update => Sys2Proof.Machine.execLongestClear r value update s
  | .eccTestMech split => Sys2Proof.Machine.execEccTestMech split s
  | .eccTestArm => Sys2Proof.Machine.execEccTestArm s
  | .eccTestStore => Sys2Proof.Machine.execEccTestStore s
  | .srEnter => Sys2Proof.Machine.execSrEnter s
  | .srExitStart => Sys2Proof.Machine.execSrExitStart s
  | .srExit => Sys2Proof.Machine.execSrExit s
  | .scribeLoad q addr size ecc => Sys2Proof.Machine.execScribeLoad q addr size ecc s
  | .scribeStore q addr size value => Sys2Proof.Machine.execScribeStore q addr size value s
  | .scribeFetch q addr ecc => Sys2Proof.Machine.execScribeFetch q addr ecc s
  | .scribeAmo q op addr wide value => Sys2Proof.Machine.execScribeAmo q op addr wide value s
  | .victimWritebackDone => Sys2Proof.Machine.execVictimWritebackDone s
  | .writeback => Sys2Proof.Machine.execWriteback s
  | .invalidate => Sys2Proof.Machine.execInvalidate s
  | .wbInv => Sys2Proof.Machine.execWbInv s
  | .zero => Sys2Proof.Machine.execZero s
  | .preload way => Sys2Proof.Machine.execPreload way s
  | .cpbOpDone => Sys2Proof.Machine.execCpbOpDone s
  | .unlock way => Sys2Proof.Machine.execUnlock way s
  | .scratchCountWrite value => Sys2Proof.Machine.execScratchCountWrite value s
  | .scratchFillDone => Sys2Proof.Machine.execScratchFillDone s
  | .sramEccError set way half corrected => Sys2Proof.Machine.execSramEccError set way half corrected s
  | .mbxRequestWrite who m word value => Sys2Proof.Machine.execMbxRequestWrite who m word value s
  | .mbxResultWrite who m word value => Sys2Proof.Machine.execMbxResultWrite who m word value s
  | .post who m => Sys2Proof.Machine.execPost who m s
  | .take who m => Sys2Proof.Machine.execTake who m s
  | .cancel who m => Sys2Proof.Machine.execCancel who m s
  | .complete who m => Sys2Proof.Machine.execComplete who m s
  | .mbxAck who m => Sys2Proof.Machine.execMbxAck who m s
  | .resultHeaderRead f m => Sys2Proof.Machine.execResultHeaderRead f m s
  | .mbxCfgWrite who m value => Sys2Proof.Machine.execMbxCfgWrite who m value s
  | .sealTake who ix => Sys2Proof.Machine.execSealTake who ix s
  | .sealRelease who ix => Sys2Proof.Machine.execSealRelease who ix s
  | .clearBroken who ix => Sys2Proof.Machine.execClearBroken who ix s
  | .perstAssert port => Sys2Proof.Machine.execPerstAssert port s
  | .perstRelease port bifur => Sys2Proof.Machine.execPerstRelease port bifur s
  | .cfgReadyWrite ready => Sys2Proof.Machine.execCfgReadyWrite ready s
  | .ccEnSet f => Sys2Proof.Machine.execCcEnSet f s
  | .ccEnClear f => Sys2Proof.Machine.execCcEnClear f s
  | .flr f => Sys2Proof.Machine.execFlr f s
  | .shnNormal f => Sys2Proof.Machine.execShnNormal f s
  | .shnAbrupt f => Sys2Proof.Machine.execShnAbrupt f s
  | .doorbell f y isCq value => Sys2Proof.Machine.execDoorbell f y isCq value s
  | .admitNext cid cmd => Sys2Proof.Machine.execAdmitNext cid cmd s
  | .rangeLockRelease adm => Sys2Proof.Machine.execRangeLockRelease adm s
  | .readCmd adm media => Sys2Proof.Machine.execReadCmd adm media s
  | .writeCmd adm data parts => Sys2Proof.Machine.execWriteCmd adm data parts s
  | .flush adm => Sys2Proof.Machine.execFlush adm s
  | .writeZeroes adm quire blocks => Sys2Proof.Machine.execWriteZeroes adm quire blocks s
  | .deallocate adm quire blocks => Sys2Proof.Machine.execDeallocate adm quire blocks s
  | .compare adm data media => Sys2Proof.Machine.execCompare adm data media s
  | .identify adm => Sys2Proof.Machine.execIdentify adm s
  | .getLogPage adm => Sys2Proof.Machine.execGetLogPage adm s
  | .getFeatures adm => Sys2Proof.Machine.execGetFeatures adm s
  | .setFeatures adm => Sys2Proof.Machine.execSetFeatures adm s
  | .createIoQueue adm => Sys2Proof.Machine.execCreateIoQueue adm s
  | .deleteIoQueue adm => Sys2Proof.Machine.execDeleteIoQueue adm s
  | .abortCmd adm waiting => Sys2Proof.Machine.execAbortCmd adm waiting s
  | .asyncEventRequest adm => Sys2Proof.Machine.execAsyncEventRequest adm s
  | .namespaceManagement adm room directory => Sys2Proof.Machine.execNamespaceManagement adm room directory s
  | .namespaceAttachment adm => Sys2Proof.Machine.execNamespaceAttachment adm s
  | .formatNvm adm slot quire blocks => Sys2Proof.Machine.execFormatNvm adm slot quire blocks s
  | .sanitize adm => Sys2Proof.Machine.execSanitize adm s
  | .firmwareImageDownload adm => Sys2Proof.Machine.execFirmwareImageDownload adm s
  | .firmwareCommit adm unhealthy => Sys2Proof.Machine.execFirmwareCommit adm unhealthy s
  | .securitySend adm => Sys2Proof.Machine.execSecuritySend adm s
  | .securityReceive adm response => Sys2Proof.Machine.execSecurityReceive adm response s
  | .invalidOpcode adm => Sys2Proof.Machine.execInvalidOpcode adm s
  | .powerStateChange => Sys2Proof.Machine.execPowerStateChange s
  | .apstDue f => Sys2Proof.Machine.execApstDue f s
  | .autonomousExit => Sys2Proof.Machine.execAutonomousExit s
  | .qpSplitWrite value => Sys2Proof.Machine.execQpSplitWrite value s
  | .lookup => Sys2Proof.Machine.execLookup s
  | .ldgSwap => Sys2Proof.Machine.execLdgSwap s
  | .commitApply quire pen desc disc blocks => Sys2Proof.Machine.execCommitApply quire pen desc disc blocks s
  | .bind disc step => Sys2Proof.Machine.execBind disc step s
  | .slowLookupResolve nsid lba count => Sys2Proof.Machine.execSlowLookupResolve nsid lba count s
  | .vrsOutWrite k value => Sys2Proof.Machine.execVrsOutWrite k value s
  | .heartbeat received => Sys2Proof.Machine.execHeartbeat received s
  | .versoLinkFail cause => Sys2Proof.Machine.execVersoLinkFail cause s
  | .versoLinkUp partnerNonce => Sys2Proof.Machine.execVersoLinkUp partnerNonce s
  | .writeData addr data => Sys2Proof.Machine.execWriteData addr data s
  | .dataAck addr => Sys2Proof.Machine.execDataAck addr s
  | .sealMsg ix take => Sys2Proof.Machine.execSealMsg ix take s
  | .firmwareMsg m => Sys2Proof.Machine.execFirmwareMsg m s
  | .gcmFail => Sys2Proof.Machine.execGcmFail s
  | .giveUp => Sys2Proof.Machine.execGiveUp s
  | .takeover onGiveUp => Sys2Proof.Machine.execTakeover onGiveUp s
  | .stale k => Sys2Proof.Machine.execStale k s
  | .health => Sys2Proof.Machine.execHealth s
  | .degClr => Sys2Proof.Machine.execDegClr s
  | .diagClear => Sys2Proof.Machine.execDiagClear s
  | .nodeWrite value => Sys2Proof.Machine.execNodeWrite value s
  | .generate slot => Sys2Proof.Machine.execGenerate slot s
  | .unwrap slot kek => Sys2Proof.Machine.execUnwrap slot kek s
  | .wrap slot kek => Sys2Proof.Machine.execWrap slot kek s
  | .clear slot => Sys2Proof.Machine.execClear slot s
  | .loadDomain => Sys2Proof.Machine.execLoadDomain s
  | .loadPair => Sys2Proof.Machine.execLoadPair s
  | .keyDone => Sys2Proof.Machine.execKeyDone s
  | .zeroise => Sys2Proof.Machine.execZeroise s
  | .selftest => Sys2Proof.Machine.execSelftest s
  | .selftestDone fail => Sys2Proof.Machine.execSelftestDone fail s
  | .reseed => Sys2Proof.Machine.execReseed s
  | .entFail test => Sys2Proof.Machine.execEntFail test s
  | .katDone fail => Sys2Proof.Machine.execKatDone fail s
  | .secError test => Sys2Proof.Machine.execSecError test s
  | .open1 f authority nonce => Sys2Proof.Machine.execOpen1 f authority nonce s
  | .open2 exchange proof => Sys2Proof.Machine.execOpen2 exchange proof s
  | .sessionRequest m => Sys2Proof.Machine.execSessionRequest m s
  | .close id => Sys2Proof.Machine.execClose id s
  | .sessionExpiry id => Sys2Proof.Machine.execSessionExpiry id s
  | .debugUnlock token => Sys2Proof.Machine.execDebugUnlock token s
  | .resetNAssert ns => Sys2Proof.Machine.execResetNAssert ns s
  | .resetNRelease testEn => Sys2Proof.Machine.execResetNRelease testEn s
  | .fuseLoadDone => Sys2Proof.Machine.execFuseLoadDone s
  | .bistDone => Sys2Proof.Machine.execBistDone s
  | .trainingDone => Sys2Proof.Machine.execTrainingDone s
  | .imageCheck image readError => Sys2Proof.Machine.execImageCheck image readError s
  | .release q run => Sys2Proof.Machine.execRelease q run s
  | .kick who q value => Sys2Proof.Machine.execKick who q value s
  | .wdtTimeoutWrite q value => Sys2Proof.Machine.execWdtTimeoutWrite q value s
  | .wdtWarn q ms => Sys2Proof.Machine.execWdtWarn q ms s
  | .wdtReset q ms => Sys2Proof.Machine.execWdtReset q ms s
  | .scribeReset q => Sys2Proof.Machine.execScribeReset q s
  | .chipReset who key => Sys2Proof.Machine.execChipReset who key s
  | .clkLoss pcie => Sys2Proof.Machine.execClkLoss pcie s
  | .sensorSample codes => Sys2Proof.Machine.execSensorSample codes s
  | .powerManagerUpdate est => Sys2Proof.Machine.execPowerManagerUpdate est s
  | .thermalTrip => Sys2Proof.Machine.execThermalTrip s
  | .activationRollback => Sys2Proof.Machine.execActivationRollback s
  | .calStart => Sys2Proof.Machine.execCalStart s
  | .retrimAdcDone a refs gnds => Sys2Proof.Machine.execRetrimAdcDone a refs gnds s
  | .retrimNoSlots a ms => Sys2Proof.Machine.execRetrimNoSlots a ms s
  | .calAbort => Sys2Proof.Machine.execCalAbort s
  | .calLoad a => Sys2Proof.Machine.execCalLoad a s
  | .calRevert a => Sys2Proof.Machine.execCalRevert a s
  | .tsOfsWrite ix value => Sys2Proof.Machine.execTsOfsWrite ix value s
  | .statusWindowRefresh => Sys2Proof.Machine.execStatusWindowRefresh s
  | .selfRefreshEntered => Sys2Proof.Machine.execSelfRefreshEntered s
  | .sledHomeEdge n level same => Sys2Proof.Machine.execSledHomeEdge n level same s
  | .interpolatorMicrostep n elapsed => Sys2Proof.Machine.execInterpolatorMicrostep n elapsed s
  | .pcieConfigRequest f => Sys2Proof.Machine.execPcieConfigRequest f s
  | .pcieLinkUp port gen width flit => Sys2Proof.Machine.execPcieLinkUp port gen width flit s
  | .pcieLinkDown port => Sys2Proof.Machine.execPcieLinkDown port s
  | .scribeDebugHalt q halt => Sys2Proof.Machine.execScribeDebugHalt q halt s
  | .entropyRecovered => Sys2Proof.Machine.execEntropyRecovered s

end Sys2Proof.Machine
end

