-- ==== Sys2Proof/Machine/Step.lean ====
section
/-!
DEFINITION. A step: the command at the front of the queue acts, or SYS_TIME ticks while nothing waits.
-/

namespace Sys2Proof.Machine

/-- The block with nothing commanded: one tick of SYS_TIME where it runs. DESIGN CHOICE (assumption 3): the manual gives the tick's
rate, not its place among commands. -/
def idle (s : State) : State := clockTick s

/-- A step: the command at the front of the queue is taken off and acts on the state with the queue's rest; with nothing
waiting, the block idles. -/
def step (s : State) : Host.Outcome State Fault Refusal :=
  match s.pending with
  | [] => .next (idle s)
  | c :: rest => exec c { s with pending := rest }

/-- s with the command that a word spells at the front of its queue; no word spells one. -/
def State.withFetchWord (s : State) (nbits w : Nat) : State :=
  match decodeTableWord nbits w with
  | some c => { s with pending := c :: s.pending }
  | none => s

end Sys2Proof.Machine
end

