-- ==== Sys2Proof/Safety.lean ====
section
/-!
DEFINITION. What counts as a safe state and a safe step: the canonical form of what is stored, a step that goes on, which commands may
store to the Inkwell, and what it means that a command leaves everything else as it was.
-/

namespace Sys2Proof.Machine

/-- A step goes on: it answers a next state. -/
def Goes (s : State) : Prop := ∃ t, step s = .next t

/-- The stored state is canonical: the memory, the poison marks (none listed that is clear), and the register fields. -/
structure Canonical (s : State) : Prop where
  mem : Memory.wf s.mem = true
  marks : Store.sorted s.poison = true
  marked : ∀ e ∈ s.poison, e.2 ≠ false
  fld : Store.sorted s.fld = true

/-- Every register field but those listed reads as before. -/
def SameFields (but : List Fld) (s t : State) : Prop := ∀ f : Fld, f.key ∉ but.map Fld.key → t.get f = s.get f

/-- The Inkwell's bytes and poison marks are as before. -/
def SameMemory (s t : State) : Prop := (∀ a, t.byte a = s.byte a) ∧ ∀ b, t.poisoned b = s.poisoned b

/-- Nothing but the register fields listed has changed: no other field, and nothing that no register shows. -/
def OnlyFields (but : List Fld) (s t : State) : Prop := SameFields but s t ∧ { t with fld := s.fld } = s

/-- The FROZEN bits of the nibs of pen n (R59). -/
def frozenOf (n : Nat) : List Fld := (List.range 16).map (RC_NIB_STATUS_FROZEN n)

/-- The fields that stopping the burns of pen n reaches (R151, R271). -/
def stoppedOf (n : Nat) : List Fld :=
  [WC_EVENT_ABORT n, RUL_EVENT_WRITE_ABORT n, WC_CNT_FAIL_ABORTED n, WC_STATUS_WRITING n, WC_STATUS_GROUP_LEFT n]

/-- Every register field but those listed reads as before; and, where a nib of pen n burned, those that stopping its burns reaches. -/
def SameOrStopped (n : Nat) (but : List Fld) (s t : State) : Prop :=
  SameFields (but ++ stoppedOf n) s t ∧ (burningNibs s n = 0 → SameFields but s t)

/-- A mailbox command is ignored: the mailbox's bit in MBX_PROTO_ERR, and nothing else (R328). -/
def MbxIgnored (m : Nat) (s t : State) : Prop := t.bit MBX_PROTO_ERR_MASK m = true ∧ OnlyFields [MBX_PROTO_ERR_MASK] s t

/-- A Scribe's access takes an exception: its cause and the address, and nothing else but a free value drawn on the way (R314). -/
def Trapped (q cause a : Nat) (s t : State) : Prop := (t.scribe q).trap = some (cause, a) ∧ SameFields [] s t ∧ SameMemory s t

/-- An I/O command of a kind that may begin (R348, R351, R353, R374); `again` admits one that has begun and whose data is not whole. -/
def IoRuns (s : State) (kind : Nat) (again : Bool) (a : Nat) (c : Admitted) : Prop :=
  s.cmd? a = some c ∧ kindOf c.cmd = kind ∧ c.over_ = false ∧ c.sq ≠ 0 ∧ (again = true ∨ c.began = false) ∧ c.dataWhole = false
    ∧ (∀ x, c.lock = some x → lockedBefore s a x = false) ∧ (s.fn c.fn).pp = false ∧ mediaThere s c = true

/-- An admin command of a kind that may run. -/
def AdminRuns (s : State) (kind a : Nat) (c : Admitted) : Prop :=
  s.cmd? a = some c ∧ kindOf c.cmd = kind ∧ c.over_ = false ∧ c.sq = 0 ∧ c.began = false ∧ (s.fn c.fn).pp = false

/-- Command a has completed, or was dropped. -/
def Over (t : State) (a : Nat) : Prop := ∀ c, t.cmd? a = some c → c.over_ = true

/-- Command a is over, and its completion entry is in its completion queue where that exists, unless an abrupt shutdown of its function
has been notified (R346, R348, R350). -/
def Answered (c : Admitted) (a status dw0 : Nat) (s t : State) : Prop :=
  Over t a ∧ ((s.fn c.fn).shn ≠ 2 → ∀ x q, (s.fn c.fn).sqs.find? c.sq = some x → (s.fn c.fn).cqs.find? x.cq = some q →
    ∃ r, (t.fn c.fn).cqs.find? x.cq = some r ∧ ({ sq := c.sq, cid := c.cid, status := status, dw0 := dw0 } : Cqe) ∈ r.entries ++ r.waiting)

/-- The fields that show the range locks held and why fetch is stopped (R347). -/
def admitFlds : List Fld := [HQ_ADMIT_HELD, HQ_ADMIT_STALL, HQ_CNT_STALL_LOCK, HQ_CNT_STALL_QUIRE, HQ_EVENT_STALL]

/-- The commands whose effect may store a byte to the Inkwell or change a poison mark: decoded data, records and Colophons, what a Scribe
or a host command writes, the ledger's tables, the fill, scrubbing and write-backs, and what flushes the Copybook on the way. -/
def stores : Instr → Bool
  | .registerWrite .. | .rulDisable .. | .rulJumpClear .. | .rulBandWrite .. | .acqTimeout .. | .holdLimit .. | .rcCtrlWrite .. | .cwFramed ..
  | .decodeDone .. | .spillCopyDone | .revisitStep .. | .parkWrite .. | .captureDone | .descComplete .. | .calReadback .. | .haltWrite ..
  | .wcDisable .. | .lockstepFault .. | .lkEnableWrite .. | .retrain .. | .deskewSuspendExpiry .. | .penStatus .. | .claimStatus .. | .laneLost ..
  | .linkDown .. | .inkGrant .. | .eccWriteback .. | .ueWindow | .fillDone .. | .scrubRead .. | .eccTestStore | .scribeLoad .. | .scribeStore ..
  | .scribeFetch .. | .scribeAmo .. | .victimWritebackDone | .writeback | .wbInv | .zero | .preload .. | .scratchCountWrite .. | .writeCmd ..
  | .writeZeroes .. | .deallocate .. | .namespaceManagement .. | .formatNvm .. | .sanitize .. | .firmwareCommit .. | .powerStateChange
  | .autonomousExit | .lookup | .ldgSwap | .commitApply .. | .bind .. | .vrsOutWrite .. | .writeData .. | .firmwareMsg .. | .giveUp | .takeover ..
  | .stale .. | .generate .. | .unwrap .. | .wrap .. | .clear .. | .loadDomain | .loadPair | .keyDone | .zeroise | .selftestDone .. | .entFail ..
  | .katDone .. | .secError .. | .debugUnlock .. | .imageCheck .. | .wdtReset .. | .thermalTrip | .activationRollback | .selfRefreshEntered => true
  | .rocRead .. | .latch .. | .latchCapture .. | .accessAbandoned .. | .rulEnable .. | .rulJumpSet .. | .freqAcquired .. | .phaseAcquired ..
  | .addrWord .. | .rulingNibLost .. | .rulingNibGood .. | .freqWordSend .. | .blotStart .. | .blotEnd .. | .cwBoundary .. | .presetFetchDone ..
  | .ztDirWrite .. | .syncSearch .. | .resyncSearch .. | .slipTest .. | .coreSchedule .. | .samplesLost .. | .replayDone .. | .revisitStart ..
  | .coreOfflineWrite .. | .coreTest .. | .coreTestDone .. | .captureArm .. | .fqHeadWrite .. | .groupForm .. | .groupStart .. | .slotArrival ..
  | .burnDone .. | .writeUnderrun .. | .verifyRead .. | .groupEnd .. | .colophonGate .. | .colophonReadback .. | .blankCheck .. | .readDesc ..
  | .wsLoad .. | .wsLoadDone .. | .gateClr .. | .writeHoldRise .. | .leTick .. | .loopModeWrite .. | .loopCtrlWrite .. | .bankWrite ..
  | .leMemoryWrite .. | .rcTableWrite .. | .rcClear .. | .rcClearDone .. | .leReset .. | .invalidTick .. | .resume .. | .escapeRetract ..
  | .collapseRetract .. | .longGap .. | .retractEnd .. | .acqStart .. | .approachDone .. | .sweepCapture .. | .fLock .. | .trackCapture ..
  | .tLock .. | .trackSlip .. | .jumpStart .. | .jumpPhaseEnd .. | .tjumpStart .. | .tjumpEnd .. | .supEnWrite .. | .trkAutoWrite .. | .pwmPeriod ..
  | .overcurrentTrip .. | .zcConfirm .. | .commutate .. | .missedZc .. | .catchEnd .. | .brakeEnd .. | .slotGrant .. | .alignEnd .. | .handover ..
  | .openHoldFail .. | .coastEnd .. | .stopBrakeEnd .. | .spSetWrite .. | .spEnableWrite .. | .faultClr .. | .busSample .. | .chopFault ..
  | .ovClear .. | .i2tLimit .. | .seqEntryWrite .. | .plannerTick | .sledTargetWrite .. | .sledModeWrite .. | .moveDone .. | .extStep ..
  | .sledStop .. | .posSet .. | .switchQualify .. | .ducFrame .. | .stageStatus .. | .stageLost .. | .signalDetect .. | .trainStep ..
  | .trainTimeout .. | .failWaitEnd .. | .pllLock .. | .deskew .. | .deskewDone .. | .samples .. | .ruling .. | .servo .. | .ack ..
  | .uncorrectableCodeword .. | .claim .. | .write .. | .arbBaseWrite .. | .longestClear .. | .eccTestMech .. | .eccTestArm | .srEnter | .srExitStart
  | .srExit | .invalidate | .cpbOpDone | .unlock .. | .scratchFillDone | .sramEccError .. | .mbxRequestWrite .. | .mbxResultWrite .. | .post ..
  | .take .. | .cancel .. | .complete .. | .mbxAck .. | .resultHeaderRead .. | .mbxCfgWrite .. | .sealTake .. | .sealRelease .. | .clearBroken ..
  | .perstAssert .. | .perstRelease .. | .cfgReadyWrite .. | .ccEnSet .. | .ccEnClear .. | .flr .. | .shnNormal .. | .shnAbrupt .. | .doorbell ..
  | .admitNext .. | .rangeLockRelease .. | .readCmd .. | .flush .. | .compare .. | .identify .. | .getLogPage .. | .getFeatures .. | .setFeatures ..
  | .createIoQueue .. | .deleteIoQueue .. | .abortCmd .. | .asyncEventRequest .. | .namespaceAttachment .. | .firmwareImageDownload ..
  | .securitySend .. | .securityReceive .. | .invalidOpcode .. | .apstDue .. | .qpSplitWrite .. | .slowLookupResolve .. | .heartbeat ..
  | .versoLinkFail .. | .versoLinkUp .. | .dataAck .. | .sealMsg .. | .gcmFail | .health | .degClr | .diagClear | .nodeWrite .. | .selftest | .reseed
  | .open1 .. | .open2 .. | .sessionRequest .. | .close .. | .sessionExpiry .. | .resetNAssert .. | .resetNRelease .. | .fuseLoadDone | .bistDone
  | .trainingDone | .release .. | .kick .. | .wdtTimeoutWrite .. | .wdtWarn .. | .scribeReset .. | .chipReset .. | .clkLoss .. | .sensorSample ..
  | .powerManagerUpdate .. | .calStart | .retrimAdcDone .. | .retrimNoSlots .. | .calAbort | .calLoad .. | .calRevert .. | .tsOfsWrite ..
  | .statusWindowRefresh | .sledHomeEdge .. | .interpolatorMicrostep .. | .pcieConfigRequest .. | .pcieLinkUp .. | .pcieLinkDown ..
  | .scribeDebugHalt .. | .entropyRecovered => false

/-- The commands that are a register write, or a read with an effect, of their own: the island of the register (R15, R18). -/
def writeIsland : Instr → Option Nat
  | .rulEnable n | .rulDisable n | .rulJumpSet n | .rulJumpClear n | .rulBandWrite n .. | .rcCtrlWrite n .. | .ztDirWrite n ..
  | .fqHeadWrite n .. | .wsLoad n .. | .gateClr n | .haltWrite n .. | .wcDisable n => some (dataIsland n)
  | .parkWrite .. | .coreOfflineWrite .. | .coreTest .. | .captureArm .. => some ldpcIsland
  | .loopModeWrite e .. | .loopCtrlWrite e .. | .bankWrite e .. | .leMemoryWrite e .. | .rcTableWrite e .. | .rcClear e .. | .leReset e => some (engineIsland e)
  | .acqStart n .. | .jumpStart n .. | .tjumpStart n .. | .supEnWrite n .. | .trkAutoWrite n .. | .lkEnableWrite n .. | .retrain n
  | .deskew n => some (ctrlIsland n)
  | .spSetWrite .. | .spEnableWrite .. | .faultClr .. | .ovClear .. | .seqEntryWrite .. | .sledTargetWrite .. | .sledModeWrite ..
  | .sledStop .. | .posSet .. | .calStart | .calAbort | .calLoad .. | .calRevert .. | .tsOfsWrite .. => some motIsland
  | .arbBaseWrite .. | .longestClear .. | .eccTestMech .. | .eccTestArm | .eccTestStore | .srEnter | .srExitStart => some inkIsland
  | .latch b => some (islandOf b.toNat)
  | .writeback | .invalidate | .wbInv | .zero | .preload .. | .unlock .. | .scratchCountWrite .. | .ldgSwap => some cpbIsland
  | .mbxRequestWrite .. | .mbxResultWrite .. | .post .. | .take .. | .cancel .. | .complete .. | .mbxAck .. | .resultHeaderRead ..
  | .mbxCfgWrite .. | .sealTake .. | .sealRelease .. | .clearBroken .. | .cfgReadyWrite .. | .ccEnSet .. | .ccEnClear ..
  | .shnNormal .. | .shnAbrupt .. | .doorbell .. | .qpSplitWrite .. => some hqIsland
  | .vrsOutWrite .. | .giveUp | .degClr | .diagClear | .nodeWrite .. => some vrsIsland
  | .generate .. | .unwrap .. | .wrap .. | .clear .. | .loadDomain | .loadPair | .zeroise | .selftest | .reseed => some secIsland
  | .release .. | .kick .. | .wdtTimeoutWrite .. | .scribeReset .. | .chipReset .. => some sysIsland
  | .registerWrite .. | .rocRead .. | .latchCapture .. | .accessAbandoned .. | .freqAcquired .. | .phaseAcquired .. | .acqTimeout ..
  | .addrWord .. | .rulingNibLost .. | .rulingNibGood .. | .holdLimit .. | .freqWordSend .. | .blotStart .. | .blotEnd ..
  | .cwBoundary .. | .presetFetchDone .. | .syncSearch .. | .resyncSearch .. | .slipTest .. | .cwFramed .. | .coreSchedule ..
  | .decodeDone .. | .spillCopyDone | .samplesLost .. | .replayDone .. | .revisitStart .. | .revisitStep .. | .coreTestDone ..
  | .captureDone | .groupForm .. | .groupStart .. | .slotArrival .. | .burnDone .. | .writeUnderrun .. | .verifyRead ..
  | .descComplete .. | .groupEnd .. | .colophonGate .. | .colophonReadback .. | .calReadback .. | .blankCheck .. | .readDesc ..
  | .wsLoadDone .. | .writeHoldRise .. | .leTick .. | .rcClearDone .. | .lockstepFault .. | .invalidTick .. | .resume ..
  | .escapeRetract .. | .collapseRetract .. | .longGap .. | .retractEnd .. | .approachDone .. | .sweepCapture .. | .fLock ..
  | .trackCapture .. | .tLock .. | .trackSlip .. | .jumpPhaseEnd .. | .tjumpEnd .. | .pwmPeriod .. | .overcurrentTrip ..
  | .zcConfirm .. | .commutate .. | .missedZc .. | .catchEnd .. | .brakeEnd .. | .slotGrant .. | .alignEnd .. | .handover ..
  | .openHoldFail .. | .coastEnd .. | .stopBrakeEnd .. | .busSample .. | .chopFault .. | .i2tLimit .. | .plannerTick | .moveDone ..
  | .extStep .. | .switchQualify .. | .ducFrame .. | .stageStatus .. | .stageLost .. | .signalDetect .. | .trainStep ..
  | .trainTimeout .. | .failWaitEnd .. | .pllLock .. | .deskewDone .. | .deskewSuspendExpiry .. | .samples .. | .ruling .. | .servo ..
  | .penStatus .. | .claimStatus .. | .ack .. | .uncorrectableCodeword .. | .laneLost .. | .linkDown .. | .claim .. | .write ..
  | .inkGrant .. | .eccWriteback .. | .ueWindow | .fillDone .. | .scrubRead .. | .srExit | .scribeLoad .. | .scribeStore ..
  | .scribeFetch .. | .scribeAmo .. | .victimWritebackDone | .cpbOpDone | .scratchFillDone | .sramEccError .. | .perstAssert ..
  | .perstRelease .. | .flr .. | .admitNext .. | .rangeLockRelease .. | .readCmd .. | .writeCmd .. | .flush .. | .writeZeroes ..
  | .deallocate .. | .compare .. | .identify .. | .getLogPage .. | .getFeatures .. | .setFeatures .. | .createIoQueue ..
  | .deleteIoQueue .. | .abortCmd .. | .asyncEventRequest .. | .namespaceManagement .. | .namespaceAttachment .. | .formatNvm ..
  | .sanitize .. | .firmwareImageDownload .. | .firmwareCommit .. | .securitySend .. | .securityReceive .. | .invalidOpcode ..
  | .powerStateChange | .apstDue .. | .autonomousExit | .lookup | .commitApply .. | .bind .. | .slowLookupResolve .. | .heartbeat ..
  | .versoLinkFail .. | .versoLinkUp .. | .writeData .. | .dataAck .. | .sealMsg .. | .firmwareMsg .. | .gcmFail | .takeover ..
  | .stale .. | .health | .keyDone | .selftestDone .. | .entFail .. | .katDone .. | .secError .. | .open1 .. | .open2 ..
  | .sessionRequest .. | .close .. | .sessionExpiry .. | .debugUnlock .. | .resetNAssert .. | .resetNRelease .. | .fuseLoadDone
  | .bistDone | .trainingDone | .imageCheck .. | .wdtWarn .. | .wdtReset .. | .clkLoss .. | .sensorSample .. | .powerManagerUpdate ..
  | .thermalTrip | .activationRollback | .retrimAdcDone .. | .retrimNoSlots .. | .statusWindowRefresh | .selfRefreshEntered
  | .sledHomeEdge .. | .interpolatorMicrostep .. | .pcieConfigRequest .. | .pcieLinkUp .. | .pcieLinkDown .. | .scribeDebugHalt ..
  | .entropyRecovered => none

end Sys2Proof.Machine
end

