-- ==== Sys2Proof/Certificates/Slice0/Obligations.lean ====
section
/-!
DEFINITION. The statements for the provers: what a step does, what reset leaves and what every step keeps, and then, chapter by chapter, what
each command does, in every state. `OnlyFields` and `SameFields` say which register fields may change, `SameMemory` that no byte of the Inkwell
does; EveryCommandCompletes says the same of memory for each command that `stores` does not name.
-/

open Sys2Proof Sys2Proof.Machine

/-- A step takes the command at the front of the queue, whichever it is, and is that command's effect on the state with the queue's rest; with nothing
waiting SYS_TIME counts one tick where it runs, and with it the idle periods and the ages of claims: a function that is idle shows the milliseconds of
its idle period, one that is not shows 0 from then on, and a claim of another unit that is 250 µs old holds no more. The queue and the idle step are
the model's own (assumptions 2 and 3, DESIGN CHOICE); what the tick counts is the manual's. (R19, R355, R387, R430, R436) -/
def Obligations.StepRunsTheFrontCommand : Prop :=
  (∀ (c : Instr) (rest : List Instr) (s : State), step { s with pending := c :: rest } = exec c { s with pending := rest })
  ∧ (∀ s : State, s.pending = [] → s.running = false → step s = .next s)
  ∧ ∀ s : State, s.pending = [] → s.running = true → s.boot.attempt = none →
      ∃ t, step s = .next t ∧ t.get SYS_TIME_TIME = (s.get SYS_TIME_TIME + 1) % 2 ^ 64
        ∧ SameFields (SYS_TIME_TIME :: HQ_IDLE_MS 0 :: HQ_IDLE_MS 1 :: (List.range 16).map VRS_OUT_OTHER_HOLDS) s t
        ∧ { t with fld := s.fld, host := s.host } = s
        ∧ (∀ n : Fin 16, t.get (VRS_OUT_OTHER_HOLDS n)
            = if s.get (VRS_OUT_OTHER_HOLDS n) = 1 ∧ 96000 ≤ otherAge t n then 0 else s.get (VRS_OUT_OTHER_HOLDS n))
        ∧ ∀ f : Fin 2,
            (isIdle s f = true → (∀ x, (s.fn f).idleFrom = some x → t.get (HQ_IDLE_MS f) = min ((t.now - x) / 38400) (2 ^ 32 - 1))
              ∧ ((s.fn f).idleFrom = none → t.get (HQ_IDLE_MS f) = 0 ∧ (t.fn f).idleFrom = some t.now))
            ∧ (isIdle s f = false → ((s.fn f).idleFrom = none → t.get (HQ_IDLE_MS f) = s.get (HQ_IDLE_MS f))
              ∧ ((s.fn f).idleFrom ≠ none → t.get (HQ_IDLE_MS f) = 0 ∧ (t.fn f).idleFrom = none))

/-- The state after reset: nothing waits, RESET_N is low and nothing runs, memory lists nothing and is in its canonical form, every register field holds
its reset value within its width, and a field of each block holds the value that its register's description gives. That RESET_N is low, what hidden
state holds and that no byte is listed are the model's choice (assumptions 10 and 71). -/
def Obligations.ResetState : Prop :=
  State.reset.pending = [] ∧ State.reset.running = false ∧ State.reset.boot.low = true ∧ State.reset.mem = [] ∧ Canonical State.reset
  ∧ (∀ f : Fld, State.reset.get f = f.rst % 2 ^ f.width)
  ∧ State.reset.get SYS_TH_CTRL_THROTTLE_C = 100 ∧ State.reset.get SYS_PWR_CFG_SUSTAIN = 820 ∧ State.reset.get INK_ARB_CTRL_CLR_ON_LATCH = 1
  ∧ State.reset.get INK_ECC_CTRL_UE_LIMIT = 16 ∧ State.reset.get HQ_QP_SPLIT_F0_QPS = 64 ∧ State.reset.get VRS_DIAG_EN_EN = 0x1F
  ∧ ∀ n : Fin 16, State.reset.get (RUL_STATUS_STATE n) = 0 ∧ State.reset.get (LK_STATUS_STATE n) = 0 ∧ State.reset.get (SV_STATUS_FOCUS_STATE n) = 0
      ∧ State.reset.get (WC_STATUS_STATE n) = 0 ∧ State.reset.get (RC_BLOT_CFG_HOLD n) = 4 ∧ State.reset.get (RUL_CTRL_HOLD_LIMIT n) = 8

/-- Every step keeps the canonical form: memory rises by address and lists no byte that reads as an unlisted one does, the poison marks list none that is
clear, and the register fields rise by key. That an unlisted byte reads 0 is the model's choice (assumption 71). -/
def Obligations.StepKeepsCanonical : Prop := ∀ s t : State, Canonical s → step s = .next t → Canonical t

/-- Every command, in every state, answers a next state and leaves the queue as it was; one that `stores` does not name leaves every byte of the Inkwell
and every poison mark as they were. One that is a register write of its own is not performed while the clock of its register's island is stopped.
(R18, R287, R294) -/
def Obligations.EveryCommandCompletes : Prop :=
  ∀ (c : Instr) (s : State), ∃ t, exec c s = .next t ∧ t.pending = s.pending ∧ (stores c = false → SameMemory s t)
    ∧ ∀ i, writeIsland c = some i → islandStopped s i = true → t = s

/-- Unassigned offsets within a register block read as 0, and writes to them are ignored: for every requester that has a path to the block, by its address
or through BAR2, while the block's island runs. A write to SEC by another requester than Scribe 0 is R404's. (R8) -/
def Obligations.UnassignedOffsets : Prop :=
  ∀ (who : Requester) (a : BusAddr) (x : Nat) (v : BitVec 64) (s : State),
    (∃ b : BitVec 40, a = .block b ∧ x = b.toNat ∧ ((∃ q, who = .scribe q) ∨ who = .debug ∧ s.get SEC_STATUS_DBG_OPEN = 1))
      ∨ (∃ (f : Fin 2) (o : BitVec 16), a = .bar2 o ∧ who = .host f ∧ o.toNat < 0x8000 ∧ x = mbxBase + o.toNat) →
    blockBase x ≠ none → x % 4 = 0 → fieldsAt x = [] → islandStopped s (islandOf x) = false →
      (∃ t, exec (.rocRead who a 2) s = .next t ∧ SameFields [] s t ∧ SameMemory s t
        ∧ (∀ q, who = .scribe q → (t.scribe q).value = 0 ∧ (t.scribe q).trap = none)
        ∧ ((∀ q, who ≠ .scribe q) → t.returned.getD (codeOf who) 0 = 0))
      ∧ (who = .scribe 0 ∨ x / 0x10000 * 0x10000 ≠ secBase →
          ∃ t, exec (.registerWrite who a 2 v) s = .next t ∧ SameFields [] s t ∧ SameMemory s t
            ∧ ∀ q, who = .scribe q → (t.scribe q).trap = none)

/-- If a second access is abandoned while SYS_XING_ERR.VALID is 1, the recorded access is kept and OVERRUN is set: for an ACCESS_ABANDONED, and for a read
or a write that a requester with a path makes into an island whose clock is stopped; the SYS block that records it is out of reset. (R19) -/
def Obligations.SecondAbandonedAccess : Prop :=
  ∀ (c : Instr) (who : Requester) (b : BitVec 40) (v : BitVec 64) (w : Bool) (s : State),
    c ∈ [.accessAbandoned who b w, .registerWrite who (.block b) 2 v, .rocRead who (.block b) 2] →
    ((∃ q, who = .scribe q) ∨ who = .debug ∧ s.get SEC_STATUS_DBG_OPEN = 1) → blockBase b.toNat ≠ none → b.toNat % 4 = 0 →
    islandStopped s (islandOf b.toNat) = true → s.boot.low = false → s.get SYS_XING_ERR_VALID = 1 →
      ∃ t, exec c s = .next t ∧ t.get SYS_XING_ERR_OVERRUN = 1 ∧ t.get SYS_XING_ERR_VALID = 1
        ∧ t.get SYS_XING_ERR_ISLAND = s.get SYS_XING_ERR_ISLAND ∧ t.get SYS_XING_ERR_REQUESTER = s.get SYS_XING_ERR_REQUESTER
        ∧ t.get SYS_XING_ERR_ADDR_HI = s.get SYS_XING_ERR_ADDR_HI ∧ t.get SYS_XING_ADDR_ADDR_LO = s.get SYS_XING_ADDR_ADDR_LO
        ∧ SameFields [SYS_EVENT_XING, SYS_XING_ERR_OVERRUN] s t ∧ SameMemory s t

/-- A CHIP_RESET write takes effect only when it comes from Scribe 0 with KEY = 0xA11C. It acts exactly as a RESET_N pulse: the state that asserting
RESET_N for long enough and releasing it leave. The host sees a surprise link down: no port's link is up. (R441) -/
def Obligations.ChipResetWrites : Prop :=
  ∀ (who : Requester) (k : BitVec 16) (s : State), s.boot.low = false → ∃ t, exec (.chipReset who k) s = .next t
    ∧ (who ≠ .scribe 0 ∨ k ≠ 0xA11C → t = s)
    ∧ (who = .scribe 0 → k = 0xA11C → (∀ p : Fin 2, t.get (HQ_LINK_STATUS_UP p) = 0)
        ∧ ∀ ns, 50 ≤ ns → ∃ m, exec (.resetNAssert ns) s = .next m ∧ exec (.resetNRelease false) m = .next t)

/-- Register writes and abandoned accesses. The host and the Verso partner have no path to block addresses; a Scribe's write that is outside every block,
misaligned or not of 32 bits takes a store access fault, as does one into an island whose clock is stopped, which is recorded (not where the whole
part is held in reset, assumption 66); a write to SEC by another Scribe than Scribe 0 only sets its event. A write of 1 clears a W1C bit and leaves
the others, an RW field takes the bits written, an RO word and a nib register that an N1 port does not have ignore them. The status window, and BAR2
for any access but an aligned 32-bit one, ignore writes; BAR0 takes 64-bit ones too. Nothing happens where a premise fails (assumption 4); the corners
that the manual leaves open are the model's choice (assumptions 34, 46, 62 to 64, 66, 67, 70, 76 and 108). Says of each of these rows that it answers
a next state with its own effect: REGISTER_WRITE, ACCESS_ABANDONED. (R4, R8, R9, R18, R19, R26, R85, R404, R487, R489, R490) -/
def Obligations.RegisterWrites : Prop :=
  (∀ (who : Requester) (a : BusAddr) (z : AccessSize) (v : BitVec 64) (s : State), ∃ t, exec (.registerWrite who a z v) s = .next t
    ∧ (∀ b, a = .block b → who = .host 0 ∨ who = .host 1 ∨ who = .verso → t = s)
    ∧ (∀ b q, a = .block b → who = .scribe q → blockBase b.toNat = none ∨ b.toNat % 4 ≠ 0 ∨ z.val ≠ 2 → Trapped q 7 b.toNat s t)
    ∧ (∀ b q, a = .block b → who = .scribe q → blockBase b.toNat ≠ none → b.toNat % 4 = 0 → z.val = 2 → islandStopped s (islandOf b.toNat) = true →
        (t.scribe q).trap = some (7, b.toNat) ∧ SameMemory s t ∧ (s.boot.low = true → SameFields [] s t)
        ∧ (s.boot.low = false → t.get SYS_EVENT_XING = 1 ∧ SameFields [SYS_EVENT_XING, SYS_XING_ERR_VALID,
            SYS_XING_ERR_OVERRUN, SYS_XING_ERR_ISLAND, SYS_XING_ERR_REQUESTER, SYS_XING_ERR_ADDR_HI, SYS_XING_ADDR_ADDR_LO] s t))
    ∧ (∀ b q, a = .block b → who = .scribe q → q ≠ 0 → b.toNat / 0x10000 * 0x10000 = secBase → b.toNat % 4 = 0 → z.val = 2 → s.boot.low = false →
        t.get SEC_EVENT_ACCESS = 1 ∧ SameFields [SEC_EVENT_ACCESS] s t ∧ SameMemory s t)
    ∧ (∀ b q, a = .block b → who = .scribe q → b.toNat = inkBase + 0x30 → z.val = 2 → s.boot.low = false →
        t.get INK_EVENT_CE = (if v.toNat.testBit 1 then 0 else s.get INK_EVENT_CE) ∧ t.get INK_EVENT_UE = (if v.toNat.testBit 2 then 0 else s.get INK_EVENT_UE)
          ∧ SameFields [INK_EVENT_SR_EXIT, INK_EVENT_SCRUB_LAP, INK_EVENT_TEST_REFUSED, INK_EVENT_TEST_DONE, INK_EVENT_ADDR_ERR, INK_EVENT_UE_RATE,
              INK_EVENT_UE, INK_EVENT_CE, INK_EVENT_FILL_DONE] s t)
    ∧ (∀ b q, a = .block b → who = .scribe q → b.toNat = inkBase + 0x20 → z.val = 2 → s.boot.low = false →
        t.get INK_ECC_CTRL_UE_WIN = v.toNat / 2 ^ 24 % 2 ^ 8 ∧ t.get INK_ECC_CTRL_UE_LIMIT = v.toNat / 2 ^ 16 % 2 ^ 8
          ∧ t.get INK_ECC_CTRL_UE_WB = v.toNat / 2 % 2 ∧ t.get INK_ECC_CTRL_CE_WB = v.toNat % 2
          ∧ SameFields [INK_ECC_CTRL_UE_WIN, INK_ECC_CTRL_UE_LIMIT, INK_ECC_CTRL_UE_WB, INK_ECC_CTRL_CE_WB] s t)
    ∧ (∀ b q, a = .block b → who = .scribe q → b.toNat = inkBase + 4 → SameFields [] s t ∧ SameMemory s t)
    ∧ (∀ b q (n k : Fin 16) i, a = .block b → who = .scribe q → isN1 s n = true → 8 ≤ k.val → i < 16 → b.toNat = rcBase n + 0x400 + 0x40 * k.val + 4 * i →
        z.val = 2 → islandStopped s (8 + n.val) = false → SameFields [] s t ∧ SameMemory s t ∧ (t.scribe q).trap = none)
    ∧ (∀ o f, a = .bar2 o → who = .host f → o.toNat % 4 ≠ 0 ∨ z.val ≠ 2 ∨ 0x8000 ≤ o.toNat → t = s)
    ∧ (∀ f, a = .bar0 0x28 → who = .host f → z.val = 3 → s.boot.low = false → SameFields [] s t ∧ SameMemory s t
        ∧ (t.fn f).asq = v.toNat / 2 ^ 12 * 2 ^ 12)
    ∧ (∀ f o, a = .bar0 o → who = .host f → z.val < 2 ∨ z.val = 2 ∧ o.toNat % 4 ≠ 0 ∨ z.val = 3 ∧ o.toNat % 8 ≠ 0 → t = s))
  ∧ ∀ (who : Requester) (a : BitVec 40) (isWrite : Bool) (s : State), ∃ t, exec (.accessAbandoned who a isWrite) s = .next t
    ∧ (blockBase a.toNat = none ∨ islandStopped s (islandOf a.toNat) = false → t = s)
    ∧ (blockBase a.toNat ≠ none → s.boot.low = true → SameFields [] s t ∧ SameMemory s t)
    ∧ (blockBase a.toNat ≠ none → islandStopped s (islandOf a.toNat) = true → s.boot.low = false → t.get SYS_EVENT_XING = 1
        ∧ (s.get SYS_XING_ERR_VALID ≠ 1 → t.get SYS_XING_ERR_VALID = 1 ∧ t.get SYS_XING_ERR_ISLAND = islandOf a.toNat
            ∧ t.get SYS_XING_ERR_REQUESTER = codeOf who ∧ t.get SYS_XING_ERR_ADDR_HI = a.toNat / 2 ^ 32 ∧ t.get SYS_XING_ADDR_ADDR_LO = a.toNat % 2 ^ 32)
        ∧ (s.get SYS_XING_ERR_VALID = 1 → t.get SYS_XING_ERR_OVERRUN = 1 ∧ SameFields [SYS_EVENT_XING, SYS_XING_ERR_OVERRUN] s t)
        ∧ (∀ q, who = .scribe q → (t.scribe q).trap = some (if isWrite then 7 else 5, a.toNat))
        ∧ (∀ f, who = .host f → isWrite = false → t.returned.getD (8 + f.val) 0 = 2 ^ 32 - 1))

/-- Register reads. A read without a path returns all ones; a Scribe's that is outside every block, misaligned or not of 32 bits takes a load access
fault, and the host's through BAR2 returns all ones. An ROC field returns its live value and clears while its block has not been captured; once it
has, the read returns the shadow, clears it, and takes its value off the live counter, which stays saturated. A nib register that an N1 port does not
have reads 0. The host reads the status window, CSTS and, in one 64-bit access, CAP as they stand, and nothing changes. Of the part held in reset
nothing is performed (assumption 66). Nothing happens where a premise fails (assumption 4); the corners that the manual leaves open are the model's
choice (assumptions 34, 46, 62 to 64, 66, 67, 70, 76 and 108). Says of each of these rows that it answers a next state with its own effect: ROC_READ.
(R4, R6, R9, R26, R85, R488, R489, R490, R492) -/
def Obligations.RegisterReads : Prop :=
  ∀ (who : Requester) (a : BusAddr) (z : AccessSize) (s : State), ∃ t, exec (.rocRead who a z) s = .next t
    ∧ (∀ b, a = .block b → who = .host 0 ∨ who = .host 1 ∨ who = .verso → t.returned.getD (codeOf who) 0 = 2 ^ 32 - 1 ∧ t.fld = s.fld)
    ∧ (∀ b q, a = .block b → who = .scribe q → blockBase b.toNat = none ∨ b.toNat % 4 ≠ 0 ∨ z.val ≠ 2 → Trapped q 5 b.toNat s t)
    ∧ (∀ b q (n k : Fin 16) i, a = .block b → who = .scribe q → isN1 s n = true → 8 ≤ k.val → i < 16 → b.toNat = rcBase n + 0x400 + 0x40 * k.val + 4 * i →
        z.val = 2 → islandStopped s (8 + n.val) = false → (t.scribe q).value = 0 ∧ (t.scribe q).trap = none)
    ∧ (∀ b q (c : Fin 8), a = .block b → who = .scribe q → b.toNat = inkBase + 0x414 + 0x40 * c.val → z.val = 2 → s.boot.low = false →
        (s.captured.contains inkBase = false →
          (t.scribe q).value = s.get (INK_CH_ERRCNT_UE c) * 2 ^ 16 + s.get (INK_CH_ERRCNT_CE c) ∧ (t.scribe q).trap = none
          ∧ t.get (INK_CH_ERRCNT_UE c) = 0 ∧ t.get (INK_CH_ERRCNT_CE c) = 0 ∧ SameFields [INK_CH_ERRCNT_UE c, INK_CH_ERRCNT_CE c] s t)
        ∧ (s.captured.contains inkBase = true →
          (t.scribe q).value = s.shadow.getD (INK_CH_ERRCNT_UE c).key 0 % 2 ^ 16 * 2 ^ 16 + s.shadow.getD (INK_CH_ERRCNT_CE c).key 0 % 2 ^ 16
          ∧ t.get (INK_CH_ERRCNT_CE c) = (if s.get (INK_CH_ERRCNT_CE c) = 2 ^ 16 - 1 then 2 ^ 16 - 1
              else s.get (INK_CH_ERRCNT_CE c) - s.shadow.getD (INK_CH_ERRCNT_CE c).key 0)
          ∧ t.shadow.getD (INK_CH_ERRCNT_CE c).key 0 = 0 ∧ SameFields [INK_CH_ERRCNT_UE c, INK_CH_ERRCNT_CE c] s t))
    ∧ (∀ f o, a = .bar2 o → who = .host f → o.toNat % 4 = 0 → z.val = 2 → s.boot.low = false → 0x8000 ≤ o.toNat →
        t.returned.getD (8 + f.val) 0 = s.window.getD o.toNat 0 ∧ t.fld = s.fld)
    ∧ (∀ f o, a = .bar2 o → who = .host f → o.toNat % 4 ≠ 0 ∨ z.val ≠ 2 → t.returned.getD (8 + f.val) 0 = 2 ^ 32 - 1 ∧ t.fld = s.fld)
    ∧ (∀ f, a = .bar0 0 → who = .host f → z.val = 3 → s.boot.low = false → t.fld = s.fld
        ∧ t.returned.getD (8 + f.val) 0 = 511 + 2 ^ 16 + 4 * 2 ^ 24 + 2 ^ 37)
    ∧ (∀ f, a = .bar0 0x1C → who = .host f → z.val = 2 → s.boot.low = false → t.fld = s.fld ∧ t.returned.getD (8 + f.val) 0
        = (if (s.fn f).rdy then 1 else 0) + (s.fn f).shst * 4 + (if (s.fn f).pp then 32 else 0))

/-- Captures. A LATCH write to a block whose island runs asks for one, and a second is merged into it; the capture clears LATCH, advances SEQ, stamps the
time and makes every latchable field of the block read what it held at the capture, or, for a pen's engine block in the middle of a tick, what it held
at the last completed tick. An INK capture clears the counts it has copied when CLR_ON_LATCH is set. Nothing else changes. Nothing happens where a
premise fails (assumption 4); the corners that the manual leaves open are the model's choice (assumptions 34, 46, 62 to 64, 66, 67, 70, 76 and 108).
Says of each of these rows that it answers a next state with its own effect: LATCH, LATCH_CAPTURE. (R20, R21, R22, R203, R300) -/
def Obligations.Captures : Prop :=
  (∀ (b : BitVec 40) (s : State), ∃ t, exec (.latch b) s = .next t
    ∧ (blockBase b.toNat ≠ some b.toNat ∨ islandStopped s (islandOf b.toNat) = true → t = s)
    ∧ (blockBase b.toNat = some b.toNat → islandStopped s (islandOf b.toNat) = false → t.get (LATCH_LATCH b.toNat) = 1 ∧ OnlyFields [LATCH_LATCH b.toNat] s t))
  ∧ ∀ (b : BitVec 40) (s : State), ∃ t, exec (.latchCapture b) s = .next t
    ∧ (s.get (LATCH_LATCH b.toNat) ≠ 1 → t = s)
    ∧ (s.get (LATCH_LATCH b.toNat) = 1 → Canonical s → blockBase b.toNat = some b.toNat →
        t.get (LATCH_LATCH b.toNat) = 0 ∧ t.get (LATCH_SEQ b.toNat) = (s.get (LATCH_SEQ b.toNat) + 1) % 2 ^ 8
        ∧ t.get (LATCH_TIME b.toNat) = s.get SYS_TIME_TIME ∧ t.captured.contains b.toNat = true
        ∧ ((∀ n : Fin 16, b.toNat = leBase n → (s.sup n).sample = none) →
            ∀ a, b.toNat ≤ a → a < b.toNat + 0x10000 → ∀ f ∈ fieldsAt a, f.addr = a → f.latch = true → f.acc ≠ .wo →
              t.visible b.toNat f % 2 ^ f.width = s.get f)
        ∧ (∀ n : Fin 16, b.toNat = leBase n → (s.sup n).sample ≠ none → Store.sorted (s.sup n).before = true →
            t.visible b.toNat (SV_STATUS_FOCUS_STATE n) = (s.sup n).before.getD (SV_STATUS_FOCUS_STATE n).key 0)
        ∧ (b.toNat ≠ inkBase ∨ s.get INK_ARB_CTRL_CLR_ON_LATCH ≠ 1 → SameFields [LATCH_LATCH b.toNat, LATCH_SEQ b.toNat, LATCH_TIME b.toNat] s t)
        ∧ (b.toNat = inkBase → s.get INK_ARB_CTRL_CLR_ON_LATCH = 1 → ∀ r : Fin 40, t.get (INK_ARB_GRANTS_GRANTS r) = 0 ∧ t.get (INK_ARB_WAIT_WAIT r) = 0
            ∧ t.get (INK_ARB_LONGEST_LONGEST r) = s.get (INK_ARB_LONGEST_LONGEST r)))

/-- RUL_ENABLE: with both period counts set, a loop in OFF starts acquisition in FREQ with the NCO at the rate of the RNI track at the measured spindle
speed; with one at zero it stays OFF and CFG_ERR is recorded; in any other state ENABLE is a level and nothing follows. RUL_DISABLE: OFF from any
state, and no writing: a burn in progress is stopped, as WRITE_OK falling outside SINGLE stops it. JUMP set takes a loop that is LOCKED, SINGLE or in
HOLDOVER to JUMP, with the burns stopped, and is armed in any other state; JUMP cleared takes a loop in JUMP to ADDR with ANGLE_VALID kept, or to FREQ
once HOLD_LIMIT has passed, and acts in no other state. While the pen's DATA island is stopped none of these writes acts. Nothing happens where a
premise fails (assumption 4); the corners that the manual leaves open are the model's choice (assumptions 11, 12, 16, 76, 88 to 92 and 110 to 112).
Says of each of these rows that it answers a next state with its own effect: RUL_ENABLE, RUL_DISABLE, RUL_JUMP_SET, RUL_JUMP_CLEAR. (R18, R35, R36,
R37, R42, R44, R151) -/
def Obligations.RulingEnableAndJump : Prop :=
  ((∀ (n : Fin 16) (s : State), islandStopped s (8 + n.val) = false → ∃ t, exec (.rulEnable n) s = .next t ∧ t.get (RUL_CTRL_ENABLE n) = 1
    ∧ (s.get (RUL_STATUS_STATE n) = 0 → s.get (RUL_PERIODS_M_RNI n) ≠ 0 → s.get (RUL_PERIODS_M_RNO n) ≠ 0 →
        t.get (RUL_STATUS_STATE n) = 1 ∧ t.get (RUL_STATUS_WRITE_OK n) = 0
          ∧ t.get (RUL_FREQ_PERIOD_RATE n) = 1024 * s.get (RUL_PERIODS_M_RNI n) * s.get (MOT_SP_SPEED_MEAS (n / 2)) / 960 % 2 ^ 32
          ∧ SameOrStopped n ([RUL_CTRL_ENABLE n, RUL_FREQ_PERIOD_RATE n, RUL_STATUS_STATE n, RUL_STATUS_WRITE_OK n] ++ frozenOf n) s t)
    ∧ (s.get (RUL_STATUS_STATE n) = 0 → (s.get (RUL_PERIODS_M_RNI n) = 0 ∨ s.get (RUL_PERIODS_M_RNO n) = 0) →
        t.get (RUL_EVENT_CFG_ERR n) = 1 ∧ OnlyFields [RUL_CTRL_ENABLE n, RUL_EVENT_CFG_ERR n] s t)
    ∧ (s.get (RUL_STATUS_STATE n) ≠ 0 → OnlyFields [RUL_CTRL_ENABLE n] s t))
  ∧ (∀ (n : Fin 16) (s : State), islandStopped s (8 + n.val) = true → ∃ t, exec (.rulEnable n) s = .next t ∧ t = s ∧ ∃ t, exec (.rulDisable n) s = .next t ∧ t = s
      ∧ ∃ t, exec (.rulJumpSet n) s = .next t ∧ t = s ∧ ∃ t, exec (.rulJumpClear n) s = .next t ∧ t = s)
  ∧ ∀ (n : Fin 16) (s : State), islandStopped s (8 + n.val) = false → ∃ t, exec (.rulDisable n) s = .next t ∧ t.get (RUL_CTRL_ENABLE n) = 0 ∧ t.get (RUL_STATUS_STATE n) = 0
    ∧ (s.get (RUL_STATUS_STATE n) = 0 → OnlyFields [RUL_CTRL_ENABLE n] s t)
    ∧ (s.get (RUL_STATUS_STATE n) ≠ 0 →
        t.get (RUL_STATUS_WRITE_OK n) = 0 ∧ t.get (RUL_STATUS_ANGLE_VALID n) = 0 ∧ t.get (RUL_STATUS_CLK_SRC n) = 0
          ∧ ((∀ d ∈ (s.writeCh n).group, d.burning ≠ 0 → d.verdict = none ∧ d.done = false) → burningNibs t n = 0)))
  ∧ ((∀ (n : Fin 16) (s : State), islandStopped s (8 + n.val) = false → ∃ t, exec (.rulJumpSet n) s = .next t ∧ t.get (RUL_CTRL_JUMP n) = 1
    ∧ (s.get (RUL_STATUS_STATE n) ∈ [4, 5, 6] → t.get (RUL_STATUS_STATE n) = 7 ∧ t.get (RUL_STATUS_WRITE_OK n) = 0
        ∧ (t.ruling n).holdExpired = false
        ∧ ((∀ d ∈ (s.writeCh n).group, d.burning ≠ 0 → d.verdict = none ∧ d.done = false) → burningNibs t n = 0)
        ∧ SameOrStopped n ([RUL_CTRL_JUMP n, RUL_STATUS_STATE n, RUL_STATUS_WRITE_OK n] ++ frozenOf n) s t)
    ∧ (s.get (RUL_STATUS_STATE n) ∉ [4, 5, 6] → OnlyFields [RUL_CTRL_JUMP n] s t))
  ∧ ∀ (n : Fin 16) (s : State), islandStopped s (8 + n.val) = false → ∃ t, exec (.rulJumpClear n) s = .next t ∧ t.get (RUL_CTRL_JUMP n) = 0
    ∧ (s.get (RUL_STATUS_STATE n) = 7 → (s.ruling n).holdExpired = false → t.get (RUL_STATUS_STATE n) = 3 ∧ t.get (RUL_REV_REV n) = 0
        ∧ t.get (RUL_STATUS_ANGLE_VALID n) = s.get (RUL_STATUS_ANGLE_VALID n))
    ∧ (s.get (RUL_STATUS_STATE n) = 7 → (s.ruling n).holdExpired = true → t.get (RUL_STATUS_STATE n) = 1
        ∧ t.get (RUL_STATUS_ANGLE_VALID n) = 0 ∧ t.get (RUL_STATUS_CLK_SRC n) = 0)
    ∧ (s.get (RUL_STATUS_STATE n) ≠ 7 → OnlyFields [RUL_CTRL_JUMP n] s t))

/-- A write of PENn_RUL_BAND or PENn_RUL_PERIODS is accepted in OFF and in JUMP and in no other state: band, layer and side, or the two period counts,
take the written bits; a new band no longer matches, and BIN and OFFSET follow the count by a new M_RNI while the angle is valid (that the count is
kept is the model's choice, assumption 89). A refused write changes nothing and records CFG_ERR; while the pen's DATA island is stopped none acts.
Nothing happens where a premise fails (assumption 4); the corners that the manual leaves open are the model's choice (assumptions 11, 12, 16, 76, 88
to 92 and 110 to 112). Says of each of these rows that it answers a next state with its own effect: RUL_BAND_WRITE. (R18, R35, R42, R44, R51) -/
def Obligations.RulingBandWrite : Prop :=
  ∀ (n : Fin 16) (v : Word) (s : State),
    (∀ reg, islandStopped s (8 + n.val) = true → exec (.rulBandWrite n reg v) s = .next s)
    ∧ (islandStopped s (8 + n.val) = false → ∃ t, exec (.rulBandWrite n .band v) s = .next t
      ∧ (s.get (RUL_STATUS_STATE n) ∈ [0, 7] → t.get (RUL_BAND_TRACK n) = v.toNat / 2 ^ 16 ∧ t.get (RUL_BAND_LAYER n) = v.toNat / 2 ^ 12 % 16
          ∧ t.get (RUL_BAND_SIDE n) = v.toNat / 2 ^ 11 % 2 ∧ t.get (RUL_STATUS_TRACK_MATCH n) = 0 ∧ t.get (RUL_STATUS_LAYER_MATCH n) = 0
          ∧ t.get (RUL_STATUS_STATE n) = s.get (RUL_STATUS_STATE n))
      ∧ (s.get (RUL_STATUS_STATE n) ∉ [0, 7] → t.get (RUL_EVENT_CFG_ERR n) = 1 ∧ OnlyFields [RUL_EVENT_CFG_ERR n] s t))
    ∧ (islandStopped s (8 + n.val) = false → ∃ t, exec (.rulBandWrite n .periods v) s = .next t
      ∧ (s.get (RUL_STATUS_STATE n) ∈ [0, 7] → t.get (RUL_PERIODS_M_RNO n) = v.toNat / 2 ^ 16 % 2 ^ 11
          ∧ t.get (RUL_PERIODS_M_RNI n) = v.toNat % 2 ^ 11)
      ∧ (s.get (RUL_STATUS_STATE n) = 0 → s.get (RUL_CTRL_ENABLE n) = 1 → v.toNat / 2 ^ 16 % 2 ^ 11 ≠ 0 → v.toNat % 2 ^ 11 ≠ 0 →
          t.get (RUL_STATUS_STATE n) = 1)
      ∧ (s.get (RUL_STATUS_STATE n) = 7 → s.get (RUL_STATUS_ANGLE_VALID n) = 1 → v.toNat % 2 ^ 11 ≠ 0 →
          (s.ruling n).count < 1024 * (v.toNat % 2 ^ 11) → (t.ruling n).count = (s.ruling n).count
            ∧ t.get (RUL_ANGLE_BIN n) = (s.ruling n).count / (v.toNat % 2 ^ 11) ∧ t.get (RUL_ANGLE_OFFSET n) = (s.ruling n).count % (v.toNat % 2 ^ 11))
      ∧ (s.get (RUL_STATUS_STATE n) ∉ [0, 7] → t.get (RUL_EVENT_CFG_ERR n) = 1 ∧ OnlyFields [RUL_EVENT_CFG_ERR n] s t))

/-- Acquisition: FREQ goes to PHASE below 200 ppm for 64 periods, PHASE to ADDR below 1/16 period RMS for 256 periods with the ruling clock driving the
island, and a time limit passed in FREQ, PHASE or ADDR starts FREQ again with ACQ_TIMEOUT; short of each threshold nothing changes. Every 256 periods
the NCO's word sets the island's rate, except where HOLDOVER or JUMP has frozen it, and goes to a claimed pen on a link that is UP. Nothing happens
where a premise fails (assumption 4); the corners that the manual leaves open are the model's choice (assumptions 11, 12, 16, 76, 88 to 92 and 110 to
112). Says of each of these rows that it answers a next state with its own effect: FREQ_ACQUIRED, PHASE_ACQUIRED, ACQ_TIMEOUT, FREQ_WORD_SEND. (R35,
R39, R40, R46) -/
def Obligations.RulingAcquisition : Prop :=
  (∀ (n : Fin 16) (rate err periods : Nat) (s : State), ∃ t, exec (.freqAcquired n rate err periods) s = .next t
    ∧ (s.get (RUL_STATUS_STATE n) = 1 → err < 200 → 64 ≤ periods →
        t.get (RUL_STATUS_STATE n) = 2 ∧ t.get (RUL_FREQ_PERIOD_RATE n) = rate % 2 ^ 32
          ∧ SameOrStopped n ([RUL_FREQ_PERIOD_RATE n, RUL_STATUS_STATE n, RUL_STATUS_WRITE_OK n] ++ frozenOf n) s t)
    ∧ (s.get (RUL_STATUS_STATE n) ≠ 1 ∨ 200 ≤ err ∨ periods < 64 → t = s))
  ∧ (∀ (n : Fin 16) (rms periods : Nat) (a b : Bool) (s : State), ∃ t, exec (.phaseAcquired n rms periods a b) s = .next t
    ∧ (s.get (RUL_STATUS_STATE n) = 2 → rms < 256 → 256 ≤ periods →
        t.get (RUL_STATUS_STATE n) = 3 ∧ t.get (RUL_STATUS_CLK_SRC n) = 1 ∧ t.get (RUL_REV_REV n) = 0
          ∧ t.get (RUL_STATUS_RNI_OK n) = (if a && s.on (RUL_CTRL_USE_RNI n) then 1 else 0)
          ∧ t.get (RUL_STATUS_RNO_OK n) = (if b && s.on (RUL_CTRL_USE_RNO n) then 1 else 0))
    ∧ (s.get (RUL_STATUS_STATE n) ≠ 2 ∨ 256 ≤ rms ∨ periods < 256 → t = s))
  ∧ (∀ (n : Fin 16) (elapsed : Nat) (s : State), ∃ t, exec (.acqTimeout n elapsed) s = .next t
    ∧ (s.get (RUL_STATUS_STATE n) ∈ [1, 2] ∧ 200 ≤ elapsed ∨ s.get (RUL_STATUS_STATE n) = 3 ∧ 32 ≤ elapsed →
        t.get (RUL_STATUS_STATE n) = 1 ∧ t.get (RUL_EVENT_ACQ_TIMEOUT n) = 1)
    ∧ (¬(s.get (RUL_STATUS_STATE n) ∈ [1, 2] ∧ 200 ≤ elapsed ∨ s.get (RUL_STATUS_STATE n) = 3 ∧ 32 ≤ elapsed) → t = s))
  ∧ ∀ (n : Fin 16) (word : BitVec 64) (s : State), ∃ t, exec (.freqWordSend n word) s = .next t ∧ SameMemory s t
    ∧ (s.get (RUL_STATUS_STATE n) ∈ [1, 2, 3, 4, 5] → (t.ruling n).nco = word.toNat ∧ t.get (RUL_FREQ_PERIOD_RATE n) = word.toNat / 2 ^ 19 % 2 ^ 32
        ∧ SameFields [RUL_FREQ_PERIOD_RATE n] s t)
    ∧ (s.get (RUL_STATUS_STATE n) ∈ [6, 7] → (t.ruling n).nco = (s.ruling n).nco ∧ t.fld = s.fld)
    ∧ (linkUp s n = true → claims s n = true → s.get (RUL_STATUS_STATE n) ≠ 0 → (t.link n).freqWord = some (t.ruling n).nco)
    ∧ (linkUp s n = false ∨ claims s n = false → t.link n = s.link n)
    ∧ (s.get (RUL_STATUS_STATE n) = 0 → t = s)

/-- ADDR_WORD. In HOLDOVER and JUMP the count runs on to the next bin boundary, and past the last bin REV counts on; in OFF, FREQ and PHASE nothing is
judged. In LOCKED and SINGLE, a boundary with no word is counted in ADDR_CRC. In ADDR, two consecutive words with consistent payloads lock the loop,
in LOCKED with both ruling nibs good, in SINGLE with one, or in JUMP when JUMP is armed. Nothing happens where a premise fails (assumption 4); the
corners that the manual leaves open are the model's choice (assumptions 11, 12, 16, 76, 88 to 92 and 110 to 112). Says of each of these rows that it
answers a next state with its own effect: ADDR_WORD. (R35, R37, R42, R46, R47, R493) -/
def Obligations.RulingAddressWord : Prop :=
  ∀ (n : Fin 16) (a b : Option AddrWord) (x y : BitVec 16) (s : State), ∃ t, exec (.addrWord n a b x y) s = .next t
    ∧ (s.get (RUL_STATUS_STATE n) ∈ [0, 1, 2] → t = s)
    ∧ (s.get (RUL_STATUS_STATE n) ∈ [3, 4, 5, 6, 7] → t.get (RUL_PHERR_RNI_RMS n) = x.toNat ∧ t.get (RUL_PHERR_RNO_RMS n) = y.toNat)
    ∧ (s.get (RUL_STATUS_STATE n) ∈ [6, 7] → 0 < s.get (RUL_PERIODS_M_RNI n) → (s.ruling n).count < periodsPerRev s n →
        (s.ruling n).slipBin = none →
        (t.ruling n).count = ((s.ruling n).count / s.get (RUL_PERIODS_M_RNI n) + 1) * s.get (RUL_PERIODS_M_RNI n) % periodsPerRev s n
          ∧ t.get (RUL_ANGLE_BIN n) = ((s.ruling n).count / s.get (RUL_PERIODS_M_RNI n) + 1) % 1024 ∧ t.get (RUL_ANGLE_OFFSET n) = 0
          ∧ t.get (RUL_REV_REV n) =
              (if periodsPerRev s n ≤ ((s.ruling n).count / s.get (RUL_PERIODS_M_RNI n) + 1) * s.get (RUL_PERIODS_M_RNI n)
                then (s.get (RUL_REV_REV n) + 1) % 2 ^ 32 else s.get (RUL_REV_REV n)))
    ∧ (s.get (RUL_STATUS_STATE n) ∈ [4, 5] → a = none → b = none →
        t.get (RUL_COUNTS_ADDR_CRC n) = min (s.get (RUL_COUNTS_ADDR_CRC n) + 1) (2 ^ (RUL_COUNTS_ADDR_CRC n).width - 1))
    ∧ (∀ bin bin0 p p0 : Nat, s.get (RUL_STATUS_STATE n) = 3 → s.get (RUL_STATUS_ANGLE_VALID n) = 0 → (bin0, p0) ∈ (s.ruling n).prev →
        (bin, p) ∈ addrObs s n a b → (bin0 + 1) % 1024 = bin → payloadOk bin0 p0 = true → payloadOk bin p = true →
        t.get (RUL_STATUS_ANGLE_VALID n) = 1
          ∧ t.get (RUL_STATUS_STATE n) = (if s.get (RUL_CTRL_JUMP n) = 1 then 7
              else if inLoop s n .rni = true ∧ inLoop s n .rno = true then 4 else 5))

/-- A ruling nib that meets a loss criterion (more than 1/4 period RMS for 64 periods, an amplitude below 25%, its USE bit 0, or a collapsed envelope)
leaves the loop: LOCKED falls to SINGLE, and with no nib left the loop enters HOLDOVER and stops the burns; a lost nib that is good again returns
SINGLE to LOCKED after a whole bin, and HOLDOVER with an address word that agrees. HOLD_LIMIT ends HOLDOVER in FREQ, and in JUMP it ends the angle's
validity, with UNLOCK in both. Nothing happens where a premise fails (assumption 4); the corners that the manual leaves open are the model's choice
(assumptions 11, 12, 16, 76, 88 to 92 and 110 to 112). Says of each of these rows that it answers a next state with its own effect: RULING_NIB_LOST,
RULING_NIB_GOOD, HOLD_LIMIT. (R35, R37, R45, R46, R68) -/
def Obligations.RulingNibs : Prop :=
  (∀ (n : Fin 16) (nib : RulNib) (why : RulLoss) (s : State), ∃ t, exec (.rulingNibLost n nib why) s = .next t
    ∧ ((∃ r k, why = .phase r k ∧ 1024 < r ∧ 64 ≤ k) ∨ (∃ p, why = .amplitude p ∧ p < 25) ∨ why = .useBit ∧ s.get (useBit n nib) ≠ 1
          ∨ why = .blot ∧ collapsed s n (rulIndex nib) = true →
        s.get (okBit n nib) = 1 → t.get (okBit n nib) = 0 ∧ t.get (lostEvent n nib) = 1
        ∧ (s.get (RUL_STATUS_STATE n) = 4 → s.get (okBit n (otherNib nib)) = 1 → t.get (RUL_STATUS_STATE n) = 5)
        ∧ (s.get (RUL_STATUS_STATE n) ∈ [4, 5] → s.get (okBit n (otherNib nib)) ≠ 1 →
            t.get (RUL_STATUS_STATE n) = 6 ∧ t.get (RUL_EVENT_HOLDOVER n) = 1 ∧ t.get (RUL_STATUS_WRITE_OK n) = 0
              ∧ ((∀ d ∈ (s.writeCh n).group, d.burning ≠ 0 → d.verdict = none ∧ d.done = false) → burningNibs t n = 0)))
    ∧ (why = .blot → collapsed s n (rulIndex nib) = true → (t.nib n (rulIndex nib)).rulBlot = some 0)
    ∧ (lossHolds s n nib why = false → t = s))
  ∧ (∀ (n : Fin 16) (nib : RulNib) (phase periods : Nat) (whole : Bool) (w : Option AddrWord) (s : State),
    ∃ t, exec (.rulingNibGood n nib phase periods whole w) s = .next t
      ∧ (s.get (useBit n nib) = 1 → phase < 256 → 256 ≤ periods → (s.nib n (rulIndex nib)).rulBlot = none → t.get (okBit n nib) = 1 ∧ SameMemory s t
          ∧ (s.get (RUL_STATUS_STATE n) = 5 → s.get (okBit n nib) ≠ 1 → whole = true → inLoop s n (otherNib nib) = true →
              t.get (RUL_STATUS_STATE n) = 4 ∧ SameOrStopped n ([okBit n nib, RUL_STATUS_STATE n, RUL_STATUS_WRITE_OK n] ++ frozenOf n) s t)
          ∧ (∀ x, s.get (RUL_STATUS_STATE n) = 6 → w = some x → wordGood x = true → disagreement s n x = 0 →
              t.get (RUL_STATUS_STATE n) = (if inLoop s n (otherNib nib) = true then 4 else 5)
                ∧ SameOrStopped n ([okBit n nib, RUL_STATUS_STATE n, RUL_STATUS_WRITE_OK n] ++ frozenOf n) s t)
          ∧ (s.get (RUL_STATUS_STATE n) ∉ [5, 6] → SameFields [okBit n nib] s t))
      ∧ (s.get (useBit n nib) ≠ 1 ∨ 256 ≤ phase ∨ periods < 256 ∨ (s.nib n (rulIndex nib)).rulBlot ≠ none → t = s))
  ∧ ∀ (n : Fin 16) (us : Nat) (s : State), ∃ t, exec (.holdLimit n us) s = .next t
    ∧ (25 * min 8 (max 1 (s.get (RUL_CTRL_HOLD_LIMIT n))) ≤ us → s.get (RUL_STATUS_STATE n) = 6 →
        t.get (RUL_STATUS_STATE n) = 1 ∧ t.get (RUL_EVENT_UNLOCK n) = 1 ∧ t.get (RUL_STATUS_ANGLE_VALID n) = 0)
    ∧ (25 * min 8 (max 1 (s.get (RUL_CTRL_HOLD_LIMIT n))) ≤ us → s.get (RUL_STATUS_STATE n) = 7 → (s.ruling n).holdExpired = false →
        t.get (RUL_STATUS_STATE n) = 7 ∧ t.get (RUL_EVENT_UNLOCK n) = 1 ∧ t.get (RUL_STATUS_ANGLE_VALID n) = 0)
    ∧ (us < 25 * min 8 (max 1 (s.get (RUL_CTRL_HOLD_LIMIT n))) → t = s)

/-- RC_CTRL_WRITE: the control word of the read channel takes the written bits, NIB_EN the eight nibs of an N1 port only. ZT_DIR_WRITE: one directory word
takes GEN and VALID, and ALT_VALID of the pen's nibs follows; nothing else changes. Neither does anything while the pen's data island is stopped
(assumption 76). The Blotter. A criterion that is enabled and fires at an enabled nib with no blot in progress starts one: BLOT_ACTIVE, the event, the
count and FROZEN, from the channel bit 200 ns before; else nothing happens. The end closes the blot's span in the newest codeword, HOLD after the last
criterion, and clears BLOT_ACTIVE. Nothing happens where a premise fails (assumption 4); the corners that the manual leaves open are the model's
choice (assumptions 30, 76, 79 to 83, 93, 109 and 113 to 116). Says of each of these rows that it answers a next state with its own effect:
RC_CTRL_WRITE, ZT_DIR_WRITE, BLOT_START, BLOT_END. (R18, R26, R54, R59, R65, R66, R67, R69, R74, R75) -/
def Obligations.ReadControlAndBlots : Prop :=
  ((∀ (n : Fin 16) (v : Word) (s : State), ∃ t, exec (.rcCtrlWrite n v) s = .next t
    ∧ (islandStopped s (8 + n.val) = true → t = s)
    ∧ (islandStopped s (8 + n.val) = false →
      t.get (RC_CTRL_ENABLE n) = v.toNat % 2 ∧ t.get (RC_CTRL_FREEZE_ALL n) = v.toNat / 2 % 2 ∧ t.get (RC_CTRL_SLIP_TEST n) = v.toNat / 4 % 2
      ∧ t.get (RC_CTRL_XBLANK n) = v.toNat / 8 % 2 ∧ t.get (RC_CTRL_EDGE_SRC n) = v.toNat / 16 % 2
      ∧ t.get (RC_CTRL_NIB_EN n) = (if s.get (LK_STATUS_GEN n) = 1 then v.toNat / 2 ^ 16 % 2 ^ 8 else v.toNat / 2 ^ 16)
      ∧ t.get (RUL_STATUS_STATE n) = s.get (RUL_STATUS_STATE n)))
  ∧ ∀ (n : Fin 16) (i : Fin 2048) (v : Word) (s : State), ∃ t, exec (.ztDirWrite n i v) s = .next t
    ∧ (islandStopped s (8 + n.val) = true → t = s)
    ∧ (islandStopped s (8 + n.val) = false →
      t.get (RC_ZT_DIR_GEN n i) = v.toNat / 2 ^ 8 % 2 ^ 8 ∧ t.get (RC_ZT_DIR_VALID n i) = v.toNat % 2
      ∧ OnlyFields ([RC_ZT_DIR_GEN n i, RC_ZT_DIR_VALID n i] ++ (List.range 16).map (RC_NIB_STATUS_ALT_VALID n)) s t))
  ∧ ((∀ (n k : Fin 16) (crit : BlotCrit) (bit : Nat) (s : State), ∃ t, exec (.blotStart n k crit bit) s = .next t
    ∧ (nibOn s n k = true → blotFires s n k crit = true → (s.nib n k).blotFrom = none →
        t.get (RC_NIB_STATUS_BLOT_ACTIVE n k) = 1 ∧ t.get (RC_EVENT_BLOT n) = 1 ∧ t.get (RC_NIB_STATUS_FROZEN n k) = 1
          ∧ (t.nib n k).blotFrom = some (bit - lagBits s n)
          ∧ t.get (RC_NIB_CNT_BLOT_BLOTS n k) = min (s.get (RC_NIB_CNT_BLOT_BLOTS n k) + 1) (2 ^ 16 - 1)
          ∧ SameFields [RC_NIB_STATUS_BLOT_ACTIVE n k, RC_EVENT_BLOT n, RC_NIB_STATUS_FROZEN n k, RC_NIB_CNT_BLOT_BLOTS n k] s t)
    ∧ (nibOn s n k = false ∨ blotFires s n k crit = false ∨ (s.nib n k).blotFrom ≠ none → t = s))
  ∧ ∀ (n k : Fin 16) (clearBit : Int) (s : State), ∃ t, exec (.blotEnd n k clearBit) s = .next t
    ∧ ((s.nib n k).blotFrom = none → t = s)
    ∧ (∀ a, (s.nib n k).blotFrom = some a → t.get (RC_NIB_STATUS_BLOT_ACTIVE n k) = 0 ∧ (t.nib n k).blotFrom = none
        ∧ (∀ r c, (s.nib n k).cws = r ++ [c] → (t.nib n k).cws =
            r ++ [{ c with spans := addSpan c.spans a (min 39000 (clearBit + (32 * max 1 (s.get (RC_BLOT_CFG_HOLD n)) : Nat)).toNat) }])
        ∧ SameFields [RC_NIB_STATUS_BLOT_ACTIVE n k, RC_NIB_STATUS_FROZEN n k] s t))

/-- Codeword boundaries and presets. As the count passes a codeword's predicted start at an enabled nib, a codeword with an empty erasure map is under
way, dated to that place (where a slip was confirmed with its sync window already open, to the place as the old count had it), the cross terms stand
as their enables do, and the zone is shown; without a valid angle index, or at a nib that is off, nothing happens. A fetch in progress ends with the
entry's 64 bytes waiting for a boundary, or, where they come as poison, with ZT_MISS and nothing fetched; an address in the check-region window is
recorded too. The searches and the slip test: sync and resync compare the nib's tentative decisions with the mark at each place of their window, and
keep the best score at or above the threshold (at most 48 and 24) with its position in the newest codeword; the slip test keeps the shift of the
lowest syndrome weight in the oldest, where it applies; no register changes. Nothing happens where a premise fails (assumption 4); the corners that
the manual leaves open are the model's choice (assumptions 30, 76, 79 to 83, 93, 109 and 113 to 116). Says of each of these rows that it answers a
next state with its own effect: CW_BOUNDARY, PRESET_FETCH_DONE, SYNC_SEARCH, RESYNC_SEARCH, SLIP_TEST. (R62, R70, R72, R76, R77, R78, R79, R80, R81,
R84, R288) -/
def Obligations.CodewordStartAndSearches : Prop :=
  ((∀ (n k : Fin 16) (f : Nat) (idx : Fin 16) (ns : Nat) (s : State), ∃ t, exec (.cwBoundary n k f idx ns) s = .next t
    ∧ (∀ p q d, p = 1024 * s.get (RUL_PERIODS_M_RNI n) →
        ((s.ruling n).slipFrom = none ∧ q = (f + 1000 + 4875 * idx.val) % p
          ∨ (∃ c e, (s.ruling n).slipFrom = some (c, e) ∧ 1 ≤ ((f + 1000 + 4875 * idx.val) % p + p - c) % p
              ∧ ((f + 1000 + 4875 * idx.val) % p + p - c) % p ≤ 8 ∧ (q : Int) = (((f + 1000 + 4875 * idx.val) % p : Nat) + e) % (p : Int))) →
        d = ((s.ruling n).count + p - q) % p →
        nibOn s n k = true → s.get (RUL_STATUS_ANGLE_VALID n) = 1 → p ≠ 0 → d < 4875 →
        (t.nib n k).cws.length = (s.nib n k).cws.length + 1
        ∧ (t.nib n k).cws.getLast?.map (fun c => (c.f, c.idx, c.spans)) = some (f, idx.val, [])
        ∧ (t.nib n k).cws.getLast?.map (fun c => c.sample) = some (((s.nib n 16).at_ : Int) - (s.ruling n).sub - 8 * d)
        ∧ (t.nib n k).xterm = (s.get (RC_EQ_CTRL_XTERM_EN n) == 1) ∧ (t.nib n k).itiOn = (s.get (RC_EQ_CTRL_ITI_EN n) == 1)
        ∧ t.get (RC_ZONE_ZONE n) = min 63 (s.get (RUL_BAND_TRACK n) * s.get (RC_ZONE_ZONE_MUL n) / 2 ^ 16)
        ∧ t.get (RUL_BAND_TRACK n) = s.get (RUL_BAND_TRACK n))
    ∧ (nibOn s n k = false ∨ s.get (RUL_STATUS_ANGLE_VALID n) ≠ 1 → t = s))
  ∧ ∀ (n k : Fin 16) (ue : Bool) (s : State), ∃ t, exec (.presetFetchDone n k ue) s = .next t
    ∧ ((s.nib n k).fetching = none → t = s)
    ∧ (∀ p a, (s.nib n k).fetching = some p →
        a = s.get (RC_ZT_BASE_BASE n) * 2 ^ 21 + (((p.bank * 16 + p.layer) * 64 + p.zone) * 16 + k.val) * 64 →
        (t.nib n k).fetching = none ∧ (t.nib n k).held = (s.nib n k).held
          ∧ (ue = false → a < inkLimit → s.anyPoison a 64 = false → (t.nib n k).fetched = some (p, s.bytesAt a 64) ∧ t.fld = s.fld)
          ∧ (ue = true ∨ inkLimit ≤ a ∨ s.anyPoison a 64 = true →
              t.get (RC_EVENT_ZT_MISS n) = 1 ∧ (t.nib n k).fetched = (s.nib n k).fetched)
          ∧ (a < inkLimit → SameFields [RC_EVENT_ZT_MISS n] s t)
          ∧ (inkLimit ≤ a → t.get INK_EVENT_ADDR_ERR = 1)))
  ∧ ((∀ (n k : Fin 16) (s : State), ∃ t, exec (.syncSearch n k) s = .next t ∧ t.fld = s.fld
    ∧ ∀ r c scores, (s.nib n k).cws = r ++ [c] → scores = markScores (s.nib n k) (markBits 48 syncMark) 64 c.sample →
        scores.length = 129 ∧ (t.nib n k).cws = r ++ [{ c with
          sync := bestScore 64 (min 48 (s.get (RC_SYNC_CFG_SYNC_THRESH n))) scores, syncScore := scores.foldl max 0 }])
  ∧ (∀ (n k : Fin 16) (s : State), ∃ t, exec (.resyncSearch n k) s = .next t ∧ t.fld = s.fld
    ∧ ∀ r c start scores, (s.nib n k).cws = r ++ [c] → start = c.sample + (match c.sync with | some (p, _) => p | none => 0) →
        scores = markScores (s.nib n k) (markBits 24 resyncMark) 8 (start + 19353) →
        scores.length = 17 ∧ (t.nib n k).cws = r ++ [{ c with
          resync := bestScore 8 (min 24 (s.get (RC_SYNC_CFG_RESYNC_THRESH n))) scores, resyncScore := scores.foldl max 0 }])
  ∧ ∀ (n k : Fin 16) (w : List Nat) (s : State), ∃ t, exec (.slipTest n k w) s = .next t ∧ t.fld = s.fld
    ∧ ∀ c r, (s.nib n k).cws = c :: r →
        (s.get (RC_CTRL_SLIP_TEST n) = 1 → c.sync ≠ none → (∃ d v, c.resync = some (d, v) ∧ 1 ≤ d.natAbs ∧ d.natAbs ≤ 3) →
            (t.nib n k).cws = { c with shift := some (bestShift w) } :: r)
          ∧ (s.get (RC_CTRL_SLIP_TEST n) ≠ 1 ∨ c.sync = none ∨ c.resync = none ∨ (∃ d v, c.resync = some (d, v) ∧ (d = 0 ∨ 3 < d.natAbs)) →
            (t.nib n k).cws = c :: r))

/-- CW_FRAMED: the oldest codeword under way at an enabled nib is framed and counted, NIB_MSE shows the mean of e² over its samples (in 1/256 LSB²,
saturating; how it rounds is free), and PENn_RC_NIB_SYNC tells how it was framed: a codeword without its sync is a flywheel, anchored on the resync if
that was found; two flywheels in a row raise SLIP_SUSPECT at the ruling and count anew. One that a descriptor of the running group reads, and no
revisit, goes to the decoder pool for that descriptor with its LLRs, where the input buffer has a slot. A nib that its pen leaves out in degraded mode
has no samples: the codeword is INCOMPLETE. With no codeword under way, or a nib that is off, nothing happens. Nothing happens where a premise fails
(assumption 4); the corners that the manual leaves open are the model's choice (assumptions 30, 76, 79 to 83, 93, 109 and 113 to 116). Says of each of
these rows that it answers a next state with its own effect: CW_FRAMED. (R48, R57, R63, R64, R80, R83, R85, R89, R110, R280) -/
def Obligations.CodewordFramed : Prop :=
  ∀ (n k : Fin 16) (dm : List Int) (s : State), ∃ t, exec (.cwFramed n k dm) s = .next t
    ∧ ((s.nib n k).cws = [] ∨ nibOn s n k = false ∧ nibUnsent s n k = false → t = s)
    ∧ (∀ c r, (s.nib n k).cws = c :: r → nibUnsent s n k = true → t.get (RC_EVENT_INCOMPLETE n) = 1 ∧ (t.nib n k).cws = r)
    ∧ ∀ c r, (s.nib n k).cws = c :: r → nibOn s n k = true → nibUnsent s n k = false →
        (c.judged ≠ 0 → t.get (RC_NIB_MSE_MSE n k) ∈ [min (c.err / (2 ^ 114 * c.judged)) (2 ^ 16 - 1), min (c.err / (2 ^ 114 * c.judged) + 1) (2 ^ 16 - 1)]
          ∧ ((2 ^ 114 * c.judged) ∣ c.err → t.get (RC_NIB_MSE_MSE n k) = min (c.err / (2 ^ 114 * c.judged)) (2 ^ 16 - 1)))
          ∧ (t.nib n k).cws = r
          ∧ t.get (RC_NIB_CNT_CW_CODEWORDS n k) = min (s.get (RC_NIB_CNT_CW_CODEWORDS n k) + 1) (2 ^ 32 - 1)
          ∧ t.get (RC_NIB_SYNC_FLYWHEEL n k) = (if c.sync = none then 1 else 0)
          ∧ t.get (RC_NIB_SYNC_ANCHOR_RESYNC n k) = (if c.sync = none ∧ c.resync ≠ none then 1 else 0)
          ∧ t.get (RC_NIB_SYNC_NO_PRESET n k) = (if c.noPreset then 1 else 0)
          ∧ (c.sync ≠ none → t.get (RC_NIB_STATUS_FLY_RUN n k) = 0)
          ∧ (c.sync = none → s.get (RC_NIB_STATUS_FLY_RUN n k) = 0 → t.get (RC_NIB_STATUS_FLY_RUN n k) = 1 ∧ t.get (RC_EVENT_FLYWHEEL n) = 1)
          ∧ (c.sync = none → s.get (RC_NIB_STATUS_FLY_RUN n k) ≠ 0 → t.get (RC_NIB_STATUS_FLY_RUN n k) = 0
              ∧ t.get (RC_EVENT_SLIP_SUSPECT n) = 1 ∧ t.get (RUL_EVENT_SLIP_SUSPECT n) = 1)
          ∧ (∀ d, freshOf s n k c.f c.idx = none → readDescOf s n k c.f c.idx = some d → c.noPreset = false → inBufClosed s = false →
              t.ldpc.l0q = s.ldpc.l0q ++ [s.ldpc.nextCw]
              ∧ (t.ldpc.cws.find? s.ldpc.nextCw).map (fun w => (w.f, w.idx, w.dest, w.key, w.llrs))
                = some (c.f, c.idx, d.data + 4096 * c.idx, d.key, framedLlrs s n c dm))

/-- CORE_SCHEDULE: a core that is in scheduling and free takes the oldest L0 codeword, with the cap in force, a verify codeword with the cap of its pen's
verify; with none waiting it takes the retry task whose codeword entered its rung first, as long as fewer cores than the limit are on retry work. A
busy core, or one out of scheduling, takes nothing. Nothing happens where a premise fails (assumption 4); the corners that the manual leaves open are
the model's choice (assumptions 13, 72, 76 to 78, 109 and 117 to 120). Says of each of these rows that it answers a next state with its own effect:
CORE_SCHEDULE. (R90, R91, R92, R102) -/
def Obligations.PoolSchedule : Prop :=
  ∀ (core : Fin 64) (s : State), ∃ t, exec (.coreSchedule core) s = .next t
    ∧ (s.ldpc.busy.find? core ≠ none ∨ s.bit LDPC_CORE_ONLINE_ONLINE core = false → t = s)
    ∧ (s.ldpc.busy.find? core = none → s.bit LDPC_CORE_ONLINE_ONLINE core = true →
        (∀ id rest, s.ldpc.l0q = id :: rest → t.ldpc.l0q = rest ∧ t.ldpc.retryq = s.ldpc.retryq
          ∧ ∃ cap, t.ldpc.busy.find? core = some { cw := id, kind := .l0, cap := cap }
            ∧ (∀ c, s.cw? id = some c → c.verify = true → cap = capOf (s.get (WC_VERIFY_VFY_ICAP c.pen)))
            ∧ ((∀ c, s.cw? id = some c → c.verify = false) → cap = effL0 s (s.get LDPC_SCHED_STEP)))
        ∧ (∀ id kind, s.ldpc.l0q = [] → oldestTask s = some (id, kind) →
            (retryBusy s < min (s.get LDPC_SCHED_RETRY_MAX) (onlineCount s - s.get LDPC_SCHED_L0_RESERVE) →
              t.ldpc.retryq = s.ldpc.retryq.erase (id, kind) ∧ t.ldpc.busy.find? core = some {
                cw := id, kind := kind,
                cap := if kind = .neighbour false ∨ kind = .neighbour true then 10 else effRetry s (s.get LDPC_SCHED_STEP) })
            ∧ (min (s.get LDPC_SCHED_RETRY_MAX) (onlineCount s - s.get LDPC_SCHED_L0_RESERVE) ≤ retryBusy s → t = s))
        ∧ (s.ldpc.l0q = [] → s.ldpc.retryq = [] → t = s))

/-- DECODE_DONE: the core is free, and the iterations are counted: those it took to a zero syndrome within the cap, or the whole cap. A zero syndrome that
fails its CRC is a miscorrection, of whichever kind the decode is. A decode with a zero syndrome and the right CRC of a codeword whose data needs no
key that its READ lacks delivers it: it leaves the pool, and at L0 the decrypted bytes, and no others, are stored from its destination on. Any other
decode of a first or a fresh read fails: the codeword is queued to be spilled into its own slot or a free one, or with none SPILL_FULL is recorded. A
verify's data is discarded, a neighbour's decode ends. Nothing happens where a premise fails (assumption 4); the corners that the manual leaves open
are the model's choice (assumptions 13, 72, 76 to 78, 109 and 117 to 120). Says of each of these rows that it answers a next state with its own
effect: DECODE_DONE. (R86, R87, R98, R99, R102, R110, R112, R115, R129, R140) -/
def Obligations.PoolDecode : Prop :=
  ∀ (core : Fin 64) (r : DecodeResult) (s : State), ∃ t, exec (.decodeDone core r) s = .next t
    ∧ (s.ldpc.busy.find? core = none → t = s)
    ∧ ∀ k, s.ldpc.busy.find? core = some k → t.ldpc.busy.find? core = none
        ∧ t.get LDPC_CNT_ITER_ITERATIONS
            = (s.get LDPC_CNT_ITER_ITERATIONS + if r.zero = true ∧ r.iters ≤ k.cap then max 1 r.iters else k.cap) % 2 ^ 64
        ∧ ∀ c, s.cw? k.cw = some c →
            (r.zero = true → r.iters ≤ k.cap → leVal r.crc ≠ infoCrc r.user r.header → t.get LDPC_EVENT_MISCORRECT = 1
              ∧ t.get LDPC_CNT_MISC_MISCORRECT = min (s.get LDPC_CNT_MISC_MISCORRECT + 1) (2 ^ LDPC_CNT_MISC_MISCORRECT.width - 1))
            ∧ (k.kind ≠ .neighbour false → k.kind ≠ .neighbour true → c.verify = false →
              (r.zero = true → r.iters ≤ k.cap → leVal r.crc = infoCrc r.user r.header →
                (hdrEnc r.header = false ∨ c.bypass = true ∨ c.key ≠ 0xFFFF) →
                  t.cw? k.cw = none
                  ∧ (c.rung = 0 → c.dest + (clearData s c r.user r.header).length ≤ inkLimit → s.get INK_ECC_TEST_ARM = 0 →
                    (∀ i, i < (clearData s c r.user r.header).length → t.byte (c.dest + i) = (clearData s c r.user r.header).getD i 0)
                    ∧ ∀ a, a < c.dest ∨ c.dest + (clearData s c r.user r.header).length ≤ a → t.byte a = s.byte a))
              ∧ (r.zero = false ∨ k.cap < r.iters ∨ leVal r.crc ≠ infoCrc r.user r.header → c.phase = .l0 ∨ c.phase = .fresh →
                (s.ldpc.spillq.length < 32 → ∀ sl, (c.slot = some sl ∨ c.slot = none ∧ freeSlot? s = some sl) →
                  t.ldpc.spillq = s.ldpc.spillq ++ [k.cw] ∧ (t.cw? k.cw).map (fun c => (c.phase, c.slot)) = some (.spilling, some sl))
                ∧ (32 ≤ s.ldpc.spillq.length ∨ c.slot = none ∧ freeSlot? s = none → t.get LDPC_EVENT_SPILL_FULL = 1)))
            ∧ (k.kind = .l0 → c.verify = true → t.cw? k.cw = none ∧ SameMemory s t)
            ∧ (∀ u, k.kind = .neighbour u → (t.cw? k.cw).map (fun c => c.neighbours) = some (c.neighbours - 1) ∧ SameMemory s t)

/-- What moves a codeword along the ladder. The end of the oldest spill copy writes its record inside its slot only, frees its input buffer slot and, with
L1 enabled, sends it to L1; samples lost before the copy ended are marked and recorded; an L2 replay leaves its LLRs waiting, and queues the decode
when L1 is over; at L3 three passes are counted, the third queues the neighbours' decodes, and a fourth the decode. Nothing happens where a premise
fails (assumption 4); the corners that the manual leaves open are the model's choice (assumptions 13, 72, 76 to 78, 109 and 117 to 120). Says of each
of these rows that it answers a next state with its own effect: SPILL_COPY_DONE, SAMPLES_LOST, REPLAY_DONE. (R94, R96, R98, R101, R102, R103, R108,
R114) -/
def Obligations.LadderMoves : Prop :=
  (∀ s : State, ∃ t, exec .spillCopyDone s = .next t
    ∧ (s.ldpc.spillq = [] → t = s)
    ∧ ∀ id rest c, s.ldpc.spillq = id :: rest → s.cw? id = some c → c.rung = 0 → s.bit LDPC_CTRL_RUNG_EN 0 = true →
        t.ldpc.spillq = rest ∧ (t.cw? id).map (fun c => (c.phase, c.rung, c.inBuf)) = some (.l1, 1, false)
          ∧ t.ldpc.retryq = s.ldpc.retryq ++ [(id, .retry)]
          ∧ (c.slot = none → SameMemory s t)
          ∧ (∀ sl, c.slot = some sl → s.get INK_ECC_TEST_ARM = 0 → s.get LDPC_SPILL_BASE_BASE * 2 ^ 20 + sl * 0x40000 < inkLimit →
              ∀ a, a < s.get LDPC_SPILL_BASE_BASE * 2 ^ 20 + sl * 0x40000
                ∨ s.get LDPC_SPILL_BASE_BASE * 2 ^ 20 + (sl + 1) * 0x40000 ≤ a → t.byte a = s.byte a))
  ∧ (∀ (n k : Fin 16) (s : State), ∃ t, exec (.samplesLost n k) s = .next t
    ∧ (s.ldpc.spillq = [] → s.ldpc.capture = none → t = s)
    ∧ (∀ id rest c, s.ldpc.spillq = id :: rest → s.cw? id = some c → c.pen = n → c.nib = k → c.lost = false →
        t.cw? id = some { c with status := c.status ||| 2 ^ 7, lost := true } ∧ t.get LDPC_EVENT_SAMPLES_LOST = 1
          ∧ SameFields [LDPC_EVENT_SAMPLES_LOST, LDPC_CNT_LOSS_SAMPLES_LOST] s t)
    ∧ ∀ c, s.ldpc.spillq = [] → s.ldpc.capture = some c → c.pen = n → c.nib = k →
        t.ldpc.capture = some { c with status := c.status ||| 2 ^ 7, lost := true } ∧ t.get LDPC_EVENT_SAMPLES_LOST = 1
          ∧ SameFields [LDPC_EVENT_SAMPLES_LOST, LDPC_CNT_LOSS_SAMPLES_LOST] s t)
  ∧ ∀ (ch : Fin 4) (r : Replay) (s : State), ∃ t, exec (.replayDone ch r) s = .next t
    ∧ (s.ldpc.chans.find? ch = none → t = s)
    ∧ ∀ id c, s.ldpc.chans.find? ch = some id → s.cw? id = some c → c.replayReady = false →
        (c.phase = .l2 → t.cw? id = some { c with replayReady := true, rllrs := replayLlrs s c r }
          ∧ t.ldpc.retryq = s.ldpc.retryq ++ [(id, .retry)] ∧ t.fld = s.fld)
        ∧ (c.phase = .l1 → t.cw? id = some { c with replayReady := true, rllrs := replayLlrs s c r } ∧ t.ldpc.retryq = s.ldpc.retryq ∧ t.fld = s.fld)
        ∧ (c.phase = .l3 → c.passes < 2 → t.cw? id = some { c with passes := c.passes + 1 } ∧ t.fld = s.fld)
        ∧ (c.phase = .l3 → c.passes = 2 → 0 < c.nib → c.nib + 1 < (if s.get (LK_STATUS_GEN c.pen) = 1 then 8 else 16) →
            t.ldpc.retryq = s.ldpc.retryq ++ [(id, .neighbour false), (id, .neighbour true)]
              ∧ (t.cw? id).map (fun c => (c.passes, c.neighbours)) = some (3, 2))
        ∧ (c.phase = .l3 → c.passes = 3 → t.cw? id = some { c with passes := 4, replayReady := true, rllrs := replayLlrs s c r }
            ∧ t.ldpc.retryq = s.ldpc.retryq ++ [(id, .retry)] ∧ t.fld = s.fld)

/-- Revisit sequences. A pen whose queue has nothing for this band, whose codewords are all pending and whose ruling is LOCKED on its band starts or
resumes with its retry offsets at zero. Once a step is over, the next of the seven takes force at the start of the longest free arc, or at once where
there is none, and every pending codeword is to be read under it from the end of the arc to its next start; the last step alone raises the read power.
PARK stops the sequence where it is, with its offsets and its read power returned; with nothing pending, or no step left, it ends. PARK is a bit that
its row sets and clears while the LDPC island runs (assumption 76). Nothing happens where a premise fails (assumption 4); the corners that the manual
leaves open are the model's choice (assumptions 13, 72, 76 to 78, 109 and 117 to 120). Says of each of these rows that it answers a next state with
its own effect: REVISIT_START, REVISIT_STEP, PARK_WRITE. (R18, R104, R105, R106, R107, R188) -/
def Obligations.RevisitSequence : Prop :=
  (∀ (n : Fin 16) (s : State), ∃ t, exec (.revisitStart n) s = .next t
    ∧ ((s.revisit n).running = false → queueElsewhere s n = true → s.get (RUL_STATUS_STATE n) = 4 → s.get (RUL_STATUS_TRACK_MATCH n) = 1 →
        s.get (RUL_STATUS_LAYER_MATCH n) = 1 → s.get LDPC_CTRL_PARK = 0 →
        (∃ e ∈ s.ldpc.cws, e.2.pen = n) → (∀ e ∈ s.ldpc.cws, e.2.pen = n → e.2.phase = .pending) →
        t.revisit n = { (s.revisit n) with running := true } ∧ t.get (SV_STATUS_RETRY_OFS n) = 0)
    ∧ ((s.revisit n).running = true ∨ queueElsewhere s n = false ∨ s.get (RUL_STATUS_STATE n) ≠ 4 ∨ s.get (RUL_STATUS_TRACK_MATCH n) ≠ 1
        ∨ s.get (RUL_STATUS_LAYER_MATCH n) ≠ 1 ∨ s.get LDPC_CTRL_PARK = 1 → t = s))
  ∧ (∀ (n : Fin 16) (s : State), ∃ t, exec (.revisitStep n) s = .next t
    ∧ ((s.revisit n).running = false → t = s)
    ∧ ((s.revisit n).running = true → pendingOf s n = [] → t.revisit n = {} ∧ t.readPower.getD n 0 = 0)
    ∧ ((s.revisit n).running = true → pendingOf s n ≠ [] → stepOver s n = false → t = s)
    ∧ ((s.revisit n).running = true → pendingOf s n ≠ [] → stepOver s n = true →
        (s.get LDPC_CTRL_PARK = 1 → t.revisit n = { (s.revisit n) with running := false, todo := [] } ∧ t.readPower.getD n 0 = 0
          ∧ t.get (SV_STATUS_RETRY_OFS n) = 0 ∧ SameMemory s t)
        ∧ (s.get LDPC_CTRL_PARK = 0 → 7 ≤ (s.revisit n).step → t.revisit n = {} ∧ t.readPower.getD n 0 = 0)
        ∧ ∀ rung sub, s.get LDPC_CTRL_PARK = 0 → revisitSteps[(s.revisit n).step]? = some (rung, sub) →
            (∀ arc from_, (longestArc s n ((pendingOf s n).map (·.2)) = none ∧ arc = 0
                ∨ longestArc s n ((pendingOf s n).map (·.2)) = some (s.get (RUL_ANGLE_BIN n), arc)) →
              from_ = binPlace s n + arc + (if arc = 0 ∨ (rung = 6 ∧ 2 ≤ sub) then 1024 else 0) →
              t.revisit n = { (s.revisit n) with
                step := (s.revisit n).step + 1, todo := (pendingOf s n).map (·.1),
                from_ := from_, stop_ := from_ + (1024 - arc), decodes := rungEnabled s rung }
              ∧ SameMemory s t ∧ t.readPower.getD n 0 = (if rung = 7 then s.get LDPC_RETRY_CFG_POWER_STEP else 0))
            ∧ (∀ b arc, longestArc s n ((pendingOf s n).map (·.2)) = some (b, arc) → b ≠ s.get (RUL_ANGLE_BIN n) → t = s)))
  ∧ ∀ (set : Bool) (s : State), ∃ t, exec (.parkWrite set) s = .next t
    ∧ (islandStopped s 4 = true → t = s)
    ∧ (islandStopped s 4 = false → t.get LDPC_CTRL_PARK = (if set then 1 else 0))
    ∧ (set = true → OnlyFields [LDPC_CTRL_PARK] s t)

/-- CORE_OFFLINE_WRITE: a cleared bit brings its core back to scheduling, a bit that was set stays, and newly set bits take effect only while fewer than
14 cores are offline; an idle core that is offline leaves scheduling at once. A test runs on an offline core alone; on an online core it is done at
once with PASS = 0. Neither write does anything while the LDPC island is stopped (assumption 76). Nothing happens where a premise fails (assumption
4); the corners that the manual leaves open are the model's choice (assumptions 13, 72, 76 to 78, 109 and 117 to 120). Says of each of these rows that
it answers a next state with its own effect: CORE_OFFLINE_WRITE, CORE_TEST, CORE_TEST_DONE. (R18, R92) -/
def Obligations.PoolCores : Prop :=
  (∀ (v : BitVec 64) (s : State), ∃ t, exec (.coreOfflineWrite v) s = .next t
    ∧ (islandStopped s 4 = true → t = s)
    ∧ (islandStopped s 4 = false → ∀ c : Fin 64, v.toNat.testBit c = false → t.bit LDPC_CORE_OFFLINE_OFFLINE c = false ∧ t.bit LDPC_CORE_ONLINE_ONLINE c = true)
    ∧ (∀ c : Fin 64, v.toNat.testBit c = true → s.bit LDPC_CORE_OFFLINE_OFFLINE c = true → t.bit LDPC_CORE_OFFLINE_OFFLINE c = true)
    ∧ (islandStopped s 4 = false → ∀ c : Fin 64, t.bit LDPC_CORE_OFFLINE_OFFLINE c = true → s.ldpc.busy.find? c = none → t.bit LDPC_CORE_ONLINE_ONLINE c = false)
    ∧ (islandStopped s 4 = false → offlineCount v.toNat ≤ 14 → t.get LDPC_CORE_OFFLINE_OFFLINE = v.toNat)
    ∧ (offlineCount (s.get LDPC_CORE_OFFLINE_OFFLINE) ≤ 14 → offlineCount (t.get LDPC_CORE_OFFLINE_OFFLINE) ≤ 14)
    ∧ OnlyFields [LDPC_CORE_OFFLINE_OFFLINE, LDPC_CORE_ONLINE_ONLINE] s t)
  ∧ (∀ (core : Fin 64) (s : State), ∃ t, exec (.coreTest core) s = .next t
    ∧ (islandStopped s 4 = true → t = s)
    ∧ (islandStopped s 4 = false → t.get LDPC_CORE_TEST_CORE = core ∧ t.get LDPC_CORE_TEST_PASS = 0)
    ∧ (islandStopped s 4 = false → s.bit LDPC_CORE_ONLINE_ONLINE core = true → t.get LDPC_CORE_TEST_DONE = 1 ∧ t.get LDPC_EVENT_TEST_DONE = 1
        ∧ OnlyFields [LDPC_CORE_TEST_CORE, LDPC_CORE_TEST_PASS, LDPC_CORE_TEST_DONE, LDPC_EVENT_TEST_DONE] s t)
    ∧ (islandStopped s 4 = false → s.bit LDPC_CORE_ONLINE_ONLINE core = false → t.get LDPC_CORE_TEST_DONE = 0 ∧ t.get LDPC_CORE_TEST_START = 1
        ∧ OnlyFields [LDPC_CORE_TEST_CORE, LDPC_CORE_TEST_PASS, LDPC_CORE_TEST_DONE, LDPC_CORE_TEST_START] s t))
  ∧ ∀ (pass : Bool) (s : State), ∃ t, exec (.coreTestDone pass) s = .next t
    ∧ (s.get LDPC_CORE_TEST_START = 1 → t.get LDPC_CORE_TEST_START = 0 ∧ t.get LDPC_CORE_TEST_DONE = 1
        ∧ t.get LDPC_CORE_TEST_PASS = (if pass then 1 else 0) ∧ t.get LDPC_EVENT_TEST_DONE = 1
        ∧ OnlyFields [LDPC_CORE_TEST_START, LDPC_CORE_TEST_DONE, LDPC_CORE_TEST_PASS, LDPC_EVENT_TEST_DONE] s t)
    ∧ (s.get LDPC_CORE_TEST_START ≠ 1 → t = s)

/-- Captures. While the LDPC island runs, arming takes the slot, the pen and the nib; a slot that the ladder uses is refused at once with OK = 0. An armed
capture whose samples were lost ends with OK = 0, any other with OK = 1; in each case it is disarmed, DONE is set and the event is recorded. Nothing
happens where a premise fails (assumption 4); the corners that the manual leaves open are the model's choice (assumptions 13, 72, 76 to 78, 109 and
117 to 120). Says of each of these rows that it answers a next state with its own effect: CAPTURE_ARM, CAPTURE_DONE. (R114) -/
def Obligations.PoolCapture : Prop :=
  (∀ (v : Word) (s : State), ∃ t, exec (.captureArm v) s = .next t
    ∧ (islandStopped s 4 = true → t = s)
    ∧ (islandStopped s 4 = false → t.get LDPC_CAPTURE_PEN = v.toNat / 2 ^ 8 % 16 ∧ t.get LDPC_CAPTURE_NIB = v.toNat / 2 ^ 4 % 16
        ∧ t.get LDPC_CAPTURE_SLOT = v.toNat / 2 ^ 20 % 2 ^ 10)
    ∧ (islandStopped s 4 = false → v.toNat.testBit 30 = true → ladderSlots s ≤ v.toNat / 2 ^ 20 % 2 ^ 10 →
        t.get LDPC_CAPTURE_ARM = 1 ∧ t.get LDPC_CAPTURE_DONE = 0 ∧ t.ldpc.capture = none)
    ∧ (islandStopped s 4 = false → v.toNat.testBit 30 = true → v.toNat / 2 ^ 20 % 2 ^ 10 < ladderSlots s →
        t.get LDPC_CAPTURE_ARM = 0 ∧ t.get LDPC_CAPTURE_DONE = 1 ∧ t.get LDPC_CAPTURE_OK = 0 ∧ t.get LDPC_EVENT_CAPTURE_DONE = 1)
    ∧ (v.toNat.testBit 30 = false → OnlyFields [LDPC_CAPTURE_SLOT, LDPC_CAPTURE_PEN, LDPC_CAPTURE_NIB] s t))
  ∧ ∀ s : State, ∃ t, exec .captureDone s = .next t
    ∧ (s.ldpc.capture = none ∨ s.get LDPC_CAPTURE_ARM ≠ 1 → t = s)
    ∧ ∀ c, s.ldpc.capture = some c → s.get LDPC_CAPTURE_ARM = 1 →
        t.get LDPC_CAPTURE_ARM = 0 ∧ t.get LDPC_CAPTURE_DONE = 1 ∧ t.get LDPC_EVENT_CAPTURE_DONE = 1 ∧ t.ldpc.capture = none
          ∧ t.get LDPC_CAPTURE_OK = (if c.status.testBit 7 then 0 else 1)
          ∧ (c.status.testBit 7 = true → SameMemory s t)

/-- The folio queue. Firmware's HEAD is the written value, while the pen's data island runs (assumption 76). With the queue running, no group formed and a
descriptor waiting, a group is formed whose first descriptor is the one at TAIL; a COLOPHON waits at its gate in state 4, any other group in state 1.
The group starts on its band with the ruling LOCKED or SINGLE, in state 2, or 3 under HALT, and what it burns is read (a descriptor whose key or
authority is no longer there is to complete DESC_ERR); when all its descriptors are done it ends, TAIL passes all of it and GROUP_DONE is recorded.
Nothing happens where a premise fails (assumption 4); the corners that the manual leaves open are the model's choice (assumptions 14, 15, 72 to 76, 83
to 87, 106 and 121). Says of each of these rows that it answers a next state with its own effect: FQ_HEAD_WRITE, GROUP_FORM, GROUP_START, GROUP_END.
(R18, R120, R125, R127, R151, R409, R413) -/
def Obligations.FolioGroups : Prop :=
  (∀ (n : Fin 16) (v : Word) (s : State), ∃ t, exec (.fqHeadWrite n v) s = .next t
    ∧ (islandStopped s (8 + n.val) = true → t = s)
    ∧ (islandStopped s (8 + n.val) = false → t.get (FQ_HEAD_HEAD n) = v.toNat)
    ∧ OnlyFields [FQ_HEAD_HEAD n] s t)
  ∧ (∀ (n : Fin 16) (s : State), ∃ t, exec (.groupForm n) s = .next t
    ∧ (s.get (WC_CTRL_ENABLE n) = 1 → (s.writeCh n).group = [] → s.get (FQ_HEAD_HEAD n) ≠ s.get (FQ_TAIL_TAIL n) →
        (t.writeCh n).group.head?.map (fun d => (d.idx, d.kind, d.f, d.done)) =
            some (s.get (FQ_TAIL_TAIL n), (readDescriptor s n (s.get (FQ_TAIL_TAIL n))).kind, (readDescriptor s n (s.get (FQ_TAIL_TAIL n))).f, false)
          ∧ (t.writeCh n).started = false
          ∧ t.get (WC_STATUS_STATE n) = (if (readDescriptor s n (s.get (FQ_TAIL_TAIL n))).kind = 3 then 4 else 1)
          ∧ (s.get (FQ_BASE_BASE n) * 2 ^ 12 + 64 * fqSize s n ≤ inkLimit →
              SameFields [WC_STATUS_STATE n, WC_STATUS_WRITING n, WC_STATUS_GROUP_LEFT n] s t))
    ∧ (s.get (WC_CTRL_ENABLE n) ≠ 1 ∨ (s.writeCh n).group ≠ [] ∨ s.get (FQ_HEAD_HEAD n) = s.get (FQ_TAIL_TAIL n) → t = s))
  ∧ (∀ (n : Fin 16) (s : State), ∃ t, exec (.groupStart n) s = .next t
    ∧ (∀ d rest, s.get (WC_CTRL_ENABLE n) = 1 → (s.writeCh n).started = false → (s.writeCh n).group = d :: rest →
        s.get (RUL_BAND_TRACK n) = d.band → s.get (RUL_BAND_LAYER n) = d.layer → s.get (RUL_BAND_SIDE n) = d.side →
        s.get (RUL_STATUS_STATE n) ∈ [4, 5] → s.get (WC_STATUS_STATE n) = 1 →
          (t.writeCh n).started = true ∧ t.get (WC_STATUS_STATE n) = (if s.get (WC_CTRL_HALT n) = 1 then 3 else 2)
            ∧ (t.writeCh n).group = (s.writeCh n).group.map fun d =>
                Desc.load s (if keyAllows s d = true ∨ d.verdict ≠ none then d else { d with verdict := some 5 }))
    ∧ (s.get (WC_CTRL_ENABLE n) ≠ 1 ∨ onGroupBand s n = false ∨ s.get (RUL_STATUS_STATE n) ∉ [4, 5] ∨ s.get (WC_STATUS_STATE n) ≠ 1 → t = s))
  ∧ ∀ (n : Fin 16) (s : State), ∃ t, exec (.groupEnd n) s = .next t
    ∧ ((s.writeCh n).group ≠ [] → ((s.writeCh n).group.all fun d => d.done) = true →
        (t.writeCh n).group = [] ∧ (t.writeCh n).started = false ∧ t.get (WC_STATUS_STATE n) = 0 ∧ t.get (WC_EVENT_GROUP_DONE n) = 1
          ∧ t.get (WC_STATUS_GROUP_LEFT n) = 0 ∧ t.get (WC_STATUS_WRITING n) = 0
          ∧ t.get (FQ_TAIL_TAIL n) = (s.get (FQ_TAIL_TAIL n) + (s.writeCh n).group.length) % 2 ^ 32)
    ∧ ((s.writeCh n).group = [] ∨ ((s.writeCh n).group.all fun d => d.done) = false → t = s)

/-- Burning. A slot of a nib that a descriptor of the group is to burn begins only with the queue running and not halted, 16,384 bytes in the FIFO,
WRITE_OK, no WRITE_HOLD, the servo locked, the pen claimed and a start no more than 2^30 samples ahead: the nib burns, at the power and with the table
in force, as a SLOT packet with the next SEQ of its nib says; else nothing but the FIFO's level is noted. A burn that ends is counted and its nib no
longer burns; a WRITE is UNVERIFIED in deferred mode, and is to be read back otherwise. A FIFO that holds less than the next packet of the folio
carries aborts the burn: its verdict is UNDERRUN. Nothing happens where a premise fails (assumption 4); the corners that the manual leaves open are
the model's choice (assumptions 14, 15, 72 to 76, 83 to 87, 106 and 121). Says of each of these rows that it answers a next state with its own effect:
SLOT_ARRIVAL, BURN_DONE, WRITE_UNDERRUN. (R121, R127, R131, R132, R134, R135, R137, R141, R202, R264, R268, R270, R271) -/
def Obligations.Burns : Prop :=
  (∀ (n k : Fin 16) (f fifo sidx : Nat) (s : State), ∃ t, exec (.slotArrival n k f fifo sidx) s = .next t
    ∧ (t.writeCh n).fifo.getD k 0 = min 32768 fifo
    ∧ (arrivalDesc s n k f = none ∨ fifo < 16384 ∨ s.get (WC_CTRL_ENABLE n) = 0 ∨ s.get (WC_CTRL_HALT n) = 1 ∨ s.get (RUL_STATUS_WRITE_OK n) = 0
        ∨ s.get (WC_STATUS_WRITE_HOLD n) = 1 ∨ s.get (SV_STATUS_FOCUS_STATE n) ≠ 4 ∨ s.get (SV_STATUS_TRACK_STATE n) ≠ 3 ∨ claims s n = false
        ∨ slotInReach s n sidx = false →
        t.fld = s.fld ∧ (t.writeCh n).group = (s.writeCh n).group ∧ (t.link n) = (s.link n))
    ∧ ∀ d, arrivalDesc s n k f = some d → (d.kind = 1 ∨ d.kind = 3 ∨ d.kind = 4) → d.burned.testBit k = false → d.burning.testBit k = false →
        16384 ≤ fifo → s.get (WC_CTRL_ENABLE n) = 1 → s.get (WC_CTRL_HALT n) = 0 → s.get (RUL_STATUS_WRITE_OK n) = 1 →
        s.get (WC_STATUS_WRITE_HOLD n) = 0 → s.get (SV_STATUS_FOCUS_STATE n) = 4 → s.get (SV_STATUS_TRACK_STATE n) = 3 → claims s n = true →
        slotInReach s n sidx = true →
          (t.writeCh n).group = (s.writeCh n).group.map (fun e => if e.idx = d.idx then { e with burning := e.burning ||| 2 ^ k.val } else e)
          ∧ (t.writeCh n).sent.getD k 0 = 0
          ∧ (t.link n).slots.find? k = some {
              start := sidx % 2 ^ 32, bits := 632000, power := writePower s n k d.layer d.band,
              table := s.get (WC_WS_SEL_SEL n) / 4 ^ d.layer % 4,
              steps := if d.kind = 4 then (List.range 16).map (calPower (writePower s n k d.layer d.band)) else [],
              seq := nextSeq s n (32 + k) }
          ∧ SameFields [WC_STATUS_WRITING n, WC_STATUS_GROUP_LEFT n] s t)
  ∧ (∀ (n k : Fin 16) (s : State), ∃ t, exec (.burnDone n k) s = .next t
    ∧ ((∀ d ∈ (s.writeCh n).group, d.burning.testBit k = false) → t = s)
    ∧ ∀ d, ((s.writeCh n).group.find? fun d => d.burning.testBit k) = some d → (t.link n).slots.find? k = none
        ∧ t.get (WC_CNT_FOLIO_BURNED n) = min (s.get (WC_CNT_FOLIO_BURNED n) + 1) (2 ^ (WC_CNT_FOLIO_BURNED n).width - 1)
        ∧ (d.kind ≠ 1 ∨ s.get (WC_CTRL_VMODE n) = 0 →
            (t.writeCh n).group = (s.writeCh n).group.map (fun e => if e.idx = d.idx then { e with
              burning := e.burning ^^^ 2 ^ k.val, burned := e.burned ||| 2 ^ k.val, readBack := s.get (WC_CTRL_VMODE n) == 0 } else e))
        ∧ (d.kind = 1 → s.get (WC_CTRL_VMODE n) = 1 → (t.writeCh n).group = (s.writeCh n).group.map (fun e => if e.idx = d.idx then
              (if e.verdict.isNone && !e.done then
                { e with burning := 0, burned := e.burned ||| 2 ^ k.val, readBack := false, verdict := some 9 }
              else { e with burning := e.burning ^^^ 2 ^ k.val, burned := e.burned ||| 2 ^ k.val, readBack := false }) else e))
        ∧ SameFields [WC_CNT_FOLIO_BURNED n, WC_STATUS_WRITING n, WC_STATUS_GROUP_LEFT n] s t)
  ∧ ∀ (n k : Fin 16) (s : State), ∃ t, exec (.writeUnderrun n k) s = .next t
    ∧ ((∀ d ∈ (s.writeCh n).group, d.burning.testBit k = false) ∨ 632000 ≤ (s.writeCh n).sent.getD k 0
        ∨ 1024 ≤ 8 * (s.writeCh n).fifo.getD k 0 → t = s)
    ∧ ∀ d, ((s.writeCh n).group.find? fun d => d.burning.testBit k) = some d → (s.writeCh n).sent.getD k 0 < 632000 →
        8 * (s.writeCh n).fifo.getD k 0 < min 1024 (632000 - (s.writeCh n).sent.getD k 0) →
        t.get (WC_EVENT_UNDERRUN n) = 1 ∧ (t.link n).abort = d.burning ∧ (t.writeCh n).fifo.getD k 0 = 0
        ∧ (t.writeCh n).group = (s.writeCh n).group.map (fun e => if e.idx = d.idx then
            (if e.verdict.isNone && !e.done then { e with verdict := some 3, burning := 0 } else e) else e)
        ∧ SameFields [WC_EVENT_UNDERRUN n, WC_CNT_FAIL_ABORTED n, WC_STATUS_WRITING n, WC_STATUS_GROUP_LEFT n] s t

/-- Verdicts of read-backs. A burned WRITE that is read back, or a VERIFY, that has started and has no verdict is OK when the pool has judged every
codeword asked for and each passes, and VERIFY_FAIL, with its event and count, when one does not; a READ whose codewords are all settled is OK, or
PARTIAL with one bad; a BLANK marks the nibs above BLANK_LEVEL. In each case memory and every other descriptor are as before. Nothing happens where a
premise fails (assumption 4); the corners that the manual leaves open are the model's choice (assumptions 14, 15, 72 to 76, 83 to 87, 106 and 121).
Says of each of these rows that it answers a next state with its own effect: VERIFY_READ, READ_DESC, BLANK_CHECK. (R128, R140, R141, R150) -/
def Obligations.Verdicts : Prop :=
  (∀ (n : Fin 16) (i : Nat) (s : State), ∃ t, exec (.verifyRead n i) s = .next t
    ∧ (desc? s n i = none → t = s)
    ∧ ∀ d want, desc? s n i = some d → (s.writeCh n).started = true → d.verdict = none → d.done = false →
        (d.kind = 2 ∧ want = d.mask % 2 ^ 16 ∨ d.kind = 1 ∧ d.burned.testBit d.nib = true ∧ d.readBack = true ∧ want = 0xFFFF) →
          (d.judged.getD d.nib 0 &&& want ≠ want → t = s)
          ∧ (d.judged.getD d.nib 0 &&& want = want → d.good.getD d.nib 0 &&& want = want →
            (desc? t n i).map (fun d => (d.verdict, d.pass)) = some (some 0, want) ∧ t.fld = s.fld)
          ∧ (d.judged.getD d.nib 0 &&& want = want → d.good.getD d.nib 0 &&& want ≠ want →
            (desc? t n i).map (fun d => (d.verdict, d.pass)) = some (some 1, d.good.getD d.nib 0 &&& want) ∧ t.get (WC_EVENT_VERIFY_FAIL n) = 1
              ∧ SameFields [WC_EVENT_VERIFY_FAIL n, WC_CNT_FAIL_VERIFY_FAIL n] s t))
  ∧ (∀ (n : Fin 16) (i : Nat) (s : State), ∃ t, exec (.readDesc n i) s = .next t ∧ t.fld = s.fld
    ∧ ∀ d, desc? s n i = some d → d.kind = 0 → (s.writeCh n).started = true → d.verdict = none → d.done = false →
        ((d.pass ||| d.bad) &&& d.mask = d.mask → (desc? t n i).map (fun d => d.verdict) = some (some (if d.bad = 0 then 0 else 8)))
          ∧ ((d.pass ||| d.bad) &&& d.mask ≠ d.mask → t = s))
  ∧ ∀ (n : Fin 16) (rms : List Nat) (s : State), ∃ t, exec (.blankCheck n rms) s = .next t ∧ t.fld = s.fld
    ∧ ((s.writeCh n).group = [] → t = s)
    ∧ ∀ d rest, (s.writeCh n).group = d :: rest → d.kind = 5 → (s.writeCh n).started = true → d.verdict = none → d.done = false →
        (desc? t n d.idx).map (fun d => d.verdict) = some (some 0)
          ∧ ∀ k, k < 16 → k < rms.length → ((desc? t n d.idx).map fun e => e.pass.testBit k) =
              some (d.mask.testBit k && decide (s.get (WC_CAL_BLANK_LEVEL n) < rms.getD k 0))

/-- Colophons and CAL. A COLOPHON at its gate is released when the gate ledger is empty and has not overflowed, and is to complete GATED otherwise. Its
read-back is OK when at least COL_QUORUM copies of its mask pass and COL_FAIL otherwise. A CAL's results lie in the 4,096 bytes at its data address
and nowhere else. GATE_CLR empties the ledger and clears GATE_OVF, while the pen's data island runs (assumption 76). Nothing happens where a premise
fails (assumption 4); the corners that the manual leaves open are the model's choice (assumptions 14, 15, 72 to 76, 83 to 87, 106 and 121). Says of
each of these rows that it answers a next state with its own effect: COLOPHON_GATE, COLOPHON_READBACK, CAL_READBACK, GATE_CLR. (R18, R138, R139, R142,
R143, R145) -/
def Obligations.Colophons : Prop :=
  (∀ (n : Fin 16) (s : State), ∃ t, exec (.colophonGate n) s = .next t
    ∧ (s.get (WC_STATUS_STATE n) ≠ 4 → t = s)
    ∧ ∀ d rest, s.get (WC_STATUS_STATE n) = 4 → (s.writeCh n).group = d :: rest →
        ((s.writeCh n).ledger = [] → s.get (WC_GATE_GATE_OVF n) = 0 → t.get (WC_STATUS_STATE n) = 1 ∧ OnlyFields [WC_STATUS_STATE n] s t)
        ∧ ((s.writeCh n).ledger ≠ [] ∨ s.get (WC_GATE_GATE_OVF n) ≠ 0 → d.verdict = none → d.done = false →
            (desc? t n d.idx).map (fun d => d.verdict) = some (some 6) ∧ t.fld = s.fld))
  ∧ (∀ (n : Fin 16) (s : State), ∃ t, exec (.colophonReadback n) s = .next t
    ∧ ∀ d rest, (s.writeCh n).group = d :: rest → d.kind = 3 → d.verdict = none → d.done = false → (s.writeCh n).started = true →
        d.burned = d.mask → (∀ k, k < 16 → d.mask.testBit k = true → d.judged.getD k 0 = 0xFFFF) →
          (desc? t n d.idx).map (fun d => d.verdict) = some (some (if max 1 (s.get (WC_CTRL_COL_QUORUM n))
              ≤ ((List.range 16).filter fun k => d.mask.testBit k && d.good.getD k 0 == 0xFFFF).length then 0 else 7))
          ∧ SameFields [WC_CNT_FAIL_VERIFY_FAIL n] s t)
  ∧ (∀ (n : Fin 16) (nibs : List (List CalCw)) (s : State), ∃ t, exec (.calReadback n nibs) s = .next t
    ∧ ∀ d rest, (s.writeCh n).group = d :: rest → d.kind = 4 → d.verdict = none → d.done = false → (s.writeCh n).started = true →
        d.burned = d.mask → s.get INK_ECC_TEST_ARM = 0 → d.data + 4096 ≤ inkLimit →
          (desc? t n d.idx).map (fun d => d.verdict) = some (some 0)
          ∧ ∀ a, a < d.data ∨ d.data + 4096 ≤ a → t.byte a = s.byte a)
  ∧ ∀ (n : Fin 16) (s : State), ∃ t, exec (.gateClr n) s = .next t
    ∧ (islandStopped s (8 + n.val) = true → t = s)
    ∧ (islandStopped s (8 + n.val) = false → (t.writeCh n).ledger = [] ∧ t.get (WC_GATE_GATE_OVF n) = 0 ∧ t.get (WC_GATE_ENTRIES n) = 0)
    ∧ SameMemory s t ∧ SameFields [WC_GATE_GATE_OVF n, WC_GATE_ENTRIES n] s t

/-- DESC_COMPLETE: a descriptor with a verdict completes once: its status is the 16 bytes at offset 48 of its queue entry (verdict, pass mask, highest
iteration count, time) and no other byte changes; CUT, DESC_ERR, GATED and COL_FAIL record their events. Without a verdict nothing happens. Nothing
happens where a premise fails (assumption 4); the corners that the manual leaves open are the model's choice (assumptions 14, 15, 72 to 76, 83 to 87,
106 and 121). Says of each of these rows that it answers a next state with its own effect: DESC_COMPLETE. (R125, R128) -/
def Obligations.DescriptorCompletes : Prop :=
  ∀ (n : Fin 16) (i : Nat) (s : State), ∃ t, exec (.descComplete n i) s = .next t
    ∧ (desc? s n i = none → t = s)
    ∧ ∀ d, desc? s n i = some d →
        (d.verdict = none ∨ d.done = true → t = s)
        ∧ ∀ v, d.verdict = some v → d.done = false → (desc? t n i).map (fun d => d.done) = some true
            ∧ (v = 4 → t.get (WC_EVENT_CUT n) = 1) ∧ (v = 5 → t.get (WC_EVENT_DESC_ERR n) = 1) ∧ (v = 6 → t.get (WC_EVENT_GATED n) = 1)
            ∧ (v = 7 → t.get (WC_EVENT_COL_FAIL n) = 1) ∧ (d.irq = true → t.get (WC_EVENT_DESC_DONE n) = 1)
            ∧ (s.get INK_ECC_TEST_ARM = 0 → descAddr s n i + 48 < inkLimit →
                t.bytesAt (descAddr s n i + 48) 16 = leBytes 2 v ++ leBytes 2 d.pass ++ leBytes 2 d.maxIter ++ leBytes 2 0 ++ leBytes 8 s.now
                  ∧ ∀ a, a < descAddr s n i + 48 ∨ descAddr s n i + 64 ≤ a → t.byte a = s.byte a)

/-- The controls of the write channel, while the pen's data island runs (assumption 76). A strategy-table load starts with the 320 bytes as they lie in
the Inkwell, and the pen, if it is claimed, sent eight TABLE packets of ten entries in segment order, unless the table is selected for a layer of a
started group: then it is done at once with OK = 0. Its end reports whether the pen acknowledged. HALT stops a started group in state 3, and clearing
it on the group's band resumes it in state 2. Disabling clears ENABLE and empties the gate ledger. WRITE_HOLD is shown as the pen reports it. Nothing
happens where a premise fails (assumption 4); the corners that the manual leaves open are the model's choice (assumptions 14, 15, 72 to 76, 83 to 87,
106 and 121). Says of each of these rows that it answers a next state with its own effect: WS_LOAD, WS_LOAD_DONE, HALT_WRITE, WC_DISABLE,
WRITE_HOLD_RISE. (R133, R134, R136, R143, R151, R268, R272, R18) -/
def Obligations.WriteControls : Prop :=
  (∀ (n : Fin 16) (v : Word) (s : State), ∃ t, exec (.wsLoad n v) s = .next t
    ∧ (islandStopped s (8 + n.val) = true → t = s)
    ∧ (islandStopped s (8 + n.val) = false → t.get (WC_WS_LOAD_NIB n) = v.toNat / 16 % 16 ∧ t.get (WC_WS_LOAD_TABLE n) = v.toNat % 4
      ∧ (v.toNat.testBit 30 = true → (s.writeCh n).started = false →
        t.get (WC_WS_LOAD_START n) = 1 ∧ t.get (WC_WS_LOAD_DONE n) = 0
          ∧ (t.writeCh n).loading = some (v.toNat / 16 % 16, v.toNat % 4,
              s.bytesAt (s.get (WC_WS_BASE_BASE n) * 2 ^ 12 + 512 * (4 * (v.toNat / 16 % 16) + v.toNat % 4)) 320)
          ∧ (claims s n = true → (t.link n).tableSent = some (v.toNat / 16 % 16, v.toNat % 4) ∧ (t.link n).tableSegs.map (fun e => e.2.1) = List.range 8
              ∧ ∀ e ∈ (t.link n).tableSegs, e.2.2.length = 10))
      ∧ (v.toNat.testBit 30 = true → (s.writeCh n).started = true →
        (∃ d ∈ (s.writeCh n).group, s.get (WC_WS_SEL_SEL n) / 4 ^ d.layer % 4 = v.toNat % 4) →
          t.get (WC_WS_LOAD_DONE n) = 1 ∧ t.get (WC_WS_LOAD_OK n) = 0 ∧ t.get (WC_EVENT_WS_LOAD_DONE n) = 1))
    ∧ (v.toNat.testBit 30 = false → OnlyFields [WC_WS_LOAD_NIB n, WC_WS_LOAD_TABLE n] s t))
  ∧ (∀ (n : Fin 16) (ack : Bool) (s : State), ∃ t, exec (.wsLoadDone n ack) s = .next t
    ∧ ((s.writeCh n).loading = none → t = s)
    ∧ ∀ k tb bytes, (s.writeCh n).loading = some (k, tb, bytes) → t.get (WC_WS_LOAD_START n) = 0 ∧ t.get (WC_WS_LOAD_DONE n) = 1
        ∧ t.get (WC_WS_LOAD_OK n) = (if ack then 1 else 0) ∧ t.get (WC_EVENT_WS_LOAD_DONE n) = 1 ∧ (t.writeCh n).loading = none
        ∧ (ack = true → (t.writeCh n).tables.find? (4 * k + tb) = some bytes)
        ∧ SameFields [WC_WS_LOAD_START n, WC_WS_LOAD_DONE n, WC_WS_LOAD_OK n, WC_EVENT_WS_LOAD_DONE n] s t)
  ∧ (∀ (n : Fin 16) (set : Bool) (s : State), ∃ t, exec (.haltWrite n set) s = .next t
    ∧ (islandStopped s (8 + n.val) = true → t = s)
    ∧ (islandStopped s (8 + n.val) = false → t.get (WC_CTRL_HALT n) = (if set then 1 else 0)
      ∧ (set = true → t.get (WC_STATUS_STATE n) = (if (s.writeCh n).started then 3 else s.get (WC_STATUS_STATE n)))
      ∧ (set = false → (s.writeCh n).started = true → onGroupBand s n = true →
        t.get (WC_STATUS_STATE n) = 2 ∧ OnlyFields [WC_CTRL_HALT n, WC_STATUS_STATE n] s t))
    ∧ (set = true → OnlyFields [WC_CTRL_HALT n, WC_STATUS_STATE n] s t))
  ∧ (∀ (n : Fin 16) (s : State), ∃ t, exec (.wcDisable n) s = .next t
    ∧ (islandStopped s (8 + n.val) = true → t = s)
    ∧ (islandStopped s (8 + n.val) = false → t.get (WC_CTRL_ENABLE n) = 0 ∧ (t.writeCh n).ledger = []
      ∧ t.get (WC_GATE_ENTRIES n) = 0 ∧ t.get (RUL_STATUS_STATE n) = s.get (RUL_STATUS_STATE n)))
  ∧ ∀ (n : Fin 16) (s : State), ∃ t, exec (.writeHoldRise n) s = .next t ∧ t.get (WC_STATUS_WRITE_HOLD n) = 1
    ∧ t.get (WC_EVENT_WRITE_HOLD n) = 1 ∧ OnlyFields [WC_STATUS_WRITE_HOLD n, WC_EVENT_WRITE_HOLD n] s t

/-- What an engine accepts. A MODE that the table of transitions gives from the mode in force, with the engine enabled unless it is OFF, waits for the
loop's boundary; any other is CFG_ERR and MODE reads back as MODE_ACT; on a loop of a governed axis it takes the axis from the supervisor. DIV and
PHASE, and a program's place, are written in OFF only (the place in MANUAL too, within the budget); a bank waits for the next run. The word memories
and the tables take the written half, or refuse with CFG_ERR while a running loop uses them, LEARN is set or a clear runs; the motion engine has no
tables. Nothing happens where a premise fails (assumption 4); the corners that the manual leaves open are the model's choice (assumptions 18 to 22).
Says of each of these rows that it answers a next state with its own effect: LOOP_MODE_WRITE, LOOP_CTRL_WRITE, BANK_WRITE, LE_MEMORY_WRITE,
RC_TABLE_WRITE. (R156, R167, R168, R170, R172, R179, R183, R195, R203, R496) -/
def Obligations.EngineWrites : Prop :=
  (∀ (e : Fin 17) (j : Fin 32) (m : Fin 8) (s : State), s.boot.low = false → ∃ t, exec (.loopModeWrite e j m) s = .next t
    ∧ (e = 16 ∨ s.get (SV_CTRL_SUP_EN e) ≠ 1 → loopsOf e ≤ j → t = s)
    ∧ (e = 16 ∨ s.get (SV_CTRL_SUP_EN e) ≠ 1 → j < loopsOf e → m ≤ 4 → (modeOf s e j = 0 → m ≠ 2 ∧ m ≠ 3) →
        (m = 3 → modeOf s e j ≠ 1 ∧ modeOf s e j ≠ 4) → m = 0 ∨ s.get (LE_CTRL_ENABLE e) = 1 →
        t.get (LE_LOOP_CTRL_MODE e j) = m ∧ (t.engine e).modeReq.find? j = some m.val ∧ modeOf t e j = modeOf s e j
          ∧ SameFields [LE_LOOP_CTRL_MODE e j] s t)
    ∧ (e = 16 ∨ s.get (SV_CTRL_SUP_EN e) ≠ 1 → j < loopsOf e →
        (4 < m ∨ modeOf s e j = 0 ∧ (m = 2 ∨ m = 3) ∨ m = 3 ∧ (modeOf s e j = 1 ∨ modeOf s e j = 4) ∨ m ≠ 0 ∧ s.get (LE_CTRL_ENABLE e) ≠ 1) →
        t.get (LE_EVENT_CFG_ERR e) = 1 ∧ t.get (LE_LOOP_CTRL_MODE e j) = modeOf s e j % 8
          ∧ SameFields [LE_EVENT_CFG_ERR e, LE_LOOP_CTRL_MODE e j] s t)
    ∧ (e < 16 → s.get (SV_CTRL_SUP_EN e) = 1 → s.get (SV_MAP_FOCUS e) = j → s.get (SV_STATUS_FOCUS_STATE e) ∉ [0, 8] →
        t.get (SV_STATUS_FOCUS_STATE e) = 0 ∧ t.get (SV_EVENT_SUP_OVERRIDE e) = 1 ∧ takenBit t e 0 = true))
  ∧ (∀ (e : Fin 17) (j : Fin 32) (v : Word) (s : State), s.boot.low = false → j < loopsOf e →
      (∃ t, exec (.loopCtrlWrite e j .ctrl v) s = .next t ∧ t.get (LE_LOOP_CTRL_CAPTURE e j) = v.toNat / 2 ^ 23 % 2
        ∧ (modeOf s e j = 0 → t.get (LE_LOOP_CTRL_PHASE e j) = v.toNat / 2 ^ 10 % 2 ^ 10 ∧ t.get (LE_LOOP_CTRL_DIV e j) = v.toNat % 2 ^ 10
            ∧ OnlyFields [LE_LOOP_CTRL_CAPTURE e j, LE_LOOP_CTRL_PHASE e j, LE_LOOP_CTRL_DIV e j] s t)
        ∧ (modeOf s e j ≠ 0 →
            (v.toNat / 2 ^ 10 % 2 ^ 10 ≠ s.get (LE_LOOP_CTRL_PHASE e j) ∨ v.toNat % 2 ^ 10 ≠ s.get (LE_LOOP_CTRL_DIV e j) → t.get (LE_EVENT_CFG_ERR e) = 1)
            ∧ OnlyFields [LE_LOOP_CTRL_CAPTURE e j, LE_EVENT_CFG_ERR e] s t))
      ∧ ∃ t, exec (.loopCtrlWrite e j .prog v) s = .next t
        ∧ (modeOf s e j = 0 → t.get (LE_LOOP_PROG_LEN e j) = v.toNat / 2 ^ 16 % 2 ^ 8 ∧ t.get (LE_LOOP_PROG_START e j) = v.toNat % 2 ^ 8
            ∧ OnlyFields [LE_LOOP_PROG_LEN e j, LE_LOOP_PROG_START e j, LE_STATUS_FAST_CYCLES e] s t)
        ∧ (modeOf s e j = 1 → divOf s e j = 1 →
            100 < fastCycles s e j + programCost (programAt s e (v.toNat % 2 ^ 8) (v.toNat / 2 ^ 16 % 2 ^ 8)) →
              t.get (LE_EVENT_BUDGET_ERR e) = 1 ∧ OnlyFields [LE_EVENT_BUDGET_ERR e] s t)
        ∧ (modeOf s e j ≠ 0 → modeOf s e j ≠ 1 →
            (v.toNat / 2 ^ 16 % 2 ^ 8 ≠ s.get (LE_LOOP_PROG_LEN e j) ∨ v.toNat % 2 ^ 8 ≠ s.get (LE_LOOP_PROG_START e j) → t.get (LE_EVENT_CFG_ERR e) = 1)
            ∧ OnlyFields [LE_EVENT_CFG_ERR e] s t))
  ∧ (∀ (e : Fin 17) (j : Fin 32) (b : Fin 2) (s : State), s.boot.low = false → j < loopsOf e → ∃ t, exec (.bankWrite e j b) s = .next t
      ∧ t.get (LE_LOOP_CTRL_BANK e j) = b ∧ OnlyFields [LE_LOOP_CTRL_BANK e j] s t)
  ∧ (∀ (e : Fin 17) (i : Fin 512) (high sw : Bool) (v : Word) (s : State), s.boot.low = false →
      (∃ t, exec (.leMemoryWrite e .prog i high sw v) s = .next t
        ∧ (∀ k, k < loopsOf e → modeOf s e k ∉ [0, 1] → s.get (LE_LOOP_PROG_START e k) ≤ i →
            i < s.get (LE_LOOP_PROG_START e k) + s.get (LE_LOOP_PROG_LEN e k) → i < 256 →
              t.get (LE_EVENT_CFG_ERR e) = 1 ∧ OnlyFields [LE_EVENT_CFG_ERR e] s t)
        ∧ (i < 256 → (∀ k, k < loopsOf e → modeOf s e k ∈ [0, 1]) →
            t.get (LE_PROG_WORD e i) = putHalf (s.get (LE_PROG_WORD e i)) high v.toNat % 2 ^ 64
              ∧ OnlyFields [LE_PROG_WORD e i, LE_STATUS_FAST_CYCLES e] s t))
      ∧ (∃ t, exec (.leMemoryWrite e .state i high sw v) s = .next t
        ∧ (modeOf s e (i.val / leWindow e) ∈ [0, 1] → t.get (LE_STATE_WORD e i) = putHalf (s.get (LE_STATE_WORD e i)) high v.toNat % 2 ^ 64
            ∧ OnlyFields [LE_STATE_WORD e i] s t)
        ∧ (modeOf s e (i.val / leWindow e) ∉ [0, 1] → t.get (LE_EVENT_CFG_ERR e) = 1 ∧ OnlyFields [LE_EVENT_CFG_ERR e] s t))
      ∧ ∀ b : Fin 2, ∃ t, exec (.leMemoryWrite e (.coef b) i high sw v) s = .next t
        ∧ (s.get (LE_LOOP_CTRL_ACT_BANK e (i.val / leWindow e)) ≠ b ∨ sw = false ∧ modeOf s e (i.val / leWindow e) ∈ [0, 1] →
            t.get (LE_COEF_WORD e b i) = putHalf (s.get (LE_COEF_WORD e b i)) high v.toNat % 2 ^ 64 ∧ OnlyFields [LE_COEF_WORD e b i] s t)
        ∧ (s.get (LE_LOOP_CTRL_ACT_BANK e (i.val / leWindow e)) = b → sw = true ∨ modeOf s e (i.val / leWindow e) ∉ [0, 1] →
            t.get (LE_EVENT_CFG_ERR e) = 1 ∧ OnlyFields [LE_EVENT_CFG_ERR e] s t))
  ∧ ∀ (e : Fin 17) (tb : Fin 2) (b : Fin 1024) (v : Word) (s : State), s.boot.low = false → ∃ t, exec (.rcTableWrite e tb b v) s = .next t
    ∧ (e = 16 → t = s)
    ∧ (e < 16 → s.get (LE_RC_CTRL_LEARN e tb) ≠ 1 → s.get (LE_RC_CTRL_CLEAR e tb) ≠ 1 →
        t.get (LE_RC_BIN e tb b) = v.toNat ∧ OnlyFields [LE_RC_BIN e tb b] s t)
    ∧ (e < 16 → (s.get (LE_RC_CTRL_LEARN e tb) = 1 ∨ s.get (LE_RC_CTRL_CLEAR e tb) = 1) →
        t.get (LE_EVENT_CFG_ERR e) = 1 ∧ OnlyFields [LE_EVENT_CFG_ERR e] s t)

/-- What an engine does. A pen engine with a sample ticks once for it, and with none does not tick; the motion engine's tick, with its loops OFF, advances
TICK and switches the banks asked for; disabled or in FAULT it does nothing; corrected errors are counted throughout. A clear leaves zeros but for
bins written behind it. RESET clears FAULT, takes every loop to OFF and the state memory to zero, and keeps programs, coefficients and tables. A
lockstep fault records where it was found, stops the engine and, where its diagnosis is not enabled, the pen's supervisor alone; enabled, the unit is
given up. Nothing happens where a premise fails (assumption 4); the corners that the manual leaves open are the model's choice (assumptions 18 to 22).
Says of each of these rows that it answers a next state with its own effect: LE_TICK, RC_CLEAR, RC_CLEAR_DONE, LE_RESET, LOCKSTEP_FAULT. (R153, R168,
R170, R179, R180, R181, R182, R195, R203, R392, R393) -/
def Obligations.EngineRuns : Prop :=
  (∀ (e : Fin 17) (cycles ecc : Nat) (s : State), ∃ t, exec (.leTick e cycles ecc) s = .next t
    ∧ (e < 16 → (s.sup e).sample = none → t.get (LE_CNT_ECC_CORR e) = min (s.get (LE_CNT_ECC_CORR e) + ecc) (2 ^ 16 - 1) % 2 ^ 16
        ∧ OnlyFields [LE_CNT_ECC_CORR e] s t)
    ∧ (e < 16 → (s.sup e).sample ≠ none → s.get (LE_CTRL_ENABLE e) = 1 → s.get (LE_STATUS_FAULT e) ≠ 1 →
        t.get (LE_TICK_TICK e) = (s.get (LE_TICK_TICK e) + 1) % 2 ^ 32 ∧ (t.sup e).sample = none)
    ∧ (e = 16 → (s.get (LE_CTRL_ENABLE 16) ≠ 1 ∨ s.get (LE_STATUS_FAULT 16) = 1) → SameFields [LE_CNT_ECC_CORR 16] s t)
    ∧ (e = 16 → s.get (LE_CTRL_ENABLE 16) = 1 → s.get (LE_STATUS_FAULT 16) ≠ 1 → (∀ j : Fin 32, modeOf s 16 j = 0) →
        (s.engine 16).modeReq = [] → (s.engine 16).supReq = [] → (s.engine 16).await = [] →
          t.get (LE_TICK_TICK 16) = (s.get (LE_TICK_TICK 16) + 1) % 2 ^ 32 ∧ t.get (LE_STATUS_LAST_CYCLES 16) = 0
            ∧ ∀ j : Fin 32, t.get (LE_LOOP_CTRL_ACT_BANK 16 j) = s.get (LE_LOOP_CTRL_BANK 16 j) % 2 ∧ modeOf t 16 j = 0))
  ∧ (∀ (e : Fin 17) (tb : Fin 2) (s : State), s.boot.low = false → ∃ t, exec (.rcClear e tb) s = .next t
    ∧ (e < 16 → s.get (LE_RC_CTRL_CLEAR e tb) ≠ 1 → t.get (LE_RC_CTRL_CLEAR e tb) = 1 ∧ (fadeOf t e tb).kept = []
        ∧ SameFields [LE_RC_CTRL_CLEAR e tb] s t)
    ∧ (e = 16 ∨ s.get (LE_RC_CTRL_CLEAR e tb) = 1 → t = s))
  ∧ (∀ (e : Fin 17) (tb : Fin 2) (s : State), ∃ t, exec (.rcClearDone e tb) s = .next t
    ∧ (s.get (LE_RC_CTRL_CLEAR e tb) ≠ 1 → t = s)
    ∧ (s.get (LE_RC_CTRL_CLEAR e tb) = 1 → t.get (LE_RC_CTRL_CLEAR e tb) = 0 ∧ t.get (LE_EVENT_RC_CLEAR_DONE e) = 1
        ∧ ∀ b : Fin 1024, (∀ p ∈ (fadeOf s e tb).kept, p.1 ≠ b) → t.get (LE_RC_BIN e tb b) = 0))
  ∧ (∀ (e : Fin 17) (s : State), s.boot.low = false → ∃ t, exec (.leReset e) s = .next t ∧ t.get (LE_STATUS_FAULT e) = 0 ∧ t.get (LE_CTRL_RESET e) = 0
    ∧ (∀ j, j < loopsOf e → modeOf t e j = 0 ∧ t.get (LE_LOOP_CTRL_MODE e j) = 0) ∧ t.get (LE_STATUS_FAST_CYCLES e) = 0
    ∧ (∀ w : Fin 512, t.get (LE_STATE_WORD e w) = 0) ∧ (∀ i : Fin 256, t.get (LE_PROG_WORD e i) = s.get (LE_PROG_WORD e i))
    ∧ (∀ (B : Fin 2) (w : Fin 512), t.get (LE_COEF_WORD e B w) = s.get (LE_COEF_WORD e B w))
    ∧ ∀ (tb : Fin 2) (b : Fin 1024), t.get (LE_RC_BIN e tb b) = s.get (LE_RC_BIN e tb b))
  ∧ ∀ (e : Fin 17) (loop : Fin 32) (word : Fin 256) (cycle : Nat) (ecc : Bool) (s : State), ∃ t,
    exec (.lockstepFault e loop word cycle ecc) s = .next t
    ∧ t.get (LE_STATUS_FAULT e) = 1 ∧ t.get (LE_EVENT_LOCKSTEP e) = 1 ∧ t.get (LE_FAULT_LOOP e) = loop ∧ t.get (LE_FAULT_ADDR e) = word
    ∧ t.get (LE_FAULT_CYCLE e) = cycle % 2 ^ 10 ∧ t.get (LE_FAULT_ECC e) = (if ecc then 1 else 0)
    ∧ t.bit VRS_DIAG_CAUSE (if e = 16 then 1 else 0) = true
    ∧ (s.bit VRS_DIAG_EN_EN (if e = 16 then 1 else 0) = true → t.get VRS_DIAG_GAVE_UP = 1)
    ∧ (s.bit VRS_DIAG_EN_EN (if e = 16 then 1 else 0) = false → e < 16 → t.get (SV_STATUS_FOCUS_STATE e) = 0 ∧ t.get (SV_STATUS_TRACK_STATE e) = 0)

/-- What starts and stops an axis supervisor. ACQ.START is accepted in OFF and LOST with SUP_EN = 1; a layer jump with focus LOCKED, a track jump with
focus and tracking LOCKED, each with a count other than 0, no revisit sequence running and no ACQ.START in the same tick; any other START is refused
and reads 0. Clearing SUP_EN leaves every loop in its mode, with both states reading OFF. TRK_AUTO, written 1 with focus LOCKED and tracking OFF, lets
tracking wait from the next tick. Without a servo sample in time a tick is started, marked invalid. Nothing happens where a premise fails (assumption
4); the corners that the manual leaves open are the model's choice (assumptions 17, 23, 24 and 94). Says of each of these rows that it answers a next
state with its own effect: ACQ_START, JUMP_START, TJUMP_START, SUP_EN_WRITE, TRK_AUTO_WRITE, INVALID_TICK. (R191, R192, R195, R196, R199, R200, R203,
R497) -/
def Obligations.SupervisorStarts : Prop :=
  (∀ (n layer : Fin 16) (s : State), s.boot.low = false → ∃ t, exec (.acqStart n layer) s = .next t ∧ t.get (SV_ACQ_LAYER n) = layer
    ∧ (s.get (SV_CTRL_SUP_EN n) = 1 → s.get (SV_STATUS_FOCUS_STATE n) ∈ [0, 8] →
        t.get (SV_STATUS_FOCUS_STATE n) = 1 ∧ t.get (SV_ACQ_START n) = 1 ∧ t.get (SV_STATUS_LAYER_CNT n) = 0)
    ∧ (s.get (SV_CTRL_SUP_EN n) ≠ 1 ∨ s.get (SV_STATUS_FOCUS_STATE n) ∉ [0, 8] → t.get (SV_EVENT_REFUSED n) = 1 ∧ t.get (SV_ACQ_START n) = 0))
  ∧ (∀ (n : Fin 16) (up : Bool) (count : Fin 16) (s : State), s.boot.low = false → ∃ t, exec (.jumpStart n up count) s = .next t
    ∧ t.get (SV_JUMP_DIR n) = (if up then 1 else 0) ∧ t.get (SV_JUMP_COUNT n) = count
    ∧ (s.get (SV_CTRL_SUP_EN n) = 1 → s.get (SV_STATUS_FOCUS_STATE n) = 4 → count ≠ 0 → (s.revisit n).running = false → (s.sup n).acqNow = false →
        t.get (SV_STATUS_FOCUS_STATE n) = 5 ∧ t.get (SV_STATUS_F_LOCKED n) = 0 ∧ t.get (SV_JUMP_START n) = 1
          ∧ t.get (SV_STATUS_LAYER_CNT n) = 0 ∧ (t.sup n).jumpsLeft = count.val)
    ∧ (s.get (SV_CTRL_SUP_EN n) ≠ 1 ∨ s.get (SV_STATUS_FOCUS_STATE n) ≠ 4 ∨ count = 0 ∨ (s.revisit n).running = true ∨ (s.sup n).acqNow = true →
        t.get (SV_EVENT_REFUSED n) = 1 ∧ t.get (SV_JUMP_START n) = 0
          ∧ OnlyFields [SV_JUMP_DIR n, SV_JUMP_COUNT n, SV_JUMP_START n, SV_EVENT_REFUSED n] s t))
  ∧ (∀ (n : Fin 16) (kick : Fin 256) (count : BitVec 9) (s : State), s.boot.low = false → ∃ t, exec (.tjumpStart n kick count) s = .next t
    ∧ t.get (SV_TJUMP_TKICK n) = kick ∧ t.get (SV_TJUMP_COUNT n) = count.toNat
    ∧ (s.get (SV_CTRL_SUP_EN n) = 1 → s.get (SV_STATUS_FOCUS_STATE n) = 4 → s.get (SV_STATUS_TRACK_STATE n) = 3 → count ≠ 0 →
        (s.revisit n).running = false → (s.sup n).acqNow = false →
          t.get (SV_STATUS_TRACK_STATE n) = 4 ∧ t.get (SV_STATUS_T_LOCKED n) = 0 ∧ t.get (SV_TJUMP_START n) = 1 ∧ (t.sup n).tjCrossings = 0)
    ∧ (s.get (SV_CTRL_SUP_EN n) ≠ 1 ∨ s.get (SV_STATUS_FOCUS_STATE n) ≠ 4 ∨ s.get (SV_STATUS_TRACK_STATE n) ≠ 3 ∨ count = 0 →
        t.get (SV_EVENT_REFUSED n) = 1 ∧ t.get (SV_TJUMP_START n) = 0
          ∧ OnlyFields [SV_TJUMP_TKICK n, SV_TJUMP_COUNT n, SV_TJUMP_START n, SV_EVENT_REFUSED n] s t))
  ∧ (∀ (n : Fin 16) (set : Bool) (s : State), s.boot.low = false → ∃ t, exec (.supEnWrite n set) s = .next t ∧ t.get (SV_CTRL_SUP_EN n) = (if set then 1 else 0)
    ∧ (set = true → OnlyFields [SV_CTRL_SUP_EN n] s t)
    ∧ (set = false → t.get (SV_STATUS_FOCUS_STATE n) = 0 ∧ t.get (SV_STATUS_TRACK_STATE n) = 0 ∧ t.get (SV_GAP_GAP n) = 0
        ∧ t.get (SV_ACQ_START n) = 0 ∧ t.get (SV_JUMP_START n) = 0 ∧ t.get (SV_TJUMP_START n) = 0 ∧ ∀ j : Fin 8, modeOf t n j = modeOf s n j))
  ∧ (∀ (n : Fin 16) (set : Bool) (s : State), s.boot.low = false → ∃ t, exec (.trkAutoWrite n set) s = .next t ∧ t.get (SV_CTRL_TRK_AUTO n) = (if set then 1 else 0)
    ∧ (set = false → OnlyFields [SV_CTRL_TRK_AUTO n] s t)
    ∧ (set = true → s.get (SV_STATUS_TRACK_STATE n) = 0 → s.get (SV_STATUS_FOCUS_STATE n) = 4 → s.get (SV_CTRL_SUP_EN n) = 1 →
        (t.sup n).waitNext = true ∧ SameFields [SV_CTRL_TRK_AUTO n] s t))
  ∧ ∀ (n : Fin 16) (ns : Nat) (s : State), ∃ t, exec (.invalidTick n ns) s = .next t ∧ t.fld = s.fld
    ∧ (s.get (SV_CTRL_ENABLE n) = 1 → (s.sup n).sample = none → (4200 ≤ ns ∨ (s.sup n).noPacket = true ∧ 4000 ≤ ns) →
        ∃ p, (t.sup n).sample = some p ∧ p.sum = none
          ∧ p.cause = 1 + (if (s.get (LK_FLAGS_FLAGS n)).testBit 15 then 0 else 4) + (if linkUp s n then 0 else 8))
    ∧ (s.get (SV_CTRL_ENABLE n) ≠ 1 ∨ (s.sup n).sample ≠ none ∨ ns < 4000 → t = s)

/-- How an axis supervisor moves focus, with e the state once the waiting sample has been evaluated. HOLD resumes after RESUME_N ticks inside the windows,
and retracts after as many outside them, on a collapsed sum from SHORT_GAP on, or at LONG_GAP unless the resume is complete; RETRACT ends in LOST at
RETRACT_POS. APPROACH ends at START_POS, SWEEP closes the loop at the crossing sought and fails at the top of its range, LOCKING locks after 64 ticks
inside the window, where tracking waits, or with TRK_AUTO = 0 goes to MANUAL at its last output, and fails after 2,500. Short of each condition
nothing follows. Nothing happens where a premise fails (assumption 4); the corners that the manual leaves open are the model's choice (assumptions 17,
23, 24 and 94). Says of each of these rows that it answers a next state with its own effect: RESUME, ESCAPE_RETRACT, COLLAPSE_RETRACT, LONG_GAP,
RETRACT_END, APPROACH_DONE, SWEEP_CAPTURE, F_LOCK. (R194, R195, R196, R197, R497) -/
def Obligations.SupervisorFocus : Prop :=
  ∀ (n : Fin 16) (s e : State), supEval s n = e →
    (∃ t, exec (.resume n) s = .next t
      ∧ (focusOf e n = 6 → max 1 (e.get (SV_GAPS_RESUME_N n)) ≤ (e.sup n).resumeRun →
          t.get (SV_STATUS_FOCUS_STATE n) = 4 ∧ t.get (SV_STATUS_F_LOCKED n) = 1 ∧ t.get (SV_GAP_GAP n) = 0 ∧ t.get (SV_EVENT_RESUME n) = 1
            ∧ (trackOf e n = 5 → t.get (SV_STATUS_TRACK_STATE n) = (e.sup n).heldTrack % 8
                ∧ (takenBit e n 0 = false → modeOf e n (axisLoop e n 0) ≠ 4 → e.get (LE_CTRL_ENABLE n) = 1 → e.get (LE_STATUS_FAULT n) ≠ 1 →
                    (t.engine n).supReq.find? (axisLoop e n 0) = some 2)))
      ∧ (focusOf e n ≠ 6 ∨ (e.sup n).resumeRun < max 1 (e.get (SV_GAPS_RESUME_N n)) → t = e))
    ∧ (∃ t, exec (.escapeRetract n) s = .next t
      ∧ (focusOf e n = 6 → max 1 (e.get (SV_GAPS_RESUME_N n)) ≤ (e.sup n).escapeRun → t = enterRetract e n)
      ∧ (focusOf e n ≠ 6 ∨ (e.sup n).escapeRun < max 1 (e.get (SV_GAPS_RESUME_N n)) → t = e))
    ∧ (∃ t, exec (.collapseRetract n) s = .next t
      ∧ (∀ p, (e.sup n).sample = some p → focusOf e n = 6 → resuming e n = false → max 1 (e.get (SV_GAPS_SHORT_GAP n)) ≤ e.get (SV_GAP_GAP n) →
          measured p = true → belowRef e n (e.get (SV_LEVELS_SUM_COLLAPSE n)) (p.sum.getD 0) = true → t = enterRetract e n)
      ∧ ((e.sup n).sample = none ∨ focusOf e n ≠ 6 ∨ resuming e n = true ∨ e.get (SV_GAP_GAP n) < max 1 (e.get (SV_GAPS_SHORT_GAP n)) → t = e))
    ∧ (∃ t, exec (.longGap n) s = .next t
      ∧ (focusOf e n = 6 → resuming e n = false → max 1 (e.get (SV_GAPS_LONG_GAP n)) ≤ e.get (SV_GAP_GAP n) → t = enterRetract e n)
      ∧ (focusOf e n ≠ 6 ∨ resuming e n = true ∨ e.get (SV_GAP_GAP n) < max 1 (e.get (SV_GAPS_LONG_GAP n)) → t = e))
    ∧ ((enterRetract e n).get (SV_STATUS_FOCUS_STATE n) = 7 ∧ (enterRetract e n).get (SV_GAP_GAP n) = 0
      ∧ (enterRetract e n).get (SV_CNT_RETRACTS n) = min (e.get (SV_CNT_RETRACTS n) + 1) (2 ^ 16 - 1)
      ∧ (takenBit e n 1 = false → (enterRetract e n).get (SV_STATUS_TRACK_STATE n) = 6)
      ∧ ((enterRetract e n).sup n).man = axisOut e n 0)
    ∧ (∃ t, exec (.retractEnd n) s = .next t
      ∧ (focusOf e n = 7 → (e.sup n).man ≤ retractPos e n → t.get (SV_STATUS_FOCUS_STATE n) = 8 ∧ t.get (SV_EVENT_LOST n) = 1
          ∧ OnlyFields [SV_STATUS_FOCUS_STATE n, SV_STATUS_F_LOCKED n, SV_EVENT_LOST n] e t)
      ∧ (focusOf e n ≠ 7 ∨ retractPos e n < (e.sup n).man → t = e))
    ∧ (∃ t, exec (.approachDone n) s = .next t
      ∧ (focusOf e n = 1 → (e.sup n).man = startPos e n → t.get (SV_STATUS_FOCUS_STATE n) = 2 ∧ (t.sup n).curves = 0
          ∧ SameFields [SV_STATUS_FOCUS_STATE n, SV_STATUS_F_LOCKED n] e t)
      ∧ (focusOf e n ≠ 1 ∨ (e.sup n).man ≠ startPos e n → t = e))
    ∧ (∃ t, exec (.sweepCapture n) s = .next t
      ∧ (focusOf e n = 2 → (e.sup n).capture = true → t.get (SV_STATUS_FOCUS_STATE n) = 3 ∧ t.get (SV_ACQ_START n) = 0 ∧ (t.sup n).lockRun = 0)
      ∧ (focusOf e n = 2 → (e.sup n).capture = false → qMax ≤ (e.sup n).man →
          t.get (SV_STATUS_FOCUS_STATE n) = 7 ∧ t.get (SV_EVENT_ACQ_FAIL n) = 1)
      ∧ (focusOf e n ≠ 2 ∨ (e.sup n).capture = false ∧ (e.sup n).man < qMax → t = e))
    ∧ ∃ t, exec (.fLock n) s = .next t
      ∧ (focusOf e n = 3 → 64 ≤ (e.sup n).lockRun → t.get (SV_STATUS_FOCUS_STATE n) = 4 ∧ t.get (SV_STATUS_F_LOCKED n) = 1
          ∧ t.get (SV_EVENT_F_LOCK n) = 1 ∧ (takenBit e n 1 = false → t.get (SV_STATUS_TRACK_STATE n) = if e.get (SV_CTRL_TRK_AUTO n) = 1 then 1 else 0)
          ∧ (takenBit e n 1 = false → modeOf e n (axisLoop e n 1) ≠ 4 → e.get (SV_CTRL_TRK_AUTO n) ≠ 1 → e.get (LE_CTRL_ENABLE n) = 1 →
              e.get (LE_STATUS_FAULT n) ≠ 1 → (t.engine n).supReq.find? (axisLoop e n 1) = some 1
                ∧ t.get (LE_LOOP_MAN_MAN_VALUE n (axisLoop e n 1)) = e.get (LE_LOOP_OUT_OUT n (axisLoop e n 1))))
      ∧ (focusOf e n = 3 → (e.sup n).lockRun < 64 → 2500 ≤ (e.sup n).lockTicks →
          t.get (SV_STATUS_FOCUS_STATE n) = 7 ∧ t.get (SV_EVENT_ACQ_FAIL n) = 1)
      ∧ (focusOf e n ≠ 3 ∨ (e.sup n).lockRun < 64 ∧ (e.sup n).lockTicks < 2500 → t = e)

/-- How an axis supervisor moves tracking and jumps, with e the state once the waiting sample has been evaluated. WAIT captures at a track crossing with
focus LOCKED; LOCKING locks after 64 ticks inside the window; four ticks out of capture are a slip, and tracking waits again with TRK_AUTO. A layer
jump goes KICK, BRAKE, CATCH, SETTLE, counts its layers, fails into RETRACT, and ends with focus LOCKED and tracking as it was; a track jump ends at
its last crossing, or as a slip. Nothing happens where a premise fails (assumption 4); the corners that the manual leaves open are the model's choice
(assumptions 17, 23, 24 and 94). Says of each of these rows that it answers a next state with its own effect: TRACK_CAPTURE, T_LOCK, TRACK_SLIP,
JUMP_PHASE_END, TJUMP_END. (R197, R199, R200) -/
def Obligations.SupervisorTracking : Prop :=
  ∀ (n : Fin 16) (s e : State), supEval s n = e →
    (∃ t, exec (.trackCapture n) s = .next t
      ∧ (trackOf e n = 1 → focusOf e n = 4 → (e.sup n).teCapture = true → t.get (SV_STATUS_TRACK_STATE n) = 2 ∧ t.get (SV_STATUS_T_LOCKED n) = 0
          ∧ SameFields [SV_STATUS_TRACK_STATE n, SV_STATUS_T_LOCKED n] e t)
      ∧ (trackOf e n ≠ 1 ∨ focusOf e n ≠ 4 ∨ (e.sup n).teCapture = false → t = e))
    ∧ (∃ t, exec (.tLock n) s = .next t
      ∧ (trackOf e n = 2 → 64 ≤ (e.sup n).trackRun → t.get (SV_STATUS_TRACK_STATE n) = 3 ∧ t.get (SV_STATUS_T_LOCKED n) = 1
          ∧ t.get (SV_EVENT_T_LOCK n) = 1 ∧ SameFields [SV_STATUS_TRACK_STATE n, SV_STATUS_T_LOCKED n, SV_EVENT_T_LOCK n] e t)
      ∧ (trackOf e n ≠ 2 ∨ (e.sup n).trackRun < 64 → t = e))
    ∧ (∃ t, exec (.trackSlip n) s = .next t
      ∧ (trackOf e n = 3 → 4 ≤ (e.sup n).slipRun → t.get (SV_EVENT_TRACK_SLIP n) = 1 ∧ t.get (SV_STATUS_T_LOCKED n) = 0
          ∧ t.get (SV_STATUS_TRACK_STATE n) = (if e.get (SV_CTRL_TRK_AUTO n) = 1 then 1 else 0))
      ∧ (trackOf e n ≠ 3 ∨ (e.sup n).slipRun < 4 → t = e))
    ∧ (∃ t, exec (.jumpPhaseEnd n) s = .next t
      ∧ (focusOf e n = 5 → (e.sup n).jumpFail = true → t.get (SV_STATUS_FOCUS_STATE n) = 7 ∧ t.get (SV_EVENT_JUMP_FAIL n) = 1
          ∧ t.get (SV_JUMP_START n) = 0)
      ∧ (focusOf e n = 5 → (e.sup n).jumpFail = false → (e.sup n).jumpEnd = true →
          ((e.sup n).jump = .kick → (t.sup n).jump = .brake ∧ focusOf t n = 5)
          ∧ ((e.sup n).jump = .brake → (t.sup n).jump = .catching ∧ focusOf t n = 5)
          ∧ ((e.sup n).jump = .catching → (t.sup n).jump = .settle ∧ t.get (SV_STATUS_LAYER_CNT n) = min 15 (e.get (SV_STATUS_LAYER_CNT n) + 1))
          ∧ ((e.sup n).jump = .settle → (e.sup n).jumpsLeft ≤ 1 → t.get (SV_STATUS_FOCUS_STATE n) = 4 ∧ t.get (SV_JUMP_START n) = 0
              ∧ t.get (SV_EVENT_JUMP_DONE n) = 1 ∧ (trackOf e n = 5 → t.get (SV_STATUS_TRACK_STATE n) = (e.sup n).heldTrack % 8)))
      ∧ (focusOf e n ≠ 5 ∨ (e.sup n).jumpFail = false ∧ (e.sup n).jumpEnd = false → t = e))
    ∧ ∃ t, exec (.tjumpEnd n) s = .next t
      ∧ (trackOf e n = 4 → (e.sup n).tjump ≠ .prepare → (e.sup n).tjSlip = true → t.get (SV_EVENT_TRACK_SLIP n) = 1 ∧ t.get (SV_TJUMP_START n) = 0
          ∧ t.get (SV_STATUS_TRACK_STATE n) = (if e.get (SV_CTRL_TRK_AUTO n) = 1 then 1 else 0))
      ∧ (trackOf e n = 4 → (e.sup n).tjump ≠ .prepare → (e.sup n).tjSlip = false → (tjCount e n).natAbs ≤ (e.sup n).tjCrossings →
          t.get (SV_STATUS_TRACK_STATE n) = 3 ∧ t.get (SV_STATUS_T_LOCKED n) = 1 ∧ t.get (SV_TJUMP_START n) = 0 ∧ t.get (SV_EVENT_TJUMP_DONE n) = 1)
      ∧ (trackOf e n ≠ 4 ∨ (e.sup n).tjump = .prepare ∨ (e.sup n).tjSlip = false ∧ (e.sup n).tjCrossings < (tjCount e n).natAbs → t = e)

/-- How a spindle starts and stops. A set point of 0 or 600 to 7,200 rpm forward is stored, any other write is refused in full; in RUN, where an exit from
PS3 or PS4 that is staged may raise it further, it plans the ramp from the measured speed, 0 stops a start, and otherwise CATCH follows where the
spindle may run. CATCH classifies the rotor: a slow one queues for a slot, a fast forward one is taken straight into RUN, any other brakes. A slot
goes to the first that waits; ALIGN leads to OPEN, a failed handover to COAST and on the third to FAULT; FAULT_CLR leads to COAST. Nothing happens
where a premise fails (assumption 4); the corners that the manual leaves open are the model's choice (assumptions 25, 26, 95 and 97 to 99). Says of
each of these rows that it answers a next state with its own effect: SP_SET_WRITE, SP_ENABLE_WRITE, FAULT_CLR, CATCH_END, BRAKE_END, SLOT_GRANT,
ALIGN_END, OPEN_HOLD_FAIL, COAST_END, STOP_BRAKE_END. (R215, R217, R218, R219, R220, R221, R222, R223, R232) -/
def Obligations.SpindleStarts : Prop :=
  (∀ (k : Fin 8) (v : Word) (s : State), s.boot.low = false → ∃ t, exec (.spSetWrite k v) s = .next t
    ∧ (v.toNat.testBit 31 = true ∨ v.toNat % 2 ^ 13 ≠ 0 ∧ (v.toNat % 2 ^ 13 < 600 ∨ 7200 < v.toNat % 2 ^ 13) →
        t.get (MOT_SP_EVENT_SET_REFUSED k) = 1 ∧ OnlyFields [MOT_SP_EVENT_SET_REFUSED k] s t)
    ∧ (v.toNat.testBit 31 = false → v.toNat % 2 ^ 13 = 0 ∨ 600 ≤ v.toNat % 2 ^ 13 ∧ v.toNat % 2 ^ 13 ≤ 7200 →
        ((s.spindle k).staged = false → t.get (MOT_SP_SET_SET_RPM k) = v.toNat % 2 ^ 13) ∧ t.get (MOT_SP_SET_RAMP k) = v.toNat / 2 ^ 16 % 2 ^ 11
        ∧ (spState s k = 7 → spState t k = 7 ∧ t.get (MOT_SP_REF_REF k) = s.get (MOT_SP_SPEED_MEAS k))
        ∧ (v.toNat % 2 ^ 13 = 0 → spState s k ∈ [2, 3, 4, 5, 6] ∨ spState s k = 1 ∧ (s.spindle k).coastWait = true →
            spState t k = (if s.get (MOT_SP_STATUS_CATCH_DIR k) = 0 then 0 else 1) ∧ t.get (MOT_SP_STATUS_SLOT k) = 0)
        ∧ (v.toNat % 2 ^ 13 ≠ 0 → spState s k ∈ [0, 1] → spEnabled s k = true → ovOn s k = false → (s.spindle k).coastWait = false → spState t k = 2)))
  ∧ (∀ (k : Fin 8) (set : Bool) (s : State), s.boot.low = false → ∃ t, exec (.spEnableWrite k set) s = .next t ∧ t.get (MOT_SP_CTRL_ENABLE k) = (if set then 1 else 0)
    ∧ (set = false → spState t k = 1 ∧ t.get (MOT_SP_STATUS_SLOT k) = 0)
    ∧ (set = true → spState s k ∈ [0, 1] → s.get MOT_CTRL_ENABLE = 1 → s.get (MOT_SP_SET_SET_RPM k) ≠ 0 → ovOn s k = false →
        (s.spindle k).coastWait = false → spState t k = 2))
  ∧ (∀ (k : Fin 8) (s : State), s.boot.low = false → ∃ t, exec (.faultClr k) s = .next t
    ∧ (spState s k = 9 → spEnabled s k = false → spState t k = 1)
    ∧ (spState s k = 9 → spEnabled s k = true → s.get (MOT_SP_SET_SET_RPM k) ≠ 0 → ovOn s k = false → (s.spindle k).desync = false →
        (s.spindle k).coastWait = false → spState t k = 2)
    ∧ (spState s k ≠ 9 → t = s))
  ∧ (∀ (k : Fin 8) (conv : List CatchConv) (s : State), ∃ t, exec (.catchEnd k conv) s = .next t
    ∧ ∀ seen count n d turns, seen = (catchRun s k conv).1.seen → count = (catchRun s k conv).1.count → n = seen.length - 1 → d = catchSpan seen →
        turns = (seen.zip seen.tail).map (fun p => (p.1.2.1 + 3 - p.2.2.1) % 3) →
      (spState s k ≠ 2 ∨ seen.length < 13 ∧ count < 5000 → t = s)
      ∧ (spState s k = 2 → 13 ≤ seen.length ∨ 5000 ≤ count →
        (seen.length < 3 ∨ 1666667 * n < 600 * d → spState t k = 4 ∧ t.get (MOT_SP_STATUS_CATCH_DIR k) = 0)
        ∧ (3 ≤ seen.length → 600 * d ≤ 1666667 * n → (∀ x ∈ turns, x = 2) → 3000 * d ≤ 1666667 * n →
            spState t k = 7 ∧ t.get (MOT_SP_STATUS_CATCH_DIR k) = 1 ∧ t.get (MOT_SP_STATUS_STEP k) = catchStep seen ∧ t.get (MOT_SP_EVENT_RUN k) = 1
              ∧ t.get (MOT_SP_REF_REF k) = t.get (MOT_SP_SPEED_MEAS k))
        ∧ (3 ≤ seen.length → 600 * d ≤ 1666667 * n → (∀ x ∈ turns, x = 1) ∨ (∀ x ∈ turns, x = 2) ∧ 1666667 * n < 3000 * d →
            spState t k = 3 ∧ t.get (MOT_SP_STATUS_CATCH_DIR k) = (if ∀ x ∈ turns, x = 2 then 1 else 2)
              ∧ (t.spindle k).brakes = (s.spindle k).brakes + 1)))
  ∧ (∀ (k : Fin 8) (s : State), ∃ t, exec (.brakeEnd k) s = .next t
    ∧ (spState s k = 3 → (s.spindle k).brakes ≤ s.get (MOT_SP_CATCH_BRAKE_MAX k) → spState t k = 2)
    ∧ (spState s k = 3 → s.get (MOT_SP_CATCH_BRAKE_MAX k) < (s.spindle k).brakes → spState t k = 9 ∧ t.get (MOT_SP_EVENT_CATCH_FAIL k) = 1)
    ∧ (spState s k ≠ 3 → t = s))
  ∧ (∀ (b : Fin 2) (s : State), ∃ t, exec (.slotGrant b) s = .next t
    ∧ ((s.motorBus b).waiting = [] ∨ spinSlots s b ≤ slotsUsed s b → t = s)
    ∧ ∀ (k : Fin 8) (rest : List Nat), (s.motorBus b).waiting = k.val :: rest → slotsUsed s b < spinSlots s b →
        t.get (MOT_SP_STATUS_SLOT k) = 1 ∧ (t.motorBus b).waiting = rest ∧ spState t k = (if spState s k = 4 then 5 else spState s k)
          ∧ (spState s k = 4 → t.get (MOT_SP_STATUS_STEP k) = 0))
  ∧ (∀ (k : Fin 8) (s : State), ∃ t, exec (.alignEnd k) s = .next t
    ∧ (spState s k = 5 → spState t k = 6 ∧ (t.spindle k).qual = 0
        ∧ SameFields [MOT_SP_STATUS_STATE k, MOT_SP_STATUS_COAST_DOWN k, MOT_SP_STATUS_DEMAND_LOST k] s t)
    ∧ (spState s k ≠ 5 → t = s))
  ∧ (∀ (k : Fin 8) (s : State), ∃ t, exec (.openHoldFail k) s = .next t
    ∧ (spState s k = 6 → 9600 ≤ s.get (MOT_SP_SPEED_MEAS k) → (s.spindle k).qual < 12 → t.get (MOT_SP_STATUS_SLOT k) = 0
        ∧ ((s.spindle k).openFails < 2 → spState t k = 1 ∧ (t.spindle k).coastWait = true ∧ (t.spindle k).openFails = (s.spindle k).openFails + 1)
        ∧ (2 ≤ (s.spindle k).openFails → spState t k = 9 ∧ t.get (MOT_SP_EVENT_START_FAIL k) = 1))
    ∧ (spState s k ≠ 6 ∨ s.get (MOT_SP_SPEED_MEAS k) < 9600 ∨ 12 ≤ (s.spindle k).qual → t = s))
  ∧ (∀ (k : Fin 8) (s : State), ∃ t, exec (.coastEnd k) s = .next t
    ∧ (spState s k = 1 → (s.spindle k).coastWait = true → (t.spindle k).coastWait = false
        ∧ (spEnabled s k = true → s.get (MOT_SP_SET_SET_RPM k) ≠ 0 → ovOn s k = false → spState t k = 2)
        ∧ (spEnabled s k = false → spState t k = 1))
    ∧ (spState s k ≠ 1 ∨ (s.spindle k).coastWait = false → t = s))
  ∧ ∀ (k : Fin 8) (s : State), ∃ t, exec (.stopBrakeEnd k) s = .next t
    ∧ (spState s k = 8 → t.get (MOT_SP_EVENT_STOPPED k) = 1 ∧ (s.get (MOT_SP_SET_SET_RPM k) = 0 → spState t k = 0))
    ∧ (spState s k ≠ 8 → t = s)

/-- How a spindle runs. Every PWM period the command names the phases of the step, with no pulse after a trip and the phases off in a state that drives
none; a shunt sample above I_TRIP ends the pulse for three periods, and the third within 1 ms is a FAULT; a confirmed crossing schedules the
commutation within one unit of its exact time, the rounding being open; a commutation steps on and, below 300 rpm with set point 0, stops; a missed
crossing is counted and after MISS_MAX is a DESYNC; the handover enters RUN at 600 rpm with 12 qualified crossings; the winding estimate at I2T_MAX
clamps. Nothing happens where a premise fails (assumption 4); the corners that the manual leaves open are the model's choice (assumptions 25, 26, 95
and 97 to 99). Says of each of these rows that it answers a next state with its own effect: PWM_PERIOD, OVERCURRENT_TRIP, ZC_CONFIRM, COMMUTATE,
HANDOVER, MISSED_ZC, I2T_LIMIT. (R208, R209, R211, R212, R213, R214, R215, R216, R219, R222, R228) -/
def Obligations.SpindleRuns : Prop :=
  (∀ (k : Fin 8) (conv : Option WindowConv) (s : State), ∃ t, exec (.pwmPeriod k conv) s = .next t
    ∧ (t.spindle k).cmd.high = (stepPhases (s.get (MOT_SP_STATUS_STEP k))).1 ∧ (t.spindle k).cmd.low = (stepPhases (s.get (MOT_SP_STATUS_STEP k))).2.1
    ∧ (t.spindle k).cmd.seq = ((s.spindle k).cmd.seq + 1) % 256 ∧ (t.spindle k).skip = (s.spindle k).skip - 1
    ∧ ((s.spindle k).skip ≠ 0 → (t.spindle k).cmd.on = (t.spindle k).cmd.off)
    ∧ (spState s k ∈ [0, 1, 2, 4, 9] → (t.spindle k).cmd.mode = 3 ∧ (t.spindle k).cmd.on = (t.spindle k).cmd.off
        ∧ (t.spindle k).heat = (s.spindle k).heat - (2 * s.get (MOT_SP_I2T_CFG_I_CONT k)) * (2 * s.get (MOT_SP_I2T_CFG_I_CONT k))))
  ∧ (∀ (k : Fin 8) (code : BitVec 12) (s : State), ∃ t, exec (.overcurrentTrip k code) s = .next t
    ∧ ((convert s (k.val / 2) (4 * (k.val % 2) + 3) code.toNat).1.natAbs ≤ 2 * s.get (MOT_SP_LIM_I_TRIP k) →
        t.spindles = s.spindles ∧ spState t k = spState s k)
    ∧ (2 * s.get (MOT_SP_LIM_I_TRIP k) < (convert s (k.val / 2) (4 * (k.val % 2) + 3) code.toNat).1.natAbs → (t.spindle k).skip = 3
        ∧ (((s.spindle k).trips.filter fun x => decide (s.now - x ≤ 38400)).length < 2 → spState t k = spState s k)
        ∧ (2 ≤ ((s.spindle k).trips.filter fun x => decide (s.now - x ≤ 38400)).length → spState t k = 9 ∧ t.get (MOT_SP_EVENT_OVERCURRENT k) = 1)))
  ∧ (∀ (k : Fin 8) (tb ta : Nat) (s : State), ∃ t, exec (.zcConfirm k tb ta) s = .next t ∧ t.fld = s.fld
    ∧ (spState s k ∉ [6, 7] ∨ (s.spindle k).nextAt ≠ none ∨ ta ≤ tb → t = s)
    ∧ ∀ (new : List Int) (da db : Int) (old : List Int) (c span : Nat), spState s k ∈ [6, 7] → (s.spindle k).nextAt = none →
        (s.spindle k).zc = new ++ da :: db :: old →
        (s.get (MOT_SP_STATUS_STEP k) % 2 = 0 ∧ (∀ x ∈ da :: new, 0 ≤ x) ∧ db < 0 ∨ s.get (MOT_SP_STATUS_STEP k) % 2 = 1 ∧ (∀ x ∈ da :: new, x ≤ 0) ∧ 0 < db) →
        max 1 (s.get (MOT_SP_COMM_ZC_CONFIRM k)) ≤ new.length + 1 → tb < ta →
        s.get (MOT_SP_COMM_BLANK k) * (s.spindle k).intervals.headD 0 ≤ 256 * tb → span = (da - db).natAbs → c = tb * span + (ta - tb) * db.natAbs →
          (∀ q, q = (c * 60 + (s.spindle k).intervals.headD 0 * (30 - s.get (MOT_SP_COMM_ADV k)) * span) / (60 * span) →
            (t.spindle k).nextAt = some q ∨ (t.spindle k).nextAt = some (q + 1))
          ∧ (spState s k = 6 → (t.spindle k).qual
              = if openInterval s k * span ≤ 4 * c ∧ 4 * c ≤ 3 * openInterval s k * span then (s.spindle k).qual + 1 else 0))
  ∧ (∀ (k : Fin 8) (s : State), ∃ t, exec (.commutate k) s = .next t
    ∧ (spState s k ≠ 7 → exec (.handover k) s = .next t)
    ∧ (spState s k = 7 → (s.spindle k).nextAt = none → t = s)
    ∧ ∀ x, spState s k = 7 → (s.spindle k).nextAt = some x → t.get (MOT_SP_STATUS_STEP k) = (s.get (MOT_SP_STATUS_STEP k) + 1) % 6
        ∧ (t.spindle k).intervals = (x :: (s.spindle k).intervals).take 6 ∧ (t.spindle k).nextAt = none
        ∧ spState t k = (if s.get (MOT_SP_SET_SET_RPM k) = 0 ∧ t.get (MOT_SP_SPEED_MEAS k) < 4800 then 8 else 7))
  ∧ (∀ (k : Fin 8) (s : State), ∃ t, exec (.missedZc k) s = .next t
    ∧ (spState s k ≠ 7 ∨ (s.spindle k).nextAt ≠ none → t = s)
    ∧ (spState s k = 7 → (s.spindle k).nextAt = none → t.get (MOT_SP_EVENT_MISSED_ZC k) = 1
        ∧ t.get (MOT_SP_CNT_MISSED k) = min (s.get (MOT_SP_CNT_MISSED k) + 1) (2 ^ 16 - 1)
        ∧ (max 1 (s.get (MOT_SP_COMM_MISS_MAX k)) ≤ (s.spindle k).misses + 1 → t.get (MOT_SP_EVENT_DESYNC k) = 1
            ∧ t.get (MOT_SP_CNT_DESYNCS k) = min (s.get (MOT_SP_CNT_DESYNCS k) + 1) (2 ^ 16 - 1)
            ∧ (s.get (MOT_SP_CTRL_AUTO_RECATCH k) ≠ 1 → spState t k = 1))
        ∧ ((s.spindle k).misses + 1 < max 1 (s.get (MOT_SP_COMM_MISS_MAX k)) → s.get (MOT_SP_SET_SET_RPM k) ≠ 0 →
            spState t k = 7 ∧ (t.spindle k).misses = (s.spindle k).misses + 1)))
  ∧ (∀ (k : Fin 8) (s : State), ∃ t, exec (.handover k) s = .next t
    ∧ (spState s k ≠ 6 → t = s)
    ∧ (∀ l, l = (openInterval s k :: (s.spindle k).intervals).take 6 → 0 < l.sum → 9600 * l.sum ≤ 1666667 * 1000 * 16 * l.length →
        spState s k = 6 → (s.spindle k).nextAt ≠ none → 12 ≤ (s.spindle k).qual → spState t k = 7 ∧ t.get (MOT_SP_EVENT_RUN k) = 1)
    ∧ (spState s k = 6 → t.get (MOT_SP_STATUS_STEP k) = (s.get (MOT_SP_STATUS_STEP k) + 1) % 6
        ∧ (9600 ≤ t.get (MOT_SP_SPEED_MEAS k) → (s.spindle k).nextAt ≠ none → 12 ≤ (s.spindle k).qual →
            spState t k = 7 ∧ t.get (MOT_SP_EVENT_RUN k) = 1 ∧ t.get (MOT_SP_REF_REF k) = t.get (MOT_SP_SPEED_MEAS k))
        ∧ (t.get (MOT_SP_SPEED_MEAS k) < 9600 ∨ (s.spindle k).nextAt = none ∨ (s.spindle k).qual < 12 → spState t k = 6)))
  ∧ ∀ (k : Fin 8) (s : State), ∃ t, exec (.i2tLimit k) s = .next t
    ∧ (heatMax s k ≤ (s.spindle k).heat → (s.spindle k).clamp = false → t.get (MOT_SP_EVENT_I2T_LIMIT k) = 1
        ∧ t.get (MOT_SP_STATUS_LIMITING k) = 1 ∧ (t.spindle k).clamp = true ∧ SameFields [MOT_SP_EVENT_I2T_LIMIT k, MOT_SP_STATUS_LIMITING k] s t)
    ∧ ((s.spindle k).heat < heatMax s k ∨ (s.spindle k).clamp = true → t = s)

/-- The motor buses and the sequencer. The next conversion is of the channel that the next entry in force names. A bus voltage closes the chopper at
CHOP_ON and opens it at CHOP_OFF, and at 31.00 V sends the bus's spindles to COAST; a chopper current adds its energy less the leak; a frame that ends
gives its length and lets the coefficients that wait for its ADC apply. A chopper test that fails on the latest current and voltage is latched, holds
the gate off and shorts what regenerates; OV clears below 29.00 V only. A sequencer entry is refused where its ADC would keep fewer than four bus or
two chopper entries. Nothing happens where a premise fails (assumption 4); the corners that the manual leaves open are the model's choice (assumptions
25, 26, 95 and 97 to 99). Says of each of these rows that it answers a next state with its own effect: BUS_SAMPLE, CHOP_FAULT, OV_CLEAR,
SEQ_ENTRY_WRITE. (R224, R225, R226, R227, R229, R230, R231, R463, R465) -/
def Obligations.MotorBuses : Prop :=
  (∀ (a : Fin 4) (code : BitVec 12) (el fr : Nat) (s : State), ∃ t, exec (.busSample a code el fr) s = .next t
    ∧ (∀ j c, nextEntry s a (s.seqPos.getD a 0) = some j → c = entryInForce s (4 * j + a) % 16 → c < 13 →
        t.get (MOT_ADC_RES_CODE a c) = code.toNat ∧ t.seqPos.getD a 0 = j + 1
        ∧ (c = 8 → ∀ v, v = min 4095 (convert s a c code.toNat).1.toNat → t.get (MOT_BUS_STATUS_V_BUS (a.val / 2)) = v
          ∧ (s.get (MOT_BUS_CTRL_CHOP_EN (a.val / 2)) = 1 → chopLatched s (a.val / 2) = false → chopOn s (a.val / 2) ≤ v →
              t.get (MOT_BUS_STATUS_CHOPPING (a.val / 2)) = 1)
          ∧ (v ≤ chopOff s (a.val / 2) → t.get (MOT_BUS_STATUS_CHOPPING (a.val / 2)) = 0)
          ∧ (3100 ≤ v → t.get (MOT_BUS_EVENT_OV (a.val / 2)) = 1 ∧ ∀ k : Fin 8, k.val / 4 = a.val / 2 → spState t k = 1))
        ∧ (c = 9 → (t.motorBus (a.val / 2)).current = (convert s a c code.toNat).1.toNat
          ∧ (t.motorBus (a.val / 2)).energy = min (65535 * 200000000000) ((s.motorBus (a.val / 2)).energy
            + s.get (MOT_BUS_STATUS_V_BUS (a.val / 2)) * (convert s a c code.toNat).1.toNat * el - s.get (MOT_BUS_CHOPCFG_LEAK (a.val / 2)) * 200 * el)))
    ∧ (nextEntry s a (s.seqPos.getD a 0) = none → t.get MOT_SEQ_STATUS_FRAME_MAX = max (s.get MOT_SEQ_STATUS_FRAME_MAX) (min (2 ^ 16 - 1) fr)
        ∧ ∀ g o, s.calNext.find? a = some (g, o) → t.get (CAL_ACT_GAIN a) = g % 2 ^ 16 ∧ t.get (CAL_ACT_OFS a) = o % 2 ^ 16
            ∧ t.get CAL_EVENT_APPLIED = 1))
  ∧ (∀ (b : Fin 2) (kind : ChopFault) (us : Nat) (s : State), ∃ t, exec (.chopFault b kind us) s = .next t
    ∧ (chopFails s b kind us = false → t = s)
    ∧ (kind = .noCurrent ∧ s.get (MOT_BUS_STATUS_CHOPPING b) = 1 ∧ 20 ≤ us ∧ (s.motorBus b).current < s.get (MOT_BUS_CHOPCFG_CHOP_I_MIN b)
        ∨ kind = .noFall ∧ s.get (MOT_BUS_STATUS_CHOPPING b) = 1 ∧ 500 ≤ us ∧ chopOn s b ≤ s.get (MOT_BUS_STATUS_V_BUS b)
        ∨ kind = .stuck ∧ s.get (MOT_BUS_STATUS_CHOPPING b) = 0 ∧ 100 ≤ us ∧ s.get (MOT_BUS_CHOPCFG_CHOP_I_MIN b) ≤ (s.motorBus b).current →
        chopLatched t b = true ∧ t.get (MOT_BUS_STATUS_CHOPPING b) = 0 ∧ t.get (MOT_BUS_STATUS_REGEN_OK b) = 0
        ∧ ∀ k : Fin 8, k.val / 4 = b → spState s k = 7 → (s.spindle k).regen ≠ none → (t.spindle k).chopShort = true ∧ (t.spindle k).regen = none))
  ∧ (∀ (b : Fin 2) (s : State), s.boot.low = false → ∃ t, exec (.ovClear b) s = .next t
    ∧ (2900 ≤ s.get (MOT_BUS_STATUS_V_BUS b) → t = s)
    ∧ (s.get (MOT_BUS_STATUS_V_BUS b) < 2900 → t.get (MOT_BUS_EVENT_OV b) = 0
        ∧ ∀ k : Fin 8, k.val / 4 = b → spState s k ∈ [0, 1] → spEnabled s k = true → s.get (MOT_SP_SET_SET_RPM k) ≠ 0 → (s.spindle k).desync = false →
            (s.spindle k).coastWait = false → spState t k = 2))
  ∧ ∀ (i : Fin 64) (v : Word) (s : State), s.boot.low = false → ∃ t, exec (.seqEntryWrite i v) s = .next t
    ∧ (v.toNat % 16 < 13 → 4 ≤ entriesWith s i (v.toNat / 2 ^ 8 % 2) (v.toNat % 16) 8 → 2 ≤ entriesWith s i (v.toNat / 2 ^ 8 % 2) (v.toNat % 16) 9 →
        t.get (MOT_SEQ_SLOT_FREE i) = v.toNat / 2 ^ 8 % 2 ∧ t.get (MOT_SEQ_SLOT_CH i) = v.toNat % 16
          ∧ OnlyFields [MOT_SEQ_SLOT_FREE i, MOT_SEQ_SLOT_CH i] s t)
    ∧ (13 ≤ v.toNat % 16 ∨ entriesWith s i (v.toNat / 2 ^ 8 % 2) (v.toNat % 16) 8 < 4 ∨ entriesWith s i (v.toNat / 2 ^ 8 % 2) (v.toNat % 16) 9 < 2 →
        t.get MOT_SEQ_STATUS_SEQ_ERR = 1 ∧ OnlyFields [MOT_SEQ_STATUS_SEQ_ERR] s t)

/-- Sleds. A sled whose stage the unit does not claim holds with nothing planned; OFF, taken up at a planner tick, drops the plan and makes the position
uncertain. A target outside the soft limits, or with the position not valid, is refused unless JOG is set; a mode code that the table does not give is
refused; a move is done when its plan is at rest and the interpolator at its end; an EXT edge runs the interpolator to the next full step, the first
one at FIRST, waits while a step runs, and is lost where four wait; STOP holds the interpolator where it is, loses the position of a sled that moves
and fails a homing; POS_SET acts at rest only. Nothing happens where a premise fails (assumption 4); the corners that the manual leaves open are the
model's choice (assumptions 8, 27, 28 and 96). Says of each of these rows that it answers a next state with its own effect: PLANNER_TICK,
SLED_TARGET_WRITE, SLED_MODE_WRITE, MOVE_DONE, EXT_STEP, SLED_STOP, POS_SET. (R236, R237, R239, R242, R244, R245, R246, R249, R257) -/
def Obligations.Sleds : Prop :=
  (∀ s : State, ∃ t, exec .plannerTick s = .next t
    ∧ ((∀ n : Fin 16, claims s (24 + n) = false) → ∀ n : Fin 16, sledMode t n = 1 ∧ (t.sled n).plan = [] ∧ sledPos t n = sledPos s n
        ∧ t.get (DUC_SL_STATUS_SPEED n) = 0 ∧ t.get (DUC_SL_STATUS_MOVING n) = 0)
    ∧ ∀ n : Fin 16, (∀ m : Fin 16, m ≠ n → claims s (24 + m) = false) → claims s (24 + n) = true → (s.sled n).modeReq = some 0 → (s.sled n).stopped = false →
        sledMode s n ≠ 0 →
        sledMode t n = 0 ∧ t.get (DUC_SL_STATUS_POS_STATE n) = 2 ∧ sledPos t n = sledPos s n ∧ t.get (DUC_SL_STATUS_MOVING n) = 0)
  ∧ (∀ (n : Fin 16) (v : Word) (s : State), s.boot.low = false → ∃ t, exec (.sledTargetWrite n v) s = .next t
    ∧ (s.get (DUC_SL_CTRL_JOG n) = 1 ∨ toSigned 32 (s.get (DUC_SL_SOFT_MIN_LIMIT n)) ≤ toSigned 32 v.toNat
          ∧ toSigned 32 v.toNat ≤ toSigned 32 (s.get (DUC_SL_SOFT_MAX_LIMIT n)) ∧ s.get (DUC_SL_STATUS_POS_STATE n) = 1 →
        t.get (DUC_SL_TARGET_TARGET n) = v.toNat ∧ (t.sled n).targetReq = some (toSigned 32 v.toNat, s.on (DUC_SL_CTRL_JOG n))
          ∧ SameFields [DUC_SL_TARGET_TARGET n] s t)
    ∧ (s.get (DUC_SL_CTRL_JOG n) ≠ 1 → toSigned 32 v.toNat < toSigned 32 (s.get (DUC_SL_SOFT_MIN_LIMIT n))
          ∨ toSigned 32 (s.get (DUC_SL_SOFT_MAX_LIMIT n)) < toSigned 32 v.toNat ∨ s.get (DUC_SL_STATUS_POS_STATE n) ≠ 1 →
        t.get (DUC_SL_EVENT_REFUSED n) = 1 ∧ OnlyFields [DUC_SL_EVENT_REFUSED n] s t))
  ∧ (∀ (n : Fin 16) (m : Fin 8) (s : State), s.boot.low = false → ∃ t, exec (.sledModeWrite n m) s = .next t
    ∧ (m ≤ 5 → t.get (DUC_SL_CTRL_MODE n) = m ∧ (t.sled n).modeReq = some m.val ∧ SameFields [DUC_SL_CTRL_MODE n] s t)
    ∧ (5 < m → t.get (DUC_SL_EVENT_REFUSED n) = 1 ∧ OnlyFields [DUC_SL_EVENT_REFUSED n] s t))
  ∧ (∀ (n : Fin 16) (s : State), ∃ t, exec (.moveDone n) s = .next t
    ∧ ((s.sled n).moving = true → (s.sled n).plan = [] → (s.sled n).v = 0 → (s.sled n).goal = sledPos s n →
        t.get (DUC_SL_EVENT_MOVE_DONE n) = 1 ∧ (t.sled n).moving = false ∧ ((s.sled n).edges = [] → t.get (DUC_SL_STATUS_MOVING n) = 0)
          ∧ SameFields [DUC_SL_EVENT_MOVE_DONE n, DUC_SL_STATUS_MOVING n] s t)
    ∧ ((s.sled n).moving = false ∨ (s.sled n).plan ≠ [] ∨ (s.sled n).v ≠ 0 ∨ (s.sled n).goal ≠ sledPos s n → t = s))
  ∧ (∀ (out : Bool) (ns : Nat) (s : State), ∃ t, exec (.extStep out ns) s = .next t
    ∧ ∀ n, n = s.get DUC_EXT_SLED →
        (sledMode s n ≠ 5 → t = s)
        ∧ (sledMode s n = 5 → 4 ≤ (s.sled n).edges.length → t.get DUC_EXT_EXT_OVF = 1 ∧ OnlyFields [DUC_EXT_EXT_OVF] s t)
        ∧ (sledMode s n = 5 → (s.sled n).edges.length < 4 → (s.sled n).plan ≠ [] ∨ (s.sled n).v ≠ 0 ∨ (s.sled n).goal ≠ sledPos s n →
            (t.sled n).edges = (s.sled n).edges ++ [(out, if (s.sled n).extSeen then ns else 1000 * s.get DUC_EXT_FIRST)]
              ∧ SameFields [DUC_SL_STATUS_MOVING n] s t)
        ∧ (sledMode s n = 5 → (s.sled n).plan = [] → (s.sled n).v = 0 → (s.sled n).edges = [] → (s.sled n).goal = sledPos s n →
            (t.sled n).goal = (if out then (sledPos s n / 256 + 1) * 256 else -((-sledPos s n) / 256 + 1) * 256)
              ∧ (t.sled n).interval = (if (s.sled n).extSeen then ns else 1000 * s.get DUC_EXT_FIRST)
              ∧ t.get (DUC_SL_STATUS_MOVING n) = 1 ∧ SameFields [DUC_SL_STATUS_MOVING n] s t))
  ∧ (∀ (n : Fin 16) (s : State), s.boot.low = false → ∃ t, exec (.sledStop n) s = .next t
    ∧ sledMode t n = 1 ∧ sledPos t n = sledPos s n ∧ (t.sled n).plan = [] ∧ t.get (DUC_SL_STATUS_SPEED n) = 0 ∧ t.get (DUC_SL_STATUS_MOVING n) = 0
    ∧ (sledBusy s n = true → t.get (DUC_SL_EVENT_STOPPED_HARD n) = 1 ∧ (sledMode s n ≠ 4 → t.get (DUC_SL_STATUS_POS_STATE n) = 2))
    ∧ (sledBusy s n = false → sledMode s n ≠ 4 → t.get (DUC_SL_STATUS_POS_STATE n) = s.get (DUC_SL_STATUS_POS_STATE n))
    ∧ (sledMode s n = 4 → t.get (DUC_SL_STATUS_HOME_STATE n) = 4 ∧ t.get (DUC_SL_EVENT_HOME_FAIL n) = 1
        ∧ t.get (DUC_SL_STATUS_POS_STATE n) = (if s.get (DUC_SL_STATUS_POS_STATE n) = 0 then 0 else 2)))
  ∧ ∀ (n : Fin 16) (v : Word) (s : State), s.boot.low = false → ∃ t, exec (.posSet n v) s = .next t
    ∧ (s.get (DUC_SL_STATUS_MOVING n) ≠ 1 → sledBusy s n = false → t.get (DUC_SL_POS_POS n) = v.toNat ∧ t.get (DUC_SL_STATUS_POS_STATE n) = 1
        ∧ SameFields [DUC_SL_POS_POS n, DUC_SL_STATUS_POS_STATE n, DUC_SL_STATUS_SPEED n] s t)
    ∧ (s.get (DUC_SL_STATUS_MOVING n) = 1 ∨ sledBusy s n = true → t.get (DUC_SL_EVENT_REFUSED n) = 1 ∧ OnlyFields [DUC_SL_EVENT_REFUSED n] s t)

/-- The limit switch, the interpolator and the Ductus buses. A raw edge opens a qualification window at the position it was seen at, and more edges than
CHATTER_MAX stop the sled; a level that stands for QUAL_T is taken, with the window's position latched, or counts as a glitch; outside homing the
switch stops its sled. The interpolator takes one microstep toward its goal once its interval is over. A frame has a header, twelve records and its
CRC; a record that fails its CRC counts as missing, and a good one gives the stage's holder, flags and claim, stops its sled on flag 0, makes the
position uncertain and fails a homing where the stage no longer obeys this port, and moves a sled not claimed to the stage's echo; the fifth missing
record loses the stage. A frame carries the class that its bus's outputs share, or, where they differ, one of the three that a device sends. Nothing
happens where a premise fails (assumption 4); the corners that the manual leaves open are the model's choice (assumptions 8, 27, 28 and 96). Says of
each of these rows that it answers a next state with its own effect: SLED_HOME_EDGE, SWITCH_QUALIFY, INTERPOLATOR_MICROSTEP, DUC_FRAME, STAGE_STATUS,
STAGE_LOST. (R236, R243, R245, R247, R248, R251, R252, R253, R255, R257, R382) -/
def Obligations.SwitchesAndDuctus : Prop :=
  (∀ (n : Fin 16) (level same : Bool) (s : State), ∃ t, exec (.sledHomeEdge n level same) s = .next t
    ∧ ((level != s.on (DUC_SL_CFG_ACTIVE_LOW n)) = s.on (DUC_SL_STATUS_SW_RAW n) ∨ s.boot.low = true → t = s)
    ∧ (s.boot.low = false → (level != s.on (DUC_SL_CFG_ACTIVE_LOW n)) ≠ s.on (DUC_SL_STATUS_SW_RAW n) →
        t.get (DUC_SL_STATUS_SW_RAW n) = (if level != s.on (DUC_SL_CFG_ACTIVE_LOW n) then 1 else 0)
        ∧ ((s.sled n).win = none → same = false → 1 ≤ s.get (DUC_SL_CHAT_CHATTER_MAX n) → (t.sled n).win = some ⟨1, sledPos s n⟩
            ∧ SameFields [DUC_SL_STATUS_SW_RAW n] s t)
        ∧ ∀ w, (s.sled n).win = some w →
            (w.edges < s.get (DUC_SL_CHAT_CHATTER_MAX n) → (t.sled n).win = some ⟨w.edges + 1, w.pos⟩ ∧ SameFields [DUC_SL_STATUS_SW_RAW n] s t)
            ∧ (s.get (DUC_SL_CHAT_CHATTER_MAX n) ≤ w.edges → t.get (DUC_SL_EVENT_CHATTER n) = 1 ∧ sledMode t n = 1)))
  ∧ (∀ (n : Fin 16) (us : Nat) (s : State), ∃ t, exec (.switchQualify n us) s = .next t
    ∧ ((s.sled n).win = none ∨ us < s.get (DUC_SL_CFG_QUAL_T n) → t = s)
    ∧ ∀ w, (s.sled n).win = some w → s.get (DUC_SL_CFG_QUAL_T n) ≤ us →
        (s.on (DUC_SL_STATUS_SW_RAW n) = s.on (DUC_SL_STATUS_SW_QUAL n) → t.get (DUC_SL_EVENT_GLITCH n) = 1 ∧ (t.sled n).win = none
            ∧ SameFields [DUC_SL_EVENT_GLITCH n] s t)
        ∧ (s.on (DUC_SL_STATUS_SW_RAW n) ≠ s.on (DUC_SL_STATUS_SW_QUAL n) →
            t.get (DUC_SL_STATUS_SW_QUAL n) = (if s.on (DUC_SL_STATUS_SW_RAW n) then 1 else 0)
              ∧ t.get (DUC_SL_LATCH_POS_LATCH_POS n) = ofSigned 32 w.pos
              ∧ (sledMode s n ≠ 4 → s.get (DUC_SL_STATUS_SW_RAW n) = 1 → sledMode t n = 1 ∧ sledPos t n = sledPos s n
                  ∧ (sledBusy s n = true → t.get (DUC_SL_EVENT_LIMIT_TRIP n) = 1 ∧ t.get (DUC_SL_EVENT_STOPPED_HARD n) = 1))))
  ∧ (∀ (n : Fin 16) (el : Nat) (s : State), ∃ t, exec (.interpolatorMicrostep n el) s = .next t
    ∧ ((s.sled n).goal = sledPos s n ∨ 256 * el < (s.sled n).interval → t = s)
    ∧ ((s.sled n).goal ≠ sledPos s n → (s.sled n).interval ≤ 256 * el →
        t.get (DUC_SL_POS_POS n) = ofSigned 32 (if (s.sled n).goal < sledPos s n then sledPos s n - 1 else sledPos s n + 1)
          ∧ SameFields [DUC_SL_POS_POS n, DUC_SL_STATUS_MOVING n] s t))
  ∧ (∀ (b : Fin 2) (s : State), ∃ t, exec (.ducFrame b) s = .next t ∧ (t.ducBus b).cycle = ((s.ducBus b).cycle + 1) % 256 ∧ t.fld = s.fld
    ∧ (s.get (if b = 0 then DUC_CTRL_TX_DA else DUC_CTRL_TX_DB) ≠ 1 → (t.ducBus b).frame = (s.ducBus b).frame)
    ∧ (s.get (if b = 0 then DUC_CTRL_TX_DA else DUC_CTRL_TX_DB) = 1 → (t.ducBus b).frame.length = 82
        ∧ ((t.ducBus b).frame.drop 3).take 5 = leBytes 4 (s.now + 384) ++ leBytes 1 (s.ducBus b).cycle
        ∧ (t.ducBus b).frame.drop 80 = leBytes 2 (crc16 ((t.ducBus b).frame.take 80))
        ∧ (∀ c, (∀ a ∈ busStages b, s.get (VRS_OUT_CLASS (16 + a)) = c) →
            (t.ducBus b).frame.take 3 = leBytes 1 1 ++ leBytes 2 (c * 4096 + s.get VRS_NODE_NODE_ID))
        ∧ ∃ c, (c ∈ [12, 4, 0] ∨ ∀ a ∈ busStages b, s.get (VRS_OUT_CLASS (16 + a)) = c)
            ∧ (t.ducBus b).frame.take 3 = leBytes 1 1 ++ leBytes 2 (c * 4096 + s.get VRS_NODE_NODE_ID)))
  ∧ (∀ (a : Fin 24) (rec : List (BitVec 8)) (s : State), ∃ t, exec (.stageStatus a rec) s = .next t
    ∧ (rec.length ≠ 16 ∨ leVal (rec.drop 14) ≠ crc16 (rec.take 14) → (t.stage a).missing = (s.stage a).missing + 1
        ∧ t.get (DUC_STG_CRC_ERR a) = min (s.get (DUC_STG_CRC_ERR a) + 1) 255 ∧ SameFields [DUC_STG_CRC_ERR a] s t)
    ∧ (rec.length = 16 → leVal (rec.drop 14) = crc16 (rec.take 14) → (t.stage a).missing = 0
        ∧ t.get (DUC_STG_CLAIM a) = leVal ((rec.drop 1).take 2) ∧ t.get (DUC_STG_FLAGS a) = leVal ((rec.drop 3).take 1) % 64
        ∧ t.get (DUC_STG_HELD_HERE a) = (if (leVal (rec.take 1)).testBit 7 && leVal ((rec.drop 1).take 2) % 4096 == s.get VRS_NODE_NODE_ID then 1 else 0)
        ∧ t.get (VRS_OUT_HELD_HERE (16 + a)) = t.get (DUC_STG_HELD_HERE a)
        ∧ ∀ n : Fin 16, a.val = 8 + n →
            (leVal ((rec.drop 3).take 1) % 2 = 1 → sledMode t n = 1)
            ∧ (s.get (DUC_STG_HELD_HERE a) = 1 → t.get (DUC_STG_HELD_HERE a) = 0 → t.get (DUC_SL_STATUS_POS_STATE n) = 2
                ∧ (sledMode s n = 4 → sledMode t n = 1 ∧ t.get (DUC_SL_EVENT_HOME_FAIL n) = 1 ∧ t.get (DUC_SL_STATUS_HOME_STATE n) = 4))
            ∧ (claims s (16 + a) = false → t.get (DUC_SL_POS_POS n) = leVal ((rec.drop 8).take 4) ∧ (t.sled n).plan = [])))
  ∧ ∀ (a : Fin 24) (k : Nat) (s : State), ∃ t, exec (.stageLost a k) s = .next t ∧ (t.stage a).missing = (s.stage a).missing + k
    ∧ ((s.stage a).missing + k < 5 → t.fld = s.fld)
    ∧ (5 ≤ (s.stage a).missing + k → t.get (DUC_STG_STAGE_LOST a) = 1 ∧ ∀ n : Fin 16, a.val = 8 + n → sledMode t n = 1)

/-- Training and loss of a link. ENABLE cleared takes the port DOWN; signal on a port that is DOWN, enabled and trains by itself, or RETRAIN, starts
SLOW_LOCK; SLOW_LOCK leads to DESKEW with every lane locked, DESKEW to CAPS where the counters of the lanes' codewords lie within 7, CAPS to UP at N1
and to SHIFT at N2, SHIFT, with the N2 PLL locked and every lane locked again, to UP, and everything else to FAIL, from which the port falls DOWN. An
N2 PLL lock suspends the N1 ports of its quad that are UP, until a deskew; 1 ms of it is a loss. An N2 port that is UP reports its skews. A lane lost
degrades an UP port to three, or with one lost already takes it DOWN. Nothing happens where a premise fails (assumption 4); the corners that the
manual leaves open are the model's choice (assumptions 29, 30 and 100 to 102). Says of each of these rows that it answers a next state with its own
effect: LK_ENABLE_WRITE, SIGNAL_DETECT, RETRAIN, TRAIN_STEP, TRAIN_TIMEOUT, FAIL_WAIT_END, PLL_LOCK, DESKEW, DESKEW_DONE, DESKEW_SUSPEND_EXPIRY,
LINK_DOWN, LANE_LOST. (R260, R261, R276, R277, R278, R280, R281, R282, R284) -/
def Obligations.LinkTraining : Prop :=
  (∀ (n : Fin 16) (set : Bool) (s : State), s.boot.low = false → ∃ t, exec (.lkEnableWrite n set) s = .next t ∧ t.get (LK_CTRL_ENABLE n) = (if set then 1 else 0)
    ∧ (set = true → OnlyFields [LK_CTRL_ENABLE n] s t)
    ∧ (set = false → lkState t n = 0 ∧ (linkUp s n = true → t.get (LK_EVENT_LINK_DOWN n) = 1)))
  ∧ (∀ (n : Fin 16) (s : State), ∃ t, exec (.signalDetect n) s = .next t
    ∧ (lkState s n = 0 → s.get (LK_CTRL_ENABLE n) = 1 → s.get (LK_CTRL_AUTO_TRAIN n) = 1 → lkState t n = 1 ∧ t.get (LK_STATUS_LANES n) = 0
        ∧ SameFields [LK_STATUS_STATE n, LK_STATUS_GEN n, LK_STATUS_LANES n, LK_STATUS_DEGRADED n] s t)
    ∧ (lkState s n ≠ 0 ∨ s.get (LK_CTRL_ENABLE n) ≠ 1 ∨ s.get (LK_CTRL_AUTO_TRAIN n) ≠ 1 → t = s))
  ∧ (∀ (n : Fin 16) (s : State), s.boot.low = false → ∃ t, exec (.retrain n) s = .next t
    ∧ (s.get (LK_CTRL_ENABLE n) ≠ 1 → t = s)
    ∧ (s.get (LK_CTRL_ENABLE n) = 1 → lkState t n = 1
        ∧ (linkUp s n = true → t.get (LK_EVENT_LINK_DOWN n) = 1 ∧ t.get (LK_CNT_LINK_DOWNS n) = min (s.get (LK_CNT_LINK_DOWNS n) + 1) (2 ^ 16 - 1))))
  ∧ (∀ (n : Fin 16) (res : TrainResult) (s : State), ∃ t, exec (.trainStep n res) s = .next t
    ∧ (∀ heads, res = .locked heads →
        (lkState s n = 1 → (∀ i, i < 4 → laneLocked i ((heads.getD i []).map BitVec.toNat) = true) → lkState t n = 2 ∧ SameFields [LK_STATUS_STATE n] s t)
        ∧ (lkState s n = 4 → (∀ i, i < 4 → laneLocked i ((heads.getD i []).map BitVec.toNat) = true) → (s.link (n / 4 * 4)).quadLocked = true →
            t.fld = s.fld ∧ (t.link n).relocked = true)
        ∧ (lkState s n ∉ [1, 4] ∨ lkState s n = 4 ∧ (s.link (n / 4 * 4)).quadLocked = false ∨ (∃ i, i < 4 ∧ laneLocked i ((heads.getD i []).map BitVec.toNat) = false) → t = s))
    ∧ (∀ heads units c, res = .skew heads units → c = heads.map (fun h => h.toNat / 2 ^ 13 % 16) →
        (lkState s n = 2 ∨ lkState s n = 4 ∧ (s.link n).relocked = true → (∃ a ∈ c, ∀ b ∈ c, (a + 16 - b) % 16 ≤ 7) → lkState t n = (if lkState s n = 2 then 3 else 5)
            ∧ ∀ i : Fin 4, t.get (LK_LANE_SKEW_SKEW n i) = units.getD i 0 % 2 ^ 16)
        ∧ (lkState s n = 4 → (s.link n).relocked = true → (∃ a ∈ c, ∀ b ∈ c, (a + 16 - b) % 16 ≤ 7) →
            t.get (LK_STATUS_LANES n) = 15 ∧ t.get (LK_SIDX_SIDX n) = 0 ∧ t.get (LK_EVENT_LINK_UP n) = 1)
        ∧ (lkState s n = 2 ∨ lkState s n = 4 ∧ (s.link n).relocked = true → (∀ a ∈ c, ∃ b ∈ c, 7 < (a + 16 - b) % 16) → lkState t n = 6 ∧ t.get (LK_EVENT_TRAIN_FAIL n) = 1)
        ∧ (lkState s n ∉ [2, 4] ∨ lkState s n = 4 ∧ (s.link n).relocked = false → t = s))
    ∧ (∀ gen nibs port dual id, res = .caps gen nibs port dual id →
        (lkState s n = 3 → gen = 1 ∧ nibs = 8 ∨ gen = 2 ∧ nibs = 16 → lkState t n = (if gen = 1 then 5 else 4) ∧ t.get (LK_STATUS_GEN n) = gen
            ∧ t.get (LK_CAP_NIBS n) = nibs ∧ t.get (LK_PEN_ID_PEN_ID n) = id.toNat ∧ t.get (LK_STATUS_PEN_PORT n) = (if port then 1 else 0))
        ∧ (lkState s n = 3 → ¬(gen = 1 ∧ nibs = 8 ∨ gen = 2 ∧ nibs = 16) → lkState t n = 6 ∧ t.get (LK_EVENT_TRAIN_FAIL n) = 1)
        ∧ (lkState s n ≠ 3 → t = s))
    ∧ (res = .failed → exec (.trainTimeout n) s = .next t))
  ∧ (∀ (n : Fin 16) (s : State), ∃ t, exec (.trainTimeout n) s = .next t
    ∧ (lkState s n ∈ [1, 2, 3, 4] → lkState t n = 6 ∧ t.get (LK_EVENT_TRAIN_FAIL n) = 1 ∧ SameFields [LK_STATUS_STATE n, LK_EVENT_TRAIN_FAIL n] s t)
    ∧ (lkState s n ∉ [1, 2, 3, 4] → t = s))
  ∧ (∀ (n : Fin 16) (s : State), ∃ t, exec (.failWaitEnd n) s = .next t
    ∧ (lkState s n = 6 → lkState t n = 0 ∧ SameFields [LK_STATUS_STATE n, LK_STATUS_GEN n, LK_STATUS_LANES n] s t) ∧ (lkState s n ≠ 6 → t = s))
  ∧ (∀ (q : Fin 4) (s : State), ∃ t, exec (.pllLock q) s = .next t
    ∧ (pllRuns s q = true → (s.link (4 * q)).quadLocked = false → (t.link (4 * q)).quadLocked = true
        ∧ ∀ n : Fin 16, n.val / 4 = q → t.get (LK_EVENT_PLL_LOCK n) = 1
          ∧ (t.link n).suspended = ((linkUp s n && isN1 s n) || (s.link n).suspended))
    ∧ (pllRuns s q = false ∨ (s.link (4 * q)).quadLocked = true → t = s))
  ∧ (∀ (n : Fin 16) (s : State), s.boot.low = false → ∃ t, exec (.deskew n) s = .next t
    ∧ (linkUp s n = true → isN1 s n = true → t.get (LK_CTRL_DESKEW n) = 1 ∧ OnlyFields [LK_CTRL_DESKEW n] s t)
    ∧ (linkUp s n = false ∨ isN1 s n = false → t.get (LK_EVENT_DESKEW_DONE n) = 1 ∧ OnlyFields [LK_EVENT_DESKEW_DONE n] s t))
  ∧ (∀ (n : Fin 16) (heads : List (BitVec 19)) (units : List Nat) (s : State), ∃ t, exec (.deskewDone n heads units) s = .next t
    ∧ ∀ c, c = heads.map (fun h => h.toNat / 2 ^ 13 % 16) →
      (linkUp s n = true → (∃ a ∈ c, ∀ b ∈ c, (a + 16 - b) % 16 ≤ 7) → s.get (LK_CTRL_DESKEW n) = 1 ∨ isN1 s n = false →
          ∀ i : Fin 4, t.get (LK_LANE_SKEW_SKEW n i) = units.getD i 0 % 2 ^ 16)
      ∧ (s.get (LK_CTRL_DESKEW n) = 1 → linkUp s n = true → (∃ a ∈ c, ∀ b ∈ c, (a + 16 - b) % 16 ≤ 7) →
          t.get (LK_CTRL_DESKEW n) = 0 ∧ t.get (LK_EVENT_DESKEW_DONE n) = 1 ∧ (t.link n).suspended = false)
      ∧ (linkUp s n = false ∨ isN1 s n = true ∧ s.get (LK_CTRL_DESKEW n) ≠ 1 ∨ (∀ a ∈ c, ∃ b ∈ c, 7 < (a + 16 - b) % 16) → t = s))
  ∧ (∀ (n : Fin 16) (s : State), ∃ t, exec (.deskewSuspendExpiry n) s = .next t
    ∧ ((s.link n).suspended = true → exec (.linkDown n) s = .next t) ∧ ((s.link n).suspended = false → t = s))
  ∧ (∀ (n : Fin 16) (s : State), ∃ t, exec (.linkDown n) s = .next t
    ∧ (linkUp s n = true → lkState t n = 0 ∧ t.get (LK_EVENT_LINK_DOWN n) = 1 ∧ t.get (LK_STATUS_LANES n) = 0 ∧ t.get (LK_STATUS_GEN n) = 0
        ∧ t.get (LK_CTRL_DESKEW n) = 0 ∧ (t.link n).suspended = false)
    ∧ (linkUp s n = false → t = s))
  ∧ ∀ (n : Fin 16) (lane : Fin 4) (why : LaneLoss) (s : State), ∃ t, exec (.laneLost n lane why) s = .next t
    ∧ (∀ c, why = .uncorrectable c → (s.link n).suspended = true ∨ c < max 1 (s.get (LK_ERR_CFG_UNC_MAX n)) → t = s)
    ∧ (why = .absent ∨ (∃ c, why = .uncorrectable c ∧ (s.link n).suspended = false ∧ max 1 (s.get (LK_ERR_CFG_UNC_MAX n)) ≤ c) →
        (lkState s n ∈ [1, 2, 3, 4] → lkState t n = 6 ∧ t.get (LK_EVENT_TRAIN_FAIL n) = 1)
        ∧ (linkUp s n = true → s.bit (LK_STATUS_LANES n) lane = true → s.get (LK_STATUS_DEGRADED n) ≠ 1 → s.get (LK_CTRL_DEG_EN n) = 1 →
            t.get (LK_STATUS_DEGRADED n) = 1 ∧ t.get (LK_EVENT_DEGRADED n) = 1 ∧ t.bit (LK_STATUS_LANES n) lane = false
              ∧ SameFields [LK_STATUS_LANES n, LK_STATUS_DEGRADED n, LK_EVENT_DEGRADED n] s t)
        ∧ (linkUp s n = true → s.bit (LK_STATUS_LANES n) lane = true → s.get (LK_STATUS_DEGRADED n) = 1 ∨ s.get (LK_CTRL_DEG_EN n) ≠ 1 →
            lkState t n = 0 ∧ t.get (LK_EVENT_LINK_DOWN n) = 1))

/-- Packets, by their headers. A port that does not receive takes none, nor does a row another type. Samples of a nib that is on and that its pen sends
enter its ring at the sample index of their interval, counted from the close of the last one, and the count of missing packets grows by the gap in
their sequence; ruling samples enter theirs shifted left by 2, and RNI's advance the count of periods; servo parts gather until the window is whole,
and then a sample waits for its tick; a pen's status gives its flags, its state and the loop delay, and takes the link down without a valid downlink;
its claim status gives the obeyed port and both claims; acknowledgements end the table load whose last segment's SEQ they carry, or are recorded; the
symbols corrected on each lane are counted; an uncorrectable codeword is counted. A CLAIM carries class, node, epoch and time; write data fill a FIFO,
and leave it while the nib burns, for a claimed pen only. Nothing happens where a premise fails (assumption 4); the corners that the manual leaves
open are the model's choice (assumptions 29, 30 and 100 to 102). Says of each of these rows that it answers a next state with its own effect: SAMPLES,
RULING, SERVO, PEN_STATUS, CLAIM_STATUS, ACK, WS_LOAD_DONE, UNCORRECTABLE_CODEWORD, CLAIM, WRITE. (R42, R55, R60, R262, R263, R265, R266, R267, R268,
R272, R275, R279, R280, R285) -/
def Obligations.LinkPackets : Prop :=
  (∀ (n : Fin 16) (h : PktHeader) (data : List (BitVec 8)) (steps : List ChanStep) (s : State), ∃ t, exec (.samples n h data steps) s = .next t
    ∧ ∀ k seq, k = h.toNat / 2 ^ 24 % 16 → seq = h.toNat / 2 ^ 16 % 256 →
      (h.toNat / 2 ^ 28 ≠ 1 ∨ receiving s n = false ∨ dataNibs s n ≤ k ∨ nibUnsent s n k = true → t = s)
      ∧ (h.toNat / 2 ^ 28 = 1 → receiving s n = true → k < dataNibs s n → nibUnsent s n k = false → nibOn s n k = false → SameFields [LK_CNT_PKT_LOST n, LK_SIDX_SIDX n] s t
        ∧ t.get (LK_CNT_PKT_LOST n) = min (s.get (LK_CNT_PKT_LOST n) + pktGap s n (32 + k) seq 256) (2 ^ 16 - 1))
      ∧ ∀ p i, (s.link n).seqs.find? 512 = some p →
        i = (s.link n).closed + (if seq = p ∨ 128 ≤ (seq + 256 - p) % 256 then 0 else (seq + 256 - p) % 256 * data.length) →
        h.toNat / 2 ^ 28 = 1 → receiving s n = true → nibOn s n k = true → nibUnsent s n k = false → s.get (RUL_STATUS_CLK_SRC n) = 1 → steps = [] →
        p < 256 → (s.nib n k).anew = false →
        (s.nib n k).ring = [] ∨ i ≤ (s.nib n k).at_ + data.length →
          (t.nib n k).ring = (data.reverse ++ (s.nib n k).ring).take 81920 ∧ (t.nib n k).at_ = i
            ∧ SameFields [LK_CNT_PKT_LOST n, LK_SIDX_SIDX n] s t)
  ∧ (∀ (n : Fin 16) (h : PktHeader) (data : List (BitVec 6)) (s : State), ∃ t, exec (.ruling n h data) s = .next t
    ∧ ∀ c seq, c = h.toNat / 2 ^ 24 % 16 → seq = h.toNat / 2 ^ 16 % 256 →
      (h.toNat / 2 ^ 28 ≠ 2 ∨ receiving s n = false ∨ 1 < c → t = s)
      ∧ ∀ p i, (s.link n).seqs.find? 512 = some p →
        i = (s.link n).closed + (if seq = p ∨ 128 ≤ (seq + 256 - p) % 256 then 0 else (seq + 256 - p) % 256 * data.length) →
        h.toNat / 2 ^ 28 = 2 → receiving s n = true → c ≤ 1 → p < 256 → (s.nib n (16 + c)).ring = [] ∨ i ≤ (s.nib n (16 + c)).at_ + data.length →
          (t.nib n (16 + c)).ring = ((data.map fun x => BitVec.ofNat 8 (4 * x.toNat)).reverse ++ (s.nib n (16 + c)).ring).take 81920
          ∧ (t.nib n (16 + c)).at_ = i
          ∧ (c = 1 → t.rul = s.rul ∧ SameFields [LK_CNT_PKT_LOST n, LK_SIDX_SIDX n] s t)
          ∧ ∀ m new, c = 0 → m = s.get (RUL_PERIODS_M_RNI n) → s.get (RUL_STATUS_ANGLE_VALID n) = 1 → m ≠ 0 → (s.ruling n).count < 1024 * m →
              (s.ruling n).slipBin = none →
              new = (if (s.nib n 16).ring = [] then data.length else i - (s.nib n 16).at_) →
                (t.ruling n).count = min ((s.ruling n).count / m * m + (m - 1)) ((s.ruling n).count + ((s.ruling n).sub + new) / 8)
                  ∧ t.get (RUL_ANGLE_BIN n) = (s.ruling n).count / m % 1024)
  ∧ (∀ (n : Fin 16) (h : PktHeader) (words : List Word) (sets : List (List (List Nat))) (s : State), ∃ t, exec (.servo n h words sets) s = .next t
    ∧ ∀ part w, part = h.toNat / 2 ^ 23 % 32 → w = h.toNat % 2 ^ 16 →
      (h.toNat / 2 ^ 28 ≠ 3 ∨ receiving s n = false ∨ servoParts s n ≤ part → t = s)
      ∧ (h.toNat / 2 ^ 28 = 3 → receiving s n = true → s.get (SV_CTRL_ENABLE n) ≠ 1 → t.sups = s.sups ∧ SameFields [LK_CNT_PKT_LOST n] s t)
      ∧ (h.toNat / 2 ^ 28 = 3 → receiving s n = true → s.get (SV_CTRL_ENABLE n) = 1 → part + 1 < servoParts s n →
        (t.sup n).window = w ∧ (t.sup n).sample = (s.sup n).sample ∧ SameFields [LK_CNT_PKT_LOST n] s t
          ∧ (t.sup n).parts = (if part = 0 ∨ (s.sup n).window ≠ w then [] else (s.sup n).parts) ++ [part])
      ∧ (h.toNat / 2 ^ 28 = 3 → receiving s n = true → s.get (SV_CTRL_ENABLE n) = 1 → part + 1 = servoParts s n → (s.sup n).window = w →
        (s.sup n).parts ++ [part] = List.range (servoParts s n) →
          (t.sup n).sample ≠ none ∧ (t.sup n).lastWindow = some w ∧ (t.sup n).parts = []))
  ∧ (∀ (n : Fin 16) (h : PktHeader) (words : List Word) (corr : List Nat) (s : State), ∃ t, exec (.penStatus n h words corr) s = .next t
    ∧ (h.toNat / 2 ^ 28 ≠ 4 ∨ receiving s n = false → t = s)
    ∧ ∀ f d, f = (words.getD 1 0).toNat → d = min 65535 (4 * ((words.getD 2 0).toNat % 2 ^ 16)) → h.toNat / 2 ^ 28 = 4 → receiving s n = true →
        t.get (LK_FLAGS_FLAGS n) = f / 2 ^ 16 ∧ t.get (LK_STATUS_PEN_STATE n) = (if f.testBit 28 then 2 else if f.testBit 29 then 1 else 0)
        ∧ t.get (SV_DELAY_LAST_NS n) = d ∧ t.get (SV_DELAY_MAX_NS n) = max d (s.get (SV_DELAY_MAX_NS n))
        ∧ (f.testBit 28 = true → s.get (LK_STATUS_PEN_STATE n) ≠ 2 → t.get (LK_EVENT_SAFE n) = 1)
        ∧ (s.get (SV_DELAY_CFG_LIMIT_NS n) < d → t.get (SV_EVENT_DELAY_OVER n) = 1)
        ∧ (∀ i : Fin 4, t.get (LK_LANE_CORR_CORR n i) = min (s.get (LK_LANE_CORR_CORR n i) + corr.getD i 0) (2 ^ 32 - 1))
        ∧ (f.testBit 27 = true → lkState t n = 5) ∧ (f.testBit 27 = false → lkState t n = 0 ∧ t.get (LK_EVENT_LINK_DOWN n) = 1))
  ∧ (∀ (n : Fin 16) (h : PktHeader) (words : List Word) (s : State), ∃ t, exec (.claimStatus n h words) s = .next t
    ∧ (h.toNat / 2 ^ 28 ≠ 5 ∨ receiving s n = false → t = s)
    ∧ ∀ w1 w2, w1 = (words.getD 0 0).toNat → w2 = (words.getD 1 0).toNat → h.toNat / 2 ^ 28 = 5 → receiving s n = true →
        t.get (LK_CLAIM_OBEYED_PORT n) = (if w1.testBit 31 then 1 else 0) ∧ t.get (LK_CLAIM_HELD n) = (if w1.testBit 30 then 1 else 0)
        ∧ t.get (LK_CLAIM_CLAIM n) = w1 % 2 ^ 16 ∧ t.get (LK_CLAIM_PORTS_PORT0 n) = w2 / 2 ^ 16 ∧ t.get (LK_CLAIM_PORTS_PORT1 n) = w2 % 2 ^ 16
        ∧ t.get (LK_STATUS_OBEYED n) = (if w1.testBit 30 && w1.testBit 31 == s.on (LK_STATUS_PEN_PORT n) then 1 else 0)
        ∧ t.get (VRS_OUT_HELD_HERE n) = t.get (LK_STATUS_OBEYED n)
        ∧ ∀ q, (s.link n).claimSeen = some q → q ≠ (w1.testBit 31, w1.testBit 30) → t.get (LK_EVENT_OBEY_CHANGE n) = 1)
  ∧ (∀ (n k : Fin 16) (h : PktHeader) (s : State), ∃ t, exec (.ack n k h) s = .next t
    ∧ (h.toNat / 2 ^ 28 ≠ 6 ∨ receiving s n = false → t = s)
    ∧ ∀ kind, kind = h.toNat / 2 ^ 24 % 16 → h.toNat / 2 ^ 28 = 6 → receiving s n = true →
        (kind = 1 → acksLoad s n k (h.toNat / 2 ^ 16 % 256) = true → exec (.wsLoadDone n true) s = .next t)
        ∧ (kind = 2 → acksLoad s n k (h.toNat / 2 ^ 16 % 256) = true → exec (.wsLoadDone n false) s = .next t)
        ∧ (kind = 1 ∨ kind = 2 → acksLoad s n k (h.toNat / 2 ^ 16 % 256) = false → t = s)
        ∧ (kind = 3 → t.get (LK_EVENT_ACK_LATE n) = 1) ∧ (kind = 4 → t.get (LK_EVENT_WRITE_GAP n) = 1)
        ∧ (kind = 4 → burningDesc s n k = none → OnlyFields [LK_EVENT_WRITE_GAP n] s t)
        ∧ (kind = 4 → burningDesc s n k ≠ none → t.get (WC_EVENT_UNDERRUN n) = 1))
  ∧ (∀ (n : Fin 16) (lane : Fin 4) (c : Nat) (cut : List PktHeader) (s : State), ∃ t, exec (.uncorrectableCodeword n lane c cut) s = .next t
    ∧ (linkUp s n = false → t = s)
    ∧ (linkUp s n = true → cut = [] → t.get (LK_LANE_UNC_UNC n lane) = min (s.get (LK_LANE_UNC_UNC n lane) + 1) (2 ^ 16 - 1)
        ∧ t.get (LK_LANE_CORR_CORR n lane) = min (s.get (LK_LANE_CORR_CORR n lane) + c) (2 ^ 32 - 1)
        ∧ OnlyFields [LK_LANE_UNC_UNC n lane, LK_LANE_CORR_CORR n lane] s t))
  ∧ (∀ (n : Fin 16) (s : State), ∃ t, exec (.claim n) s = .next t ∧ t.fld = s.fld
    ∧ (linkUp s n = false → t = s)
    ∧ (linkUp s n = true → ((t.link n).claimSent.map fun x => x.2) =
        some (s.get (VRS_OUT_CLASS n) * 4096 + s.get VRS_NODE_NODE_ID, s.get VRS_EPOCH_EPOCH, s.now % 2 ^ 32)))
  ∧ ∀ (n k : Fin 16) (filled : Nat) (s : State), ∃ t, exec (.write n k filled) s = .next t ∧ t.fld = s.fld
    ∧ (linkUp s n = false ∨ claims s n = false → t = s)
    ∧ ∀ full sent, full = min 32768 ((s.writeCh n).fifo.getD k 0 + filled) → sent = (s.writeCh n).sent.getD k 0 → linkUp s n = true → claims s n = true →
        (burningDesc s n k = none ∨ 632000 ≤ sent ∨ 8 * full < min 1024 (632000 - sent) → (t.writeCh n).fifo.getD k 0 = full ∧ t.links = s.links)
        ∧ ∀ d, burningDesc s n k = some d → sent < 632000 → min 1024 (632000 - sent) ≤ 8 * full →
            ((t.link n).written.find? k).map (fun x => x.2) = some (nextBits d k sent) ∧ (t.writeCh n).sent.getD k 0 = sent + 1024
            ∧ (t.writeCh n).fifo.getD k 0 = full - min 128 ((632000 - sent) / 8)

/-- The arbiter of an Inkwell channel and self-refresh. Nothing is granted in self-refresh, with 32 transfers queued, or of an address of another channel.
A transfer alone at its channel is granted: counters, pointer and queue follow, a read brings back the block, a write stores the bytes of its mask and
no others, and one to the check-region window is only recorded. Entering, leaving and having left self-refresh follow SR_STATE, with SR_REQ written to
1 on the way out it enters again, and entering it empties the queues and makes every write-back. A base holds from its write; a clear of LONGEST keeps
an update of its cycle. Nothing happens where a premise fails (assumption 4); the corners that the manual leaves open are the model's choice
(assumptions 9, 32 and 122). Says of each of these rows that it answers a next state with its own effect: INK_GRANT, SR_ENTER, SR_EXIT_START, SR_EXIT,
SELF_REFRESH_ENTERED, ARB_BASE_WRITE, LONGEST_CLEAR. (R287, R288, R293, R297, R298, R299, R300, R301, R308) -/
def Obligations.InkArbiter : Prop :=
  (∀ (c : Fin 8) (d : Nat) (reqs : List InkReq) (s : State), s.ink.told = false → ∃ t, exec (.inkGrant c d reqs) s = .next t
    ∧ (s.get INK_STATUS_SR_STATE ≠ 0 ∨ 32 ≤ s.get (INK_CH_STATUS_QUEUED c) - d ∨ (∀ q ∈ reqs, channelOf (xferAddr q.xfer) ≠ c) →
        t.get (INK_CH_STATUS_QUEUED c) = s.get (INK_CH_STATUS_QUEUED c) - d ∧ SameMemory s t
          ∧ ∀ r : Fin 40, t.get (INK_ARB_GRANTS_GRANTS r) = s.get (INK_ARB_GRANTS_GRANTS r))
    ∧ (s.get INK_STATUS_SR_STATE = 2 → (∃ q ∈ reqs, channelOf (xferAddr q.xfer) = c) → t.get INK_STATUS_SR_STATE = 3 ∧ t.get INK_CTRL_SR_REQ = 0)
    ∧ ∀ q, reqs = [q] → channelOf (xferAddr q.xfer) = c → s.get INK_STATUS_SR_STATE = 0 → s.get (INK_CH_STATUS_QUEUED c) - d < 32 → fillAllows s q = true →
        (∀ a, q.xfer = .read a .none → a.toNat < inkLimit → s.poisoned (a.toNat / 64) = false → s.ink.planted.find? (a.toNat / 64) = none →
          t.ink.rets.find? q.r = some (s.bytesAt (64 * (a.toNat / 64)) 64, false) ∧ SameMemory s t
            ∧ t.get (INK_CH_STATUS_QUEUED c) = s.get (INK_CH_STATUS_QUEUED c) - d + 1 ∧ t.get (INK_CH_STATUS_RR_PTR c) = (q.r.val + 1) % 40
            ∧ t.get (INK_ARB_GRANTS_GRANTS q.r) = min (s.get (INK_ARB_GRANTS_GRANTS q.r) + 1) (2 ^ 48 - 1))
        ∧ (∀ a mask data, q.xfer = .write a mask data false .none → a.toNat < inkLimit → s.poisoned (a.toNat / 64) = false →
          s.ink.planted.find? (a.toNat / 64) = none → s.get INK_ECC_TEST_ARM ≠ 1 →
            (∀ i, i < 64 → t.byte (64 * (a.toNat / 64) + i) = if mask.toNat.testBit i then data.getD i 0 else s.byte (64 * (a.toNat / 64) + i))
            ∧ (∀ x, x / 64 ≠ a.toNat / 64 → t.byte x = s.byte x) ∧ ∀ b, t.poisoned b = s.poisoned b)
        ∧ (inkLimit ≤ xferAddr q.xfer → t.get INK_EVENT_ADDR_ERR = 1 ∧ SameMemory s t
            ∧ (s.get INK_ADDR_ERR_VALID ≠ 1 → t.get INK_ADDR_ERR_SOURCE = q.r ∧ t.get INK_ADDR_ERR_ADDR = xferAddr q.xfer / 64)))
  ∧ (∀ s : State, s.boot.low = false → ∃ t, exec .srEnter s = .next t ∧ t.get INK_CTRL_SR_REQ = 1
    ∧ t.get INK_STATUS_SR_STATE = (if s.get INK_STATUS_SR_STATE = 0 then 1 else s.get INK_STATUS_SR_STATE)
    ∧ OnlyFields [INK_CTRL_SR_REQ, INK_STATUS_SR_STATE] s t)
  ∧ (∀ s : State, s.boot.low = false → ∃ t, exec .srExitStart s = .next t ∧ t.get INK_CTRL_SR_REQ = 0
    ∧ t.get INK_STATUS_SR_STATE = (if s.get INK_STATUS_SR_STATE ∈ [1, 2] then 3 else s.get INK_STATUS_SR_STATE)
    ∧ OnlyFields [INK_CTRL_SR_REQ, INK_STATUS_SR_STATE] s t)
  ∧ (∀ s : State, ∃ t, exec .srExit s = .next t
    ∧ (s.get INK_STATUS_SR_STATE = 3 → t.get INK_STATUS_SR_STATE = (if s.get INK_CTRL_SR_REQ = 1 then 1 else 0) ∧ t.get INK_EVENT_SR_EXIT = 1
        ∧ OnlyFields [INK_STATUS_SR_STATE, INK_EVENT_SR_EXIT] s t)
    ∧ (s.get INK_STATUS_SR_STATE ≠ 3 → t = s))
  ∧ (∀ s : State, ∃ t, exec .selfRefreshEntered s = .next t
    ∧ (s.get INK_STATUS_SR_STATE = 1 → t.get INK_STATUS_SR_STATE = 2 ∧ (∀ a, t.byte a = s.byte a)
        ∧ ∀ c : Fin 8, t.get (INK_CH_STATUS_QUEUED c) = 0 ∧ (t.inkCh c).wbs = [])
    ∧ (s.get INK_STATUS_SR_STATE ≠ 1 → t = s))
  ∧ (∀ (i : Fin 5) (v : Word) (s : State), s.boot.low = false → ∃ t, exec (.arbBaseWrite i v) s = .next t ∧ t.get (INK_ARB_BASE_BASE i) = v.toNat
    ∧ OnlyFields [INK_ARB_BASE_BASE i] s t)
  ∧ ∀ (r : Fin 40) (v : Word) (u : Option Nat) (s : State), s.boot.low = false → ∃ t, exec (.longestClear r v u) s = .next t
    ∧ (u = none → t.get (INK_ARB_LONGEST_LONGEST r) = s.get (INK_ARB_LONGEST_LONGEST r) ^^^ (s.get (INK_ARB_LONGEST_LONGEST r) &&& v.toNat))
    ∧ (∀ x, u = some x → x < 2 ^ 32 → x ≤ t.get (INK_ARB_LONGEST_LONGEST r))
    ∧ OnlyFields [INK_ARB_LONGEST_LONGEST r] s t

/-- Errors, fill, scrubbing and tests. A write-back clears or sets the mark of its block and stores no byte; the rate window restarts, once the self-
diagnosis has been told; the fill zeroes what it passes, with its marks and what was planted there, lets a write that waited for it stand, and is done
at 0xF000 MiB; the scrubber reads its next block, and counts, records and writes back what the decoding gives. Tests need Diagnostic or Crypto Officer
authority: without it MECH, ARM and STORE are refused; STORE reaches the block of the split test alone. Nothing happens where a premise fails
(assumption 4); the corners that the manual leaves open are the model's choice (assumptions 9, 32 and 122). Says of each of these rows that it answers
a next state with its own effect: ECC_WRITEBACK, UE_WINDOW, FILL_DONE, SCRUB_READ, ECC_TEST_MECH, ECC_TEST_ARM, ECC_TEST_STORE. (R291, R292, R295,
R296, R302, R303, R304, R306) -/
def Obligations.InkErrors : Prop :=
  (∀ (c : Fin 8) (s : State), ∃ t, exec (.eccWriteback c) s = .next t ∧ (∀ a, t.byte a = s.byte a)
    ∧ ((s.inkCh c).wbs = [] → t = s)
    ∧ ∀ w r, (s.inkCh c).wbs = w :: r →
        (t.inkCh c).wbs = (if channelOf (64 * w.block) = c then r.filter (fun x => x.block != w.block) else r)
        ∧ t.poisoned w.block = w.poison ∧ (∀ b, b ≠ w.block → t.poisoned b = s.poisoned b)
        ∧ SameFields [INK_CH_SCRUB_BUSY c, INK_CH_SCRUB_BUSY (channelOf (64 * w.block))] s t)
  ∧ (∀ s : State, ∃ t, exec .ueWindow s = .next t ∧ t.ink.ueCount = 0
    ∧ (s.ink.told = false → { t with ink := s.ink } = s) ∧ (s.ink.told = true → t.bit VRS_DIAG_CAUSE 4 = true ∧ t.ink.told = false))
  ∧ (∀ (mark : Nat) (s : State), ∃ t, exec (.fillDone mark) s = .next t
    ∧ (s.get INK_STATUS_FILL_RUN ≠ 1 ∨ min 0xF000 mark ≤ s.get INK_STATUS_FILL_MARK → t = s)
    ∧ (s.get INK_STATUS_FILL_RUN = 1 → s.get INK_STATUS_FILL_MARK < min 0xF000 mark → t.get INK_STATUS_FILL_MARK = min 0xF000 mark
        ∧ (s.ink.early = [] → ∀ a, t.byte a = if s.get INK_STATUS_FILL_MARK ≤ a / 2 ^ 20 ∧ a / 2 ^ 20 < min 0xF000 mark then 0 else s.byte a)
        ∧ (s.ink.early = [] → ∀ b, t.poisoned b = (s.poisoned b && !(s.get INK_STATUS_FILL_MARK ≤ b / 2 ^ 14 && b / 2 ^ 14 < min 0xF000 mark)))
        ∧ (∀ w, s.ink.early = [w] → w.bytes.length = w.len → w.addr + w.len ≤ min 0xF000 mark * 2 ^ 20 → t.bytesAt w.addr w.len = w.bytes ∧ t.ink.early = [])
        ∧ (∀ b, s.get INK_STATUS_FILL_MARK ≤ b / 2 ^ 14 → b / 2 ^ 14 < min 0xF000 mark → t.ink.planted.find? b = none)
        ∧ (0xF000 ≤ mark → t.get INK_STATUS_FILL_DONE = 1 ∧ t.get INK_STATUS_FILL_RUN = 0 ∧ t.get INK_EVENT_FILL_DONE = 1)
        ∧ (mark < 0xF000 → SameFields (INK_STATUS_FILL_MARK :: (List.range 8).map INK_CH_SCRUB_BUSY) s t)))
  ∧ (∀ (c : Fin 8) (gap us : Nat) (f : ReadFault) (s : State), s.ink.told = false → ∃ t, exec (.scrubRead c gap us f) s = .next t
    ∧ (s.get (INK_CH_SCRUB_EN c) ≠ 1 ∨ s.get INK_STATUS_SR_STATE ≠ 0 ∨ s.get (INK_CH_STATUS_QUEUED c) ≠ 0
        ∨ gap < max 1 (s.get (INK_CH_SCRUB_GAP c)) → t = s)
    ∧ ∀ b, b = scrubAddr c (s.inkCh c).scrub / 64 → s.get (INK_CH_SCRUB_EN c) = 1 → s.get INK_STATUS_SR_STATE = 0 →
        s.get (INK_CH_STATUS_QUEUED c) = 0 → max 1 (s.get (INK_CH_SCRUB_GAP c)) ≤ gap → s.get INK_ECC_TEST_HALF ≠ 1 → s.poisoned b = false →
        s.ink.planted.find? b = none → s.ink.ueCount + 1 ≠ max 1 (s.get INK_ECC_CTRL_UE_LIMIT) →
          (t.inkCh c).scrub = ((s.inkCh c).scrub + 1) % channelBlocks ∧ SameMemory s t
          ∧ (f = .none → (t.inkCh c).wbs = (s.inkCh c).wbs ∧ t.get (INK_CH_ERRCNT_CE c) = s.get (INK_CH_ERRCNT_CE c))
          ∧ (f = .flips 1 ∨ f = .flips 2 → t.get (INK_CH_ERRCNT_CE c) = min (s.get (INK_CH_ERRCNT_CE c) + 1) (2 ^ 16 - 1) ∧ t.get INK_EVENT_CE = 1
              ∧ (s.get INK_ECC_CTRL_CE_WB = 1 → (t.inkCh c).wbs = ((s.inkCh c).wbs.filter fun x => x.block != b) ++ [{ block := b, poison := false, scrub := true }]))
          ∧ (f = .flips 3 ∨ f = .address → t.get (INK_CH_ERRCNT_UE c) = min (s.get (INK_CH_ERRCNT_UE c) + 1) (2 ^ 16 - 1) ∧ t.get INK_EVENT_UE = 1
              ∧ t.ink.ueCount = s.ink.ueCount + 1 ∧ t.get INK_UE_LOG_VALID = 1
              ∧ (s.get INK_ECC_CTRL_UE_WB = 1 → (t.inkCh c).wbs = ((s.inkCh c).wbs.filter fun x => x.block != b) ++ [{ block := b, poison := true, scrub := true }]))
          ∧ ((s.inkCh c).scrub + 1 = channelBlocks → t.get INK_EVENT_SCRUB_LAP = 1 ∧ t.get (INK_CH_LAP_ELAPSED_MS c) = 0
              ∧ t.get (INK_CH_LAP_LAST_MS c) = min (2 ^ 32 - 1) (((s.inkCh c).lapUs + us) / 1000)))
  ∧ (∀ (split : Bool) (s : State), s.boot.low = false → ∃ t, exec (.eccTestMech split) s = .next t
    ∧ (s.get INK_ECC_TEST_MECH = (if split then 1 else 0) → t = s)
    ∧ (testAuthority s = true → t.get INK_ECC_TEST_MECH = (if split then 1 else 0) ∧ OnlyFields [INK_ECC_TEST_MECH] s t)
    ∧ (testAuthority s = false → s.get INK_ECC_TEST_MECH ≠ (if split then 1 else 0) →
        t.get INK_EVENT_TEST_REFUSED = 1 ∧ OnlyFields [INK_EVENT_TEST_REFUSED] s t))
  ∧ (∀ s : State, s.boot.low = false → ∃ t, exec .eccTestArm s = .next t
    ∧ (testAuthority s = true → t.get INK_ECC_TEST_ARM = 1 ∧ OnlyFields [INK_ECC_TEST_ARM] s t)
    ∧ (testAuthority s = false → t.get INK_EVENT_TEST_REFUSED = 1 ∧ OnlyFields [INK_EVENT_TEST_REFUSED] s t))
  ∧ ∀ s : State, s.boot.low = false → ∃ t, exec .eccTestStore s = .next t
    ∧ ((∀ x, s.ink.half = some x → x.length ≤ 64) → ∀ a, a / 64 ≠ s.ink.halfBlock → t.byte a = s.byte a)
    ∧ (testAuthority s = false ∨ s.get INK_ECC_TEST_HALF ≠ 1 → SameMemory s t)
    ∧ (testAuthority s = true → s.get INK_ECC_TEST_HALF ≠ 1 → t = s)
    ∧ (testAuthority s = true → s.get INK_ECC_TEST_HALF = 1 → t.get INK_ECC_TEST_HALF = 0 ∧ t.get INK_EVENT_TEST_DONE = 1
        ∧ SameFields [INK_ECC_TEST_HALF, INK_EVENT_TEST_DONE] s t)
    ∧ (testAuthority s = false → t.get INK_EVENT_TEST_REFUSED = 1 ∧ OnlyFields [INK_EVENT_TEST_REFUSED] s t)

/-- Mailboxes and seals. Each command acts in its state, from its owner, its taker or a Scribe, and is otherwise ignored with the mailbox's bit in
MBX_PROTO_ERR: the owner writes the request of an EMPTY mailbox, posts it, cancels a POSTED one and acknowledges a COMPLETE one; a Scribe takes a
POSTED one, and its taker writes the result and completes it, which an ORPHAN mailbox answers by emptying. A host read of a result header counts
itself once READY. A seal is taken when free, counts a contender otherwise, and is released and mended by its owner alone. Nothing happens where a
premise fails (assumption 4); the corners that the manual leaves open are the model's choice (assumptions 33, 34, 35, 69, 122 and 123). Says of each
of these rows that it answers a next state with its own effect: MBX_REQUEST_WRITE, MBX_RESULT_WRITE, POST, TAKE, CANCEL, COMPLETE, MBX_ACK,
RESULT_HEADER_READ, MBX_CFG_WRITE, SEAL_TAKE, SEAL_RELEASE, CLEAR_BROKEN. (R328, R329, R330, R331, R332, R333, R335, R337, R489) -/
def Obligations.MailboxesAndSeals : Prop :=
  (∀ (who : Requester) (m : Fin 32) (w : Fin 64) (v : Word) (s : State), s.boot.low = false → ∃ t, exec (.mbxRequestWrite who m w v) s = .next t
    ∧ (codeOf who = 8 + s.get (MBX_CFG_FUNC m) → s.get (MBX_STATUS_STATE m) = 0 → t.get (MBX_REQ_WORD m w) = v.toNat ∧ OnlyFields [MBX_REQ_WORD m w] s t)
    ∧ (codeOf who ≠ 8 + s.get (MBX_CFG_FUNC m) ∨ s.get (MBX_STATUS_STATE m) ≠ 0 → MbxIgnored m s t))
  ∧ (∀ (who : Requester) (m : Fin 32) (w : Fin 64) (v : Word) (s : State), s.boot.low = false → ∃ t, exec (.mbxResultWrite who m w v) s = .next t
    ∧ (s.get (MBX_STATUS_STATE m) = 2 → codeOf who = s.get (MBX_STATUS_TAKER m) →
        t.get (MBX_RES_WORD m w) = (if w = 0 then v.toNat % 2 ^ 28 else v.toNat) ∧ OnlyFields [MBX_RES_WORD m w] s t)
    ∧ (s.get (MBX_STATUS_STATE m) ≠ 2 ∨ codeOf who ≠ s.get (MBX_STATUS_TAKER m) → MbxIgnored m s t))
  ∧ (∀ (who : Requester) (m : Fin 32) (s : State), s.boot.low = false → ∃ t, exec (.post who m) s = .next t
    ∧ (codeOf who = 8 + s.get (MBX_CFG_FUNC m) → s.get (MBX_STATUS_STATE m) = 0 → t.get (MBX_STATUS_STATE m) = 1 ∧ t.bit MBX_POSTED_MASK m = true
        ∧ OnlyFields [MBX_STATUS_STATE m, MBX_POSTED_MASK, MBX_DONE_MASK] s t)
    ∧ (codeOf who ≠ 8 + s.get (MBX_CFG_FUNC m) ∨ s.get (MBX_STATUS_STATE m) ≠ 0 → MbxIgnored m s t))
  ∧ (∀ (who : Requester) (m : Fin 32) (s : State), s.boot.low = false → ∃ t, exec (.take who m) s = .next t
    ∧ (∀ q, who = .scribe q → s.get (MBX_STATUS_STATE m) = 1 → t.get (MBX_STATUS_STATE m) = 2 ∧ t.get (MBX_STATUS_TAKER m) = q
        ∧ t.bit MBX_POSTED_MASK m = false)
    ∧ ((∀ q, who ≠ .scribe q) ∨ s.get (MBX_STATUS_STATE m) ≠ 1 → MbxIgnored m s t))
  ∧ (∀ (who : Requester) (m : Fin 32) (s : State), s.boot.low = false → ∃ t, exec (.cancel who m) s = .next t
    ∧ (codeOf who = 8 + s.get (MBX_CFG_FUNC m) →
        (s.get (MBX_STATUS_STATE m) = 1 → t.get (MBX_STATUS_STATE m) = 0 ∧ t.bit MBX_POSTED_MASK m = false ∧ ∀ w : Fin 64, t.get (MBX_REQ_WORD m w) = 0)
        ∧ (s.get (MBX_STATUS_STATE m) = 2 → t.get (MBX_STATUS_CANCEL_REQ m) = 1 ∧ OnlyFields [MBX_STATUS_CANCEL_REQ m] s t))
    ∧ (codeOf who ≠ 8 + s.get (MBX_CFG_FUNC m) ∨ s.get (MBX_STATUS_STATE m) ∉ [1, 2] → MbxIgnored m s t))
  ∧ (∀ (who : Requester) (m : Fin 32) (s : State), s.boot.low = false → ∃ t, exec (.complete who m) s = .next t
    ∧ (s.get (MBX_STATUS_STATE m) = 2 → codeOf who = s.get (MBX_STATUS_TAKER m) →
        (s.get (MBX_STATUS_ORPHAN m) ≠ 1 → t.get (MBX_STATUS_STATE m) = 3 ∧ t.bit MBX_DONE_MASK m = true
            ∧ SameFields [MBX_STATUS_STATE m, MBX_POSTED_MASK, MBX_DONE_MASK] s t)
        ∧ (s.get (MBX_STATUS_ORPHAN m) = 1 → t.get (MBX_STATUS_STATE m) = 0 ∧ t.get (MBX_STATUS_TAKER m) = 0xF ∧ t.get (MBX_STATUS_ORPHAN m) = 0
            ∧ ∀ w : Fin 64, t.get (MBX_RES_WORD m w) = 0))
    ∧ (s.get (MBX_STATUS_STATE m) ≠ 2 ∨ codeOf who ≠ s.get (MBX_STATUS_TAKER m) → MbxIgnored m s t))
  ∧ (∀ (who : Requester) (m : Fin 32) (s : State), s.boot.low = false → ∃ t, exec (.mbxAck who m) s = .next t
    ∧ (codeOf who = 8 + s.get (MBX_CFG_FUNC m) → s.get (MBX_STATUS_STATE m) = 3 → t.get (MBX_STATUS_STATE m) = 0 ∧ t.get (MBX_STATUS_TAKER m) = 0xF
        ∧ t.get (MBX_STATUS_READ_COUNT m) = 0 ∧ t.bit MBX_DONE_MASK m = false
        ∧ ∀ w : Fin 64, t.get (MBX_REQ_WORD m w) = 0 ∧ t.get (MBX_RES_WORD m w) = 0)
    ∧ (codeOf who ≠ 8 + s.get (MBX_CFG_FUNC m) ∨ s.get (MBX_STATUS_STATE m) ≠ 3 → MbxIgnored m s t))
  ∧ (∀ (f : Fin 2) (m : Fin 32) (s : State), s.boot.low = false → ∃ t, exec (.resultHeaderRead f m) s = .next t
    ∧ (s.get (MBX_STATUS_STATE m) = 3 → t.returned.getD (8 + f.val) 0 = s.get (MBX_RES_WORD m 0) % 2 ^ 28 + s.get (MBX_STATUS_READ_COUNT m) * 2 ^ 28 + 2 ^ 31
        ∧ t.get (MBX_STATUS_READ_COUNT m) = min 7 (s.get (MBX_STATUS_READ_COUNT m) + 1) ∧ SameFields [MBX_STATUS_READ_COUNT m] s t)
    ∧ (s.get (MBX_STATUS_STATE m) ≠ 3 → t.returned.getD (8 + f.val) 0 = 0 ∧ t.fld = s.fld))
  ∧ (∀ (who : Requester) (m : Fin 32) (v : Word) (s : State), s.boot.low = false → ∃ t, exec (.mbxCfgWrite who m v) s = .next t
    ∧ (who = .host 0 ∨ who = .host 1 ∨ who = .verso → t = s)
    ∧ ((∃ q, who = .scribe q) ∨ who = .debug →
        (v.toNat / 16 % 2 = s.get (MBX_CFG_FUNC m) ∨ s.get (MBX_STATUS_STATE m) = 0 → t.get (MBX_CFG_FUNC m) = v.toNat / 16 % 2
            ∧ t.get (MBX_CFG_SCRIBE m) = v.toNat % 8 ∧ OnlyFields [MBX_CFG_FUNC m, MBX_CFG_SCRIBE m] s t)
        ∧ (v.toNat / 16 % 2 ≠ s.get (MBX_CFG_FUNC m) → s.get (MBX_STATUS_STATE m) ≠ 0 → MbxIgnored m s t)))
  ∧ (∀ (who : Requester) (i : Fin 64) (s : State), s.boot.low = false → ∃ t, exec (.sealTake who i) s = .next t
    ∧ (s.get (MBX_SEAL_OWNER i) = 0xF → t.get (MBX_SEAL_OWNER i) = codeOf who ∧ OnlyFields [MBX_SEAL_OWNER i] s t)
    ∧ (s.get (MBX_SEAL_OWNER i) = codeOf who → t = s)
    ∧ (s.get (MBX_SEAL_OWNER i) ≠ 0xF → s.get (MBX_SEAL_OWNER i) ≠ codeOf who →
        t.get (MBX_SEAL_CONTEND i) = min (s.get (MBX_SEAL_CONTEND i) + 1) 255 ∧ OnlyFields [MBX_SEAL_CONTEND i] s t))
  ∧ (∀ (who : Requester) (i : Fin 64) (s : State), s.boot.low = false → ∃ t, exec (.sealRelease who i) s = .next t
    ∧ (s.get (MBX_SEAL_OWNER i) = codeOf who → t.get (MBX_SEAL_OWNER i) = 0xF ∧ OnlyFields [MBX_SEAL_OWNER i] s t)
    ∧ (s.get (MBX_SEAL_OWNER i) ≠ codeOf who → t.bit MBX_SEAL_ERR_MASK i = true ∧ OnlyFields [MBX_SEAL_ERR_MASK] s t))
  ∧ ∀ (who : Requester) (i : Fin 64) (s : State), s.boot.low = false → ∃ t, exec (.clearBroken who i) s = .next t
    ∧ (s.get (MBX_SEAL_OWNER i) = codeOf who → t.get (MBX_SEAL_BROKEN i) = 0 ∧ OnlyFields [MBX_SEAL_BROKEN i] s t)
    ∧ (s.get (MBX_SEAL_OWNER i) ≠ codeOf who → t.bit MBX_SEAL_ERR_MASK i = true ∧ OnlyFields [MBX_SEAL_ERR_MASK] s t)

/-- A Scribe's accesses. One that its protection entries forbid takes an access fault; so does one that runs out of the kind of place it began in. A load
that hits returns the line's bytes, or takes a load access fault where it meets poison; a store that hits in a write-back region changes the line and
no memory, and one that allocates nothing stores its bytes and no others; a load of its data local memory returns those bytes, and an uncorrectable
word faults. An address where nothing is takes an access fault, as does a fetch from a data local memory. An atomic operation outside its regions or
misaligned faults; a failing SC stores nothing and returns 1; LR reserves its line; the others store what they compute. Only the debugger of an open
part halts a Scribe. The oldest victim's dirty halves are stored, and no others. Nothing happens where a premise fails (assumption 4); the corners
that the manual leaves open are the model's choice (assumptions 33, 34, 35, 69, 122 and 123). Says of each of these rows that it answers a next state
with its own effect: SCRIBE_LOAD, SCRIBE_STORE, SCRIBE_FETCH, SCRIBE_AMO, SCRIBE_DEBUG_HALT, VICTIM_WRITEBACK_DONE. (R311, R312, R313, R314, R315,
R317, R319, R321, R423) -/
def Obligations.ScribeAccesses : Prop :=
  (∀ (q : Fin 8) (a : BitVec 40) (z : AccessSize) (ecc : LocalEcc) (s : State), s.ink.told = false → ∃ t, exec (.scribeLoad q a z ecc) s = .next t
    ∧ (permits s q 0 a.toNat (2 ^ z.val) = false → Trapped q 5 a.toNat s t)
    ∧ (placeOfAll s q a.toNat (2 ^ z.val) = .absent → placeOf s q a.toNat ≠ .block → Trapped q 5 a.toNat s t)
    ∧ (placeOf s q a.toNat = .block → z ≠ 2 → Trapped q 5 a.toNat s t)
    ∧ (∀ i d o, permits s q 0 a.toNat (2 ^ z.val) = true → placeOfAll s q a.toNat (2 ^ z.val) = .localMem i d o →
        (ecc = .uncorrectable → Trapped q 5 a.toNat s t)
        ∧ (ecc ≠ .uncorrectable → s.localBad = [] → (t.scribe q).trap = none ∧ t.fld = s.fld
            ∧ (t.scribe q).value = leVal ((List.range (2 ^ z.val)).map fun k => s.locals.getD (localKey i d (o + k)) 0)))
    ∧ ∀ w l, permits s q 0 a.toNat (2 ^ z.val) = true → a.toNat < inkLimit → a.toNat % 128 + 2 ^ z.val ≤ 128 → hitWay s a.toNat = some w →
        s.line? (setOf a.toNat) w = some l →
        t.get CPB_CNT_HIT_COUNT = min (s.get CPB_CNT_HIT_COUNT + 1) (2 ^ 48 - 1) ∧ SameMemory s t
        ∧ (l.poison &&& halvesOf (a.toNat % 128) (2 ^ z.val) = 0 → (t.scribe q).trap = none
            ∧ (t.scribe q).value = leVal ((l.data.drop (a.toNat % 128)).take (2 ^ z.val)))
        ∧ (l.poison &&& halvesOf (a.toNat % 128) (2 ^ z.val) ≠ 0 → (t.scribe q).trap = some (5, a.toNat) ∧ t.get CPB_EVENT_POISON = 1))
  ∧ (∀ (q : Fin 8) (a : BitVec 40) (z : AccessSize) (v : BitVec 64) (s : State), s.ink.told = false → ∃ t, exec (.scribeStore q a z v) s = .next t
    ∧ (permits s q 1 a.toNat (2 ^ z.val) = false → Trapped q 7 a.toNat s t)
    ∧ (placeOfAll s q a.toNat (2 ^ z.val) = .absent → placeOf s q a.toNat ≠ .block → Trapped q 7 a.toNat s t)
    ∧ (placeOf s q a.toNat = .block → z ≠ 2 → Trapped q 7 a.toNat s t)
    ∧ (∀ w l, permits s q 1 a.toNat (2 ^ z.val) = true → a.toNat < inkLimit → a.toNat % 128 + 2 ^ z.val ≤ 128 → policyOf s a.toNat = 0 → hitWay s a.toNat = some w →
        s.line? (setOf a.toNat) w = some l → SameMemory s t ∧ (t.scribe q).trap = none
          ∧ t.line? (setOf a.toNat) w = some { l with data := patch l.data (a.toNat % 128) (leBytes (2 ^ z.val) v.toNat),
                                                      dirty := l.dirty ||| halvesOf (a.toNat % 128) (2 ^ z.val) })
    ∧ (permits s q 1 a.toNat (2 ^ z.val) = true → a.toNat + 2 ^ z.val ≤ inkLimit → a.toNat % 128 + 2 ^ z.val ≤ 128 → policyOf s a.toNat ∉ [0, 1] → hitWay s a.toNat = none →
        holeWay s a.toNat = none → victimOf s a.toNat = none → s.get INK_ECC_TEST_ARM ≠ 1 →
        (∀ b ∈ blocksOf a.toNat (2 ^ z.val), patternOutcome (patternOf s b) ∉ [2, 4]) →
          (∀ i, i < 2 ^ z.val → t.byte (a.toNat + i) = (leBytes (2 ^ z.val) v.toNat).getD i 0)
          ∧ ∀ x, x < a.toNat ∨ a.toNat + 2 ^ z.val ≤ x → t.byte x = s.byte x))
  ∧ (∀ (q : Fin 8) (a : BitVec 40) (ecc : LocalEcc) (s : State), s.ink.told = false → ∃ t, exec (.scribeFetch q a ecc) s = .next t
    ∧ (permits s q 2 a.toNat 4 = false ∨ placeOfAll s q a.toNat 4 = .absent ∨ (∃ i o, placeOfAll s q a.toNat 4 = .localMem i false o ∧ 65536 < o + 4) ∨ placeOf s q a.toNat = .block ∨ (∃ i o, placeOf s q a.toNat = .localMem i true o) → Trapped q 1 a.toNat s t)
    ∧ ∀ i o, permits s q 2 a.toNat 4 = true → placeOfAll s q a.toNat 4 = .localMem i false o → o + 4 ≤ 65536 → ecc = .clean → s.localBad = [] → (t.scribe q).trap = none ∧ t.fld = s.fld
        ∧ (t.scribe q).value = leVal ((List.range 4).map fun k => s.locals.getD (localKey i false (o + k)) 0))
  ∧ (∀ (q : Fin 8) (op : AmoOp) (a : BitVec 40) (wide : Bool) (v : BitVec 64) (s : State), s.ink.told = false → ∃ t, exec (.scribeAmo q op a wide v) s = .next t
    ∧ ∀ n, n = (if wide then 8 else 4) →
        (amoAllowed s q a.toNat = false ∨ amoPermitted s q op a.toNat n = false ∨ a.toNat % n ≠ 0 → Trapped q 7 a.toNat s t)
        ∧ (amoAllowed s q a.toNat = true → amoPermitted s q op a.toNat n = true → a.toNat % n = 0 →
            (op = .sc → (s.scribe q).resv ≠ some (a.toNat / 128) → (t.scribe q).value = 1 ∧ (t.scribe q).trap = none ∧ t.fld = s.fld ∧ SameMemory s t)
            ∧ (op = .sc → (s.scribe q).resv = some (a.toNat / 128) → (memWrite s q a.toNat n (v.toNat % 256 ^ n)).ink.told = false →
                (t.scribe q).value = 0 ∧ (t.scribe q).resv = none
                ∧ t.mem = (memWrite s q a.toNat n (v.toNat % 256 ^ n)).mem ∧ t.cpb = (memWrite s q a.toNat n (v.toNat % 256 ^ n)).cpb)
            ∧ (op = .lr → (memRead s a.toNat n).2.2.ink.told = false → (memRead s a.toNat n).2.1 = false → (t.scribe q).value = (memRead s a.toNat n).1
                ∧ (t.scribe q).resv = some (a.toNat / 128))
            ∧ (op ≠ .sc → (memRead s a.toNat n).2.2.ink.told = false → (memRead s a.toNat n).2.1 = true → (t.scribe q).trap = some (7, a.toNat) ∧ t.get CPB_EVENT_POISON = 1)
            ∧ (op = .add → (memRead s a.toNat n).2.1 = false →
                (memWrite (memRead s a.toNat n).2.2 q a.toNat n (((memRead s a.toNat n).1 + v.toNat % 256 ^ n) % 256 ^ n)).ink.told = false → (t.scribe q).value = (memRead s a.toNat n).1
                ∧ t.mem = (memWrite (memRead s a.toNat n).2.2 q a.toNat n (((memRead s a.toNat n).1 + v.toNat % 256 ^ n) % 256 ^ n)).mem)))
  ∧ (∀ (q : Fin 8) (halt : Bool) (s : State), ∃ t, exec (.scribeDebugHalt q halt) s = .next t
    ∧ (s.get SEC_STATUS_DBG_OPEN = 1 → t.get (SYS_SCR_STATUS_HALTED q) = (if halt then 1 else 0) ∧ OnlyFields [SYS_SCR_STATUS_HALTED q] s t)
    ∧ (s.get SEC_STATUS_DBG_OPEN ≠ 1 → t = s))
  ∧ ∀ s : State, ∃ t, exec .victimWritebackDone s = .next t
    ∧ (s.cpb.victims = [] → t = s)
    ∧ ∀ v r, s.cpb.victims = v :: r → t.cpb.victims = r ∧ t.get CPB_STATUS_VICTIMS = r.length % 8
        ∧ (v.data.length = 128 → v.addr % 128 = 0 → v.addr + 128 ≤ inkLimit → s.get INK_ECC_TEST_ARM ≠ 1 →
            (∀ i, i < 128 → t.byte (v.addr + i) = if v.dirty.testBit (i / 64) then v.data.getD i 0 else s.byte (v.addr + i))
            ∧ ∀ x, x < v.addr ∨ v.addr + 128 ≤ x → t.byte x = s.byte x)

/-- Copybook operations. A START with one running, over no lines or past the data region is refused; an admitted one makes the Copybook busy until its
transfers are done. INVALIDATE stores nothing; ZERO of lines that are not cached zeroes exactly its range; PRELOAD has limits of its own and locks its
way when done; UNLOCK frees a way and its holes; a scratch count converts ways, and is refused while one is converted or a way it needs is locked; an
uncorrectable error poisons its half of a line. Nothing happens where a premise fails (assumption 4); the corners that the manual leaves open are the
model's choice (assumptions 33, 34, 35, 69, 122 and 123). Says of each of these rows that it answers a next state with its own effect: WRITEBACK,
INVALIDATE, WB_INV, ZERO, PRELOAD, CPB_OP_DONE, UNLOCK, SCRATCH_COUNT_WRITE, SCRATCH_FILL_DONE, SRAM_ECC_ERROR. (R322, R323, R324, R325, R326) -/
def Obligations.CopybookOps : Prop :=
  (∀ (c : Instr) (k : Nat) (s : State), c = .writeback ∧ k = 0 ∨ c = .invalidate ∧ k = 1 ∨ c = .wbInv ∧ k = 2 ∨ c = .zero ∧ k = 3 →
      s.boot.low = false → ∃ t, exec c s = .next t ∧ t.get CPB_OP_KIND = k
    ∧ (s.get CPB_STATUS_BUSY = 1 ∨ s.get CPB_OP_LINES_LINES = 0 ∨ inkLimit < s.get CPB_OP_ADDR_ADDR * 128 + s.get CPB_OP_LINES_LINES * 128 →
        t.get CPB_OP_OK = 0 ∧ t.get CPB_OP_DONE = 1 ∧ t.get CPB_OP_START = 0 ∧ t.get CPB_EVENT_OP_REFUSED = 1
        ∧ OnlyFields [CPB_OP_KIND, CPB_OP_OK, CPB_OP_DONE, CPB_OP_START, CPB_EVENT_OP_REFUSED] s t)
    ∧ (s.get CPB_STATUS_BUSY ≠ 1 → s.get CPB_OP_LINES_LINES ≠ 0 → s.get CPB_OP_ADDR_ADDR * 128 + s.get CPB_OP_LINES_LINES * 128 ≤ inkLimit →
       t.get CPB_STATUS_BUSY = 1 ∧ t.get CPB_OP_START = 1 ∧ t.get CPB_OP_DONE = 0 ∧ t.cpb.op = some (k, s.get CPB_OP_WAY)
        ∧ (k = 1 → SameMemory s t)
        ∧ (k ∈ [0, 2] → cachedIn s (s.get CPB_OP_ADDR_ADDR * 128) (s.get CPB_OP_LINES_LINES) = [] → s.cpb.victims = [] → SameMemory s t)
        ∧ (k = 3 → cachedIn s (s.get CPB_OP_ADDR_ADDR * 128) (s.get CPB_OP_LINES_LINES) = [] → s.cpb.victims = [] → s.get INK_ECC_TEST_ARM ≠ 1 →
            ∀ x, t.byte x = if s.get CPB_OP_ADDR_ADDR * 128 ≤ x ∧ x < s.get CPB_OP_ADDR_ADDR * 128 + s.get CPB_OP_LINES_LINES * 128 then 0 else s.byte x)))
  ∧ (∀ (w : Fin 16) (s : State), s.boot.low = false → s.ink.told = false → ∃ t, exec (.preload w) s = .next t ∧ t.get CPB_OP_WAY = w ∧ t.get CPB_OP_KIND = 4
    ∧ (opAdmits s 4 = false ∨ preloadAdmits s w = false → t.get CPB_OP_OK = 0 ∧ t.get CPB_OP_DONE = 1 ∧ t.get CPB_EVENT_OP_REFUSED = 1
        ∧ OnlyFields [CPB_OP_WAY, CPB_OP_KIND, CPB_OP_OK, CPB_OP_DONE, CPB_OP_START, CPB_EVENT_OP_REFUSED] s t)
    ∧ (opAdmits s 4 = true → preloadAdmits s w = true → t.get CPB_STATUS_BUSY = 1 ∧ t.cpb.op = some (4, w.val)
        ∧ t.cpb.base = tagOf (s.get CPB_OP_ADDR_ADDR * 128)))
  ∧ (∀ s : State, ∃ t, exec .cpbOpDone s = .next t
    ∧ (s.cpb.op = none → t = s)
    ∧ ∀ k w, s.cpb.op = some (k, w) → w < 16 → t.get CPB_STATUS_BUSY = 0 ∧ t.get CPB_OP_START = 0 ∧ t.get CPB_OP_DONE = 1 ∧ t.get CPB_OP_OK = 1
        ∧ t.get CPB_EVENT_OP_DONE = 1 ∧ t.cpb.op = none
        ∧ (k = 4 → t.get (CPB_WAY_LOCKED w) = 1 ∧ t.get (CPB_WAY_BASE w) = s.cpb.base % 2 ^ 21)
        ∧ (k ≠ 4 → SameFields [CPB_STATUS_BUSY, CPB_OP_START, CPB_OP_DONE, CPB_OP_OK, CPB_EVENT_OP_DONE] s t))
  ∧ (∀ (w : Fin 16) (s : State), s.boot.low = false → ∃ t, exec (.unlock w) s = .next t
    ∧ (preloadWay s = some w.val → t.get CPB_EVENT_CFG_REFUSED = 1 ∧ OnlyFields [CPB_EVENT_CFG_REFUSED] s t)
    ∧ (preloadWay s ≠ some w.val → t.get (CPB_WAY_LOCKED w) = 0 ∧ t.get (CPB_WAY_HOLE w) = 0
        ∧ ∀ e ∈ t.cpb.lines, e ∈ s.cpb.lines ∧ ¬(e.1 % 16 = w ∧ e.2.hole = true)))
  ∧ (∀ (v : Fin 16) (s : State), s.boot.low = false → ∃ t, exec (.scratchCountWrite v) s = .next t
    ∧ (s.get CPB_STATUS_SCRATCH_BUSY = 1 → t.get CPB_EVENT_CFG_REFUSED = 1 ∧ OnlyFields [CPB_EVENT_CFG_REFUSED] s t)
    ∧ (s.get CPB_STATUS_SCRATCH_BUSY ≠ 1 → (∃ w : Fin 16, 16 - min 12 v.val ≤ w ∧ w < 16 - scratchWays s ∧ (s.get (CPB_WAY_LOCKED w) = 1 ∨ preloadWay s = some w.val)) →
        t.get CPB_EVENT_CFG_REFUSED = 1 ∧ OnlyFields [CPB_EVENT_CFG_REFUSED] s t)
    ∧ (s.get CPB_STATUS_SCRATCH_BUSY ≠ 1 → (∀ w : Fin 16, 16 - min 12 v.val ≤ w → w < 16 - scratchWays s → s.get (CPB_WAY_LOCKED w) ≠ 1 ∧ preloadWay s ≠ some w.val) →
        t.get CPB_SCRATCH_COUNT = v
        ∧ (∀ w : Fin 16, 16 - min 12 v.val ≤ w → w < 16 - scratchWays s → t.get (CPB_WAY_SCRATCH w) = 1 ∧ t.get CPB_STATUS_SCRATCH_BUSY = 1)
        ∧ ∀ w : Fin 16, 16 - scratchWays s ≤ w → w < 16 - min 12 v.val → t.get (CPB_WAY_SCRATCH w) = 0))
  ∧ (∀ s : State, ∃ t, exec .scratchFillDone s = .next t ∧ t.get CPB_STATUS_SCRATCH_BUSY = 0 ∧ OnlyFields [CPB_STATUS_SCRATCH_BUSY] s t)
  ∧ ∀ (i : Fin 4096) (w : Fin 16) (h : Fin 2) (corr : Bool) (s : State), ∃ t, exec (.sramEccError i w h corr) s = .next t
    ∧ (corr = true → t.get CPB_EVENT_SRAM_CE = 1 ∧ OnlyFields [CPB_EVENT_SRAM_CE] s t)
    ∧ (corr = false → t.get CPB_EVENT_SRAM_UE = 1 ∧ SameFields [CPB_EVENT_SRAM_UE] s t
        ∧ ∀ l, s.line? i w = some l → s.get (CPB_WAY_SCRATCH w) ≠ 1 → l.valid = true → t.line? i w = some { l with poison := l.poison ||| 2 ^ h.val })

/-- Ports, resets and shutdowns of a function. A reset that finds an activation in progress waits for it. Otherwise CC.EN falling, FLR and PERST# drop the
function's commands with nothing posted, delete its queues and touch no other function and no quire; FLR and PERST# reset all of the function, orphan
the mailboxes that a Scribe has taken and free the function's seals as BROKEN. A normal shutdown closes the quires of earlier writes and completes
once nothing is left, an abrupt one at once, while admitted writes go on. PERST# on a port takes its link down; its release starts training and port
A's samples PCIE_BIFUR. Port B's PERST# does nothing where one port has all lanes. Configuration requests are retried until CFG_READY; the split of
queue pairs is written only while no controller is enabled. Nothing happens where a premise fails (assumption 4); the corners that the manual leaves
open are the model's choice (assumptions 36, 38, 51 to 55 and 62). Says of each of these rows that it answers a next state with its own effect:
PERST_ASSERT, PERST_RELEASE, PCIE_LINK_UP, PCIE_LINK_DOWN, CFG_READY_WRITE, PCIE_CONFIG_REQUEST, CC_EN_SET, CC_EN_CLEAR, FLR, SHN_NORMAL, SHN_ABRUPT,
QP_SPLIT_WRITE. (R331, R336, R340, R343, R344, R346, R350, R356, R357) -/
def Obligations.PortsAndResets : Prop :=
  (∀ (p : Fin 2) (s : State), ∃ t, exec (.perstAssert p) s = .next t
    ∧ (s.hq.activation ≠ none → t.hq.heldResets = s.hq.heldResets ++ [(2, p.val)] ∧ t.fld = s.fld ∧ t.host = s.host)
    ∧ (s.hq.activation = none → portFns s p = [] → p.val ∈ t.hq.perst ∧ t.fld = s.fld ∧ t.host = s.host ∧ t.ledger = s.ledger)
    ∧ (s.hq.activation = none → portFns s p ≠ [] → t.get HQ_EVENT_PERST = 1 ∧ t.get (HQ_LINK_STATUS_UP p) = 0 ∧ p.val ∈ t.hq.perst ∧ p.val ∉ t.hq.training
        ∧ (s.get (HQ_LINK_STATUS_UP p) = 1 → t.get HQ_EVENT_LINK_DOWN = 1) ∧ t.ledger = s.ledger
        ∧ (bifurcated s = false → t.get HQ_CTRL_CFG_READY = 0)
        ∧ ∀ f : Fin 2, (f.val ∈ portFns s p → t.fn f = {} ∧ ∀ e ∈ t.hq.cmds, e.2.fn ≠ f) ∧ (f.val ∉ portFns s p → t.fn f = s.fn f)))
  ∧ (∀ (p : Fin 2) (b : Bool) (s : State), ∃ t, exec (.perstRelease p b) s = .next t ∧ p.val ∉ t.hq.perst
    ∧ (s.boot.low = false → p.val ∈ t.hq.training) ∧ (s.boot.low = true → t.hq.training = s.hq.training)
    ∧ (p = 0 → (∀ q : Fin 2, t.get (HQ_LINK_STATUS_BIFUR q) = if b then 1 else 0) ∧ SameFields [HQ_LINK_STATUS_BIFUR 0, HQ_LINK_STATUS_BIFUR 1] s t)
    ∧ (p ≠ 0 → t.fld = s.fld))
  ∧ (∀ (p : Fin 2) (g : Fin 16) (w : Fin 17) (fl : Bool) (s : State), ∃ t, exec (.pcieLinkUp p g w fl) s = .next t
    ∧ (p.val ∉ s.hq.training ∨ g < 3 ∨ 6 < g ∨ w.val ∉ [1, 2, 4, 8, 16] → t = s)
    ∧ (p.val ∈ s.hq.training → 3 ≤ g → g ≤ 6 → w.val ∈ [1, 2, 4, 8, 16] → bifurcated s = true ∨ p = 0 → bifurcated s = false ∨ w ≤ 8 →
        t.get (HQ_LINK_STATUS_UP p) = 1 ∧ t.get (HQ_LINK_STATUS_GEN p) = g ∧ t.get (HQ_LINK_STATUS_WIDTH p) = w
          ∧ (g = 6 → t.get (HQ_LINK_STATUS_FLIT p) = 1) ∧ p.val ∉ t.hq.training
          ∧ SameFields [HQ_LINK_STATUS_UP p, HQ_LINK_STATUS_GEN p, HQ_LINK_STATUS_WIDTH p, HQ_LINK_STATUS_FLIT p] s t))
  ∧ (∀ (p : Fin 2) (s : State), ∃ t, exec (.pcieLinkDown p) s = .next t
    ∧ (s.get (HQ_LINK_STATUS_UP p) ≠ 1 → t = s)
    ∧ (s.get (HQ_LINK_STATUS_UP p) = 1 → t.get (HQ_LINK_STATUS_UP p) = 0 ∧ t.get HQ_EVENT_LINK_DOWN = 1 ∧ p.val ∈ t.hq.training
        ∧ SameFields [HQ_LINK_STATUS_UP p, HQ_EVENT_LINK_DOWN] s t))
  ∧ (∀ (r : Bool) (s : State), s.boot.low = false → ∃ t, exec (.cfgReadyWrite r) s = .next t ∧ t.get HQ_CTRL_CFG_READY = (if r then 1 else 0) ∧ OnlyFields [HQ_CTRL_CFG_READY] s t)
  ∧ (∀ (f : Fin 2) (s : State), ∃ t, exec (.pcieConfigRequest f) s = .next t ∧ (t.fn f).crs = decide (s.get HQ_CTRL_CFG_READY ≠ 1) ∧ t.fld = s.fld)
  ∧ (∀ (f : Fin 2) (s : State), s.boot.low = false → ∃ t, exec (.ccEnSet f) s = .next t ∧ t.fld = s.fld
    ∧ ((s.fn f).en = true → t = s)
    ∧ ((s.fn f).en = false → (t.fn f).en = true
        ∧ (t.fn f).sqs.find? 0 = some { cq := 0, size := min 256 ((s.fn f).aqa % 4096 + 1) }
        ∧ (s.get INK_STATUS_FILL_DONE = 1 → (∀ q : Fin 8, s.get (SYS_SCR_CTRL_RELEASE q) = 1) → (t.fn f).rdy = true)
        ∧ (s.get INK_STATUS_FILL_DONE ≠ 1 → (t.fn f).rdy = (s.fn f).rdy)))
  ∧ (∀ (f : Fin 2) (s : State), s.boot.low = false → ∃ t, exec (.ccEnClear f) s = .next t
    ∧ (s.hq.activation ≠ none → t.hq.heldResets = s.hq.heldResets ++ [(0, f.val)] ∧ t.fld = s.fld ∧ t.host = s.host)
    ∧ (s.hq.activation = none → (s.fn f).en = false → t = s)
    ∧ (s.hq.activation = none → (s.fn f).en = true → t.get HQ_EVENT_CC_EN_FALL = 1 ∧ (t.fn f).en = false ∧ (t.fn f).rdy = false
        ∧ (t.fn f).sqs = [] ∧ (t.fn f).cqs = [] ∧ (t.fn f).msix = (s.fn f).msix ∧ (∀ e ∈ t.hq.cmds, e.2.fn ≠ f) ∧ t.get (fnPs f) = 0
        ∧ t.ledger = s.ledger ∧ ∀ g : Fin 2, g ≠ f → t.fn g = s.fn g))
  ∧ (∀ (f : Fin 2) (s : State), ∃ t, exec (.flr f) s = .next t
    ∧ (s.hq.activation ≠ none → t.hq.heldResets = s.hq.heldResets ++ [(1, f.val)] ∧ t.fld = s.fld ∧ t.host = s.host)
    ∧ (s.hq.activation = none → t.get HQ_EVENT_FLR = 1 ∧ t.fn f = {} ∧ (∀ e ∈ t.hq.cmds, e.2.fn ≠ f) ∧ t.ledger = s.ledger
        ∧ (∀ g : Fin 2, g ≠ f → t.fn g = s.fn g)
        ∧ (∀ m : Fin 32, s.get (MBX_CFG_FUNC m) = f →
            (s.get (MBX_STATUS_STATE m) = 2 → t.get (MBX_STATUS_ORPHAN m) = 1 ∧ t.get (MBX_STATUS_STATE m) = 2)
            ∧ (s.get (MBX_STATUS_STATE m) ∈ [1, 3] → t.get (MBX_STATUS_STATE m) = 0))
        ∧ (∀ i : Fin 64, s.get (MBX_SEAL_OWNER i) = 8 + f.val → t.get (MBX_SEAL_OWNER i) = 0xF ∧ t.get (MBX_SEAL_BROKEN i) = 1)
        ∧ ∀ i : Fin 64, s.get (MBX_SEAL_OWNER i) ≠ 8 + f.val → t.get (MBX_SEAL_OWNER i) = s.get (MBX_SEAL_OWNER i)))
  ∧ (∀ (f : Fin 2) (s : State), s.boot.low = false → ∃ t, exec (.shnNormal f) s = .next t ∧ t.get HQ_EVENT_SHN = 1 ∧ (t.fn f).shn = 1 ∧ SameFields (HQ_EVENT_SHN :: admitFlds) s t
    ∧ (s.hq.cmds = [] → s.ledger.quires = [] → (t.fn f).shst = 2)
    ∧ ∀ q x, s.ledger.quires.find? q = some x → holdsBefore (s.get HQ_ADM_SEQ_SEQ) x = true →
        ∃ y, t.ledger.quires.find? q = some y ∧ y.isOpen = false ∧ (x.isOpen = true → y.byFlush = true) ∧ y.runs = x.runs
          ∧ (x.committed = false → (t.fn f).shst = 1))
  ∧ (∀ (f : Fin 2) (s : State), s.boot.low = false → ∃ t, exec (.shnAbrupt f) s = .next t ∧ t.get HQ_EVENT_SHN = 1 ∧ (t.fn f).shn = 2 ∧ (t.fn f).shst = 2
    ∧ (t.fn f).cqs = (s.fn f).cqs ∧ SameFields (HQ_EVENT_SHN :: admitFlds) s t
    ∧ ∀ e, e ∈ t.hq.cmds ↔ e ∈ s.hq.cmds ∧ (e.2.fn = f → ∃ x, e.2.lock = some x ∧ x.write = true))
  ∧ ∀ (v : BitVec 8) (s : State), s.boot.low = false → ∃ t, exec (.qpSplitWrite v) s = .next t
    ∧ ((s.fn 0).en = true ∨ (s.fn 1).en = true → t = s)
    ∧ ((s.fn 0).en = false → (s.fn 1).en = false → t.get HQ_QP_SPLIT_F0_QPS = v.toNat ∧ OnlyFields [HQ_QP_SPLIT_F0_QPS] s t)

/-- Queues and admission. A doorbell moves its queue's pointer and restarts the idle period, is dropped while the controller is disabled, and is an
asynchronous event where its queue is not there. The fetcher admits the next command with the present HQ_ADM_SEQ, which counts on, unless a cause in
STALL stops it; a command aborted while it waited is passed over. A range lock is released once its command is over. Abort aborts what has not begun,
a request for an event that waits too, and answers 1 otherwise. An Asynchronous Event Request takes the oldest event or waits. Queues are made and
deleted within the function's share. Another opcode completes with Invalid Command Opcode. The status window takes the words as they are and counts
its refreshes. Nothing happens where a premise fails (assumption 4); the corners that the manual leaves open are the model's choice (assumptions 36,
38, 51 to 55 and 62). Says of each of these rows that it answers a next state with its own effect: DOORBELL, ADMIT, RANGE_LOCK_RELEASE, ABORT_CMD,
ASYNC_EVENT_REQUEST, CREATE_IO_QUEUE, DELETE_IO_QUEUE, INVALID_OPCODE, STATUS_WINDOW_REFRESH. (R344, R345, R346, R347, R348, R356, R373, R374, R488,
R490) -/
def Obligations.QueuesAndAdmission : Prop :=
  (∀ (f : Fin 2) (y : Nat) (isCq : Bool) (v : BitVec 16) (s : State), s.boot.low = false → ∃ t, exec (.doorbell f y isCq v) s = .next t
    ∧ ((s.fn f).en = false → t = s)
    ∧ ((s.fn f).en = true → isCq = false → (s.fn f).sqs.find? y = none → (s.fn f).aers = [] → 0x010000 ∈ (t.fn f).events ∧ t.fld = s.fld)
    ∧ ((s.fn f).en = true → isCq = false → ∀ q, (s.fn f).sqs.find? y = some q → v.toNat < q.size →
        (t.fn f).sqs.find? y = some { q with tail := v.toNat } ∧ SameFields [HQ_IDLE_MS f] s t
          ∧ (v.toNat ≠ q.head → t.get (HQ_IDLE_MS f) = 0) ∧ (v.toNat = q.head → t.fld = s.fld))
    ∧ ((s.fn f).en = true → isCq = true → ∀ c, (s.fn f).cqs.find? y = some c → v.toNat < c.size → c.waiting = [] →
        (v.toNat + c.size - c.head) % c.size ≤ c.entries.length → t.fld = s.fld
          ∧ (t.fn f).cqs.find? y = some { c with head := v.toNat, entries := c.entries.drop ((v.toNat + c.size - c.head) % c.size) }))
  ∧ (∀ (cid : BitVec 16) (cmd : NvmeCmd) (s : State), ∃ t, exec (.admitNext cid cmd) s = .next t
    ∧ (nextQueue s = none → t = s)
    ∧ ∀ f q, nextQueue s = some (f, q) →
        ((q, cid.toNat) ∈ (s.fn f).aborts → t.hq = s.hq ∧ t.fld = s.fld)
        ∧ (s.get HQ_CTRL_FETCH_STOP = 1 → (q, cid.toNat) ∉ (s.fn f).aborts → t.bit HQ_ADMIT_STALL 2 = true ∧ t.hq.cmds = s.hq.cmds
            ∧ t.get HQ_ADM_SEQ_SEQ = s.get HQ_ADM_SEQ_SEQ ∧ t.host = s.host)
        ∧ (s.get HQ_CTRL_FETCH_STOP ≠ 1 → (q, cid.toNat) ∉ (s.fn f).aborts → (s.fn 0).pp = false → (s.fn 1).pp = false →
            (s.hq.cmds.filter fun e => e.2.lock.isSome).length < 8192 → (∀ k, writeLbas cmd = some k → quireRoom s k = true) →
            t.get HQ_ADM_SEQ_SEQ = (s.get HQ_ADM_SEQ_SEQ + 1) % 2 ^ 64
            ∧ (∃ c, t.cmd? (s.get HQ_ADM_SEQ_SEQ) = some c ∧ c.fn = f ∧ c.sq = q ∧ c.cid = cid.toNat ∧ c.cmd = cmd ∧ c.lock = lockOf cmd
                ∧ c.over_ = false ∧ c.began = false ∧ c.dataWhole = false)
            ∧ (∀ x, (s.fn f).sqs.find? q = some x → (t.fn f).sqs.find? q = some { x with head := (x.head + 1) % max 1 x.size })
            ∧ (∀ x, lockOf cmd = some x → lockedBefore s (s.get HQ_ADM_SEQ_SEQ) x = true →
                t.get HQ_RL_CNT_CONFLICTS = min (s.get HQ_RL_CNT_CONFLICTS + 1) (2 ^ 32 - 1))))
  ∧ (∀ (a : Nat) (s : State), ∃ t, exec (.rangeLockRelease a) s = .next t
    ∧ ((∀ c, s.cmd? a = some c → c.over_ = false) → t = s)
    ∧ (∀ c, s.cmd? a = some c → c.over_ = true → t.cmd? a = none ∧ (∀ b, b ≠ a → t.cmd? b = s.cmd? b) ∧ SameFields admitFlds s t
        ∧ t.get HQ_ADMIT_HELD = (t.hq.cmds.filter fun e => e.2.lock.isSome).length % 2 ^ 14))
  ∧ (∀ (a : Nat) (w : Bool) (s : State), ∃ t, exec (.abortCmd a w) s = .next t
    ∧ ((∀ c, ¬AdminRuns s 12 a c) → t = s)
    ∧ ∀ c q cid, AdminRuns s 12 a c → c.cmd = .abort q cid → SameFields admitFlds s t
        ∧ (∀ b x, (s.hq.cmds.filter fun e => e.2.fn == c.fn && e.2.sq == q && e.2.cid == cid && !e.2.over_ && e.1 != a) = [(b, x)] →
            (x.began = false → x.dataWhole = false → Over t b ∧ Answered c a ncOk 0 s t) ∧ (x.began = true ∨ x.dataWhole = true → Answered c a ncOk 1 s t))
        ∧ ((s.hq.cmds.filter fun e => e.2.fn == c.fn && e.2.sq == q && e.2.cid == cid && !e.2.over_ && e.1 != a) = [] →
            (q = 0 → cid ∈ (s.fn c.fn).aers → Answered c a ncOk 0 s t ∧ (t.fn c.fn).aers = (s.fn c.fn).aers.erase cid)
            ∧ (q ≠ 0 ∨ cid ∉ (s.fn c.fn).aers → w = false → Answered c a ncOk 1 s t)
            ∧ (∀ x, q ≠ 0 ∨ cid ∉ (s.fn c.fn).aers → w = true → (s.fn c.fn).sqs.find? q = some x → x.head ≠ x.tail → (q, cid) ∈ (t.fn c.fn).aborts ∧ Answered c a ncOk 0 s t)))
  ∧ (∀ (a : Nat) (s : State), ∃ t, exec (.asyncEventRequest a) s = .next t
    ∧ ((∀ c, ¬AdminRuns s 13 a c) → t = s)
    ∧ ∀ c, AdminRuns s 13 a c → SameFields admitFlds s t
        ∧ ((s.fn c.fn).events = [] → Over t a ∧ (t.fn c.fn).aers = (s.fn c.fn).aers ++ [c.cid])
        ∧ ∀ e r, (s.fn c.fn).events = e :: r → Answered c a ncOk e s t ∧ (t.fn c.fn).events = r)
  ∧ (∀ (a : Nat) (s : State), ∃ t, exec (.createIoQueue a) s = .next t
    ∧ ((∀ c, ¬AdminRuns s 10 a c) → t = s)
    ∧ (∀ c q n v ien, AdminRuns s 10 a c → c.cmd = .createCq q n v ien → SameFields admitFlds s t
        ∧ (q = 0 ∨ queuePairs s c.fn < q ∨ ((s.fn c.fn).cqs.find? q).isSome = true → Answered c a ncQid 0 s t)
        ∧ (0 < q → q ≤ queuePairs s c.fn → (s.fn c.fn).cqs.find? q = none →
            (n < 2 ∨ 512 < n → Answered c a ncQsize 0 s t ∧ (t.fn c.fn).cqs.find? q = none)
            ∧ (2 ≤ n → n ≤ 512 → v = 0 ∨ 128 < v → Answered c a ncVector 0 s t ∧ (t.fn c.fn).cqs.find? q = none)
            ∧ (2 ≤ n → n ≤ 512 → 0 < v → v ≤ 128 → Answered c a ncOk 0 s t
                ∧ ∃ r, (t.fn c.fn).cqs.find? q = some r ∧ r.size = n ∧ r.vector = v ∧ r.ien = ien)))
    ∧ (∀ c q n cq, AdminRuns s 10 a c → c.cmd = .createSq q n cq → SameFields admitFlds s t
        ∧ (q = 0 ∨ queuePairs s c.fn < q ∨ ((s.fn c.fn).sqs.find? q).isSome = true → Answered c a ncQid 0 s t ∧ (t.fn c.fn).sqs = (s.fn c.fn).sqs)
        ∧ (0 < q → q ≤ queuePairs s c.fn → (s.fn c.fn).sqs.find? q = none → 2 ≤ n → n ≤ 512 →
            (cq = 0 ∨ (s.fn c.fn).cqs.find? cq = none → Answered c a ncCqInvalid 0 s t ∧ (t.fn c.fn).sqs = (s.fn c.fn).sqs)
            ∧ (0 < cq → (s.fn c.fn).cqs.find? cq ≠ none → Answered c a ncOk 0 s t ∧ (t.fn c.fn).sqs.find? q = some { cq := cq, size := n }))))
  ∧ (∀ (a : Nat) (s : State), ∃ t, exec (.deleteIoQueue a) s = .next t
    ∧ ((∀ c, ¬AdminRuns s 11 a c) → t = s)
    ∧ (∀ c q, AdminRuns s 11 a c → c.cmd = .deleteSq q → SameFields admitFlds s t
        ∧ (q = 0 ∨ (s.fn c.fn).sqs.find? q = none → Answered c a ncQid 0 s t ∧ (t.fn c.fn).sqs = (s.fn c.fn).sqs)
        ∧ (0 < q → (s.fn c.fn).sqs.find? q ≠ none → Answered c a ncOk 0 s t ∧ (t.fn c.fn).sqs.find? q = none))
    ∧ (∀ c q, AdminRuns s 11 a c → c.cmd = .deleteCq q → SameFields admitFlds s t
        ∧ (0 < q → (s.fn c.fn).cqs.find? q ≠ none →
            ((∃ y x, (s.fn c.fn).sqs.find? y = some x ∧ x.cq = q) → Answered c a ncQueueDeletion 0 s t ∧ (t.fn c.fn).cqs.find? q ≠ none)
            ∧ ((∀ e ∈ (s.fn c.fn).sqs, e.2.cq ≠ q) → Answered c a ncOk 0 s t ∧ (t.fn c.fn).cqs.find? q = none))))
  ∧ (∀ (a : Nat) (s : State), ∃ t, exec (.invalidOpcode a) s = .next t
    ∧ (s.cmd? a = none → t = s)
    ∧ ∀ c, s.cmd? a = some c → c.over_ = false → kindOf c.cmd = 22 ∨ (c.sq = 0 ↔ kindOf c.cmd < 6) → Answered c a ncOpcode 0 s t ∧ SameFields admitFlds s t)
  ∧ ∀ s : State, ∃ t, exec .statusWindowRefresh s = .next t ∧ t.fld = s.fld
    ∧ (s.running = false → t = s)
    ∧ (s.running = true → t.window.getD 0x8000 0 = (s.window.getD 0x8000 0 + 1) % 2 ^ 32)
    ∧ (s.running = true → inReset s = false → t.window.getD 0x8008 0 = liveWord s (secBase + 4) ∧ t.window.getD 0x801C 0 = liveWord s (hqBase + 0x40)
        ∧ ∀ n : Fin 16, islandStopped s (islandOf (lkBase n + 4)) = false → t.window.getD (0x8040 + 4 * n.val) 0 = liveWord s (lkBase n + 4))

/-- Commands for the media. Before anything, a command ends with the path's status under ANA, or with a status for its namespace or its LBAs. A Read
carries its LBAs' data to the host, in which an unmapped LBA is zeros, waits while a read of the media is under way, or ends where one is not readable
or its staging is poisoned. Compare answers by the data. A Write completes once its data is whole in the Inkwell, with FUA only when its quires are
committed; data that is not whole goes to its first buffer and nowhere else. Write Zeroes and Deallocate put unmapping entries into their quire. Flush
closes the quires of earlier writes and waits for them. A quire's COLOPHON, known by its record, commits it, and no wait for it is left. Nothing
happens where a premise fails (assumption 4); the corners that the manual leaves open are the model's choice (assumptions 36, 38, 51 to 55 and 62).
Says of each of these rows that it answers a next state with its own effect: READ, COMPARE, WRITE_CMD, FLUSH, WRITE_ZEROES, DEALLOCATE, COMMIT_APPLY.
(R110, R111, R122, R345, R349, R353, R367, R374, R376, R377, R400) -/
def Obligations.MediaCommands : Prop :=
  (∀ (s : State) (c : Admitted), (s.get HQ_PWR_STATUS_PS < 3 → mediaThere s c = true) ∧ (asleep s = true → mediaThere s c = false)
    ∧ (3 ≤ s.get HQ_PWR_STATUS_PS → (∀ x, c.lock = some x → x.write = true) → mediaThere s c = false)
    ∧ ∀ x d y, asleep s = false → c.lock = some x → x.write = false → x.hi = x.lo + 1 → discsAt s x.nsid x.lo = [d] → disc? s d = some y →
        mediaReady s y.spindle = true → mediaThere s c = true)
  ∧  (∀ (a : Nat) (media : List (BitVec 40)) (s : State), ∃ t, exec (.readCmd a media) s = .next t
    ∧ ((∀ c, ¬IoRuns s 0 true a c) → t = s) ∧ ((∀ m ∈ media, m.toNat < inkLimit) → SameFields admitFlds s t)
    ∧ ∀ c n lba k, IoRuns s 0 true a c → c.cmd = .read n lba k →
        (∀ st, ioError s c.fn n (lba + k) k = some st → Answered c a st 0 s t)
        ∧ (ioError s c.fn n (lba + k) k = none →
            (∀ b, gather s n k lba (media.map BitVec.toNat) = .data b → Answered c a ncOk 0 s t ∧ (t.fn c.fn).dma = b)
            ∧ (∀ st, gather s n k lba (media.map BitVec.toNat) = .stop st → Answered c a st 0 s t ∧ (t.fn c.fn).dma = (s.fn c.fn).dma)
            ∧ (gather s n k lba (media.map BitVec.toNat) = .wait → ∃ c', t.cmd? a = some c' ∧ c'.over_ = false ∧ (t.fn c.fn).dma = (s.fn c.fn).dma)
            ∧ (k = 1 → ∀ b, lbaAt s n lba = .data b → Answered c a ncOk 0 s t ∧ (t.fn c.fn).dma = b)
            ∧ (k = 1 → lbaAt s n lba = .bad → Answered c a ncUnrecovered 0 s t)
            ∧ (k = 1 → lbaAt s n lba = .media → ∀ m, media = [m] → awaited s m.toNat = false → m.toNat < inkLimit →
                (s.anyPoison m.toNat 4096 = false → Answered c a ncOk 0 s t ∧ (t.fn c.fn).dma = s.bytesAt m.toNat 4096)
                ∧ (s.anyPoison m.toNat 4096 = true → Answered c a ncUnrecovered 0 s t))))
  ∧ (∀ (a : Nat) (d : List (BitVec 8)) (media : List (BitVec 40)) (s : State), ∃ t, exec (.compare a d media) s = .next t
    ∧ ((∀ c, ¬IoRuns s 2 true a c) → t = s) ∧ ((∀ m ∈ media, m.toNat < inkLimit) → SameFields admitFlds s t)
    ∧ ∀ c n lba k, IoRuns s 2 true a c → c.cmd = .compare n lba k →
        (∀ st, ioError s c.fn n (lba + k) k = some st → Answered c a st 0 s t)
        ∧ (ioError s c.fn n (lba + k) k = none →
            (∀ b, gather s n k lba (media.map BitVec.toNat) = .data b → Answered c a (if b = d then ncOk else ncCompare) 0 s t)
            ∧ (k = 1 → lbaAt s n lba = .media → ∀ m, media = [m] → awaited s m.toNat = false → m.toNat < inkLimit →
                s.anyPoison m.toNat 4096 = false → Answered c a (if s.bytesAt m.toNat 4096 = d then ncOk else ncCompare) 0 s t)))
  ∧ (∀ (a : Nat) (d : List (BitVec 8)) (parts : List (Nat × BitVec 40 × BitVec 40)) (s : State), ∃ t, exec (.writeCmd a d parts) s = .next t
    ∧ ((∀ c, ¬IoRuns s 1 true a c) → t = s)
    ∧ ∀ c n lba k fua, IoRuns s 1 true a c → c.cmd = .write n lba k fua →
        (∀ st, ioError s c.fn n (lba + k) 0 = some st → Answered c a st 0 s t ∧ SameMemory s t)
        ∧ (ioError s c.fn n (lba + k) 0 = none → (chunks 16384 lba k).length = parts.length →
            takesAll s.ledger.quires (partRuns a n (chunks 16384 lba k) (parts.map fun e => (e.1, e.2.1.toNat, e.2.2.toNat))) = true →
            (4096 * k ≤ d.length → fua = false → s.get VRS_STATUS_LINK ≠ 2 → Answered c a ncOk 0 s t)
            ∧ (4096 * k ≤ d.length → 0 < k → ∀ e, parts = [e] → ∃ y, t.ledger.quires.find? e.1 = some y
                ∧ ({ adm := a, nsid := n, lba := lba, count := k, addr := some e.2.1.toNat } : QRun) ∈ y.runs)
            ∧ (4096 * k ≤ d.length → fua = true → 0 < k →
                ∃ c', t.cmd? a = some c' ∧ c'.over_ = false ∧ c'.dataWhole = true ∧ c'.quires = parts.map (·.1))
            ∧ (d.length < 4096 * k → (∃ c', t.cmd? a = some c' ∧ c'.over_ = false ∧ c'.dataWhole = false)
                ∧ ∀ e r, parts = e :: r → s.get INK_ECC_TEST_ARM ≠ 1 → e.2.1.toNat + d.length ≤ inkLimit →
                    (∀ i, i < d.length → t.byte (e.2.1.toNat + i) = d.getD i 0)
                    ∧ ∀ x, x < e.2.1.toNat ∨ e.2.1.toNat + d.length ≤ x → t.byte x = s.byte x)))
  ∧ (∀ (a : Nat) (s : State), ∃ t, exec (.flush a) s = .next t
    ∧ ((∀ c, ¬IoRuns s 5 true a c) → t = s)
    ∧ ∀ c n, IoRuns s 5 true a c → c.cmd = .flush n → anaOf s = .optimized → n = 0xFFFFFFFF ∨ ioError s c.fn n 0 0 = none → SameFields admitFlds s t
        ∧ ((∃ b x l, s.cmd? b = some x ∧ b < a ∧ x.over_ = false ∧ x.dataWhole = false ∧ x.lock = some l ∧ l.write = true ∧ flushNames n l.nsid = true) →
            ∃ c', t.cmd? a = some c' ∧ c'.over_ = false ∧ c'.dataWhole = false)
        ∧ ((∀ e ∈ s.hq.cmds, e.1 < a → e.2.dataWhole = true) →
            (∀ q x, s.ledger.quires.find? q = some x → x.committed = false → (x.took.any fun r => decide (r.1 < a) && flushNames n r.2) = true →
              (∃ y, t.ledger.quires.find? q = some y ∧ y.isOpen = false ∧ (x.isOpen = true → y.byFlush = true))
                ∧ ∃ c', t.cmd? a = some c' ∧ c'.over_ = false ∧ q ∈ c'.quires)
            ∧ (s.ledger.quires = [] → s.get VRS_STATUS_LINK ≠ 2 → Answered c a ncOk 0 s t)))
  ∧ (∀ (a q : Nat) (blocks : List (BitVec 40)) (s : State), ∃ t, exec (.writeZeroes a q blocks) s = .next t
    ∧ ((∀ c, ¬IoRuns s 3 true a c) → t = s)
    ∧ ∀ c n lba k, IoRuns s 3 true a c → c.cmd = .writeZeroes n lba k →
        (∀ st, ioError s c.fn n (lba + k) 0 = some st → Answered c a st 0 s t ∧ SameMemory s t)
        ∧ (ioError s c.fn n (lba + k) 0 = none → (quireAt s q).isOpen = true → (rangeSpans [(lba, k)]).length = blocks.length →
            (s.get VRS_STATUS_LINK ≠ 2 → c.quires = [] → Answered c a ncOk 0 s t)
            ∧ (0 < k → lba / 16384 = (lba + k - 1) / 16384 → (quireAt s q).takes { adm := a, nsid := n, lba := lba, count := k, addr := none } = true →
                ∃ y, t.ledger.quires.find? q = some y ∧ ({ adm := a, nsid := n, lba := lba, count := k, addr := none } : QRun) ∈ y.runs)))
  ∧ (∀ (a q : Nat) (blocks : List (BitVec 40)) (s : State), ∃ t, exec (.deallocate a q blocks) s = .next t
    ∧ ((∀ c, ¬IoRuns s 4 true a c) → t = s)
    ∧ ∀ c n l, IoRuns s 4 true a c → c.cmd = .deallocate n l →
        ioError s c.fn n (l.foldl (fun m e => max m (e.1 + e.2)) 0) 0 = none → (quireAt s q).isOpen = true → (rangeSpans l).length = blocks.length →
          (s.get VRS_STATUS_LINK ≠ 2 → c.quires = [] → Answered c a ncOk 0 s t)
          ∧ (s.ledger.quires.find? q = none → l.length ≤ 3824 → (∀ e ∈ l, 0 < e.2 ∧ e.1 / 16384 = (e.1 + e.2 - 1) / 16384) →
            l.Pairwise (fun x y => x.1 + x.2 ≤ y.1 ∨ y.1 + y.2 ≤ x.1) → ∀ e ∈ l, ∃ y, t.ledger.quires.find? q = some y ∧ ({ adm := a, nsid := n, lba := e.1, count := e.2, addr := none } : QRun) ∈ y.runs))
  ∧ ∀ (q : Nat) (n : Fin 16) (i : Nat) (disc : Fin 512) (blocks : List (BitVec 40)) (s : State), ∃ t, exec (.commitApply q n i disc blocks) s = .next t
    ∧ (s.ledger.quires.find? q = none ∨ (readDescriptor s n i).kind ≠ 3 ∨ s.le (descAddr s n i + 48) 2 ≠ 0 → t = s)
    ∧ (s.le (readDescriptor s n i).data 4 ≠ 0x7C0F0A01 ∨ s.le ((readDescriptor s n i).data + 4) 2 ≠ 1 ∨ s.le ((readDescriptor s n i).data + 0x10) 8 ≠ q → t = s)
    ∧ ((commitSpans s (colophonRuns s (readDescriptor s n i).data disc (dataNibs s n) (!isN1 s n))).length ≠ blocks.length → t = s)
    ∧ ∀ x, s.ledger.quires.find? q = some x →
        (x.committed = true ∨ (s.le ((readDescriptor s n i).data + 6) 2).testBit 2 ≠ x.byFlush → t = s)
        ∧ (x.committed = false → (readDescriptor s n i).kind = 3 → s.le (descAddr s n i + 48) 2 = 0 →
            0 < (s.get (FQ_TAIL_TAIL n) + 2 ^ 32 - i) % 2 ^ 32 → (s.get (FQ_TAIL_TAIL n) + 2 ^ 32 - i) % 2 ^ 32 ≤ fqSize s n →
            s.le (readDescriptor s n i).data 4 = 0x7C0F0A01 → s.le ((readDescriptor s n i).data + 4) 2 = 1 → s.le ((readDescriptor s n i).data + 0x10) 8 = q →
            (s.le ((readDescriptor s n i).data + 6) 2).testBit 2 = x.byFlush →
            (commitSpans s (colophonRuns s (readDescriptor s n i).data disc (dataNibs s n) (!isN1 s n))).length = blocks.length →
            (∀ y, t.ledger.quires.find? q = some y → y.committed = true) ∧ (∀ e ∈ t.hq.cmds, q ∉ e.2.quires)
            ∧ ∀ b c, s.cmd? b = some c → c.over_ = false → c.dataWhole = true → c.quires = [q] → s.get VRS_STATUS_LINK ≠ 2 → Answered c b ncOk 0 s t)

/-- Admin commands on data, features and namespaces. Identify Controller shows MDTS 14, version 2.0, five power states, up to 64 namespaces and the
firmware revision; Identify Namespace its size; the ANA log the unit's state and how many namespaces its group has, the health log whether the part is
HOT. Power Management reads and selects a function's power state, states above 4 and features outside the list are refused, as is disabling the write
cache; Number of Queues is the function's share. A namespace takes the lowest free NSID where there is room, is attached to either function or both,
and leaves with its NSID free again. Nothing happens where a premise fails (assumption 4); the corners that the manual leaves open are the model's
choice (assumptions 38, 44, 56, 57, 106, 107 and 127). Says of each of these rows that it answers a next state with its own effect: IDENTIFY,
GET_LOG_PAGE, GET_FEATURES, SET_FEATURES, NAMESPACE_MANAGEMENT, NAMESPACE_ATTACHMENT, SECURITY_SEND, SECURITY_RECEIVE. (R344, R345, R346, R352, R400,
R449) -/
def Obligations.AdminCommands : Prop :=
  (∀ (a : Nat) (s : State), ∃ t, exec (.identify a) s = .next t
    ∧ ((∀ c, ¬AdminRuns s 6 a c) → t = s)
    ∧ ∀ c cns n, AdminRuns s 6 a c → c.cmd = .identify cns n → SameFields admitFlds s t
        ∧ (cns = 1 → Answered c a ncOk 0 s t ∧ (t.fn c.fn).dma.length = 4096 ∧ (t.fn c.fn).dma.getD 77 0 = 14 ∧ (t.fn c.fn).dma.getD 516 0 = 64
            ∧ (t.fn c.fn).dma.getD 263 0 = 4 ∧ ((t.fn c.fn).dma.drop 80).take 4 = leBytes 4 0x20000 ∧ ((t.fn c.fn).dma.drop 2048).take 2 = leBytes 2 9600
            ∧ ((t.fn c.fn).dma.drop 64).take 8 = leBytes 8 (s.get SYS_BOOT_VER_VERSION))
        ∧ (∀ x, cns = 0 → s.hq.nss.find? n = some x → x.ctrls.testBit c.fn = true → Answered c a ncOk 0 s t
            ∧ (t.fn c.fn).dma.take 8 = leBytes 8 x.size)
        ∧ (cns = 0 → s.hq.nss.find? n = none → 1 ≤ n → n ≤ 64 → Answered c a ncOk 0 s t ∧ (t.fn c.fn).dma = zeroBlock)
        ∧ (cns = 0 → s.hq.nss.find? n = none → n = 0 ∨ 64 < n → Answered c a ncNamespace 0 s t)
        ∧ (2 < cns → Answered c a ncField 0 s t))
  ∧ (∀ (a : Nat) (s : State), ∃ t, exec (.getLogPage a) s = .next t
    ∧ ((∀ c, ¬AdminRuns s 7 a c) → t = s)
    ∧ ∀ c lid, AdminRuns s 7 a c → c.cmd = .getLogPage lid → Answered c a ncOk 0 s t ∧ (t.fn c.fn).dma.length = 512
        ∧ (lid = 0xC → (t.fn c.fn).dma.getD 32 0 = BitVec.ofNat 8 (anaCode (anaOf s))
            ∧ ((t.fn c.fn).dma.drop 20).take 4 = leBytes 4 ((attachedTo s c.fn).take 64).length)
        ∧ (lid = 2 → ((t.fn c.fn).dma.getD 0 0).toNat / 2 % 2 = s.get SYS_TH_STATUS_HOT % 2) ∧ SameFields admitFlds s t)
  ∧ (∀ (a : Nat) (s : State), ∃ t, exec (.getFeatures a) s = .next t
    ∧ ((∀ c, ¬AdminRuns s 8 a c) → t = s)
    ∧ ∀ c fid, AdminRuns s 8 a c → c.cmd = .getFeatures fid → SameFields admitFlds s t
        ∧ (fid = 2 → Answered c a ncOk (s.get (fnPs c.fn)) s t)
        ∧ (fid = 7 → 0 < queuePairs s c.fn → Answered c a ncOk ((queuePairs s c.fn - 1) * 65537) s t)
        ∧ (fid = 6 → Answered c a ncOk ((s.fn c.fn).features.getD 6 1) s t)
        ∧ (fid ∉ [1, 2, 4, 6, 7, 8, 0xB, 0xC, 0xE, 0x16] → Answered c a ncField 0 s t))
  ∧ (∀ (a : Nat) (s : State), ∃ t, exec (.setFeatures a) s = .next t
    ∧ ((∀ c, ¬AdminRuns s 9 a c) → t = s)
    ∧ ∀ c fid v tab, AdminRuns s 9 a c → c.cmd = .setFeatures fid v tab →
        (fid = 2 → v % 32 ≤ 4 → Answered c a ncOk 0 s t ∧ t.get (fnPs c.fn) = v % 32 ∧ (v % 32 ≤ 2 → t.hq.lastOp = v % 32)
          ∧ SameFields ([fnPs c.fn, SYS_TH_STATUS_SPRINTING, SYS_EVENT_THERMAL] ++ admitFlds) s t)
        ∧ (fid = 2 → 4 < v % 32 → Answered c a ncField 0 s t ∧ SameFields admitFlds s t)
        ∧ (fid = 6 → v % 2 = 0 → Answered c a ncNotChangeable 0 s t ∧ (t.fn c.fn).features = (s.fn c.fn).features)
        ∧ (fid = 7 → 0 < queuePairs s c.fn → Answered c a ncOk ((queuePairs s c.fn - 1) * 65537) s t)
        ∧ (fid = 0xC → Answered c a ncOk 0 s t ∧ (t.fn c.fn).apst = some tab ∧ (t.fn c.fn).features.getD 0xC 1 = v)
        ∧ (fid ∉ [1, 2, 4, 6, 7, 8, 0xB, 0xC, 0xE, 0x16] → Answered c a ncField 0 s t ∧ (t.fn c.fn).features = (s.fn c.fn).features))
  ∧ (∀ (a : Nat) (room : Bool) (dir : BitVec 40) (s : State), ∃ t, exec (.namespaceManagement a room dir) s = .next t
    ∧ ((∀ c, ¬AdminRuns s 14 a c) → t = s)
    ∧ (∀ c size, AdminRuns s 14 a c → c.cmd = .nsCreate size →
        ((∀ n, 1 ≤ n → n ≤ 64 → s.hq.nss.find? n ≠ none) → Answered c a ncNsid 0 s t ∧ t.hq.nss = s.hq.nss)
        ∧ ∀ n, 1 ≤ n → n ≤ 64 → s.hq.nss.find? n = none → (∀ m, 1 ≤ m → m < n → s.hq.nss.find? m ≠ none) →
            (room = true → Answered c a ncOk n s t ∧ t.hq.nss.find? n = some { size := size, ctrls := 0, dir := dir.toNat / 64 * 64 } ∧ ∀ m, m ≠ n → t.hq.nss.find? m = s.hq.nss.find? m)
            ∧ (room = false → Answered c a ncNsCapacity 0 s t ∧ t.hq.nss = s.hq.nss ∧ SameMemory s t))
    ∧ ∀ c n, AdminRuns s 14 a c → c.cmd = .nsDelete n →
        (n = 0xFFFFFFFF → Answered c a ncOk 0 s t ∧ t.hq.nss = [])
        ∧ (n ≠ 0xFFFFFFFF → s.hq.nss.find? n = none → Answered c a ncNamespace 0 s t ∧ t.hq.nss = s.hq.nss)
        ∧ (n ≠ 0xFFFFFFFF → s.hq.nss.find? n ≠ none → Answered c a ncOk 0 s t ∧ t.hq.nss.find? n = none ∧ ∀ m, m ≠ n → t.hq.nss.find? m = s.hq.nss.find? m))
  ∧ (∀ (a : Nat) (s : State), ∃ t, exec (.namespaceAttachment a) s = .next t
    ∧ ((∀ c, ¬AdminRuns s 15 a c) → t = s)
    ∧ ∀ c n m on, AdminRuns s 15 a c → c.cmd = .nsAttach n m on → SameFields admitFlds s t
        ∧ (s.hq.nss.find? n = none → Answered c a ncNamespace 0 s t)
        ∧ ∀ x, s.hq.nss.find? n = some x →
            (on = true → x.ctrls &&& m % 4 ≠ 0 → Answered c a ncAttached 0 s t ∧ t.hq.nss = s.hq.nss)
            ∧ (on = true → x.ctrls &&& m % 4 = 0 → Answered c a ncOk 0 s t ∧ ∀ f : Fin 2, m.testBit f = true → attached t f n = true)
            ∧ (on = false → x.ctrls &&& m % 4 ≠ m % 4 → Answered c a ncNotAttached 0 s t ∧ t.hq.nss = s.hq.nss)
            ∧ (on = false → x.ctrls &&& m % 4 = m % 4 → Answered c a ncOk 0 s t ∧ ∀ f : Fin 2, m.testBit f = true → attached t f n = false))
  ∧ (∀ (a : Nat) (s : State), ∃ t, exec (.securitySend a) s = .next t
    ∧ ((∀ c, ¬AdminRuns s 20 a c) → t = s)
    ∧ ∀ c b, AdminRuns s 20 a c → c.cmd = .securitySend b → Answered c a ncOk 0 s t ∧ t.hq.opal = b ∧ SameFields admitFlds s t)
  ∧ ∀ (a : Nat) (r : List (BitVec 8)) (s : State), ∃ t, exec (.securityReceive a r) s = .next t
    ∧ ((∀ c, ¬AdminRuns s 21 a c) → t = s)
    ∧ ∀ c n, AdminRuns s 21 a c → c.cmd = .securityReceive n → Answered c a ncOk 0 s t ∧ (t.fn c.fn).dma = r.take n ∧ SameFields admitFlds s t

/-- Erasing and firmware commands. Format with SES = 1 and Sanitize with another action than crypto erase are refused; nothing is erased without the SEC
block; a crypto erase waits for its slot and gives it a new key, locked. An image downloads up to 32 MiB; a commit writes the slot that is not
running, marks a slot for trial, or, where the image passes its checks, switches every running Scribe to it, and else answers Invalid Firmware Image.
A roll-back ends the activation with its command over. Nothing happens where a premise fails (assumption 4); the corners that the manual leaves open
are the model's choice (assumptions 38, 44, 56, 57, 106, 107 and 127). Says of each of these rows that it answers a next state with its own effect:
FORMAT_NVM, SANITIZE, FIRMWARE_IMAGE_DOWNLOAD, FIRMWARE_COMMIT, ACTIVATION_ROLLBACK. (R345, R351, R411, R416, R455, R456, R457) -/
def Obligations.EraseAndFirmware : Prop :=
  (∀ (a : Nat) (k : Fin 128) (q : Nat) (blocks : List (BitVec 40)) (s : State), ∃ t, exec (.formatNvm a k q blocks) s = .next t
    ∧ ((∀ c, ¬AdminRuns s 16 a c) → t = s)
    ∧ ∀ c n ses, AdminRuns s 16 a c → c.cmd = .format n ses →
        (s.hq.nss.find? n = none → Answered c a ncNamespace 0 s t ∧ SameMemory s t)
        ∧ ∀ x, s.hq.nss.find? n = some x →
            (ses ≠ 0 → ses ≠ 2 → Answered c a ncFormat 0 s t ∧ SameMemory s t)
            ∧ (ses = 0 → (quireAt s q).isOpen = true → (rangeSpans [(0, x.size)]).length = blocks.length → Answered c a ncOk 0 s t
                ∧ (0 < x.size → (quireAt s q).takes { adm := a, nsid := n, lba := 0, count := min 16384 x.size, addr := none } = true → ∃ y, t.ledger.quires.find? q = some y
                  ∧ ({ adm := a, nsid := n, lba := 0, count := min 16384 x.size, addr := none } : QRun) ∈ y.runs))
            ∧ (ses = 2 → s.get SEC_STATUS_STATE ≠ 1 ∨ s.sec.withheld = true → Answered c a ncInternal 0 s t ∧ t.sec = s.sec)
            ∧ (ses = 2 → s.get SEC_STATUS_STATE = 1 → s.sec.withheld = false → s.get (SEC_SLOT_IN_USE k) ≠ 1 → Answered c a ncOk 0 s t
                ∧ t.get (SEC_SLOT_LOADED k) = 1 ∧ t.get (SEC_SLOT_READ_OK k) = 0 ∧ t.get (SEC_SLOT_WRITE_OK k) = 0
                ∧ (t.sec.slots.find? k).map List.length = some 64))
  ∧ (∀ (a : Nat) (s : State), ∃ t, exec (.sanitize a) s = .next t
    ∧ ((∀ c, ¬AdminRuns s 17 a c) → t = s)
    ∧ ∀ c act, AdminRuns s 17 a c → c.cmd = .sanitize act →
        (act ≠ 4 → Answered c a ncField 0 s t ∧ t.sec = s.sec)
        ∧ (act = 4 → s.get SEC_STATUS_STATE ≠ 1 ∨ s.sec.withheld = true → Answered c a ncInternal 0 s t ∧ t.sec = s.sec)
        ∧ (act = 4 → s.get SEC_STATUS_STATE = 1 → s.sec.withheld = false → (∀ k : Fin 128, s.get (SEC_SLOT_IN_USE k) ≠ 1) → Answered c a ncOk 0 s t
            ∧ ∀ k : Fin 128, (s.get (SEC_SLOT_LOADED k) = 1 → t.get (SEC_SLOT_LOADED k) = 1 ∧ t.get (SEC_SLOT_READ_OK k) = 0
                  ∧ (t.sec.slots.find? k).map List.length = some 64)
                ∧ (s.get (SEC_SLOT_LOADED k) ≠ 1 → t.sec.slots.find? k = s.sec.slots.find? k)))
  ∧ (∀ (a : Nat) (s : State), ∃ t, exec (.firmwareImageDownload a) s = .next t
    ∧ ((∀ c, ¬AdminRuns s 18 a c) → t = s)
    ∧ ∀ c o b, AdminRuns s 18 a c → c.cmd = .fwDownload o b → SameFields admitFlds s t
        ∧ (33554432 < o + b.length → Answered c a ncField 0 s t ∧ t.hq.image = s.hq.image)
        ∧ (o + b.length ≤ 33554432 → Answered c a ncOk 0 s t ∧ (∀ i, i < b.length → t.hq.image.getD (o + i) 0 = b.getD i 0)
            ∧ ∀ x, x < o ∨ o + b.length ≤ x → t.hq.image.getD x 0 = s.hq.image.getD x 0))
  ∧ (∀ (a : Nat) (bad : Option (Fin 8)) (s : State), ∃ t, exec (.firmwareCommit a bad) s = .next t
    ∧ ((∀ c, ¬AdminRuns s 19 a c) → t = s)
    ∧ ∀ c fs ca, AdminRuns s 19 a c → c.cmd = .fwCommit fs ca →
        (2 < fs ∨ (ca ≤ 1 ∧ fs = s.get SYS_BOOT_SLOT + 1) → Answered c a ncFwSlot 0 s t ∧ t.flash = s.flash ∧ SameMemory s t)
        ∧ (ca ≤ 1 → fs = 0 ∨ fs = 2 - s.get SYS_BOOT_SLOT → Answered c a ncOk 0 s t ∧ t.flash.slots.find? (1 - s.get SYS_BOOT_SLOT) = some (downloaded s)
            ∧ (ca = 0 → t.flash.preferred = s.flash.preferred ∧ t.flash.trial = s.flash.trial)
            ∧ (ca = 1 → t.flash.preferred = 1 - s.get SYS_BOOT_SLOT ∧ t.flash.trial = true))
        ∧ (ca = 2 → fs ≤ 2 → Answered c a ncOk 0 s t ∧ t.flash.trial = true ∧ t.flash.slots = s.flash.slots
            ∧ t.flash.preferred = (if fs = 0 then 1 - s.get SYS_BOOT_SLOT else fs - 1))
        ∧ (ca = 3 → fs ≤ 2 →
            (imageCode s (newImage s (if fs = 0 then 1 - s.get SYS_BOOT_SLOT else fs - 1)) false ≠ 0 → Answered c a ncFwImage 0 s t
              ∧ t.sec = s.sec ∧ SameFields admitFlds s t ∧ SameMemory s t)
            ∧ (imageCode s (newImage s (if fs = 0 then 1 - s.get SYS_BOOT_SLOT else fs - 1)) false = 0 → bad = none →
                Over t a ∧ t.hq.activation = s.hq.activation ∧ (∀ f : Fin 2, (t.fn f).pp = false)
                ∧ t.boot.image = newImage s (if fs = 0 then 1 - s.get SYS_BOOT_SLOT else fs - 1)
                ∧ ∀ q : Fin 8, s.get (SYS_SCR_STATUS_RUNNING q) = 1 → t.bit SEC_FW_LISTED q
                    = imageListed (newImage s (if fs = 0 then 1 - s.get SYS_BOOT_SLOT else fs - 1)))))
  ∧ ∀ s : State, ∃ t, exec .activationRollback s = .next t
    ∧ (s.hq.activation = none → t = s)
    ∧ ∀ x, s.hq.activation = some x → t.hq.activation = none ∧ t.hq.heldResets = [] ∧ Over t x.adm

/-- Power states. The device goes to the lower-numbered of the states that its functions select, and to PS2 at least while HOT; a transition to PS3 or PS4
starts only when every admitted write is committed, is shown while it lasts, turns back where its target is no longer wanted, and ends with the state
shown and its event. A function idle for the period of its transition table's entry falls to the state the table gives for its present one, and one
that waits with an Asynchronous Event Request is not idle. An I/O command in PS3 or PS4 returns the functions to the operational state last selected.
Nothing happens where a premise fails (assumption 4); the corners that the manual leaves open are the model's choice (assumptions 38, 44, 56, 57, 106,
107 and 127). Says of each of these rows that it answers a next state with its own effect: POWER_STATE_CHANGE, APST_DUE, AUTONOMOUS_EXIT. (R352, R353,
R354, R355, R356, R453) -/
def Obligations.PowerStates : Prop :=
  (∀ s : State, ∃ t, exec .powerStateChange s = .next t
    ∧ (s.get HQ_PWR_STATUS_TRANSITION ≠ 1 → wantedPs s = s.get HQ_PWR_STATUS_PS → t = s)
    ∧ (s.get HQ_PWR_STATUS_TRANSITION ≠ 1 → wantedPs s ≠ s.get HQ_PWR_STATUS_PS → 3 ≤ wantedPs s → allCommitted s = false → t = s)
    ∧ (s.get HQ_PWR_STATUS_TRANSITION ≠ 1 → wantedPs s ≠ s.get HQ_PWR_STATUS_PS → wantedPs s < 3 ∨ allCommitted s = true →
        t.get HQ_PWR_STATUS_TRANSITION = 1 ∧ t.get HQ_PWR_STATUS_TARGET = wantedPs s ∧ t.get HQ_PWR_STATUS_PS = s.get HQ_PWR_STATUS_PS)
    ∧ (s.get HQ_PWR_STATUS_TRANSITION = 1 → wantedPs s = s.get HQ_PWR_STATUS_TARGET →
        t.get HQ_PWR_STATUS_TRANSITION = 0 ∧ t.get HQ_PWR_STATUS_PS = wantedPs s ∧ t.get HQ_EVENT_PS_CHANGE = 1)
    ∧ (s.get HQ_PWR_STATUS_TRANSITION = 1 → wantedPs s ≠ s.get HQ_PWR_STATUS_TARGET → 3 ≤ wantedPs s → allCommitted s = false → t = s)
    ∧ (s.get HQ_PWR_STATUS_TRANSITION = 1 → wantedPs s ≠ s.get HQ_PWR_STATUS_TARGET → wantedPs s < 3 ∨ allCommitted s = true →
        t.get HQ_PWR_STATUS_TRANSITION = 1 ∧ t.get HQ_PWR_STATUS_TARGET = wantedPs s ∧ t.get HQ_PWR_STATUS_PS = s.get HQ_PWR_STATUS_PS))
  ∧ (∀ (f : Fin 2) (s : State), ∃ t, exec (.apstDue f) s = .next t
    ∧ (isIdle s f = false → t = s) ∧ ((s.fn f).aers ≠ [] → t = s)
    ∧ (isIdle s f = true → OnlyFields [fnPs f, HQ_EVENT_APST_DUE] s t
        ∧ (s.get (fnPs f) < 2 → (s.fn f).apst = none → (s.fn f).features.getD 0xC 1 = 1 →
            (30000 ≤ s.get (HQ_IDLE_MS f) → t.get (fnPs f) = 2 ∧ t.get HQ_EVENT_APST_DUE = 1) ∧ (s.get (HQ_IDLE_MS f) < 30000 → t = s))
        ∧ (s.get (fnPs f) = 2 → (s.fn f).apst = none → (s.fn f).features.getD 0xC 1 = 1 → 300000 ≤ s.get (HQ_IDLE_MS f) → t.get (fnPs f) = 3)
        ∧ (s.get (fnPs f) = 3 → (s.fn f).apst = none → (s.fn f).features.getD 0xC 1 = 1 → 1800000 ≤ s.get (HQ_IDLE_MS f) → t.get (fnPs f) = 4)
        ∧ ((s.fn f).features.getD 0xC 1 % 2 = 0 → t = s)))
  ∧ ∀ s : State, ∃ t, exec .autonomousExit s = .next t
    ∧ ((∀ e ∈ s.hq.cmds, e.2.sq = 0 ∨ e.2.over_ = true) → t = s)
    ∧ (s.get HQ_PWR_STATUS_PS < 3 → s.get HQ_PWR_STATUS_TRANSITION ≠ 1 → t = s)
    ∧ ((∃ e ∈ s.hq.cmds, e.2.sq ≠ 0 ∧ e.2.over_ = false) → 3 ≤ s.get HQ_PWR_STATUS_PS → s.hq.lastOp < 3 →
        t.get HQ_PWR_STATUS_TRANSITION = 1 ∧ t.get HQ_PWR_STATUS_TARGET < 3 ∧ t.get HQ_PWR_STATUS_PS = s.get HQ_PWR_STATUS_PS
        ∧ ∀ f : Fin 2, t.get (fnPs f) = if 3 ≤ s.get (fnPs f) then s.hq.lastOp else s.get (fnPs f))

/-- The ledger. LOOKUP answers the next request of the rings in turn: the tail moves on, the ring's event is set, the lookup is counted, and so is a SLOW
or a FAULT, which a poisoned request is; a FAULT of another asks for its span to be rebuilt, which a build with no span of its own does. A swap inside
the Inkwell is one of SEQ and is done and OK; into a line that is present, both words land together and no memory changes; one outside is refused. A
bind takes a disc whose generation its spindle's pens have, and refuses another and says why; in CHAIN a copy of a Colophon that counts, once for each
commit, adds the runs of its record, one whose key no slot holds refuses the bind, and the disc goes to SORT at both ends; SORT puts every touched
span in the build order; BUILD takes its first span out of every order; an unbind of a READY disc leaves the build. A slow lookup moves its spans to
the front of each order, and resolves to nothing while a disc of its namespace is in CHAIN. Nothing happens where a premise fails (assumption 4); the
corners that the manual leaves open are the model's choice (assumptions 33, 37, 103 to 106, 122 and 124). Says of each of these rows that it answers a
next state with its own effect: LOOKUP, LDG_SWAP, BIND, SLOW_LOOKUP_RESOLVE. (R25, R124, R148, R149, R363, R364, R366, R369, R370, R371, R372, R380,
R413, R494) -/
def Obligations.LedgerWork : Prop :=
  (∀ s : State, ∃ t, exec .lookup s = .next t
    ∧ (s.get LDG_CTRL_ENABLE ≠ 1 ∨ nextRing s = none → t = s)
    ∧ ∀ q s1 a m r, s.get LDG_CTRL_ENABLE = 1 → nextRing s = some q → s1 = { s with ledger := { s.ledger with ring := q } } →
        a = s.get (LDG_Q_BASE_BASE q) * 4096 + 64 * (s.get (LDG_Q_TAIL_TAIL q) % ringSize s q) → m = memRead s1 a 64 →
        r = lookupRange m.2.2 (field m.1 32 8) (field m.1 64 40) (field m.1 112 16 + 1) →
          t.ledger.ring = q ∧ t.get (LDG_Q_TAIL_TAIL q) = (s.get (LDG_Q_TAIL_TAIL q) + 1) % 2 ^ 32 ∧ t.bit LDG_EVENT_RESP q = true
          ∧ t.get LDG_CNT_LOOKUP_LOOKUPS = min (s.get LDG_CNT_LOOKUP_LOOKUPS + 1) (2 ^ 48 - 1)
          ∧ (m.2.1 = true ∨ r.2.1 = 3 → t.get LDG_EVENT_FAULT = 1 ∧ t.get LDG_CNT_EXC_FAULTS = min (s.get LDG_CNT_EXC_FAULTS + 1) (2 ^ 16 - 1))
          ∧ (m.2.1 = false → r.2.1 = 3 → spanKey (field m.1 32 8) (r.2.2.1 / spanLbas) ∈ t.ledger.rebuild)
          ∧ (m.2.1 = false → r.2.1 = 2 → t.get LDG_CNT_EXC_SLOWS = min (s.get LDG_CNT_EXC_SLOWS + 1) (2 ^ 16 - 1)
              ∧ t.get LDG_CNT_EXC_FAULTS = s.get LDG_CNT_EXC_FAULTS)
          ∧ (m.2.1 = false → field m.1 32 8 = 0 ∨ 64 < field m.1 32 8 → t.get LDG_CNT_EXC_SLOWS = s.get LDG_CNT_EXC_SLOWS
              ∧ t.get LDG_CNT_EXC_FAULTS = s.get LDG_CNT_EXC_FAULTS ∧ t.get LDG_EVENT_FAULT = s.get LDG_EVENT_FAULT))
  ∧ (∀ s : State, s.boot.low = false → ∃ t, exec .ldgSwap s = .next t ∧ t.get LDG_SWAP_CTRL_START = 0 ∧ t.get LDG_SWAP_CTRL_DONE = 1 ∧ t.get LDG_EVENT_SWAP_DONE = 1
    ∧ (inkLimit ≤ s.get LDG_SWAP_ADDR_ADDR * 16 → t.get LDG_SWAP_CTRL_OK = 0 ∧ t.get LDG_EVENT_SWAP_REFUSED = 1
        ∧ OnlyFields [LDG_SWAP_CTRL_START, LDG_SWAP_CTRL_DONE, LDG_EVENT_SWAP_DONE, LDG_SWAP_CTRL_OK, LDG_EVENT_SWAP_REFUSED] s t)
    ∧ (s.get LDG_SWAP_ADDR_ADDR * 16 < inkLimit → t.get LDG_SWAP_CTRL_OK = 1 ∧ t.get LDG_SWAP_SEQ_SEQ = (s.get LDG_SWAP_SEQ_SEQ + 1) % 2 ^ 32
        ∧ t.get LDG_OLDEST_SEQ = (s.get LDG_SWAP_SEQ_SEQ + 1) % 2 ^ 32 ∧ t.get LDG_EVENT_SWAP_REFUSED = s.get LDG_EVENT_SWAP_REFUSED
        ∧ ∀ w l, policyOf s (s.get LDG_SWAP_ADDR_ADDR * 16) = 0 → hitWay s (s.get LDG_SWAP_ADDR_ADDR * 16) = some w →
            s.line? (setOf (s.get LDG_SWAP_ADDR_ADDR * 16)) w = some l → SameMemory s t
              ∧ (t.line? (setOf (s.get LDG_SWAP_ADDR_ADDR * 16)) w).map CpbLine.data = some (patch l.data (s.get LDG_SWAP_ADDR_ADDR * 16 % 128)
                  (leBytes 8 (s.get LDG_SWAP_W0_WORD) ++ leBytes 8 (s.get LDG_SWAP_W1_WORD)))))
  ∧ (∀ (d : Fin 512) (sp : Fin 8) (bx2 : Bool) (id : BitVec 64) (map : List (Nat × Nat)) (s : State),
      ∃ t, exec (.bind d (.request sp bx2 id map)) s = .next t
    ∧ (s.ledger.discs.find? d ≠ none → t = s)
    ∧ (s.ledger.discs.find? d = none → t.fld = s.fld ∧ SameMemory s t ∧ ∀ g, g = (if bx2 then 2 else 1) →
        (s.get (LK_STATUS_GEN (2 * sp.val)) = g → s.get (LK_STATUS_GEN (2 * sp.val + 1)) = g →
          t.ledger.discs.find? d = some { spindle := sp, bx2 := bx2, id := id.toNat, map := map } ∧ t.ledger.bindRefused = none)
        ∧ (s.get (LK_STATUS_GEN (2 * sp.val)) ≠ g ∨ s.get (LK_STATUS_GEN (2 * sp.val + 1)) ≠ g →
          t.ledger.bindRefused = some (d.val, .generation) ∧ t.ledger.discs.find? d = none)))
  ∧ (∀ (d : Fin 512) (side : Fin 2) (rec : BitVec 40) (nibs : Fin 17) (s : State), ∃ t, exec (.bind d (.chain side rec nibs)) s = .next t
    ∧ t.fld = s.fld ∧ SameMemory s t
    ∧ (s.ledger.discs.find? d = none → t = s)
    ∧ ∀ x, s.ledger.discs.find? d = some x →
        ∀ key, key = (side.val, s.le (rec.toNat + 8) 8, s.le (rec.toNat + 0xFFF8) 8) →
        (x.phase ≠ .chain ∨ copyCounts s rec.toNat x.id = false ∨ key ∈ x.records → t = s)
        ∧ (x.phase = .chain → copyCounts s rec.toNat x.id = true → key ∉ x.records →
            (s.le (rec.toNat + 0x48) 8 = 0 ∨ holdsKey s (s.le (rec.toNat + 0x48) 8) = true →
              ∃ y, t.ledger.discs.find? d = some y ∧ y.map = x.map ∧ y.leaving = x.leaving ∧ y.records = key :: x.records ∧ y.heads = colHead s rec.toNat :: x.heads
                ∧ y.runs = x.runs ++ (colophonRuns s rec.toNat d nibs x.bx2).filterMap (fun r => (x.map.find? r.nsid).map fun n => { r with nsid := n })
                ∧ (s.le (rec.toNat + 0x28) 4 = 0xFFFFFFFF → side.val ∈ y.ends ∧ y.phase = (if y.ends.length = 2 then .sort else .chain))
                ∧ (s.le (rec.toNat + 0x28) 4 ≠ 0xFFFFFFFF → y.ends = x.ends ∧ y.phase = .chain))
            ∧ (s.le (rec.toNat + 0x48) 8 ≠ 0 → holdsKey s (s.le (rec.toNat + 0x48) 8) = false →
                (∃ r ∈ colophonRuns s rec.toNat d nibs x.bx2, r.unmap = false ∧ (x.map.find? r.nsid).isSome = true) →
                t.ledger.bindRefused = some (d.val, .noKey) ∧ t.ledger.discs.find? d = none)))
  ∧ (∀ (d : Fin 512) (side : Fin 2) (s : State), ∃ t, exec (.bind d (.blank side)) s = .next t ∧ t.fld = s.fld ∧ SameMemory s t
    ∧ (s.ledger.discs.find? d = none → t = s)
    ∧ ∀ x, s.ledger.discs.find? d = some x →
        (x.phase ≠ .chain → t = s)
        ∧ (x.phase = .chain → ∃ y, t.ledger.discs.find? d = some y ∧ side.val ∈ y.ends ∧ y.runs = x.runs
            ∧ y.phase = (if y.ends.length = 2 then .sort else .chain)))
  ∧ (∀ (d : Fin 512) (s : State), ∃ t, exec (.bind d .sort) s = .next t
    ∧ (s.ledger.discs.find? d = none → t = s)
    ∧ ∀ x, s.ledger.discs.find? d = some x →
        (x.phase ≠ .sort → t = s)
        ∧ (x.phase = .sort → touched x.runs ≠ [] → ∃ y, t.ledger.discs.find? d = some y ∧ y.phase = .build ∧ y.todo = spanKeys (touched x.runs) ∧ y.runs = x.runs)
        ∧ (x.phase = .sort → touched x.runs = [] → x.leaving = false → ∃ y, t.ledger.discs.find? d = some y ∧ y.phase = .ready ∧ SameMemory s t))
  ∧ (∀ (d : Fin 512) (block : BitVec 40) (s : State), ∃ t, exec (.bind d (.build block)) s = .next t
    ∧ (s.ledger.discs.find? d = none → t = s)
    ∧ ∀ x, s.ledger.discs.find? d = some x →
        (x.phase ≠ .build ∨ x.todo = [] → (s.ledger.rebuild = [] → t = s) ∧ ∀ k r, s.ledger.rebuild = k :: r → t.ledger.rebuild = r)
        ∧ ∀ k r, x.phase = .build → x.todo = k :: r → ∀ e ∈ t.ledger.discs, e.2.phase = .build → k ∉ e.2.todo)
  ∧ (∀ (d : Fin 512) (s : State), ∃ t, exec (.bind d .unbind) s = .next t
    ∧ (s.ledger.discs.find? d = none → t = s)
    ∧ ∀ x, s.ledger.discs.find? d = some x →
        (x.phase ≠ .ready → t = s)
        ∧ ∀ l, l = touched (x.runs ++ s.ledger.applied.filter fun r => r.disc == d.val) → x.phase = .ready →
            (l ≠ [] → ∃ y, t.ledger.discs.find? d = some y ∧ y.phase = .build ∧ y.leaving = true ∧ y.todo = spanKeys l)
            ∧ (l = [] → t.ledger.discs.find? d = none ∧ SameMemory s t))
  ∧ ∀ (n lba k : Nat) (s : State), ∃ t, exec (.slowLookupResolve n lba k) s = .next t ∧ t.fld = s.fld ∧ SameMemory s t
    ∧ ((∃ e ∈ s.ledger.discs, e.2.phase = .chain ∧ ∃ m ∈ e.2.map, m.2 = n) → t.ledger.slow = none)
    ∧ ((∀ e ∈ s.ledger.discs, e.2.phase ≠ .chain) → t.ledger.slow ≠ none)
    ∧ ∀ d x, s.ledger.discs.find? d = some x → ∃ y, t.ledger.discs.find? d = some y ∧ y.phase = x.phase ∧ y.runs = x.runs
        ∧ (∀ j, j ∈ y.todo ↔ j ∈ x.todo)
        ∧ ∀ j r, y.todo = j :: r → (∃ i ∈ x.todo, i ∈ spanKeys ((spansOf lba k).map fun p => (n, p))) → j ∈ spanKeys ((spansOf lba k).map fun p => (n, p))

/-- Claims, giving up and takeover. A write of VRS_OUT takes READY where CLASS stays; a class that does not exist, a change after giving up, and a rise to
active over another unit in authority are ignored in full, with their event. Giving up relinquishes every output, cuts the groups of the pens held,
sends every loop to OFF and drops the I/O commands; it ends by CLEAR only with no cause left. A standby unit takes over on the partner's GIVE_UP, or
with the link down and no live active claim: what is ready rises, what is not is relinquished, and otherwise nothing does. A stale standby output is
relinquished. The node ID changes only with every output relinquished. The health report counts itself and starts its counts anew. Nothing happens
where a premise fails (assumption 4); the corners that the manual leaves open are the model's choice (assumptions 31, 39 to 41, 102 and 125). Says of
each of these rows that it answers a next state with its own effect: VRS_OUT_WRITE, GIVE_UP, TAKEOVER, STALE, DIAG_CLEAR, NODE_WRITE, DEG_CLR, HEALTH.
(R128, R151, R382, R387, R393, R394, R395, R398, R399, R400, R402) -/
def Obligations.VersoClaims : Prop :=
  (∀ (k : Fin 40) (v : Word) (s : State), s.boot.low = false → ∃ t, exec (.vrsOutWrite k v) s = .next t
    ∧ (v.toNat / 2 ^ 28 = s.get (VRS_OUT_CLASS k) → t.get (VRS_OUT_READY k) = v.toNat / 2 ^ 27 % 2 ∧ OnlyFields [VRS_OUT_READY k] s t)
    ∧ (v.toNat / 2 ^ 28 ≠ s.get (VRS_OUT_CLASS k) →
        (v.toNat / 2 ^ 28 ∉ [0, 4, 12] → t.get VRS_EVENT_CFG_REFUSED = 1 ∧ OnlyFields [VRS_EVENT_CFG_REFUSED, VRS_EVENT_CLAIM_REFUSED] s t)
        ∧ (s.get VRS_DIAG_GAVE_UP = 1 ∨ (v.toNat / 2 ^ 28 = 12 ∧ (s.get (VRS_OUT_OTHER_HOLDS k) = 1 ∨ s.get VRS_STATUS_NODE_CLASH = 1)) →
            t.get VRS_EVENT_CLAIM_REFUSED = 1 ∧ OnlyFields [VRS_EVENT_CFG_REFUSED, VRS_EVENT_CLAIM_REFUSED] s t)
        ∧ (v.toNat / 2 ^ 28 ∈ [0, 4] → s.get VRS_DIAG_GAVE_UP ≠ 1 → t.get (VRS_OUT_CLASS k) = v.toNat / 2 ^ 28
            ∧ t.get (VRS_OUT_READY k) = v.toNat / 2 ^ 27 % 2
            ∧ (s.get (VRS_OUT_CLASS k) = 12 → ∀ n : Fin 16, n.val = k.val → ((s.writeCh n).group.map fun d => d.idx).Nodup →
                ∀ d ∈ (s.writeCh n).group, d.done = false → ∃ e ∈ (t.writeCh n).group, e.idx = d.idx ∧ e.done = true ∧ e.verdict = some stCut)
            ∧ (s.get (VRS_OUT_CLASS k) ≠ 12 ∨ 16 ≤ k → SameFields [VRS_OUT_CLASS k, VRS_OUT_READY k, VRS_STATUS_ROLE] s t))
        ∧ (v.toNat / 2 ^ 28 = 12 → s.get VRS_DIAG_GAVE_UP ≠ 1 → s.get (VRS_OUT_OTHER_HOLDS k) ≠ 1 → s.get VRS_STATUS_NODE_CLASH ≠ 1 →
            t.get (VRS_OUT_CLASS k) = 12 ∧ t.get VRS_STATUS_ROLE = 2
            ∧ (∀ n : Fin 16, n.val = k.val → linkUp s n = true →
                ((t.link n).claimSent.map fun c => c.2.1) = some (12 * 4096 + s.get VRS_NODE_NODE_ID))
            ∧ SameFields [VRS_OUT_CLASS k, VRS_OUT_READY k, VRS_STATUS_ROLE] s t)))
  ∧ (∀ s : State, s.boot.low = false → ∃ t, exec .giveUp s = .next t ∧ t.get VRS_DIAG_GAVE_UP = 1 ∧ t.get VRS_EVENT_GAVE_UP = 1 ∧ t.get VRS_STATUS_ROLE = 3
    ∧ (∀ k : Fin 40, t.get (VRS_OUT_CLASS k) = 0) ∧ (∀ (e : Fin 17) (j : Nat), j < loopsOf e → t.get (LE_LOOP_CTRL_MODE_ACT e j) = mOff)
    ∧ (∀ e ∈ t.hq.cmds, e.2.sq = 0)
    ∧ (∀ n : Fin 16, s.get (VRS_OUT_CLASS n) = 12 → ((s.writeCh n).group.map fun d => d.idx).Nodup →
                ∀ d ∈ (s.writeCh n).group, d.done = false → ∃ e ∈ (t.writeCh n).group, e.idx = d.idx ∧ e.done = true ∧ e.verdict = some stCut) ∧ ((∀ n : Fin 16, (s.writeCh n).group = []) → SameMemory s t)
    ∧ (versoUp s = true → t.verso.sent.getLast?.map Prod.fst = some (.giveUp (s.get VRS_DIAG_CAUSE))))
  ∧ (∀ (g : Bool) (s : State), ∃ t, exec (.takeover g) s = .next t
    ∧ (g = true → t.get VRS_EVENT_PARTNER_GAVE_UP = 1)
    ∧ (s.get VRS_CTRL_AUTO_TAKE ≠ 1 ∨ (∃ k : Fin 40, s.get (VRS_OUT_CLASS k) = 12) ∨ (∀ k : Fin 40, s.get (VRS_OUT_CLASS k) ≠ 4)
        ∨ (g = false ∧ (versoUp s = true ∨ ∃ k : Fin 40, s.get (VRS_OUT_CLASS k) = 4 ∧ s.get (VRS_OUT_OTHER_HOLDS k) = 1)) →
        OnlyFields [VRS_EVENT_PARTNER_GAVE_UP] s t)
    ∧ (s.get VRS_CTRL_AUTO_TAKE = 1 → (∀ k : Fin 40, s.get (VRS_OUT_CLASS k) ≠ 12) → (∃ k : Fin 40, s.get (VRS_OUT_CLASS k) = 4) →
        g = true ∨ (versoUp s = false ∧ ∀ k : Fin 40, s.get (VRS_OUT_CLASS k) = 4 → s.get (VRS_OUT_OTHER_HOLDS k) ≠ 1) →
          t.get VRS_EVENT_TAKEOVER = 1 ∧ t.anaChange = true ∧ ∀ k : Fin 40, t.get (VRS_OUT_CLASS k)
            = if s.get (VRS_OUT_CLASS k) = 4 then (if s.get (VRS_OUT_READY k) = 1 then 12 else 0) else s.get (VRS_OUT_CLASS k)))
  ∧ (∀ (k : Fin 40) (s : State), ∃ t, exec (.stale k) s = .next t
    ∧ (s.get (VRS_OUT_CLASS k) ≠ 4 ∨ s.get (VRS_OUT_OTHER_HOLDS k) = 1 → t = s)
    ∧ (s.get (VRS_OUT_CLASS k) = 4 → s.get (VRS_OUT_OTHER_HOLDS k) ≠ 1 → t.get (VRS_OUT_CLASS k) = 0 ∧ t.get VRS_EVENT_STALE = 1
        ∧ SameFields [VRS_OUT_CLASS k, VRS_EVENT_STALE, VRS_STATUS_ROLE] s t))
  ∧ (∀ s : State, s.boot.low = false → ∃ t, exec .diagClear s = .next t
    ∧ (s.get VRS_DIAG_CAUSE ≠ 0 → t = s)
    ∧ (s.get VRS_DIAG_CAUSE = 0 → t.get VRS_DIAG_GAVE_UP = 0 ∧ t.get VRS_STATUS_ROLE ≠ 3 ∧ SameFields [VRS_DIAG_GAVE_UP, VRS_STATUS_ROLE] s t))
  ∧ (∀ (v : BitVec 12) (s : State), s.boot.low = false → ∃ t, exec (.nodeWrite v) s = .next t
    ∧ ((∀ k : Fin 40, s.get (VRS_OUT_CLASS k) = 0) → t.get VRS_NODE_NODE_ID = v.toNat ∧ OnlyFields [VRS_NODE_NODE_ID] s t)
    ∧ ((∃ k : Fin 40, s.get (VRS_OUT_CLASS k) ≠ 0) → t.get VRS_EVENT_CFG_REFUSED = 1 ∧ OnlyFields [VRS_EVENT_CFG_REFUSED] s t))
  ∧ (∀ s : State, s.boot.low = false → ∃ t, exec .degClr s = .next t
    ∧ (versoUp s = true → t.get VRS_STATUS_DEGRADED = 0 ∧ OnlyFields [VRS_STATUS_DEGRADED] s t) ∧ (versoUp s = false → t = s))
  ∧ ∀ s : State, ∃ t, exec .health s = .next t ∧ t.get VRS_HEALTH_SEQ = (s.get VRS_HEALTH_SEQ + 1) % 2 ^ 8 ∧ t.get VRS_HEALTH_VALID = 1
    ∧ t.get VRS_EVENT_HEALTH = 1 ∧ t.get VRS_HEALTH_LINK_OK = (if s.verso.linkOk then 1 else 0) ∧ t.verso.linkOk = versoUp s
    ∧ ∀ p : Fin 16, t.bit VRS_HEALTH_PEN_SHADOW_FAIL p
          = (decide (s.get (VRS_OUT_CLASS p) = 4) && decide (s.get VRS_HEALTH_CFG_MISMATCH_MAX < (s.engine p).healthMis))
        ∧ (t.engine p).healthMis = 0 ∧ (t.engine p).healthMiss = 0
        ∧ (s.get VRS_CTRL_HEALTH_AUTO = 1 → t.bit VRS_HEALTH_PEN_SHADOW_FAIL p = true → t.get (VRS_OUT_READY p) = 0 ∧ t.get VRS_EVENT_HEALTH_FAIL = 1)

/-- The Verso link. With the link not UP a message does nothing. A heartbeat goes out with the health report as it is and shows the partner's node and
health, a missing one is counted; WRITE_DATA stores at the same address and is acknowledged; DATA_ACK ends the wait for its address; a SEAL message
acts as owner 0xA; a firmware message is sent from its ring or received into it, or dropped with all that it says where the ring is full. A message
that fails authentication is counted, the fourth within 1 ms fails the link, as do missed heartbeats, a link that goes down and RETRAIN: the key is
gone, the partner's seals break, an active unit is DEGRADED, and the link retrains. It comes UP with a fresh key once a pairing secret is loaded.
Nothing happens where a premise fails (assumption 4); the corners that the manual leaves open are the model's choice (assumptions 31, 39 to 41, 102
and 125). Says of each of these rows that it answers a next state with its own effect: HEARTBEAT, VERSO_LINK_FAIL, VERSO_LINK_UP, WRITE_DATA,
DATA_ACK, SEAL_MSG, FIRMWARE_MSG, GCM_FAIL. (R333, R336, R388, R389, R390, R391, R399, R414) -/
def Obligations.VersoLink : Prop :=
  (∀ (r : Option Beat) (s : State), ∃ t, exec (.heartbeat r) s = .next t
    ∧ (versoUp s = false → t = s)
    ∧ (versoUp s = true → t.verso.sent.getLast?.map Prod.fst = some (.heartbeat (s.get VRS_NODE_NODE_ID) (s.get VRS_STATUS_ROLE)
        (s.on VRS_STATUS_DEGRADED) (liveWord s (vrsBase + 0x40)) s.now))
    ∧ (versoUp s = true → r = none → t.get VRS_CNT_HB_MISS = min (s.get VRS_CNT_HB_MISS + 1) (2 ^ 16 - 1) ∧ t.verso.missRun = s.verso.missRun + 1
        ∧ SameFields [VRS_CNT_HB_MISS, VRS_STATUS_HB_OK] s t)
    ∧ (∀ b, versoUp s = true → r = some b → t.get VRS_STATUS_HB_OK = 1 ∧ t.get VRS_STATUS_PARTNER_NODE = b.node.toNat ∧ t.verso.missRun = 0
        ∧ t.get VRS_STATUS_NODE_CLASH = (if b.node.toNat = s.get VRS_NODE_NODE_ID then 1 else 0)
        ∧ (b.node.toNat = s.get VRS_NODE_NODE_ID → t.get VRS_EVENT_NODE_CLASH = 1)
        ∧ t.get VRS_PARTNER_HEALTH_SEQ = b.health.toNat / 2 ^ 24 ∧ t.get VRS_PARTNER_HEALTH_VALID = b.health.toNat % 2))
  ∧ (∀ (c : VersoFail) (s : State), ∃ t, exec (.versoLinkFail c) s = .next t ∧ SameMemory s t
    ∧ (c = .heartbeat → s.verso.missRun < max 1 (s.get VRS_HB_HB_LOSS) → t = s)
    ∧ (c ≠ .retrain → versoUp s = false → t = s)
    ∧ (c = .heartbeat → versoUp s = true → max 1 (s.get VRS_HB_HB_LOSS) ≤ s.verso.missRun → t.get VRS_EVENT_LINK_FAIL = 1)
    ∧ (c ∈ [.gcm, .down, .retrain] → versoUp s = true → t.get VRS_EVENT_LINK_FAIL = 1 ∧ t.sec.verso = []
        ∧ t.get VRS_STATUS_LINK = (if s.get VRS_CTRL_ENABLE = 1 then 3 else 0)
        ∧ t.get VRS_CNT_LINK_LINK_FAILS = min (s.get VRS_CNT_LINK_LINK_FAILS + 1) (2 ^ 16 - 1)
        ∧ (s.get VRS_STATUS_ROLE = 2 → t.get VRS_STATUS_DEGRADED = 1)
        ∧ ∀ i : Fin 64, (s.get (MBX_SEAL_OWNER i) = 0xA → t.get (MBX_SEAL_OWNER i) = 0xF ∧ t.get (MBX_SEAL_BROKEN i) = 1)
            ∧ (s.get (MBX_SEAL_OWNER i) ≠ 0xA → t.get (MBX_SEAL_OWNER i) = s.get (MBX_SEAL_OWNER i))))
  ∧ (∀ (p : List (BitVec 8)) (s : State), ∃ t, exec (.versoLinkUp p) s = .next t
    ∧ (s.get VRS_CTRL_ENABLE ≠ 1 ∨ s.get VRS_STATUS_LINK ∉ [1, 3] ∨ s.sec.pair = [] → t = s)
    ∧ (s.get VRS_CTRL_ENABLE = 1 → s.get VRS_STATUS_LINK ∈ [1, 3] → s.sec.pair ≠ [] → t.get VRS_STATUS_LINK = 2 ∧ t.get VRS_EVENT_LINK_UP = 1
        ∧ t.verso.counter = 0 ∧ SameFields [VRS_STATUS_LINK, VRS_EVENT_LINK_UP] s t
        ∧ ∃ own : List (BitVec 8), own.length = 16 ∧ t.sec.verso = Config.kdf s.sec.pair [0x56, 0x52, 0x53, 0x4F]
            (if s.get VRS_NODE_NODE_ID ≤ s.get VRS_STATUS_PARTNER_NODE then own ++ p else p ++ own)))
  ∧ (∀ (a : BitVec 40) (d : List (BitVec 8)) (s : State), ∃ t, exec (.writeData a d) s = .next t
    ∧ (versoUp s = false → t = s)
    ∧ (versoUp s = true → t.verso.sent.getLast?.map Prod.fst = some (.dataAck a.toNat)
        ∧ (a.toNat + d.length ≤ inkLimit → s.get INK_ECC_TEST_ARM ≠ 1 → (∀ i, i < d.length → t.byte (a.toNat + i) = d.getD i 0)
            ∧ ∀ x, x < a.toNat ∨ a.toNat + d.length ≤ x → t.byte x = s.byte x)))
  ∧ (∀ (a : BitVec 40) (s : State), ∃ t, exec (.dataAck a) s = .next t
    ∧ (versoUp s = false → t = s)
    ∧ (versoUp s = true → a.toNat ∈ t.verso.acked ∧ (∀ e ∈ t.hq.cmds, a.toNat ∉ e.2.acks)
        ∧ ∀ b c, s.cmd? b = some c → c.over_ = false → c.dataWhole = true → c.quires = [] → c.record = false → c.acks = [a.toNat] → Answered c b ncOk 0 s t))
  ∧ (∀ (i : Fin 64) (tk : Bool) (s : State), ∃ t, exec (.sealMsg i tk) s = .next t
    ∧ (versoUp s = false → t = s)
    ∧ (versoUp s = true → tk = true → s.get (MBX_SEAL_OWNER i) = 0xF → t.get (MBX_SEAL_OWNER i) = 0xA ∧ OnlyFields [MBX_SEAL_OWNER i] s t)
    ∧ (versoUp s = true → tk = true → s.get (MBX_SEAL_OWNER i) ∉ [0xA, 0xF] → t.get (MBX_SEAL_CONTEND i) = min (s.get (MBX_SEAL_CONTEND i) + 1) 255
        ∧ OnlyFields [MBX_SEAL_CONTEND i] s t)
    ∧ (versoUp s = true → tk = false → s.get (MBX_SEAL_OWNER i) = 0xA → t.get (MBX_SEAL_OWNER i) = 0xF ∧ OnlyFields [MBX_SEAL_OWNER i] s t))
  ∧ (∀ (n : Nat) (s : State), ∃ t, exec (.firmwareMsg (.send n)) s = .next t
    ∧ (versoUp s = false ∨ s.get VRS_TX_HEAD_PTR = s.get VRS_TX_TAIL_PTR → t = s)
    ∧ (versoUp s = true → s.get VRS_TX_HEAD_PTR ≠ s.get VRS_TX_TAIL_PTR → t.get VRS_TX_TAIL_PTR = (s.get VRS_TX_TAIL_PTR + 1) % 2 ^ 32
        ∧ t.verso.sent.getLast?.map Prod.fst = some (.firmware (s.bytesAt (s.get VRS_MSG_BASE_BASE * 2 ^ 16 + 256 * (s.get VRS_TX_TAIL_PTR % msgSlots s)) (min 240 (max 16 n))))
        ∧ SameFields [VRS_TX_TAIL_PTR] s t))
  ∧ (∀ (d : List (BitVec 8)) (ack : Option Nat) (s : State), ∃ t, exec (.firmwareMsg (.receive d ack)) s = .next t
    ∧ (versoUp s = false → t = s)
    ∧ (versoUp s = true → msgSlots s ≤ (s.get VRS_RX_HEAD_PTR + 2 ^ 32 - s.get VRS_RX_TAIL_PTR) % 2 ^ 32 →
        t.get VRS_EVENT_RX_OVF = 1 ∧ OnlyFields [VRS_EVENT_RX_OVF] s t)
    ∧ (versoUp s = true → (s.get VRS_RX_HEAD_PTR + 2 ^ 32 - s.get VRS_RX_TAIL_PTR) % 2 ^ 32 < msgSlots s →
        t.get VRS_EVENT_RX_MSG = 1 ∧ t.get VRS_RX_HEAD_PTR = (s.get VRS_RX_HEAD_PTR + 1) % 2 ^ 32))
  ∧ ∀ s : State, ∃ t, exec .gcmFail s = .next t ∧ t.get VRS_EVENT_GCM_FAIL = 1 ∧ t.get VRS_CNT_GCM_FAIL = min (s.get VRS_CNT_GCM_FAIL + 1) (2 ^ 16 - 1)
    ∧ ((s.verso.gcmFails.filter fun x => decide (s.now < x + 38400)).length < 3 ∨ versoUp s = false → SameFields [VRS_EVENT_GCM_FAIL, VRS_CNT_GCM_FAIL] s t)
    ∧ (3 ≤ (s.verso.gcmFails.filter fun x => decide (s.now < x + 38400)).length → versoUp s = true → t.get VRS_EVENT_LINK_FAIL = 1 ∧ t.verso.gcmFails = [])

/-- Keys. A START while a key command runs completes at once with OK = 0; otherwise the command is shown as started and takes the blob's address. Outside
OPERATIONAL it is refused; on a slot in use, or a GENERATE without DRBG output, it waits. GENERATE and an UNWRAP whose blob passes its check fill the
slot, locked for reads and writes; CLEAR empties it; WRAP stores the slot's blob, under DOMAIN with OFFICER; the loads of DOMAIN and the pairing
secret take it from a blob and need OFFICER. KEY_DONE shows the result once there is one. ZEROISE, which needs OFFICER, leaves no key, no session and
no authority. Nothing happens where a premise fails (assumption 4); the corners that the manual leaves open are the model's choice (assumptions 42 to
45 and 126). Says of each of these rows that it answers a next state with its own effect: GENERATE, UNWRAP, WRAP, CLEAR, LOAD_DOMAIN, LOAD_PAIR,
KEY_DONE, ZEROISE. (R411, R412, R417, R418, R421) -/
def Obligations.KeyCommands : Prop :=
  (∀ (c : Instr) (op kek k : Nat) (s : State), (∃ q : Fin 128, ∃ w : Fin 4, (c = .generate q ∧ op = 0 ∧ kek = s.get SEC_KEY_CMD_KEK ∧ k = q)
        ∨ (c = .unwrap q w ∧ op = 1 ∧ kek = w ∧ k = q) ∨ (c = .wrap q w ∧ op = 2 ∧ kek = w ∧ k = q)
        ∨ (c = .clear q ∧ op = 3 ∧ kek = s.get SEC_KEY_CMD_KEK ∧ k = q)
        ∨ (c = .loadDomain ∧ op = 4 ∧ kek = s.get SEC_KEY_CMD_KEK ∧ k = s.get SEC_KEY_CMD_SLOT)
        ∨ (c = .loadPair ∧ op = 5 ∧ kek = s.get SEC_KEY_CMD_KEK ∧ k = s.get SEC_KEY_CMD_SLOT)) →
      s.boot.low = false → ∃ t, exec c s = .next t ∧ t.get SEC_KEY_CMD_OP = op ∧ t.get SEC_KEY_CMD_KEK = kek ∧ t.get SEC_KEY_CMD_SLOT = k
        ∧ (s.sec.cmd ≠ none → t.get SEC_KEY_CMD_DONE = 1 ∧ t.get SEC_KEY_CMD_OK = 0 ∧ t.get SEC_EVENT_KEY_DONE = 1
            ∧ OnlyFields [SEC_KEY_CMD_OP, SEC_KEY_CMD_KEK, SEC_KEY_CMD_SLOT, SEC_KEY_CMD_DONE, SEC_KEY_CMD_OK, SEC_EVENT_KEY_DONE] s t)
        ∧ (s.sec.cmd = none → t.get SEC_KEY_CMD_START = 1 ∧ t.get SEC_KEY_CMD_DONE = 0
            ∧ (∃ ok, t.sec.cmd = some { op := op, kek := kek, slot := k, addr := s.get SEC_KEY_ADDR_ADDR * 8, ok := ok }
                ∧ (s.get SEC_STATUS_STATE ≠ 1 → ok = some false ∧ SameMemory s t)
                ∧ (s.get SEC_STATUS_STATE = 1 → op ≤ 3 → s.get (SEC_SLOT_IN_USE k) = 1 → ok = none ∧ t.sec.slots = s.sec.slots)
                ∧ (s.get SEC_STATUS_STATE = 1 → op ∈ [4, 5] → s.get SEC_AUTH_OFFICER ≠ 1 → ok = some false ∧ t.sec.domain = s.sec.domain
                    ∧ t.sec.pair = s.sec.pair)
                ∧ (s.get SEC_STATUS_STATE = 1 → op = 2 → kek = 1 → s.get (SEC_SLOT_IN_USE k) ≠ 1 → s.get SEC_AUTH_OFFICER ≠ 1 → ok = some false ∧ SameMemory s t)
                ∧ (s.get SEC_STATUS_STATE = 1 → op = 2 → s.get (SEC_SLOT_IN_USE k) ≠ 1 → kek ≠ 1 ∨ s.get SEC_AUTH_OFFICER = 1 → kekOf s kek ≠ [] →
                    s.get (SEC_SLOT_LOADED k) = 1 → s.get SEC_KEY_ADDR_ADDR * 8 + 88 ≤ inkLimit → s.get INK_ECC_TEST_ARM ≠ 1 → ∀ b w,
                    b = leBytes 8 (s.sec.ids.getD k 0) → w = b ++ (Config.keyWrap (kekOf s kek) (b ++ s.sec.slots.getD k [])).take 80 → ok = some true
                    ∧ (∀ i, i < w.length → t.byte (s.get SEC_KEY_ADDR_ADDR * 8 + i) = w.getD i 0)
                    ∧ ∀ x, x < s.get SEC_KEY_ADDR_ADDR * 8 ∨ s.get SEC_KEY_ADDR_ADDR * 8 + w.length ≤ x → t.byte x = s.byte x)
                ∧ (s.get SEC_STATUS_STATE = 1 → op ∈ [4, 5] → s.get SEC_AUTH_OFFICER = 1 →
                    (openBlob s s.sec.device (s.get SEC_KEY_ADDR_ADDR * 8) = none → ok = some false ∧ t.sec.domain = s.sec.domain ∧ t.sec.pair = s.sec.pair)
                    ∧ ∀ id pair, openBlob s s.sec.device (s.get SEC_KEY_ADDR_ADDR * 8) = some (id, pair) → ok = some true
                        ∧ t.sec.domain = (if op = 4 then pair.take 32 else s.sec.domain) ∧ t.sec.pair = (if op = 5 then pair.take 32 else s.sec.pair))
                ∧ (s.get SEC_STATUS_STATE = 1 → op = 3 → s.get (SEC_SLOT_IN_USE k) ≠ 1 → ok = some true ∧ t.sec.slots.find? k = none
                    ∧ t.get (SEC_SLOT_LOADED k) = 0 ∧ t.get (SEC_SLOT_KEY_ID k) = 0)
                ∧ (s.get SEC_STATUS_STATE = 1 → op = 0 → s.sec.withheld = true → ok = none ∧ t.sec.slots = s.sec.slots)
                ∧ (s.get SEC_STATUS_STATE = 1 → op = 0 → s.sec.withheld = false → s.get (SEC_SLOT_IN_USE k) ≠ 1 → ok = some true
                    ∧ (t.sec.slots.find? k).map List.length = some 64 ∧ t.get (SEC_SLOT_LOADED k) = 1 ∧ t.get (SEC_SLOT_READ_OK k) = 0
                    ∧ t.get (SEC_SLOT_WRITE_OK k) = 0 ∧ ∀ j, j ≠ k → t.sec.slots.find? j = s.sec.slots.find? j)
                ∧ (s.get SEC_STATUS_STATE = 1 → op = 1 → s.get (SEC_SLOT_IN_USE k) ≠ 1 →
                    (openBlob s (kekOf s kek) (s.get SEC_KEY_ADDR_ADDR * 8) = none → ok = some false ∧ t.sec.slots = s.sec.slots)
                    ∧ ∀ id pair, openBlob s (kekOf s kek) (s.get SEC_KEY_ADDR_ADDR * 8) = some (id, pair) → ok = some true
                        ∧ t.sec.slots.find? k = some pair ∧ t.get (SEC_SLOT_LOADED k) = 1 ∧ t.get (SEC_SLOT_READ_OK k) = 0))))
  ∧ (∀ s : State, ∃ t, exec .keyDone s = .next t
    ∧ (s.sec.cmd = none → t = s)
    ∧ ∀ c b, s.sec.cmd = some c → c.ok = some b → t.get SEC_KEY_CMD_START = 0 ∧ t.get SEC_KEY_CMD_DONE = 1
        ∧ t.get SEC_KEY_CMD_OK = (if b then 1 else 0) ∧ t.get SEC_EVENT_KEY_DONE = 1 ∧ t.sec.cmd = none
        ∧ SameFields [SEC_KEY_CMD_START, SEC_KEY_CMD_DONE, SEC_KEY_CMD_OK, SEC_EVENT_KEY_DONE] s t)
  ∧ ∀ s : State, s.boot.low = false → ∃ t, exec .zeroise s = .next t
    ∧ (s.get SEC_AUTH_OFFICER ≠ 1 → t = s)
    ∧ (s.get SEC_AUTH_OFFICER = 1 → t.get SEC_EVENT_ZEROISED = 1 ∧ t.get SEC_AUTH_OFFICER = 0 ∧ t.get SEC_AUTH_DIAG = 0 ∧ t.get SEC_AUTH_SERVICE = 0
        ∧ t.sec.sessions = [] ∧ t.sec.device = [] ∧ t.sec.domain = [] ∧ t.sec.pair = [] ∧ t.sec.verso = []
        ∧ ∀ k : Fin 128, t.get (SEC_SLOT_LOADED k) = 0 ∧ t.sec.slots.find? k = none)

/-- Self-tests, sessions and the debug port. The known-answer tests lead to OPERATIONAL or to ERROR, which zeroises and fails the Verso link, and in which
an error and SELFTEST are ignored; a failed self-test leads there, as does the third entropy failure within a second. DRBG output withheld comes back
when entropy has recovered. OPEN_1 answers a nonce to an authority that is not locked out, and OPEN_2 opens a session for a proof and counts a wrong
one; a request is accepted by its sequence number and its code alone, and its result is protected; session 0 admits QUERY. A session that closes or
expires takes its authority along unless another holds it. The debug port opens only to a valid token, and zeroises. Nothing happens where a premise
fails (assumption 4); the corners that the manual leaves open are the model's choice (assumptions 42 to 45 and 126). Says of each of these rows that
it answers a next state with its own effect: KAT_DONE, SEC_ERROR, SELFTEST, SELFTEST_DONE, RESEED, ENT_FAIL, ENTROPY_RECOVERED, OPEN_1, OPEN_2,
SESSION_REQUEST, CLOSE, SESSION_EXPIRY, DEBUG_UNLOCK. (R404, R405, R407, R408, R409, R417, R418, R419, R420, R421, R422, R423) -/
def Obligations.TestsAndSessions : Prop :=
  (∀ (f : BitVec 8) (s : State), ∃ t, exec (.katDone f) s = .next t
    ∧ (s.get SEC_STATUS_STATE ≠ 0 → t = s)
    ∧ (s.get SEC_STATUS_STATE = 0 → t.get SEC_STATUS_KAT_DONE = 1
        ∧ (f = 0 → t.get SEC_STATUS_STATE = 1 ∧ t.get SEC_STATUS_ENT_OK = 1 ∧ t.get SEC_EVENT_KAT_DONE = 1)
        ∧ (f ≠ 0 → t.get SEC_STATUS_STATE = 2 ∧ t.get SEC_EVENT_KAT_FAIL = 1 ∧ t.sec.sessions = [] ∧ ∀ k : Fin 128, t.sec.slots.find? k = none)))
  ∧ (∀ (f : BitVec 8) (s : State), ∃ t, exec (.secError f) s = .next t
    ∧ (s.get SEC_STATUS_STATE = 2 → t = s)
    ∧ (s.get SEC_STATUS_STATE ≠ 2 → t.get SEC_STATUS_STATE = 2 ∧ t.get SEC_STATUS_APPROVED = 0 ∧ t.get SEC_EVENT_ZEROISED = 1
        ∧ (s.get SEC_STATUS_FAIL_ID = 0 → t.get SEC_STATUS_FAIL_ID = f.toNat) ∧ t.bit VRS_DIAG_CAUSE 3 = true ∧ t.sec.sessions = [] ∧ t.sec.device = []
        ∧ (versoUp s = true → t.get VRS_EVENT_LINK_FAIL = 1)))
  ∧ (∀ s : State, s.boot.low = false → ∃ t, exec .selftest s = .next t
    ∧ (s.get SEC_STATUS_STATE = 2 → t = s)
    ∧ (s.get SEC_STATUS_STATE ≠ 2 → t.sec.testing = true ∧ t.get SEC_SELFTEST_DONE = 0 ∧ t.get SEC_SELFTEST_PASS = 0 ∧ t.get SEC_SELFTEST_PEN_DONE = 0
        ∧ SameFields [SEC_SELFTEST_DONE, SEC_SELFTEST_PASS, SEC_SELFTEST_PEN_DONE] s t))
  ∧ (∀ (f : BitVec 8) (s : State), ∃ t, exec (.selftestDone f) s = .next t
    ∧ (s.sec.testing = false → t = s)
    ∧ (s.sec.testing = true → t.get SEC_SELFTEST_DONE = 1 ∧ t.get SEC_SELFTEST_PASS = (if f = 0 then 1 else 0) ∧ t.sec.testing = false
        ∧ t.get SEC_EVENT_SELFTEST_DONE = 1 ∧ (f ≠ 0 → t.get SEC_STATUS_STATE = 2)
        ∧ (f = 0 → SameFields [SEC_SELFTEST_DONE, SEC_SELFTEST_PASS, SEC_SELFTEST_PEN_DONE, SEC_EVENT_SELFTEST_DONE] s t)))
  ∧ (∀ s : State, s.boot.low = false → ∃ t, exec .reseed s = .next t ∧ t.fld = s.fld ∧ t.sec.draws = 0 ∧ t.sec.reseeds = s.sec.reseeds + 1 ∧ t.sec.slots = s.sec.slots)
  ∧ (∀ (k : EntTest) (s : State), ∃ t, exec (.entFail k) s = .next t ∧ t.sec.withheld = true ∧ t.get SEC_STATUS_ENT_OK = 0 ∧ t.get SEC_EVENT_ENT_FAIL = 1
    ∧ (k = .rct → t.get SEC_ENT_RCT_FAIL = min (s.get SEC_ENT_RCT_FAIL + 1) (2 ^ SEC_ENT_RCT_FAIL.width - 1))
    ∧ (k = .apt → t.get SEC_ENT_APT_FAIL = min (s.get SEC_ENT_APT_FAIL + 1) (2 ^ SEC_ENT_APT_FAIL.width - 1))
    ∧ (2 ≤ (s.sec.entFails.filter fun x => decide (s.now < x + 38400000)).length → t.get SEC_STATUS_STATE = 2)
    ∧ ((s.sec.entFails.filter fun x => decide (s.now < x + 38400000)).length < 2 → t.get SEC_STATUS_STATE = s.get SEC_STATUS_STATE))
  ∧ (∀ s : State, ∃ t, exec .entropyRecovered s = .next t
    ∧ (s.sec.withheld = false → t = s)
    ∧ (s.sec.withheld = true → t.sec.withheld = false ∧ t.get SEC_STATUS_ENT_OK = 1 ∧ SameFields [SEC_STATUS_ENT_OK] s t))
  ∧ (∀ (f : Fin 2) (a : BitVec 16) (n : List (BitVec 8)) (s : State), ∃ t, exec (.open1 f a n) s = .next t ∧ t.fld = s.fld
    ∧ (s.get SEC_STATUS_STATE ≠ 1 ∨ s.sec.withheld = true → t = s)
    ∧ (s.get SEC_STATUS_STATE = 1 → s.sec.withheld = false →
        (a.toNat ∉ [1, 2, 3] ∨ 5 ≤ s.sec.fails.getD a.toNat 0 → t.sec.result = .authFail ∧ t.sec.openings = s.sec.openings)
        ∧ (a.toNat ∈ [1, 2, 3] → s.sec.fails.getD a.toNat 0 < 5 → ∃ d : List (BitVec 8), d.length = 16
            ∧ t.sec.openings.find? s.sec.nextOpening = some { fn := f, auth := a.toNat, host := n, device := d }
            ∧ t.sec.result = .nonce d (Config.credential a.toNat).2.1 (if (Config.credential a.toNat).1 then 1 else 0))))
  ∧ (∀ (x : Nat) (p : List (BitVec 8)) (s : State), ∃ t, exec (.open2 x p) s = .next t
    ∧ (s.sec.openings.find? x = none → t.sec.result = .noSession ∧ t.sec.sessions = s.sec.sessions ∧ t.fld = s.fld)
    ∧ ∀ o, s.sec.openings.find? x = some o → t.sec.openings.find? x = none
        ∧ (o.auth ∉ [1, 2, 3] ∨ 5 ≤ s.sec.fails.getD o.auth 0 → t.sec.result = .authFail ∧ t.sec.sessions = s.sec.sessions ∧ t.fld = s.fld)
        ∧ (o.auth ∈ [1, 2, 3] → s.sec.fails.getD o.auth 0 < 5 → proved o p = none → t.sec.result = .authFail ∧ t.sec.sessions = s.sec.sessions
            ∧ t.sec.fails.getD o.auth 0 = s.sec.fails.getD o.auth 0 + 1 ∧ t.fld = s.fld)
        ∧ ∀ k id, o.auth ∈ [1, 2, 3] → s.sec.fails.getD o.auth 0 < 5 → proved o p = some k → 1 ≤ id → id ≤ 8 → s.sec.sessions.find? id = none →
            (∀ j, 1 ≤ j → j < id → s.sec.sessions.find? j ≠ none) → t.sec.fails.getD o.auth 0 = 0
            ∧ (∃ q, t.sec.sessions.find? id = some q ∧ q.auth = o.auth ∧ q.fn = o.fn
                ∧ q.key = (Config.kdf k [0x4C, 0x4E, 0x53, 0x51] (o.host ++ o.device ++ leBytes 4 id)).take 48 ∧ t.sec.result = .opened id q.seq (sessionMac q.key (resultArea 0 0 (leBytes 4 id ++ leBytes 4 q.seq))))
            ∧ (o.auth = 1 → t.get SEC_AUTH_OFFICER = 1) ∧ (o.auth = 2 → t.get SEC_AUTH_DIAG = 1) ∧ (o.auth = 3 → t.get SEC_AUTH_SERVICE = 1))
  ∧ (∀ (m : Fin 32) (s : State), ∃ t, exec (.sessionRequest m) s = .next t
    ∧ (s.get (MBX_REQ_WORD m 2) = 0 → t.fld = s.fld ∧ t.sec.sessions = s.sec.sessions
        ∧ t.sec.result = if s.get (MBX_REQ_WORD m 0) % 2 ^ 16 = Config.queryOpcode.toNat then .accepted 0 [] else .authFail)
    ∧ (s.get (MBX_REQ_WORD m 2) ≠ 0 → s.sec.sessions.find? (s.get (MBX_REQ_WORD m 2)) = none → t.sec.result = .authFail ∧ t.fld = s.fld)
    ∧ ∀ x, s.get (MBX_REQ_WORD m 2) ≠ 0 → s.sec.sessions.find? (s.get (MBX_REQ_WORD m 2)) = some x →
        (s.get (MBX_REQ_WORD m 1) ≠ (x.seq + 1) % 2 ^ 32 → t.sec.result = .authFail ∧ t.fld = s.fld ∧ t.sec.sessions = s.sec.sessions)
        ∧ (s.get (MBX_REQ_WORD m 1) = (x.seq + 1) % 2 ^ 32 → requestBytes s m 60 4 = (Config.hmac x.key (requestBytes s m 0 60)).take 16 →
            t.sec.result = .accepted (s.get (MBX_REQ_WORD m 2)) (sessionMac x.key (answerBytes s m (x.seq + 1)))
            ∧ t.sec.sessions.find? (s.get (MBX_REQ_WORD m 2)) = some { x with seq := (x.seq + 1) % 2 ^ 32 }))
  ∧ (∀ (c : Instr) (id : Fin 9) (s : State), c = .close id ∨ c = .sessionExpiry id → ∃ t, exec c s = .next t
    ∧ (s.sec.sessions.find? id = none → t = s)
    ∧ ∀ x, s.sec.sessions.find? id = some x → t.sec.sessions.find? id = none
        ∧ (x.auth = 1 → (∀ e ∈ s.sec.sessions, e.1 ≠ id → e.2.auth ≠ 1) → t.get SEC_AUTH_OFFICER = 0 ∧ SameFields [SEC_AUTH_OFFICER] s t)
        ∧ (x.auth = 2 → (∀ e ∈ s.sec.sessions, e.1 ≠ id → e.2.auth ≠ 2) → t.get SEC_AUTH_DIAG = 0 ∧ SameFields [SEC_AUTH_DIAG] s t)
        ∧ (x.auth = 3 → (∀ e ∈ s.sec.sessions, e.1 ≠ id → e.2.auth ≠ 3) → t.get SEC_AUTH_SERVICE = 0 ∧ SameFields [SEC_AUTH_SERVICE] s t)
        ∧ ((∃ e ∈ s.sec.sessions, e.1 ≠ id ∧ e.2.auth = x.auth) → t.fld = s.fld))
  ∧ ∀ (token : List (BitVec 8)) (s : State), ∃ t, exec (.debugUnlock token) s = .next t
    ∧ (tokenOk s token = false ∨ Config.dbgDisable = true ∨ s.get SEC_STATUS_DBG_OPEN = 1 → t = s)
    ∧ (tokenOk s token = true → Config.dbgDisable = false → s.get SEC_STATUS_DBG_OPEN ≠ 1 → t.get SEC_STATUS_DBG_OPEN = 1 ∧ t.get SEC_EVENT_DBG_OPEN = 1
        ∧ t.get SEC_STATUS_APPROVED = 0 ∧ t.get SEC_EVENT_ZEROISED = 1 ∧ t.sec.device = [] ∧ t.sec.sessions = [])

/-- Start-up and resets. RESET_N low for 50 ns or more puts every field to its reset value and keeps the Inkwell's bytes and the flash; its release starts
SYS_TIME from 0, but with TESTEN high the part stays in reset. Fuses, built-in self-test and training follow one another; an image that passes boots
its slot, one that fails hands over to the other slot, and two end in FAILED; firmware on trial counts its starts, and on the third gives its slot up.
A Scribe is released only after the fill; holding it, a watchdog at twice its period and a reset all restart it: its registers, its seals and the
mailboxes it had taken, not its local memories. A kick restarts the count, a warning comes once. CHIP_RESET is Scribe 0's with the key alone. Nothing
happens where a premise fails (assumption 4); the corners that the manual leaves open are the model's choice (assumptions 10 and 47 to 50). Says of
each of these rows that it answers a next state with its own effect: RESET_N_ASSERT, RESET_N_RELEASE, FUSE_LOAD_DONE, BIST_DONE, TRAINING_DONE,
IMAGE_CHECK, RELEASE, KICK, WDT_TIMEOUT_WRITE, WDT_WARN, WDT_RESET, SCRIBE_RESET, CHIP_RESET, CLK_LOSS. (R296, R331, R336, R429, R430, R432, R436,
R437, R439, R440, R441, R457, R478) -/
def Obligations.StartUpAndResets : Prop :=
  (∀ (ns : Nat) (s : State), ∃ t, exec (.resetNAssert ns) s = .next t
    ∧ (ns < 50 → t = s)
    ∧ (50 ≤ ns → (∀ f, t.get f = f.rst % 2 ^ f.width) ∧ SameMemory s t ∧ t.flash = s.flash ∧ t.boot.low = true ∧ t.running = false ∧ t.pending = s.pending
        ∧ t.hq.cmds = [] ∧ t.sec.slots = []))
  ∧ (∀ (te : Bool) (s : State), ∃ t, exec (.resetNRelease te) s = .next t
    ∧ (te = true ∨ s.boot.low = false ∨ s.boot.held = true → t = s)
    ∧ (te = false → s.boot.low = true → s.boot.held = false → t.running = true ∧ t.boot.low = false ∧ t.get SYS_TIME_TIME = 0
        ∧ t.get SYS_TH_STATUS_THERM_TRIP = (if s.boot.thermTrip then 1 else 0) ∧ (∀ p : Fin 2, p.val ∈ t.hq.training ↔ p.val ∉ s.hq.perst)
        ∧ SameFields [SYS_TIME_TIME, SYS_TH_STATUS_THERM_TRIP, SYS_GPIO_IN_IN] s t))
  ∧ (∀ s : State, ∃ t, exec .fuseLoadDone s = .next t ∧ t.fld = s.fld
    ∧ (s.boot.low = true ∨ s.boot.fuses = true → t = s)
    ∧ (s.boot.low = false → s.boot.fuses = false → t.boot.fuses = true ∧ t.sec.device = Config.deviceKey))
  ∧ (∀ s : State, ∃ t, exec .bistDone s = .next t
    ∧ (s.boot.fuses = false ∨ s.boot.bist = true → t = s)
    ∧ (s.boot.fuses = true → s.boot.bist = false → t.boot.bist = true ∧ t.locals = [] ∧ t.get (SYS_SCR_STATUS_RUNNING 0) = 1
        ∧ SameFields [SYS_SCR_STATUS_RUNNING 0] s t))
  ∧ (∀ s : State, ∃ t, exec .trainingDone s = .next t
    ∧ (s.boot.bist = false ∨ s.boot.trained = true → t = s)
    ∧ (s.boot.bist = true → s.boot.trained = false → t.get INK_STATUS_FILL_RUN = 1 ∧ t.get SYS_BOOT_STATE = 1 ∧ t.boot.slot = s.flash.preferred
        ∧ t.get SYS_BOOT_TRIAL = (if s.flash.trial then 1 else 0) ∧ SameFields [INK_STATUS_FILL_RUN, SYS_BOOT_STATE, SYS_BOOT_TRIAL] s t))
  ∧ (∀ (img : List (BitVec 8)) (re : Bool) (s : State), ∃ t, exec (.imageCheck img re) s = .next t
    ∧ (s.get SYS_BOOT_STATE ≠ 1 ∨ s.get SEC_STATUS_STATE = 0 → t = s)
    ∧ ∀ c b, c = imageCode s (slotBytes s img) re → b = s.boot.slot → s.get SYS_BOOT_STATE = 1 → s.get SEC_STATUS_STATE ≠ 0 → b < 2 →
        (c = 0 → s.flash.trial = false → t.get SYS_BOOT_STATE = 3 ∧ t.get SYS_BOOT_SLOT = b ∧ t.boot.image = slotBytes s img
            ∧ t.get SYS_BOOT_SVN = imgLe (slotBytes s img) 8 2 % 2 ^ 16 ∧ t.flash = s.flash
            ∧ t.get SEC_FW_LISTED = (if imageListed (slotBytes s img) then 0xFF else 0))
        ∧ (c = 0 → s.flash.trial = true → s.flash.count < 2 → t.get SYS_BOOT_STATE = 3 ∧ t.flash.count = s.flash.count + 1 ∧ t.boot.attempt = some s.now)
        ∧ (c = 0 → s.flash.trial = true → 2 ≤ s.flash.count → s.boot.held = false → t.flash.trial = false ∧ t.flash.preferred = 1 - s.flash.preferred
            ∧ t.get SYS_BOOT_STATE = 0 ∧ t.get SYS_TIME_TIME = 0 ∧ t.running = true)
        ∧ (c ≠ 0 → t.flash = s.flash ∧ (b = 0 → t.get SYS_BOOT_FAIL0 = c) ∧ (b = 1 → t.get SYS_BOOT_FAIL1 = c)
            ∧ (s.boot.failed = [] → t.get SYS_BOOT_FALLBACK = 1 ∧ t.boot.slot = 1 - b ∧ t.get SYS_BOOT_STATE = 1)
            ∧ (s.boot.failed.length = 1 → t.get SYS_BOOT_STATE = 4 ∧ t.boot.bootFail = true)))
  ∧ (∀ (q : Fin 8) (run : Bool) (s : State), s.boot.low = false → ∃ t, exec (.release q run) s = .next t
    ∧ (s.get (SYS_SCR_CTRL_RELEASE q) = (if run then 1 else 0) → t = s)
    ∧ (run = true → s.get (SYS_SCR_CTRL_RELEASE q) = 0 →
        (s.get INK_STATUS_FILL_DONE ≠ 1 → t.get SYS_EVENT_RELEASE_REFUSED = 1 ∧ OnlyFields [SYS_EVENT_RELEASE_REFUSED] s t)
        ∧ (s.get INK_STATUS_FILL_DONE = 1 → t.get (SYS_SCR_CTRL_RELEASE q) = 1 ∧ t.get (SYS_SCR_STATUS_RUNNING q) = 1 ∧ (t.scribe q).count = 0))
    ∧ (run = false → s.get (SYS_SCR_CTRL_RELEASE q) = 1 → t.get (SYS_SCR_CTRL_RELEASE q) = 0 ∧ t.get (SYS_SCR_STATUS_RUNNING q) = 0
        ∧ t.get (SYS_SCR_STATUS_RESETS q) = min (s.get (SYS_SCR_STATUS_RESETS q) + 1) 255 ∧ t.scribe q = {} ∧ t.locals = s.locals
        ∧ ∀ i : Fin 64, s.get (MBX_SEAL_OWNER i) = q → t.get (MBX_SEAL_OWNER i) = 0xF ∧ t.get (MBX_SEAL_BROKEN i) = 1))
  ∧ (∀ (who : Requester) (q : Fin 8) (v : BitVec 16) (s : State), s.boot.low = false → ∃ t, exec (.kick who q v) s = .next t ∧ t.fld = s.fld
    ∧ (v ≠ 0x5CA1 ∨ (who ≠ .scribe 0 ∧ who ≠ .scribe q) → t = s)
    ∧ (v = 0x5CA1 → who = .scribe 0 ∨ who = .scribe q → (t.scribe q).count = 0 ∧ (t.scribe q).warned = false))
  ∧ (∀ (q : Fin 8) (v : BitVec 16) (s : State), s.boot.low = false → ∃ t, exec (.wdtTimeoutWrite q v) s = .next t ∧ t.get (SYS_SCR_WDT_TIMEOUT q) = v.toNat
    ∧ SameFields [SYS_SCR_WDT_TIMEOUT q] s t
    ∧ (t.scribe q).count = (if s.get (SYS_SCR_WDT_TIMEOUT q) = 0 ∧ v ≠ 0 then 0 else (s.scribe q).count))
  ∧ (∀ (q : Fin 8) (ms : Nat) (s : State), ∃ t, exec (.wdtWarn q ms) s = .next t
    ∧ (s.get (SYS_SCR_WDT_TIMEOUT q) = 0 ∨ s.get (SYS_SCR_STATUS_RUNNING q) ≠ 1 ∨ s.get (SYS_SCR_STATUS_HALTED q) = 1 → t = s)
    ∧ (wdtAt s q ms = true → (t.scribe q).count = ms
        ∧ (s.get (SYS_SCR_WDT_TIMEOUT q) ≤ ms → (s.scribe q).warned = false → t.get SYS_EVENT_WDT_WARN = 1 ∧ t.get (SYS_SCR_STATUS_WARN q) = 1
            ∧ (t.scribe q).warned = true ∧ SameFields [SYS_EVENT_WDT_WARN, SYS_SCR_STATUS_WARN q] s t)
        ∧ (ms < s.get (SYS_SCR_WDT_TIMEOUT q) ∨ (s.scribe q).warned = true → t.fld = s.fld)))
  ∧ (∀ (q : Fin 8) (ms : Nat) (s : State), ∃ t, exec (.wdtReset q ms) s = .next t ∧ t.locals = s.locals
    ∧ (wdtAt s q ms = false ∨ ms < 2 * s.get (SYS_SCR_WDT_TIMEOUT q) → t = s)
    ∧ (wdtAt s q ms = true → 2 * s.get (SYS_SCR_WDT_TIMEOUT q) ≤ ms → t.get SYS_EVENT_WDT_RESET = 1 ∧ t.bit VRS_DIAG_CAUSE 2 = true ∧ t.scribe q = {}
        ∧ t.get (SYS_SCR_STATUS_WDT_RESETS q) = min (s.get (SYS_SCR_STATUS_WDT_RESETS q) + 1) 255
        ∧ t.get (SYS_SCR_STATUS_RESETS q) = min (s.get (SYS_SCR_STATUS_RESETS q) + 1) 255
        ∧ t.get (SYS_SCR_CTRL_RELEASE q) = s.get (SYS_SCR_CTRL_RELEASE q)))
  ∧ (∀ (q : Fin 8) (s : State), s.boot.low = false → ∃ t, exec (.scribeReset q) s = .next t ∧ t.scribe q = {} ∧ t.locals = s.locals ∧ SameMemory s t
    ∧ t.get (SYS_SCR_STATUS_RESETS q) = min (s.get (SYS_SCR_STATUS_RESETS q) + 1) 255
    ∧ (∀ p : Fin 8, p ≠ q → t.scribe p = s.scribe p)
    ∧ (∀ m : Fin 32, s.get (MBX_STATUS_STATE m) = 2 → s.get (MBX_STATUS_TAKER m) = q →
        (s.get (MBX_STATUS_ORPHAN m) ≠ 1 → t.get (MBX_STATUS_STATE m) = 1 ∧ t.get (MBX_STATUS_RETAKEN m) = 1 ∧ t.get (MBX_STATUS_TAKER m) = 0xF)
        ∧ (s.get (MBX_STATUS_ORPHAN m) = 1 → t.get (MBX_STATUS_STATE m) = 0))
    ∧ (q = 0 → t.sec.sessions = [] ∧ t.get SEC_AUTH_OFFICER = 0) ∧ (q ≠ 0 → t.sec = s.sec))
  ∧ (∀ (who : Requester) (k : BitVec 16) (s : State), s.boot.low = false → ∃ t, exec (.chipReset who k) s = .next t
    ∧ (who ≠ .scribe 0 ∨ k ≠ 0xA11C → t = s)
    ∧ (who = .scribe 0 → k = 0xA11C → s.boot.held = false → t.get SYS_TIME_TIME = 0 ∧ t.running = true ∧ t.flash = s.flash ∧ SameMemory s t
        ∧ t.hq.cmds = [] ∧ t.pending = s.pending
        ∧ ∀ f, f.key ∉ [SYS_TIME_TIME, SYS_TH_STATUS_THERM_TRIP, SYS_GPIO_IN_IN].map Fld.key → t.get f = f.rst % 2 ^ f.width))
  ∧ ∀ (pcie : Bool) (s : State), ∃ t, exec (.clkLoss pcie) s = .next t ∧ t.get SYS_EVENT_CLK_LOSS = 1
    ∧ t.get (if pcie then SYS_CLK_STATUS_PCIE_LOSS else SYS_CLK_STATUS_SD_LOSS) = 1
    ∧ OnlyFields [SYS_EVENT_CLK_LOSS, if pcie then SYS_CLK_STATUS_PCIE_LOSS else SYS_CLK_STATUS_SD_LOSS] s t

/-- Heat and trim. A sample shows each sensor's code, corrected by its coefficients; Tj is that of the hottest valid sensor, or 100 °C and one more for
each invalid one where more than three are; HOT rises at 110 °C and falls below 105 °C, and the third sample in a row at 120 °C trips: the part
relinquishes, resets and stays in reset. At THROTTLE_C the throttle is on and no sprint; above SUSTAIN a sprint spends its budget, or else the step
rises, at most once in 10 ms; below, the budget refills. A re-trim needs SERVICE or OFFICER; the means of an ADC's conversions give its new gain and
offset, and one that passes takes them at its next frame, another reports why; after the last one BUSY falls. LOAD, REVERT and sensor offsets keep to
their limits. Nothing happens where a premise fails (assumption 4); the corners that the manual leaves open are the model's choice (assumptions 58, 59
and 107). Says of each of these rows that it answers a next state with its own effect: SENSOR_SAMPLE, POWER_MANAGER_UPDATE, THERMAL_TRIP, CAL_START,
RETRIM_ADC_DONE, RETRIM_NO_SLOTS, CAL_ABORT, CAL_LOAD, CAL_REVERT, TS_OFS_WRITE. (R93, R445, R446, R448, R449, R450, R453, R462, R463, R464, R465,
R466) -/
def Obligations.HeatAndTrim : Prop :=
  (∀ (codes : List (BitVec 12)) (s : State), ∃ t, exec (.sensorSample codes) s = .next t ∧ SameMemory s t
    ∧ (∀ i : Fin 12, t.get (SYS_TH_SENSOR_RAW i) = (codes.getD i 0).toNat
        ∧ ((codes.getD i 0).toNat * s.get (CAL_TS_FACT_GAIN i) % 16384 = 0 → corrOf t i = clampInt (-(2 ^ 15)) (2 ^ 15 - 1)
            (((codes.getD i 0).toNat * s.get (CAL_TS_FACT_GAIN i) / 16384 : Nat) + toSigned 16 (s.get (CAL_TS_OFS_OFS i))))
        ∧ (t.get (SYS_TH_SENSOR_VALID i) = 1 → -320 ≤ corrOf t i ∧ corrOf t i ≤ 1200) ∧ t.bit SYS_TH_STATUS_SENSOR_OK i = t.on (SYS_TH_SENSOR_VALID i))
    ∧ (∀ n, n = ((List.range 12).filter fun i => !t.on (SYS_TH_SENSOR_VALID i)).length →
        (3 < n → tjOf t = ((100 + n) * 8 : Nat))
        ∧ (n ≤ 3 → ∃ i : Fin 12, t.get (SYS_TH_SENSOR_VALID i) = 1 ∧ t.get SYS_TH_STATUS_HOT_SENSOR = i ∧ tjOf t = corrOf t i
            ∧ ∀ j : Fin 12, t.get (SYS_TH_SENSOR_VALID j) = 1 → corrOf t j ≤ corrOf t i))
    ∧ (880 ≤ tjOf t → t.get SYS_TH_STATUS_HOT = 1) ∧ (tjOf t < 840 → t.get SYS_TH_STATUS_HOT = 0)
    ∧ (840 ≤ tjOf t → tjOf t < 880 → t.get SYS_TH_STATUS_HOT = s.get SYS_TH_STATUS_HOT)
    ∧ (960 ≤ tjOf t → t.thermal.trips = min 3 (s.thermal.trips + 1)) ∧ (tjOf t < 960 → t.thermal.trips = 0))
  ∧ (∀ (e : BitVec 16) (s : State), ∃ t, exec (.powerManagerUpdate e) s = .next t ∧ t.get SYS_PWR_EST = e.toNat
    ∧ t.get SYS_PWR_SPRINT_LEFT = t.thermal.left / 50 % 2 ^ 16
    ∧ (throttleAt s ≤ tjOf s → t.get SYS_TH_STATUS_THROTTLING = 1 ∧ t.get SYS_TH_STATUS_SPRINTING = 0
        ∧ t.get LDPC_SCHED_STEP = (if 9 ≤ s.thermal.raised ∧ s.get LDPC_SCHED_STEP < 4 then s.get LDPC_SCHED_STEP + 1 else s.get LDPC_SCHED_STEP))
    ∧ (tjOf s < throttleAt s → e.toNat ≤ min 820 (s.get SYS_PWR_CFG_SUSTAIN) → t.get SYS_TH_STATUS_SPRINTING = 0
        ∧ t.thermal.left = min 300000 (s.thermal.left + 1))
    ∧ (tjOf s < throttleAt s → min 820 (s.get SYS_PWR_CFG_SUSTAIN) < e.toNat → s.get SYS_TH_STATUS_SPRINTING = 0 →
        (s.get SYS_TH_CTRL_SPRINT_EN = 1 → s.get HQ_PWR_STATUS_PS = 0 → 5 < s.thermal.left → tjOf s < entryAt s →
          t.get SYS_TH_STATUS_SPRINTING = 1 ∧ t.thermal.left = s.thermal.left - 5
          ∧ (e.toNat ≤ min 960 (s.get SYS_PWR_CFG_PEAK) → t.get LDPC_SCHED_STEP = s.get LDPC_SCHED_STEP))
        ∧ (s.get SYS_TH_CTRL_SPRINT_EN ≠ 1 ∨ s.get HQ_PWR_STATUS_PS ≠ 0 ∨ s.thermal.left = 0 ∨ entryAt s ≤ tjOf s →
          t.get SYS_TH_STATUS_SPRINTING = 0 ∧ t.thermal.left = s.thermal.left
          ∧ t.get LDPC_SCHED_STEP = (if 9 ≤ s.thermal.raised ∧ s.get LDPC_SCHED_STEP < 4 then s.get LDPC_SCHED_STEP + 1 else s.get LDPC_SCHED_STEP))))
  ∧ (∀ s : State, ∃ t, exec .thermalTrip s = .next t
    ∧ (s.thermal.trips < 3 → t = s)
    ∧ (3 ≤ s.thermal.trips → t.boot.thermTrip = true ∧ t.boot.held = true ∧ t.boot.low = true ∧ t.running = false ∧ ((∀ n : Fin 16, (s.writeCh n).group = []) → SameMemory s t)
        ∧ (∀ f, t.get f = f.rst % 2 ^ f.width) ∧ (versoUp s = true → t.verso.sent.getLast?.map Prod.fst = some (.giveUp (s.get VRS_DIAG_CAUSE)))))
  ∧ (∀ s : State, s.boot.low = false → ∃ t, exec .calStart s = .next t
    ∧ (trimAuthority s = false ∨ s.get CAL_STATUS_BUSY = 1 → t.get CAL_EVENT_REFUSED = 1 ∧ OnlyFields [CAL_EVENT_REFUSED] s t)
    ∧ (trimAuthority s = true → s.get CAL_STATUS_BUSY ≠ 1 →
        (s.get CAL_CTRL_ADC_MASK ≠ 0 → t.get CAL_STATUS_BUSY = 1 ∧ t.get CAL_STATUS_PENDING = s.get CAL_CTRL_ADC_MASK ∧ SameFields [CAL_STATUS_BUSY, CAL_STATUS_PENDING] s t)
        ∧ (s.get CAL_CTRL_ADC_MASK = 0 → t.get CAL_STATUS_BUSY = 0 ∧ t.get CAL_EVENT_RETRIM_DONE = 1)))
  ∧ (∀ (a : Fin 4) (r g : List (BitVec 12)) (s : State), ∃ t, exec (.retrimAdcDone a r g) s = .next t
    ∧ ∀ k, k = 2 ^ max 8 (min 14 (s.get CAL_CTRL_SAMPLES)) →
      (s.bit CAL_STATUS_PENDING a = false ∨ r.length ≠ k ∨ g.length ≠ k → t = s)
    ∧ (s.bit CAL_STATUS_PENDING a = true → r.length = k → g.length = k →
        (16 * (r.map BitVec.toNat).sum % k = 0 → t.get (CAL_MEAS_M_REF a) = 16 * (r.map BitVec.toNat).sum / k)
        ∧ (16 * (g.map BitVec.toNat).sum % k = 0 → t.get (CAL_MEAS_M_GND a) = 16 * (g.map BitVec.toNat).sum / k)
        ∧ (∀ d w : Nat, 0 < d → (d : Int) = (t.get (CAL_MEAS_M_REF a) : Int) - toSigned 16 (t.get (CAL_MEAS_M_GND a)) → w = (2 * 655360000 + d) / (2 * d) →
            t.get (CAL_CMD_RESULT a) = (if gainOk s a w = false then 2 else if ofsOk s a (toSigned 16 (t.get (CAL_MEAS_M_GND a))) = true then 1 else 3)
            ∧ (t.get (CAL_CMD_RESULT a) = 1 → t.calNext.find? a = some (w, t.get (CAL_MEAS_M_GND a))))
        ∧ t.get (CAL_CMD_RESULT a) ∈ [1, 2, 3] ∧ (∀ b : Fin 4, t.bit CAL_STATUS_PENDING b = (s.bit CAL_STATUS_PENDING b && b != a))
        ∧ (t.get (CAL_CMD_RESULT a) = 1 → ofsOk s a (toSigned 16 (t.get (CAL_MEAS_M_GND a))) = true
            ∧ ∃ n : Nat, gainOk s a n = true ∧ t.calNext.find? a = some (n, t.get (CAL_MEAS_M_GND a)))
        ∧ (t.get (CAL_CMD_RESULT a) ≠ 1 → t.calNext = s.calNext)
        ∧ ((t.get (CAL_MEAS_M_REF a) : Int) ≤ toSigned 16 (t.get (CAL_MEAS_M_GND a)) → 0 < s.get (CAL_FACT_GAIN a) → t.get (CAL_CMD_RESULT a) = 2)
        ∧ ((∀ b : Fin 4, b ≠ a → s.bit CAL_STATUS_PENDING b = false) → t.get CAL_STATUS_BUSY = 0 ∧ t.get CAL_EVENT_RETRIM_DONE = 1)))
  ∧ (∀ (a : Fin 4) (ms : Nat) (s : State), ∃ t, exec (.retrimNoSlots a ms) s = .next t
    ∧ (s.bit CAL_STATUS_PENDING a = false ∨ ms < 10 → t = s)
    ∧ (s.bit CAL_STATUS_PENDING a = true → 10 ≤ ms → t.get (CAL_CMD_RESULT a) = 4 ∧ t.calNext = s.calNext
        ∧ ∀ b : Fin 4, t.bit CAL_STATUS_PENDING b = (s.bit CAL_STATUS_PENDING b && b != a)))
  ∧ (∀ s : State, s.boot.low = false → ∃ t, exec .calAbort s = .next t
    ∧ (s.get CAL_STATUS_BUSY ≠ 1 → t = s)
    ∧ (s.get CAL_STATUS_BUSY = 1 → t.get CAL_STATUS_BUSY = 0 ∧ t.get CAL_STATUS_PENDING = 0 ∧ t.get CAL_EVENT_RETRIM_DONE = 1
        ∧ t.get CAL_EVENT_RETRIM_FAIL = 1
        ∧ ∀ b : Fin 4, t.get (CAL_CMD_RESULT b) = if s.bit CAL_STATUS_PENDING b = true then 5 else s.get (CAL_CMD_RESULT b)))
  ∧ (∀ (a : Fin 4) (s : State), s.boot.low = false → ∃ t, exec (.calLoad a) s = .next t
    ∧ (trimAuthority s = true → s.get CAL_STATUS_BUSY ≠ 1 → gainOk s a (s.get (CAL_USER_GAIN a)) = true →
        ofsOk s a (toSigned 16 (s.get (CAL_USER_OFS a))) = true →
          t.calNext.find? a = some (s.get (CAL_USER_GAIN a), s.get (CAL_USER_OFS a)) ∧ t.fld = s.fld)
    ∧ (trimAuthority s = false ∨ s.get CAL_STATUS_BUSY = 1 ∨ gainOk s a (s.get (CAL_USER_GAIN a)) = false
        ∨ ofsOk s a (toSigned 16 (s.get (CAL_USER_OFS a))) = false →
          t.get (CAL_CMD_RESULT a) = 6 ∧ t.get CAL_EVENT_REFUSED = 1 ∧ OnlyFields [CAL_CMD_RESULT a, CAL_EVENT_REFUSED] s t))
  ∧ (∀ (a : Fin 4) (s : State), s.boot.low = false → ∃ t, exec (.calRevert a) s = .next t
    ∧ (s.get CAL_STATUS_BUSY = 1 → t.get (CAL_CMD_RESULT a) = 6 ∧ t.get CAL_EVENT_REFUSED = 1 ∧ OnlyFields [CAL_CMD_RESULT a, CAL_EVENT_REFUSED] s t)
    ∧ (s.get CAL_STATUS_BUSY ≠ 1 → t.calNext.find? a = some (s.get (CAL_FACT_GAIN a), s.get (CAL_FACT_OFS a)) ∧ t.fld = s.fld))
  ∧ ∀ (i : Fin 12) (v : BitVec 16) (s : State), s.boot.low = false → ∃ t, exec (.tsOfsWrite i v) s = .next t
    ∧ ∀ d, d = toSigned 16 v.toNat - toSigned 16 (s.get (CAL_TS_FACT_OFS i)) →
        (trimAuthority s = true → -64 ≤ d → d ≤ 64 → t.get (CAL_TS_OFS_OFS i) = v.toNat ∧ OnlyFields [CAL_TS_OFS_OFS i] s t)
        ∧ (trimAuthority s = false ∨ d < -64 ∨ 64 < d → t.get CAL_EVENT_REFUSED = 1 ∧ OnlyFields [CAL_EVENT_REFUSED] s t)
end

