-- ==== Sys2Proof/Laws/Kept.lean ====
section
/-!
SUPPORT. For the shared operations: each operation keeps every relation between states that register and hidden-state changes keep, or that
stores keep too. Instances of the relation give invariants and frames without unfolding an operation.
-/

namespace Sys2Proof.Machine

/-- A relation that register and hidden-state changes keep: what a command does that stores no byte of the Inkwell. -/
structure Kept (R : State → State → Prop) : Prop where
  refl : ∀ s, R s s
  rest : ∀ {s0 s : State} {x2 : Store Nat} {x3 : List Nat} {x7 : Bool} {x8 : Store Ruling} {x9 : Store Nib} {x10 : Ldpc} {x11 : Store Wc} {x12 : Store Nat} {x13 : Store Link} {x14 : Store Engine} {x15 : Store Sup} {x16 : Store Spindle} {x17 : Store MotorBus} {x18 : Store Nat} {x19 : Store Nat} {x20 : Store Sled} {x21 : Store Stage} {x22 : Store DucBus} {x23 : Verso} {x24 : Ink} {x25 : Copybook} {x26 : Store Scribe} {x27 : Store (BitVec 8)} {x28 : Store Bool} {x29 : Store HostFn} {x30 : Store Nat} {x31 : Ledger} {x32 : HostQ} {x33 : Sec} {x34 : Flash} {x35 : Boot} {x36 : Thermal} {x37 : Store (Nat × Nat)} {x38 : Bool} {x39 : Store Nat} {x40 : Bool} {x41 : Nat}, R s0 s → R s0 ⟨s.pending, s.fld, x2, x3, s.mem, s.poison, s.freeCtr, x7, x8, x9, x10, x11, x12, x13, x14, x15, x16, x17, x18, x19, x20, x21, x22, x23, x24, x25, x26, x27, x28, x29, x30, x31, x32, x33, x34, x35, x36, x37, x38, x39, x40, x41⟩
  set : ∀ {s0 s : State} {f : Fld} {v : Nat}, R s0 s → R s0 (s.set f v)
  ctr : ∀ {s0 s : State}, R s0 s → R s0 { s with freeCtr := s.freeCtr + 1 }
  drop : ∀ {s0 s : State} {a b : Nat}, R s0 s → R s0 (clearFields s a b)
  wipe : ∀ {s0 s : State}, R s0 s → R s0 (chipReset s)

/-- A relation that stores and poison marks keep too. -/
structure KeptMem (R : State → State → Prop) : Prop extends Kept R where
  byte : ∀ {s0 s : State} {a : Nat} {b : BitVec 8}, R s0 s → R s0 (s.putByte a b)
  zero : ∀ {s0 s : State} {a n : Nat}, R s0 s → R s0 (s.zeroBytes a n)
  mark : ∀ {s0 s : State} {b : Nat} {p : Bool}, R s0 s → R s0 (s.setPoison b p)
  clear : ∀ {s0 s : State} {p : Nat × Bool → Bool}, R s0 s → R s0 { s with poison := s.poison.filter p }

variable {R : State → State → Prop} {s0 s : State}

theorem Kept.ite {c : Prop} [Decidable c] {x y : State} (hx : R s0 x) (hy : R s0 y) : R s0 (if c then x else y) := by
  split
  · exact hx
  · exact hy

theorem Kept.ite2 {α : Type} {c : Prop} [Decidable c] {p q : α × State} {v : α} {t : State} (e : (if c then p else q) = (v, t)) (hp : R s0 p.2)
    (hq : R s0 q.2) : R s0 t := by
  split at e
  · rw [e] at hp
    exact hp
  · rw [e] at hq
    exact hq

theorem Kept.fold {α β : Type} {l : List α} {f : β × State → α → β × State} {b : β} (h : R s0 s)
    (hf : ∀ p a, R s0 p.2 → R s0 (f p a).2) : R s0 (l.foldl f (b, s)).2 := by
  induction l generalizing s b with
  | nil => exact h
  | cons a l ih => exact ih (b := (f (b, s) a).1) (s := (f (b, s) a).2) (hf (b, s) a h)

theorem Kept.fold1 {α : Type} {l : List α} {f : State → α → State} (h : R s0 s) (hf : ∀ p a, R s0 p → R s0 (f p a)) :
    R s0 (l.foldl f s) := by
  induction l generalizing s with
  | nil => exact h
  | cons a l ih => exact ih (hf s a h)

theorem Kept.cut {x : State} {P : Prop} (h : R s0 x) (k : R s0 x → P) : P := k h

theorem State.ev_kept (hR : Kept R) {a1} (h : R s0 s) : R s0 (State.ev s a1) := by
  unfold State.ev
  with_reducible repeat' (first | assumption | (refine hR.set ?_))

theorem State.bump_kept (hR : Kept R) {a1 a2} (h : R s0 s) : R s0 (State.bump s a1 a2) := by
  unfold State.bump
  with_reducible repeat' (first | assumption | (refine hR.set ?_))

theorem State.wrap_kept (hR : Kept R) {a1 a2} (h : R s0 s) : R s0 (State.wrap s a1 a2) := by
  unfold State.wrap
  with_reducible repeat' (first | assumption | (refine hR.set ?_))

theorem State.setBit_kept (hR : Kept R) {a1 a2 a3} (h : R s0 s) : R s0 (State.setBit s a1 a2 a3) := by
  unfold State.setBit
  with_reducible repeat' (first | assumption | (refine hR.set ?_) | (intro x; try (refine Kept.cut (R := R) (s0 := s0) (x := x) ?_ ?_; unfold x; rotate_left; clear_value x; intro h)) | lift_lets | (refine Kept.ite ?_ ?_) | split | dsimp only)

theorem State.iff_kept (hR : Kept R) {c : Bool} {k : State → State} (h : R s0 s) (hk : ∀ s, R s0 s → R s0 (k s)) : R s0 (s.iff c k) := by
  unfold State.iff
  split
  · exact hk s h
  · exact h

theorem State.each_kept (hR : Kept R) {α : Type} {l : List α} {k : State → α → State} (h : R s0 s)
    (hk : ∀ s a, R s0 s → R s0 (k s a)) : R s0 (s.each l k) := by
  unfold State.each
  induction l generalizing s with
  | nil => exact h
  | cons a l ih => exact ih (hk s a h)

theorem State.collect_kept (hR : Kept R) {α β : Type} {l : List α} {f : State → α → β × State} (h : R s0 s)
    (hf : ∀ s a v t, f s a = (v, t) → R s0 s → R s0 t) : R s0 (s.collect l f).2 := by
  suffices q : ∀ (b : List β) (s : State), R s0 s → R s0 (l.foldl (fun (a : List β × State) x => (a.1 ++ [(f a.2 x).1], (f a.2 x).2)) (b, s)).2 from q [] s h
  induction l with
  | nil => exact fun b s h => h
  | cons a l ih => exact fun b s h => ih _ _ (hf s a _ _ rfl h)

theorem State.fresh_kept (hR : Kept R) (h : R s0 s) : R s0 s.fresh.2 := hR.ctr h
theorem State.fresh_kept' (hR : Kept R) {v t} (e : s.fresh = (v, t)) (h : R s0 s) : R s0 t := by
  have q : R s0 s.fresh.2 := hR.ctr h
  rw [e] at q
  exact q

theorem State.coin_kept (hR : Kept R) (h : R s0 s) : R s0 s.coin.2 := hR.ctr h
theorem State.coin_kept' (hR : Kept R) {v t} (e : s.coin = (v, t)) (h : R s0 s) : R s0 t := by
  have q : R s0 s.coin.2 := hR.ctr h
  rw [e] at q
  exact q

theorem State.divFree_kept (hR : Kept R) {a1 a2} (h : R s0 s) : R s0 (State.divFree s a1 a2).2 := by
  unfold State.divFree
  with_reducible repeat' (first | assumption | (refine State.fresh_kept' hR (by assumption) ?_) | (refine State.coin_kept' hR (by assumption) ?_) | (intro x; try (refine Kept.cut (R := R) (s0 := s0) (x := x) ?_ ?_; unfold x; rotate_left; clear_value x; intro h)) | lift_lets | (refine Kept.ite ?_ ?_) | split | dsimp only | (refine Kept.ite2 (by assumption) ?_ ?_) | (refine State.fresh_kept hR ?_) | (refine State.coin_kept hR ?_))
theorem State.divFree_kept' (hR : Kept R) {a1 a2 v t} (e : State.divFree s a1 a2 = (v, t)) (h : R s0 s) : R s0 t := by
  have q : R s0 (State.divFree s a1 a2).2 := State.divFree_kept hR h
  rw [e] at q
  exact q

theorem State.putByte_kept (hR : KeptMem R) {a b} (h : R s0 s) : R s0 (s.putByte a b) := hR.byte h

theorem State.putBytes_kept (hR : KeptMem R) {a : Nat} {l} (h : R s0 s) : R s0 (s.putBytes a l) := by
  induction l generalizing s a with
  | nil => exact h
  | cons b r ih => exact ih (hR.byte h)

theorem State.zeroBytes_kept (hR : KeptMem R) {a b} (h : R s0 s) : R s0 (s.zeroBytes a b) := hR.zero h

theorem State.setPoison_kept (hR : KeptMem R) {a b} (h : R s0 s) : R s0 (s.setPoison a b) := hR.mark h

theorem State.addrErr_kept (hR : Kept R) {a1 a2} (h : R s0 s) : R s0 (State.addrErr s a1 a2) := by
  unfold State.addrErr
  with_reducible repeat' (first | assumption | (refine State.ev_kept hR ?_) | (refine hR.set ?_) | (refine Kept.ite ?_ ?_) | split)

theorem State.reads_kept (hR : Kept R) {a1 a2} (h : R s0 s) : R s0 (State.reads s a1 a2) := by
  unfold State.reads
  with_reducible repeat' (first | assumption | (refine State.addrErr_kept hR ?_) | (refine Kept.ite ?_ ?_) | split)

theorem State.writeField_kept (hR : Kept R) {a1 a2 a3} (h : R s0 s) : R s0 (State.writeField s a1 a2 a3) := by
  unfold State.writeField
  with_reducible repeat' (first | assumption | (refine hR.set ?_) | (intro x; try (refine Kept.cut (R := R) (s0 := s0) (x := x) ?_ ?_; unfold x; rotate_left; clear_value x; intro h)) | lift_lets | (refine Kept.ite ?_ ?_) | split | dsimp only | (refine Kept.ite2 (by assumption) ?_ ?_))

theorem State.readField_kept (hR : Kept R) {a1 a2} (h : R s0 s) : R s0 (State.readField s a1 a2) := by
  unfold State.readField
  with_reducible repeat' (first | assumption | (refine hR.set ?_) | (intro x; try (refine Kept.cut (R := R) (s0 := s0) (x := x) ?_ ?_; unfold x; rotate_left; clear_value x; intro h)) | lift_lets | (refine Kept.ite ?_ ?_) | split | dsimp only | (refine hR.rest ?_))

theorem State.clocked_kept (hR : Kept R) {i : Nat} {k : State → State} (h : R s0 s) (hk : ∀ s, R s0 s → R s0 (k s)) :
    R s0 (s.clocked i k) := by
  unfold State.clocked
  split
  · exact h
  · exact hk s h

theorem State.readWordEffect_kept (hR : Kept R) {a1} (h : R s0 s) : R s0 (State.readWordEffect s a1) := by
  unfold State.readWordEffect
  with_reducible repeat' (first | assumption | (refine State.each_kept hR ?_ fun s a h => ?_) | (refine State.readField_kept hR ?_))

theorem State.modCh_kept (hR : Kept R) {a1 a2} (h : R s0 s) : R s0 (State.modCh s a1 a2) := by
  unfold State.modCh
  with_reducible repeat' (first | assumption | (refine hR.rest ?_))

theorem freeBytes_kept (hR : Kept R) {a1} (h : R s0 s) : R s0 (freeBytes s a1).2 := by
  unfold freeBytes
  with_reducible repeat' (first | assumption | (refine hR.ctr ?_) | (refine hR.rest ?_))
theorem freeBytes_kept' (hR : Kept R) {a1 v t} (e : freeBytes s a1 = (v, t)) (h : R s0 s) : R s0 t := by
  have q : R s0 (freeBytes s a1).2 := freeBytes_kept hR h
  rw [e] at q
  exact q

theorem decodeBlock_kept (hR : Kept R) {a1 a2} (h : R s0 s) : R s0 (decodeBlock s a1 a2).2.2 := by
  unfold decodeBlock
  with_reducible repeat' (first | assumption | (refine State.coin_kept' hR (by assumption) ?_) | (refine State.fresh_kept' hR (by assumption) ?_) | (intro x; try (refine Kept.cut (R := R) (s0 := s0) (x := x) ?_ ?_; unfold x; rotate_left; clear_value x; intro h)) | lift_lets | (refine Kept.ite ?_ ?_) | split | dsimp only | (refine Kept.ite2 (by assumption) ?_ ?_) | (refine State.coin_kept hR ?_) | (refine State.fresh_kept hR ?_))
theorem decodeBlock_kept' (hR : Kept R) {a1 a2 v w t} (e : decodeBlock s a1 a2 = (v, w, t)) (h : R s0 s) : R s0 t := by
  have q : R s0 (decodeBlock s a1 a2).2.2 := decodeBlock_kept hR h
  rw [e] at q
  exact q

theorem countUe_kept (hR : Kept R) (h : R s0 s) : R s0 (countUe s) := by
  unfold countUe
  with_reducible repeat' (first | assumption | (refine State.ev_kept hR ?_) | (intro x; try (refine Kept.cut (R := R) (s0 := s0) (x := x) ?_ ?_; unfold x; rotate_left; clear_value x; intro h)) | lift_lets | (refine Kept.ite ?_ ?_) | split | dsimp only | (refine hR.rest ?_))

theorem logUe_kept (hR : Kept R) {a1 a2} (h : R s0 s) : R s0 (logUe s a1 a2) := by
  unfold logUe
  with_reducible repeat' (first | assumption | (refine State.ev_kept hR ?_) | (refine hR.set ?_) | (refine Kept.ite ?_ ?_) | split)

theorem refreshScrub_kept (hR : Kept R) {a1} (h : R s0 s) : R s0 (refreshScrub s a1) := by
  unfold refreshScrub
  with_reducible repeat' (first | assumption | (refine hR.set ?_) | (refine Kept.ite ?_ ?_) | split)

theorem addWriteBack_kept (hR : Kept R) {a1 a2} (h : R s0 s) : R s0 (addWriteBack s a1 a2) := by
  unfold addWriteBack
  with_reducible repeat' (first | assumption | (refine refreshScrub_kept hR ?_) | (refine State.modCh_kept hR ?_))

theorem dropWriteBacks_kept (hR : Kept R) {a1} (h : R s0 s) : R s0 (dropWriteBacks s a1) := by
  unfold dropWriteBacks
  with_reducible repeat' (first | assumption | (refine refreshScrub_kept hR ?_) | (refine State.modCh_kept hR ?_) | (intro x; try (refine Kept.cut (R := R) (s0 := s0) (x := x) ?_ ?_; unfold x; rotate_left; clear_value x; intro h)) | lift_lets | (refine Kept.ite ?_ ?_) | split | dsimp only)

theorem decodeRead_kept (hR : Kept R) {a1 a2 a3} (h : R s0 s) : R s0 (decodeRead s a1 a2 a3).2.2 := by
  unfold decodeRead
  with_reducible repeat' (first | assumption | (refine decodeBlock_kept' hR (by assumption) ?_) | (refine State.ev_kept hR ?_) | (refine State.bump_kept hR ?_) | (refine State.iff_kept hR ?_ fun s h => ?_) | (refine addWriteBack_kept hR ?_) | (refine logUe_kept hR ?_) | (refine countUe_kept hR ?_) | (intro x; try (refine Kept.cut (R := R) (s0 := s0) (x := x) ?_ ?_; unfold x; rotate_left; clear_value x; intro h)) | lift_lets | (refine Kept.ite ?_ ?_) | split | dsimp only | (refine Kept.ite2 (by assumption) ?_ ?_) | (refine decodeBlock_kept hR ?_))
theorem decodeRead_kept' (hR : Kept R) {a1 a2 a3 v w t} (e : decodeRead s a1 a2 a3 = (v, w, t)) (h : R s0 s) : R s0 t := by
  have q : R s0 (decodeRead s a1 a2 a3).2.2 := decodeRead_kept hR h
  rw [e] at q
  exact q

theorem blockData_kept (hR : Kept R) {a1 a2} (h : R s0 s) : R s0 (blockData s a1 a2).2 := by
  unfold blockData
  with_reducible repeat' (first | assumption | (refine freeBytes_kept' hR (by assumption) ?_) | (refine Kept.ite ?_ ?_) | split | (refine freeBytes_kept hR ?_))
theorem blockData_kept' (hR : Kept R) {a1 a2 v t} (e : blockData s a1 a2 = (v, t)) (h : R s0 s) : R s0 t := by
  have q : R s0 (blockData s a1 a2).2 := blockData_kept hR h
  rw [e] at q
  exact q

theorem plant_kept (hR : KeptMem R) {a1 a2} (h : R s0 s) : R s0 (plant s a1 a2) := by
  unfold plant
  with_reducible repeat' (first | assumption | (refine State.setPoison_kept hR ?_) | (intro x; try (refine Kept.cut (R := R) (s0 := s0) (x := x) ?_ ?_; unfold x; rotate_left; clear_value x; intro h)) | lift_lets | (refine Kept.ite ?_ ?_) | split | dsimp only | (refine hR.toKept.rest ?_))

theorem plantOpen_kept (hR : KeptMem R) {a1} (h : R s0 s) : R s0 (plantOpen s a1) := by
  unfold plantOpen
  with_reducible repeat' (first | assumption | (refine State.fresh_kept' hR.toKept (by assumption) ?_) | (refine freeBytes_kept' hR.toKept (by assumption) ?_) | (refine plant_kept hR ?_) | (refine State.putBytes_kept hR ?_) | (intro x; try (refine Kept.cut (R := R) (s0 := s0) (x := x) ?_ ?_; unfold x; rotate_left; clear_value x; intro h)) | lift_lets | (refine Kept.ite ?_ ?_) | split | dsimp only | (refine Kept.ite2 (by assumption) ?_ ?_) | (refine State.fresh_kept hR.toKept ?_) | (refine freeBytes_kept hR.toKept ?_))

theorem flipData_kept (hR : KeptMem R) {a1 a2} (h : R s0 s) : R s0 (flipData s a1 a2) := by
  unfold flipData
  with_reducible repeat' (first | assumption | (refine State.each_kept hR.toKept ?_ fun s a h => ?_) | (refine State.putByte_kept hR ?_))

theorem splitWrite_kept (hR : KeptMem R) {a1 a2 a3} (h : R s0 s) : R s0 (splitWrite s a1 a2 a3) := by
  unfold splitWrite
  with_reducible repeat' (first | assumption | (refine hR.toKept.set ?_) | (refine plant_kept hR ?_) | (refine State.putBytes_kept hR ?_) | (refine plantOpen_kept hR ?_) | (intro x; try (refine Kept.cut (R := R) (s0 := s0) (x := x) ?_ ?_; unfold x; rotate_left; clear_value x; intro h)) | lift_lets | (refine Kept.ite ?_ ?_) | split | dsimp only | (refine hR.toKept.rest ?_))

theorem flipWrite_kept (hR : KeptMem R) {a1 a2} (h : R s0 s) : R s0 (flipWrite s a1 a2) := by
  unfold flipWrite
  with_reducible repeat' (first | assumption | (refine plant_kept hR ?_) | (refine flipData_kept hR ?_) | (refine plantOpen_kept hR ?_) | (intro x; try (refine Kept.cut (R := R) (s0 := s0) (x := x) ?_ ?_; unfold x; rotate_left; clear_value x; intro h)) | lift_lets | (refine Kept.ite ?_ ?_) | split | dsimp only)

theorem testWrite_kept (hR : KeptMem R) {a1 a2 a3 a4} (h : R s0 s) : R s0 (testWrite s a1 a2 a3 a4) := by
  unfold testWrite
  with_reducible repeat' (first | assumption | (refine State.ev_kept hR.toKept ?_) | (refine hR.toKept.set ?_) | (refine splitWrite_kept hR ?_) | (refine flipWrite_kept hR ?_) | (intro x; try (refine Kept.cut (R := R) (s0 := s0) (x := x) ?_ ?_; unfold x; rotate_left; clear_value x; intro h)) | lift_lets | (refine Kept.ite ?_ ?_) | split | dsimp only)

theorem testHook_kept (hR : KeptMem R) {a n k} (h : R s0 s) (hk : ∀ s, R s0 s → R s0 (k s)) : R s0 (testHook s a n k) := by
  unfold testHook
  dsimp only
  split
  · exact testWrite_kept hR (hk s h)
  · exact hk s h

theorem wakeInk_kept (hR : Kept R) (h : R s0 s) : R s0 (wakeInk s) := by
  unfold wakeInk
  with_reducible repeat' (first | assumption | (refine hR.set ?_) | (refine Kept.ite ?_ ?_) | split)

theorem freshBlock_kept (hR : Kept R) {a1} (h : R s0 s) : R s0 (freshBlock s a1) := by
  unfold freshBlock
  with_reducible repeat' (first | assumption | (refine dropWriteBacks_kept hR ?_) | (intro x; try (refine Kept.cut (R := R) (s0 := s0) (x := x) ?_ ?_; unfold x; rotate_left; clear_value x; intro h)) | lift_lets | (refine Kept.ite ?_ ?_) | split | dsimp only | (refine hR.rest ?_))

theorem markBlock_kept (hR : KeptMem R) {a0 a1 a2 a3 a5} (h : R s0 s) : R s0 (markBlock a0 a1 a2 a3 s a5) := by
  unfold markBlock
  with_reducible repeat' (first | assumption | (refine State.setPoison_kept hR ?_) | (refine freshBlock_kept hR.toKept ?_) | (refine decodeRead_kept' hR.toKept (by assumption) ?_) | (intro x; try (refine Kept.cut (R := R) (s0 := s0) (x := x) ?_ ?_; unfold x; rotate_left; clear_value x; intro h)) | lift_lets | (refine Kept.ite ?_ ?_) | split | dsimp only | (refine Kept.ite2 (by assumption) ?_ ?_) | (refine decodeRead_kept hR.toKept ?_))

theorem State.markBlocks_kept (hR : KeptMem R) {a1 a2 a3 a4} (h : R s0 s) : R s0 (State.markBlocks s a1 a2 a3 a4) := by
  unfold State.markBlocks
  with_reducible repeat' (first | assumption | (refine State.each_kept hR.toKept ?_ fun s a h => ?_) | (refine markBlock_kept hR ?_))

theorem noteEarly_kept (hR : Kept R) {a1 a2 a3 a4} (h : R s0 s) : R s0 (noteEarly s a1 a2 a3 a4) := by
  unfold noteEarly
  with_reducible repeat' (first | assumption | (refine Kept.ite ?_ ?_) | split | (refine hR.rest ?_))

theorem inkStore_kept (hR : KeptMem R) {a1 a2 a3 a4} (h : R s0 s) : R s0 (inkStore s a1 a2 a3 a4) := by
  unfold inkStore
  with_reducible repeat' (first | assumption | (refine testHook_kept hR ?_ fun s h => ?_) | (refine noteEarly_kept hR.toKept ?_) | (refine wakeInk_kept hR.toKept ?_) | (refine State.putBytes_kept hR ?_) | (refine State.markBlocks_kept hR ?_))

theorem addrErrs_kept (hR : Kept R) {a1 a2 a3} (h : R s0 s) : R s0 (addrErrs s a1 a2 a3) := by
  unfold addrErrs
  with_reducible repeat' (first | assumption | (refine State.each_kept hR ?_ fun s a h => ?_) | (refine State.addrErr_kept hR ?_))

theorem State.inkWrite_kept (hR : KeptMem R) {a1 a2 a3 a4} (h : R s0 s) : R s0 (State.inkWrite s a1 a2 a3 a4) := by
  unfold State.inkWrite
  with_reducible repeat' (first | assumption | (refine inkStore_kept hR ?_) | (refine addrErrs_kept hR.toKept ?_) | (refine State.iff_kept hR.toKept ?_ fun s h => ?_) | (intro x; try (refine Kept.cut (R := R) (s0 := s0) (x := x) ?_ ?_; unfold x; rotate_left; clear_value x; intro h)) | lift_lets | (refine Kept.ite ?_ ?_) | split | dsimp only)

theorem inkStoreZ_kept (hR : KeptMem R) {a1 a2 a3 a4 a5} (h : R s0 s) : R s0 (inkStoreZ s a1 a2 a3 a4 a5) := by
  unfold inkStoreZ
  with_reducible repeat' (first | assumption | (refine testHook_kept hR ?_ fun s h => ?_) | (refine noteEarly_kept hR.toKept ?_) | (refine wakeInk_kept hR.toKept ?_) | (refine State.putBytes_kept hR ?_) | (refine State.zeroBytes_kept hR ?_) | (refine State.markBlocks_kept hR ?_))

theorem State.inkWriteZ_kept (hR : KeptMem R) {a1 a2 a3 a4 a5} (h : R s0 s) : R s0 (State.inkWriteZ s a1 a2 a3 a4 a5) := by
  unfold State.inkWriteZ
  with_reducible repeat' (first | assumption | (refine inkStoreZ_kept hR ?_) | (refine addrErrs_kept hR.toKept ?_) | (refine State.iff_kept hR.toKept ?_ fun s h => ?_) | (intro x; try (refine Kept.cut (R := R) (s0 := s0) (x := x) ?_ ?_; unfold x; rotate_left; clear_value x; intro h)) | lift_lets | (refine Kept.ite ?_ ?_) | split | dsimp only)

theorem State.inkRead_kept (hR : Kept R) {a1 a2 a3} (h : R s0 s) : R s0 (State.inkRead s a1 a2 a3).2 := by
  unfold State.inkRead
  with_reducible repeat' (first | assumption | (refine decodeRead_kept' hR (by assumption) ?_) | (refine wakeInk_kept hR ?_) | (refine Kept.fold ?_ fun p a h => ?_) | (refine Kept.fold1 ?_ fun p a h => ?_) | (intro x; try (refine Kept.cut (R := R) (s0 := s0) (x := x) ?_ ?_; unfold x; rotate_left; clear_value x; intro h)) | lift_lets | split | dsimp only | (refine decodeRead_kept hR ?_))
theorem State.inkRead_kept' (hR : Kept R) {a1 a2 a3 v t} (e : State.inkRead s a1 a2 a3 = (v, t)) (h : R s0 s) : R s0 t := by
  have q : R s0 (State.inkRead s a1 a2 a3).2 := State.inkRead_kept hR h
  rw [e] at q
  exact q

theorem State.modRul_kept (hR : Kept R) {a1 a2} (h : R s0 s) : R s0 (State.modRul s a1 a2) := by
  unfold State.modRul
  with_reducible repeat' (first | assumption | (refine hR.rest ?_))

theorem State.modNib_kept (hR : Kept R) {a1 a2 a3} (h : R s0 s) : R s0 (State.modNib s a1 a2 a3) := by
  unfold State.modNib
  with_reducible repeat' (first | assumption | (refine hR.rest ?_))

theorem State.modWc_kept (hR : Kept R) {a1 a2} (h : R s0 s) : R s0 (State.modWc s a1 a2) := by
  unfold State.modWc
  with_reducible repeat' (first | assumption | (refine hR.rest ?_))

theorem State.modEng_kept (hR : Kept R) {a1 a2} (h : R s0 s) : R s0 (State.modEng s a1 a2) := by
  unfold State.modEng
  with_reducible repeat' (first | assumption | (refine hR.rest ?_))

theorem State.modSup_kept (hR : Kept R) {a1 a2} (h : R s0 s) : R s0 (State.modSup s a1 a2) := by
  unfold State.modSup
  with_reducible repeat' (first | assumption | (refine hR.rest ?_))

theorem State.modLink_kept (hR : Kept R) {a1 a2} (h : R s0 s) : R s0 (State.modLink s a1 a2) := by
  unfold State.modLink
  with_reducible repeat' (first | assumption | (refine hR.rest ?_))

theorem notePkt_kept (hR : Kept R) {a1 a2 a3 a4} (h : R s0 s) : R s0 (notePkt s a1 a2 a3 a4) := by
  unfold notePkt
  with_reducible repeat' (first | assumption | (refine State.modLink_kept hR ?_) | (refine State.bump_kept hR ?_))

theorem refreshZone_kept (hR : Kept R) {a1} (h : R s0 s) : R s0 (refreshZone s a1) := by
  unfold refreshZone
  with_reducible repeat' (first | assumption | (refine hR.set ?_))

end Sys2Proof.Machine
end

