-- ==== Sys2Proof/Laws/KeptPen.lean ====
section
/-!
SUPPORT. For the decoder pool, the channels, the ruling, the Loop Engines and the servo: each operation keeps every relation between states that register and hidden-state changes keep, or that
stores keep too. Instances of the relation give invariants and frames without unfolding an operation.
-/

namespace Sys2Proof.Machine

variable {R : State → State → Prop} {s0 s : State}

theorem State.modLdpc_kept (hR : Kept R) {a1} (h : R s0 s) : R s0 (State.modLdpc s a1) := by
  unfold State.modLdpc
  with_reducible repeat' (first | assumption | (refine hR.rest ?_))

theorem State.putCw_kept (hR : Kept R) {a1 a2} (h : R s0 s) : R s0 (State.putCw s a1 a2) := by
  unfold State.putCw
  with_reducible repeat' (first | assumption | (refine State.modLdpc_kept hR ?_) | (refine Kept.ite ?_ ?_) | split)

theorem State.modCw_kept (hR : Kept R) {a1 a2} (h : R s0 s) : R s0 (State.modCw s a1 a2) := by
  unfold State.modCw
  with_reducible repeat' (first | assumption | (refine State.putCw_kept hR ?_) | split)

theorem State.dropCw_kept (hR : Kept R) {a1} (h : R s0 s) : R s0 (State.dropCw s a1) := by
  unfold State.dropCw
  with_reducible repeat' (first | assumption | (refine State.modLdpc_kept hR ?_))

theorem refreshLdpc_kept (hR : Kept R) (h : R s0 s) : R s0 (refreshLdpc s) := by
  unfold refreshLdpc
  with_reducible repeat' (first | assumption | (refine hR.set ?_) | (intro x; try (refine Kept.cut (R := R) (s0 := s0) (x := x) ?_ ?_; unfold x; rotate_left; clear_value x; intro h)) | lift_lets | dsimp only)

theorem resultEntry_kept (hR : KeptMem R) {a1 a2} (h : R s0 s) : R s0 (resultEntry s a1 a2) := by
  unfold resultEntry
  with_reducible repeat' (first | assumption | (refine State.bump_kept hR.toKept ?_) | (refine State.ev_kept hR.toKept ?_) | (refine State.wrap_kept hR.toKept ?_) | (refine State.inkWrite_kept hR ?_) | (intro x; try (refine Kept.cut (R := R) (s0 := s0) (x := x) ?_ ?_; unfold x; rotate_left; clear_value x; intro h)) | lift_lets | (refine Kept.ite ?_ ?_) | split | dsimp only)

theorem noteDesc_kept (hR : Kept R) {a1 a2} (h : R s0 s) : R s0 (noteDesc s a1 a2) := by
  unfold noteDesc
  with_reducible repeat' (first | assumption | (refine State.modWc_kept hR ?_) | (refine Kept.ite ?_ ?_) | split)

theorem noteVerify_kept (hR : Kept R) {a1 a2 a3} (h : R s0 s) : R s0 (noteVerify s a1 a2 a3) := by
  unfold noteVerify
  with_reducible repeat' (first | assumption | (refine State.modWc_kept hR ?_) | (intro x; try (refine Kept.cut (R := R) (s0 := s0) (x := x) ?_ ?_; unfold x; rotate_left; clear_value x; intro h)) | lift_lets | (refine Kept.ite ?_ ?_) | split | dsimp only)

theorem deliver_kept (hR : KeptMem R) {a1 a2 a3} (h : R s0 s) : R s0 (deliver s a1 a2 a3) := by
  unfold deliver
  with_reducible repeat' (first | assumption | (refine State.inkWrite_kept hR ?_) | (refine State.bump_kept hR.toKept ?_) | (refine noteDesc_kept hR.toKept ?_) | (refine State.iff_kept hR.toKept ?_ fun s h => ?_) | (refine resultEntry_kept hR ?_) | (refine State.ev_kept hR.toKept ?_) | (refine State.dropCw_kept hR.toKept ?_) | (intro x; try (refine Kept.cut (R := R) (s0 := s0) (x := x) ?_ ?_; unfold x; rotate_left; clear_value x; intro h)) | lift_lets | split | dsimp only)

theorem poisonCw_kept (hR : KeptMem R) {a1 a2 a3} (h : R s0 s) : R s0 (poisonCw s a1 a2 a3) := by
  unfold poisonCw
  with_reducible repeat' (first | assumption | (refine State.inkWriteZ_kept hR ?_) | (refine State.ev_kept hR.toKept ?_) | (refine State.bump_kept hR.toKept ?_) | (refine noteDesc_kept hR.toKept ?_) | (refine resultEntry_kept hR ?_) | (refine State.dropCw_kept hR.toKept ?_) | (intro x; try (refine Kept.cut (R := R) (s0 := s0) (x := x) ?_ ?_; unfold x; rotate_left; clear_value x; intro h)) | lift_lets | (refine Kept.ite ?_ ?_) | split | dsimp only)

theorem abandonCw_kept (hR : KeptMem R) {a1} (h : R s0 s) : R s0 (abandonCw s a1) := by
  unfold abandonCw
  with_reducible repeat' (first | assumption | (refine resultEntry_kept hR ?_) | (refine noteDesc_kept hR.toKept ?_))

theorem toRevisit_kept (hR : KeptMem R) {a1 a2} (h : R s0 s) : R s0 (toRevisit s a1 a2) := by
  unfold toRevisit
  with_reducible repeat' (first | assumption | (refine poisonCw_kept hR ?_) | (refine noteDesc_kept hR.toKept ?_) | (refine State.putCw_kept hR.toKept ?_) | (intro x; try (refine Kept.cut (R := R) (s0 := s0) (x := x) ?_ ?_; unfold x; rotate_left; clear_value x; intro h)) | lift_lets | (refine Kept.ite ?_ ?_) | split | dsimp only)

theorem joinRevisit_kept (hR : KeptMem R) {a1 a2} (h : R s0 s) : R s0 (joinRevisit s a1 a2) := by
  unfold joinRevisit
  with_reducible repeat' (first | assumption | (refine poisonCw_kept hR ?_) | (refine toRevisit_kept hR ?_) | (refine Kept.ite ?_ ?_) | split)

theorem fetch64_eq {n a : Nat} : fetch64 s n a =
    if inkLimit ≤ a then (none, s.addrErr n a) else if s.anyPoison a 64 then (none, s) else (some (s.bytesAt a 64), s) := rfl
theorem snd_ite {α β : Type} {c : Prop} [Decidable c] {p q : α × β} : (if c then p else q).2 = if c then p.2 else q.2 := by split <;> rfl
theorem fetch64_kept (hR : Kept R) {a1 a2} (h : R s0 s) : R s0 (fetch64 s a1 a2).2 := by
  rw [fetch64_eq, snd_ite, snd_ite]
  exact Kept.ite (State.addrErr_kept hR h) (Kept.ite h h)
theorem fetch64_kept' (hR : Kept R) {a1 a2 v t} (e : fetch64 s a1 a2 = (v, t)) (h : R s0 s) : R s0 t := by
  have q : R s0 (fetch64 s a1 a2).2 := fetch64_kept hR h
  rw [e] at q
  exact q

theorem fetchPreset_kept (hR : Kept R) {a1 a2 a3} (h : R s0 s) : R s0 (fetchPreset s a1 a2 a3).2 := fetch64_kept hR h
theorem fetchPreset_kept' (hR : Kept R) {a1 a2 a3 v t} (e : fetchPreset s a1 a2 a3 = (v, t)) (h : R s0 s) : R s0 t := fetch64_kept' hR e h

theorem asOwn_kept {a1 a2} {r : Option (List (BitVec 8)) × State} (h : R s0 r.2) : R s0 (asOwn a1 a2 r).2.2 := h

theorem ownPreset_kept (hR : Kept R) {a1 a2} (h : R s0 s) : R s0 (ownPreset s a1 a2).2.2 := asOwn_kept (fetchPreset_kept hR h)

theorem altPreset_kept (hR : Kept R) {a1} (h : R s0 s) : R s0 (altPreset s a1).2.2 := by
  have hF : R s0 (fetchPreset s a1.pen a1.nib (otherPreset s a1)).2 := fetchPreset_kept hR h
  unfold altPreset
  by_cases hc : s.on (RC_ZT_DIR_VALID a1.pen (otherEntry a1)) = true
  · rw [if_pos hc]
    revert hF
    generalize fetchPreset s a1.pen a1.nib (otherPreset s a1) = r
    intro hF
    obtain ⟨_ | x, t⟩ := r
    · exact ownPreset_kept hR hF
    · exact hF
  · rw [if_neg hc]
    exact ownPreset_kept hR h

theorem keepPreset_kept (hR : Kept R) {a1 a2} {r : Option (Preset × List (BitVec 8)) × Bool × State} (h : R s0 r.2.2) :
    R s0 (keepPreset a1 a2 r) := State.putCw_kept hR h

theorem keepSides_kept (hR : Kept R) {a1} (h : R s0 s) : R s0 (keepSides s a1) := by
  unfold keepSides
  split
  · exact h
  · exact State.putCw_kept hR (State.collect_kept hR h fun _ _ _ _ e hp => fetchPreset_kept' hR e hp)

theorem openReplay_kept (hR : Kept R) {a1} (h : R s0 s) : R s0 (openReplay s a1) := by
  unfold openReplay
  split
  · exact h
  · exact Kept.ite (keepSides_kept hR (keepPreset_kept hR (ownPreset_kept hR h))) (keepPreset_kept hR (altPreset_kept hR h))

theorem startReplay_kept (hR : Kept R) {a1} (h : R s0 s) : R s0 (startReplay s a1) := by
  unfold startReplay
  with_reducible repeat' (first | assumption | (refine openReplay_kept hR ?_) | (refine State.modLdpc_kept hR ?_) | split)

theorem startReplays_kept (hR : Kept R) (h : R s0 s) : R s0 (startReplays s) := by
  unfold startReplays
  with_reducible repeat' (first | assumption | (refine State.each_kept hR ?_ fun s a h => ?_) | (refine startReplay_kept hR ?_))

theorem enterRung_kept (hR : Kept R) {a1 a2} (h : R s0 s) : R s0 (enterRung s a1 a2) := by
  unfold enterRung
  with_reducible repeat' (first | assumption | (refine State.modLdpc_kept hR ?_) | (refine State.putCw_kept hR ?_))

theorem readyTask_kept (hR : Kept R) {a1 a2} (h : R s0 s) : R s0 (readyTask s a1 a2) := by
  unfold readyTask
  with_reducible repeat' (first | assumption | (refine State.modLdpc_kept hR ?_))

theorem advance_kept (hR : KeptMem R) {a1 a2} (h : R s0 s) : R s0 (advance s a1 a2) := by
  unfold advance
  with_reducible repeat' (first | assumption | (refine readyTask_kept hR.toKept ?_) | (refine enterRung_kept hR.toKept ?_) | (refine startReplays_kept hR.toKept ?_) | (refine State.modLdpc_kept hR.toKept ?_) | (refine joinRevisit_kept hR ?_) | (intro x; try (refine Kept.cut (R := R) (s0 := s0) (x := x) ?_ ?_; unfold x; rotate_left; clear_value x; intro h)) | lift_lets | (refine Kept.ite ?_ ?_) | split | dsimp only)

theorem State.setRevisit_kept (hR : Kept R) {a1 a2} (h : R s0 s) : R s0 (State.setRevisit s a1 a2) := by
  unfold State.setRevisit
  with_reducible repeat' (first | assumption | (refine State.modLdpc_kept hR ?_))

theorem zeroRetryOffsets_kept (hR : Kept R) {a1} (h : R s0 s) : R s0 (zeroRetryOffsets s a1) := by
  unfold zeroRetryOffsets
  with_reducible repeat' (first | assumption | (refine hR.set ?_))

theorem setReadPower_kept (hR : Kept R) {a1 a2} (h : R s0 s) : R s0 (setReadPower s a1 a2) := by
  unfold setReadPower
  with_reducible repeat' (first | assumption | (refine hR.rest ?_))

theorem endSequence_kept (hR : Kept R) {a1} (h : R s0 s) : R s0 (endSequence s a1) := by
  unfold endSequence
  with_reducible repeat' (first | assumption | (refine State.setRevisit_kept hR ?_) | (refine setReadPower_kept hR ?_) | (refine zeroRetryOffsets_kept hR ?_))

theorem cutPending_kept (hR : KeptMem R) {a1 a2} (h : R s0 s) : R s0 (cutPending s a1 a2) := by
  unfold cutPending
  with_reducible repeat' (first | assumption | (refine State.each_kept hR.toKept ?_ fun s a h => ?_) | (refine State.iff_kept hR.toKept ?_ fun s h => ?_) | (refine poisonCw_kept hR ?_) | (refine refreshLdpc_kept hR.toKept ?_) | (refine endSequence_kept hR.toKept ?_) | (refine State.setRevisit_kept hR.toKept ?_) | (intro x; try (refine Kept.cut (R := R) (s0 := s0) (x := x) ?_ ?_; unfold x; rotate_left; clear_value x; intro h)) | lift_lets | (refine Kept.ite ?_ ?_) | split | dsimp only)

theorem putWindows_kept (hR : KeptMem R) {a1 a2} (h : R s0 s) : R s0 (putWindows s a1 a2) := by
  unfold putWindows
  with_reducible repeat' (first | assumption | (refine State.each_kept hR.toKept ?_ fun s a h => ?_) | (refine State.putBytes_kept hR ?_))

theorem writeRecord_kept (hR : KeptMem R) {a1 a2 a3} (h : R s0 s) : R s0 (writeRecord s a1 a2 a3) := by
  unfold writeRecord
  with_reducible repeat' (first | assumption | (refine State.inkWriteZ_kept hR ?_) | (refine State.iff_kept hR.toKept ?_ fun s h => ?_) | (refine State.putBytes_kept hR ?_) | (refine putWindows_kept hR ?_) | (intro x; try (refine Kept.cut (R := R) (s0 := s0) (x := x) ?_ ?_; unfold x; rotate_left; clear_value x; intro h)) | lift_lets | split | dsimp only)

theorem spillOrFull_kept (hR : KeptMem R) {a1} (h : R s0 s) : R s0 (spillOrFull s a1) := by
  unfold spillOrFull
  with_reducible repeat' (first | assumption | (refine State.modLdpc_kept hR.toKept ?_) | (refine State.putCw_kept hR.toKept ?_) | (refine State.bump_kept hR.toKept ?_) | (refine State.ev_kept hR.toKept ?_) | (refine joinRevisit_kept hR ?_) | (intro x; try (refine Kept.cut (R := R) (s0 := s0) (x := x) ?_ ?_; unfold x; rotate_left; clear_value x; intro h)) | lift_lets | (refine Kept.ite ?_ ?_) | split | dsimp only)

theorem coreSchedule_kept (hR : Kept R) {a0} (h : R s0 s) : R s0 (coreSchedule a0 s) := by
  unfold coreSchedule
  with_reducible repeat' (first | assumption | (refine refreshLdpc_kept hR ?_) | (refine State.modLdpc_kept hR ?_) | (refine startReplays_kept hR ?_) | (intro x; try (refine Kept.cut (R := R) (s0 := s0) (x := x) ?_ ?_; unfold x; rotate_left; clear_value x; intro h)) | lift_lets | (refine Kept.ite ?_ ?_) | split | dsimp only)

theorem decodeFailed_kept (hR : KeptMem R) {a1 a2} (h : R s0 s) : R s0 (decodeFailed s a1 a2) := by
  unfold decodeFailed
  with_reducible repeat' (first | assumption | (refine spillOrFull_kept hR ?_) | (refine advance_kept hR ?_) | split)

theorem decodeSucceeds_kept (hR : KeptMem R) {a1 a2 a3} (h : R s0 s) : R s0 (decodeSucceeds s a1 a2 a3) := by
  unfold decodeSucceeds
  with_reducible repeat' (first | assumption | (refine poisonCw_kept hR ?_) | (refine State.putCw_kept hR.toKept ?_) | (refine deliver_kept hR ?_) | (intro x; try (refine Kept.cut (R := R) (s0 := s0) (x := x) ?_ ?_; unfold x; rotate_left; clear_value x; intro h)) | lift_lets | (refine Kept.ite ?_ ?_) | split | dsimp only)

theorem neighbourDone_kept (hR : Kept R) {a1 a2 a3 a4 a5} (h : R s0 s) : R s0 (neighbourDone s a1 a2 a3 a4 a5) := by
  unfold neighbourDone
  with_reducible repeat' (first | assumption | (refine State.putCw_kept hR ?_) | (refine State.iff_kept hR ?_ fun s h => ?_) | (refine State.modLdpc_kept hR ?_) | (intro x; try (refine Kept.cut (R := R) (s0 := s0) (x := x) ?_ ?_; unfold x; rotate_left; clear_value x; intro h)) | lift_lets | (refine Kept.ite ?_ ?_) | split | dsimp only)

theorem decodeDone_kept (hR : KeptMem R) {a0 a1} (h : R s0 s) : R s0 (decodeDone a0 a1 s) := by
  unfold decodeDone
  with_reducible repeat' (first | assumption | (refine State.modLdpc_kept hR.toKept ?_) | (refine State.wrap_kept hR.toKept ?_) | (refine State.iff_kept hR.toKept ?_ fun s h => ?_) | (refine State.setBit_kept hR.toKept ?_) | (refine refreshLdpc_kept hR.toKept ?_) | (refine State.bump_kept hR.toKept ?_) | (refine State.ev_kept hR.toKept ?_) | (refine startReplays_kept hR.toKept ?_) | (refine neighbourDone_kept hR.toKept ?_) | (refine State.dropCw_kept hR.toKept ?_) | (refine noteVerify_kept hR.toKept ?_) | (refine decodeSucceeds_kept hR ?_) | (refine decodeFailed_kept hR ?_) | (refine State.putCw_kept hR.toKept ?_) | (intro x; try (refine Kept.cut (R := R) (s0 := s0) (x := x) ?_ ?_; unfold x; rotate_left; clear_value x; intro h)) | lift_lets | (refine Kept.ite ?_ ?_) | split | dsimp only | (refine Kept.ite2 (by assumption) ?_ ?_))

theorem spillCopyDone_kept (hR : KeptMem R) (h : R s0 s) : R s0 (spillCopyDone s) := by
  unfold spillCopyDone
  with_reducible repeat' (first | assumption | (refine State.modLdpc_kept hR.toKept ?_) | (refine refreshLdpc_kept hR.toKept ?_) | (refine writeRecord_kept hR ?_) | (refine State.putCw_kept hR.toKept ?_) | (refine advance_kept hR ?_) | (refine joinRevisit_kept hR ?_) | (refine State.iff_kept hR.toKept ?_ fun s h => ?_) | (refine startReplays_kept hR.toKept ?_) | (intro x; try (refine Kept.cut (R := R) (s0 := s0) (x := x) ?_ ?_; unfold x; rotate_left; clear_value x; intro h)) | lift_lets | (refine Kept.ite ?_ ?_) | split | dsimp only)

theorem samplesLost_kept (hR : Kept R) {a0 a1} (h : R s0 s) : R s0 (samplesLost a0 a1 s) := by
  unfold samplesLost
  with_reducible repeat' (first | assumption | (refine State.modCw_kept hR ?_) | (refine State.bump_kept hR ?_) | (refine State.ev_kept hR ?_) | (refine State.modLdpc_kept hR ?_) | (intro x; try (refine Kept.cut (R := R) (s0 := s0) (x := x) ?_ ?_; unfold x; rotate_left; clear_value x; intro h)) | lift_lets | (refine Kept.ite ?_ ?_) | split | dsimp only)

theorem replayDone_kept (hR : Kept R) {a0 a1} (h : R s0 s) : R s0 (replayDone a0 a1 s) := by
  unfold replayDone
  with_reducible repeat' (first | assumption | (refine State.modLdpc_kept hR ?_) | (refine State.putCw_kept hR ?_) | (refine refreshLdpc_kept hR ?_) | (refine startReplays_kept hR ?_) | (refine readyTask_kept hR ?_) | (intro x; try (refine Kept.cut (R := R) (s0 := s0) (x := x) ?_ ?_; unfold x; rotate_left; clear_value x; intro h)) | lift_lets | (refine Kept.ite ?_ ?_) | split | dsimp only)

theorem retryOffsets_kept (hR : Kept R) {a1 a2 a3} (h : R s0 s) : R s0 (retryOffsets s a1 a2 a3) := by
  unfold retryOffsets
  with_reducible repeat' (first | assumption | (refine State.iff_kept hR ?_ fun s h => ?_) | (refine zeroRetryOffsets_kept hR ?_) | (refine hR.set ?_) | (intro x; try (refine Kept.cut (R := R) (s0 := s0) (x := x) ?_ ?_; unfold x; rotate_left; clear_value x; intro h)) | lift_lets | (refine Kept.ite ?_ ?_) | split | dsimp only)

theorem revisitStart_kept (hR : Kept R) {a0} (h : R s0 s) : R s0 (revisitStart a0 s) := by
  unfold revisitStart
  with_reducible repeat' (first | assumption | (refine zeroRetryOffsets_kept hR ?_) | (refine State.setRevisit_kept hR ?_) | (intro x; try (refine Kept.cut (R := R) (s0 := s0) (x := x) ?_ ?_; unfold x; rotate_left; clear_value x; intro h)) | lift_lets | (refine Kept.ite ?_ ?_) | split | dsimp only)

theorem revisitEnd_kept (hR : KeptMem R) {a0} (h : R s0 s) : R s0 (revisitEnd a0 s) := by
  unfold revisitEnd
  with_reducible repeat' (first | assumption | (refine State.each_kept hR.toKept ?_ fun s a h => ?_) | (refine State.iff_kept hR.toKept ?_ fun s h => ?_) | (refine poisonCw_kept hR ?_) | (refine refreshLdpc_kept hR.toKept ?_) | (refine endSequence_kept hR.toKept ?_) | (intro x; try (refine Kept.cut (R := R) (s0 := s0) (x := x) ?_ ?_; unfold x; rotate_left; clear_value x; intro h)) | lift_lets | split | dsimp only)

theorem applyStep_kept (hR : Kept R) {a1 a2 a3 a4} (h : R s0 s) : R s0 (applyStep s a1 a2 a3 a4) := by
  unfold applyStep
  with_reducible repeat' (first | assumption | (refine retryOffsets_kept hR ?_) | (refine setReadPower_kept hR ?_) | (refine State.modLdpc_kept hR ?_) | (refine State.setRevisit_kept hR ?_) | (intro x; try (refine Kept.cut (R := R) (s0 := s0) (x := x) ?_ ?_; unfold x; rotate_left; clear_value x; intro h)) | lift_lets | (refine Kept.ite ?_ ?_) | split | dsimp only)

theorem revisitStep_kept (hR : KeptMem R) {a0} (h : R s0 s) : R s0 (revisitStep a0 s) := by
  unfold revisitStep
  with_reducible repeat' (first | assumption | (refine revisitEnd_kept hR ?_) | (refine State.setRevisit_kept hR.toKept ?_) | (refine setReadPower_kept hR.toKept ?_) | (refine zeroRetryOffsets_kept hR.toKept ?_) | (refine State.iff_kept hR.toKept ?_ fun s h => ?_) | (refine applyStep_kept hR.toKept ?_) | (intro x; try (refine Kept.cut (R := R) (s0 := s0) (x := x) ?_ ?_; unfold x; rotate_left; clear_value x; intro h)) | lift_lets | (refine Kept.ite ?_ ?_) | split | dsimp only)

theorem parkWrite_kept (hR : KeptMem R) {a0} (h : R s0 s) : R s0 (parkWrite a0 s) := by
  unfold parkWrite
  with_reducible repeat' (first | assumption | (refine hR.toKept.set ?_) | (refine State.each_kept hR.toKept ?_ fun s a h => ?_) | (refine cutPending_kept hR ?_) | (refine Kept.ite ?_ ?_) | split)

theorem coreOfflineWrite_kept (hR : Kept R) {a0} (h : R s0 s) : R s0 (coreOfflineWrite a0 s) := by
  unfold coreOfflineWrite
  with_reducible repeat' (first | assumption | (refine hR.set ?_) | (refine State.each_kept hR ?_ fun s a h => ?_) | (refine State.setBit_kept hR ?_) | (refine Kept.fold ?_ fun p a h => ?_) | (refine Kept.fold1 ?_ fun p a h => ?_) | (intro x; try (refine Kept.cut (R := R) (s0 := s0) (x := x) ?_ ?_; unfold x; rotate_left; clear_value x; intro h)) | lift_lets | (refine Kept.ite ?_ ?_) | split | dsimp only)

theorem coreTest_kept (hR : Kept R) {a0} (h : R s0 s) : R s0 (coreTest a0 s) := by
  unfold coreTest
  with_reducible repeat' (first | assumption | (refine hR.set ?_) | (refine State.ev_kept hR ?_) | (intro x; try (refine Kept.cut (R := R) (s0 := s0) (x := x) ?_ ?_; unfold x; rotate_left; clear_value x; intro h)) | lift_lets | (refine Kept.ite ?_ ?_) | split | dsimp only)

theorem coreTestDone_kept (hR : Kept R) {a0} (h : R s0 s) : R s0 (coreTestDone a0 s) := by
  unfold coreTestDone
  with_reducible repeat' (first | assumption | (refine State.ev_kept hR ?_) | (refine hR.set ?_) | (refine Kept.ite ?_ ?_) | split)

theorem captureEnd_kept (hR : Kept R) {a0} (h : R s0 s) : R s0 (captureEnd a0 s) := by
  unfold captureEnd
  with_reducible repeat' (first | assumption | (refine State.modLdpc_kept hR ?_) | (refine State.ev_kept hR ?_) | (refine hR.set ?_) | (refine Kept.ite ?_ ?_) | split)

theorem captureArm_kept (hR : Kept R) {a0} (h : R s0 s) : R s0 (captureArm a0 s) := by
  unfold captureArm
  with_reducible repeat' (first | assumption | (refine hR.set ?_) | (refine captureEnd_kept hR ?_) | (refine State.modLdpc_kept hR ?_) | (intro x; try (refine Kept.cut (R := R) (s0 := s0) (x := x) ?_ ?_; unfold x; rotate_left; clear_value x; intro h)) | lift_lets | (refine Kept.ite ?_ ?_) | split | dsimp only)

theorem captureDone_kept (hR : KeptMem R) (h : R s0 s) : R s0 (captureDone s) := by
  unfold captureDone
  with_reducible repeat' (first | assumption | (refine captureEnd_kept hR.toKept ?_) | (refine writeRecord_kept hR ?_) | (refine Kept.ite ?_ ?_) | split)

theorem refreshFrozen_kept (hR : Kept R) {a1 a2} (h : R s0 s) : R s0 (refreshFrozen s a1 a2) := by
  unfold refreshFrozen
  with_reducible repeat' (first | assumption | (refine hR.set ?_) | (intro x; try (refine Kept.cut (R := R) (s0 := s0) (x := x) ?_ ?_; unfold x; rotate_left; clear_value x; intro h)) | lift_lets | (refine Kept.ite ?_ ?_) | split | dsimp only)

theorem refreshFrozenPen_kept (hR : Kept R) {a1} (h : R s0 s) : R s0 (refreshFrozenPen s a1) := by
  unfold refreshFrozenPen
  with_reducible repeat' (first | assumption | (refine State.each_kept hR ?_ fun s a h => ?_) | (refine refreshFrozen_kept hR ?_))

theorem loadInitial_kept (hR : Kept R) {a1 a2 a3} (h : R s0 s) : R s0 (loadInitial s a1 a2 a3) := by
  unfold loadInitial
  with_reducible repeat' (first | assumption | (refine hR.set ?_))

theorem applyPreset_kept (hR : Kept R) {a1 a2 a3 a4} (h : R s0 s) : R s0 (applyPreset s a1 a2 a3 a4) := by
  unfold applyPreset
  with_reducible repeat' (first | assumption | (refine State.modNib_kept hR ?_) | (refine loadInitial_kept hR ?_) | (refine hR.set ?_) | (intro x; try (refine Kept.cut (R := R) (s0 := s0) (x := x) ?_ ?_; unfold x; rotate_left; clear_value x; intro h)) | lift_lets | dsimp only)

theorem reloadPreset_kept (hR : Kept R) {a1 a2} (h : R s0 s) : R s0 (reloadPreset s a1 a2) := by
  unfold reloadPreset
  with_reducible repeat' (first | assumption | (refine State.modNib_kept hR ?_) | (refine loadInitial_kept hR ?_) | (intro x; try (refine Kept.cut (R := R) (s0 := s0) (x := x) ?_ ?_; unfold x; rotate_left; clear_value x; intro h)) | lift_lets | split | dsimp only)

theorem refreshAlt_kept (hR : Kept R) {a1 a2} (h : R s0 s) : R s0 (refreshAlt s a1 a2) := by
  unfold refreshAlt
  with_reducible repeat' (first | assumption | (refine hR.set ?_) | (intro x; try (refine Kept.cut (R := R) (s0 := s0) (x := x) ?_ ?_; unfold x; rotate_left; clear_value x; intro h)) | lift_lets | dsimp only)

theorem refreshAltPen_kept (hR : Kept R) {a1} (h : R s0 s) : R s0 (refreshAltPen s a1) := by
  unfold refreshAltPen
  with_reducible repeat' (first | assumption | (refine State.each_kept hR ?_ fun s a h => ?_) | (refine refreshAlt_kept hR ?_))

theorem refreshPresets_kept (hR : Kept R) {a1} (h : R s0 s) : R s0 (refreshPresets s a1) := by
  unfold refreshPresets
  with_reducible repeat' (first | assumption | (refine refreshAltPen_kept hR ?_) | (refine refreshZone_kept hR ?_))

theorem selectPreset_kept (hR : Kept R) {a1 a2} (h : R s0 s) : R s0 (selectPreset s a1 a2) := by
  unfold selectPreset
  with_reducible repeat' (first | assumption | (refine State.iff_kept hR ?_ fun s h => ?_) | (refine State.ev_kept hR ?_) | (refine State.modNib_kept hR ?_) | (refine refreshAlt_kept hR ?_) | (intro x; try (refine Kept.cut (R := R) (s0 := s0) (x := x) ?_ ?_; unfold x; rotate_left; clear_value x; intro h)) | lift_lets | (refine Kept.ite ?_ ?_) | split | dsimp only | (refine hR.ctr ?_) | (refine hR.rest ?_))

theorem applyFetched_kept (hR : Kept R) {a1 a2 a3} (h : R s0 s) : R s0 (applyFetched s a1 a2 a3) := by
  unfold applyFetched
  with_reducible repeat' (first | assumption | (refine applyPreset_kept hR ?_) | (refine Kept.ite ?_ ?_) | split)

theorem takePreset_kept (hR : Kept R) {a0 a1 a2 a3} {r : Option (List (BitVec 8)) × State} (h : R s0 r.2) : R s0 (takePreset a0 a1 a2 a3 r) := by
  unfold takePreset
  split
  · exact State.ev_kept hR (State.modNib_kept hR h)
  · exact State.modNib_kept hR h

theorem presetFetchDone_kept (hR : Kept R) {a0 a1 a2} (h : R s0 s) : R s0 (presetFetchDone a0 a1 a2 s) := by
  unfold presetFetchDone
  split
  · exact h
  · exact takePreset_kept hR (fetchPreset_kept hR h)

theorem ztDirWrite_kept (hR : Kept R) {a0 a1 a2} (h : R s0 s) : R s0 (ztDirWrite a0 a1 a2 s) := by
  unfold ztDirWrite
  with_reducible repeat' (first | assumption | (refine refreshAltPen_kept hR ?_) | (refine hR.set ?_))

theorem correctOne_kept (hR : Kept R) {a0 a1 a3} (h : R s0 s) : R s0 (correctOne a0 a1 s a3) := by
  unfold correctOne
  with_reducible repeat' (first | assumption | (refine State.modNib_kept hR ?_) | (intro x; try (refine Kept.cut (R := R) (s0 := s0) (x := x) ?_ ?_; unfold x; rotate_left; clear_value x; intro h)) | lift_lets | (refine Kept.ite ?_ ?_) | split | dsimp only)

theorem judgeSample_kept (hR : Kept R) {n k} {a : State × LoopSums} {x} (h : R s0 a.1) : R s0 (judgeSample n k a x).1 := by
  unfold judgeSample State.modNib
  exact hR.rest h
theorem judgeSamples_kept (hR : Kept R) {n k} {l : List (Bool × Int)} {q : LoopSums} (h : R s0 s) : R s0 (l.foldl (judgeSample n k) (s, q)).1 := by
  induction l generalizing s q with
  | nil => exact h
  | cons a l ih => exact ih (s := (judgeSample n k (s, q) a).1) (q := (judgeSample n k (s, q) a).2) (judgeSample_kept hR h)

theorem adapt_kept (hR : Kept R) {a1 a2 a3 a4} (h : R s0 s) : R s0 (adapt s a1 a2 a3 a4) := by
  unfold adapt
  with_reducible repeat' (first | assumption | (refine hR.set ?_) | (refine State.fresh_kept' hR (by assumption) ?_) | (intro x; try (refine Kept.cut (R := R) (s0 := s0) (x := x) ?_ ?_; unfold x; rotate_left; clear_value x; intro h)) | lift_lets | (refine Kept.ite ?_ ?_) | split | dsimp only | (refine Kept.ite2 (by assumption) ?_ ?_) | (refine State.fresh_kept hR ?_))

theorem applySums_kept (hR : Kept R) {a0 a1 a3} (h : R s0 s) : R s0 (applySums a0 a1 s a3) := by
  unfold applySums
  with_reducible repeat' (first | assumption | (refine State.divFree_kept' hR (by assumption) ?_) | (refine adapt_kept hR ?_) | (refine hR.set ?_) | (intro x; try (refine Kept.cut (R := R) (s0 := s0) (x := x) ?_ ?_; unfold x; rotate_left; clear_value x; intro h)) | lift_lets | (refine Kept.ite ?_ ?_) | split | dsimp only | (refine Kept.ite2 (by assumption) ?_ ?_) | (refine State.divFree_kept hR ?_))

theorem chanStep_kept (hR : Kept R) {a0 a1 a3} (h : R s0 s) : R s0 (chanStep a0 a1 s a3) := by
  unfold chanStep
  split
  · exact reloadPreset_kept hR h
  · exact Kept.fold1 h fun p a h => correctOne_kept hR h
  · exact Kept.ite h (State.modNib_kept hR (applySums_kept hR (judgeSamples_kept hR h)))

theorem tellEngineBlot_kept (hR : Kept R) {a1} (h : R s0 s) : R s0 (tellEngineBlot s a1) := by
  unfold tellEngineBlot
  with_reducible repeat' (first | assumption | (refine State.modEng_kept hR ?_))

theorem beginBlot_kept (hR : Kept R) {a1 a2 a3} (h : R s0 s) : R s0 (beginBlot s a1 a2 a3) := by
  unfold beginBlot
  with_reducible repeat' (first | assumption | (refine State.modNib_kept hR ?_) | (refine State.ev_kept hR ?_) | (refine hR.set ?_) | (refine tellEngineBlot_kept hR ?_) | (refine refreshFrozen_kept hR ?_) | (refine State.bump_kept hR ?_) | (intro x; try (refine Kept.cut (R := R) (s0 := s0) (x := x) ?_ ?_; unfold x; rotate_left; clear_value x; intro h)) | lift_lets | dsimp only)

theorem blotStart_kept (hR : Kept R) {a0 a1 a2 a3} (h : R s0 s) : R s0 (blotStart a0 a1 a2 a3 s) := by
  unfold blotStart
  with_reducible repeat' (first | assumption | (refine beginBlot_kept hR ?_) | (refine Kept.ite ?_ ?_) | split)

theorem blotEnd_kept (hR : Kept R) {a0 a1 a2} (h : R s0 s) : R s0 (blotEnd a0 a1 a2 s) := by
  unfold blotEnd
  with_reducible repeat' (first | assumption | (refine State.modNib_kept hR ?_) | (refine refreshFrozen_kept hR ?_) | (refine hR.set ?_) | (intro x; try (refine Kept.cut (R := R) (s0 := s0) (x := x) ?_ ?_; unfold x; rotate_left; clear_value x; intro h)) | lift_lets | split | dsimp only)

theorem modDesc_kept (hR : Kept R) {a1 a2 a3} (h : R s0 s) : R s0 (modDesc s a1 a2 a3) := by
  unfold modDesc
  with_reducible repeat' (first | assumption | (refine State.modWc_kept hR ?_) | (refine Kept.ite ?_ ?_) | split)

theorem beginPass_kept (hR : Kept R) {a1 a2 a3} (h : R s0 s) : R s0 (beginPass s a1 a2 a3) := by
  unfold beginPass
  with_reducible repeat' (first | assumption | (refine modDesc_kept hR ?_) | (refine Kept.ite ?_ ?_) | split)

theorem noteTaken_kept (hR : Kept R) {a1 a2 a3 a4} (h : R s0 s) : R s0 (noteTaken s a1 a2 a3 a4) := by
  unfold noteTaken
  with_reducible repeat' (first | assumption | (refine modDesc_kept hR ?_))

theorem cwBoundary_kept (hR : Kept R) {a0 a1 a2 a3 a4} (h : R s0 s) : R s0 (cwBoundary a0 a1 a2 a3 a4 s) := by
  unfold cwBoundary
  with_reducible repeat' (first | assumption | (refine refreshZone_kept hR ?_) | (refine applyFetched_kept hR ?_) | (refine selectPreset_kept hR ?_) | (refine State.iff_kept hR ?_ fun s h => ?_) | (refine beginPass_kept hR ?_) | (refine State.modNib_kept hR ?_) | (intro x; try (refine Kept.cut (R := R) (s0 := s0) (x := x) ?_ ?_; unfold x; rotate_left; clear_value x; intro h)) | lift_lets | (refine Kept.ite ?_ ?_) | split | dsimp only)

theorem syncSearch_kept (hR : Kept R) {a0 a1} (h : R s0 s) : R s0 (syncSearch a0 a1 s) := by
  unfold syncSearch
  with_reducible repeat' (first | assumption | (refine State.modNib_kept hR ?_) | (refine Kept.fold ?_ fun p a h => ?_) | (refine Kept.fold1 ?_ fun p a h => ?_) | (intro x; try (refine Kept.cut (R := R) (s0 := s0) (x := x) ?_ ?_; unfold x; rotate_left; clear_value x; intro h)) | lift_lets | dsimp only)

theorem resyncSearch_kept (hR : Kept R) {a0 a1} (h : R s0 s) : R s0 (resyncSearch a0 a1 s) := by
  unfold resyncSearch
  with_reducible repeat' (first | assumption | (refine State.modNib_kept hR ?_) | (refine Kept.fold ?_ fun p a h => ?_) | (refine Kept.fold1 ?_ fun p a h => ?_) | (intro x; try (refine Kept.cut (R := R) (s0 := s0) (x := x) ?_ ?_; unfold x; rotate_left; clear_value x; intro h)) | lift_lets | dsimp only)

theorem slipTest_kept (hR : Kept R) {a0 a1 a2} (h : R s0 s) : R s0 (slipTest a0 a1 a2 s) := by
  unfold slipTest
  with_reducible repeat' (first | assumption | (refine State.modNib_kept hR ?_) | (intro x; try (refine Kept.cut (R := R) (s0 := s0) (x := x) ?_ ?_; unfold x; rotate_left; clear_value x; intro h)) | lift_lets | (refine Kept.ite ?_ ?_) | split | dsimp only)

theorem setNibSync_kept (hR : Kept R) {a1 a2 a3 a4} (h : R s0 s) : R s0 (setNibSync s a1 a2 a3 a4) := by
  unfold setNibSync
  with_reducible repeat' (first | assumption | (refine hR.set ?_) | (refine Kept.ite ?_ ?_) | split)

theorem countFraming_kept (hR : Kept R) {a1 a2 a3} (h : R s0 s) : R s0 (countFraming s a1 a2 a3) := by
  unfold countFraming
  with_reducible repeat' (first | assumption | (refine State.bump_kept hR ?_) | (refine State.iff_kept hR ?_ fun s h => ?_) | (refine State.ev_kept hR ?_) | (refine hR.set ?_) | (intro x; try (refine Kept.cut (R := R) (s0 := s0) (x := x) ?_ ?_; unfold x; rotate_left; clear_value x; intro h)) | lift_lets | (refine Kept.ite ?_ ?_) | split | dsimp only)

theorem newCw_kept (hR : Kept R) {a1} (h : R s0 s) : R s0 (newCw s a1).2 := by
  unfold newCw
  with_reducible repeat' (first | assumption | (refine State.putCw_kept hR ?_) | (refine State.modLdpc_kept hR ?_) | (intro x; try (refine Kept.cut (R := R) (s0 := s0) (x := x) ?_ ?_; unfold x; rotate_left; clear_value x; intro h)) | lift_lets | dsimp only)
theorem newCw_kept' (hR : Kept R) {a1 v t} (e : newCw s a1 = (v, t)) (h : R s0 s) : R s0 t := by
  have q : R s0 (newCw s a1).2 := newCw_kept hR h
  rw [e] at q
  exact q

theorem inBufOvf_kept (hR : Kept R) (h : R s0 s) : R s0 (inBufOvf s) := by
  unfold inBufOvf
  with_reducible repeat' (first | assumption | (refine State.bump_kept hR ?_) | (refine State.ev_kept hR ?_))

theorem handOff_kept (hR : KeptMem R) {a1 a2} (h : R s0 s) : R s0 (handOff s a1 a2) := by
  unfold handOff
  with_reducible repeat' (first | assumption | (refine noteVerify_kept hR.toKept ?_) | (refine State.iff_kept hR.toKept ?_ fun s h => ?_) | (refine inBufOvf_kept hR.toKept ?_) | (refine newCw_kept' hR.toKept (by assumption) ?_) | (refine refreshLdpc_kept hR.toKept ?_) | (refine poisonCw_kept hR ?_) | (refine toRevisit_kept hR ?_) | (refine State.modLdpc_kept hR.toKept ?_) | (intro x; try (refine Kept.cut (R := R) (s0 := s0) (x := x) ?_ ?_; unfold x; rotate_left; clear_value x; intro h)) | lift_lets | (refine Kept.ite ?_ ?_) | split | dsimp only | (refine Kept.ite2 (by assumption) ?_ ?_) | (refine newCw_kept hR.toKept ?_))

theorem readInStep_kept (hR : Kept R) {a1 a2} (h : R s0 s) : R s0 (readInStep s a1 a2) := by
  unfold readInStep
  with_reducible repeat' (first | assumption | (refine State.setRevisit_kept hR ?_) | (intro x; try (refine Kept.cut (R := R) (s0 := s0) (x := x) ?_ ?_; unfold x; rotate_left; clear_value x; intro h)) | lift_lets | dsimp only)

theorem handOffFresh_kept (hR : KeptMem R) {a1 a2 a3 a4} (h : R s0 s) : R s0 (handOffFresh s a1 a2 a3 a4) := by
  unfold handOffFresh
  with_reducible repeat' (first | assumption | (refine readInStep_kept hR.toKept ?_) | (refine refreshLdpc_kept hR.toKept ?_) | (refine poisonCw_kept hR ?_) | (refine State.putCw_kept hR.toKept ?_) | (refine inBufOvf_kept hR.toKept ?_) | (refine toRevisit_kept hR ?_) | (refine readyTask_kept hR.toKept ?_) | (refine enterRung_kept hR.toKept ?_) | (intro x; try (refine Kept.cut (R := R) (s0 := s0) (x := x) ?_ ?_; unfold x; rotate_left; clear_value x; intro h)) | lift_lets | (refine Kept.ite ?_ ?_) | split | dsimp only)

theorem takeCapture_kept (hR : Kept R) {a1} (h : R s0 s) : R s0 (takeCapture s a1) := by
  unfold takeCapture
  with_reducible repeat' (first | assumption | (refine State.modLdpc_kept hR ?_) | (intro x; try (refine Kept.cut (R := R) (s0 := s0) (x := x) ?_ ?_; unfold x; rotate_left; clear_value x; intro h)) | lift_lets | (refine Kept.ite ?_ ?_) | split | dsimp only)

theorem setMse_kept (hR : Kept R) {a1 a2 a3} (h : R s0 s) : R s0 (setMse s a1 a2 a3) := by
  have q : R s0 (s.divFree a3.err (2 ^ 114 * a3.judged)).2 := State.divFree_kept hR h
  unfold setMse
  split
  · exact h
  · revert q
    generalize s.divFree a3.err (2 ^ 114 * a3.judged) = r
    exact fun q => hR.set q

theorem endUnread_kept (hR : KeptMem R) {a1 a2 a3 a4} (h : R s0 s) : R s0 (endUnread s a1 a2 a3 a4) := by
  unfold endUnread
  with_reducible repeat' (first | assumption | (refine noteTaken_kept hR.toKept ?_) | (refine State.iff_kept hR.toKept ?_ fun s h => ?_) | (refine noteVerify_kept hR.toKept ?_) | (refine resultEntry_kept hR ?_) | (refine newCw_kept' hR.toKept (by assumption) ?_) | (refine toRevisit_kept hR ?_) | (refine abandonCw_kept hR ?_) | (intro x; try (refine Kept.cut (R := R) (s0 := s0) (x := x) ?_ ?_; unfold x; rotate_left; clear_value x; intro h)) | lift_lets | (refine Kept.ite ?_ ?_) | split | dsimp only | (refine Kept.ite2 (by assumption) ?_ ?_) | (refine newCw_kept hR.toKept ?_))

theorem cwFramed_kept (hR : KeptMem R) {a0 a1 a2} (h : R s0 s) : R s0 (cwFramed a0 a1 a2 s) := by
  unfold cwFramed
  with_reducible repeat' (first | assumption | (refine State.ev_kept hR.toKept ?_) | (refine State.modNib_kept hR.toKept ?_) | (refine refreshLdpc_kept hR.toKept ?_) | (refine endUnread_kept hR ?_) | (refine setNibSync_kept hR.toKept ?_) | (refine setMse_kept hR.toKept ?_) | (refine countFraming_kept hR.toKept ?_) | (refine takeCapture_kept hR.toKept ?_) | (refine handOffFresh_kept hR ?_) | (refine handOff_kept hR ?_) | (refine noteTaken_kept hR.toKept ?_) | (intro x; try (refine Kept.cut (R := R) (s0 := s0) (x := x) ?_ ?_; unfold x; rotate_left; clear_value x; intro h)) | lift_lets | (refine Kept.ite ?_ ?_) | split | dsimp only)

theorem endCws_kept (hR : KeptMem R) {a1 a2 a3} (h : R s0 s) : R s0 (endCws s a1 a2 a3) := by
  unfold endCws
  with_reducible repeat' (first | assumption | (refine State.modNib_kept hR.toKept ?_) | (refine State.iff_kept hR.toKept ?_ fun s h => ?_) | (refine State.ev_kept hR.toKept ?_) | (refine State.each_kept hR.toKept ?_ fun s a h => ?_) | (refine endUnread_kept hR ?_) | (intro x; try (refine Kept.cut (R := R) (s0 := s0) (x := x) ?_ ?_; unfold x; rotate_left; clear_value x; intro h)) | lift_lets | (refine Kept.ite ?_ ?_) | split | dsimp only)

theorem abandonNib_kept (hR : KeptMem R) {a1 a2} (h : R s0 s) : R s0 (abandonNib s a1 a2) := by
  unfold abandonNib
  with_reducible repeat' (first | assumption | (refine endCws_kept hR ?_))

theorem incompletePen_kept (hR : KeptMem R) {a1} (h : R s0 s) : R s0 (incompletePen s a1) := by
  unfold incompletePen
  with_reducible repeat' (first | assumption | (refine refreshLdpc_kept hR.toKept ?_) | (refine State.each_kept hR.toKept ?_ fun s a h => ?_) | (refine endCws_kept hR ?_))

theorem nibComes_kept (hR : Kept R) {a1 a2 a3} (h : R s0 s) : R s0 (nibComes s a1 a2 a3) := by
  unfold nibComes
  with_reducible repeat' (first | assumption | (refine State.modNib_kept hR ?_) | (refine hR.set ?_) | (intro x; try (refine Kept.cut (R := R) (s0 := s0) (x := x) ?_ ?_; unfold x; rotate_left; clear_value x; intro h)) | lift_lets | (refine Kept.ite ?_ ?_) | split | dsimp only)

theorem rcCtrlWrite_kept (hR : KeptMem R) {a0 a1} (h : R s0 s) : R s0 (rcCtrlWrite a0 a1 s) := by
  unfold rcCtrlWrite
  with_reducible repeat' (first | assumption | (refine State.each_kept hR.toKept ?_ fun s a h => ?_) | (refine abandonNib_kept hR ?_) | (refine hR.toKept.set ?_) | (refine State.iff_kept hR.toKept ?_ fun s h => ?_) | (refine cutPending_kept hR ?_) | (refine State.modNib_kept hR.toKept ?_) | (refine nibComes_kept hR.toKept ?_) | (refine refreshFrozenPen_kept hR.toKept ?_) | (intro x; try (refine Kept.cut (R := R) (s0 := s0) (x := x) ?_ ?_; unfold x; rotate_left; clear_value x; intro h)) | lift_lets | (refine Kept.ite ?_ ?_) | split | dsimp only)

theorem setVerdict_kept (hR : Kept R) {a1 a2 a3} (h : R s0 s) : R s0 (setVerdict s a1 a2 a3) := by
  unfold setVerdict
  with_reducible repeat' (first | assumption | (refine modDesc_kept hR ?_) | (refine Kept.ite ?_ ?_) | split)

theorem refreshWc_kept (hR : Kept R) {a1} (h : R s0 s) : R s0 (refreshWc s a1) := by
  unfold refreshWc
  with_reducible repeat' (first | assumption | (refine hR.set ?_) | (refine Kept.fold ?_ fun p a h => ?_) | (refine Kept.fold1 ?_ fun p a h => ?_) | (intro x; try (refine Kept.cut (R := R) (s0 := s0) (x := x) ?_ ?_; unfold x; rotate_left; clear_value x; intro h)) | lift_lets | dsimp only)

theorem refreshInUse_kept (hR : Kept R) {a1} (h : R s0 s) : R s0 (refreshInUse s a1) := by
  unfold refreshInUse
  with_reducible repeat' (first | assumption | (refine hR.set ?_) | (intro x; try (refine Kept.cut (R := R) (s0 := s0) (x := x) ?_ ?_; unfold x; rotate_left; clear_value x; intro h)) | lift_lets | (refine Kept.ite ?_ ?_) | split | dsimp only)

theorem refreshGate_kept (hR : Kept R) {a1} (h : R s0 s) : R s0 (refreshGate s a1) := by
  unfold refreshGate
  with_reducible repeat' (first | assumption | (refine hR.set ?_))

theorem ledgerAdd_kept (hR : Kept R) {a1 a2 a3} (h : R s0 s) : R s0 (ledgerAdd s a1 a2 a3) := by
  unfold ledgerAdd
  with_reducible repeat' (first | assumption | (refine State.modWc_kept hR ?_) | (refine State.ev_kept hR ?_) | (refine hR.set ?_) | (refine refreshGate_kept hR ?_) | (intro x; try (refine Kept.cut (R := R) (s0 := s0) (x := x) ?_ ?_; unfold x; rotate_left; clear_value x; intro h)) | lift_lets | (refine Kept.ite ?_ ?_) | split | dsimp only)

theorem ledgerRemove_kept (hR : Kept R) {a1 a2} (h : R s0 s) : R s0 (ledgerRemove s a1 a2) := by
  unfold ledgerRemove
  with_reducible repeat' (first | assumption | (refine refreshGate_kept hR ?_) | (refine State.modWc_kept hR ?_))

theorem ledgerEmpty_kept (hR : Kept R) {a1} (h : R s0 s) : R s0 (ledgerEmpty s a1) := by
  unfold ledgerEmpty
  with_reducible repeat' (first | assumption | (refine refreshGate_kept hR ?_) | (refine State.modWc_kept hR ?_))

theorem ledgerUpdate_kept (hR : Kept R) {a1 a2 a3} (h : R s0 s) : R s0 (ledgerUpdate s a1 a2 a3) := by
  unfold ledgerUpdate
  with_reducible repeat' (first | assumption | (refine ledgerEmpty_kept hR ?_) | (refine ledgerAdd_kept hR ?_) | (refine ledgerRemove_kept hR ?_) | (intro x; try (refine Kept.cut (R := R) (s0 := s0) (x := x) ?_ ?_; unfold x; rotate_left; clear_value x; intro h)) | lift_lets | (refine Kept.ite ?_ ?_) | split | dsimp only | (refine Kept.ite2 (by assumption) ?_ ?_))

theorem countRelocation_kept (hR : Kept R) {a1 a2} (h : R s0 s) : R s0 (countRelocation s a1 a2) := by
  unfold countRelocation
  with_reducible repeat' (first | assumption | (intro x; try (refine Kept.cut (R := R) (s0 := s0) (x := x) ?_ ?_; unfold x; rotate_left; clear_value x; intro h)) | lift_lets | (refine Kept.ite ?_ ?_) | split | dsimp only | (refine hR.rest ?_))

theorem closeAtRim_kept (hR : Kept R) {a1} (h : R s0 s) : R s0 (closeAtRim s a1) := by
  unfold closeAtRim
  with_reducible repeat' (first | assumption | (intro x; try (refine Kept.cut (R := R) (s0 := s0) (x := x) ?_ ?_; unfold x; rotate_left; clear_value x; intro h)) | lift_lets | (refine Kept.ite ?_ ?_) | split | dsimp only | (refine hR.rest ?_))

theorem completeDesc_kept (hR : KeptMem R) {a1 a2} (h : R s0 s) : R s0 (completeDesc s a1 a2) := by
  unfold completeDesc
  with_reducible repeat' (first | assumption | (refine State.inkWrite_kept hR ?_) | (refine modDesc_kept hR.toKept ?_) | (refine countRelocation_kept hR.toKept ?_) | (refine ledgerUpdate_kept hR.toKept ?_) | (refine State.iff_kept hR.toKept ?_ fun s h => ?_) | (refine State.ev_kept hR.toKept ?_) | (refine refreshInUse_kept hR.toKept ?_) | (refine refreshWc_kept hR.toKept ?_) | (intro x; try (refine Kept.cut (R := R) (s0 := s0) (x := x) ?_ ?_; unfold x; rotate_left; clear_value x; intro h)) | lift_lets | (refine Kept.ite ?_ ?_) | split | dsimp only)

theorem cutGroup_kept (hR : KeptMem R) {a1} (h : R s0 s) : R s0 (cutGroup s a1) := by
  unfold cutGroup
  with_reducible repeat' (first | assumption | (refine State.each_kept hR.toKept ?_ fun s a h => ?_) | (refine State.bump_kept hR.toKept ?_) | (refine completeDesc_kept hR ?_) | (refine modDesc_kept hR.toKept ?_) | (refine refreshWc_kept hR.toKept ?_) | (intro x; try (refine Kept.cut (R := R) (s0 := s0) (x := x) ?_ ?_; unfold x; rotate_left; clear_value x; intro h)) | lift_lets | (refine Kept.ite ?_ ?_) | split | dsimp only)

theorem sendAbort_kept (hR : Kept R) {a1 a2} (h : R s0 s) : R s0 (sendAbort s a1 a2) := by
  unfold sendAbort
  with_reducible repeat' (first | assumption | (refine State.modLink_kept hR ?_))

theorem stopGroup_kept (hR : KeptMem R) {a1} (h : R s0 s) : R s0 (stopGroup s a1) := by
  unfold stopGroup
  with_reducible repeat' (first | assumption | (refine cutGroup_kept hR ?_) | (refine State.iff_kept hR.toKept ?_ fun s h => ?_) | (refine sendAbort_kept hR.toKept ?_) | (intro x; try (refine Kept.cut (R := R) (s0 := s0) (x := x) ?_ ?_; unfold x; rotate_left; clear_value x; intro h)) | lift_lets | split | dsimp only)

theorem abortBurns_kept (hR : Kept R) {a1} (h : R s0 s) : R s0 (abortBurns s a1) := by
  unfold abortBurns
  with_reducible repeat' (first | assumption | (refine State.each_kept hR ?_ fun s a h => ?_) | (refine setVerdict_kept hR ?_) | (refine State.bump_kept hR ?_) | (refine refreshWc_kept hR ?_) | (refine State.ev_kept hR ?_) | (refine sendAbort_kept hR ?_) | (intro x; try (refine Kept.cut (R := R) (s0 := s0) (x := x) ?_ ?_; unfold x; rotate_left; clear_value x; intro h)) | lift_lets | (refine Kept.ite ?_ ?_) | split | dsimp only)

theorem fqHeadWrite_kept (hR : Kept R) {a0 a1} (h : R s0 s) : R s0 (fqHeadWrite a0 a1 s) := by
  unfold fqHeadWrite
  with_reducible repeat' (first | assumption | (refine hR.set ?_))

theorem groupForm_kept (hR : Kept R) {a0} (h : R s0 s) : R s0 (groupForm a0 s) := by
  unfold groupForm
  with_reducible repeat' (first | assumption | (refine State.each_kept hR ?_ fun s a h => ?_) | (refine closeAtRim_kept hR ?_) | (refine State.reads_kept hR ?_) | (refine State.modWc_kept hR ?_) | (refine refreshWc_kept hR ?_) | (refine hR.set ?_) | (intro x; try (refine Kept.cut (R := R) (s0 := s0) (x := x) ?_ ?_; unfold x; rotate_left; clear_value x; intro h)) | lift_lets | (refine Kept.ite ?_ ?_) | split | dsimp only)

theorem groupStart_kept (hR : Kept R) {a0} (h : R s0 s) : R s0 (groupStart a0 s) := by
  unfold groupStart
  with_reducible repeat' (first | assumption | (refine State.modWc_kept hR ?_) | (refine State.each_kept hR ?_ fun s a h => ?_) | (refine State.iff_kept hR ?_ fun s h => ?_) | (refine State.reads_kept hR ?_) | (refine hR.set ?_) | (refine refreshInUse_kept hR ?_) | (intro x; try (refine Kept.cut (R := R) (s0 := s0) (x := x) ?_ ?_; unfold x; rotate_left; clear_value x; intro h)) | lift_lets | (refine Kept.ite ?_ ?_) | split | dsimp only)

theorem countDn_kept (hR : Kept R) {a1 a2} (h : R s0 s) : R s0 (countDn s a1 a2) := by
  unfold countDn
  with_reducible repeat' (first | assumption | (refine State.modLink_kept hR ?_))

theorem slotArrival_kept (hR : Kept R) {a0 a1 a2 a3 a4} (h : R s0 s) : R s0 (slotArrival a0 a1 a2 a3 a4 s) := by
  unfold slotArrival
  with_reducible repeat' (first | assumption | (refine State.modWc_kept hR ?_) | (refine modDesc_kept hR ?_) | (refine State.modLink_kept hR ?_) | (refine countDn_kept hR ?_) | (refine refreshWc_kept hR ?_) | (intro x; try (refine Kept.cut (R := R) (s0 := s0) (x := x) ?_ ?_; unfold x; rotate_left; clear_value x; intro h)) | lift_lets | (refine Kept.ite ?_ ?_) | split | dsimp only)

theorem burnDone_kept (hR : Kept R) {a0 a1} (h : R s0 s) : R s0 (burnDone a0 a1 s) := by
  unfold burnDone
  with_reducible repeat' (first | assumption | (refine modDesc_kept hR ?_) | (refine State.modLink_kept hR ?_) | (refine State.bump_kept hR ?_) | (refine State.iff_kept hR ?_ fun s h => ?_) | (refine setVerdict_kept hR ?_) | (refine refreshWc_kept hR ?_) | (intro x; try (refine Kept.cut (R := R) (s0 := s0) (x := x) ?_ ?_; unfold x; rotate_left; clear_value x; intro h)) | lift_lets | split | dsimp only)

theorem underrun_kept (hR : Kept R) {a1 a2} (h : R s0 s) : R s0 (underrun s a1 a2) := by
  unfold underrun
  with_reducible repeat' (first | assumption | (refine State.ev_kept hR ?_) | (refine State.bump_kept hR ?_) | (refine setVerdict_kept hR ?_))

theorem writeUnderrun_kept (hR : Kept R) {a0 a1} (h : R s0 s) : R s0 (writeUnderrun a0 a1 s) := by
  unfold writeUnderrun
  with_reducible repeat' (first | assumption | (refine State.modWc_kept hR ?_) | (refine refreshWc_kept hR ?_) | (refine sendAbort_kept hR ?_) | (refine underrun_kept hR ?_) | (intro x; try (refine Kept.cut (R := R) (s0 := s0) (x := x) ?_ ?_; unfold x; rotate_left; clear_value x; intro h)) | lift_lets | (refine Kept.ite ?_ ?_) | split | dsimp only)

theorem verifyRead_kept (hR : Kept R) {a0 a1} (h : R s0 s) : R s0 (verifyRead a0 a1 s) := by
  unfold verifyRead
  with_reducible repeat' (first | assumption | (refine modDesc_kept hR ?_) | (refine setVerdict_kept hR ?_) | (refine State.bump_kept hR ?_) | (refine State.ev_kept hR ?_) | (intro x; try (refine Kept.cut (R := R) (s0 := s0) (x := x) ?_ ?_; unfold x; rotate_left; clear_value x; intro h)) | lift_lets | (refine Kept.ite ?_ ?_) | split | dsimp only)

theorem groupEnd_kept (hR : Kept R) {a0} (h : R s0 s) : R s0 (groupEnd a0 s) := by
  unfold groupEnd
  with_reducible repeat' (first | assumption | (refine State.wrap_kept hR ?_) | (refine State.modWc_kept hR ?_) | (refine refreshWc_kept hR ?_) | (refine hR.set ?_) | (refine State.ev_kept hR ?_) | (intro x; try (refine Kept.cut (R := R) (s0 := s0) (x := x) ?_ ?_; unfold x; rotate_left; clear_value x; intro h)) | lift_lets | (refine Kept.ite ?_ ?_) | split | dsimp only)

theorem colophonGate_kept (hR : Kept R) {a0} (h : R s0 s) : R s0 (colophonGate a0 s) := by
  unfold colophonGate
  with_reducible repeat' (first | assumption | (refine hR.set ?_) | (refine setVerdict_kept hR ?_) | (refine Kept.ite ?_ ?_) | split)

theorem colophonReadback_kept (hR : Kept R) {a0} (h : R s0 s) : R s0 (colophonReadback a0 s) := by
  unfold colophonReadback
  with_reducible repeat' (first | assumption | (refine modDesc_kept hR ?_) | (refine State.bump_kept hR ?_) | (refine setVerdict_kept hR ?_) | (intro x; try (refine Kept.cut (R := R) (s0 := s0) (x := x) ?_ ?_; unfold x; rotate_left; clear_value x; intro h)) | lift_lets | (refine Kept.ite ?_ ?_) | split | dsimp only)

theorem calBeta_kept (hR : Kept R) {a1} (h : R s0 s) : R s0 (calBeta s a1).2 := by
  unfold calBeta
  with_reducible repeat' (first | assumption | (refine State.divFree_kept' hR (by assumption) ?_) | (intro x; try (refine Kept.cut (R := R) (s0 := s0) (x := x) ?_ ?_; unfold x; rotate_left; clear_value x; intro h)) | lift_lets | (refine Kept.ite ?_ ?_) | split | dsimp only | (refine State.divFree_kept hR ?_))
theorem calBeta_kept' (hR : Kept R) {a1 v t} (e : calBeta s a1 = (v, t)) (h : R s0 s) : R s0 t := by
  have q : R s0 (calBeta s a1).2 := calBeta_kept hR h
  rw [e] at q
  exact q

theorem calBetas_kept (hR : Kept R) {a1} (h : R s0 s) : R s0 (calBetas s a1).2 := by
  unfold calBetas
  with_reducible repeat' (first | assumption | (refine calBeta_kept' hR (by assumption) ?_) | (refine Kept.fold ?_ fun p a h => ?_) | (refine Kept.fold1 ?_ fun p a h => ?_) | (intro x; try (refine Kept.cut (R := R) (s0 := s0) (x := x) ?_ ?_; unfold x; rotate_left; clear_value x; intro h)) | lift_lets | split | dsimp only | (refine calBeta_kept hR ?_))
theorem calBetas_kept' (hR : Kept R) {a1 v t} (e : calBetas s a1 = (v, t)) (h : R s0 s) : R s0 t := by
  have q : R s0 (calBetas s a1).2 := calBetas_kept hR h
  rw [e] at q
  exact q

theorem quotFree_kept (hR : Kept R) {a1 a2} (h : R s0 s) : R s0 (quotFree s a1 a2).2 := by
  unfold quotFree
  with_reducible repeat' (first | assumption | (refine State.fresh_kept' hR (by assumption) ?_) | (intro x; try (refine Kept.cut (R := R) (s0 := s0) (x := x) ?_ ?_; unfold x; rotate_left; clear_value x; intro h)) | lift_lets | (refine Kept.ite ?_ ?_) | split | dsimp only | (refine Kept.ite2 (by assumption) ?_ ?_) | (refine State.fresh_kept hR ?_))
theorem quotFree_kept' (hR : Kept R) {a1 a2 v t} (e : quotFree s a1 a2 = (v, t)) (h : R s0 s) : R s0 t := by
  have q : R s0 (quotFree s a1 a2).2 := quotFree_kept hR h
  rw [e] at q
  exact q

theorem proposed_kept (hR : Kept R) {a1 a2 a3} (h : R s0 s) : R s0 (proposed s a1 a2 a3).2 := by
  unfold proposed
  with_reducible repeat' (first | assumption | (refine quotFree_kept' hR (by assumption) ?_) | (intro x; try (refine Kept.cut (R := R) (s0 := s0) (x := x) ?_ ?_; unfold x; rotate_left; clear_value x; intro h)) | lift_lets | (refine Kept.ite ?_ ?_) | split | dsimp only | (refine Kept.ite2 (by assumption) ?_ ?_) | (refine quotFree_kept hR ?_))
theorem proposed_kept' (hR : Kept R) {a1 a2 a3 v t} (e : proposed s a1 a2 a3 = (v, t)) (h : R s0 s) : R s0 t := by
  have q : R s0 (proposed s a1 a2 a3).2 := proposed_kept hR h
  rw [e] at q
  exact q

theorem calReadback_kept (hR : KeptMem R) {a0 a1} (h : R s0 s) : R s0 (calReadback a0 a1 s) := by
  unfold calReadback
  with_reducible repeat' (first | assumption | (refine State.inkWriteZ_kept hR ?_) | (refine State.each_kept hR.toKept ?_ fun s a h => ?_) | (refine calBetas_kept' hR.toKept (by assumption) ?_) | (refine proposed_kept' hR.toKept (by assumption) ?_) | (refine State.inkWrite_kept hR ?_) | (refine modDesc_kept hR.toKept ?_) | (refine setVerdict_kept hR.toKept ?_) | (refine Kept.fold ?_ fun p a h => ?_) | (refine Kept.fold1 ?_ fun p a h => ?_) | (intro x; try (refine Kept.cut (R := R) (s0 := s0) (x := x) ?_ ?_; unfold x; rotate_left; clear_value x; intro h)) | lift_lets | (refine Kept.ite ?_ ?_) | split | dsimp only | (refine Kept.ite2 (by assumption) ?_ ?_) | (refine calBetas_kept hR.toKept ?_) | (refine proposed_kept hR.toKept ?_))

theorem blankCheck_kept (hR : Kept R) {a0 a1} (h : R s0 s) : R s0 (blankCheck a0 a1 s) := by
  unfold blankCheck
  with_reducible repeat' (first | assumption | (refine setVerdict_kept hR ?_) | (refine modDesc_kept hR ?_) | (refine Kept.fold ?_ fun p a h => ?_) | (refine Kept.fold1 ?_ fun p a h => ?_) | (intro x; try (refine Kept.cut (R := R) (s0 := s0) (x := x) ?_ ?_; unfold x; rotate_left; clear_value x; intro h)) | lift_lets | (refine Kept.ite ?_ ?_) | split | dsimp only)

theorem readDescDone_kept (hR : Kept R) {a0 a1} (h : R s0 s) : R s0 (readDescDone a0 a1 s) := by
  unfold readDescDone
  with_reducible repeat' (first | assumption | (refine setVerdict_kept hR ?_) | (refine Kept.ite ?_ ?_) | split)

theorem wsLoadEnd_kept (hR : Kept R) {a0 a1} (h : R s0 s) : R s0 (wsLoadEnd a0 a1 s) := by
  unfold wsLoadEnd
  with_reducible repeat' (first | assumption | (refine State.ev_kept hR ?_) | (refine hR.set ?_) | (refine Kept.ite ?_ ?_) | split)

theorem sendTable_kept (hR : Kept R) {a1 a2 a3 a4} (h : R s0 s) : R s0 (sendTable s a1 a2 a3 a4) := by
  unfold sendTable
  with_reducible repeat' (first | assumption | (refine State.modLink_kept hR ?_) | (refine State.each_kept hR ?_ fun s a h => ?_) | (refine countDn_kept hR ?_) | (intro x; try (refine Kept.cut (R := R) (s0 := s0) (x := x) ?_ ?_; unfold x; rotate_left; clear_value x; intro h)) | lift_lets | (refine Kept.ite ?_ ?_) | split | dsimp only)

theorem wsLoad_kept (hR : Kept R) {a0 a1} (h : R s0 s) : R s0 (wsLoad a0 a1 s) := by
  unfold wsLoad
  with_reducible repeat' (first | assumption | (refine hR.set ?_) | (refine wsLoadEnd_kept hR ?_) | (refine State.reads_kept hR ?_) | (refine State.modWc_kept hR ?_) | (refine State.iff_kept hR ?_ fun s h => ?_) | (refine sendTable_kept hR ?_) | (intro x; try (refine Kept.cut (R := R) (s0 := s0) (x := x) ?_ ?_; unfold x; rotate_left; clear_value x; intro h)) | lift_lets | (refine Kept.ite ?_ ?_) | split | dsimp only)

theorem wsLoadDone_kept (hR : Kept R) {a0 a1} (h : R s0 s) : R s0 (wsLoadDone a0 a1 s) := by
  unfold wsLoadDone
  with_reducible repeat' (first | assumption | (refine State.modWc_kept hR ?_) | (refine wsLoadEnd_kept hR ?_) | (intro x; try (refine Kept.cut (R := R) (s0 := s0) (x := x) ?_ ?_; unfold x; rotate_left; clear_value x; intro h)) | lift_lets | (refine Kept.ite ?_ ?_) | split | dsimp only)

theorem gateClr_kept (hR : Kept R) {a0} (h : R s0 s) : R s0 (gateClr a0 s) := by
  unfold gateClr
  with_reducible repeat' (first | assumption | (refine hR.set ?_) | (refine ledgerEmpty_kept hR ?_))

theorem haltWrite_kept (hR : KeptMem R) {a0 a1} (h : R s0 s) : R s0 (haltWrite a0 a1 s) := by
  unfold haltWrite
  with_reducible repeat' (first | assumption | (refine State.iff_kept hR.toKept ?_ fun s h => ?_) | (refine hR.toKept.set ?_) | (refine cutGroup_kept hR ?_) | (intro x; try (refine Kept.cut (R := R) (s0 := s0) (x := x) ?_ ?_; unfold x; rotate_left; clear_value x; intro h)) | lift_lets | (refine Kept.ite ?_ ?_) | split | dsimp only)

theorem wcDisable_kept (hR : KeptMem R) {a0} (h : R s0 s) : R s0 (wcDisable a0 s) := by
  unfold wcDisable
  with_reducible repeat' (first | assumption | (refine ledgerEmpty_kept hR.toKept ?_) | (refine stopGroup_kept hR ?_) | (refine hR.toKept.set ?_))

theorem writeHoldRise_kept (hR : Kept R) {a0} (h : R s0 s) : R s0 (writeHoldRise a0 s) := by
  unfold writeHoldRise
  with_reducible repeat' (first | assumption | (refine State.ev_kept hR ?_) | (refine hR.set ?_))

theorem refreshWriteOk_kept (hR : Kept R) {a1} (h : R s0 s) : R s0 (refreshWriteOk s a1) := by
  unfold refreshWriteOk
  with_reducible repeat' (first | assumption | (refine State.iff_kept hR ?_ fun s h => ?_) | (refine hR.set ?_) | (refine abortBurns_kept hR ?_) | (intro x; try (refine Kept.cut (R := R) (s0 := s0) (x := x) ?_ ?_; unfold x; rotate_left; clear_value x; intro h)) | lift_lets | (refine Kept.ite ?_ ?_) | split | dsimp only)

theorem setRulState_kept (hR : Kept R) {a1 a2} (h : R s0 s) : R s0 (setRulState s a1 a2) := by
  unfold setRulState
  with_reducible repeat' (first | assumption | (refine refreshFrozenPen_kept hR ?_) | (refine refreshWriteOk_kept hR ?_) | (refine hR.set ?_))

theorem setCount_kept (hR : Kept R) {a1 a2} (h : R s0 s) : R s0 (setCount s a1 a2) := by
  unfold setCount
  with_reducible repeat' (first | assumption | (refine State.modRul_kept hR ?_) | (refine hR.set ?_) | (intro x; try (refine Kept.cut (R := R) (s0 := s0) (x := x) ?_ ?_; unfold x; rotate_left; clear_value x; intro h)) | lift_lets | dsimp only)

theorem setNco_kept (hR : Kept R) {a1 a2} (h : R s0 s) : R s0 (setNco s a1 a2) := by
  unfold setNco
  with_reducible repeat' (first | assumption | (refine hR.set ?_) | (refine State.modRul_kept hR ?_))

theorem seedNco_kept (hR : Kept R) {a1} (h : R s0 s) : R s0 (seedNco s a1) := by
  unfold seedNco
  with_reducible repeat' (first | assumption | (refine setNco_kept hR ?_))

theorem enterFreq_kept (hR : Kept R) {a1} (h : R s0 s) : R s0 (enterFreq s a1) := by
  unfold enterFreq
  with_reducible repeat' (first | assumption | (refine setRulState_kept hR ?_) | (refine seedNco_kept hR ?_))

theorem unlock_kept (hR : KeptMem R) {a1 a2} (h : R s0 s) : R s0 (unlock s a1 a2) := by
  unfold unlock
  with_reducible repeat' (first | assumption | (refine hR.toKept.set ?_) | (refine State.modRul_kept hR.toKept ?_) | (refine setRulState_kept hR.toKept ?_) | (refine incompletePen_kept hR ?_) | (refine State.iff_kept hR.toKept ?_ fun s h => ?_) | (refine cutPending_kept hR ?_) | (refine State.each_kept hR.toKept ?_ fun s a h => ?_) | (refine State.modNib_kept hR.toKept ?_) | (intro x; try (refine Kept.cut (R := R) (s0 := s0) (x := x) ?_ ?_; unfold x; rotate_left; clear_value x; intro h)) | lift_lets | split | dsimp only)

theorem fallToFreq_kept (hR : KeptMem R) {a1} (h : R s0 s) : R s0 (fallToFreq s a1) := by
  unfold fallToFreq
  with_reducible repeat' (first | assumption | (refine unlock_kept hR ?_) | (refine seedNco_kept hR.toKept ?_))

theorem rulEnable_kept (hR : Kept R) {a0} (h : R s0 s) : R s0 (rulEnable a0 s) := by
  unfold rulEnable
  with_reducible repeat' (first | assumption | (refine hR.set ?_) | (refine enterFreq_kept hR ?_) | (refine State.ev_kept hR ?_) | (intro x; try (refine Kept.cut (R := R) (s0 := s0) (x := x) ?_ ?_; unfold x; rotate_left; clear_value x; intro h)) | lift_lets | (refine Kept.ite ?_ ?_) | split | dsimp only)

theorem rulDisable_kept (hR : KeptMem R) {a0} (h : R s0 s) : R s0 (rulDisable a0 s) := by
  unfold rulDisable
  with_reducible repeat' (first | assumption | (refine hR.toKept.set ?_) | (refine unlock_kept hR ?_) | (intro x; try (refine Kept.cut (R := R) (s0 := s0) (x := x) ?_ ?_; unfold x; rotate_left; clear_value x; intro h)) | lift_lets | (refine Kept.ite ?_ ?_) | split | dsimp only)

theorem rulJumpSet_kept (hR : Kept R) {a0} (h : R s0 s) : R s0 (rulJumpSet a0 s) := by
  unfold rulJumpSet
  with_reducible repeat' (first | assumption | (refine hR.set ?_) | (refine setRulState_kept hR ?_) | (refine State.modRul_kept hR ?_) | (intro x; try (refine Kept.cut (R := R) (s0 := s0) (x := x) ?_ ?_; unfold x; rotate_left; clear_value x; intro h)) | lift_lets | (refine Kept.ite ?_ ?_) | split | dsimp only)

theorem enterAddr_kept (hR : Kept R) {a1} (h : R s0 s) : R s0 (enterAddr s a1) := by
  unfold enterAddr
  with_reducible repeat' (first | assumption | (refine State.each_kept hR ?_ fun s a h => ?_) | (refine hR.set ?_) | (refine setRulState_kept hR ?_) | (refine State.modRul_kept hR ?_) | (intro x; try (refine Kept.cut (R := R) (s0 := s0) (x := x) ?_ ?_; unfold x; rotate_left; clear_value x; intro h)) | lift_lets | dsimp only)

theorem rulJumpClear_kept (hR : KeptMem R) {a0} (h : R s0 s) : R s0 (rulJumpClear a0 s) := by
  unfold rulJumpClear
  with_reducible repeat' (first | assumption | (refine hR.toKept.set ?_) | (refine fallToFreq_kept hR ?_) | (refine enterAddr_kept hR.toKept ?_) | (intro x; try (refine Kept.cut (R := R) (s0 := s0) (x := x) ?_ ?_; unfold x; rotate_left; clear_value x; intro h)) | lift_lets | (refine Kept.ite ?_ ?_) | split | dsimp only)

theorem rulBandWrite_kept (hR : KeptMem R) {a0 a1 a2} (h : R s0 s) : R s0 (rulBandWrite a0 a1 a2 s) := by
  unfold rulBandWrite
  with_reducible repeat' (first | assumption | (refine hR.toKept.set ?_) | (refine refreshPresets_kept hR.toKept ?_) | (refine refreshWriteOk_kept hR.toKept ?_) | (refine cutPending_kept hR ?_) | (refine State.iff_kept hR.toKept ?_ fun s h => ?_) | (refine State.each_kept hR.toKept ?_ fun s a h => ?_) | (refine selectPreset_kept hR.toKept ?_) | (refine setCount_kept hR.toKept ?_) | (refine enterFreq_kept hR.toKept ?_) | (refine State.ev_kept hR.toKept ?_) | (intro x; try (refine Kept.cut (R := R) (s0 := s0) (x := x) ?_ ?_; unfold x; rotate_left; clear_value x; intro h)) | lift_lets | (refine Kept.ite ?_ ?_) | split | dsimp only)

theorem freqAcquired_kept (hR : Kept R) {a0 a1 a2 a3} (h : R s0 s) : R s0 (freqAcquired a0 a1 a2 a3 s) := by
  unfold freqAcquired
  with_reducible repeat' (first | assumption | (refine setRulState_kept hR ?_) | (refine setNco_kept hR ?_) | (refine Kept.ite ?_ ?_) | split)

theorem phaseAcquired_kept (hR : Kept R) {a0 a1 a2 a3 a4} (h : R s0 s) : R s0 (phaseAcquired a0 a1 a2 a3 a4 s) := by
  unfold phaseAcquired
  with_reducible repeat' (first | assumption | (refine hR.set ?_) | (refine enterAddr_kept hR ?_) | (intro x; try (refine Kept.cut (R := R) (s0 := s0) (x := x) ?_ ?_; unfold x; rotate_left; clear_value x; intro h)) | lift_lets | (refine Kept.ite ?_ ?_) | split | dsimp only)

theorem acqTimeout_kept (hR : KeptMem R) {a0 a1} (h : R s0 s) : R s0 (acqTimeout a0 a1 s) := by
  unfold acqTimeout
  with_reducible repeat' (first | assumption | (refine State.ev_kept hR.toKept ?_) | (refine fallToFreq_kept hR ?_) | (intro x; try (refine Kept.cut (R := R) (s0 := s0) (x := x) ?_ ?_; unfold x; rotate_left; clear_value x; intro h)) | lift_lets | (refine Kept.ite ?_ ?_) | split | dsimp only)

theorem reportWord_kept (hR : Kept R) {a1 a2 a3} (h : R s0 s) : R s0 (reportWord s a1 a2 a3) := by
  unfold reportWord
  with_reducible repeat' (first | assumption | (refine hR.set ?_) | (refine State.iff_kept hR ?_ fun s h => ?_) | (refine State.ev_kept hR ?_) | (intro x; try (refine Kept.cut (R := R) (s0 := s0) (x := x) ?_ ?_; unfold x; rotate_left; clear_value x; intro h)) | lift_lets | (refine Kept.ite ?_ ?_) | split | dsimp only)

theorem reportWords_kept (hR : Kept R) {a1 a2 a3} (h : R s0 s) : R s0 (reportWords s a1 a2 a3) := by
  unfold reportWords
  with_reducible repeat' (first | assumption | (refine reportWord_kept hR ?_) | (intro x; try (refine Kept.cut (R := R) (s0 := s0) (x := x) ?_ ?_; unfold x; rotate_left; clear_value x; intro h)) | lift_lets | split | dsimp only)

theorem countOn_kept (hR : Kept R) {a1 a2} (h : R s0 s) : R s0 (countOn s a1 a2) := by
  unfold countOn
  with_reducible repeat' (first | assumption | (refine State.iff_kept hR ?_ fun s h => ?_) | (refine setCount_kept hR ?_) | (refine hR.set ?_) | (refine State.modEng_kept hR ?_) | (refine State.wrap_kept hR ?_) | (intro x; try (refine Kept.cut (R := R) (s0 := s0) (x := x) ?_ ?_; unfold x; rotate_left; clear_value x; intro h)) | lift_lets | split | dsimp only)

theorem confirmSlip_kept (hR : Kept R) {a1 a2 a3 a4} (h : R s0 s) : R s0 (confirmSlip s a1 a2 a3 a4) := by
  unfold confirmSlip
  with_reducible repeat' (first | assumption | (refine hR.set ?_) | (refine setCount_kept hR ?_) | (refine State.modRul_kept hR ?_) | (refine State.bump_kept hR ?_) | (refine State.ev_kept hR ?_) | (refine State.modEng_kept hR ?_) | (refine abortBurns_kept hR ?_) | (intro x; try (refine Kept.cut (R := R) (s0 := s0) (x := x) ?_ ?_; unfold x; rotate_left; clear_value x; intro h)) | lift_lets | (refine Kept.ite ?_ ?_) | split | dsimp only)

theorem nextBin_kept (hR : Kept R) {a1} (h : R s0 s) : R s0 (nextBin s a1) := by
  unfold nextBin
  with_reducible repeat' (first | assumption | (refine countOn_kept hR ?_) | (refine State.modRul_kept hR ?_) | (intro x; try (refine Kept.cut (R := R) (s0 := s0) (x := x) ?_ ?_; unfold x; rotate_left; clear_value x; intro h)) | lift_lets | dsimp only)

theorem judgeWords_kept (hR : Kept R) {a1 a2 a3} (h : R s0 s) : R s0 (judgeWords s a1 a2 a3) := by
  unfold judgeWords
  with_reducible repeat' (first | assumption | (refine reportWords_kept hR ?_) | (refine State.modRul_kept hR ?_) | (refine State.ev_kept hR ?_) | (refine State.bump_kept hR ?_) | (refine State.iff_kept hR ?_ fun s h => ?_) | (refine hR.set ?_) | (refine confirmSlip_kept hR ?_) | (refine refreshWriteOk_kept hR ?_) | (intro x; try (refine Kept.cut (R := R) (s0 := s0) (x := x) ?_ ?_; unfold x; rotate_left; clear_value x; intro h)) | lift_lets | (refine Kept.ite ?_ ?_) | split | dsimp only)

theorem judgeAddr_kept (hR : Kept R) {a1 a2 a3} (h : R s0 s) : R s0 (judgeAddr s a1 a2 a3) := by
  unfold judgeAddr
  with_reducible repeat' (first | assumption | (refine reportWords_kept hR ?_) | (refine setCount_kept hR ?_) | (refine State.modRul_kept hR ?_) | (refine hR.set ?_) | (refine setRulState_kept hR ?_) | (refine refreshWriteOk_kept hR ?_) | (intro x; try (refine Kept.cut (R := R) (s0 := s0) (x := x) ?_ ?_; unfold x; rotate_left; clear_value x; intro h)) | lift_lets | (refine Kept.ite ?_ ?_) | split | dsimp only)

theorem reportRms_kept (hR : Kept R) {a1 a2 a3} (h : R s0 s) : R s0 (reportRms s a1 a2 a3) := by
  unfold reportRms
  with_reducible repeat' (first | assumption | (refine State.iff_kept hR ?_ fun s h => ?_) | (refine hR.set ?_) | split)

theorem addrWord_kept (hR : Kept R) {a0 a1 a2 a3 a4} (h : R s0 s) : R s0 (addrWord a0 a1 a2 a3 a4 s) := by
  unfold addrWord
  with_reducible repeat' (first | assumption | (refine reportRms_kept hR ?_) | (refine judgeAddr_kept hR ?_) | (refine nextBin_kept hR ?_) | (refine judgeWords_kept hR ?_) | (intro x; try (refine Kept.cut (R := R) (s0 := s0) (x := x) ?_ ?_; unfold x; rotate_left; clear_value x; intro h)) | lift_lets | (refine Kept.ite ?_ ?_) | split | dsimp only)

theorem enterHoldover_kept (hR : Kept R) {a1} (h : R s0 s) : R s0 (enterHoldover s a1) := by
  unfold enterHoldover
  with_reducible repeat' (first | assumption | (refine setRulState_kept hR ?_) | (refine State.ev_kept hR ?_) | (refine abortBurns_kept hR ?_) | (refine Kept.ite ?_ ?_) | split)

theorem nibLeaves_kept (hR : Kept R) {a0 a1} (h : R s0 s) : R s0 (nibLeaves a0 a1 s) := by
  unfold nibLeaves
  with_reducible repeat' (first | assumption | (refine State.modRul_kept hR ?_) | (refine State.ev_kept hR ?_) | (refine hR.set ?_) | (refine setRulState_kept hR ?_) | (refine enterHoldover_kept hR ?_) | (intro x; try (refine Kept.cut (R := R) (s0 := s0) (x := x) ?_ ?_; unfold x; rotate_left; clear_value x; intro h)) | lift_lets | (refine Kept.ite ?_ ?_) | split | dsimp only)

theorem rulBlotted_kept (hR : Kept R) {a0 a1} (h : R s0 s) : R s0 (rulBlotted a0 a1 s) := by
  unfold rulBlotted
  with_reducible repeat' (first | assumption | (refine nibLeaves_kept hR ?_) | (refine tellEngineBlot_kept hR ?_) | (refine State.modNib_kept hR ?_))

theorem useLost_kept (hR : Kept R) {a1} (h : R s0 s) : R s0 (useLost s a1) := by
  unfold useLost
  with_reducible repeat' (first | assumption | (refine State.iff_kept hR ?_ fun s h => ?_) | (refine nibLeaves_kept hR ?_) | (intro x; try (refine Kept.cut (R := R) (s0 := s0) (x := x) ?_ ?_; unfold x; rotate_left; clear_value x; intro h)) | lift_lets | split | dsimp only)

theorem rulingNibLost_kept (hR : Kept R) {a0 a1 a2} (h : R s0 s) : R s0 (rulingNibLost a0 a1 a2 s) := by
  unfold rulingNibLost
  with_reducible repeat' (first | assumption | (refine rulBlotted_kept hR ?_) | (refine nibLeaves_kept hR ?_) | (refine Kept.ite ?_ ?_) | split)

theorem rulingNibGood_kept (hR : Kept R) {a0 a1 a2 a3 a4 a5} (h : R s0 s) : R s0 (rulingNibGood a0 a1 a2 a3 a4 a5 s) := by
  unfold rulingNibGood
  with_reducible repeat' (first | assumption | (refine hR.set ?_) | (refine State.iff_kept hR ?_ fun s h => ?_) | (refine State.modRul_kept hR ?_) | (refine setRulState_kept hR ?_) | (intro x; try (refine Kept.cut (R := R) (s0 := s0) (x := x) ?_ ?_; unfold x; rotate_left; clear_value x; intro h)) | lift_lets | (refine Kept.ite ?_ ?_) | split | dsimp only)

theorem holdLimit_kept (hR : KeptMem R) {a0 a1} (h : R s0 s) : R s0 (holdLimit a0 a1 s) := by
  unfold holdLimit
  with_reducible repeat' (first | assumption | (refine State.ev_kept hR.toKept ?_) | (refine fallToFreq_kept hR ?_) | (refine State.modRul_kept hR.toKept ?_) | (refine hR.toKept.set ?_) | (refine incompletePen_kept hR ?_) | (intro x; try (refine Kept.cut (R := R) (s0 := s0) (x := x) ?_ ?_; unfold x; rotate_left; clear_value x; intro h)) | lift_lets | (refine Kept.ite ?_ ?_) | split | dsimp only)

theorem freqWordSend_kept (hR : Kept R) {a0 a1} (h : R s0 s) : R s0 (freqWordSend a0 a1 s) := by
  unfold freqWordSend
  with_reducible repeat' (first | assumption | (refine State.iff_kept hR ?_ fun s h => ?_) | (refine setNco_kept hR ?_) | (refine State.modLink_kept hR ?_) | (refine countDn_kept hR ?_) | (intro x; try (refine Kept.cut (R := R) (s0 := s0) (x := x) ?_ ?_; unfold x; rotate_left; clear_value x; intro h)) | lift_lets | (refine Kept.ite ?_ ?_) | split | dsimp only)

theorem leCfgErr_kept (hR : Kept R) {a1} (h : R s0 s) : R s0 (leCfgErr s a1) := by
  unfold leCfgErr
  with_reducible repeat' (first | assumption | (refine State.ev_kept hR ?_))

theorem refreshFast_kept (hR : Kept R) {a1} (h : R s0 s) : R s0 (refreshFast s a1) := by
  unfold refreshFast
  with_reducible repeat' (first | assumption | (refine hR.set ?_))

theorem zeroWindow_kept (hR : Kept R) {a1 a2} (h : R s0 s) : R s0 (zeroWindow s a1 a2) := by
  unfold zeroWindow
  with_reducible repeat' (first | assumption | (refine State.each_kept hR ?_ fun s a h => ?_) | (refine hR.set ?_))

theorem dropRequest_kept (hR : Kept R) {a1 a2} (h : R s0 s) : R s0 (dropRequest s a1 a2) := by
  unfold dropRequest
  with_reducible repeat' (first | assumption | (refine State.modEng_kept hR ?_) | (refine hR.set ?_))

theorem sendOut_kept (hR : Kept R) {a1 a2 a3} (h : R s0 s) : R s0 (sendOut s a1 a2 a3) := by
  unfold sendOut
  with_reducible repeat' (first | assumption | (refine hR.set ?_) | (refine State.modEng_kept hR ?_) | (refine Kept.ite ?_ ?_) | split)

theorem boundary_kept (hR : Kept R) {a1 a2} (h : R s0 s) : R s0 (boundary s a1 a2).1 := by
  unfold boundary
  dsimp only
  with_reducible repeat' (first | assumption | (refine hR.set ?_) | (refine dropRequest_kept hR ?_) | (refine leCfgErr_kept hR ?_) | (refine State.ev_kept hR ?_) | (refine State.modEng_kept hR ?_) | (refine zeroWindow_kept hR ?_) | (refine State.iff_kept hR ?_ fun s h => ?_) | (refine sendOut_kept hR ?_) | (refine refreshFast_kept hR ?_) | (refine Kept.ite ?_ ?_) | split | dsimp only)
theorem boundary_kept' (hR : Kept R) {a1 a2 v t} (e : boundary s a1 a2 = (t, v)) (h : R s0 s) : R s0 t := by
  have q : R s0 (boundary s a1 a2).1 := boundary_kept hR h
  rw [e] at q
  exact q

theorem modFade_kept (hR : Kept R) {a1 a2 a3} (h : R s0 s) : R s0 (modFade s a1 a2 a3) := by
  unfold modFade
  with_reducible repeat' (first | assumption | (refine State.modEng_kept hR ?_))

theorem rcPlayed_kept (hR : Kept R) {a1 a2 a3} (h : R s0 s) : R s0 (rcPlayed s a1 a2 a3).2 := by
  unfold rcPlayed
  with_reducible repeat' (first | assumption | (refine State.coin_kept' hR (by assumption) ?_) | (intro x; try (refine Kept.cut (R := R) (s0 := s0) (x := x) ?_ ?_; unfold x; rotate_left; clear_value x; intro h)) | lift_lets | (refine Kept.ite ?_ ?_) | split | dsimp only | (refine Kept.ite2 (by assumption) ?_ ?_) | (refine State.coin_kept hR ?_))
theorem rcPlayed_kept' (hR : Kept R) {a1 a2 a3 v t} (e : rcPlayed s a1 a2 a3 = (v, t)) (h : R s0 s) : R s0 t := by
  have q : R s0 (rcPlayed s a1 a2 a3).2 := rcPlayed_kept hR h
  rw [e] at q
  exact q

theorem rcTerm_kept (hR : Kept R) {a1 a2 a3} (h : R s0 s) : R s0 (rcTerm s a1 a2 a3).2 := by
  unfold rcTerm
  with_reducible repeat' (first | assumption | (refine rcPlayed_kept' hR (by assumption) ?_) | (refine State.divFree_kept' hR (by assumption) ?_) | (refine modFade_kept hR ?_) | (intro x; try (refine Kept.cut (R := R) (s0 := s0) (x := x) ?_ ?_; unfold x; rotate_left; clear_value x; intro h)) | lift_lets | (refine Kept.ite ?_ ?_) | split | dsimp only | (refine Kept.ite2 (by assumption) ?_ ?_) | (refine rcPlayed_kept hR ?_) | (refine State.divFree_kept hR ?_))
theorem rcTerm_kept' (hR : Kept R) {a1 a2 a3 v t} (e : rcTerm s a1 a2 a3 = (v, t)) (h : R s0 s) : R s0 t := by
  have q : R s0 (rcTerm s a1 a2 a3).2 := rcTerm_kept hR h
  rw [e] at q
  exact q

theorem settleUpdates_kept (hR : Kept R) {a1 a2} (h : R s0 s) : R s0 (settleUpdates s a1 a2) := by
  unfold settleUpdates
  with_reducible repeat' (first | assumption | (refine State.each_kept hR ?_ fun s a h => ?_) | (refine State.modEng_kept hR ?_) | (refine State.bump_kept hR ?_) | (refine hR.set ?_) | (refine State.coin_kept' hR (by assumption) ?_) | (refine State.iff_kept hR ?_ fun s h => ?_) | (refine modFade_kept hR ?_) | (intro x; try (refine Kept.cut (R := R) (s0 := s0) (x := x) ?_ ?_; unfold x; rotate_left; clear_value x; intro h)) | lift_lets | (refine Kept.ite ?_ ?_) | split | dsimp only | (refine Kept.ite2 (by assumption) ?_ ?_) | (refine State.coin_kept hR ?_))

theorem putState_kept (hR : Kept R) {a1 a2 a3 a4 a5} (h : R s0 s) : R s0 (putState s a1 a2 a3 a4 a5) := by
  unfold putState
  with_reducible repeat' (first | assumption | (refine hR.set ?_))

theorem presetLimits_kept (hR : Kept R) {e j l u} (h : R s0 s) : R s0 (presetLimits s e j l u).1 := by
  unfold presetLimits
  generalize false = out
  induction l generalizing s out with
  | nil => exact h
  | cons b l ih =>
    rw [List.foldl_cons]
    dsimp only
    split
    · exact ih (putState_kept hR h) _
    · exact ih h _
theorem presetLimits_kept' (hR : Kept R) {e j l u t v} (q : presetLimits s e j l u = (t, v)) (h : R s0 s) : R s0 t := by
  have x : R s0 (presetLimits s e j l u).1 := presetLimits_kept hR h
  rw [q] at x
  exact x

theorem presetClamp_kept (hR : Kept R) {a1 a2} (h : R s0 s) : R s0 (presetClamp s a1 a2) := by
  unfold presetClamp
  with_reducible repeat' (first | assumption | (refine State.ev_kept hR ?_))

theorem compareEcho_kept (hR : Kept R) {a1 a2 a3 a4 a5 a6} (h : R s0 s) : R s0 (compareEcho s a1 a2 a3 a4 a5 a6) := by
  unfold compareEcho
  with_reducible repeat' (first | assumption | (refine State.iff_kept hR ?_ fun s h => ?_) | (refine State.modEng_kept hR ?_) | (refine State.bump_kept hR ?_) | (refine State.ev_kept hR ?_) | (refine presetLimits_kept' hR (by assumption) ?_) | (refine putState_kept hR ?_) | (refine presetClamp_kept hR ?_) | (intro x; try (refine Kept.cut (R := R) (s0 := s0) (x := x) ?_ ?_; unfold x; rotate_left; clear_value x; intro h)) | lift_lets | (refine Kept.ite ?_ ?_) | split | dsimp only | (refine presetLimits_kept hR ?_))

theorem learnBin_kept (hR : Kept R) {a1 a2 a3 a4 a5 a6 a7} (h : R s0 s) : R s0 (learnBin s a1 a2 a3 a4 a5 a6 a7) := by
  unfold learnBin
  with_reducible repeat' (first | assumption | (refine hR.set ?_) | (refine rcPlayed_kept' hR (by assumption) ?_) | (refine State.modEng_kept hR ?_) | (intro x; try (refine Kept.cut (R := R) (s0 := s0) (x := x) ?_ ?_; unfold x; rotate_left; clear_value x; intro h)) | lift_lets | (refine Kept.ite ?_ ?_) | split | dsimp only | (refine Kept.ite2 (by assumption) ?_ ?_) | (refine rcPlayed_kept hR ?_))

theorem playTerms_kept (hR : Kept R) {e mode b l} (h : R s0 s) : R s0 (playTerms s e mode b l).1 := by
  suffices q : ∀ (ts : List Nat) (acc : List (Nat × Int)) (s : State), R s0 s → R s0
      (ts.foldl (fun (s, a) t => let (v, s) := rcTerm s e t b; (s, a ++ [(t, if mode = mManual then 0 else v)])) (s, acc)).1 from
    q (rcTables l) [] s h
  intro ts
  induction ts with
  | nil => exact fun acc s h => h
  | cons t ts ih => exact fun acc s h => ih _ _ (rcTerm_kept hR h)

theorem presetOutside_kept (hR : Kept R) {a1 a2 a3 a4} (h : R s0 s) : R s0 (presetOutside s a1 a2 a3 a4).1 := by
  unfold presetOutside
  with_reducible repeat' (first | assumption | (refine presetLimits_kept' hR (by assumption) ?_) | split | (refine presetLimits_kept hR ?_))
theorem presetOutside_kept' (hR : Kept R) {a1 a2 a3 a4 v t} (e : presetOutside s a1 a2 a3 a4 = (t, v)) (h : R s0 s) : R s0 t := by
  have q : R s0 (presetOutside s a1 a2 a3 a4).1 := presetOutside_kept hR h
  rw [e] at q
  exact q

theorem reportRun_kept (hR : Kept R) {a1 a2 a3 a4 a5 a6} (h : R s0 s) : R s0 (reportRun s a1 a2 a3 a4 a5 a6) := by
  unfold reportRun
  with_reducible repeat' (first | assumption | (refine State.iff_kept hR ?_ fun s h => ?_) | (refine presetClamp_kept hR ?_) | (refine State.bump_kept hR ?_) | (refine State.ev_kept hR ?_) | (refine hR.set ?_) | (intro x; try (refine Kept.cut (R := R) (s0 := s0) (x := x) ?_ ?_; unfold x; rotate_left; clear_value x; intro h)) | lift_lets | split | dsimp only)

theorem shadowOut_kept (hR : Kept R) {a1 a2 a3 a4 a5 a6 a7} (h : R s0 s) : R s0 (shadowOut s a1 a2 a3 a4 a5 a6 a7) := by
  unfold shadowOut
  with_reducible repeat' (first | assumption | (refine compareEcho_kept hR ?_) | (refine State.modEng_kept hR ?_) | (refine Kept.ite ?_ ?_) | split)

theorem runBiquad_kept (hR : Kept R) {r : Run} {e j b x} (h : R s0 r.s) : R s0 (runBiquad r e j b x).1.s := by
  exact putState_kept hR (putState_kept hR (putState_kept hR (putState_kept hR h)))

theorem runPid_kept (hR : Kept R) {r : Run} {e j b idx x frozen last preset} (h : R s0 r.s) :
    R s0 (runPid r e j b idx x frozen last preset).1.s := by
  exact putState_kept hR (putState_kept hR (putState_kept hR h))

theorem runBlock_kept (hR : Kept R) {e j inp frozen last terms base preset idx b} {r : Run} (h : R s0 r.s) :
    R s0 (runBlock e j inp frozen last terms base preset r idx b).s := by
  unfold runBlock
  lift_lets
  intro x a k0 isTrk
  dsimp only
  split
  · exact h
  · exact runBiquad_kept hR h
  · exact runPid_kept hR h
  · exact h
  · exact putState_kept hR h
  · exact hR.set h
  · exact h
  · exact h

theorem runBlocks_kept (hR : Kept R) {e j inp frozen last terms base preset idx l} {r : Run} (h : R s0 r.s) :
    R s0 (runBlocks e j inp frozen last terms base preset r idx l).s := by
  induction l generalizing r idx with
  | nil => exact h
  | cons b l ih => exact ih (runBlock_kept hR h)

theorem runProgram_kept (hR : Kept R) {e j inp l mode terms preset} (h : R s0 s) :
    R s0 (runProgram s e j inp l mode terms preset).s := by
  have h1 : R s0 (presetOutside s e j l preset).1 := presetOutside_kept hR h
  unfold runProgram
  dsimp only
  refine State.modEng_kept hR ?_
  split
  · exact runBlocks_kept hR h1
  · exact runBlocks_kept hR h1

theorem runMode_kept (hR : Kept R) {e j inp mode target l terms} (h : R s0 s) : R s0 (runMode s e j inp mode target l terms) := by
  have h1 := State.iff_kept hR (c := mode == mShadow) (State.modEng_kept hR (a1 := e) (a2 := fun g => { g with late := g.late.erase j }) h)
    (k := fun t => t.each ((s.engine e).late.getD j []) fun t w => compareEcho t e j l w.1 w.2.1 w.2.2)
    fun t ht => State.each_kept hR ht fun t w ht => compareEcho_kept hR ht
  refine State.each_kept hR ?_ fun t p ht => learnBin_kept hR ht
  split
  · exact shadowOut_kept hR (reportRun_kept hR (runProgram_kept hR h1))
  · exact sendOut_kept hR (reportRun_kept hR (runProgram_kept hR h1))

theorem runLoop_kept (hR : Kept R) {e j inp} (h : R s0 s) : R s0 (runLoop s e j inp) := by
  have h1 := boundary_kept hR (a1 := e) (a2 := j) (settleUpdates_kept hR (a1 := e) (a2 := j) h)
  unfold runLoop
  dsimp only
  split
  · exact h1
  · exact runMode_kept hR (playTerms_kept hR h1)

theorem echoArrives_kept (hR : Kept R) {a1 a2 a3 a4} (h : R s0 s) : R s0 (echoArrives s a1 a2 a3 a4) := by
  unfold echoArrives
  with_reducible repeat' (first | assumption | (refine State.modEng_kept hR ?_) | (refine Kept.fold ?_ fun p a h => ?_) | (refine Kept.fold1 ?_ fun p a h => ?_) | (intro x; try (refine Kept.cut (R := R) (s0 := s0) (x := x) ?_ ?_; unfold x; rotate_left; clear_value x; intro h)) | lift_lets | dsimp only)

theorem expireEchoes_kept (hR : Kept R) {a1} (h : R s0 s) : R s0 (expireEchoes s a1) := by
  unfold expireEchoes
  with_reducible repeat' (first | assumption | (refine State.modEng_kept hR ?_) | (refine State.iff_kept hR ?_ fun s h => ?_) | (refine State.ev_kept hR ?_) | (refine State.bump_kept hR ?_) | (intro x; try (refine Kept.cut (R := R) (s0 := s0) (x := x) ?_ ?_; unfold x; rotate_left; clear_value x; intro h)) | lift_lets | split | dsimp only)

theorem runDue_kept (hR : Kept R) {e inp limit used l} (h : R s0 s) : R s0 (runDue e inp limit s used l).1 := by
  induction l generalizing s used with
  | nil => exact h
  | cons j l ih =>
    unfold runDue
    dsimp only
    split
    · exact h
    · exact ih (runLoop_kept hR h)
theorem runDue_kept' (hR : Kept R) {e inp limit used l t v w} (q : runDue e inp limit s used l = (t, v, w)) (h : R s0 s) : R s0 t := by
  have x : R s0 (runDue e inp limit s used l).1 := runDue_kept hR h
  rw [q] at x
  exact x

theorem engineFast_kept (hR : Kept R) {a1 a2 a3} (h : R s0 s) : R s0 (engineFast s a1 a2 a3).1 := by
  unfold engineFast
  with_reducible repeat' (first | assumption | (refine State.iff_kept hR ?_ fun s h => ?_) | (refine State.modEng_kept hR ?_) | (refine State.each_kept hR ?_ fun s a h => ?_) | (refine boundary_kept' hR (by assumption) ?_) | (refine runDue_kept' hR (by assumption) ?_) | (intro x; try (refine Kept.cut (R := R) (s0 := s0) (x := x) ?_ ?_; unfold x; rotate_left; clear_value x; intro h)) | lift_lets | (refine Kept.ite ?_ ?_) | split | dsimp only | (refine Kept.ite2 (by assumption) ?_ ?_) | (refine boundary_kept hR ?_) | (refine runDue_kept hR ?_))
theorem engineFast_kept' (hR : Kept R) {a1 a2 a3 v t} (e : engineFast s a1 a2 a3 = (t, v)) (h : R s0 s) : R s0 t := by
  have q : R s0 (engineFast s a1 a2 a3).1 := engineFast_kept hR h
  rw [e] at q
  exact q

theorem engineRest_kept (hR : Kept R) {e limit inp} {a : State × Nat × List Nat × Bool} (h : R s0 a.1) : R s0 (engineRest e limit inp a) := by
  obtain ⟨s, used, rest, skipped⟩ := a
  have fin : ∀ (t : State) (u : Nat) (k : Bool), R s0 t → R s0
      (let s := t.iff k fun s => (s.ev (LE_EVENT_OVERRUN e)).bump (LE_CNT_OVERRUNS e) 1
      let s := s.set (LE_STATUS_LAST_CYCLES e) u
      let s := s.set (LE_PEAK_PEAK_CYCLES e) (max u (s.get (LE_PEAK_PEAK_CYCLES e)))
      let s := s.iff ((s.engine e).slipNew) fun s =>
        ((s.set (LE_RC_STAT_SLIP_BLOCK e 0) 1).set (LE_RC_STAT_SLIP_BLOCK e 1) 1).modEng e fun g => { g with slipNew := false }
      let s := expireEchoes s e
      (s.wrap (LE_TICK_TICK e) 1).modEng e fun g => { g with blotSeen := decide (e < 16) && blotNow s e }) := by
    intro t u k ht
    refine State.modEng_kept hR (State.wrap_kept hR (expireEchoes_kept hR (State.iff_kept hR (hR.set (hR.set ?_)) fun s h => ?_)))
    · exact State.iff_kept hR ht fun s h => State.bump_kept hR (State.ev_kept hR h)
    · exact State.modEng_kept hR (hR.set (hR.set h))
  unfold engineRest
  dsimp only
  split
  · exact h
  · cases skipped with
    | true => exact fin _ _ _ h
    | false => exact fin _ _ _ (runDue_kept hR h)

theorem engineTick_kept (hR : Kept R) {a1 a2 a3} (h : R s0 s) : R s0 (engineTick s a1 a2 a3) := by
  unfold engineTick
  with_reducible repeat' (first | assumption | (refine engineRest_kept hR ?_) | (refine engineFast_kept' hR (by assumption) ?_) | (refine engineFast_kept hR ?_))

theorem requestMode_kept (hR : Kept R) {a1 a2 a3} (h : R s0 s) : R s0 (requestMode s a1 a2 a3) := by
  unfold requestMode
  with_reducible repeat' (first | assumption | (refine State.modEng_kept hR ?_) | (refine Kept.ite ?_ ?_) | split)

theorem loopOff_kept (hR : Kept R) {a1 a2} (h : R s0 s) : R s0 (loopOff s a1 a2) := by
  unfold loopOff
  with_reducible repeat' (first | assumption | (refine dropRequest_kept hR ?_) | (refine hR.set ?_))

theorem allOff_kept (hR : Kept R) {a1} (h : R s0 s) : R s0 (allOff s a1) := by
  unfold allOff
  with_reducible repeat' (first | assumption | (refine refreshFast_kept hR ?_) | (refine State.each_kept hR ?_ fun s a h => ?_) | (refine loopOff_kept hR ?_))

theorem leEnable_kept (hR : Kept R) {a1 a2} (h : R s0 s) : R s0 (leEnable s a1 a2) := by
  unfold leEnable
  with_reducible repeat' (first | assumption | (refine State.iff_kept hR ?_ fun s h => ?_) | (refine hR.set ?_) | (refine allOff_kept hR ?_) | (refine Kept.ite ?_ ?_) | split)

theorem modeWrite_kept (hR : Kept R) {a1 a2 a3} (h : R s0 s) : R s0 (modeWrite s a1 a2 a3) := by
  unfold modeWrite
  with_reducible repeat' (first | assumption | (refine leCfgErr_kept hR ?_) | (refine dropRequest_kept hR ?_) | (refine State.modEng_kept hR ?_) | (refine hR.set ?_) | (intro x; try (refine Kept.cut (R := R) (s0 := s0) (x := x) ?_ ?_; unfold x; rotate_left; clear_value x; intro h)) | lift_lets | (refine Kept.ite ?_ ?_) | split | dsimp only)

theorem loopCtrlWrite_kept (hR : Kept R) {a0 a1 a2 a3} (h : R s0 s) : R s0 (loopCtrlWrite a0 a1 a2 a3 s) := by
  unfold loopCtrlWrite
  with_reducible repeat' (first | assumption | (refine hR.set ?_) | (refine State.iff_kept hR ?_ fun s h => ?_) | (refine leCfgErr_kept hR ?_) | (refine State.ev_kept hR ?_) | (refine refreshFast_kept hR ?_) | (intro x; try (refine Kept.cut (R := R) (s0 := s0) (x := x) ?_ ?_; unfold x; rotate_left; clear_value x; intro h)) | lift_lets | (refine Kept.ite ?_ ?_) | split | dsimp only)

theorem bankWrite_kept (hR : Kept R) {a0 a1 a2} (h : R s0 s) : R s0 (bankWrite a0 a1 a2 s) := by
  unfold bankWrite
  with_reducible repeat' (first | assumption | (refine hR.set ?_) | (refine Kept.ite ?_ ?_) | split)

theorem leMemoryWrite_kept (hR : Kept R) {a0 a1 a2 a3 a4 a5} (h : R s0 s) : R s0 (leMemoryWrite a0 a1 a2 a3 a4 a5 s) := by
  unfold leMemoryWrite
  with_reducible repeat' (first | assumption | (refine leCfgErr_kept hR ?_) | (refine refreshFast_kept hR ?_) | (refine hR.set ?_) | (intro x; try (refine Kept.cut (R := R) (s0 := s0) (x := x) ?_ ?_; unfold x; rotate_left; clear_value x; intro h)) | lift_lets | (refine Kept.ite ?_ ?_) | split | dsimp only)

theorem rcTableWrite_kept (hR : Kept R) {a0 a1 a2 a3} (h : R s0 s) : R s0 (rcTableWrite a0 a1 a2 a3 s) := by
  unfold rcTableWrite
  with_reducible repeat' (first | assumption | (refine leCfgErr_kept hR ?_) | (refine hR.set ?_) | (refine Kept.ite ?_ ?_) | split)

theorem rcClear_kept (hR : Kept R) {a0 a1} (h : R s0 s) : R s0 (rcClear a0 a1 s) := by
  unfold rcClear
  with_reducible repeat' (first | assumption | (refine modFade_kept hR ?_) | (refine hR.set ?_) | (refine Kept.ite ?_ ?_) | split)

theorem clearFields_kept (hR : Kept R) {a b} (h : R s0 s) : R s0 (clearFields s a b) := hR.drop h

theorem rcClearDone_kept (hR : Kept R) {a0 a1} (h : R s0 s) : R s0 (rcClearDone a0 a1 s) := by
  unfold rcClearDone
  with_reducible repeat' (first | assumption | (refine clearFields_kept hR ?_) | (refine State.each_kept hR ?_ fun s a h => ?_) | (refine hR.set ?_) | (refine modFade_kept hR ?_) | (refine State.ev_kept hR ?_) | (intro x; try (refine Kept.cut (R := R) (s0 := s0) (x := x) ?_ ?_; unfold x; rotate_left; clear_value x; intro h)) | lift_lets | (refine Kept.ite ?_ ?_) | split | dsimp only)

theorem leReset_kept (hR : Kept R) {a0} (h : R s0 s) : R s0 (leReset a0 s) := by
  unfold leReset
  with_reducible repeat' (first | assumption | (refine allOff_kept hR ?_) | (refine hR.set ?_) | (refine clearFields_kept hR ?_) | (refine State.modEng_kept hR ?_) | (intro x; try (refine Kept.cut (R := R) (s0 := s0) (x := x) ?_ ?_; unfold x; rotate_left; clear_value x; intro h)) | lift_lets | dsimp only)

theorem engineFault_kept (hR : Kept R) {a1 a2 a3 a4 a5} (h : R s0 s) : R s0 (engineFault s a1 a2 a3 a4 a5) := by
  unfold engineFault
  with_reducible repeat' (first | assumption | (refine hR.set ?_) | (refine State.modEng_kept hR ?_) | (refine State.ev_kept hR ?_) | (intro x; try (refine Kept.cut (R := R) (s0 := s0) (x := x) ?_ ?_; unfold x; rotate_left; clear_value x; intro h)) | lift_lets | (refine Kept.ite ?_ ?_) | split | dsimp only)

theorem setFocus_kept (hR : Kept R) {a1 a2} (h : R s0 s) : R s0 (setFocus s a1 a2) := by
  unfold setFocus
  with_reducible repeat' (first | assumption | (refine hR.set ?_) | (refine State.iff_kept hR ?_ fun s h => ?_) | (refine abortBurns_kept hR ?_) | (intro x; try (refine Kept.cut (R := R) (s0 := s0) (x := x) ?_ ?_; unfold x; rotate_left; clear_value x; intro h)) | lift_lets | (refine Kept.ite ?_ ?_) | split | dsimp only)

theorem setTrack_kept (hR : Kept R) {a1 a2} (h : R s0 s) : R s0 (setTrack s a1 a2) := by
  unfold setTrack
  with_reducible repeat' (first | assumption | (refine hR.set ?_) | (refine State.iff_kept hR ?_ fun s h => ?_) | (refine abortBurns_kept hR ?_) | (intro x; try (refine Kept.cut (R := R) (s0 := s0) (x := x) ?_ ?_; unfold x; rotate_left; clear_value x; intro h)) | lift_lets | (refine Kept.ite ?_ ?_) | split | dsimp only)

theorem supRequest_kept (hR : Kept R) {a1 a2 a3} (h : R s0 s) : R s0 (supRequest s a1 a2 a3) := by
  unfold supRequest
  with_reducible repeat' (first | assumption | (refine requestMode_kept hR ?_) | (intro x; try (refine Kept.cut (R := R) (s0 := s0) (x := x) ?_ ?_; unfold x; rotate_left; clear_value x; intro h)) | lift_lets | (refine Kept.ite ?_ ?_) | split | dsimp only)

theorem supMan_kept (hR : Kept R) {a1 a2 a3} (h : R s0 s) : R s0 (supMan s a1 a2 a3) := by
  unfold supMan
  with_reducible repeat' (first | assumption | (refine State.iff_kept hR ?_ fun s h => ?_) | (refine State.modSup_kept hR ?_) | (refine hR.set ?_) | (intro x; try (refine Kept.cut (R := R) (s0 := s0) (x := x) ?_ ?_; unfold x; rotate_left; clear_value x; intro h)) | lift_lets | (refine Kept.ite ?_ ?_) | split | dsimp only)

theorem toManualHere_kept (hR : Kept R) {a1 a2} (h : R s0 s) : R s0 (toManualHere s a1 a2) := by
  unfold toManualHere
  with_reducible repeat' (first | assumption | (refine supRequest_kept hR ?_) | (refine supMan_kept hR ?_))

theorem ratioQ_kept (hR : Kept R) {a1 a2} (h : R s0 s) : R s0 (ratioQ s a1 a2).2 := by
  unfold ratioQ
  with_reducible repeat' (first | assumption | (refine State.divFree_kept' hR (by assumption) ?_) | (intro x; try (refine Kept.cut (R := R) (s0 := s0) (x := x) ?_ ?_; unfold x; rotate_left; clear_value x; intro h)) | lift_lets | (refine Kept.ite ?_ ?_) | split | dsimp only | (refine Kept.ite2 (by assumption) ?_ ?_) | (refine State.divFree_kept hR ?_))
theorem ratioQ_kept' (hR : Kept R) {a1 a2 v t} (e : ratioQ s a1 a2 = (v, t)) (h : R s0 s) : R s0 t := by
  have q : R s0 (ratioQ s a1 a2).2 := ratioQ_kept hR h
  rw [e] at q
  exact q

theorem nibErr_kept (hR : Kept R) {a1 a2} (h : R s0 s) : R s0 (nibErr s a1 a2).2 := by
  unfold nibErr
  with_reducible repeat' (first | assumption | (refine ratioQ_kept' hR (by assumption) ?_) | (intro x; try (refine Kept.cut (R := R) (s0 := s0) (x := x) ?_ ?_; unfold x; rotate_left; clear_value x; intro h)) | lift_lets | (refine Kept.ite ?_ ?_) | split | dsimp only | (refine Kept.ite2 (by assumption) ?_ ?_) | (refine ratioQ_kept hR ?_))
theorem nibErr_kept' (hR : Kept R) {a1 a2 v t} (e : nibErr s a1 a2 = (v, t)) (h : R s0 s) : R s0 t := by
  have q : R s0 (nibErr s a1 a2).2 := nibErr_kept hR h
  rw [e] at q
  exact q

theorem nibErrs_kept (hR : Kept R) {a1} (h : R s0 s) : R s0 (nibErrs s a1).2 := by
  unfold nibErrs
  with_reducible repeat' (first | assumption | (refine nibErr_kept' hR (by assumption) ?_) | (refine Kept.fold ?_ fun p a h => ?_) | (refine Kept.fold1 ?_ fun p a h => ?_) | (intro x; try (refine Kept.cut (R := R) (s0 := s0) (x := x) ?_ ?_; unfold x; rotate_left; clear_value x; intro h)) | lift_lets | split | dsimp only | (refine nibErr_kept hR ?_))
theorem nibErrs_kept' (hR : Kept R) {a1 v t} (e : nibErrs s a1 = (v, t)) (h : R s0 s) : R s0 t := by
  have q : R s0 (nibErrs s a1).2 := nibErrs_kept hR h
  rw [e] at q
  exact q

theorem meanQ_kept (hR : Kept R) {a1} (h : R s0 s) : R s0 (meanQ s a1).2 := by
  unfold meanQ
  with_reducible repeat' (first | assumption | (refine State.divFree_kept' hR (by assumption) ?_) | (refine Kept.fold ?_ fun p a h => ?_) | (refine Kept.fold1 ?_ fun p a h => ?_) | (intro x; try (refine Kept.cut (R := R) (s0 := s0) (x := x) ?_ ?_; unfold x; rotate_left; clear_value x; intro h)) | lift_lets | split | dsimp only | (refine State.divFree_kept hR ?_))
theorem meanQ_kept' (hR : Kept R) {a1 v t} (e : meanQ s a1 = (v, t)) (h : R s0 s) : R s0 t := by
  have q : R s0 (meanQ s a1).2 := meanQ_kept hR h
  rw [e] at q
  exact q

theorem putNibRegs_kept (hR : Kept R) {a1 a2 a3} (h : R s0 s) : R s0 (putNibRegs s a1 a2 a3) := by
  unfold putNibRegs
  with_reducible repeat' (first | assumption | (refine State.each_kept hR ?_ fun s a h => ?_) | (refine State.divFree_kept' hR (by assumption) ?_) | (refine hR.set ?_) | (intro x; try (refine Kept.cut (R := R) (s0 := s0) (x := x) ?_ ?_; unfold x; rotate_left; clear_value x; intro h)) | lift_lets | (refine Kept.ite ?_ ?_) | split | dsimp only | (refine State.divFree_kept hR ?_))

theorem beginTick_kept (hR : Kept R) {a1} (h : R s0 s) : R s0 (beginTick s a1) := by
  unfold beginTick
  with_reducible repeat' (first | assumption | (refine State.iff_kept hR ?_ fun s h => ?_) | (refine State.modSup_kept hR ?_) | split)

theorem formSample_kept (hR : Kept R) {a1 a2} (h : R s0 s) : R s0 (formSample s a1 a2) := by
  unfold formSample
  with_reducible repeat' (first | assumption | (refine nibErrs_kept' hR (by assumption) ?_) | (refine beginTick_kept hR ?_) | (refine putNibRegs_kept hR ?_) | (refine meanQ_kept' hR (by assumption) ?_) | (refine State.divFree_kept' hR (by assumption) ?_) | (refine State.modSup_kept hR ?_) | (refine Kept.fold ?_ fun p a h => ?_) | (refine Kept.fold1 ?_ fun p a h => ?_) | (intro x; try (refine Kept.cut (R := R) (s0 := s0) (x := x) ?_ ?_; unfold x; rotate_left; clear_value x; intro h)) | lift_lets | (refine Kept.ite ?_ ?_) | split | dsimp only | (refine Kept.ite2 (by assumption) ?_ ?_) | (refine nibErrs_kept hR ?_) | (refine meanQ_kept hR ?_) | (refine State.divFree_kept hR ?_))

theorem blotSums_kept (hR : Kept R) {a1 a2} (h : R s0 s) : R s0 (blotSums s a1 a2) := by
  unfold blotSums
  with_reducible repeat' (first | assumption | (refine State.each_kept hR ?_ fun s a h => ?_) | (refine State.modNib_kept hR ?_) | (refine Kept.fold ?_ fun p a h => ?_) | (refine Kept.fold1 ?_ fun p a h => ?_))

theorem servo_kept (hR : Kept R) {a0 a1 a2 a3} (h : R s0 s) : R s0 (servo a0 a1 a2 a3 s) := by
  unfold servo
  with_reducible repeat' (first | assumption | (refine State.iff_kept hR ?_ fun s h => ?_) | (refine blotSums_kept hR ?_) | (refine notePkt_kept hR ?_) | (refine State.modLink_kept hR ?_) | (refine State.modSup_kept hR ?_) | (refine formSample_kept hR ?_) | (refine Kept.fold ?_ fun p a h => ?_) | (refine Kept.fold1 ?_ fun p a h => ?_) | (intro x; try (refine Kept.cut (R := R) (s0 := s0) (x := x) ?_ ?_; unfold x; rotate_left; clear_value x; intro h)) | lift_lets | (refine Kept.ite ?_ ?_) | split | dsimp only)

theorem invalidTick_kept (hR : Kept R) {a0 a1} (h : R s0 s) : R s0 (invalidTick a0 a1 s) := by
  unfold invalidTick
  with_reducible repeat' (first | assumption | (refine State.modSup_kept hR ?_) | (refine beginTick_kept hR ?_) | (intro x; try (refine Kept.cut (R := R) (s0 := s0) (x := x) ?_ ?_; unfold x; rotate_left; clear_value x; intro h)) | lift_lets | (refine Kept.ite ?_ ?_) | split | dsimp only)

theorem enterWait_kept (hR : Kept R) {a1} (h : R s0 s) : R s0 (enterWait s a1) := by
  unfold enterWait
  with_reducible repeat' (first | assumption | (refine supRequest_kept hR ?_) | (refine State.modSup_kept hR ?_) | (refine setTrack_kept hR ?_) | (refine toManualHere_kept hR ?_) | (refine Kept.ite ?_ ?_) | split)

theorem onLocked_kept (hR : Kept R) {a1} (h : R s0 s) : R s0 (onLocked s a1) := by
  unfold onLocked
  with_reducible repeat' (first | assumption | (refine State.iff_kept hR ?_ fun s h => ?_) | (refine enterWait_kept hR ?_) | (refine Kept.ite ?_ ?_) | split)

theorem slipTrack_kept (hR : Kept R) {a1} (h : R s0 s) : R s0 (slipTrack s a1) := by
  unfold slipTrack
  with_reducible repeat' (first | assumption | (refine State.ev_kept hR ?_) | (refine toManualHere_kept hR ?_) | (refine State.modSup_kept hR ?_) | (refine hR.set ?_) | (refine setTrack_kept hR ?_) | (intro x; try (refine Kept.cut (R := R) (s0 := s0) (x := x) ?_ ?_; unfold x; rotate_left; clear_value x; intro h)) | lift_lets | (refine Kept.ite ?_ ?_) | split | dsimp only)

theorem enterHold_kept (hR : Kept R) {a1} (h : R s0 s) : R s0 (enterHold s a1) := by
  unfold enterHold
  with_reducible repeat' (first | assumption | (refine State.modSup_kept hR ?_) | (refine supRequest_kept hR ?_) | (refine hR.set ?_) | (refine setFocus_kept hR ?_) | (refine State.bump_kept hR ?_) | (refine State.ev_kept hR ?_) | (refine setTrack_kept hR ?_) | (intro x; try (refine Kept.cut (R := R) (s0 := s0) (x := x) ?_ ?_; unfold x; rotate_left; clear_value x; intro h)) | lift_lets | (refine Kept.ite ?_ ?_) | split | dsimp only)

theorem enterRetract_kept (hR : Kept R) {a1} (h : R s0 s) : R s0 (enterRetract s a1) := by
  unfold enterRetract
  with_reducible repeat' (first | assumption | (refine State.bump_kept hR ?_) | (refine hR.set ?_) | (refine setFocus_kept hR ?_) | (refine toManualHere_kept hR ?_) | (refine State.modSup_kept hR ?_) | (refine setTrack_kept hR ?_) | (intro x; try (refine Kept.cut (R := R) (s0 := s0) (x := x) ?_ ?_; unfold x; rotate_left; clear_value x; intro h)) | lift_lets | (refine Kept.ite ?_ ?_) | split | dsimp only)

theorem jumpPrepare_kept (hR : Kept R) {a1} (h : R s0 s) : R s0 (jumpPrepare s a1) := by
  unfold jumpPrepare
  with_reducible repeat' (first | assumption | (refine State.iff_kept hR ?_ fun s h => ?_) | (refine supRequest_kept hR ?_) | (refine setTrack_kept hR ?_) | (refine State.modSup_kept hR ?_) | (refine supMan_kept hR ?_) | (intro x; try (refine Kept.cut (R := R) (s0 := s0) (x := x) ?_ ?_; unfold x; rotate_left; clear_value x; intro h)) | lift_lets | split | dsimp only)

theorem tjumpPrepare_kept (hR : Kept R) {a1} (h : R s0 s) : R s0 (tjumpPrepare s a1) := by
  unfold tjumpPrepare
  with_reducible repeat' (first | assumption | (refine State.modSup_kept hR ?_) | (refine supMan_kept hR ?_) | (refine supRequest_kept hR ?_) | (intro x; try (refine Kept.cut (R := R) (s0 := s0) (x := x) ?_ ?_; unfold x; rotate_left; clear_value x; intro h)) | lift_lets | dsimp only)

theorem tjumpTick_kept (hR : Kept R) {a1 a2} (h : R s0 s) : R s0 (tjumpTick s a1 a2) := by
  unfold tjumpTick
  with_reducible repeat' (first | assumption | (refine tjumpPrepare_kept hR ?_) | (refine State.modSup_kept hR ?_) | (refine supMan_kept hR ?_) | (intro x; try (refine Kept.cut (R := R) (s0 := s0) (x := x) ?_ ?_; unfold x; rotate_left; clear_value x; intro h)) | lift_lets | (refine Kept.ite ?_ ?_) | split | dsimp only)

theorem jumpTick_kept (hR : Kept R) {a1 a2} (h : R s0 s) : R s0 (jumpTick s a1 a2) := by
  unfold jumpTick
  with_reducible repeat' (first | assumption | (refine State.modSup_kept hR ?_) | (refine jumpPrepare_kept hR ?_) | (intro x; try (refine Kept.cut (R := R) (s0 := s0) (x := x) ?_ ?_; unfold x; rotate_left; clear_value x; intro h)) | lift_lets | (refine Kept.ite ?_ ?_) | split | dsimp only)

theorem trackTick_kept (hR : Kept R) {a1 a2} (h : R s0 s) : R s0 (trackTick s a1 a2) := by
  unfold trackTick
  with_reducible repeat' (first | assumption | (refine State.modSup_kept hR ?_) | (refine tjumpTick_kept hR ?_) | (intro x; try (refine Kept.cut (R := R) (s0 := s0) (x := x) ?_ ?_; unfold x; rotate_left; clear_value x; intro h)) | lift_lets | (refine Kept.ite ?_ ?_) | split | dsimp only)

theorem holdTick_kept (hR : Kept R) {a1 a2} (h : R s0 s) : R s0 (holdTick s a1 a2) := by
  unfold holdTick
  with_reducible repeat' (first | assumption | (refine hR.set ?_) | (refine State.modSup_kept hR ?_) | (intro x; try (refine Kept.cut (R := R) (s0 := s0) (x := x) ?_ ?_; unfold x; rotate_left; clear_value x; intro h)) | lift_lets | (refine Kept.ite ?_ ?_) | split | dsimp only)

theorem sweepTick_kept (hR : Kept R) {a1 a2} (h : R s0 s) : R s0 (sweepTick s a1 a2) := by
  unfold sweepTick
  with_reducible repeat' (first | assumption | (refine State.modSup_kept hR ?_) | (refine hR.set ?_) | (refine State.iff_kept hR ?_ fun s h => ?_) | (refine supMan_kept hR ?_) | (intro x; try (refine Kept.cut (R := R) (s0 := s0) (x := x) ?_ ?_; unfold x; rotate_left; clear_value x; intro h)) | lift_lets | (refine Kept.ite ?_ ?_) | split | dsimp only)

theorem supEval_kept (hR : Kept R) {a1} (h : R s0 s) : R s0 (supEval s a1) := by
  unfold supEval
  with_reducible repeat' (first | assumption | (refine State.modSup_kept hR ?_) | (refine hR.set ?_) | (refine State.iff_kept hR ?_ fun s h => ?_) | (refine enterWait_kept hR ?_) | (refine enterHold_kept hR ?_) | (refine holdTick_kept hR ?_) | (refine supMan_kept hR ?_) | (refine sweepTick_kept hR ?_) | (refine jumpTick_kept hR ?_) | (refine trackTick_kept hR ?_) | (refine tjumpPrepare_kept hR ?_) | (intro x; try (refine Kept.cut (R := R) (s0 := s0) (x := x) ?_ ?_; unfold x; rotate_left; clear_value x; intro h)) | lift_lets | (refine Kept.ite ?_ ?_) | split | dsimp only)

theorem supAux_kept (hR : Kept R) {a1} (h : R s0 s) : R s0 (supAux s a1) := by
  unfold supAux
  with_reducible repeat' (first | assumption | (refine State.each_kept hR ?_ fun s a h => ?_) | (refine supRequest_kept hR ?_) | (refine State.modSup_kept hR ?_) | (refine hR.set ?_) | (intro x; try (refine Kept.cut (R := R) (s0 := s0) (x := x) ?_ ?_; unfold x; rotate_left; clear_value x; intro h)) | lift_lets | (refine Kept.ite ?_ ?_) | split | dsimp only)

theorem supAssert_kept (hR : Kept R) {a1} (h : R s0 s) : R s0 (supAssert s a1) := by
  unfold supAssert
  with_reducible repeat' (first | assumption | (refine State.each_kept hR ?_ fun s a h => ?_) | (refine State.modSup_kept hR ?_) | (refine supRequest_kept hR ?_) | (refine State.iff_kept hR ?_ fun s h => ?_) | (refine supMan_kept hR ?_) | (intro x; try (refine Kept.cut (R := R) (s0 := s0) (x := x) ?_ ?_; unfold x; rotate_left; clear_value x; intro h)) | lift_lets | (refine Kept.ite ?_ ?_) | split | dsimp only)

theorem resume_kept (hR : Kept R) {a0} (h : R s0 s) : R s0 (resume a0 s) := by
  unfold resume
  with_reducible repeat' (first | assumption | (refine supEval_kept hR ?_) | (refine supRequest_kept hR ?_) | (refine hR.set ?_) | (refine setFocus_kept hR ?_) | (refine State.modSup_kept hR ?_) | (refine State.ev_kept hR ?_) | (refine setTrack_kept hR ?_) | (refine enterWait_kept hR ?_) | (refine onLocked_kept hR ?_) | (intro x; try (refine Kept.cut (R := R) (s0 := s0) (x := x) ?_ ?_; unfold x; rotate_left; clear_value x; intro h)) | lift_lets | (refine Kept.ite ?_ ?_) | split | dsimp only)

theorem escapeRetract_kept (hR : Kept R) {a0} (h : R s0 s) : R s0 (escapeRetract a0 s) := by
  unfold escapeRetract
  with_reducible repeat' (first | assumption | (refine supEval_kept hR ?_) | (refine enterRetract_kept hR ?_) | (intro x; try (refine Kept.cut (R := R) (s0 := s0) (x := x) ?_ ?_; unfold x; rotate_left; clear_value x; intro h)) | lift_lets | (refine Kept.ite ?_ ?_) | split | dsimp only)

theorem collapseRetract_kept (hR : Kept R) {a0} (h : R s0 s) : R s0 (collapseRetract a0 s) := by
  unfold collapseRetract
  with_reducible repeat' (first | assumption | (refine supEval_kept hR ?_) | (refine enterRetract_kept hR ?_) | (intro x; try (refine Kept.cut (R := R) (s0 := s0) (x := x) ?_ ?_; unfold x; rotate_left; clear_value x; intro h)) | lift_lets | (refine Kept.ite ?_ ?_) | split | dsimp only)

theorem longGap_kept (hR : Kept R) {a0} (h : R s0 s) : R s0 (longGap a0 s) := by
  unfold longGap
  with_reducible repeat' (first | assumption | (refine supEval_kept hR ?_) | (refine enterRetract_kept hR ?_) | (intro x; try (refine Kept.cut (R := R) (s0 := s0) (x := x) ?_ ?_; unfold x; rotate_left; clear_value x; intro h)) | lift_lets | (refine Kept.ite ?_ ?_) | split | dsimp only)

theorem retractEnd_kept (hR : Kept R) {a0} (h : R s0 s) : R s0 (retractEnd a0 s) := by
  unfold retractEnd
  with_reducible repeat' (first | assumption | (refine supEval_kept hR ?_) | (refine State.ev_kept hR ?_) | (refine setFocus_kept hR ?_) | (intro x; try (refine Kept.cut (R := R) (s0 := s0) (x := x) ?_ ?_; unfold x; rotate_left; clear_value x; intro h)) | lift_lets | (refine Kept.ite ?_ ?_) | split | dsimp only)

theorem approachDone_kept (hR : Kept R) {a0} (h : R s0 s) : R s0 (approachDone a0 s) := by
  unfold approachDone
  with_reducible repeat' (first | assumption | (refine supEval_kept hR ?_) | (refine setFocus_kept hR ?_) | (refine State.modSup_kept hR ?_) | (intro x; try (refine Kept.cut (R := R) (s0 := s0) (x := x) ?_ ?_; unfold x; rotate_left; clear_value x; intro h)) | lift_lets | (refine Kept.ite ?_ ?_) | split | dsimp only)

theorem sweepCapture_kept (hR : Kept R) {a0} (h : R s0 s) : R s0 (sweepCapture a0 s) := by
  unfold sweepCapture
  with_reducible repeat' (first | assumption | (refine supEval_kept hR ?_) | (refine State.modSup_kept hR ?_) | (refine hR.set ?_) | (refine supRequest_kept hR ?_) | (refine setFocus_kept hR ?_) | (refine State.ev_kept hR ?_) | (refine enterRetract_kept hR ?_) | (intro x; try (refine Kept.cut (R := R) (s0 := s0) (x := x) ?_ ?_; unfold x; rotate_left; clear_value x; intro h)) | lift_lets | (refine Kept.ite ?_ ?_) | split | dsimp only)

theorem fLock_kept (hR : Kept R) {a0} (h : R s0 s) : R s0 (fLock a0 s) := by
  unfold fLock
  with_reducible repeat' (first | assumption | (refine supEval_kept hR ?_) | (refine enterWait_kept hR ?_) | (refine State.ev_kept hR ?_) | (refine setFocus_kept hR ?_) | (refine enterRetract_kept hR ?_) | (intro x; try (refine Kept.cut (R := R) (s0 := s0) (x := x) ?_ ?_; unfold x; rotate_left; clear_value x; intro h)) | lift_lets | (refine Kept.ite ?_ ?_) | split | dsimp only)

theorem trackCapture_kept (hR : Kept R) {a0} (h : R s0 s) : R s0 (trackCapture a0 s) := by
  unfold trackCapture
  with_reducible repeat' (first | assumption | (refine supEval_kept hR ?_) | (refine supRequest_kept hR ?_) | (refine setTrack_kept hR ?_) | (refine State.modSup_kept hR ?_) | (intro x; try (refine Kept.cut (R := R) (s0 := s0) (x := x) ?_ ?_; unfold x; rotate_left; clear_value x; intro h)) | lift_lets | (refine Kept.ite ?_ ?_) | split | dsimp only)

theorem tLock_kept (hR : Kept R) {a0} (h : R s0 s) : R s0 (tLock a0 s) := by
  unfold tLock
  with_reducible repeat' (first | assumption | (refine supEval_kept hR ?_) | (refine State.ev_kept hR ?_) | (refine setTrack_kept hR ?_) | (refine State.modSup_kept hR ?_) | (intro x; try (refine Kept.cut (R := R) (s0 := s0) (x := x) ?_ ?_; unfold x; rotate_left; clear_value x; intro h)) | lift_lets | (refine Kept.ite ?_ ?_) | split | dsimp only)

theorem trackSlip_kept (hR : Kept R) {a0} (h : R s0 s) : R s0 (trackSlip a0 s) := by
  unfold trackSlip
  with_reducible repeat' (first | assumption | (refine supEval_kept hR ?_) | (refine slipTrack_kept hR ?_) | (intro x; try (refine Kept.cut (R := R) (s0 := s0) (x := x) ?_ ?_; unfold x; rotate_left; clear_value x; intro h)) | lift_lets | (refine Kept.ite ?_ ?_) | split | dsimp only)

theorem jumpPhaseEnd_kept (hR : Kept R) {a0} (h : R s0 s) : R s0 (jumpPhaseEnd a0 s) := by
  unfold jumpPhaseEnd
  with_reducible repeat' (first | assumption | (refine supEval_kept hR ?_) | (refine State.ev_kept hR ?_) | (refine enterRetract_kept hR ?_) | (refine State.modSup_kept hR ?_) | (refine supMan_kept hR ?_) | (refine hR.set ?_) | (refine supRequest_kept hR ?_) | (refine jumpPrepare_kept hR ?_) | (refine setFocus_kept hR ?_) | (refine setTrack_kept hR ?_) | (refine onLocked_kept hR ?_) | (intro x; try (refine Kept.cut (R := R) (s0 := s0) (x := x) ?_ ?_; unfold x; rotate_left; clear_value x; intro h)) | lift_lets | (refine Kept.ite ?_ ?_) | split | dsimp only)

theorem tjumpEnd_kept (hR : Kept R) {a0} (h : R s0 s) : R s0 (tjumpEnd a0 s) := by
  unfold tjumpEnd
  with_reducible repeat' (first | assumption | (refine supEval_kept hR ?_) | (refine slipTrack_kept hR ?_) | (refine State.modSup_kept hR ?_) | (refine hR.set ?_) | (refine State.ev_kept hR ?_) | (refine supRequest_kept hR ?_) | (refine setTrack_kept hR ?_) | (intro x; try (refine Kept.cut (R := R) (s0 := s0) (x := x) ?_ ?_; unfold x; rotate_left; clear_value x; intro h)) | lift_lets | (refine Kept.ite ?_ ?_) | split | dsimp only)

theorem refuseStart_kept (hR : Kept R) {a1 a2} (h : R s0 s) : R s0 (refuseStart s a1 a2) := by
  unfold refuseStart
  with_reducible repeat' (first | assumption | (refine State.ev_kept hR ?_) | (refine hR.set ?_))

theorem cancelPrepared_kept (hR : Kept R) {a1} (h : R s0 s) : R s0 (cancelPrepared s a1) := by
  unfold cancelPrepared
  with_reducible repeat' (first | assumption | (refine State.iff_kept hR ?_ fun s h => ?_) | (refine refuseStart_kept hR ?_) | (refine setFocus_kept hR ?_) | (refine State.modSup_kept hR ?_) | (refine setTrack_kept hR ?_) | (intro x; try (refine Kept.cut (R := R) (s0 := s0) (x := x) ?_ ?_; unfold x; rotate_left; clear_value x; intro h)) | lift_lets | split | dsimp only)

theorem acqStart_kept (hR : Kept R) {a0 a1} (h : R s0 s) : R s0 (acqStart a0 a1 s) := by
  unfold acqStart
  with_reducible repeat' (first | assumption | (refine hR.set ?_) | (refine State.modSup_kept hR ?_) | (refine cancelPrepared_kept hR ?_) | (refine supRequest_kept hR ?_) | (refine setFocus_kept hR ?_) | (refine refuseStart_kept hR ?_) | (intro x; try (refine Kept.cut (R := R) (s0 := s0) (x := x) ?_ ?_; unfold x; rotate_left; clear_value x; intro h)) | lift_lets | (refine Kept.ite ?_ ?_) | split | dsimp only)

theorem jumpStart_kept (hR : Kept R) {a0 a1 a2} (h : R s0 s) : R s0 (jumpStart a0 a1 a2 s) := by
  unfold jumpStart
  with_reducible repeat' (first | assumption | (refine hR.set ?_) | (refine State.modSup_kept hR ?_) | (refine setFocus_kept hR ?_) | (refine refuseStart_kept hR ?_) | (intro x; try (refine Kept.cut (R := R) (s0 := s0) (x := x) ?_ ?_; unfold x; rotate_left; clear_value x; intro h)) | lift_lets | (refine Kept.ite ?_ ?_) | split | dsimp only)

theorem tjumpStart_kept (hR : Kept R) {a0 a1 a2} (h : R s0 s) : R s0 (tjumpStart a0 a1 a2 s) := by
  unfold tjumpStart
  with_reducible repeat' (first | assumption | (refine hR.set ?_) | (refine State.modSup_kept hR ?_) | (refine setTrack_kept hR ?_) | (refine refuseStart_kept hR ?_) | (intro x; try (refine Kept.cut (R := R) (s0 := s0) (x := x) ?_ ?_; unfold x; rotate_left; clear_value x; intro h)) | lift_lets | (refine Kept.ite ?_ ?_) | split | dsimp only)

theorem supStop_kept (hR : Kept R) {a1 a2} (h : R s0 s) : R s0 (supStop s a1 a2) := by
  unfold supStop
  with_reducible repeat' (first | assumption | (refine setTrack_kept hR ?_) | (refine setFocus_kept hR ?_) | (refine hR.set ?_) | (refine State.modEng_kept hR ?_) | (refine State.modSup_kept hR ?_) | (intro x; try (refine Kept.cut (R := R) (s0 := s0) (x := x) ?_ ?_; unfold x; rotate_left; clear_value x; intro h)) | lift_lets | dsimp only)

theorem supEnWrite_kept (hR : Kept R) {a0 a1} (h : R s0 s) : R s0 (supEnWrite a0 a1 s) := by
  unfold supEnWrite
  with_reducible repeat' (first | assumption | (refine hR.set ?_) | (refine supStop_kept hR ?_) | (refine Kept.ite ?_ ?_) | split)

theorem trkAutoWrite_kept (hR : Kept R) {a0 a1} (h : R s0 s) : R s0 (trkAutoWrite a0 a1 s) := by
  unfold trkAutoWrite
  with_reducible repeat' (first | assumption | (refine hR.set ?_) | (refine State.iff_kept hR ?_ fun s h => ?_) | (refine State.modSup_kept hR ?_) | (intro x; try (refine Kept.cut (R := R) (s0 := s0) (x := x) ?_ ?_; unfold x; rotate_left; clear_value x; intro h)) | lift_lets | (refine Kept.ite ?_ ?_) | split | dsimp only)

theorem svEnable_kept (hR : Kept R) {a1 a2} (h : R s0 s) : R s0 (svEnable s a1 a2) := by
  unfold svEnable
  with_reducible repeat' (first | assumption | (refine State.iff_kept hR ?_ fun s h => ?_) | (refine State.modSup_kept hR ?_) | (refine hR.set ?_) | (refine Kept.ite ?_ ?_) | split)

theorem overrideAxes_kept (hR : Kept R) {a1 a2} (h : R s0 s) : R s0 (overrideAxes s a1 a2) := by
  unfold overrideAxes
  with_reducible repeat' (first | assumption | (refine State.iff_kept hR ?_ fun s h => ?_) | (refine State.ev_kept hR ?_) | (refine hR.set ?_) | (refine setFocus_kept hR ?_) | (refine State.modSup_kept hR ?_) | (refine setTrack_kept hR ?_) | (refine State.each_kept hR ?_ fun s a h => ?_) | (intro x; try (refine Kept.cut (R := R) (s0 := s0) (x := x) ?_ ?_; unfold x; rotate_left; clear_value x; intro h)) | lift_lets | (refine Kept.ite ?_ ?_) | split | dsimp only)

theorem refreshLocked_kept (hR : Kept R) {a1} (h : R s0 s) : R s0 (refreshLocked s a1) := by
  unfold refreshLocked
  with_reducible repeat' (first | assumption | (refine State.each_kept hR ?_ fun s a h => ?_) | (refine hR.set ?_) | (intro x; try (refine Kept.cut (R := R) (s0 := s0) (x := x) ?_ ?_; unfold x; rotate_left; clear_value x; intro h)) | lift_lets | (refine Kept.ite ?_ ?_) | split | dsimp only)

theorem sendActuator_kept (hR : Kept R) {a1 a2} (h : R s0 s) : R s0 (sendActuator s a1 a2) := by
  unfold sendActuator
  with_reducible repeat' (first | assumption | (refine State.modLink_kept hR ?_) | (intro x; try (refine Kept.cut (R := R) (s0 := s0) (x := x) ?_ ?_; unfold x; rotate_left; clear_value x; intro h)) | lift_lets | (refine Kept.ite ?_ ?_) | split | dsimp only)

theorem supDecide_kept (hR : Kept R) {a1} (h : R s0 s) : R s0 (supDecide s a1) := by
  unfold supDecide
  with_reducible repeat' (first | assumption | (refine tjumpEnd_kept hR ?_) | (refine jumpPhaseEnd_kept hR ?_) | (refine trackSlip_kept hR ?_) | (refine tLock_kept hR ?_) | (refine trackCapture_kept hR ?_) | (refine fLock_kept hR ?_) | (refine sweepCapture_kept hR ?_) | (refine approachDone_kept hR ?_) | (refine retractEnd_kept hR ?_) | (refine longGap_kept hR ?_) | (refine collapseRetract_kept hR ?_) | (refine escapeRetract_kept hR ?_) | (refine resume_kept hR ?_))

theorem penTick_kept (hR : Kept R) {a1 a2} (h : R s0 s) : R s0 (penTick s a1 a2) := by
  unfold penTick
  with_reducible repeat' (first | assumption | (refine refreshLocked_kept hR ?_) | (refine supAssert_kept hR ?_) | (refine supAux_kept hR ?_) | (refine supDecide_kept hR ?_) | (refine supEval_kept hR ?_) | (refine engineFast_kept' hR (by assumption) ?_) | (refine engineRest_kept hR ?_) | (refine sendActuator_kept hR ?_) | (refine State.each_kept hR ?_ fun s a h => ?_) | (refine hR.set ?_) | (refine State.modSup_kept hR ?_) | (intro x; try (refine Kept.cut (R := R) (s0 := s0) (x := x) ?_ ?_; unfold x; rotate_left; clear_value x; intro h)) | lift_lets | split | dsimp only | (refine engineFast_kept hR ?_))

theorem penFault_kept (hR : Kept R) {a1} (h : R s0 s) : R s0 (penFault s a1) := by
  unfold penFault
  with_reducible repeat' (first | assumption | (refine supStop_kept hR ?_))

end Sys2Proof.Machine
end

