-- ==== Sys2Proof/Laws/KeptDrive.lean ====
section
/-!
SUPPORT. For the spindles, the sleds, the links and the host port: each operation keeps every relation between states that register and hidden-state changes keep, or that
stores keep too. Instances of the relation give invariants and frames without unfolding an operation.
-/

namespace Sys2Proof.Machine

variable {R : State → State → Prop} {s0 s : State}

theorem State.modSp_kept (hR : Kept R) {a1 a2} (h : R s0 s) : R s0 (State.modSp s a1 a2) := by
  unfold State.modSp
  with_reducible repeat' (first | assumption | (refine hR.rest ?_))

theorem State.modBus_kept (hR : Kept R) {a1 a2} (h : R s0 s) : R s0 (State.modBus s a1 a2) := by
  unfold State.modBus
  with_reducible repeat' (first | assumption | (refine hR.rest ?_))

theorem corrected_kept (hR : Kept R) {a1 a2 a3} (h : R s0 s) : R s0 (corrected s a1 a2 a3).2 := by
  unfold corrected
  with_reducible repeat' (first | assumption | (refine State.coin_kept' hR (by assumption) ?_) | (intro x; try (refine Kept.cut (R := R) (s0 := s0) (x := x) ?_ ?_; unfold x; rotate_left; clear_value x; intro h)) | lift_lets | (refine Kept.ite ?_ ?_) | split | dsimp only | (refine Kept.ite2 (by assumption) ?_ ?_) | (refine State.coin_kept hR ?_))
theorem corrected_kept' (hR : Kept R) {a1 a2 a3 v t} (e : corrected s a1 a2 a3 = (v, t)) (h : R s0 s) : R s0 t := by
  have q : R s0 (corrected s a1 a2 a3).2 := corrected_kept hR h
  rw [e] at q
  exact q

theorem convert_kept (hR : Kept R) {a1 a2 a3} (h : R s0 s) : R s0 (convert s a1 a2 a3).2 := by
  unfold convert
  with_reducible repeat' (first | assumption | (refine corrected_kept' hR (by assumption) ?_) | (refine hR.set ?_) | (intro x; try (refine Kept.cut (R := R) (s0 := s0) (x := x) ?_ ?_; unfold x; rotate_left; clear_value x; intro h)) | lift_lets | split | dsimp only | (refine corrected_kept hR ?_))
theorem convert_kept' (hR : Kept R) {a1 a2 a3 v t} (e : convert s a1 a2 a3 = (v, t)) (h : R s0 s) : R s0 t := by
  have q : R s0 (convert s a1 a2 a3).2 := convert_kept hR h
  rw [e] at q
  exact q

theorem refreshBus_kept (hR : Kept R) {a1} (h : R s0 s) : R s0 (refreshBus s a1) := by
  unfold refreshBus
  with_reducible repeat' (first | assumption | (refine State.iff_kept hR ?_ fun s h => ?_) | (refine hR.set ?_) | (intro x; try (refine Kept.cut (R := R) (s0 := s0) (x := x) ?_ ?_; unfold x; rotate_left; clear_value x; intro h)) | lift_lets | (refine Kept.ite ?_ ?_) | split | dsimp only)

theorem releaseSlot_kept (hR : Kept R) {a1} (h : R s0 s) : R s0 (releaseSlot s a1) := by
  unfold releaseSlot
  with_reducible repeat' (first | assumption | (refine State.modBus_kept hR ?_) | (refine hR.set ?_) | (refine refreshBus_kept hR ?_) | (refine State.modSp_kept hR ?_) | (intro x; try (refine Kept.cut (R := R) (s0 := s0) (x := x) ?_ ?_; unfold x; rotate_left; clear_value x; intro h)) | lift_lets | dsimp only)

theorem askSlot_kept (hR : Kept R) {a1} (h : R s0 s) : R s0 (askSlot s a1) := by
  unfold askSlot
  with_reducible repeat' (first | assumption | (refine State.modBus_kept hR ?_) | (refine Kept.ite ?_ ?_) | split)

theorem spRequest_kept (hR : Kept R) {a1 a2} (h : R s0 s) : R s0 (spRequest s a1 a2) := by
  unfold spRequest
  with_reducible repeat' (first | assumption | (refine requestMode_kept hR ?_) | (intro x; try (refine Kept.cut (R := R) (s0 := s0) (x := x) ?_ ?_; unfold x; rotate_left; clear_value x; intro h)) | lift_lets | (refine Kept.ite ?_ ?_) | split | dsimp only)

theorem enterSp_kept (hR : Kept R) {a1 a2} (h : R s0 s) : R s0 (enterSp s a1 a2) := by
  unfold enterSp
  with_reducible repeat' (first | assumption | (refine State.iff_kept hR ?_ fun s h => ?_) | (refine spRequest_kept hR ?_) | (refine hR.set ?_) | (refine releaseSlot_kept hR ?_) | (refine State.modSp_kept hR ?_) | (refine State.ev_kept hR ?_) | (intro x; try (refine Kept.cut (R := R) (s0 := s0) (x := x) ?_ ?_; unfold x; rotate_left; clear_value x; intro h)) | lift_lets | split | dsimp only)

theorem tryCatch_kept (hR : Kept R) {a1} (h : R s0 s) : R s0 (tryCatch s a1) := by
  unfold tryCatch
  with_reducible repeat' (first | assumption | (refine enterSp_kept hR ?_) | (refine State.modSp_kept hR ?_) | (intro x; try (refine Kept.cut (R := R) (s0 := s0) (x := x) ?_ ?_; unfold x; rotate_left; clear_value x; intro h)) | lift_lets | (refine Kept.ite ?_ ?_) | split | dsimp only)

theorem coast_kept (hR : Kept R) {a1} (h : R s0 s) : R s0 (coast s a1) := by
  unfold coast
  with_reducible repeat' (first | assumption | (refine enterSp_kept hR ?_) | (refine State.modSp_kept hR ?_))

theorem measure_kept (hR : Kept R) {a1} (h : R s0 s) : R s0 (measure s a1) := by
  unfold measure
  with_reducible repeat' (first | assumption | (refine State.divFree_kept' hR (by assumption) ?_) | (refine hR.set ?_) | (refine Kept.fold ?_ fun p a h => ?_) | (refine Kept.fold1 ?_ fun p a h => ?_) | (intro x; try (refine Kept.cut (R := R) (s0 := s0) (x := x) ?_ ?_; unfold x; rotate_left; clear_value x; intro h)) | lift_lets | split | dsimp only | (refine State.divFree_kept hR ?_))

theorem predict_kept (hR : Kept R) {a1} (h : R s0 s) : R s0 (predict s a1).2 := by
  unfold predict
  with_reducible repeat' (first | assumption | (refine State.divFree_kept' hR (by assumption) ?_) | (intro x; try (refine Kept.cut (R := R) (s0 := s0) (x := x) ?_ ?_; unfold x; rotate_left; clear_value x; intro h)) | lift_lets | (refine Kept.ite ?_ ?_) | split | dsimp only | (refine State.divFree_kept hR ?_))
theorem predict_kept' (hR : Kept R) {a1 v t} (e : predict s a1 = (v, t)) (h : R s0 s) : R s0 t := by
  have q : R s0 (predict s a1).2 := predict_kept hR h
  rw [e] at q
  exact q

theorem regenCheck_kept (hR : Kept R) {a1} (h : R s0 s) : R s0 (regenCheck s a1) := by
  unfold regenCheck
  with_reducible repeat' (first | assumption | (refine predict_kept' hR (by assumption) ?_) | (refine State.modSp_kept hR ?_) | (refine hR.set ?_) | (refine State.ev_kept hR ?_) | (refine Kept.fold ?_ fun p a h => ?_) | (refine Kept.fold1 ?_ fun p a h => ?_) | (intro x; try (refine Kept.cut (R := R) (s0 := s0) (x := x) ?_ ?_; unfold x; rotate_left; clear_value x; intro h)) | lift_lets | (refine Kept.ite ?_ ?_) | split | dsimp only | (refine predict_kept hR ?_))

theorem rampRef_kept (hR : Kept R) {a1} (h : R s0 s) : R s0 (rampRef s a1) := by
  unfold rampRef
  with_reducible repeat' (first | assumption | (refine hR.set ?_) | (refine askSlot_kept hR ?_) | (refine State.iff_kept hR ?_ fun s h => ?_) | (refine State.modSp_kept hR ?_) | (refine State.ev_kept hR ?_) | (refine releaseSlot_kept hR ?_) | (intro x; try (refine Kept.cut (R := R) (s0 := s0) (x := x) ?_ ?_; unfold x; rotate_left; clear_value x; intro h)) | lift_lets | (refine Kept.ite ?_ ?_) | split | dsimp only)

theorem heatStep_kept (hR : Kept R) {a1 a2} (h : R s0 s) : R s0 (heatStep s a1 a2) := by
  unfold heatStep
  with_reducible repeat' (first | assumption | (refine State.divFree_kept' hR (by assumption) ?_) | (refine State.modSp_kept hR ?_) | (refine hR.set ?_) | (refine State.iff_kept hR ?_ fun s h => ?_) | (intro x; try (refine Kept.cut (R := R) (s0 := s0) (x := x) ?_ ?_; unfold x; rotate_left; clear_value x; intro h)) | lift_lets | split | dsimp only | (refine State.divFree_kept hR ?_))

theorem pulse_kept (hR : Kept R) {a1 a2} (h : R s0 s) : R s0 (pulse s a1 a2).2.2 := by
  unfold pulse
  with_reducible repeat' (first | assumption | (refine State.divFree_kept' hR (by assumption) ?_) | (intro x; try (refine Kept.cut (R := R) (s0 := s0) (x := x) ?_ ?_; unfold x; rotate_left; clear_value x; intro h)) | lift_lets | (refine Kept.ite ?_ ?_) | split | dsimp only | (refine Kept.ite2 (by assumption) ?_ ?_) | (refine State.divFree_kept hR ?_))
theorem pulse_kept' (hR : Kept R) {a1 a2 v w t} (e : pulse s a1 a2 = (v, w, t)) (h : R s0 s) : R s0 t := by
  have q : R s0 (pulse s a1 a2).2.2 := pulse_kept hR h
  rw [e] at q
  exact q

theorem upTo_kept (hR : Kept R) {a1} (h : R s0 s) : R s0 (upTo s a1).2 := by
  unfold upTo
  with_reducible repeat' (first | assumption | (refine State.fresh_kept' hR (by assumption) ?_) | (intro x; try (refine Kept.cut (R := R) (s0 := s0) (x := x) ?_ ?_; unfold x; rotate_left; clear_value x; intro h)) | lift_lets | split | dsimp only | (refine State.fresh_kept hR ?_))
theorem upTo_kept' (hR : Kept R) {a1 v t} (e : upTo s a1 = (v, t)) (h : R s0 s) : R s0 t := by
  have q : R s0 (upTo s a1).2 := upTo_kept hR h
  rw [e] at q
  exact q

theorem windowSamples_kept (hR : Kept R) {a1 a2} (h : R s0 s) : R s0 (windowSamples s a1 a2) := by
  unfold windowSamples
  with_reducible repeat' (first | assumption | (refine convert_kept' hR (by assumption) ?_) | (refine State.modSp_kept hR ?_) | (intro x; try (refine Kept.cut (R := R) (s0 := s0) (x := x) ?_ ?_; unfold x; rotate_left; clear_value x; intro h)) | lift_lets | (refine Kept.ite ?_ ?_) | split | dsimp only | (refine convert_kept hR ?_))

theorem chopReturn_kept (hR : Kept R) {a1} (h : R s0 s) : R s0 (chopReturn s a1) := by
  unfold chopReturn
  with_reducible repeat' (first | assumption | (refine State.iff_kept hR ?_ fun s h => ?_) | (refine State.modSp_kept hR ?_) | (intro x; try (refine Kept.cut (R := R) (s0 := s0) (x := x) ?_ ?_; unfold x; rotate_left; clear_value x; intro h)) | lift_lets | split | dsimp only)

theorem runDemand_kept (hR : Kept R) {a1} (h : R s0 s) : R s0 (runDemand s a1).2 := by
  unfold runDemand
  with_reducible repeat' (first | assumption | (refine chopReturn_kept hR ?_) | (refine hR.set ?_) | (refine regenCheck_kept hR ?_) | (refine State.modSp_kept hR ?_) | (refine rampRef_kept hR ?_) | (intro x; try (refine Kept.cut (R := R) (s0 := s0) (x := x) ?_ ?_; unfold x; rotate_left; clear_value x; intro h)) | lift_lets | (refine Kept.ite ?_ ?_) | split | dsimp only)
theorem runDemand_kept' (hR : Kept R) {a1 v t} (e : runDemand s a1 = (v, t)) (h : R s0 s) : R s0 t := by
  have q : R s0 (runDemand s a1).2 := runDemand_kept hR h
  rw [e] at q
  exact q

theorem onTime_kept (hR : Kept R) {a1 a2 a3 a4} (h : R s0 s) : R s0 (onTime s a1 a2 a3 a4).2.2 := by
  have hr : R s0 (if decide (spState s a1 = spRun) = true then pulse s a1 a3.natAbs
      else if a2 = 0 then ((upTo s 6250).1, 1, (upTo s 6250).2) else (0, 1, s)).2.2 := by
    split
    · exact pulse_kept hR h
    · split
      · exact upTo_kept hR (a1 := 6250) h
      · exact h
  unfold onTime
  dsimp only
  split
  · exact upTo_kept hR hr
  · exact hr
theorem onTime_kept' (hR : Kept R) {a1 a2 a3 a4 v w t} (e : onTime s a1 a2 a3 a4 = (v, w, t)) (h : R s0 s) : R s0 t := by
  have q : R s0 (onTime s a1 a2 a3 a4).2.2 := onTime_kept hR h
  rw [e] at q
  exact q

theorem rampFrom_kept (hR : Kept R) {a1} (h : R s0 s) : R s0 (rampFrom s a1) := by
  unfold rampFrom
  with_reducible repeat' (first | assumption | (refine State.modSp_kept hR ?_) | (refine hR.set ?_) | (refine State.iff_kept hR ?_ fun s h => ?_) | (refine releaseSlot_kept hR ?_) | (intro x; try (refine Kept.cut (R := R) (s0 := s0) (x := x) ?_ ?_; unfold x; rotate_left; clear_value x; intro h)) | lift_lets | split | dsimp only)

theorem raiseStaged_kept (hR : Kept R) {a1} (h : R s0 s) : R s0 (raiseStaged s a1) := by
  unfold raiseStaged
  with_reducible repeat' (first | assumption | (refine State.modSp_kept hR ?_) | (refine rampFrom_kept hR ?_) | (refine hR.set ?_) | (intro x; try (refine Kept.cut (R := R) (s0 := s0) (x := x) ?_ ?_; unfold x; rotate_left; clear_value x; intro h)) | lift_lets | (refine Kept.ite ?_ ?_) | split | dsimp only)

theorem noteSpeed_kept (hR : Kept R) {a1} (h : R s0 s) : R s0 (noteSpeed s a1) := by
  unfold noteSpeed
  with_reducible repeat' (first | assumption | (refine State.iff_kept hR ?_ fun s h => ?_) | (refine State.modSp_kept hR ?_) | (refine raiseStaged_kept hR ?_) | (refine State.ev_kept hR ?_) | (intro x; try (refine Kept.cut (R := R) (s0 := s0) (x := x) ?_ ?_; unfold x; rotate_left; clear_value x; intro h)) | lift_lets | split | dsimp only)

theorem pwmPeriod_kept (hR : Kept R) {a0 a1} (h : R s0 s) : R s0 (pwmPeriod a0 a1 s) := by
  unfold pwmPeriod
  with_reducible repeat' (first | assumption | (refine windowSamples_kept hR ?_) | (refine runDemand_kept' hR (by assumption) ?_) | (refine onTime_kept' hR (by assumption) ?_) | (refine hR.set ?_) | (refine State.divFree_kept' hR (by assumption) ?_) | (refine State.modSp_kept hR ?_) | (refine State.iff_kept hR ?_ fun s h => ?_) | (refine noteSpeed_kept hR ?_) | (refine heatStep_kept hR ?_) | (intro x; try (refine Kept.cut (R := R) (s0 := s0) (x := x) ?_ ?_; unfold x; rotate_left; clear_value x; intro h)) | lift_lets | (refine Kept.ite ?_ ?_) | split | dsimp only | (refine runDemand_kept hR ?_) | (refine onTime_kept hR ?_) | (refine State.divFree_kept hR ?_))

theorem overcurrentTrip_kept (hR : Kept R) {a0 a1} (h : R s0 s) : R s0 (overcurrentTrip a0 a1 s) := by
  unfold overcurrentTrip
  with_reducible repeat' (first | assumption | (refine convert_kept' hR (by assumption) ?_) | (refine State.modSp_kept hR ?_) | (refine State.ev_kept hR ?_) | (refine enterSp_kept hR ?_) | (intro x; try (refine Kept.cut (R := R) (s0 := s0) (x := x) ?_ ?_; unfold x; rotate_left; clear_value x; intro h)) | lift_lets | (refine Kept.ite ?_ ?_) | split | dsimp only | (refine Kept.ite2 (by assumption) ?_ ?_) | (refine convert_kept hR ?_))

theorem zcConfirm_kept (hR : Kept R) {a0 a1 a2} (h : R s0 s) : R s0 (zcConfirm a0 a1 a2 s) := by
  unfold zcConfirm
  with_reducible repeat' (first | assumption | (refine State.divFree_kept' hR (by assumption) ?_) | (refine State.modSp_kept hR ?_) | (intro x; try (refine Kept.cut (R := R) (s0 := s0) (x := x) ?_ ?_; unfold x; rotate_left; clear_value x; intro h)) | lift_lets | (refine Kept.ite ?_ ?_) | split | dsimp only | (refine Kept.ite2 (by assumption) ?_ ?_) | (refine State.divFree_kept hR ?_))

theorem stepOn_kept (hR : Kept R) {a1 a2} (h : R s0 s) : R s0 (stepOn s a1 a2) := by
  unfold stepOn
  with_reducible repeat' (first | assumption | (refine hR.set ?_) | (refine measure_kept hR ?_) | (refine State.modSp_kept hR ?_) | (intro x; try (refine Kept.cut (R := R) (s0 := s0) (x := x) ?_ ?_; unfold x; rotate_left; clear_value x; intro h)) | lift_lets | split | dsimp only)

theorem enterRun_kept (hR : Kept R) {a1} (h : R s0 s) : R s0 (enterRun s a1) := by
  unfold enterRun
  with_reducible repeat' (first | assumption | (refine State.ev_kept hR ?_) | (refine enterSp_kept hR ?_) | (refine State.modSp_kept hR ?_) | (refine hR.set ?_) | (refine State.fresh_kept' hR (by assumption) ?_) | (refine State.iff_kept hR ?_ fun s h => ?_) | (refine releaseSlot_kept hR ?_) | (refine spRequest_kept hR ?_) | (intro x; try (refine Kept.cut (R := R) (s0 := s0) (x := x) ?_ ?_; unfold x; rotate_left; clear_value x; intro h)) | lift_lets | split | dsimp only | (refine State.fresh_kept hR ?_))

theorem afterStep_kept (hR : Kept R) {a1} (h : R s0 s) : R s0 (afterStep s a1) := by
  unfold afterStep
  with_reducible repeat' (first | assumption | (refine chopReturn_kept hR ?_) | (refine State.iff_kept hR ?_ fun s h => ?_) | (refine regenCheck_kept hR ?_) | (refine enterSp_kept hR ?_) | (refine noteSpeed_kept hR ?_) | (refine State.modSp_kept hR ?_) | (intro x; try (refine Kept.cut (R := R) (s0 := s0) (x := x) ?_ ?_; unfold x; rotate_left; clear_value x; intro h)) | lift_lets | (refine Kept.ite ?_ ?_) | split | dsimp only)

theorem handover_kept (hR : Kept R) {a0} (h : R s0 s) : R s0 (handover a0 s) := by
  unfold handover
  with_reducible repeat' (first | assumption | (refine stepOn_kept hR ?_) | (refine State.modSp_kept hR ?_) | (refine enterRun_kept hR ?_) | (intro x; try (refine Kept.cut (R := R) (s0 := s0) (x := x) ?_ ?_; unfold x; rotate_left; clear_value x; intro h)) | lift_lets | (refine Kept.ite ?_ ?_) | split | dsimp only)

theorem commutate_kept (hR : Kept R) {a0} (h : R s0 s) : R s0 (commutate a0 s) := by
  unfold commutate
  with_reducible repeat' (first | assumption | (refine afterStep_kept hR ?_) | (refine State.modSp_kept hR ?_) | (refine stepOn_kept hR ?_) | (refine handover_kept hR ?_) | (refine Kept.ite ?_ ?_) | split)

theorem missedZc_kept (hR : Kept R) {a0} (h : R s0 s) : R s0 (missedZc a0 s) := by
  unfold missedZc
  with_reducible repeat' (first | assumption | (refine State.divFree_kept' hR (by assumption) ?_) | (refine State.bump_kept hR ?_) | (refine State.ev_kept hR ?_) | (refine State.modSp_kept hR ?_) | (refine stepOn_kept hR ?_) | (refine enterSp_kept hR ?_) | (refine tryCatch_kept hR ?_) | (refine afterStep_kept hR ?_) | (intro x; try (refine Kept.cut (R := R) (s0 := s0) (x := x) ?_ ?_; unfold x; rotate_left; clear_value x; intro h)) | lift_lets | (refine Kept.ite ?_ ?_) | split | dsimp only | (refine Kept.ite2 (by assumption) ?_ ?_) | (refine State.divFree_kept hR ?_))

theorem catchSample_kept (hR : Kept R) {a0 a2 a3} (h : R s0 s) : R s0 (catchSample a0 s a2 a3).2 := by
  unfold catchSample
  with_reducible repeat' (first | assumption | (refine convert_kept' hR (by assumption) ?_) | (intro x; try (refine Kept.cut (R := R) (s0 := s0) (x := x) ?_ ?_; unfold x; rotate_left; clear_value x; intro h)) | lift_lets | dsimp only | (refine convert_kept hR ?_))
theorem catchSample_kept' (hR : Kept R) {a0 a2 a3 v t} (e : catchSample a0 s a2 a3 = (v, t)) (h : R s0 s) : R s0 t := by
  have q : R s0 (catchSample a0 s a2 a3).2 := catchSample_kept hR h
  rw [e] at q
  exact q

theorem catchRun_kept (hR : Kept R) {a1 a2} (h : R s0 s) : R s0 (catchRun s a1 a2).2 := by
  unfold catchRun
  with_reducible repeat' (first | assumption | (refine catchSample_kept' hR (by assumption) ?_) | (refine Kept.fold ?_ fun p a h => ?_) | (refine Kept.fold1 ?_ fun p a h => ?_) | (refine catchSample_kept hR ?_))
theorem catchRun_kept' (hR : Kept R) {a1 a2 v t} (e : catchRun s a1 a2 = (v, t)) (h : R s0 s) : R s0 t := by
  have q : R s0 (catchRun s a1 a2).2 := catchRun_kept hR h
  rw [e] at q
  exact q

theorem catchForward_kept (hR : Kept R) {a1} (h : R s0 s) : R s0 (catchForward s a1).2 := by
  unfold catchForward
  with_reducible repeat' (first | assumption | (refine State.coin_kept' hR (by assumption) ?_) | (intro x; try (refine Kept.cut (R := R) (s0 := s0) (x := x) ?_ ?_; unfold x; rotate_left; clear_value x; intro h)) | lift_lets | (refine Kept.ite ?_ ?_) | split | dsimp only | (refine State.coin_kept hR ?_))
theorem catchForward_kept' (hR : Kept R) {a1 v t} (e : catchForward s a1 = (v, t)) (h : R s0 s) : R s0 t := by
  have q : R s0 (catchForward s a1).2 := catchForward_kept hR h
  rw [e] at q
  exact q

theorem catchEnd_kept (hR : Kept R) {a0 a1} (h : R s0 s) : R s0 (catchEnd a0 a1 s) := by
  unfold catchEnd
  with_reducible repeat' (first | assumption | (refine catchRun_kept' hR (by assumption) ?_) | (refine State.divFree_kept' hR (by assumption) ?_) | (refine catchForward_kept' hR (by assumption) ?_) | (refine hR.set ?_) | (refine askSlot_kept hR ?_) | (refine enterSp_kept hR ?_) | (refine State.modSp_kept hR ?_) | (refine enterRun_kept hR ?_) | (refine measure_kept hR ?_) | (intro x; try (refine Kept.cut (R := R) (s0 := s0) (x := x) ?_ ?_; unfold x; rotate_left; clear_value x; intro h)) | lift_lets | (refine Kept.ite ?_ ?_) | split | dsimp only | (refine Kept.ite2 (by assumption) ?_ ?_) | (refine catchRun_kept hR ?_) | (refine State.divFree_kept hR ?_) | (refine catchForward_kept hR ?_))

theorem brakeEnd_kept (hR : Kept R) {a0} (h : R s0 s) : R s0 (brakeEnd a0 s) := by
  unfold brakeEnd
  with_reducible repeat' (first | assumption | (refine State.ev_kept hR ?_) | (refine enterSp_kept hR ?_) | (refine Kept.ite ?_ ?_) | split)

theorem slotGrant_kept (hR : Kept R) {a0} (h : R s0 s) : R s0 (slotGrant a0 s) := by
  unfold slotGrant
  with_reducible repeat' (first | assumption | (refine State.modSp_kept hR ?_) | (refine hR.set ?_) | (refine State.modBus_kept hR ?_) | (refine refreshBus_kept hR ?_) | (refine enterSp_kept hR ?_) | (intro x; try (refine Kept.cut (R := R) (s0 := s0) (x := x) ?_ ?_; unfold x; rotate_left; clear_value x; intro h)) | lift_lets | (refine Kept.ite ?_ ?_) | split | dsimp only)

theorem alignEnd_kept (hR : Kept R) {a0} (h : R s0 s) : R s0 (alignEnd a0 s) := by
  unfold alignEnd
  with_reducible repeat' (first | assumption | (refine enterSp_kept hR ?_) | (refine State.modSp_kept hR ?_) | (refine Kept.ite ?_ ?_) | split)

theorem openHoldFail_kept (hR : Kept R) {a0} (h : R s0 s) : R s0 (openHoldFail a0 s) := by
  unfold openHoldFail
  with_reducible repeat' (first | assumption | (refine State.modSp_kept hR ?_) | (refine State.ev_kept hR ?_) | (refine enterSp_kept hR ?_) | (intro x; try (refine Kept.cut (R := R) (s0 := s0) (x := x) ?_ ?_; unfold x; rotate_left; clear_value x; intro h)) | lift_lets | (refine Kept.ite ?_ ?_) | split | dsimp only)

theorem coastEnd_kept (hR : Kept R) {a0} (h : R s0 s) : R s0 (coastEnd a0 s) := by
  unfold coastEnd
  with_reducible repeat' (first | assumption | (refine State.modSp_kept hR ?_) | (refine enterSp_kept hR ?_) | (intro x; try (refine Kept.cut (R := R) (s0 := s0) (x := x) ?_ ?_; unfold x; rotate_left; clear_value x; intro h)) | lift_lets | (refine Kept.ite ?_ ?_) | split | dsimp only)

theorem stopBrakeEnd_kept (hR : Kept R) {a0} (h : R s0 s) : R s0 (stopBrakeEnd a0 s) := by
  unfold stopBrakeEnd
  with_reducible repeat' (first | assumption | (refine tryCatch_kept hR ?_) | (refine enterSp_kept hR ?_) | (refine Kept.ite ?_ ?_) | split)

theorem spSetWrite_kept (hR : Kept R) {a0 a1} (h : R s0 s) : R s0 (spSetWrite a0 a1 s) := by
  unfold spSetWrite
  with_reducible repeat' (first | assumption | (refine State.ev_kept hR ?_) | (refine hR.set ?_) | (refine State.modSp_kept hR ?_) | (refine noteSpeed_kept hR ?_) | (refine rampFrom_kept hR ?_) | (refine enterSp_kept hR ?_) | (refine tryCatch_kept hR ?_) | (intro x; try (refine Kept.cut (R := R) (s0 := s0) (x := x) ?_ ?_; unfold x; rotate_left; clear_value x; intro h)) | lift_lets | (refine Kept.ite ?_ ?_) | split | dsimp only)

theorem spEnableWrite_kept (hR : Kept R) {a0 a1} (h : R s0 s) : R s0 (spEnableWrite a0 a1 s) := by
  unfold spEnableWrite
  with_reducible repeat' (first | assumption | (refine State.modSp_kept hR ?_) | (refine hR.set ?_) | (refine tryCatch_kept hR ?_) | (refine coast_kept hR ?_) | (intro x; try (refine Kept.cut (R := R) (s0 := s0) (x := x) ?_ ?_; unfold x; rotate_left; clear_value x; intro h)) | lift_lets | (refine Kept.ite ?_ ?_) | split | dsimp only)

theorem motEnable_kept (hR : Kept R) {a1} (h : R s0 s) : R s0 (motEnable s a1) := by
  unfold motEnable
  with_reducible repeat' (first | assumption | (refine hR.set ?_) | (refine State.each_kept hR ?_ fun s a h => ?_) | (refine tryCatch_kept hR ?_) | (refine coast_kept hR ?_) | (intro x; try (refine Kept.cut (R := R) (s0 := s0) (x := x) ?_ ?_; unfold x; rotate_left; clear_value x; intro h)) | lift_lets | (refine Kept.ite ?_ ?_) | split | dsimp only)

theorem faultClr_kept (hR : Kept R) {a0} (h : R s0 s) : R s0 (faultClr a0 s) := by
  unfold faultClr
  with_reducible repeat' (first | assumption | (refine tryCatch_kept hR ?_) | (refine enterSp_kept hR ?_) | (refine Kept.ite ?_ ?_) | split)

theorem chopEnergy_kept (hR : Kept R) {a1 a2 a3} (h : R s0 s) : R s0 (chopEnergy s a1 a2 a3) := by
  unfold chopEnergy
  with_reducible repeat' (first | assumption | (refine State.divFree_kept' hR (by assumption) ?_) | (refine State.modBus_kept hR ?_) | (refine hR.set ?_) | (refine State.iff_kept hR ?_ fun s h => ?_) | (refine State.ev_kept hR ?_) | (intro x; try (refine Kept.cut (R := R) (s0 := s0) (x := x) ?_ ?_; unfold x; rotate_left; clear_value x; intro h)) | lift_lets | split | dsimp only | (refine State.divFree_kept hR ?_))

theorem frameStart_kept (hR : Kept R) {a1 a2} (h : R s0 s) : R s0 (frameStart s a1 a2) := by
  unfold frameStart
  with_reducible repeat' (first | assumption | (refine hR.set ?_) | (refine State.ev_kept hR ?_) | (refine Kept.fold ?_ fun p a h => ?_) | (refine Kept.fold1 ?_ fun p a h => ?_) | (intro x; try (refine Kept.cut (R := R) (s0 := s0) (x := x) ?_ ?_; unfold x; rotate_left; clear_value x; intro h)) | lift_lets | split | dsimp only | (refine hR.rest ?_))

theorem takeEntry_kept (hR : Kept R) {a1 a2} (h : R s0 s) : R s0 (takeEntry s a1 a2).2 := by
  unfold takeEntry
  with_reducible repeat' (first | assumption | (refine frameStart_kept hR ?_) | (intro x; try (refine Kept.cut (R := R) (s0 := s0) (x := x) ?_ ?_; unfold x; rotate_left; clear_value x; intro h)) | lift_lets | split | dsimp only)
theorem takeEntry_kept' (hR : Kept R) {a1 a2 v t} (e : takeEntry s a1 a2 = (v, t)) (h : R s0 s) : R s0 t := by
  have q : R s0 (takeEntry s a1 a2).2 := takeEntry_kept hR h
  rw [e] at q
  exact q

theorem busVoltage_kept (hR : Kept R) {a1 a2} (h : R s0 s) : R s0 (busVoltage s a1 a2) := by
  unfold busVoltage
  with_reducible repeat' (first | assumption | (refine hR.set ?_) | (refine State.iff_kept hR ?_ fun s h => ?_) | (refine State.each_kept hR ?_ fun s a h => ?_) | (refine State.ev_kept hR ?_) | (refine coast_kept hR ?_) | (intro x; try (refine Kept.cut (R := R) (s0 := s0) (x := x) ?_ ?_; unfold x; rotate_left; clear_value x; intro h)) | lift_lets | split | dsimp only)

theorem busValue_kept (hR : Kept R) {a1 a2 a3 a4} (h : R s0 s) : R s0 (busValue s a1 a2 a3 a4) := by
  unfold busValue
  with_reducible repeat' (first | assumption | (refine busVoltage_kept hR ?_) | (refine chopEnergy_kept hR ?_) | (refine Kept.ite ?_ ?_) | split)

theorem busSample_kept (hR : Kept R) {a0 a1 a2 a3} (h : R s0 s) : R s0 (busSample a0 a1 a2 a3 s) := by
  have hT : R s0 (takeEntry s a0 a3).2 := takeEntry_kept hR h
  unfold busSample
  generalize takeEntry s a0 a3 = r at hT ⊢
  obtain ⟨j, t⟩ := r
  exact refreshBus_kept hR (busValue_kept hR (convert_kept hR (hR.rest hT)))

theorem chopFault_kept (hR : Kept R) {a0 a1 a2} (h : R s0 s) : R s0 (chopFault a0 a1 a2 s) := by
  unfold chopFault
  with_reducible repeat' (first | assumption | (refine State.ev_kept hR ?_) | (refine State.each_kept hR ?_ fun s a h => ?_) | (refine State.iff_kept hR ?_ fun s h => ?_) | (refine State.modSp_kept hR ?_) | (refine refreshBus_kept hR ?_) | (intro x; try (refine Kept.cut (R := R) (s0 := s0) (x := x) ?_ ?_; unfold x; rotate_left; clear_value x; intro h)) | lift_lets | (refine Kept.ite ?_ ?_) | split | dsimp only)

theorem ovClear_kept (hR : Kept R) {a0} (h : R s0 s) : R s0 (ovClear a0 s) := by
  unfold ovClear
  with_reducible repeat' (first | assumption | (refine State.each_kept hR ?_ fun s a h => ?_) | (refine hR.set ?_) | (refine tryCatch_kept hR ?_) | (refine Kept.ite ?_ ?_) | split)

theorem i2tLimit_kept (hR : Kept R) {a0} (h : R s0 s) : R s0 (i2tLimit a0 s) := by
  unfold i2tLimit
  with_reducible repeat' (first | assumption | (refine State.modSp_kept hR ?_) | (refine hR.set ?_) | (refine State.ev_kept hR ?_) | (refine Kept.ite ?_ ?_) | split)

theorem seqEntryWrite_kept (hR : Kept R) {a0 a1} (h : R s0 s) : R s0 (seqEntryWrite a0 a1 s) := by
  unfold seqEntryWrite
  with_reducible repeat' (first | assumption | (refine State.ev_kept hR ?_) | (refine hR.set ?_) | (intro x; try (refine Kept.cut (R := R) (s0 := s0) (x := x) ?_ ?_; unfold x; rotate_left; clear_value x; intro h)) | lift_lets | (refine Kept.ite ?_ ?_) | split | dsimp only)

theorem State.modSled_kept (hR : Kept R) {a1 a2} (h : R s0 s) : R s0 (State.modSled s a1 a2) := by
  unfold State.modSled
  with_reducible repeat' (first | assumption | (refine hR.rest ?_))

theorem setPos_kept (hR : Kept R) {a1 a2} (h : R s0 s) : R s0 (setPos s a1 a2) := by
  unfold setPos
  with_reducible repeat' (first | assumption | (refine hR.set ?_))

theorem along_kept (hR : Kept R) {a1 a2 a3} (h : R s0 s) : R s0 (along s a1 a2 a3).2 := by
  unfold along
  with_reducible repeat' (first | assumption | (refine State.divFree_kept' hR (by assumption) ?_) | (refine Kept.ite ?_ ?_) | split | (refine State.divFree_kept hR ?_))
theorem along_kept' (hR : Kept R) {a1 a2 a3 v t} (e : along s a1 a2 a3 = (v, t)) (h : R s0 s) : R s0 t := by
  have q : R s0 (along s a1 a2 a3).2 := along_kept hR h
  rw [e] at q
  exact q

theorem rampSeg_kept (hR : Kept R) {a1 a2 a3} (h : R s0 s) : R s0 (rampSeg s a1 a2 a3).2 := by
  unfold rampSeg
  with_reducible repeat' (first | assumption | (refine State.divFree_kept' hR (by assumption) ?_) | (intro x; try (refine Kept.cut (R := R) (s0 := s0) (x := x) ?_ ?_; unfold x; rotate_left; clear_value x; intro h)) | lift_lets | split | dsimp only | (refine State.divFree_kept hR ?_))
theorem rampSeg_kept' (hR : Kept R) {a1 a2 a3 v t} (e : rampSeg s a1 a2 a3 = (v, t)) (h : R s0 s) : R s0 t := by
  have q : R s0 (rampSeg s a1 a2 a3).2 := rampSeg_kept hR h
  rw [e] at q
  exact q

theorem stopSeg_kept (hR : Kept R) {a1 a2} (h : R s0 s) : R s0 (stopSeg s a1 a2).2 := by
  unfold stopSeg
  with_reducible repeat' (first | assumption | (refine State.divFree_kept' hR (by assumption) ?_) | (intro x; try (refine Kept.cut (R := R) (s0 := s0) (x := x) ?_ ?_; unfold x; rotate_left; clear_value x; intro h)) | lift_lets | (refine Kept.ite ?_ ?_) | split | dsimp only | (refine Kept.ite2 (by assumption) ?_ ?_) | (refine State.divFree_kept hR ?_))
theorem stopSeg_kept' (hR : Kept R) {a1 a2 v t} (e : stopSeg s a1 a2 = (v, t)) (h : R s0 s) : R s0 t := by
  have q : R s0 (stopSeg s a1 a2).2 := stopSeg_kept hR h
  rw [e] at q
  exact q

theorem cruiseSeg_kept (hR : Kept R) {a1 a2} (h : R s0 s) : R s0 (cruiseSeg s a1 a2).2 := by
  unfold cruiseSeg
  with_reducible repeat' (first | assumption | (refine State.divFree_kept' hR (by assumption) ?_) | (intro x; try (refine Kept.cut (R := R) (s0 := s0) (x := x) ?_ ?_; unfold x; rotate_left; clear_value x; intro h)) | lift_lets | split | dsimp only | (refine State.divFree_kept hR ?_))
theorem cruiseSeg_kept' (hR : Kept R) {a1 a2 v t} (e : cruiseSeg s a1 a2 = (v, t)) (h : R s0 s) : R s0 t := by
  have q : R s0 (cruiseSeg s a1 a2).2 := cruiseSeg_kept hR h
  rw [e] at q
  exact q

theorem State.sqrtFree_kept (hR : Kept R) {a1} (h : R s0 s) : R s0 (State.sqrtFree s a1).2 := by
  unfold State.sqrtFree
  with_reducible repeat' (first | assumption | (refine State.coin_kept' hR (by assumption) ?_) | (intro x; try (refine Kept.cut (R := R) (s0 := s0) (x := x) ?_ ?_; unfold x; rotate_left; clear_value x; intro h)) | lift_lets | (refine Kept.ite ?_ ?_) | split | dsimp only | (refine Kept.ite2 (by assumption) ?_ ?_) | (refine State.coin_kept hR ?_))
theorem State.sqrtFree_kept' (hR : Kept R) {a1 v t} (e : State.sqrtFree s a1 = (v, t)) (h : R s0 s) : R s0 t := by
  have q : R s0 (State.sqrtFree s a1).2 := State.sqrtFree_kept hR h
  rw [e] at q
  exact q

theorem planToward_kept (hR : Kept R) {a1 a2 a3 a4 a5} (h : R s0 s) : R s0 (planToward s a1 a2 a3 a4 a5).2 := by
  unfold planToward
  with_reducible repeat' (first | assumption | (refine State.divFree_kept' hR (by assumption) ?_) | (refine State.sqrtFree_kept' hR (by assumption) ?_) | (refine rampSeg_kept' hR (by assumption) ?_) | (refine stopSeg_kept' hR (by assumption) ?_) | (refine cruiseSeg_kept' hR (by assumption) ?_) | (intro x; try (refine Kept.cut (R := R) (s0 := s0) (x := x) ?_ ?_; unfold x; rotate_left; clear_value x; intro h)) | lift_lets | (refine Kept.ite ?_ ?_) | split | dsimp only | (refine Kept.ite2 (by assumption) ?_ ?_) | (refine State.divFree_kept hR ?_) | (refine State.sqrtFree_kept hR ?_) | (refine rampSeg_kept hR ?_) | (refine stopSeg_kept hR ?_) | (refine cruiseSeg_kept hR ?_))
theorem planToward_kept' (hR : Kept R) {a1 a2 a3 a4 a5 v t} (e : planToward s a1 a2 a3 a4 a5 = (v, t)) (h : R s0 s) : R s0 t := by
  have q : R s0 (planToward s a1 a2 a3 a4 a5).2 := planToward_kept hR h
  rw [e] at q
  exact q

theorem planTo_kept (hR : Kept R) {a1 a2 a3 a4 a5} (h : R s0 s) : R s0 (planTo s a1 a2 a3 a4 a5).2 := by
  unfold planTo
  with_reducible repeat' (first | assumption | (refine planToward_kept' hR (by assumption) ?_) | (refine rampSeg_kept' hR (by assumption) ?_) | (intro x; try (refine Kept.cut (R := R) (s0 := s0) (x := x) ?_ ?_; unfold x; rotate_left; clear_value x; intro h)) | lift_lets | (refine Kept.ite ?_ ?_) | split | dsimp only | (refine Kept.ite2 (by assumption) ?_ ?_) | (refine planToward_kept hR ?_) | (refine rampSeg_kept hR ?_))
theorem planTo_kept' (hR : Kept R) {a1 a2 a3 a4 a5 v t} (e : planTo s a1 a2 a3 a4 a5 = (v, t)) (h : R s0 s) : R s0 t := by
  have q : R s0 (planTo s a1 a2 a3 a4 a5).2 := planTo_kept hR h
  rw [e] at q
  exact q

theorem blendOut_kept (hR : Kept R) {a1 a2 a3 a4} (h : R s0 s) : R s0 (blendOut s a1 a2 a3 a4).2 := by
  unfold blendOut
  with_reducible repeat' (first | assumption | (refine State.divFree_kept' hR (by assumption) ?_) | (intro x; try (refine Kept.cut (R := R) (s0 := s0) (x := x) ?_ ?_; unfold x; rotate_left; clear_value x; intro h)) | lift_lets | (refine Kept.ite ?_ ?_) | split | dsimp only | (refine Kept.ite2 (by assumption) ?_ ?_) | (refine State.divFree_kept hR ?_))
theorem blendOut_kept' (hR : Kept R) {a1 a2 a3 a4 v t} (e : blendOut s a1 a2 a3 a4 = (v, t)) (h : R s0 s) : R s0 t := by
  have q : R s0 (blendOut s a1 a2 a3 a4).2 := blendOut_kept hR h
  rw [e] at q
  exact q

theorem startPlan_kept (hR : Kept R) {a1 a2} (h : R s0 s) : R s0 (startPlan s a1 a2) := by
  unfold startPlan
  with_reducible repeat' (first | assumption | (refine State.modSled_kept hR ?_) | (intro x; try (refine Kept.cut (R := R) (s0 := s0) (x := x) ?_ ?_; unfold x; rotate_left; clear_value x; intro h)) | lift_lets | dsimp only)

theorem planPos_kept (hR : Kept R) {a1} (h : R s0 s) : R s0 (planPos s a1).2 := by
  unfold planPos
  with_reducible repeat' (first | assumption | (refine along_kept' hR (by assumption) ?_) | (intro x; try (refine Kept.cut (R := R) (s0 := s0) (x := x) ?_ ?_; unfold x; rotate_left; clear_value x; intro h)) | lift_lets | split | dsimp only | (refine along_kept hR ?_))
theorem planPos_kept' (hR : Kept R) {a1 v t} (e : planPos s a1 = (v, t)) (h : R s0 s) : R s0 t := by
  have q : R s0 (planPos s a1).2 := planPos_kept hR h
  rw [e] at q
  exact q

theorem freeze_kept (hR : Kept R) {a1} (h : R s0 s) : R s0 (freeze s a1) := by
  unfold freeze
  with_reducible repeat' (first | assumption | (refine planPos_kept' hR (by assumption) ?_) | (refine State.modSled_kept hR ?_) | (intro x; try (refine Kept.cut (R := R) (s0 := s0) (x := x) ?_ ?_; unfold x; rotate_left; clear_value x; intro h)) | lift_lets | split | dsimp only | (refine planPos_kept hR ?_))

theorem replan_kept (hR : Kept R) {n k} (h : R s0 s) (hk : ∀ s x v, R s0 s → R s0 (k s x v).2) : R s0 (replan s n k) := by
  unfold replan
  lift_lets
  intro x
  have hx : R s0 x := freeze_kept hR h
  clear_value x
  intro q
  split
  rename_i b t hb
  have h2 : R s0 t := blendOut_kept' hR hb hx
  split
  · split
    rename_i l u hl
    have h3 := hk _ q.x q.v h2
    rw [hl] at h3
    exact startPlan_kept hR h3
  · rename_i g
    split
    rename_i l u hl
    have h3 := hk _ (q.x + g.dist) g.v1 h2
    rw [hl] at h3
    exact startPlan_kept hR h3

theorem profiledStop_kept (hR : Kept R) {a1} (h : R s0 s) : R s0 (profiledStop s a1) := by
  unfold profiledStop
  with_reducible repeat' (first | assumption | (refine replan_kept hR ?_ fun s a b h => ?_) | (refine rampSeg_kept' hR (by assumption) ?_) | (intro x; try (refine Kept.cut (R := R) (s0 := s0) (x := x) ?_ ?_; unfold x; rotate_left; clear_value x; intro h)) | lift_lets | (refine Kept.ite ?_ ?_) | split | dsimp only | (refine Kept.ite2 (by assumption) ?_ ?_) | (refine rampSeg_kept hR ?_))

theorem runAt_kept (hR : Kept R) {a1 a2} (h : R s0 s) : R s0 (runAt s a1 a2) := by
  unfold runAt
  with_reducible repeat' (first | assumption | (refine replan_kept hR ?_ fun s a b h => ?_) | (refine rampSeg_kept' hR (by assumption) ?_) | (refine cruiseSeg_kept' hR (by assumption) ?_) | (intro x; try (refine Kept.cut (R := R) (s0 := s0) (x := x) ?_ ?_; unfold x; rotate_left; clear_value x; intro h)) | lift_lets | (refine Kept.ite ?_ ?_) | split | dsimp only | (refine Kept.ite2 (by assumption) ?_ ?_) | (refine rampSeg_kept hR ?_) | (refine cruiseSeg_kept hR ?_))

theorem showMoving_kept (hR : Kept R) {a1} (h : R s0 s) : R s0 (showMoving s a1) := by
  unfold showMoving
  with_reducible repeat' (first | assumption | (refine hR.set ?_) | (refine Kept.ite ?_ ?_) | split)

theorem uncertain_kept (hR : Kept R) {a1 a2} (h : R s0 s) : R s0 (uncertain s a1 a2) := by
  unfold uncertain
  with_reducible repeat' (first | assumption | (refine hR.set ?_) | (refine Kept.ite ?_ ?_) | split)

theorem dropPlan_kept (hR : Kept R) {a1} (h : R s0 s) : R s0 (dropPlan s a1) := by
  unfold dropPlan
  with_reducible repeat' (first | assumption | (refine State.modSled_kept hR ?_) | (refine hR.set ?_) | (intro x; try (refine Kept.cut (R := R) (s0 := s0) (x := x) ?_ ?_; unfold x; rotate_left; clear_value x; intro h)) | lift_lets | dsimp only)

theorem stopAtOnce_kept (hR : Kept R) {a1} (h : R s0 s) : R s0 (stopAtOnce s a1) := by
  unfold stopAtOnce
  with_reducible repeat' (first | assumption | (refine State.modSled_kept hR ?_) | (refine dropPlan_kept hR ?_) | (refine hR.set ?_) | (refine State.iff_kept hR ?_ fun s h => ?_) | (refine State.ev_kept hR ?_) | (refine uncertain_kept hR ?_) | (refine showMoving_kept hR ?_) | (intro x; try (refine Kept.cut (R := R) (s0 := s0) (x := x) ?_ ?_; unfold x; rotate_left; clear_value x; intro h)) | lift_lets | (refine Kept.ite ?_ ?_) | split | dsimp only)

theorem homeBack_kept (hR : Kept R) {a1} (h : R s0 s) : R s0 (homeBack s a1) := by
  unfold homeBack
  with_reducible repeat' (first | assumption | (refine runAt_kept hR ?_) | (refine hR.set ?_) | (refine State.modSled_kept hR ?_) | (intro x; try (refine Kept.cut (R := R) (s0 := s0) (x := x) ?_ ?_; unfold x; rotate_left; clear_value x; intro h)) | lift_lets | dsimp only)

theorem homeSeek_kept (hR : Kept R) {a1} (h : R s0 s) : R s0 (homeSeek s a1) := by
  unfold homeSeek
  with_reducible repeat' (first | assumption | (refine runAt_kept hR ?_) | (refine hR.set ?_) | (refine State.modSled_kept hR ?_) | (intro x; try (refine Kept.cut (R := R) (s0 := s0) (x := x) ?_ ?_; unfold x; rotate_left; clear_value x; intro h)) | lift_lets | dsimp only)

theorem homeApproach_kept (hR : Kept R) {a1} (h : R s0 s) : R s0 (homeApproach s a1) := by
  unfold homeApproach
  with_reducible repeat' (first | assumption | (refine runAt_kept hR ?_) | (refine hR.set ?_) | (refine State.modSled_kept hR ?_) | (intro x; try (refine Kept.cut (R := R) (s0 := s0) (x := x) ?_ ?_; unfold x; rotate_left; clear_value x; intro h)) | lift_lets | dsimp only)

theorem homeStart_kept (hR : Kept R) {a1} (h : R s0 s) : R s0 (homeStart s a1) := by
  unfold homeStart
  with_reducible repeat' (first | assumption | (refine hR.set ?_) | (refine homeBack_kept hR ?_) | (refine homeSeek_kept hR ?_) | (intro x; try (refine Kept.cut (R := R) (s0 := s0) (x := x) ?_ ?_; unfold x; rotate_left; clear_value x; intro h)) | lift_lets | (refine Kept.ite ?_ ?_) | split | dsimp only)

theorem homeFinish_kept (hR : Kept R) {a1} (h : R s0 s) : R s0 (homeFinish s a1) := by
  unfold homeFinish
  with_reducible repeat' (first | assumption | (refine dropPlan_kept hR ?_) | (refine setPos_kept hR ?_) | (refine hR.set ?_) | (refine State.ev_kept hR ?_) | (intro x; try (refine Kept.cut (R := R) (s0 := s0) (x := x) ?_ ?_; unfold x; rotate_left; clear_value x; intro h)) | lift_lets | dsimp only)

theorem homeRest_kept (hR : Kept R) {a1} (h : R s0 s) : R s0 (homeRest s a1) := by
  unfold homeRest
  with_reducible repeat' (first | assumption | (refine homeBack_kept hR ?_) | (refine homeApproach_kept hR ?_) | (refine homeFinish_kept hR ?_) | split)

theorem homeStop_kept (hR : Kept R) {a1 a2} (h : R s0 s) : R s0 (homeStop s a1 a2) := by
  unfold homeStop
  with_reducible repeat' (first | assumption | (refine State.modSled_kept hR ?_) | (refine profiledStop_kept hR ?_))

theorem homeCheck_kept (hR : Kept R) {a1 a2} (h : R s0 s) : R s0 (homeCheck s a1 a2) := by
  unfold homeCheck
  with_reducible repeat' (first | assumption | (refine homeStop_kept hR ?_) | (refine stopAtOnce_kept hR ?_) | (intro x; try (refine Kept.cut (R := R) (s0 := s0) (x := x) ?_ ?_; unfold x; rotate_left; clear_value x; intro h)) | lift_lets | (refine Kept.ite ?_ ?_) | split | dsimp only)

theorem takeMode_kept (hR : Kept R) {a1 a2} (h : R s0 s) : R s0 (takeMode s a1 a2) := by
  unfold takeMode
  with_reducible repeat' (first | assumption | (refine State.modSled_kept hR ?_) | (refine hR.set ?_) | (refine uncertain_kept hR ?_) | (refine dropPlan_kept hR ?_) | (refine freeze_kept hR ?_) | (refine homeStart_kept hR ?_) | (refine profiledStop_kept hR ?_) | (intro x; try (refine Kept.cut (R := R) (s0 := s0) (x := x) ?_ ?_; unfold x; rotate_left; clear_value x; intro h)) | lift_lets | (refine Kept.ite ?_ ?_) | split | dsimp only)

theorem takeTarget_kept (hR : Kept R) {a1 a2 a3} (h : R s0 s) : R s0 (takeTarget s a1 a2 a3) := by
  unfold takeTarget
  with_reducible repeat' (first | assumption | (refine planPos_kept' hR (by assumption) ?_) | (refine State.modSled_kept hR ?_) | (refine replan_kept hR ?_ fun s a b h => ?_) | (refine planTo_kept' hR (by assumption) ?_) | (intro x; try (refine Kept.cut (R := R) (s0 := s0) (x := x) ?_ ?_; unfold x; rotate_left; clear_value x; intro h)) | lift_lets | (refine Kept.ite ?_ ?_) | split | dsimp only | (refine Kept.ite2 (by assumption) ?_ ?_) | (refine planPos_kept hR ?_) | (refine planTo_kept hR ?_))

theorem followTick_kept (hR : Kept R) {a1} (h : R s0 s) : R s0 (followTick s a1) := by
  unfold followTick
  with_reducible repeat' (first | assumption | (refine State.iff_kept hR ?_ fun s h => ?_) | (refine State.ev_kept hR ?_) | (refine State.divFree_kept' hR (by assumption) ?_) | (refine stopSeg_kept' hR (by assumption) ?_) | (refine startPlan_kept hR ?_) | (refine State.modSled_kept hR ?_) | (intro x; try (refine Kept.cut (R := R) (s0 := s0) (x := x) ?_ ?_; unfold x; rotate_left; clear_value x; intro h)) | lift_lets | (refine Kept.ite ?_ ?_) | split | dsimp only | (refine Kept.ite2 (by assumption) ?_ ?_) | (refine State.divFree_kept hR ?_) | (refine stopSeg_kept hR ?_))

theorem sledAdvance_kept (hR : Kept R) {n k t} (h : R s0 s) : R s0 (sledAdvance s n k t) := by
  induction k generalizing s t with
  | zero => exact h
  | succ k ih =>
    unfold sledAdvance
    dsimp only
    split
    · exact h
    · split
      · exact ih (State.modSled_kept hR h)
      · exact State.modSled_kept hR (State.divFree_kept hR (State.divFree_kept hR h))

theorem stepInterval_kept (hR : Kept R) {a1 a2 a3 a4} (h : R s0 s) : R s0 (stepInterval s a1 a2 a3 a4).2 := by
  unfold stepInterval
  with_reducible repeat' (first | assumption | (refine State.fresh_kept' hR (by assumption) ?_) | (intro x; try (refine Kept.cut (R := R) (s0 := s0) (x := x) ?_ ?_; unfold x; rotate_left; clear_value x; intro h)) | lift_lets | (refine Kept.ite ?_ ?_) | split | dsimp only | (refine State.fresh_kept hR ?_))
theorem stepInterval_kept' (hR : Kept R) {a1 a2 a3 a4 v t} (e : stepInterval s a1 a2 a3 a4 = (v, t)) (h : R s0 s) : R s0 t := by
  have q : R s0 (stepInterval s a1 a2 a3 a4).2 := stepInterval_kept hR h
  rw [e] at q
  exact q

theorem coarse_kept (hR : Kept R) {a1 a2 a3 a4} (h : R s0 s) : R s0 (coarse s a1 a2 a3 a4) := by
  unfold coarse
  with_reducible repeat' (first | assumption | (refine stepInterval_kept' hR (by assumption) ?_) | (refine State.divFree_kept' hR (by assumption) ?_) | (refine State.modSled_kept hR ?_) | (intro x; try (refine Kept.cut (R := R) (s0 := s0) (x := x) ?_ ?_; unfold x; rotate_left; clear_value x; intro h)) | lift_lets | (refine Kept.ite ?_ ?_) | split | dsimp only | (refine Kept.ite2 (by assumption) ?_ ?_) | (refine stepInterval_kept hR ?_) | (refine State.divFree_kept hR ?_))

theorem shorten_kept (hR : Kept R) {a1 a2} (h : R s0 s) : R s0 (shorten s a1 a2) := by
  unfold shorten
  with_reducible repeat' (first | assumption | (refine State.divFree_kept' hR (by assumption) ?_) | (refine State.modSled_kept hR ?_) | (intro x; try (refine Kept.cut (R := R) (s0 := s0) (x := x) ?_ ?_; unfold x; rotate_left; clear_value x; intro h)) | lift_lets | (refine Kept.ite ?_ ?_) | split | dsimp only | (refine Kept.ite2 (by assumption) ?_ ?_) | (refine State.divFree_kept hR ?_))

theorem events_kept (hR : Kept R) {a1 a2 a3} (h : R s0 s) : R s0 (events s a1 a2 a3) := by
  unfold events
  with_reducible repeat' (first | assumption | (refine State.modSled_kept hR ?_) | (refine coarse_kept hR ?_) | (refine shorten_kept hR ?_) | (intro x; try (refine Kept.cut (R := R) (s0 := s0) (x := x) ?_ ?_; unfold x; rotate_left; clear_value x; intro h)) | lift_lets | (refine Kept.ite ?_ ?_) | split | dsimp only)

theorem settleRest_kept (hR : Kept R) {a1} (h : R s0 s) : R s0 (settleRest s a1) := by
  unfold settleRest
  with_reducible repeat' (first | assumption | (refine State.divFree_kept' hR (by assumption) ?_) | (refine State.modSled_kept hR ?_) | (refine homeRest_kept hR ?_) | (refine State.iff_kept hR ?_ fun s h => ?_) | (intro x; try (refine Kept.cut (R := R) (s0 := s0) (x := x) ?_ ?_; unfold x; rotate_left; clear_value x; intro h)) | lift_lets | (refine Kept.ite ?_ ?_) | split | dsimp only | (refine Kept.ite2 (by assumption) ?_ ?_) | (refine State.divFree_kept hR ?_))

theorem loseSled_kept (hR : Kept R) {a1} (h : R s0 s) : R s0 (loseSled s a1) := by
  unfold loseSled
  with_reducible repeat' (first | assumption | (refine uncertain_kept hR ?_) | (refine stopAtOnce_kept hR ?_) | (intro x; try (refine Kept.cut (R := R) (s0 := s0) (x := x) ?_ ?_; unfold x; rotate_left; clear_value x; intro h)) | lift_lets | dsimp only)

theorem dropClaim_kept (hR : Kept R) {a1} (h : R s0 s) : R s0 (dropClaim s a1) := by
  unfold dropClaim
  with_reducible repeat' (first | assumption | (refine loseSled_kept hR ?_) | (refine State.modSled_kept hR ?_) | (refine Kept.ite ?_ ?_) | split)

theorem extServe_kept (hR : Kept R) {a1} (h : R s0 s) : R s0 (extServe s a1) := by
  unfold extServe
  with_reducible repeat' (first | assumption | (refine State.modSled_kept hR ?_) | (intro x; try (refine Kept.cut (R := R) (s0 := s0) (x := x) ?_ ?_; unfold x; rotate_left; clear_value x; intro h)) | lift_lets | (refine Kept.ite ?_ ?_) | split | dsimp only)

theorem sledSpeed_kept (hR : Kept R) {a1} (h : R s0 s) : R s0 (sledSpeed s a1).2 := by
  unfold sledSpeed
  with_reducible repeat' (first | assumption | (refine State.divFree_kept' hR (by assumption) ?_) | (intro x; try (refine Kept.cut (R := R) (s0 := s0) (x := x) ?_ ?_; unfold x; rotate_left; clear_value x; intro h)) | lift_lets | (refine Kept.ite ?_ ?_) | split | dsimp only | (refine State.divFree_kept hR ?_))
theorem sledSpeed_kept' (hR : Kept R) {a1 v t} (e : sledSpeed s a1 = (v, t)) (h : R s0 s) : R s0 t := by
  have q : R s0 (sledSpeed s a1).2 := sledSpeed_kept hR h
  rw [e] at q
  exact q

theorem sledTick_kept (hR : Kept R) {a1} (h : R s0 s) : R s0 (sledTick s a1) := by
  unfold sledTick
  with_reducible repeat' (first | assumption | (refine State.modSled_kept hR ?_) | (refine dropClaim_kept hR ?_) | (refine hR.set ?_) | (refine showMoving_kept hR ?_) | (refine dropPlan_kept hR ?_) | (refine takeMode_kept hR ?_) | (refine takeTarget_kept hR ?_) | (refine planPos_kept' hR (by assumption) ?_) | (refine followTick_kept hR ?_) | (refine sledAdvance_kept hR ?_) | (refine State.iff_kept hR ?_ fun s h => ?_) | (refine State.ev_kept hR ?_) | (refine homeCheck_kept hR ?_) | (refine settleRest_kept hR ?_) | (refine events_kept hR ?_) | (refine extServe_kept hR ?_) | (refine sledSpeed_kept' hR (by assumption) ?_) | (refine State.divFree_kept' hR (by assumption) ?_) | (intro x; try (refine Kept.cut (R := R) (s0 := s0) (x := x) ?_ ?_; unfold x; rotate_left; clear_value x; intro h)) | lift_lets | (refine Kept.ite ?_ ?_) | split | dsimp only | (refine Kept.ite2 (by assumption) ?_ ?_) | (refine planPos_kept hR ?_) | (refine sledSpeed_kept hR ?_) | (refine State.divFree_kept hR ?_))

theorem plannerTick_kept (hR : Kept R) (h : R s0 s) : R s0 (plannerTick s) := by
  unfold plannerTick
  with_reducible repeat' (first | assumption | (refine State.each_kept hR ?_ fun s a h => ?_) | (refine sledTick_kept hR ?_))

theorem sledTargetWrite_kept (hR : Kept R) {a0 a1} (h : R s0 s) : R s0 (sledTargetWrite a0 a1 s) := by
  unfold sledTargetWrite
  with_reducible repeat' (first | assumption | (refine State.modSled_kept hR ?_) | (refine hR.set ?_) | (refine State.ev_kept hR ?_) | (intro x; try (refine Kept.cut (R := R) (s0 := s0) (x := x) ?_ ?_; unfold x; rotate_left; clear_value x; intro h)) | lift_lets | (refine Kept.ite ?_ ?_) | split | dsimp only)

theorem sledModeWrite_kept (hR : Kept R) {a0 a1} (h : R s0 s) : R s0 (sledModeWrite a0 a1 s) := by
  unfold sledModeWrite
  with_reducible repeat' (first | assumption | (refine State.ev_kept hR ?_) | (refine State.modSled_kept hR ?_) | (refine hR.set ?_) | (refine Kept.ite ?_ ?_) | split)

theorem moveDone_kept (hR : Kept R) {a0} (h : R s0 s) : R s0 (moveDone a0 s) := by
  unfold moveDone
  with_reducible repeat' (first | assumption | (refine showMoving_kept hR ?_) | (refine State.ev_kept hR ?_) | (refine State.modSled_kept hR ?_) | (intro x; try (refine Kept.cut (R := R) (s0 := s0) (x := x) ?_ ?_; unfold x; rotate_left; clear_value x; intro h)) | lift_lets | (refine Kept.ite ?_ ?_) | split | dsimp only)

theorem extStep_kept (hR : Kept R) {a0 a1} (h : R s0 s) : R s0 (extStep a0 a1 s) := by
  unfold extStep
  with_reducible repeat' (first | assumption | (refine State.ev_kept hR ?_) | (refine showMoving_kept hR ?_) | (refine extServe_kept hR ?_) | (refine State.modSled_kept hR ?_) | (intro x; try (refine Kept.cut (R := R) (s0 := s0) (x := x) ?_ ?_; unfold x; rotate_left; clear_value x; intro h)) | lift_lets | (refine Kept.ite ?_ ?_) | split | dsimp only)

theorem posSet_kept (hR : Kept R) {a0 a1} (h : R s0 s) : R s0 (posSet a0 a1 s) := by
  unfold posSet
  with_reducible repeat' (first | assumption | (refine State.ev_kept hR ?_) | (refine hR.set ?_) | (refine dropPlan_kept hR ?_) | (refine setPos_kept hR ?_) | (refine Kept.ite ?_ ?_) | split)

theorem microstep_kept (hR : Kept R) {a0 a1} (h : R s0 s) : R s0 (microstep a0 a1 s) := by
  unfold microstep
  with_reducible repeat' (first | assumption | (refine setPos_kept hR ?_) | (refine showMoving_kept hR ?_) | (refine State.iff_kept hR ?_ fun s h => ?_) | (refine extServe_kept hR ?_) | (intro x; try (refine Kept.cut (R := R) (s0 := s0) (x := x) ?_ ?_; unfold x; rotate_left; clear_value x; intro h)) | lift_lets | (refine Kept.ite ?_ ?_) | split | dsimp only)

theorem edgeWindow_kept (hR : Kept R) {a1 a2} (h : R s0 s) : R s0 (edgeWindow s a1 a2).2 := by
  unfold edgeWindow
  with_reducible repeat' (first | assumption | (refine State.coin_kept' hR (by assumption) ?_) | (intro x; try (refine Kept.cut (R := R) (s0 := s0) (x := x) ?_ ?_; unfold x; rotate_left; clear_value x; intro h)) | lift_lets | (refine Kept.ite ?_ ?_) | split | dsimp only | (refine Kept.ite2 (by assumption) ?_ ?_) | (refine State.coin_kept hR ?_))
theorem edgeWindow_kept' (hR : Kept R) {a1 a2 v t} (e : edgeWindow s a1 a2 = (v, t)) (h : R s0 s) : R s0 t := by
  have q : R s0 (edgeWindow s a1 a2).2 := edgeWindow_kept hR h
  rw [e] at q
  exact q

theorem homeEdge_kept (hR : Kept R) {a0 a1 a2} (h : R s0 s) : R s0 (homeEdge a0 a1 a2 s) := by
  unfold homeEdge
  with_reducible repeat' (first | assumption | (refine hR.set ?_) | (refine edgeWindow_kept' hR (by assumption) ?_) | (refine State.modSled_kept hR ?_) | (refine stopAtOnce_kept hR ?_) | (refine State.ev_kept hR ?_) | (intro x; try (refine Kept.cut (R := R) (s0 := s0) (x := x) ?_ ?_; unfold x; rotate_left; clear_value x; intro h)) | lift_lets | (refine Kept.ite ?_ ?_) | split | dsimp only | (refine Kept.ite2 (by assumption) ?_ ?_) | (refine edgeWindow_kept hR ?_))

theorem switchQualify_kept (hR : Kept R) {a0 a1} (h : R s0 s) : R s0 (switchQualify a0 a1 s) := by
  unfold switchQualify
  with_reducible repeat' (first | assumption | (refine State.modSled_kept hR ?_) | (refine State.ev_kept hR ?_) | (refine hR.set ?_) | (refine homeStop_kept hR ?_) | (refine planPos_kept' hR (by assumption) ?_) | (refine State.iff_kept hR ?_ fun s h => ?_) | (refine stopAtOnce_kept hR ?_) | (intro x; try (refine Kept.cut (R := R) (s0 := s0) (x := x) ?_ ?_; unfold x; rotate_left; clear_value x; intro h)) | lift_lets | (refine Kept.ite ?_ ?_) | split | dsimp only | (refine Kept.ite2 (by assumption) ?_ ?_) | (refine planPos_kept hR ?_))

theorem frameClass_kept (hR : Kept R) {a1} (h : R s0 s) : R s0 (frameClass s a1).2 := by
  unfold frameClass
  with_reducible repeat' (first | assumption | (refine State.fresh_kept' hR (by assumption) ?_) | (intro x; try (refine Kept.cut (R := R) (s0 := s0) (x := x) ?_ ?_; unfold x; rotate_left; clear_value x; intro h)) | lift_lets | (refine Kept.ite ?_ ?_) | split | dsimp only | (refine Kept.ite2 (by assumption) ?_ ?_) | (refine State.fresh_kept hR ?_))
theorem frameClass_kept' (hR : Kept R) {a1 v t} (e : frameClass s a1 = (v, t)) (h : R s0 s) : R s0 t := by
  have q : R s0 (frameClass s a1).2 := frameClass_kept hR h
  rw [e] at q
  exact q

theorem ducFrame_kept (hR : Kept R) {a0} (h : R s0 s) : R s0 (ducFrame a0 s) := by
  unfold ducFrame
  with_reducible repeat' (first | assumption | (refine frameClass_kept' hR (by assumption) ?_) | (intro x; try (refine Kept.cut (R := R) (s0 := s0) (x := x) ?_ ?_; unfold x; rotate_left; clear_value x; intro h)) | lift_lets | (refine Kept.ite ?_ ?_) | split | dsimp only | (refine Kept.ite2 (by assumption) ?_ ?_) | (refine hR.rest ?_) | (refine frameClass_kept hR ?_))

theorem State.modStage_kept (hR : Kept R) {a1 a2} (h : R s0 s) : R s0 (State.modStage s a1 a2) := by
  unfold State.modStage
  with_reducible repeat' (first | assumption | (refine hR.rest ?_))

theorem stageStatus_kept (hR : Kept R) {a0 a1} (h : R s0 s) : R s0 (stageStatus a0 a1 s) := by
  unfold stageStatus
  with_reducible repeat' (first | assumption | (refine State.modStage_kept hR ?_) | (refine State.bump_kept hR ?_) | (refine hR.set ?_) | (refine State.iff_kept hR ?_ fun s h => ?_) | (refine State.modSp_kept hR ?_) | (refine dropClaim_kept hR ?_) | (refine loseSled_kept hR ?_) | (refine uncertain_kept hR ?_) | (refine State.modSled_kept hR ?_) | (refine stopAtOnce_kept hR ?_) | (refine dropPlan_kept hR ?_) | (refine setPos_kept hR ?_) | (intro x; try (refine Kept.cut (R := R) (s0 := s0) (x := x) ?_ ?_; unfold x; rotate_left; clear_value x; intro h)) | lift_lets | (refine Kept.ite ?_ ?_) | split | dsimp only | (refine Kept.ite2 (by assumption) ?_ ?_))

theorem stageLost_kept (hR : Kept R) {a0 a1} (h : R s0 s) : R s0 (stageLost a0 a1 s) := by
  unfold stageLost
  with_reducible repeat' (first | assumption | (refine State.modStage_kept hR ?_) | (refine State.ev_kept hR ?_) | (refine stopAtOnce_kept hR ?_) | (intro x; try (refine Kept.cut (R := R) (s0 := s0) (x := x) ?_ ?_; unfold x; rotate_left; clear_value x; intro h)) | lift_lets | (refine Kept.ite ?_ ?_) | split | dsimp only)

theorem refreshQuad_kept (hR : Kept R) {a1} (h : R s0 s) : R s0 (refreshQuad s a1) := by
  unfold refreshQuad
  with_reducible repeat' (first | assumption | (refine State.iff_kept hR ?_ fun s h => ?_) | (refine State.modLink_kept hR ?_) | split)

theorem enterLk_kept (hR : Kept R) {a1 a2} (h : R s0 s) : R s0 (enterLk s a1 a2) := by
  unfold enterLk
  with_reducible repeat' (first | assumption | (refine refreshQuad_kept hR ?_) | (refine hR.set ?_))

theorem enterDown_kept (hR : Kept R) {a1} (h : R s0 s) : R s0 (enterDown s a1) := by
  unfold enterDown
  with_reducible repeat' (first | assumption | (refine enterLk_kept hR ?_) | (refine hR.set ?_))

theorem startTraining_kept (hR : Kept R) {a1} (h : R s0 s) : R s0 (startTraining s a1) := by
  unfold startTraining
  with_reducible repeat' (first | assumption | (refine enterLk_kept hR ?_) | (refine hR.set ?_))

theorem trainFail_kept (hR : Kept R) {a1} (h : R s0 s) : R s0 (trainFail s a1) := by
  unfold trainFail
  with_reducible repeat' (first | assumption | (refine State.ev_kept hR ?_) | (refine enterLk_kept hR ?_))

theorem linkLoss_kept (hR : KeptMem R) {a1} (h : R s0 s) : R s0 (linkLoss s a1) := by
  unfold linkLoss
  with_reducible repeat' (first | assumption | (refine State.bump_kept hR.toKept ?_) | (refine State.ev_kept hR.toKept ?_) | (refine cutGroup_kept hR ?_) | (refine incompletePen_kept hR ?_) | (refine cutPending_kept hR ?_) | (refine State.modLink_kept hR.toKept ?_) | (refine enterDown_kept hR.toKept ?_) | (refine hR.toKept.set ?_) | (intro x; try (refine Kept.cut (R := R) (s0 := s0) (x := x) ?_ ?_; unfold x; rotate_left; clear_value x; intro h)) | lift_lets | (refine Kept.ite ?_ ?_) | split | dsimp only)

theorem lkEnableWrite_kept (hR : KeptMem R) {a0 a1} (h : R s0 s) : R s0 (lkEnableWrite a0 a1 s) := by
  unfold lkEnableWrite
  with_reducible repeat' (first | assumption | (refine hR.toKept.set ?_) | (refine enterDown_kept hR.toKept ?_) | (refine linkLoss_kept hR ?_) | (refine Kept.ite ?_ ?_) | split)

theorem signalDetect_kept (hR : Kept R) {a0} (h : R s0 s) : R s0 (signalDetect a0 s) := by
  unfold signalDetect
  with_reducible repeat' (first | assumption | (refine startTraining_kept hR ?_) | (refine Kept.ite ?_ ?_) | split)

theorem retrain_kept (hR : KeptMem R) {a0} (h : R s0 s) : R s0 (retrain a0 s) := by
  unfold retrain
  with_reducible repeat' (first | assumption | (refine startTraining_kept hR.toKept ?_) | (refine linkLoss_kept hR ?_) | (refine Kept.ite ?_ ?_) | split)

theorem setSkews_kept (hR : Kept R) {a1 a2} (h : R s0 s) : R s0 (setSkews s a1 a2) := by
  unfold setSkews
  with_reducible repeat' (first | assumption | (refine State.each_kept hR ?_ fun s a h => ?_) | (refine hR.set ?_))

theorem comeUp_kept (hR : Kept R) {a1} (h : R s0 s) : R s0 (comeUp s a1) := by
  unfold comeUp
  with_reducible repeat' (first | assumption | (refine State.each_kept hR ?_ fun s a h => ?_) | (refine State.modNib_kept hR ?_) | (refine State.modLink_kept hR ?_) | (refine State.ev_kept hR ?_) | (refine enterLk_kept hR ?_) | (refine hR.set ?_) | (intro x; try (refine Kept.cut (R := R) (s0 := s0) (x := x) ?_ ?_; unfold x; rotate_left; clear_value x; intro h)) | lift_lets | dsimp only)

theorem trainStep_kept (hR : Kept R) {a0 a1} (h : R s0 s) : R s0 (trainStep a0 a1 s) := by
  unfold trainStep
  with_reducible repeat' (first | assumption | (refine enterLk_kept hR ?_) | (refine State.iff_kept hR ?_ fun s h => ?_) | (refine State.modLink_kept hR ?_) | (refine setSkews_kept hR ?_) | (refine trainFail_kept hR ?_) | (refine comeUp_kept hR ?_) | (refine hR.set ?_) | (intro x; try (refine Kept.cut (R := R) (s0 := s0) (x := x) ?_ ?_; unfold x; rotate_left; clear_value x; intro h)) | lift_lets | (refine Kept.ite ?_ ?_) | split | dsimp only)

theorem trainTimeout_kept (hR : Kept R) {a0} (h : R s0 s) : R s0 (trainTimeout a0 s) := by
  unfold trainTimeout
  with_reducible repeat' (first | assumption | (refine trainFail_kept hR ?_) | (refine Kept.ite ?_ ?_) | split)

theorem failWaitEnd_kept (hR : Kept R) {a0} (h : R s0 s) : R s0 (failWaitEnd a0 s) := by
  unfold failWaitEnd
  with_reducible repeat' (first | assumption | (refine enterDown_kept hR ?_) | (refine Kept.ite ?_ ?_) | split)

theorem pllLock_kept (hR : Kept R) {a0} (h : R s0 s) : R s0 (pllLock a0 s) := by
  unfold pllLock
  with_reducible repeat' (first | assumption | (refine State.modLink_kept hR ?_) | (refine State.each_kept hR ?_ fun s a h => ?_) | (refine State.iff_kept hR ?_ fun s h => ?_) | (refine State.ev_kept hR ?_) | (intro x; try (refine Kept.cut (R := R) (s0 := s0) (x := x) ?_ ?_; unfold x; rotate_left; clear_value x; intro h)) | lift_lets | (refine Kept.ite ?_ ?_) | split | dsimp only)

theorem deskew_kept (hR : Kept R) {a0} (h : R s0 s) : R s0 (deskew a0 s) := by
  unfold deskew
  with_reducible repeat' (first | assumption | (refine hR.set ?_) | (refine State.ev_kept hR ?_) | (refine Kept.ite ?_ ?_) | split)

theorem deskewDone_kept (hR : Kept R) {a0 a1 a2} (h : R s0 s) : R s0 (deskewDone a0 a1 a2 s) := by
  unfold deskewDone
  with_reducible repeat' (first | assumption | (refine State.ev_kept hR ?_) | (refine setSkews_kept hR ?_) | (refine hR.set ?_) | (refine State.modLink_kept hR ?_) | (intro x; try (refine Kept.cut (R := R) (s0 := s0) (x := x) ?_ ?_; unfold x; rotate_left; clear_value x; intro h)) | lift_lets | (refine Kept.ite ?_ ?_) | split | dsimp only)

theorem suspendExpiry_kept (hR : KeptMem R) {a0} (h : R s0 s) : R s0 (suspendExpiry a0 s) := by
  unfold suspendExpiry
  with_reducible repeat' (first | assumption | (refine linkLoss_kept hR ?_) | (refine Kept.ite ?_ ?_) | split)

theorem ringPush_kept (hR : Kept R) {a1 a2 a3 a4} (h : R s0 s) : R s0 (ringPush s a1 a2 a3 a4) := by
  unfold ringPush
  with_reducible repeat' (first | assumption | (refine State.modNib_kept hR ?_))

theorem lostSamples_kept (hR : Kept R) {a1 a2 a3} (h : R s0 s) : R s0 (lostSamples s a1 a2 a3) := by
  unfold lostSamples
  with_reducible repeat' (first | assumption | (refine beginBlot_kept hR ?_) | (refine State.modNib_kept hR ?_) | (refine ringPush_kept hR ?_) | (intro x; try (refine Kept.cut (R := R) (s0 := s0) (x := x) ?_ ?_; unfold x; rotate_left; clear_value x; intro h)) | lift_lets | (refine Kept.ite ?_ ?_) | split | dsimp only)

theorem fillTo_kept (hR : Kept R) {a1 a2 a3} (h : R s0 s) : R s0 (fillTo s a1 a2 a3) := by
  unfold fillTo
  with_reducible repeat' (first | assumption | (refine State.modNib_kept hR ?_) | (refine lostSamples_kept hR ?_) | (intro x; try (refine Kept.cut (R := R) (s0 := s0) (x := x) ?_ ?_; unfold x; rotate_left; clear_value x; intro h)) | lift_lets | (refine Kept.ite ?_ ?_) | split | dsimp only)

theorem advanceSidx_kept (hR : Kept R) {a1 a2 a3} (h : R s0 s) : R s0 (advanceSidx s a1 a2 a3) := by
  unfold advanceSidx
  with_reducible repeat' (first | assumption | (refine State.modLink_kept hR ?_) | (refine hR.set ?_) | (intro x; try (refine Kept.cut (R := R) (s0 := s0) (x := x) ?_ ?_; unfold x; rotate_left; clear_value x; intro h)) | lift_lets | (refine Kept.ite ?_ ?_) | split | dsimp only)

theorem showSidx_kept (hR : Kept R) {a1 a2} (h : R s0 s) : R s0 (showSidx s a1 a2) := by
  unfold showSidx
  with_reducible repeat' (first | assumption | (refine State.modLink_kept hR ?_) | (refine hR.set ?_) | (refine Kept.ite ?_ ?_) | split)

theorem samples_kept (hR : Kept R) {a0 a1 a2 a3} (h : R s0 s) : R s0 (samples a0 a1 a2 a3 s) := by
  unfold samples
  with_reducible repeat' (first | assumption | (refine advanceSidx_kept hR ?_) | (refine notePkt_kept hR ?_) | (refine fillTo_kept hR ?_) | (refine ringPush_kept hR ?_) | (refine chanStep_kept hR ?_) | (refine Kept.fold ?_ fun p a h => ?_) | (refine Kept.fold1 ?_ fun p a h => ?_) | (intro x; try (refine Kept.cut (R := R) (s0 := s0) (x := x) ?_ ?_; unfold x; rotate_left; clear_value x; intro h)) | lift_lets | (refine Kept.ite ?_ ?_) | split | dsimp only)

theorem advanceCount_kept (hR : Kept R) {a1 a2} (h : R s0 s) : R s0 (advanceCount s a1 a2) := by
  unfold advanceCount
  with_reducible repeat' (first | assumption | (refine countOn_kept hR ?_) | (refine State.modRul_kept hR ?_) | (intro x; try (refine Kept.cut (R := R) (s0 := s0) (x := x) ?_ ?_; unfold x; rotate_left; clear_value x; intro h)) | lift_lets | (refine Kept.ite ?_ ?_) | split | dsimp only)

theorem rulPush_kept (hR : Kept R) {a1 a2 a3 a4} (h : R s0 s) : R s0 (rulPush s a1 a2 a3 a4) := by
  unfold rulPush
  with_reducible repeat' (first | assumption | (refine ringPush_kept hR ?_) | (refine State.modNib_kept hR ?_) | (refine Kept.fold ?_ fun p a h => ?_) | (refine Kept.fold1 ?_ fun p a h => ?_) | (intro x; try (refine Kept.cut (R := R) (s0 := s0) (x := x) ?_ ?_; unfold x; rotate_left; clear_value x; intro h)) | lift_lets | (refine Kept.ite ?_ ?_) | split | dsimp only)

theorem rulLost_kept (hR : Kept R) {a1 a2 a3} (h : R s0 s) : R s0 (rulLost s a1 a2 a3) := by
  unfold rulLost
  with_reducible repeat' (first | assumption | (refine rulBlotted_kept hR ?_) | (refine State.modNib_kept hR ?_) | (refine ringPush_kept hR ?_) | (intro x; try (refine Kept.cut (R := R) (s0 := s0) (x := x) ?_ ?_; unfold x; rotate_left; clear_value x; intro h)) | lift_lets | (refine Kept.ite ?_ ?_) | split | dsimp only)

theorem rulingPkt_kept (hR : Kept R) {a0 a1 a2} (h : R s0 s) : R s0 (rulingPkt a0 a1 a2 s) := by
  unfold rulingPkt
  with_reducible repeat' (first | assumption | (refine advanceSidx_kept hR ?_) | (refine notePkt_kept hR ?_) | (refine rulPush_kept hR ?_) | (refine rulLost_kept hR ?_) | (refine advanceCount_kept hR ?_) | (intro x; try (refine Kept.cut (R := R) (s0 := s0) (x := x) ?_ ?_; unfold x; rotate_left; clear_value x; intro h)) | lift_lets | (refine Kept.ite ?_ ?_) | split | dsimp only)

theorem penState_kept (hR : Kept R) {a1 a2} (h : R s0 s) : R s0 (penState s a1 a2) := by
  unfold penState
  with_reducible repeat' (first | assumption | (refine hR.set ?_) | (refine State.iff_kept hR ?_ fun s h => ?_) | (refine State.ev_kept hR ?_) | (intro x; try (refine Kept.cut (R := R) (s0 := s0) (x := x) ?_ ?_; unfold x; rotate_left; clear_value x; intro h)) | lift_lets | (refine Kept.ite ?_ ?_) | split | dsimp only)

theorem penDelay_kept (hR : Kept R) {a1 a2} (h : R s0 s) : R s0 (penDelay s a1 a2) := by
  unfold penDelay
  with_reducible repeat' (first | assumption | (refine hR.set ?_) | (refine State.iff_kept hR ?_ fun s h => ?_) | (refine State.ev_kept hR ?_) | (intro x; try (refine Kept.cut (R := R) (s0 := s0) (x := x) ?_ ?_; unfold x; rotate_left; clear_value x; intro h)) | lift_lets | split | dsimp only)

theorem penEcho_kept (hR : Kept R) {a1 a2 a3} (h : R s0 s) : R s0 (penEcho s a1 a2 a3) := by
  unfold penEcho
  with_reducible repeat' (first | assumption | (refine State.each_kept hR ?_ fun s a h => ?_) | (refine echoArrives_kept hR ?_) | (intro x; try (refine Kept.cut (R := R) (s0 := s0) (x := x) ?_ ?_; unfold x; rotate_left; clear_value x; intro h)) | lift_lets | dsimp only)

theorem penStatus_kept (hR : KeptMem R) {a0 a1 a2 a3} (h : R s0 s) : R s0 (penStatus a0 a1 a2 a3 s) := by
  unfold penStatus
  with_reducible repeat' (first | assumption | (refine notePkt_kept hR.toKept ?_) | (refine State.modLink_kept hR.toKept ?_) | (refine hR.toKept.set ?_) | (refine showSidx_kept hR.toKept ?_) | (refine penState_kept hR.toKept ?_) | (refine writeHoldRise_kept hR.toKept ?_) | (refine penDelay_kept hR.toKept ?_) | (refine penEcho_kept hR.toKept ?_) | (refine State.each_kept hR.toKept ?_ fun s a h => ?_) | (refine State.bump_kept hR.toKept ?_) | (refine linkLoss_kept hR ?_) | (intro x; try (refine Kept.cut (R := R) (s0 := s0) (x := x) ?_ ?_; unfold x; rotate_left; clear_value x; intro h)) | lift_lets | (refine Kept.ite ?_ ?_) | split | dsimp only)

theorem ageClaims_kept (hR : Kept R) (h : R s0 s) : R s0 (ageClaims s) := by
  unfold ageClaims
  with_reducible repeat' (first | assumption | (refine State.each_kept hR ?_ fun s a h => ?_) | (refine State.iff_kept hR ?_ fun s h => ?_) | (refine hR.set ?_) | split)

theorem claimStatus_kept (hR : KeptMem R) {a0 a1 a2} (h : R s0 s) : R s0 (claimStatus a0 a1 a2 s) := by
  unfold claimStatus
  dsimp only
  with_reducible repeat' (first | assumption | (refine notePkt_kept hR.toKept ?_) | (refine State.iff_kept hR.toKept ?_ fun s h => ?_) | (refine State.ev_kept hR.toKept ?_) | (refine State.modLink_kept hR.toKept ?_) | (refine hR.toKept.set ?_) | (refine stopGroup_kept hR ?_) | (refine Kept.ite ?_ ?_) | split | dsimp only)

theorem slotSkipped_kept (hR : Kept R) {a1 a2 a3} (h : R s0 s) : R s0 (slotSkipped s a1 a2 a3) := by
  unfold slotSkipped
  with_reducible repeat' (first | assumption | (refine refreshWc_kept hR ?_) | (refine State.modLink_kept hR ?_) | (refine modDesc_kept hR ?_) | (refine Kept.ite ?_ ?_) | split)

theorem ack_kept (hR : Kept R) {a0 a1 a2} (h : R s0 s) : R s0 (ack a0 a1 a2 s) := by
  unfold ack
  with_reducible repeat' (first | assumption | (refine State.iff_kept hR ?_ fun s h => ?_) | (refine wsLoadDone_kept hR ?_) | (refine slotSkipped_kept hR ?_) | (refine State.ev_kept hR ?_) | (refine refreshWc_kept hR ?_) | (refine underrun_kept hR ?_) | (intro x; try (refine Kept.cut (R := R) (s0 := s0) (x := x) ?_ ?_; unfold x; rotate_left; clear_value x; intro h)) | lift_lets | (refine Kept.ite ?_ ?_) | split | dsimp only)

theorem cutPacket_kept (hR : Kept R) {a0 a2} (h : R s0 s) : R s0 (cutPacket a0 s a2) := by
  unfold cutPacket
  with_reducible repeat' (first | assumption | (refine State.bump_kept hR ?_) | (refine advanceSidx_kept hR ?_) | (refine notePkt_kept hR ?_) | (refine fillTo_kept hR ?_) | (refine rulBlotted_kept hR ?_) | (refine rulLost_kept hR ?_) | (refine advanceCount_kept hR ?_) | (refine State.modSup_kept hR ?_) | (intro x; try (refine Kept.cut (R := R) (s0 := s0) (x := x) ?_ ?_; unfold x; rotate_left; clear_value x; intro h)) | lift_lets | (refine Kept.ite ?_ ?_) | split | dsimp only)

theorem uncorrectable_kept (hR : Kept R) {a0 a1 a2 a3} (h : R s0 s) : R s0 (uncorrectable a0 a1 a2 a3 s) := by
  unfold uncorrectable
  with_reducible repeat' (first | assumption | (refine State.bump_kept hR ?_) | (refine cutPacket_kept hR ?_) | (refine Kept.fold ?_ fun p a h => ?_) | (refine Kept.fold1 ?_ fun p a h => ?_) | (intro x; try (refine Kept.cut (R := R) (s0 := s0) (x := x) ?_ ?_; unfold x; rotate_left; clear_value x; intro h)) | lift_lets | (refine Kept.ite ?_ ?_) | split | dsimp only)

theorem refreshDegraded_kept (hR : Kept R) {a1} (h : R s0 s) : R s0 (refreshDegraded s a1) := by
  unfold refreshDegraded
  with_reducible repeat' (first | assumption | (refine State.iff_kept hR ?_ fun s h => ?_) | (refine State.modLink_kept hR ?_) | (refine State.each_kept hR ?_ fun s a h => ?_) | (refine State.modNib_kept hR ?_) | (intro x; try (refine Kept.cut (R := R) (s0 := s0) (x := x) ?_ ?_; unfold x; rotate_left; clear_value x; intro h)) | lift_lets | split | dsimp only)

theorem laneLost_kept (hR : KeptMem R) {a0 a1 a2} (h : R s0 s) : R s0 (laneLost a0 a1 a2 s) := by
  unfold laneLost
  with_reducible repeat' (first | assumption | (refine trainFail_kept hR.toKept ?_) | (refine linkLoss_kept hR ?_) | (refine refreshDegraded_kept hR.toKept ?_) | (refine State.ev_kept hR.toKept ?_) | (refine hR.toKept.set ?_) | (refine State.setBit_kept hR.toKept ?_) | (intro x; try (refine Kept.cut (R := R) (s0 := s0) (x := x) ?_ ?_; unfold x; rotate_left; clear_value x; intro h)) | lift_lets | (refine Kept.ite ?_ ?_) | split | dsimp only)

theorem sendClaim_kept (hR : Kept R) {a0} (h : R s0 s) : R s0 (sendClaim a0 s) := by
  unfold sendClaim
  with_reducible repeat' (first | assumption | (refine State.modLink_kept hR ?_) | (intro x; try (refine Kept.cut (R := R) (s0 := s0) (x := x) ?_ ?_; unfold x; rotate_left; clear_value x; intro h)) | lift_lets | (refine Kept.ite ?_ ?_) | split | dsimp only)

theorem writePkt_kept (hR : Kept R) {a0 a1 a2} (h : R s0 s) : R s0 (writePkt a0 a1 a2 s) := by
  unfold writePkt
  with_reducible repeat' (first | assumption | (refine State.modWc_kept hR ?_) | (refine State.modLink_kept hR ?_) | (intro x; try (refine Kept.cut (R := R) (s0 := s0) (x := x) ?_ ?_; unfold x; rotate_left; clear_value x; intro h)) | lift_lets | (refine Kept.ite ?_ ?_) | split | dsimp only)

theorem State.modFn_kept (hR : Kept R) {a1 a2} (h : R s0 s) : R s0 (State.modFn s a1 a2) := by
  unfold State.modFn
  with_reducible repeat' (first | assumption | (refine hR.rest ?_))

theorem State.modHq_kept (hR : Kept R) {a1} (h : R s0 s) : R s0 (State.modHq s a1) := by
  unfold State.modHq
  with_reducible repeat' (first | assumption | (refine hR.rest ?_))

theorem sendMsix_kept (hR : Kept R) {a1 a2} (h : R s0 s) : R s0 (sendMsix s a1 a2) := by
  unfold sendMsix
  with_reducible repeat' (first | assumption | (refine State.modFn_kept hR ?_) | (refine Kept.ite ?_ ?_) | split)

theorem postCqe_kept (hR : Kept R) {a1 a2 a3} (h : R s0 s) : R s0 (postCqe s a1 a2 a3) := by
  unfold postCqe
  with_reducible repeat' (first | assumption | (refine State.modFn_kept hR ?_) | (refine State.iff_kept hR ?_ fun s h => ?_) | (refine sendMsix_kept hR ?_) | (intro x; try (refine Kept.cut (R := R) (s0 := s0) (x := x) ?_ ?_; unfold x; rotate_left; clear_value x; intro h)) | lift_lets | (refine Kept.ite ?_ ?_) | split | dsimp only)

theorem asyncEvent_kept (hR : Kept R) {a1 a2} (h : R s0 s) : R s0 (asyncEvent s a1 a2) := by
  unfold asyncEvent
  with_reducible repeat' (first | assumption | (refine postCqe_kept hR ?_) | (refine State.modFn_kept hR ?_) | (refine Kept.ite ?_ ?_) | split)

theorem withAna_kept (hR : Kept R) {k} (h : R s0 s) (hk : ∀ s, R s0 s → R s0 (k s)) : R s0 (withAna s k) := by
  have := hk s h
  unfold withAna
  dsimp only
  split
  · exact this
  · exact asyncEvent_kept hR (asyncEvent_kept hR this)

theorem modCmd_kept (hR : Kept R) {a1 a2} (h : R s0 s) : R s0 (modCmd s a1 a2) := by
  unfold modCmd
  with_reducible repeat' (first | assumption | (refine State.modHq_kept hR ?_) | split)

theorem countIdle_kept (hR : Kept R) (h : R s0 s) : R s0 (countIdle s) := by
  unfold countIdle
  with_reducible repeat' (first | assumption | (refine State.each_kept hR ?_ fun s a h => ?_) | (refine hR.set ?_) | (refine State.modFn_kept hR ?_) | (refine State.iff_kept hR ?_ fun s h => ?_) | (refine Kept.ite ?_ ?_) | split)

theorem refreshStall_kept (hR : Kept R) (h : R s0 s) : R s0 (refreshStall s) := by
  unfold refreshStall
  with_reducible repeat' (first | assumption | (refine hR.set ?_) | (refine State.iff_kept hR ?_ fun s h => ?_) | (refine State.ev_kept hR ?_) | (refine State.bump_kept hR ?_) | (refine State.modHq_kept hR ?_) | (intro x; try (refine Kept.cut (R := R) (s0 := s0) (x := x) ?_ ?_; unfold x; rotate_left; clear_value x; intro h)) | lift_lets | (refine Kept.ite ?_ ?_) | split | dsimp only)

theorem endCmd_kept (hR : Kept R) {a1} (h : R s0 s) : R s0 (endCmd s a1) := by
  unfold endCmd
  with_reducible repeat' (first | assumption | (refine modCmd_kept hR ?_) | (refine State.modHq_kept hR ?_) | (refine Kept.ite ?_ ?_) | split)

theorem completeCmd_kept (hR : Kept R) {a1 a2 a3} (h : R s0 s) : R s0 (completeCmd s a1 a2 a3) := by
  unfold completeCmd
  with_reducible repeat' (first | assumption | (refine endCmd_kept hR ?_) | (refine postCqe_kept hR ?_) | (intro x; try (refine Kept.cut (R := R) (s0 := s0) (x := x) ?_ ?_; unfold x; rotate_left; clear_value x; intro h)) | lift_lets | (refine Kept.ite ?_ ?_) | split | dsimp only)

theorem dropCmds_kept (hR : Kept R) {a1} (h : R s0 s) : R s0 (dropCmds s a1) := by
  unfold dropCmds
  with_reducible repeat' (first | assumption | (refine refreshStall_kept hR ?_) | (refine State.modHq_kept hR ?_))

theorem shutdownStep_kept (hR : Kept R) {a1} (h : R s0 s) : R s0 (shutdownStep s a1) := by
  unfold shutdownStep
  with_reducible repeat' (first | assumption | (refine State.modFn_kept hR ?_) | (intro x; try (refine Kept.cut (R := R) (s0 := s0) (x := x) ?_ ?_; unfold x; rotate_left; clear_value x; intro h)) | lift_lets | (refine Kept.ite ?_ ?_) | split | dsimp only | (refine hR.rest ?_))

theorem completeReady_kept (hR : Kept R) {a1} (h : R s0 s) : R s0 (completeReady s a1) := by
  unfold completeReady
  with_reducible repeat' (first | assumption | (refine State.iff_kept hR ?_ fun s h => ?_) | (refine completeCmd_kept hR ?_) | split)

theorem settle_kept (hR : Kept R) (h : R s0 s) : R s0 (settle s) := by
  unfold settle
  with_reducible repeat' (first | assumption | (refine State.each_kept hR ?_ fun s a h => ?_) | (refine completeReady_kept hR ?_) | (refine refreshStall_kept hR ?_) | (refine shutdownStep_kept hR ?_) | (intro x; try (refine Kept.cut (R := R) (s0 := s0) (x := x) ?_ ?_; unfold x; rotate_left; clear_value x; intro h)) | lift_lets | dsimp only)

theorem refreshReady_kept (hR : Kept R) (h : R s0 s) : R s0 (refreshReady s) := by
  unfold refreshReady
  with_reducible repeat' (first | assumption | (refine State.each_kept hR ?_ fun s a h => ?_) | (refine State.iff_kept hR ?_ fun s h => ?_) | (refine State.modFn_kept hR ?_) | (intro x; try (refine Kept.cut (R := R) (s0 := s0) (x := x) ?_ ?_; unfold x; rotate_left; clear_value x; intro h)) | lift_lets | split | dsimp only)

theorem State.modVerso_kept (hR : Kept R) {a1} (h : R s0 s) : R s0 (State.modVerso s a1) := by
  unfold State.modVerso
  with_reducible repeat' (first | assumption | (refine hR.rest ?_))

theorem sendVerso_kept (hR : Kept R) {a1} (h : R s0 s) : R s0 (sendVerso s a1) := by
  unfold sendVerso
  with_reducible repeat' (first | assumption | (refine State.iff_kept hR ?_ fun s h => ?_) | (refine State.modVerso_kept hR ?_) | split)

theorem refreshRole_kept (hR : Kept R) (h : R s0 s) : R s0 (refreshRole s) := by
  unfold refreshRole
  with_reducible repeat' (first | assumption | (refine hR.set ?_) | (intro x; try (refine Kept.cut (R := R) (s0 := s0) (x := x) ?_ ?_; unfold x; rotate_left; clear_value x; intro h)) | lift_lets | (refine Kept.ite ?_ ?_) | split | dsimp only)

theorem setClass_kept (hR : KeptMem R) {a1 a2} (h : R s0 s) : R s0 (setClass s a1 a2) := by
  unfold setClass
  with_reducible repeat' (first | assumption | (refine State.iff_kept hR.toKept ?_ fun s h => ?_) | (refine stopGroup_kept hR ?_) | (refine refreshRole_kept hR.toKept ?_) | (refine hR.toKept.set ?_) | (refine sendClaim_kept hR.toKept ?_) | (intro x; try (refine Kept.cut (R := R) (s0 := s0) (x := x) ?_ ?_; unfold x; rotate_left; clear_value x; intro h)) | lift_lets | (refine Kept.ite ?_ ?_) | split | dsimp only)

theorem engineStops_kept (hR : Kept R) {a1} (h : R s0 s) : R s0 (engineStops s a1) := by
  unfold engineStops
  with_reducible repeat' (first | assumption | (refine allOff_kept hR ?_) | (refine State.iff_kept hR ?_ fun s h => ?_) | (refine supStop_kept hR ?_) | (intro x; try (refine Kept.cut (R := R) (s0 := s0) (x := x) ?_ ?_; unfold x; rotate_left; clear_value x; intro h)) | lift_lets | (refine Kept.ite ?_ ?_) | split | dsimp only)

theorem relinquish_kept (hR : KeptMem R) (h : R s0 s) : R s0 (relinquish s) := by
  unfold relinquish
  with_reducible repeat' (first | assumption | (refine dropCmds_kept hR.toKept ?_) | (refine State.each_kept hR.toKept ?_ fun s a h => ?_) | (refine State.iff_kept hR.toKept ?_ fun s h => ?_) | (refine stopGroup_kept hR ?_) | (refine engineStops_kept hR.toKept ?_) | (refine setClass_kept hR ?_) | (refine refreshRole_kept hR.toKept ?_) | (refine sendVerso_kept hR.toKept ?_) | (intro x; try (refine Kept.cut (R := R) (s0 := s0) (x := x) ?_ ?_; unfold x; rotate_left; clear_value x; intro h)) | lift_lets | split | dsimp only)

theorem giveUp_kept (hR : KeptMem R) (h : R s0 s) : R s0 (giveUp s) := by
  unfold giveUp
  with_reducible repeat' (first | assumption | (refine withAna_kept hR.toKept ?_ fun s h => ?_) | (refine relinquish_kept hR ?_) | (refine State.ev_kept hR.toKept ?_) | (refine hR.toKept.set ?_) | (refine Kept.ite ?_ ?_) | split)

theorem diagnose_kept (hR : KeptMem R) {a1} (h : R s0 s) : R s0 (diagnose s a1) := by
  unfold diagnose
  with_reducible repeat' (first | assumption | (refine State.setBit_kept hR.toKept ?_) | (refine State.iff_kept hR.toKept ?_ fun s h => ?_) | (refine giveUp_kept hR ?_) | (intro x; try (refine Kept.cut (R := R) (s0 := s0) (x := x) ?_ ?_; unfold x; rotate_left; clear_value x; intro h)) | lift_lets | split | dsimp only)

theorem tellDiagnosis_kept (hR : KeptMem R) (h : R s0 s) : R s0 (tellDiagnosis s) := by
  unfold tellDiagnosis
  with_reducible repeat' (first | assumption | (refine diagnose_kept hR ?_) | (refine Kept.ite ?_ ?_) | split | (refine hR.toKept.rest ?_))

theorem motionErrs_kept (hR : Kept R) (h : R s0 s) : R s0 (motionErrs s).2 := by
  unfold motionErrs
  with_reducible repeat' (first | assumption | (refine sledSpeed_kept' hR (by assumption) ?_) | (refine State.divFree_kept' hR (by assumption) ?_) | (refine Kept.fold ?_ fun p a h => ?_) | (refine Kept.fold1 ?_ fun p a h => ?_) | (intro x; try (refine Kept.cut (R := R) (s0 := s0) (x := x) ?_ ?_; unfold x; rotate_left; clear_value x; intro h)) | lift_lets | split | dsimp only | (refine sledSpeed_kept hR ?_) | (refine State.divFree_kept hR ?_))
theorem motionErrs_kept' (hR : Kept R) {v t} (e : motionErrs s = (v, t)) (h : R s0 s) : R s0 t := by
  have q : R s0 (motionErrs s).2 := motionErrs_kept hR h
  rw [e] at q
  exact q

theorem leTick_kept (hR : Kept R) {a0 a1 a2} (h : R s0 s) : R s0 (leTick a0 a1 a2 s) := by
  unfold leTick
  with_reducible repeat' (first | assumption | (refine State.bump_kept hR ?_) | (refine penTick_kept hR ?_) | (refine motionErrs_kept' hR (by assumption) ?_) | (refine engineTick_kept hR ?_) | (intro x; try (refine Kept.cut (R := R) (s0 := s0) (x := x) ?_ ?_; unfold x; rotate_left; clear_value x; intro h)) | lift_lets | (refine Kept.ite ?_ ?_) | split | dsimp only | (refine Kept.ite2 (by assumption) ?_ ?_) | (refine motionErrs_kept hR ?_))

theorem loopModeWrite_kept (hR : Kept R) {a0 a1 a2} (h : R s0 s) : R s0 (loopModeWrite a0 a1 a2 s) := by
  unfold loopModeWrite
  with_reducible repeat' (first | assumption | (refine overrideAxes_kept hR ?_) | (refine modeWrite_kept hR ?_) | (intro x; try (refine Kept.cut (R := R) (s0 := s0) (x := x) ?_ ?_; unfold x; rotate_left; clear_value x; intro h)) | lift_lets | (refine Kept.ite ?_ ?_) | split | dsimp only)

theorem lockstepFault_kept (hR : KeptMem R) {a0 a1 a2 a3 a4} (h : R s0 s) : R s0 (lockstepFault a0 a1 a2 a3 a4 s) := by
  unfold lockstepFault
  with_reducible repeat' (first | assumption | (refine engineFault_kept hR.toKept ?_) | (refine diagnose_kept hR ?_) | (refine penFault_kept hR.toKept ?_) | (intro x; try (refine Kept.cut (R := R) (s0 := s0) (x := x) ?_ ?_; unfold x; rotate_left; clear_value x; intro h)) | lift_lets | (refine Kept.ite ?_ ?_) | split | dsimp only)

end Sys2Proof.Machine
end

