-- ==== Sys2Proof/Laws/KeptChip.lean ====
section
/-!
SUPPORT. For the Inkwell, the Copybook, the mailboxes, the ledger and the Verso link: each operation keeps every relation between states that register and hidden-state changes keep, or that
stores keep too. Instances of the relation give invariants and frames without unfolding an operation.
-/

namespace Sys2Proof.Machine

variable {R : State → State → Prop} {s0 s : State}

theorem grantWrite_kept (hR : KeptMem R) {a1 a2 a3 a4 a5 a6} (h : R s0 s) : R s0 (grantWrite s a1 a2 a3 a4 a5 a6) := by
  unfold grantWrite
  with_reducible repeat' (first | assumption | (refine testHook_kept hR ?_ fun s h => ?_) | (refine State.setPoison_kept hR ?_) | (refine State.putBytes_kept hR ?_) | (refine freshBlock_kept hR.toKept ?_) | (refine decodeRead_kept' hR.toKept (by assumption) ?_) | (refine blockData_kept' hR.toKept (by assumption) ?_) | (intro x; try (refine Kept.cut (R := R) (s0 := s0) (x := x) ?_ ?_; unfold x; rotate_left; clear_value x; intro h)) | lift_lets | (refine Kept.ite ?_ ?_) | split | dsimp only | (refine Kept.ite2 (by assumption) ?_ ?_) | (refine decodeRead_kept hR.toKept ?_) | (refine blockData_kept hR.toKept ?_))

theorem grantRead_kept (hR : Kept R) {a1 a2 a3} (h : R s0 s) : R s0 (grantRead s a1 a2 a3) := by
  unfold grantRead
  with_reducible repeat' (first | assumption | (refine decodeRead_kept' hR (by assumption) ?_) | (refine blockData_kept' hR (by assumption) ?_) | (intro x; try (refine Kept.cut (R := R) (s0 := s0) (x := x) ?_ ?_; unfold x; rotate_left; clear_value x; intro h)) | lift_lets | split | dsimp only | (refine hR.rest ?_) | (refine decodeRead_kept hR ?_) | (refine blockData_kept hR ?_))

theorem perform_kept (hR : KeptMem R) {a1 a2} (h : R s0 s) : R s0 (perform s a1 a2) := by
  unfold perform
  with_reducible repeat' (first | assumption | (refine State.addrErr_kept hR.toKept ?_) | (refine grantRead_kept hR.toKept ?_) | (refine grantWrite_kept hR ?_) | (intro x; try (refine Kept.cut (R := R) (s0 := s0) (x := x) ?_ ?_; unfold x; rotate_left; clear_value x; intro h)) | lift_lets | (refine Kept.ite ?_ ?_) | split | dsimp only | (refine hR.toKept.rest ?_))

theorem waitOne_kept (hR : Kept R) {a0 a2} (h : R s0 s) : R s0 (waitOne a0 s a2) := by
  unfold waitOne
  with_reducible repeat' (first | assumption | (refine State.modCh_kept hR ?_) | (refine State.bump_kept hR ?_))

theorem grant_kept (hR : KeptMem R) {a1 a2} (h : R s0 s) : R s0 (grant s a1 a2) := by
  unfold grant
  with_reducible repeat' (first | assumption | (refine hR.toKept.set ?_) | (refine State.bump_kept hR.toKept ?_) | (refine State.modCh_kept hR.toKept ?_) | (refine perform_kept hR ?_) | (intro x; try (refine Kept.cut (R := R) (s0 := s0) (x := x) ?_ ?_; unfold x; rotate_left; clear_value x; intro h)) | lift_lets | dsimp only)

theorem inkGrant_kept (hR : KeptMem R) {a0 a1 a2} (h : R s0 s) : R s0 (inkGrant a0 a1 a2 s) := by
  unfold inkGrant
  with_reducible repeat' (first | assumption | (refine hR.toKept.set ?_) | (refine waitOne_kept hR.toKept ?_) | (refine State.each_kept hR.toKept ?_ fun s a h => ?_) | (refine State.modCh_kept hR.toKept ?_) | (refine grant_kept hR ?_) | (refine Kept.fold ?_ fun p a h => ?_) | (refine Kept.fold1 ?_ fun p a h => ?_) | (intro x; try (refine Kept.cut (R := R) (s0 := s0) (x := x) ?_ ?_; unfold x; rotate_left; clear_value x; intro h)) | lift_lets | (refine Kept.ite ?_ ?_) | split | dsimp only)

theorem writeBack_kept (hR : KeptMem R) {a1} (h : R s0 s) : R s0 (writeBack s a1) := by
  unfold writeBack
  with_reducible repeat' (first | assumption | (refine refreshScrub_kept hR.toKept ?_) | (refine State.modCh_kept hR.toKept ?_) | (refine State.setPoison_kept hR ?_) | (refine freshBlock_kept hR.toKept ?_) | (intro x; try (refine Kept.cut (R := R) (s0 := s0) (x := x) ?_ ?_; unfold x; rotate_left; clear_value x; intro h)) | lift_lets | split | dsimp only)

theorem ueWindow_kept (hR : KeptMem R) (h : R s0 s) : R s0 (ueWindow s) := by
  unfold ueWindow
  with_reducible repeat' (first | assumption | (refine tellDiagnosis_kept hR ?_) | (intro x; try (refine Kept.cut (R := R) (s0 := s0) (x := x) ?_ ?_; unfold x; rotate_left; clear_value x; intro h)) | lift_lets | dsimp only | (refine hR.toKept.rest ?_))

theorem clearMarks_kept (hR : KeptMem R) {a b} (h : R s0 s) : R s0 (clearMarks s a b) := hR.clear h

theorem clearPatterns_kept (hR : Kept R) {a1 a2} (h : R s0 s) : R s0 (clearPatterns s a1 a2) := by
  unfold clearPatterns
  with_reducible repeat' (first | assumption | (refine State.each_kept hR ?_ fun s a h => ?_) | (refine refreshScrub_kept hR ?_) | (refine State.modCh_kept hR ?_) | (intro x; try (refine Kept.cut (R := R) (s0 := s0) (x := x) ?_ ?_; unfold x; rotate_left; clear_value x; intro h)) | lift_lets | dsimp only | (refine hR.rest ?_))

theorem lateWrite_kept (hR : KeptMem R) {a1} (h : R s0 s) : R s0 (lateWrite s a1) := by
  unfold lateWrite
  with_reducible repeat' (first | assumption | (refine State.putBytes_kept hR ?_) | (refine State.zeroBytes_kept hR ?_) | (refine State.each_kept hR.toKept ?_ fun s a h => ?_) | (refine State.setPoison_kept hR ?_))

theorem lateWrites_kept (hR : KeptMem R) {a1} (h : R s0 s) : R s0 (lateWrites s a1) := by
  unfold lateWrites
  with_reducible repeat' (first | assumption | (refine State.each_kept hR.toKept ?_ fun s a h => ?_) | (refine lateWrite_kept hR ?_) | (intro x; try (refine Kept.cut (R := R) (s0 := s0) (x := x) ?_ ?_; unfold x; rotate_left; clear_value x; intro h)) | lift_lets | dsimp only | (refine hR.toKept.rest ?_))

theorem fillDone_kept (hR : KeptMem R) {a0} (h : R s0 s) : R s0 (fillDone a0 s) := by
  unfold fillDone
  with_reducible repeat' (first | assumption | (refine clearMarks_kept hR ?_) | (refine State.zeroBytes_kept hR ?_) | (refine lateWrites_kept hR ?_) | (refine clearPatterns_kept hR.toKept ?_) | (refine hR.toKept.set ?_) | (refine State.ev_kept hR.toKept ?_) | (intro x; try (refine Kept.cut (R := R) (s0 := s0) (x := x) ?_ ?_; unfold x; rotate_left; clear_value x; intro h)) | lift_lets | (refine Kept.ite ?_ ?_) | split | dsimp only)

theorem scrubRead_kept (hR : KeptMem R) {a0 a1 a2 a3} (h : R s0 s) : R s0 (scrubRead a0 a1 a2 a3 s) := by
  unfold scrubRead
  with_reducible repeat' (first | assumption | (refine decodeRead_kept' hR.toKept (by assumption) ?_) | (refine State.iff_kept hR.toKept ?_ fun s h => ?_) | (refine plantOpen_kept hR ?_) | (refine State.modCh_kept hR.toKept ?_) | (refine hR.toKept.set ?_) | (refine State.ev_kept hR.toKept ?_) | (intro x; try (refine Kept.cut (R := R) (s0 := s0) (x := x) ?_ ?_; unfold x; rotate_left; clear_value x; intro h)) | lift_lets | (refine Kept.ite ?_ ?_) | split | dsimp only | (refine Kept.ite2 (by assumption) ?_ ?_) | (refine decodeRead_kept hR.toKept ?_))

theorem longestClear_kept (hR : Kept R) {a0 a1 a2} (h : R s0 s) : R s0 (longestClear a0 a1 a2 s) := by
  unfold longestClear
  with_reducible repeat' (first | assumption | (refine hR.set ?_) | (intro x; try (refine Kept.cut (R := R) (s0 := s0) (x := x) ?_ ?_; unfold x; rotate_left; clear_value x; intro h)) | lift_lets | split | dsimp only)

theorem eccTestMech_kept (hR : Kept R) {a0} (h : R s0 s) : R s0 (eccTestMech a0 s) := by
  unfold eccTestMech
  with_reducible repeat' (first | assumption | (refine hR.set ?_) | (refine State.ev_kept hR ?_) | (intro x; try (refine Kept.cut (R := R) (s0 := s0) (x := x) ?_ ?_; unfold x; rotate_left; clear_value x; intro h)) | lift_lets | (refine Kept.ite ?_ ?_) | split | dsimp only)

theorem eccTestArm_kept (hR : Kept R) (h : R s0 s) : R s0 (eccTestArm s) := by
  unfold eccTestArm
  with_reducible repeat' (first | assumption | (refine hR.set ?_) | (refine State.ev_kept hR ?_) | (refine Kept.ite ?_ ?_) | split)

theorem eccTestStore_kept (hR : KeptMem R) (h : R s0 s) : R s0 (eccTestStore s) := by
  unfold eccTestStore
  with_reducible repeat' (first | assumption | (refine State.putBytes_kept hR ?_) | (refine State.ev_kept hR.toKept ?_) | (refine plantOpen_kept hR ?_) | (refine hR.toKept.set ?_) | (intro x; try (refine Kept.cut (R := R) (s0 := s0) (x := x) ?_ ?_; unfold x; rotate_left; clear_value x; intro h)) | lift_lets | (refine Kept.ite ?_ ?_) | split | dsimp only | (refine hR.toKept.rest ?_))

theorem srEnter_kept (hR : Kept R) (h : R s0 s) : R s0 (srEnter s) := by
  unfold srEnter
  with_reducible repeat' (first | assumption | (refine hR.set ?_) | (intro x; try (refine Kept.cut (R := R) (s0 := s0) (x := x) ?_ ?_; unfold x; rotate_left; clear_value x; intro h)) | lift_lets | (refine Kept.ite ?_ ?_) | split | dsimp only)

theorem srExitStart_kept (hR : Kept R) (h : R s0 s) : R s0 (srExitStart s) := by
  unfold srExitStart
  with_reducible repeat' (first | assumption | (refine hR.set ?_) | (intro x; try (refine Kept.cut (R := R) (s0 := s0) (x := x) ?_ ?_; unfold x; rotate_left; clear_value x; intro h)) | lift_lets | (refine Kept.ite ?_ ?_) | split | dsimp only)

theorem srExit_kept (hR : Kept R) (h : R s0 s) : R s0 (srExit s) := by
  unfold srExit
  with_reducible repeat' (first | assumption | (refine State.ev_kept hR ?_) | (refine hR.set ?_) | (refine Kept.ite ?_ ?_) | split)

theorem flushWriteBacks_kept (hR : KeptMem R) {a1} (h : R s0 s) : R s0 (flushWriteBacks s a1) := by
  unfold flushWriteBacks
  with_reducible repeat' (first | assumption | (refine State.each_kept hR.toKept ?_ fun s a h => ?_) | (refine writeBack_kept hR ?_))

theorem selfRefreshEntered_kept (hR : KeptMem R) (h : R s0 s) : R s0 (selfRefreshEntered s) := by
  unfold selfRefreshEntered
  with_reducible repeat' (first | assumption | (refine State.each_kept hR.toKept ?_ fun s a h => ?_) | (refine hR.toKept.set ?_) | (refine flushWriteBacks_kept hR ?_) | (intro x; try (refine Kept.cut (R := R) (s0 := s0) (x := x) ?_ ?_; unfold x; rotate_left; clear_value x; intro h)) | lift_lets | (refine Kept.ite ?_ ?_) | split | dsimp only)

theorem State.modCpb_kept (hR : Kept R) {a1} (h : R s0 s) : R s0 (State.modCpb s a1) := by
  unfold State.modCpb
  with_reducible repeat' (first | assumption | (refine hR.rest ?_))

theorem State.modScribe_kept (hR : Kept R) {a1 a2} (h : R s0 s) : R s0 (State.modScribe s a1 a2) := by
  unfold State.modScribe
  with_reducible repeat' (first | assumption | (refine hR.rest ?_))

theorem putLine_kept (hR : Kept R) {a1 a2 a3} (h : R s0 s) : R s0 (putLine s a1 a2 a3) := by
  unfold putLine
  with_reducible repeat' (first | assumption | (refine State.modCpb_kept hR ?_))

theorem dropLine_kept (hR : Kept R) {a1 a2} (h : R s0 s) : R s0 (dropLine s a1 a2) := by
  unfold dropLine
  with_reducible repeat' (first | assumption | (refine State.modCpb_kept hR ?_))

theorem loseResv_kept (hR : Kept R) {a1 a2} (h : R s0 s) : R s0 (loseResv s a1 a2) := by
  unfold loseResv
  with_reducible repeat' (first | assumption | (refine State.each_kept hR ?_ fun s a h => ?_) | (refine State.iff_kept hR ?_ fun s h => ?_) | (refine State.modScribe_kept hR ?_) | split)

theorem inkLine_kept (hR : Kept R) {a1 a2} (h : R s0 s) : R s0 (inkLine s a1 a2).2.2 := by
  unfold inkLine
  with_reducible repeat' (first | assumption | (refine decodeRead_kept' hR (by assumption) ?_) | (refine wakeInk_kept hR ?_) | (intro x; try (refine Kept.cut (R := R) (s0 := s0) (x := x) ?_ ?_; unfold x; rotate_left; clear_value x; intro h)) | lift_lets | (refine Kept.ite ?_ ?_) | split | dsimp only | (refine Kept.ite2 (by assumption) ?_ ?_) | (refine decodeRead_kept hR ?_))
theorem inkLine_kept' (hR : Kept R) {a1 a2 v w t} (e : inkLine s a1 a2 = (v, w, t)) (h : R s0 s) : R s0 t := by
  have q : R s0 (inkLine s a1 a2).2.2 := inkLine_kept hR h
  rw [e] at q
  exact q

theorem storeHalves_kept (hR : KeptMem R) {a1 a2 a3 a4} (h : R s0 s) : R s0 (storeHalves s a1 a2 a3 a4) := by
  unfold storeHalves
  with_reducible repeat' (first | assumption | (refine State.each_kept hR.toKept ?_ fun s a h => ?_) | (refine State.iff_kept hR.toKept ?_ fun s h => ?_) | (refine State.inkWrite_kept hR ?_) | split)

theorem refreshVictims_kept (hR : Kept R) (h : R s0 s) : R s0 (refreshVictims s) := by
  unfold refreshVictims
  with_reducible repeat' (first | assumption | (refine hR.set ?_))

theorem victimDone_kept (hR : KeptMem R) (h : R s0 s) : R s0 (victimDone s) := by
  unfold victimDone
  with_reducible repeat' (first | assumption | (refine refreshVictims_kept hR.toKept ?_) | (refine State.modCpb_kept hR.toKept ?_) | (refine storeHalves_kept hR ?_) | split)

theorem flushVictim_kept (hR : KeptMem R) {a1} (h : R s0 s) : R s0 (flushVictim s a1) := by
  unfold flushVictim
  with_reducible repeat' (first | assumption | (refine State.each_kept hR.toKept ?_ fun s a h => ?_) | (refine storeHalves_kept hR ?_) | (refine refreshVictims_kept hR.toKept ?_) | (refine State.modCpb_kept hR.toKept ?_) | (intro x; try (refine Kept.cut (R := R) (s0 := s0) (x := x) ?_ ?_; unfold x; rotate_left; clear_value x; intro h)) | lift_lets | dsimp only)

theorem evict_kept (hR : KeptMem R) {a1 a2} (h : R s0 s) : R s0 (evict s a1 a2) := by
  unfold evict
  with_reducible repeat' (first | assumption | (refine loseResv_kept hR.toKept ?_) | (refine dropLine_kept hR.toKept ?_) | (refine victimDone_kept hR ?_) | (refine refreshVictims_kept hR.toKept ?_) | (refine State.modCpb_kept hR.toKept ?_) | (intro x; try (refine Kept.cut (R := R) (s0 := s0) (x := x) ?_ ?_; unfold x; rotate_left; clear_value x; intro h)) | lift_lets | (refine Kept.ite ?_ ?_) | split | dsimp only)

theorem cleanLine_kept (hR : KeptMem R) {a1 a2} (h : R s0 s) : R s0 (cleanLine s a1 a2) := by
  unfold cleanLine
  with_reducible repeat' (first | assumption | (refine putLine_kept hR.toKept ?_) | (refine storeHalves_kept hR ?_) | (refine flushVictim_kept hR ?_) | (intro x; try (refine Kept.cut (R := R) (s0 := s0) (x := x) ?_ ?_; unfold x; rotate_left; clear_value x; intro h)) | lift_lets | (refine Kept.ite ?_ ?_) | split | dsimp only)

theorem chooseWay_kept (hR : KeptMem R) {a1} (h : R s0 s) : R s0 (chooseWay s a1).2 := by
  unfold chooseWay
  with_reducible repeat' (first | assumption | (refine dropLine_kept hR.toKept ?_) | (refine evict_kept hR ?_) | (refine hR.toKept.set ?_) | (intro x; try (refine Kept.cut (R := R) (s0 := s0) (x := x) ?_ ?_; unfold x; rotate_left; clear_value x; intro h)) | lift_lets | (refine Kept.ite ?_ ?_) | split | dsimp only)
theorem chooseWay_kept' (hR : KeptMem R) {a1 v t} (e : chooseWay s a1 = (v, t)) (h : R s0 s) : R s0 t := by
  have q : R s0 (chooseWay s a1).2 := chooseWay_kept hR h
  rw [e] at q
  exact q

theorem serve_kept (hR : KeptMem R) {a1 a2} (h : R s0 s) : R s0 (serve s a1 a2).2 := by
  unfold serve
  with_reducible repeat' (first | assumption | (refine State.bump_kept hR.toKept ?_) | (refine flushVictim_kept hR ?_) | (refine chooseWay_kept' hR (by assumption) ?_) | (refine putLine_kept hR.toKept ?_) | (refine inkLine_kept' hR.toKept (by assumption) ?_) | (intro x; try (refine Kept.cut (R := R) (s0 := s0) (x := x) ?_ ?_; unfold x; rotate_left; clear_value x; intro h)) | lift_lets | (refine Kept.ite ?_ ?_) | split | dsimp only | (refine Kept.ite2 (by assumption) ?_ ?_) | (refine chooseWay_kept hR ?_) | (refine inkLine_kept hR.toKept ?_))
theorem serve_kept' (hR : KeptMem R) {a1 a2 v t} (e : serve s a1 a2 = (v, t)) (h : R s0 s) : R s0 t := by
  have q : R s0 (serve s a1 a2).2 := serve_kept hR h
  rw [e] at q
  exact q

theorem servedLine_kept (hR : Kept R) {a1 a2 a3} (h : R s0 s) : R s0 (servedLine s a1 a2 a3).2.2 := by
  unfold servedLine
  with_reducible repeat' (first | assumption | (refine inkLine_kept' hR (by assumption) ?_) | split | (refine inkLine_kept hR ?_))
theorem servedLine_kept' (hR : Kept R) {a1 a2 a3 v w t} (e : servedLine s a1 a2 a3 = (v, w, t)) (h : R s0 s) : R s0 t := by
  have q : R s0 (servedLine s a1 a2 a3).2.2 := servedLine_kept hR h
  rw [e] at q
  exact q

theorem cpbRead_kept (hR : KeptMem R) {a1 a2} (h : R s0 s) : R s0 (cpbRead s a1 a2).2.2 := by
  unfold cpbRead
  with_reducible repeat' (first | assumption | (refine State.addrErr_kept hR.toKept ?_) | (refine serve_kept' hR (by assumption) ?_) | (refine servedLine_kept' hR.toKept (by assumption) ?_) | (intro x; try (refine Kept.cut (R := R) (s0 := s0) (x := x) ?_ ?_; unfold x; rotate_left; clear_value x; intro h)) | lift_lets | (refine Kept.ite ?_ ?_) | split | dsimp only | (refine Kept.ite2 (by assumption) ?_ ?_) | (refine serve_kept hR ?_) | (refine servedLine_kept hR.toKept ?_))
theorem cpbRead_kept' (hR : KeptMem R) {a1 a2 v w t} (e : cpbRead s a1 a2 = (v, w, t)) (h : R s0 s) : R s0 t := by
  have q : R s0 (cpbRead s a1 a2).2.2 := cpbRead_kept hR h
  rw [e] at q
  exact q

theorem cpbWrite_kept (hR : KeptMem R) {a1 a2 a3} (h : R s0 s) : R s0 (cpbWrite s a1 a2 a3) := by
  unfold cpbWrite
  with_reducible repeat' (first | assumption | (refine State.addrErr_kept hR.toKept ?_) | (refine serve_kept' hR (by assumption) ?_) | (refine loseResv_kept hR.toKept ?_) | (refine putLine_kept hR.toKept ?_) | (refine storeHalves_kept hR ?_) | (refine flushVictim_kept hR ?_) | (refine State.inkWrite_kept hR ?_) | (intro x; try (refine Kept.cut (R := R) (s0 := s0) (x := x) ?_ ?_; unfold x; rotate_left; clear_value x; intro h)) | lift_lets | (refine Kept.ite ?_ ?_) | split | dsimp only | (refine Kept.ite2 (by assumption) ?_ ?_) | (refine serve_kept hR ?_))

theorem scratchWrite_kept (hR : Kept R) {a1 a2 a3} (h : R s0 s) : R s0 (scratchWrite s a1 a2 a3) := by
  unfold scratchWrite
  with_reducible repeat' (first | assumption | (refine putLine_kept hR ?_) | (refine loseResv_kept hR ?_) | (intro x; try (refine Kept.cut (R := R) (s0 := s0) (x := x) ?_ ?_; unfold x; rotate_left; clear_value x; intro h)) | lift_lets | dsimp only)

theorem trapScribe_kept (hR : Kept R) {a1 a2 a3} (h : R s0 s) : R s0 (trapScribe s a1 a2 a3) := by
  unfold trapScribe
  with_reducible repeat' (first | assumption | (refine State.modScribe_kept hR ?_))

theorem logPoison_kept (hR : Kept R) {a1 a2} (h : R s0 s) : R s0 (logPoison s a1 a2) := by
  unfold logPoison
  with_reducible repeat' (first | assumption | (refine State.ev_kept hR ?_) | (refine hR.set ?_) | (intro x; try (refine Kept.cut (R := R) (s0 := s0) (x := x) ?_ ?_; unfold x; rotate_left; clear_value x; intro h)) | lift_lets | (refine Kept.ite ?_ ?_) | split | dsimp only)

theorem giveScribe_kept (hR : Kept R) {a1 a2} (h : R s0 s) : R s0 (giveScribe s a1 a2) := by
  unfold giveScribe
  with_reducible repeat' (first | assumption | (refine State.modScribe_kept hR ?_))

theorem lineRead_kept (hR : KeptMem R) {a1} (h : R s0 s) : R s0 (lineRead s a1).2.2 := by
  unfold lineRead
  with_reducible repeat' (first | assumption | (refine cpbRead_kept' hR (by assumption) ?_) | (refine Kept.ite ?_ ?_) | split | (refine cpbRead_kept hR ?_))
theorem lineRead_kept' (hR : KeptMem R) {a1 v w t} (e : lineRead s a1 = (v, w, t)) (h : R s0 s) : R s0 t := by
  have q : R s0 (lineRead s a1).2.2 := lineRead_kept hR h
  rw [e] at q
  exact q

theorem memRead_kept (hR : KeptMem R) {a n} (h : R s0 s) : R s0 (memRead s a n).2.2 := by
  suffices q : ∀ (l : List (Nat × Nat)) (b : List (BitVec 8)) (p : Bool) (s : State), R s0 s → R s0
      (l.foldl (fun (acc : List (BitVec 8) × Bool × State) (l : Nat × Nat) =>
        ((acc.1 ++ (lineRead acc.2.2 l).1), acc.2.1 || (lineRead acc.2.2 l).2.1, (lineRead acc.2.2 l).2.2)) (b, p, s)).2.2 from
    q (linesIn a n) [] false s h
  intro l
  induction l with
  | nil => exact fun b p s h => h
  | cons x l ih => exact fun b p s h => ih _ _ _ (lineRead_kept hR h)
theorem memRead_kept' (hR : KeptMem R) {a n v w t} (e : memRead s a n = (v, w, t)) (h : R s0 s) : R s0 t := by
  have q : R s0 (memRead s a n).2.2 := memRead_kept hR h
  rw [e] at q
  exact q

theorem memWrite_kept (hR : KeptMem R) {a1 a2 a3 a4} (h : R s0 s) : R s0 (memWrite s a1 a2 a3 a4) := by
  unfold memWrite
  with_reducible repeat' (first | assumption | (refine State.each_kept hR.toKept ?_ fun s a h => ?_) | (refine scratchWrite_kept hR.toKept ?_) | (refine cpbWrite_kept hR ?_) | (intro x; try (refine Kept.cut (R := R) (s0 := s0) (x := x) ?_ ?_; unfold x; rotate_left; clear_value x; intro h)) | lift_lets | (refine Kept.ite ?_ ?_) | split | dsimp only)

theorem localRead_kept (hR : Kept R) {a1 a2 a3 a4 a5 a6 a7 a8} (h : R s0 s) : R s0 (localRead s a1 a2 a3 a4 a5 a6 a7 a8) := by
  unfold localRead
  with_reducible repeat' (first | assumption | (refine State.each_kept hR ?_ fun s a h => ?_) | (refine trapScribe_kept hR ?_) | (refine giveScribe_kept hR ?_) | (intro x; try (refine Kept.cut (R := R) (s0 := s0) (x := x) ?_ ?_; unfold x; rotate_left; clear_value x; intro h)) | lift_lets | (refine Kept.ite ?_ ?_) | split | dsimp only | (refine hR.rest ?_))

theorem localWrite_kept (hR : Kept R) {a1 a2 a3 a4 a5} (h : R s0 s) : R s0 (localWrite s a1 a2 a3 a4 a5) := by
  unfold localWrite
  with_reducible repeat' (first | assumption | (refine State.each_kept hR ?_ fun s a h => ?_) | (intro x; try (refine Kept.cut (R := R) (s0 := s0) (x := x) ?_ ?_; unfold x; rotate_left; clear_value x; intro h)) | lift_lets | (refine Kept.ite ?_ ?_) | split | dsimp only | (refine hR.rest ?_))

theorem loadMem_kept (hR : KeptMem R) {a1 a2 a3 a4} (h : R s0 s) : R s0 (loadMem s a1 a2 a3 a4) := by
  unfold loadMem
  with_reducible repeat' (first | assumption | (refine memRead_kept' hR (by assumption) ?_) | (refine trapScribe_kept hR.toKept ?_) | (refine logPoison_kept hR.toKept ?_) | (refine giveScribe_kept hR.toKept ?_) | (refine localRead_kept hR.toKept ?_) | (intro x; try (refine Kept.cut (R := R) (s0 := s0) (x := x) ?_ ?_; unfold x; rotate_left; clear_value x; intro h)) | lift_lets | (refine Kept.ite ?_ ?_) | split | dsimp only | (refine Kept.ite2 (by assumption) ?_ ?_) | (refine memRead_kept hR ?_))

theorem storeMem_kept (hR : KeptMem R) {a1 a2 a3 a4} (h : R s0 s) : R s0 (storeMem s a1 a2 a3 a4) := by
  unfold storeMem
  with_reducible repeat' (first | assumption | (refine State.modScribe_kept hR.toKept ?_) | (refine memWrite_kept hR ?_) | (refine localWrite_kept hR.toKept ?_) | (refine trapScribe_kept hR.toKept ?_) | split)

theorem scribeFetch_kept (hR : KeptMem R) {a0 a1 a2} (h : R s0 s) : R s0 (scribeFetch a0 a1 a2 s) := by
  unfold scribeFetch
  with_reducible repeat' (first | assumption | (refine trapScribe_kept hR.toKept ?_) | (refine memRead_kept' hR (by assumption) ?_) | (refine logPoison_kept hR.toKept ?_) | (refine giveScribe_kept hR.toKept ?_) | (refine localRead_kept hR.toKept ?_) | (intro x; try (refine Kept.cut (R := R) (s0 := s0) (x := x) ?_ ?_; unfold x; rotate_left; clear_value x; intro h)) | lift_lets | (refine Kept.ite ?_ ?_) | split | dsimp only | (refine Kept.ite2 (by assumption) ?_ ?_) | (refine memRead_kept hR ?_))

theorem scribeAmo_kept (hR : KeptMem R) {a0 a1 a2 a3 a4} (h : R s0 s) : R s0 (scribeAmo a0 a1 a2 a3 a4 s) := by
  unfold scribeAmo
  with_reducible repeat' (first | assumption | (refine trapScribe_kept hR.toKept ?_) | (refine giveScribe_kept hR.toKept ?_) | (refine State.modScribe_kept hR.toKept ?_) | (refine memWrite_kept hR ?_) | (refine memRead_kept' hR (by assumption) ?_) | (refine logPoison_kept hR.toKept ?_) | (intro x; try (refine Kept.cut (R := R) (s0 := s0) (x := x) ?_ ?_; unfold x; rotate_left; clear_value x; intro h)) | lift_lets | (refine Kept.ite ?_ ?_) | split | dsimp only | (refine Kept.ite2 (by assumption) ?_ ?_) | (refine memRead_kept hR ?_))

theorem refreshHoles_kept (hR : Kept R) (h : R s0 s) : R s0 (refreshHoles s) := by
  unfold refreshHoles
  with_reducible repeat' (first | assumption | (refine State.each_kept hR ?_ fun s a h => ?_) | (refine hR.set ?_) | (intro x; try (refine Kept.cut (R := R) (s0 := s0) (x := x) ?_ ?_; unfold x; rotate_left; clear_value x; intro h)) | lift_lets | (refine Kept.ite ?_ ?_) | split | dsimp only)

theorem flushRange_kept (hR : KeptMem R) {a1 a2} (h : R s0 s) : R s0 (flushRange s a1 a2) := by
  unfold flushRange
  with_reducible repeat' (first | assumption | (refine State.each_kept hR.toKept ?_ fun s a h => ?_) | (refine flushVictim_kept hR ?_))

theorem invalidateLine_kept (hR : Kept R) {a1} (h : R s0 s) : R s0 (invalidateLine s a1) := by
  unfold invalidateLine
  with_reducible repeat' (first | assumption | (refine loseResv_kept hR ?_) | (refine State.ev_kept hR ?_) | (refine putLine_kept hR ?_) | (refine dropLine_kept hR ?_) | (intro x; try (refine Kept.cut (R := R) (s0 := s0) (x := x) ?_ ?_; unfold x; rotate_left; clear_value x; intro h)) | lift_lets | (refine Kept.ite ?_ ?_) | split | dsimp only)

theorem opRefused_kept (hR : Kept R) (h : R s0 s) : R s0 (opRefused s) := by
  unfold opRefused
  with_reducible repeat' (first | assumption | (refine State.ev_kept hR ?_) | (refine hR.set ?_))

theorem startOp_kept (hR : Kept R) {n k} (h : R s0 s) (hk : ∀ s a b, R s0 s → R s0 (k s a b)) : R s0 (startOp s n k) := by
  unfold startOp
  dsimp only
  split
  · exact hk _ _ _ (State.modCpb_kept hR (hR.set (hR.set (hR.set (hR.set (hR.set h))))))
  · exact opRefused_kept hR (hR.set h)

theorem cpbWriteback_kept (hR : KeptMem R) (h : R s0 s) : R s0 (cpbWriteback s) := by
  unfold cpbWriteback
  with_reducible repeat' (first | assumption | (refine startOp_kept hR.toKept ?_ fun s a b h => ?_) | (refine flushRange_kept hR ?_) | (refine State.each_kept hR.toKept ?_ fun s a h => ?_) | (refine cleanLine_kept hR ?_) | (intro x; try (refine Kept.cut (R := R) (s0 := s0) (x := x) ?_ ?_; unfold x; rotate_left; clear_value x; intro h)) | lift_lets | dsimp only)

theorem cpbInvalidate_kept (hR : Kept R) (h : R s0 s) : R s0 (cpbInvalidate s) := by
  unfold cpbInvalidate
  with_reducible repeat' (first | assumption | (refine startOp_kept hR ?_ fun s a b h => ?_) | (refine refreshHoles_kept hR ?_) | (refine State.each_kept hR ?_ fun s a h => ?_) | (refine invalidateLine_kept hR ?_))

theorem cpbWbInv_kept (hR : KeptMem R) (h : R s0 s) : R s0 (cpbWbInv s) := by
  unfold cpbWbInv
  with_reducible repeat' (first | assumption | (refine startOp_kept hR.toKept ?_ fun s a b h => ?_) | (refine flushRange_kept hR ?_) | (refine refreshHoles_kept hR.toKept ?_) | (refine State.each_kept hR.toKept ?_ fun s a h => ?_) | (refine invalidateLine_kept hR.toKept ?_) | (refine cleanLine_kept hR ?_) | (intro x; try (refine Kept.cut (R := R) (s0 := s0) (x := x) ?_ ?_; unfold x; rotate_left; clear_value x; intro h)) | lift_lets | dsimp only)

theorem zeroLine_kept (hR : Kept R) {a1} (h : R s0 s) : R s0 (zeroLine s a1) := by
  unfold zeroLine
  with_reducible repeat' (first | assumption | (refine putLine_kept hR ?_) | split)

theorem zeroAround_kept (hR : KeptMem R) {stop from_ l} (h : R s0 s) : R s0 (zeroAround s stop from_ l) := by
  induction l generalizing s from_ with
  | nil => exact State.inkWriteZ_kept hR h
  | cons p r ih => exact ih (State.inkWriteZ_kept hR h)

theorem loseRange_kept (hR : Kept R) {a1 a2} (h : R s0 s) : R s0 (loseRange s a1 a2) := by
  unfold loseRange
  with_reducible repeat' (first | assumption | (refine State.each_kept hR ?_ fun s a h => ?_) | (refine State.iff_kept hR ?_ fun s h => ?_) | (refine State.modScribe_kept hR ?_) | split)

theorem cpbZero_kept (hR : KeptMem R) (h : R s0 s) : R s0 (cpbZero s) := by
  unfold cpbZero
  with_reducible repeat' (first | assumption | (refine startOp_kept hR.toKept ?_ fun s a b h => ?_) | (refine loseRange_kept hR.toKept ?_) | (refine flushRange_kept hR ?_) | (refine State.each_kept hR.toKept ?_ fun s a h => ?_) | (refine zeroAround_kept hR ?_) | (refine zeroLine_kept hR.toKept ?_) | (refine Kept.fold ?_ fun p a h => ?_) | (refine Kept.fold1 ?_ fun p a h => ?_) | (intro x; try (refine Kept.cut (R := R) (s0 := s0) (x := x) ?_ ?_; unfold x; rotate_left; clear_value x; intro h)) | lift_lets | dsimp only)

theorem placeLine_kept (hR : KeptMem R) {a0 a2} (h : R s0 s) : R s0 (placeLine a0 s a2) := by
  unfold placeLine
  with_reducible repeat' (first | assumption | (refine putLine_kept hR.toKept ?_) | (refine dropLine_kept hR.toKept ?_) | (refine inkLine_kept' hR.toKept (by assumption) ?_) | (refine flushVictim_kept hR ?_) | (intro x; try (refine Kept.cut (R := R) (s0 := s0) (x := x) ?_ ?_; unfold x; rotate_left; clear_value x; intro h)) | lift_lets | (refine Kept.ite ?_ ?_) | split | dsimp only | (refine Kept.ite2 (by assumption) ?_ ?_) | (refine inkLine_kept hR.toKept ?_))

theorem emptyWay_kept (hR : KeptMem R) {a1} (h : R s0 s) : R s0 (emptyWay s a1) := by
  unfold emptyWay
  with_reducible repeat' (first | assumption | (refine State.each_kept hR.toKept ?_ fun s a h => ?_) | (refine loseResv_kept hR.toKept ?_) | (refine dropLine_kept hR.toKept ?_) | (refine cleanLine_kept hR ?_) | (intro x; try (refine Kept.cut (R := R) (s0 := s0) (x := x) ?_ ?_; unfold x; rotate_left; clear_value x; intro h)) | lift_lets | split | dsimp only)

theorem cpbPreload_kept (hR : KeptMem R) {a0} (h : R s0 s) : R s0 (cpbPreload a0 s) := by
  unfold cpbPreload
  with_reducible repeat' (first | assumption | (refine hR.toKept.set ?_) | (refine opRefused_kept hR.toKept ?_) | (refine startOp_kept hR.toKept ?_ fun s a b h => ?_) | (refine State.modCpb_kept hR.toKept ?_) | (refine emptyWay_kept hR ?_) | (refine refreshHoles_kept hR.toKept ?_) | (refine State.each_kept hR.toKept ?_ fun s a h => ?_) | (refine placeLine_kept hR ?_) | (intro x; try (refine Kept.cut (R := R) (s0 := s0) (x := x) ?_ ?_; unfold x; rotate_left; clear_value x; intro h)) | lift_lets | (refine Kept.ite ?_ ?_) | split | dsimp only)

theorem cpbOpDone_kept (hR : Kept R) (h : R s0 s) : R s0 (cpbOpDone s) := by
  unfold cpbOpDone
  with_reducible repeat' (first | assumption | (refine hR.set ?_) | (refine State.modCpb_kept hR ?_) | (refine State.ev_kept hR ?_) | (intro x; try (refine Kept.cut (R := R) (s0 := s0) (x := x) ?_ ?_; unfold x; rotate_left; clear_value x; intro h)) | lift_lets | (refine Kept.ite ?_ ?_) | split | dsimp only)

theorem cpbUnlock_kept (hR : Kept R) {a0} (h : R s0 s) : R s0 (cpbUnlock a0 s) := by
  unfold cpbUnlock
  with_reducible repeat' (first | assumption | (refine State.ev_kept hR ?_) | (refine State.modCpb_kept hR ?_) | (refine refreshHoles_kept hR ?_) | (refine hR.set ?_) | (intro x; try (refine Kept.cut (R := R) (s0 := s0) (x := x) ?_ ?_; unfold x; rotate_left; clear_value x; intro h)) | lift_lets | (refine Kept.ite ?_ ?_) | split | dsimp only)

theorem scratchCountWrite_kept (hR : KeptMem R) {a0} (h : R s0 s) : R s0 (scratchCountWrite a0 s) := by
  unfold scratchCountWrite
  with_reducible repeat' (first | assumption | (refine State.ev_kept hR.toKept ?_) | (refine hR.toKept.set ?_) | (refine State.each_kept hR.toKept ?_ fun s a h => ?_) | (refine State.modCpb_kept hR.toKept ?_) | (refine emptyWay_kept hR ?_) | (refine State.iff_kept hR.toKept ?_ fun s h => ?_) | (intro x; try (refine Kept.cut (R := R) (s0 := s0) (x := x) ?_ ?_; unfold x; rotate_left; clear_value x; intro h)) | lift_lets | (refine Kept.ite ?_ ?_) | split | dsimp only)

theorem sramEccError_kept (hR : Kept R) {a0 a1 a2 a3} (h : R s0 s) : R s0 (sramEccError a0 a1 a2 a3 s) := by
  unfold sramEccError
  with_reducible repeat' (first | assumption | (refine State.ev_kept hR ?_) | (refine putLine_kept hR ?_) | (intro x; try (refine Kept.cut (R := R) (s0 := s0) (x := x) ?_ ?_; unfold x; rotate_left; clear_value x; intro h)) | lift_lets | (refine Kept.ite ?_ ?_) | split | dsimp only)

theorem giveRead_kept (hR : Kept R) {a1 a2} (h : R s0 s) : R s0 (giveRead s a1 a2) := by
  unfold giveRead
  with_reducible repeat' (first | assumption | (refine hR.rest ?_))

theorem giveAny_kept (hR : Kept R) {a1 a2} (h : R s0 s) : R s0 (giveAny s a1 a2) := by
  unfold giveAny
  with_reducible repeat' (first | assumption | (refine giveScribe_kept hR ?_) | (refine giveRead_kept hR ?_) | split)

theorem protoErr_kept (hR : Kept R) {a1} (h : R s0 s) : R s0 (protoErr s a1) := by
  unfold protoErr
  with_reducible repeat' (first | assumption | (refine State.setBit_kept hR ?_))

theorem mbxMove_kept (hR : Kept R) {a1 a2} (h : R s0 s) : R s0 (mbxMove s a1 a2) := by
  unfold mbxMove
  with_reducible repeat' (first | assumption | (refine State.setBit_kept hR ?_) | (refine hR.set ?_))

theorem zeroRequest_kept (hR : Kept R) {a1} (h : R s0 s) : R s0 (zeroRequest s a1) := by
  unfold zeroRequest
  with_reducible repeat' (first | assumption | (refine State.each_kept hR ?_ fun s a h => ?_) | (refine hR.set ?_))

theorem zeroResult_kept (hR : Kept R) {a1} (h : R s0 s) : R s0 (zeroResult s a1) := by
  unfold zeroResult
  with_reducible repeat' (first | assumption | (refine State.each_kept hR ?_ fun s a h => ?_) | (refine hR.set ?_))

theorem mbxEmpty_kept (hR : Kept R) {a1} (h : R s0 s) : R s0 (mbxEmpty s a1) := by
  unfold mbxEmpty
  with_reducible repeat' (first | assumption | (refine mbxMove_kept hR ?_) | (refine zeroResult_kept hR ?_) | (refine zeroRequest_kept hR ?_) | (refine hR.set ?_) | (intro x; try (refine Kept.cut (R := R) (s0 := s0) (x := x) ?_ ?_; unfold x; rotate_left; clear_value x; intro h)) | lift_lets | dsimp only)

theorem mbxRequestWrite_kept (hR : Kept R) {a0 a1 a2 a3} (h : R s0 s) : R s0 (mbxRequestWrite a0 a1 a2 a3 s) := by
  unfold mbxRequestWrite
  with_reducible repeat' (first | assumption | (refine hR.set ?_) | (refine protoErr_kept hR ?_) | (refine Kept.ite ?_ ?_) | split)

theorem mbxResultWrite_kept (hR : Kept R) {a0 a1 a2 a3} (h : R s0 s) : R s0 (mbxResultWrite a0 a1 a2 a3 s) := by
  unfold mbxResultWrite
  with_reducible repeat' (first | assumption | (refine hR.set ?_) | (refine protoErr_kept hR ?_) | (refine Kept.ite ?_ ?_) | split)

theorem post_kept (hR : Kept R) {a0 a1} (h : R s0 s) : R s0 (post a0 a1 s) := by
  unfold post
  with_reducible repeat' (first | assumption | (refine mbxMove_kept hR ?_) | (refine protoErr_kept hR ?_) | (refine Kept.ite ?_ ?_) | split)

theorem take_kept (hR : Kept R) {a0 a1} (h : R s0 s) : R s0 (take a0 a1 s) := by
  unfold take
  with_reducible repeat' (first | assumption | (refine hR.set ?_) | (refine mbxMove_kept hR ?_) | (refine protoErr_kept hR ?_) | (refine Kept.ite ?_ ?_) | split)

theorem cancel_kept (hR : Kept R) {a0 a1} (h : R s0 s) : R s0 (cancel a0 a1 s) := by
  unfold cancel
  with_reducible repeat' (first | assumption | (refine mbxMove_kept hR ?_) | (refine zeroRequest_kept hR ?_) | (refine hR.set ?_) | (refine protoErr_kept hR ?_) | (refine Kept.ite ?_ ?_) | split)

theorem complete_kept (hR : Kept R) {a0 a1} (h : R s0 s) : R s0 (complete a0 a1 s) := by
  unfold complete
  with_reducible repeat' (first | assumption | (refine mbxEmpty_kept hR ?_) | (refine sendMsix_kept hR ?_) | (refine mbxMove_kept hR ?_) | (refine protoErr_kept hR ?_) | (intro x; try (refine Kept.cut (R := R) (s0 := s0) (x := x) ?_ ?_; unfold x; rotate_left; clear_value x; intro h)) | lift_lets | (refine Kept.ite ?_ ?_) | split | dsimp only)

theorem mbxAck_kept (hR : Kept R) {a0 a1} (h : R s0 s) : R s0 (mbxAck a0 a1 s) := by
  unfold mbxAck
  with_reducible repeat' (first | assumption | (refine mbxEmpty_kept hR ?_) | (refine protoErr_kept hR ?_) | (refine Kept.ite ?_ ?_) | split)

theorem resultHeaderRead_kept (hR : Kept R) {a0 a1} (h : R s0 s) : R s0 (resultHeaderRead a0 a1 s) := by
  unfold resultHeaderRead
  with_reducible repeat' (first | assumption | (refine giveRead_kept hR ?_) | (refine State.iff_kept hR ?_ fun s h => ?_) | (refine hR.set ?_) | (intro x; try (refine Kept.cut (R := R) (s0 := s0) (x := x) ?_ ?_; unfold x; rotate_left; clear_value x; intro h)) | lift_lets | split | dsimp only)

theorem mbxCfgWrite_kept (hR : Kept R) {a0 a1 a2} (h : R s0 s) : R s0 (mbxCfgWrite a0 a1 a2 s) := by
  unfold mbxCfgWrite
  with_reducible repeat' (first | assumption | (refine protoErr_kept hR ?_) | (refine hR.set ?_) | (intro x; try (refine Kept.cut (R := R) (s0 := s0) (x := x) ?_ ?_; unfold x; rotate_left; clear_value x; intro h)) | lift_lets | (refine Kept.ite ?_ ?_) | split | dsimp only)

theorem sealErr_kept (hR : Kept R) {a1} (h : R s0 s) : R s0 (sealErr s a1) := by
  unfold sealErr
  with_reducible repeat' (first | assumption | (refine State.setBit_kept hR ?_))

theorem takeSeal_kept (hR : Kept R) {a1 a2} (h : R s0 s) : R s0 (takeSeal s a1 a2) := by
  unfold takeSeal
  with_reducible repeat' (first | assumption | (refine hR.set ?_) | (refine State.bump_kept hR ?_) | (refine Kept.ite ?_ ?_) | split)

theorem releaseSeal_kept (hR : Kept R) {a1 a2} (h : R s0 s) : R s0 (releaseSeal s a1 a2) := by
  unfold releaseSeal
  with_reducible repeat' (first | assumption | (refine hR.set ?_) | (refine sealErr_kept hR ?_) | (refine Kept.ite ?_ ?_) | split)

theorem sealTake_kept (hR : Kept R) {a0 a1} (h : R s0 s) : R s0 (sealTake a0 a1 s) := by
  unfold sealTake
  with_reducible repeat' (first | assumption | (refine takeSeal_kept hR ?_))

theorem sealRelease_kept (hR : Kept R) {a0 a1} (h : R s0 s) : R s0 (sealRelease a0 a1 s) := by
  unfold sealRelease
  with_reducible repeat' (first | assumption | (refine releaseSeal_kept hR ?_))

theorem clearBroken_kept (hR : Kept R) {a0 a1} (h : R s0 s) : R s0 (clearBroken a0 a1 s) := by
  unfold clearBroken
  with_reducible repeat' (first | assumption | (refine hR.set ?_) | (refine sealErr_kept hR ?_) | (refine Kept.ite ?_ ?_) | split)

theorem breakSeals_kept (hR : Kept R) {a1} (h : R s0 s) : R s0 (breakSeals s a1) := by
  unfold breakSeals
  with_reducible repeat' (first | assumption | (refine State.each_kept hR ?_ fun s a h => ?_) | (refine State.iff_kept hR ?_ fun s h => ?_) | (refine State.setBit_kept hR ?_) | (refine hR.set ?_) | split)

theorem mbxFunctionReset_kept (hR : Kept R) {a1} (h : R s0 s) : R s0 (mbxFunctionReset s a1) := by
  unfold mbxFunctionReset
  with_reducible repeat' (first | assumption | (refine State.each_kept hR ?_ fun s a h => ?_) | (refine State.iff_kept hR ?_ fun s h => ?_) | (refine mbxEmpty_kept hR ?_) | (refine hR.set ?_) | (refine breakSeals_kept hR ?_) | (intro x; try (refine Kept.cut (R := R) (s0 := s0) (x := x) ?_ ?_; unfold x; rotate_left; clear_value x; intro h)) | lift_lets | split | dsimp only)

theorem mbxScribeReset_kept (hR : Kept R) {a1} (h : R s0 s) : R s0 (mbxScribeReset s a1) := by
  unfold mbxScribeReset
  with_reducible repeat' (first | assumption | (refine State.each_kept hR ?_ fun s a h => ?_) | (refine State.iff_kept hR ?_ fun s h => ?_) | (refine mbxEmpty_kept hR ?_) | (refine hR.set ?_) | (refine mbxMove_kept hR ?_) | (refine zeroResult_kept hR ?_) | (refine breakSeals_kept hR ?_) | (intro x; try (refine Kept.cut (R := R) (s0 := s0) (x := x) ?_ ?_; unfold x; rotate_left; clear_value x; intro h)) | lift_lets | (refine Kept.ite ?_ ?_) | split | dsimp only)

theorem State.modLdg_kept (hR : Kept R) {a1} (h : R s0 s) : R s0 (State.modLdg s a1) := by
  unfold State.modLdg
  with_reducible repeat' (first | assumption | (refine hR.rest ?_))

theorem readGroup_kept (hR : KeptMem R) {a1 a2} (h : R s0 s) : R s0 (readGroup s a1 a2).2.2 := by
  unfold readGroup
  with_reducible repeat' (first | assumption | (refine State.addrErr_kept hR.toKept ?_) | (refine State.inkRead_kept' hR.toKept (by assumption) ?_) | (refine memRead_kept' hR (by assumption) ?_) | (intro x; try (refine Kept.cut (R := R) (s0 := s0) (x := x) ?_ ?_; unfold x; rotate_left; clear_value x; intro h)) | lift_lets | (refine Kept.ite ?_ ?_) | split | dsimp only | (refine Kept.ite2 (by assumption) ?_ ?_) | (refine State.inkRead_kept hR.toKept ?_) | (refine memRead_kept hR ?_))
theorem readGroup_kept' (hR : KeptMem R) {a1 a2 v w t} (e : readGroup s a1 a2 = (v, w, t)) (h : R s0 s) : R s0 t := by
  have q : R s0 (readGroup s a1 a2).2.2 := readGroup_kept hR h
  rw [e] at q
  exact q

theorem findGroup_kept (hR : KeptMem R) {base lba bulk fuel lo hi} (h : R s0 s) : R s0 (findGroup base lba bulk fuel s lo hi).2.2 := by
  induction fuel generalizing s lo hi with
  | zero => exact h
  | succ k ih =>
    unfold findGroup
    dsimp only
    have q : R s0 (readGroup s (base + 64 * ((lo + hi) / 2)) bulk).2.2 := readGroup_kept hR h
    split
    · exact h
    · split
      · exact q
      · split
        · exact ih q
        · exact ih q
theorem findGroup_kept' (hR : KeptMem R) {base lba bulk fuel lo hi v w t} (e : findGroup base lba bulk fuel s lo hi = (v, w, t)) (h : R s0 s) :
    R s0 t := by
  have q : R s0 (findGroup base lba bulk fuel s lo hi).2.2 := findGroup_kept hR h
  rw [e] at q
  exact q

theorem searchBlock_kept (hR : KeptMem R) {a1 a2 a3 a4} (h : R s0 s) : R s0 (searchBlock s a1 a2 a3 a4).2 := by
  unfold searchBlock
  with_reducible repeat' (first | assumption | (refine readGroup_kept' hR (by assumption) ?_) | (refine findGroup_kept' hR (by assumption) ?_) | (intro x; try (refine Kept.cut (R := R) (s0 := s0) (x := x) ?_ ?_; unfold x; rotate_left; clear_value x; intro h)) | lift_lets | (refine Kept.ite ?_ ?_) | split | dsimp only | (refine Kept.ite2 (by assumption) ?_ ?_) | (refine readGroup_kept hR ?_) | (refine findGroup_kept hR ?_))
theorem searchBlock_kept' (hR : KeptMem R) {a1 a2 a3 a4 v t} (e : searchBlock s a1 a2 a3 a4 = (v, t)) (h : R s0 s) : R s0 t := by
  have q : R s0 (searchBlock s a1 a2 a3 a4).2 := searchBlock_kept hR h
  rw [e] at q
  exact q

theorem bulkSearch_kept (hR : KeptMem R) {a1 a2 a3 a4} (h : R s0 s) : R s0 (bulkSearch s a1 a2 a3 a4).2 := by
  have h1 : R s0 (searchBlock s (dirBlock a2) (dirCount a2) a3 (decide (s.get LDG_CTRL_BULK_MIN ≤ dirCount a2))).2 := searchBlock_kept hR h
  unfold bulkSearch
  dsimp only
  split
  · exact h1
  · split
    · exact h1
    · exact h1
theorem bulkSearch_kept' (hR : KeptMem R) {a1 a2 a3 a4 v t} (e : bulkSearch s a1 a2 a3 a4 = (v, t)) (h : R s0 s) : R s0 t := by
  have q : R s0 (bulkSearch s a1 a2 a3 a4).2 := bulkSearch_kept hR h
  rw [e] at q
  exact q

theorem spanSearch_kept (hR : KeptMem R) {a1 a2 a3 a4} (h : R s0 s) : R s0 (spanSearch s a1 a2 a3 a4).2 := by
  have h1 : R s0 (searchBlock s (dirBlock a3) (dirCount a3) a4 false).2 := searchBlock_kept hR h
  unfold spanSearch
  dsimp only
  split
  · exact h1
  · split
    · exact h1
    · split
      · exact bulkSearch_kept hR h1
      · exact h1
theorem spanSearch_kept' (hR : KeptMem R) {a1 a2 a3 a4 v t} (e : spanSearch s a1 a2 a3 a4 = (v, t)) (h : R s0 s) : R s0 t := by
  have q : R s0 (spanSearch s a1 a2 a3 a4).2 := spanSearch_kept hR h
  rw [e] at q
  exact q

theorem resolve_kept' (hR : KeptMem R) {a1 a2 v t} (e : resolve s a1 a2 = (v, t)) (h : R s0 s) : R s0 t := by
  unfold resolve at e
  dsimp only at e
  split at e
  · cases e
    exact h
  · have h1 : R s0 (memRead s (nsEntry s a1) 24).2.2 := memRead_kept hR h
    split at e
    · cases e
      exact h1
    · split at e
      · cases e
        exact h1
      · split at e
        · cases e
          exact memRead_kept hR h1
        · exact spanSearch_kept' hR e (memRead_kept hR h1)
theorem resolve_kept (hR : KeptMem R) {a1 a2} (h : R s0 s) : R s0 (resolve s a1 a2).2 :=
  resolve_kept' (v := (resolve s a1 a2).1) hR rfl h

theorem walk_kept (hR : KeptMem R) {nsid upTo fuel lba} (h : R s0 s) : R s0 (walk nsid upTo fuel s lba).2.2.2 := by
  induction fuel generalizing s lba with
  | zero => exact h
  | succ k ih =>
    unfold walk
    split
    · exact h
    · have q : R s0 (resolve s nsid lba).2 := resolve_kept hR h
      dsimp only
      split
      · exact ih q
      · exact ih q
      all_goals exact q
theorem walk_kept' (hR : KeptMem R) {nsid upTo fuel lba v w z t} (e : walk nsid upTo fuel s lba = (v, w, z, t)) (h : R s0 s) :
    R s0 t := by
  have q : R s0 (walk nsid upTo fuel s lba).2.2.2 := walk_kept hR h
  rw [e] at q
  exact q

theorem lookupRange_kept (hR : KeptMem R) {a1 a2 a3} (h : R s0 s) : R s0 (lookupRange s a1 a2 a3).2.2.2 := by
  unfold lookupRange
  with_reducible repeat' (first | assumption | (refine walk_kept' hR (by assumption) ?_) | (refine resolve_kept' hR (by assumption) ?_) | (intro x; try (refine Kept.cut (R := R) (s0 := s0) (x := x) ?_ ?_; unfold x; rotate_left; clear_value x; intro h)) | lift_lets | (refine Kept.ite ?_ ?_) | split | dsimp only | (refine Kept.ite2 (by assumption) ?_ ?_) | (refine walk_kept hR ?_) | (refine resolve_kept hR ?_))
theorem lookupRange_kept' (hR : KeptMem R) {a1 a2 a3 v w z t} (e : lookupRange s a1 a2 a3 = (v, w, z, t)) (h : R s0 s) : R s0 t := by
  have q : R s0 (lookupRange s a1 a2 a3).2.2.2 := lookupRange_kept hR h
  rw [e] at q
  exact q

theorem walkerWrite_kept (hR : KeptMem R) {a1 a2} (h : R s0 s) : R s0 (walkerWrite s a1 a2) := by
  unfold walkerWrite
  with_reducible repeat' (first | assumption | (refine State.each_kept hR.toKept ?_ fun s a h => ?_) | (refine cpbWrite_kept hR ?_))

theorem askRebuild_kept (hR : Kept R) {a1 a2} (h : R s0 s) : R s0 (askRebuild s a1 a2) := by
  unfold askRebuild
  with_reducible repeat' (first | assumption | (refine State.modLdg_kept hR ?_) | (intro x; try (refine Kept.cut (R := R) (s0 := s0) (x := x) ?_ ?_; unfold x; rotate_left; clear_value x; intro h)) | lift_lets | (refine Kept.ite ?_ ?_) | split | dsimp only)

theorem lookup_kept (hR : KeptMem R) (h : R s0 s) : R s0 (lookup s) := by
  unfold lookup
  with_reducible repeat' (first | assumption | (refine State.modLdg_kept hR.toKept ?_) | (refine memRead_kept' hR (by assumption) ?_) | (refine lookupRange_kept' hR (by assumption) ?_) | (refine walkerWrite_kept hR ?_) | (refine State.setBit_kept hR.toKept ?_) | (refine hR.toKept.set ?_) | (refine State.bump_kept hR.toKept ?_) | (refine State.iff_kept hR.toKept ?_ fun s h => ?_) | (refine State.ev_kept hR.toKept ?_) | (refine askRebuild_kept hR.toKept ?_) | (intro x; try (refine Kept.cut (R := R) (s0 := s0) (x := x) ?_ ?_; unfold x; rotate_left; clear_value x; intro h)) | lift_lets | (refine Kept.ite ?_ ?_) | split | dsimp only | (refine Kept.ite2 (by assumption) ?_ ?_) | (refine memRead_kept hR ?_) | (refine lookupRange_kept hR ?_))

theorem ldgSwap_kept (hR : KeptMem R) (h : R s0 s) : R s0 (ldgSwap s) := by
  unfold ldgSwap
  with_reducible repeat' (first | assumption | (refine State.ev_kept hR.toKept ?_) | (refine hR.toKept.set ?_) | (refine cpbWrite_kept hR ?_) | (refine State.wrap_kept hR.toKept ?_) | (intro x; try (refine Kept.cut (R := R) (s0 := s0) (x := x) ?_ ?_; unfold x; rotate_left; clear_value x; intro h)) | lift_lets | (refine Kept.ite ?_ ?_) | split | dsimp only)

theorem swapEntry_kept (hR : KeptMem R) {a1 a2 a3} (h : R s0 s) : R s0 (swapEntry s a1 a2 a3) := by
  unfold swapEntry
  with_reducible repeat' (first | assumption | (refine ldgSwap_kept hR ?_) | (refine hR.toKept.set ?_))

theorem writeBlock_kept (hR : KeptMem R) {a1 a2} (h : R s0 s) : R s0 (writeBlock s a1 a2) := by
  unfold writeBlock
  with_reducible repeat' (first | assumption | (refine walkerWrite_kept hR ?_) | (refine State.each_kept hR.toKept ?_ fun s a h => ?_) | (refine cleanLine_kept hR ?_) | (intro x; try (refine Kept.cut (R := R) (s0 := s0) (x := x) ?_ ?_; unfold x; rotate_left; clear_value x; intro h)) | lift_lets | dsimp only)

theorem putOverlay_kept (hR : KeptMem R) {a1 a2 a3 a4} (h : R s0 s) : R s0 (putOverlay s a1 a2 a3 a4) := by
  unfold putOverlay
  with_reducible repeat' (first | assumption | (refine writeBlock_kept hR ?_) | (refine swapEntry_kept hR ?_) | (intro x; try (refine Kept.cut (R := R) (s0 := s0) (x := x) ?_ ?_; unfold x; rotate_left; clear_value x; intro h)) | lift_lets | dsimp only)

theorem buildSpan_kept (hR : KeptMem R) {a1 a2 a3 a4} (h : R s0 s) : R s0 (buildSpan s a1 a2 a3 a4) := by
  unfold buildSpan
  with_reducible repeat' (first | assumption | (refine writeBlock_kept hR ?_) | (refine swapEntry_kept hR ?_) | (intro x; try (refine Kept.cut (R := R) (s0 := s0) (x := x) ?_ ?_; unfold x; rotate_left; clear_value x; intro h)) | lift_lets | dsimp only)

theorem freeQuires_kept (hR : Kept R) (h : R s0 s) : R s0 (freeQuires s) := by
  unfold freeQuires
  with_reducible repeat' (first | assumption | (refine State.modLdg_kept hR ?_))

theorem commitQuire_kept (hR : KeptMem R) {a1 a2 a3 a4} (h : R s0 s) : R s0 (commitQuire s a1 a2 a3 a4) := by
  unfold commitQuire
  with_reducible repeat' (first | assumption | (refine State.modLdg_kept hR.toKept ?_) | (refine freeQuires_kept hR.toKept ?_) | (refine State.each_kept hR.toKept ?_ fun s a h => ?_) | (refine buildSpan_kept hR ?_) | (intro x; try (refine Kept.cut (R := R) (s0 := s0) (x := x) ?_ ?_; unfold x; rotate_left; clear_value x; intro h)) | lift_lets | split | dsimp only)

theorem modDisc_kept (hR : Kept R) {a1 a2} (h : R s0 s) : R s0 (modDisc s a1 a2) := by
  unfold modDisc
  with_reducible repeat' (first | assumption | (refine State.modLdg_kept hR ?_) | split)

theorem refuseBind_kept (hR : Kept R) {a1 a2} (h : R s0 s) : R s0 (refuseBind s a1 a2) := by
  unfold refuseBind
  with_reducible repeat' (first | assumption | (refine State.modLdg_kept hR ?_))

theorem markSpans_kept (hR : KeptMem R) {a1} (h : R s0 s) : R s0 (markSpans s a1) := by
  unfold markSpans
  with_reducible repeat' (first | assumption | (refine State.each_kept hR.toKept ?_ fun s a h => ?_) | (refine swapEntry_kept hR ?_) | (intro x; try (refine Kept.cut (R := R) (s0 := s0) (x := x) ?_ ?_; unfold x; rotate_left; clear_value x; intro h)) | lift_lets | dsimp only)

theorem raiseCounter_kept (hR : Kept R) {a1} (h : R s0 s) : R s0 (raiseCounter s a1) := by
  unfold raiseCounter
  with_reducible repeat' (first | assumption | (refine State.modLdg_kept hR ?_) | (refine Kept.fold ?_ fun p a h => ?_) | (refine Kept.fold1 ?_ fun p a h => ?_) | (refine Kept.ite ?_ ?_) | split)

theorem settleDisc_kept (hR : Kept R) {a1} (h : R s0 s) : R s0 (settleDisc s a1) := by
  unfold settleDisc
  with_reducible repeat' (first | assumption | (refine State.modLdg_kept hR ?_) | (refine raiseCounter_kept hR ?_) | (refine modDisc_kept hR ?_) | (refine Kept.ite ?_ ?_) | split)

theorem chainStep_kept (hR : Kept R) {a1 a2 a3 a4 a5} (h : R s0 s) : R s0 (chainStep s a1 a2 a3 a4 a5) := by
  unfold chainStep
  with_reducible repeat' (first | assumption | (refine refuseBind_kept hR ?_) | (refine modDisc_kept hR ?_) | (refine State.iff_kept hR ?_ fun s h => ?_) | (intro x; try (refine Kept.cut (R := R) (s0 := s0) (x := x) ?_ ?_; unfold x; rotate_left; clear_value x; intro h)) | lift_lets | (refine Kept.ite ?_ ?_) | split | dsimp only)

theorem rebuildNext_kept (hR : KeptMem R) {a1} (h : R s0 s) : R s0 (rebuildNext s a1) := by
  unfold rebuildNext
  with_reducible repeat' (first | assumption | (refine freeQuires_kept hR.toKept ?_) | (refine State.modLdg_kept hR.toKept ?_) | (refine buildSpan_kept hR ?_) | (intro x; try (refine Kept.cut (R := R) (s0 := s0) (x := x) ?_ ?_; unfold x; rotate_left; clear_value x; intro h)) | lift_lets | split | dsimp only)

theorem putNsEntry_kept (hR : KeptMem R) {a1 a2 a3 a4} (h : R s0 s) : R s0 (putNsEntry s a1 a2 a3 a4) := by
  unfold putNsEntry
  with_reducible repeat' (first | assumption | (refine walkerWrite_kept hR ?_) | (refine Kept.ite ?_ ?_) | split)

theorem restoreLedger_kept (hR : KeptMem R) (h : R s0 s) : R s0 (restoreLedger s) := by
  unfold restoreLedger
  with_reducible repeat' (first | assumption | (refine State.modLdg_kept hR.toKept ?_) | (refine State.each_kept hR.toKept ?_ fun s a h => ?_) | (refine State.inkWriteZ_kept hR ?_) | (refine putNsEntry_kept hR ?_) | (intro x; try (refine Kept.cut (R := R) (s0 := s0) (x := x) ?_ ?_; unfold x; rotate_left; clear_value x; intro h)) | lift_lets | (refine Kept.ite ?_ ?_) | split | dsimp only)

theorem bindStep_kept (hR : KeptMem R) {a0 a1} (h : R s0 s) : R s0 (bindStep a0 a1 s) := by
  unfold bindStep
  with_reducible repeat' (first | assumption | (refine State.modLdg_kept hR.toKept ?_) | (refine refuseBind_kept hR.toKept ?_) | (refine chainStep_kept hR.toKept ?_) | (refine modDisc_kept hR.toKept ?_) | (refine settleDisc_kept hR.toKept ?_) | (refine markSpans_kept hR ?_) | (refine buildSpan_kept hR ?_) | (refine freeQuires_kept hR.toKept ?_) | (refine State.each_kept hR.toKept ?_ fun s a h => ?_) | (refine rebuildNext_kept hR ?_) | (intro x; try (refine Kept.cut (R := R) (s0 := s0) (x := x) ?_ ?_; unfold x; rotate_left; clear_value x; intro h)) | lift_lets | (refine Kept.ite ?_ ?_) | split | dsimp only)

theorem pullSpans_kept (hR : Kept R) {a1 a2 a3} (h : R s0 s) : R s0 (pullSpans s a1 a2 a3) := by
  unfold pullSpans
  with_reducible repeat' (first | assumption | (refine State.modLdg_kept hR ?_) | (intro x; try (refine Kept.cut (R := R) (s0 := s0) (x := x) ?_ ?_; unfold x; rotate_left; clear_value x; intro h)) | lift_lets | dsimp only)

theorem slowLookupResolve_kept (hR : Kept R) {a0 a1 a2} (h : R s0 s) : R s0 (slowLookupResolve a0 a1 a2 s) := by
  unfold slowLookupResolve
  with_reducible repeat' (first | assumption | (refine State.modLdg_kept hR ?_) | (refine pullSpans_kept hR ?_))

theorem vrsOutWrite_kept (hR : KeptMem R) {a0 a1} (h : R s0 s) : R s0 (vrsOutWrite a0 a1 s) := by
  unfold vrsOutWrite
  with_reducible repeat' (first | assumption | (refine hR.toKept.set ?_) | (refine State.iff_kept hR.toKept ?_ fun s h => ?_) | (refine State.ev_kept hR.toKept ?_) | (refine withAna_kept hR.toKept ?_ fun s h => ?_) | (refine setClass_kept hR ?_) | (intro x; try (refine Kept.cut (R := R) (s0 := s0) (x := x) ?_ ?_; unfold x; rotate_left; clear_value x; intro h)) | lift_lets | (refine Kept.ite ?_ ?_) | split | dsimp only)

theorem degrade_kept (hR : Kept R) (h : R s0 s) : R s0 (degrade s) := by
  unfold degrade
  with_reducible repeat' (first | assumption | (refine State.iff_kept hR ?_ fun s h => ?_) | (refine State.ev_kept hR ?_) | (refine hR.set ?_) | split)

theorem State.modSec_kept (hR : Kept R) {a1} (h : R s0 s) : R s0 (State.modSec s a1) := by
  unfold State.modSec
  with_reducible repeat' (first | assumption | (refine hR.rest ?_))

theorem linkFails_kept (hR : Kept R) (h : R s0 s) : R s0 (linkFails s) := by
  unfold linkFails
  with_reducible repeat' (first | assumption | (refine State.iff_kept hR ?_ fun s h => ?_) | (refine degrade_kept hR ?_) | (refine breakSeals_kept hR ?_) | (refine State.bump_kept hR ?_) | (refine State.ev_kept hR ?_) | (refine State.modVerso_kept hR ?_) | (refine hR.set ?_) | (refine State.modSec_kept hR ?_) | (refine settle_kept hR ?_) | (intro x; try (refine Kept.cut (R := R) (s0 := s0) (x := x) ?_ ?_; unfold x; rotate_left; clear_value x; intro h)) | lift_lets | (refine Kept.ite ?_ ?_) | split | dsimp only)

theorem versoLinkFail_kept (hR : Kept R) {a0} (h : R s0 s) : R s0 (versoLinkFail a0 s) := by
  unfold versoLinkFail
  with_reducible repeat' (first | assumption | (refine linkFails_kept hR ?_) | (refine Kept.ite ?_ ?_) | split)

theorem drbg_kept (hR : Kept R) {a1} (h : R s0 s) : R s0 (drbg s a1).2 := by
  unfold drbg
  with_reducible repeat' (first | assumption | (refine State.modSec_kept hR ?_) | (refine Kept.ite ?_ ?_) | split | (refine hR.ctr ?_) | (refine hR.rest ?_))
theorem drbg_kept' (hR : Kept R) {a1 v t} (e : drbg s a1 = (v, t)) (h : R s0 s) : R s0 t := by
  have q : R s0 (drbg s a1).2 := drbg_kept hR h
  rw [e] at q
  exact q

theorem versoLinkUp_kept (hR : Kept R) {a0} (h : R s0 s) : R s0 (versoLinkUp a0 s) := by
  unfold versoLinkUp
  with_reducible repeat' (first | assumption | (refine drbg_kept' hR (by assumption) ?_) | (refine State.modSec_kept hR ?_) | (refine State.modVerso_kept hR ?_) | (refine State.ev_kept hR ?_) | (refine hR.set ?_) | (intro x; try (refine Kept.cut (R := R) (s0 := s0) (x := x) ?_ ?_; unfold x; rotate_left; clear_value x; intro h)) | lift_lets | (refine Kept.ite ?_ ?_) | split | dsimp only | (refine Kept.ite2 (by assumption) ?_ ?_) | (refine drbg_kept hR ?_))

theorem heartbeat_kept (hR : Kept R) {a0} (h : R s0 s) : R s0 (heartbeat a0 s) := by
  unfold heartbeat
  with_reducible repeat' (first | assumption | (refine sendVerso_kept hR ?_) | (refine State.modVerso_kept hR ?_) | (refine State.bump_kept hR ?_) | (refine State.iff_kept hR ?_ fun s h => ?_) | (refine hR.set ?_) | (refine State.ev_kept hR ?_) | (intro x; try (refine Kept.cut (R := R) (s0 := s0) (x := x) ?_ ?_; unfold x; rotate_left; clear_value x; intro h)) | lift_lets | (refine Kept.ite ?_ ?_) | split | dsimp only)

theorem gcmFail_kept (hR : Kept R) (h : R s0 s) : R s0 (gcmFail s) := by
  unfold gcmFail
  with_reducible repeat' (first | assumption | (refine State.bump_kept hR ?_) | (refine State.ev_kept hR ?_) | (refine State.modVerso_kept hR ?_) | (refine versoLinkFail_kept hR ?_) | (intro x; try (refine Kept.cut (R := R) (s0 := s0) (x := x) ?_ ?_; unfold x; rotate_left; clear_value x; intro h)) | lift_lets | (refine Kept.ite ?_ ?_) | split | dsimp only)

theorem writeData_kept (hR : KeptMem R) {a0 a1} (h : R s0 s) : R s0 (writeData a0 a1 s) := by
  unfold writeData
  with_reducible repeat' (first | assumption | (refine sendVerso_kept hR.toKept ?_) | (refine State.inkWrite_kept hR ?_) | (refine Kept.ite ?_ ?_) | split)

theorem dataAck_kept (hR : Kept R) {a0} (h : R s0 s) : R s0 (dataAck a0 s) := by
  unfold dataAck
  with_reducible repeat' (first | assumption | (refine settle_kept hR ?_) | (refine State.modHq_kept hR ?_) | (refine State.modVerso_kept hR ?_) | (refine Kept.ite ?_ ?_) | split)

theorem sealMsg_kept (hR : Kept R) {a0 a1} (h : R s0 s) : R s0 (sealMsg a0 a1 s) := by
  unfold sealMsg
  with_reducible repeat' (first | assumption | (refine takeSeal_kept hR ?_) | (refine releaseSeal_kept hR ?_) | (refine Kept.ite ?_ ?_) | split)

theorem firmwareMsg_kept (hR : KeptMem R) {a0} (h : R s0 s) : R s0 (firmwareMsg a0 s) := by
  unfold firmwareMsg
  with_reducible repeat' (first | assumption | (refine hR.toKept.set ?_) | (refine sendVerso_kept hR.toKept ?_) | (refine State.ev_kept hR.toKept ?_) | (refine State.inkWrite_kept hR ?_) | (refine settle_kept hR.toKept ?_) | (refine modCmd_kept hR.toKept ?_) | (intro x; try (refine Kept.cut (R := R) (s0 := s0) (x := x) ?_ ?_; unfold x; rotate_left; clear_value x; intro h)) | lift_lets | (refine Kept.ite ?_ ?_) | split | dsimp only)

theorem askAuto_kept (hR : Kept R) (h : R s0 s) : R s0 (askAuto s) := by
  unfold askAuto
  with_reducible repeat' (first | assumption | (refine State.each_kept hR ?_ fun s a h => ?_) | (refine State.iff_kept hR ?_ fun s h => ?_) | (refine requestMode_kept hR ?_) | split)

theorem noteTakeover_kept (hR : Kept R) (h : R s0 s) : R s0 (noteTakeover s) := by
  unfold noteTakeover
  with_reducible repeat' (first | assumption | (refine State.each_kept hR ?_ fun s a h => ?_) | (refine State.modSup_kept hR ?_) | (refine Kept.fold ?_ fun p a h => ?_) | (refine Kept.fold1 ?_ fun p a h => ?_) | (intro x; try (refine Kept.cut (R := R) (s0 := s0) (x := x) ?_ ?_; unfold x; rotate_left; clear_value x; intro h)) | lift_lets | dsimp only)

theorem takeOver_kept (hR : KeptMem R) (h : R s0 s) : R s0 (takeOver s) := by
  unfold takeOver
  with_reducible repeat' (first | assumption | (refine State.each_kept hR.toKept ?_ fun s a h => ?_) | (refine noteTakeover_kept hR.toKept ?_) | (refine State.iff_kept hR.toKept ?_ fun s h => ?_) | (refine setClass_kept hR ?_) | (refine askAuto_kept hR.toKept ?_) | (refine State.ev_kept hR.toKept ?_) | (intro x; try (refine Kept.cut (R := R) (s0 := s0) (x := x) ?_ ?_; unfold x; rotate_left; clear_value x; intro h)) | lift_lets | (refine Kept.ite ?_ ?_) | split | dsimp only | (refine hR.toKept.rest ?_))

theorem takeover_kept (hR : KeptMem R) {a0} (h : R s0 s) : R s0 (takeover a0 s) := by
  unfold takeover
  with_reducible repeat' (first | assumption | (refine State.iff_kept hR.toKept ?_ fun s h => ?_) | (refine State.ev_kept hR.toKept ?_) | (refine withAna_kept hR.toKept ?_ fun s h => ?_) | (refine takeOver_kept hR ?_) | (intro x; try (refine Kept.cut (R := R) (s0 := s0) (x := x) ?_ ?_; unfold x; rotate_left; clear_value x; intro h)) | lift_lets | (refine Kept.ite ?_ ?_) | split | dsimp only)

theorem stale_kept (hR : KeptMem R) {a0} (h : R s0 s) : R s0 (stale a0 s) := by
  unfold stale
  with_reducible repeat' (first | assumption | (refine withAna_kept hR.toKept ?_ fun s h => ?_) | (refine State.ev_kept hR.toKept ?_) | (refine setClass_kept hR ?_) | (refine Kept.ite ?_ ?_) | split)

theorem health_kept (hR : Kept R) (h : R s0 s) : R s0 (health s) := by
  unfold health
  with_reducible repeat' (first | assumption | (refine hR.set ?_) | (refine State.wrap_kept hR ?_) | (refine State.iff_kept hR ?_ fun s h => ?_) | (refine State.ev_kept hR ?_) | (refine State.each_kept hR ?_ fun s a h => ?_) | (refine State.modEng_kept hR ?_) | (refine State.modSp_kept hR ?_) | (refine State.modVerso_kept hR ?_) | (refine Kept.fold ?_ fun p a h => ?_) | (refine Kept.fold1 ?_ fun p a h => ?_) | (intro x; try (refine Kept.cut (R := R) (s0 := s0) (x := x) ?_ ?_; unfold x; rotate_left; clear_value x; intro h)) | lift_lets | (refine Kept.ite ?_ ?_) | split | dsimp only)

theorem degClr_kept (hR : Kept R) (h : R s0 s) : R s0 (degClr s) := by
  unfold degClr
  with_reducible repeat' (first | assumption | (refine State.iff_kept hR ?_ fun s h => ?_) | (refine hR.set ?_) | split)

theorem diagClear_kept (hR : Kept R) (h : R s0 s) : R s0 (diagClear s) := by
  unfold diagClear
  with_reducible repeat' (first | assumption | (refine withAna_kept hR ?_ fun s h => ?_) | (refine refreshRole_kept hR ?_) | (refine hR.set ?_) | (refine Kept.ite ?_ ?_) | split)

theorem nodeWrite_kept (hR : Kept R) {a0} (h : R s0 s) : R s0 (nodeWrite a0 s) := by
  unfold nodeWrite
  with_reducible repeat' (first | assumption | (refine hR.set ?_) | (refine State.ev_kept hR ?_) | (refine Kept.ite ?_ ?_) | split)

end Sys2Proof.Machine
end

