-- ==== Sys2Proof/Laws/KeptHost.lean ====
section
/-!
SUPPORT. For security, start-up, the NVMe commands, heat, trim and the register accesses: each operation keeps every relation between states that register and hidden-state changes keep, or that
stores keep too. Instances of the relation give invariants and frames without unfolding an operation.
-/

namespace Sys2Proof.Machine

variable {R : State → State → Prop} {s0 s : State}

theorem refreshApproved_kept (hR : Kept R) (h : R s0 s) : R s0 (refreshApproved s) := by
  unfold refreshApproved
  with_reducible repeat' (first | assumption | (refine hR.set ?_) | (refine State.modSec_kept hR ?_) | (refine State.ev_kept hR ?_) | (refine Kept.ite ?_ ?_) | split)

theorem cutKeyed_kept (hR : KeptMem R) {a0} (h : R s0 s) : R s0 (cutKeyed a0 s) := by
  unfold cutKeyed
  with_reducible repeat' (first | assumption | (refine State.each_kept hR.toKept ?_ fun s a h => ?_) | (refine State.iff_kept hR.toKept ?_ fun s h => ?_) | (refine sendAbort_kept hR.toKept ?_) | (refine State.bump_kept hR.toKept ?_) | (refine completeDesc_kept hR ?_) | (refine modDesc_kept hR.toKept ?_) | (refine refreshWc_kept hR.toKept ?_) | (refine Kept.fold ?_ fun p a h => ?_) | (refine Kept.fold1 ?_ fun p a h => ?_) | (intro x; try (refine Kept.cut (R := R) (s0 := s0) (x := x) ?_ ?_; unfold x; rotate_left; clear_value x; intro h)) | lift_lets | (refine Kept.ite ?_ ?_) | split | dsimp only)

theorem clearAuth_kept (hR : Kept R) (h : R s0 s) : R s0 (clearAuth s) := by
  unfold clearAuth
  with_reducible repeat' (first | assumption | (refine hR.set ?_))

theorem closeAll_kept (hR : Kept R) (h : R s0 s) : R s0 (closeAll s) := by
  unfold closeAll
  with_reducible repeat' (first | assumption | (refine State.modSec_kept hR ?_))

theorem emptySlot_kept (hR : Kept R) {a1} (h : R s0 s) : R s0 (emptySlot s a1) := by
  unfold emptySlot
  with_reducible repeat' (first | assumption | (refine State.modSec_kept hR ?_) | (refine hR.set ?_))

theorem zeroiseAll_kept (hR : KeptMem R) (h : R s0 s) : R s0 (zeroiseAll s) := by
  unfold zeroiseAll
  with_reducible repeat' (first | assumption | (refine State.each_kept hR.toKept ?_ fun s a h => ?_) | (refine emptySlot_kept hR.toKept ?_) | (refine State.modSec_kept hR.toKept ?_) | (refine State.ev_kept hR.toKept ?_) | (refine cutKeyed_kept hR ?_) | (refine closeAll_kept hR.toKept ?_) | (refine clearAuth_kept hR.toKept ?_) | (intro x; try (refine Kept.cut (R := R) (s0 := s0) (x := x) ?_ ?_; unfold x; rotate_left; clear_value x; intro h)) | lift_lets | dsimp only)

theorem zeroise_kept (hR : KeptMem R) (h : R s0 s) : R s0 (zeroise s) := by
  unfold zeroise
  with_reducible repeat' (first | assumption | (refine zeroiseAll_kept hR ?_) | (refine Kept.ite ?_ ?_) | split)

theorem secError_kept (hR : KeptMem R) {a0} (h : R s0 s) : R s0 (secError a0 s) := by
  unfold secError
  with_reducible repeat' (first | assumption | (refine State.iff_kept hR.toKept ?_ fun s h => ?_) | (refine hR.toKept.set ?_) | (refine cutKeyed_kept hR ?_) | (refine zeroiseAll_kept hR ?_) | (refine State.ev_kept hR.toKept ?_) | (refine diagnose_kept hR ?_) | (refine refreshApproved_kept hR.toKept ?_) | (refine versoLinkFail_kept hR.toKept ?_) | (intro x; try (refine Kept.cut (R := R) (s0 := s0) (x := x) ?_ ?_; unfold x; rotate_left; clear_value x; intro h)) | lift_lets | (refine Kept.ite ?_ ?_) | split | dsimp only)

theorem katDone_kept (hR : KeptMem R) {a0} (h : R s0 s) : R s0 (katDone a0 s) := by
  unfold katDone
  with_reducible repeat' (first | assumption | (refine hR.toKept.set ?_) | (refine drbg_kept' hR.toKept (by assumption) ?_) | (refine refreshApproved_kept hR.toKept ?_) | (refine State.ev_kept hR.toKept ?_) | (refine secError_kept hR ?_) | (intro x; try (refine Kept.cut (R := R) (s0 := s0) (x := x) ?_ ?_; unfold x; rotate_left; clear_value x; intro h)) | lift_lets | (refine Kept.ite ?_ ?_) | split | dsimp only | (refine Kept.ite2 (by assumption) ?_ ?_) | (refine drbg_kept hR.toKept ?_))

theorem selftest_kept (hR : Kept R) (h : R s0 s) : R s0 (selftest s) := by
  unfold selftest
  with_reducible repeat' (first | assumption | (refine State.modSec_kept hR ?_) | (refine hR.set ?_) | (refine Kept.ite ?_ ?_) | split)

theorem selftestDone_kept (hR : KeptMem R) {a0} (h : R s0 s) : R s0 (selftestDone a0 s) := by
  unfold selftestDone
  with_reducible repeat' (first | assumption | (refine State.modSec_kept hR.toKept ?_) | (refine hR.toKept.set ?_) | (refine State.ev_kept hR.toKept ?_) | (refine secError_kept hR ?_) | (intro x; try (refine Kept.cut (R := R) (s0 := s0) (x := x) ?_ ?_; unfold x; rotate_left; clear_value x; intro h)) | lift_lets | (refine Kept.ite ?_ ?_) | split | dsimp only)

theorem reseed_kept (hR : Kept R) (h : R s0 s) : R s0 (reseed s) := by
  unfold reseed
  with_reducible repeat' (first | assumption | (refine State.modSec_kept hR ?_))

theorem entFail_kept (hR : KeptMem R) {a0} (h : R s0 s) : R s0 (entFail a0 s) := by
  unfold entFail
  with_reducible repeat' (first | assumption | (refine State.bump_kept hR.toKept ?_) | (refine State.modSec_kept hR.toKept ?_) | (refine hR.toKept.set ?_) | (refine State.ev_kept hR.toKept ?_) | (refine State.fresh_kept' hR.toKept (by assumption) ?_) | (refine secError_kept hR ?_) | (intro x; try (refine Kept.cut (R := R) (s0 := s0) (x := x) ?_ ?_; unfold x; rotate_left; clear_value x; intro h)) | lift_lets | (refine Kept.ite ?_ ?_) | split | dsimp only | (refine Kept.ite2 (by assumption) ?_ ?_) | (refine State.fresh_kept hR.toKept ?_))

theorem fillSlot_kept (hR : Kept R) {a1 a2 a3} (h : R s0 s) : R s0 (fillSlot s a1 a2 a3) := by
  unfold fillSlot
  with_reducible repeat' (first | assumption | (refine hR.set ?_) | (refine State.modSec_kept hR ?_) | (intro x; try (refine Kept.cut (R := R) (s0 := s0) (x := x) ?_ ?_; unfold x; rotate_left; clear_value x; intro h)) | lift_lets | dsimp only)

theorem keyOp_kept (hR : KeptMem R) {a1} (h : R s0 s) : R s0 (keyOp s a1).2 := by
  unfold keyOp
  with_reducible repeat' (first | assumption | (refine State.iff_kept hR.toKept ?_ fun s h => ?_) | (refine State.addrErr_kept hR.toKept ?_) | (refine drbg_kept' hR.toKept (by assumption) ?_) | (refine fillSlot_kept hR.toKept ?_) | (refine State.inkWrite_kept hR ?_) | (refine emptySlot_kept hR.toKept ?_) | (refine State.modSec_kept hR.toKept ?_) | (intro x; try (refine Kept.cut (R := R) (s0 := s0) (x := x) ?_ ?_; unfold x; rotate_left; clear_value x; intro h)) | lift_lets | (refine Kept.ite ?_ ?_) | split | dsimp only | (refine Kept.ite2 (by assumption) ?_ ?_) | (refine drbg_kept hR.toKept ?_))
theorem keyOp_kept' (hR : KeptMem R) {a1 v t} (e : keyOp s a1 = (v, t)) (h : R s0 s) : R s0 t := by
  have q : R s0 (keyOp s a1).2 := keyOp_kept hR h
  rw [e] at q
  exact q

theorem performKey_kept (hR : KeptMem R) (h : R s0 s) : R s0 (performKey s) := by
  unfold performKey
  with_reducible repeat' (first | assumption | (refine State.modSec_kept hR.toKept ?_) | (refine keyOp_kept' hR (by assumption) ?_) | (intro x; try (refine Kept.cut (R := R) (s0 := s0) (x := x) ?_ ?_; unfold x; rotate_left; clear_value x; intro h)) | lift_lets | (refine Kept.ite ?_ ?_) | split | dsimp only | (refine Kept.ite2 (by assumption) ?_ ?_) | (refine keyOp_kept hR ?_))

theorem keyStart_kept (hR : KeptMem R) {a0 a1 a2} (h : R s0 s) : R s0 (keyStart a0 a1 a2 s) := by
  unfold keyStart
  with_reducible repeat' (first | assumption | (refine hR.toKept.set ?_) | (refine State.ev_kept hR.toKept ?_) | (refine performKey_kept hR ?_) | (refine State.modSec_kept hR.toKept ?_) | (intro x; try (refine Kept.cut (R := R) (s0 := s0) (x := x) ?_ ?_; unfold x; rotate_left; clear_value x; intro h)) | lift_lets | (refine Kept.ite ?_ ?_) | split | dsimp only)

theorem keyDone_kept (hR : KeptMem R) (h : R s0 s) : R s0 (keyDone s) := by
  unfold keyDone
  with_reducible repeat' (first | assumption | (refine performKey_kept hR ?_) | (refine hR.toKept.set ?_) | (refine State.modSec_kept hR.toKept ?_) | (refine State.ev_kept hR.toKept ?_) | (intro x; try (refine Kept.cut (R := R) (s0 := s0) (x := x) ?_ ?_; unfold x; rotate_left; clear_value x; intro h)) | lift_lets | (refine Kept.ite ?_ ?_) | split | dsimp only)

theorem setAuth_kept (hR : Kept R) {a1 a2} (h : R s0 s) : R s0 (setAuth s a1 a2) := by
  unfold setAuth
  with_reducible repeat' (first | assumption | (refine hR.set ?_) | split)

theorem closeSession_kept (hR : Kept R) {a1} (h : R s0 s) : R s0 (closeSession s a1) := by
  unfold closeSession
  with_reducible repeat' (first | assumption | (refine State.modSec_kept hR ?_) | (refine setAuth_kept hR ?_) | (intro x; try (refine Kept.cut (R := R) (s0 := s0) (x := x) ?_ ?_; unfold x; rotate_left; clear_value x; intro h)) | lift_lets | (refine Kept.ite ?_ ?_) | split | dsimp only)

theorem closeFunction_kept (hR : Kept R) {a1} (h : R s0 s) : R s0 (closeFunction s a1) := by
  unfold closeFunction
  with_reducible repeat' (first | assumption | (refine State.each_kept hR ?_ fun s a h => ?_) | (refine closeSession_kept hR ?_) | (refine State.modSec_kept hR ?_) | (intro x; try (refine Kept.cut (R := R) (s0 := s0) (x := x) ?_ ?_; unfold x; rotate_left; clear_value x; intro h)) | lift_lets | dsimp only)

theorem secScribeReset_kept (hR : Kept R) (h : R s0 s) : R s0 (secScribeReset s) := by
  unfold secScribeReset
  with_reducible repeat' (first | assumption | (refine closeAll_kept hR ?_) | (refine clearAuth_kept hR ?_))

theorem sesAnswer_kept (hR : Kept R) {a1} (h : R s0 s) : R s0 (sesAnswer s a1) := by
  unfold sesAnswer
  with_reducible repeat' (first | assumption | (refine State.modSec_kept hR ?_))

theorem open1_kept (hR : Kept R) {a0 a1 a2} (h : R s0 s) : R s0 (open1 a0 a1 a2 s) := by
  unfold open1
  with_reducible repeat' (first | assumption | (refine drbg_kept' hR (by assumption) ?_) | (refine State.modSec_kept hR ?_) | (refine sesAnswer_kept hR ?_) | (intro x; try (refine Kept.cut (R := R) (s0 := s0) (x := x) ?_ ?_; unfold x; rotate_left; clear_value x; intro h)) | lift_lets | (refine Kept.ite ?_ ?_) | split | dsimp only | (refine Kept.ite2 (by assumption) ?_ ?_) | (refine drbg_kept hR ?_))

theorem open2_kept (hR : Kept R) {a0 a1} (h : R s0 s) : R s0 (open2 a0 a1 s) := by
  unfold open2
  with_reducible repeat' (first | assumption | (refine sesAnswer_kept hR ?_) | (refine State.modSec_kept hR ?_) | (refine State.fresh_kept' hR (by assumption) ?_) | (refine setAuth_kept hR ?_) | (intro x; try (refine Kept.cut (R := R) (s0 := s0) (x := x) ?_ ?_; unfold x; rotate_left; clear_value x; intro h)) | lift_lets | (refine Kept.ite ?_ ?_) | split | dsimp only | (refine Kept.ite2 (by assumption) ?_ ?_) | (refine State.fresh_kept hR ?_))

theorem sessionRequest_kept (hR : Kept R) {a0} (h : R s0 s) : R s0 (sessionRequest a0 s) := by
  unfold sessionRequest
  with_reducible repeat' (first | assumption | (refine sesAnswer_kept hR ?_) | (refine setAuth_kept hR ?_) | (refine State.modSec_kept hR ?_) | (intro x; try (refine Kept.cut (R := R) (s0 := s0) (x := x) ?_ ?_; unfold x; rotate_left; clear_value x; intro h)) | lift_lets | (refine Kept.ite ?_ ?_) | split | dsimp only)

theorem debugUnlock_kept (hR : KeptMem R) {a0} (h : R s0 s) : R s0 (debugUnlock a0 s) := by
  unfold debugUnlock
  with_reducible repeat' (first | assumption | (refine refreshApproved_kept hR.toKept ?_) | (refine State.ev_kept hR.toKept ?_) | (refine hR.toKept.set ?_) | (refine zeroiseAll_kept hR ?_) | (refine Kept.ite ?_ ?_) | split)

theorem State.modBoot_kept (hR : Kept R) {a1} (h : R s0 s) : R s0 (State.modBoot s a1) := by
  unfold State.modBoot
  with_reducible repeat' (first | assumption | (refine hR.rest ?_))

theorem chipReset_kept (hR : Kept R) (h : R s0 s) : R s0 (chipReset s) := hR.wipe h

theorem resetAssert_kept (hR : Kept R) {a0} (h : R s0 s) : R s0 (resetAssert a0 s) := by
  unfold resetAssert
  with_reducible repeat' (first | assumption | (refine State.modBoot_kept hR ?_) | (refine chipReset_kept hR ?_) | (refine Kept.ite ?_ ?_) | split)

theorem resetRelease_kept (hR : Kept R) {a0} (h : R s0 s) : R s0 (resetRelease a0 s) := by
  unfold resetRelease
  with_reducible repeat' (first | assumption | (refine hR.set ?_) | (refine State.modBoot_kept hR ?_) | (refine State.modHq_kept hR ?_) | (intro x; try (refine Kept.cut (R := R) (s0 := s0) (x := x) ?_ ?_; unfold x; rotate_left; clear_value x; intro h)) | lift_lets | (refine Kept.ite ?_ ?_) | split | dsimp only | (refine hR.rest ?_))

theorem fuseLoadDone_kept (hR : Kept R) (h : R s0 s) : R s0 (fuseLoadDone s) := by
  unfold fuseLoadDone
  with_reducible repeat' (first | assumption | (refine State.modSec_kept hR ?_) | (refine State.modBoot_kept hR ?_) | (refine Kept.ite ?_ ?_) | split)

theorem bistDone_kept (hR : Kept R) (h : R s0 s) : R s0 (bistDone s) := by
  unfold bistDone
  with_reducible repeat' (first | assumption | (refine hR.set ?_) | (refine State.modBoot_kept hR ?_) | (refine Kept.ite ?_ ?_) | split | (refine hR.rest ?_))

theorem trainingDone_kept (hR : Kept R) (h : R s0 s) : R s0 (trainingDone s) := by
  unfold trainingDone
  with_reducible repeat' (first | assumption | (refine hR.set ?_) | (refine State.modBoot_kept hR ?_) | (intro x; try (refine Kept.cut (R := R) (s0 := s0) (x := x) ?_ ?_; unfold x; rotate_left; clear_value x; intro h)) | lift_lets | (refine Kept.ite ?_ ?_) | split | dsimp only)

theorem copySection_kept (hR : KeptMem R) {a0 a2} (h : R s0 s) : R s0 (copySection a0 s a2) := by
  unfold copySection
  with_reducible repeat' (first | assumption | (refine State.inkWrite_kept hR ?_) | (refine Kept.fold ?_ fun p a h => ?_) | (refine Kept.fold1 ?_ fun p a h => ?_) | (intro x; try (refine Kept.cut (R := R) (s0 := s0) (x := x) ?_ ?_; unfold x; rotate_left; clear_value x; intro h)) | lift_lets | (refine Kept.ite ?_ ?_) | split | dsimp only | (refine hR.toKept.rest ?_))

theorem trialStart_kept (hR : Kept R) (h : R s0 s) : R s0 (trialStart s) := by
  unfold trialStart
  with_reducible repeat' (first | assumption | (refine resetRelease_kept hR ?_) | (refine chipReset_kept hR ?_) | (refine State.modBoot_kept hR ?_) | (refine Kept.ite ?_ ?_) | split | (refine hR.rest ?_))

theorem trialTick_kept (hR : Kept R) (h : R s0 s) : R s0 (trialTick s) := by
  unfold trialTick
  with_reducible repeat' (first | assumption | (refine State.modBoot_kept hR ?_) | (refine Kept.ite ?_ ?_) | split | (refine hR.rest ?_))

theorem clockTick_kept (hR : Kept R) (h : R s0 s) : R s0 (clockTick s) := by
  unfold clockTick
  with_reducible repeat' (first | assumption | (refine trialTick_kept hR ?_) | (refine countIdle_kept hR ?_) | (refine ageClaims_kept hR ?_) | (refine State.wrap_kept hR ?_) | (refine Kept.ite ?_ ?_) | split)

theorem imageCheck_kept (hR : KeptMem R) {a0 a1} (h : R s0 s) : R s0 (imageCheck a0 a1 s) := by
  unfold imageCheck
  with_reducible repeat' (first | assumption | (refine State.inkWrite_kept hR ?_) | (refine hR.toKept.set ?_) | (refine State.each_kept hR.toKept ?_ fun s a h => ?_) | (refine copySection_kept hR ?_) | (refine trialStart_kept hR.toKept ?_) | (refine refreshApproved_kept hR.toKept ?_) | (refine State.modBoot_kept hR.toKept ?_) | (intro x; try (refine Kept.cut (R := R) (s0 := s0) (x := x) ?_ ?_; unfold x; rotate_left; clear_value x; intro h)) | lift_lets | (refine Kept.ite ?_ ?_) | split | dsimp only)

theorem scribeResets_kept (hR : Kept R) {a1} (h : R s0 s) : R s0 (scribeResets s a1) := by
  unfold scribeResets
  with_reducible repeat' (first | assumption | (refine mbxScribeReset_kept hR ?_) | (refine State.bump_kept hR ?_) | (refine State.iff_kept hR ?_ fun s h => ?_) | (refine secScribeReset_kept hR ?_) | (intro x; try (refine Kept.cut (R := R) (s0 := s0) (x := x) ?_ ?_; unfold x; rotate_left; clear_value x; intro h)) | lift_lets | split | dsimp only | (refine hR.rest ?_))

theorem release_kept (hR : Kept R) {a0 a1} (h : R s0 s) : R s0 (release a0 a1 s) := by
  unfold release
  with_reducible repeat' (first | assumption | (refine hR.set ?_) | (refine refreshReady_kept hR ?_) | (refine refreshApproved_kept hR ?_) | (refine State.modScribe_kept hR ?_) | (refine State.ev_kept hR ?_) | (refine scribeResets_kept hR ?_) | (intro x; try (refine Kept.cut (R := R) (s0 := s0) (x := x) ?_ ?_; unfold x; rotate_left; clear_value x; intro h)) | lift_lets | (refine Kept.ite ?_ ?_) | split | dsimp only)

theorem kick_kept (hR : Kept R) {a0 a1 a2} (h : R s0 s) : R s0 (kick a0 a1 a2 s) := by
  unfold kick
  with_reducible repeat' (first | assumption | (refine State.modScribe_kept hR ?_) | (refine Kept.ite ?_ ?_) | split)

theorem wdtTimeoutWrite_kept (hR : Kept R) {a0 a1} (h : R s0 s) : R s0 (wdtTimeoutWrite a0 a1 s) := by
  unfold wdtTimeoutWrite
  with_reducible repeat' (first | assumption | (refine State.modScribe_kept hR ?_) | (refine hR.set ?_) | (intro x; try (refine Kept.cut (R := R) (s0 := s0) (x := x) ?_ ?_; unfold x; rotate_left; clear_value x; intro h)) | lift_lets | (refine Kept.ite ?_ ?_) | split | dsimp only)

theorem wdtWarn_kept (hR : Kept R) {a0 a1} (h : R s0 s) : R s0 (wdtWarn a0 a1 s) := by
  unfold wdtWarn
  with_reducible repeat' (first | assumption | (refine State.modScribe_kept hR ?_) | (refine State.ev_kept hR ?_) | (intro x; try (refine Kept.cut (R := R) (s0 := s0) (x := x) ?_ ?_; unfold x; rotate_left; clear_value x; intro h)) | lift_lets | (refine Kept.ite ?_ ?_) | split | dsimp only)

theorem wdtReset_kept (hR : KeptMem R) {a0 a1} (h : R s0 s) : R s0 (wdtReset a0 a1 s) := by
  unfold wdtReset
  with_reducible repeat' (first | assumption | (refine diagnose_kept hR ?_) | (refine scribeResets_kept hR.toKept ?_) | (refine State.bump_kept hR.toKept ?_) | (refine State.ev_kept hR.toKept ?_) | (refine Kept.ite ?_ ?_) | split)

theorem chipResetWrite_kept (hR : Kept R) {a0 a1} (h : R s0 s) : R s0 (chipResetWrite a0 a1 s) := by
  unfold chipResetWrite
  with_reducible repeat' (first | assumption | (refine resetRelease_kept hR ?_) | (refine resetAssert_kept hR ?_) | (refine Kept.ite ?_ ?_) | split)

theorem clkLoss_kept (hR : Kept R) {a0} (h : R s0 s) : R s0 (clkLoss a0 s) := by
  unfold clkLoss
  with_reducible repeat' (first | assumption | (refine State.ev_kept hR ?_) | (refine Kept.ite ?_ ?_) | split)

theorem scribeDebugHalt_kept (hR : Kept R) {a0 a1} (h : R s0 s) : R s0 (scribeDebugHalt a0 a1 s) := by
  unfold scribeDebugHalt
  with_reducible repeat' (first | assumption | (refine hR.set ?_) | (refine Kept.ite ?_ ?_) | split)

theorem dropNext_kept (hR : Kept R) {a1} (h : R s0 s) : R s0 (dropNext s a1) := by
  unfold dropNext
  with_reducible repeat' (first | assumption | (refine State.iff_kept hR ?_ fun s h => ?_) | (refine State.modHq_kept hR ?_) | split)

theorem functionReset_kept (hR : Kept R) {a1} (h : R s0 s) : R s0 (functionReset s a1) := by
  unfold functionReset
  with_reducible repeat' (first | assumption | (refine dropCmds_kept hR ?_) | (refine dropNext_kept hR ?_) | (refine State.modFn_kept hR ?_) | (refine closeFunction_kept hR ?_) | (refine mbxFunctionReset_kept hR ?_) | (refine hR.set ?_) | (intro x; try (refine Kept.cut (R := R) (s0 := s0) (x := x) ?_ ?_; unfold x; rotate_left; clear_value x; intro h)) | lift_lets | dsimp only)

theorem ccEnFall_kept (hR : Kept R) {a0} (h : R s0 s) : R s0 (ccEnFall a0 s) := by
  unfold ccEnFall
  with_reducible repeat' (first | assumption | (refine State.ev_kept hR ?_) | (refine functionReset_kept hR ?_) | (refine Kept.ite ?_ ?_) | split)

theorem fnReset_kept (hR : Kept R) {a0} (h : R s0 s) : R s0 (fnReset a0 s) := by
  unfold fnReset
  with_reducible repeat' (first | assumption | (refine State.ev_kept hR ?_) | (refine State.modFn_kept hR ?_) | (refine functionReset_kept hR ?_))

theorem portDown_kept (hR : Kept R) {a1} (h : R s0 s) : R s0 (portDown s a1) := by
  unfold portDown
  with_reducible repeat' (first | assumption | (refine State.iff_kept hR ?_ fun s h => ?_) | (refine State.ev_kept hR ?_) | (refine hR.set ?_) | (intro x; try (refine Kept.cut (R := R) (s0 := s0) (x := x) ?_ ?_; unfold x; rotate_left; clear_value x; intro h)) | lift_lets | split | dsimp only)

theorem perst_kept (hR : Kept R) {a0} (h : R s0 s) : R s0 (perst a0 s) := by
  unfold perst
  with_reducible repeat' (first | assumption | (refine State.modHq_kept hR ?_) | (refine State.ev_kept hR ?_) | (refine State.each_kept hR ?_ fun s a h => ?_) | (refine State.modFn_kept hR ?_) | (refine functionReset_kept hR ?_) | (refine portDown_kept hR ?_) | (refine State.iff_kept hR ?_ fun s h => ?_) | (refine hR.set ?_) | (intro x; try (refine Kept.cut (R := R) (s0 := s0) (x := x) ?_ ?_; unfold x; rotate_left; clear_value x; intro h)) | lift_lets | (refine Kept.ite ?_ ?_) | split | dsimp only)

theorem resetOrHold_kept (hR : Kept R) {a b k} (h : R s0 s) (hk : ∀ s, R s0 s → R s0 (k s)) : R s0 (resetOrHold s a b k) := by
  unfold resetOrHold
  split
  · exact State.modHq_kept hR h
  · exact hk s h

theorem runHeld_kept (hR : Kept R) (h : R s0 s) : R s0 (runHeld s) := by
  unfold runHeld
  with_reducible repeat' (first | assumption | (refine State.each_kept hR ?_ fun s a h => ?_) | (refine State.modHq_kept hR ?_) | (refine ccEnFall_kept hR ?_) | (refine fnReset_kept hR ?_) | (refine perst_kept hR ?_) | (intro x; try (refine Kept.cut (R := R) (s0 := s0) (x := x) ?_ ?_; unfold x; rotate_left; clear_value x; intro h)) | lift_lets | (refine Kept.ite ?_ ?_) | split | dsimp only)

theorem perstRelease_kept (hR : Kept R) {a0 a1} (h : R s0 s) : R s0 (perstRelease a0 a1 s) := by
  unfold perstRelease
  with_reducible repeat' (first | assumption | (refine State.iff_kept hR ?_ fun s h => ?_) | (refine hR.set ?_) | (refine State.modHq_kept hR ?_) | (intro x; try (refine Kept.cut (R := R) (s0 := s0) (x := x) ?_ ?_; unfold x; rotate_left; clear_value x; intro h)) | lift_lets | (refine Kept.ite ?_ ?_) | split | dsimp only)

theorem pcieLinkUp_kept (hR : Kept R) {a0 a1 a2 a3} (h : R s0 s) : R s0 (pcieLinkUp a0 a1 a2 a3 s) := by
  unfold pcieLinkUp
  with_reducible repeat' (first | assumption | (refine hR.set ?_) | (refine State.modHq_kept hR ?_) | (intro x; try (refine Kept.cut (R := R) (s0 := s0) (x := x) ?_ ?_; unfold x; rotate_left; clear_value x; intro h)) | lift_lets | (refine Kept.ite ?_ ?_) | split | dsimp only)

theorem pcieLinkDown_kept (hR : Kept R) {a0} (h : R s0 s) : R s0 (pcieLinkDown a0 s) := by
  unfold pcieLinkDown
  with_reducible repeat' (first | assumption | (refine State.modHq_kept hR ?_) | (refine portDown_kept hR ?_) | (refine Kept.ite ?_ ?_) | split)

theorem ccEnSet_kept (hR : Kept R) {a0} (h : R s0 s) : R s0 (ccEnSet a0 s) := by
  unfold ccEnSet
  with_reducible repeat' (first | assumption | (refine refreshReady_kept hR ?_) | (refine State.modFn_kept hR ?_) | (refine Kept.ite ?_ ?_) | split)

theorem shnNormal_kept (hR : Kept R) {a0} (h : R s0 s) : R s0 (shnNormal a0 s) := by
  unfold shnNormal
  with_reducible repeat' (first | assumption | (refine settle_kept hR ?_) | (refine State.ev_kept hR ?_) | (refine State.modFn_kept hR ?_))

theorem shnAbrupt_kept (hR : Kept R) {a0} (h : R s0 s) : R s0 (shnAbrupt a0 s) := by
  unfold shnAbrupt
  with_reducible repeat' (first | assumption | (refine State.ev_kept hR ?_) | (refine State.modFn_kept hR ?_) | (refine dropCmds_kept hR ?_) | split)

theorem qpSplitWrite_kept (hR : Kept R) {a0} (h : R s0 s) : R s0 (qpSplitWrite a0 s) := by
  unfold qpSplitWrite
  with_reducible repeat' (first | assumption | (refine hR.set ?_) | (refine Kept.ite ?_ ?_) | split)

theorem cqHead_kept (hR : Kept R) {a1 a2 a3 a4} (h : R s0 s) : R s0 (cqHead s a1 a2 a3 a4) := by
  unfold cqHead
  with_reducible repeat' (first | assumption | (refine State.modFn_kept hR ?_) | (refine State.each_kept hR ?_ fun s a h => ?_) | (refine postCqe_kept hR ?_) | (intro x; try (refine Kept.cut (R := R) (s0 := s0) (x := x) ?_ ?_; unfold x; rotate_left; clear_value x; intro h)) | lift_lets | dsimp only)

theorem doorbell_kept (hR : Kept R) {a0 a1 a2 a3} (h : R s0 s) : R s0 (doorbell a0 a1 a2 a3 s) := by
  unfold doorbell
  with_reducible repeat' (first | assumption | (refine asyncEvent_kept hR ?_) | (refine cqHead_kept hR ?_) | (refine State.iff_kept hR ?_ fun s h => ?_) | (refine State.modFn_kept hR ?_) | (refine hR.set ?_) | (intro x; try (refine Kept.cut (R := R) (s0 := s0) (x := x) ?_ ?_; unfold x; rotate_left; clear_value x; intro h)) | lift_lets | (refine Kept.ite ?_ ?_) | split | dsimp only)

theorem sqAdvance_kept (hR : Kept R) {a1 a2} (h : R s0 s) : R s0 (sqAdvance s a1 a2) := by
  unfold sqAdvance
  with_reducible repeat' (first | assumption | (refine State.modFn_kept hR ?_) | split)

theorem wakeUp_kept (hR : Kept R) (h : R s0 s) : R s0 (wakeUp s) := by
  unfold wakeUp
  with_reducible repeat' (first | assumption | (refine State.each_kept hR ?_ fun s a h => ?_) | (refine State.iff_kept hR ?_ fun s h => ?_) | (refine hR.set ?_) | (intro x; try (refine Kept.cut (R := R) (s0 := s0) (x := x) ?_ ?_; unfold x; rotate_left; clear_value x; intro h)) | lift_lets | (refine Kept.ite ?_ ?_) | split | dsimp only)

theorem admitNext_kept (hR : Kept R) {a0 a1} (h : R s0 s) : R s0 (admitNext a0 a1 s) := by
  unfold admitNext
  with_reducible repeat' (first | assumption | (refine State.modFn_kept hR ?_) | (refine sqAdvance_kept hR ?_) | (refine refreshStall_kept hR ?_) | (refine State.modHq_kept hR ?_) | (refine State.wrap_kept hR ?_) | (refine State.iff_kept hR ?_ fun s h => ?_) | (refine hR.set ?_) | (refine State.bump_kept hR ?_) | (refine wakeUp_kept hR ?_) | (intro x; try (refine Kept.cut (R := R) (s0 := s0) (x := x) ?_ ?_; unfold x; rotate_left; clear_value x; intro h)) | lift_lets | (refine Kept.ite ?_ ?_) | split | dsimp only)

theorem rangeLockRelease_kept (hR : Kept R) {a0} (h : R s0 s) : R s0 (rangeLockRelease a0 s) := by
  unfold rangeLockRelease
  with_reducible repeat' (first | assumption | (refine refreshStall_kept hR ?_) | (refine State.modHq_kept hR ?_) | (refine Kept.ite ?_ ?_) | split)

theorem setSpeeds_kept (hR : Kept R) {a1 a2} (h : R s0 s) : R s0 (setSpeeds s a1 a2) := by
  unfold setSpeeds
  with_reducible repeat' (first | assumption | (refine State.each_kept hR ?_ fun s a h => ?_) | (refine spSetWrite_kept hR ?_) | (refine State.modSp_kept hR ?_))

theorem retractAll_kept (hR : Kept R) (h : R s0 s) : R s0 (retractAll s) := by
  unfold retractAll
  with_reducible repeat' (first | assumption | (refine State.each_kept hR ?_ fun s a h => ?_) | (refine State.iff_kept hR ?_ fun s h => ?_) | (refine enterRetract_kept hR ?_) | split)

theorem allPorts_kept (hR : KeptMem R) {a1} (h : R s0 s) : R s0 (allPorts s a1) := by
  unfold allPorts
  with_reducible repeat' (first | assumption | (refine State.each_kept hR.toKept ?_ fun s a h => ?_) | (refine lkEnableWrite_kept hR ?_))

theorem parkSleds_kept (hR : Kept R) {a1} (h : R s0 s) : R s0 (parkSleds s a1) := by
  unfold parkSleds
  with_reducible repeat' (first | assumption | (refine State.each_kept hR ?_ fun s a h => ?_) | (refine State.iff_kept hR ?_ fun s h => ?_) | (refine sledTargetWrite_kept hR ?_) | (refine sledModeWrite_kept hR ?_) | (refine hR.set ?_) | (intro x; try (refine Kept.cut (R := R) (s0 := s0) (x := x) ?_ ?_; unfold x; rotate_left; clear_value x; intro h)) | lift_lets | split | dsimp only)

theorem endSprint_kept (hR : Kept R) (h : R s0 s) : R s0 (endSprint s) := by
  unfold endSprint
  with_reducible repeat' (first | assumption | (refine hR.set ?_) | (refine Kept.ite ?_ ?_) | split)

theorem startTransition_kept (hR : KeptMem R) {a1 a2} (h : R s0 s) : R s0 (startTransition s a1 a2) := by
  unfold startTransition
  with_reducible repeat' (first | assumption | (refine State.iff_kept hR.toKept ?_ fun s h => ?_) | (refine hR.toKept.set ?_) | (refine endSprint_kept hR.toKept ?_) | (refine srExitStart_kept hR.toKept ?_) | (refine setSpeeds_kept hR.toKept ?_) | (refine allPorts_kept hR ?_) | (refine parkSleds_kept hR.toKept ?_) | (refine retractAll_kept hR.toKept ?_) | (intro x; try (refine Kept.cut (R := R) (s0 := s0) (x := x) ?_ ?_; unfold x; rotate_left; clear_value x; intro h)) | lift_lets | (refine Kept.ite ?_ ?_) | split | dsimp only)

theorem powerStateChange_kept (hR : KeptMem R) (h : R s0 s) : R s0 (powerStateChange s) := by
  unfold powerStateChange
  with_reducible repeat' (first | assumption | (refine State.ev_kept hR.toKept ?_) | (refine hR.toKept.set ?_) | (refine refreshLdpc_kept hR.toKept ?_) | (refine State.iff_kept hR.toKept ?_ fun s h => ?_) | (refine srEnter_kept hR.toKept ?_) | (refine startTransition_kept hR ?_) | (intro x; try (refine Kept.cut (R := R) (s0 := s0) (x := x) ?_ ?_; unfold x; rotate_left; clear_value x; intro h)) | lift_lets | (refine Kept.ite ?_ ?_) | split | dsimp only)

theorem apstDue_kept (hR : Kept R) {a0} (h : R s0 s) : R s0 (apstDue a0 s) := by
  unfold apstDue
  with_reducible repeat' (first | assumption | (refine State.ev_kept hR ?_) | (refine hR.set ?_) | (intro x; try (refine Kept.cut (R := R) (s0 := s0) (x := x) ?_ ?_; unfold x; rotate_left; clear_value x; intro h)) | lift_lets | (refine Kept.ite ?_ ?_) | split | dsimp only)

theorem autonomousExit_kept (hR : KeptMem R) (h : R s0 s) : R s0 (autonomousExit s) := by
  unfold autonomousExit
  with_reducible repeat' (first | assumption | (refine wakeUp_kept hR.toKept ?_) | (refine State.iff_kept hR.toKept ?_ fun s h => ?_) | (refine startTransition_kept hR ?_) | (intro x; try (refine Kept.cut (R := R) (s0 := s0) (x := x) ?_ ?_; unfold x; rotate_left; clear_value x; intro h)) | lift_lets | (refine Kept.ite ?_ ?_) | split | dsimp only)

theorem startIo_kept (hR : Kept R) {a b c k} (h : R s0 s) (hk : ∀ c s, R s0 s → R s0 (k c s)) : R s0 (startIo a b c s k) := by
  unfold startIo
  split
  · exact h
  · lift_lets
    intro x
    split
    · exact h
    · exact settle_kept hR (hk _ _ (modCmd_kept hR h))

theorem startAdmin_kept (hR : Kept R) {a b k} (h : R s0 s) (hk : ∀ c s, R s0 s → R s0 (k c s)) : R s0 (startAdmin a b s k) := by
  unfold startAdmin
  split
  · exact h
  · split
    · exact h
    · exact settle_kept hR (hk _ _ h)

theorem unlessError_kept (hR : Kept R) {a e k} (h : R s0 s) (hk : ∀ s, R s0 s → R s0 (k s)) : R s0 (unlessError a s e k) := by
  unfold unlessError
  split
  · exact completeCmd_kept hR h
  · exact hk s h

theorem dmaReads_kept (hR : Kept R) {a1 a2} (h : R s0 s) : R s0 (dmaReads s a1 a2) := by
  unfold dmaReads
  with_reducible repeat' (first | assumption | (refine State.each_kept hR ?_ fun s a h => ?_) | (refine State.reads_kept hR ?_))

theorem askSpans_kept (hR : Kept R) {n lba k} (h : R s0 s) : R s0 (askSpans s n lba k) := by
  unfold askSpans
  exact State.each_kept hR (pullSpans_kept hR h) fun s i h => askRebuild_kept hR h

theorem readCmd_kept (hR : Kept R) {a0 a1} (h : R s0 s) : R s0 (readCmd a0 a1 s) := by
  unfold readCmd
  with_reducible repeat' (first | assumption | (refine startIo_kept hR ?_ fun c s h => ?_) | (refine unlessError_kept hR ?_ fun s h => ?_) | (refine askSpans_kept hR ?_) | (refine completeCmd_kept hR ?_) | (refine dmaReads_kept hR ?_) | (refine State.modFn_kept hR ?_) | (intro x; try (refine Kept.cut (R := R) (s0 := s0) (x := x) ?_ ?_; unfold x; rotate_left; clear_value x; intro h)) | lift_lets | split | dsimp only)

theorem compare_kept (hR : Kept R) {a0 a1 a2} (h : R s0 s) : R s0 (compare a0 a1 a2 s) := by
  unfold compare
  with_reducible repeat' (first | assumption | (refine startIo_kept hR ?_ fun c s h => ?_) | (refine unlessError_kept hR ?_ fun s h => ?_) | (refine askSpans_kept hR ?_) | (refine completeCmd_kept hR ?_) | (refine dmaReads_kept hR ?_) | (intro x; try (refine Kept.cut (R := R) (s0 := s0) (x := x) ?_ ?_; unfold x; rotate_left; clear_value x; intro h)) | lift_lets | (refine Kept.ite ?_ ?_) | split | dsimp only)

theorem addRun_kept (hR : Kept R) {a1 a2} (h : R s0 s) : R s0 (addRun s a1 a2) := by
  unfold addRun
  with_reducible repeat' (first | assumption | (refine State.modLdg_kept hR ?_))

theorem closeQuires_kept (hR : Kept R) {a1} (h : R s0 s) : R s0 (closeQuires s a1) := by
  unfold closeQuires
  with_reducible repeat' (first | assumption | (refine State.modLdg_kept hR ?_) | (refine Kept.ite ?_ ?_) | split)

theorem teeWrite_kept (hR : KeptMem R) {a0 a1 a3 a4} (h : R s0 s) : R s0 (teeWrite a0 a1 s a3 a4) := by
  unfold teeWrite
  with_reducible repeat' (first | assumption | (refine State.inkWrite_kept hR ?_) | (refine State.iff_kept hR.toKept ?_ fun s h => ?_) | (refine State.each_kept hR.toKept ?_ fun s a h => ?_) | (refine modCmd_kept hR.toKept ?_) | (refine sendVerso_kept hR.toKept ?_) | (intro x; try (refine Kept.cut (R := R) (s0 := s0) (x := x) ?_ ?_; unfold x; rotate_left; clear_value x; intro h)) | lift_lets | split | dsimp only)

theorem writePart_kept (hR : KeptMem R) {a0 a1 a2 a4} (h : R s0 s) : R s0 (writePart a0 a1 a2 s a4) := by
  unfold writePart
  with_reducible repeat' (first | assumption | (refine teeWrite_kept hR ?_) | (refine addRun_kept hR.toKept ?_) | (refine putOverlay_kept hR ?_) | (intro x; try (refine Kept.cut (R := R) (s0 := s0) (x := x) ?_ ?_; unfold x; rotate_left; clear_value x; intro h)) | lift_lets | split | dsimp only)

theorem writeCmd_kept (hR : KeptMem R) {a0 a1 a2} (h : R s0 s) : R s0 (writeCmd a0 a1 a2 s) := by
  unfold writeCmd
  with_reducible repeat' (first | assumption | (refine startIo_kept hR.toKept ?_ fun c s h => ?_) | (refine unlessError_kept hR.toKept ?_ fun s h => ?_) | (refine teeWrite_kept hR ?_) | (refine State.each_kept hR.toKept ?_ fun s a h => ?_) | (refine writePart_kept hR ?_) | (refine modCmd_kept hR.toKept ?_) | (refine State.iff_kept hR.toKept ?_ fun s h => ?_) | (refine closeQuires_kept hR.toKept ?_) | (intro x; try (refine Kept.cut (R := R) (s0 := s0) (x := x) ?_ ?_; unfold x; rotate_left; clear_value x; intro h)) | lift_lets | (refine Kept.ite ?_ ?_) | split | dsimp only)

theorem unmapRanges_kept (hR : KeptMem R) {a0 a1 a2 a3 a4} (h : R s0 s) : R s0 (unmapRanges a0 a1 a2 a3 a4 s) := by
  unfold unmapRanges
  with_reducible repeat' (first | assumption | (refine State.each_kept hR.toKept ?_ fun s a h => ?_) | (refine putOverlay_kept hR ?_) | (refine addRun_kept hR.toKept ?_) | (refine Kept.fold ?_ fun p a h => ?_) | (refine Kept.fold1 ?_ fun p a h => ?_) | (intro x; try (refine Kept.cut (R := R) (s0 := s0) (x := x) ?_ ?_; unfold x; rotate_left; clear_value x; intro h)) | lift_lets | dsimp only)

theorem unmapFor_kept (hR : KeptMem R) {a0 a1 a2 a3 a4} (h : R s0 s) : R s0 (unmapFor a0 a1 a2 a3 a4 s) := by
  unfold unmapFor
  with_reducible repeat' (first | assumption | (refine modCmd_kept hR.toKept ?_) | (refine unmapRanges_kept hR ?_) | (refine Kept.ite ?_ ?_) | split)

theorem writeZeroes_kept (hR : KeptMem R) {a0 a1 a2} (h : R s0 s) : R s0 (writeZeroes a0 a1 a2 s) := by
  unfold writeZeroes
  with_reducible repeat' (first | assumption | (refine startIo_kept hR.toKept ?_ fun c s h => ?_) | (refine unlessError_kept hR.toKept ?_ fun s h => ?_) | (refine unmapFor_kept hR ?_) | split)

theorem deallocate_kept (hR : KeptMem R) {a0 a1 a2} (h : R s0 s) : R s0 (deallocate a0 a1 a2 s) := by
  unfold deallocate
  with_reducible repeat' (first | assumption | (refine startIo_kept hR.toKept ?_ fun c s h => ?_) | (refine unlessError_kept hR.toKept ?_ fun s h => ?_) | (refine unmapFor_kept hR ?_) | (refine Kept.fold ?_ fun p a h => ?_) | (refine Kept.fold1 ?_ fun p a h => ?_) | split)

theorem flush_kept (hR : Kept R) {a0} (h : R s0 s) : R s0 (flush a0 s) := by
  unfold flush
  with_reducible repeat' (first | assumption | (refine startIo_kept hR ?_ fun c s h => ?_) | (refine unlessError_kept hR ?_ fun s h => ?_) | (refine modCmd_kept hR ?_) | (refine closeQuires_kept hR ?_) | (intro x; try (refine Kept.cut (R := R) (s0 := s0) (x := x) ?_ ?_; unfold x; rotate_left; clear_value x; intro h)) | lift_lets | (refine Kept.ite ?_ ?_) | split | dsimp only)

theorem commitApply_kept (hR : KeptMem R) {a0 a1 a2 a3 a4} (h : R s0 s) : R s0 (commitApply a0 a1 a2 a3 a4 s) := by
  unfold commitApply
  with_reducible repeat' (first | assumption | (refine commitQuire_kept hR ?_) | (refine settle_kept hR.toKept ?_) | (refine State.modHq_kept hR.toKept ?_) | (intro x; try (refine Kept.cut (R := R) (s0 := s0) (x := x) ?_ ?_; unfold x; rotate_left; clear_value x; intro h)) | lift_lets | (refine Kept.ite ?_ ?_) | split | dsimp only)

theorem giveData_kept (hR : Kept R) {a1 a2 a3} (h : R s0 s) : R s0 (giveData s a1 a2 a3) := by
  unfold giveData
  with_reducible repeat' (first | assumption | (refine completeCmd_kept hR ?_) | (refine State.modFn_kept hR ?_))

theorem identify_kept (hR : Kept R) {a0} (h : R s0 s) : R s0 (identify a0 s) := by
  unfold identify
  with_reducible repeat' (first | assumption | (refine startAdmin_kept hR ?_ fun c s h => ?_) | (refine freeBytes_kept' hR (by assumption) ?_) | (refine giveData_kept hR ?_) | (refine completeCmd_kept hR ?_) | (intro x; try (refine Kept.cut (R := R) (s0 := s0) (x := x) ?_ ?_; unfold x; rotate_left; clear_value x; intro h)) | lift_lets | (refine Kept.ite ?_ ?_) | split | dsimp only | (refine Kept.ite2 (by assumption) ?_ ?_) | (refine freeBytes_kept hR ?_))

theorem getLogPage_kept (hR : Kept R) {a0} (h : R s0 s) : R s0 (getLogPage a0 s) := by
  unfold getLogPage
  with_reducible repeat' (first | assumption | (refine startAdmin_kept hR ?_ fun c s h => ?_) | (refine freeBytes_kept' hR (by assumption) ?_) | (refine giveData_kept hR ?_) | (intro x; try (refine Kept.cut (R := R) (s0 := s0) (x := x) ?_ ?_; unfold x; rotate_left; clear_value x; intro h)) | lift_lets | (refine Kept.ite ?_ ?_) | split | dsimp only | (refine Kept.ite2 (by assumption) ?_ ?_) | (refine freeBytes_kept hR ?_))

theorem queuesFeature_kept (hR : Kept R) {a1} (h : R s0 s) : R s0 (queuesFeature s a1).2 := by
  unfold queuesFeature
  with_reducible repeat' (first | assumption | (refine State.fresh_kept' hR (by assumption) ?_) | split | (refine State.fresh_kept hR ?_))
theorem queuesFeature_kept' (hR : Kept R) {a1 v t} (e : queuesFeature s a1 = (v, t)) (h : R s0 s) : R s0 t := by
  have q : R s0 (queuesFeature s a1).2 := queuesFeature_kept hR h
  rw [e] at q
  exact q

theorem getFeatures_kept (hR : Kept R) {a0} (h : R s0 s) : R s0 (getFeatures a0 s) := by
  unfold getFeatures
  with_reducible repeat' (first | assumption | (refine startAdmin_kept hR ?_ fun c s h => ?_) | (refine completeCmd_kept hR ?_) | (refine queuesFeature_kept' hR (by assumption) ?_) | (refine State.modFn_kept hR ?_) | (intro x; try (refine Kept.cut (R := R) (s0 := s0) (x := x) ?_ ?_; unfold x; rotate_left; clear_value x; intro h)) | lift_lets | (refine Kept.ite ?_ ?_) | split | dsimp only | (refine Kept.ite2 (by assumption) ?_ ?_) | (refine queuesFeature_kept hR ?_))

theorem setFeature_kept (hR : Kept R) {a1 a2 a3} (h : R s0 s) : R s0 (setFeature s a1 a2 a3) := by
  unfold setFeature
  with_reducible repeat' (first | assumption | (refine State.modFn_kept hR ?_))

theorem selectPs_kept (hR : Kept R) {a1 a2} (h : R s0 s) : R s0 (selectPs s a1 a2) := by
  unfold selectPs
  with_reducible repeat' (first | assumption | (refine State.iff_kept hR ?_ fun s h => ?_) | (refine hR.set ?_) | (refine State.modHq_kept hR ?_) | (refine endSprint_kept hR ?_) | (intro x; try (refine Kept.cut (R := R) (s0 := s0) (x := x) ?_ ?_; unfold x; rotate_left; clear_value x; intro h)) | lift_lets | split | dsimp only)

theorem setFeatures_kept (hR : Kept R) {a0} (h : R s0 s) : R s0 (setFeatures a0 s) := by
  unfold setFeatures
  with_reducible repeat' (first | assumption | (refine startAdmin_kept hR ?_ fun c s h => ?_) | (refine completeCmd_kept hR ?_) | (refine selectPs_kept hR ?_) | (refine queuesFeature_kept' hR (by assumption) ?_) | (refine State.modFn_kept hR ?_) | (refine setFeature_kept hR ?_) | (intro x; try (refine Kept.cut (R := R) (s0 := s0) (x := x) ?_ ?_; unfold x; rotate_left; clear_value x; intro h)) | lift_lets | (refine Kept.ite ?_ ?_) | split | dsimp only | (refine Kept.ite2 (by assumption) ?_ ?_) | (refine queuesFeature_kept hR ?_))

theorem createIoQueue_kept (hR : Kept R) {a0} (h : R s0 s) : R s0 (createIoQueue a0 s) := by
  unfold createIoQueue
  with_reducible repeat' (first | assumption | (refine startAdmin_kept hR ?_ fun c s h => ?_) | (refine completeCmd_kept hR ?_) | (refine State.modFn_kept hR ?_) | (intro x; try (refine Kept.cut (R := R) (s0 := s0) (x := x) ?_ ?_; unfold x; rotate_left; clear_value x; intro h)) | lift_lets | (refine Kept.ite ?_ ?_) | split | dsimp only)

theorem deleteIoQueue_kept (hR : Kept R) {a0} (h : R s0 s) : R s0 (deleteIoQueue a0 s) := by
  unfold deleteIoQueue
  with_reducible repeat' (first | assumption | (refine startAdmin_kept hR ?_ fun c s h => ?_) | (refine completeCmd_kept hR ?_) | (refine State.modFn_kept hR ?_) | (intro x; try (refine Kept.cut (R := R) (s0 := s0) (x := x) ?_ ?_; unfold x; rotate_left; clear_value x; intro h)) | lift_lets | (refine Kept.ite ?_ ?_) | split | dsimp only)

theorem abortCmd_kept (hR : Kept R) {a0 a1} (h : R s0 s) : R s0 (abortCmd a0 a1 s) := by
  unfold abortCmd
  with_reducible repeat' (first | assumption | (refine startAdmin_kept hR ?_ fun c s h => ?_) | (refine completeCmd_kept hR ?_) | (refine State.modFn_kept hR ?_) | (refine postCqe_kept hR ?_) | (intro x; try (refine Kept.cut (R := R) (s0 := s0) (x := x) ?_ ?_; unfold x; rotate_left; clear_value x; intro h)) | lift_lets | (refine Kept.ite ?_ ?_) | split | dsimp only)

theorem asyncEventRequest_kept (hR : Kept R) {a0} (h : R s0 s) : R s0 (asyncEventRequest a0 s) := by
  unfold asyncEventRequest
  with_reducible repeat' (first | assumption | (refine startAdmin_kept hR ?_ fun c s h => ?_) | (refine completeCmd_kept hR ?_) | (refine State.modFn_kept hR ?_) | (refine endCmd_kept hR ?_) | split)

theorem namespaceManagement_kept (hR : KeptMem R) {a0 a1 a2} (h : R s0 s) : R s0 (namespaceManagement a0 a1 a2 s) := by
  unfold namespaceManagement
  with_reducible repeat' (first | assumption | (refine startAdmin_kept hR.toKept ?_ fun c s h => ?_) | (refine completeCmd_kept hR.toKept ?_) | (refine State.modHq_kept hR.toKept ?_) | (refine putNsEntry_kept hR ?_) | (refine State.each_kept hR.toKept ?_ fun s a h => ?_) | (refine Kept.ite ?_ ?_) | split)

theorem namespaceAttachment_kept (hR : Kept R) {a0} (h : R s0 s) : R s0 (namespaceAttachment a0 s) := by
  unfold namespaceAttachment
  with_reducible repeat' (first | assumption | (refine startAdmin_kept hR ?_ fun c s h => ?_) | (refine completeCmd_kept hR ?_) | (refine State.modHq_kept hR ?_) | (intro x; try (refine Kept.cut (R := R) (s0 := s0) (x := x) ?_ ?_; unfold x; rotate_left; clear_value x; intro h)) | lift_lets | (refine Kept.ite ?_ ?_) | split | dsimp only)

theorem regenerate_kept (hR : KeptMem R) {a1} (h : R s0 s) : R s0 (regenerate s a1) := by
  unfold regenerate
  with_reducible repeat' (first | assumption | (refine keyOp_kept' hR (by assumption) ?_) | (refine keyOp_kept hR ?_))

theorem formatNvm_kept (hR : KeptMem R) {a0 a1 a2 a3} (h : R s0 s) : R s0 (formatNvm a0 a1 a2 a3 s) := by
  unfold formatNvm
  with_reducible repeat' (first | assumption | (refine startAdmin_kept hR.toKept ?_ fun c s h => ?_) | (refine completeCmd_kept hR.toKept ?_) | (refine unmapRanges_kept hR ?_) | (refine regenerate_kept hR ?_) | (refine Kept.ite ?_ ?_) | split)

theorem sanitize_kept (hR : KeptMem R) {a0} (h : R s0 s) : R s0 (sanitize a0 s) := by
  unfold sanitize
  with_reducible repeat' (first | assumption | (refine startAdmin_kept hR.toKept ?_ fun c s h => ?_) | (refine completeCmd_kept hR.toKept ?_) | (refine State.each_kept hR.toKept ?_ fun s a h => ?_) | (refine regenerate_kept hR ?_) | (intro x; try (refine Kept.cut (R := R) (s0 := s0) (x := x) ?_ ?_; unfold x; rotate_left; clear_value x; intro h)) | lift_lets | (refine Kept.ite ?_ ?_) | split | dsimp only)

theorem firmwareImageDownload_kept (hR : Kept R) {a0} (h : R s0 s) : R s0 (firmwareImageDownload a0 s) := by
  unfold firmwareImageDownload
  with_reducible repeat' (first | assumption | (refine startAdmin_kept hR ?_ fun c s h => ?_) | (refine completeCmd_kept hR ?_) | (refine State.modHq_kept hR ?_) | (refine Kept.fold ?_ fun p a h => ?_) | (refine Kept.fold1 ?_ fun p a h => ?_) | (refine Kept.ite ?_ ?_) | split)

theorem switchScribe_kept (hR : KeptMem R) {a0 a1 a3} (h : R s0 s) : R s0 (switchScribe a0 a1 s a3) := by
  unfold switchScribe
  with_reducible repeat' (first | assumption | (refine State.each_kept hR.toKept ?_ fun s a h => ?_) | (refine State.iff_kept hR.toKept ?_ fun s h => ?_) | (refine hR.toKept.set ?_) | (refine copySection_kept hR ?_) | (refine refreshApproved_kept hR.toKept ?_) | (refine State.setBit_kept hR.toKept ?_) | (refine scribeResets_kept hR.toKept ?_) | (intro x; try (refine Kept.cut (R := R) (s0 := s0) (x := x) ?_ ?_; unfold x; rotate_left; clear_value x; intro h)) | lift_lets | split | dsimp only)

theorem stopHost_kept (hR : KeptMem R) {a1} (h : R s0 s) : R s0 (stopHost s a1) := by
  unfold stopHost
  with_reducible repeat' (first | assumption | (refine refreshStall_kept hR.toKept ?_) | (refine State.each_kept hR.toKept ?_ fun s a h => ?_) | (refine State.modFn_kept hR.toKept ?_) | (refine haltWrite_kept hR ?_) | (refine parkWrite_kept hR ?_) | (intro x; try (refine Kept.cut (R := R) (s0 := s0) (x := x) ?_ ?_; unfold x; rotate_left; clear_value x; intro h)) | lift_lets | dsimp only)

theorem firmwareCommit_kept (hR : KeptMem R) {a0 a1} (h : R s0 s) : R s0 (firmwareCommit a0 a1 s) := by
  unfold firmwareCommit
  with_reducible repeat' (first | assumption | (refine startAdmin_kept hR.toKept ?_ fun c s h => ?_) | (refine completeCmd_kept hR.toKept ?_) | (refine State.modHq_kept hR.toKept ?_) | (refine State.each_kept hR.toKept ?_ fun s a h => ?_) | (refine stopHost_kept hR ?_) | (refine switchScribe_kept hR ?_) | (refine modCmd_kept hR.toKept ?_) | (refine State.modBoot_kept hR.toKept ?_) | (intro x; try (refine Kept.cut (R := R) (s0 := s0) (x := x) ?_ ?_; unfold x; rotate_left; clear_value x; intro h)) | lift_lets | (refine Kept.ite ?_ ?_) | split | dsimp only | (refine hR.toKept.rest ?_))

theorem activationRollback_kept (hR : KeptMem R) (h : R s0 s) : R s0 (activationRollback s) := by
  unfold activationRollback
  with_reducible repeat' (first | assumption | (refine State.each_kept hR.toKept ?_ fun s a h => ?_) | (refine switchScribe_kept hR ?_) | (refine stopHost_kept hR ?_) | (refine State.modHq_kept hR.toKept ?_) | (refine settle_kept hR.toKept ?_) | (refine runHeld_kept hR.toKept ?_) | (refine completeCmd_kept hR.toKept ?_) | (intro x; try (refine Kept.cut (R := R) (s0 := s0) (x := x) ?_ ?_; unfold x; rotate_left; clear_value x; intro h)) | lift_lets | split | dsimp only)

theorem securitySend_kept (hR : Kept R) {a0} (h : R s0 s) : R s0 (securitySend a0 s) := by
  unfold securitySend
  with_reducible repeat' (first | assumption | (refine startAdmin_kept hR ?_ fun c s h => ?_) | (refine completeCmd_kept hR ?_) | (refine State.modHq_kept hR ?_) | split)

theorem securityReceive_kept (hR : Kept R) {a0 a1} (h : R s0 s) : R s0 (securityReceive a0 a1 s) := by
  unfold securityReceive
  with_reducible repeat' (first | assumption | (refine startAdmin_kept hR ?_ fun c s h => ?_) | (refine giveData_kept hR ?_) | split)

theorem invalidOpcode_kept (hR : Kept R) {a0} (h : R s0 s) : R s0 (invalidOpcode a0 s) := by
  unfold invalidOpcode
  with_reducible repeat' (first | assumption | (refine settle_kept hR ?_) | (refine completeCmd_kept hR ?_) | (refine Kept.ite ?_ ?_) | split)

theorem State.modTh_kept (hR : Kept R) {a1} (h : R s0 s) : R s0 (State.modTh s a1) := by
  unfold State.modTh
  with_reducible repeat' (first | assumption | (refine hR.rest ?_))

theorem thEvent_kept (hR : Kept R) {a1} (h : R s0 s) : R s0 (thEvent s a1) := by
  unfold thEvent
  with_reducible repeat' (first | assumption | (refine State.setBit_kept hR ?_))

theorem correct_kept (hR : Kept R) {a1 a2} (h : R s0 s) : R s0 (correct s a1 a2) := by
  unfold correct
  with_reducible repeat' (first | assumption | (refine State.divFree_kept' hR (by assumption) ?_) | (refine hR.set ?_) | (intro x; try (refine Kept.cut (R := R) (s0 := s0) (x := x) ?_ ?_; unfold x; rotate_left; clear_value x; intro h)) | lift_lets | split | dsimp only | (refine State.divFree_kept hR ?_))

theorem judgeSensor_kept (hR : Kept R) {a1} (h : R s0 s) : R s0 (judgeSensor s a1) := by
  unfold judgeSensor
  with_reducible repeat' (first | assumption | (refine State.iff_kept hR ?_ fun s h => ?_) | (refine thEvent_kept hR ?_) | (refine State.modTh_kept hR ?_) | (refine State.setBit_kept hR ?_) | (refine hR.set ?_) | (intro x; try (refine Kept.cut (R := R) (s0 := s0) (x := x) ?_ ?_; unfold x; rotate_left; clear_value x; intro h)) | lift_lets | (refine Kept.ite ?_ ?_) | split | dsimp only)

theorem sensorSample_kept (hR : Kept R) {a0} (h : R s0 s) : R s0 (sensorSample a0 s) := by
  unfold sensorSample
  with_reducible repeat' (first | assumption | (refine State.each_kept hR ?_ fun s a h => ?_) | (refine correct_kept hR ?_) | (refine judgeSensor_kept hR ?_) | (refine hR.set ?_) | (refine asyncEvent_kept hR ?_) | (refine thEvent_kept hR ?_) | (refine State.modTh_kept hR ?_) | (intro x; try (refine Kept.cut (R := R) (s0 := s0) (x := x) ?_ ?_; unfold x; rotate_left; clear_value x; intro h)) | lift_lets | (refine Kept.ite ?_ ?_) | split | dsimp only)

theorem setStep_kept (hR : Kept R) {a1} (h : R s0 s) : R s0 (setStep s a1) := by
  unfold setStep
  with_reducible repeat' (first | assumption | (refine refreshLdpc_kept hR ?_) | (refine thEvent_kept hR ?_) | (refine hR.set ?_))

theorem raiseStep_kept (hR : Kept R) (h : R s0 s) : R s0 (raiseStep s) := by
  unfold raiseStep
  with_reducible repeat' (first | assumption | (refine State.modTh_kept hR ?_) | (refine State.ev_kept hR ?_) | (refine setStep_kept hR ?_) | (intro x; try (refine Kept.cut (R := R) (s0 := s0) (x := x) ?_ ?_; unfold x; rotate_left; clear_value x; intro h)) | lift_lets | (refine Kept.ite ?_ ?_) | split | dsimp only)

theorem lowerStep_kept (hR : Kept R) (h : R s0 s) : R s0 (lowerStep s) := by
  unfold lowerStep
  with_reducible repeat' (first | assumption | (refine State.modTh_kept hR ?_) | (refine setStep_kept hR ?_) | (intro x; try (refine Kept.cut (R := R) (s0 := s0) (x := x) ?_ ?_; unfold x; rotate_left; clear_value x; intro h)) | lift_lets | (refine Kept.ite ?_ ?_) | split | dsimp only)

theorem showLeft_kept (hR : Kept R) (h : R s0 s) : R s0 (showLeft s) := by
  unfold showLeft
  with_reducible repeat' (first | assumption | (refine hR.set ?_))

theorem overSustain_kept (hR : Kept R) {a1 a2 a3} (h : R s0 s) : R s0 (overSustain s a1 a2 a3) := by
  unfold overSustain
  with_reducible repeat' (first | assumption | (refine State.iff_kept hR ?_ fun s h => ?_) | (refine thEvent_kept hR ?_) | (refine hR.set ?_) | (refine State.modTh_kept hR ?_) | (refine endSprint_kept hR ?_) | (refine raiseStep_kept hR ?_) | (intro x; try (refine Kept.cut (R := R) (s0 := s0) (x := x) ?_ ?_; unfold x; rotate_left; clear_value x; intro h)) | lift_lets | (refine Kept.ite ?_ ?_) | split | dsimp only)

theorem underSustain_kept (hR : Kept R) (h : R s0 s) : R s0 (underSustain s) := by
  unfold underSustain
  with_reducible repeat' (first | assumption | (refine State.modTh_kept hR ?_) | (refine endSprint_kept hR ?_) | (refine lowerStep_kept hR ?_) | (intro x; try (refine Kept.cut (R := R) (s0 := s0) (x := x) ?_ ?_; unfold x; rotate_left; clear_value x; intro h)) | lift_lets | (refine Kept.ite ?_ ?_) | split | dsimp only)

theorem throttle_kept (hR : Kept R) (h : R s0 s) : R s0 (throttle s) := by
  unfold throttle
  with_reducible repeat' (first | assumption | (refine thEvent_kept hR ?_) | (refine hR.set ?_) | (refine Kept.ite ?_ ?_) | split)

theorem powerManagerUpdate_kept (hR : Kept R) {a0} (h : R s0 s) : R s0 (powerManagerUpdate a0 s) := by
  unfold powerManagerUpdate
  with_reducible repeat' (first | assumption | (refine State.modTh_kept hR ?_) | (refine hR.set ?_) | (refine throttle_kept hR ?_) | (refine raiseStep_kept hR ?_) | (refine endSprint_kept hR ?_) | (refine overSustain_kept hR ?_) | (refine underSustain_kept hR ?_) | (refine showLeft_kept hR ?_) | (intro x; try (refine Kept.cut (R := R) (s0 := s0) (x := x) ?_ ?_; unfold x; rotate_left; clear_value x; intro h)) | lift_lets | (refine Kept.ite ?_ ?_) | split | dsimp only)

theorem thermalTrip_kept (hR : KeptMem R) (h : R s0 s) : R s0 (thermalTrip s) := by
  unfold thermalTrip
  with_reducible repeat' (first | assumption | (refine relinquish_kept hR ?_) | (refine State.modVerso_kept hR.toKept ?_) | (refine State.modBoot_kept hR.toKept ?_) | (refine chipReset_kept hR.toKept ?_) | (intro x; try (refine Kept.cut (R := R) (s0 := s0) (x := x) ?_ ?_; unfold x; rotate_left; clear_value x; intro h)) | lift_lets | (refine Kept.ite ?_ ?_) | split | dsimp only)

theorem retrimEnds_kept (hR : Kept R) {a1} (h : R s0 s) : R s0 (retrimEnds s a1) := by
  unfold retrimEnds
  with_reducible repeat' (first | assumption | (refine hR.set ?_) | (refine State.iff_kept hR ?_ fun s h => ?_) | (refine State.ev_kept hR ?_) | (refine Kept.fold ?_ fun p a h => ?_) | (refine Kept.fold1 ?_ fun p a h => ?_) | (intro x; try (refine Kept.cut (R := R) (s0 := s0) (x := x) ?_ ?_; unfold x; rotate_left; clear_value x; intro h)) | lift_lets | (refine Kept.ite ?_ ?_) | split | dsimp only | (refine hR.rest ?_))

theorem calStart_kept (hR : Kept R) (h : R s0 s) : R s0 (calStart s) := by
  unfold calStart
  with_reducible repeat' (first | assumption | (refine hR.set ?_) | (refine State.iff_kept hR ?_ fun s h => ?_) | (refine retrimEnds_kept hR ?_) | (refine State.ev_kept hR ?_) | (intro x; try (refine Kept.cut (R := R) (s0 := s0) (x := x) ?_ ?_; unfold x; rotate_left; clear_value x; intro h)) | lift_lets | (refine Kept.ite ?_ ?_) | split | dsimp only | (refine hR.rest ?_))

theorem newGain_kept (hR : Kept R) {a1} (h : R s0 s) : R s0 (newGain s a1).2 := by
  unfold newGain
  with_reducible repeat' (first | assumption | (refine State.fresh_kept' hR (by assumption) ?_) | (intro x; try (refine Kept.cut (R := R) (s0 := s0) (x := x) ?_ ?_; unfold x; rotate_left; clear_value x; intro h)) | lift_lets | (refine Kept.ite ?_ ?_) | split | dsimp only | (refine Kept.ite2 (by assumption) ?_ ?_) | (refine State.fresh_kept hR ?_))
theorem newGain_kept' (hR : Kept R) {a1 v t} (e : newGain s a1 = (v, t)) (h : R s0 s) : R s0 t := by
  have q : R s0 (newGain s a1).2 := newGain_kept hR h
  rw [e] at q
  exact q

theorem recordTrim_kept (hR : Kept R) {a1 a2 a3 a4 a5} (h : R s0 s) : R s0 (recordTrim s a1 a2 a3 a4 a5) := by
  unfold recordTrim
  with_reducible repeat' (first | assumption | (refine hR.set ?_) | (intro x; try (refine Kept.cut (R := R) (s0 := s0) (x := x) ?_ ?_; unfold x; rotate_left; clear_value x; intro h)) | lift_lets | (refine Kept.ite ?_ ?_) | split | dsimp only | (refine hR.rest ?_))

theorem retrimJudge_kept (hR : Kept R) {a0 a1 a2} (h : R s0 s) : R s0 (retrimJudge a0 a1 a2 s) := by
  have hT : R s0 (newGain s ((a1 : Int) - toSigned 16 a2)).2 := newGain_kept hR h
  unfold retrimJudge
  generalize newGain s ((a1 : Int) - toSigned 16 a2) = r at hT ⊢
  obtain ⟨j, t⟩ := r
  exact retrimEnds_kept hR (recordTrim_kept hR hT)

theorem meanSixteenths_kept (hR : Kept R) {a1} (h : R s0 s) : R s0 (meanSixteenths s a1).2 := by
  unfold meanSixteenths
  with_reducible repeat' (first | assumption | (refine State.divFree_kept' hR (by assumption) ?_) | (intro x; try (refine Kept.cut (R := R) (s0 := s0) (x := x) ?_ ?_; unfold x; rotate_left; clear_value x; intro h)) | lift_lets | split | dsimp only | (refine State.divFree_kept hR ?_))
theorem meanSixteenths_kept' (hR : Kept R) {a1 v t} (e : meanSixteenths s a1 = (v, t)) (h : R s0 s) : R s0 t := by
  have q : R s0 (meanSixteenths s a1).2 := meanSixteenths_kept hR h
  rw [e] at q
  exact q

theorem retrimAdcDone_kept (hR : Kept R) {a0 a1 a2} (h : R s0 s) : R s0 (retrimAdcDone a0 a1 a2 s) := by
  unfold retrimAdcDone
  with_reducible repeat' (first | assumption | (refine meanSixteenths_kept' hR (by assumption) ?_) | (refine retrimJudge_kept hR ?_) | (intro x; try (refine Kept.cut (R := R) (s0 := s0) (x := x) ?_ ?_; unfold x; rotate_left; clear_value x; intro h)) | lift_lets | (refine Kept.ite ?_ ?_) | split | dsimp only | (refine Kept.ite2 (by assumption) ?_ ?_) | (refine meanSixteenths_kept hR ?_))

theorem retrimNoSlots_kept (hR : Kept R) {a0 a1} (h : R s0 s) : R s0 (retrimNoSlots a0 a1 s) := by
  unfold retrimNoSlots
  with_reducible repeat' (first | assumption | (refine hR.set ?_) | (refine retrimEnds_kept hR ?_) | (intro x; try (refine Kept.cut (R := R) (s0 := s0) (x := x) ?_ ?_; unfold x; rotate_left; clear_value x; intro h)) | lift_lets | (refine Kept.ite ?_ ?_) | split | dsimp only | (refine hR.rest ?_))

theorem calAbort_kept (hR : Kept R) (h : R s0 s) : R s0 (calAbort s) := by
  unfold calAbort
  with_reducible repeat' (first | assumption | (refine State.each_kept hR ?_ fun s a h => ?_) | (refine State.iff_kept hR ?_ fun s h => ?_) | (refine hR.set ?_) | (refine retrimEnds_kept hR ?_) | (intro x; try (refine Kept.cut (R := R) (s0 := s0) (x := x) ?_ ?_; unfold x; rotate_left; clear_value x; intro h)) | lift_lets | (refine Kept.ite ?_ ?_) | split | dsimp only | (refine hR.rest ?_))

theorem calRefuse_kept (hR : Kept R) {a1} (h : R s0 s) : R s0 (calRefuse s a1) := by
  unfold calRefuse
  with_reducible repeat' (first | assumption | (refine State.ev_kept hR ?_) | (refine hR.set ?_))

theorem calLoad_kept (hR : Kept R) {a0} (h : R s0 s) : R s0 (calLoad a0 s) := by
  unfold calLoad
  with_reducible repeat' (first | assumption | (refine calRefuse_kept hR ?_) | (refine Kept.ite ?_ ?_) | split | (refine hR.rest ?_))

theorem calRevert_kept (hR : Kept R) {a0} (h : R s0 s) : R s0 (calRevert a0 s) := by
  unfold calRevert
  with_reducible repeat' (first | assumption | (refine calRefuse_kept hR ?_) | (refine Kept.ite ?_ ?_) | split | (refine hR.rest ?_))

theorem tsOfsWrite_kept (hR : Kept R) {a0 a1} (h : R s0 s) : R s0 (tsOfsWrite a0 a1 s) := by
  unfold tsOfsWrite
  with_reducible repeat' (first | assumption | (refine hR.set ?_) | (refine State.ev_kept hR ?_) | (intro x; try (refine Kept.cut (R := R) (s0 := s0) (x := x) ?_ ?_; unfold x; rotate_left; clear_value x; intro h)) | lift_lets | (refine Kept.ite ?_ ?_) | split | dsimp only)

theorem channelsChanged_kept (hR : Kept R) {k} (h : R s0 s) (hk : ∀ s, R s0 s → R s0 (k s)) : R s0 (channelsChanged s k) := by
  unfold channelsChanged
  refine withAna_kept hR h fun s h => ?_
  dsimp only
  split
  · exact hR.rest (hk s h)
  · exact hk s h

theorem afterEngine_kept (hR : Kept R) {a1 a2 a3} (h : R s0 s) : R s0 (afterEngine s a1 a2 a3) := by
  unfold afterEngine
  with_reducible repeat' (first | assumption | (refine State.iff_kept hR ?_ fun s h => ?_) | (refine leEnable_kept hR ?_) | split)

theorem beforeFields_kept (hR : Kept R) {a1 a2} (h : R s0 s) : R s0 (beforeFields s a1 a2) := by
  unfold beforeFields
  with_reducible repeat' (first | assumption | (refine afterEngine_kept hR ?_) | (refine State.iff_kept hR ?_ fun s h => ?_) | (refine motEnable_kept hR ?_) | (refine svEnable_kept hR ?_) | (refine Kept.ite ?_ ?_) | split)

theorem afterVersoEnable_kept (hR : Kept R) (h : R s0 s) : R s0 (afterVersoEnable s) := by
  unfold afterVersoEnable
  with_reducible repeat' (first | assumption | (refine State.iff_kept hR ?_ fun s h => ?_) | (refine hR.set ?_) | (refine linkFails_kept hR ?_) | (refine Kept.ite ?_ ?_) | split)

theorem afterFields_kept (hR : KeptMem R) {a1} (h : R s0 s) : R s0 (afterFields s a1) := by
  unfold afterFields
  with_reducible repeat' (first | assumption | (refine refreshLdpc_kept hR.toKept ?_) | (refine hR.toKept.set ?_) | (refine refreshStall_kept hR.toKept ?_) | (refine restoreLedger_kept hR ?_) | (refine afterVersoEnable_kept hR.toKept ?_) | (refine refreshBus_kept hR.toKept ?_) | (refine refreshFrozenPen_kept hR.toKept ?_) | (refine refreshPresets_kept hR.toKept ?_) | (refine refreshDegraded_kept hR.toKept ?_) | (refine State.iff_kept hR.toKept ?_ fun s h => ?_) | (refine useLost_kept hR.toKept ?_) | (intro x; try (refine Kept.cut (R := R) (s0 := s0) (x := x) ?_ ?_; unfold x; rotate_left; clear_value x; intro h)) | lift_lets | (refine Kept.ite ?_ ?_) | split | dsimp only)

theorem fieldsWrite_kept (hR : KeptMem R) {a1 a2} (h : R s0 s) : R s0 (fieldsWrite s a1 a2) := by
  unfold fieldsWrite
  with_reducible repeat' (first | assumption | (refine afterFields_kept hR ?_) | (refine State.each_kept hR.toKept ?_ fun s a h => ?_) | (refine beforeFields_kept hR.toKept ?_) | (refine State.writeField_kept hR.toKept ?_) | (intro x; try (refine Kept.cut (R := R) (s0 := s0) (x := x) ?_ ?_; unfold x; rotate_left; clear_value x; intro h)) | lift_lets | (refine Kept.ite ?_ ?_) | split | dsimp only)

theorem sysRows_kept (hR : Kept R) {a0 a2 a3} (h : R s0 s) : R s0 (sysRows a0 s a2 a3) := by
  unfold sysRows
  with_reducible repeat' (first | assumption | (refine State.iff_kept hR ?_ fun s h => ?_) | (refine chipResetWrite_kept hR ?_) | (refine release_kept hR ?_) | (refine scribeResets_kept hR ?_) | (refine wdtTimeoutWrite_kept hR ?_) | (refine kick_kept hR ?_) | (intro x; try (refine Kept.cut (R := R) (s0 := s0) (x := x) ?_ ?_; unfold x; rotate_left; clear_value x; intro h)) | lift_lets | (refine Kept.ite ?_ ?_) | split | dsimp only)

theorem inkRows_kept (hR : KeptMem R) {a1 a2} (h : R s0 s) : R s0 (inkRows s a1 a2) := by
  unfold inkRows
  with_reducible repeat' (first | assumption | (refine srEnter_kept hR.toKept ?_) | (refine State.iff_kept hR.toKept ?_ fun s h => ?_) | (refine srExitStart_kept hR.toKept ?_) | (refine hR.toKept.set ?_) | (refine longestClear_kept hR.toKept ?_) | (refine State.ev_kept hR.toKept ?_) | (refine eccTestMech_kept hR.toKept ?_) | (refine eccTestArm_kept hR.toKept ?_) | (refine eccTestStore_kept hR ?_) | (intro x; try (refine Kept.cut (R := R) (s0 := s0) (x := x) ?_ ?_; unfold x; rotate_left; clear_value x; intro h)) | lift_lets | (refine Kept.ite ?_ ?_) | split | dsimp only)

theorem cpbRows_kept (hR : KeptMem R) {a1 a2} (h : R s0 s) : R s0 (cpbRows s a1 a2) := by
  unfold cpbRows
  with_reducible repeat' (first | assumption | (refine scratchCountWrite_kept hR ?_) | (refine cpbWriteback_kept hR ?_) | (refine cpbInvalidate_kept hR.toKept ?_) | (refine cpbWbInv_kept hR ?_) | (refine cpbZero_kept hR ?_) | (refine cpbPreload_kept hR ?_) | (refine opRefused_kept hR.toKept ?_) | (refine State.iff_kept hR.toKept ?_ fun s h => ?_) | (refine cpbUnlock_kept hR.toKept ?_) | (refine Kept.ite ?_ ?_) | split)

theorem mbxRows_kept (hR : Kept R) {a0 a2 a3} (h : R s0 s) : R s0 (mbxRows a0 s a2 a3) := by
  unfold mbxRows
  with_reducible repeat' (first | assumption | (refine mbxRequestWrite_kept hR ?_) | (refine mbxResultWrite_kept hR ?_) | (refine protoErr_kept hR ?_) | (refine post_kept hR ?_) | (refine take_kept hR ?_) | (refine complete_kept hR ?_) | (refine mbxAck_kept hR ?_) | (refine cancel_kept hR ?_) | (refine mbxCfgWrite_kept hR ?_) | (refine sealErr_kept hR ?_) | (refine sealTake_kept hR ?_) | (refine sealRelease_kept hR ?_) | (refine clearBroken_kept hR ?_) | (intro x; try (refine Kept.cut (R := R) (s0 := s0) (x := x) ?_ ?_; unfold x; rotate_left; clear_value x; intro h)) | lift_lets | (refine Kept.ite ?_ ?_) | split | dsimp only)

theorem ldpcRows_kept (hR : KeptMem R) {a1 a2} (h : R s0 s) : R s0 (ldpcRows s a1 a2) := by
  unfold ldpcRows
  with_reducible repeat' (first | assumption | (refine State.iff_kept hR.toKept ?_ fun s h => ?_) | (refine parkWrite_kept hR ?_) | (refine coreOfflineWrite_kept hR.toKept ?_) | (refine coreTest_kept hR.toKept ?_) | (refine captureArm_kept hR.toKept ?_) | (refine Kept.ite ?_ ?_) | split)

theorem hqRows_kept (hR : Kept R) {a1 a2} (h : R s0 s) : R s0 (hqRows s a1 a2) := by
  unfold hqRows
  with_reducible repeat' (first | assumption | (refine hR.set ?_) | (refine qpSplitWrite_kept hR ?_) | (refine Kept.ite ?_ ?_) | split)

theorem secRows_kept (hR : KeptMem R) {a1 a2} (h : R s0 s) : R s0 (secRows s a1 a2) := by
  unfold secRows
  with_reducible repeat' (first | assumption | (refine State.iff_kept hR.toKept ?_ fun s h => ?_) | (refine reseed_kept hR.toKept ?_) | (refine selftest_kept hR.toKept ?_) | (refine zeroise_kept hR ?_) | (refine keyStart_kept hR ?_) | (refine Kept.ite ?_ ?_) | split)

theorem vrsRows_kept (hR : KeptMem R) {a1 a2} (h : R s0 s) : R s0 (vrsRows s a1 a2) := by
  unfold vrsRows
  with_reducible repeat' (first | assumption | (refine State.iff_kept hR.toKept ?_ fun s h => ?_) | (refine degClr_kept hR.toKept ?_) | (refine versoLinkFail_kept hR.toKept ?_) | (refine nodeWrite_kept hR.toKept ?_) | (refine giveUp_kept hR ?_) | (refine diagClear_kept hR.toKept ?_) | (refine vrsOutWrite_kept hR ?_) | (refine Kept.ite ?_ ?_) | split)

theorem calRows_kept (hR : Kept R) {a1 a2} (h : R s0 s) : R s0 (calRows s a1 a2) := by
  unfold calRows
  with_reducible repeat' (first | assumption | (refine State.iff_kept hR ?_ fun s h => ?_) | (refine calStart_kept hR ?_) | (refine calAbort_kept hR ?_) | (refine calRevert_kept hR ?_) | (refine calLoad_kept hR ?_) | (refine tsOfsWrite_kept hR ?_) | (intro x; try (refine Kept.cut (R := R) (s0 := s0) (x := x) ?_ ?_; unfold x; rotate_left; clear_value x; intro h)) | lift_lets | (refine Kept.ite ?_ ?_) | split | dsimp only)

theorem leRows_kept (hR : Kept R) {a1 a2 a3} (h : R s0 s) : R s0 (leRows s a1 a2 a3) := by
  unfold leRows
  with_reducible repeat' (first | assumption | (refine State.iff_kept hR ?_ fun s h => ?_) | (refine leReset_kept hR ?_) | (refine loopCtrlWrite_kept hR ?_) | (refine bankWrite_kept hR ?_) | (refine loopModeWrite_kept hR ?_) | (refine rcClear_kept hR ?_) | (refine leMemoryWrite_kept hR ?_) | (refine rcTableWrite_kept hR ?_) | (intro x; try (refine Kept.cut (R := R) (s0 := s0) (x := x) ?_ ?_; unfold x; rotate_left; clear_value x; intro h)) | lift_lets | (refine Kept.ite ?_ ?_) | split | dsimp only)

theorem motRows_kept (hR : Kept R) {a1 a2} (h : R s0 s) : R s0 (motRows s a1 a2) := by
  unfold motRows
  with_reducible repeat' (first | assumption | (refine leRows_kept hR ?_) | (refine State.iff_kept hR ?_ fun s h => ?_) | (refine ovClear_kept hR ?_) | (refine faultClr_kept hR ?_) | (refine spEnableWrite_kept hR ?_) | (refine spSetWrite_kept hR ?_) | (refine seqEntryWrite_kept hR ?_) | (intro x; try (refine Kept.cut (R := R) (s0 := s0) (x := x) ?_ ?_; unfold x; rotate_left; clear_value x; intro h)) | lift_lets | (refine Kept.ite ?_ ?_) | split | dsimp only)

theorem ducRows_kept (hR : Kept R) {a1 a2} (h : R s0 s) : R s0 (ducRows s a1 a2) := by
  unfold ducRows
  with_reducible repeat' (first | assumption | (refine sledModeWrite_kept hR ?_) | (refine State.iff_kept hR ?_ fun s h => ?_) | (refine stopAtOnce_kept hR ?_) | (refine sledTargetWrite_kept hR ?_) | (refine posSet_kept hR ?_) | (intro x; try (refine Kept.cut (R := R) (s0 := s0) (x := x) ?_ ?_; unfold x; rotate_left; clear_value x; intro h)) | lift_lets | (refine Kept.ite ?_ ?_) | split | dsimp only)

theorem rulRows_kept (hR : KeptMem R) {a1 a2 a3} (h : R s0 s) : R s0 (rulRows s a1 a2 a3) := by
  unfold rulRows
  with_reducible repeat' (first | assumption | (refine State.iff_kept hR.toKept ?_ fun s h => ?_) | (refine rulEnable_kept hR.toKept ?_) | (refine rulDisable_kept hR ?_) | (refine rulJumpSet_kept hR.toKept ?_) | (refine rulJumpClear_kept hR ?_) | (refine rulBandWrite_kept hR ?_) | (intro x; try (refine Kept.cut (R := R) (s0 := s0) (x := x) ?_ ?_; unfold x; rotate_left; clear_value x; intro h)) | lift_lets | (refine Kept.ite ?_ ?_) | split | dsimp only)

theorem rcRows_kept (hR : KeptMem R) {a1 a2 a3} (h : R s0 s) : R s0 (rcRows s a1 a2 a3) := by
  unfold rcRows
  with_reducible repeat' (first | assumption | (refine channelsChanged_kept hR.toKept ?_ fun s h => ?_) | (refine rcCtrlWrite_kept hR ?_) | (refine ztDirWrite_kept hR.toKept ?_) | (refine Kept.ite ?_ ?_) | split)

theorem wcEnableSet_kept (hR : Kept R) {a1 a2} (h : R s0 s) : R s0 (wcEnableSet s a1 a2) := by
  unfold wcEnableSet
  with_reducible repeat' (first | assumption | (refine State.iff_kept hR ?_ fun s h => ?_) | (refine channelsChanged_kept hR ?_ fun s h => ?_) | (refine hR.set ?_) | split)

theorem wcRows_kept (hR : KeptMem R) {a1 a2 a3} (h : R s0 s) : R s0 (wcRows s a1 a2 a3) := by
  unfold wcRows
  with_reducible repeat' (first | assumption | (refine wcEnableSet_kept hR.toKept ?_) | (refine State.iff_kept hR.toKept ?_ fun s h => ?_) | (refine channelsChanged_kept hR.toKept ?_ fun s h => ?_) | (refine wcDisable_kept hR ?_) | (refine haltWrite_kept hR ?_) | (refine fqHeadWrite_kept hR.toKept ?_) | (refine gateClr_kept hR.toKept ?_) | (refine wsLoad_kept hR.toKept ?_) | (intro x; try (refine Kept.cut (R := R) (s0 := s0) (x := x) ?_ ?_; unfold x; rotate_left; clear_value x; intro h)) | lift_lets | (refine Kept.ite ?_ ?_) | split | dsimp only)

theorem lkRows_kept (hR : KeptMem R) {a1 a2 a3} (h : R s0 s) : R s0 (lkRows s a1 a2 a3) := by
  unfold lkRows
  with_reducible repeat' (first | assumption | (refine State.iff_kept hR.toKept ?_ fun s h => ?_) | (refine lkEnableWrite_kept hR ?_) | (refine retrain_kept hR ?_) | (refine deskew_kept hR.toKept ?_) | (intro x; try (refine Kept.cut (R := R) (s0 := s0) (x := x) ?_ ?_; unfold x; rotate_left; clear_value x; intro h)) | lift_lets | (refine Kept.ite ?_ ?_) | split | dsimp only)

theorem svRows_kept (hR : Kept R) {a1 a2 a3} (h : R s0 s) : R s0 (svRows s a1 a2 a3) := by
  unfold svRows
  with_reducible repeat' (first | assumption | (refine State.iff_kept hR ?_ fun s h => ?_) | (refine supEnWrite_kept hR ?_) | (refine trkAutoWrite_kept hR ?_) | (refine acqStart_kept hR ?_) | (refine jumpStart_kept hR ?_) | (refine tjumpStart_kept hR ?_) | (intro x; try (refine Kept.cut (R := R) (s0 := s0) (x := x) ?_ ?_; unfold x; rotate_left; clear_value x; intro h)) | lift_lets | (refine Kept.ite ?_ ?_) | split | dsimp only)

theorem latch_kept (hR : Kept R) {a0} (h : R s0 s) : R s0 (latch a0 s) := by
  unfold latch
  with_reducible repeat' (first | assumption | (refine hR.set ?_) | (refine Kept.ite ?_ ?_) | split)

theorem rowsWrite_kept (hR : KeptMem R) {a0 a2 a3} (h : R s0 s) : R s0 (rowsWrite a0 s a2 a3) := by
  unfold rowsWrite
  with_reducible repeat' (first | assumption | (refine State.iff_kept hR.toKept ?_ fun s h => ?_) | (refine latch_kept hR.toKept ?_) | (refine sysRows_kept hR.toKept ?_) | (refine inkRows_kept hR ?_) | (refine cpbRows_kept hR ?_) | (refine hqRows_kept hR.toKept ?_) | (refine ldgSwap_kept hR ?_) | (refine mbxRows_kept hR.toKept ?_) | (refine secRows_kept hR ?_) | (refine motRows_kept hR.toKept ?_) | (refine ducRows_kept hR.toKept ?_) | (refine vrsRows_kept hR ?_) | (refine calRows_kept hR.toKept ?_) | (refine ldpcRows_kept hR ?_) | (refine lkRows_kept hR ?_) | (refine rulRows_kept hR ?_) | (refine rcRows_kept hR ?_) | (refine wcRows_kept hR ?_) | (refine svRows_kept hR.toKept ?_) | (refine leRows_kept hR.toKept ?_) | (intro x; try (refine Kept.cut (R := R) (s0 := s0) (x := x) ?_ ?_; unfold x; rotate_left; clear_value x; intro h)) | lift_lets | (refine Kept.ite ?_ ?_) | split | dsimp only)

theorem writeRefused_kept (hR : Kept R) {a0 a2 a3} (h : R s0 s) : R s0 (writeRefused a0 s a2 a3) := by
  unfold writeRefused
  with_reducible repeat' (first | assumption | (refine State.ev_kept hR ?_) | (refine State.iff_kept hR ?_ fun s h => ?_) | (refine kick_kept hR ?_) | (intro x; try (refine Kept.cut (R := R) (s0 := s0) (x := x) ?_ ?_; unfold x; rotate_left; clear_value x; intro h)) | lift_lets | (refine Kept.ite ?_ ?_) | split | dsimp only)

theorem mbxActions_kept (hR : Kept R) {a1 a2} (h : R s0 s) : R s0 (mbxActions s a1 a2) := by
  unfold mbxActions
  with_reducible repeat' (first | assumption | (refine protoErr_kept hR ?_) | (refine sealErr_kept hR ?_) | (intro x; try (refine Kept.cut (R := R) (s0 := s0) (x := x) ?_ ?_; unfold x; rotate_left; clear_value x; intro h)) | lift_lets | (refine Kept.ite ?_ ?_) | split | dsimp only)

theorem wordWrite_kept (hR : KeptMem R) {a0 a1 a3 a4} (h : R s0 s) : R s0 (wordWrite a0 a1 s a3 a4) := by
  unfold wordWrite
  with_reducible repeat' (first | assumption | (refine rowsWrite_kept hR ?_) | (refine fieldsWrite_kept hR ?_) | (refine mbxActions_kept hR.toKept ?_) | (refine State.iff_kept hR.toKept ?_ fun s h => ?_) | (refine wcEnableSet_kept hR.toKept ?_) | (refine writeRefused_kept hR.toKept ?_) | (intro x; try (refine Kept.cut (R := R) (s0 := s0) (x := x) ?_ ?_; unfold x; rotate_left; clear_value x; intro h)) | lift_lets | (refine Kept.ite ?_ ?_) | split | dsimp only)

theorem recordXing_kept (hR : Kept R) {a1 a2} (h : R s0 s) : R s0 (recordXing s a1 a2) := by
  unfold recordXing
  with_reducible repeat' (first | assumption | (refine State.ev_kept hR ?_) | (refine hR.set ?_) | (intro x; try (refine Kept.cut (R := R) (s0 := s0) (x := x) ?_ ?_; unfold x; rotate_left; clear_value x; intro h)) | lift_lets | (refine Kept.ite ?_ ?_) | split | dsimp only)

theorem notPerformed_kept (hR : Kept R) {a1 a2 a3} (h : R s0 s) : R s0 (notPerformed s a1 a2 a3) := by
  unfold notPerformed
  with_reducible repeat' (first | assumption | (refine trapScribe_kept hR ?_) | (refine giveRead_kept hR ?_) | (refine Kept.ite ?_ ?_) | split)

theorem abandon_kept (hR : Kept R) {a1 a2 a3} (h : R s0 s) : R s0 (abandon s a1 a2 a3) := by
  unfold abandon
  with_reducible repeat' (first | assumption | (refine notPerformed_kept hR ?_) | (refine recordXing_kept hR ?_) | (refine Kept.ite ?_ ?_) | split)

theorem accessAbandoned_kept (hR : Kept R) {a0 a1 a2} (h : R s0 s) : R s0 (accessAbandoned a0 a1 a2 s) := by
  unfold accessAbandoned
  with_reducible repeat' (first | assumption | (refine abandon_kept hR ?_) | (refine Kept.ite ?_ ?_) | split)

theorem blockWrite_kept (hR : KeptMem R) {a0 a1 a2 a3 a4} (h : R s0 s) : R s0 (blockWrite a0 a1 a2 a3 a4 s) := by
  unfold blockWrite
  with_reducible repeat' (first | assumption | (refine notPerformed_kept hR.toKept ?_) | (refine abandon_kept hR.toKept ?_) | (refine State.modScribe_kept hR.toKept ?_) | (refine wordWrite_kept hR ?_) | (intro x; try (refine Kept.cut (R := R) (s0 := s0) (x := x) ?_ ?_; unfold x; rotate_left; clear_value x; intro h)) | lift_lets | (refine Kept.ite ?_ ?_) | split | dsimp only)

theorem wordReadEffect_kept (hR : Kept R) {a0 a2} (h : R s0 s) : R s0 (wordReadEffect a0 s a2) := by
  unfold wordReadEffect
  with_reducible repeat' (first | assumption | (refine State.iff_kept hR ?_ fun s h => ?_) | (refine hR.set ?_) | (refine State.readWordEffect_kept hR ?_) | (intro x; try (refine Kept.cut (R := R) (s0 := s0) (x := x) ?_ ?_; unfold x; rotate_left; clear_value x; intro h)) | lift_lets | (refine Kept.ite ?_ ?_) | split | dsimp only)

theorem blockRead_kept (hR : Kept R) {a0 a1 a2} (h : R s0 s) : R s0 (blockRead a0 a1 a2 s) := by
  unfold blockRead
  with_reducible repeat' (first | assumption | (refine notPerformed_kept hR ?_) | (refine abandon_kept hR ?_) | (refine wordReadEffect_kept hR ?_) | (refine giveAny_kept hR ?_) | (refine Kept.ite ?_ ?_) | split)

theorem bar0Value_kept (hR : Kept R) {a1 a2} (h : R s0 s) : R s0 (bar0Value s a1 a2).2 := by
  unfold bar0Value
  with_reducible repeat' (first | assumption | (refine State.fresh_kept' hR (by assumption) ?_) | (intro x; try (refine Kept.cut (R := R) (s0 := s0) (x := x) ?_ ?_; unfold x; rotate_left; clear_value x; intro h)) | lift_lets | split | dsimp only | (refine State.fresh_kept hR ?_))
theorem bar0Value_kept' (hR : Kept R) {a1 a2 v t} (e : bar0Value s a1 a2 = (v, t)) (h : R s0 s) : R s0 t := by
  have q : R s0 (bar0Value s a1 a2).2 := bar0Value_kept hR h
  rw [e] at q
  exact q

theorem bar0Read_kept (hR : Kept R) {a0 a1 a2} (h : R s0 s) : R s0 (bar0Read a0 a1 a2 s) := by
  unfold bar0Read
  with_reducible repeat' (first | assumption | (refine giveRead_kept hR ?_) | (refine bar0Value_kept' hR (by assumption) ?_) | (intro x; try (refine Kept.cut (R := R) (s0 := s0) (x := x) ?_ ?_; unfold x; rotate_left; clear_value x; intro h)) | lift_lets | (refine Kept.ite ?_ ?_) | split | dsimp only | (refine Kept.ite2 (by assumption) ?_ ?_) | (refine bar0Value_kept hR ?_))

theorem msixWrite_kept (hR : Kept R) {a1 a2 a3} (h : R s0 s) : R s0 (msixWrite s a1 a2 a3) := by
  unfold msixWrite
  with_reducible repeat' (first | assumption | (refine State.modFn_kept hR ?_) | (refine State.iff_kept hR ?_ fun s h => ?_) | (refine sendMsix_kept hR ?_) | (intro x; try (refine Kept.cut (R := R) (s0 := s0) (x := x) ?_ ?_; unfold x; rotate_left; clear_value x; intro h)) | lift_lets | (refine Kept.ite ?_ ?_) | split | dsimp only)

theorem bar0WordWrite_kept (hR : Kept R) {a0 a1 a2} (h : R s0 s) : R s0 (bar0WordWrite a0 a1 a2 s) := by
  unfold bar0WordWrite
  with_reducible repeat' (first | assumption | (refine State.modFn_kept hR ?_) | (refine msixWrite_kept hR ?_) | (refine Kept.ite ?_ ?_) | split)

theorem bar0Write_kept (hR : Kept R) {a0 a1 a2 a3} (h : R s0 s) : R s0 (bar0Write a0 a1 a2 a3 s) := by
  unfold bar0Write
  with_reducible repeat' (first | assumption | (refine State.iff_kept hR ?_ fun s h => ?_) | (refine bar0WordWrite_kept hR ?_) | (refine Kept.ite ?_ ?_) | split)

theorem bar2Read_kept (hR : Kept R) {a0 a1 a2} (h : R s0 s) : R s0 (bar2Read a0 a1 a2 s) := by
  unfold bar2Read
  with_reducible repeat' (first | assumption | (refine blockRead_kept hR ?_) | (refine giveRead_kept hR ?_) | (refine Kept.ite ?_ ?_) | split)

theorem bar2Write_kept (hR : KeptMem R) {a0 a1 a2 a3} (h : R s0 s) : R s0 (bar2Write a0 a1 a2 a3 s) := by
  unfold bar2Write
  with_reducible repeat' (first | assumption | (refine blockWrite_kept hR ?_) | (refine Kept.ite ?_ ?_) | split)

theorem statusWindowRefresh_kept (hR : Kept R) (h : R s0 s) : R s0 (statusWindowRefresh s) := by
  unfold statusWindowRefresh
  with_reducible repeat' (first | assumption | (refine Kept.fold ?_ fun p a h => ?_) | (refine Kept.fold1 ?_ fun p a h => ?_) | (intro x; try (refine Kept.cut (R := R) (s0 := s0) (x := x) ?_ ?_; unfold x; rotate_left; clear_value x; intro h)) | lift_lets | (refine Kept.ite ?_ ?_) | split | dsimp only | (refine hR.rest ?_))

theorem registerWrite_kept (hR : KeptMem R) {a0 a1 a2 a3} (h : R s0 s) : R s0 (registerWrite a0 a1 a2 a3 s) := by
  unfold registerWrite
  with_reducible repeat' (first | assumption | (refine blockWrite_kept hR ?_) | (refine bar0Write_kept hR.toKept ?_) | (refine bar2Write_kept hR ?_) | (refine Kept.ite ?_ ?_) | split)

theorem rocRead_kept (hR : Kept R) {a0 a1 a2} (h : R s0 s) : R s0 (rocRead a0 a1 a2 s) := by
  unfold rocRead
  with_reducible repeat' (first | assumption | (refine blockRead_kept hR ?_) | (refine giveAny_kept hR ?_) | (refine bar0Read_kept hR ?_) | (refine bar2Read_kept hR ?_) | (refine Kept.ite ?_ ?_) | split)

theorem clearOnLatch_kept (hR : Kept R) {a0} (h : R s0 s) : R s0 (clearOnLatch a0 s) := by
  unfold clearOnLatch
  with_reducible repeat' (first | assumption | (refine State.iff_kept hR ?_ fun s h => ?_) | (refine State.each_kept hR ?_ fun s a h => ?_) | (refine hR.set ?_) | split)

theorem latchCapture_kept (hR : Kept R) {a0} (h : R s0 s) : R s0 (latchCapture a0 s) := by
  unfold latchCapture
  with_reducible repeat' (first | assumption | (refine clearOnLatch_kept hR ?_) | (refine hR.set ?_) | (refine State.wrap_kept hR ?_) | (refine Kept.fold ?_ fun p a h => ?_) | (refine Kept.fold1 ?_ fun p a h => ?_) | (intro x; try (refine Kept.cut (R := R) (s0 := s0) (x := x) ?_ ?_; unfold x; rotate_left; clear_value x; intro h)) | lift_lets | (refine Kept.ite ?_ ?_) | split | dsimp only | (refine hR.rest ?_))

theorem scribeLoad_kept (hR : KeptMem R) {a0 a1 a2 a3} (h : R s0 s) : R s0 (scribeLoad a0 a1 a2 a3 s) := by
  unfold scribeLoad
  with_reducible repeat' (first | assumption | (refine trapScribe_kept hR.toKept ?_) | (refine blockRead_kept hR.toKept ?_) | (refine loadMem_kept hR ?_) | (refine Kept.ite ?_ ?_) | split)

theorem scribeStore_kept (hR : KeptMem R) {a0 a1 a2 a3} (h : R s0 s) : R s0 (scribeStore a0 a1 a2 a3 s) := by
  unfold scribeStore
  with_reducible repeat' (first | assumption | (refine trapScribe_kept hR.toKept ?_) | (refine blockWrite_kept hR ?_) | (refine storeMem_kept hR ?_) | (refine Kept.ite ?_ ?_) | split)

end Sys2Proof.Machine
end

