-- ==== Sys2Proof/Laws/Exec.lean ====
section
/-!
SUPPORT. One law for all commands: a command keeps every relation that its operations keep.
-/

namespace Sys2Proof.Machine

variable {R : State → State → Prop} {s0 s t : State} {c : Instr}

/-- A relation to what a command answers. -/
theorem next_rel {x : State} (e : Host.Outcome.next x = (Host.Outcome.next t : Res)) (h : R s0 x) : R s0 t := by
  cases e
  exact h

/-- A command that stores nothing keeps what register and hidden-state changes keep. -/
theorem exec_kept_quiet (hR : Kept R) (hc : stores c = false) (h : R s0 s) (e : exec c s = .next t) : R s0 t := by
  cases c with
  | registerWrite => cases hc
  | rocRead => exact next_rel e (rocRead_kept hR h)
  | latch => exact next_rel e (State.clocked_kept hR h fun s h => latch_kept hR h)
  | latchCapture => exact next_rel e (latchCapture_kept hR h)
  | accessAbandoned => exact next_rel e (accessAbandoned_kept hR h)
  | rulEnable => exact next_rel e (State.clocked_kept hR h fun s h => rulEnable_kept hR h)
  | rulDisable => cases hc
  | rulJumpSet => exact next_rel e (State.clocked_kept hR h fun s h => rulJumpSet_kept hR h)
  | rulJumpClear => cases hc
  | rulBandWrite => cases hc
  | freqAcquired => exact next_rel e (freqAcquired_kept hR h)
  | phaseAcquired => exact next_rel e (phaseAcquired_kept hR h)
  | acqTimeout => cases hc
  | addrWord => exact next_rel e (addrWord_kept hR h)
  | rulingNibLost => exact next_rel e (rulingNibLost_kept hR h)
  | rulingNibGood => exact next_rel e (rulingNibGood_kept hR h)
  | holdLimit => cases hc
  | freqWordSend => exact next_rel e (freqWordSend_kept hR h)
  | rcCtrlWrite => cases hc
  | blotStart => exact next_rel e (blotStart_kept hR h)
  | blotEnd => exact next_rel e (blotEnd_kept hR h)
  | cwBoundary => exact next_rel e (cwBoundary_kept hR h)
  | presetFetchDone => exact next_rel e (presetFetchDone_kept hR h)
  | ztDirWrite => exact next_rel e (State.clocked_kept hR h fun s h => ztDirWrite_kept hR h)
  | syncSearch => exact next_rel e (syncSearch_kept hR h)
  | resyncSearch => exact next_rel e (resyncSearch_kept hR h)
  | slipTest => exact next_rel e (slipTest_kept hR h)
  | cwFramed => cases hc
  | coreSchedule => exact next_rel e (coreSchedule_kept hR h)
  | decodeDone => cases hc
  | spillCopyDone => cases hc
  | samplesLost => exact next_rel e (samplesLost_kept hR h)
  | replayDone => exact next_rel e (replayDone_kept hR h)
  | revisitStart => exact next_rel e (revisitStart_kept hR h)
  | revisitStep => cases hc
  | parkWrite => cases hc
  | coreOfflineWrite => exact next_rel e (State.clocked_kept hR h fun s h => coreOfflineWrite_kept hR h)
  | coreTest => exact next_rel e (State.clocked_kept hR h fun s h => coreTest_kept hR h)
  | coreTestDone => exact next_rel e (coreTestDone_kept hR h)
  | captureArm => exact next_rel e (State.clocked_kept hR h fun s h => captureArm_kept hR h)
  | captureDone => cases hc
  | fqHeadWrite => exact next_rel e (State.clocked_kept hR h fun s h => fqHeadWrite_kept hR h)
  | groupForm => exact next_rel e (groupForm_kept hR h)
  | groupStart => exact next_rel e (groupStart_kept hR h)
  | slotArrival => exact next_rel e (slotArrival_kept hR h)
  | burnDone => exact next_rel e (burnDone_kept hR h)
  | writeUnderrun => exact next_rel e (writeUnderrun_kept hR h)
  | verifyRead => exact next_rel e (verifyRead_kept hR h)
  | descComplete => cases hc
  | groupEnd => exact next_rel e (groupEnd_kept hR h)
  | colophonGate => exact next_rel e (colophonGate_kept hR h)
  | colophonReadback => exact next_rel e (colophonReadback_kept hR h)
  | calReadback => cases hc
  | blankCheck => exact next_rel e (blankCheck_kept hR h)
  | readDesc => exact next_rel e (readDescDone_kept hR h)
  | wsLoad => exact next_rel e (State.clocked_kept hR h fun s h => wsLoad_kept hR h)
  | wsLoadDone => exact next_rel e (wsLoadDone_kept hR h)
  | gateClr => exact next_rel e (State.clocked_kept hR h fun s h => gateClr_kept hR h)
  | haltWrite => cases hc
  | wcDisable => cases hc
  | writeHoldRise => exact next_rel e (writeHoldRise_kept hR h)
  | leTick => exact next_rel e (leTick_kept hR h)
  | loopModeWrite => exact next_rel e (State.clocked_kept hR h fun s h => loopModeWrite_kept hR h)
  | loopCtrlWrite => exact next_rel e (State.clocked_kept hR h fun s h => loopCtrlWrite_kept hR h)
  | bankWrite => exact next_rel e (State.clocked_kept hR h fun s h => bankWrite_kept hR h)
  | leMemoryWrite => exact next_rel e (State.clocked_kept hR h fun s h => leMemoryWrite_kept hR h)
  | rcTableWrite => exact next_rel e (State.clocked_kept hR h fun s h => rcTableWrite_kept hR h)
  | rcClear => exact next_rel e (State.clocked_kept hR h fun s h => rcClear_kept hR h)
  | rcClearDone => exact next_rel e (rcClearDone_kept hR h)
  | leReset => exact next_rel e (State.clocked_kept hR h fun s h => leReset_kept hR h)
  | lockstepFault => cases hc
  | invalidTick => exact next_rel e (invalidTick_kept hR h)
  | resume => exact next_rel e (resume_kept hR h)
  | escapeRetract => exact next_rel e (escapeRetract_kept hR h)
  | collapseRetract => exact next_rel e (collapseRetract_kept hR h)
  | longGap => exact next_rel e (longGap_kept hR h)
  | retractEnd => exact next_rel e (retractEnd_kept hR h)
  | acqStart => exact next_rel e (State.clocked_kept hR h fun s h => acqStart_kept hR h)
  | approachDone => exact next_rel e (approachDone_kept hR h)
  | sweepCapture => exact next_rel e (sweepCapture_kept hR h)
  | fLock => exact next_rel e (fLock_kept hR h)
  | trackCapture => exact next_rel e (trackCapture_kept hR h)
  | tLock => exact next_rel e (tLock_kept hR h)
  | trackSlip => exact next_rel e (trackSlip_kept hR h)
  | jumpStart => exact next_rel e (State.clocked_kept hR h fun s h => jumpStart_kept hR h)
  | jumpPhaseEnd => exact next_rel e (jumpPhaseEnd_kept hR h)
  | tjumpStart => exact next_rel e (State.clocked_kept hR h fun s h => tjumpStart_kept hR h)
  | tjumpEnd => exact next_rel e (tjumpEnd_kept hR h)
  | supEnWrite => exact next_rel e (State.clocked_kept hR h fun s h => supEnWrite_kept hR h)
  | trkAutoWrite => exact next_rel e (State.clocked_kept hR h fun s h => trkAutoWrite_kept hR h)
  | pwmPeriod => exact next_rel e (pwmPeriod_kept hR h)
  | overcurrentTrip => exact next_rel e (overcurrentTrip_kept hR h)
  | zcConfirm => exact next_rel e (zcConfirm_kept hR h)
  | commutate => exact next_rel e (commutate_kept hR h)
  | missedZc => exact next_rel e (missedZc_kept hR h)
  | catchEnd => exact next_rel e (catchEnd_kept hR h)
  | brakeEnd => exact next_rel e (brakeEnd_kept hR h)
  | slotGrant => exact next_rel e (slotGrant_kept hR h)
  | alignEnd => exact next_rel e (alignEnd_kept hR h)
  | handover => exact next_rel e (handover_kept hR h)
  | openHoldFail => exact next_rel e (openHoldFail_kept hR h)
  | coastEnd => exact next_rel e (coastEnd_kept hR h)
  | stopBrakeEnd => exact next_rel e (stopBrakeEnd_kept hR h)
  | spSetWrite => exact next_rel e (State.clocked_kept hR h fun s h => spSetWrite_kept hR h)
  | spEnableWrite => exact next_rel e (State.clocked_kept hR h fun s h => spEnableWrite_kept hR h)
  | faultClr => exact next_rel e (State.clocked_kept hR h fun s h => faultClr_kept hR h)
  | busSample => exact next_rel e (busSample_kept hR h)
  | chopFault => exact next_rel e (chopFault_kept hR h)
  | ovClear => exact next_rel e (State.clocked_kept hR h fun s h => ovClear_kept hR h)
  | i2tLimit => exact next_rel e (i2tLimit_kept hR h)
  | seqEntryWrite => exact next_rel e (State.clocked_kept hR h fun s h => seqEntryWrite_kept hR h)
  | plannerTick => exact next_rel e (plannerTick_kept hR h)
  | sledTargetWrite => exact next_rel e (State.clocked_kept hR h fun s h => sledTargetWrite_kept hR h)
  | sledModeWrite => exact next_rel e (State.clocked_kept hR h fun s h => sledModeWrite_kept hR h)
  | moveDone => exact next_rel e (moveDone_kept hR h)
  | extStep => exact next_rel e (extStep_kept hR h)
  | sledStop => exact next_rel e (State.clocked_kept hR h fun s h => stopAtOnce_kept hR h)
  | posSet => exact next_rel e (State.clocked_kept hR h fun s h => posSet_kept hR h)
  | switchQualify => exact next_rel e (switchQualify_kept hR h)
  | ducFrame => exact next_rel e (ducFrame_kept hR h)
  | stageStatus => exact next_rel e (stageStatus_kept hR h)
  | stageLost => exact next_rel e (stageLost_kept hR h)
  | lkEnableWrite => cases hc
  | signalDetect => exact next_rel e (signalDetect_kept hR h)
  | retrain => cases hc
  | trainStep => exact next_rel e (trainStep_kept hR h)
  | trainTimeout => exact next_rel e (trainTimeout_kept hR h)
  | failWaitEnd => exact next_rel e (failWaitEnd_kept hR h)
  | pllLock => exact next_rel e (pllLock_kept hR h)
  | deskew => exact next_rel e (State.clocked_kept hR h fun s h => deskew_kept hR h)
  | deskewDone => exact next_rel e (deskewDone_kept hR h)
  | deskewSuspendExpiry => cases hc
  | samples => exact next_rel e (samples_kept hR h)
  | ruling => exact next_rel e (rulingPkt_kept hR h)
  | servo => exact next_rel e (servo_kept hR h)
  | penStatus => cases hc
  | claimStatus => cases hc
  | ack => exact next_rel e (ack_kept hR h)
  | uncorrectableCodeword => exact next_rel e (uncorrectable_kept hR h)
  | laneLost => cases hc
  | linkDown => cases hc
  | claim => exact next_rel e (sendClaim_kept hR h)
  | write => exact next_rel e (writePkt_kept hR h)
  | inkGrant => cases hc
  | eccWriteback => cases hc
  | ueWindow => cases hc
  | fillDone => cases hc
  | scrubRead => cases hc
  | arbBaseWrite => exact next_rel e (State.clocked_kept hR h fun s h => hR.set h)
  | longestClear => exact next_rel e (State.clocked_kept hR h fun s h => longestClear_kept hR h)
  | eccTestMech => exact next_rel e (State.clocked_kept hR h fun s h => eccTestMech_kept hR h)
  | eccTestArm => exact next_rel e (State.clocked_kept hR h fun s h => eccTestArm_kept hR h)
  | eccTestStore => cases hc
  | srEnter => exact next_rel e (State.clocked_kept hR h fun s h => srEnter_kept hR h)
  | srExitStart => exact next_rel e (State.clocked_kept hR h fun s h => srExitStart_kept hR h)
  | srExit => exact next_rel e (srExit_kept hR h)
  | scribeLoad => cases hc
  | scribeStore => cases hc
  | scribeFetch => cases hc
  | scribeAmo => cases hc
  | victimWritebackDone => cases hc
  | writeback => cases hc
  | invalidate => exact next_rel e (State.clocked_kept hR h fun s h => cpbInvalidate_kept hR h)
  | wbInv => cases hc
  | zero => cases hc
  | preload => cases hc
  | cpbOpDone => exact next_rel e (cpbOpDone_kept hR h)
  | unlock => exact next_rel e (State.clocked_kept hR h fun s h => cpbUnlock_kept hR h)
  | scratchCountWrite => cases hc
  | scratchFillDone => exact next_rel e (hR.set h)
  | sramEccError => exact next_rel e (sramEccError_kept hR h)
  | mbxRequestWrite => exact next_rel e (State.clocked_kept hR h fun s h => mbxRequestWrite_kept hR h)
  | mbxResultWrite => exact next_rel e (State.clocked_kept hR h fun s h => mbxResultWrite_kept hR h)
  | post => exact next_rel e (State.clocked_kept hR h fun s h => post_kept hR h)
  | take => exact next_rel e (State.clocked_kept hR h fun s h => take_kept hR h)
  | cancel => exact next_rel e (State.clocked_kept hR h fun s h => cancel_kept hR h)
  | complete => exact next_rel e (State.clocked_kept hR h fun s h => complete_kept hR h)
  | mbxAck => exact next_rel e (State.clocked_kept hR h fun s h => mbxAck_kept hR h)
  | resultHeaderRead => exact next_rel e (State.clocked_kept hR h fun s h => resultHeaderRead_kept hR h)
  | mbxCfgWrite => exact next_rel e (State.clocked_kept hR h fun s h => mbxCfgWrite_kept hR h)
  | sealTake => exact next_rel e (State.clocked_kept hR h fun s h => sealTake_kept hR h)
  | sealRelease => exact next_rel e (State.clocked_kept hR h fun s h => sealRelease_kept hR h)
  | clearBroken => exact next_rel e (State.clocked_kept hR h fun s h => clearBroken_kept hR h)
  | perstAssert => exact next_rel e (resetOrHold_kept hR h fun s h => perst_kept hR h)
  | perstRelease => exact next_rel e (perstRelease_kept hR h)
  | cfgReadyWrite => exact next_rel e (State.clocked_kept hR h fun s h => hR.set h)
  | ccEnSet => exact next_rel e (State.clocked_kept hR h fun s h => ccEnSet_kept hR h)
  | ccEnClear => exact next_rel e (State.clocked_kept hR h fun s h => resetOrHold_kept hR h fun s h => ccEnFall_kept hR h)
  | flr => exact next_rel e (resetOrHold_kept hR h fun s h => fnReset_kept hR h)
  | shnNormal => exact next_rel e (State.clocked_kept hR h fun s h => shnNormal_kept hR h)
  | shnAbrupt => exact next_rel e (State.clocked_kept hR h fun s h => shnAbrupt_kept hR h)
  | doorbell => exact next_rel e (State.clocked_kept hR h fun s h => doorbell_kept hR h)
  | admitNext => exact next_rel e (admitNext_kept hR h)
  | rangeLockRelease => exact next_rel e (rangeLockRelease_kept hR h)
  | readCmd => exact next_rel e (readCmd_kept hR h)
  | writeCmd => cases hc
  | flush => exact next_rel e (flush_kept hR h)
  | writeZeroes => cases hc
  | deallocate => cases hc
  | compare => exact next_rel e (compare_kept hR h)
  | identify => exact next_rel e (identify_kept hR h)
  | getLogPage => exact next_rel e (getLogPage_kept hR h)
  | getFeatures => exact next_rel e (getFeatures_kept hR h)
  | setFeatures => exact next_rel e (setFeatures_kept hR h)
  | createIoQueue => exact next_rel e (createIoQueue_kept hR h)
  | deleteIoQueue => exact next_rel e (deleteIoQueue_kept hR h)
  | abortCmd => exact next_rel e (abortCmd_kept hR h)
  | asyncEventRequest => exact next_rel e (asyncEventRequest_kept hR h)
  | namespaceManagement => cases hc
  | namespaceAttachment => exact next_rel e (namespaceAttachment_kept hR h)
  | formatNvm => cases hc
  | sanitize => cases hc
  | firmwareImageDownload => exact next_rel e (firmwareImageDownload_kept hR h)
  | firmwareCommit => cases hc
  | securitySend => exact next_rel e (securitySend_kept hR h)
  | securityReceive => exact next_rel e (securityReceive_kept hR h)
  | invalidOpcode => exact next_rel e (invalidOpcode_kept hR h)
  | powerStateChange => cases hc
  | apstDue => exact next_rel e (apstDue_kept hR h)
  | autonomousExit => cases hc
  | qpSplitWrite => exact next_rel e (State.clocked_kept hR h fun s h => qpSplitWrite_kept hR h)
  | lookup => cases hc
  | ldgSwap => cases hc
  | commitApply => cases hc
  | bind => cases hc
  | slowLookupResolve => exact next_rel e (slowLookupResolve_kept hR h)
  | vrsOutWrite => cases hc
  | heartbeat => exact next_rel e (heartbeat_kept hR h)
  | versoLinkFail => exact next_rel e (versoLinkFail_kept hR h)
  | versoLinkUp => exact next_rel e (versoLinkUp_kept hR h)
  | writeData => cases hc
  | dataAck => exact next_rel e (dataAck_kept hR h)
  | sealMsg => exact next_rel e (sealMsg_kept hR h)
  | firmwareMsg => cases hc
  | gcmFail => exact next_rel e (gcmFail_kept hR h)
  | giveUp => cases hc
  | takeover => cases hc
  | stale => cases hc
  | health => exact next_rel e (health_kept hR h)
  | degClr => exact next_rel e (State.clocked_kept hR h fun s h => degClr_kept hR h)
  | diagClear => exact next_rel e (State.clocked_kept hR h fun s h => diagClear_kept hR h)
  | nodeWrite => exact next_rel e (State.clocked_kept hR h fun s h => nodeWrite_kept hR h)
  | generate => cases hc
  | unwrap => cases hc
  | wrap => cases hc
  | clear => cases hc
  | loadDomain => cases hc
  | loadPair => cases hc
  | keyDone => cases hc
  | zeroise => cases hc
  | selftest => exact next_rel e (State.clocked_kept hR h fun s h => selftest_kept hR h)
  | selftestDone => cases hc
  | reseed => exact next_rel e (State.clocked_kept hR h fun s h => reseed_kept hR h)
  | entFail => cases hc
  | katDone => cases hc
  | secError => cases hc
  | open1 => exact next_rel e (open1_kept hR h)
  | open2 => exact next_rel e (open2_kept hR h)
  | sessionRequest => exact next_rel e (sessionRequest_kept hR h)
  | close => exact next_rel e (closeSession_kept hR h)
  | sessionExpiry => exact next_rel e (closeSession_kept hR h)
  | debugUnlock => cases hc
  | resetNAssert => exact next_rel e (resetAssert_kept hR h)
  | resetNRelease => exact next_rel e (resetRelease_kept hR h)
  | fuseLoadDone => exact next_rel e (fuseLoadDone_kept hR h)
  | bistDone => exact next_rel e (bistDone_kept hR h)
  | trainingDone => exact next_rel e (trainingDone_kept hR h)
  | imageCheck => cases hc
  | release => exact next_rel e (State.clocked_kept hR h fun s h => release_kept hR h)
  | kick => exact next_rel e (State.clocked_kept hR h fun s h => kick_kept hR h)
  | wdtTimeoutWrite => exact next_rel e (State.clocked_kept hR h fun s h => wdtTimeoutWrite_kept hR h)
  | wdtWarn => exact next_rel e (wdtWarn_kept hR h)
  | wdtReset => cases hc
  | scribeReset => exact next_rel e (State.clocked_kept hR h fun s h => scribeResets_kept hR h)
  | chipReset => exact next_rel e (State.clocked_kept hR h fun s h => chipResetWrite_kept hR h)
  | clkLoss => exact next_rel e (clkLoss_kept hR h)
  | sensorSample => exact next_rel e (sensorSample_kept hR h)
  | powerManagerUpdate => exact next_rel e (powerManagerUpdate_kept hR h)
  | thermalTrip => cases hc
  | activationRollback => cases hc
  | calStart => exact next_rel e (State.clocked_kept hR h fun s h => calStart_kept hR h)
  | retrimAdcDone => exact next_rel e (retrimAdcDone_kept hR h)
  | retrimNoSlots => exact next_rel e (retrimNoSlots_kept hR h)
  | calAbort => exact next_rel e (State.clocked_kept hR h fun s h => calAbort_kept hR h)
  | calLoad => exact next_rel e (State.clocked_kept hR h fun s h => calLoad_kept hR h)
  | calRevert => exact next_rel e (State.clocked_kept hR h fun s h => calRevert_kept hR h)
  | tsOfsWrite => exact next_rel e (State.clocked_kept hR h fun s h => tsOfsWrite_kept hR h)
  | statusWindowRefresh => exact next_rel e (statusWindowRefresh_kept hR h)
  | selfRefreshEntered => cases hc
  | sledHomeEdge => exact next_rel e (homeEdge_kept hR h)
  | interpolatorMicrostep => exact next_rel e (microstep_kept hR h)
  | pcieConfigRequest => exact next_rel e (State.modFn_kept hR h)
  | pcieLinkUp => exact next_rel e (pcieLinkUp_kept hR h)
  | pcieLinkDown => exact next_rel e (pcieLinkDown_kept hR h)
  | scribeDebugHalt => exact next_rel e (scribeDebugHalt_kept hR h)
  | entropyRecovered => exact next_rel e (Kept.ite (State.modSec_kept hR (hR.set h)) h)

/-- Every command keeps what stores and changes of registers and hidden state keep. -/
theorem exec_kept (hR : KeptMem R) (h : R s0 s) (e : exec c s = .next t) : R s0 t := by
  by_cases hc : stores c = false
  · exact exec_kept_quiet hR.toKept hc h e
  · cases c with
    | registerWrite => exact next_rel e (registerWrite_kept hR h)
    | rulDisable => exact next_rel e (State.clocked_kept hR.toKept h fun s h => rulDisable_kept hR h)
    | rulJumpClear => exact next_rel e (State.clocked_kept hR.toKept h fun s h => rulJumpClear_kept hR h)
    | rulBandWrite => exact next_rel e (State.clocked_kept hR.toKept h fun s h => rulBandWrite_kept hR h)
    | acqTimeout => exact next_rel e (acqTimeout_kept hR h)
    | holdLimit => exact next_rel e (holdLimit_kept hR h)
    | rcCtrlWrite => exact next_rel e (State.clocked_kept hR.toKept h fun s h => channelsChanged_kept hR.toKept h fun s h => rcCtrlWrite_kept hR h)
    | cwFramed => exact next_rel e (cwFramed_kept hR h)
    | decodeDone => exact next_rel e (decodeDone_kept hR h)
    | spillCopyDone => exact next_rel e (spillCopyDone_kept hR h)
    | revisitStep => exact next_rel e (revisitStep_kept hR h)
    | parkWrite => exact next_rel e (State.clocked_kept hR.toKept h fun s h => parkWrite_kept hR h)
    | captureDone => exact next_rel e (captureDone_kept hR h)
    | descComplete => exact next_rel e (completeDesc_kept hR h)
    | calReadback => exact next_rel e (calReadback_kept hR h)
    | haltWrite => exact next_rel e (State.clocked_kept hR.toKept h fun s h => haltWrite_kept hR h)
    | wcDisable => exact next_rel e (State.clocked_kept hR.toKept h fun s h => wcDisable_kept hR h)
    | lockstepFault => exact next_rel e (lockstepFault_kept hR h)
    | lkEnableWrite => exact next_rel e (State.clocked_kept hR.toKept h fun s h => lkEnableWrite_kept hR h)
    | retrain => exact next_rel e (State.clocked_kept hR.toKept h fun s h => retrain_kept hR h)
    | deskewSuspendExpiry => exact next_rel e (suspendExpiry_kept hR h)
    | penStatus => exact next_rel e (penStatus_kept hR h)
    | claimStatus => exact next_rel e (claimStatus_kept hR h)
    | laneLost => exact next_rel e (laneLost_kept hR h)
    | linkDown => exact next_rel e (linkLoss_kept hR h)
    | inkGrant => exact next_rel e (tellDiagnosis_kept hR (inkGrant_kept hR h))
    | eccWriteback => exact next_rel e (writeBack_kept hR h)
    | ueWindow => exact next_rel e (ueWindow_kept hR h)
    | fillDone => exact next_rel e (fillDone_kept hR h)
    | scrubRead => exact next_rel e (tellDiagnosis_kept hR (scrubRead_kept hR h))
    | eccTestStore => exact next_rel e (State.clocked_kept hR.toKept h fun s h => eccTestStore_kept hR h)
    | scribeLoad => exact next_rel e (tellDiagnosis_kept hR (scribeLoad_kept hR h))
    | scribeStore => exact next_rel e (tellDiagnosis_kept hR (scribeStore_kept hR h))
    | scribeFetch => exact next_rel e (tellDiagnosis_kept hR (scribeFetch_kept hR h))
    | scribeAmo => exact next_rel e (tellDiagnosis_kept hR (scribeAmo_kept hR h))
    | victimWritebackDone => exact next_rel e (victimDone_kept hR h)
    | writeback => exact next_rel e (State.clocked_kept hR.toKept h fun s h => cpbWriteback_kept hR h)
    | wbInv => exact next_rel e (State.clocked_kept hR.toKept h fun s h => cpbWbInv_kept hR h)
    | zero => exact next_rel e (State.clocked_kept hR.toKept h fun s h => cpbZero_kept hR h)
    | preload => exact next_rel e (State.clocked_kept hR.toKept h fun s h => tellDiagnosis_kept hR (cpbPreload_kept hR h))
    | scratchCountWrite => exact next_rel e (State.clocked_kept hR.toKept h fun s h => scratchCountWrite_kept hR h)
    | writeCmd => exact next_rel e (writeCmd_kept hR h)
    | writeZeroes => exact next_rel e (writeZeroes_kept hR h)
    | deallocate => exact next_rel e (deallocate_kept hR h)
    | namespaceManagement => exact next_rel e (namespaceManagement_kept hR h)
    | formatNvm => exact next_rel e (formatNvm_kept hR h)
    | sanitize => exact next_rel e (sanitize_kept hR h)
    | firmwareCommit => exact next_rel e (firmwareCommit_kept hR h)
    | powerStateChange => exact next_rel e (powerStateChange_kept hR h)
    | autonomousExit => exact next_rel e (autonomousExit_kept hR h)
    | lookup => exact next_rel e (tellDiagnosis_kept hR (lookup_kept hR h))
    | ldgSwap => exact next_rel e (State.clocked_kept hR.toKept h fun s h => ldgSwap_kept hR h)
    | commitApply => exact next_rel e (commitApply_kept hR h)
    | bind => exact next_rel e (bindStep_kept hR h)
    | vrsOutWrite => exact next_rel e (State.clocked_kept hR.toKept h fun s h => vrsOutWrite_kept hR h)
    | writeData => exact next_rel e (writeData_kept hR h)
    | firmwareMsg => exact next_rel e (firmwareMsg_kept hR h)
    | giveUp => exact next_rel e (State.clocked_kept hR.toKept h fun s h => giveUp_kept hR h)
    | takeover => exact next_rel e (takeover_kept hR h)
    | stale => exact next_rel e (stale_kept hR h)
    | generate => exact next_rel e (State.clocked_kept hR.toKept h fun s h => keyStart_kept hR h)
    | unwrap => exact next_rel e (State.clocked_kept hR.toKept h fun s h => keyStart_kept hR h)
    | wrap => exact next_rel e (State.clocked_kept hR.toKept h fun s h => keyStart_kept hR h)
    | clear => exact next_rel e (State.clocked_kept hR.toKept h fun s h => keyStart_kept hR h)
    | loadDomain => exact next_rel e (State.clocked_kept hR.toKept h fun s h => keyStart_kept hR h)
    | loadPair => exact next_rel e (State.clocked_kept hR.toKept h fun s h => keyStart_kept hR h)
    | keyDone => exact next_rel e (keyDone_kept hR h)
    | zeroise => exact next_rel e (State.clocked_kept hR.toKept h fun s h => zeroise_kept hR h)
    | selftestDone => exact next_rel e (selftestDone_kept hR h)
    | entFail => exact next_rel e (entFail_kept hR h)
    | katDone => exact next_rel e (katDone_kept hR h)
    | secError => exact next_rel e (secError_kept hR h)
    | debugUnlock => exact next_rel e (debugUnlock_kept hR h)
    | imageCheck => exact next_rel e (imageCheck_kept hR h)
    | wdtReset => exact next_rel e (wdtReset_kept hR h)
    | thermalTrip => exact next_rel e (thermalTrip_kept hR h)
    | activationRollback => exact next_rel e (activationRollback_kept hR h)
    | selfRefreshEntered => exact next_rel e (selfRefreshEntered_kept hR h)
    | _ => exact absurd rfl hc

end Sys2Proof.Machine
end

