-- ==== Sys2Proof/Laws/Store.lean ====
section
/-!
SUPPORT. What a sparse map answers after it has been changed, and that its operations keep its keys rising.
-/

namespace Sys2Proof.Machine

variable {α : Type}

@[simp] theorem Store.find?_nil (k : Nat) : Store.find? ([] : Store α) k = none := rfl

@[simp] theorem Store.find?_insert_same (m : Store α) (k : Nat) (v : α) : Store.find? (Store.insert m k v) k = some v := by
  induction m with
  | nil => simp [Store.insert, Store.find?]
  | cons e r ih =>
    obtain ⟨j, x⟩ := e
    simp only [Store.insert]
    split
    · simp [Store.find?]
    · split
      · simp [Store.find?]
      · rename_i h _
        simp [Store.find?, Ne.symm h, ih]

theorem Store.find?_insert_ne (m : Store α) {k j : Nat} (v : α) (h : j ≠ k) : Store.find? (Store.insert m k v) j = Store.find? m j := by
  induction m with
  | nil => simp [Store.insert, Store.find?, Ne.symm h]
  | cons e r ih =>
    obtain ⟨i, x⟩ := e
    simp only [Store.insert]
    split
    · rename_i hk
      subst hk
      simp [Store.find?, Ne.symm h]
    · split
      · simp [Store.find?, Ne.symm h]
      · simp only [Store.find?]
        split
        · rfl
        · exact ih

@[simp] theorem Store.find?_erase_same (m : Store α) (k : Nat) : Store.find? (Store.erase m k) k = none := by
  induction m with
  | nil => rfl
  | cons e r ih =>
    obtain ⟨j, x⟩ := e
    simp only [Store.erase, List.filter_cons] at ih ⊢
    split
    · rename_i h
      simp only [bne_iff_ne, ne_eq] at h
      simp only [Store.find?, if_neg h]
      exact ih
    · exact ih

theorem Store.find?_erase_ne (m : Store α) {k j : Nat} (h : j ≠ k) : Store.find? (Store.erase m k) j = Store.find? m j := by
  induction m with
  | nil => rfl
  | cons e r ih =>
    obtain ⟨i, x⟩ := e
    simp only [Store.erase, List.filter_cons] at ih ⊢
    split
    · simp only [Store.find?]
      split
      · rfl
      · exact ih
    · rename_i hk
      simp only [bne_iff_ne, ne_eq, not_not] at hk
      subst hk
      simp only [Store.find?, if_neg (Ne.symm h)]
      exact ih

/-- A value set is the value read. -/
@[simp] theorem Store.getD_set_same [DecidableEq α] (m : Store α) (k : Nat) (d v : α) : Store.getD (Store.set m k d v) k d = v := by
  unfold Store.set Store.getD
  split
  · rename_i h
    simp [h]
  · simp

/-- Setting one key leaves every other key's value. -/
theorem Store.getD_set_ne [DecidableEq α] (m : Store α) {k j : Nat} (d v e : α) (h : j ≠ k) :
    Store.getD (Store.set m k d v) j e = Store.getD m j e := by
  unfold Store.set Store.getD
  split
  · rw [Store.find?_erase_ne m h]
  · rw [Store.find?_insert_ne m v h]

theorem Store.sorted_tail {e : Nat × α} {r : Store α} (h : Store.sorted (e :: r) = true) : Store.sorted r = true := by
  cases r with
  | nil => rfl
  | cons f r =>
    obtain ⟨i, x⟩ := e
    obtain ⟨j, y⟩ := f
    simp only [Store.sorted, Bool.and_eq_true] at h
    exact h.2

/-- The keys after the head of a sorted map are larger than its key. -/
theorem Store.lt_of_sorted {i : Nat} {x : α} {r : Store α} (h : Store.sorted ((i, x) :: r) = true) : ∀ e ∈ r, i < e.1 := by
  induction r generalizing i x with
  | nil => simp
  | cons f r ih =>
    obtain ⟨j, y⟩ := f
    simp only [Store.sorted, Bool.and_eq_true, decide_eq_true_eq] at h
    intro e he
    rcases List.mem_cons.1 he with rfl | he
    · exact h.1
    · exact lt_trans h.1 (ih h.2 e he)

theorem Store.sorted_cons {i : Nat} {x : α} {r : Store α} (h : Store.sorted r = true) (hr : ∀ e ∈ r, i < e.1) :
    Store.sorted ((i, x) :: r) = true := by
  cases r with
  | nil => rfl
  | cons f r =>
    obtain ⟨j, y⟩ := f
    simp only [Store.sorted, Bool.and_eq_true, decide_eq_true_eq]
    exact ⟨hr (j, y) (List.mem_cons_self ..), h⟩

/-- Dropping entries keeps the keys rising. -/
theorem Store.sorted_filter (m : Store α) (p : Nat × α → Bool) (h : Store.sorted m = true) : Store.sorted (m.filter p) = true := by
  induction m with
  | nil => rfl
  | cons e r ih =>
    have hr := ih (Store.sorted_tail h)
    rw [List.filter_cons]
    split
    · obtain ⟨i, x⟩ := e
      exact Store.sorted_cons hr fun f hf => Store.lt_of_sorted h f (List.mem_of_mem_filter hf)
    · exact hr

theorem Store.sorted_erase (m : Store α) (k : Nat) (h : Store.sorted m = true) : Store.sorted (Store.erase m k) = true :=
  Store.sorted_filter m _ h

theorem Store.mem_insert {m : Store α} {k : Nat} {v : α} {e : Nat × α} (h : e ∈ Store.insert m k v) : e = (k, v) ∨ e ∈ m := by
  induction m with
  | nil => simpa [Store.insert] using h
  | cons f r ih =>
    obtain ⟨j, x⟩ := f
    simp only [Store.insert] at h
    split at h
    · rcases List.mem_cons.1 h with h | h
      · exact .inl h
      · exact .inr (List.mem_cons_of_mem _ h)
    · split at h
      · rcases List.mem_cons.1 h with h | h
        · exact .inl h
        · exact .inr h
      · rcases List.mem_cons.1 h with h | h
        · exact .inr (h ▸ List.mem_cons_self ..)
        · exact (ih h).imp id (List.mem_cons_of_mem _)

theorem Store.sorted_insert (m : Store α) (k : Nat) (v : α) (h : Store.sorted m = true) : Store.sorted (Store.insert m k v) = true := by
  induction m with
  | nil => rfl
  | cons f r ih =>
    obtain ⟨j, x⟩ := f
    have hj := Store.lt_of_sorted h
    simp only [Store.insert]
    split
    · rename_i hk
      subst hk
      exact Store.sorted_cons (Store.sorted_tail h) hj
    · split
      · rename_i hk
        exact Store.sorted_cons h fun e he => by
          rcases List.mem_cons.1 he with rfl | he
          · exact hk
          · exact lt_trans hk (hj e he)
      · rename_i h1 h2
        exact Store.sorted_cons (ih (Store.sorted_tail h)) fun e he => by
          rcases Store.mem_insert he with rfl | he
          · exact lt_of_le_of_ne (Nat.le_of_not_lt h2) (Ne.symm h1)
          · exact hj e he

/-- Setting a value keeps the keys rising. -/
theorem Store.sorted_set [DecidableEq α] (m : Store α) (k : Nat) (d v : α) (h : Store.sorted m = true) :
    Store.sorted (Store.set m k d v) = true := by
  unfold Store.set
  split
  · exact Store.sorted_erase m k h
  · exact Store.sorted_insert m k v h

/-- Setting a value lists no default, if none was listed. -/
theorem Store.mem_set_ne [DecidableEq α] {m : Store α} {k : Nat} {d v : α} (h : ∀ e ∈ m, e.2 ≠ d) : ∀ e ∈ Store.set m k d v, e.2 ≠ d := by
  unfold Store.set
  split
  · intro e he
    exact h e (List.mem_of_mem_filter he)
  · rename_i hv
    intro e he
    rcases Store.mem_insert he with rfl | he
    · exact hv
    · exact h e he

end Sys2Proof.Machine
end

