-- ==== Sys2Proof/Laws/State.lean ====
section
/-!
SUPPORT. What each field of the state reads after each update.
-/

namespace Sys2Proof.Machine

/-! ### Register fields -/

/-- A field holds what was last set, cut to its width. -/
@[simp] theorem State.get_set (s : State) (f : Fld) (v : Nat) : (s.set f v).get f = v % 2 ^ f.width := by
  simp [State.get, State.set]

/-- Setting a field leaves every field of another key. -/
theorem State.get_set_ne (s : State) {f g : Fld} (v : Nat) (h : g.key ≠ f.key) : (s.set f v).get g = s.get g := by
  simp only [State.get, State.set]
  rw [Store.getD_set_ne s.fld f.rst _ g.rst h]

/-- A field reads a value of its width, in every state. -/
theorem State.get_lt (s : State) (f : Fld) : s.get f < 2 ^ f.width := Nat.mod_lt _ (Nat.two_pow_pos _)

/-- An event bit reads 1 once recorded. -/
theorem State.get_ev (s : State) (f : Fld) (h : 0 < f.width) : (s.ev f).get f = 1 := by
  rw [State.ev, State.get_set]
  exact Nat.mod_eq_of_lt (Nat.one_lt_two_pow h.ne')

/-- A saturating counter counts up to its largest value and stays there. -/
theorem State.get_bump (s : State) (f : Fld) (k : Nat) : (s.bump f k).get f = min (s.get f + k) (2 ^ f.width - 1) := by
  rw [State.bump, State.get_set]
  exact Nat.mod_eq_of_lt (lt_of_le_of_lt (min_le_right ..) (Nat.sub_lt (Nat.two_pow_pos _) one_pos))

/-- A wrapping counter counts modulo its range. -/
theorem State.get_wrap (s : State) (f : Fld) (k : Nat) : (s.wrap f k).get f = (s.get f + k) % 2 ^ f.width := by
  rw [State.wrap, State.get_set]

theorem State.get_ev_ne (s : State) {f g : Fld} (h : g.key ≠ f.key) : (s.ev f).get g = s.get g := s.get_set_ne 1 h

theorem State.get_bump_ne (s : State) {f g : Fld} (k : Nat) (h : g.key ≠ f.key) : (s.bump f k).get g = s.get g := s.get_set_ne _ h

theorem State.get_wrap_ne (s : State) {f g : Fld} (k : Nat) (h : g.key ≠ f.key) : (s.wrap f k).get g = s.get g := s.get_set_ne _ h

theorem State.iff_true (s : State) (k : State → State) : s.iff true k = k s := (rfl)

theorem State.iff_false (s : State) (k : State → State) : s.iff false k = s := (rfl)

theorem State.each_nil {α : Type} (s : State) (k : State → α → State) : s.each [] k = s := (rfl)

theorem State.each_cons {α : Type} (s : State) (a : α) (l : List α) (k : State → α → State) : s.each (a :: l) k = (k s a).each l k := (rfl)

/-! ### What setting a field leaves -/

@[simp] theorem State.set_pending (s : State) (f : Fld) (v : Nat) : (s.set f v).pending = s.pending := (rfl)
@[simp] theorem State.set_shadow (s : State) (f : Fld) (v : Nat) : (s.set f v).shadow = s.shadow := (rfl)
@[simp] theorem State.set_captured (s : State) (f : Fld) (v : Nat) : (s.set f v).captured = s.captured := (rfl)
@[simp] theorem State.set_mem (s : State) (f : Fld) (v : Nat) : (s.set f v).mem = s.mem := (rfl)
@[simp] theorem State.set_poison (s : State) (f : Fld) (v : Nat) : (s.set f v).poison = s.poison := (rfl)
@[simp] theorem State.set_freeCtr (s : State) (f : Fld) (v : Nat) : (s.set f v).freeCtr = s.freeCtr := (rfl)
@[simp] theorem State.set_running (s : State) (f : Fld) (v : Nat) : (s.set f v).running = s.running := (rfl)
@[simp] theorem State.set_rul (s : State) (f : Fld) (v : Nat) : (s.set f v).rul = s.rul := (rfl)
@[simp] theorem State.set_nibs (s : State) (f : Fld) (v : Nat) : (s.set f v).nibs = s.nibs := (rfl)
@[simp] theorem State.set_ldpc (s : State) (f : Fld) (v : Nat) : (s.set f v).ldpc = s.ldpc := (rfl)
@[simp] theorem State.set_wc (s : State) (f : Fld) (v : Nat) : (s.set f v).wc = s.wc := (rfl)
@[simp] theorem State.set_readPower (s : State) (f : Fld) (v : Nat) : (s.set f v).readPower = s.readPower := (rfl)
@[simp] theorem State.set_links (s : State) (f : Fld) (v : Nat) : (s.set f v).links = s.links := (rfl)
@[simp] theorem State.set_engines (s : State) (f : Fld) (v : Nat) : (s.set f v).engines = s.engines := (rfl)
@[simp] theorem State.set_sups (s : State) (f : Fld) (v : Nat) : (s.set f v).sups = s.sups := (rfl)
@[simp] theorem State.set_spindles (s : State) (f : Fld) (v : Nat) : (s.set f v).spindles = s.spindles := (rfl)
@[simp] theorem State.set_motorBuses (s : State) (f : Fld) (v : Nat) : (s.set f v).motorBuses = s.motorBuses := (rfl)
@[simp] theorem State.set_seqFrame (s : State) (f : Fld) (v : Nat) : (s.set f v).seqFrame = s.seqFrame := (rfl)
@[simp] theorem State.set_seqPos (s : State) (f : Fld) (v : Nat) : (s.set f v).seqPos = s.seqPos := (rfl)
@[simp] theorem State.set_sleds (s : State) (f : Fld) (v : Nat) : (s.set f v).sleds = s.sleds := (rfl)
@[simp] theorem State.set_stages (s : State) (f : Fld) (v : Nat) : (s.set f v).stages = s.stages := (rfl)
@[simp] theorem State.set_ducBuses (s : State) (f : Fld) (v : Nat) : (s.set f v).ducBuses = s.ducBuses := (rfl)
@[simp] theorem State.set_verso (s : State) (f : Fld) (v : Nat) : (s.set f v).verso = s.verso := (rfl)
@[simp] theorem State.set_ink (s : State) (f : Fld) (v : Nat) : (s.set f v).ink = s.ink := (rfl)
@[simp] theorem State.set_cpb (s : State) (f : Fld) (v : Nat) : (s.set f v).cpb = s.cpb := (rfl)
@[simp] theorem State.set_scribes (s : State) (f : Fld) (v : Nat) : (s.set f v).scribes = s.scribes := (rfl)
@[simp] theorem State.set_locals (s : State) (f : Fld) (v : Nat) : (s.set f v).locals = s.locals := (rfl)
@[simp] theorem State.set_localBad (s : State) (f : Fld) (v : Nat) : (s.set f v).localBad = s.localBad := (rfl)
@[simp] theorem State.set_host (s : State) (f : Fld) (v : Nat) : (s.set f v).host = s.host := (rfl)
@[simp] theorem State.set_returned (s : State) (f : Fld) (v : Nat) : (s.set f v).returned = s.returned := (rfl)
@[simp] theorem State.set_ledger (s : State) (f : Fld) (v : Nat) : (s.set f v).ledger = s.ledger := (rfl)
@[simp] theorem State.set_hq (s : State) (f : Fld) (v : Nat) : (s.set f v).hq = s.hq := (rfl)
@[simp] theorem State.set_sec (s : State) (f : Fld) (v : Nat) : (s.set f v).sec = s.sec := (rfl)
@[simp] theorem State.set_flash (s : State) (f : Fld) (v : Nat) : (s.set f v).flash = s.flash := (rfl)
@[simp] theorem State.set_boot (s : State) (f : Fld) (v : Nat) : (s.set f v).boot = s.boot := (rfl)
@[simp] theorem State.set_thermal (s : State) (f : Fld) (v : Nat) : (s.set f v).thermal = s.thermal := (rfl)
@[simp] theorem State.set_calNext (s : State) (f : Fld) (v : Nat) : (s.set f v).calNext = s.calNext := (rfl)
@[simp] theorem State.set_calFailed (s : State) (f : Fld) (v : Nat) : (s.set f v).calFailed = s.calFailed := (rfl)
@[simp] theorem State.set_window (s : State) (f : Fld) (v : Nat) : (s.set f v).window = s.window := (rfl)
@[simp] theorem State.set_anaChange (s : State) (f : Fld) (v : Nat) : (s.set f v).anaChange = s.anaChange := (rfl)
@[simp] theorem State.set_gpioPins (s : State) (f : Fld) (v : Nat) : (s.set f v).gpioPins = s.gpioPins := (rfl)

/-! ### What a change of hidden state leaves: every register field, the memory, the queue -/

@[simp] theorem State.modSp_fld (s : State) (k : Nat) (f) : (s.modSp k f).fld = s.fld := (rfl)
@[simp] theorem State.modSp_mem (s : State) (k : Nat) (f) : (s.modSp k f).mem = s.mem := (rfl)
@[simp] theorem State.modSp_poison (s : State) (k : Nat) (f) : (s.modSp k f).poison = s.poison := (rfl)
@[simp] theorem State.modSp_pending (s : State) (k : Nat) (f) : (s.modSp k f).pending = s.pending := (rfl)
@[simp] theorem State.modSp_get (s : State) (k : Nat) (f) (g : Fld) : (s.modSp k f).get g = s.get g := (rfl)
@[simp] theorem State.modBus_fld (s : State) (b : Nat) (f) : (s.modBus b f).fld = s.fld := (rfl)
@[simp] theorem State.modBus_mem (s : State) (b : Nat) (f) : (s.modBus b f).mem = s.mem := (rfl)
@[simp] theorem State.modBus_poison (s : State) (b : Nat) (f) : (s.modBus b f).poison = s.poison := (rfl)
@[simp] theorem State.modBus_pending (s : State) (b : Nat) (f) : (s.modBus b f).pending = s.pending := (rfl)
@[simp] theorem State.modBus_get (s : State) (b : Nat) (f) (g : Fld) : (s.modBus b f).get g = s.get g := (rfl)
@[simp] theorem State.modFn_fld (s : State) (f : Nat) (k) : (s.modFn f k).fld = s.fld := (rfl)
@[simp] theorem State.modFn_mem (s : State) (f : Nat) (k) : (s.modFn f k).mem = s.mem := (rfl)
@[simp] theorem State.modFn_poison (s : State) (f : Nat) (k) : (s.modFn f k).poison = s.poison := (rfl)
@[simp] theorem State.modFn_pending (s : State) (f : Nat) (k) : (s.modFn f k).pending = s.pending := (rfl)
@[simp] theorem State.modFn_get (s : State) (f : Nat) (k) (g : Fld) : (s.modFn f k).get g = s.get g := (rfl)
@[simp] theorem State.modHq_fld (s : State) (f) : (s.modHq f).fld = s.fld := (rfl)
@[simp] theorem State.modHq_mem (s : State) (f) : (s.modHq f).mem = s.mem := (rfl)
@[simp] theorem State.modHq_poison (s : State) (f) : (s.modHq f).poison = s.poison := (rfl)
@[simp] theorem State.modHq_pending (s : State) (f) : (s.modHq f).pending = s.pending := (rfl)
@[simp] theorem State.modHq_get (s : State) (f) (g : Fld) : (s.modHq f).get g = s.get g := (rfl)
@[simp] theorem State.modSec_fld (s : State) (f) : (s.modSec f).fld = s.fld := (rfl)
@[simp] theorem State.modSec_mem (s : State) (f) : (s.modSec f).mem = s.mem := (rfl)
@[simp] theorem State.modSec_poison (s : State) (f) : (s.modSec f).poison = s.poison := (rfl)
@[simp] theorem State.modSec_pending (s : State) (f) : (s.modSec f).pending = s.pending := (rfl)
@[simp] theorem State.modSec_get (s : State) (f) (g : Fld) : (s.modSec f).get g = s.get g := (rfl)
@[simp] theorem State.modLdpc_fld (s : State) (f) : (s.modLdpc f).fld = s.fld := (rfl)
@[simp] theorem State.modLdpc_mem (s : State) (f) : (s.modLdpc f).mem = s.mem := (rfl)
@[simp] theorem State.modLdpc_poison (s : State) (f) : (s.modLdpc f).poison = s.poison := (rfl)
@[simp] theorem State.modLdpc_pending (s : State) (f) : (s.modLdpc f).pending = s.pending := (rfl)
@[simp] theorem State.modLdpc_get (s : State) (f) (g : Fld) : (s.modLdpc f).get g = s.get g := (rfl)
@[simp] theorem State.modVerso_fld (s : State) (f) : (s.modVerso f).fld = s.fld := (rfl)
@[simp] theorem State.modVerso_mem (s : State) (f) : (s.modVerso f).mem = s.mem := (rfl)
@[simp] theorem State.modVerso_poison (s : State) (f) : (s.modVerso f).poison = s.poison := (rfl)
@[simp] theorem State.modVerso_pending (s : State) (f) : (s.modVerso f).pending = s.pending := (rfl)
@[simp] theorem State.modVerso_get (s : State) (f) (g : Fld) : (s.modVerso f).get g = s.get g := (rfl)
@[simp] theorem State.modTh_fld (s : State) (f) : (s.modTh f).fld = s.fld := (rfl)
@[simp] theorem State.modTh_mem (s : State) (f) : (s.modTh f).mem = s.mem := (rfl)
@[simp] theorem State.modTh_poison (s : State) (f) : (s.modTh f).poison = s.poison := (rfl)
@[simp] theorem State.modTh_pending (s : State) (f) : (s.modTh f).pending = s.pending := (rfl)
@[simp] theorem State.modTh_get (s : State) (f) (g : Fld) : (s.modTh f).get g = s.get g := (rfl)
@[simp] theorem State.modCpb_fld (s : State) (f) : (s.modCpb f).fld = s.fld := (rfl)
@[simp] theorem State.modCpb_mem (s : State) (f) : (s.modCpb f).mem = s.mem := (rfl)
@[simp] theorem State.modCpb_poison (s : State) (f) : (s.modCpb f).poison = s.poison := (rfl)
@[simp] theorem State.modCpb_pending (s : State) (f) : (s.modCpb f).pending = s.pending := (rfl)
@[simp] theorem State.modCpb_get (s : State) (f) (g : Fld) : (s.modCpb f).get g = s.get g := (rfl)
@[simp] theorem State.modScribe_fld (s : State) (q : Nat) (f) : (s.modScribe q f).fld = s.fld := (rfl)
@[simp] theorem State.modScribe_mem (s : State) (q : Nat) (f) : (s.modScribe q f).mem = s.mem := (rfl)
@[simp] theorem State.modScribe_poison (s : State) (q : Nat) (f) : (s.modScribe q f).poison = s.poison := (rfl)
@[simp] theorem State.modScribe_pending (s : State) (q : Nat) (f) : (s.modScribe q f).pending = s.pending := (rfl)
@[simp] theorem State.modScribe_get (s : State) (q : Nat) (f) (g : Fld) : (s.modScribe q f).get g = s.get g := (rfl)
@[simp] theorem State.modBoot_fld (s : State) (f) : (s.modBoot f).fld = s.fld := (rfl)
@[simp] theorem State.modBoot_mem (s : State) (f) : (s.modBoot f).mem = s.mem := (rfl)
@[simp] theorem State.modBoot_poison (s : State) (f) : (s.modBoot f).poison = s.poison := (rfl)
@[simp] theorem State.modBoot_pending (s : State) (f) : (s.modBoot f).pending = s.pending := (rfl)
@[simp] theorem State.modBoot_get (s : State) (f) (g : Fld) : (s.modBoot f).get g = s.get g := (rfl)
@[simp] theorem State.modRul_fld (s : State) (n : Nat) (f) : (s.modRul n f).fld = s.fld := (rfl)
@[simp] theorem State.modRul_mem (s : State) (n : Nat) (f) : (s.modRul n f).mem = s.mem := (rfl)
@[simp] theorem State.modRul_poison (s : State) (n : Nat) (f) : (s.modRul n f).poison = s.poison := (rfl)
@[simp] theorem State.modRul_pending (s : State) (n : Nat) (f) : (s.modRul n f).pending = s.pending := (rfl)
@[simp] theorem State.modRul_get (s : State) (n : Nat) (f) (g : Fld) : (s.modRul n f).get g = s.get g := (rfl)
@[simp] theorem State.modWc_fld (s : State) (n : Nat) (f) : (s.modWc n f).fld = s.fld := (rfl)
@[simp] theorem State.modWc_mem (s : State) (n : Nat) (f) : (s.modWc n f).mem = s.mem := (rfl)
@[simp] theorem State.modWc_poison (s : State) (n : Nat) (f) : (s.modWc n f).poison = s.poison := (rfl)
@[simp] theorem State.modWc_pending (s : State) (n : Nat) (f) : (s.modWc n f).pending = s.pending := (rfl)
@[simp] theorem State.modWc_get (s : State) (n : Nat) (f) (g : Fld) : (s.modWc n f).get g = s.get g := (rfl)
@[simp] theorem State.modEng_fld (s : State) (e : Nat) (f) : (s.modEng e f).fld = s.fld := (rfl)
@[simp] theorem State.modEng_mem (s : State) (e : Nat) (f) : (s.modEng e f).mem = s.mem := (rfl)
@[simp] theorem State.modEng_poison (s : State) (e : Nat) (f) : (s.modEng e f).poison = s.poison := (rfl)
@[simp] theorem State.modEng_pending (s : State) (e : Nat) (f) : (s.modEng e f).pending = s.pending := (rfl)
@[simp] theorem State.modEng_get (s : State) (e : Nat) (f) (g : Fld) : (s.modEng e f).get g = s.get g := (rfl)
@[simp] theorem State.modSup_fld (s : State) (n : Nat) (f) : (s.modSup n f).fld = s.fld := (rfl)
@[simp] theorem State.modSup_mem (s : State) (n : Nat) (f) : (s.modSup n f).mem = s.mem := (rfl)
@[simp] theorem State.modSup_poison (s : State) (n : Nat) (f) : (s.modSup n f).poison = s.poison := (rfl)
@[simp] theorem State.modSup_pending (s : State) (n : Nat) (f) : (s.modSup n f).pending = s.pending := (rfl)
@[simp] theorem State.modSup_get (s : State) (n : Nat) (f) (g : Fld) : (s.modSup n f).get g = s.get g := (rfl)
@[simp] theorem State.modLink_fld (s : State) (n : Nat) (f) : (s.modLink n f).fld = s.fld := (rfl)
@[simp] theorem State.modLink_mem (s : State) (n : Nat) (f) : (s.modLink n f).mem = s.mem := (rfl)
@[simp] theorem State.modLink_poison (s : State) (n : Nat) (f) : (s.modLink n f).poison = s.poison := (rfl)
@[simp] theorem State.modLink_pending (s : State) (n : Nat) (f) : (s.modLink n f).pending = s.pending := (rfl)
@[simp] theorem State.modLink_get (s : State) (n : Nat) (f) (g : Fld) : (s.modLink n f).get g = s.get g := (rfl)
@[simp] theorem State.modSled_fld (s : State) (n : Nat) (f) : (s.modSled n f).fld = s.fld := (rfl)
@[simp] theorem State.modSled_mem (s : State) (n : Nat) (f) : (s.modSled n f).mem = s.mem := (rfl)
@[simp] theorem State.modSled_poison (s : State) (n : Nat) (f) : (s.modSled n f).poison = s.poison := (rfl)
@[simp] theorem State.modSled_pending (s : State) (n : Nat) (f) : (s.modSled n f).pending = s.pending := (rfl)
@[simp] theorem State.modSled_get (s : State) (n : Nat) (f) (g : Fld) : (s.modSled n f).get g = s.get g := (rfl)
@[simp] theorem State.modStage_fld (s : State) (a : Nat) (f) : (s.modStage a f).fld = s.fld := (rfl)
@[simp] theorem State.modStage_mem (s : State) (a : Nat) (f) : (s.modStage a f).mem = s.mem := (rfl)
@[simp] theorem State.modStage_poison (s : State) (a : Nat) (f) : (s.modStage a f).poison = s.poison := (rfl)
@[simp] theorem State.modStage_pending (s : State) (a : Nat) (f) : (s.modStage a f).pending = s.pending := (rfl)
@[simp] theorem State.modStage_get (s : State) (a : Nat) (f) (g : Fld) : (s.modStage a f).get g = s.get g := (rfl)
@[simp] theorem State.modLdg_fld (s : State) (f) : (s.modLdg f).fld = s.fld := (rfl)
@[simp] theorem State.modLdg_mem (s : State) (f) : (s.modLdg f).mem = s.mem := (rfl)
@[simp] theorem State.modLdg_poison (s : State) (f) : (s.modLdg f).poison = s.poison := (rfl)
@[simp] theorem State.modLdg_pending (s : State) (f) : (s.modLdg f).pending = s.pending := (rfl)
@[simp] theorem State.modLdg_get (s : State) (f) (g : Fld) : (s.modLdg f).get g = s.get g := (rfl)

end Sys2Proof.Machine
end

