-- ==== Sys2Proof/Laws/Hidden.lean ====
section
/-!
SUPPORT. What the hidden state of one pen, port, spindle, sled, stage, function or Scribe is after a change of it, and that another's is as
it was.
-/

namespace Sys2Proof.Machine

/-- What every change of a loop keeps, the loop keeps. -/
theorem State.each_keeps {α β : Type} (π : State → β) (s : State) (l : List α) (k : State → α → State) (h : ∀ s, ∀ a ∈ l, π (k s a) = π s) :
    π (s.each l k) = π s := by
  induction l generalizing s with
  | nil => rfl
  | cons a l ih =>
    rw [State.each_cons, ih _ fun s b hb => h s b (List.mem_cons_of_mem a hb)]
    exact h s a List.mem_cons_self

@[simp] theorem State.modNib_get (s : State) (n k : Nat) (f) (g : Fld) : (s.modNib n k f).get g = s.get g := (rfl)
@[simp] theorem State.modNib_mem (s : State) (n k : Nat) (f) : (s.modNib n k f).mem = s.mem := (rfl)
@[simp] theorem State.modNib_poison (s : State) (n k : Nat) (f) : (s.modNib n k f).poison = s.poison := (rfl)
@[simp] theorem State.modNib_pending (s : State) (n k : Nat) (f) : (s.modNib n k f).pending = s.pending := (rfl)
@[simp] theorem State.nib_modNib (s : State) (n k : Nat) (f) : (s.modNib n k f).nib n k = f (s.nib n k) := Store.getD_set_same ..
theorem State.nib_modNib_ne (s : State) {n k m j : Nat} (f) (h : 32 * m + j ≠ 32 * n + k) : (s.modNib n k f).nib m j = s.nib m j :=
  Store.getD_set_ne _ _ _ _ h
@[simp] theorem State.nib_set (s : State) (f : Fld) (v n k : Nat) : (s.set f v).nib n k = s.nib n k := (rfl)

@[simp] theorem State.ruling_modRul (s : State) (n : Nat) (f) : (s.modRul n f).ruling n = f (s.ruling n) := Store.getD_set_same ..
theorem State.ruling_modRul_ne (s : State) {n m : Nat} (f) (h : m ≠ n) : (s.modRul n f).ruling m = s.ruling m := Store.getD_set_ne _ _ _ _ h
@[simp] theorem State.ruling_set (s : State) (f : Fld) (v n : Nat) : (s.set f v).ruling n = s.ruling n := (rfl)

@[simp] theorem State.writeCh_modWc (s : State) (n : Nat) (f) : (s.modWc n f).writeCh n = f (s.writeCh n) := Store.getD_set_same ..
theorem State.writeCh_modWc_ne (s : State) {n m : Nat} (f) (h : m ≠ n) : (s.modWc n f).writeCh m = s.writeCh m := Store.getD_set_ne _ _ _ _ h
@[simp] theorem State.writeCh_set (s : State) (f : Fld) (v n : Nat) : (s.set f v).writeCh n = s.writeCh n := (rfl)

@[simp] theorem State.engine_modEng (s : State) (n : Nat) (f) : (s.modEng n f).engine n = f (s.engine n) := Store.getD_set_same ..
theorem State.engine_modEng_ne (s : State) {n m : Nat} (f) (h : m ≠ n) : (s.modEng n f).engine m = s.engine m := Store.getD_set_ne _ _ _ _ h
@[simp] theorem State.engine_set (s : State) (f : Fld) (v n : Nat) : (s.set f v).engine n = s.engine n := (rfl)

@[simp] theorem State.sup_modSup (s : State) (n : Nat) (f) : (s.modSup n f).sup n = f (s.sup n) := Store.getD_set_same ..
theorem State.sup_modSup_ne (s : State) {n m : Nat} (f) (h : m ≠ n) : (s.modSup n f).sup m = s.sup m := Store.getD_set_ne _ _ _ _ h
@[simp] theorem State.sup_set (s : State) (f : Fld) (v n : Nat) : (s.set f v).sup n = s.sup n := (rfl)

@[simp] theorem State.link_modLink (s : State) (n : Nat) (f) : (s.modLink n f).link n = f (s.link n) := Store.getD_set_same ..
theorem State.link_modLink_ne (s : State) {n m : Nat} (f) (h : m ≠ n) : (s.modLink n f).link m = s.link m := Store.getD_set_ne _ _ _ _ h
@[simp] theorem State.link_set (s : State) (f : Fld) (v n : Nat) : (s.set f v).link n = s.link n := (rfl)

@[simp] theorem State.spindle_modSp (s : State) (n : Nat) (f) : (s.modSp n f).spindle n = f (s.spindle n) := Store.getD_set_same ..
theorem State.spindle_modSp_ne (s : State) {n m : Nat} (f) (h : m ≠ n) : (s.modSp n f).spindle m = s.spindle m := Store.getD_set_ne _ _ _ _ h
@[simp] theorem State.spindle_set (s : State) (f : Fld) (v n : Nat) : (s.set f v).spindle n = s.spindle n := (rfl)

@[simp] theorem State.motorBus_modBus (s : State) (n : Nat) (f) : (s.modBus n f).motorBus n = f (s.motorBus n) := Store.getD_set_same ..
theorem State.motorBus_modBus_ne (s : State) {n m : Nat} (f) (h : m ≠ n) : (s.modBus n f).motorBus m = s.motorBus m := Store.getD_set_ne _ _ _ _ h
@[simp] theorem State.motorBus_set (s : State) (f : Fld) (v n : Nat) : (s.set f v).motorBus n = s.motorBus n := (rfl)

@[simp] theorem State.sled_modSled (s : State) (n : Nat) (f) : (s.modSled n f).sled n = f (s.sled n) := Store.getD_set_same ..
theorem State.sled_modSled_ne (s : State) {n m : Nat} (f) (h : m ≠ n) : (s.modSled n f).sled m = s.sled m := Store.getD_set_ne _ _ _ _ h
@[simp] theorem State.sled_set (s : State) (f : Fld) (v n : Nat) : (s.set f v).sled n = s.sled n := (rfl)

@[simp] theorem State.stage_modStage (s : State) (n : Nat) (f) : (s.modStage n f).stage n = f (s.stage n) := Store.getD_set_same ..
theorem State.stage_modStage_ne (s : State) {n m : Nat} (f) (h : m ≠ n) : (s.modStage n f).stage m = s.stage m := Store.getD_set_ne _ _ _ _ h
@[simp] theorem State.stage_set (s : State) (f : Fld) (v n : Nat) : (s.set f v).stage n = s.stage n := (rfl)

@[simp] theorem State.fn_modFn (s : State) (n : Nat) (f) : (s.modFn n f).fn n = f (s.fn n) := Store.getD_set_same ..
theorem State.fn_modFn_ne (s : State) {n m : Nat} (f) (h : m ≠ n) : (s.modFn n f).fn m = s.fn m := Store.getD_set_ne _ _ _ _ h
@[simp] theorem State.fn_set (s : State) (f : Fld) (v n : Nat) : (s.set f v).fn n = s.fn n := (rfl)

@[simp] theorem State.scribe_modScribe (s : State) (n : Nat) (f) : (s.modScribe n f).scribe n = f (s.scribe n) := Store.getD_set_same ..
theorem State.scribe_modScribe_ne (s : State) {n m : Nat} (f) (h : m ≠ n) : (s.modScribe n f).scribe m = s.scribe m := Store.getD_set_ne _ _ _ _ h
@[simp] theorem State.scribe_set (s : State) (f : Fld) (v n : Nat) : (s.set f v).scribe n = s.scribe n := (rfl)

end Sys2Proof.Machine
end

