-- ==== Sys2Proof/Laws/Memory.lean ====
section
/-!
SUPPORT. Reads of the Inkwell after a store, and that every operation over it keeps the canonical form of the memory and of the poison
marks.
-/

namespace Sys2Proof.Machine

/-! ### Bytes -/

/-- A byte stored is the byte read. -/
@[simp] theorem State.byte_putByte (s : State) (a : Nat) (b : BitVec 8) : (s.putByte a b).byte a = b := by
  simp [State.byte, State.putByte]

/-- A store of one byte leaves every other byte. -/
theorem State.byte_putByte_ne (s : State) {a c : Nat} (b : BitVec 8) (h : c ≠ a) : (s.putByte a b).byte c = s.byte c := by
  simp only [State.byte, State.putByte]
  exact Store.getD_set_ne s.mem unlistedByte b unlistedByte h

/-- A store of bytes at rising addresses leaves every byte outside them. -/
theorem State.byte_putBytes_ne (s : State) (a : Nat) (l : List (BitVec 8)) {c : Nat} (h : c < a ∨ a + l.length ≤ c) :
    (s.putBytes a l).byte c = s.byte c := by
  induction l generalizing s a with
  | nil => rfl
  | cons b l ih =>
    have h1 : c < a + 1 ∨ a + 1 + l.length ≤ c := by
      simp only [List.length_cons] at h
      omega
    have h2 : c ≠ a := by
      simp only [List.length_cons] at h
      omega
    exact (ih (s.putByte a b) (a + 1) h1).trans (s.byte_putByte_ne b h2)

/-- Bytes stored at rising addresses are the bytes read. -/
theorem State.byte_putBytes (s : State) (a : Nat) (l : List (BitVec 8)) (i : Nat) (h : i < l.length) :
    (s.putBytes a l).byte (a + i) = l[i] := by
  induction l generalizing s a i with
  | nil => exact absurd h (Nat.not_lt_zero i)
  | cons b l ih =>
    cases i with
    | zero =>
      have q := (s.putByte a b).byte_putBytes_ne (a + 1) l (c := a) (Or.inl (Nat.lt_succ_self a))
      rw [Nat.add_zero]
      exact q.trans (s.byte_putByte a b)
    | succ i =>
      have q := ih (s.putByte a b) (a + 1) i (Nat.lt_of_succ_lt_succ h)
      rw [show a + (i + 1) = a + 1 + i by omega]
      exact q

/-- Values read depend on the bytes they are made of alone. -/
theorem State.le_congr {s t : State} (n a : Nat) (h : ∀ i, i < n → t.byte (a + i) = s.byte (a + i)) : t.le a n = s.le a n := by
  induction n generalizing a with
  | zero => rfl
  | succ n ih =>
    have q := ih (a + 1) fun i hi => (show a + (i + 1) = a + 1 + i by omega) ▸ h (i + 1) (by omega)
    have z : t.byte a = s.byte a := h 0 (by omega)
    simp only [State.le, q, z]

/-- Bytes read depend on themselves alone. -/
theorem State.bytesAt_congr {s t : State} (n a : Nat) (h : ∀ i, i < n → t.byte (a + i) = s.byte (a + i)) : t.bytesAt a n = s.bytesAt a n := by
  induction n generalizing a with
  | zero => rfl
  | succ n ih =>
    have q := ih (a + 1) fun i hi => (show a + (i + 1) = a + 1 + i by omega) ▸ h (i + 1) (by omega)
    have z : t.byte a = s.byte a := h 0 (by omega)
    simp only [State.bytesAt, q, z]

/-- The value of bytes stored is the value read. -/
theorem State.le_putBytes (s : State) (a : Nat) (l : List (BitVec 8)) (n k : Nat) (h : k + n = l.length) :
    (s.putBytes a l).le (a + k) n = leVal (l.drop k) := by
  induction n generalizing k with
  | zero =>
    rw [List.drop_of_length_le (by omega)]
    rfl
  | succ n ih =>
    have q := ih (k + 1) (by omega)
    rw [List.drop_eq_getElem_cons (show k < l.length by omega)]
    simp only [State.le, leVal]
    rw [s.byte_putBytes a l k (by omega), show a + k + 1 = a + (k + 1) by omega, q]

/-- The n bytes of a value give it modulo 2^(8n). -/
theorem leVal_leBytes (n v : Nat) : leVal (leBytes n v) = v % 256 ^ n := by
  induction n generalizing v with
  | zero => simp [leVal, leBytes, Nat.mod_one]
  | succ n ih =>
    simp only [leVal, leBytes, ih]
    rw [Nat.pow_succ, Nat.mul_comm (256 ^ n) 256, Nat.mod_mul]
    rfl

/-- A store of bytes leaves the poison marks and the ledger. -/
theorem State.putBytes_poison_ledger (s : State) (a : Nat) (l : List (BitVec 8)) : (s.putBytes a l).poison = s.poison ∧ (s.putBytes a l).ledger = s.ledger := by
  induction l generalizing s a with
  | nil => exact ⟨rfl, rfl⟩
  | cons b l ih => exact ih (s.putByte a b) (a + 1)

/-! ### The CRC-64 -/

/-- A shift stays within 64 bits. -/
theorem crcShift_lt (r : Nat) (h : r < 2 ^ 64) : crcShift r < 2 ^ 64 := by
  unfold crcShift
  split
  · exact Nat.xor_lt_two_pow (by omega) (by decide)
  · omega

/-- A CRC-64 has 64 bits. -/
theorem crc64_lt (l : List (BitVec 8)) : crc64 l < 2 ^ 64 := by
  have step : ∀ (l : List (BitVec 8)) (r : Nat), r < 2 ^ 64 → l.foldl crcByte r < 2 ^ 64 := by
    intro l
    induction l with
    | nil => intro r h; exact h
    | cons b l ih =>
      intro r h
      refine ih _ ?_
      have q : r ^^^ b.toNat < 2 ^ 64 := Nat.xor_lt_two_pow h (by have := b.isLt; omega)
      exact crcShift_lt _ (crcShift_lt _ (crcShift_lt _ (crcShift_lt _ (crcShift_lt _ (crcShift_lt _ (crcShift_lt _ (crcShift_lt _ q)))))))
  exact Nat.xor_lt_two_pow (step l _ (by decide)) (by decide)

theorem State.set_byte (s : State) (f : Fld) (v a : Nat) : (s.set f v).byte a = s.byte a := rfl

/-! ### The canonical form -/

theorem Memory.wf_iff (m : List Host.Cell) : Memory.wf m = true ↔ Store.sorted m = true ∧ ∀ e ∈ m, e.2 ≠ unlistedByte := by
  simp [Memory.wf]

theorem Memory.wf_set (m : List Host.Cell) (a : Nat) (b : BitVec 8) (h : Memory.wf m = true) :
    Memory.wf (Store.set m a unlistedByte b) = true := by
  rw [Memory.wf_iff] at h ⊢
  exact ⟨Store.sorted_set m a unlistedByte b h.1, Store.mem_set_ne h.2⟩

theorem Memory.wf_filter (m : List Host.Cell) (p : Host.Cell → Bool) (h : Memory.wf m = true) : Memory.wf (m.filter p) = true := by
  rw [Memory.wf_iff] at h ⊢
  exact ⟨Store.sorted_filter m p h.1, fun e he => h.2 e (List.mem_of_mem_filter he)⟩

/-- Nothing is listed at reset: the form holds. -/
theorem reset_canonical : Canonical State.reset := ⟨rfl, rfl, fun _ h => absurd h (List.not_mem_nil), rfl⟩

/-- Every operation keeps the canonical form. -/
theorem canonical_kept : KeptMem fun s t => Canonical s → Canonical t where
  refl _ h := h
  rest k h := ⟨(k h).mem, (k h).marks, (k h).marked, (k h).fld⟩
  set k h := ⟨(k h).mem, (k h).marks, (k h).marked, Store.sorted_set _ _ _ _ (k h).fld⟩
  ctr k h := ⟨(k h).mem, (k h).marks, (k h).marked, (k h).fld⟩
  drop k h := ⟨(k h).mem, (k h).marks, (k h).marked, Store.sorted_filter _ _ (k h).fld⟩
  wipe k h := ⟨(k h).mem, (k h).marks, (k h).marked, rfl⟩
  byte k h := ⟨Memory.wf_set _ _ _ (k h).mem, (k h).marks, (k h).marked, (k h).fld⟩
  zero k h := ⟨Memory.wf_filter _ _ (k h).mem, (k h).marks, (k h).marked, (k h).fld⟩
  mark k h := ⟨(k h).mem, Store.sorted_set _ _ _ _ (k h).marks, Store.mem_set_ne (k h).marked, (k h).fld⟩
  clear k h := ⟨(k h).mem, Store.sorted_filter _ _ (k h).marks, fun e he => (k h).marked e (List.mem_of_mem_filter he), (k h).fld⟩

/-- No operation touches the queue. -/
theorem pending_kept : KeptMem fun s t => t.pending = s.pending where
  refl _ := rfl
  rest k := k
  set k := k
  ctr k := k
  drop k := k
  wipe k := k
  byte k := k
  zero k := k
  mark k := k
  clear k := k

/-- Register and hidden-state changes leave the Inkwell's bytes and marks. -/
theorem memory_kept : Kept fun s t => t.mem = s.mem ∧ t.poison = s.poison where
  refl _ := ⟨rfl, rfl⟩
  rest k := k
  set k := k
  ctr k := k
  drop k := k
  wipe k := k

end Sys2Proof.Machine
end

