-- ==== Sys2Proof/Laws/Reads.lean ====
section
/-!
SUPPORT. What the shared operations that reach into other blocks leave as it was: for each of them, a register field of a block that it does
not touch reads as before. Blocks are the 64 KiB units of the address map (R485).
-/

namespace Sys2Proof.Machine

/-- The 64 KiB unit of the address map a field lies in. -/
def Fld.block (f : Fld) : Nat := f.key / 0x400000

variable {f : Fld}

theorem State.get_set_block (s : State) {g : Fld} (v : Nat) (h : f.block ≠ g.block) : (s.set g v).get f = s.get f :=
  s.get_set_ne v fun e => h (congrArg (· / 0x400000) e)

theorem State.get_iff (s : State) (c : Bool) (k : State → State) : (s.iff c k).get f = if c then (k s).get f else s.get f := by
  cases c <;> rfl

theorem State.get_iff_of (s : State) (c : Bool) (k : State → State) (h : (k s).get f = s.get f) : (s.iff c k).get f = s.get f := by
  cases c
  · rfl
  · exact h

theorem State.get_each_of {α : Type} (s : State) (l : List α) (k : State → α → State) (h : ∀ s, ∀ a ∈ l, (k s a).get f = s.get f) :
    (s.each l k).get f = s.get f := by
  induction l generalizing s with
  | nil => rfl
  | cons a l ih =>
    rw [State.each_cons, ih _ fun s b hb => h s b (List.mem_cons_of_mem a hb)]
    exact h s a List.mem_cons_self

/-! ### The Inkwell -/

/-- A field outside the block of the Inkwell's registers. -/
def notInk (f : Fld) : Prop := f.block ≠ 0x200001

theorem set_notInk (s : State) {g : Fld} (v : Nat) (h : notInk f) (hg : g.block = 0x200001) : (s.set g v).get f = s.get f :=
  s.get_set_block v (hg ▸ h)

theorem plant_get (s : State) (b p : Nat) : (plant s b p).get f = s.get f := (rfl)

theorem flipData_get (s : State) (b mask : Nat) : (flipData s b mask).get f = s.get f := s.get_each_of _ _ fun _ _ _ => rfl

theorem State.putBytes_get (s : State) (a : Nat) (l : List (BitVec 8)) : (s.putBytes a l).get f = s.get f := by
  induction l generalizing s a with
  | nil => rfl
  | cons b r ih => exact ih _ _

theorem plantOpen_get (s : State) (b : Nat) : (plantOpen s b).get f = s.get f := by
  unfold plantOpen
  dsimp only
  split
  · rw [plant_get, State.putBytes_get]
    rfl
  · rw [plant_get]
    rfl

theorem splitWrite_get (s : State) (b p : Nat) (old : List (BitVec 8)) (h : notInk f) : (splitWrite s b p old).get f = s.get f := by
  have e : ∀ (i : Ink), ({ s.set INK_ECC_TEST_HALF 1 with ink := i } : State).get f = s.get f := fun i =>
    set_notInk (g := INK_ECC_TEST_HALF) s 1 h (by decide)
  unfold splitWrite
  dsimp only
  repeat' split
  all_goals first
    | exact (plant_get _ _ _).trans (e _)
    | exact ((plant_get _ _ _).trans (State.putBytes_get _ _ _)).trans (e _)
    | exact (plantOpen_get _ _).trans (e _)

theorem flipWrite_get (s : State) (b : Nat) (mark : Bool) : (flipWrite s b mark).get f = s.get f := by
  unfold flipWrite
  generalize s.get INK_ECC_TEST_CHECK_CHECK ^^^ (if mark then poisonMask else 0) = c
  dsimp only
  repeat' split
  all_goals simp only [plant_get, plantOpen_get, flipData_get]

theorem testWrite_get (s : State) (b : Nat) (mark : Bool) (p : Nat) (old : List (BitVec 8)) (h : notInk f) :
    (testWrite s b mark p old).get f = s.get f := by
  have e : ((s.set INK_ECC_TEST_ARM 0).ev INK_EVENT_TEST_DONE).get f = s.get f := by
    rw [State.ev, set_notInk _ _ h (by decide), set_notInk _ _ h (by decide)]
  unfold testWrite
  dsimp only
  split
  · exact (splitWrite_get _ _ _ _ h).trans e
  · exact (flipWrite_get _ _ _).trans e

theorem testHook_get (s : State) (a n : Nat) (k : State → State) (h : notInk f) (hk : ∀ s : State, (k s).get f = s.get f) :
    (testHook s a n k).get f = s.get f := by
  unfold testHook
  dsimp only
  split
  · exact (testWrite_get _ _ _ _ _ h).trans (hk s)
  · exact hk s

theorem State.addrErr_get (s : State) (a b : Nat) (h : notInk f) : (s.addrErr a b).get f = s.get f := by
  unfold State.addrErr
  split
  · rw [State.ev, set_notInk _ _ h (by decide), State.ev, set_notInk _ _ h (by decide)]
  · rw [State.ev, set_notInk _ _ h (by decide), set_notInk _ _ h (by decide), set_notInk _ _ h (by decide), set_notInk _ _ h (by decide)]

theorem addrErrs_get (s : State) (r a n : Nat) (h : notInk f) : (addrErrs s r a n).get f = s.get f :=
  s.get_each_of _ _ fun s _ _ => s.addrErr_get _ _ h

/-- Decoding a block takes free values only. -/
theorem decodeBlock_get (s : State) (b : Nat) (w : ReadFault) : (decodeBlock s b w).2.2.get f = s.get f := by
  unfold decodeBlock
  generalize patternOf s b = p
  cases w with
  | none => rfl
  | address => rfl
  | heavy o => rfl
  | flips n =>
    dsimp only
    split
    · rfl
    · split
      · rfl
      · split
        · repeat' split
          all_goals rfl
        · rfl

theorem countUe_get (s : State) (h : notInk f) : (countUe s).get f = s.get f := by
  unfold countUe
  dsimp only
  split
  · exact set_notInk (g := INK_EVENT_UE_RATE) _ 1 h (by decide)
  · rfl

theorem logUe_get (s : State) (r b : Nat) (h : notInk f) : (logUe s r b).get f = s.get f := by
  unfold logUe
  split
  · exact set_notInk _ _ h (by decide)
  · rw [set_notInk _ _ h (by decide), set_notInk _ _ h (by decide), set_notInk _ _ h (by decide)]

/-- The registers of a channel lie in the Inkwell's block. -/
theorem chan_block (a : Nat) : (INK_CH_ERRCNT_CE (channelOf a)).block = 0x200001 ∧ (INK_CH_ERRCNT_UE (channelOf a)).block = 0x200001 ∧
    (INK_CH_SCRUB_BUSY (channelOf a)).block = 0x200001 := by
  have : channelOf a < 8 := Nat.mod_lt _ (by decide)
  simp only [Fld.block, Fld.key, INK_CH_ERRCNT_CE, INK_CH_ERRCNT_UE, INK_CH_SCRUB_BUSY, inkBase]
  omega

theorem dropWriteBacks_get (s : State) (b : Nat) (h : notInk f) : (dropWriteBacks s b).get f = s.get f := by
  unfold dropWriteBacks
  dsimp only
  split
  · exact set_notInk _ _ h (chan_block _).2.2
  · rfl

theorem decodeRead_get (s : State) (r b : Nat) (w : ReadFault) (h : notInk f) : (decodeRead s r b w).2.2.get f = s.get f := by
  have e := decodeBlock_get (f := f) s b w
  have wb : ∀ (s : State) (x : WriteBack) (c : Bool), (s.iff c fun s => addWriteBack s (channelOf (64 * b)) x).get f = s.get f := fun s x c =>
    s.get_iff_of _ _ ((set_notInk _ _ h (chan_block _).2.2).trans rfl)
  unfold decodeRead
  generalize decodeBlock s b w = d at e
  obtain ⟨o, known, t⟩ := d
  dsimp only at e ⊢
  rw [← e]
  split
  · rw [wb, State.ev, set_notInk _ _ h (by decide), State.bump, set_notInk _ _ h (chan_block _).1]
  · split
    · rw [countUe_get _ h, wb, State.ev, set_notInk _ _ h (by decide), logUe_get _ _ _ h, State.bump, set_notInk _ _ h (chan_block _).2.1]
    · rfl

theorem freshBlock_get (s : State) (b : Nat) (h : notInk f) : (freshBlock s b).get f = s.get f := (dropWriteBacks_get s b h)

theorem State.markBlocks_get (s : State) (r a n : Nat) (p : Bool) (h : notInk f) : (s.markBlocks r a n p).get f = s.get f := by
  refine s.get_each_of _ _ fun s b _ => ?_
  have e : ∀ (s : State) (m : Bool), ((freshBlock s b).setPoison b m).get f = s.get f := fun s m => freshBlock_get s b h
  unfold markBlock
  split
  · exact e _ _
  · exact (e _ _).trans (decodeRead_get s r b .none h)

theorem noteEarly_get (s : State) (a n : Nat) (l : List (BitVec 8)) (p : Bool) : (noteEarly s a n l p).get f = s.get f := by
  unfold noteEarly
  split <;> rfl

theorem wakeInk_get (s : State) (h : notInk f) : (wakeInk s).get f = s.get f := by
  unfold wakeInk
  split
  · rw [set_notInk _ _ h (by decide), set_notInk _ _ h (by decide)]
  · rfl

theorem State.zeroBytes_get (s : State) (a n : Nat) : (s.zeroBytes a n).get f = s.get f := (rfl)

theorem inkStore_get (s : State) (r a : Nat) (l : List (BitVec 8)) (p : Bool) (h : notInk f) : (inkStore s r a l p).get f = s.get f :=
  (testHook_get _ _ _ _ h fun s => (State.putBytes_get _ _ _).trans (s.markBlocks_get r a _ p h)).trans
    ((noteEarly_get _ _ _ _ _).trans (wakeInk_get s h))

theorem inkStoreZ_get (s : State) (r a n : Nat) (l : List (BitVec 8)) (p : Bool) (h : notInk f) : (inkStoreZ s r a n l p).get f = s.get f :=
  (testHook_get _ _ _ _ h fun s => (State.putBytes_get _ _ _).trans ((State.zeroBytes_get _ _ _).trans (s.markBlocks_get r a n p h))).trans
    ((noteEarly_get _ _ _ _ _).trans (wakeInk_get s h))

theorem State.inkWrite_get (s : State) (r a : Nat) (l : List (BitVec 8)) (p : Bool) (h : notInk f) : (s.inkWrite r a l p).get f = s.get f := by
  unfold State.inkWrite
  split
  · exact inkStore_get _ _ _ _ _ h
  · exact (addrErrs_get _ _ _ _ h).trans (s.get_iff_of _ _ (inkStore_get _ _ _ _ _ h))

theorem State.inkWriteZ_get (s : State) (r a n : Nat) (l : List (BitVec 8)) (p : Bool) (h : notInk f) :
    (s.inkWriteZ r a n l p).get f = s.get f := by
  unfold State.inkWriteZ
  split
  · exact inkStoreZ_get _ _ _ _ _ _ h
  · exact (addrErrs_get _ _ _ _ h).trans (s.get_iff_of _ _ (inkStoreZ_get _ _ _ _ _ _ h))

/-! ### The decoder pool -/

/-- A field outside the blocks of the Inkwell's registers and of the decoder pool. -/
def notPool (f : Fld) : Prop := notInk f ∧ f.block ≠ 0x20000B

theorem set_notPool (s : State) {g : Fld} (v : Nat) (h : notPool f) (hg : g.block = 0x20000B) : (s.set g v).get f = s.get f :=
  s.get_set_block v (hg ▸ h.2)

theorem refreshLdpc_get (s : State) (h : notPool f) : (refreshLdpc s).get f = s.get f := by
  unfold refreshLdpc
  dsimp only
  iterate 9 rw [set_notPool _ _ h (by decide)]

theorem resultEntry_get (s : State) (c : Cw) (o : Nat) (h : notPool f) : (resultEntry s c o).get f = s.get f := by
  unfold resultEntry
  dsimp only
  split
  · rw [State.bump, set_notPool _ _ h (by decide), State.ev, set_notPool _ _ h (by decide)]
  · rw [State.ev, set_notPool _ _ h (by decide), State.wrap, set_notPool _ _ h (by decide), State.inkWrite_get _ _ _ _ _ h.1]

theorem noteDesc_get (s : State) (c : Cw) (b : Bool) : (noteDesc s c b).get f = s.get f := (rfl)

theorem dropCw_get (s : State) (id : Nat) : (s.dropCw id).get f = s.get f := (rfl)

theorem poisonCw_get (s : State) (id : Nat) (c : Cw) (o : Nat) (h : notPool f) : (poisonCw s id c o).get f = s.get f := by
  have e : ∀ (s : State) (l : List (BitVec 8)), ((s.inkWriteZ c.pen c.dest 4096 l true).ev LDPC_EVENT_POISON).get f = s.get f := fun s l => by
    rw [State.ev, set_notPool _ _ h (by decide), State.inkWriteZ_get _ _ _ _ _ _ h.1]
  unfold poisonCw
  dsimp only
  rw [dropCw_get, resultEntry_get _ _ _ h, noteDesc_get]
  split
  · rw [State.bump, set_notPool _ _ h (by decide), e]
  · rw [State.bump, set_notPool _ _ h (by decide), e]

theorem toRevisit_get (s : State) (id p : Nat) (h : notPool f) : (toRevisit s id p).get f = s.get f := by
  have e (c : Cw) : (if leftBand s c then poisonCw s id c 2 else noteDesc (s.putCw id c) c false).get f = s.get f := by
    split
    · exact poisonCw_get _ _ _ _ h
    · exact noteDesc_get _ _ _
  unfold toRevisit
  split
  · rfl
  · split
    · exact poisonCw_get _ _ _ _ h
    · exact e _

/-- A field outside what a revisit sequence sets on its pen's axes: the offset registers and RETRY_OFS (R188). -/
def notOffsets (n : Nat) (f : Fld) : Prop := f.key ≠ (SV_STATUS_RETRY_OFS n).key ∧ ∀ i < 8, f.key ≠ (LE_OFS_OFS n i).key

theorem endSequence_get (s : State) (n : Nat) (h : notOffsets n f) : (endSequence s n).get f = s.get f := by
  have w : ∀ (s t : State) (g : Fld), g.width = 3 → (t.set (LE_OFS_OFS n (s.get g)) 0).get f = t.get f := fun s t g hg =>
    t.get_set_ne 0 (h.2 _ (by simpa [hg] using s.get_lt g))
  have e : (endSequence s n).get f = (zeroRetryOffsets s n).get f := by
    rw [endSequence]
    generalize zeroRetryOffsets s n = t
    rfl
  rw [e, zeroRetryOffsets, State.get_set_ne _ _ h.1, w _ _ _ rfl, w _ _ _ rfl, w _ _ _ rfl]

theorem cutPending_get (s : State) (n : Nat) (sel : Cw → Bool) (h : notPool f) (ho : notOffsets n f) : (cutPending s n sel).get f = s.get f := by
  unfold cutPending
  refine (refreshLdpc_get _ h).trans ?_
  refine (State.get_iff_of _ _ _ ?_).trans (s.get_each_of _ _ fun s e _ => s.get_iff_of _ _ (poisonCw_get _ _ _ _ h))
  split
  · exact endSequence_get _ n ho
  · rfl

theorem abandonCw_get (s : State) (c : Cw) (h : notPool f) : (abandonCw s c).get f = s.get f := resultEntry_get _ _ _ h

theorem newCw_get (s : State) (c : Cw) : (newCw s c).2.get f = s.get f := (rfl)

theorem noteVerify_get (s : State) (c : Cw) (b : Bool) (i : Nat) : (noteVerify s c b i).get f = s.get f := (rfl)

theorem noteTaken_get (s : State) (n k : Nat) (d : Desc) (i : Nat) : (noteTaken s n k d i).get f = s.get f := (rfl)

theorem iff_resultEntry_get (s : State) (b : Bool) (c : Cw) (o : Nat) (h : notPool f) : (s.iff b fun s => resultEntry s c o).get f = s.get f :=
  s.get_iff_of _ _ (resultEntry_get _ _ _ h)

theorem endUnread_get (s : State) (n k : Nat) (c : NibCw) (b : Bool) (h : notPool f) : (endUnread s n k c b).get f = s.get f := by
  unfold endUnread
  split
  · rfl
  · dsimp only
    split
    · exact (iff_resultEntry_get _ _ _ _ h).trans ((noteVerify_get _ _ _ _).trans (noteTaken_get _ _ _ _ _))
    · split
      · exact (toRevisit_get _ _ _ h).trans rfl
      · exact (abandonCw_get _ _ h).trans rfl

theorem endCws_get (s : State) (n k : Nat) (b : Bool) (h : notPool f)
    (hr : f.key ≠ (if b then RC_EVENT_INCOMPLETE n else RC_EVENT_ABANDONED n).key) : (endCws s n k b).get f = s.get f := by
  unfold endCws
  dsimp only
  rw [State.get_each_of _ _ _ fun s c _ => endUnread_get s n k c b h]
  refine (State.get_iff_of _ _ _ (State.get_ev_ne _ hr)).trans rfl

theorem abandonNib_get (s : State) (n k : Nat) (h : notPool f) (hr : f.key ≠ (RC_EVENT_ABANDONED n).key) : (abandonNib s n k).get f = s.get f :=
  endCws_get s n k false h hr

theorem incompletePen_get (s : State) (n : Nat) (h : notPool f) (hr : f.key ≠ (RC_EVENT_INCOMPLETE n).key) :
    (incompletePen s n).get f = s.get f := by
  unfold incompletePen
  exact (refreshLdpc_get _ h).trans (s.get_each_of _ _ fun s k _ => endCws_get s n k true h hr)

theorem inBufOvf_get (s : State) (h : notPool f) : (inBufOvf s).get f = s.get f := by
  rw [inBufOvf, State.bump, set_notPool _ _ h (by decide), State.ev, set_notPool _ _ h (by decide)]

theorem handOff_get (s : State) (c : Cw) (b : Bool) (h : notPool f) : (handOff s c b).get f = s.get f := by
  unfold handOff
  split
  · exact State.get_iff_of _ _ _ (inBufOvf_get _ h)
  · split
    · exact (refreshLdpc_get _ h).trans ((poisonCw_get _ _ _ _ h).trans rfl)
    · split
      · exact (refreshLdpc_get _ h).trans ((toRevisit_get _ _ _ h).trans (inBufOvf_get s h))
      · exact (refreshLdpc_get _ h).trans rfl

theorem handOffFresh_get (s : State) (id : Nat) (a b : Cw) (p : Bool) (h : notPool f) : (handOffFresh s id a b p).get f = s.get f := by
  unfold handOffFresh
  dsimp only
  split
  · rfl
  · split
    · exact (refreshLdpc_get _ h).trans ((poisonCw_get _ _ _ _ h).trans rfl)
    · split
      · exact (refreshLdpc_get _ h).trans ((toRevisit_get _ _ _ h).trans (inBufOvf_get _ h))
      · exact (refreshLdpc_get _ h).trans rfl

theorem takeCapture_get (s : State) (c : Cw) : (takeCapture s c).get f = s.get f := by
  unfold takeCapture
  split <;> rfl

/-! ### The ruling and the write channel -/

theorem dataNibs_le (s : State) (n : Nat) : dataNibs s n ≤ 16 := by
  unfold dataNibs
  split <;> omega

theorem refreshFrozenPen_get (s : State) (n : Nat) (h : ∀ k < 16, f.key ≠ (RC_NIB_STATUS_FROZEN n k).key) :
    (refreshFrozenPen s n).get f = s.get f :=
  s.get_each_of _ _ fun s k hk => s.get_set_ne _ (h k (lt_of_lt_of_le (List.mem_range.1 hk) (dataNibs_le _ n)))

theorem refreshZone_get (s : State) (n : Nat) (h : f.key ≠ (RC_ZONE_ZONE n).key) : (refreshZone s n).get f = s.get f := s.get_set_ne _ h

theorem refreshWc_get (s : State) (n : Nat) (h : f.key ≠ (WC_STATUS_WRITING n).key) (h' : f.key ≠ (WC_STATUS_GROUP_LEFT n).key) :
    (refreshWc s n).get f = s.get f := by
  rw [refreshWc, State.get_set_ne _ _ h', State.get_set_ne _ _ h]

/-- Stopping the burns of a pen reaches its write channel and WRITE_ABORT only. -/
theorem abortBurns_get (s : State) (n : Nat) (h : f.block ≠ (WC_EVENT_ABORT n).block) (h' : f.key ≠ (RUL_EVENT_WRITE_ABORT n).key) :
    (abortBurns s n).get f = s.get f := by
  have k : ∀ (g : Fld), g.block = (WC_EVENT_ABORT n).block → ∀ (s : State) v, (s.set g v).get f = s.get f := fun g hg s v =>
    s.get_set_block v (hg ▸ h)
  unfold abortBurns
  dsimp only
  split
  · rfl
  · unfold refreshWc
    dsimp only
    rw [k (WC_STATUS_GROUP_LEFT n) (by simp only [Fld.block, Fld.key, WC_STATUS_GROUP_LEFT, WC_EVENT_ABORT, wcBase, penBase]; omega),
      k (WC_STATUS_WRITING n) (by simp only [Fld.block, Fld.key, WC_STATUS_WRITING, WC_EVENT_ABORT, wcBase, penBase]; omega),
      State.get_ev_ne _ h', State.ev, k _ rfl]
    refine s.get_each_of _ _ fun s d _ => ?_
    split
    · rfl
    · exact k _ (by simp only [Fld.block, Fld.key, WC_CNT_FAIL_ABORTED, WC_EVENT_ABORT, wcBase, penBase]; omega) _ _

/-- A field outside what stopping the burns of pen n reaches: its write channel and WRITE_ABORT. -/
def notBurns (n : Nat) (f : Fld) : Prop := f.block ≠ (WC_EVENT_ABORT n).block ∧ f.key ≠ (RUL_EVENT_WRITE_ABORT n).key

theorem refreshWriteOk_get (s : State) (n : Nat) (h : f.key ≠ (RUL_STATUS_WRITE_OK n).key) (hb : notBurns n f) :
    (refreshWriteOk s n).get f = s.get f :=
  (State.get_iff_of _ _ _ (abortBurns_get _ n hb.1 hb.2)).trans (s.get_set_ne _ h)

/-- WRITE_OK is what R44 makes of the loop's state. -/
theorem refreshWriteOk_writeOk (s : State) (n : Nat) : (refreshWriteOk s n).get (RUL_STATUS_WRITE_OK n) = if writeOk s n then 1 else 0 := by
  refine (State.get_iff_of _ _ _ (abortBurns_get _ n ?_ ?_)).trans ?_
  · simp only [Fld.block, Fld.key, RUL_STATUS_WRITE_OK, WC_EVENT_ABORT, rulBase, wcBase, penBase]
    omega
  · simp only [Fld.key, RUL_STATUS_WRITE_OK, RUL_EVENT_WRITE_ABORT, rulBase]
    omega
  · rw [State.get_set]
    split <;> rfl

/-- Selecting a preset reaches ZT_MISS and the nib's ALT_VALID only. -/
theorem selectPreset_get (s : State) (n k : Nat) (h : f.key ≠ (RC_EVENT_ZT_MISS n).key) (h' : f.key ≠ (RC_NIB_STATUS_ALT_VALID n k).key) :
    (selectPreset s n k).get f = s.get f := by
  have q : ∀ (s : State) (c : Bool), (s.iff c fun s => { s with freeCtr := s.freeCtr + 1 }).get f = s.get f := fun s c =>
    s.get_iff_of _ _ (rfl)
  unfold selectPreset refreshAlt
  dsimp only
  rw [State.get_set_ne _ _ h']
  split
  · rw [State.get_ev_ne _ h, q]
  · split
    · rw [State.modNib_get, q]
    · split
      · rw [q]
      · rw [State.modNib_get, q]

theorem setRulState_get (s : State) (n st : Nat) (h : ∀ k < 16, f.key ≠ (RC_NIB_STATUS_FROZEN n k).key)
    (hs : f.key ≠ (RUL_STATUS_STATE n).key) (hw : f.key ≠ (RUL_STATUS_WRITE_OK n).key) (hb : notBurns n f) :
    (setRulState s n st).get f = s.get f := by
  rw [setRulState, refreshFrozenPen_get _ n h, refreshWriteOk_get _ n hw hb, State.get_set_ne _ _ hs]

/-- The loop is in the state it has entered. -/
theorem setRulState_state (s : State) (n st : Nat) : (setRulState s n st).get (RUL_STATUS_STATE n) = st % 8 := by
  rw [setRulState, refreshFrozenPen_get, refreshWriteOk_get, State.get_set]
  · rfl
  · simp only [Fld.key, RUL_STATUS_STATE, RUL_STATUS_WRITE_OK]
    omega
  · constructor
    · simp only [Fld.block, Fld.key, RUL_STATUS_STATE, WC_EVENT_ABORT, rulBase, wcBase, penBase]
      omega
    · simp only [Fld.key, RUL_STATUS_STATE, RUL_EVENT_WRITE_ABORT, rulBase]
      omega
  · intro k hk
    simp only [Fld.key, RUL_STATUS_STATE, RC_NIB_STATUS_FROZEN, rcBase, rulBase, penBase]
    omega

/-- WRITE_OK is 0 in every state but LOCKED (R44). -/
theorem setRulState_writeOk (s : State) (n st : Nat) (h : st % 8 ≠ 4) : (setRulState s n st).get (RUL_STATUS_WRITE_OK n) = 0 := by
  have e : writeOk (s.set (RUL_STATUS_STATE n) st) n = false := by
    have : (s.set (RUL_STATUS_STATE n) st).get (RUL_STATUS_STATE n) ≠ 4 := by
      rw [State.get_set]
      exact h
    simp only [writeOk, rulLocked, beq_false_of_ne this, Bool.false_and]
  rw [setRulState, refreshFrozenPen_get, refreshWriteOk_writeOk, e]
  · rfl
  · intro k hk
    simp only [Fld.key, RUL_STATUS_WRITE_OK, RC_NIB_STATUS_FROZEN, rcBase, rulBase, penBase]
    omega

theorem refreshWc_ruling (s : State) (n m : Nat) : (refreshWc s n).ruling m = s.ruling m := (rfl)

theorem abortBurns_ruling (s : State) (n m : Nat) : (abortBurns s n).ruling m = s.ruling m := by
  unfold abortBurns
  dsimp only
  split
  · rfl
  · refine (refreshWc_ruling _ _ _).trans (State.each_keeps (fun s => s.ruling m) _ _ _ fun s d _ => ?_)
    split <;> rfl

theorem refreshWriteOk_ruling (s : State) (n m : Nat) : (refreshWriteOk s n).ruling m = s.ruling m := by
  unfold refreshWriteOk State.iff
  dsimp only
  split
  · exact abortBurns_ruling _ _ _
  · rfl

theorem refreshFrozenPen_ruling (s : State) (n m : Nat) : (refreshFrozenPen s n).ruling m = s.ruling m :=
  State.each_keeps (fun s => s.ruling m) _ _ _ fun _ _ _ => rfl

theorem setRulState_ruling (s : State) (n st m : Nat) : (setRulState s n st).ruling m = s.ruling m := by
  rw [setRulState, refreshFrozenPen_ruling, refreshWriteOk_ruling]
  rfl

end Sys2Proof.Machine
end

