-- ==== Sys2Proof/WellFormed.lean ====
section
/-!
DEFINITION. Which commands are well formed: the lengths and ranges that the manual gives the lists of an occurrence, where the types
of its operands do not. The meanings are total all the same.
-/

namespace Sys2Proof

/-- A training result reports all four lanes (R276, R277). -/
def trainOk : TrainResult → Bool
  | .skew headers units => headers.length == 4 && units.length == 4
  | .locked headers => headers.length == 4
  | .caps _ _ _ _ _ => true
  | .failed => true

/-- A transfer is of one 64-byte block (R289). -/
def xferOk : InkXfer → Bool
  | .read addr _ => addr.toNat % 64 == 0
  | .write addr _ data _ _ => addr.toNat % 64 == 0 && data.length == 64

/-- An island cycle handles eight samples (chapter 03). -/
def stepOk : ChanStep → Bool
  | .preamble => true
  | .correct raw => raw.length == 8
  | .adapt dec slope => dec.length == 8 && slope.length == 8

/-- Samples that a packet's island cycles correct. -/
def corrected (l : List ChanStep) : Nat := l.foldl (fun m x => match x with | .correct raw => m + raw.length | _ => m) 0

/-- The checks of each command: R20 (a block's base), R78, R79, R81, R101 (scores and weights), R63 (channel bits), R86 (information
bits), R137, R150 (one element a codeword or nib), R276 to R278 (lanes), R263, R265 to R267 (packets), R253 (a status record), R289
(a transfer), R388 (a message), R405, R414 (nonces), R445 (sensors). -/
def Instr.wf (i : Instr) : Bool :=
  match i with
  | .registerWrite _ _ _ _ => true
  | .rocRead _ _ _ => true
  | .latch block => block.toNat % 65536 == 0
  | .latchCapture block => block.toNat % 65536 == 0
  | .accessAbandoned _ _ _ => true
  | .rulEnable _ => true
  | .rulDisable _ => true
  | .rulJumpSet _ => true
  | .rulJumpClear _ => true
  | .rulBandWrite _ _ _ => true
  | .freqAcquired _ _ _ _ => true
  | .phaseAcquired _ _ _ _ _ => true
  | .acqTimeout _ _ => true
  | .addrWord _ _ _ _ _ => true
  | .rulingNibLost _ _ _ => true
  | .rulingNibGood _ _ _ _ _ _ => true
  | .holdLimit _ _ => true
  | .freqWordSend _ _ => true
  | .rcCtrlWrite _ _ => true
  | .blotStart _ _ _ _ => true
  | .blotEnd _ _ _ => true
  | .cwBoundary _ _ _ _ _ => true
  | .presetFetchDone _ _ _ => true
  | .ztDirWrite _ _ _ => true
  | .syncSearch _ _ => true
  | .resyncSearch _ _ => true
  | .slipTest _ _ weights => weights.length == 7
  | .cwFramed _ _ dm => dm.isEmpty || dm.length == 39256
  | .coreSchedule _ => true
  | .decodeDone _ res => res.user.length == 4096 && res.header.length == 56 && res.crc.length == 8 && decide (1 ≤ res.iters)
  | .spillCopyDone => true
  | .samplesLost _ _ => true
  | .replayDone _ res => res.scores.length == 129 && res.rscores.length == 17 && res.weights.length == 7 && (res.dm.isEmpty || res.dm.length == 39256)
  | .revisitStart _ => true
  | .revisitStep _ => true
  | .parkWrite _ => true
  | .coreOfflineWrite _ => true
  | .coreTest _ => true
  | .coreTestDone _ => true
  | .captureArm _ => true
  | .captureDone => true
  | .fqHeadWrite _ _ => true
  | .groupForm _ => true
  | .groupStart _ => true
  | .slotArrival _ _ _ _ _ => true
  | .burnDone _ _ => true
  | .writeUnderrun _ _ => true
  | .verifyRead _ _ => true
  | .descComplete _ _ => true
  | .groupEnd _ => true
  | .colophonGate _ => true
  | .colophonReadback _ => true
  | .calReadback _ nibs => nibs.length == 16 && nibs.all fun c => c.length == 16
  | .blankCheck _ rms => rms.length == 16
  | .readDesc _ _ => true
  | .wsLoad _ _ => true
  | .wsLoadDone _ _ => true
  | .gateClr _ => true
  | .haltWrite _ _ => true
  | .wcDisable _ => true
  | .writeHoldRise _ => true
  | .leTick _ _ _ => true
  | .loopModeWrite _ _ _ => true
  | .loopCtrlWrite _ _ _ _ => true
  | .bankWrite _ _ _ => true
  | .leMemoryWrite _ _ _ _ _ _ => true
  | .rcTableWrite _ _ _ _ => true
  | .rcClear _ _ => true
  | .rcClearDone _ _ => true
  | .leReset _ => true
  | .lockstepFault _ _ _ _ _ => true
  | .invalidTick _ _ => true
  | .resume _ => true
  | .escapeRetract _ => true
  | .collapseRetract _ => true
  | .longGap _ => true
  | .retractEnd _ => true
  | .acqStart _ _ => true
  | .approachDone _ => true
  | .sweepCapture _ => true
  | .fLock _ => true
  | .trackCapture _ => true
  | .tLock _ => true
  | .trackSlip _ => true
  | .jumpStart _ _ _ => true
  | .jumpPhaseEnd _ => true
  | .tjumpStart _ _ _ => true
  | .tjumpEnd _ => true
  | .supEnWrite _ _ => true
  | .trkAutoWrite _ _ => true
  | .pwmPeriod _ _ => true
  | .overcurrentTrip _ _ => true
  | .zcConfirm _ _ _ => true
  | .commutate _ => true
  | .missedZc _ => true
  | .catchEnd _ conv => conv.all fun c => decide (1 ≤ c.times)
  | .brakeEnd _ => true
  | .slotGrant _ => true
  | .alignEnd _ => true
  | .handover _ => true
  | .openHoldFail _ => true
  | .coastEnd _ => true
  | .stopBrakeEnd _ => true
  | .spSetWrite _ _ => true
  | .spEnableWrite _ _ => true
  | .faultClr _ => true
  | .busSample _ _ _ _ => true
  | .chopFault _ _ _ => true
  | .ovClear _ => true
  | .i2tLimit _ => true
  | .seqEntryWrite _ _ => true
  | .plannerTick => true
  | .sledTargetWrite _ _ => true
  | .sledModeWrite _ _ => true
  | .moveDone _ => true
  | .extStep _ _ => true
  | .sledStop _ => true
  | .posSet _ _ => true
  | .switchQualify _ _ => true
  | .ducFrame _ => true
  | .stageStatus _ record => record.length == 16
  | .stageLost _ _ => true
  | .lkEnableWrite _ _ => true
  | .signalDetect _ => true
  | .retrain _ => true
  | .trainStep _ res => trainOk res
  | .trainTimeout _ => true
  | .failWaitEnd _ => true
  | .pllLock _ => true
  | .deskew _ => true
  | .deskewDone _ headers units => headers.length == 4 && units.length == 4
  | .deskewSuspendExpiry _ => true
  | .samples _ header data steps => header.toNat / 2 ^ 28 == 1 && header.toNat % 2 ^ 11 == data.length && steps.all stepOk && data.length == corrected steps
  | .ruling _ header data => header.toNat / 2 ^ 28 == 2 && decide (header.toNat / 2 ^ 24 % 16 ≤ 1) && header.toNat % 2 ^ 11 == data.length
  | .servo _ header words sets => header.toNat / 2 ^ 28 == 3 && decide (words.length ≤ 16) && decide (sets.length ≤ 16) && sets.all fun e => e.all fun x => decide (x.length ≤ 8)
  | .penStatus _ header words corrected => header.toNat / 2 ^ 28 == 4 && (words.length == 15 || words.length == 16) && corrected.length == 4
  | .claimStatus _ header words => header.toNat / 2 ^ 28 == 5 && words.length == 3
  | .ack _ _ header => header.toNat / 2 ^ 28 == 6
  | .uncorrectableCodeword _ _ _ _ => true
  | .laneLost _ _ _ => true
  | .linkDown _ => true
  | .claim _ => true
  | .write _ _ _ => true
  | .inkGrant _ _ reqs => reqs.all fun q => xferOk q.xfer
  | .eccWriteback _ => true
  | .ueWindow => true
  | .fillDone _ => true
  | .scrubRead _ _ _ _ => true
  | .arbBaseWrite _ _ => true
  | .longestClear _ _ _ => true
  | .eccTestMech _ => true
  | .eccTestArm => true
  | .eccTestStore => true
  | .srEnter => true
  | .srExitStart => true
  | .srExit => true
  | .scribeLoad _ _ _ _ => true
  | .scribeStore _ _ _ _ => true
  | .scribeFetch _ _ _ => true
  | .scribeAmo _ _ _ _ _ => true
  | .victimWritebackDone => true
  | .writeback => true
  | .invalidate => true
  | .wbInv => true
  | .zero => true
  | .preload _ => true
  | .cpbOpDone => true
  | .unlock _ => true
  | .scratchCountWrite _ => true
  | .scratchFillDone => true
  | .sramEccError _ _ _ _ => true
  | .mbxRequestWrite _ _ _ _ => true
  | .mbxResultWrite _ _ _ _ => true
  | .post _ _ => true
  | .take _ _ => true
  | .cancel _ _ => true
  | .complete _ _ => true
  | .mbxAck _ _ => true
  | .resultHeaderRead _ _ => true
  | .mbxCfgWrite _ _ _ => true
  | .sealTake _ _ => true
  | .sealRelease _ _ => true
  | .clearBroken _ _ => true
  | .perstAssert _ => true
  | .perstRelease _ _ => true
  | .cfgReadyWrite _ => true
  | .ccEnSet _ => true
  | .ccEnClear _ => true
  | .flr _ => true
  | .shnNormal _ => true
  | .shnAbrupt _ => true
  | .doorbell _ _ _ _ => true
  | .admitNext _ _ => true
  | .rangeLockRelease _ => true
  | .readCmd _ _ => true
  | .writeCmd _ _ _ => true
  | .flush _ => true
  | .writeZeroes _ _ _ => true
  | .deallocate _ _ _ => true
  | .compare _ _ _ => true
  | .identify _ => true
  | .getLogPage _ => true
  | .getFeatures _ => true
  | .setFeatures _ => true
  | .createIoQueue _ => true
  | .deleteIoQueue _ => true
  | .abortCmd _ _ => true
  | .asyncEventRequest _ => true
  | .namespaceManagement _ _ _ => true
  | .namespaceAttachment _ => true
  | .formatNvm _ _ _ _ => true
  | .sanitize _ => true
  | .firmwareImageDownload _ => true
  | .firmwareCommit _ _ => true
  | .securitySend _ => true
  | .securityReceive _ _ => true
  | .invalidOpcode _ => true
  | .powerStateChange => true
  | .apstDue _ => true
  | .autonomousExit => true
  | .qpSplitWrite _ => true
  | .lookup => true
  | .ldgSwap => true
  | .commitApply _ _ _ _ _ => true
  | .bind _ _ => true
  | .slowLookupResolve _ _ _ => true
  | .vrsOutWrite _ _ => true
  | .heartbeat _ => true
  | .versoLinkFail _ => true
  | .versoLinkUp partnerNonce => partnerNonce.length == 16
  | .writeData _ data => decide (data.length ≤ 4096)
  | .dataAck _ => true
  | .sealMsg _ _ => true
  | .firmwareMsg _ => true
  | .gcmFail => true
  | .giveUp => true
  | .takeover _ => true
  | .stale _ => true
  | .health => true
  | .degClr => true
  | .diagClear => true
  | .nodeWrite _ => true
  | .generate _ => true
  | .unwrap _ _ => true
  | .wrap _ _ => true
  | .clear _ => true
  | .loadDomain => true
  | .loadPair => true
  | .keyDone => true
  | .zeroise => true
  | .selftest => true
  | .selftestDone _ => true
  | .reseed => true
  | .entFail _ => true
  | .katDone _ => true
  | .secError _ => true
  | .open1 _ _ nonce => nonce.length == 16
  | .open2 _ _ => true
  | .sessionRequest _ => true
  | .close _ => true
  | .sessionExpiry _ => true
  | .debugUnlock _ => true
  | .resetNAssert _ => true
  | .resetNRelease _ => true
  | .fuseLoadDone => true
  | .bistDone => true
  | .trainingDone => true
  | .imageCheck _ _ => true
  | .release _ _ => true
  | .kick _ _ _ => true
  | .wdtTimeoutWrite _ _ => true
  | .wdtWarn _ _ => true
  | .wdtReset _ _ => true
  | .scribeReset _ => true
  | .chipReset _ _ => true
  | .clkLoss _ => true
  | .sensorSample codes => codes.length == 12
  | .powerManagerUpdate _ => true
  | .thermalTrip => true
  | .activationRollback => true
  | .calStart => true
  | .retrimAdcDone _ _ _ => true
  | .retrimNoSlots _ _ => true
  | .calAbort => true
  | .calLoad _ => true
  | .calRevert _ => true
  | .tsOfsWrite _ _ => true
  | .statusWindowRefresh => true
  | .selfRefreshEntered => true
  | .sledHomeEdge _ _ _ => true
  | .interpolatorMicrostep _ _ => true
  | .pcieConfigRequest _ => true
  | .pcieLinkUp _ _ _ _ => true
  | .pcieLinkDown _ => true
  | .scribeDebugHalt _ _ => true
  | .entropyRecovered => true

end Sys2Proof
end

