-- ==== Sys2Proof/Tests/Slice0.lean ====
section
/-!
SUPPORT. Tests: an ill-formed term for each check of WellFormed, and for each command the hypotheses of its statements met by a small state,
with what the manual's rule then gives, worked out by hand from it. A test names its command; `meets` runs it once.
-/

namespace Sys2Proof.Tests

-- One theorem at a time: hundreds of kernel evaluations at once are more threads than a check allows.
set_option Elab.async false

open Sys2Proof Sys2Proof.Machine

/-- The state that a released RESET_N leaves: reset, and out of it. -/
def awake : State := { State.reset with boot := { low := false } }

/-- That state, with some register fields set. -/
def put (l : List (Fld × Nat)) : State := l.foldl (fun s e => s.set e.1 e.2) awake

/-- The command answers a next state, which the check accepts. -/
def meets (c : Instr) (s : State) (p : State → Bool) : Bool :=
  match exec c s with
  | .next t => p t
  | _ => false

/-! ### WellFormed -/

theorem test_wf_accepts : (Instr.latch 0x2000010000).wf && (Instr.slipTest 0 0 [0, 0, 0, 0, 0, 0, 0]).wf && (Instr.stageStatus 0 (List.replicate 16 0)).wf
    && (Instr.trainStep 0 (.skew [0, 0, 0, 0] [0, 0, 0, 0])).wf && (Instr.sensorSample (List.replicate 12 0)).wf
    && (Instr.samples 0 0x10000008 (List.replicate 8 0) [.preamble, .correct (List.replicate 8 0)]).wf && (Instr.ack 0 0 0x60000000).wf = true := by decide +kernel
theorem test_wf_refuses_block : (Instr.latch 0x2000010004).wf = false ∧ (Instr.latchCapture 0x2000010004).wf = false := by decide +kernel
theorem test_wf_refuses_weights : (Instr.slipTest 0 0 [1, 2, 3]).wf = false := by decide +kernel
theorem test_wf_refuses_metrics : (Instr.cwFramed 0 0 [0]).wf = false := by decide +kernel
theorem test_wf_refuses_user_bytes : (Instr.decodeDone 0 ⟨1, true, 0, 0, [0], List.replicate 56 0, List.replicate 8 0⟩).wf = false := by decide +kernel
theorem test_wf_refuses_header_bytes : (Instr.decodeDone 0 ⟨1, true, 0, 0, List.replicate 4096 0, [0], List.replicate 8 0⟩).wf = false
    ∧ (Instr.decodeDone 0 ⟨1, true, 0, 0, List.replicate 4096 0, List.replicate 56 0, [0]⟩).wf = false
    ∧ (Instr.decodeDone 0 ⟨0, true, 0, 0, List.replicate 4096 0, List.replicate 56 0, List.replicate 8 0⟩).wf = false := by decide +kernel
theorem test_wf_refuses_replay : (Instr.replayDone 0 ⟨[], List.replicate 17 0, List.replicate 7 0, []⟩).wf = false
    ∧ (Instr.replayDone 0 ⟨List.replicate 129 0, [], List.replicate 7 0, []⟩).wf = false
    ∧ (Instr.replayDone 0 ⟨List.replicate 129 0, List.replicate 17 0, [], []⟩).wf = false
    ∧ (Instr.replayDone 0 ⟨List.replicate 129 0, List.replicate 17 0, List.replicate 7 0, [0]⟩).wf = false := by decide +kernel
theorem test_wf_refuses_readback : (Instr.calReadback 0 []).wf = false
    ∧ (Instr.calReadback 0 (List.replicate 16 [])).wf = false ∧ (Instr.blankCheck 0 []).wf = false := by decide +kernel
theorem test_wf_refuses_conversions : (Instr.catchEnd 0 [⟨0, 0, 0, 0⟩]).wf = false := by decide +kernel
theorem test_wf_refuses_record : (Instr.stageStatus 0 [0]).wf = false := by decide +kernel
theorem test_wf_refuses_lanes : (Instr.trainStep 0 (.skew [0] [0, 0, 0, 0])).wf = false ∧ (Instr.trainStep 0 (.skew [0, 0, 0, 0] [0])).wf = false
    ∧ (Instr.trainStep 0 (.locked [[]])).wf = false ∧ (Instr.deskewDone 0 [] [0, 0, 0, 0]).wf = false
    ∧ (Instr.deskewDone 0 [0, 0, 0, 0] []).wf = false := by decide +kernel
theorem test_wf_refuses_samples : (Instr.samples 0 0x20000000 [] []).wf = false ∧ (Instr.samples 0 0x10000001 [] []).wf = false
    ∧ (Instr.samples 0 0x10000000 [] [.correct [0]]).wf = false ∧ (Instr.samples 0 0x10000001 [0] []).wf = false
    ∧ (Instr.samples 0 0x10000000 [] [.adapt [true] []]).wf = false ∧ (Instr.ruling 0 0x10000000 []).wf = false
    ∧ (Instr.ruling 0 0x22000000 []).wf = false ∧ (Instr.ruling 0 0x20000001 []).wf = false := by decide +kernel
theorem test_wf_refuses_packets : (Instr.servo 0 0x20000000 [] []).wf = false ∧ (Instr.servo 0 0x30000000 (List.replicate 17 0) []).wf = false
    ∧ (Instr.servo 0 0x30000000 [] (List.replicate 17 [])).wf = false
    ∧ (Instr.servo 0 0x30000000 [] [[List.replicate 9 0]]).wf = false ∧ (Instr.penStatus 0 0x40000000 [] [0, 0, 0, 0]).wf = false
    ∧ (Instr.penStatus 0 0x40000000 (List.replicate 15 0) [0]).wf = false ∧ (Instr.penStatus 0 0x30000000 (List.replicate 15 0) [0, 0, 0, 0]).wf = false ∧ (Instr.claimStatus 0 0x50000000 []).wf = false
    ∧ (Instr.claimStatus 0 0x40000000 [0, 0, 0]).wf = false ∧ (Instr.ack 0 0 0x50000000).wf = false := by decide +kernel
theorem test_wf_refuses_transfer : (Instr.inkGrant 0 0 [⟨0, false, .read 4 .none⟩]).wf = false
    ∧ (Instr.inkGrant 0 0 [⟨0, false, .write 4 0 (List.replicate 64 0) false .none⟩]).wf = false
    ∧ (Instr.inkGrant 0 0 [⟨0, false, .write 0 0 [] false .none⟩]).wf = false := by decide +kernel
theorem test_wf_refuses_nonces : (Instr.versoLinkUp [0]).wf = false ∧ (Instr.open1 0 1 [0]).wf = false := by decide +kernel
theorem test_wf_refuses_message : (Instr.writeData 0 (List.replicate 4097 0)).wf = false := by decide +kernel
theorem test_wf_refuses_sensors : (Instr.sensorSample [0]).wf = false := by decide +kernel

/-! ### Steps and reset -/

theorem test_step_front : step { State.reset with pending := [.latch 0x2000010000, .zero] }
    = exec (.latch 0x2000010000) { State.reset with pending := [.zero] } := by rfl
theorem test_step_idle : (match step { (put [(SYS_TIME_TIME, 2 ^ 64 - 1)]) with running := true } with
    | .next t => t.get SYS_TIME_TIME == 0 | _ => false) = true := by decide +kernel
theorem test_reset_canonical : Memory.wf State.reset.mem = true ∧ State.reset.pending = [] := by decide +kernel
theorem test_canonical_premise : Memory.wf ((put [(SYS_TIME_TIME, 5), (INK_EVENT_CE, 1)]).putByte 7 1).mem = true
    ∧ Store.sorted (put [(SYS_TIME_TIME, 5), (INK_EVENT_CE, 1)]).fld = true := by decide +kernel

/-! ### Chapter 01 -/

theorem test_unassigned_offset : (blockBase (inkBase + 0xC) = some inkBase ∧ fieldsAt (inkBase + 0xC) = [] ∧ islandStopped awake (islandOf (inkBase + 0xC)) = false)
    ∧ meets (.rocRead (.scribe 7) (.block 0x200001000C) 2) awake (fun t => (t.scribe 7).value == 0 && (t.scribe 7).trap == none)
    ∧ meets (.registerWrite (.scribe 7) (.block 0x200001000C) 2 1) awake (fun t => t.fld == []) := by decide +kernel
theorem test_unassigned_bar2 : fieldsAt (mbxBase + 0x6FFC) = [] ∧ blockBase (mbxBase + 0x6FFC) = some mbxBase
    ∧ meets (.rocRead (.host 1) (.bar2 0x6FFC) 2) awake (fun t => t.returned.getD 9 0 == 0) := by decide +kernel
theorem test_register_write_w1c : meets (.registerWrite (.scribe 1) (.block 0x2000010030) 2 2) (put [(INK_EVENT_CE, 1), (INK_EVENT_UE, 1)])
    (fun t => t.get INK_EVENT_CE == 0 && t.get INK_EVENT_UE == 1) := by decide +kernel
theorem test_register_write_refused : meets (.registerWrite (.host 0) (.block 0x2000010020) 2 1) awake (fun t => t == awake)
    ∧ meets (.registerWrite (.scribe 2) (.block 0x2000010021) 2 1) awake (fun t => (t.scribe 2).trap == some (7, 0x2000010021))
    ∧ meets (.registerWrite (.scribe 2) (.block 0x2000060000) 2 1) awake (fun t => t.get SEC_EVENT_ACCESS == 1)
    ∧ meets (.registerWrite (.scribe 2) (.block 0x20000B0000) 2 1) (put [(HQ_PWR_STATUS_PS, 3)])
        (fun t => (t.scribe 2).trap == some (7, 0x20000B0000) && t.get SYS_XING_ERR_VALID == 1) := by decide +kernel
theorem test_roc_read : meets (.rocRead (.scribe 3) (.block 0x2000010414) 2) (put [(INK_CH_ERRCNT_CE 0, 7), (INK_CH_ERRCNT_UE 0, 2)])
    (fun t => (t.scribe 3).value == 2 * 65536 + 7 && t.get (INK_CH_ERRCNT_CE 0) == 0)
    ∧ meets (.rocRead (.scribe 3) (.block 0x2000010414) 2)
        { (put [(INK_CH_ERRCNT_CE 0, 65535)]) with captured := [inkBase], shadow := [((INK_CH_ERRCNT_CE 0).key, 5)] }
        (fun t => (t.scribe 3).value == 5 && t.get (INK_CH_ERRCNT_CE 0) == 65535) := by decide +kernel
theorem test_roc_read_refused : meets (.rocRead .verso (.block 0x2000010414) 2) awake (fun t => t.returned.getD 10 0 == 2 ^ 32 - 1 || t.returned.any fun e => e.2 == 2 ^ 32 - 1)
    ∧ meets (.rocRead (.scribe 3) (.block 0x2000010415) 2) awake (fun t => (t.scribe 3).trap == some (5, 0x2000010415)) := by decide +kernel
theorem test_latch : meets (.latch 0x2000010000) awake (fun t => t.get (LATCH_LATCH inkBase) == 1)
    ∧ meets (.latch 0x2000010004) awake (fun t => t == awake) := by decide +kernel
theorem test_latch_capture : meets (.latchCapture 0x2000010000)
    (put [(LATCH_LATCH inkBase, 1), (LATCH_SEQ inkBase, 255), (SYS_TIME_TIME, 9), (INK_ARB_GRANTS_GRANTS 0, 3), (INK_CH_ERRCNT_CE 0, 4)])
    (fun t => t.get (LATCH_LATCH inkBase) == 0 && t.get (LATCH_SEQ inkBase) == 0 && t.get (LATCH_TIME inkBase) == 9 && t.get (INK_ARB_GRANTS_GRANTS 0) == 0
      && t.visible inkBase (INK_CH_ERRCNT_CE 0) == 4) := by decide +kernel
theorem test_access_abandoned : meets (.accessAbandoned (.scribe 0) 0x20000B0004 false) (put [(HQ_PWR_STATUS_PS, 4), (SYS_XING_ERR_VALID, 1), (SYS_XING_ERR_ISLAND, 9)])
    (fun t => t.get SYS_XING_ERR_OVERRUN == 1 && t.get SYS_XING_ERR_ISLAND == 9 && (t.scribe 0).trap == some (5, 0x20000B0004))
    ∧ meets (.accessAbandoned (.host 1) 0x20000B0004 false) (put [(HQ_PWR_STATUS_PS, 3)])
        (fun t => t.get SYS_XING_ERR_ISLAND == 4 && t.returned.getD 9 0 == 2 ^ 32 - 1)
    ∧ meets (.accessAbandoned (.scribe 0) 0x20000B0004 false) (put [(HQ_PWR_STATUS_PS, 2)]) (fun t => t == put [(HQ_PWR_STATUS_PS, 2)]) := by decide +kernel

/-! ### Chapter 02 -/

theorem test_rul_enable : meets (.rulEnable 3) (put [(RUL_PERIODS_M_RNI 3, 960), (RUL_PERIODS_M_RNO 3, 1), (MOT_SP_SPEED_MEAS 1, 16)])
    (fun t => t.get (RUL_STATUS_STATE 3) == 1 && t.get (RUL_FREQ_PERIOD_RATE 3) == 16384)
    ∧ meets (.rulEnable 3) (put [(RUL_PERIODS_M_RNI 3, 960)]) (fun t => t.get (RUL_STATUS_STATE 3) == 0 && t.get (RUL_EVENT_CFG_ERR 3) == 1)
    ∧ meets (.rulEnable 3) (put [(RUL_STATUS_STATE 3, 4)]) (fun t => t.get (RUL_STATUS_STATE 3) == 4 && t.get (RUL_CTRL_ENABLE 3) == 1) := by decide +kernel
theorem test_rul_disable : meets (.rulDisable 15) (put [(RUL_CTRL_ENABLE 15, 1), (RUL_STATUS_STATE 15, 7), (RUL_STATUS_ANGLE_VALID 15, 1)])
    (fun t => t.get (RUL_STATUS_STATE 15) == 0 && t.get (RUL_STATUS_ANGLE_VALID 15) == 0)
    ∧ meets (.rulDisable 15) awake (fun t => t.get (RUL_STATUS_STATE 15) == 0) := by decide +kernel
theorem test_rul_jump_set : meets (.rulJumpSet 0) (put [(RUL_STATUS_STATE 0, 6)]) (fun t => t.get (RUL_STATUS_STATE 0) == 7)
    ∧ meets (.rulJumpSet 0) (put [(RUL_STATUS_STATE 0, 4)]) (fun t => t.get (RUL_STATUS_STATE 0) == 7)
    ∧ meets (.rulJumpSet 0) (put [(RUL_STATUS_STATE 0, 3)]) (fun t => t.get (RUL_STATUS_STATE 0) == 3 && t.get (RUL_CTRL_JUMP 0) == 1) := by decide +kernel
theorem test_rul_jump_clear : meets (.rulJumpClear 1) (put [(RUL_CTRL_JUMP 1, 1), (RUL_STATUS_STATE 1, 7), (RUL_STATUS_ANGLE_VALID 1, 1), (RUL_REV_REV 1, 8)])
    (fun t => t.get (RUL_STATUS_STATE 1) == 3 && t.get (RUL_STATUS_ANGLE_VALID 1) == 1 && t.get (RUL_REV_REV 1) == 0)
    ∧ meets (.rulJumpClear 1) ((put [(RUL_STATUS_STATE 1, 7)]).modRul 1 fun r => { r with holdExpired := true })
        (fun t => t.get (RUL_STATUS_STATE 1) == 1 && t.get (RUL_CTRL_JUMP 1) == 0)
    ∧ meets (.rulJumpClear 1) (put [(RUL_STATUS_STATE 1, 4)]) (fun t => t.get (RUL_STATUS_STATE 1) == 4) := by decide +kernel
theorem test_rul_band_write : meets (.rulBandWrite 2 .band 0x12345800) (put [(RUL_STATUS_STATE 2, 7), (RUL_STATUS_TRACK_MATCH 2, 1)])
    (fun t => t.get (RUL_BAND_TRACK 2) == 0x1234 && t.get (RUL_BAND_LAYER 2) == 5 && t.get (RUL_BAND_SIDE 2) == 1 && t.get (RUL_STATUS_TRACK_MATCH 2) == 0)
    ∧ meets (.rulBandWrite 2 .band 0x12345800) (put [(RUL_STATUS_STATE 2, 1)]) (fun t => t.get (RUL_EVENT_CFG_ERR 2) == 1 && t.get (RUL_BAND_TRACK 2) == 0)
    ∧ meets (.rulBandWrite 2 .periods 0x00020003) (put [(RUL_CTRL_ENABLE 2, 1)])
        (fun t => t.get (RUL_PERIODS_M_RNO 2) == 2 && t.get (RUL_PERIODS_M_RNI 2) == 3 && t.get (RUL_STATUS_STATE 2) == 1)
    ∧ meets (.rulBandWrite 2 .periods 1) (put [(RUL_STATUS_STATE 2, 6)]) (fun t => t.get (RUL_EVENT_CFG_ERR 2) == 1) := by decide +kernel
theorem test_freq_acquired : meets (.freqAcquired 4 77 199 64) (put [(RUL_STATUS_STATE 4, 1)])
    (fun t => t.get (RUL_STATUS_STATE 4) == 2 && t.get (RUL_FREQ_PERIOD_RATE 4) == 77)
    ∧ meets (.freqAcquired 4 77 200 64) (put [(RUL_STATUS_STATE 4, 1)]) (fun t => t.get (RUL_STATUS_STATE 4) == 1)
    ∧ meets (.freqAcquired 4 77 199 63) (put [(RUL_STATUS_STATE 4, 1)]) (fun t => t.get (RUL_STATUS_STATE 4) == 1) := by decide +kernel
theorem test_phase_acquired : meets (.phaseAcquired 4 255 256 true false) (put [(RUL_STATUS_STATE 4, 2), (RUL_CTRL_USE_RNI 4, 1), (RUL_CTRL_USE_RNO 4, 1)])
    (fun t => t.get (RUL_STATUS_STATE 4) == 3 && t.get (RUL_STATUS_CLK_SRC 4) == 1 && t.get (RUL_STATUS_RNI_OK 4) == 1 && t.get (RUL_STATUS_RNO_OK 4) == 0)
    ∧ meets (.phaseAcquired 4 256 256 true false) (put [(RUL_STATUS_STATE 4, 2)]) (fun t => t.get (RUL_STATUS_STATE 4) == 2) := by decide +kernel
theorem test_acq_timeout : meets (.acqTimeout 4 200) (put [(RUL_STATUS_STATE 4, 2)]) (fun t => t.get (RUL_STATUS_STATE 4) == 1 && t.get (RUL_EVENT_ACQ_TIMEOUT 4) == 1)
    ∧ meets (.acqTimeout 4 32) (put [(RUL_STATUS_STATE 4, 3)]) (fun t => t.get (RUL_STATUS_STATE 4) == 1)
    ∧ meets (.acqTimeout 4 199) (put [(RUL_STATUS_STATE 4, 2)]) (fun t => t.get (RUL_STATUS_STATE 4) == 2)
    ∧ meets (.acqTimeout 4 31) (put [(RUL_STATUS_STATE 4, 3)]) (fun t => t.get (RUL_STATUS_STATE 4) == 3) := by decide +kernel
theorem test_freq_word_send : meets (.freqWordSend 5 0xABC) (put [(LK_STATUS_STATE 5, 5), (VRS_OUT_CLASS 5, 12), (RUL_STATUS_STATE 5, 1)])
    (fun t => (t.link 5).freqWord == some 0xABC)
    ∧ meets (.freqWordSend 5 0xABC) (put [(LK_STATUS_STATE 5, 5), (VRS_OUT_CLASS 5, 4), (RUL_STATUS_STATE 5, 1)])
        (fun t => (t.link 5).freqWord == none) := by decide +kernel
theorem test_addr_word_holdover : meets (.addrWord 6 none none 7 9) ((put [(RUL_STATUS_STATE 6, 6), (RUL_PERIODS_M_RNI 6, 10), (RUL_REV_REV 6, 2)]).modRul 6 fun r => { r with count := 10239 })
    (fun t => (t.ruling 6).count == 0 && t.get (RUL_ANGLE_BIN 6) == 0 && t.get (RUL_REV_REV 6) == 3)
    ∧ meets (.addrWord 6 none none 7 9) ((put [(RUL_STATUS_STATE 6, 7), (RUL_PERIODS_M_RNI 6, 10)]).modRul 6 fun r => { r with count := 5 })
        (fun t => (t.ruling 6).count == 10 && t.get (RUL_ANGLE_BIN 6) == 1)
    ∧ meets (.addrWord 6 none none 7 9) (put [(RUL_STATUS_STATE 6, 4), (RUL_PERIODS_M_RNI 6, 10)]) (fun t => t.get (RUL_COUNTS_ADDR_CRC 6) == 1)
    ∧ meets (.addrWord 6 none none 7 9) (put [(RUL_STATUS_STATE 6, 2)]) (fun t => t == put [(RUL_STATUS_STATE 6, 2)]) := by decide +kernel
theorem test_ruling_nib_lost : meets (.rulingNibLost 7 .rni .useBit) (put [(RUL_CTRL_USE_RNI 7, 0), (RUL_STATUS_STATE 7, 4), (RUL_STATUS_RNI_OK 7, 1), (RUL_STATUS_RNO_OK 7, 1)])
    (fun t => t.get (RUL_STATUS_STATE 7) == 5 && t.get (RUL_STATUS_RNI_OK 7) == 0 && t.get (RUL_EVENT_RNI_LOST 7) == 1)
    ∧ meets (.rulingNibLost 7 .rno .useBit) (put [(RUL_CTRL_USE_RNO 7, 0), (RUL_STATUS_STATE 7, 5), (RUL_STATUS_RNO_OK 7, 1)])
        (fun t => t.get (RUL_STATUS_STATE 7) == 6 && t.get (RUL_EVENT_HOLDOVER 7) == 1) := by decide +kernel
theorem test_ruling_nib_good : meets (.rulingNibGood 7 .rno 255 256 true none) (put [(RUL_STATUS_STATE 7, 5), (RUL_STATUS_RNI_OK 7, 1), (RUL_CTRL_USE_RNO 7, 1)])
    (fun t => t.get (RUL_STATUS_STATE 7) == 4 && t.get (RUL_STATUS_RNO_OK 7) == 1)
    ∧ meets (.rulingNibGood 7 .rno 256 256 true none) (put [(RUL_STATUS_STATE 7, 5), (RUL_CTRL_USE_RNO 7, 1)])
        (fun t => t.get (RUL_STATUS_STATE 7) == 5) := by decide +kernel
theorem test_hold_limit : meets (.holdLimit 8 200) (put [(RUL_STATUS_STATE 8, 6), (RUL_STATUS_ANGLE_VALID 8, 1)])
    (fun t => t.get (RUL_STATUS_STATE 8) == 1 && t.get (RUL_EVENT_UNLOCK 8) == 1 && t.get (RUL_STATUS_ANGLE_VALID 8) == 0)
    ∧ meets (.holdLimit 8 200) (put [(RUL_STATUS_STATE 8, 7), (RUL_STATUS_ANGLE_VALID 8, 1)])
        (fun t => t.get (RUL_STATUS_STATE 8) == 7 && t.get (RUL_STATUS_ANGLE_VALID 8) == 0)
    ∧ meets (.holdLimit 8 199) (put [(RUL_STATUS_STATE 8, 6)]) (fun t => t.get (RUL_STATUS_STATE 8) == 6) := by decide +kernel

/-! ### Chapter 03 -/

/-- Nib 0 of pen 0 on, as after a boundary. -/
def nibBusy : State := ((put [(RC_CTRL_ENABLE 0, 1), (RC_CTRL_NIB_EN 0, 1)]).modNib 0 0 fun b => { b with cws := [{ f := 1, idx := 0, sample := 0 }], peaks := [6400], peak := 1000 })

/-- That nib with the decisions of a mark of w bits taken on its samples from index 0, and a codeword predicted to start at a sample index. -/
def marked (w mark : Nat) (at_ : Int) : State := nibBusy.modNib 0 0 fun b =>
  { b with at_ := w, dec := ((markBits w mark).map fun x => if x then (1, 1) else (-1, -1)).reverse, cws := [{ f := 1, idx := 0, sample := at_, err := 9 * 2 ^ 114, judged := 1 }] }

/-- Nib 0 of pen 0 on, its count 3 periods past the predicted start of codeword 3 of the folio at 7. -/
def nibAhead : State := (((put [(RC_CTRL_ENABLE 0, 1), (RC_CTRL_NIB_EN 0, 1), (RUL_STATUS_ANGLE_VALID 0, 1), (RUL_PERIODS_M_RNI 0, 960)]).modRul 0 fun r =>
  { r with count := 15635, sub := 4 }).modNib 0 16 fun b => { b with at_ := 100 })

/-- The catalogue's check value of the CRC-64 with the ECMA-182 polynomial, ones in and out, of "123456789". -/
theorem test_crc64 : crc64 [0x31, 0x32, 0x33, 0x34, 0x35, 0x36, 0x37, 0x38, 0x39] = 0x995DC9BBDF1939FA := by decide +kernel
theorem test_llr : llrOf 64 5 = 5 ∧ llrOf 64 (-40) = -31 ∧ llrOf 32 62 = 31 ∧ llrOf 16 (-3) = -1 := by decide +kernel
theorem test_rc_ctrl_write : meets (.rcCtrlWrite 1 0xFFFF0011) (put [(LK_STATUS_GEN 1, 1)])
    (fun t => t.get (RC_CTRL_ENABLE 1) == 1 && t.get (RC_CTRL_EDGE_SRC 1) == 1 && t.get (RC_CTRL_NIB_EN 1) == 0xFF)
    ∧ meets (.rcCtrlWrite 1 0xFFFF0000) awake (fun t => t.get (RC_CTRL_NIB_EN 1) == 0xFFFF) := by decide +kernel
theorem test_zt_dir_write : meets (.ztDirWrite 1 2047 0xA501) awake (fun t => t.get (RC_ZT_DIR_GEN 1 2047) == 0xA5 && t.get (RC_ZT_DIR_VALID 1 2047) == 1) := by decide +kernel
theorem test_blot : (nibOn nibBusy 0 0 = true ∧ blotFires nibBusy 0 0 .env = true ∧ blotFires (nibBusy.modNib 0 0 fun b => { b with peak := 6400 }) 0 0 .env = false)
    ∧ meets (.blotStart 0 0 .env 900) nibBusy
      (fun t => t.get (RC_NIB_STATUS_BLOT_ACTIVE 0 0) == 1 && t.get (RC_EVENT_BLOT 0) == 1 && t.get (RC_NIB_CNT_BLOT_BLOTS 0 0) == 1 && (t.nib 0 0).blotFrom.isSome)
    ∧ meets (.blotStart 0 0 .env 900) awake (fun t => t == awake) := by decide +kernel
theorem test_blot_end : meets (.blotEnd 0 0 100) (nibBusy.modNib 0 0 fun b => { b with blotFrom := some 10 })
      (fun t => (t.nib 0 0).blotFrom == none && ((t.nib 0 0).cws.map fun c => c.spans) == [[(10, 218)]])
    ∧ meets (.blotEnd 0 0 100) nibBusy (fun t => t == nibBusy) := by decide +kernel
theorem test_cw_boundary : sincePredicted nibAhead 0 7 3 = some 3
    ∧ meets (.cwBoundary 0 0 7 3 0) nibAhead
      (fun t => ((t.nib 0 0).cws.map fun c => (c.f, c.idx, c.spans, c.sample)) == [(7, 3, [], 72)])
    ∧ meets (.cwBoundary 0 5 7 3 0) nibAhead (fun t => t == nibAhead)
    ∧ meets (.cwBoundary 0 0 7 3 0) nibBusy (fun t => t == nibBusy) := by decide +kernel
theorem test_preset_fetch_done : meets (.presetFetchDone 0 0 false) (nibBusy.modNib 0 0 fun b => { b with fetching := some ⟨0, 0, 0, 0⟩ })
      (fun t => (t.nib 0 0).fetching == none && (t.nib 0 0).fetched.isSome && t.get (RC_EVENT_ZT_MISS 0) == 0)
    ∧ meets (.presetFetchDone 0 0 true) (nibBusy.modNib 0 0 fun b => { b with fetching := some ⟨0, 0, 0, 0⟩ })
      (fun t => (t.nib 0 0).fetched == none && t.get (RC_EVENT_ZT_MISS 0) == 1) := by decide +kernel
theorem test_searches : meets (.syncSearch 0 0) (marked 48 0x1F3CA5D26B0E 0)
      (fun t => (t.nib 0 0).cws.map (fun c => (c.syncScore, c.sync)) == [(48, some (0, 48))])
    ∧ meets (.syncSearch 0 0) (marked 48 0x1F3CA5D26B0E (-3)) (fun t => (t.nib 0 0).cws.map (fun c => c.sync) == [some (3, 48)])
    ∧ meets (.resyncSearch 0 0) nibBusy (fun t => (t.nib 0 0).cws.map (fun c => (c.resync, c.resyncScore)) == [(none, 0)])
    ∧ meets (.resyncSearch 0 0) (marked 24 0xE2B478 (-19351)) (fun t => (t.nib 0 0).cws.map (fun c => (c.resync, c.resyncScore)) == [(some (-2, 24), 24)])
    ∧ meets (.slipTest 0 0 [0, 0, 0, 0, 0, 0, 0]) nibBusy (fun t => t == nibBusy)
    ∧ meets (.slipTest 0 0 [9, 9, 9, 9, 4, 4, 9]) (nibBusy.modNib 0 0 fun b => { b with cws := [{ f := 1, idx := 0, sample := 0, sync := some (0, 48), resync := some (2, 24) }] })
      (fun t => (t.nib 0 0).cws.map (fun c => c.shift) == [some 1]) := by decide +kernel
theorem test_cw_framed : meets (.cwFramed 0 0 []) (marked 0 0 0)
      (fun t => t.get (RC_NIB_MSE_MSE 0 0) == 9 && t.get (RC_NIB_SYNC_FLYWHEEL 0 0) == 1 && t.get (RC_NIB_STATUS_FLY_RUN 0 0) == 1 && t.get (RC_NIB_CNT_CW_CODEWORDS 0 0) == 1
        && (t.nib 0 0).cws == [])
    ∧ meets (.cwFramed 0 0 []) (nibBusy.set (RC_NIB_STATUS_FLY_RUN 0 0) 1)
      (fun t => t.get (RC_NIB_STATUS_FLY_RUN 0 0) == 0 && t.get (RUL_EVENT_SLIP_SUSPECT 0) == 1)
    ∧ meets (.cwFramed 0 1 []) nibBusy (fun t => t == nibBusy) := by decide +kernel

/-! ### Chapter 04 -/

/-- A codeword of pen 0, nib 0. -/
def aCw : Cw := { pen := 0, nib := 0, f := 0, idx := 0, dest := 0x1000, track := 0, layer := 0, side := 0, key := 0xFFFF, bypass := true, verify := false
                  desc := 0, status := 0, spans := [], syncWord := 0, sample := 0, preset := ⟨0, 0, 0, 0⟩, altValid := false, llrs := [] }
/-- The decoder pool as given. -/
def pool (p : Ldpc) : State := { (put [(LDPC_CTRL_ENABLE, 1)]) with ldpc := p }
/-- A decode that succeeds. -/
def goodDecode : DecodeResult := ⟨5, true, 40, 0, [1, 2, 3], [], leBytes 8 (infoCrc [1, 2, 3] [])⟩

theorem test_core_schedule : meets (.coreSchedule 3) (pool { cws := [(7, aCw)], l0q := [7, 8] }) (fun t => t.ldpc.l0q == [8] && (t.ldpc.busy.find? 3).isSome)
    ∧ meets (.coreSchedule 3) (pool { cws := [(7, { aCw with rung := 1, phase := .l1 })], retryq := [(7, .retry)] })
        (fun t => t.ldpc.retryq == [] && ((t.ldpc.busy.find? 3).map fun k => k.kind) == some .retry)
    ∧ meets (.coreSchedule 3) (pool { busy := [(3, ⟨1, .l0, 8⟩)], l0q := [7] }) (fun t => t.ldpc.l0q == [7]) := by decide +kernel
theorem test_core_schedule_limit : meets (.coreSchedule 3) ((pool { retryq := [(7, .retry)] }).set LDPC_SCHED_RETRY_MAX 0) (fun t => t.ldpc.retryq == [(7, .retry)])
    ∧ meets (.coreSchedule 3) (pool {}) (fun t => t == pool {}) := by decide +kernel
theorem test_decode_done : meets (.decodeDone 3 goodDecode) (pool { cws := [(7, aCw)], busy := [(3, ⟨7, .l0, 8⟩)] })
      (fun t => t.ldpc.busy == [] && t.cw? 7 == none && t.byte 0x1000 == 1 && t.byte 0x1002 == 3 && t.byte 0x1003 == 0)
    ∧ meets (.decodeDone 3 { goodDecode with zero := false }) (pool { cws := [(7, aCw)], busy := [(3, ⟨7, .l0, 8⟩)] })
      (fun t => t.ldpc.spillq == [7] && (t.cw? 7).map (fun c => c.phase) == some .spilling && t.byte 0x1000 == 0) := by decide +kernel
theorem test_decode_done_full : meets (.decodeDone 3 { goodDecode with zero := false })
      ((pool { cws := [(7, aCw)], busy := [(3, ⟨7, .l0, 8⟩)] }).set LDPC_SPILL_CFG_SLOTS 0) (fun t => t.get LDPC_EVENT_SPILL_FULL == 1)
    ∧ meets (.decodeDone 3 goodDecode) (pool {}) (fun t => t == pool {}) := by decide +kernel
theorem test_spill_copy_done : meets .spillCopyDone ((pool { cws := [(7, { aCw with phase := .spilling, slot := none })], spillq := [7] }).set LDPC_CTRL_RUNG_EN 0x7F)
      (fun t => t.ldpc.spillq == [] && t.ldpc.retryq == [(7, .retry)] && (t.cw? 7).map (fun c => (c.phase, c.rung, c.inBuf)) == some (.l1, 1, false))
    ∧ meets .spillCopyDone (pool {}) (fun t => t == pool {}) := by decide +kernel
theorem test_samples_lost : meets (.samplesLost 0 0) (pool { cws := [(7, { aCw with phase := .spilling })], spillq := [7] })
      (fun t => t.get LDPC_EVENT_SAMPLES_LOST == 1 && (t.cw? 7).map (fun c => c.status) == some 128)
    ∧ meets (.samplesLost 0 0) (pool {}) (fun t => t == pool {}) := by decide +kernel
/-- A replay whose window shows neither mark. -/
def noMarks : Replay := ⟨List.replicate 129 0, List.replicate 17 0, List.replicate 7 0, []⟩

theorem test_replay_done : meets (.replayDone 3 noMarks) (pool { cws := [(7, { aCw with phase := .l2, rung := 2 })], chans := [(3, 7)] })
      (fun t => (t.cw? 7).map (fun c => c.replayReady) == some true && t.ldpc.retryq == [(7, .retry)])
    ∧ meets (.replayDone 3 noMarks) (pool { cws := [(7, { aCw with phase := .l1, rung := 1 })], chans := [(3, 7)] })
      (fun t => (t.cw? 7).map (fun c => c.replayReady) == some true && t.ldpc.retryq == [])
    ∧ meets (.replayDone 3 noMarks) (pool { cws := [(7, { aCw with phase := .l3, rung := 3, passes := 1 })], chans := [(3, 7)] })
      (fun t => (t.cw? 7).map (fun c => c.passes) == some 2)
    ∧ meets (.replayDone 3 noMarks) (pool { cws := [(7, { aCw with phase := .l3, rung := 3, passes := 2 })], chans := [(3, 7)] })
      (fun t => t.ldpc.retryq == [(7, .neighbour true)]) := by decide +kernel
/-- The pool, its ruling locked on the band that PENn_RUL_BAND names. -/
def onBand (p : Ldpc) : State := ((pool p).set (RUL_STATUS_STATE 0) 4).set (RUL_STATUS_TRACK_MATCH 0) 1

theorem test_revisit_start : revisitReady ((onBand { cws := [(7, { aCw with phase := .pending, rung := 4 })] }).set (RUL_STATUS_LAYER_MATCH 0) 1) 0 = true
    ∧ revisitReady (onBand { cws := [(7, { aCw with phase := .pending, rung := 4 })] }) 0 = false
    ∧ meets (.revisitStart 0) ((onBand { cws := [(7, { aCw with phase := .pending, rung := 4 })] }).set (RUL_STATUS_LAYER_MATCH 0) 1) (fun t => (t.revisit 0).running)
    ∧ meets (.revisitStart 0) (pool {}) (fun t => t == pool {}) := by decide +kernel
theorem test_revisit_step : meets (.revisitStep 0) (pool { cws := [(7, { aCw with phase := .pending, rung := 7 })], revisit := [(0, { running := true, step := 6 })] })
      (fun t => (t.revisit 0).step == 7 && (t.revisit 0).todo == [7] && t.readPower.getD 0 0 == t.get LDPC_RETRY_CFG_POWER_STEP)
    ∧ meets (.revisitStep 0) (pool { cws := [(7, { aCw with phase := .pending, rung := 7 })], revisit := [(0, { running := true, step := 6, todo := [7], stop_ := 1000 })] })
      (fun t => (t.revisit 0).step == 6)
    ∧ meets (.revisitStep 0) (pool { revisit := [(0, { running := true, step := 2 })] }) (fun t => (t.revisit 0) == {})
    ∧ meets (.revisitStep 0) ((pool { cws := [(7, { aCw with phase := .pending, rung := 4 })], revisit := [(0, { running := true, step := 2 })] }).set LDPC_CTRL_PARK 1)
      (fun t => (t.revisit 0) == { step := 2 }) := by decide +kernel
theorem test_park_write : meets (.parkWrite true) awake (fun t => t.get LDPC_CTRL_PARK == 1)
    ∧ meets (.parkWrite false) (put [(LDPC_CTRL_PARK, 1)]) (fun t => t.get LDPC_CTRL_PARK == 0) := by decide +kernel
theorem test_core_offline_write : meets (.coreOfflineWrite 0x3FFF) awake
      (fun t => t.get LDPC_CORE_OFFLINE_OFFLINE == 0x3FFF && !t.bit LDPC_CORE_ONLINE_ONLINE 13 && t.bit LDPC_CORE_ONLINE_ONLINE 14)
    ∧ meets (.coreOfflineWrite 0x7FFF) awake (fun t => offlineCount (t.get LDPC_CORE_OFFLINE_OFFLINE) == 14) := by decide +kernel
theorem test_core_test : meets (.coreTest 5) awake (fun t => t.get LDPC_CORE_TEST_CORE == 5 && t.get LDPC_CORE_TEST_DONE == 1 && t.get LDPC_CORE_TEST_PASS == 0)
    ∧ meets (.coreTest 5) (put [(LDPC_CORE_ONLINE_ONLINE, 0)]) (fun t => t.get LDPC_CORE_TEST_DONE == 0 && t.get LDPC_CORE_TEST_START == 1) := by decide +kernel
theorem test_core_test_done : meets (.coreTestDone true) (put [(LDPC_CORE_TEST_START, 1)])
      (fun t => t.get LDPC_CORE_TEST_PASS == 1 && t.get LDPC_CORE_TEST_START == 0 && t.get LDPC_EVENT_TEST_DONE == 1)
    ∧ meets (.coreTestDone true) awake (fun t => t == awake) := by decide +kernel
theorem test_capture_arm : meets (.captureArm 0x40A00350) (put [(LDPC_SPILL_CFG_SLOTS, 10)])
      (fun t => t.get LDPC_CAPTURE_PEN == 3 && t.get LDPC_CAPTURE_NIB == 5 && t.get LDPC_CAPTURE_SLOT == 10 && t.get LDPC_CAPTURE_ARM == 1)
    ∧ meets (.captureArm 0x40900350) (put [(LDPC_SPILL_CFG_SLOTS, 10)])
      (fun t => t.get LDPC_CAPTURE_ARM == 0 && t.get LDPC_CAPTURE_DONE == 1 && t.get LDPC_CAPTURE_OK == 0) := by decide +kernel
theorem test_capture_done : (∃ t, exec .captureDone ((pool { capture := some aCw }).set LDPC_CAPTURE_ARM 1) = .next t)
    ∧ meets .captureDone awake (fun t => t == awake) := ⟨⟨_, rfl⟩, by decide +kernel⟩

/-! ### Chapter 05 -/

/-- A WRITE of nib 0. -/
def aDesc : Desc := { idx := 0, kind := 1, nib := 0, layer := 0, side := 0, bypass := true, irq := false, band := 0, mask := 0, f := 9, key := 0xFFFF
                      data := 0x2000, hdr := 0x3000 }
/-- The write channel of pen 0 as given, enabled. -/
def writing (l : List (Fld × Nat)) (w : Wc) : State := (put ((WC_CTRL_ENABLE 0, 1) :: l)).modWc 0 fun _ => w
/-- Where a burn may begin (R44, R132). -/
def burnable : State := writing [(RUL_STATUS_WRITE_OK 0, 1), (VRS_OUT_CLASS 0, 12), (SV_STATUS_FOCUS_STATE 0, 4), (SV_STATUS_F_LOCKED 0, 1),
  (SV_STATUS_TRACK_STATE 0, 3), (SV_STATUS_T_LOCKED 0, 1), (WC_STATUS_STATE 0, 2)] { group := [aDesc], started := true }

theorem test_fq_head_write : meets (.fqHeadWrite 0 0xFFFFFFFF) awake (fun t => t.get (FQ_HEAD_HEAD 0) == 0xFFFFFFFF) := by decide +kernel
theorem test_group_form : meets (.groupForm 0) ((writing [(FQ_HEAD_HEAD 0, 1)] {}).putByte 0 3) (fun t => t.get (WC_STATUS_STATE 0) == 4 && ((t.writeCh 0).group.head?.map fun d => d.kind) == some 3)
    ∧ meets (.groupForm 0) ((writing [(FQ_HEAD_HEAD 0, 1)] {}).putByte 0 1) (fun t => t.get (WC_STATUS_STATE 0) == 1)
    ∧ meets (.groupForm 0) (writing [] {}) (fun t => t == writing [] {}) := by decide +kernel
theorem test_group_start : meets (.groupStart 0) (writing [(WC_STATUS_STATE 0, 1), (RUL_STATUS_STATE 0, 5)] { group := [aDesc] })
      (fun t => t.get (WC_STATUS_STATE 0) == 2 && (t.writeCh 0).started)
    ∧ meets (.groupStart 0) (writing [(WC_STATUS_STATE 0, 1), (RUL_STATUS_STATE 0, 4), (WC_CTRL_HALT 0, 1)] { group := [aDesc] })
      (fun t => t.get (WC_STATUS_STATE 0) == 3)
    ∧ meets (.groupStart 0) (writing [(WC_STATUS_STATE 0, 1), (RUL_STATUS_STATE 0, 3)] { group := [aDesc] }) (fun t => !(t.writeCh 0).started) := by decide +kernel
theorem test_group_end : meets (.groupEnd 0) (writing [(FQ_TAIL_TAIL 0, 0xFFFFFFFF)] { group := [{ aDesc with done := true }], started := true })
      (fun t => t.get (FQ_TAIL_TAIL 0) == 0 && t.get (WC_EVENT_GROUP_DONE 0) == 1 && (t.writeCh 0).group == [])
    ∧ meets (.groupEnd 0) (writing [] { group := [aDesc] }) (fun t => t == writing [] { group := [aDesc] }) := by decide +kernel
theorem test_slot_arrival : (mayBurn burnable 0 16384 = true ∧ slotDesc burnable 0 0 9 = some aDesc)
    ∧ meets (.slotArrival 0 0 9 16384 77) burnable (fun t => (t.writeCh 0).group.map (fun d => d.burning) == [1] && ((t.link 0).slots.find? 0).map (fun x => x.start) == some 77)
    ∧ meets (.slotArrival 0 0 9 16383 77) burnable (fun t => (t.writeCh 0).group == [aDesc] && (t.link 0).slots == []) := by decide +kernel
theorem test_burn_done : meets (.burnDone 0 0) (writing [] { group := [{ aDesc with burning := 1 }], started := true })
      (fun t => t.get (WC_CNT_FOLIO_BURNED 0) == 1 && (t.writeCh 0).group.map (fun d => (d.burning, d.burned)) == [(0, 1)])
    ∧ meets (.burnDone 0 0) burnable (fun t => t == burnable) := by decide +kernel
theorem test_write_underrun : meets (.writeUnderrun 0 0) (writing [] { group := [{ aDesc with burning := 1 }], started := true })
      (fun t => (t.writeCh 0).group.map (fun d => d.verdict.isSome) == [true] && (t.link 0).abort.testBit 0) := by decide +kernel
theorem test_verify_read : meets (.verifyRead 0 0) (writing [] { group := [{ aDesc with burned := 1, judged := [(0, 0xFFFF)], good := [(0, 0xFFFF)] }], started := true })
      (fun t => (desc? t 0 0).map (fun d => (d.verdict, d.pass)) == some (some 0, 0xFFFF))
    ∧ meets (.verifyRead 0 0) (writing [] { group := [{ aDesc with burned := 1, judged := [(0, 0xFFFF)], good := [(0, 0xFFFE)] }], started := true })
      (fun t => (desc? t 0 0).map (fun d => d.verdict) == some (some 1) && t.get (WC_CNT_FAIL_VERIFY_FAIL 0) == 1)
    ∧ meets (.verifyRead 0 0) burnable (fun t => t == burnable) := by decide +kernel
theorem test_desc_complete : meets (.descComplete 0 0) (writing [(SYS_TIME_TIME, 0x0102), (FQ_BASE_BASE 0, 1)] { group := [{ aDesc with verdict := some 7, pass := 0x0A }], started := true })
      (fun t => t.get (WC_EVENT_COL_FAIL 0) == 1 && t.byte 0x1030 == 7 && t.byte 0x1032 == 10 && t.byte 0x1038 == 2 && t.byte 0x1039 == 1)
    ∧ meets (.descComplete 0 0) burnable (fun t => t == burnable) := by decide +kernel
theorem test_colophon_gate : meets (.colophonGate 0) (writing [(WC_STATUS_STATE 0, 4)] { group := [{ aDesc with kind := 3 }] }) (fun t => t.get (WC_STATUS_STATE 0) == 1)
    ∧ meets (.colophonGate 0) (writing [(WC_STATUS_STATE 0, 4)] { group := [{ aDesc with kind := 3 }], ledger := [(1, true)] })
      (fun t => (desc? t 0 0).map (fun d => d.verdict) == some (some 6)) := by decide +kernel
theorem test_colophon_readback : meets (.colophonReadback 0)
      (writing [(WC_CTRL_COL_QUORUM 0, 2)] { group := [{ aDesc with kind := 3, mask := 3, burned := 3, judged := [(0, 0xFFFF), (1, 0xFFFF)], good := [(0, 0xFFFF), (1, 0xFFFF)] }], started := true })
      (fun t => (desc? t 0 0).map (fun d => d.verdict) == some (some 0))
    ∧ meets (.colophonReadback 0)
      (writing [(WC_CTRL_COL_QUORUM 0, 2)] { group := [{ aDesc with kind := 3, mask := 3, burned := 3, judged := [(0, 0xFFFF), (1, 0xFFFF)], good := [(0, 0xFFFF), (1, 0x7FFF)] }], started := true })
      (fun t => (desc? t 0 0).map (fun d => d.verdict) == some (some 7) && t.get (WC_CNT_FAIL_VERIFY_FAIL 0) == 1) := by decide +kernel
theorem test_blank_check : meets (.blankCheck 0 (List.replicate 16 0)) (writing [] { group := [{ aDesc with kind := 5, mask := 3 }], started := true })
      (fun t => (desc? t 0 0).map (fun d => d.verdict) == some (some 0)) := by decide +kernel
theorem test_gate_clr : meets (.gateClr 0) (writing [(WC_GATE_GATE_OVF 0, 1), (WC_GATE_ENTRIES 0, 3)] { ledger := [(1, true)] })
      (fun t => (t.writeCh 0).ledger == [] && t.get (WC_GATE_GATE_OVF 0) == 0 && t.get (WC_GATE_ENTRIES 0) == 0) := by decide +kernel
theorem test_ws_load : meets (.wsLoad 0 0x400000F3) (put [(VRS_OUT_CLASS 0, 12)]) (fun t => t.get (WC_WS_LOAD_START 0) == 1 && (t.link 0).tableSent == some (15, 3))
    ∧ meets (.wsLoad 0 0x400000F0) (writing [] { group := [aDesc], started := true }) (fun t => t.get (WC_WS_LOAD_DONE 0) == 1 && t.get (WC_WS_LOAD_OK 0) == 0)
    ∧ meets (.wsLoadDone 0 true) (writing [] { loading := some (15, 3, [1]) }) (fun t => t.get (WC_WS_LOAD_OK 0) == 1 && (t.writeCh 0).loading == none && (t.writeCh 0).tables == [(63, [1])]) := by decide +kernel
theorem test_halt_write : meets (.haltWrite 0 true) burnable (fun t => t.get (WC_STATUS_STATE 0) == 3 && t.get (WC_CTRL_HALT 0) == 1)
    ∧ meets (.haltWrite 0 false) (burnable.set (WC_CTRL_HALT 0) 1) (fun t => t.get (WC_STATUS_STATE 0) == 2 && t.get (WC_CTRL_HALT 0) == 0) := by decide +kernel
theorem test_wc_disable : meets (.wcDisable 0) (writing [] { ledger := [(1, true)] }) (fun t => t.get (WC_CTRL_ENABLE 0) == 0 && (t.writeCh 0).ledger == [])
    ∧ meets (.writeHoldRise 0) awake (fun t => t.get (WC_STATUS_WRITE_HOLD 0) == 1 && t.get (WC_EVENT_WRITE_HOLD 0) == 1) := by decide +kernel
theorem test_read_desc : meets (.readDesc 0 0) (writing [] { group := [{ aDesc with kind := 0, mask := 3, pass := 1, bad := 2 }], started := true })
      (fun t => (desc? t 0 0).map (fun d => d.verdict) == some (some 8))
    ∧ meets (.readDesc 0 0) (writing [] { group := [{ aDesc with kind := 0, mask := 3, pass := 1 }], started := true })
      (fun t => (desc? t 0 0).map (fun d => d.verdict) == some none) := by decide +kernel
theorem test_cal_readback : meets (.calReadback 0 (List.replicate 16 (List.replicate 16 ⟨3, 1, 0, 0, 1, true, true⟩)))
      (writing [] { group := [{ aDesc with kind := 4, mask := 1, burned := 1 }], started := true })
      (fun t => (desc? t 0 0).map (fun d => d.verdict) == some (some 0)) := by decide +kernel

/-! ### Chapter 06 -/

theorem test_loop_mode_write : meets (.loopModeWrite 16 31 1) (put [(LE_CTRL_ENABLE 16, 1)]) (fun t => t.get (LE_LOOP_CTRL_MODE 16 31) == 1 && (t.engine 16).modeReq.find? 31 == some 1)
    ∧ meets (.loopModeWrite 16 31 2) (put [(LE_CTRL_ENABLE 16, 1)]) (fun t => t.get (LE_EVENT_CFG_ERR 16) == 1 && t.get (LE_LOOP_CTRL_MODE 16 31) == 0)
    ∧ meets (.loopModeWrite 0 0 1) awake (fun t => t.get (LE_EVENT_CFG_ERR 0) == 1) := by decide +kernel
theorem test_loop_mode_override : meets (.loopModeWrite 2 0 0) (put [(LE_CTRL_ENABLE 2, 1), (SV_CTRL_SUP_EN 2, 1), (SV_MAP_FOCUS 2, 0), (SV_STATUS_FOCUS_STATE 2, 4)])
      (fun t => t.get (SV_STATUS_FOCUS_STATE 2) == 0 && t.get (SV_EVENT_SUP_OVERRIDE 2) == 1 && takenBit t 2 0) := by decide +kernel
theorem test_loop_ctrl_write : meets (.loopCtrlWrite 0 7 .ctrl 0x00800C05) awake
      (fun t => t.get (LE_LOOP_CTRL_CAPTURE 0 7) == 1 && t.get (LE_LOOP_CTRL_PHASE 0 7) == 3 && t.get (LE_LOOP_CTRL_DIV 0 7) == 5)
    ∧ meets (.loopCtrlWrite 0 7 .ctrl 0x00000C05) (put [(LE_LOOP_CTRL_MODE_ACT 0 7, 4)]) (fun t => t.get (LE_EVENT_CFG_ERR 0) == 1 && t.get (LE_LOOP_CTRL_PHASE 0 7) == 0) := by decide +kernel
theorem test_loop_prog_write : meets (.loopCtrlWrite 0 7 .prog 0x00FF0003) awake (fun t => t.get (LE_LOOP_PROG_LEN 0 7) == 255 && t.get (LE_LOOP_PROG_START 0 7) == 3)
    ∧ meets (.loopCtrlWrite 0 7 .prog 0x00010003) (put [(LE_LOOP_CTRL_MODE_ACT 0 7, 2)]) (fun t => t.get (LE_EVENT_CFG_ERR 0) == 1 && t.get (LE_LOOP_PROG_START 0 7) == 0) := by decide +kernel
theorem test_bank_write : meets (.bankWrite 16 31 1) awake (fun t => t.get (LE_LOOP_CTRL_BANK 16 31) == 1 && t.get (LE_LOOP_CTRL_ACT_BANK 16 31) == 0) := by decide +kernel
theorem test_le_memory_write : meets (.leMemoryWrite 0 .prog 255 true false 0x12345678) awake (fun t => t.get (LE_PROG_WORD 0 255) == 0x1234567800000000)
    ∧ meets (.leMemoryWrite 0 .prog 5 false false 1) (put [(LE_LOOP_CTRL_MODE_ACT 0 0, 4), (LE_LOOP_PROG_START 0 0, 5), (LE_LOOP_PROG_LEN 0 0, 1)])
        (fun t => t.get (LE_EVENT_CFG_ERR 0) == 1 && t.get (LE_PROG_WORD 0 5) == 0) := by decide +kernel
theorem test_le_state_and_coefficients : meets (.leMemoryWrite 0 .state 511 false false 9) awake (fun t => t.get (LE_STATE_WORD 0 511) == 9)
    ∧ meets (.leMemoryWrite 0 .state 0 false false 9) (put [(LE_LOOP_CTRL_MODE_ACT 0 0, 2)]) (fun t => t.get (LE_EVENT_CFG_ERR 0) == 1)
    ∧ meets (.leMemoryWrite 0 (.coef 1) 0 false false 9) (put [(LE_LOOP_CTRL_MODE_ACT 0 0, 4)]) (fun t => t.get (LE_COEF_WORD 0 1 0) == 9)
    ∧ meets (.leMemoryWrite 0 (.coef 0) 0 false true 9) awake (fun t => t.get (LE_EVENT_CFG_ERR 0) == 1) := by decide +kernel
theorem test_rc_table_write : meets (.rcTableWrite 15 1 1023 7) awake (fun t => t.get (LE_RC_BIN 15 1 1023) == 7)
    ∧ meets (.rcTableWrite 15 1 1023 7) (put [(LE_RC_CTRL_LEARN 15 1, 1)]) (fun t => t.get (LE_EVENT_CFG_ERR 15) == 1)
    ∧ meets (.rcTableWrite 16 1 1023 7) awake (fun t => t == awake) := by decide +kernel
theorem test_le_tick : meets (.leTick 16 0 3) (put [(LE_CTRL_ENABLE 16, 1), (LE_TICK_TICK 16, 2 ^ 32 - 1), (LE_LOOP_CTRL_BANK 16 31, 1)])
      (fun t => t.get (LE_TICK_TICK 16) == 0 && t.get (LE_CNT_ECC_CORR 16) == 3 && t.get (LE_LOOP_CTRL_ACT_BANK 16 31) == 1)
    ∧ meets (.leTick 4 0 2) awake (fun t => t.get (LE_CNT_ECC_CORR 4) == 2 && t.get (LE_TICK_TICK 4) == 0)
    ∧ meets (.leTick 16 0 0) (put [(LE_CTRL_ENABLE 16, 1), (LE_STATUS_FAULT 16, 1)]) (fun t => t.get (LE_TICK_TICK 16) == 0) := by decide +kernel
theorem test_rc_clear : meets (.rcClear 15 1) awake (fun t => t.get (LE_RC_CTRL_CLEAR 15 1) == 1)
    ∧ meets (.rcClear 16 1) awake (fun t => t == awake)
    ∧ meets (.rcClearDone 15 1) (put [(LE_RC_CTRL_CLEAR 15 1, 1), (LE_RC_BIN 15 1 7, 5)])
        (fun t => t.get (LE_RC_CTRL_CLEAR 15 1) == 0 && t.get (LE_RC_BIN 15 1 7) == 0 && t.get (LE_EVENT_RC_CLEAR_DONE 15) == 1) := by decide +kernel
theorem test_le_reset : meets (.leReset 3) (put [(LE_STATUS_FAULT 3, 1), (LE_LOOP_CTRL_MODE_ACT 3 7, 4), (LE_STATE_WORD 3 0, 5), (LE_COEF_WORD 3 0 0, 6)])
      (fun t => t.get (LE_STATUS_FAULT 3) == 0 && modeOf t 3 7 == 0 && t.get (LE_STATE_WORD 3 0) == 0 && t.get (LE_COEF_WORD 3 0 0) == 6) := by decide +kernel
theorem test_lockstep_fault : meets (.lockstepFault 3 2 255 1024 true) (put [(VRS_DIAG_EN_EN, 0), (SV_STATUS_FOCUS_STATE 3, 4)])
      (fun t => t.get (LE_STATUS_FAULT 3) == 1 && t.get (LE_FAULT_LOOP 3) == 2 && t.get (LE_FAULT_ADDR 3) == 255 && t.get (LE_FAULT_CYCLE 3) == 0
        && t.get (LE_FAULT_ECC 3) == 1 && t.get (SV_STATUS_FOCUS_STATE 3) == 0 && t.bit VRS_DIAG_CAUSE 0) := by decide +kernel

/-! ### Chapter 07 -/

/-- Pen 1's supervisor as given. -/
def sup1 (l : List (Fld × Nat)) (u : Sup) : State := (put ((SV_CTRL_SUP_EN 1, 1) :: l)).modSup 1 fun _ => u
/-- A measured sample that the supervisor has judged, with a sum of 0. -/
def seenSample : Sample := { cause := 0, sum := some 0, seen := true }

theorem test_acq_start : meets (.acqStart 1 15) (sup1 [(SV_STATUS_FOCUS_STATE 1, 8)] {}) (fun t => t.get (SV_STATUS_FOCUS_STATE 1) == 1 && t.get (SV_ACQ_LAYER 1) == 15 && t.get (SV_ACQ_START 1) == 1)
    ∧ meets (.acqStart 1 15) (sup1 [(SV_STATUS_FOCUS_STATE 1, 7)] {}) (fun t => t.get (SV_EVENT_REFUSED 1) == 1 && t.get (SV_ACQ_START 1) == 0)
    ∧ meets (.acqStart 2 0) awake (fun t => t.get (SV_EVENT_REFUSED 2) == 1) := by decide +kernel
theorem test_jump_start : meets (.jumpStart 1 true 1) (sup1 [(SV_STATUS_FOCUS_STATE 1, 4)] {}) (fun t => t.get (SV_STATUS_FOCUS_STATE 1) == 5 && (t.sup 1).jumpsLeft == 1)
    ∧ meets (.jumpStart 1 true 0) (sup1 [(SV_STATUS_FOCUS_STATE 1, 4)] {}) (fun t => t.get (SV_EVENT_REFUSED 1) == 1 && t.get (SV_STATUS_FOCUS_STATE 1) == 4) := by decide +kernel
theorem test_tjump_start : meets (.tjumpStart 1 9 0x1FF) (sup1 [(SV_STATUS_FOCUS_STATE 1, 4), (SV_STATUS_TRACK_STATE 1, 3)] {})
      (fun t => t.get (SV_STATUS_TRACK_STATE 1) == 4 && t.get (SV_TJUMP_COUNT 1) == 0x1FF && t.get (SV_TJUMP_TKICK 1) == 9)
    ∧ meets (.tjumpStart 1 9 0) (sup1 [(SV_STATUS_FOCUS_STATE 1, 4), (SV_STATUS_TRACK_STATE 1, 3)] {}) (fun t => t.get (SV_EVENT_REFUSED 1) == 1) := by decide +kernel
theorem test_sup_en_write : meets (.supEnWrite 1 false) (sup1 [(SV_STATUS_FOCUS_STATE 1, 4), (SV_STATUS_TRACK_STATE 1, 3), (LE_LOOP_CTRL_MODE_ACT 1 0, 2)] {})
      (fun t => t.get (SV_STATUS_FOCUS_STATE 1) == 0 && t.get (SV_STATUS_TRACK_STATE 1) == 0 && t.get (SV_CTRL_SUP_EN 1) == 0 && modeOf t 1 0 == 2)
    ∧ meets (.supEnWrite 1 true) awake (fun t => t.get (SV_CTRL_SUP_EN 1) == 1) := by decide +kernel
theorem test_trk_auto_write : meets (.trkAutoWrite 1 true) (sup1 [(SV_STATUS_FOCUS_STATE 1, 4)] {}) (fun t => (t.sup 1).waitNext && t.get (SV_CTRL_TRK_AUTO 1) == 1)
    ∧ meets (.trkAutoWrite 1 false) awake (fun t => t.get (SV_CTRL_TRK_AUTO 1) == 0) := by decide +kernel
theorem test_invalid_tick : meets (.invalidTick 1 4200) (put [(SV_CTRL_ENABLE 1, 1)]) (fun t => ((t.sup 1).sample.map fun p => (p.cause, p.sum)) == some (13, none))
    ∧ meets (.invalidTick 1 4199) (put [(SV_CTRL_ENABLE 1, 1)]) (fun t => (t.sup 1).sample == none)
    ∧ meets (.invalidTick 1 4000) ((put [(SV_CTRL_ENABLE 1, 1), (LK_STATUS_STATE 1, 5)]).modSup 1 fun u => { u with noPacket := true })
        (fun t => ((t.sup 1).sample.map fun p => p.cause) == some 5) := by decide +kernel
theorem test_resume : meets (.resume 1) (sup1 [(SV_STATUS_FOCUS_STATE 1, 6), (SV_STATUS_TRACK_STATE 1, 5), (SV_GAPS_RESUME_N 1, 4)] { resumeRun := 4, heldTrack := 3 })
      (fun t => t.get (SV_STATUS_FOCUS_STATE 1) == 4 && t.get (SV_STATUS_TRACK_STATE 1) == 3 && t.get (SV_EVENT_RESUME 1) == 1)
    ∧ meets (.resume 1) (sup1 [(SV_STATUS_FOCUS_STATE 1, 6), (SV_GAPS_RESUME_N 1, 4)] { resumeRun := 3 }) (fun t => t.get (SV_STATUS_FOCUS_STATE 1) == 6) := by decide +kernel
theorem test_retracts : meets (.escapeRetract 1) (sup1 [(SV_STATUS_FOCUS_STATE 1, 6), (SV_GAPS_RESUME_N 1, 4)] { escapeRun := 4 })
      (fun t => t.get (SV_STATUS_FOCUS_STATE 1) == 7 && t.get (SV_CNT_RETRACTS 1) == 1 && t.get (SV_STATUS_TRACK_STATE 1) == 6)
    ∧ meets (.longGap 1) (sup1 [(SV_STATUS_FOCUS_STATE 1, 6), (SV_GAPS_LONG_GAP 1, 9), (SV_GAP_GAP 1, 9)] {}) (fun t => t.get (SV_STATUS_FOCUS_STATE 1) == 7)
    ∧ meets (.longGap 1) (sup1 [(SV_STATUS_FOCUS_STATE 1, 6), (SV_GAPS_LONG_GAP 1, 9), (SV_GAP_GAP 1, 8)] {}) (fun t => t.get (SV_STATUS_FOCUS_STATE 1) == 6) := by decide +kernel
theorem test_collapse_retract : meets (.collapseRetract 1) (sup1 [(SV_STATUS_FOCUS_STATE 1, 6), (SV_GAPS_SHORT_GAP 1, 2), (SV_GAP_GAP 1, 2), (SV_LEVELS_SUM_COLLAPSE 1, 4)]
        { sample := some seenSample, sums := [1600] }) (fun t => t.get (SV_STATUS_FOCUS_STATE 1) == 7)
    ∧ meets (.collapseRetract 1) (sup1 [(SV_STATUS_FOCUS_STATE 1, 6)] {}) (fun t => t.get (SV_STATUS_FOCUS_STATE 1) == 6) := by decide +kernel
theorem test_retract_end : meets (.retractEnd 1) (sup1 [(SV_STATUS_FOCUS_STATE 1, 7), (SV_POS_RETRACT_POS 1, 0)] {}) (fun t => t.get (SV_STATUS_FOCUS_STATE 1) == 8 && t.get (SV_EVENT_LOST 1) == 1)
    ∧ meets (.retractEnd 1) (sup1 [(SV_STATUS_FOCUS_STATE 1, 7), (SV_POS_RETRACT_POS 1, 0)] { man := 1 }) (fun t => t.get (SV_STATUS_FOCUS_STATE 1) == 7) := by decide +kernel
theorem test_acquisition : meets (.approachDone 1) (sup1 [(SV_STATUS_FOCUS_STATE 1, 1), (SV_POS_START_POS 1, 0)] {}) (fun t => t.get (SV_STATUS_FOCUS_STATE 1) == 2)
    ∧ meets (.sweepCapture 1) (sup1 [(SV_STATUS_FOCUS_STATE 1, 2), (SV_ACQ_START 1, 1)] { capture := true }) (fun t => t.get (SV_STATUS_FOCUS_STATE 1) == 3 && t.get (SV_ACQ_START 1) == 0)
    ∧ meets (.sweepCapture 1) (sup1 [(SV_STATUS_FOCUS_STATE 1, 2)] { man := qMax }) (fun t => t.get (SV_STATUS_FOCUS_STATE 1) == 7 && t.get (SV_EVENT_ACQ_FAIL 1) == 1) := by decide +kernel
theorem test_f_lock : meets (.fLock 1) (sup1 [(SV_STATUS_FOCUS_STATE 1, 3), (SV_CTRL_TRK_AUTO 1, 1)] { lockRun := 64 })
      (fun t => t.get (SV_STATUS_FOCUS_STATE 1) == 4 && t.get (SV_EVENT_F_LOCK 1) == 1 && t.get (SV_STATUS_TRACK_STATE 1) == 1)
    ∧ meets (.fLock 1) (sup1 [(SV_STATUS_FOCUS_STATE 1, 3)] { lockRun := 63, lockTicks := 2500 }) (fun t => t.get (SV_STATUS_FOCUS_STATE 1) == 7 && t.get (SV_EVENT_ACQ_FAIL 1) == 1)
    ∧ meets (.fLock 1) (sup1 [(SV_STATUS_FOCUS_STATE 1, 3)] { lockRun := 63, lockTicks := 2499 }) (fun t => t.get (SV_STATUS_FOCUS_STATE 1) == 3) := by decide +kernel
theorem test_tracking : meets (.trackCapture 1) (sup1 [(SV_STATUS_FOCUS_STATE 1, 4), (SV_STATUS_TRACK_STATE 1, 1)] { teCapture := true }) (fun t => t.get (SV_STATUS_TRACK_STATE 1) == 2)
    ∧ meets (.tLock 1) (sup1 [(SV_STATUS_TRACK_STATE 1, 2)] { trackRun := 64 }) (fun t => t.get (SV_STATUS_TRACK_STATE 1) == 3 && t.get (SV_EVENT_T_LOCK 1) == 1)
    ∧ meets (.tLock 1) (sup1 [(SV_STATUS_TRACK_STATE 1, 2)] { trackRun := 63 }) (fun t => t.get (SV_STATUS_TRACK_STATE 1) == 2) := by decide +kernel
theorem test_track_slip : meets (.trackSlip 1) (sup1 [(SV_STATUS_TRACK_STATE 1, 3), (SV_CTRL_TRK_AUTO 1, 0)] { slipRun := 4 }) (fun t => t.get (SV_EVENT_TRACK_SLIP 1) == 1 && t.get (SV_STATUS_TRACK_STATE 1) == 0)
    ∧ meets (.trackSlip 1) (sup1 [(SV_STATUS_TRACK_STATE 1, 3), (SV_CTRL_TRK_AUTO 1, 1)] { slipRun := 3 }) (fun t => t.get (SV_STATUS_TRACK_STATE 1) == 3) := by decide +kernel
theorem test_jump_phases : meets (.jumpPhaseEnd 1) (sup1 [(SV_STATUS_FOCUS_STATE 1, 5)] { jump := .kick, jumpEnd := true, jumpsLeft := 2 }) (fun t => (t.sup 1).jump == .brake)
    ∧ meets (.jumpPhaseEnd 1) (sup1 [(SV_STATUS_FOCUS_STATE 1, 5)] { jump := .catching, jumpEnd := true, jumpsLeft := 1 })
        (fun t => (t.sup 1).jump == .settle && t.get (SV_STATUS_LAYER_CNT 1) == 1)
    ∧ meets (.jumpPhaseEnd 1) (sup1 [(SV_STATUS_FOCUS_STATE 1, 5)] { jump := .settle, jumpEnd := true, jumpsLeft := 1 })
        (fun t => t.get (SV_STATUS_FOCUS_STATE 1) == 4 && t.get (SV_EVENT_JUMP_DONE 1) == 1)
    ∧ meets (.jumpPhaseEnd 1) (sup1 [(SV_STATUS_FOCUS_STATE 1, 5)] { jump := .brake, jumpFail := true })
        (fun t => t.get (SV_STATUS_FOCUS_STATE 1) == 7 && t.get (SV_EVENT_JUMP_FAIL 1) == 1) := by decide +kernel
theorem test_tjump_end : meets (.tjumpEnd 1) (sup1 [(SV_STATUS_TRACK_STATE 1, 4), (SV_TJUMP_COUNT 1, 0x1FE)] { tjump := .wait, tjCrossings := 2 })
      (fun t => t.get (SV_STATUS_TRACK_STATE 1) == 3 && t.get (SV_EVENT_TJUMP_DONE 1) == 1)
    ∧ meets (.tjumpEnd 1) (sup1 [(SV_STATUS_TRACK_STATE 1, 4), (SV_TJUMP_COUNT 1, 2)] { tjump := .wait, tjCrossings := 1 }) (fun t => t.get (SV_STATUS_TRACK_STATE 1) == 4)
    ∧ meets (.tjumpEnd 1) (sup1 [(SV_STATUS_TRACK_STATE 1, 4), (SV_TJUMP_COUNT 1, 2)] { tjump := .wait, tjSlip := true }) (fun t => t.get (SV_EVENT_TRACK_SLIP 1) == 1) := by decide +kernel

/-! ### Chapter 08 -/

/-- Spindle 2 enabled, in a state, with the fields and the hidden state given. -/
def spin (st : Nat) (l : List (Fld × Nat)) (p : Spindle) : State :=
  (put ([(MOT_CTRL_ENABLE, 1), (MOT_SP_CTRL_ENABLE 2, 1), (MOT_SP_STATUS_STATE 2, st)] ++ l)).modSp 2 fun _ => p

theorem test_sp_set_write : meets (.spSetWrite 2 0x0000_1C20) (spin 1 [] {}) (fun t => t.get (MOT_SP_SET_SET_RPM 2) == 7200 && spState t 2 == 2)
    ∧ meets (.spSetWrite 2 0x0000_1C21) (spin 1 [] {}) (fun t => t.get (MOT_SP_EVENT_SET_REFUSED 2) == 1 && spState t 2 == 1)
    ∧ meets (.spSetWrite 2 599) (spin 1 [] {}) (fun t => t.get (MOT_SP_EVENT_SET_REFUSED 2) == 1)
    ∧ meets (.spSetWrite 2 0x80000258) (spin 1 [] {}) (fun t => t.get (MOT_SP_EVENT_SET_REFUSED 2) == 1) := by decide +kernel
theorem test_sp_set_write_running : meets (.spSetWrite 2 600) (spin 7 [(MOT_SP_SPEED_MEAS 2, 16000)] {}) (fun t => spState t 2 == 7 && t.get (MOT_SP_REF_REF 2) == 16000)
    ∧ meets (.spSetWrite 2 0) (spin 5 [(MOT_SP_STATUS_SLOT 2, 1), (MOT_SP_STATUS_CATCH_DIR 2, 1)] {}) (fun t => spState t 2 == 1 && t.get (MOT_SP_STATUS_SLOT 2) == 0)
    ∧ meets (.spSetWrite 2 0) (spin 4 [] {}) (fun t => spState t 2 == 0) := by decide +kernel
theorem test_sp_enable_write : meets (.spEnableWrite 2 false) (spin 7 [(MOT_SP_STATUS_SLOT 2, 1)] {}) (fun t => spState t 2 == 1 && t.get (MOT_SP_STATUS_SLOT 2) == 0)
    ∧ meets (.spEnableWrite 2 true) (spin 0 [(MOT_SP_SET_SET_RPM 2, 600)] {}) (fun t => spState t 2 == 2) := by decide +kernel
theorem test_fault_clr : meets (.faultClr 2) (spin 9 [(MOT_SP_SET_SET_RPM 2, 600)] {}) (fun t => spState t 2 == 2)
    ∧ meets (.faultClr 2) (spin 9 [(MOT_CTRL_ENABLE, 0)] {}) (fun t => spState t 2 == 1)
    ∧ meets (.faultClr 2) (spin 8 [] {}) (fun t => spState t 2 == 8) := by decide +kernel
/-- A rotor that turns forward at 5 revolutions in 12 ms: its phases as they change place, 1 ms each. -/
def forwardTurn : List CatchConv :=
  [⟨100, 200, 300, 100⟩, ⟨100, 100, 300, 200⟩, ⟨100, 100, 200, 300⟩, ⟨100, 200, 100, 300⟩, ⟨100, 300, 100, 200⟩, ⟨100, 300, 200, 100⟩]
/-- The state with unity coefficients for ADC a and its channels l; no value that its fuses hold is read. -/
def unity (a : Nat) (l : List Nat) (s : State) : State :=
  let m := [(CAL_ACT_GAIN a, 16384), (CAL_ACT_OFS a, 0)] ++ l.flatMap fun c => [(CAL_CH_GAIN a c, 16384), (CAL_CH_OFS a c, 0)]
  { s with fld := m.foldl (fun t e => t.insert e.1.key e.2) s.fld }

theorem test_catch_end : meets (.catchEnd 2 [⟨12, 0, 0, 0⟩]) (unity 1 [0, 1, 2] (spin 2 [] {})) (fun t => spState t 2 == 2)
    ∧ (catchRun (unity 1 [0, 1, 2] (spin 2 [] {})) 2 [⟨5000, 0, 0, 0⟩]).1.count = 5000
    ∧ (catchRun (unity 1 [0, 1, 2] (spin 2 [] {})) 2 [⟨5000, 0, 0, 0⟩]).1.seen = [] := by decide +kernel
theorem test_catch_forward :
    let seen := (catchRun (unity 1 [0, 1, 2] (spin 2 [] {})) 2 (forwardTurn ++ forwardTurn ++ forwardTurn)).1.seen
    seen.length = 13 ∧ catchSpan seen = 1200 ∧ 600 * 1200 ≤ 1666667 * 12 ∧ 3000 * 1200 ≤ 1666667 * 12 ∧ catchStep seen = 0
      ∧ ((seen.zip seen.tail).map fun p => (p.1.2.1 + 3 - p.2.2.1) % 3).all (· == 2) = true := by decide +kernel
theorem test_brake_end : meets (.brakeEnd 2) (spin 3 [(MOT_SP_CATCH_BRAKE_MAX 2, 4)] { brakes := 4 }) (fun t => spState t 2 == 2)
    ∧ meets (.brakeEnd 2) (spin 3 [(MOT_SP_CATCH_BRAKE_MAX 2, 4)] { brakes := 5 }) (fun t => spState t 2 == 9 && t.get (MOT_SP_EVENT_CATCH_FAIL 2) == 1) := by decide +kernel
theorem test_slot_grant : meets (.slotGrant 0) { spin 4 [] {} with motorBuses := [(0, { waiting := [2, 1] })] }
      (fun t => t.get (MOT_SP_STATUS_SLOT 2) == 1 && spState t 2 == 5 && (t.motorBus 0).waiting == [1])
    ∧ meets (.slotGrant 0) { spin 4 [(MOT_BUS_CTRL_SPIN_SLOTS 0, 0), (MOT_SP_STATUS_SLOT 3, 1)] {} with motorBuses := [(0, { waiting := [2] })] }
      (fun t => spState t 2 == 4) := by decide +kernel
theorem test_start_ends : meets (.alignEnd 2) (spin 5 [] {}) (fun t => spState t 2 == 6)
    ∧ meets (.openHoldFail 2) (spin 6 [(MOT_SP_SPEED_MEAS 2, 9600), (MOT_SP_STATUS_SLOT 2, 1)] { qual := 11, openFails := 1 })
        (fun t => spState t 2 == 1 && (t.spindle 2).openFails == 2 && t.get (MOT_SP_STATUS_SLOT 2) == 0)
    ∧ meets (.openHoldFail 2) (spin 6 [(MOT_SP_SPEED_MEAS 2, 9600)] { qual := 11, openFails := 2 }) (fun t => spState t 2 == 9 && t.get (MOT_SP_EVENT_START_FAIL 2) == 1)
    ∧ meets (.openHoldFail 2) (spin 6 [(MOT_SP_SPEED_MEAS 2, 9600)] { qual := 12 }) (fun t => spState t 2 == 6) := by decide +kernel
theorem test_coast_end : meets (.coastEnd 2) (spin 1 [(MOT_SP_SET_SET_RPM 2, 600)] { coastWait := true }) (fun t => spState t 2 == 2 && !(t.spindle 2).coastWait)
    ∧ meets (.stopBrakeEnd 2) (spin 8 [] {}) (fun t => spState t 2 == 0 && t.get (MOT_SP_EVENT_STOPPED 2) == 1) := by decide +kernel
theorem test_pwm_period : meets (.pwmPeriod 0 none) ((put [(MOT_SP_STATUS_STATE 0, 2), (MOT_SP_STATUS_STEP 0, 1)]).modSp 0 fun _ => { skip := 3, cmd := { seq := 255 } })
      (fun t => (t.spindle 0).skip == 2 && (t.spindle 0).cmd == { high := 0, low := 2, mode := 3, on := 3125, off := 3125, seq := 0 }) := by decide +kernel
theorem test_commutate : meets (.commutate 2) (spin 7 [] {}) (fun t => t.get (MOT_SP_STATUS_STEP 2) == 0 && spState t 2 == 7)
    ∧ meets (.commutate 2) (spin 7 [(MOT_SP_STATUS_STEP 2, 5)] { nextAt := some 1666667 })
      (fun t => t.get (MOT_SP_STATUS_STEP 2) == 0 && t.get (MOT_SP_SPEED_MEAS 2) == 16000 && (t.spindle 2).intervals == [1666667]) := by decide +kernel
theorem test_missed_zc : meets (.missedZc 2) (spin 7 [] { nextAt := some 1 }) (fun t => t.get (MOT_SP_EVENT_MISSED_ZC 2) == 0)
    ∧ (max 1 ((spin 7 [(MOT_SP_COMM_MISS_MAX 2, 3)] { misses := 2 }).get (MOT_SP_COMM_MISS_MAX 2)) ≤ 2 + 1 ∧ spState (spin 7 [] { misses := 2 }) 2 = 7
      ∧ ((spin 7 [] { misses := 2 }).spindle 2).nextAt = none) := by decide +kernel
theorem test_zc_confirm : meets (.zcConfirm 2 10 20) (spin 7 [] {}) (fun t => t == spin 7 [] {})
    ∧ meets (.zcConfirm 2 10 20) (spin 7 [] { zc := [5, 5, -5] }) (fun t => (t.spindle 2).nextAt == some 15)
    ∧ meets (.zcConfirm 2 10 20) (spin 7 [] { zc := [5, -5] }) (fun t => (t.spindle 2).nextAt == none)
    ∧ meets (.zcConfirm 2 10 20) (spin 7 [(MOT_SP_STATUS_STEP 2, 1)] { zc := [-5, 0, 15] }) (fun t => (t.spindle 2).nextAt == some 20) := by decide +kernel
theorem test_handover : meets (.handover 2) (spin 7 [] {}) (fun t => t == spin 7 [] {})
    ∧ (let s := spin 6 [] { nextAt := some 5, qual := 12, openSq := 1080000 }
      spState s 2 = 6 ∧ (s.spindle 2).nextAt ≠ none ∧ 12 ≤ (s.spindle 2).qual ∧ openInterval s 2 = 2777777
        ∧ 9600 * (openInterval s 2 :: (s.spindle 2).intervals).sum ≤ 1666667 * 1000 * 16 * 1) := by decide +kernel
theorem test_i2t_limit : meets (.i2tLimit 2) (spin 7 [(MOT_SP_I2T_I2T_MAX 2, 1)] { heat := 16000000 }) (fun t => t.get (MOT_SP_STATUS_LIMITING 2) == 1 && (t.spindle 2).clamp)
    ∧ meets (.i2tLimit 2) (spin 7 [(MOT_SP_I2T_I2T_MAX 2, 1)] { heat := 15999999 }) (fun t => t.get (MOT_SP_EVENT_I2T_LIMIT 2) == 0) := by decide +kernel
theorem test_chop_fault : meets (.chopFault 0 .noFall 500) (put [(MOT_BUS_STATUS_CHOPPING 0, 1), (MOT_BUS_STATUS_V_BUS 0, 2750)])
      (fun t => chopLatched t 0 && t.get (MOT_BUS_STATUS_CHOPPING 0) == 0)
    ∧ meets (.chopFault 0 .noFall 499) (put [(MOT_BUS_STATUS_CHOPPING 0, 1), (MOT_BUS_STATUS_V_BUS 0, 2750)]) (fun t => !chopLatched t 0)
    ∧ meets (.chopFault 0 .noCurrent 20) (put [(MOT_BUS_STATUS_CHOPPING 0, 1)]) (fun t => t.get (MOT_BUS_EVENT_CHOP_NOCUR 0) == 1)
    ∧ meets (.chopFault 0 .stuck 100) { awake with motorBuses := [(0, { current := 200 })] } (fun t => t.get (MOT_BUS_EVENT_CHOP_STUCK 0) == 1) := by decide +kernel
theorem test_ov_clear : meets (.ovClear 0) (spin 1 [(MOT_BUS_EVENT_OV 0, 1), (MOT_BUS_STATUS_V_BUS 0, 2899), (MOT_SP_SET_SET_RPM 2, 600)] {})
      (fun t => t.get (MOT_BUS_EVENT_OV 0) == 0 && spState t 2 == 2)
    ∧ meets (.ovClear 0) (spin 1 [(MOT_BUS_EVENT_OV 0, 1), (MOT_BUS_STATUS_V_BUS 0, 2900)] {}) (fun t => t.get (MOT_BUS_EVENT_OV 0) == 1) := by decide +kernel
theorem test_seq_entry_write : meets (.seqEntryWrite 0 0x10D) awake (fun t => t.get MOT_SEQ_STATUS_SEQ_ERR == 1 && t.get (MOT_SEQ_SLOT_CH 0) == awake.get (MOT_SEQ_SLOT_CH 0)) := by decide +kernel

/-! ### Chapter 09 -/

/-- Sled 3 with the fields and the hidden state given. -/
def sled3 (l : List (Fld × Nat)) (p : Sled) : State := { put l with sleds := [(3, p)] }
/-- A status record with its CRC. -/
def record (l : List (BitVec 8)) : List (BitVec 8) := l ++ leBytes 2 (crc16 l)

theorem test_planner_tick : meets .plannerTick (sled3 [(DUC_SL_POS_POS 3, 77), (DUC_SL_STATUS_MOVING 3, 1)] { modeReq := some 2 })
      (fun t => sledMode t 3 == 1 && sledPos t 3 == 77 && t.get (DUC_SL_STATUS_MOVING 3) == 0)
    ∧ meets .plannerTick (sled3 [(VRS_OUT_CLASS 27, 12), (DUC_SL_POS_POS 3, 77), (DUC_SL_STATUS_POS_STATE 3, 1), (DUC_SL_STATUS_MODE_ACT 3, 1)] { modeReq := some 0 })
      (fun t => sledMode t 3 == 0 && t.get (DUC_SL_STATUS_POS_STATE 3) == 2 && sledPos t 3 == 77) := by decide +kernel
theorem test_sled_target_write : meets (.sledTargetWrite 3 0xFFFFFFFF) (sled3 [(DUC_SL_STATUS_POS_STATE 3, 1), (DUC_SL_SOFT_MIN_LIMIT 3, 0xFFFFFFFF), (DUC_SL_SOFT_MAX_LIMIT 3, 5)] {})
      (fun t => (t.sled 3).targetReq == some (-1, false) && t.get (DUC_SL_TARGET_TARGET 3) == 0xFFFFFFFF)
    ∧ meets (.sledTargetWrite 3 6) (sled3 [(DUC_SL_STATUS_POS_STATE 3, 1), (DUC_SL_SOFT_MAX_LIMIT 3, 5)] {}) (fun t => t.get (DUC_SL_EVENT_REFUSED 3) == 1)
    ∧ meets (.sledTargetWrite 3 0) (sled3 [] {}) (fun t => t.get (DUC_SL_EVENT_REFUSED 3) == 1)
    ∧ meets (.sledTargetWrite 3 6) (sled3 [(DUC_SL_CTRL_JOG 3, 1)] {}) (fun t => (t.sled 3).targetReq == some (6, true)) := by decide +kernel
theorem test_sled_mode_write : meets (.sledModeWrite 3 5) awake (fun t => t.get (DUC_SL_CTRL_MODE 3) == 5 && (t.sled 3).modeReq == some 5)
    ∧ meets (.sledModeWrite 3 6) awake (fun t => t.get (DUC_SL_EVENT_REFUSED 3) == 1) := by decide +kernel
theorem test_move_done : meets (.moveDone 3) (sled3 [(DUC_SL_STATUS_MOVING 3, 1)] { moving := true }) (fun t => t.get (DUC_SL_EVENT_MOVE_DONE 3) == 1 && t.get (DUC_SL_STATUS_MOVING 3) == 0)
    ∧ meets (.moveDone 3) (sled3 [] { moving := true, goal := 1 }) (fun t => t.get (DUC_SL_EVENT_MOVE_DONE 3) == 0) := by decide +kernel
theorem test_ext_step : meets (.extStep true 5000) (sled3 [(DUC_EXT_SLED, 3), (DUC_SL_STATUS_MODE_ACT 3, 5)] { extSeen := true }) (fun t => (t.sled 3).goal == 256 && (t.sled 3).interval == 5000)
    ∧ meets (.extStep false 5000) (sled3 [(DUC_EXT_SLED, 3), (DUC_SL_STATUS_MODE_ACT 3, 5), (DUC_EXT_FIRST, 7)] {}) (fun t => (t.sled 3).goal == -256 && (t.sled 3).interval == 7000)
    ∧ meets (.extStep true 1) (sled3 [(DUC_EXT_SLED, 3), (DUC_SL_STATUS_MODE_ACT 3, 5)] { edges := List.replicate 4 (true, 1) }) (fun t => t.get DUC_EXT_EXT_OVF == 1) := by decide +kernel
theorem test_sled_stop : meets (.sledStop 3) (sled3 [(DUC_SL_STATUS_MODE_ACT 3, 2), (DUC_SL_STATUS_POS_STATE 3, 1), (DUC_SL_STATUS_MOVING 3, 1)] { moving := true, goal := 9, v := 1 })
      (fun t => sledMode t 3 == 1 && t.get (DUC_SL_EVENT_STOPPED_HARD 3) == 1 && t.get (DUC_SL_STATUS_POS_STATE 3) == 2)
    ∧ meets (.sledStop 3) (sled3 [(DUC_SL_STATUS_MODE_ACT 3, 4)] {}) (fun t => t.get (DUC_SL_STATUS_HOME_STATE 3) == 4 && t.get (DUC_SL_EVENT_HOME_FAIL 3) == 1) := by decide +kernel
theorem test_pos_set : meets (.posSet 3 0x80000000) awake (fun t => sledPos t 3 == -2147483648 && t.get (DUC_SL_STATUS_POS_STATE 3) == 1)
    ∧ meets (.posSet 3 1) (put [(DUC_SL_STATUS_MOVING 3, 1)]) (fun t => t.get (DUC_SL_EVENT_REFUSED 3) == 1) := by decide +kernel
theorem test_sled_home_edge : meets (.sledHomeEdge 3 true false) (sled3 [(DUC_SL_CHAT_CHATTER_MAX 3, 1), (DUC_SL_CFG_ACTIVE_LOW 3, 0), (DUC_SL_POS_POS 3, 4)] {}) (fun t => (t.sled 3).win == some ⟨1, 4⟩ && t.get (DUC_SL_STATUS_SW_RAW 3) == 1)
    ∧ meets (.sledHomeEdge 3 true false) (sled3 [(DUC_SL_CHAT_CHATTER_MAX 3, 1), (DUC_SL_CFG_ACTIVE_LOW 3, 0)] { win := some ⟨1, 4⟩ })
      (fun t => t.get (DUC_SL_EVENT_CHATTER 3) == 1 && sledMode t 3 == 1) := by decide +kernel
theorem test_switch_qualify : meets (.switchQualify 3 20) (sled3 [(DUC_SL_CFG_QUAL_T 3, 20), (DUC_SL_STATUS_SW_RAW 3, 1), (DUC_SL_STATUS_MODE_ACT 3, 2)] { win := some ⟨1, -1⟩ })
      (fun t => t.get (DUC_SL_STATUS_SW_QUAL 3) == 1 && t.get (DUC_SL_LATCH_POS_LATCH_POS 3) == 0xFFFFFFFF && sledMode t 3 == 1)
    ∧ meets (.switchQualify 3 20) (sled3 [(DUC_SL_CFG_QUAL_T 3, 20)] { win := some ⟨1, -1⟩ }) (fun t => t.get (DUC_SL_EVENT_GLITCH 3) == 1 && (t.sled 3).win == none)
    ∧ meets (.switchQualify 3 19) (sled3 [(DUC_SL_CFG_QUAL_T 3, 20)] { win := some ⟨1, -1⟩ }) (fun t => t.get (DUC_SL_EVENT_GLITCH 3) == 0) := by decide +kernel
theorem test_interpolator_microstep : meets (.interpolatorMicrostep 3 1) (sled3 [] { goal := -1, interval := 256 }) (fun t => sledPos t 3 == -1)
    ∧ meets (.interpolatorMicrostep 3 1) (sled3 [] { goal := -1, interval := 257 }) (fun t => sledPos t 3 == 0) := by decide +kernel
theorem test_duc_frame : meets (.ducFrame 1) { (put [(DUC_CTRL_TX_DB, 1), (VRS_NODE_NODE_ID, 0x5A5), (SYS_TIME_TIME, 0)]) with ducBuses := [(1, { cycle := 255 })] }
      (fun t => (t.ducBus 1).cycle == 0 && (t.ducBus 1).frame.length == 82 && (t.ducBus 1).frame.take 8 == [1, 0xA5, 5, 0x80, 1, 0, 0, 255]) := by decide +kernel
theorem test_stage_status : meets (.stageStatus 11 (record ([0x80, 0x34, 0xC2, 1] ++ List.replicate 4 0 ++ [9, 0, 0, 0, 0, 0]))) (put [(VRS_NODE_NODE_ID, 0x234)])
      (fun t => t.get (DUC_STG_CLAIM 11) == 0xC234 && t.get (DUC_STG_HELD_HERE 11) == 1 && t.get (DUC_STG_FLAGS 11) == 1 && sledMode t 3 == 1 && sledPos t 3 == 9)
    ∧ meets (.stageStatus 11 (List.replicate 16 1)) awake (fun t => t.get (DUC_STG_CRC_ERR 11) == 1 && (t.stage 11).missing == 1) := by decide +kernel
theorem test_stage_lost : meets (.stageLost 11 5) (sled3 [(DUC_SL_STATUS_MODE_ACT 3, 2)] {}) (fun t => t.get (DUC_STG_STAGE_LOST 11) == 1 && sledMode t 3 == 1)
    ∧ meets (.stageLost 11 4) awake (fun t => t.get (DUC_STG_STAGE_LOST 11) == 0 && (t.stage 11).missing == 4) := by decide +kernel

/-! ### Chapter 10 -/

/-- Port 7 in a state, with the fields and the hidden state given. -/
def port7 (st : Nat) (l : List (Fld × Nat)) (p : Link) : State := { put (l ++ [(LK_STATUS_STATE 7, st)]) with links := [(7, p)] }
/-- Port 7 UP at N2, its pen read at nib 15, its clock recovered. -/
def reading7 (l : List (Fld × Nat)) (p : Link) : State :=
  port7 5 (l ++ [(LK_STATUS_GEN 7, 2), (RC_CTRL_ENABLE 7, 1), (RC_CTRL_NIB_EN 7, 0x8000), (RUL_STATUS_CLK_SRC 7, 1)]) p

theorem test_lk_enable_write : meets (.lkEnableWrite 7 false) (port7 5 [(LK_CTRL_ENABLE 7, 1)] {}) (fun t => lkState t 7 == 0 && t.get (LK_EVENT_LINK_DOWN 7) == 1)
    ∧ meets (.lkEnableWrite 7 true) (port7 0 [] {}) (fun t => t.get (LK_CTRL_ENABLE 7) == 1 && lkState t 7 == 0) := by decide +kernel
theorem test_signal_detect : meets (.signalDetect 7) (port7 0 [(LK_CTRL_ENABLE 7, 1), (LK_CTRL_AUTO_TRAIN 7, 1), (LK_STATUS_LANES 7, 3)] {})
      (fun t => lkState t 7 == 1 && t.get (LK_STATUS_LANES 7) == 0)
    ∧ meets (.signalDetect 7) (port7 0 [(LK_CTRL_ENABLE 7, 1), (LK_CTRL_AUTO_TRAIN 7, 0)] {}) (fun t => lkState t 7 == 0) := by decide +kernel
theorem test_retrain : meets (.retrain 7) (port7 5 [(LK_CTRL_ENABLE 7, 1), (LK_CNT_LINK_DOWNS 7, 65535)] {}) (fun t => lkState t 7 == 1 && t.get (LK_CNT_LINK_DOWNS 7) == 65535)
    ∧ meets (.retrain 7) (port7 6 [(LK_CTRL_ENABLE 7, 0)] {}) (fun t => lkState t 7 == 6) := by decide +kernel
/-- The headers of eight codewords in a row on a lane, the first header of each at bit 5. -/
def heads8 (lane : Nat) : List (BitVec 19) := (List.range 8).map fun c => BitVec.ofNat 19 (lane * 131072 + (c + 12) % 16 * 8192 + 5)
/-- The headers of codewords that end together on the four lanes, with these counters. -/
def heads4 (c : List Nat) : List (BitVec 19) := ([0, 1, 2, 3].zip c).map fun e => BitVec.ofNat 19 (e.1 * 131072 + e.2 * 8192)

theorem test_train_step : meets (.trainStep 7 (.locked ([0, 1, 2, 3].map heads8))) (port7 1 [] {}) (fun t => lkState t 7 == 2)
    ∧ meets (.trainStep 7 (.locked ([0, 1, 2, 2].map heads8))) (port7 1 [] {}) (fun t => lkState t 7 == 1)
    ∧ meets (.trainStep 7 (.skew (heads4 [0, 9, 9, 0]) [1, 2, 3, 65536])) (port7 2 [] {}) (fun t => lkState t 7 == 3 && t.get (LK_LANE_SKEW_SKEW 7 2) == 3 && t.get (LK_LANE_SKEW_SKEW 7 3) == 0)
    ∧ meets (.trainStep 7 (.skew (heads4 [8, 0, 0, 0]) [])) (port7 2 [] {}) (fun t => lkState t 7 == 6 && t.get (LK_EVENT_TRAIN_FAIL 7) == 1)
    ∧ meets (.trainStep 7 (.skew (heads4 [7, 0, 0, 0]) [])) (port7 4 [(LK_SIDX_SIDX 7, 9)] { relocked := true }) (fun t => lkState t 7 == 5 && t.get (LK_STATUS_LANES 7) == 15 && t.get (LK_SIDX_SIDX 7) == 0) := by decide +kernel
theorem test_codeword_message : (cwMessage 2 3 [6000, 7] [true]).take 20
      = [true, false, false, false, true, true, false, false, false, false, false, false, false, false, false, false, true, true, true, true]
    ∧ laneLags [8192, 0, 15 * 8192, 0] = some [0, 1, 2, 1] := by decide +kernel
theorem test_train_step_caps : meets (.trainStep 7 (.caps 1 8 true false 0xDEADBEEF)) (port7 3 [] {}) (fun t => lkState t 7 == 5 && t.get (LK_STATUS_GEN 7) == 1 && t.get (LK_PEN_ID_PEN_ID 7) == 0xDEADBEEF && t.get (LK_STATUS_PEN_PORT 7) == 1)
    ∧ meets (.trainStep 7 (.caps 2 16 false true 0)) (port7 3 [] {}) (fun t => lkState t 7 == 4 && t.get (LK_CAP_NIBS 7) == 16)
    ∧ meets (.trainStep 7 (.caps 1 16 false true 0)) (port7 3 [] {}) (fun t => lkState t 7 == 6)
    ∧ meets (.trainStep 7 .failed) (port7 4 [] {}) (fun t => lkState t 7 == 6) := by decide +kernel
theorem test_train_ends : meets (.trainTimeout 7) (port7 1 [] {}) (fun t => lkState t 7 == 6 && t.get (LK_EVENT_TRAIN_FAIL 7) == 1)
    ∧ meets (.trainTimeout 7) (port7 5 [] {}) (fun t => lkState t 7 == 5)
    ∧ meets (.failWaitEnd 7) (port7 6 [] {}) (fun t => lkState t 7 == 0) ∧ meets (.failWaitEnd 7) (port7 4 [] {}) (fun t => lkState t 7 == 4) := by decide +kernel
theorem test_pll_lock : meets (.pllLock 1) (port7 5 [(LK_STATUS_GEN 7, 1), (LK_STATUS_STATE 4, 4)] {}) (fun t => (t.link 7).suspended && (t.link 4).quadLocked && t.get (LK_EVENT_PLL_LOCK 6) == 1)
    ∧ meets (.pllLock 1) (port7 5 [(LK_STATUS_GEN 7, 1)] {}) (fun t => t.get (LK_EVENT_PLL_LOCK 7) == 0) := by decide +kernel
theorem test_deskew : meets (.deskew 7) (port7 5 [(LK_STATUS_GEN 7, 1)] {}) (fun t => t.get (LK_CTRL_DESKEW 7) == 1)
    ∧ meets (.deskew 7) (port7 5 [(LK_STATUS_GEN 7, 2)] {}) (fun t => t.get (LK_EVENT_DESKEW_DONE 7) == 1 && t.get (LK_CTRL_DESKEW 7) == 0)
    ∧ meets (.deskewDone 7 (heads4 [0, 0, 0, 0]) [5, 6]) (port7 5 [(LK_CTRL_DESKEW 7, 1)] { suspended := true }) (fun t => !(t.link 7).suspended && t.get (LK_LANE_SKEW_SKEW 7 1) == 6 && t.get (LK_CTRL_DESKEW 7) == 0)
    ∧ meets (.deskewDone 7 (heads4 [0, 0, 0, 0]) [5, 6]) (port7 5 [(LK_STATUS_GEN 7, 2)] {}) (fun t => t.get (LK_LANE_SKEW_SKEW 7 1) == 6)
    ∧ meets (.deskewSuspendExpiry 7) (port7 5 [] { suspended := true }) (fun t => lkState t 7 == 0)
    ∧ meets (.deskewSuspendExpiry 7) (port7 5 [] {}) (fun t => lkState t 7 == 5) := by decide +kernel
theorem test_lane_lost : meets (.laneLost 7 3 (.uncorrectable 8)) (port7 5 [(LK_STATUS_LANES 7, 15), (LK_CTRL_DEG_EN 7, 1), (LK_ERR_CFG_UNC_MAX 7, 8)] {})
      (fun t => t.get (LK_STATUS_LANES 7) == 7 && t.get (LK_STATUS_DEGRADED 7) == 1 && lkState t 7 == 5)
    ∧ meets (.laneLost 7 3 (.uncorrectable 7)) (port7 5 [(LK_STATUS_LANES 7, 15), (LK_ERR_CFG_UNC_MAX 7, 8)] {}) (fun t => t.get (LK_STATUS_LANES 7) == 15)
    ∧ meets (.laneLost 7 0 .absent) (port7 5 [(LK_STATUS_LANES 7, 7), (LK_CTRL_DEG_EN 7, 1), (LK_STATUS_DEGRADED 7, 1)] {}) (fun t => lkState t 7 == 0)
    ∧ meets (.laneLost 7 0 .absent) (port7 2 [] {}) (fun t => lkState t 7 == 6)
    ∧ meets (.linkDown 7) (port7 5 [(LK_STATUS_GEN 7, 2)] {}) (fun t => lkState t 7 == 0 && t.get (LK_STATUS_GEN 7) == 0 && t.get (LK_EVENT_LINK_DOWN 7) == 1) := by decide +kernel
theorem test_samples : meets (.samples 7 0x1F000002 [1, 2] []) (reading7 [] { seqs := [(47, 255), (512, 255)], sidx := 10, closed := 10 })
      (fun t => (t.nib 7 15).ring == [2, 1] && (t.nib 7 15).at_ == 12 && t.get (LK_SIDX_SIDX 7) == 12 && t.get (LK_CNT_PKT_LOST 7) == 0)
    ∧ meets (.samples 7 0x1E030001 [1] []) (reading7 [] { seqs := [(46, 0)] }) (fun t => t.get (LK_CNT_PKT_LOST 7) == 2 && (t.nib 7 14).ring == [])
    ∧ meets (.samples 7 0x1F000002 [1, 2] []) (reading7 [] { suspended := true }) (fun t => (t.nib 7 15).ring == []) := by decide +kernel
theorem test_samples_corrected : meets (.samples 7 0x1F000008 (List.replicate 8 9) [.correct (List.replicate 8 64)])
      ((reading7 [(RC_NIB_GAIN_GAIN 7 15, 16384), (RC_NIB_GAIN_OFFSET 7 15, 64), (RC_NIB_ASYM_ASYM 7 15, 0)] {}))
      (fun t => (t.nib 7 15).corr == List.replicate 8 (0, 0, 0) && (t.nib 7 15).lag == 8) := by decide +kernel
theorem test_ruling : meets (.ruling 7 0x20040011 (List.replicate 17 1)) { reading7 [(RUL_STATUS_ANGLE_VALID 7, 1), (RUL_PERIODS_M_RNI 7, 10)] { seqs := [(64, 3), (512, 3)] } with rul := [(7, { count := 10237, sub := 7 })] }
      (fun t => (t.ruling 7).count == 10239 && (t.ruling 7).sub == 8 && t.get (RUL_ANGLE_BIN 7) == 1023 && (t.nib 7 16).ring.head? == some 4 && (t.nib 7 16).at_ == 17)
    ∧ meets (.ruling 7 0x21040011 (List.replicate 17 0)) { reading7 [] { seqs := [(65, 3)] } with rul := [(7, { count := 5 })] } (fun t => (t.ruling 7).count == 5) := by decide +kernel
theorem test_servo : meets (.servo 7 0x30800009 [7] []) { reading7 [(SV_CTRL_ENABLE 7, 1)] {} with sups := [(7, { window := 9, parts := [0] })] }
      (fun t => (t.sup 7).parts == [0, 1] && (t.sup 7).sample == none && (t.link 7).nibWords == [7])
    ∧ meets (.servo 7 0x30800008 [] []) { reading7 [(SV_CTRL_ENABLE 7, 1)] {} with sups := [(7, { window := 9, parts := [0] })] } (fun t => (t.sup 7).parts == [1] && (t.sup 7).window == 8)
    ∧ (receiving (reading7 [] {}) 7 = true ∧ servoParts (reading7 [] {}) 7 = 19 + 1 ∧ List.range 19 ++ [19] = List.range 20) := by decide +kernel
theorem test_pen_status : meets (.penStatus 7 0x40000001 [0x10, 0x18010002, 0x4001] [2, 0, 0, 0]) (reading7 [(SV_DELAY_CFG_LIMIT_NS 7, 3), (SV_DELAY_MAX_NS 7, 5)] {})
      (fun t => t.get (LK_FLAGS_FLAGS 7) == 0x1801 && t.get (LK_STATUS_PEN_STATE 7) == 2 && t.get (SV_DELAY_LAST_NS 7) == 0xFFFF && t.get (SV_EVENT_DELAY_OVER 7) == 1
        && lkState t 7 == 5 && t.get (LK_EVENT_SAFE 7) == 1 && t.get (LK_SIDX_SIDX 7) == 16 && t.get (LK_LANE_CORR_CORR 7 0) == 2)
    ∧ meets (.penStatus 7 0x40000001 [0, 0x20000000, 0x4000] [0, 0, 0, 0]) (reading7 [] {}) (fun t => lkState t 7 == 0 && t.get (LK_EVENT_HOLDING 7) == 1) := by decide +kernel
theorem test_claim_status : meets (.claimStatus 7 0x50000000 [0xC000C345, 0xC3454111]) (reading7 [(LK_STATUS_PEN_PORT 7, 1)] { claimSeen := some (false, true) })
      (fun t => t.get (LK_CLAIM_CLAIM 7) == 0xC345 && t.get (LK_CLAIM_PORTS_PORT1 7) == 0x4111 && t.get (LK_STATUS_OBEYED 7) == 1 && t.get (VRS_OUT_HELD_HERE 7) == 1 && t.get (LK_EVENT_OBEY_CHANGE 7) == 1)
    ∧ meets (.claimStatus 7 0x50000000 [0xC000C345, 0]) (reading7 [] {}) (fun t => t.get (LK_STATUS_OBEYED 7) == 0 && t.get (LK_EVENT_OBEY_CHANGE 7) == 0) := by decide +kernel
theorem test_ack : meets (.ack 7 15 0x61000000) { reading7 [] { dnSeqs := [(127, 0)] } with wc := [(7, { loading := some (15, 3, []) })] } (fun t => (t.writeCh 7).loading == none && ((t.writeCh 7).tables.find? 63).isSome)
    ∧ meets (.ack 7 0 0x63000000) (reading7 [] {}) (fun t => t.get (LK_EVENT_ACK_LATE 7) == 1)
    ∧ meets (.ack 7 0 0x64000000) (reading7 [] {}) (fun t => t.get (LK_EVENT_WRITE_GAP 7) == 1)
    ∧ meets (.ack 7 0 0x64000000) { reading7 [] {} with wc := [(7, { group := [{ aDesc with burning := 1 }], started := true })] } (fun t => t.get (WC_EVENT_UNDERRUN 7) == 1) := by decide +kernel
theorem test_uncorrectable_codeword : meets (.uncorrectableCodeword 7 3 9 []) (reading7 [(LK_LANE_UNC_UNC 7 3, 65535), (LK_LANE_CORR_CORR 7 3, 1)] {})
      (fun t => t.get (LK_LANE_UNC_UNC 7 3) == 65535 && t.get (LK_LANE_CORR_CORR 7 3) == 10)
    ∧ meets (.uncorrectableCodeword 7 3 0 [0x21020011]) (reading7 [] {}) (fun t => t.get (LK_CNT_PKT_LOST 7) == 1) := by decide +kernel
theorem test_claim : meets (.claim 7) (reading7 [(VRS_OUT_CLASS 7, 12), (VRS_NODE_NODE_ID, 0x345), (VRS_EPOCH_EPOCH, 8), (SYS_TIME_TIME, 0x100000002)] {})
      (fun t => (t.link 7).claimSent == some (0, 0xC345, 8, 2))
    ∧ meets (.write 7 0 100) { reading7 [(VRS_OUT_CLASS 7, 12)] {} with wc := [(7, { fifo := [(0, 30)], group := [{ aDesc with burning := 1 }], started := true })] }
      (fun t => (t.writeCh 7).fifo.getD 0 0 == 2 && (t.writeCh 7).sent.getD 0 0 == 1024)
    ∧ meets (.write 7 0 97) { reading7 [(VRS_OUT_CLASS 7, 12)] {} with wc := [(7, { fifo := [(0, 30)], group := [{ aDesc with burning := 1 }], started := true })] }
      (fun t => (t.writeCh 7).fifo.getD 0 0 == 127 && (t.link 7).written == [])
    ∧ meets (.write 7 0 65536) { reading7 [(VRS_OUT_CLASS 7, 12)] {} with wc := [(7, { fifo := [(0, 30)] })] } (fun t => (t.writeCh 7).fifo.getD 0 0 == 32768)
    ∧ meets (.write 7 15 1) (reading7 [(VRS_OUT_CLASS 7, 4)] {}) (fun t => (t.writeCh 7).fifo == []) := by decide +kernel

/-! ### Chapter 11 -/

/-- Memory with some bytes, and some fields. -/
def ink (l : List (Fld × Nat)) (m : List (Nat × BitVec 8)) : State := { put l with mem := m }

theorem test_ink_grant : meets (.inkGrant 4 1 [⟨39, false, .read 0x1405 .none⟩]) (ink [(INK_STATUS_FILL_DONE, 1), (INK_CH_STATUS_QUEUED 4, 32)] [(0x1401, 7)])
      (fun t => ((t.ink.rets.find? 39).map fun x => (x.1.take 3, x.2)) == some ([0, 7, 0], false) && t.get (INK_CH_STATUS_QUEUED 4) == 32
        && t.get (INK_CH_STATUS_RR_PTR 4) == 0 && t.get (INK_ARB_GRANTS_GRANTS 39) == 1)
    ∧ meets (.inkGrant 4 0 [⟨39, false, .read 0x1405 .none⟩]) (ink [(INK_STATUS_FILL_DONE, 1), (INK_CH_STATUS_QUEUED 4, 32)] []) (fun t => t.ink.rets.find? 39 == none && t.get (INK_ARB_WAIT_WAIT 39) == 1)
    ∧ meets (.inkGrant 4 0 [⟨0, false, .write 0x1400 0x8000000000000001 [1, 2] false .none⟩]) (ink [(INK_STATUS_FILL_DONE, 1)] [(0x1401, 7), (0x143F, 8)])
      (fun t => t.mem == [(0x1400, 1), (0x1401, 7)] && t.poison == []) := by decide +kernel
theorem test_ink_grant_edges : meets (.inkGrant 0 0 [⟨36, false, .read 0xF0000_0000 .none⟩]) (put [(INK_STATUS_FILL_DONE, 1)]) (fun t => t.get INK_EVENT_ADDR_ERR == 1 && t.get INK_ADDR_ERR_ADDR == 0x3C000000 && t.get INK_ADDR_ERR_SOURCE == 36)
    ∧ meets (.inkGrant 0 0 [⟨36, false, .read 0 .none⟩]) (put [(INK_STATUS_SR_STATE, 2), (INK_CTRL_SR_REQ, 1)]) (fun t => t.get INK_STATUS_SR_STATE == 3 && t.get INK_CTRL_SR_REQ == 0 && t.ink.rets == [])
    ∧ meets (.inkGrant 0 0 [⟨35, false, .read 0 .none⟩]) awake (fun t => t.get (INK_ARB_WAIT_WAIT 35) == 1) := by decide +kernel
theorem test_self_refresh : meets .srEnter awake (fun t => t.get INK_STATUS_SR_STATE == 1 && t.get INK_CTRL_SR_REQ == 1)
    ∧ meets .srEnter (put [(INK_STATUS_SR_STATE, 3)]) (fun t => t.get INK_STATUS_SR_STATE == 3)
    ∧ meets .srExitStart (put [(INK_STATUS_SR_STATE, 2)]) (fun t => t.get INK_STATUS_SR_STATE == 3)
    ∧ meets .srExit (put [(INK_STATUS_SR_STATE, 3)]) (fun t => t.get INK_STATUS_SR_STATE == 0 && t.get INK_EVENT_SR_EXIT == 1)
    ∧ meets .selfRefreshEntered { put [(INK_STATUS_SR_STATE, 1), (INK_CH_STATUS_QUEUED 7, 5)] with ink := { chans := [(7, { wbs := [⟨3, true, false⟩] })] } }
      (fun t => t.get INK_STATUS_SR_STATE == 2 && t.poisoned 3 && t.get (INK_CH_STATUS_QUEUED 7) == 0 && (t.inkCh 7).wbs == []) := by decide +kernel
theorem test_arb_base_write : meets (.arbBaseWrite 4 0x89ABCDEF) awake (fun t => t.get (INK_ARB_BASE_BASE 4) == 0x89ABCDEF)
    ∧ meets (.longestClear 39 0xF0 none) (put [(INK_ARB_LONGEST_LONGEST 39, 0xFF)]) (fun t => t.get (INK_ARB_LONGEST_LONGEST 39) == 0xF)
    ∧ meets (.longestClear 39 0xFF (some 3)) (put [(INK_ARB_LONGEST_LONGEST 39, 0xFF)]) (fun t => t.get (INK_ARB_LONGEST_LONGEST 39) == 3) := by decide +kernel
theorem test_ecc_writeback : meets (.eccWriteback 7) { ink [] [(200, 9)] with ink := { chans := [(7, { wbs := [⟨3, true, true⟩, ⟨4, false, false⟩] })] } }
      (fun t => t.poisoned 3 && t.byte 200 == 9 && (t.inkCh 7).wbs == [⟨4, false, false⟩])
    ∧ meets .ueWindow { put [] with ink := { ueCount := 4 } } (fun t => t.ink.ueCount == 0) := by decide +kernel
theorem test_fill_done : meets (.fillDone 0xFFFF) { ink [(INK_STATUS_FILL_RUN, 1), (INK_STATUS_FILL_MARK, 1)] [(0xFFFFF, 1), (0x100000, 2)] with poison := [(0x3FFF, true), (0x4000, true)] }
      (fun t => t.get INK_STATUS_FILL_MARK == 0xF000 && t.get INK_STATUS_FILL_DONE == 1 && t.mem == [(0xFFFFF, 1)] && t.poison == [(0x3FFF, true)])
    ∧ meets (.fillDone 2) (put [(INK_STATUS_FILL_RUN, 1), (INK_STATUS_FILL_MARK, 2)]) (fun t => t.get INK_STATUS_FILL_MARK == 2)
    ∧ meets (.fillDone 0xEFFF) (put [(INK_STATUS_FILL_RUN, 1)]) (fun t => t.get INK_STATUS_FILL_MARK == 0xEFFF && t.get INK_STATUS_FILL_DONE == 0) := by decide +kernel
theorem test_scrub_read : meets (.scrubRead 5 64 1999 (.flips 2)) { put [(INK_CH_SCRUB_EN 5, 1), (INK_CH_SCRUB_GAP 5, 64), (INK_ECC_CTRL_CE_WB, 1)] with ink := { chans := [(5, { scrub := 125829119, lapUs := 1 })] } }
      (fun t => (t.inkCh 5).scrub == 0 && t.get (INK_CH_LAP_LAST_MS 5) == 2 && t.get INK_EVENT_SCRUB_LAP == 1 && t.get (INK_CH_ERRCNT_CE 5) == 1 && (t.inkCh 5).wbs == [⟨1006632951, false, true⟩])
    ∧ meets (.scrubRead 5 64 0 .address) (put [(INK_CH_SCRUB_EN 5, 1), (INK_CH_SCRUB_GAP 5, 64), (INK_ECC_CTRL_UE_LIMIT, 2), (INK_ECC_CTRL_UE_WB, 1)])
      (fun t => t.get INK_UE_LOG_ADDR == 20 && t.get INK_UE_LOG_SOURCE == 0x3E && (t.inkCh 5).wbs == [⟨20, true, true⟩] && t.ink.ueCount == 1)
    ∧ meets (.scrubRead 5 63 0 .none) (put [(INK_CH_SCRUB_EN 5, 1), (INK_CH_SCRUB_GAP 5, 64)]) (fun t => (t.inkCh 5).scrub == 0) := by decide +kernel
theorem test_ecc_tests : meets (.eccTestMech true) (put [(SEC_AUTH_DIAG, 1)]) (fun t => t.get INK_ECC_TEST_MECH == 1)
    ∧ meets (.eccTestMech true) awake (fun t => t.get INK_ECC_TEST_MECH == 0 && t.get INK_EVENT_TEST_REFUSED == 1)
    ∧ meets .eccTestArm (put [(SEC_AUTH_OFFICER, 1)]) (fun t => t.get INK_ECC_TEST_ARM == 1)
    ∧ meets .eccTestArm awake (fun t => t.get INK_EVENT_TEST_REFUSED == 1)
    ∧ meets .eccTestStore (put [(SEC_AUTH_DIAG, 1)]) (fun t => t.get INK_EVENT_TEST_DONE == 0)
    ∧ meets .eccTestStore awake (fun t => t.get INK_EVENT_TEST_REFUSED == 1)
    ∧ (testAuthority (put [(SEC_AUTH_DIAG, 1), (INK_ECC_TEST_HALF, 1)]) = true ∧ (put [(SEC_AUTH_DIAG, 1), (INK_ECC_TEST_HALF, 1)]).get INK_ECC_TEST_HALF = 1) := by decide +kernel

/-! ### Chapter 12 -/

/-- Scribe 3. -/
def scr3 : Requester := .scribe 3
/-- A line of zeros but for some first bytes. -/
def lineOf (tag dirty poison : Nat) (b : List (BitVec 8)) : CpbLine := { tag := tag, valid := true, hole := false, dirty := dirty, poison := poison, data := b ++ List.replicate (128 - b.length) 0 }
/-- The Copybook with lines in way 9, by set. -/
def cached (l : List (Fld × Nat)) (m : List (Nat × CpbLine)) : State := (put l).modCpb fun c => { c with lines := m.map fun e => (16 * e.1 + 9, e.2) }

theorem test_mbx_request_write : meets (.mbxRequestWrite (.host 1) 31 63 0xFFFFFFFF) (put [(MBX_CFG_FUNC 31, 1)]) (fun t => t.get (MBX_REQ_WORD 31 63) == 0xFFFFFFFF)
    ∧ meets (.mbxRequestWrite (.host 0) 31 63 7) (put [(MBX_CFG_FUNC 31, 1)]) (fun t => t.get (MBX_REQ_WORD 31 63) == 0 && t.bit MBX_PROTO_ERR_MASK 31)
    ∧ meets (.mbxResultWrite scr3 31 0 0xFFFFFFFF) (put [(MBX_STATUS_STATE 31, 2), (MBX_STATUS_TAKER 31, 3)]) (fun t => t.get (MBX_RES_WORD 31 0) == 0xFFFFFFF)
    ∧ meets (.mbxResultWrite scr3 31 1 9) (put [(MBX_STATUS_STATE 31, 3), (MBX_STATUS_TAKER 31, 3)]) (fun t => t.get (MBX_RES_WORD 31 1) == 0 && t.bit MBX_PROTO_ERR_MASK 31) := by decide +kernel
theorem test_post : meets (.post (.host 0) 31) awake (fun t => t.get (MBX_STATUS_STATE 31) == 1 && t.get MBX_POSTED_MASK == 0x80000000)
    ∧ meets (.post (.host 0) 31) (put [(MBX_STATUS_STATE 31, 1)]) (fun t => t.bit MBX_PROTO_ERR_MASK 31)
    ∧ meets (.take scr3 31) (put [(MBX_STATUS_STATE 31, 1), (MBX_POSTED_MASK, 0x80000001)]) (fun t => t.get (MBX_STATUS_TAKER 31) == 3 && t.get MBX_POSTED_MASK == 1)
    ∧ meets (.take .debug 31) (put [(MBX_STATUS_STATE 31, 1)]) (fun t => t.get (MBX_STATUS_STATE 31) == 1 && t.bit MBX_PROTO_ERR_MASK 31) := by decide +kernel
theorem test_cancel : meets (.cancel (.host 0) 2) (put [(MBX_STATUS_STATE 2, 1), (MBX_REQ_WORD 2 5, 9)]) (fun t => t.get (MBX_STATUS_STATE 2) == 0 && t.get (MBX_REQ_WORD 2 5) == 0)
    ∧ meets (.cancel (.host 0) 2) (put [(MBX_STATUS_STATE 2, 2)]) (fun t => t.get (MBX_STATUS_CANCEL_REQ 2) == 1)
    ∧ meets (.cancel (.host 0) 2) (put [(MBX_STATUS_STATE 2, 3)]) (fun t => t.bit MBX_PROTO_ERR_MASK 2) := by decide +kernel
theorem test_complete : meets (.complete scr3 2) (put [(MBX_STATUS_STATE 2, 2), (MBX_STATUS_TAKER 2, 3)]) (fun t => t.get (MBX_STATUS_STATE 2) == 3 && t.get MBX_DONE_MASK == 4)
    ∧ meets (.complete scr3 2) (put [(MBX_STATUS_STATE 2, 2), (MBX_STATUS_TAKER 2, 3), (MBX_STATUS_ORPHAN 2, 1), (MBX_RES_WORD 2 1, 4)])
      (fun t => t.get (MBX_STATUS_STATE 2) == 0 && t.get (MBX_STATUS_TAKER 2) == 0xF && t.get (MBX_RES_WORD 2 1) == 0)
    ∧ meets (.complete (.scribe 4) 2) (put [(MBX_STATUS_STATE 2, 2), (MBX_STATUS_TAKER 2, 3)]) (fun t => t.bit MBX_PROTO_ERR_MASK 2) := by decide +kernel
theorem test_mbx_ack : meets (.mbxAck (.host 0) 2) (put [(MBX_STATUS_STATE 2, 3), (MBX_STATUS_TAKER 2, 3), (MBX_DONE_MASK, 5), (MBX_RES_WORD 2 1, 4)])
      (fun t => t.get (MBX_STATUS_STATE 2) == 0 && t.get (MBX_STATUS_TAKER 2) == 0xF && t.get MBX_DONE_MASK == 1 && t.get (MBX_RES_WORD 2 1) == 0)
    ∧ meets (.mbxAck (.host 0) 2) (put [(MBX_STATUS_STATE 2, 2)]) (fun t => t.bit MBX_PROTO_ERR_MASK 2)
    ∧ meets (.resultHeaderRead 1 2) (put [(MBX_STATUS_STATE 2, 3), (MBX_STATUS_READ_COUNT 2, 7), (MBX_RES_WORD 2 0, 5)]) (fun t => t.returned.getD 9 0 == 0xF0000005 && t.get (MBX_STATUS_READ_COUNT 2) == 7)
    ∧ meets (.resultHeaderRead 1 2) (put [(MBX_STATUS_STATE 2, 2), (MBX_RES_WORD 2 0, 5)]) (fun t => t.returned.getD 9 0 == 0) := by decide +kernel
theorem test_mbx_cfg_write : meets (.mbxCfgWrite scr3 2 0x16) awake (fun t => t.get (MBX_CFG_FUNC 2) == 1 && t.get (MBX_CFG_SCRIBE 2) == 6)
    ∧ meets (.mbxCfgWrite scr3 2 0x16) (put [(MBX_STATUS_STATE 2, 1)]) (fun t => t.get (MBX_CFG_FUNC 2) == 0 && t.bit MBX_PROTO_ERR_MASK 2)
    ∧ meets (.mbxCfgWrite .debug 2 0x6) (put [(MBX_STATUS_STATE 2, 1)]) (fun t => t.get (MBX_CFG_SCRIBE 2) == 6)
    ∧ meets (.mbxCfgWrite (.host 0) 2 0x6) awake (fun t => t == awake) := by decide +kernel
theorem test_seals : meets (.sealTake scr3 63) awake (fun t => t.get (MBX_SEAL_OWNER 63) == 3)
    ∧ meets (.sealTake .verso 63) (put [(MBX_SEAL_OWNER 63, 3), (MBX_SEAL_CONTEND 63, 255)]) (fun t => t.get (MBX_SEAL_OWNER 63) == 3 && t.get (MBX_SEAL_CONTEND 63) == 255)
    ∧ meets (.sealRelease scr3 63) (put [(MBX_SEAL_OWNER 63, 3)]) (fun t => t.get (MBX_SEAL_OWNER 63) == 0xF)
    ∧ meets (.sealRelease .debug 63) (put [(MBX_SEAL_OWNER 63, 3)]) (fun t => t.get (MBX_SEAL_OWNER 63) == 3 && t.bit MBX_SEAL_ERR_MASK 63)
    ∧ meets (.clearBroken scr3 63) (put [(MBX_SEAL_OWNER 63, 3), (MBX_SEAL_BROKEN 63, 1)]) (fun t => t.get (MBX_SEAL_BROKEN 63) == 0)
    ∧ meets (.clearBroken scr3 63) (put [(MBX_SEAL_BROKEN 63, 1)]) (fun t => t.get (MBX_SEAL_BROKEN 63) == 1 && t.bit MBX_SEAL_ERR_MASK 63) := by decide +kernel
theorem test_scribe_load : meets (.scribeLoad 3 0x80084 2 .clean) (cached [] [(1, lineOf 1 0 2 [0, 0, 0, 0, 0x78, 0x56, 0x34, 0x12])]) (fun t => (t.scribe 3).value == 0x12345678 && t.get CPB_CNT_HIT_COUNT == 1)
    ∧ meets (.scribeLoad 3 0x800C0 3 .clean) (cached [] [(1, lineOf 1 0 2 [])]) (fun t => (t.scribe 3).trap == some (5, 0x800C0) && t.get CPB_EVENT_POISON == 1)
    ∧ meets (.scribeLoad 3 0x1FFFFFFFFF 0 .clean) awake (fun t => (t.scribe 3).trap == some (5, 0x1FFFFFFFFF))
    ∧ meets (.scribeLoad 3 0x2000010000 3 .clean) awake (fun t => (t.scribe 3).trap == some (5, 0x2000010000)) := by decide +kernel
theorem test_scribe_load_local : meets (.scribeLoad 3 0x300001FFFE 1 .corrected) { awake with locals := [(7 * 65536 + 0xFFFE, 0x34), (7 * 65536 + 0xFFFF, 0x12)] } (fun t => (t.scribe 3).value == 0x1234)
    ∧ meets (.scribeLoad 3 0x3000010000 0 .uncorrectable) awake (fun t => (t.scribe 3).trap == some (5, 0x3000010000)) := by decide +kernel
theorem test_scribe_store : meets (.scribeStore 3 0x80085 0 0x1FF) (cached [(CPB_CTRL_DEFAULT, 0)] [(1, lineOf 1 0 0 [])])
      (fun t => t.mem == [] && ((t.line? 1 9).map fun l => (l.dirty, l.data.getD 5 0)) == some (1, 0xFF))
    ∧ meets (.scribeStore 3 0x1006 1 0x1234) (ink [(CPB_CTRL_DEFAULT, 2)] [(0x1005, 1), (0x1008, 2)]) (fun t => t.mem == [(0x1005, 1), (0x1006, 0x34), (0x1007, 0x12), (0x1008, 2)])
    ∧ meets (.scribeStore 3 0x3010000000 2 1) awake (fun t => (t.scribe 3).trap == some (7, 0x3010000000))
    ∧ meets (.scribeStore 3 0x2000010000 0 1) awake (fun t => (t.scribe 3).trap == some (7, 0x2000010000)) := by decide +kernel
theorem test_scribe_fetch : meets (.scribeFetch 3 0x3000000004 .clean) { awake with locals := [(6 * 65536 + 4, 0x13)] } (fun t => (t.scribe 3).value == 0x13)
    ∧ meets (.scribeFetch 3 0x3000010000 .clean) awake (fun t => (t.scribe 3).trap == some (1, 0x3000010000))
    ∧ meets (.scribeFetch 3 0x2000010000 .clean) awake (fun t => (t.scribe 3).trap == some (1, 0x2000010000)) := by decide +kernel
theorem test_scribe_amo : meets (.scribeAmo 3 .add 0x80080 false 0xFFFFFFFF) (cached [(CPB_CTRL_DEFAULT, 0)] [(1, lineOf 1 0 0 [5])])
      (fun t => (t.scribe 3).value == 5 && ((t.line? 1 9).map fun l => l.data.take 5) == some [4, 0, 0, 0, 0])
    ∧ meets (.scribeAmo 3 .sc 0x80080 false 9) (cached [(CPB_CTRL_DEFAULT, 0)] [(1, lineOf 1 0 0 [5])]) (fun t => (t.scribe 3).value == 1 && ((t.line? 1 9).map fun l => l.data.take 1) == some [5])
    ∧ meets (.scribeAmo 3 .sc 0x80080 true 9) { cached [(CPB_CTRL_DEFAULT, 0)] [(1, lineOf 1 0 0 [5])] with scribes := [(3, { resv := some 0x1001 })] }
      (fun t => (t.scribe 3).value == 0 && (t.scribe 3).resv == none && ((t.line? 1 9).map fun l => l.data.take 1) == some [9]) := by decide +kernel
theorem test_scribe_amo_traps : meets (.scribeAmo 3 .lr 0x80080 true 0) (cached [(CPB_CTRL_DEFAULT, 1)] [(1, lineOf 1 0 0 [5])]) (fun t => (t.scribe 3).value == 5 && (t.scribe 3).resv == some 0x1001)
    ∧ meets (.scribeAmo 3 .swap 0x80084 true 0) (cached [(CPB_CTRL_DEFAULT, 0)] []) (fun t => (t.scribe 3).trap == some (7, 0x80084))
    ∧ meets (.scribeAmo 3 .swap 0x80080 true 0) (cached [(CPB_CTRL_DEFAULT, 2)] []) (fun t => (t.scribe 3).trap == some (7, 0x80080))
    ∧ meets (.scribeAmo 3 .maxu 0x80080 true 0) (cached [(CPB_CTRL_DEFAULT, 0)] [(1, lineOf 1 0 1 [])]) (fun t => (t.scribe 3).trap == some (7, 0x80080) && t.get CPB_EVENT_POISON == 1) := by decide +kernel
theorem test_scribe_debug_halt : meets (.scribeDebugHalt 7 true) (put [(SEC_STATUS_DBG_OPEN, 1)]) (fun t => t.get (SYS_SCR_STATUS_HALTED 7) == 1)
    ∧ meets (.scribeDebugHalt 7 true) awake (fun t => t.get (SYS_SCR_STATUS_HALTED 7) == 0)
    ∧ meets .victimWritebackDone ((put [(CPB_STATUS_VICTIMS, 1)]).modCpb fun c => { c with victims := [⟨0x80, 2, 0, List.replicate 127 0 ++ [9]⟩] })
      (fun t => t.mem == [(0xFF, 9)] && t.get CPB_STATUS_VICTIMS == 0 && t.cpb.victims == []) := by decide +kernel
theorem test_copybook_ops : meets .writeback (cached [(CPB_OP_ADDR_ADDR, 0x1001), (CPB_OP_LINES_LINES, 1)] [(1, lineOf 1 1 0 [5])]) (fun t => t.mem == [(0x80080, 5)] && t.get CPB_STATUS_BUSY == 1)
    ∧ meets .invalidate (cached [(CPB_OP_ADDR_ADDR, 0x1001), (CPB_OP_LINES_LINES, 1)] [(1, lineOf 1 1 0 [5])]) (fun t => t.mem == [] && t.line? 1 9 == none && t.get CPB_OP_KIND == 1)
    ∧ meets .wbInv (cached [(CPB_OP_ADDR_ADDR, 0x1001), (CPB_OP_LINES_LINES, 1)] [(1, lineOf 1 1 0 [5])]) (fun t => t.mem == [(0x80080, 5)] && t.line? 1 9 == none)
    ∧ meets .zero (ink [(CPB_OP_ADDR_ADDR, 1), (CPB_OP_LINES_LINES, 2)] [(0x7F, 1), (0x80, 1), (0x17F, 1), (0x180, 1)]) (fun t => t.mem == [(0x7F, 1), (0x180, 1)]) := by decide +kernel
theorem test_copybook_ops_refused : meets .zero (put [(CPB_OP_ADDR_ADDR, 0x1E000000 - 1), (CPB_OP_LINES_LINES, 2)]) (fun t => t.get CPB_OP_DONE == 1 && t.get CPB_OP_OK == 0 && t.get CPB_EVENT_OP_REFUSED == 1)
    ∧ meets .writeback (put [(CPB_OP_LINES_LINES, 1), (CPB_STATUS_BUSY, 1)]) (fun t => t.get CPB_EVENT_OP_REFUSED == 1)
    ∧ meets .wbInv awake (fun t => t.get CPB_EVENT_OP_REFUSED == 1)
    ∧ meets .cpbOpDone ((put [(CPB_STATUS_BUSY, 1)]).modCpb fun c => { c with op := some (4, 9), base := 5 })
      (fun t => t.get (CPB_WAY_LOCKED 9) == 1 && t.get (CPB_WAY_BASE 9) == 5 && t.get CPB_OP_OK == 1 && t.get CPB_STATUS_BUSY == 0) := by decide +kernel
theorem test_preload : meets (.preload 9) (put [(CPB_OP_ADDR_ADDR, 0x1000), (CPB_OP_LINES_LINES, 2)]) (fun t => t.cpb.op == some (4, 9) && t.cpb.base == 1 && t.get CPB_STATUS_BUSY == 1)
    ∧ meets (.preload 9) (put [(CPB_OP_ADDR_ADDR, 0x1000), (CPB_OP_LINES_LINES, 4096), (CPB_WAY_SCRATCH 9, 1)]) (fun t => t.get CPB_EVENT_OP_REFUSED == 1 && t.cpb.op == none)
    ∧ meets (.unlock 9) (put [(CPB_WAY_LOCKED 9, 1)]) (fun t => t.get (CPB_WAY_LOCKED 9) == 0)
    ∧ meets (.unlock 9) ((put [(CPB_WAY_LOCKED 9, 1)]).modCpb fun c => { c with op := some (4, 9) }) (fun t => t.get CPB_EVENT_CFG_REFUSED == 1) := by decide +kernel
theorem test_scratch_count_write : meets (.scratchCountWrite 15) (put [(CPB_SCRATCH_COUNT, 2), (CPB_WAY_SCRATCH 15, 1), (CPB_WAY_SCRATCH 14, 1)])
      (fun t => t.get CPB_SCRATCH_COUNT == 15 && t.get (CPB_WAY_SCRATCH 4) == 1 && t.get (CPB_WAY_SCRATCH 3) == 0 && t.get CPB_STATUS_SCRATCH_BUSY == 1)
    ∧ meets (.scratchCountWrite 1) (put [(CPB_SCRATCH_COUNT, 2), (CPB_WAY_SCRATCH 15, 1), (CPB_WAY_SCRATCH 14, 1)]) (fun t => t.get (CPB_WAY_SCRATCH 14) == 0)
    ∧ meets (.scratchCountWrite 1) (put [(CPB_STATUS_SCRATCH_BUSY, 1)]) (fun t => t.get CPB_SCRATCH_COUNT == 0 && t.get CPB_EVENT_CFG_REFUSED == 1)
    ∧ meets .scratchFillDone (put [(CPB_STATUS_SCRATCH_BUSY, 1)]) (fun t => t.get CPB_STATUS_SCRATCH_BUSY == 0)
    ∧ meets (.sramEccError 4095 9 1 false) (cached [] [(4095, lineOf 1 0 0 [])]) (fun t => t.get CPB_EVENT_SRAM_UE == 1 && ((t.line? 4095 9).map fun l => l.poison) == some 2)
    ∧ meets (.sramEccError 4095 9 1 true) (cached [] [(4095, lineOf 1 0 0 [])]) (fun t => t.get CPB_EVENT_SRAM_CE == 1 && ((t.line? 4095 9).map fun l => l.poison) == some 0) := by decide +kernel

/-! ### Chapter 13 -/

/-- An enabled controller with queue 5 on completion queue 4. -/
def ctrl1 : HostFn :=
  { en := true, rdy := true, sqs := [(0, { cq := 0, size := 16 }), (5, { cq := 4, size := 8, head := 6, tail := 1 })]
    cqs := [(0, { size := 16, vector := 0, ien := true }), (4, { size := 8, vector := 2, ien := true })] }
/-- Namespace 3 of 100 LBAs for function 1, built: LBA 5 in the Inkwell at 0x3000, the rest unmapped; reset gives the ledger its base at 0. -/
def ns3 (l : List (Fld × Nat)) (h : HostQ) : State :=
  { put ([(LDG_BASE_BASE, 0)] ++ l) with
    mem := [(128, 100), (137, 0x10), (144, 1), (0x1007, 0x80), (0x1008, 0x80), (0x100D, 8), (0x2000, 5), (0x2005, 2), (0x2007, 0x10), (0x2009, 0x30), (0x3000, 0xAB)]
    host := [(1, ctrl1)]
    hq := { h with nss := [(3, { size := 100, ctrls := 2 })] } }
/-- Command 7 of function 1 from queue q. -/
def one (q : Nat) (c : NvmeCmd) : HostQ := { cmds := [(7, { fn := 1, sq := q, cid := 0x55, cmd := c, lock := lockOf c })] }
/-- What completion queue q of function 1 holds: command, status and DW0. -/
def done1 (t : State) (q : Nat) : List (Nat × Nat × Nat) := match (t.fn 1).cqs.find? q with | some c => c.entries.map fun e => (e.cid, e.status, e.dw0) | none => []

theorem test_perst_assert : meets (.perstAssert 1) { ns3 [(HQ_LINK_STATUS_BIFUR 0, 1), (HQ_LINK_STATUS_BIFUR 1, 1), (HQ_LINK_STATUS_UP 1, 1), (HQ_CTRL_CFG_READY, 1)] (one 5 (.flush 3)) with gpioPins := 1 }
      (fun t => t.get HQ_EVENT_PERST == 1 && t.get (HQ_LINK_STATUS_UP 1) == 0 && t.fn 1 == {} && t.hq.cmds == [] && t.get HQ_EVENT_LINK_DOWN == 1)
    ∧ meets (.perstAssert 0) (ns3 [(HQ_LINK_STATUS_BIFUR 0, 1), (HQ_LINK_STATUS_BIFUR 1, 1)] (one 5 (.flush 3))) (fun t => t.fn 1 == ctrl1 && t.hq.cmds.length == 1)
    ∧ meets (.perstAssert 1) { awake with hq := { activation := some ⟨7, [], 0⟩ } } (fun t => t.hq.heldResets == [(2, 1)] && t.get HQ_EVENT_PERST == 0) := by decide +kernel
theorem test_perst_release : meets (.perstRelease 0 true) awake (fun t => t.get (HQ_LINK_STATUS_BIFUR 1) == 1 && t.hq.perst == [1] && t.hq.training == [0])
    ∧ meets (.perstRelease 1 true) State.reset (fun t => t.get (HQ_LINK_STATUS_BIFUR 1) == 0 && t.hq.perst == [0] && t.hq.training == [])
    ∧ meets (.pcieLinkUp 0 6 16 true) { awake with hq := { training := [0] } } (fun t => t.get (HQ_LINK_STATUS_UP 0) == 1 && t.get (HQ_LINK_STATUS_GEN 0) == 6 && t.get (HQ_LINK_STATUS_WIDTH 0) == 16 && t.get (HQ_LINK_STATUS_FLIT 0) == 1)
    ∧ meets (.pcieLinkUp 0 2 16 true) { awake with hq := { training := [0] } } (fun t => t.get (HQ_LINK_STATUS_UP 0) == 0)
    ∧ meets (.pcieLinkDown 0) (put [(HQ_LINK_STATUS_UP 0, 1)]) (fun t => t.get HQ_EVENT_LINK_DOWN == 1 && t.hq.training == [0]) := by decide +kernel
theorem test_config : meets (.cfgReadyWrite true) awake (fun t => t.get HQ_CTRL_CFG_READY == 1)
    ∧ meets (.pcieConfigRequest 1) awake (fun t => (t.fn 1).crs) ∧ meets (.pcieConfigRequest 1) (put [(HQ_CTRL_CFG_READY, 1)]) (fun t => !(t.fn 1).crs)
    ∧ meets (.qpSplitWrite 0xFF) awake (fun t => t.get HQ_QP_SPLIT_F0_QPS == 0xFF)
    ∧ meets (.qpSplitWrite 1) (ns3 [(HQ_QP_SPLIT_F0_QPS, 9)] {}) (fun t => t.get HQ_QP_SPLIT_F0_QPS == 9) := by decide +kernel
theorem test_cc_en : meets (.ccEnSet 1) { put ([(INK_STATUS_FILL_DONE, 1)] ++ (List.range 8).map fun q => (SYS_SCR_CTRL_RELEASE q, 1)) with host := [(1, { aqa := 0xFFF })] }
      (fun t => (t.fn 1).en && (t.fn 1).rdy && (t.fn 1).sqs == [(0, { cq := 0, size := 256 })])
    ∧ meets (.ccEnClear 1) (ns3 [(HQ_PWR_STATUS_F1_PS, 2)] (one 5 (.flush 3))) (fun t => !(t.fn 1).en && (t.fn 1).sqs == [] && t.hq.cmds == [] && t.get HQ_PWR_STATUS_F1_PS == 0 && t.get HQ_EVENT_CC_EN_FALL == 1)
    ∧ meets (.ccEnClear 1) { ns3 [] {} with hq := { activation := some ⟨7, [], 0⟩ } } (fun t => (t.fn 1).en && t.hq.heldResets == [(0, 1)]) := by decide +kernel
theorem test_flr : meets (.flr 1) (ns3 [(MBX_CFG_FUNC 2, 1), (MBX_STATUS_STATE 2, 2), (MBX_CFG_FUNC 3, 1), (MBX_STATUS_STATE 3, 3), (MBX_SEAL_OWNER 9, 9), (MBX_SEAL_OWNER 8, 8)] (one 5 (.flush 3)))
      (fun t => t.fn 1 == {} && t.hq.cmds == [] && t.get (MBX_STATUS_ORPHAN 2) == 1 && t.get (MBX_STATUS_STATE 3) == 0 && t.get (MBX_SEAL_BROKEN 9) == 1 && t.get (MBX_SEAL_OWNER 8) == 8) := by decide +kernel
theorem test_shutdowns : meets (.shnNormal 1) (ns3 [] {}) (fun t => (t.fn 1).shst == 2 && t.get HQ_EVENT_SHN == 1)
    ∧ meets (.shnNormal 1) { ns3 [(HQ_ADM_SEQ_SEQ, 7)] {} with ledger := { quires := [(2, { runs := [⟨6, 3, 0, 1, some 0⟩], took := [(6, 3)] })] } } (fun t => (t.fn 1).shst == 1 && (t.ledger.quires.find? 2).map (·.byFlush) == some true)
    ∧ meets (.shnAbrupt 1) (ns3 [] (one 5 (.flush 3))) (fun t => (t.fn 1).shst == 2 && t.hq.cmds == [] && (t.fn 1).cqs == ctrl1.cqs) := by decide +kernel
theorem test_doorbell : meets (.doorbell 1 5 false 7) (ns3 [(HQ_IDLE_MS 1, 9)] {}) (fun t => ((t.fn 1).sqs.find? 5).map (·.tail) == some 7 && t.get (HQ_IDLE_MS 1) == 0)
    ∧ meets (.doorbell 1 6 false 7) (ns3 [] {}) (fun t => (t.fn 1).events == [0x010000])
    ∧ meets (.doorbell 0 5 false 7) (ns3 [] {}) (fun t => t.fn 0 == {})
    ∧ meets (.doorbell 1 4 true 1) { awake with host := [(1, { ctrl1 with cqs := [(4, { size := 8, vector := 2, ien := true, tail := 2, entries := [⟨5, 1, 0, 0⟩, ⟨5, 2, 0, 0⟩] })] })] } (fun t => done1 t 4 == [(2, 0, 0)]) := by decide +kernel
theorem test_admit_next : nextQueue (ns3 [] {}) = some (1, 5)
    ∧ meets (.admitNext 0x55 (.read 3 9 2)) (ns3 [(HQ_ADM_SEQ_SEQ, 8)] (one 5 (.write 3 10 1 false))) (fun t => t.get HQ_ADM_SEQ_SEQ == 9 && ((t.cmd? 8).map fun c => (c.cid, c.lock)) == some (0x55, some ⟨3, 9, 11, false⟩)
        && ((t.fn 1).sqs.find? 5).map (·.head) == some 7 && t.get HQ_RL_CNT_CONFLICTS == 1 && t.get HQ_ADMIT_HELD == 2)
    ∧ meets (.admitNext 0x55 (.read 3 9 2)) (ns3 [(HQ_CTRL_FETCH_STOP, 1)] {}) (fun t => t.get HQ_ADMIT_STALL == 4 && t.hq.cmds == [])
    ∧ meets (.rangeLockRelease 7) (ns3 [] { cmds := [(7, { fn := 1, sq := 5, cid := 1, cmd := .flush 3, lock := some ⟨3, 0, 1, true⟩, over_ := true })] }) (fun t => t.cmd? 7 == none) := by decide +kernel
theorem test_abort_cmd : meets (.abortCmd 7 false) (ns3 [] { cmds := [(6, { fn := 1, sq := 5, cid := 2, cmd := .flush 3 }), (7, { fn := 1, sq := 0, cid := 0x55, cmd := .abort 5 2 })] })
      (fun t => done1 t 0 == [(0x55, 0, 0)] && t.cmd? 6 == none)
    ∧ meets (.abortCmd 7 false) (ns3 [] { cmds := [(6, { fn := 1, sq := 5, cid := 2, cmd := .flush 3, began := true }), (7, { fn := 1, sq := 0, cid := 0x55, cmd := .abort 5 2 })] })
      (fun t => done1 t 0 == [(0x55, 0, 1)] && (t.cmd? 6).isSome)
    ∧ meets (.abortCmd 7 true) (ns3 [] (one 0 (.abort 5 9))) (fun t => done1 t 0 == [(0x55, 0, 0)] && (t.fn 1).aborts == [(5, 9)])
    ∧ meets (.abortCmd 7 false) (ns3 [] (one 0 (.abort 5 9))) (fun t => done1 t 0 == [(0x55, 0, 1)]) := by decide +kernel
theorem test_async_event_request : meets (.asyncEventRequest 7) (ns3 [] (one 0 .asyncEvent)) (fun t => (t.fn 1).aers == [0x55] && done1 t 0 == [])
    ∧ meets (.asyncEventRequest 7) { ns3 [] (one 0 .asyncEvent) with host := [(1, { ctrl1 with events := [3, 4] })] } (fun t => done1 t 0 == [(0x55, 0, 3)] && (t.fn 1).events == [4])
    ∧ meets (.invalidOpcode 7) (ns3 [] (one 0 (.other 0x7F))) (fun t => done1 t 0 == [(0x55, 1, 0)])
    ∧ meets (.invalidOpcode 7) (ns3 [] (one 0 (.flush 3))) (fun t => done1 t 0 == [(0x55, 1, 0)]) := by decide +kernel
theorem test_create_io_queue : meets (.createIoQueue 7) (ns3 [(HQ_QP_SPLIT_F0_QPS, 64)] (one 0 (.createCq 64 512 128 true))) (fun t => done1 t 0 == [(0x55, 0, 0)] && ((t.fn 1).cqs.find? 64).map (·.vector) == some 128)
    ∧ meets (.createIoQueue 7) (ns3 [(HQ_QP_SPLIT_F0_QPS, 64)] (one 0 (.createCq 65 512 128 true))) (fun t => done1 t 0 == [(0x55, 0x101, 0)])
    ∧ meets (.createIoQueue 7) (ns3 [(HQ_QP_SPLIT_F0_QPS, 64)] (one 0 (.createCq 1 513 128 true))) (fun t => done1 t 0 == [(0x55, 0x102, 0)])
    ∧ meets (.createIoQueue 7) (ns3 [(HQ_QP_SPLIT_F0_QPS, 64)] (one 0 (.createSq 1 2 3))) (fun t => done1 t 0 == [(0x55, 0x100, 0)])
    ∧ meets (.createIoQueue 7) (ns3 [(HQ_QP_SPLIT_F0_QPS, 64)] (one 0 (.createSq 1 2 4))) (fun t => ((t.fn 1).sqs.find? 1).map (·.cq) == some 4) := by decide +kernel
theorem test_delete_io_queue : meets (.deleteIoQueue 7) (ns3 [] (one 0 (.deleteSq 5))) (fun t => done1 t 0 == [(0x55, 0, 0)] && (t.fn 1).sqs.find? 5 == none)
    ∧ meets (.deleteIoQueue 7) (ns3 [] (one 0 (.deleteSq 9))) (fun t => done1 t 0 == [(0x55, 0x101, 0)])
    ∧ meets (.deleteIoQueue 7) (ns3 [] (one 0 (.deleteCq 4))) (fun t => done1 t 0 == [(0x55, 0x10C, 0)])
    ∧ meets .statusWindowRefresh { put [(SEC_STATUS_STATE, 2)] with running := true, window := [(0x8000, 0xFFFFFFFF)] } (fun t => t.window.getD 0x8000 0 == 0 && t.window.getD 0x8008 0 / 0x10000000 == 2) := by decide +kernel
theorem test_read_cmd : meets (.readCmd 7 []) (ns3 [] (one 5 (.read 3 5 1))) (fun t => (t.fn 1).dma.head? == some 0xAB && done1 t 4 == [(0x55, 0, 0)])
    ∧ meets (.readCmd 7 []) (ns3 [] (one 5 (.read 3 99 2))) (fun t => done1 t 4 == [(0x55, 0x80, 0)])
    ∧ meets (.readCmd 7 []) (ns3 [] (one 5 (.read 4 0 1))) (fun t => done1 t 4 == [(0x55, 0xB, 0)])
    ∧ meets (.readCmd 7 []) (ns3 [(VRS_STATUS_ROLE, 1)] (one 5 (.read 3 0 1))) (fun t => done1 t 4 == [(0x55, 0x302, 0)])
    ∧ meets (.readCmd 7 []) { ns3 [] (one 5 (.read 3 5 1)) with poison := [(0xFF, true)] } (fun t => done1 t 4 == [(0x55, 0x281, 0)]) := by decide +kernel
theorem test_compare : meets (.compare 7 [] []) (ns3 [] (one 5 (.compare 3 5 1))) (fun t => done1 t 4 == [(0x55, 0x285, 0)])
    ∧ meets (.compare 7 [] []) (ns3 [] (one 5 (.compare 3 5 0))) (fun t => done1 t 4 == [(0x55, 0, 0)]) := by decide +kernel
theorem test_write_cmd : meets (.writeCmd 7 [9, 8] [(2, 0x5000, 0x6000)]) (ns3 [] (one 5 (.write 3 5 1 false))) (fun t => t.byte 0x5001 == 8 && done1 t 4 == [] && (t.cmd? 7).map (·.dataWhole) == some false)
    ∧ meets (.writeCmd 7 [] [(2, 0x5000, 0x6000)]) (ns3 [] (one 5 (.write 3 100 1 false))) (fun t => done1 t 4 == [(0x55, 0x80, 0)])
    ∧ (ioError (ns3 [] {}) 1 3 6 0 = none ∧ (chunks 16384 5 1).length = 1 ∧ takesAll (ns3 [] {}).ledger.quires [(2, ⟨7, 3, 5, 1, some 0x5000⟩)] = true ∧ mirrored (ns3 [] {}) = false) := by decide +kernel
theorem test_flush : meets (.flush 7) (ns3 [] (one 5 (.flush 3))) (fun t => done1 t 4 == [(0x55, 0, 0)])
    ∧ meets (.flush 7) (ns3 [] { cmds := [(6, { fn := 1, sq := 5, cid := 2, cmd := .write 3 0 1 false, lock := some ⟨3, 0, 1, true⟩ }), (7, { fn := 1, sq := 5, cid := 0x55, cmd := .flush 3 })] }) (fun t => done1 t 4 == [])
    ∧ meets (.flush 7) { ns3 [] (one 5 (.flush 3)) with ledger := { quires := [(2, { runs := [⟨6, 3, 0, 1, some 0⟩], took := [(6, 3)] })] } }
      (fun t => done1 t 4 == [] && (t.cmd? 7).map (·.quires) == some [2] && (t.ledger.quires.find? 2).map (·.isOpen) == some false) := by decide +kernel
theorem test_write_zeroes : meets (.writeZeroes 7 2 [0x6000]) (ns3 [] (one 5 (.writeZeroes 3 5 2))) (fun t => done1 t 4 == [(0x55, 0, 0)] && (t.ledger.quires.find? 2).map (·.runs) == some [⟨7, 3, 5, 2, none⟩])
    ∧ meets (.deallocate 7 2 [0x6000]) (ns3 [] (one 5 (.deallocate 3 [(5, 1), (9, 2)]))) (fun t => done1 t 4 == [(0x55, 0, 0)] && (t.ledger.quires.find? 2).map (·.runs) == some [⟨7, 3, 5, 1, none⟩, ⟨7, 3, 9, 2, none⟩])
    ∧ meets (.writeZeroes 7 2 [0x6000]) (ns3 [] (one 5 (.writeZeroes 3 99 2))) (fun t => done1 t 4 == [(0x55, 0x80, 0)]) := by decide +kernel

theorem test_identify : meets (.identify 7) (ns3 [(SYS_BOOT_VER_VERSION, 0x31)] (one 0 (.identify 1 0))) (fun t => (t.fn 1).dma.getD 77 0 == 14 && (t.fn 1).dma.getD 64 0 == 0x31 && done1 t 0 == [(0x55, 0, 0)])
    ∧ meets (.identify 7) (ns3 [] (one 0 (.identify 0 3))) (fun t => (t.fn 1).dma.head? == some 100)
    ∧ meets (.identify 7) (ns3 [] (one 0 (.identify 0 65))) (fun t => done1 t 0 == [(0x55, 0xB, 0)])
    ∧ meets (.identify 7) (ns3 [] (one 0 (.identify 3 0))) (fun t => done1 t 0 == [(0x55, 2, 0)]) := by decide +kernel
theorem test_get_log_page : meets (.getLogPage 7) (ns3 [(VRS_STATUS_ROLE, 3)] (one 0 (.getLogPage 0xC))) (fun t => (t.fn 1).dma.getD 32 0 == BitVec.ofNat 8 (anaCode .inaccessible) && done1 t 0 == [(0x55, 0, 0)]) := by decide +kernel
theorem test_get_features : meets (.getFeatures 7) (ns3 [(HQ_QP_SPLIT_F0_QPS, 127)] (one 0 (.getFeatures 7))) (fun t => done1 t 0 == [(0x55, 0, 0)])
    ∧ meets (.getFeatures 7) (ns3 [(HQ_PWR_STATUS_F1_PS, 3)] (one 0 (.getFeatures 2))) (fun t => done1 t 0 == [(0x55, 0, 3)])
    ∧ meets (.getFeatures 7) (ns3 [] (one 0 (.getFeatures 6))) (fun t => done1 t 0 == [(0x55, 0, 1)])
    ∧ meets (.getFeatures 7) (ns3 [] (one 0 (.getFeatures 3))) (fun t => done1 t 0 == [(0x55, 2, 0)]) := by decide +kernel
theorem test_set_features : meets (.setFeatures 7) (ns3 [] (one 0 (.setFeatures 2 4 []))) (fun t => t.get HQ_PWR_STATUS_F1_PS == 4 && t.hq.lastOp == 0 && done1 t 0 == [(0x55, 0, 0)])
    ∧ meets (.setFeatures 7) (ns3 [] (one 0 (.setFeatures 2 5 []))) (fun t => t.get HQ_PWR_STATUS_F1_PS == 0 && done1 t 0 == [(0x55, 2, 0)])
    ∧ meets (.setFeatures 7) (ns3 [] (one 0 (.setFeatures 6 0 []))) (fun t => done1 t 0 == [(0x55, 0x10E, 0)])
    ∧ meets (.setFeatures 7) (ns3 [] (one 0 (.setFeatures 0xC 1 [3]))) (fun t => (t.fn 1).apst == some [3] && done1 t 0 == [(0x55, 0, 0)]) := by decide +kernel
theorem test_namespace_management : meets (.namespaceManagement 7 false 0) (ns3 [] (one 0 (.nsCreate 9))) (fun t => t.hq.nss.length == 1 && (done1 t 0).length == 1)
    ∧ meets (.namespaceManagement 7 true 0) (ns3 [] (one 0 (.nsDelete 4))) (fun t => done1 t 0 == [(0x55, 0xB, 0)] && t.hq.nss.length == 1) := by decide +kernel
theorem test_namespace_attachment : meets (.namespaceAttachment 7) (ns3 [] (one 0 (.nsAttach 3 1 true))) (fun t => attached t 0 3 && done1 t 0 == [(0x55, 0, 0)])
    ∧ meets (.namespaceAttachment 7) (ns3 [] (one 0 (.nsAttach 3 2 true))) (fun t => done1 t 0 == [(0x55, 0x118, 0)])
    ∧ meets (.namespaceAttachment 7) (ns3 [] (one 0 (.nsAttach 3 3 false))) (fun t => done1 t 0 == [(0x55, 0x11A, 0)])
    ∧ meets (.namespaceAttachment 7) (ns3 [] (one 0 (.nsAttach 3 2 false))) (fun t => !attached t 1 3 && done1 t 0 == [(0x55, 0, 0)]) := by decide +kernel
theorem test_security : meets (.securitySend 7) (ns3 [] (one 0 (.securitySend [1, 2]))) (fun t => t.hq.opal == [1, 2] && done1 t 0 == [(0x55, 0, 0)])
    ∧ meets (.securityReceive 7 [1, 2, 3]) (ns3 [] (one 0 (.securityReceive 2))) (fun t => (t.fn 1).dma == [1, 2]) := by decide +kernel
theorem test_format_nvm : meets (.formatNvm 7 127 2 [0x6000]) (ns3 [] (one 0 (.format 3 0))) (fun t => done1 t 0 == [(0x55, 0, 0)] && (t.ledger.quires.find? 2).map (·.runs) == some [⟨7, 3, 0, 100, none⟩])
    ∧ meets (.formatNvm 7 127 2 []) (ns3 [] (one 0 (.format 3 1))) (fun t => done1 t 0 == [(0x55, 0x10A, 0)])
    ∧ meets (.formatNvm 7 127 2 []) (ns3 [] (one 0 (.format 3 2))) (fun t => (done1 t 0).length == 1 && t.get (SEC_SLOT_LOADED 127) == 0)
    ∧ ((ns3 [(SEC_STATUS_STATE, 1)] {}).get SEC_STATUS_STATE = 1 ∧ (ns3 [(SEC_STATUS_STATE, 1)] {}).sec.withheld = false ∧ (ns3 [(SEC_STATUS_STATE, 1)] {}).get (SEC_SLOT_IN_USE 127) ≠ 1) := by decide +kernel
theorem test_sanitize : meets (.sanitize 7) (ns3 [] (one 0 (.sanitize 2))) (fun t => done1 t 0 == [(0x55, 2, 0)])
    ∧ meets (.sanitize 7) (ns3 [] (one 0 (.sanitize 4))) (fun t => (done1 t 0).length == 1 && t.sec.slots == []) := by decide +kernel
theorem test_firmware_image_download : meets (.firmwareImageDownload 7) (ns3 [] (one 0 (.fwDownload 33554430 [1, 2]))) (fun t => done1 t 0 == [(0x55, 0, 0)] && t.hq.image.getD 33554431 0 == 2)
    ∧ meets (.firmwareImageDownload 7) (ns3 [] (one 0 (.fwDownload 33554431 [1, 2]))) (fun t => done1 t 0 == [(0x55, 2, 0)]) := by decide +kernel
theorem test_firmware_commit : meets (.firmwareCommit 7 none) (ns3 [] (one 0 (.fwCommit 1 0))) (fun t => done1 t 0 == [(0x55, 0x106, 0)])
    ∧ meets (.firmwareCommit 7 none) (ns3 [] { one 0 (.fwCommit 2 1) with image := [(0, 5)] }) (fun t => done1 t 0 == [(0x55, 0, 0)] && t.flash.preferred == 1 && t.flash.trial && (t.flash.slots.find? 1).isSome)
    ∧ meets (.firmwareCommit 7 none) (ns3 [] (one 0 (.fwCommit 0 2))) (fun t => t.flash.preferred == 1 && t.flash.trial && t.flash.slots == [])
    ∧ meets (.firmwareCommit 7 none) (ns3 [] (one 0 (.fwCommit 0 3))) (fun t => done1 t 0 == [(0x55, 0x107, 0)])
    ∧ meets .activationRollback { ns3 [] (one 0 (.fwCommit 0 3)) with hq := { one 0 (.fwCommit 0 3) with activation := some ⟨7, [], 0⟩, heldResets := [(0, 0)] } }
      (fun t => t.hq.activation == none && t.hq.heldResets == [] && t.cmd? 7 == none) := by decide +kernel
theorem test_power_state_change : meets .powerStateChange (put [(HQ_PWR_STATUS_F0_PS, 1), (HQ_PWR_STATUS_F1_PS, 3)]) (fun t => t.get HQ_PWR_STATUS_TRANSITION == 1 && t.get HQ_PWR_STATUS_TARGET == 1 && t.get HQ_PWR_STATUS_PS == 0)
    ∧ meets .powerStateChange (put [(HQ_PWR_STATUS_F0_PS, 1), (HQ_PWR_STATUS_F1_PS, 3), (HQ_PWR_STATUS_TRANSITION, 1), (HQ_PWR_STATUS_TARGET, 1)]) (fun t => t.get HQ_PWR_STATUS_TRANSITION == 0 && t.get HQ_PWR_STATUS_PS == 1 && t.get HQ_EVENT_PS_CHANGE == 1)
    ∧ meets .powerStateChange (put [(HQ_PWR_STATUS_F0_PS, 4), (HQ_PWR_STATUS_F1_PS, 3), (HQ_PWR_STATUS_TRANSITION, 1), (HQ_PWR_STATUS_TARGET, 1)]) (fun t => t.get HQ_PWR_STATUS_TRANSITION == 1 && t.get HQ_PWR_STATUS_TARGET == 3)
    ∧ meets .powerStateChange { put [(HQ_PWR_STATUS_F0_PS, 4), (HQ_PWR_STATUS_F1_PS, 3)] with ledger := { quires := [(2, { runs := [⟨6, 3, 0, 1, some 0⟩] })] } } (fun t => t.get HQ_PWR_STATUS_TRANSITION == 0)
    ∧ meets .powerStateChange awake (fun t => t.get HQ_PWR_STATUS_TRANSITION == 0) := by decide +kernel
theorem test_apst_due : isIdle (ns3 [] {}) 1 = false ∧ isIdle { awake with host := [(1, { en := true })] } 1 = true
    ∧ meets (.apstDue 1) { put [(HQ_IDLE_MS 1, 30000)] with host := [(1, { en := true })] } (fun t => t.get HQ_PWR_STATUS_F1_PS == 2 && t.get HQ_EVENT_APST_DUE == 1 && t.get (HQ_IDLE_MS 1) == 30000)
    ∧ meets (.apstDue 1) { put [(HQ_IDLE_MS 1, 29999)] with host := [(1, { en := true })] } (fun t => t.get HQ_PWR_STATUS_F1_PS == 0)
    ∧ meets (.apstDue 1) { put [(HQ_PWR_STATUS_F1_PS, 3), (HQ_IDLE_MS 1, 0xFFFFFFFF)] with host := [(1, { en := true })] } (fun t => t.get HQ_PWR_STATUS_F1_PS == 4 && t.get (HQ_IDLE_MS 1) == 0xFFFFFFFF) := by decide +kernel
theorem test_autonomous_exit : meets .autonomousExit (ns3 [(HQ_PWR_STATUS_PS, 3), (HQ_PWR_STATUS_F0_PS, 4), (HQ_PWR_STATUS_F1_PS, 3)] { one 5 (.flush 3) with lastOp := 1 })
      (fun t => t.get HQ_PWR_STATUS_F0_PS == 1 && t.get HQ_PWR_STATUS_F1_PS == 1 && t.get HQ_PWR_STATUS_TRANSITION == 1 && t.get HQ_PWR_STATUS_TARGET == 1 && t.get HQ_PWR_STATUS_PS == 3)
    ∧ meets .autonomousExit (ns3 [(HQ_PWR_STATUS_PS, 3), (HQ_PWR_STATUS_F0_PS, 4), (HQ_PWR_STATUS_F1_PS, 3)] { one 0 (.flush 3) with lastOp := 1 }) (fun t => t.get HQ_PWR_STATUS_F0_PS == 4) := by decide +kernel

/-! ### Chapter 14 -/

/-- A ledger with discs. -/
def discs (l : List (Nat × Disc)) : State := { ns3 [] {} with ledger := { discs := l } }
/-- A run of 10 LBAs of namespace 3 on disc 9. -/
def run9 : MRun := { nsid := 3, lba := 0, count := 10, disc := 9 }

theorem test_lookup : meets .lookup { ns3 [(LDG_CTRL_ENABLE, 1), (LDG_Q_CFG_EN 3, 1), (LDG_Q_BASE_BASE 3, 8), (LDG_Q_HEAD_HEAD 3, 1)] {} with mem := (ns3 [] {}).mem ++ [(0x8004, 3), (0x8008, 5), (0x800E, 1)] }
      (fun t => t.get (LDG_Q_TAIL_TAIL 3) == 1 && t.bit LDG_EVENT_RESP 3 && t.ledger.ring == 3 && t.get LDG_CNT_LOOKUP_LOOKUPS == 1
        && viewLe t 0x8004 2 == 0x0200 && viewLe t 0x8010 8 == 0x1000020000000005 && viewLe t 0x8018 8 == 0x3000 && viewLe t 0x8020 8 == 0x2000020000000006)
    ∧ meets .lookup { ns3 [(LDG_CTRL_ENABLE, 1), (LDG_Q_CFG_EN 3, 1), (LDG_Q_BASE_BASE 3, 8), (LDG_Q_HEAD_HEAD 3, 1)] {} with poison := [(0x200, true)] } (fun t => t.get LDG_EVENT_FAULT == 1 && t.get LDG_CNT_EXC_FAULTS == 1)
    ∧ meets .lookup (ns3 [(LDG_CTRL_ENABLE, 1), (LDG_Q_CFG_EN 3, 1)] {}) (fun t => t.get LDG_CNT_LOOKUP_LOOKUPS == 0) := by decide +kernel
theorem test_lookup_ends : meets .lookup { ns3 [(LDG_CTRL_ENABLE, 1), (LDG_Q_CFG_EN 3, 1), (LDG_Q_BASE_BASE 3, 8), (LDG_Q_HEAD_HEAD 3, 1)] {} with mem := [(128, 100), (137, 0x10), (144, 1), (0x8004, 3), (0x8008, 5)] }
      (fun t => t.get LDG_CNT_EXC_SLOWS == 1 && viewLe t 0x8004 1 == 2)
    ∧ meets .lookup { ns3 [(LDG_CTRL_ENABLE, 1), (LDG_Q_CFG_EN 3, 1), (LDG_Q_BASE_BASE 3, 8), (LDG_Q_HEAD_HEAD 3, 1)] {} with mem := [(0x8004, 65)] }
      (fun t => t.get LDG_CNT_EXC_SLOWS == 0 && t.get LDG_CNT_EXC_FAULTS == 0 && viewLe t 0x8004 1 == 1) := by decide +kernel
theorem test_ldg_swap : meets .ldgSwap (cached [(LDG_SWAP_ADDR_ADDR, 0x8009), (LDG_SWAP_W0_WORD, 0x1234), (LDG_SWAP_W1_WORD, 0x56)] [(1, lineOf 1 0 0 [])])
      (fun t => t.get LDG_SWAP_CTRL_OK == 1 && t.get LDG_SWAP_SEQ_SEQ == 1 && t.get LDG_OLDEST_SEQ == 1 && t.mem == [] && viewLe t 0x80090 8 == 0x1234 && viewLe t 0x80098 8 == 0x56)
    ∧ meets .ldgSwap (put [(LDG_SWAP_ADDR_ADDR, 0xF000_0000)]) (fun t => t.get LDG_SWAP_CTRL_OK == 0 && t.get LDG_EVENT_SWAP_REFUSED == 1 && t.get LDG_SWAP_CTRL_DONE == 1) := by decide +kernel
theorem test_bind_request : meets (.bind 9 (.request 7 true 0x77 [(1, 3)])) (put [(LK_STATUS_GEN 14, 2), (LK_STATUS_GEN 15, 2)])
      (fun t => (t.ledger.discs.find? 9).map (fun x => (x.spindle, x.id, x.map)) == some (7, 0x77, [(1, 3)]))
    ∧ meets (.bind 9 (.request 7 true 0 [])) (put [(LK_STATUS_GEN 14, 2), (LK_STATUS_GEN 15, 1)]) (fun t => t.ledger.discs == [] && t.ledger.bindRefused == some (9, .generation))
    ∧ meets (.bind 9 (.request 7 true 0 [])) (discs [(9, { spindle := 1, bx2 := false })]) (fun t => (t.ledger.discs.find? 9).map (·.spindle) == some 1) := by decide +kernel
theorem test_bind_chain : meets (.bind 9 (.chain 1 0x9000 16)) (discs [(9, { spindle := 1, bx2 := true })]) (fun t => (t.ledger.discs.find? 9).map (fun x => (x.phase, x.ends)) == some (.chain, []))
    ∧ meets (.bind 9 (.chain 1 0x9000 16)) (discs [(9, { spindle := 1, bx2 := true, phase := .ready })]) (fun t => (t.ledger.discs.find? 9).map (·.phase) == some .ready)
    ∧ meets (.bind 9 (.blank 1)) (discs [(9, { spindle := 1, bx2 := true, ends := [0] })]) (fun t => (t.ledger.discs.find? 9).map (fun x => (x.phase, x.ends)) == some (.sort, [1, 0])) := by decide +kernel

/-! A Colophon record whose CRC is right: its 65,528 bytes are not summed here, the sum is written in as it comes. -/

/-- The last Colophon of side 1 of disc 9, ID 7, in the Inkwell at 0x90000: one folio, no runs, no CRC yet. -/
def bareRecord : State :=
  { discs [(9, { spindle := 1, bx2 := true, id := 7, map := [(1, 3)], ends := [0] })] with
    mem := [(0x90000, 1), (0x90001, 0x0A), (0x90002, 0x0F), (0x90003, 0x7C), (0x90004, 1), (0x90018, 7), (0x90028, 0xFF), (0x90029, 0xFF), (0x9002A, 0xFF), (0x9002B, 0xFF), (0x90030, 1)] }
/-- The same with its CRC-64. -/
def lastRecord : State := bareRecord.putBytes 0x9FFF8 (leBytes 8 (crc64 (bareRecord.bytesAt 0x90000 0xFFF8)))

theorem lastRecord_le (a n : Nat) (h : a + n ≤ 0x9FFF8) : lastRecord.le a n = bareRecord.le a n :=
  State.le_congr n a fun i hi => bareRecord.byte_putBytes_ne _ _ (Or.inl (by omega))

theorem test_bind_chain_counts : copyCounts lastRecord 0x90000 7 = true
    ∧ (lastRecord.ledger.discs.find? 9).map (fun x => (x.phase, x.id, x.records)) = some (.chain, 7, [])
    ∧ lastRecord.le (0x90000 + 0x48) 8 = 0 ∧ lastRecord.le (0x90000 + 0x28) 4 = 0xFFFFFFFF := by
  refine ⟨?_, ?_, ?_, ?_⟩
  · have form : recordForm lastRecord 0x90000 7 = true := by
      unfold recordForm
      simp only [lastRecord_le _ _ (show 0x90000 + 4 ≤ 0x9FFF8 by decide), lastRecord_le _ _ (show 0x90000 + 4 + 2 ≤ 0x9FFF8 by decide),
        lastRecord_le _ _ (show 0x90000 + 0x18 + 8 ≤ 0x9FFF8 by decide), lastRecord_le _ _ (show 0x90000 + 0x30 + 2 ≤ 0x9FFF8 by decide),
        lastRecord_le _ _ (show 0x90000 + 0x32 + 2 ≤ 0x9FFF8 by decide), lastRecord_le _ _ (show 0x90000 + 0x34 + 2 ≤ 0x9FFF8 by decide)]
      decide +kernel
    have clean : lastRecord.anyPoison 0x90000 65536 = false := by
      simp only [State.anyPoison, List.any_eq_false]
      intro b _
      have q := (State.putBytes_poison_ledger bareRecord 0x9FFF8 (leBytes 8 (crc64 (bareRecord.bytesAt 0x90000 0xFFF8)))).1
      have z : lastRecord.poison = [] := q
      simp [State.poisoned, z, Store.getD]
    have sum : lastRecord.le (0x90000 + 0xFFF8) 8 = crc64 (lastRecord.bytesAt 0x90000 0xFFF8) := by
      have q := State.le_putBytes bareRecord 0x9FFF8 (leBytes 8 (crc64 (bareRecord.bytesAt 0x90000 0xFFF8))) 8 0 rfl
      have e : lastRecord.bytesAt 0x90000 0xFFF8 = bareRecord.bytesAt 0x90000 0xFFF8 :=
        State.bytesAt_congr _ _ fun i hi => bareRecord.byte_putBytes_ne _ _ (Or.inl (by omega))
      rw [e]
      refine q.trans ?_
      rw [List.drop_zero, leVal_leBytes]
      exact Nat.mod_eq_of_lt (crc64_lt _)
    unfold copyCounts
    simp only [form, clean, sum, Bool.not_false, Bool.and_self, beq_self_eq_true]
  · rw [show lastRecord.ledger = bareRecord.ledger from (State.putBytes_poison_ledger bareRecord _ _).2]
    rfl
  · rw [lastRecord_le _ _ (by decide)]
    decide +kernel
  · rw [lastRecord_le _ _ (by decide)]
    decide +kernel
theorem test_bind_sort : meets (.bind 9 .sort) (discs [(9, { spindle := 1, bx2 := true, phase := .sort, runs := [run9] })]) (fun t => (t.ledger.discs.find? 9).map (fun x => (x.phase, x.todo)) == some (.build, [3 * 2 ^ 32]))
    ∧ meets (.bind 9 .sort) (discs [(9, { spindle := 1, bx2 := true, phase := .sort })]) (fun t => (t.ledger.discs.find? 9).map (·.phase) == some .ready)
    ∧ meets (.bind 9 .unbind) (discs [(9, { spindle := 1, bx2 := true, phase := .ready, runs := [run9] })]) (fun t => (t.ledger.discs.find? 9).map (fun x => (x.leaving, x.todo)) == some (true, [3 * 2 ^ 32]))
    ∧ meets (.bind 9 .unbind) (discs [(9, { spindle := 1, bx2 := true, phase := .ready })]) (fun t => t.ledger.discs == []) := by decide +kernel
theorem test_bind_build : meets (.bind 9 (.build 0xA000)) (discs [(8, { spindle := 1, bx2 := true, phase := .build, todo := [1, 3 * 2 ^ 32] }), (9, { spindle := 1, bx2 := true, phase := .build, runs := [run9], todo := [3 * 2 ^ 32] })])
      (fun t => (t.ledger.discs.find? 9).map (·.phase) == some .ready && (t.ledger.discs.find? 8).map (·.todo) == some [1])
    ∧ meets (.slowLookupResolve 3 0 1) (discs [(9, { spindle := 1, bx2 := true, map := [(1, 3)] })]) (fun t => t.ledger.slow == none)
    ∧ meets (.slowLookupResolve 3 0 1) (discs [(9, { spindle := 1, bx2 := true, phase := .build, todo := [1, 3 * 2 ^ 32] })]) (fun t => t.ledger.slow == some [(0x2000020000000000, 0)] && (t.ledger.discs.find? 9).map (·.todo) == some [3 * 2 ^ 32, 1]) := by decide +kernel
theorem test_commit_apply : meets (.commitApply 2 4 0 9 []) { ns3 [(FQ_TAIL_TAIL 4, 1), (FQ_BASE_BASE 4, 8)] { cmds := [(7, { fn := 1, sq := 5, cid := 0x55, cmd := .flush 3, dataWhole := true, quires := [2] })] } with
        mem := (ns3 [] {}).mem ++ [(0x8000, 3), (0x8012, 9), (0x90000, 1), (0x90001, 0x0A), (0x90002, 0x0F), (0x90003, 0x7C), (0x90004, 1), (0x90010, 2)]
        ledger := { quires := [(2, { isOpen := false, runs := [⟨6, 3, 0, 1, some 0⟩] })] } }
      (fun t => done1 t 4 == [(0x55, 0, 0)] && (t.cmd? 7) == none)
    ∧ meets (.commitApply 2 4 0 9 []) awake (fun t => t == awake) := by decide +kernel

/-! ### Chapter 15 -/

/-- The Verso link UP, with fields. -/
def up (l : List (Fld × Nat)) : State := put ([(VRS_STATUS_LINK, 2), (VRS_CTRL_ENABLE, 1)] ++ l)

theorem test_vrs_out_write : meets (.vrsOutWrite 39 0xC8000000) awake (fun t => t.get (VRS_OUT_CLASS 39) == 12 && t.get (VRS_OUT_READY 39) == 1 && t.get VRS_STATUS_ROLE == 2)
    ∧ meets (.vrsOutWrite 39 0xC0000000) (put [(VRS_OUT_OTHER_HOLDS 39, 1)]) (fun t => t.get (VRS_OUT_CLASS 39) == 0 && t.get VRS_EVENT_CLAIM_REFUSED == 1)
    ∧ meets (.vrsOutWrite 39 0x58000000) awake (fun t => t.get (VRS_OUT_READY 39) == 0 && t.get VRS_EVENT_CFG_REFUSED == 1)
    ∧ meets (.vrsOutWrite 39 0x08000000) awake (fun t => t.get (VRS_OUT_READY 39) == 1)
    ∧ meets (.vrsOutWrite 39 0x40000000) (put [(VRS_DIAG_GAVE_UP, 1)]) (fun t => t.get (VRS_OUT_CLASS 39) == 0 && t.get VRS_EVENT_CLAIM_REFUSED == 1) := by decide +kernel
theorem test_vrs_out_write_claims : meets (.vrsOutWrite 7 0xC0000000) (port7 5 [(VRS_NODE_NODE_ID, 0x345)] {}) (fun t => ((t.link 7).claimSent.map fun c => c.2.1) == some 0xC345)
    ∧ meets (.vrsOutWrite 7 0x40000000) (put [(VRS_OUT_CLASS 7, 12)]) (fun t => t.get (VRS_OUT_CLASS 7) == 4 && t.get VRS_STATUS_ROLE == 1) := by decide +kernel
theorem test_give_up : meets .giveUp { up [(VRS_OUT_CLASS 39, 12), (VRS_DIAG_CAUSE, 5), (LE_LOOP_CTRL_MODE_ACT 16 11, 2)] with host := [(1, ctrl1)], hq := one 5 (.flush 3) }
      (fun t => t.get (VRS_OUT_CLASS 39) == 0 && t.get VRS_STATUS_ROLE == 3 && t.hq.cmds == [] && t.verso.sent.getLast?.map Prod.fst == some (.giveUp 5)) := by decide +kernel
theorem test_takeover : meets (.takeover true) (up [(VRS_CTRL_AUTO_TAKE, 1), (VRS_OUT_CLASS 39, 4), (VRS_OUT_CLASS 38, 4), (VRS_OUT_READY 39, 1)])
      (fun t => t.get (VRS_OUT_CLASS 39) == 12 && t.get (VRS_OUT_CLASS 38) == 0 && t.get VRS_EVENT_TAKEOVER == 1 && t.anaChange && t.get VRS_EVENT_PARTNER_GAVE_UP == 1)
    ∧ meets (.takeover false) (up [(VRS_CTRL_AUTO_TAKE, 1), (VRS_OUT_CLASS 39, 4), (VRS_OUT_READY 39, 1)]) (fun t => t.get (VRS_OUT_CLASS 39) == 4)
    ∧ meets (.takeover false) (put [(VRS_CTRL_AUTO_TAKE, 1), (VRS_OUT_CLASS 39, 4), (VRS_OUT_READY 39, 1)]) (fun t => t.get (VRS_OUT_CLASS 39) == 12)
    ∧ meets (.takeover false) (put [(VRS_CTRL_AUTO_TAKE, 1), (VRS_OUT_CLASS 39, 4), (VRS_OUT_OTHER_HOLDS 39, 1)]) (fun t => t.get (VRS_OUT_CLASS 39) == 4) := by decide +kernel
theorem test_stale : meets (.stale 39) (put [(VRS_OUT_CLASS 39, 4)]) (fun t => t.get (VRS_OUT_CLASS 39) == 0 && t.get VRS_EVENT_STALE == 1)
    ∧ meets (.stale 39) (put [(VRS_OUT_CLASS 39, 4), (VRS_OUT_OTHER_HOLDS 39, 1)]) (fun t => t.get (VRS_OUT_CLASS 39) == 4)
    ∧ meets .diagClear (put [(VRS_DIAG_GAVE_UP, 1), (VRS_STATUS_ROLE, 3)]) (fun t => t.get VRS_DIAG_GAVE_UP == 0 && t.get VRS_STATUS_ROLE == 0)
    ∧ meets .diagClear (put [(VRS_DIAG_GAVE_UP, 1), (VRS_DIAG_CAUSE, 1)]) (fun t => t.get VRS_DIAG_GAVE_UP == 1)
    ∧ meets (.nodeWrite 0xFFF) awake (fun t => t.get VRS_NODE_NODE_ID == 0xFFF)
    ∧ meets (.nodeWrite 0xFFF) (put [(VRS_OUT_CLASS 39, 4)]) (fun t => t.get VRS_NODE_NODE_ID == 0 && t.get VRS_EVENT_CFG_REFUSED == 1)
    ∧ meets .degClr (up [(VRS_STATUS_DEGRADED, 1)]) (fun t => t.get VRS_STATUS_DEGRADED == 0)
    ∧ meets .degClr (put [(VRS_STATUS_DEGRADED, 1)]) (fun t => t.get VRS_STATUS_DEGRADED == 1) := by decide +kernel
theorem test_health : meets .health { up [(VRS_HEALTH_SEQ, 255), (VRS_OUT_CLASS 15, 4), (VRS_OUT_READY 15, 1), (VRS_CTRL_HEALTH_AUTO, 1), (VRS_HEALTH_CFG_MISMATCH_MAX, 2)] with engines := [(15, { healthMis := 3 })] }
      (fun t => t.get VRS_HEALTH_SEQ == 0 && t.bit VRS_HEALTH_PEN_SHADOW_FAIL 15 && t.get (VRS_OUT_READY 15) == 0 && t.get VRS_HEALTH_LINK_OK == 0 && t.verso.linkOk && (t.engine 15).healthMis == 0)
    ∧ meets .health { up [(VRS_OUT_CLASS 15, 4), (VRS_HEALTH_CFG_MISMATCH_MAX, 2)] with engines := [(15, { healthMis := 2 })] } (fun t => !t.bit VRS_HEALTH_PEN_SHADOW_FAIL 15) := by decide +kernel
theorem test_heartbeat : meets (.heartbeat (some ⟨0x345, 2, false, 0xAB000001, 9⟩)) { up [(VRS_NODE_NODE_ID, 0x345)] with verso := { missRun := 2 } }
      (fun t => t.get VRS_STATUS_NODE_CLASH == 1 && t.get VRS_EVENT_NODE_CLASH == 1 && t.get VRS_PARTNER_HEALTH_SEQ == 0xAB && t.get VRS_STATUS_HB_OK == 1 && t.verso.missRun == 0)
    ∧ meets (.heartbeat none) (up [(VRS_CNT_HB_MISS, 65535)]) (fun t => t.get VRS_CNT_HB_MISS == 65535 && t.verso.missRun == 1)
    ∧ meets (.heartbeat none) awake (fun t => t.verso.missRun == 0) := by decide +kernel
theorem test_verso_link_fail : meets (.versoLinkFail .down) { up [(MBX_SEAL_OWNER 63, 0xA), (VRS_STATUS_ROLE, 2)] with sec := { verso := [1] } }
      (fun t => t.get VRS_STATUS_LINK == 3 && t.sec.verso == [] && t.get (MBX_SEAL_BROKEN 63) == 1 && t.get VRS_STATUS_DEGRADED == 1 && t.get VRS_EVENT_LINK_FAIL == 1)
    ∧ meets (.versoLinkFail .heartbeat) { up [(VRS_HB_HB_LOSS, 3)] with verso := { missRun := 2 } } (fun t => t.get VRS_STATUS_LINK == 2)
    ∧ meets (.versoLinkFail .heartbeat) { up [(VRS_HB_HB_LOSS, 3)] with verso := { missRun := 3 } } (fun t => t.get VRS_STATUS_LINK == 3 && t.get VRS_EVENT_LINK_FAIL == 1)
    ∧ meets (.versoLinkFail .gcm) awake (fun t => t.get VRS_EVENT_LINK_FAIL == 0) := by decide +kernel
theorem test_verso_link_up : meets (.versoLinkUp []) { up [(VRS_STATUS_LINK, 3)] with sec := { pair := [7] }, verso := { counter := 4 } } (fun t => t.get VRS_STATUS_LINK == 2 && t.get VRS_EVENT_LINK_UP == 1 && t.verso.counter == 0)
    ∧ meets (.versoLinkUp []) (up [(VRS_STATUS_LINK, 3)]) (fun t => t.get VRS_STATUS_LINK == 3) := by decide +kernel
theorem test_write_data : meets (.writeData 0x1007 [1, 2]) (up []) (fun t => t.mem == [(0x1007, 1), (0x1008, 2)] && t.verso.sent.getLast?.map Prod.fst == some (.dataAck 0x1007))
    ∧ meets (.writeData 0x1007 [1, 2]) awake (fun t => t.mem == [])
    ∧ meets (.dataAck 0x1007) { up [] with host := [(1, ctrl1)], hq := { cmds := [(7, { fn := 1, sq := 5, cid := 0x55, cmd := .write 3 0 1 false, dataWhole := true, acks := [0x1007] })] } }
      (fun t => t.verso.acked == [0x1007] && done1 t 4 == [(0x55, 0, 0)]) := by decide +kernel
theorem test_seal_msg : meets (.sealMsg 63 true) (up []) (fun t => t.get (MBX_SEAL_OWNER 63) == 0xA)
    ∧ meets (.sealMsg 63 true) (up [(MBX_SEAL_OWNER 63, 3)]) (fun t => t.get (MBX_SEAL_CONTEND 63) == 1 && t.get (MBX_SEAL_OWNER 63) == 3)
    ∧ meets (.sealMsg 63 false) (up [(MBX_SEAL_OWNER 63, 0xA)]) (fun t => t.get (MBX_SEAL_OWNER 63) == 0xF)
    ∧ meets (.sealMsg 63 true) awake (fun t => t.get (MBX_SEAL_OWNER 63) == 0xF) := by decide +kernel
theorem test_firmware_msg : meets (.firmwareMsg (.send 9)) { up [(VRS_TX_HEAD_PTR, 0), (VRS_TX_TAIL_PTR, 0xFFFFFFFF), (VRS_MSG_BASE_BASE, 1)] with mem := [(0x10000, 3)] } (fun t => t.get VRS_TX_TAIL_PTR == 0 && match t.verso.sent.getLast?.map Prod.fst with | some (.firmware b) => b.length == 16 | _ => false)
    ∧ meets (.firmwareMsg (.receive [1] none)) (up [(VRS_RX_HEAD_PTR, 0xFFFFFFFF), (VRS_RX_TAIL_PTR, 0xFFFFFFFF)]) (fun t => t.get VRS_RX_HEAD_PTR == 0 && t.get VRS_EVENT_RX_MSG == 1)
    ∧ (msgSlots (up []) ≤ 256 ∧ meets (.firmwareMsg (.receive [1] none)) (up [(VRS_RX_HEAD_PTR, 256)]) (fun t => t.get VRS_EVENT_RX_OVF == 1)) := by decide +kernel
theorem test_gcm_fail : meets .gcmFail { up [(SYS_TIME_TIME, 50000)] with verso := { gcmFails := [11601, 11602, 11603] } } (fun t => t.get VRS_STATUS_LINK == 3 && t.get VRS_CNT_GCM_FAIL == 1 && t.verso.gcmFails == [])
    ∧ meets .gcmFail { up [(SYS_TIME_TIME, 50000)] with verso := { gcmFails := [11600, 11602, 11603] } } (fun t => t.get VRS_STATUS_LINK == 2 && t.get VRS_EVENT_GCM_FAIL == 1) := by decide +kernel

/-! ### Chapter 16 -/

/-- The SEC block OPERATIONAL, with fields and hidden state. -/
def sec1 (l : List (Fld × Nat)) (p : Sec) : State := { put ([(SEC_STATUS_STATE, 1), (SEC_STATUS_APPROVED, 1)] ++ l) with sec := p }

theorem test_key_commands_refused : meets (.generate 127) (sec1 [] { cmd := some ⟨0, 0, 0, 0, none⟩ }) (fun t => t.get SEC_KEY_CMD_DONE == 1 && t.get SEC_KEY_CMD_OK == 0 && t.get SEC_EVENT_KEY_DONE == 1 && t.get SEC_KEY_CMD_SLOT == 127)
    ∧ meets (.unwrap 127 3) (put [(SEC_KEY_ADDR_ADDR, 2)]) (fun t => t.sec.cmd == some ⟨1, 3, 127, 16, some false⟩ && t.get SEC_KEY_CMD_START == 1)
    ∧ meets .loadDomain (sec1 [] {}) (fun t => t.sec.cmd.map (·.ok) == some (some false)) ∧ meets .loadPair (sec1 [] {}) (fun t => t.sec.cmd.map (·.ok) == some (some false))
    ∧ meets (.wrap 5 1) (sec1 [] {}) (fun t => t.sec.cmd.map (·.ok) == some (some false) && t.mem == []) := by decide +kernel
theorem test_key_commands : meets (.generate 127) (sec1 [(SEC_SLOT_IN_USE 127, 1)] {}) (fun t => t.sec.cmd.map (·.ok) == some none && t.sec.slots == [])
    ∧ meets (.generate 127) (sec1 [] { withheld := true }) (fun t => t.sec.cmd.map (·.ok) == some none)
    ∧ meets (.clear 127) (sec1 [(SEC_SLOT_LOADED 127, 1)] { slots := [(127, [1])] }) (fun t => t.sec.cmd.map (·.ok) == some (some true) && t.get (SEC_SLOT_LOADED 127) == 0 && t.sec.slots == [])
    ∧ meets .keyDone (sec1 [(SEC_KEY_CMD_START, 1)] { cmd := some ⟨3, 0, 127, 0, some true⟩ }) (fun t => t.get SEC_KEY_CMD_START == 0 && t.get SEC_KEY_CMD_OK == 1 && t.sec.cmd == none) := by decide +kernel
theorem test_generate : (sec1 [] {}).sec.cmd = none ∧ (sec1 [] {}).get SEC_STATUS_STATE = 1 ∧ (sec1 [] {}).sec.withheld = false ∧ (sec1 [] {}).get (SEC_SLOT_IN_USE 127) ≠ 1
    ∧ meets (.wrap 127 0) (sec1 [(SEC_SLOT_IN_USE 127, 1)] {}) (fun t => t.sec.cmd.map (·.ok) == some none) := by decide +kernel
theorem test_zeroise : meets .zeroise (sec1 [(SEC_AUTH_OFFICER, 1), (SEC_AUTH_DIAG, 1), (SEC_SLOT_LOADED 127, 1)] { slots := [(127, [1])], device := [1], domain := [1], sessions := [(1, ⟨1, 0, [], 0⟩)] })
      (fun t => t.get SEC_EVENT_ZEROISED == 1 && t.get SEC_AUTH_DIAG == 0 && t.get (SEC_SLOT_LOADED 127) == 0 && t.sec.slots == [] && t.sec.device == [] && t.sec.sessions == [])
    ∧ meets .zeroise (sec1 [] { device := [1] }) (fun t => t.sec.device == [1]) := by decide +kernel
theorem test_kat_done : meets (.katDone 4) awake (fun t => t.get SEC_STATUS_STATE == 2 && t.get SEC_EVENT_KAT_FAIL == 1)
    ∧ meets (.katDone 4) (sec1 [] {}) (fun t => t.get SEC_STATUS_STATE == 1)
    ∧ meets (.secError 6) (sec1 [(VRS_STATUS_LINK, 2)] { device := [1] }) (fun t => t.get SEC_STATUS_STATE == 2 && t.get SEC_STATUS_FAIL_ID == 6 && t.get VRS_EVENT_LINK_FAIL == 1 && t.bit VRS_DIAG_CAUSE 3 && t.sec.device == [])
    ∧ meets (.secError 6) (put [(SEC_STATUS_STATE, 2)]) (fun t => t.get SEC_STATUS_FAIL_ID == 0) := by decide +kernel
theorem test_selftest : meets .selftest (sec1 [(SEC_SELFTEST_DONE, 1), (SEC_SELFTEST_PASS, 1)] {}) (fun t => t.sec.testing && t.get SEC_SELFTEST_DONE == 0 && t.get SEC_SELFTEST_PASS == 0)
    ∧ meets .selftest (put [(SEC_STATUS_STATE, 2)]) (fun t => !t.sec.testing)
    ∧ meets (.selftestDone 0) (sec1 [] { testing := true }) (fun t => t.get SEC_SELFTEST_PASS == 1 && t.get SEC_EVENT_SELFTEST_DONE == 1 && t.get SEC_STATUS_STATE == 1)
    ∧ meets (.selftestDone 3) (sec1 [] { testing := true }) (fun t => t.get SEC_SELFTEST_PASS == 0 && t.get SEC_STATUS_STATE == 2)
    ∧ meets (.selftestDone 3) (sec1 [] {}) (fun t => t.get SEC_SELFTEST_DONE == 0)
    ∧ meets .reseed (sec1 [] { draws := 5 }) (fun t => t.sec.draws == 0 && t.sec.reseeds == 1) := by decide +kernel
theorem test_ent_fail : meets (.entFail .rct) (sec1 [(SYS_TIME_TIME, 38400010)] { entFails := [10, 11] }) (fun t => t.get SEC_STATUS_STATE == 1 && t.sec.withheld && t.get SEC_ENT_RCT_FAIL == 1 && t.get SEC_EVENT_ENT_FAIL == 1)
    ∧ meets (.entFail .apt) (sec1 [(SEC_ENT_APT_FAIL, 2)] {}) (fun t => t.get SEC_ENT_APT_FAIL == 3)
    ∧ (([12, 11].filter fun x => decide ((sec1 [(SYS_TIME_TIME, 38400010)] {}).now < x + 38400000)).length = 2)
    ∧ meets .entropyRecovered (sec1 [] { withheld := true }) (fun t => !t.sec.withheld && t.get SEC_STATUS_ENT_OK == 1)
    ∧ meets .entropyRecovered (sec1 [] {}) (fun t => t.get SEC_STATUS_ENT_OK == 0) := by decide +kernel
theorem test_open1 : meets (.open1 1 4 []) (sec1 [] {}) (fun t => t.sec.result == .authFail)
    ∧ meets (.open1 1 3 []) (sec1 [] { fails := [(3, 5)] }) (fun t => t.sec.result == .authFail)
    ∧ meets (.open1 1 3 []) awake (fun t => t.sec.result == .none)
    ∧ meets (.open1 1 3 []) (sec1 [] { fails := [(3, 4)] }) (fun t => (t.sec.openings.find? 0).map (fun o => (o.fn, o.auth, o.device.length)) == some (1, 3, 16)) := by decide +kernel
theorem test_open2 : meets (.open2 4 []) (sec1 [] {}) (fun t => t.sec.result == .noSession)
    ∧ meets (.open2 4 []) (sec1 [] { openings := [(4, ⟨1, 3, [], []⟩)], fails := [(3, 5)] }) (fun t => t.sec.result == .authFail && t.sec.openings == [] && t.sec.sessions == []) := by decide +kernel
theorem test_session_request : meets (.sessionRequest 31) (sec1 [(MBX_REQ_WORD 31 2, 8)] {}) (fun t => t.sec.result == .authFail)
    ∧ meets (.sessionRequest 31) (sec1 [(MBX_REQ_WORD 31 2, 8), (MBX_REQ_WORD 31 1, 5)] { sessions := [(8, ⟨3, 1, [], 5⟩)] }) (fun t => t.sec.result == .authFail && (t.sec.sessions.find? 8).map (·.seq) == some 5)
    ∧ ((5 + 1) % 2 ^ 32 = 6 ∧ (0xFFFFFFFF + 1) % 2 ^ 32 = 0) := by decide +kernel
theorem test_close : meets (.close 8) (sec1 [(SEC_AUTH_OFFICER, 1)] { sessions := [(8, ⟨1, 1, [], 5⟩)] }) (fun t => t.get SEC_AUTH_OFFICER == 0 && t.sec.sessions == [])
    ∧ meets (.sessionExpiry 8) (sec1 [(SEC_AUTH_OFFICER, 1)] { sessions := [(1, ⟨1, 0, [], 0⟩), (8, ⟨1, 1, [], 5⟩)] }) (fun t => t.get SEC_AUTH_OFFICER == 1 && t.sec.sessions.length == 1)
    ∧ meets (.close 0) (sec1 [(SEC_AUTH_OFFICER, 1)] { sessions := [(8, ⟨1, 1, [], 5⟩)] }) (fun t => t.sec.sessions.length == 1) := by decide +kernel
theorem test_debug_unlock (t : List (BitVec 8)) : debugUnlock t (sec1 [(SEC_STATUS_DBG_OPEN, 1)] {}) = sec1 [(SEC_STATUS_DBG_OPEN, 1)] {} :=
  if_neg fun h => absurd h.2.2 (by decide +kernel)

/-! ### Chapter 17 -/

/-- Fields that the fuses give, set as they would be. -/
def fuse (l : List (Fld × Nat)) (s : State) : State := l.foldl (fun s e => { s with fld := Store.insert s.fld e.1.key e.2 }) s
/-- An image of 4,096 bytes: the magic, version 1, key 0, one empty section for the Inkwell. -/
def image1 : List (BitVec 8) := [0x47, 0x57, 0x4E, 0x4C, 1, 0, 0, 0, 5, 0, 1, 0, 0, 0x10, 0, 0, 1] ++ List.replicate 495 0 ++ [0x20] ++ List.replicate 3583 0
/-- A slot is being tried in OPERATIONAL. -/
def booting (b : Boot) (f : Flash) : State := { fuse [(SEC_FW_PRESENT, 1), (SEC_FW_REVOKED, 0), (SEC_FW_MIN_SVN, 5)] (put [(SYS_BOOT_STATE, 1), (SEC_STATUS_STATE, 1)]) with boot := b, flash := f }

theorem test_reset_n : meets (.resetNAssert 50) { put [(SYS_TIME_TIME, 9), (INK_STATUS_FILL_DONE, 1)] with running := true, boot := { low := false }, mem := [(1, 2)] }
      (fun t => t.get SYS_TIME_TIME == 0 && t.get INK_STATUS_FILL_DONE == 0 && t.mem == [(1, 2)] && !t.running && t.boot.low)
    ∧ meets (.resetNAssert 49) { awake with running := true } (fun t => t.running)
    ∧ meets (.resetNRelease false) { State.reset with hq := { perst := [1] } } (fun t => t.running && !t.boot.low && t.hq.training == [0])
    ∧ meets (.resetNRelease false) { State.reset with boot := { held := true } } (fun t => t.boot.low)
    ∧ meets (.resetNRelease true) State.reset (fun t => t.boot.low && !t.running) := by decide +kernel
theorem test_start_up : meets .fuseLoadDone awake (fun t => t.boot.fuses) ∧ meets .fuseLoadDone State.reset (fun t => !t.boot.fuses)
    ∧ meets .bistDone { awake with boot := { fuses := true }, locals := [(1, 1)] } (fun t => t.boot.bist && t.locals == [] && t.get (SYS_SCR_STATUS_RUNNING 0) == 1)
    ∧ meets .trainingDone { awake with boot := { bist := true }, flash := { preferred := 1, trial := true } } (fun t => t.get INK_STATUS_FILL_RUN == 1 && t.get SYS_BOOT_STATE == 1 && t.get SYS_BOOT_TRIAL == 1 && t.boot.slot == 1)
    ∧ meets .trainingDone awake (fun t => t.get SYS_BOOT_STATE == 0) := by decide +kernel
theorem test_image_check_fails : meets (.imageCheck [] false) (booting {} {}) (fun t => t.get SYS_BOOT_FAIL0 == 1 && t.get SYS_BOOT_FALLBACK == 1 && t.boot.slot == 1)
    ∧ meets (.imageCheck [] true) (booting { slot := 1, failed := [0] } {}) (fun t => t.get SYS_BOOT_FAIL1 == 6 && t.get SYS_BOOT_STATE == 4 && t.boot.bootFail)
    ∧ meets (.imageCheck [] false) awake (fun t => t.get SYS_BOOT_FAIL0 == 0) := by decide +kernel
theorem test_image_check : imageCode (booting {} {}) image1 false = (if imageSigned image1 then 0 else 5) ∧ imageListed image1 = true := by
  refine ⟨?_, by decide +kernel⟩
  unfold imageCode
  rw [if_neg (by decide), if_neg (by decide +kernel), if_neg (by decide +kernel), if_neg (by decide +kernel), if_neg (by decide +kernel), if_neg (by decide +kernel)]
theorem test_release : meets (.release 7 true) (put [(INK_STATUS_FILL_DONE, 1)]) (fun t => t.get (SYS_SCR_CTRL_RELEASE 7) == 1 && t.get (SYS_SCR_STATUS_RUNNING 7) == 1)
    ∧ meets (.release 7 true) awake (fun t => t.get SYS_EVENT_RELEASE_REFUSED == 1 && t.get (SYS_SCR_CTRL_RELEASE 7) == 0)
    ∧ meets (.release 7 false) { put [(SYS_SCR_CTRL_RELEASE 7, 1), (SYS_SCR_STATUS_RESETS 7, 255), (MBX_SEAL_OWNER 63, 7)] with scribes := [(7, { value := 3 })] }
      (fun t => t.get (SYS_SCR_STATUS_RESETS 7) == 255 && t.scribe 7 == {} && t.get (MBX_SEAL_BROKEN 63) == 1) := by decide +kernel
theorem test_kick : meets (.kick (.scribe 7) 7 0x5CA1) { awake with scribes := [(7, { count := 3, warned := true })] } (fun t => (t.scribe 7).count == 0 && !(t.scribe 7).warned)
    ∧ meets (.kick (.scribe 6) 7 0x5CA1) { awake with scribes := [(7, { count := 3 })] } (fun t => (t.scribe 7).count == 3)
    ∧ meets (.kick (.scribe 0) 7 0x5CA0) { awake with scribes := [(7, { count := 3 })] } (fun t => (t.scribe 7).count == 3)
    ∧ meets (.wdtTimeoutWrite 7 9) { awake with scribes := [(7, { count := 3 })] } (fun t => t.get (SYS_SCR_WDT_TIMEOUT 7) == 9 && (t.scribe 7).count == 0) := by decide +kernel
theorem test_wdt : meets (.wdtWarn 7 9) (put [(SYS_SCR_WDT_TIMEOUT 7, 9), (SYS_SCR_STATUS_RUNNING 7, 1)]) (fun t => t.get SYS_EVENT_WDT_WARN == 1 && t.get (SYS_SCR_STATUS_WARN 7) == 1 && (t.scribe 7).count == 9)
    ∧ meets (.wdtWarn 7 8) (put [(SYS_SCR_WDT_TIMEOUT 7, 9), (SYS_SCR_STATUS_RUNNING 7, 1)]) (fun t => t.get SYS_EVENT_WDT_WARN == 0)
    ∧ meets (.wdtReset 7 18) (put [(SYS_SCR_WDT_TIMEOUT 7, 9), (SYS_SCR_STATUS_RUNNING 7, 1), (SYS_SCR_CTRL_RELEASE 7, 1)]) (fun t => t.get SYS_EVENT_WDT_RESET == 1 && t.bit VRS_DIAG_CAUSE 2 && t.get (SYS_SCR_STATUS_WDT_RESETS 7) == 1)
    ∧ meets (.wdtReset 7 17) (put [(SYS_SCR_WDT_TIMEOUT 7, 9), (SYS_SCR_STATUS_RUNNING 7, 1)]) (fun t => t.get SYS_EVENT_WDT_RESET == 0) := by decide +kernel
theorem test_scribe_reset : meets (.scribeReset 0) { put [(MBX_STATUS_STATE 31, 2), (MBX_STATUS_TAKER 31, 0), (SEC_AUTH_OFFICER, 1)] with scribes := [(0, { value := 3 }), (1, { value := 4 })], locals := [(1, 1)], sec := { sessions := [(1, ⟨1, 0, [], 0⟩)] } }
      (fun t => t.scribe 0 == {} && (t.scribe 1).value == 4 && t.locals == [(1, 1)] && t.get (MBX_STATUS_STATE 31) == 1 && t.get (MBX_STATUS_RETAKEN 31) == 1 && t.sec.sessions == [] && t.get SEC_AUTH_OFFICER == 0) := by decide +kernel
theorem test_chip_reset : meets (.chipReset (.scribe 0) 0xA11C) { put [(SYS_TIME_TIME, 9), (SEC_STATUS_STATE, 2)] with mem := [(1, 2)], flash := { count := 1 }, boot := { low := false } }
      (fun t => t.get SYS_TIME_TIME == 0 && t.get SEC_STATUS_STATE == 0 && t.running && t.mem == [(1, 2)] && t.flash.count == 1)
    ∧ meets (.chipReset (.scribe 1) 0xA11C) (put [(SYS_TIME_TIME, 9)]) (fun t => t.get SYS_TIME_TIME == 9)
    ∧ meets (.chipReset (.scribe 0) 0xA11D) (put [(SYS_TIME_TIME, 9)]) (fun t => t.get SYS_TIME_TIME == 9)
    ∧ meets (.clkLoss true) awake (fun t => t.get SYS_CLK_STATUS_PCIE_LOSS == 1 && t.get SYS_EVENT_CLK_LOSS == 1)
    ∧ meets (.clkLoss false) awake (fun t => t.get SYS_CLK_STATUS_SD_LOSS == 1 && t.get SYS_CLK_STATUS_PCIE_LOSS == 0) := by decide +kernel

/-! ### Chapter 18 -/

/-- Sensors that read in 0.125 °C as they are. -/
def sensors (l : List (Fld × Nat)) (p : Thermal) : State :=
  { fuse ((List.range 12).flatMap fun i => [(CAL_TS_FACT_GAIN i, 16384), (CAL_TS_OFS_OFS i, 0), (CAL_TS_FACT_OFS i, 0)]) (put l) with thermal := p }
/-- The converters' factory coefficients at gain 1 and offset 0. -/
def trims (l : List (Fld × Nat)) : State := fuse ((List.range 4).flatMap fun a => [(CAL_FACT_GAIN a, 16384), (CAL_FACT_OFS a, 0), (CAL_USER_GAIN a, 16384 + 491), (CAL_USER_OFS a, 320)]) (put l)

theorem test_sensor_sample : meets (.sensorSample ([880, 300] ++ List.replicate 10 880)) (sensors [] { trips := 2 }) (fun t => t.get SYS_TH_STATUS_HOT == 1 && tjOf t == 880 && t.get SYS_TH_STATUS_HOT_SENSOR == 0 && t.thermal.trips == 0 && corrOf t 1 == 300)
    ∧ meets (.sensorSample (List.replicate 12 960)) (sensors [] { trips := 2 }) (fun t => t.thermal.trips == 3)
    ∧ meets (.sensorSample (List.replicate 8 300 ++ List.replicate 4 1201)) (sensors [] {}) (fun t => tjOf t == 832 && t.get SYS_TH_STATUS_SENSOR_OK == 0xFF && t.get SYS_TH_STATUS_HOT == 0)
    ∧ meets (.sensorSample (List.replicate 9 300 ++ List.replicate 3 1201)) (sensors [(SYS_TH_STATUS_HOT, 1)] {}) (fun t => tjOf t == 300 && t.get SYS_TH_STATUS_HOT == 0) := by decide +kernel
theorem test_power_manager : meets (.powerManagerUpdate 0x321) (put [(SYS_TH_CTRL_THROTTLE_C, 100), (SYS_TH_STATUS_TJ, 800), (SYS_TH_STATUS_SPRINTING, 1)]) (fun t => t.get SYS_TH_STATUS_THROTTLING == 1 && t.get SYS_TH_STATUS_SPRINTING == 0 && t.get SYS_PWR_EST == 0x321 && t.get LDPC_SCHED_STEP == 1)
    ∧ meets (.powerManagerUpdate 821) { put [(SYS_PWR_CFG_SUSTAIN, 820), (SYS_TH_CTRL_SPRINT_EN, 1), (SYS_TH_STATUS_TJ, 400)] with thermal := { left := 6 } } (fun t => t.get SYS_TH_STATUS_SPRINTING == 1 && t.thermal.left == 1)
    ∧ meets (.powerManagerUpdate 820) { put [(SYS_PWR_CFG_SUSTAIN, 820), (SYS_TH_STATUS_TJ, 400)] with thermal := { left := 299999 } } (fun t => t.thermal.left == 300000 && t.get SYS_PWR_SPRINT_LEFT == 6000)
    ∧ meets (.powerManagerUpdate 821) (put [(SYS_PWR_CFG_SUSTAIN, 820), (SYS_TH_CTRL_SPRINT_EN, 0), (SYS_TH_STATUS_TJ, 400)]) (fun t => t.get LDPC_SCHED_STEP == 1 && t.get SYS_TH_STATUS_SPRINTING == 0) := by decide +kernel
theorem test_thermal_trip : meets .thermalTrip { put [(VRS_STATUS_LINK, 2), (VRS_DIAG_CAUSE, 1)] with thermal := { trips := 3 }, running := true, mem := [(1, 2)] }
      (fun t => t.boot.thermTrip && t.boot.held && !t.running && t.mem == [(1, 2)] && t.verso.sent.getLast?.map Prod.fst == some (.giveUp 1) && t.get VRS_STATUS_LINK == 0)
    ∧ meets .thermalTrip { awake with thermal := { trips := 2 } } (fun t => !t.boot.held) := by decide +kernel
theorem test_cal_start : meets .calStart (put [(SEC_AUTH_SERVICE, 1), (CAL_CTRL_ADC_MASK, 9)]) (fun t => t.get CAL_STATUS_BUSY == 1 && t.get CAL_STATUS_PENDING == 9)
    ∧ meets .calStart (put [(SEC_AUTH_SERVICE, 1), (CAL_CTRL_ADC_MASK, 0)]) (fun t => t.get CAL_STATUS_BUSY == 0 && t.get CAL_EVENT_RETRIM_DONE == 1)
    ∧ meets .calStart (put [(CAL_CTRL_ADC_MASK, 9)]) (fun t => t.get CAL_EVENT_REFUSED == 1)
    ∧ meets (.retrimNoSlots 3 10) (put [(CAL_STATUS_BUSY, 1), (CAL_STATUS_PENDING, 9)]) (fun t => t.get (CAL_CMD_RESULT 3) == 4 && t.get CAL_STATUS_PENDING == 1)
    ∧ meets (.retrimNoSlots 3 9) (put [(CAL_STATUS_BUSY, 1), (CAL_STATUS_PENDING, 9)]) (fun t => t.get CAL_STATUS_PENDING == 9)
    ∧ meets .calAbort (put [(CAL_STATUS_BUSY, 1), (CAL_STATUS_PENDING, 8)]) (fun t => t.get CAL_STATUS_BUSY == 0 && t.get (CAL_CMD_RESULT 3) == 5 && t.get (CAL_CMD_RESULT 0) == 0 && t.get CAL_EVENT_RETRIM_FAIL == 1)
    ∧ meets .calAbort (put [(CAL_STATUS_PENDING, 8)]) (fun t => t.get CAL_EVENT_RETRIM_FAIL == 0) := by decide +kernel
theorem test_retrim_adc_done : meets (.retrimAdcDone 3 (List.replicate 256 2500) (List.replicate 256 0)) (trims [(CAL_STATUS_BUSY, 1), (CAL_STATUS_PENDING, 8), (CAL_CTRL_SAMPLES, 8)])
      (fun t => t.get (CAL_CMD_RESULT 3) == 1 && t.get (CAL_MEAS_M_REF 3) == 40000 && t.get CAL_STATUS_BUSY == 0 && t.calNext == [(3, 16384, 0)] && t.get CAL_EVENT_RETRIM_DONE == 1)
    ∧ meets (.retrimAdcDone 3 (List.replicate 256 2500) (List.replicate 256 21)) (trims [(CAL_STATUS_BUSY, 1), (CAL_STATUS_PENDING, 8), (CAL_CTRL_SAMPLES, 8)])
      (fun t => t.get (CAL_CMD_RESULT 3) == 3 && t.get (CAL_MEAS_M_GND 3) == 336 && t.calNext == [])
    ∧ meets (.retrimAdcDone 3 (List.replicate 255 2500) (List.replicate 256 0)) (trims [(CAL_STATUS_PENDING, 8), (CAL_CTRL_SAMPLES, 8)]) (fun t => t.get (CAL_MEAS_M_REF 3) == 0) := by decide +kernel
theorem test_cal_load : meets (.calLoad 3) (trims [(SEC_AUTH_OFFICER, 1)]) (fun t => t.calNext == [(3, (16875, 320))])
    ∧ meets (.calLoad 3) (trims []) (fun t => t.calNext == [] && t.get (CAL_CMD_RESULT 3) == 6 && t.get CAL_EVENT_REFUSED == 1)
    ∧ meets (.calLoad 3) (fuse [(CAL_USER_OFS 3, 321)] (trims [(SEC_AUTH_OFFICER, 1)])) (fun t => t.calNext == [] && t.get (CAL_CMD_RESULT 3) == 6)
    ∧ meets (.calRevert 3) (trims []) (fun t => t.calNext == [(3, (16384, 0))])
    ∧ meets (.calRevert 3) (trims [(CAL_STATUS_BUSY, 1)]) (fun t => t.calNext == [] && t.get CAL_EVENT_REFUSED == 1) := by decide +kernel
theorem test_ts_ofs_write : meets (.tsOfsWrite 11 65) (sensors [(SEC_AUTH_SERVICE, 1)] {}) (fun t => t.get CAL_EVENT_REFUSED == 1)
    ∧ meets (.tsOfsWrite 11 0xFFC0) (sensors [] {}) (fun t => t.get CAL_EVENT_REFUSED == 1)
    ∧ (trimAuthority (sensors [(SEC_AUTH_SERVICE, 1)] {}) = true ∧ -64 ≤ toSigned 16 0xFFC0 - toSigned 16 ((sensors [] {}).get (CAL_TS_FACT_OFS 11))) := by decide +kernel

/-! ### Conversions of chapter 08 at unit coefficients -/

/-- Channel c of ADC a converts a code to itself, a shunt to its distance from 2,048. -/
def unit (a c : Nat) (l : List (Fld × Nat)) : State := fuse [(CAL_ACT_GAIN a, 16384), (CAL_ACT_OFS a, 0), (CAL_CH_GAIN a c, 16384), (CAL_CH_OFS a c, 0)] (put l)

theorem test_overcurrent_trip : meets (.overcurrentTrip 2 2067) (unit 1 3 [(MOT_SP_LIM_I_TRIP 2, 9), (MOT_SP_STATUS_STATE 2, 7)]) (fun t => (t.spindle 2).skip == 3 && spState t 2 == 7)
    ∧ meets (.overcurrentTrip 2 2066) (unit 1 3 [(MOT_SP_LIM_I_TRIP 2, 9), (MOT_SP_STATUS_STATE 2, 7)]) (fun t => (t.spindle 2).skip == 0)
    ∧ meets (.overcurrentTrip 2 2029) ((unit 1 3 [(MOT_SP_LIM_I_TRIP 2, 9), (MOT_SP_STATUS_STATE 2, 7), (SYS_TIME_TIME, 38500)]).modSp 2 fun p => { p with trips := [100, 101] })
      (fun t => spState t 2 == 9 && t.get (MOT_SP_EVENT_OVERCURRENT 2) == 1)
    ∧ meets (.overcurrentTrip 2 2029) ((unit 1 3 [(MOT_SP_LIM_I_TRIP 2, 9), (MOT_SP_STATUS_STATE 2, 7), (SYS_TIME_TIME, 38501)]).modSp 2 fun p => { p with trips := [100, 101] }) (fun t => spState t 2 == 7) := by decide +kernel
theorem test_bus_sample : meets (.busSample 3 3100 0 0) (unit 3 8 [(MOT_SP_STATUS_STATE 7, 7), (MOT_SP_STATUS_STATE 3, 7), (MOT_BUS_CTRL_CHOP_EN 1, 1)])
      (fun t => t.get (MOT_BUS_STATUS_V_BUS 1) == 3100 && t.get (MOT_BUS_EVENT_OV 1) == 1 && t.get (MOT_BUS_STATUS_CHOPPING 1) == 1 && spState t 7 == 1 && spState t 3 == 7
        && t.get (MOT_ADC_RES_CODE 3 8) == 3100 && t.seqPos.getD 3 0 == 1)
    ∧ meets (.busSample 3 3099 0 70000) { unit 3 8 [] with seqPos := [(3, 16)] } (fun t => t.get (MOT_BUS_EVENT_OV 1) == 0 && t.get MOT_SEQ_STATUS_FRAME_MAX == 65535 && t.seqPos.getD 3 0 == 1)
    ∧ (convert (unit 3 9 []) 3 9 10).1 = 10 ∧ nextEntry { awake with calNext := [(3, 5, 6)] } 3 16 = none := by decide +kernel
theorem test_chopper_current : meets (.busSample 3 10 50000000 0) { unit 3 9 [(MOT_BUS_STATUS_V_BUS 1, 2800), (MOT_BUS_CHOPCFG_LEAK 1, 0)] with seqPos := [(3, 1)] }
      (fun t => (t.motorBus 1).current == 10 && (t.motorBus 1).energy == 1400000000000 && t.get (MOT_BUS_ENERGY_E_ACC 1) == 7) := by decide +kernel

/-! ### Premises that no test above meets -/

/-- The step, with nothing waiting, answers a next state, which the check accepts. -/
def ticks (s : State) (p : State → Bool) : Bool :=
  match step s with
  | .next t => p t
  | _ => false

theorem test_idle_clock : (isIdle { awake with host := [(1, { en := true, idleFrom := some 3 })] } 1 = true
      ∧ (isIdle (ns3 [] {}) 1 = false ∧ ((ns3 [] {}).fn 1).idleFrom = none))
    ∧ ticks { put [(SYS_TIME_TIME, 76802)] with running := true, host := [(1, { en := true, idleFrom := some 3 })] } (fun t => t.get (HQ_IDLE_MS 1) == 2)
    ∧ ticks { put [(HQ_IDLE_MS 1, 7)] with running := true, host := [(1, { ctrl1 with idleFrom := some 3 })] } (fun t => t.get (HQ_IDLE_MS 1) == 0 && (t.fn 1).idleFrom == none)
    ∧ ticks { put [(VRS_OUT_OTHER_HOLDS 7, 1), (SYS_TIME_TIME, 9600)] with running := true } (fun t => t.get (VRS_OUT_OTHER_HOLDS 7) == 0) := by decide +kernel
theorem test_perst_ignored : portFns awake 1 = [] ∧ portFns awake 0 ≠ []
    ∧ meets (.perstAssert 1) (put [(HQ_CTRL_CFG_READY, 1)]) (fun t => t.get HQ_EVENT_PERST == 0 && t.get HQ_CTRL_CFG_READY == 1 && t.hq.perst.contains 1) := by decide +kernel
theorem test_media_there : mediaThere awake { fn := 1, sq := 5, cid := 2, cmd := .flush 3 } = true
    ∧ mediaThere (ns3 [(HQ_PWR_STATUS_PS, 3)] {}) { fn := 1, sq := 5, cid := 2, cmd := .write 3 0 1 false, lock := some ⟨3, 0, 1, true⟩ } = false := by decide +kernel
theorem test_takes_all : takesAll (ns3 [] {}).ledger.quires (partRuns 7 3 (chunks 16384 5 1) [(2, 0x5000, 0x6000)]) = true
    ∧ takesAll [(2, { used := 16384 })] (partRuns 7 3 (chunks 16384 5 1) [(2, 0x5000, 0x6000)]) = false := by decide +kernel
theorem test_scribe_modes : permits awake 3 0 0x1000 8 = true
    ∧ permits { awake with scribes := [(3, { user := true })] } 3 0 0x1000 8 = false
    ∧ meets (.scribeLoad 3 0x1000 3 .clean) { awake with scribes := [(3, { user := true })] } (fun t => (t.scribe 3).trap == some (5, 0x1000))
    ∧ placeOfAll awake 3 0x300001FFFD 8 = .absent ∧ placeOf awake 3 0x300001FFFD ≠ .block
    ∧ meets (.scribeStore 3 0x300001FFFD 3 9) awake (fun t => (t.scribe 3).trap == some (7, 0x300001FFFD) && t.locals == []) := by decide +kernel
theorem test_told : awake.ink.told = false
    ∧ meets .ueWindow { awake with ink := { ueCount := 4, told := true } } (fun t => t.bit VRS_DIAG_CAUSE 4 && !t.ink.told) := by decide +kernel
theorem test_shift : meets (.trainStep 7 (.locked ([0, 1, 2, 3].map heads8))) { port7 4 [] {} with links := [(4, { quadLocked := true }), (7, {})] } (fun t => (t.link 7).relocked && lkState t 7 == 4)
    ∧ meets (.trainStep 7 (.skew (heads4 [0, 0, 0, 0]) [])) (port7 4 [] {}) (fun t => lkState t 7 == 4) := by decide +kernel

end Sys2Proof.Tests
end

/-!
SUPPORT. Register accesses that are not performed: frames, islands, traps, and the record of an abandoned access.
-/

namespace Sys2Proof.Machine

/-! ### Frames: what a change of one field or of hidden state leaves -/

/-- A change that keeps the stored fields keeps every field. -/
theorem SameFields.of_fld {but : List Fld} {s t : State} (h : t.fld = s.fld) : SameFields but s t := fun f _ => by
  rw [State.get, State.get, h]

/-- A change of a Scribe's state keeps every field. -/
theorem modScribe_sameFields (s : State) (q : Nat) (k : Scribe → Scribe) (but : List Fld) : SameFields but s (s.modScribe q k) := .of_fld rfl

theorem SameFields.trans {but : List Fld} {s t u : State} (h : SameFields but s t) (k : SameFields but t u) : SameFields but s u :=
  fun f hf => (k f hf).trans (h f hf)

theorem SameFields.mono {l m : List Fld} {s t : State} (h : SameFields l s t) (hs : l ⊆ m) : SameFields m s t :=
  fun f hf => h f fun hm => hf (List.map_subset _ hs hm)

/-- Setting a listed field keeps the others. -/
theorem SameFields.set {but : List Fld} {s t : State} (h : SameFields but s t) (f : Fld) (v : Nat) (hf : f ∈ but) :
    SameFields but s (t.set f v) := fun g hg =>
  (t.get_set_ne v fun e : g.key = f.key => hg (e ▸ List.mem_map_of_mem hf)).trans (h g hg)

/-- A change that keeps the stored bytes and marks keeps the memory. -/
theorem SameMemory.of_mem {s t : State} (h : t.mem = s.mem) (h' : t.poison = s.poison) : SameMemory s t :=
  ⟨fun a => by rw [State.byte, State.byte, h], fun b => by rw [State.poisoned, State.poisoned, h']⟩

/-! ### Islands (R15, R18) -/

/-- While the part is held in reset every island stands. -/
theorem islandStopped_of_low {s : State} (h : s.boot.low = true) (i : Nat) : islandStopped s i = true := by
  simp [islandStopped, inReset, h]

/-- Out of reset an island that PS3 and PS4 do not gate runs. -/
theorem islandStopped_ungated {s : State} (h : s.boot.low = false) {i : Nat} (h4 : i ≠ 4) (h8 : i < 8) : islandStopped s i = false := by
  have : ¬ 8 ≤ i := by omega
  simp [islandStopped, inReset, h, h4, this]

/-- The INK island stands exactly while the part is held in reset. -/
theorem islandStopped_ink (s : State) : islandStopped s inkIsland = s.boot.low := by
  simp [islandStopped, inReset]

theorem islandOf_ink {a : Nat} (h : a / 0x10000 * 0x10000 = inkBase) : islandOf a = inkIsland := by
  simp [islandOf, h]

theorem islandOf_sec {a : Nat} (h : a / 0x10000 * 0x10000 = secBase) : islandOf a = secIsland := by
  simp [islandOf, h]

/-- The read channel of pen n lies in the pen's DATA island. -/
theorem islandOf_rc {n a : Nat} (h : a / 0x10000 * 0x10000 = rcBase n) : islandOf a = dataIsland n := by
  simp only [rcBase, penBase] at h
  unfold islandOf
  dsimp only
  rw [h]
  repeat rw [if_neg (by simp only [hqBase, mbxBase, inkBase, sysBase, cpbBase, ldgBase, ldpcBase, secBase, motBase, ducBase, calBase, vrsBase]
                        omega)]
  rw [if_neg (by omega)]
  simp only [dataIsland]
  omega

/-- The code of an island has 6 bits. -/
theorem islandOf_lt {a : Nat} (h : blockBase a ≠ none) : islandOf a < 2 ^ 6 := by
  have h' : a < 0x2002000000 := by
    unfold blockBase at h
    split at h
    · omega
    · split at h
      · omega
      · exact absurd rfl h
  unfold islandOf
  dsimp only
  repeat' split
  all_goals omega

/-- The code of a requester has 4 bits. -/
theorem codeOf_lt (who : Requester) : codeOf who < 2 ^ 4 := by
  cases who with
  | scribe q => exact lt_trans q.isLt (by decide)
  | host f => simp only [codeOf]; omega
  | verso => decide
  | debug => decide

/-! ### Accesses that are not performed (R9, R18, R19) -/

/-- A trap is taken with its cause and address, and nothing else changes. -/
theorem trapScribe_trapped (s : State) (q : Fin 8) (cause a : Nat) : Trapped q cause a s (trapScribe s q cause a) :=
  ⟨by rw [trapScribe, State.scribe_modScribe], .of_fld rfl, .of_mem rfl rfl⟩

/-- What a read returned is what is found. -/
@[simp] theorem giveRead_returned (s : State) (who v : Nat) : (giveRead s who v).returned.getD who 0 = v :=
  Store.getD_set_same s.returned who 0 v

theorem notPerformed_scribe (s : State) (q : Fin 8) (a : Nat) (isWrite : Bool) :
    notPerformed s (.scribe q) a isWrite = trapScribe s q (if isWrite then 7 else 5) a := (rfl)

theorem notPerformed_host_read (s : State) (f : Fin 2) (a : Nat) :
    notPerformed s (.host f) a false = giveRead s (8 + f) (2 ^ 32 - 1) := (rfl)

/-- An access that is not performed changes no register field and no byte. -/
theorem notPerformed_frame (s : State) (who : Requester) (a : Nat) (isWrite : Bool) :
    (notPerformed s who a isWrite).fld = s.fld ∧ (notPerformed s who a isWrite).mem = s.mem
      ∧ (notPerformed s who a isWrite).poison = s.poison := by
  cases who with
  | scribe q => exact ⟨rfl, rfl, rfl⟩
  | _ => cases isWrite <;> exact ⟨rfl, rfl, rfl⟩

theorem notPerformed_get (s : State) (who : Requester) (a : Nat) (isWrite : Bool) (f : Fld) :
    (notPerformed s who a isWrite).get f = s.get f := by
  rw [State.get, (notPerformed_frame s who a isWrite).1, State.get]

theorem notPerformed_sameFields (s : State) (who : Requester) (a : Nat) (isWrite : Bool) (but : List Fld) :
    SameFields but s (notPerformed s who a isWrite) := .of_fld (notPerformed_frame s who a isWrite).1

theorem notPerformed_sameMemory (s : State) (who : Requester) (a : Nat) (isWrite : Bool) :
    SameMemory s (notPerformed s who a isWrite) :=
  have ⟨_, hm, hp⟩ := notPerformed_frame s who a isWrite
  .of_mem hm hp

/-! ### The record of an abandoned access (R19) -/

/-- The fields that record an abandoned access. -/
def xingFlds : List Fld :=
  [SYS_EVENT_XING, SYS_XING_ERR_VALID, SYS_XING_ERR_OVERRUN, SYS_XING_ERR_ISLAND, SYS_XING_ERR_REQUESTER, SYS_XING_ERR_ADDR_HI,
    SYS_XING_ADDR_ADDR_LO]

/-- The record that stands is kept, and the second access overruns it. -/
theorem recordXing_again {s : State} (h : s.get SYS_XING_ERR_VALID = 1) (who : Requester) (a : Nat) :
    recordXing s who a = (s.ev SYS_EVENT_XING).ev SYS_XING_ERR_OVERRUN := by
  have hv : (s.ev SYS_EVENT_XING).on SYS_XING_ERR_VALID = true := by
    rw [State.on, State.get_ev_ne _ (by decide), h]
    rfl
  rw [recordXing, if_pos hv]

/-- With none standing, the access is recorded. -/
theorem recordXing_first {s : State} (h : s.get SYS_XING_ERR_VALID ≠ 1) (who : Requester) (a : Nat) :
    recordXing s who a = (((((s.ev SYS_EVENT_XING).set SYS_XING_ERR_VALID 1).set SYS_XING_ERR_ISLAND (islandOf a)).set
      SYS_XING_ERR_REQUESTER (codeOf who)).set SYS_XING_ERR_ADDR_HI (a / 2 ^ 32)).set SYS_XING_ADDR_ADDR_LO (a % 2 ^ 32) := by
  have hv : ¬ (s.ev SYS_EVENT_XING).on SYS_XING_ERR_VALID = true := by
    rw [State.on, State.get_ev_ne _ (by decide)]
    simpa using h
  rw [recordXing, if_neg hv]

theorem recordXing_event (s : State) (who : Requester) (a : Nat) : (recordXing s who a).get SYS_EVENT_XING = 1 := by
  by_cases h : s.get SYS_XING_ERR_VALID = 1
  · rw [recordXing_again h, State.get_ev_ne _ (by decide), State.get_ev _ _ (by decide)]
  · rw [recordXing_first h]
    iterate 5 rw [State.get_set_ne _ _ (by decide)]
    exact State.get_ev _ _ (by decide)

theorem recordXing_overrun {s : State} (h : s.get SYS_XING_ERR_VALID = 1) (who : Requester) (a : Nat) :
    (recordXing s who a).get SYS_XING_ERR_OVERRUN = 1 ∧ SameFields [SYS_EVENT_XING, SYS_XING_ERR_OVERRUN] s (recordXing s who a) := by
  rw [recordXing_again h]
  exact ⟨State.get_ev _ _ (by decide), (SameFields.set (.set (.of_fld rfl) _ _ (by decide)) _ _ (by decide))⟩

theorem recordXing_sameFields (s : State) (who : Requester) (a : Nat) : SameFields xingFlds s (recordXing s who a) := by
  by_cases h : s.get SYS_XING_ERR_VALID = 1
  · exact (recordXing_overrun h who a).2.mono (by decide)
  · rw [recordXing_first h]
    exact .set (.set (.set (.set (.set (.set (.of_fld rfl) _ _ (by decide)) _ _ (by decide)) _ _ (by decide)) _ _ (by decide)) _ _
      (by decide)) _ _ (by decide)

/-- What the record of a first abandoned access reads: island, requester and address. -/
theorem recordXing_recorded {s : State} (h : s.get SYS_XING_ERR_VALID ≠ 1) (who : Requester) {a : Nat} (ha : a < 2 ^ 40)
    (hb : blockBase a ≠ none) :
    (recordXing s who a).get SYS_XING_ERR_VALID = 1 ∧ (recordXing s who a).get SYS_XING_ERR_ISLAND = islandOf a
      ∧ (recordXing s who a).get SYS_XING_ERR_REQUESTER = codeOf who ∧ (recordXing s who a).get SYS_XING_ERR_ADDR_HI = a / 2 ^ 32
      ∧ (recordXing s who a).get SYS_XING_ADDR_ADDR_LO = a % 2 ^ 32 := by
  rw [recordXing_first h]
  refine ⟨?_, ?_, ?_, ?_, ?_⟩
  · iterate 4 rw [State.get_set_ne _ _ (by decide)]
    exact State.get_set _ _ _
  · iterate 3 rw [State.get_set_ne _ _ (by decide)]
    rw [State.get_set]
    exact Nat.mod_eq_of_lt (islandOf_lt hb)
  · iterate 2 rw [State.get_set_ne _ _ (by decide)]
    rw [State.get_set]
    exact Nat.mod_eq_of_lt (codeOf_lt who)
  · rw [State.get_set_ne _ _ (by decide), State.get_set]
    exact Nat.mod_eq_of_lt (show a / 2 ^ 32 < 2 ^ 8 by omega)
  · rw [State.get_set]
    exact Nat.mod_mod _ _

theorem recordXing_sameMemory (s : State) (who : Requester) (a : Nat) : SameMemory s (recordXing s who a) := by
  by_cases h : s.get SYS_XING_ERR_VALID = 1
  · rw [recordXing_again h]
    exact .of_mem rfl rfl
  · rw [recordXing_first h]
    exact .of_mem rfl rfl

/-- In reset nothing is recorded. -/
theorem abandon_low {s : State} (h : s.boot.low = true) (who : Requester) (a : Nat) (isWrite : Bool) :
    abandon s who a isWrite = notPerformed s who a isWrite := by
  simp [abandon, inReset, h]

theorem abandon_recorded {s : State} (h : s.boot.low = false) (who : Requester) (a : Nat) (isWrite : Bool) :
    abandon s who a isWrite = notPerformed (recordXing s who a) who a isWrite := by
  simp [abandon, inReset, h]

theorem SameMemory.trans {s t u : State} (h : SameMemory s t) (k : SameMemory t u) : SameMemory s u :=
  ⟨fun a => (k.1 a).trans (h.1 a), fun b => (k.2 b).trans (h.2 b)⟩

theorem abandon_sameMemory (s : State) (who : Requester) (a : Nat) (isWrite : Bool) : SameMemory s (abandon s who a isWrite) := by
  cases h : s.boot.low with
  | true => exact abandon_low h who a isWrite ▸ notPerformed_sameMemory s who a isWrite
  | false =>
    rw [abandon_recorded h]
    exact (recordXing_sameMemory s who a).trans (notPerformed_sameMemory _ who a isWrite)

theorem abandon_scribe_trap (s : State) (q : Fin 8) (a : Nat) (isWrite : Bool) :
    ((abandon s (.scribe q) a isWrite).scribe q).trap = some (if isWrite then 7 else 5, a) := by
  rw [abandon, notPerformed_scribe, trapScribe, State.scribe_modScribe]

theorem abandon_host_read (s : State) (f : Fin 2) (a : Nat) :
    (abandon s (.host f) a false).returned.getD (8 + f) 0 = 2 ^ 32 - 1 := by
  rw [abandon, notPerformed_host_read, giveRead_returned]

end Sys2Proof.Machine

/-!
SUPPORT. Which way an access to a register block goes, and the words that no field covers.
-/

namespace Sys2Proof.Machine

/-! ### Which way an access to a block goes (R8, R9, R18) -/

/-- An address outside every block, or an access that is misaligned or not of 32 bits: a block does not take it (R9). -/
def badAccess (size a : Nat) : Prop := blockBase a = none ∨ a % 4 ≠ 0 ∨ size ≠ 2

theorem badAccess_iff (size a : Nat) : badAccess size a ↔ ((blockBase a).isNone || !wordAccess size a) = true := by
  simp only [badAccess, wordAccess, Bool.or_eq_true, Option.isNone_iff_eq_none, Bool.not_eq_true', Bool.and_eq_false_iff, beq_eq_false_iff_ne]
  rw [or_comm (a := size ≠ 2)]

theorem blockWrite_bad {size a : Nat} (h : badAccess size a) (who : Requester) (rows : Bool) (v : Nat) (s : State) :
    blockWrite who rows size a v s = notPerformed s who a true := by
  unfold blockWrite
  rw [if_pos ((badAccess_iff size a).1 h)]

theorem blockRead_bad {size a : Nat} (h : badAccess size a) (who : Requester) (s : State) :
    blockRead who size a s = notPerformed s who a false := by
  unfold blockRead
  rw [if_pos ((badAccess_iff size a).1 h)]

section
variable {a : Nat} {s : State} (hb : ¬ badAccess 2 a)
include hb

theorem blockWrite_stopped (hi : islandStopped s (islandOf a) = true) (who : Requester) (rows : Bool) (v : Nat) :
    blockWrite who rows 2 a v s = abandon s who a true := by
  unfold blockWrite
  rw [if_neg (mt (badAccess_iff 2 a).2 hb), if_pos hi]

/-- A Scribe's write that is performed clears its exception. -/
theorem blockWrite_scribe (hi : islandStopped s (islandOf a) = false) (q : Fin 8) (rows : Bool) (v : Nat) :
    blockWrite (.scribe q) rows 2 a v s
      = wordWrite (.scribe q) rows (s.modScribe q fun c => { c with trap := none }) a (v % 2 ^ 32) := by
  unfold blockWrite
  rw [if_neg (mt (badAccess_iff 2 a).2 hb), if_neg (Bool.eq_false_iff.1 hi)]

theorem blockWrite_other (hi : islandStopped s (islandOf a) = false) {who : Requester} (hq : ∀ q, who ≠ .scribe q) (rows : Bool) (v : Nat) :
    blockWrite who rows 2 a v s = wordWrite who rows s a (v % 2 ^ 32) := by
  unfold blockWrite
  rw [if_neg (mt (badAccess_iff 2 a).2 hb), if_neg (Bool.eq_false_iff.1 hi)]
  cases who with
  | scribe q => exact absurd rfl (hq q)
  | _ => rfl

theorem blockRead_performed (hi : islandStopped s (islandOf a) = false) (who : Requester) :
    blockRead who 2 a s = wordReadEffect who (giveAny s who (wordFor who s a)) a := by
  unfold blockRead
  rw [if_neg (mt (badAccess_iff 2 a).2 hb), if_neg (Bool.eq_false_iff.1 hi)]

end

/-! ### The lists of fields by block (R8) -/

theorem mbxBase_eq : mbxBase = 0x2000050000 := (rfl)

theorem sysBase_eq : sysBase = 0x2000000000 := (rfl)

/-- A word of the mailboxes' block below LATCH has the fields of that block's table. -/
theorem fieldsAt_mbx {o : Nat} (h : o < 0xFF00) : fieldsAt (mbxBase + o) = mbxAt o := by
  have ho : (mbxBase + o) % 0x10000 = o := by have := mbxBase_eq; omega
  have hb : (mbxBase + o) / 0x10000 * 0x10000 = mbxBase := by have := mbxBase_eq; omega
  unfold fieldsAt
  dsimp only
  rw [ho, hb, if_neg (by omega), if_neg (by omega)]
  repeat rw [if_neg (by decide)]
  rw [if_pos rfl]

/-- A word of the SYS block below LATCH has the fields of that block's table. -/
theorem fieldsAt_sys {o : Nat} (h : o < 0xFF00) : fieldsAt (sysBase + o) = sysAt o := by
  have ho : (sysBase + o) % 0x10000 = o := by have := sysBase_eq; omega
  have hb : (sysBase + o) / 0x10000 * 0x10000 = sysBase := by have := sysBase_eq; omega
  unfold fieldsAt
  dsimp only
  rw [ho, hb, if_neg (by omega), if_neg (by omega), if_pos rfl]

/-- The request and result areas of the mailboxes have fields. -/
theorem mbxAt_area {o : Nat} (h : o < 0x4000) : mbxAt o ≠ [] := by
  unfold mbxAt
  repeat rw [if_neg (by omega)]
  split
  all_goals exact List.cons_ne_nil _ _

/-- The control words of the mailboxes have fields. -/
theorem mbxAt_ctrl {o : Nat} (h : 0x4000 ≤ o) (h' : o < 0x4200) (ho : o % 0x10 = 0) : mbxAt o ≠ [] := by
  unfold mbxAt
  rw [if_pos (by omega)]
  exact List.cons_ne_nil _ _

/-- The seals have fields. -/
theorem mbxAt_seal {o : Nat} (h : 0x6000 ≤ o) (h' : o < 0x6100) : mbxAt o ≠ [] := by
  unfold mbxAt
  repeat rw [if_neg (by omega)]
  rw [if_pos ⟨h, h'⟩]
  exact List.cons_ne_nil _ _

/-- SYS_IRQ_PEND has fields. -/
theorem sysAt_irqPend {o : Nat} (h : 0x300 ≤ o) (h' : o < 0x320) : sysAt o ≠ [] := by
  unfold sysAt
  repeat rw [if_neg (by omega)]
  rw [if_pos ⟨h, h'⟩]
  exact List.cons_ne_nil _ _

/-- The watchdog words of the Scribes have fields. -/
theorem sysAt_watchdog {o : Nat} (h : 0x100 ≤ o) (h' : o < 0x180) (ho : o % 0x10 = 4) : sysAt o ≠ [] := by
  unfold sysAt
  repeat rw [if_neg (by omega)]
  rw [if_pos (by omega)]
  exact List.cons_ne_nil _ _

/-- A word of the mailboxes' block without fields lies in none of the parts that its table fills. -/
theorem mbx_unassigned {a : Nat} (h : fieldsAt a = []) (hl : mbxBase ≤ a) (hh : a < mbxBase + 0xFF00) :
    0x4000 ≤ a - mbxBase ∧ (a - mbxBase < 0x4200 → (a - mbxBase) % 0x10 ≠ 0) ∧ ¬ (0x6000 ≤ a - mbxBase ∧ a - mbxBase < 0x6100) := by
  obtain ⟨o, rfl⟩ := Nat.exists_eq_add_of_le hl
  rw [fieldsAt_mbx (by omega)] at h
  rw [Nat.add_sub_cancel_left]
  have h1 : 0x4000 ≤ o := by
    by_contra hc
    exact mbxAt_area (by omega) h
  exact ⟨h1, fun h2 h3 => mbxAt_ctrl h1 h2 h3 h, fun h2 => mbxAt_seal h2.1 h2.2 h⟩

/-- A word of the SYS block without fields is neither SYS_IRQ_PEND nor a watchdog's. -/
theorem sys_unassigned {a : Nat} (h : fieldsAt a = []) (hl : sysBase ≤ a) (hh : a < sysBase + 0xFF00) :
    ¬ (0x300 ≤ a - sysBase ∧ a - sysBase < 0x320) ∧ ¬ (0x100 ≤ a - sysBase ∧ a - sysBase < 0x180 ∧ (a - sysBase) % 0x10 = 4) := by
  obtain ⟨o, rfl⟩ := Nat.exists_eq_add_of_le hl
  rw [fieldsAt_sys (by omega)] at h
  rw [Nat.add_sub_cancel_left]
  exact ⟨fun h1 => sysAt_irqPend h1.1 h1.2 h, fun h1 => sysAt_watchdog h1.1 h1.2.1 h1.2.2 h⟩

/-- WC_CTRL of a pen has fields. -/
theorem fieldsAt_wcCtrl (n : Fin 16) : fieldsAt (wcBase n) ≠ [] := by
  revert n
  decide

/-- The region of the twelve blocks that are no pen's is assigned throughout. -/
theorem blockBase_fixed {a : Nat} (h : 0x2000000000 ≤ a) (h' : a < 0x20000C0000) : blockBase a ≠ none := by
  unfold blockBase
  rw [if_pos ⟨h, h'⟩]
  exact Option.some_ne_none _

theorem blockBase_lt {a : Nat} (h : blockBase a ≠ none) : a < 0x2002000000 := by
  unfold blockBase at h
  split at h
  · omega
  · split at h
    · omega
    · exact absurd rfl h

/-! ### The word that a read returns (R8, R26, R330) -/

/-- Outside the results of the mailboxes every requester reads the block's word. -/
theorem wordFor_eq_blockWord {a : Nat} (h : a < mbxBase ∨ mbxBase + 0x4000 ≤ a) (who : Requester) (s : State) :
    wordFor who s a = blockWord s a := by
  unfold wordFor
  dsimp only
  rw [if_neg (by omega)]

theorem blockWord_eq_readWord {a : Nat} (h : sysBase + 0x320 ≤ a) (ht : noTables a = false) (s : State) : blockWord s a = s.readWord a := by
  unfold blockWord
  rw [if_neg (by omega), if_neg (Bool.eq_false_iff.1 ht)]

/-- Below the motion engine's tables no word is one of theirs (R183). -/
theorem noTables_below {a : Nat} (h : a < motBase + 0x8000) : noTables a = false := by
  simp [noTables, leBase, Nat.not_le.2 h]

theorem noTables_pen {a : Nat} (h : 0x2001000000 ≤ a) : noTables a = false := by
  have h1 : ¬ a - leBase 16 < 0xC20 := by simp only [leBase]; norm_num; omega
  have h2 : ¬ a - leBase 16 < 0x5000 := by simp only [leBase]; norm_num; omega
  simp [noTables, h1, h2]

/-- A word has 32 bits. -/
theorem toWord_lt (f : Fld) (a v : Nat) : f.toWord a v < 2 ^ 32 := Nat.mod_lt _ (Nat.two_pow_pos _)

theorem foldl_toWord_lt (g : Fld → Nat) (a : Nat) (l : List Fld) {w : Nat} (hw : w < 2 ^ 32) :
    l.foldl (fun w f => w ||| f.toWord a (g f)) w < 2 ^ 32 := by
  induction l generalizing w with
  | nil => exact hw
  | cons f l ih => exact ih (Nat.or_lt_two_pow hw (toWord_lt f a _))

/-- A word none of whose bits the port has reads 0 (R26). -/
theorem readWord_absent {s : State} {a : Nat} (h : absentBits s a = 2 ^ 32 - 1) : s.readWord a = 0 := by
  rw [State.readWord, State.present, h, Nat.and_two_pow_sub_one_eq_mod, Nat.mod_eq_of_lt (foldl_toWord_lt _ a _ (by decide)), Nat.xor_self]

/-- An unassigned word reads 0 (R8). -/
theorem blockWord_unassigned {a : Nat} (h : fieldsAt a = []) (s : State) : blockWord s a = 0 := by
  have hp : ¬ (sysBase + 0x300 ≤ a ∧ a < sysBase + 0x320) := fun hp => (sys_unassigned h (by omega) (by omega)).1 (by omega)
  unfold blockWord
  rw [if_neg hp]
  split
  · rfl
  · rw [State.readWord, h, State.present]
    simp

theorem wordFor_unassigned {a : Nat} (h : fieldsAt a = []) (who : Requester) (s : State) : wordFor who s a = 0 := by
  have hm : a < mbxBase ∨ mbxBase + 0x4000 ≤ a := by
    by_contra hc
    have := (mbx_unassigned h (by omega) (by omega)).1
    omega
  rw [wordFor_eq_blockWord hm, blockWord_unassigned h]

/-- Reading an unassigned word does nothing (R8). -/
theorem wordReadEffect_unassigned {a : Nat} (h : fieldsAt a = []) (who : Requester) (s : State) : wordReadEffect who s a = s := by
  have he : s.readWordEffect a = s := by rw [State.readWordEffect, h, State.each_nil]
  cases who with
  | host f =>
    unfold wordReadEffect
    dsimp only
    rw [if_neg ?_, he]
    rintro ⟨hl, hh, _⟩
    have := (mbx_unassigned h hl (by omega)).1
    omega
  | _ => exact he

/-! ### Unassigned words: writes (R8, R404) -/

theorem mbxActions_outside {a : Nat} (h : a < mbxBase + 0x4000 ∨ mbxBase + 0x6100 ≤ a) (s : State) (v : Nat) : mbxActions s a v = s := by
  unfold mbxActions
  dsimp only
  rw [if_neg (by omega), if_neg (by omega)]

theorem mbxActions_unassigned {a : Nat} (h : fieldsAt a = []) (s : State) (v : Nat) : mbxActions s a v = s := by
  unfold mbxActions
  dsimp only
  rw [if_neg, if_neg]
  · rintro ⟨hl, hh, _⟩
    exact (mbx_unassigned h (by omega) (by omega)).2.2 (by omega)
  · rintro ⟨hl, hh, ho, _⟩
    exact (mbx_unassigned h (by omega) (by omega)).2.1 (by omega) ho

theorem fieldsWrite_unassigned {a : Nat} (h : fieldsAt a = []) (s : State) (v : Nat) : fieldsWrite s a v = s := by
  simp [fieldsWrite, h]

/-- A word of a pen's port that carries an N1 pen and does not have it ignores writes (R26). -/
theorem fieldsWrite_absent {s : State} {a : Nat} (h : absentBits s a = 2 ^ 32 - 1) (v : Nat) : fieldsWrite s a v = s := by
  simp [fieldsWrite, h]

/-- A block's word that a requester may write and that is neither VRS_OUT, a mailbox's nor WC_CTRL: its fields take the write. -/
theorem wordWrite_fields {who : Requester} {a : Nat} (hw : writeAllowed who a = true) (hv : a < vrsBase + 0x100 ∨ vrsBase + 0x1A0 ≤ a)
    (hm : a < mbxBase + 0x4000 ∨ mbxBase + 0x6100 ≤ a) (hc : a < 0x2001000000 ∨ a ≠ wcBase (penOf a)) (s : State) (v : Nat) :
    wordWrite who false s a v = fieldsWrite s a v := by
  have ho : outWriteElsewhere s a v = false := by
    simp only [outWriteElsewhere, Bool.and_eq_false_iff, decide_eq_false_iff_not]
    omega
  have hn : (decide (0x2001000000 ≤ a) && a == wcBase (penOf a)) = false := by
    simp only [Bool.and_eq_false_iff, decide_eq_false_iff_not, beq_eq_false_iff_ne]
    omega
  unfold wordWrite
  dsimp only
  rw [if_pos hw, if_neg Bool.false_ne_true, ho, if_neg Bool.false_ne_true, hn, State.iff_false, mbxActions_outside hm]

/-- A write to an unassigned word is ignored (R8); one to SEC that is refused is recorded (R404). -/
theorem wordWrite_unassigned {who : Requester} {a : Nat} (h : fieldsAt a = []) (hb : blockBase a ≠ none)
    (hw : who = .scribe 0 ∨ a / 0x10000 * 0x10000 ≠ secBase) (s : State) (v : Nat) : wordWrite who false s a v = s := by
  have hc : (decide (0x2001000000 ≤ a) && a == wcBase (penOf a)) = false := by
    by_contra hp
    simp only [Bool.not_eq_false, Bool.and_eq_true, decide_eq_true_eq, beq_iff_eq] at hp
    have hn : penOf a < 16 := by
      have := blockBase_lt hb
      unfold penOf
      omega
    exact fieldsAt_wcCtrl ⟨penOf a, hn⟩ (hp.2 ▸ h)
  unfold wordWrite
  dsimp only
  split
  · rw [if_neg Bool.false_ne_true, fieldsWrite_unassigned h, mbxActions_unassigned h, hc, State.iff_false]
    split <;> rfl
  · rename_i ha
    have hwho : who ≠ .scribe 0 := fun e => ha (by simp [writeAllowed, e])
    have hsys : a / 0x10000 * 0x10000 = sysBase := by
      by_contra hs
      exact ha (by simp [writeAllowed, hs, hw.resolve_left hwho])
    have hk : (decide (0x100 ≤ a - sysBase) && decide (a - sysBase < 0x180) && (a - sysBase) % 0x10 == 4) = false := by
      by_contra hp
      simp only [Bool.not_eq_false, Bool.and_eq_true, decide_eq_true_eq, beq_iff_eq] at hp
      obtain ⟨⟨h1, h2⟩, h3⟩ := hp
      exact (sys_unassigned h (by omega) (by omega)).2 ⟨h1, h2, h3⟩
    unfold writeRefused
    dsimp only
    rw [if_neg (hw.resolve_left hwho), hk, State.iff_false]

/-- The Scribes write every block but SYS and SEC. -/
theorem writeAllowed_of_ne (who : Requester) {a : Nat} (h : a / 0x10000 * 0x10000 ≠ sysBase) (h' : a / 0x10000 * 0x10000 ≠ secBase) :
    writeAllowed who a = true := by
  simp [writeAllowed, h, h']

/-- A write to SEC by another requester than Scribe 0 sets its event (R404). -/
theorem wordWrite_sec {who : Requester} {a : Nat} (hw : who ≠ .scribe 0) (h : a / 0x10000 * 0x10000 = secBase) (rows : Bool) (s : State) (v : Nat) :
    wordWrite who rows s a v = s.ev SEC_EVENT_ACCESS := by
  have ha : ¬ writeAllowed who a = true := by simp [writeAllowed, h, hw]
  unfold wordWrite
  rw [if_neg ha, writeRefused, if_pos h]

end Sys2Proof.Machine

/-!
SUPPORT. Fields written and read by their access codes (R4, R6, R492), one at a time and a word at a time.
-/

namespace Sys2Proof.Machine

/-! ### One field written by its access code (R4) -/

/-- A write reaches no other field. -/
theorem State.writeField_get_ne (s : State) {f g : Fld} (a v : Nat) (h : g.key ≠ f.key) : (s.writeField f a v).get g = s.get g := by
  unfold State.writeField
  cases f.acc with
  | ro | roc => rfl
  | rw | wo | w1c | w1s => exact s.get_set_ne _ h

/-- What a write makes of a field depends on that field alone. -/
theorem State.writeField_get_congr {s t : State} {f : Fld} (a v : Nat) (h : t.get f = s.get f) :
    (t.writeField f a v).get f = (s.writeField f a v).get f := by
  unfold State.writeField
  dsimp only
  rw [h]
  cases f.acc with
  | ro | roc => exact h
  | rw | wo | w1c | w1s => simp only [State.get_set]

/-- A read-only field ignores a write. -/
theorem State.writeField_ro (s : State) {f : Fld} (h : f.acc = .ro) (a v : Nat) : s.writeField f a v = s := by
  unfold State.writeField
  rw [h]

/-- A write of 1 clears a W1C bit; a write of 0 leaves it. -/
theorem State.get_writeField_w1c (s : State) {f : Fld} {a v : Nat} (hd : f.addr = a) (ha : f.acc = .w1c) (hw : f.width = 1)
    (hv : v < 2 ^ 32) : (s.writeField f a v).get f = if v.testBit f.lo then 0 else s.get f := by
  subst hd
  have hs : s.get f < 2 := by
    have := s.get_lt f
    rwa [hw] at this
  have hb : ((v % 2 ^ 32) <<< (32 * ((f.addr - f.addr) / 4))) >>> f.lo % 2 ^ f.width = (v.testBit f.lo).toNat := by
    rw [Nat.sub_self, Nat.mod_eq_of_lt hv, hw, Nat.toNat_testBit, Nat.shiftRight_eq_div_pow]
    rfl
  unfold State.writeField Fld.ofWord
  dsimp only
  rw [ha, hb]
  dsimp only
  rw [State.get_set, hw]
  interval_cases s.get f <;> cases v.testBit f.lo <;> rfl

/-- An RW field that lies in one word takes the bits written. -/
theorem State.get_writeField_rw (s : State) {f : Fld} {a v : Nat} (hd : f.addr = a) (ha : f.acc = .rw) (hw : f.lo + f.width ≤ 32)
    (hv : v < 2 ^ 32) : (s.writeField f a v).get f = v / 2 ^ f.lo % 2 ^ f.width := by
  subst hd
  have hb : ((v % 2 ^ 32) <<< (32 * ((f.addr - f.addr) / 4))) >>> f.lo % 2 ^ f.width = v / 2 ^ f.lo % 2 ^ f.width := by
    rw [Nat.sub_self, Nat.mod_eq_of_lt hv, Nat.shiftRight_eq_div_pow]
    rfl
  have hm : ((2 ^ 32 - 1) <<< (32 * ((f.addr - f.addr) / 4))) >>> f.lo % 2 ^ f.width = 2 ^ f.width - 1 := by
    rw [Nat.sub_self]
    apply Nat.eq_of_testBit_eq
    intro i
    simp only [Nat.testBit_mod_two_pow, Nat.testBit_two_pow_sub_one, Nat.testBit_shiftRight, Nat.zero_div, Nat.mul_zero, Nat.shiftLeft_zero]
    by_cases hi : i < f.width
    · simp [hi]; omega
    · simp [hi]
  unfold State.writeField Fld.ofWord
  dsimp only
  rw [ha, hb, hm]
  dsimp only
  rw [State.get_set, Nat.and_two_pow_sub_one_eq_mod, Nat.and_two_pow_sub_one_eq_mod, Nat.mod_mod, Nat.mod_eq_of_lt (s.get_lt f), Nat.xor_self,
    Nat.zero_or, Nat.mod_mod]

/-! ### A word's fields written one after another -/

/-- The fields of a list reach only themselves. -/
theorem State.each_writeField_sameFields (s : State) (l : List Fld) (a v : Nat) :
    SameFields l s (s.each l fun s f => s.writeField f a v) := fun _ hg =>
  State.get_each_of s l _ fun s _ hf => s.writeField_get_ne a v fun e => hg (e ▸ List.mem_map_of_mem hf)

/-- With distinct fields, each takes the write as it would alone. -/
theorem State.get_each_writeField (s : State) {l : List Fld} (hl : (l.map Fld.key).Nodup) {f : Fld} (hf : f ∈ l) (a v : Nat) :
    (s.each l fun s f => s.writeField f a v).get f = (s.writeField f a v).get f := by
  induction l generalizing s with
  | nil => cases hf
  | cons g l ih =>
    obtain ⟨hg, hl⟩ := List.nodup_cons.1 hl
    rw [State.each_cons]
    rcases List.mem_cons.1 hf with rfl | hf
    · exact State.each_writeField_sameFields _ l a v f hg
    · rw [ih _ hl hf]
      exact State.writeField_get_congr a v (s.writeField_get_ne a v fun e => hg (e ▸ List.mem_map_of_mem hf))

/-- Read-only fields ignore a write. -/
theorem State.each_writeField_ro (s : State) {l : List Fld} (h : ∀ f ∈ l, f.acc = .ro) (a v : Nat) :
    (s.each l fun s f => s.writeField f a v) = s :=
  State.each_keeps id s l _ fun s f hf => s.writeField_ro (h f hf) a v

/-! ### Words of the Inkwell's block -/

/-- No absent bits outside the pens' regions (R26). -/
theorem absentBits_below {a : Nat} (h : a < 0x2001000000) (s : State) : absentBits s a = 0 := by
  unfold absentBits
  dsimp only
  rw [if_neg (by omega)]

/-- With no absent bits a word is written as it stands. -/
theorem writtenWord_of_absent_zero {s : State} {a : Nat} (h : absentBits s a = 0) (v : Nat) : writtenWord s a v = v := by
  simp [writtenWord, State.present, h]

/-- The fields of SYS and of the Inkwell are open to writes while their units run. -/
theorem writeClosed_below {f : Fld} (h : f.addr < cpbBase) (s : State) : writeClosed s f = false := by
  have hne : ∀ g : Fld, cpbBase ≤ g.addr → (f == g) = false := fun g hg => by
    rw [beq_eq_false_iff_ne]
    rintro rfl
    omega
  have hfq (n : Nat) : (f == FQ_CFG_SIZE n) = false := hne _ (by simp only [FQ_CFG_SIZE, wcBase, penBase, cpbBase]; omega)
  have hldg (q : Nat) : (f == LDG_Q_CFG_SIZE q) = false := hne _ (by simp only [LDG_Q_CFG_SIZE, ldgBase, cpbBase]; omega)
  simp [writeClosed, hne LDPC_SPILL_CFG_SLOTS (by decide), hne VRS_MSG_CFG_SIZE (by decide), hfq, hldg]

theorem inkBase_eq : inkBase = 0x2000010000 := (rfl)

theorem motBase_eq : motBase = 0x2000070000 := (rfl)

/-- Below the motion block no write has an effect of its own before its fields. -/
theorem beforeFields_below {a : Nat} (h : a < motBase) (s : State) (v : Nat) : beforeFields s a v = s := by
  have hm := motBase_eq
  have he : engineOf a = none := by
    unfold engineOf
    rw [if_neg (by omega), if_neg (by omega)]
  unfold beforeFields
  rw [he]
  dsimp only
  rw [if_neg (by omega), if_neg (by omega)]

/-- Nothing follows a write to the Inkwell's fields. -/
theorem afterFields_ink {a : Nat} (h : a / 0x10000 * 0x10000 = inkBase) (s : State) : afterFields s a = s := by
  have hi := inkBase_eq
  have hv : vrsBase = 0x2000090000 := rfl
  unfold afterFields
  dsimp only
  rw [h]
  repeat rw [if_neg (by decide)]
  rw [if_neg (by omega), if_neg (fun hm => absurd hm.1 (by decide)), if_neg (by omega)]

/-- A write to a word of the Inkwell's block whose fields have no rows: each takes it by its access code (R4). -/
theorem fieldsWrite_ink {a : Nat} (hb : a / 0x10000 * 0x10000 = inkBase) (hne : fieldsAt a ≠ [])
    (hf : ∀ f ∈ fieldsAt a, f.own = false ∧ f.addr < cpbBase) (s : State) (v : Nat) :
    fieldsWrite s a v = s.each (fieldsAt a) fun s f => s.writeField f a v := by
  have ha : a < inkBase + 0x10000 := by omega
  have hz : absentBits s a = 0 := absentBits_below (lt_trans ha (by decide)) s
  have hcond : (noTables a || (fieldsAt a).isEmpty || absentBits s a == 2 ^ 32 - 1) = false := by
    simp [noTables_below (lt_trans ha (by decide)), hz, hne]
  have hfilter : ((fieldsAt a).filter fun f => !f.own && !writeClosed s f) = fieldsAt a :=
    List.filter_eq_self.2 fun f hm => by simp [(hf f hm).1, writeClosed_below (hf f hm).2]
  unfold fieldsWrite
  rw [hcond, if_neg Bool.false_ne_true]
  dsimp only
  rw [writtenWord_of_absent_zero hz, hfilter, beforeFields_below (lt_trans ha (by decide)), afterFields_ink hb]

/-! ### One field read by its access code (R6, R492) -/

/-- A read of a field keeps whatever a change of fields and shadows keeps. -/
theorem State.readField_keeps {β : Type} (π : State → β) (hf : ∀ s f v, π (State.set s f v) = π s)
    (hs : ∀ (s : State) (m : Store Nat), π { s with shadow := m } = π s) (s : State) (b : Nat) (f : Fld) : π (s.readField b f) = π s := by
  unfold State.readField
  dsimp only
  cases f.acc with
  | roc =>
    dsimp only
    split
    · split
      · exact hs s _
      · exact (hf _ f _).trans (hs s _)
    · exact hf s f 0
  | rw | ro | wo | w1c | w1s => rfl

theorem State.readField_scribe (s : State) (b : Nat) (f : Fld) (q : Nat) : (s.readField b f).scribe q = s.scribe q :=
  State.readField_keeps (fun s => s.scribe q) (fun _ _ _ => rfl) (fun _ _ => rfl) s b f

theorem State.readField_captured_kept (s : State) (b : Nat) (f : Fld) : (s.readField b f).captured = s.captured :=
  State.readField_keeps State.captured (fun _ _ _ => rfl) (fun _ _ => rfl) s b f

/-- An ROC field whose block has not been captured clears. -/
theorem State.readField_live (s : State) {b : Nat} {f : Fld} (ha : f.acc = .roc) (hc : s.captured.contains b = false) :
    s.readField b f = s.set f 0 := by
  unfold State.readField
  rw [ha, hc, Bool.and_false]
  rfl

/-- Once its block has been captured, the shadow clears and the live counter loses it, unless it has saturated. -/
theorem State.readField_captured (s : State) {b : Nat} {f : Fld} (ha : f.acc = .roc) (hl : f.latch = true) (hc : s.captured.contains b = true) :
    s.readField b f = (if s.get f = 2 ^ f.width - 1 then { s with shadow := s.shadow.set f.key f.rst 0 }
      else { s with shadow := s.shadow.set f.key f.rst 0 }.set f (s.get f - s.shadow.getD f.key f.rst)) := by
  unfold State.readField
  rw [ha, hc, hl]
  rfl

end Sys2Proof.Machine

/-!
Unassigned offsets (R8): for every requester that has a path to the block.
-/

namespace Sys2Proof.Machine

/-! ### Reads by a Scribe and by another requester -/

/-- The value that a Scribe's read returns, in whatever state it returns it. -/
theorem giveAny_scribe (s : State) (q : Fin 8) (v : Nat) :
    giveAny s (.scribe q) v = s.modScribe q fun c => { c with value := v, trap := none } := (rfl)

theorem giveAny_other (s : State) {who : Requester} (h : ∀ q, who ≠ .scribe q) (v : Nat) : giveAny s who v = giveRead s (codeOf who) v := by
  cases who with
  | scribe q => exact absurd rfl (h q)
  | _ => rfl

theorem giveAny_frame (s : State) (who : Requester) (v : Nat) :
    (giveAny s who v).fld = s.fld ∧ (giveAny s who v).mem = s.mem ∧ (giveAny s who v).poison = s.poison := by
  cases who <;> exact ⟨rfl, rfl, rfl⟩

/-- What a Scribe's read of a running block's word returns. -/
theorem blockRead_scribe {a : Nat} (hb : ¬ badAccess 2 a) {s : State} (hi : islandStopped s (islandOf a) = false) (q : Fin 8) :
    blockRead (.scribe q) 2 a s
      = (s.modScribe q fun c => { c with value := wordFor (.scribe q) s a, trap := none }).readWordEffect a :=
  blockRead_performed hb hi _

theorem blockRead_scribe_value {a : Nat} (hb : ¬ badAccess 2 a) {s : State} (hi : islandStopped s (islandOf a) = false) (q : Fin 8) :
    ((blockRead (.scribe q) 2 a s).scribe q).value = wordFor (.scribe q) s a ∧ ((blockRead (.scribe q) 2 a s).scribe q).trap = none := by
  have h : ∀ t : State, (t.readWordEffect a).scribe q = t.scribe q := fun t =>
    State.each_keeps (fun s => s.scribe q) t _ _ fun s f _ => s.readField_scribe _ f q
  rw [blockRead_scribe hb hi, h, State.scribe_modScribe]
  exact ⟨rfl, rfl⟩

/-! ### Unassigned offsets (R8) -/

section
variable {who : Requester} {a : Nat} {s : State} (hu : fieldsAt a = []) (hb : ¬ badAccess 2 a) (hi : islandStopped s (islandOf a) = false)
include hu hb hi

/-- A read of an unassigned word returns 0 and does nothing else. -/
theorem blockRead_unassigned : blockRead who 2 a s = giveAny s who 0 := by
  rw [blockRead_performed hb hi, wordFor_unassigned hu, wordReadEffect_unassigned hu]

/-- A write to an unassigned word changes no field and no byte, and a Scribe's takes no exception. -/
theorem blockWrite_unassigned (hw : who = .scribe 0 ∨ a / 0x10000 * 0x10000 ≠ secBase) (v : Nat) :
    SameFields [] s (blockWrite who false 2 a v s) ∧ SameMemory s (blockWrite who false 2 a v s)
      ∧ ∀ q, who = .scribe q → ((blockWrite who false 2 a v s).scribe q).trap = none := by
  have hn : blockBase a ≠ none := fun e => hb (.inl e)
  by_cases hq : ∃ q, who = .scribe q
  · obtain ⟨q, rfl⟩ := hq
    rw [blockWrite_scribe hb hi, wordWrite_unassigned hu hn hw]
    refine ⟨.of_fld rfl, .of_mem rfl rfl, fun r hr => ?_⟩
    cases hr
    rw [State.scribe_modScribe]
  · rw [blockWrite_other hb hi fun q e => hq ⟨q, e⟩, wordWrite_unassigned hu hn hw]
    exact ⟨.of_fld rfl, .of_mem rfl rfl, fun q e => absurd ⟨q, e⟩ hq⟩

/-- What the read of an unassigned word leaves, and what it returns. -/
theorem blockRead_unassigned_result :
    SameFields [] s (blockRead who 2 a s) ∧ SameMemory s (blockRead who 2 a s)
      ∧ (∀ q, who = .scribe q → ((blockRead who 2 a s).scribe q).value = 0 ∧ ((blockRead who 2 a s).scribe q).trap = none)
      ∧ ((∀ q, who ≠ .scribe q) → (blockRead who 2 a s).returned.getD (codeOf who) 0 = 0) := by
  rw [blockRead_unassigned hu hb hi]
  have ⟨hf, hm, hp⟩ := giveAny_frame s who 0
  refine ⟨.of_fld hf, .of_mem hm hp, fun q e => ?_, fun hq => ?_⟩
  · subst e
    rw [giveAny_scribe, State.scribe_modScribe]
    exact ⟨rfl, rfl⟩
  · rw [giveAny_other s hq, giveRead_returned]

end

theorem not_badAccess {a : Nat} (h : blockBase a ≠ none) (h4 : a % 4 = 0) : ¬ badAccess 2 a := by
  rintro (hb | ha | hz)
  · exact h hb
  · exact ha h4
  · exact hz rfl

/-- A Scribe's access, and the debug port's while it is open, go to the block at the address. -/
theorem block_access {who : Requester} {s : State} (h : (∃ q, who = .scribe q) ∨ who = .debug ∧ s.get SEC_STATUS_DBG_OPEN = 1) (b : BitVec 40)
    (size v : Nat) : rocRead who (.block b) size s = blockRead who size b.toNat s
      ∧ registerWrite who (.block b) size v s = blockWrite who false size b.toNat v s := by
  have hr : reaches s who = true := by
    rcases h with ⟨q, rfl⟩ | ⟨rfl, hd⟩
    · rfl
    · simp [reaches, State.on, hd]
  unfold rocRead registerWrite
  dsimp only
  rw [if_pos hr, if_pos hr]
  exact ⟨rfl, rfl⟩

/-- The host's access through BAR2 below the status window goes to the mailboxes and seals (R489). -/
theorem bar2_access {o : BitVec 16} (h : o.toNat < 0x8000) (f : Fin 2) (size v : Nat) (s : State) :
    rocRead (.host f) (.bar2 o) size s = blockRead (.host f) size (mbxBase + o.toNat) s
      ∧ registerWrite (.host f) (.bar2 o) size v s = blockWrite (.host f) false size (mbxBase + o.toNat) v s :=
  ⟨if_pos h, if_neg (Nat.not_le.2 h)⟩

/-- Settles O5: no read or write of a block reaches an unassigned word, since every part of a block that acts beside its fields has fields
of its own. -/
theorem unassignedOffsets : Obligations.UnassignedOffsets := by
  intro who a x v s ha hb h4 hu hi
  have hx : ¬ badAccess 2 x := not_badAccess hb h4
  have he : rocRead who a 2 s = blockRead who 2 x s ∧ registerWrite who a 2 v.toNat s = blockWrite who false 2 x v.toNat s := by
    rcases ha with ⟨b, rfl, rfl, hr⟩ | ⟨f, o, rfl, rfl, ho, rfl⟩
    · exact block_access hr b 2 v.toNat
    · exact bar2_access ho f 2 v.toNat s
  refine ⟨⟨_, congrArg Host.Outcome.next he.1, blockRead_unassigned_result hu hx hi⟩, fun hw => ?_⟩
  exact ⟨_, congrArg Host.Outcome.next he.2, blockWrite_unassigned hu hx hi hw v.toNat⟩

end Sys2Proof.Machine

/-!
SUPPORT. Writes and reads of the words that the statements on register accesses name: SEC, the Inkwell's block, the nib registers of an N1
port, and the host's BARs.
-/

namespace Sys2Proof.Machine

/-! ### A Scribe's write to one word (R4, R9, R18, R26, R404) -/

theorem registerWrite_scribe (q : Fin 8) (b : BitVec 40) (size v : Nat) (s : State) :
    registerWrite (.scribe q) (.block b) size v s = blockWrite (.scribe q) false size b.toNat v s := (rfl)

theorem rocRead_scribe (q : Fin 8) (b : BitVec 40) (size : Nat) (s : State) :
    rocRead (.scribe q) (.block b) size s = blockRead (.scribe q) size b.toNat s := (rfl)

/-- What an access into a stopped island leaves: only the record, which is not made while the part is held in reset (R18, R19). -/
theorem abandon_scribe {s : State} (q : Fin 8) (a : Nat) :
    ((abandon s (.scribe q) a true).scribe q).trap = some (7, a) ∧ SameMemory s (abandon s (.scribe q) a true)
      ∧ (s.boot.low = true → SameFields [] s (abandon s (.scribe q) a true))
      ∧ (s.boot.low = false → (abandon s (.scribe q) a true).get SYS_EVENT_XING = 1
        ∧ SameFields xingFlds s (abandon s (.scribe q) a true)) := by
  refine ⟨abandon_scribe_trap s q a true, abandon_sameMemory s _ a true, fun h => ?_, fun h => ?_⟩
  · exact abandon_low h (.scribe q) a true ▸ notPerformed_sameFields s _ a true _
  · rw [abandon_recorded h, notPerformed_get]
    exact ⟨recordXing_event s _ a, (recordXing_sameFields s _ a).trans (notPerformed_sameFields _ _ a true _)⟩

/-- A write to SEC by another Scribe than Scribe 0 sets its event and nothing else (R404). -/
theorem blockWrite_sec {q : Fin 8} (hq : q ≠ 0) {a : Nat} (h : a / 0x10000 * 0x10000 = secBase) (h4 : a % 4 = 0) {s : State}
    (hl : s.boot.low = false) (v : Nat) :
    (blockWrite (.scribe q) false 2 a v s).get SEC_EVENT_ACCESS = 1
      ∧ SameFields [SEC_EVENT_ACCESS] s (blockWrite (.scribe q) false 2 a v s) ∧ SameMemory s (blockWrite (.scribe q) false 2 a v s) := by
  have hs : secBase = 0x2000060000 := rfl
  have hb : ¬ badAccess 2 a := not_badAccess (blockBase_fixed (by omega) (by omega)) h4
  have hi : islandStopped s (islandOf a) = false := islandOf_sec h ▸ islandStopped_ungated hl (by decide) (by decide)
  rw [blockWrite_scribe hb hi, wordWrite_sec (fun e => hq (Requester.scribe.inj e)) h]
  exact ⟨State.get_ev _ _ (by decide), .set (.of_fld rfl) _ _ (List.mem_singleton_self _), .of_mem rfl rfl⟩

section
variable {a : Nat} (h : a / 0x10000 * 0x10000 = inkBase) (h4 : a % 4 = 0)
include h h4

theorem ink_not_badAccess : ¬ badAccess 2 a := by
  have hs := inkBase_eq
  exact not_badAccess (blockBase_fixed (by omega) (by omega)) h4

/-- A write to a word of the Inkwell's block, out of reset: its fields take it by their access codes. -/
theorem blockWrite_ink {s : State} (hl : s.boot.low = false) (hne : fieldsAt a ≠ []) (hf : ∀ f ∈ fieldsAt a, f.own = false ∧ f.addr < cpbBase)
    (q : Fin 8) (v : Nat) :
    blockWrite (.scribe q) false 2 a v s
      = (s.modScribe q fun c => { c with trap := none }).each (fieldsAt a) fun s f => s.writeField f a (v % 2 ^ 32) := by
  have ha : a < inkBase + 0x10000 := by omega
  have hi : islandStopped s (islandOf a) = false := by rw [islandOf_ink h, islandStopped_ink, hl]
  have hw : writeAllowed (.scribe q) a = true := writeAllowed_of_ne _ (h ▸ by decide) (h ▸ by decide)
  rw [blockWrite_scribe (ink_not_badAccess h h4) hi,
    wordWrite_fields hw (.inl (lt_trans ha (by decide))) (.inl (lt_trans ha (by decide))) (.inl (lt_trans ha (by decide))),
    fieldsWrite_ink h hne hf]

end

/-- The fields of INK_EVENT. -/
def inkEvents : List Fld :=
  [INK_EVENT_SR_EXIT, INK_EVENT_SCRUB_LAP, INK_EVENT_TEST_REFUSED, INK_EVENT_TEST_DONE, INK_EVENT_ADDR_ERR, INK_EVENT_UE_RATE,
    INK_EVENT_UE, INK_EVENT_CE, INK_EVENT_FILL_DONE]

theorem fieldsAt_inkEvents : fieldsAt (inkBase + 0x30) = inkEvents := by decide

/-- The fields of INK_ECC_CTRL. -/
def inkEccCtrl : List Fld := [INK_ECC_CTRL_UE_WIN, INK_ECC_CTRL_UE_LIMIT, INK_ECC_CTRL_UE_WB, INK_ECC_CTRL_CE_WB]

theorem fieldsAt_inkEccCtrl : fieldsAt (inkBase + 0x20) = inkEccCtrl := by decide

/-- A write of 1 clears an event of the Inkwell, and leaves the others (R4). -/
theorem blockWrite_inkEvents {s : State} (hl : s.boot.low = false) (q : Fin 8) (v : Nat) :
    (∀ f ∈ inkEvents, (blockWrite (.scribe q) false 2 (inkBase + 0x30) v s).get f = if v.testBit f.lo then 0 else s.get f)
      ∧ SameFields inkEvents s (blockWrite (.scribe q) false 2 (inkBase + 0x30) v s) := by
  rw [blockWrite_ink (by decide) (by decide) hl (by decide) (by decide), fieldsAt_inkEvents]
  refine ⟨fun f hf => ?_, (modScribe_sameFields s q _ _).trans (State.each_writeField_sameFields _ _ _ _)⟩
  have hk : ∀ f ∈ inkEvents, f.acc = .w1c ∧ f.width = 1 ∧ f.addr = inkBase + 0x30 ∧ f.lo < 32 := by decide
  obtain ⟨ha, hw, hd, ho⟩ := hk f hf
  rw [State.get_each_writeField _ (by decide) hf, State.get_writeField_w1c _ hd ha hw (Nat.mod_lt _ (by decide)), Nat.testBit_mod_two_pow,
    decide_eq_true ho, Bool.true_and, State.modScribe_get]

/-- Bits that lie in the low word of a value are those of the value. -/
theorem lowWord_bits (v : Nat) {lo w : Nat} (h : lo + w ≤ 32) : v % 2 ^ 32 / 2 ^ lo % 2 ^ w = v / 2 ^ lo % 2 ^ w := by
  apply Nat.eq_of_testBit_eq
  intro i
  simp only [Nat.testBit_mod_two_pow, Nat.testBit_div_two_pow]
  by_cases hi : i < w
  · have : i + lo < 32 := by omega
    simp [hi, this]
  · simp [hi]

/-- INK_ECC_CTRL takes the bits written (R4). -/
theorem blockWrite_inkEccCtrl {s : State} (hl : s.boot.low = false) (q : Fin 8) (v : Nat) :
    (∀ f ∈ inkEccCtrl, (blockWrite (.scribe q) false 2 (inkBase + 0x20) v s).get f = v / 2 ^ f.lo % 2 ^ f.width)
      ∧ SameFields inkEccCtrl s (blockWrite (.scribe q) false 2 (inkBase + 0x20) v s) := by
  rw [blockWrite_ink (by decide) (by decide) hl (by decide) (by decide), fieldsAt_inkEccCtrl]
  refine ⟨fun f hf => ?_, (modScribe_sameFields s q _ _).trans (State.each_writeField_sameFields _ _ _ _)⟩
  have hk : ∀ f ∈ inkEccCtrl, f.acc = .rw ∧ f.addr = inkBase + 0x20 ∧ f.lo + f.width ≤ 32 := by decide
  obtain ⟨ha, hd, ho⟩ := hk f hf
  rw [State.get_each_writeField _ (by decide) hf, State.get_writeField_rw _ hd ha ho (Nat.mod_lt _ (by decide)),
    lowWord_bits v ho]

/-- INK_STATUS is read-only: a write of any size, in reset or out of it, leaves every field and byte (R4). -/
theorem blockWrite_inkStatus (s : State) (q : Fin 8) (size v : Nat) :
    SameFields [] s (blockWrite (.scribe q) false size (inkBase + 4) v s) ∧ SameMemory s (blockWrite (.scribe q) false size (inkBase + 4) v s) := by
  by_cases hb : badAccess size (inkBase + 4)
  · rw [blockWrite_bad hb]
    exact ⟨notPerformed_sameFields _ _ _ _ _, notPerformed_sameMemory _ _ _ _⟩
  · obtain rfl : size = 2 := by
      by_contra hz
      exact hb (.inr (.inr hz))
    cases hl : s.boot.low with
    | true =>
      rw [blockWrite_stopped hb (islandStopped_of_low hl _), abandon_low hl]
      exact ⟨notPerformed_sameFields _ _ _ _ _, notPerformed_sameMemory _ _ _ _⟩
    | false =>
      rw [blockWrite_ink (by decide) (by decide) hl (by decide) (by decide), State.each_writeField_ro _ (by decide)]
      exact ⟨.of_fld rfl, .of_mem rfl rfl⟩

/-! ### The nib registers that an N1 port does not have (R26, R85) -/

/-- The words of nibs 8 to 15 in the read channel of pen n. -/
structure IsN1Gap (n a : Nat) : Prop where
  pen : n < 16
  low : rcBase n + 0x600 ≤ a
  high : a < rcBase n + 0x800
  aligned : a % 4 = 0

theorem isN1Gap_word (n k : Fin 16) {i : Nat} (hk : 8 ≤ k.val) (hi : i < 16) : IsN1Gap n (rcBase n + 0x400 + 0x40 * k.val + 4 * i) := by
  refine ⟨n.isLt, by omega, by omega, ?_⟩
  simp only [rcBase, penBase]
  omega

section
variable {n a : Nat} (h : IsN1Gap n a)
include h

theorem IsN1Gap.block : a / 0x10000 * 0x10000 = rcBase n := by
  obtain ⟨hn, hl, hh, _⟩ := h
  simp only [rcBase, penBase] at *
  omega

theorem IsN1Gap.pens : 0x2001000000 ≤ a ∧ a < 0x2002000000 := by
  obtain ⟨hn, hl, hh, _⟩ := h
  simp only [rcBase, penBase] at *
  omega

theorem IsN1Gap.not_badAccess : ¬ badAccess 2 a := by
  obtain ⟨hn, hl, hh, h4⟩ := h
  simp only [rcBase, penBase] at *
  have hb : blockBase a ≠ none := by
    unfold blockBase
    rw [if_neg (by omega), if_pos (by omega)]
    exact Option.some_ne_none _
  exact Machine.not_badAccess hb h4

theorem IsN1Gap.absent {s : State} (h1 : isN1 s n = true) : absentBits s a = 2 ^ 32 - 1 := by
  obtain ⟨hn, hl, hh, _⟩ := h
  simp only [rcBase, penBase] at *
  have hp : (a - 0x2001000000) / 0x100000 = n := by omega
  unfold absentBits
  dsimp only
  rw [hp, if_pos ⟨by omega, by omega, h1⟩, if_pos (.inr (.inl (by omega)))]

/-- On an N1 port such a word ignores writes. -/
theorem blockWrite_n1Gap {s : State} (h1 : isN1 s n = true) (hi : islandStopped s (dataIsland n) = false) (q : Fin 8) (v : Nat) :
    SameFields [] s (blockWrite (.scribe q) false 2 a v s) ∧ SameMemory s (blockWrite (.scribe q) false 2 a v s)
      ∧ ((blockWrite (.scribe q) false 2 a v s).scribe q).trap = none := by
  have ⟨hp, _⟩ := h.pens
  have hrc := h.block
  have hb := islandOf_rc h.block ▸ hi
  have hs : sysBase = 0x2000000000 := rfl
  have hc : secBase = 0x2000060000 := rfl
  have hv : vrsBase = 0x2000090000 := rfl
  have hm := mbxBase_eq
  have hw : writeAllowed (.scribe q) a = true := writeAllowed_of_ne _ (by omega) (by omega)
  have hwc : a ≠ wcBase (penOf a) := by
    simp only [wcBase, rcBase, penBase] at *
    omega
  rw [blockWrite_scribe h.not_badAccess hb, wordWrite_fields hw (.inr (by omega)) (.inr (by omega)) (.inr hwc),
    fieldsWrite_absent (h.absent (s := s.modScribe q fun c => { c with trap := none }) h1)]
  refine ⟨.of_fld rfl, .of_mem rfl rfl, ?_⟩
  rw [State.scribe_modScribe]

/-- On an N1 port such a word reads 0. -/
theorem blockRead_n1Gap {s : State} (h1 : isN1 s n = true) (hi : islandStopped s (dataIsland n) = false) (q : Fin 8) :
    ((blockRead (.scribe q) 2 a s).scribe q).value = 0 ∧ ((blockRead (.scribe q) 2 a s).scribe q).trap = none := by
  have ⟨hp, _⟩ := h.pens
  have hm := mbxBase_eq
  have hs := sysBase_eq
  have hv := blockRead_scribe_value h.not_badAccess (islandOf_rc h.block ▸ hi) q
  rwa [wordFor_eq_blockWord (.inr (by omega)), blockWord_eq_readWord (by omega) (noTables_pen hp), readWord_absent (h.absent h1)] at hv

end

/-! ### The host's BARs (R9, R344, R489) -/

/-- BAR2 drops a write to the status window, one that is misaligned and one that is not of 32 bits. -/
theorem bar2Write_dropped (f : Fin 2) {size o : Nat} (h : o % 4 ≠ 0 ∨ size ≠ 2 ∨ 0x8000 ≤ o) (v : Nat) (s : State) :
    bar2Write f size o v s = s := by
  unfold bar2Write
  split
  · rfl
  · have hm := mbxBase_eq
    exact blockWrite_bad (.inr (by omega)) _ _ _ _

/-- An access that BAR0 does not take. -/
theorem bar0Access_bad {size o : Nat} (h : size < 2 ∨ size = 2 ∧ o % 4 ≠ 0 ∨ size = 3 ∧ o % 8 ≠ 0) : bar0Access size o = false := by
  simp only [bar0Access, Bool.or_eq_false_iff, Bool.and_eq_false_iff, beq_eq_false_iff_ne]
  omega

theorem bar0Write_bad (f : Nat) {size o : Nat} (h : bar0Access size o = false) (v : Nat) (s : State) : bar0Write f size o v s = s :=
  if_pos (.inl h)

/-- One 64-bit access writes ASQ as a whole, but for the bits below a page. -/
theorem bar0Write_asq {s : State} (hl : s.boot.low = false) (f v : Nat) :
    SameFields [] s (bar0Write f 3 0x28 v s) ∧ SameMemory s (bar0Write f 3 0x28 v s)
      ∧ ((bar0Write f 3 0x28 v s).fn f).asq = v / 2 ^ 12 * 2 ^ 12 := by
  have hw : bar0Write f 3 0x28 v s = (s.modFn f fun h => { h with asq := putHalf h.asq false (v % 2 ^ 32 / 4096 * 4096) }).modFn f
      fun h => { h with asq := putHalf h.asq true (v / 2 ^ 32) } := by
    unfold bar0Write
    rw [if_neg (by simp [bar0Access, inReset, hl])]
    rfl
  rw [hw]
  refine ⟨.of_fld rfl, .of_mem rfl rfl, ?_⟩
  rw [State.fn_modFn, State.fn_modFn]
  simp only [putHalf, Bool.false_eq_true, if_false, if_true]
  omega

end Sys2Proof.Machine

/-!
Register writes and abandoned accesses (R4, R8, R9, R18, R19, R26, R404, R487 to R490).
-/

namespace Sys2Proof.Machine

/-! ### REGISTER_WRITE and ACCESS_ABANDONED -/

/-- The host and the Verso partner have no path to block addresses (R487, R488). -/
theorem reaches_noPath {who : Requester} (h : who = .host 0 ∨ who = .host 1 ∨ who = .verso) (s : State) : reaches s who = false := by
  rcases h with rfl | rfl | rfl <;> rfl

theorem registerWrite_noPath {who : Requester} (h : who = .host 0 ∨ who = .host 1 ∨ who = .verso) (b : BitVec 40) (size v : Nat) (s : State) :
    registerWrite who (.block b) size v s = s :=
  if_neg (Bool.eq_false_iff.1 (reaches_noPath h s))

/-- A Scribe's access that no block takes is a trap. -/
theorem blockWrite_trapped {size a : Nat} (h : badAccess size a) (q : Fin 8) (v : Nat) (s : State) :
    Trapped q 7 a s (blockWrite (.scribe q) false size a v s) :=
  blockWrite_bad h (.scribe q) false v s ▸ trapScribe_trapped s q 7 a

/-- ACCESS_ABANDONED does nothing outside the blocks and where the island runs. -/
theorem accessAbandoned_running {a : Nat} {s : State} (h : blockBase a = none ∨ islandStopped s (islandOf a) = false) (who : Requester)
    (isWrite : Bool) : accessAbandoned who a isWrite s = s := by
  unfold accessAbandoned
  rcases h with h | h <;> simp [h]

theorem accessAbandoned_stopped {a : Nat} {s : State} (h : blockBase a ≠ none) (hi : islandStopped s (islandOf a) = true) (who : Requester)
    (isWrite : Bool) : accessAbandoned who a isWrite s = abandon s who a isWrite := by
  unfold accessAbandoned
  rw [if_pos (by simp [hi, Option.isSome_iff_ne_none, h])]

/-- What ACCESS_ABANDONED records and whom it faults, out of reset (R18, R19). -/
theorem abandon_effect {s : State} (hl : s.boot.low = false) {a : Nat} (ha : a < 2 ^ 40) (hb : blockBase a ≠ none) (who : Requester)
    (isWrite : Bool) : (abandon s who a isWrite).get SYS_EVENT_XING = 1
      ∧ (s.get SYS_XING_ERR_VALID ≠ 1 → (abandon s who a isWrite).get SYS_XING_ERR_VALID = 1
          ∧ (abandon s who a isWrite).get SYS_XING_ERR_ISLAND = islandOf a ∧ (abandon s who a isWrite).get SYS_XING_ERR_REQUESTER = codeOf who
          ∧ (abandon s who a isWrite).get SYS_XING_ERR_ADDR_HI = a / 2 ^ 32 ∧ (abandon s who a isWrite).get SYS_XING_ADDR_ADDR_LO = a % 2 ^ 32)
      ∧ (s.get SYS_XING_ERR_VALID = 1 → (abandon s who a isWrite).get SYS_XING_ERR_OVERRUN = 1
          ∧ SameFields [SYS_EVENT_XING, SYS_XING_ERR_OVERRUN] s (abandon s who a isWrite)) := by
  rw [abandon_recorded hl]
  simp only [notPerformed_get]
  refine ⟨recordXing_event s who a, fun h => recordXing_recorded h who ha hb, fun h => ?_⟩
  obtain ⟨ho, hf⟩ := recordXing_overrun h who a
  exact ⟨ho, hf.trans (notPerformed_sameFields _ who a isWrite _)⟩

/-- Settles O8: each clause is the rule of one way that a write can go, from a requester without a path to a word of a running island. -/
theorem registerWrites : Obligations.RegisterWrites := by
  refine ⟨fun who a z v s => ⟨_, rfl, ?_, ?_, ?_, ?_, ?_, ?_, ?_, ?_, ?_, ?_, ?_⟩, fun who a isWrite s => ⟨_, rfl, ?_, ?_, ?_⟩⟩
  · rintro b rfl hw
    exact registerWrite_noPath hw b _ _ s
  · rintro b q rfl rfl h
    exact blockWrite_trapped h q _ s
  · rintro b q rfl rfl hb h4 hz hi
    rw [registerWrite_scribe, hz, blockWrite_stopped (not_badAccess hb h4) hi]
    exact abandon_scribe q b.toNat
  · rintro b q rfl rfl hq h h4 hz hl
    rw [registerWrite_scribe, hz]
    exact blockWrite_sec hq h h4 hl _
  · rintro b q rfl rfl hb hz hl
    rw [registerWrite_scribe, hz, hb]
    obtain ⟨hg, hf⟩ := blockWrite_inkEvents hl q v.toNat
    exact ⟨hg INK_EVENT_CE (by decide), hg INK_EVENT_UE (by decide), hf⟩
  · rintro b q rfl rfl hb hz hl
    rw [registerWrite_scribe, hz, hb]
    obtain ⟨hg, hf⟩ := blockWrite_inkEccCtrl hl q v.toNat
    refine ⟨hg INK_ECC_CTRL_UE_WIN (by decide), hg INK_ECC_CTRL_UE_LIMIT (by decide), hg INK_ECC_CTRL_UE_WB (by decide), ?_, hf⟩
    exact (hg INK_ECC_CTRL_CE_WB (by decide)).trans (congrArg (· % 2) (Nat.div_one _))
  · rintro b q rfl rfl hb
    rw [registerWrite_scribe, hb]
    exact blockWrite_inkStatus s q z v.toNat
  · rintro b q n k i rfl rfl h1 hk hi hb hz hs
    rw [registerWrite_scribe, hz, hb]
    exact blockWrite_n1Gap (isN1Gap_word n k hk hi) h1 hs q _
  · rintro o f rfl rfl h
    exact bar2Write_dropped f h _ s
  · rintro f rfl rfl hz hl
    exact hz ▸ bar0Write_asq hl f v.toNat
  · rintro f o rfl rfl h
    exact bar0Write_bad f (bar0Access_bad h) _ s
  · exact fun h => accessAbandoned_running h who isWrite
  · intro hb hl
    rw [accessAbandoned_stopped hb (islandStopped_of_low hl _), abandon_low hl]
    exact ⟨notPerformed_sameFields s who _ _ _, notPerformed_sameMemory s who _ _⟩
  · intro hb hi hl
    rw [accessAbandoned_stopped hb hi]
    obtain ⟨hx, hfirst, hagain⟩ := abandon_effect hl a.isLt hb who isWrite
    refine ⟨hx, hfirst, hagain, ?_, ?_⟩
    · rintro q rfl
      exact abandon_scribe_trap s q _ isWrite
    · rintro f rfl rfl
      exact abandon_host_read s f _

end Sys2Proof.Machine

/-!
Register reads (R4, R6, R9, R26, R488 to R490, R492).
-/

namespace Sys2Proof.Machine

/-! ### ROC reads of a channel's error counts (R6, R492) -/

/-- The word INK_CH_ERRCNT of channel c. -/
def errcntAddr (c : Fin 8) : Nat := inkBase + 0x414 + 0x40 * c.val

theorem fieldsAt_errcnt (c : Fin 8) : fieldsAt (errcntAddr c) = [INK_CH_ERRCNT_UE c, INK_CH_ERRCNT_CE c] := by
  revert c
  decide

theorem errcnt_block (c : Fin 8) : errcntAddr c / 0x10000 * 0x10000 = inkBase := by
  revert c
  decide

theorem errcnt_aligned (c : Fin 8) : errcntAddr c % 4 = 0 := by
  revert c
  decide

theorem errcnt_key_ne (c : Fin 8) : (INK_CH_ERRCNT_CE c).key ≠ (INK_CH_ERRCNT_UE c).key := by
  revert c
  decide

/-- The word of a field's value that begins at its register's address. -/
theorem toWord_own (f : Fld) (h : f.lo + f.width ≤ 32) (v : Nat) : f.toWord f.addr v = v % 2 ^ f.width * 2 ^ f.lo := by
  have hv : v % 2 ^ f.width * 2 ^ f.lo < 2 ^ 32 :=
    calc v % 2 ^ f.width * 2 ^ f.lo < 2 ^ f.width * 2 ^ f.lo := Nat.mul_lt_mul_of_pos_right (Nat.mod_lt _ (Nat.two_pow_pos _)) (Nat.two_pow_pos _)
      _ = 2 ^ (f.lo + f.width) := by rw [Nat.pow_add, Nat.mul_comm]
      _ ≤ 2 ^ 32 := Nat.pow_le_pow_right (by decide) h
  unfold Fld.toWord
  dsimp only
  rw [Nat.sub_self, Nat.zero_div, Nat.mul_zero, Nat.shiftRight_zero, Nat.shiftLeft_eq, Nat.mod_eq_of_lt hv]

/-- The error counts as one word: UE above CE. -/
theorem readWord_errcnt (s : State) (c : Fin 8) :
    s.readWord (errcntAddr c) = s.visible inkBase (INK_CH_ERRCNT_UE c) % 2 ^ 16 * 2 ^ 16 + s.visible inkBase (INK_CH_ERRCNT_CE c) % 2 ^ 16 := by
  have hz : absentBits s (errcntAddr c) = 0 := absentBits_below (by have := c.isLt; simp only [errcntAddr, inkBase]; omega) s
  have hu := toWord_own (INK_CH_ERRCNT_UE c) (by decide : 16 + 16 ≤ 32) (s.visible inkBase (INK_CH_ERRCNT_UE c))
  have hc := toWord_own (INK_CH_ERRCNT_CE c) (by decide : 0 + 16 ≤ 32) (s.visible inkBase (INK_CH_ERRCNT_CE c))
  have hau : (INK_CH_ERRCNT_UE c).addr = errcntAddr c := by simp only [INK_CH_ERRCNT_UE, errcntAddr]; omega
  have hac : (INK_CH_ERRCNT_CE c).addr = errcntAddr c := by simp only [INK_CH_ERRCNT_CE, errcntAddr]; omega
  rw [hau] at hu
  rw [hac] at hc
  rw [State.readWord, State.present, hz, fieldsAt_errcnt, errcnt_block, List.foldl_cons, List.foldl_cons, List.foldl_nil, hu, hc, Nat.and_zero,
    Nat.xor_zero, Nat.zero_or]
  have hlt : s.visible inkBase (INK_CH_ERRCNT_CE c) % 2 ^ 16 < 2 ^ 16 := Nat.mod_lt _ (by decide)
  rw [show (INK_CH_ERRCNT_CE c).lo = 0 from rfl, show (INK_CH_ERRCNT_CE c).width = 16 from rfl, show (INK_CH_ERRCNT_UE c).lo = 16 from rfl,
    show (INK_CH_ERRCNT_UE c).width = 16 from rfl, Nat.pow_zero, Nat.mul_one, ← Nat.shiftLeft_eq, Nat.shiftLeft_add_eq_or_of_lt hlt]

/-- What a Scribe's read of the error counts does, out of reset. -/
theorem blockRead_errcnt {s : State} (hl : s.boot.low = false) (q c : Fin 8) :
    blockRead (.scribe q) 2 (errcntAddr c) s
      = ((s.modScribe q fun x => { x with value := s.readWord (errcntAddr c), trap := none }).readField inkBase (INK_CH_ERRCNT_UE c)).readField
          inkBase (INK_CH_ERRCNT_CE c) := by
  have hc := c.isLt
  have hi := inkBase_eq
  have hr : islandStopped s (islandOf (errcntAddr c)) = false := by rw [islandOf_ink (errcnt_block c), islandStopped_ink, hl]
  have ha : errcntAddr c < mbxBase ∧ sysBase + 0x320 ≤ errcntAddr c ∧ errcntAddr c < motBase + 0x8000 := by
    simp only [errcntAddr, mbxBase, sysBase, motBase, inkBase]
    omega
  rw [blockRead_scribe (ink_not_badAccess (errcnt_block c) (errcnt_aligned c)) hr, wordFor_eq_blockWord (.inl ha.1),
    blockWord_eq_readWord ha.2.1 (noTables_below ha.2.2), State.readWordEffect, fieldsAt_errcnt, errcnt_block]
  rfl

/-- A field's shadow is kept when the shadow of another is cleared. -/
theorem State.shadow_getD_readField (s : State) {b : Nat} {f g : Fld} (h : g.key ≠ f.key) (d : Nat) :
    (s.readField b f).shadow.getD g.key d = s.shadow.getD g.key d := by
  have hs : (s.shadow.set f.key f.rst 0).getD g.key d = s.shadow.getD g.key d := Store.getD_set_ne _ _ _ _ h
  unfold State.readField
  dsimp only
  cases f.acc with
  | roc =>
    dsimp only
    split
    · split <;> exact hs
    · rfl
  | _ => rfl

/-- A read reaches only the field read. -/
theorem State.readField_sameFields (s : State) (b : Nat) (f : Fld) : SameFields [f] s (s.readField b f) := by
  intro g hg
  have hk : g.key ≠ f.key := by simpa using hg
  unfold State.readField
  dsimp only
  cases f.acc with
  | roc =>
    dsimp only
    split
    · split
      · rfl
      · exact State.get_set_ne _ _ hk
    · exact s.get_set_ne _ hk
  | _ => rfl

/-- What the read of a captured ROC field leaves of the field: the live count less the shadow, or saturated; and an empty shadow. -/
theorem State.get_readField_captured (s : State) {b : Nat} {f : Fld} (ha : f.acc = .roc) (hl : f.latch = true)
    (hc : s.captured.contains b = true) :
    (s.readField b f).get f = (if s.get f = 2 ^ f.width - 1 then 2 ^ f.width - 1 else s.get f - s.shadow.getD f.key f.rst)
      ∧ (s.readField b f).shadow.getD f.key f.rst = 0 := by
  have hs : (s.shadow.set f.key f.rst 0).getD f.key f.rst = 0 := Store.getD_set_same _ _ _ _
  rw [s.readField_captured ha hl hc]
  split
  · rename_i hm
    exact ⟨hm, hs⟩
  · refine ⟨?_, hs⟩
    rw [State.get_set]
    exact Nat.mod_eq_of_lt (lt_of_le_of_lt (Nat.sub_le _ _) (s.get_lt f))

/-- A captured latchable field reads its shadow, another its live value (R21). -/
theorem State.visible_captured {s : State} {b : Nat} (hc : s.captured.contains b = true) {f : Fld} (hl : f.latch = true) (ha : f.acc ≠ .wo) :
    s.visible b f = s.shadow.getD f.key f.rst := by
  unfold State.visible
  rw [hl, hc]
  cases h : f.acc with
  | wo => exact absurd h ha
  | rw | ro | w1c | w1s | roc => rfl

theorem State.visible_live {s : State} {b : Nat} (hc : s.captured.contains b = false) {f : Fld} (ha : f.acc ≠ .wo) :
    s.visible b f = s.get f := by
  unfold State.visible
  rw [hc, Bool.and_false]
  cases h : f.acc with
  | wo => exact absurd h ha
  | rw | ro | w1c | w1s | roc => rfl

/-- The counts of a channel, read one after the other, both clear while the block has not been captured. -/
theorem readErrcnt_live (s : State) (hc : s.captured.contains inkBase = false) (c : Fin 8) :
    ((s.readField inkBase (INK_CH_ERRCNT_UE c)).readField inkBase (INK_CH_ERRCNT_CE c)).get (INK_CH_ERRCNT_UE c) = 0
      ∧ ((s.readField inkBase (INK_CH_ERRCNT_UE c)).readField inkBase (INK_CH_ERRCNT_CE c)).get (INK_CH_ERRCNT_CE c) = 0 := by
  have hu : s.readField inkBase (INK_CH_ERRCNT_UE c) = s.set (INK_CH_ERRCNT_UE c) 0 := s.readField_live rfl hc
  have he : (s.set (INK_CH_ERRCNT_UE c) 0).readField inkBase (INK_CH_ERRCNT_CE c) = (s.set (INK_CH_ERRCNT_UE c) 0).set (INK_CH_ERRCNT_CE c) 0 :=
    State.readField_live _ rfl hc
  rw [hu, he, State.get_set_ne _ _ (errcnt_key_ne c).symm, State.get_set, State.get_set]
  exact ⟨Nat.zero_mod _, Nat.zero_mod _⟩

/-- Once it has, CE loses its shadow: reading UE before it has left both as they were. -/
theorem readErrcnt_captured (s : State) (hc : s.captured.contains inkBase = true) (c : Fin 8) :
    ((s.readField inkBase (INK_CH_ERRCNT_UE c)).readField inkBase (INK_CH_ERRCNT_CE c)).get (INK_CH_ERRCNT_CE c)
        = (if s.get (INK_CH_ERRCNT_CE c) = 2 ^ 16 - 1 then 2 ^ 16 - 1
            else s.get (INK_CH_ERRCNT_CE c) - s.shadow.getD (INK_CH_ERRCNT_CE c).key 0)
      ∧ ((s.readField inkBase (INK_CH_ERRCNT_UE c)).readField inkBase (INK_CH_ERRCNT_CE c)).shadow.getD (INK_CH_ERRCNT_CE c).key 0 = 0 := by
  have hg : (s.readField inkBase (INK_CH_ERRCNT_UE c)).get (INK_CH_ERRCNT_CE c) = s.get (INK_CH_ERRCNT_CE c) :=
    s.readField_sameFields inkBase (INK_CH_ERRCNT_UE c) _ (by simpa using errcnt_key_ne c)
  have hs := s.shadow_getD_readField (b := inkBase) (errcnt_key_ne c) 0
  have ht : (s.readField inkBase (INK_CH_ERRCNT_UE c)).captured.contains inkBase = true := by rwa [State.readField_captured_kept]
  have h := State.get_readField_captured _ (f := INK_CH_ERRCNT_CE c) rfl rfl ht
  rw [hg] at h
  exact hs ▸ h

/-- The counts of a channel are cleared one after the other, and nothing else is reached. -/
theorem readErrcnt_sameFields (s : State) (q c : Fin 8) (k : Scribe → Scribe) :
    SameFields [INK_CH_ERRCNT_UE c, INK_CH_ERRCNT_CE c] s
      (((s.modScribe q k).readField inkBase (INK_CH_ERRCNT_UE c)).readField inkBase (INK_CH_ERRCNT_CE c)) :=
  (modScribe_sameFields s q k _).trans (((State.readField_sameFields _ _ _).mono (by simp)).trans
    ((State.readField_sameFields _ _ _).mono (by simp)))

section
variable {s : State} (hl : s.boot.low = false) (q c : Fin 8)
include hl

theorem blockRead_errcnt_scribe :
    ((blockRead (.scribe q) 2 (errcntAddr c) s).scribe q).value = s.readWord (errcntAddr c)
      ∧ ((blockRead (.scribe q) 2 (errcntAddr c) s).scribe q).trap = none := by
  rw [blockRead_errcnt hl, State.readField_scribe, State.readField_scribe, State.scribe_modScribe]
  exact ⟨rfl, rfl⟩

theorem blockRead_errcnt_sameFields :
    SameFields [INK_CH_ERRCNT_UE c, INK_CH_ERRCNT_CE c] s (blockRead (.scribe q) 2 (errcntAddr c) s) :=
  blockRead_errcnt hl q c ▸ readErrcnt_sameFields s q c _

/-- While the block has not been captured both counts read live and clear. -/
theorem blockRead_errcnt_live (hc : s.captured.contains inkBase = false) :
    ((blockRead (.scribe q) 2 (errcntAddr c) s).scribe q).value = s.get (INK_CH_ERRCNT_UE c) * 2 ^ 16 + s.get (INK_CH_ERRCNT_CE c)
      ∧ (blockRead (.scribe q) 2 (errcntAddr c) s).get (INK_CH_ERRCNT_UE c) = 0
      ∧ (blockRead (.scribe q) 2 (errcntAddr c) s).get (INK_CH_ERRCNT_CE c) = 0 := by
  refine ⟨?_, ?_⟩
  · rw [(blockRead_errcnt_scribe hl q c).1, readWord_errcnt, State.visible_live hc (by simp [INK_CH_ERRCNT_UE]),
      State.visible_live hc (by simp [INK_CH_ERRCNT_CE])]
    exact congrArg₂ (· * 2 ^ 16 + ·) (Nat.mod_eq_of_lt (s.get_lt (INK_CH_ERRCNT_UE c))) (Nat.mod_eq_of_lt (s.get_lt (INK_CH_ERRCNT_CE c)))
  · rw [blockRead_errcnt hl]
    exact readErrcnt_live (s.modScribe q _) hc c

/-- Once it has, the read returns the shadow and takes it off the live count. -/
theorem blockRead_errcnt_captured (hc : s.captured.contains inkBase = true) :
    ((blockRead (.scribe q) 2 (errcntAddr c) s).scribe q).value
        = s.shadow.getD (INK_CH_ERRCNT_UE c).key 0 % 2 ^ 16 * 2 ^ 16 + s.shadow.getD (INK_CH_ERRCNT_CE c).key 0 % 2 ^ 16
      ∧ (blockRead (.scribe q) 2 (errcntAddr c) s).get (INK_CH_ERRCNT_CE c)
        = (if s.get (INK_CH_ERRCNT_CE c) = 2 ^ 16 - 1 then 2 ^ 16 - 1
            else s.get (INK_CH_ERRCNT_CE c) - s.shadow.getD (INK_CH_ERRCNT_CE c).key 0)
      ∧ (blockRead (.scribe q) 2 (errcntAddr c) s).shadow.getD (INK_CH_ERRCNT_CE c).key 0 = 0 := by
  refine ⟨?_, ?_⟩
  · rw [(blockRead_errcnt_scribe hl q c).1, readWord_errcnt, State.visible_captured hc rfl (by simp [INK_CH_ERRCNT_UE]),
      State.visible_captured hc rfl (by simp [INK_CH_ERRCNT_CE])]
    rfl
  · rw [blockRead_errcnt hl]
    exact readErrcnt_captured (s.modScribe q _) hc c

end

/-! ### Reads that touch no register field -/

theorem rocRead_noPath {who : Requester} (h : who = .host 0 ∨ who = .host 1 ∨ who = .verso) (b : BitVec 40) (size : Nat) (s : State) :
    rocRead who (.block b) size s = giveRead s (codeOf who) allOnes := by
  refine (if_neg (Bool.eq_false_iff.1 (reaches_noPath h s))).trans (giveAny_other s ?_ _)
  rcases h with rfl | rfl | rfl <;> exact fun q e => Requester.noConfusion e

/-- What a read gives a requester that is no Scribe, and that it changes no field. -/
theorem giveRead_result {s t : State} {who v : Nat} (h : t = giveRead s who v) : t.returned.getD who 0 = v ∧ t.fld = s.fld :=
  h ▸ ⟨giveRead_returned s who v, rfl⟩

/-- The status window reads as it stands (R490). -/
theorem bar2Read_window {o : Nat} (h : 0x8000 ≤ o) (h4 : o % 4 = 0) {s : State} (hl : s.boot.low = false) (f : Fin 2) :
    bar2Read f 2 o s = giveRead s (8 + f) (s.window.getD o 0) := by
  unfold bar2Read
  rw [if_neg (Nat.not_lt.2 h), if_pos (by simp [wordAccess, inReset, h4, hl])]

/-- A read of BAR2 that is misaligned or not of 32 bits returns all ones (R9, R489). -/
theorem bar2Read_bad {size o : Nat} (h : o % 4 ≠ 0 ∨ size ≠ 2) (f : Fin 2) (s : State) : bar2Read f size o s = giveRead s (8 + f) allOnes := by
  have hm := mbxBase_eq
  unfold bar2Read
  split
  · exact blockRead_bad (.inr (by omega)) _ _
  · have hw : wordAccess size o = false := by
      simp only [wordAccess, Bool.and_eq_false_iff, beq_eq_false_iff_ne]
      exact h.symm
    rw [hw, Bool.false_and, if_neg Bool.false_ne_true]

/-- Of CAP both words are read by one 64-bit access (R344, R489). -/
theorem bar0Read_cap {s : State} (hl : s.boot.low = false) (f : Nat) :
    bar0Read f 3 0 s = giveRead s (8 + f) (511 + 2 ^ 16 + 4 * 2 ^ 24 + 2 ^ 37) := by
  unfold bar0Read
  rw [if_neg (by simp [bar0Access, inReset, hl])]
  rfl

theorem bar0Read_csts {s : State} (hl : s.boot.low = false) (f : Nat) : bar0Read f 2 0x1C s = giveRead s (8 + f) (cstsWord (s.fn f)) := by
  unfold bar0Read
  rw [if_neg (by simp [bar0Access, inReset, hl])]
  rfl

/-- Settles O9: each clause is the rule of one way that a read can go; that of the ROC fields follows the two reads of INK_CH_ERRCNT. -/
theorem registerReads : Obligations.RegisterReads := by
  refine fun who a z s => ⟨_, rfl, ?_, ?_, ?_, ?_, ?_, ?_, ?_, ?_⟩
  · rintro b rfl hw
    exact giveRead_result (rocRead_noPath hw b z s)
  · rintro b q rfl rfl h
    rw [rocRead_scribe, blockRead_bad h]
    exact trapScribe_trapped s q 5 b.toNat
  · rintro b q n k i rfl rfl h1 hk hi hb hz hs
    rw [rocRead_scribe, hz, hb]
    exact blockRead_n1Gap (isN1Gap_word n k hk hi) h1 hs q
  · rintro b q c rfl rfl hb hz hl
    rw [rocRead_scribe, hz, show b.toNat = errcntAddr c from hb]
    have hf := blockRead_errcnt_sameFields hl q c
    refine ⟨fun hc => ?_, fun hc => ?_⟩
    · obtain ⟨hv, hu, he⟩ := blockRead_errcnt_live hl q c hc
      exact ⟨hv, (blockRead_errcnt_scribe hl q c).2, hu, he, hf⟩
    · obtain ⟨hv, he, hs⟩ := blockRead_errcnt_captured hl q c hc
      exact ⟨hv, he, hs, hf⟩
  · rintro f o rfl rfl h4 hz hl hw
    rw [hz]
    exact giveRead_result (bar2Read_window hw h4 hl f)
  · rintro f o rfl rfl h
    exact giveRead_result (bar2Read_bad h f s)
  · rintro f rfl rfl hz hl
    rw [hz]
    exact (giveRead_result (bar0Read_cap hl f)).symm
  · rintro f rfl rfl hz hl
    rw [hz]
    exact (giveRead_result (bar0Read_csts hl f)).symm

end Sys2Proof.Machine

/-!
A second abandoned access (R19).
-/

namespace Sys2Proof.Machine

/-- A requester with a path to the register blocks: a Scribe, or the debug port while it is open (R487). -/
theorem reaches_path {who : Requester} {s : State} (h : (∃ q, who = .scribe q) ∨ who = .debug ∧ s.get SEC_STATUS_DBG_OPEN = 1) :
    reaches s who = true := by
  rcases h with ⟨q, rfl⟩ | ⟨rfl, h⟩
  · rfl
  · exact beq_iff_eq.2 h

theorem blockRead_stopped {a : Nat} {s : State} (hb : ¬ badAccess 2 a) (hi : islandStopped s (islandOf a) = true) (who : Requester) :
    blockRead who 2 a s = abandon s who a false := by
  unfold blockRead
  rw [if_neg (mt (badAccess_iff 2 a).2 hb), if_pos hi]

/-- Each access that a requester with a path makes into an island that stands is abandoned. -/
theorem exec_abandons {c : Instr} {who : Requester} {b : BitVec 40} {v : BitVec 64} {w : Bool} {s : State}
    (hc : c ∈ [.accessAbandoned who b w, .registerWrite who (.block b) 2 v, .rocRead who (.block b) 2])
    (hp : (∃ q, who = .scribe q) ∨ who = .debug ∧ s.get SEC_STATUS_DBG_OPEN = 1) (hb : blockBase b.toNat ≠ none) (h4 : b.toNat % 4 = 0)
    (hi : islandStopped s (islandOf b.toNat) = true) : ∃ isWrite, exec c s = .next (abandon s who b.toNat isWrite) := by
  have hr := reaches_path hp
  have hok := not_badAccess hb h4
  simp only [List.mem_cons, List.not_mem_nil, or_false] at hc
  rcases hc with rfl | rfl | rfl
  · exact ⟨w, congrArg _ (accessAbandoned_stopped hb hi who w)⟩
  · exact ⟨true, congrArg _ ((if_pos hr).trans (blockWrite_stopped hok hi who false _))⟩
  · exact ⟨false, congrArg _ ((if_pos hr).trans (blockRead_stopped hok hi who))⟩

/-- Settles O6: each of the three commands abandons the access, and the record that stands is overrun, not replaced. -/
theorem secondAbandonedAccess : Obligations.SecondAbandonedAccess := by
  intro c who b v w s hc hp hb h4 hi hl hv
  obtain ⟨isWrite, he⟩ := exec_abandons hc hp hb h4 hi
  obtain ⟨-, -, hagain⟩ := abandon_effect hl b.isLt hb who isWrite
  obtain ⟨hover, hframe⟩ := hagain hv
  refine ⟨_, he, hover, ?_, ?_, ?_, ?_, ?_, hframe, abandon_sameMemory s who b.toNat isWrite⟩
  · exact (hframe SYS_XING_ERR_VALID (by decide)).trans hv
  all_goals exact hframe _ (by decide)

end Sys2Proof.Machine

/-!
SUPPORT. Frames of the commands that change register fields: what a chain of sets, guarded changes and loops leaves.
-/

namespace Sys2Proof.Machine

/-! ### An island's clock (R18) -/

theorem State.clocked_stopped {s : State} {i : Nat} (h : islandStopped s i = true) (k : State → State) : s.clocked i k = s := if_pos h

theorem State.clocked_running {s : State} {i : Nat} (h : islandStopped s i = false) (k : State → State) : s.clocked i k = k s :=
  if_neg (Bool.eq_false_iff.1 h)

/-- What holds where nothing happens, and of the change itself, holds of the write as a whole. -/
theorem State.clocked_of {P : State → Prop} {s : State} {i : Nat} {k : State → State} (h : P s) (hk : P (k s)) : P (s.clocked i k) := by
  unfold State.clocked
  split
  · exact h
  · exact hk

/-! ### Relations to what a change leaves -/

/-- A relation of a state to what a change makes of it that changes made one after another keep. -/
structure Frame (R : State → State → Prop) : Prop where
  refl : ∀ s, R s s
  trans : ∀ {s t u}, R s t → R t u → R s u

theorem Frame.iff {R : State → State → Prop} (hR : Frame R) {s t : State} {c : Bool} {k : State → State} (h : R s t)
    (hk : c = true → R t (k t)) : R s (t.iff c k) := by
  cases c with
  | false => exact h
  | true => exact hR.trans h (hk rfl)

theorem Frame.each {R : State → State → Prop} (hR : Frame R) {α : Type} {s t : State} {l : List α} {k : State → α → State} (h : R s t)
    (hk : ∀ s, ∀ a ∈ l, R s (k s a)) : R s (t.each l k) := by
  induction l generalizing t with
  | nil => exact h
  | cons a l ih => exact ih (hR.trans h (hk t a List.mem_cons_self)) fun s b hb => hk s b (List.mem_cons_of_mem a hb)

/-! ### Frames -/

theorem State.get_of_fld {s t : State} (h : t.fld = s.fld) (f : Fld) : t.get f = s.get f := by rw [State.get, State.get, h]

theorem SameFields.refl (but : List Fld) (s : State) : SameFields but s s := .of_fld rfl

theorem SameFields.frame (but : List Fld) : Frame (SameFields but) := ⟨.refl but, .trans⟩

/-- A field that is not among those a change reaches reads as before. -/
theorem SameFields.get {but : List Fld} {s t : State} (h : SameFields but s t) {f : Fld} (hf : ∀ g ∈ but, f.key ≠ g.key) : t.get f = s.get f :=
  h f fun hm => by
    obtain ⟨g, hg, he⟩ := List.mem_map.1 hm
    exact hf g hg he.symm

theorem SameFields.ev {but : List Fld} {s t : State} (h : SameFields but s t) (f : Fld) (hf : f ∈ but) : SameFields but s (t.ev f) := h.set f 1 hf

theorem SameFields.bump {but : List Fld} {s t : State} (h : SameFields but s t) (f : Fld) (k : Nat) (hf : f ∈ but) :
    SameFields but s (t.bump f k) := h.set f _ hf

theorem SameMemory.refl (s : State) : SameMemory s s := .of_mem rfl rfl

/-- A change of register fields, within those listed. -/
theorem OnlyFields.refl (but : List Fld) (s : State) : OnlyFields but s s := ⟨.refl but s, rfl⟩

theorem OnlyFields.trans {but : List Fld} {s t u : State} (h : OnlyFields but s t) (k : OnlyFields but t u) : OnlyFields but s u := by
  refine ⟨h.1.trans k.1, ?_⟩
  calc { u with fld := s.fld } = { { u with fld := t.fld } with fld := s.fld } := rfl
    _ = s := by rw [k.2, h.2]

theorem OnlyFields.frame (but : List Fld) : Frame (OnlyFields but) := ⟨.refl but, .trans⟩

theorem OnlyFields.mono {l m : List Fld} {s t : State} (h : OnlyFields l s t) (hs : l ⊆ m) : OnlyFields m s t := ⟨h.1.mono hs, h.2⟩

theorem OnlyFields.set {but : List Fld} {s t : State} (h : OnlyFields but s t) (f : Fld) (v : Nat) (hf : f ∈ but) :
    OnlyFields but s (t.set f v) := h.trans ⟨.set (.refl but t) f v hf, rfl⟩

/-- Nothing of the Inkwell changes with register fields alone. -/
theorem OnlyFields.sameMemory {but : List Fld} {s t : State} (h : OnlyFields but s t) : SameMemory s t :=
  .of_mem (congrArg State.mem h.2 :) (congrArg State.poison h.2 :)

/-- A change under a clock that reaches only the fields listed. -/
theorem OnlyFields.clocked {but : List Fld} {s : State} {i : Nat} {k : State → State} (h : OnlyFields but s (k s)) :
    OnlyFields but s (s.clocked i k) := State.clocked_of (P := OnlyFields but s) (.refl but s) h

/-! ### Loops -/

/-- What every pass of a loop keeps holds after it. -/
theorem State.each_inv {α : Type} {P : State → Prop} {s : State} {l : List α} {k : State → α → State} (h : P s)
    (hk : ∀ s, ∀ a ∈ l, P s → P (k s a)) : P (s.each l k) := by
  induction l generalizing s with
  | nil => exact h
  | cons a l ih => exact ih (hk s a List.mem_cons_self h) fun s b hb => hk s b (List.mem_cons_of_mem a hb)

/-- What one pass of a loop brings about, and every pass keeps, holds after it. -/
theorem State.each_establishes {α : Type} {P : State → Prop} {l : List α} {k : State → α → State} {a : α} (ha : a ∈ l) (s : State)
    (hk : ∀ s, ∀ b ∈ l, P s → P (k s b)) (he : ∀ s, P (k s a)) : P (s.each l k) := by
  obtain ⟨l1, l2, rfl⟩ := List.append_of_mem ha
  have hsplit : s.each (l1 ++ a :: l2) k = (k (s.each l1 k) a).each l2 k := by
    rw [State.each, List.foldl_append]
    rfl
  rw [hsplit]
  exact State.each_inv (he _) fun s b hb => hk s b (by simp [hb])

/-! ### Bits of a field -/

theorem State.bit_eq (s : State) (f : Fld) (i : Nat) : s.bit f i = (s.get f).testBit i := rfl

/-- A bit set is the bit read, within the field. -/
theorem State.bit_setBit_same (s : State) (f : Fld) {i : Nat} (b : Bool) (h : i < f.width) : (s.setBit f i b).bit f i = b := by
  cases b <;> simp [State.bit, State.setBit, Nat.testBit_mod_two_pow, h, Nat.testBit_xor, Nat.testBit_and, Nat.testBit_two_pow_self]

/-- Setting one bit leaves the others. -/
theorem State.bit_setBit_ne (s : State) (f : Fld) {i j : Nat} (b : Bool) (h : j ≠ i) : (s.setBit f i b).bit f j = s.bit f j := by
  have hw : ∀ v, (s.get f).testBit j = v → (decide (j < f.width) && v) = v := by
    rintro v rfl
    by_cases hj : j < f.width
    · simp [hj]
    · have := Nat.testBit_lt_two_pow (lt_of_lt_of_le (s.get_lt f) (Nat.pow_le_pow_right (by decide) (not_lt.1 hj)))
      simp [this]
  have hp : (2 ^ i).testBit j = false := Nat.testBit_two_pow_of_ne h.symm
  cases b <;> simp [State.bit, State.setBit, Nat.testBit_mod_two_pow, Nat.testBit_xor, Nat.testBit_and, hp, hw]

theorem State.setBit_sameFields (s : State) (f : Fld) (i : Nat) (b : Bool) : SameFields [f] s (s.setBit f i b) := by
  exact .set (.refl _ s) f _ (by simp)

theorem State.setBit_onlyFields (s : State) (f : Fld) (i : Nat) (b : Bool) : OnlyFields [f] s (s.setBit f i b) := ⟨s.setBit_sameFields f i b, rfl⟩

end Sys2Proof.Machine

/-!
The decoder pool's cores: offline and back, and their tests (R18, R92).
-/

namespace Sys2Proof.Machine

/-! ### The mask of cores that are offline -/

/-- A newly set bit takes effect while fewer than 14 cores are offline; one that was set stays (R92). -/
def grantOffline (v old m c : Nat) : Nat := if v.testBit c && (old.testBit c || decide (offlineCount m < 14)) then m ||| 2 ^ c else m

/-- The mask that CORE_OFFLINE_WRITE leaves, of the written one and the one in force. -/
def newOffline (v old : Nat) : Nat := (List.range 64).foldl (grantOffline v old) (old &&& v)

/-- Whether a core is scheduled follows its bit of the mask; a busy one leaves after its decode. -/
def showOnline (new : Nat) (s : State) (c : Nat) : State :=
  if new.testBit c then (if (s.ldpc.busy.find? c).isSome then s else s.setBit LDPC_CORE_ONLINE_ONLINE c false)
  else s.setBit LDPC_CORE_ONLINE_ONLINE c true

theorem coreOfflineWrite_eq (v : Nat) (s : State) :
    coreOfflineWrite v s = (s.set LDPC_CORE_OFFLINE_OFFLINE (newOffline v (s.get LDPC_CORE_OFFLINE_OFFLINE))).each (List.range 64)
      (showOnline (newOffline v (s.get LDPC_CORE_OFFLINE_OFFLINE))) := (rfl)

theorem offlineCount_eq_card (m : Nat) : offlineCount m = ((Finset.range 64).filter fun c => m.testBit c = true).card := by
  rw [offlineCount, ← List.toFinset_card_of_nodup (List.nodup_range.filter _), List.toFinset_filter, List.toFinset_range]

theorem offlineCount_mono {a b : Nat} (h : ∀ i, a.testBit i = true → b.testBit i = true) : offlineCount a ≤ offlineCount b := by
  rw [offlineCount_eq_card, offlineCount_eq_card]
  exact Finset.card_le_card (Finset.monotone_filter_right _ fun i _ => h i)

/-- A mask that lacks a core of another counts fewer. -/
theorem offlineCount_lt {a b c : Nat} (h : ∀ i, a.testBit i = true → b.testBit i = true) (hc : c < 64) (hb : b.testBit c = true)
    (ha : a.testBit c = false) : offlineCount a < offlineCount b := by
  rw [offlineCount_eq_card, offlineCount_eq_card]
  refine Finset.card_lt_card (Finset.ssubset_iff_subset_ne.2 ⟨Finset.monotone_filter_right _ fun i _ => h i, fun e => ?_⟩)
  have hm : c ∈ (Finset.range 64).filter fun c => a.testBit c = true := by
    rw [e]
    simp [hc, hb]
  simp [ha] at hm

/-- One core more counts at most one more. -/
theorem offlineCount_or (m c : Nat) : offlineCount (m ||| 2 ^ c) ≤ offlineCount m + 1 := by
  rw [offlineCount_eq_card, offlineCount_eq_card]
  refine (Finset.card_le_card ?_).trans (Finset.card_insert_le c _)
  intro i
  simp only [Finset.mem_filter, Nat.testBit_or, Nat.testBit_two_pow, Bool.or_eq_true, decide_eq_true_eq, Finset.mem_insert]
  rintro ⟨hi, h | rfl⟩
  · exact .inr ⟨hi, h⟩
  · exact .inl rfl

theorem grantOffline_testBit (v old m c i : Nat) : (grantOffline v old m c).testBit i
    = (m.testBit i || (decide (c = i) && (v.testBit c && (old.testBit c || decide (offlineCount m < 14))))) := by
  unfold grantOffline
  split
  · rename_i h
    rw [h, Nat.testBit_or, Nat.testBit_two_pow, Bool.and_true]
  · rename_i h
    rw [Bool.eq_false_iff.2 h, Bool.and_false, Bool.or_false]

/-- What holds of the mask all along: it is within the written one, holds every bit that stays, and does not pass 14 cores. -/
structure Granted (v old m : Nat) : Prop where
  within : ∀ i, m.testBit i = true → v.testBit i = true
  stays : ∀ i, v.testBit i = true → old.testBit i = true → m.testBit i = true
  few : offlineCount old ≤ 14 → offlineCount m ≤ 14

theorem granted_start (v old : Nat) : Granted v old (old &&& v) where
  within i h := by simp_all
  stays i h h' := by simp_all
  few h := (offlineCount_mono fun i hi => by simp_all).trans h

theorem Granted.step {v old m : Nat} (h : Granted v old m) (c : Nat) : Granted v old (grantOffline v old m c) where
  within i hi := by
    rw [grantOffline_testBit] at hi
    simp only [Bool.or_eq_true, Bool.and_eq_true, decide_eq_true_eq] at hi
    rcases hi with hi | ⟨rfl, hv, -⟩
    · exact h.within i hi
    · exact hv
  stays i hv ho := by
    rw [grantOffline_testBit, h.stays i hv ho, Bool.true_or]
  few ho := by
    unfold grantOffline
    split
    · rename_i hc
      simp only [Bool.and_eq_true, Bool.or_eq_true, decide_eq_true_eq] at hc
      obtain ⟨hv, hold | hlt⟩ := hc
      · refine (offlineCount_mono fun i hi => ?_).trans (h.few ho)
        rw [Nat.testBit_or, Nat.testBit_two_pow, Bool.or_eq_true, decide_eq_true_eq] at hi
        rcases hi with hi | rfl
        · exact hi
        · exact h.stays c hv hold
      · exact (offlineCount_or m c).trans hlt
    · exact h.few ho

theorem Granted.fold {v old m : Nat} (h : Granted v old m) (l : List Nat) : Granted v old (l.foldl (grantOffline v old) m) := by
  induction l generalizing m with
  | nil => exact h
  | cons c l ih => exact ih (h.step c)

theorem newOffline_granted (v old : Nat) : Granted v old (newOffline v old) := (granted_start v old).fold _

/-- A bit of the mask stays set to the end. -/
theorem fold_grantOffline_keeps (v old : Nat) {m i : Nat} (h : m.testBit i = true) (l : List Nat) :
    (l.foldl (grantOffline v old) m).testBit i = true := by
  induction l generalizing m with
  | nil => exact h
  | cons c l ih => exact ih (by rw [grantOffline_testBit, h, Bool.true_or])

/-- Where at most 14 cores are asked for, each core that is passed is granted. -/
theorem fold_grantOffline_all {v old m : Nat} (h : Granted v old m) (hv : offlineCount v ≤ 14) {i : Nat} (hi : i < 64)
    (hb : v.testBit i = true) {l : List Nat} (hl : i ∈ l) : (l.foldl (grantOffline v old) m).testBit i = true := by
  induction l generalizing m with
  | nil => exact absurd hl List.not_mem_nil
  | cons c l ih =>
    rcases List.mem_cons.1 hl with rfl | hl
    · refine fold_grantOffline_keeps v old ?_ l
      rw [grantOffline_testBit, hb]
      cases hm : m.testBit i with
      | true => rfl
      | false => simp [lt_of_lt_of_le (offlineCount_lt h.within hi hb hm) hv]
    · exact ih (h.step c) hl

theorem newOffline_lt {v : Nat} (old : Nat) (hv : v < 2 ^ 64) : newOffline v old < 2 ^ 64 := by
  refine Nat.lt_pow_two_of_testBit _ fun i hi => Bool.eq_false_iff.2 fun h => ?_
  have := (newOffline_granted v old).within i h
  rw [Nat.testBit_lt_two_pow (lt_of_lt_of_le hv (Nat.pow_le_pow_right (by decide) hi))] at this
  cases this

theorem newOffline_all {v : Nat} (old : Nat) (hv : v < 2 ^ 64) (hc : offlineCount v ≤ 14) : newOffline v old = v := by
  refine Nat.eq_of_testBit_eq fun i => Bool.eq_iff_iff.2 ⟨(newOffline_granted v old).within i, fun hb => ?_⟩
  have hi : i < 64 := by
    by_contra hi
    rw [Nat.testBit_lt_two_pow (lt_of_lt_of_le hv (Nat.pow_le_pow_right (by decide) (not_lt.1 hi)))] at hb
    cases hb
  exact fold_grantOffline_all (granted_start v old) hc hi hb (List.mem_range.2 hi)

/-! ### Which cores are scheduled -/

theorem showOnline_onlyFields (new : Nat) (s : State) (c : Nat) : OnlyFields [LDPC_CORE_ONLINE_ONLINE] s (showOnline new s c) := by
  unfold showOnline
  split
  · split
    · exact .refl _ s
    · exact s.setBit_onlyFields _ _ _
  · exact s.setBit_onlyFields _ _ _

theorem showOnline_busy (new : Nat) (s : State) (c : Nat) : (showOnline new s c).ldpc = s.ldpc :=
  (congrArg State.ldpc (showOnline_onlyFields new s c).2 :)

theorem showOnline_bit_ne (new : Nat) (s : State) {b c : Nat} (h : c ≠ b) :
    (showOnline new s b).bit LDPC_CORE_ONLINE_ONLINE c = s.bit LDPC_CORE_ONLINE_ONLINE c := by
  unfold showOnline
  split
  · split
    · rfl
    · exact s.bit_setBit_ne _ _ h
  · exact s.bit_setBit_ne _ _ h

theorem showOnline_bit_clear {new c : Nat} (h : new.testBit c = false) (s : State) (hc : c < 64) :
    (showOnline new s c).bit LDPC_CORE_ONLINE_ONLINE c = true := by
  rw [showOnline, if_neg (Bool.eq_false_iff.1 h)]
  exact s.bit_setBit_same _ _ hc

theorem showOnline_bit_idle {new c : Nat} (h : new.testBit c = true) {s : State} (hi : s.ldpc.busy.find? c = none) (hc : c < 64) :
    (showOnline new s c).bit LDPC_CORE_ONLINE_ONLINE c = false := by
  rw [showOnline, if_pos h, if_neg (by simp [hi])]
  exact s.bit_setBit_same _ _ hc

theorem coreOfflineWrite_onlyFields (v : Nat) (s : State) :
    OnlyFields [LDPC_CORE_OFFLINE_OFFLINE, LDPC_CORE_ONLINE_ONLINE] s (coreOfflineWrite v s) := by
  rw [coreOfflineWrite_eq]
  exact (OnlyFields.frame _).each ((OnlyFields.refl _ s).set _ _ (by simp)) fun s c _ => (showOnline_onlyFields _ s c).mono (by simp)

theorem coreOfflineWrite_offline (v : Nat) (s : State) (hv : v < 2 ^ 64) :
    (coreOfflineWrite v s).get LDPC_CORE_OFFLINE_OFFLINE = newOffline v (s.get LDPC_CORE_OFFLINE_OFFLINE) := by
  rw [coreOfflineWrite_eq, ((SameFields.frame _).each (.refl _ _) fun s c _ => (showOnline_onlyFields _ s c).1).get (by decide), State.get_set]
  exact Nat.mod_eq_of_lt (newOffline_lt _ hv)

/-- The bit of a core in CORE_ONLINE is that of its own pass. -/
theorem coreOfflineWrite_online (v : Nat) (s : State) {c : Nat} (hc : c < 64) {b : Bool}
    (h : ∀ t : State, t.ldpc = s.ldpc →
      (showOnline (newOffline v (s.get LDPC_CORE_OFFLINE_OFFLINE)) t c).bit LDPC_CORE_ONLINE_ONLINE c = b) :
    (coreOfflineWrite v s).bit LDPC_CORE_ONLINE_ONLINE c = b := by
  rw [coreOfflineWrite_eq]
  refine (State.each_establishes (P := fun t => t.ldpc = s.ldpc → t.bit LDPC_CORE_ONLINE_ONLINE c = b) (List.mem_range.2 hc) _ ?_ ?_) ?_
  · intro t d _ ht he
    rw [showOnline_busy] at he
    by_cases hd : c = d
    · exact hd ▸ h t he
    · exact (showOnline_bit_ne _ t hd).trans (ht he)
  · intro t he
    rw [showOnline_busy] at he
    exact h t he
  · exact State.each_keeps State.ldpc _ _ _ fun t d _ => showOnline_busy _ t d

/-! ### Core tests -/

/-- The core to test is named, and PASS is clear. -/
def testNamed (core : Nat) (s : State) : State := (s.set LDPC_CORE_TEST_CORE core).set LDPC_CORE_TEST_PASS 0

theorem testNamed_online (core c : Nat) (s : State) : (testNamed core s).bit LDPC_CORE_ONLINE_ONLINE c = s.bit LDPC_CORE_ONLINE_ONLINE c := by
  rw [State.bit, testNamed, State.get_set_ne _ _ (by decide), State.get_set_ne _ _ (by decide), State.bit]

/-- On an online core a test is done at once, and has not passed. -/
theorem coreTest_online {core : Nat} {s : State} (h : s.bit LDPC_CORE_ONLINE_ONLINE core = true) :
    coreTest core s = ((testNamed core s).set LDPC_CORE_TEST_DONE 1).ev LDPC_EVENT_TEST_DONE :=
  if_pos ((testNamed_online core core s).trans h)

theorem coreTest_offline {core : Nat} {s : State} (h : s.bit LDPC_CORE_ONLINE_ONLINE core = false) :
    coreTest core s = ((testNamed core s).set LDPC_CORE_TEST_DONE 0).set LDPC_CORE_TEST_START 1 :=
  if_neg (Bool.eq_false_iff.1 ((testNamed_online core core s).trans h))

theorem coreTestDone_running {s : State} (h : s.get LDPC_CORE_TEST_START = 1) (pass : Bool) :
    coreTestDone pass s = (((s.set LDPC_CORE_TEST_START 0).set LDPC_CORE_TEST_DONE 1).set LDPC_CORE_TEST_PASS
      (if pass then 1 else 0)).ev LDPC_EVENT_TEST_DONE := if_pos (beq_iff_eq.2 h)

theorem coreTest_named (core : Nat) (s : State) (hc : core < 2 ^ 6) :
    (coreTest core s).get LDPC_CORE_TEST_CORE = core ∧ (coreTest core s).get LDPC_CORE_TEST_PASS = 0 := by
  have hn : (testNamed core s).get LDPC_CORE_TEST_CORE = core ∧ (testNamed core s).get LDPC_CORE_TEST_PASS = 0 := by
    rw [testNamed, State.get_set_ne _ _ (by decide), State.get_set, State.get_set]
    exact ⟨Nat.mod_eq_of_lt hc, rfl⟩
  cases h : s.bit LDPC_CORE_ONLINE_ONLINE core with
  | true =>
    rw [coreTest_online h]
    iterate 2 rw [State.get_ev_ne _ (by decide), State.get_set_ne _ _ (by decide)]
    exact hn
  | false =>
    rw [coreTest_offline h]
    iterate 2 rw [State.get_set_ne _ _ (by decide), State.get_set_ne _ _ (by decide)]
    exact hn

theorem coreTestDone_idle {s : State} (h : s.get LDPC_CORE_TEST_START ≠ 1) (pass : Bool) : coreTestDone pass s = s :=
  if_neg fun e => h (beq_iff_eq.1 e)

/-- Settles O23: the mask of a CORE_OFFLINE_WRITE is what the fold over the cores grants, each core's own pass shows it, and a test is one of two
chains of sets. -/
theorem poolCores : Obligations.PoolCores := by
  refine ⟨fun v s => ⟨_, rfl, ?_, ?_, ?_, ?_, ?_, ?_, ?_⟩, fun core s => ⟨_, rfl, ?_, ?_, ?_, ?_⟩, fun pass s => ⟨_, rfl, ?_, ?_⟩⟩
  · exact fun h => State.clocked_stopped h _
  · intro h c hv
    rw [State.clocked_running h]
    have hn : (newOffline v.toNat (s.get LDPC_CORE_OFFLINE_OFFLINE)).testBit c = false :=
      Bool.eq_false_iff.2 fun hb => Bool.eq_false_iff.1 hv ((newOffline_granted _ _).within c hb)
    refine ⟨?_, coreOfflineWrite_online _ s c.isLt fun t _ => showOnline_bit_clear hn t c.isLt⟩
    rw [State.bit, coreOfflineWrite_offline _ s v.isLt, hn]
  · intro c hv ho
    refine State.clocked_of (P := fun t => t.bit LDPC_CORE_OFFLINE_OFFLINE c = true) ho ?_
    rw [State.bit, coreOfflineWrite_offline _ s v.isLt]
    exact (newOffline_granted _ _).stays c hv ho
  · intro h c ho hb
    rw [State.clocked_running h] at ho ⊢
    rw [State.bit, coreOfflineWrite_offline _ s v.isLt] at ho
    exact coreOfflineWrite_online _ s c.isLt fun t ht => showOnline_bit_idle ho (by rw [ht, hb]) c.isLt
  · intro h hc
    rw [State.clocked_running h, coreOfflineWrite_offline _ s v.isLt]
    exact newOffline_all _ v.isLt hc
  · intro hc
    refine State.clocked_of (P := fun t => offlineCount (t.get LDPC_CORE_OFFLINE_OFFLINE) ≤ 14) hc ?_
    rw [coreOfflineWrite_offline _ s v.isLt]
    exact (newOffline_granted _ _).few hc
  · exact (coreOfflineWrite_onlyFields v.toNat s).clocked
  · exact fun h => State.clocked_stopped h _
  · intro h
    rw [State.clocked_running h]
    exact coreTest_named core s core.isLt
  · intro h ho
    rw [State.clocked_running h, coreTest_online ho]
    refine ⟨?_, State.get_ev _ _ (by decide), ?_⟩
    · rw [State.get_ev_ne _ (by decide), State.get_set]
      rfl
    · exact ((((OnlyFields.refl _ s).set _ _ (by simp)).set _ _ (by simp)).set _ _ (by simp)).set _ _ (by simp)
  · intro h ho
    rw [State.clocked_running h, coreTest_offline ho]
    refine ⟨?_, ?_, ?_⟩
    · rw [State.get_set_ne _ _ (by decide), State.get_set]
      rfl
    · rw [State.get_set]
      rfl
    · exact ((((OnlyFields.refl _ s).set _ _ (by simp)).set _ _ (by simp)).set _ _ (by simp)).set _ _ (by simp)
  · intro h
    rw [coreTestDone_running h]
    refine ⟨?_, ?_, ?_, State.get_ev _ _ (by decide), ?_⟩
    · rw [State.get_ev_ne _ (by decide), State.get_set_ne _ _ (by decide), State.get_set_ne _ _ (by decide), State.get_set]
      rfl
    · rw [State.get_ev_ne _ (by decide), State.get_set_ne _ _ (by decide), State.get_set]
      rfl
    · rw [State.get_ev_ne _ (by decide), State.get_set]
      cases pass <;> rfl
    · exact ((((OnlyFields.refl _ s).set _ _ (by simp)).set _ _ (by simp)).set _ _ (by simp)).set _ _ (by simp)
  · exact fun h => coreTestDone_idle h pass

end Sys2Proof.Machine

/-!
SUPPORT. What accesses to the Inkwell leave: all hidden state but the Inkwell's own, and the bytes outside a store.
-/

namespace Sys2Proof.Machine

/-! ### Hidden state -/

/-- Of the state that no register shows, only the Inkwell's has changed: its bytes and marks, what chapter 11 keeps, and the count of free
values. -/
structure InkHidden (s t : State) : Prop where
  eq : { t with fld := s.fld, mem := s.mem, poison := s.poison, freeCtr := s.freeCtr, ink := s.ink } = s

theorem InkHidden.refl (s : State) : InkHidden s s := ⟨rfl⟩

theorem InkHidden.trans {s t u : State} (h : InkHidden s t) (k : InkHidden t u) : InkHidden s u := by
  have e : ({ u with fld := s.fld, mem := s.mem, poison := s.poison, freeCtr := s.freeCtr, ink := s.ink } : State)
      = { ({ u with fld := t.fld, mem := t.mem, poison := t.poison, freeCtr := t.freeCtr, ink := t.ink } : State) with
          fld := s.fld, mem := s.mem, poison := s.poison, freeCtr := s.freeCtr, ink := s.ink } := rfl
  exact ⟨by rw [e, k.eq, h.eq]⟩

theorem InkHidden.frame : Frame InkHidden := ⟨.refl, .trans⟩

theorem InkHidden.set {s t : State} (h : InkHidden s t) (f : Fld) (v : Nat) : InkHidden s (t.set f v) := ⟨h.eq⟩

theorem InkHidden.ev {s t : State} (h : InkHidden s t) (f : Fld) : InkHidden s (t.ev f) := ⟨h.eq⟩

theorem InkHidden.bump {s t : State} (h : InkHidden s t) (f : Fld) (k : Nat) : InkHidden s (t.bump f k) := ⟨h.eq⟩

theorem InkHidden.setPoison {s t : State} (h : InkHidden s t) (b : Nat) (p : Bool) : InkHidden s (t.setPoison b p) := ⟨h.eq⟩

theorem InkHidden.modCh {s t : State} (h : InkHidden s t) (c : Nat) (f : InkCh → InkCh) : InkHidden s (t.modCh c f) := ⟨h.eq⟩

theorem refreshScrub_inkHidden (s : State) (c : Nat) : InkHidden s (refreshScrub s c) := ⟨rfl⟩

theorem InkHidden.zeroBytes {s t : State} (h : InkHidden s t) (a n : Nat) : InkHidden s (t.zeroBytes a n) := ⟨h.eq⟩

theorem InkHidden.putBytes {s t : State} (h : InkHidden s t) (a : Nat) (l : List (BitVec 8)) : InkHidden s (t.putBytes a l) := by
  induction l generalizing t a with
  | nil => exact h
  | cons b l ih => exact ih (t := t.putByte a b) ⟨h.eq⟩ (a + 1)

theorem plant_inkHidden (s : State) (b p : Nat) : InkHidden s (plant s b p) := ⟨rfl⟩

theorem flipData_inkHidden (s : State) (b mask : Nat) : InkHidden s (flipData s b mask) := InkHidden.frame.each (.refl s) fun _ _ _ => ⟨rfl⟩

theorem plantOpen_inkHidden (s : State) (b : Nat) : InkHidden s (plantOpen s b) := by
  unfold plantOpen
  dsimp only
  split
  · exact (InkHidden.putBytes (t := (freeBytes s.fresh.2 64).2) ⟨rfl⟩ _ _).trans (plant_inkHidden _ _ _)
  · exact ⟨rfl⟩

theorem splitWrite_inkHidden (s : State) (b p : Nat) (old : List (BitVec 8)) : InkHidden s (splitWrite s b p old) := by
  have e : ∀ i : Ink, InkHidden s { s.set INK_ECC_TEST_HALF 1 with ink := i } := fun _ => ⟨rfl⟩
  unfold splitWrite
  dsimp only
  split
  · exact (e _).trans (plant_inkHidden _ _ _)
  · split
    · exact ((e _).putBytes _ _).trans (plant_inkHidden _ _ _)
    · split
      · exact (e _).trans (plant_inkHidden _ _ _)
      · split
        · exact (e _).trans (plant_inkHidden _ _ _)
        · exact (e _).trans (plantOpen_inkHidden _ _)

theorem flipWrite_inkHidden (s : State) (b : Nat) (mark : Bool) : InkHidden s (flipWrite s b mark) := by
  have e (m : Nat) := flipData_inkHidden s b m
  unfold flipWrite
  generalize s.get INK_ECC_TEST_CHECK_CHECK ^^^ (if mark then poisonMask else 0) = c
  dsimp only
  split
  · exact plant_inkHidden s b 0
  · split
    · exact plant_inkHidden s b 1
    · split
      · exact plant_inkHidden s b 5
      · split
        · exact (e _).trans (plant_inkHidden _ _ _)
        · split
          · exact (e _).trans (plant_inkHidden _ _ _)
          · exact (e _).trans (plantOpen_inkHidden _ _)

theorem testWrite_inkHidden (s : State) (b : Nat) (mark : Bool) (p : Nat) (old : List (BitVec 8)) : InkHidden s (testWrite s b mark p old) := by
  have e : InkHidden s ((s.set INK_ECC_TEST_ARM 0).ev INK_EVENT_TEST_DONE) := ⟨rfl⟩
  unfold testWrite
  dsimp only
  split
  · exact e.trans (splitWrite_inkHidden _ _ _ _)
  · exact e.trans (flipWrite_inkHidden _ _ _)

theorem testHook_inkHidden (s : State) (a n : Nat) {k : State → State} (hk : InkHidden s (k s)) : InkHidden s (testHook s a n k) := by
  unfold testHook
  dsimp only
  split
  · exact hk.trans (testWrite_inkHidden _ _ _ _ _)
  · exact hk

theorem addrErr_inkHidden (s : State) (r a : Nat) : InkHidden s (s.addrErr r a) := by
  unfold State.addrErr
  split <;> exact ⟨rfl⟩

theorem addrErrs_inkHidden (s : State) (r a n : Nat) : InkHidden s (addrErrs s r a n) :=
  InkHidden.frame.each (.refl s) fun s _ _ => addrErr_inkHidden s r _

/-- Decoding a block takes free values only. -/
theorem decodeBlock_inkHidden (s : State) (b : Nat) (w : ReadFault) : InkHidden s (decodeBlock s b w).2.2 := by
  unfold decodeBlock
  generalize patternOf s b = p
  cases w with
  | none | address | heavy o => exact .refl s
  | flips n =>
    dsimp only
    split
    · exact ⟨rfl⟩
    · split
      · exact ⟨rfl⟩
      · split
        · split
          · exact ⟨rfl⟩
          · split
            · exact ⟨rfl⟩
            · split <;> exact ⟨rfl⟩
        · exact ⟨rfl⟩

theorem countUe_inkHidden (s : State) : InkHidden s (countUe s) := by
  unfold countUe
  dsimp only
  split <;> exact ⟨rfl⟩

theorem logUe_inkHidden (s : State) (r b : Nat) : InkHidden s (logUe s r b) := by
  unfold logUe
  split <;> exact ⟨rfl⟩

theorem dropWriteBacks_inkHidden (s : State) (b : Nat) : InkHidden s (dropWriteBacks s b) := by
  unfold dropWriteBacks
  dsimp only
  split
  · exact ((InkHidden.refl s).modCh _ _).trans (refreshScrub_inkHidden _ _)
  · exact .refl s

theorem addWriteBack_inkHidden (s : State) (c : Nat) (w : WriteBack) : InkHidden s (addWriteBack s c w) :=
  ((InkHidden.refl s).modCh _ _).trans (refreshScrub_inkHidden _ _)

theorem decodeRead_inkHidden (s : State) (r b : Nat) (w : ReadFault) : InkHidden s (decodeRead s r b w).2.2 := by
  have e := decodeBlock_inkHidden s b w
  have wb : ∀ (s : State) (c : Bool) (x : WriteBack), InkHidden s (s.iff c fun s => addWriteBack s (channelOf (64 * b)) x) := fun s _ _ =>
    InkHidden.frame.iff (.refl s) fun _ => addWriteBack_inkHidden _ _ _
  unfold decodeRead
  generalize decodeBlock s b w = d at e
  obtain ⟨o, known, t⟩ := d
  dsimp only at e ⊢
  split
  · dsimp only
    exact ((e.bump _ 1).ev _).trans (wb _ _ _)
  · split
    · dsimp only
      exact (((((e.bump _ 1).trans (logUe_inkHidden _ r b)).ev _).trans (wb _ _ _)).trans (countUe_inkHidden _))
    · exact e

theorem freshBlock_inkHidden (s : State) (b : Nat) : InkHidden s (freshBlock s b) := .trans (dropWriteBacks_inkHidden s b) ⟨rfl⟩

theorem markBlock_inkHidden (r a n : Nat) (m : Bool) (s : State) (b : Nat) : InkHidden s (markBlock r a n m s b) := by
  have e := decodeRead_inkHidden s r b .none
  unfold markBlock
  split
  · exact (freshBlock_inkHidden s b).setPoison b _
  · generalize decodeRead s r b .none = d at e
    exact (e.trans (freshBlock_inkHidden _ b)).setPoison b _

theorem markBlocks_inkHidden (s : State) (r a n : Nat) (m : Bool) : InkHidden s (s.markBlocks r a n m) :=
  InkHidden.frame.each (.refl s) fun s b _ => markBlock_inkHidden r a n m s b

theorem wakeInk_inkHidden (s : State) : InkHidden s (wakeInk s) := by
  unfold wakeInk
  split <;> exact ⟨rfl⟩

theorem noteEarly_inkHidden (s : State) (a n : Nat) (l : List (BitVec 8)) (m : Bool) : InkHidden s (noteEarly s a n l m) := by
  unfold noteEarly
  split <;> exact ⟨rfl⟩

/-- The state that a store finds: the exit from self-refresh started, and the store noted where the fill has yet to pass. -/
def inkReady (s : State) (a n : Nat) (l : List (BitVec 8)) (m : Bool) : State := noteEarly (wakeInk s) a n l m

theorem inkReady_inkHidden (s : State) (a n : Nat) (l : List (BitVec 8)) (m : Bool) : InkHidden s (inkReady s a n l m) :=
  (wakeInk_inkHidden s).trans (noteEarly_inkHidden _ a n l m)

theorem inkStore_inkHidden (s : State) (r a : Nat) (l : List (BitVec 8)) (m : Bool) : InkHidden s (inkStore s r a l m) :=
  (inkReady_inkHidden s a l.length l m).trans (testHook_inkHidden _ _ _ ((markBlocks_inkHidden _ r a _ m).putBytes a l))

theorem inkStoreZ_inkHidden (s : State) (r a n : Nat) (l : List (BitVec 8)) (m : Bool) : InkHidden s (inkStoreZ s r a n l m) :=
  (inkReady_inkHidden s a n (l.take n) m).trans (testHook_inkHidden _ _ _
    (((markBlocks_inkHidden _ r a n m).zeroBytes a n).putBytes a _))

theorem inkWrite_inkHidden (s : State) (r a : Nat) (l : List (BitVec 8)) (m : Bool) : InkHidden s (s.inkWrite r a l m) := by
  unfold State.inkWrite
  split
  · exact inkStore_inkHidden s r a l m
  · exact (InkHidden.frame.iff (.refl s) fun _ => inkStore_inkHidden s r a _ m).trans (addrErrs_inkHidden _ r _ _)

theorem inkWriteZ_inkHidden (s : State) (r a n : Nat) (l : List (BitVec 8)) (m : Bool) : InkHidden s (s.inkWriteZ r a n l m) := by
  unfold State.inkWriteZ
  split
  · exact inkStoreZ_inkHidden s r a n l m
  · exact (InkHidden.frame.iff (.refl s) fun _ => inkStoreZ_inkHidden s r a _ l m).trans (addrErrs_inkHidden _ r _ _)

namespace InkHidden
variable {s t : State} (h : InkHidden s t)
include h

theorem ledger : t.ledger = s.ledger := (congrArg State.ledger h.eq :)
theorem ldpc : t.ldpc = s.ldpc := (congrArg State.ldpc h.eq :)
theorem sec : t.sec = s.sec := (congrArg State.sec h.eq :)
theorem writeCh (n : Nat) : t.writeCh n = s.writeCh n := (congrArg (fun u : State => u.writeCh n) h.eq :)
theorem link (n : Nat) : t.link n = s.link n := (congrArg (fun u : State => u.link n) h.eq :)

end InkHidden

end Sys2Proof.Machine

/-!
Groups of descriptors form, start and end (R120, R125, R127, R151, R409, R413).
-/

namespace Sys2Proof.Machine

/-! ### A read of the Inkwell -/

/-- The fields of the Inkwell's address error record (R288). -/
def addrErrFields : List Fld := [INK_ADDR_ERR_VALID, INK_ADDR_ERR_SOURCE, INK_ADDR_ERR_ADDR, INK_ADDR_ERR_OVERRUN, INK_EVENT_ADDR_ERR]

theorem State.addrErr_onlyFields (s : State) (r a : Nat) : OnlyFields addrErrFields s (s.addrErr r a) := by
  unfold State.addrErr
  split
  · exact .set (.set (.refl _ _) _ _ (by decide)) _ _ (by decide)
  · exact .set (.set (.set (.set (.refl _ _) _ _ (by decide)) _ _ (by decide)) _ _ (by decide)) _ _ (by decide)

theorem State.reads_onlyFields (s : State) (r a : Nat) : OnlyFields addrErrFields s (s.reads r a) := by
  unfold State.reads
  split
  · exact .refl _ _
  · exact s.addrErr_onlyFields r a

theorem State.reads_inside (s : State) (r : Nat) {a : Nat} (h : a < inkLimit) : s.reads r a = s := if_pos h

theorem OnlyFields.wc {but : List Fld} {s t : State} (h : OnlyFields but s t) (n : Nat) : t.writeCh n = s.writeCh n :=
  (congrArg (fun u : State => u.writeCh n) h.2 :)

theorem OnlyFields.bytesAt {but : List Fld} {s t : State} (h : OnlyFields but s t) (a n : Nat) : t.bytesAt a n = s.bytesAt a n :=
  State.bytesAt_congr _ _ fun _ _ => h.sameMemory.1 _

/-- A field outside the Inkwell's block is not of its address error record. -/
theorem OnlyFields.get_addrErr {s t : State} (h : OnlyFields addrErrFields s t) {f : Fld} (hf : notInk f) : t.get f = s.get f := by
  refine h.1.get fun g hg he => hf ?_
  have hb : ∀ g ∈ addrErrFields, g.block = 0x200001 := by decide
  rw [← hb g hg, Fld.block, he, Fld.block]

/-! ### Forming a group -/

theorem closeAtRim_get (s : State) (d : Desc) (f : Fld) : (closeAtRim s d).get f = s.get f := by
  unfold closeAtRim
  dsimp only
  split
  · split <;> rfl
  · rfl

/-- The descriptors of a forming group are read, and quires at the rim close (R119, R126). -/
def readQueued (n : Nat) (s : State) (d : Desc) : State := closeAtRim (s.reads (16 + n) (descAddr s n d.idx)) d

theorem fqSize_pos (s : State) (n : Nat) : 0 < fqSize s n := Nat.two_pow_pos _

/-- A descriptor of a queue that ends below the check region is read without an address error. -/
theorem descAddr_lt (s : State) (n i : Nat) (h : s.get (FQ_BASE_BASE n) * 2 ^ 12 + 64 * fqSize s n ≤ inkLimit) : descAddr s n i < inkLimit := by
  have := Nat.mod_lt i (fqSize_pos s n)
  unfold descAddr
  omega

theorem fqSize_congr {s t : State} {n : Nat} (h : t.get (FQ_CFG_SIZE n) = s.get (FQ_CFG_SIZE n)) : fqSize t n = fqSize s n := by
  rw [fqSize, fqSize, h]

/-- Reading the queue leaves every register field while the queue lies below the check region. -/
theorem readQueue_sameFields (n : Nat) (s : State) (l : List Desc) (h : s.get (FQ_BASE_BASE n) * 2 ^ 12 + 64 * fqSize s n ≤ inkLimit) :
    SameFields [] s (s.each l (readQueued n)) := by
  refine State.each_inv (.refl _ s) fun t d _ ht => ?_
  have same : ∀ f, t.get f = s.get f := fun f => ht f (by simp)
  have ha : descAddr t n d.idx < inkLimit := descAddr_lt t n _ (by rw [same, fqSize_congr (same _)]; exact h)
  intro f _
  rw [readQueued, State.reads_inside _ _ ha, closeAtRim_get, same]

/-- Judging changes no descriptor but its verdict. -/
theorem judge_head (s : State) (n : Nat) (d : Desc) (l : List Desc) :
    (judge s n [] (d :: l)).head?.map (fun d => (d.idx, d.kind, d.f, d.done)) = some (d.idx, d.kind, d.f, d.done) := by
  rw [judge]
  split <;> rfl

/-- The descriptors of the group to form at TAIL (R127). -/
def groupAtTail (s : State) (n : Nat) : List Desc :=
  let first := readDescriptor s n (s.get (FQ_TAIL_TAIL n))
  first :: if first.solo then []
    else collect s n (s.get (FQ_HEAD_HEAD n)) first (max 1 (s.get (WC_CTRL_GROUP_MAX n)) - 1) (s.get (FQ_TAIL_TAIL n) + 1)

theorem groupForm_forms {n : Nat} {s : State} (he : s.get (WC_CTRL_ENABLE n) = 1) (hg : (s.writeCh n).group = [])
    (hq : s.get (FQ_HEAD_HEAD n) ≠ s.get (FQ_TAIL_TAIL n)) :
    groupForm n s = refreshWc ((((s.each (groupAtTail s n) (readQueued n)).modWc n fun w =>
      { w with group := judge (s.each (groupAtTail s n) (readQueued n)) n [] (groupAtTail s n), started := false }).set (WC_STATUS_STATE n)
        (if (readDescriptor s n (s.get (FQ_TAIL_TAIL n))).kind = 3 then 4 else 1))) n :=
  if_pos ⟨by simp [State.on, he], by simp [hg], hq⟩

theorem groupForm_idle {n : Nat} {s : State} (h : s.get (WC_CTRL_ENABLE n) ≠ 1 ∨ (s.writeCh n).group ≠ [] ∨ s.get (FQ_HEAD_HEAD n) = s.get (FQ_TAIL_TAIL n)) :
    groupForm n s = s := by
  refine if_neg ?_
  rintro ⟨he, hg, hq⟩
  rcases h with h | h | h
  · exact h (by simpa [State.on] using he)
  · exact h (by simpa using hg)
  · exact hq h

theorem WC_STATUS_STATE_ne_shown (n : Nat) :
    (WC_STATUS_STATE n).key ≠ (WC_STATUS_WRITING n).key ∧ (WC_STATUS_STATE n).key ≠ (WC_STATUS_GROUP_LEFT n).key := by
  constructor <;> simp only [Fld.key, WC_STATUS_STATE, WC_STATUS_WRITING, WC_STATUS_GROUP_LEFT] <;> omega

theorem refreshWc_state (s : State) (n : Nat) : (refreshWc s n).get (WC_STATUS_STATE n) = s.get (WC_STATUS_STATE n) :=
  refreshWc_get s n (WC_STATUS_STATE_ne_shown n).1 (WC_STATUS_STATE_ne_shown n).2

theorem refreshWc_onlyFields (s : State) (n : Nat) : OnlyFields [WC_STATUS_WRITING n, WC_STATUS_GROUP_LEFT n] s (refreshWc s n) := by
  refine ⟨fun f hf => ?_, rfl⟩
  simp only [List.map_cons, List.map_nil, List.mem_cons, List.not_mem_nil, or_false, not_or] at hf
  exact refreshWc_get s n hf.1 hf.2

theorem groupForm_sameFields {n : Nat} {s : State} (h : s.get (FQ_BASE_BASE n) * 2 ^ 12 + 64 * fqSize s n ≤ inkLimit) :
    SameFields [WC_STATUS_STATE n, WC_STATUS_WRITING n, WC_STATUS_GROUP_LEFT n] s (groupForm n s) := by
  by_cases hc : s.get (WC_CTRL_ENABLE n) ≠ 1 ∨ (s.writeCh n).group ≠ [] ∨ s.get (FQ_HEAD_HEAD n) = s.get (FQ_TAIL_TAIL n)
  · rw [groupForm_idle hc]
    exact .refl _ _
  · simp only [not_or, not_not] at hc
    obtain ⟨he, hg, hq⟩ := hc
    rw [groupForm_forms he hg hq]
    have hread := (readQueue_sameFields n s (groupAtTail s n) h).mono (m := [WC_STATUS_STATE n, WC_STATUS_WRITING n, WC_STATUS_GROUP_LEFT n]) (by simp)
    generalize s.each (groupAtTail s n) (readQueued n) = u at hread ⊢
    have hset := SameFields.set (hread.trans (.of_fld (t := u.modWc n fun w => { w with group := judge u n [] (groupAtTail s n), started := false }) rfl))
      (WC_STATUS_STATE n) (if (readDescriptor s n (s.get (FQ_TAIL_TAIL n))).kind = 3 then 4 else 1) (by simp)
    exact hset.trans ((refreshWc_onlyFields _ n).1.mono (by simp))

/-! ### A group starts -/

theorem refreshInUse_onlyFields (s : State) (k : Nat) : OnlyFields ((List.range 128).map SEC_SLOT_IN_USE) s (refreshInUse s k) := by
  unfold refreshInUse
  dsimp only
  split
  · exact .set (.refl _ _) _ _ (List.mem_map_of_mem (List.mem_range.2 ‹k < 128›))
  · exact .refl _ _

theorem refreshInUses_onlyFields (s : State) (l : List Desc) :
    OnlyFields ((List.range 128).map SEC_SLOT_IN_USE) s (s.each l fun s d => refreshInUse s d.key) :=
  (OnlyFields.frame _).each (.refl _ s) fun s d _ => refreshInUse_onlyFields s d.key

theorem WC_STATUS_STATE_ne_inUse (n : Nat) : ∀ g ∈ (List.range 128).map SEC_SLOT_IN_USE, (WC_STATUS_STATE n).key ≠ g.key := by
  intro g hg
  obtain ⟨k, hk, rfl⟩ := List.mem_map.1 hg
  have := List.mem_range.1 hk
  simp only [Fld.key, WC_STATUS_STATE, SEC_SLOT_IN_USE, wcBase, penBase, secBase]
  omega

/-- A descriptor whose key or authority is no longer there is to complete DESC_ERR (R409, R413). -/
def Desc.rejudged (s : State) (d : Desc) : Desc := if keyAllows s d || d.verdict.isSome then d else { d with verdict := some stDescErr }

theorem Desc.rejudged_eq (s : State) (d : Desc) :
    d.rejudged s = if keyAllows s d = true ∨ d.verdict ≠ none then d else { d with verdict := some 5 } := by
  rw [Desc.rejudged]
  simp only [Bool.or_eq_true, Option.isSome_iff_ne_none]

/-- What a descriptor that burns reads as its group starts (R120, R121). -/
def readBurned (n : Nat) (s : State) (d : Desc) : State :=
  s.iff (d.burns && d.verdict.isNone) fun s => (s.reads (16 + n) d.hdr).iff (d.kind != 4) fun s => s.reads (16 + n) d.data

theorem readBurned_onlyFields (n : Nat) (s : State) (d : Desc) : OnlyFields addrErrFields s (readBurned n s d) :=
  (OnlyFields.frame _).iff (.refl _ s) fun _ =>
    (OnlyFields.frame _).iff (s.reads_onlyFields _ _) fun _ => State.reads_onlyFields _ _ _

theorem Desc.load_congr {s t : State} (hb : ∀ a n, t.bytesAt a n = s.bytesAt a n) (hs : t.sec = s.sec) : Desc.load t = Desc.load s := by
  funext d
  simp only [Desc.load, hb, slotKey, hs]

theorem groupStart_starts {n : Nat} {s : State} (he : s.get (WC_CTRL_ENABLE n) = 1) (hs : (s.writeCh n).started = false)
    (hb : onGroupBand s n = true) (hr : s.get (RUL_STATUS_STATE n) ∈ [4, 5]) (hw : s.get (WC_STATUS_STATE n) = 1) :
    ∃ u : State, OnlyFields addrErrFields (s.modWc n fun w => { w with group := w.group.map (Desc.rejudged s) }) u
      ∧ groupStart n s = State.each ((u.modWc n fun w => { w with group := w.group.map (Desc.load u), started := true }).set (WC_STATUS_STATE n)
          (if u.on (WC_CTRL_HALT n) then 3 else 2)) (((u.writeCh n).group.map (Desc.load u))) fun s d => refreshInUse s d.key := by
  refine ⟨_, (OnlyFields.frame _).each (l := (s.writeCh n).group.map (Desc.rejudged s)) (k := readBurned n) (.refl _ _) fun s d _ => readBurned_onlyFields n s d, ?_⟩
  rw [groupStart, if_pos ⟨by simp [State.on, he], hs, hb, by simpa using hr, hw⟩]
  simp only [State.writeCh_modWc, State.writeCh_set]
  rfl

theorem groupStart_idle {n : Nat} {s : State}
    (h : s.get (WC_CTRL_ENABLE n) ≠ 1 ∨ onGroupBand s n = false ∨ s.get (RUL_STATUS_STATE n) ∉ [4, 5] ∨ s.get (WC_STATUS_STATE n) ≠ 1) :
    groupStart n s = s := by
  refine if_neg ?_
  rintro ⟨he, -, hb, hr, hw⟩
  rcases h with h | h | h | h
  · exact h (by simpa [State.on] using he)
  · simp [hb] at h
  · exact h (by simpa using hr)
  · exact h hw

theorem notInk_wc {f : Fld} {n o : Nat} (h : f.addr = wcBase n + o) : notInk f := by
  simp only [notInk, Fld.block, Fld.key, h, wcBase, penBase]
  omega

theorem groupStart_effect {n : Nat} {s : State} (he : s.get (WC_CTRL_ENABLE n) = 1) (hs : (s.writeCh n).started = false)
    (hb : onGroupBand s n = true) (hr : s.get (RUL_STATUS_STATE n) ∈ [4, 5]) (hw : s.get (WC_STATUS_STATE n) = 1) :
    ((groupStart n s).writeCh n).started = true
      ∧ (groupStart n s).get (WC_STATUS_STATE n) = (if s.get (WC_CTRL_HALT n) = 1 then 3 else 2)
      ∧ ((groupStart n s).writeCh n).group = (s.writeCh n).group.map fun d => Desc.load s (d.rejudged s) := by
  obtain ⟨u, hu, e⟩ := groupStart_starts he hs hb hr hw
  have hload : Desc.load u = Desc.load s :=
    Desc.load_congr (fun a m => (hu.bytesAt a m).trans (State.bytesAt_congr m a fun _ _ => rfl)) (congrArg State.sec hu.2 :)
  have hgroup : (u.writeCh n).group = (s.writeCh n).group.map (Desc.rejudged s) := by rw [hu.wc, State.writeCh_modWc]
  have hhalt : u.get (WC_CTRL_HALT n) = s.get (WC_CTRL_HALT n) := hu.get_addrErr (notInk_wc (o := 0) rfl)
  have hin := refreshInUses_onlyFields ((u.modWc n fun w => { w with group := w.group.map (Desc.load u), started := true }).set (WC_STATUS_STATE n)
    (if u.on (WC_CTRL_HALT n) then 3 else 2)) ((u.writeCh n).group.map (Desc.load u))
  rw [e, hin.wc, State.writeCh_set, State.writeCh_modWc]
  refine ⟨rfl, ?_, ?_⟩
  · rw [hin.1.get fun g hg => WC_STATUS_STATE_ne_inUse n g hg, State.get_set, State.on, hhalt]
    by_cases h : s.get (WC_CTRL_HALT n) = 1 <;> simp [h, WC_STATUS_STATE]
  · rw [hgroup, hload, List.map_map]
    rfl

/-! ### A group ends -/

theorem groupEnd_ends {n : Nat} {s : State} (hg : (s.writeCh n).group ≠ []) (hd : ((s.writeCh n).group.all fun d => d.done) = true) :
    groupEnd n s = refreshWc ((((s.wrap (FQ_TAIL_TAIL n) (s.writeCh n).group.length).modWc n fun w => { w with group := [], started := false }).ev
      (WC_EVENT_GROUP_DONE n)).set (WC_STATUS_STATE n) 0) n :=
  if_pos ⟨by simpa using hg, hd⟩

theorem groupEnd_idle {n : Nat} {s : State} (h : (s.writeCh n).group = [] ∨ ((s.writeCh n).group.all fun d => d.done) = false) :
    groupEnd n s = s := by
  refine if_neg ?_
  rintro ⟨hg, hd⟩
  rcases h with h | h
  · simp [h] at hg
  · simp only [h, Bool.false_eq_true] at hd

theorem refreshWc_empty {s : State} {n : Nat} (h : (s.writeCh n).group = []) :
    (refreshWc s n).get (WC_STATUS_WRITING n) = 0 ∧ (refreshWc s n).get (WC_STATUS_GROUP_LEFT n) = 0 := by
  have hne : (WC_STATUS_WRITING n).key ≠ (WC_STATUS_GROUP_LEFT n).key := by
    simp only [Fld.key, WC_STATUS_WRITING, WC_STATUS_GROUP_LEFT]
    omega
  simp [refreshWc, h, State.get_set_ne _ _ hne]

/-- Settles O25: groups form at TAIL, start on their band and end with TAIL past them. -/
theorem folioGroups : Obligations.FolioGroups := by
  unfold Obligations.FolioGroups
  refine ⟨fun n v s => ⟨_, rfl, fun h => State.clocked_stopped h _, fun h => ?_, .clocked (.set (.refl _ _) _ _ (by simp))⟩,
    fun n s => ⟨_, rfl, fun he hg hq => ⟨?_, ?_, ?_, groupForm_sameFields⟩, groupForm_idle⟩,
    fun n s => ⟨_, rfl, fun d rest he hs hg ht hl hside hr hw => ?_, groupStart_idle⟩,
    fun n s => ⟨_, rfl, fun hg hd => ?_, groupEnd_idle⟩⟩
  · rw [State.clocked_running h, fqHeadWrite, State.get_set]
    exact Nat.mod_eq_of_lt v.isLt
  · rw [groupForm_forms he hg hq, (refreshWc_onlyFields _ _).wc, State.writeCh_set, State.writeCh_modWc]
    exact judge_head ..
  · rw [groupForm_forms he hg hq, (refreshWc_onlyFields _ _).wc, State.writeCh_set, State.writeCh_modWc]
  · rw [groupForm_forms he hg hq, refreshWc_state, State.get_set]
    split <;> rfl
  · have hb : onGroupBand s n = true := by simp [onGroupBand, hg, ht, hl, hside]
    simp only [← Desc.rejudged_eq]
    exact groupStart_effect he hs hb hr hw
  · rw [groupEnd_ends hg hd]
    refine ⟨?_, ?_, ?_, ?_, ?_, ?_, ?_⟩
    · rw [(refreshWc_onlyFields _ _).wc, State.writeCh_set, State.ev, State.writeCh_set, State.writeCh_modWc]
    · rw [(refreshWc_onlyFields _ _).wc, State.writeCh_set, State.ev, State.writeCh_set, State.writeCh_modWc]
    · rw [refreshWc_state, State.get_set]
      rfl
    · rw [refreshWc_get, State.get_set_ne, State.get_ev]
      · simp [WC_EVENT_GROUP_DONE]
      all_goals simp only [Fld.key, WC_EVENT_GROUP_DONE, WC_STATUS_STATE, WC_STATUS_WRITING, WC_STATUS_GROUP_LEFT]; omega
    · exact (refreshWc_empty (by rw [State.writeCh_set, State.ev, State.writeCh_set, State.writeCh_modWc])).2
    · exact (refreshWc_empty (by rw [State.writeCh_set, State.ev, State.writeCh_set, State.writeCh_modWc])).1
    · rw [refreshWc_get, State.get_set_ne, State.get_ev_ne, State.modWc_get, State.get_wrap]
      · rfl
      all_goals simp only [Fld.key, FQ_TAIL_TAIL, WC_EVENT_GROUP_DONE, WC_STATUS_STATE, WC_STATUS_WRITING, WC_STATUS_GROUP_LEFT]; omega

end Sys2Proof.Machine

/-!
Colophon gate and read-back, CAL results, and the gate ledger (R138, R139, R142, R143, R145); the Inkwell's bytes outside a store (R287, R305).
-/

namespace Sys2Proof.Machine

/-! ### ARM of the ECC test -/

/-- A change that leaves the bytes of the Inkwell and the ARM bit of the ECC test, whatever it records (R305). -/
structure MarksOnly (s t : State) : Prop where
  mem : t.mem = s.mem
  arm : t.get INK_ECC_TEST_ARM = s.get INK_ECC_TEST_ARM

namespace MarksOnly

theorem refl (s : State) : MarksOnly s s := ⟨rfl, rfl⟩

theorem trans {s t u : State} (h : MarksOnly s t) (k : MarksOnly t u) : MarksOnly s u := ⟨k.mem.trans h.mem, k.arm.trans h.arm⟩

theorem frame : Frame MarksOnly := ⟨refl, trans⟩

variable {s t : State} (h : MarksOnly s t)
include h

theorem set {f : Fld} (v : Nat) (hf : INK_ECC_TEST_ARM.key ≠ f.key) : MarksOnly s (t.set f v) := ⟨h.mem, (t.get_set_ne v hf).trans h.arm⟩

theorem ev {f : Fld} (hf : INK_ECC_TEST_ARM.key ≠ f.key) : MarksOnly s (t.ev f) := h.set 1 hf

theorem bump {f : Fld} (k : Nat) (hf : INK_ECC_TEST_ARM.key ≠ f.key) : MarksOnly s (t.bump f k) := h.set _ hf

theorem setPoison (b : Nat) (p : Bool) : MarksOnly s (t.setPoison b p) := ⟨h.mem, h.arm⟩

theorem modCh (c : Nat) (f : InkCh → InkCh) : MarksOnly s (t.modCh c f) := ⟨h.mem, h.arm⟩

end MarksOnly

theorem arm_ne_channel (a : Nat) : INK_ECC_TEST_ARM.key ≠ (INK_CH_ERRCNT_CE (channelOf a)).key ∧
    INK_ECC_TEST_ARM.key ≠ (INK_CH_ERRCNT_UE (channelOf a)).key ∧ INK_ECC_TEST_ARM.key ≠ (INK_CH_SCRUB_BUSY (channelOf a)).key := by
  simp only [Fld.key, INK_ECC_TEST_ARM, INK_CH_ERRCNT_CE, INK_CH_ERRCNT_UE, INK_CH_SCRUB_BUSY, inkBase]
  omega

theorem decodeBlock_marksOnly (s : State) (b : Nat) (w : ReadFault) : MarksOnly s (decodeBlock s b w).2.2 :=
  ⟨(decodeBlock_kept memory_kept ⟨rfl, rfl⟩).1, decodeBlock_get s b w⟩

theorem countUe_marksOnly (s : State) : MarksOnly s (countUe s) := by
  unfold countUe
  dsimp only
  split
  · refine MarksOnly.trans (t := { s with ink := { s.ink with ueCount := s.ink.ueCount + 1 } }) ⟨rfl, rfl⟩ (.trans ((MarksOnly.refl _).ev (f := INK_EVENT_UE_RATE) (by decide)) ⟨rfl, rfl⟩)
  · exact ⟨rfl, rfl⟩

theorem logUe_marksOnly (s : State) (r b : Nat) : MarksOnly s (logUe s r b) := by
  unfold logUe
  split
  · exact (MarksOnly.refl s).ev (by decide)
  · exact (((MarksOnly.refl s).set _ (by decide)).set _ (by decide)).set _ (by decide)

theorem addWriteBack_marksOnly (s : State) (a : Nat) (w : WriteBack) : MarksOnly s (addWriteBack s (channelOf a) w) :=
  ((MarksOnly.refl s).modCh _ _).set _ (arm_ne_channel a).2.2

theorem dropWriteBacks_marksOnly (s : State) (b : Nat) : MarksOnly s (dropWriteBacks s b) := by
  unfold dropWriteBacks
  dsimp only
  split
  · exact ((MarksOnly.refl s).modCh _ _).set _ (arm_ne_channel _).2.2
  · exact .refl s

theorem decodeRead_marksOnly (s : State) (r b : Nat) (w : ReadFault) : MarksOnly s (decodeRead s r b w).2.2 := by
  have e := decodeBlock_marksOnly s b w
  have wb : ∀ (s : State) (c : Bool) (x : WriteBack), MarksOnly s (s.iff c fun s => addWriteBack s (channelOf (64 * b)) x) := fun s _ _ =>
    MarksOnly.frame.iff (.refl s) fun _ => addWriteBack_marksOnly _ _ _
  have hc := arm_ne_channel (64 * b)
  unfold decodeRead
  generalize decodeBlock s b w = d at e
  obtain ⟨o, known, t⟩ := d
  dsimp only at e ⊢
  split
  · dsimp only
    exact ((e.bump 1 hc.1).ev (by decide)).trans (wb _ _ _)
  · split
    · dsimp only
      exact ((((e.bump 1 hc.2.1).trans (logUe_marksOnly _ r b)).ev (by decide)).trans (wb _ _ _)).trans (countUe_marksOnly _)
    · exact e

theorem freshBlock_marksOnly (s : State) (b : Nat) : MarksOnly s (freshBlock s b) := (dropWriteBacks_marksOnly s b).trans ⟨rfl, rfl⟩

theorem markBlock_marksOnly (r a n : Nat) (m : Bool) (s : State) (b : Nat) : MarksOnly s (markBlock r a n m s b) := by
  have e := decodeRead_marksOnly s r b .none
  unfold markBlock
  split
  · exact (freshBlock_marksOnly s b).setPoison b _
  · generalize decodeRead s r b .none = d at e
    exact (e.trans (freshBlock_marksOnly _ b)).setPoison b _

theorem markBlocks_marksOnly (s : State) (r a n : Nat) (m : Bool) : MarksOnly s (s.markBlocks r a n m) :=
  MarksOnly.frame.each (.refl s) fun s b _ => markBlock_marksOnly r a n m s b

theorem inkReady_marksOnly (s : State) (a n : Nat) (l : List (BitVec 8)) (m : Bool) : MarksOnly s (inkReady s a n l m) := by
  have hw : MarksOnly s (wakeInk s) := by
    unfold wakeInk
    split
    · exact ((MarksOnly.refl s).set 0 (by decide)).set 3 (by decide)
    · exact .refl s
  refine hw.trans ?_
  unfold inkReady noteEarly
  split
  · exact .refl _
  · exact ⟨rfl, rfl⟩

/-! ### Stores -/

/-- While no ECC test is armed, no byte outside a range changes, and none becomes armed. -/
structure Outside (a n : Nat) (s t : State) : Prop where
  byte : s.get INK_ECC_TEST_ARM = 0 → ∀ c, c < a ∨ a + n ≤ c → t.byte c = s.byte c
  arm : s.get INK_ECC_TEST_ARM = 0 → t.get INK_ECC_TEST_ARM = 0

theorem Outside.refl (a n : Nat) (s : State) : Outside a n s s := ⟨fun _ _ _ => rfl, id⟩

theorem Outside.trans {a n : Nat} {s t u : State} (h : Outside a n s t) (k : Outside a n t u) : Outside a n s u :=
  ⟨fun hs c hc => (k.byte (h.arm hs) c hc).trans (h.byte hs c hc), fun hs => k.arm (h.arm hs)⟩

theorem Outside.frame (a n : Nat) : Frame (Outside a n) := ⟨.refl a n, .trans⟩

/-- What is outside a range is outside any part of it. -/
theorem Outside.mono {a n b m : Nat} {s t : State} (h : Outside b m s t) (hl : a ≤ b) (hr : b + m ≤ a + n) : Outside a n s t :=
  ⟨fun hs c hc => h.byte hs c (by omega), h.arm⟩

theorem MarksOnly.outside {s t : State} (h : MarksOnly s t) (a n : Nat) : Outside a n s t :=
  ⟨fun _ c _ => congrArg (fun m => Store.getD m c unlistedByte) h.mem, h.arm.trans⟩

/-- A change that no register and no byte of the Inkwell shows. -/
theorem Outside.of_hidden {s t : State} (hm : t.mem = s.mem) (hf : t.fld = s.fld) (a n : Nat) : Outside a n s t :=
  MarksOnly.outside ⟨hm, State.get_of_fld hf _⟩ a n

theorem State.putBytes_outside (s : State) (a : Nat) (l : List (BitVec 8)) : Outside a l.length s (s.putBytes a l) :=
  ⟨fun _ _ hc => s.byte_putBytes_ne a l hc, (State.putBytes_get s a l).trans⟩

/-- Entries left out at other keys do not show. -/
theorem Store.find?_filter {α : Type} (m : Store α) {p : Nat × α → Bool} {k : Nat} (h : ∀ x, p (k, x) = true) :
    Store.find? (m.filter p) k = m.find? k := by
  induction m with
  | nil => rfl
  | cons e r ih =>
    obtain ⟨j, x⟩ := e
    by_cases hj : j = k
    · subst hj
      simp [h, Store.find?]
    · by_cases hp : p (j, x) = true <;> simp [hp, Store.find?, hj, ih]

theorem State.byte_zeroBytes_ne (s : State) {a n c : Nat} (h : c < a ∨ a + n ≤ c) : (s.zeroBytes a n).byte c = s.byte c := by
  unfold State.byte State.zeroBytes Store.getD
  rw [Store.find?_filter]
  simp
  omega

theorem testHook_unarmed {s : State} (h : s.get INK_ECC_TEST_ARM = 0) (a n : Nat) (k : State → State) : testHook s a n k = k s := by
  have hoff : s.on INK_ECC_TEST_ARM = false := by simp [State.on, h]
  rw [testHook, hoff, Bool.false_and]
  rfl

theorem Outside.of_unarmed {a n : Nat} {s t : State} (h : s.get INK_ECC_TEST_ARM = 0 → Outside a n s t) : Outside a n s t :=
  ⟨fun hs => (h hs).byte hs, fun hs => (h hs).arm hs⟩

theorem State.inkWrite_outside (s : State) (r a : Nat) (l : List (BitVec 8)) (m : Bool) (h : a + l.length ≤ inkLimit) :
    Outside a l.length s (s.inkWrite r a l m) := by
  refine .of_unarmed fun hs => ?_
  have hready := inkReady_marksOnly s a l.length l m
  rw [State.inkWrite, if_pos h, inkStore, ← inkReady, testHook_unarmed (hready.arm.trans hs)]
  exact ((hready.trans (markBlocks_marksOnly _ _ _ _ _)).outside _ _).trans (State.putBytes_outside _ a l)

theorem State.inkWriteZ_outside (s : State) (r a n : Nat) (l : List (BitVec 8)) (m : Bool) (h : a + n ≤ inkLimit) :
    Outside a n s (s.inkWriteZ r a n l m) := by
  refine .of_unarmed fun hs => ?_
  have hready := inkReady_marksOnly s a n (l.take n) m
  have hzero : ∀ u : State, Outside a n u (u.zeroBytes a n) := fun u => ⟨fun _ _ hc => u.byte_zeroBytes_ne hc, id⟩
  rw [State.inkWriteZ, if_pos h, inkStoreZ, ← inkReady, testHook_unarmed (hready.arm.trans hs)]
  exact (((hready.trans (markBlocks_marksOnly _ _ _ _ _)).outside _ _).trans (hzero _)).trans
    ((State.putBytes_outside _ a (l.take n)).mono le_rfl (by simp))

/-! ### The first descriptor of a group -/

/-- The first descriptor of a group has an index, and no verdict yet. -/
def firstIs (s : State) (n i : Nat) : Prop := ∃ d r, (s.writeCh n).group = d :: r ∧ d.idx = i ∧ d.verdict = none ∧ d.done = false

theorem firstIs.of_wc {s t : State} {n i : Nat} (h : firstIs s n i) (hw : t.writeCh n = s.writeCh n) : firstIs t n i := by
  rw [firstIs, hw]
  exact h

theorem group_modDesc (s : State) (n i : Nat) (f : Desc → Desc) :
    ((modDesc s n i f).writeCh n).group = (s.writeCh n).group.map fun d => if d.idx = i then f d else d := by
  rw [modDesc, State.writeCh_modWc]

theorem firstIs.modDesc {s : State} {n i j : Nat} (h : firstIs s n i) {f : Desc → Desc}
    (hf : ∀ d, (f d).idx = d.idx ∧ (f d).verdict = d.verdict ∧ (f d).done = d.done) : firstIs (modDesc s n j f) n i := by
  obtain ⟨d, r, hg, hi, hv, hd⟩ := h
  obtain ⟨fi, fv, fd⟩ := hf d
  rw [firstIs, group_modDesc, hg, List.map_cons]
  split
  · exact ⟨_, _, rfl, fi.trans hi, fv.trans hv, fd.trans hd⟩
  · exact ⟨_, _, rfl, hi, hv, hd⟩

/-- The first descriptor takes a verdict that is settled for it. -/
theorem firstIs.verdict {s : State} {n i : Nat} (h : firstIs s n i) (v : Nat) :
    (desc? (setVerdict s n i v) n i).map (fun d => d.verdict) = some (some v) := by
  obtain ⟨d, r, hg, hi, hv, hd⟩ := h
  rw [desc?, setVerdict, group_modDesc, hg, List.map_cons, if_pos hi, List.find?_cons]
  simp [hv, hd, hi]

/-! ### The gate -/

theorem colophonGate_closed {n : Nat} {s : State} (h : s.get (WC_STATUS_STATE n) ≠ 4) : colophonGate n s = s := if_neg h

theorem colophonGate_released {n : Nat} {s : State} {d : Desc} {r : List Desc} (h : s.get (WC_STATUS_STATE n) = 4) (hg : (s.writeCh n).group = d :: r)
    (hl : (s.writeCh n).ledger = []) (ho : s.get (WC_GATE_GATE_OVF n) = 0) : colophonGate n s = s.set (WC_STATUS_STATE n) 1 := by
  simp only [colophonGate, if_pos h, hg, hl, ho, List.isEmpty_nil, and_self, if_true]

theorem colophonGate_gated {n : Nat} {s : State} {d : Desc} {r : List Desc} (h : s.get (WC_STATUS_STATE n) = 4) (hg : (s.writeCh n).group = d :: r)
    (hl : (s.writeCh n).ledger ≠ [] ∨ s.get (WC_GATE_GATE_OVF n) ≠ 0) : colophonGate n s = setVerdict s n d.idx stGated := by
  simp only [colophonGate, if_pos h, hg]
  refine if_neg ?_
  rintro ⟨he, ho⟩
  rcases hl with hl | hl
  · exact hl (List.isEmpty_iff.1 he)
  · exact hl ho

/-! ### Read-back -/

/-- A mask put together bit by bit holds the bits that were asked for. -/
theorem testBit_foldl_or (p : Nat → Bool) (l : List Nat) (m i : Nat) :
    (l.foldl (fun m k => if p k then m ||| 2 ^ k else m) m).testBit i = (m.testBit i || (l.contains i && p i)) := by
  induction l generalizing m with
  | nil => simp
  | cons k l ih =>
    rw [List.foldl_cons, ih, List.contains_cons]
    by_cases hk : i = k
    · subst hk
      cases p i <;> simp
    · have hb : (i == k) = false := beq_false_of_ne hk
      cases p k <;> simp [hb, Nat.testBit_two_pow_of_ne (Ne.symm hk)]

theorem Desc.copies_count (d : Desc) :
    popcount 16 d.copies = ((List.range 16).filter fun k => d.mask.testBit k && d.good.getD k 0 == 0xFFFF).length := by
  have hbit : ∀ k ∈ List.range 16, d.copies.testBit k = (d.mask.testBit k && d.good.getD k 0 == 0xFFFF) := by
    intro k hk
    rw [Desc.copies, testBit_foldl_or, List.contains_iff_mem.2 hk]
    simp [Desc.goodAt]
  rw [popcount, List.filter_congr hbit]

theorem Desc.nibs_solo {d : Desc} (h : d.kind = 3) : d.nibs = (List.range 16).filter d.mask.testBit := by
  simp [Desc.nibs, Desc.solo, h]

/-- The read-back of a Colophon all of whose copies have been judged. -/
theorem colophonReadback_judged {n : Nat} {s : State} {d : Desc} {r : List Desc} (hg : (s.writeCh n).group = d :: r) (hk : d.kind = 3)
    (hv : d.verdict = none) (hd : d.done = false) (hs : (s.writeCh n).started = true) (hb : d.burned = d.mask)
    (hj : ∀ k, k < 16 → d.mask.testBit k = true → d.judged.getD k 0 = 0xFFFF) :
    colophonReadback n s = setVerdict ((modDesc s n d.idx fun e => { e with pass := d.copies }).bump (WC_CNT_FAIL_VERIFY_FAIL n)
      (popcount 16 (d.mask ^^^ d.copies))) n d.idx
        (if max 1 (s.get (WC_CTRL_COL_QUORUM n)) ≤ popcount 16 d.copies then stOk else stColFail) := by
  have hall : (d.nibs.all fun k => d.judgedAt k == 0xFFFF) = true := by
    rw [Desc.nibs_solo hk, List.all_eq_true]
    intro k hm
    obtain ⟨hr, ht⟩ := List.mem_filter.1 hm
    simpa [Desc.judgedAt] using hj k (List.mem_range.1 hr) ht
  have hq : ((modDesc s n d.idx fun e => { e with pass := d.copies }).bump (WC_CNT_FAIL_VERIFY_FAIL n)
      (popcount 16 (d.mask ^^^ d.copies))).get (WC_CTRL_COL_QUORUM n) = s.get (WC_CTRL_COL_QUORUM n) := by
    refine State.get_bump_ne _ _ ?_
    simp only [Fld.key, WC_CTRL_COL_QUORUM, WC_CNT_FAIL_VERIFY_FAIL]
    omega
  simp only [colophonReadback, hg]
  rw [if_pos ⟨hk, by rw [hv]; rfl, hd, hs, hb, hall⟩, hq]

/-! ### Calibration results -/

theorem length_leBytes (n v : Nat) : (leBytes n v).length = n := by
  induction n generalizing v with
  | zero => rfl
  | succ n ih => exact congrArg (· + 1) (ih _)

theorem length_calBytes (c : CalCw) (b : Int) : (calBytes c b).length = 8 := by
  simp [calBytes, length_leBytes]

/-- One codeword joins those with a beta. -/
def addBeta (a : List (CalCw × Int) × State) (c : CalCw) : List (CalCw × Int) × State := (a.1 ++ [(c, (calBeta a.2 c).1)], (calBeta a.2 c).2)

theorem calBetas_eq (s : State) (l : List CalCw) : calBetas s l = l.foldl addBeta ([], s) := rfl

theorem length_foldl_addBeta (l : List CalCw) (a : List (CalCw × Int) × State) : (l.foldl addBeta a).1.length = a.1.length + l.length := by
  induction l generalizing a with
  | nil => rfl
  | cons c l ih =>
    rw [List.foldl_cons, ih, addBeta, List.length_append, List.length_singleton, List.length_cons]
    omega

theorem length_calBetas (s : State) (l : List CalCw) : (calBetas s l).1.length = l.length := by
  rw [calBetas_eq, length_foldl_addBeta]
  exact Nat.zero_add _

/-- What the measures of a CAL leave: register fields, the Inkwell and the write channel. -/
structure FreeOnly (s t : State) : Prop where
  eq : { t with freeCtr := s.freeCtr } = s

theorem FreeOnly.refl (s : State) : FreeOnly s s := ⟨rfl⟩

theorem FreeOnly.trans {s t u : State} (h : FreeOnly s t) (k : FreeOnly t u) : FreeOnly s u := by
  refine ⟨?_⟩
  calc { u with freeCtr := s.freeCtr } = { { u with freeCtr := t.freeCtr } with freeCtr := s.freeCtr } := rfl
    _ = s := by rw [k.eq, h.eq]

theorem divFree_freeOnly (s : State) (a : Int) (d : Nat) : FreeOnly s (s.divFree a d).2 := by
  unfold State.divFree
  split
  · exact ⟨rfl⟩
  · split <;> exact ⟨rfl⟩

theorem calBetas_freeOnly (s : State) (l : List CalCw) : FreeOnly s (calBetas s l).2 := by
  rw [calBetas_eq]
  suffices ∀ a : List (CalCw × Int) × State, FreeOnly s a.2 → FreeOnly s (l.foldl addBeta a).2 from this _ (.refl s)
  induction l with
  | nil => exact fun a h => h
  | cons c l ih => exact fun a h => ih _ (h.trans (divFree_freeOnly _ _ _))

theorem quotFree_freeOnly (s : State) (a b : Int) : FreeOnly s (quotFree s a b).2 := by
  unfold quotFree
  split
  · exact .refl s
  · split <;> exact ⟨rfl⟩

theorem proposed_freeOnly (s : State) (p : Nat) (target : Int) (l : List (CalCw × Int)) : FreeOnly s (proposed s p target l).2 := by
  unfold proposed
  split
  · exact .refl s
  · exact quotFree_freeOnly _ _ _

theorem FreeOnly.wc {s t : State} (h : FreeOnly s t) (n : Nat) : t.writeCh n = s.writeCh n := (congrArg (fun u : State => u.writeCh n) h.eq :)

theorem FreeOnly.outside {s t : State} (h : FreeOnly s t) (a n : Nat) : Outside a n s t :=
  .of_hidden (t := t) (congrArg State.mem h.eq :) (congrArg State.fld h.eq :) a n

theorem modDesc_outside (s : State) (n i : Nat) (f : Desc → Desc) (a m : Nat) : Outside a m s (modDesc s n i f) :=
  .of_hidden (s := s) (t := modDesc s n i f) rfl rfl a m

theorem modDesc_sameFields (s : State) (n i : Nat) (f : Desc → Desc) : SameFields [] s (modDesc s n i f) := .of_fld (t := modDesc s n i f) rfl

theorem setVerdict_byte (s : State) (n i v a : Nat) : (setVerdict s n i v).byte a = s.byte a := (rfl)

/-- The measures of a nib and the power they propose (R137, R139). -/
def calMeasures (n k : Nat) (target : Int) (l : List CalCw) (s : State) : List (CalCw × Int) × Option Int × State :=
  let b := calBetas s (l.take 16)
  (b.1, proposed b.2 ((b.2.writeCh n).power.getD k 0) target b.1)

theorem calMeasures_freeOnly (n k : Nat) (target : Int) (l : List CalCw) (s : State) : FreeOnly s (calMeasures n k target l s).2.2 :=
  (calBetas_freeOnly s _).trans (proposed_freeOnly _ _ _ _)

/-- The bytes of a nib's CAL result (R138). -/
def calResult (m : List (CalCw × Int) × Option Int × State) (count : Nat) : List (BitVec 8) :=
  (m.1.flatMap fun x => calBytes x.1 x.2) ++ List.replicate (128 - 8 * min 16 count) 0 ++ leBytes 2 (m.2.1.getD 0).toNat
    ++ leBytes 1 (if m.2.1.isSome then 1 else 0)

theorem length_calResult (n k : Nat) (target : Int) (l : List CalCw) (s : State) : (calResult (calMeasures n k target l s) l.length).length = 131 := by
  have hl : (calMeasures n k target l s).1.length = min 16 l.length := by
    rw [calMeasures, length_calBetas, List.length_take]
  have hf : ((calMeasures n k target l s).1.flatMap fun x => calBytes x.1 x.2).length = 8 * min 16 l.length := by
    rw [List.length_flatMap, ← hl]
    simp [length_calBytes, Nat.mul_comm]
  simp only [calResult, List.length_append, hf, List.length_replicate, length_leBytes]
  omega

/-- A nib's CAL result is written where the data address says, and noted with its descriptor (R138). -/
def calNib (n : Nat) (d : Desc) (target : Int) (s : State) (e : Nat × List CalCw) : State :=
  let m := calMeasures n e.1 target e.2 s
  if d.mask.testBit e.1 then
    modDesc (m.2.2.inkWrite (16 + n) (d.data + 256 * e.1) (calResult m e.2.length) false) n d.idx fun d =>
      { d with pass := if m.2.1.isSome then d.pass ||| 2 ^ e.1 else d.pass, maxIter := e.2.foldl (fun m c => max m (calIters c)) d.maxIter }
  else s

theorem calNib_outside {n : Nat} {d : Desc} (h : d.data + 4096 ≤ inkLimit) (target : Int) (s : State) {e : Nat × List CalCw} (he : e.1 < 16) :
    Outside d.data 4096 s (calNib n d target s e) := by
  unfold calNib
  dsimp only
  split
  · have hlen := length_calResult n e.1 target e.2 s
    have hw := State.inkWrite_outside (calMeasures n e.1 target e.2 s).2.2 (16 + n) (d.data + 256 * e.1)
      (calResult (calMeasures n e.1 target e.2 s) e.2.length) false (by omega)
    refine .trans ((calMeasures_freeOnly n e.1 target e.2 s).outside _ _) (.trans (hw.mono (by omega) (by omega)) (modDesc_outside _ _ _ _ _ _))
  · exact .refl _ _ _

theorem calNib_firstIs {n i : Nat} {d : Desc} {target : Int} {s : State} (h : firstIs s n i) (e : Nat × List CalCw) :
    firstIs (calNib n d target s e) n i := by
  unfold calNib
  dsimp only
  split
  · refine firstIs.modDesc (h.of_wc ?_) fun d => ⟨rfl, rfl, rfl⟩
    exact ((inkWrite_inkHidden _ _ _ _ _).writeCh n).trans ((calMeasures_freeOnly n e.1 target e.2 s).wc n)
  · exact h

theorem calReadback_burned {n : Nat} {s : State} {d : Desc} {r : List Desc} (hg : (s.writeCh n).group = d :: r) (hk : d.kind = 4)
    (hv : d.verdict = none) (hd : d.done = false) (hs : (s.writeCh n).started = true) (hb : d.burned = d.mask) (nibs : List (List CalCw)) :
    calReadback n nibs s = setVerdict ((s.inkWriteZ (16 + n) d.data 4096 [] false).each ((List.range 16).zip nibs)
      (calNib n d (toSigned 16 (s.get (WC_CAL_BETA_TARGET n))))) n d.idx stOk := by
  simp only [calReadback, hg]
  rw [if_pos ⟨hk, by rw [hv]; rfl, hd, hs, hb⟩]
  rfl

/-! ### GATE_CLR -/

theorem ledgerEmpty_sameFields (s : State) (n : Nat) : SameFields [WC_GATE_ENTRIES n] s (ledgerEmpty s n) :=
  SameFields.set (.of_fld (t := s.modWc n fun w => { w with ledger := [] }) rfl) (WC_GATE_ENTRIES n) _ (by simp)

theorem ledgerEmpty_ledger (s : State) (n : Nat) : ((ledgerEmpty s n).writeCh n).ledger = [] := by
  rw [ledgerEmpty, refreshGate, State.writeCh_set, State.writeCh_modWc]

theorem ledgerEmpty_entries (s : State) (n : Nat) : (ledgerEmpty s n).get (WC_GATE_ENTRIES n) = 0 := by
  rw [ledgerEmpty, refreshGate, State.get_set, State.writeCh_modWc]
  rfl

theorem gateClr_effect (n : Nat) (s : State) : ((gateClr n s).writeCh n).ledger = [] ∧ (gateClr n s).get (WC_GATE_GATE_OVF n) = 0
    ∧ (gateClr n s).get (WC_GATE_ENTRIES n) = 0 := by
  refine ⟨?_, ?_, ?_⟩
  · rw [gateClr, State.writeCh_set, ledgerEmpty_ledger]
  · rw [gateClr, State.get_set]
    rfl
  · rw [gateClr, State.get_set_ne, ledgerEmpty_entries]
    simp only [Fld.key, WC_GATE_ENTRIES, WC_GATE_GATE_OVF]
    omega

theorem gateClr_sameFields (n : Nat) (s : State) : SameFields [WC_GATE_GATE_OVF n, WC_GATE_ENTRIES n] s (gateClr n s) :=
  SameFields.set ((ledgerEmpty_sameFields s n).mono (by simp)) (WC_GATE_GATE_OVF n) 0 (by simp)

/-- Settles O28: the gate, the read-back's quorum, the bytes of a CAL result, and GATE_CLR. -/
theorem colophons : Obligations.Colophons := by
  unfold Obligations.Colophons
  refine ⟨fun n s => ⟨_, rfl, colophonGate_closed, fun d r h hg => ⟨fun hl ho => ?_, fun hl hv hd => ?_⟩⟩,
    fun n s => ⟨_, rfl, fun d r hg hk hv hd hs hb hj => ?_⟩, fun n nibs s => ⟨_, rfl, fun d r hg hk hv hd hs hb ha hi => ?_⟩,
    fun n s => ⟨_, rfl, fun h => State.clocked_stopped h _, fun h => ?_, ?_, ?_⟩⟩
  · rw [colophonGate_released h hg hl ho]
    exact ⟨State.get_set _ _ _, .set (.refl _ _) _ _ (by simp)⟩
  · rw [colophonGate_gated h hg hl]
    exact ⟨firstIs.verdict ⟨d, r, hg, rfl, hv, hd⟩ _, rfl⟩
  · rw [colophonReadback_judged hg hk hv hd hs hb hj, ← Desc.copies_count]
    have hfirst : firstIs s n d.idx := ⟨d, r, hg, rfl, hv, hd⟩
    have hpass := hfirst.modDesc (j := d.idx) (f := fun e => { e with pass := d.copies }) fun _ => ⟨rfl, rfl, rfl⟩
    have hsame := modDesc_sameFields s n d.idx fun e => { e with pass := d.copies }
    generalize modDesc s n d.idx _ = u at hpass hsame ⊢
    refine ⟨firstIs.verdict (hpass.of_wc (u.writeCh_set _ _ _)) _, ?_⟩
    exact ((hsame.mono (by simp)).set (WC_CNT_FAIL_VERIFY_FAIL n) _ (by simp)).trans ((modDesc_sameFields _ _ _ _).mono (by simp))
  · rw [calReadback_burned hg hk hv hd hs hb]
    have hfirst : firstIs s n d.idx := ⟨d, r, hg, rfl, hv, hd⟩
    have hzero := State.inkWriteZ_outside s (16 + n) d.data 4096 [] false hi
    have hnibs := (Outside.frame d.data 4096).each (l := (List.range 16).zip nibs) hzero fun u e he =>
      calNib_outside (n := n) hi (toSigned 16 (s.get (WC_CAL_BETA_TARGET n))) u (List.mem_range.1 (List.of_mem_zip he).1)
    have hkept := State.each_inv (P := fun u => firstIs u n d.idx) (l := (List.range 16).zip nibs)
      (hfirst.of_wc ((inkWriteZ_inkHidden s (16 + n) d.data 4096 [] false).writeCh n))
      fun u e _ h => calNib_firstIs (d := d) (target := toSigned 16 (s.get (WC_CAL_BETA_TARGET n))) h e
    refine ⟨hkept.verdict _, fun a hout => ?_⟩
    rw [setVerdict_byte]
    exact hnibs.byte ha a hout
  · rw [State.clocked_running h]
    exact gateClr_effect n s
  · exact State.clocked_of (P := SameMemory s) (.refl s) (.of_mem rfl rfl)
  · exact State.clocked_of (P := SameFields _ s) (.refl _ s) (gateClr_sameFields n s)

end Sys2Proof.Machine

/-!
Strategy tables, HALT, disabling and WRITE_HOLD (R133, R134, R136, R143, R151, R268, R272); the fields that a cut group reaches.
-/

namespace Sys2Proof.Machine

/-! ### Fields that a completing descriptor reaches (R125, R128, R143) -/

/-- Register fields outside the Inkwell's block and outside a list are as before. -/
structure SameBut (but : List Fld) (s t : State) : Prop where
  get : ∀ f, notInk f → (∀ g ∈ but, f.key ≠ g.key) → t.get f = s.get f

namespace SameBut

variable {but : List Fld}

theorem refl (but : List Fld) (s : State) : SameBut but s s := ⟨fun _ _ _ => rfl⟩

theorem trans {s t u : State} (h : SameBut but s t) (k : SameBut but t u) : SameBut but s u :=
  ⟨fun f hi hf => (k.get f hi hf).trans (h.get f hi hf)⟩

theorem frame (but : List Fld) : Frame (SameBut but) := ⟨refl but, trans⟩

variable {s t : State} (h : SameBut but s t)
include h

theorem set (f : Fld) (v : Nat) (hf : f ∈ but) : SameBut but s (t.set f v) :=
  h.trans ⟨fun _ _ hg => t.get_set_ne v (hg f hf)⟩

theorem ev (f : Fld) (hf : f ∈ but) : SameBut but s (t.ev f) := h.set f 1 hf

theorem bump (f : Fld) (k : Nat) (hf : f ∈ but) : SameBut but s (t.bump f k) := h.set f _ hf

theorem modWc (n : Nat) (f : Wc → Wc) : SameBut but s (t.modWc n f) := ⟨fun g hi hg => (t.modWc_get n f g).trans (h.get g hi hg)⟩

theorem modDesc (n i : Nat) (f : Desc → Desc) : SameBut but s (modDesc t n i f) := h.modWc n _

theorem inkWrite (r a : Nat) (l : List (BitVec 8)) (m : Bool) : SameBut but s (t.inkWrite r a l m) :=
  h.trans ⟨fun _ hi _ => t.inkWrite_get r a l m hi⟩

end SameBut

theorem OnlyFields.sameBut {l m : List Fld} {s t : State} (h : OnlyFields l s t) (hs : l ⊆ m) : SameBut m s t :=
  ⟨fun _ _ hf => h.1.get fun g hg => hf g (hs hg)⟩

/-- The fields outside the Inkwell that completing the descriptors of pen n reaches. -/
def completedOf (n : Nat) : List Fld :=
  [WC_CNT_FAIL_ABORTED n, WC_GATE_GATE_OVF n, WC_GATE_ENTRIES n, WC_EVENT_GATE_OVF n, WC_EVENT_DESC_DONE n, WC_EVENT_CUT n, WC_EVENT_DESC_ERR n,
    WC_EVENT_GATED n, WC_EVENT_COL_PASS n, WC_EVENT_COL_FAIL n, WC_EVENT_CAL_DONE n, WC_STATUS_WRITING n, WC_STATUS_GROUP_LEFT n]
    ++ (List.range 128).map SEC_SLOT_IN_USE

theorem ledgerEmpty_sameBut (s : State) (n : Nat) : SameBut (completedOf n) s (ledgerEmpty s n) :=
  SameBut.set (.modWc (.refl _ s) n _) (WC_GATE_ENTRIES n) _ (by simp [completedOf])

theorem ledgerRemove_sameBut (s : State) (n pfa : Nat) : SameBut (completedOf n) s (ledgerRemove s n pfa) :=
  SameBut.set (.modWc (.refl _ s) n _) (WC_GATE_ENTRIES n) _ (by simp [completedOf])

theorem ledgerAdd_sameBut (s : State) (n pfa : Nat) (r : Bool) : SameBut (completedOf n) s (ledgerAdd s n pfa r) := by
  unfold ledgerAdd
  dsimp only
  split
  · exact .modWc (.refl _ s) n _
  · split
    · exact ((SameBut.refl _ s).set _ _ (by simp [completedOf])).ev _ (by simp [completedOf])
    · exact SameBut.set (.modWc (.refl _ s) n _) (WC_GATE_ENTRIES n) _ (by simp [completedOf])

theorem ledgerUpdate_sameBut (s : State) (n : Nat) (d : Desc) (v : Nat) : SameBut (completedOf n) s (ledgerUpdate s n d v) := by
  unfold ledgerUpdate
  generalize originalPfa s d = p
  obtain ⟨pfa, copy⟩ := p
  dsimp only
  split
  · split
    · exact ledgerEmpty_sameBut s n
    · exact .refl _ s
  · split
    · split
      · exact ledgerAdd_sameBut s n pfa true
      · split
        · exact ledgerAdd_sameBut s n pfa false
        · split
          · split
            · exact ledgerRemove_sameBut s n pfa
            · split
              · exact ledgerRemove_sameBut s n pfa
              · exact .refl _ s
          · exact .refl _ s
    · exact .refl _ s

theorem countRelocation_fld (s : State) (d : Desc) (p : Bool) : (countRelocation s d p).fld = s.fld := by
  unfold countRelocation
  dsimp only
  split
  · split <;> rfl
  · rfl

theorem SameBut.of_fld {but : List Fld} {s t : State} (h : t.fld = s.fld) : SameBut but s t := ⟨fun f _ _ => State.get_of_fld h f⟩

theorem refreshWc_sameBut (s : State) (n : Nat) : SameBut (completedOf n) s (refreshWc s n) :=
  (refreshWc_onlyFields s n).sameBut (by simp [completedOf])

theorem refreshInUse_sameBut (s : State) (n k : Nat) : SameBut (completedOf n) s (refreshInUse s k) :=
  (refreshInUse_onlyFields s k).sameBut (List.subset_append_right _ _)

theorem SameBut.iff_ev {but : List Fld} {s t : State} (h : SameBut but s t) (c : Bool) (f : Fld) (hf : f ∈ but) :
    SameBut but s (t.iff c fun s => s.ev f) := (SameBut.frame but).iff h fun _ => (SameBut.refl but t).ev f hf

theorem completeDesc_sameBut (s : State) (n i : Nat) : SameBut (completedOf n) s (completeDesc s n i) := by
  unfold completeDesc
  split
  · exact .refl _ s
  · next d _ =>
    split
    · exact .refl _ s
    · next v _ =>
      split
      · exact .refl _ s
      · dsimp only
        refine .trans ?_ (refreshInUse_sameBut _ n d.key)
        refine .trans ?_ (refreshWc_sameBut _ n)
        iterate 7 refine SameBut.iff_ev ?_ _ _ (by simp [completedOf])
        refine .trans (.trans ?_ (ledgerUpdate_sameBut _ n d v)) (.of_fld (countRelocation_fld _ _ _))
        exact (((SameBut.refl _ s).inkWrite _ _ _ _).modDesc _ _ _)

theorem cutGroup_sameBut (s : State) (n : Nat) : SameBut (completedOf n) s (cutGroup s n) := by
  refine .trans ((SameBut.frame _).each (.refl _ s) fun s d _ => ?_) (refreshWc_sameBut _ n)
  split
  · exact .refl _ s
  · exact (((SameBut.refl _ s).bump _ _ (by simp [completedOf])).modDesc _ _ _).trans (completeDesc_sameBut _ _ _)

theorem stopGroup_sameBut (s : State) (n : Nat) : SameBut (completedOf n) s (stopGroup s n) :=
  .trans ((SameBut.frame _).iff (.refl _ s) fun _ => .of_fld rfl) (cutGroup_sameBut _ n)

/-- Where the fields that a completing descriptor reaches lie: from STATUS to the counters of the write channel, or among the key slots. -/
theorem completedOf_range {n : Nat} : ∀ g ∈ completedOf n, ((wcBase n + 0x30) * 64 ≤ g.key ∧ g.key < (wcBase n + 0x100) * 64)
    ∨ (secBase * 64 ≤ g.key ∧ g.key < (secBase + 0x10000) * 64) := by
  rw [completedOf, List.forall_mem_append]
  refine ⟨?_, ?_⟩
  · simp only [List.forall_mem_cons, Fld.key, WC_CNT_FAIL_ABORTED, WC_GATE_GATE_OVF, WC_GATE_ENTRIES, WC_EVENT_GATE_OVF, WC_EVENT_DESC_DONE,
      WC_EVENT_CUT, WC_EVENT_DESC_ERR, WC_EVENT_GATED, WC_EVENT_COL_PASS, WC_EVENT_COL_FAIL, WC_EVENT_CAL_DONE, WC_STATUS_WRITING,
      WC_STATUS_GROUP_LEFT]
    simp
    omega
  · intro g hg
    obtain ⟨k, hk, rfl⟩ := List.mem_map.1 hg
    have := List.mem_range.1 hk
    simp only [Fld.key, SEC_SLOT_IN_USE]
    omega

/-- The fields of the write channel's control registers are outside the Inkwell and none that a completing descriptor reaches. -/
theorem control_get {s t : State} {n : Nat} (h : SameBut (completedOf n) s t) :
    t.get (WC_CTRL_HALT n) = s.get (WC_CTRL_HALT n) ∧ t.get (WC_CTRL_ENABLE n) = s.get (WC_CTRL_ENABLE n)
      ∧ t.get (RUL_STATUS_STATE n) = s.get (RUL_STATUS_STATE n) := by
  have hi : notInk (WC_CTRL_HALT n) ∧ notInk (WC_CTRL_ENABLE n) ∧ notInk (RUL_STATUS_STATE n) := by
    simp only [notInk, Fld.block, Fld.key, WC_CTRL_HALT, WC_CTRL_ENABLE, RUL_STATUS_STATE, wcBase, rulBase, penBase]
    omega
  have hk : ∀ g ∈ completedOf n, (WC_CTRL_HALT n).key ≠ g.key ∧ (WC_CTRL_ENABLE n).key ≠ g.key ∧ (RUL_STATUS_STATE n).key ≠ g.key := by
    intro g hg
    have := completedOf_range g hg
    simp only [Fld.key, WC_CTRL_HALT, WC_CTRL_ENABLE, RUL_STATUS_STATE, wcBase, rulBase, penBase, secBase] at this ⊢
    omega
  exact ⟨h.get _ hi.1 fun g hg => (hk g hg).1, h.get _ hi.2.1 fun g hg => (hk g hg).2.1, h.get _ hi.2.2 fun g hg => (hk g hg).2.2⟩

/-! ### HALT -/

theorem haltWrite_set {n : Nat} {s : State} :
    haltWrite n true s = (s.set (WC_CTRL_HALT n) 1).iff (s.writeCh n).started fun s => s.set (WC_STATUS_STATE n) 3 := rfl

theorem haltWrite_set_onlyFields (n : Nat) (s : State) : OnlyFields [WC_CTRL_HALT n, WC_STATUS_STATE n] s (haltWrite n true s) :=
  haltWrite_set ▸ (OnlyFields.frame [WC_CTRL_HALT n, WC_STATUS_STATE n]).iff (.set (.refl _ s) (WC_CTRL_HALT n) 1 (by simp)) fun _ => .set (.refl _ _) (WC_STATUS_STATE n) 3 (by simp)

theorem WC_STATUS_STATE_ne_halt (n : Nat) : (WC_CTRL_HALT n).key ≠ (WC_STATUS_STATE n).key := by
  simp only [Fld.key, WC_CTRL_HALT, WC_STATUS_STATE]
  omega

theorem haltWrite_set_state (n : Nat) (s : State) :
    (haltWrite n true s).get (WC_STATUS_STATE n) = if (s.writeCh n).started then 3 else s.get (WC_STATUS_STATE n) := by
  rw [haltWrite_set, State.get_iff, State.get_set, State.get_set_ne _ _ (WC_STATUS_STATE_ne_halt n).symm]
  simp [WC_STATUS_STATE]

/-- HALT reads as it was written, whatever becomes of the group. -/
theorem haltWrite_halt (n : Nat) (set : Bool) (s : State) : (haltWrite n set s).get (WC_CTRL_HALT n) = if set then 1 else 0 := by
  have hs : ∀ (s : State) v, (s.set (WC_STATUS_STATE n) v).get (WC_CTRL_HALT n) = s.get (WC_CTRL_HALT n) := fun s v =>
    s.get_set_ne v (WC_STATUS_STATE_ne_halt n)
  have hh : ∀ v, (s.set (WC_CTRL_HALT n) v).get (WC_CTRL_HALT n) = v % 2 := fun v => s.get_set _ v
  cases set with
  | true =>
    rw [haltWrite_set, State.get_iff_of _ _ _ (hs _ 3)]
    exact hh 1
  | false =>
    unfold haltWrite
    dsimp only
    rw [if_neg Bool.false_ne_true]
    split
    · split
      · exact (hs _ _).trans (hh 0)
      · exact (control_get (cutGroup_sameBut _ n)).1.trans ((hs _ _).trans (hh 0))
    · exact hh 0

theorem onGroupBand_halt (n v : Nat) (s : State) : onGroupBand (s.set (WC_CTRL_HALT n) v) n = onGroupBand s n := by
  have hr : ∀ f : Fld, f.block = (RUL_BAND_TRACK n).block → (s.set (WC_CTRL_HALT n) v).get f = s.get f := fun f hf =>
    s.get_set_block v (by
      rw [hf]
      simp only [Fld.block, Fld.key, RUL_BAND_TRACK, WC_CTRL_HALT, rulBase, wcBase, penBase]
      omega)
  simp only [onGroupBand, State.writeCh_set]
  rw [hr _ rfl, hr (RUL_BAND_LAYER n), hr (RUL_BAND_SIDE n)]
  all_goals simp only [Fld.block, Fld.key, RUL_BAND_TRACK, RUL_BAND_LAYER, RUL_BAND_SIDE]; omega

theorem haltWrite_resumes {n : Nat} {s : State} (hs : (s.writeCh n).started = true) (hb : onGroupBand s n = true) :
    haltWrite n false s = (s.set (WC_CTRL_HALT n) 0).set (WC_STATUS_STATE n) 2 := by
  unfold haltWrite
  dsimp only
  rw [if_neg Bool.false_ne_true, if_pos hs, if_pos ((onGroupBand_halt n 0 s).trans hb)]

/-! ### Disabling -/

theorem wcDisable_effect (n : Nat) (s : State) : (wcDisable n s).get (WC_CTRL_ENABLE n) = 0 ∧ ((wcDisable n s).writeCh n).ledger = []
    ∧ (wcDisable n s).get (WC_GATE_ENTRIES n) = 0 ∧ (wcDisable n s).get (RUL_STATUS_STATE n) = s.get (RUL_STATUS_STATE n) := by
  have hstop := stopGroup_sameBut (s.set (WC_CTRL_ENABLE n) 0) n
  obtain ⟨-, he, hr⟩ := control_get (hstop.trans (ledgerEmpty_sameBut _ n))
  refine ⟨?_, ledgerEmpty_ledger _ n, ledgerEmpty_entries _ n, ?_⟩
  · rw [wcDisable, he, State.get_set]
    rfl
  · rw [wcDisable, hr, State.get_set_ne]
    simp only [Fld.key, RUL_STATUS_STATE, WC_CTRL_ENABLE, rulBase, wcBase, penBase]
    omega

/-! ### Loads of a strategy table -/

/-- The nib and the table that a load names. -/
def loadNamed (n value : Nat) (s : State) : State := (s.set (WC_WS_LOAD_NIB n) (value / 16)).set (WC_WS_LOAD_TABLE n) value

/-- A load starts: its table is read, and its 320 bytes are held for the pen. -/
def loadBegun (n k t a : Nat) (s : State) : State :=
  let s := s.reads (16 + n) a
  ((s.set (WC_WS_LOAD_START n) 1).set (WC_WS_LOAD_DONE n) 0).modWc n fun w => { w with loading := some (k, t, s.bytesAt a 320) }

theorem loadNamed_names (n value : Nat) (s : State) :
    (loadNamed n value s).get (WC_WS_LOAD_NIB n) = value / 16 % 16 ∧ (loadNamed n value s).get (WC_WS_LOAD_TABLE n) = value % 4 := by
  refine ⟨?_, State.get_set _ _ _⟩
  rw [loadNamed, State.get_set_ne, State.get_set]
  · rfl
  · simp only [Fld.key, WC_WS_LOAD_NIB, WC_WS_LOAD_TABLE]
    omega

theorem loadNamed_onlyFields (n value : Nat) (s : State) : OnlyFields [WC_WS_LOAD_NIB n, WC_WS_LOAD_TABLE n] s (loadNamed n value s) :=
  .set (.set (.refl _ s) _ _ (by simp)) _ _ (by simp)

theorem wsLoad_named {n value : Nat} {s : State} (h : value.testBit 30 = false) : wsLoad n value s = loadNamed n value s := by
  simp only [wsLoad, h, Bool.false_eq_true, if_false, loadNamed]

/-- A table is selected for a layer of a group that has started (R134). -/
def tableInUse (s : State) (n t : Nat) : Prop :=
  (s.writeCh n).started = true ∧ ∃ d ∈ (s.writeCh n).group, s.get (WC_WS_SEL_SEL n) / 4 ^ d.layer % 4 = t

/-- Naming a nib and a table changes nothing of what is in use. -/
theorem loadNamed_inUse (n value : Nat) (s : State) {t : Nat} :
    (((loadNamed n value s).writeCh n).started && ((loadNamed n value s).writeCh n).group.any fun d =>
      (loadNamed n value s).get (WC_WS_SEL_SEL n) / 4 ^ d.layer % 4 == t) = true ↔ tableInUse s n t := by
  have hsel : (loadNamed n value s).get (WC_WS_SEL_SEL n) = s.get (WC_WS_SEL_SEL n) := by
    refine (loadNamed_onlyFields n value s).1.get ?_
    simp only [List.forall_mem_cons, Fld.key, WC_WS_SEL_SEL, WC_WS_LOAD_NIB, WC_WS_LOAD_TABLE]
    simp
    omega
  rw [(loadNamed_onlyFields n value s).wc n, hsel, Bool.and_eq_true, List.any_eq_true]
  simp only [beq_iff_eq, tableInUse]

/-- The load is refused: its table is selected for a layer of a group that has started (R134). -/
theorem wsLoad_refused {n value : Nat} {s : State} (h : value.testBit 30 = true) (hs : tableInUse s n (value % 4)) :
    wsLoad n value s = wsLoadEnd n false ((loadNamed n value s).set (WC_WS_LOAD_DONE n) 0) := by
  have hn := loadNamed_names n value s
  unfold wsLoad
  rw [← loadNamed]
  simp only [h, if_true]
  rw [if_pos (by rw [hn.2]; exact (loadNamed_inUse n value s).2 hs)]

/-- Where a strategy table lies in the Inkwell (R133). -/
def tableAddr (s : State) (n k t : Nat) : Nat := s.get (WC_WS_BASE_BASE n) * 2 ^ 12 + 512 * (4 * k + t)

/-- The load starts: the table at its place in the array is read, and goes to a pen that is claimed. -/
theorem wsLoad_begins {n value : Nat} {s : State} (h : value.testBit 30 = true) (hs : ¬ tableInUse s n (value % 4)) {u : State}
    (hu : u = loadBegun n (value / 16 % 16) (value % 4) (tableAddr s n (value / 16 % 16) (value % 4)) (loadNamed n value s)) :
    wsLoad n value s = u.iff (claims u n) fun s' => sendTable s' n (value / 16 % 16) (value % 4)
      (s'.bytesAt (tableAddr s n (value / 16 % 16) (value % 4)) 320) := by
  have hn := loadNamed_names n value s
  have hbase : (loadNamed n value s).get (WC_WS_BASE_BASE n) = s.get (WC_WS_BASE_BASE n) := by
    refine (loadNamed_onlyFields n value s).1.get ?_
    simp only [List.forall_mem_cons, Fld.key, WC_WS_BASE_BASE, WC_WS_LOAD_NIB, WC_WS_LOAD_TABLE]
    simp
    omega
  unfold wsLoad
  rw [← loadNamed]
  simp only [h, if_true]
  rw [if_neg (by rw [hn.2]; exact fun hu => hs ((loadNamed_inUse n value s).1 hu)), hn.1, hn.2, hbase, hu]
  rfl

/-- A field that a load does not name is as before it starts. -/
theorem loadBegun_get (n k t a : Nat) (s : State) {f : Fld} (hi : notInk f) (hs : f.key ≠ (WC_WS_LOAD_START n).key)
    (hd : f.key ≠ (WC_WS_LOAD_DONE n).key) : (loadBegun n k t a s).get f = s.get f := by
  rw [loadBegun, State.modWc_get, State.get_set_ne _ _ hd, State.get_set_ne _ _ hs, (s.reads_onlyFields _ _).get_addrErr hi]

theorem loadBegun_start (n k t a : Nat) (s : State) :
    (loadBegun n k t a s).get (WC_WS_LOAD_START n) = 1 ∧ (loadBegun n k t a s).get (WC_WS_LOAD_DONE n) = 0 := by
  refine ⟨?_, ?_⟩
  · rw [loadBegun, State.modWc_get, State.get_set_ne, State.get_set]
    · rfl
    · simp only [Fld.key, WC_WS_LOAD_START, WC_WS_LOAD_DONE]
      omega
  · rw [loadBegun, State.modWc_get, State.get_set]
    rfl

theorem loadBegun_loading (n k t a : Nat) (s : State) : ((loadBegun n k t a s).writeCh n).loading = some (k, t, s.bytesAt a 320) := by
  rw [loadBegun, State.writeCh_modWc]
  have hread := (s.reads_onlyFields (16 + n) a).bytesAt a 320
  exact congrArg (fun l => some (k, t, l)) ((State.bytesAt_congr 320 a fun _ _ => rfl).trans hread)

/-! ### TABLE packets (R133, R268) -/

/-- A segment of ten entries is sent. -/
def sendSegment (n k : Nat) (bytes : List (BitVec 8)) (s : State) (g : Nat) : State :=
  (countDn s n (112 + k)).modLink n fun l =>
    { l with tableSegs := l.tableSegs ++ [(nextSeq s n (112 + k), g, (List.range 10).map fun i => leVal ((bytes.drop (40 * g + 4 * i)).take 4))] }

theorem sendTable_eq (s : State) (n k t : Nat) (bytes : List (BitVec 8)) :
    sendTable s n k t bytes = State.each (s.modLink n fun l => { l with tableSent := some (k, t), tableSegs := [] }) (List.range 8)
      (sendSegment n k bytes) := rfl

/-- The link of a pen that has been sent a table's segments so far: which they are, each of ten entries. -/
structure TableSent (s : State) (n k t : Nat) (l : List Nat) : Prop where
  sent : (s.link n).tableSent = some (k, t)
  segs : (s.link n).tableSegs.map (fun e => e.2.1) = l
  ten : ∀ e ∈ (s.link n).tableSegs, e.2.2.length = 10

theorem TableSent.segment {s : State} {n k t : Nat} {l : List Nat} (h : TableSent s n k t l) (bytes : List (BitVec 8)) (g : Nat) :
    TableSent (sendSegment n k bytes s g) n k t (l ++ [g]) := by
  have hlink : (sendSegment n k bytes s g).link n = { (s.link n) with
      dnSeqs := (s.link n).dnSeqs.insert (112 + k) (nextSeq s n (112 + k))
      tableSegs := (s.link n).tableSegs ++ [(nextSeq s n (112 + k), g, (List.range 10).map fun i => leVal ((bytes.drop (40 * g + 4 * i)).take 4))] } := by
    rw [sendSegment, State.link_modLink, countDn, State.link_modLink]
  refine ⟨?_, ?_, ?_⟩
  · rw [hlink]
    exact h.sent
  · rw [hlink, List.map_append, h.segs]
    rfl
  · rw [hlink]
    intro e he
    rcases List.mem_append.1 he with he | he
    · exact h.ten e he
    · rw [List.mem_singleton.1 he, List.length_map, List.length_range]

theorem TableSent.segments {s : State} {n k t : Nat} {l : List Nat} (h : TableSent s n k t l) (bytes : List (BitVec 8)) (r : List Nat) :
    TableSent (s.each r (sendSegment n k bytes)) n k t (l ++ r) := by
  induction r generalizing s l with
  | nil => exact (List.append_nil l).symm ▸ h
  | cons g r ih =>
    rw [List.append_cons]
    exact ih (h.segment bytes g)

theorem sendTable_sent (s : State) (n k t : Nat) (bytes : List (BitVec 8)) : TableSent (sendTable s n k t bytes) n k t (List.range 8) := by
  rw [sendTable_eq]
  refine TableSent.segments (l := []) ⟨?_, ?_, ?_⟩ bytes _ <;> rw [State.link_modLink]
  · rfl
  · exact fun e he => absurd he List.not_mem_nil

theorem sendSegment_get (n k : Nat) (bytes : List (BitVec 8)) (s : State) (g : Nat) (f : Fld) :
    (sendSegment n k bytes s g).get f = s.get f := by
  rw [sendSegment, State.modLink_get, countDn, State.modLink_get]

theorem sendSegment_wc (n k : Nat) (bytes : List (BitVec 8)) (s : State) (g m : Nat) : (sendSegment n k bytes s g).writeCh m = s.writeCh m := (rfl)

/-- Packets to a pen change its link only. -/
theorem sendTable_get (s : State) (n k t : Nat) (bytes : List (BitVec 8)) (f : Fld) : (sendTable s n k t bytes).get f = s.get f := by
  rw [sendTable_eq, State.get_each_of _ _ _ fun s g _ => sendSegment_get n k bytes s g f, State.modLink_get]

theorem sendTable_wc (s : State) (n k t : Nat) (bytes : List (BitVec 8)) (m : Nat) : (sendTable s n k t bytes).writeCh m = s.writeCh m := by
  rw [sendTable_eq]
  exact State.each_keeps (fun s => s.writeCh m) _ _ (sendSegment n k bytes) fun s g _ => sendSegment_wc n k bytes s g m

/-! ### A load's end -/

theorem wsLoadEnd_effect (n : Nat) (ok : Bool) (s : State) : (wsLoadEnd n ok s).get (WC_WS_LOAD_START n) = 0
    ∧ (wsLoadEnd n ok s).get (WC_WS_LOAD_DONE n) = 1 ∧ (wsLoadEnd n ok s).get (WC_WS_LOAD_OK n) = (if ok then 1 else 0)
    ∧ (wsLoadEnd n ok s).get (WC_EVENT_WS_LOAD_DONE n) = 1 := by
  refine ⟨?_, ?_, ?_, State.get_set _ _ _⟩
  · rw [wsLoadEnd, State.get_ev_ne, State.get_set_ne, State.get_set_ne, State.get_set]
    · rfl
    all_goals simp only [Fld.key, WC_WS_LOAD_START, WC_WS_LOAD_DONE, WC_WS_LOAD_OK, WC_EVENT_WS_LOAD_DONE]; omega
  · rw [wsLoadEnd, State.get_ev_ne, State.get_set_ne, State.get_set]
    · rfl
    all_goals simp only [Fld.key, WC_WS_LOAD_DONE, WC_WS_LOAD_OK, WC_EVENT_WS_LOAD_DONE]; omega
  · rw [wsLoadEnd, State.get_ev_ne, State.get_set]
    · cases ok <;> rfl
    · simp only [Fld.key, WC_WS_LOAD_OK, WC_EVENT_WS_LOAD_DONE]
      omega

theorem wsLoadEnd_onlyFields (n : Nat) (ok : Bool) (s : State) :
    OnlyFields [WC_WS_LOAD_START n, WC_WS_LOAD_DONE n, WC_WS_LOAD_OK n, WC_EVENT_WS_LOAD_DONE n] s (wsLoadEnd n ok s) :=
  .set (.set (.set (.set (.refl _ s) (WC_WS_LOAD_START n) 0 (by simp)) (WC_WS_LOAD_DONE n) 1 (by simp)) (WC_WS_LOAD_OK n) _ (by simp))
    (WC_EVENT_WS_LOAD_DONE n) 1 (by simp)

/-- A load changes the nib and the table that it names, and no other field but its own. -/
theorem wsLoad_get (n value : Nat) (s : State) {f : Fld} (hi : notInk f)
    (hf : ∀ g ∈ [WC_WS_LOAD_START n, WC_WS_LOAD_DONE n, WC_WS_LOAD_OK n, WC_EVENT_WS_LOAD_DONE n], f.key ≠ g.key) :
    (wsLoad n value s).get f = (loadNamed n value s).get f := by
  have hs := hf _ (by simp : WC_WS_LOAD_START n ∈ _)
  have hd := hf _ (by simp : WC_WS_LOAD_DONE n ∈ _)
  cases h : value.testBit 30 with
  | false => rw [wsLoad_named h]
  | true =>
    by_cases hu : tableInUse s n (value % 4)
    · rw [wsLoad_refused h hu, (wsLoadEnd_onlyFields n false _).1.get hf, State.get_set_ne _ _ hd]
    · rw [wsLoad_begins h hu rfl, State.get_iff_of _ _ _ (sendTable_get _ _ _ _ _ _), loadBegun_get _ _ _ _ _ hi hs hd]

/-- The nib and the table of a load read as they were written, whatever follows. -/
theorem wsLoad_names (n value : Nat) (s : State) :
    (wsLoad n value s).get (WC_WS_LOAD_NIB n) = value / 16 % 16 ∧ (wsLoad n value s).get (WC_WS_LOAD_TABLE n) = value % 4 := by
  have hn := loadNamed_names n value s
  rw [wsLoad_get n value s (notInk_wc (o := 0x60) rfl), wsLoad_get n value s (notInk_wc (o := 0x60) rfl)]
  · exact hn
  all_goals
    simp only [List.forall_mem_cons, Fld.key, WC_WS_LOAD_NIB, WC_WS_LOAD_TABLE, WC_WS_LOAD_START, WC_WS_LOAD_DONE, WC_WS_LOAD_OK, WC_EVENT_WS_LOAD_DONE]
    simp
    omega

/-- A load that starts. -/
theorem wsLoad_effect {n value : Nat} {s : State} (h : value.testBit 30 = true) (hs : (s.writeCh n).started = false) :
    (wsLoad n value s).get (WC_WS_LOAD_START n) = 1 ∧ (wsLoad n value s).get (WC_WS_LOAD_DONE n) = 0
      ∧ ((wsLoad n value s).writeCh n).loading = some (value / 16 % 16, value % 4, s.bytesAt (tableAddr s n (value / 16 % 16) (value % 4)) 320)
      ∧ (claims s n = true → TableSent (wsLoad n value s) n (value / 16 % 16) (value % 4) (List.range 8)) := by
  have hu : ¬ tableInUse s n (value % 4) := fun hu => by simp [hu.1] at hs
  have hbegin := wsLoad_begins h hu rfl
  have hstart := loadBegun_start n (value / 16 % 16) (value % 4) (tableAddr s n (value / 16 % 16) (value % 4)) (loadNamed n value s)
  have hload := loadBegun_loading n (value / 16 % 16) (value % 4) (tableAddr s n (value / 16 % 16) (value % 4)) (loadNamed n value s)
  have hclaim : claims (loadBegun n (value / 16 % 16) (value % 4) (tableAddr s n (value / 16 % 16) (value % 4)) (loadNamed n value s)) n = claims s n := by
    rw [claims, claims, loadBegun_get, (loadNamed_onlyFields n value s).1.get]
    · simp only [List.forall_mem_cons, Fld.key, VRS_OUT_CLASS, WC_WS_LOAD_NIB, WC_WS_LOAD_TABLE]
      simp [vrsBase, wcBase, penBase]
      omega
    all_goals
      simp only [notInk, Fld.block, Fld.key, VRS_OUT_CLASS, WC_WS_LOAD_START, WC_WS_LOAD_DONE, vrsBase, wcBase, penBase]
      omega
  rw [(loadNamed_onlyFields n value s).bytesAt] at hload
  generalize loadBegun _ _ _ _ _ = u at hbegin hstart hload hclaim
  rw [hbegin, hclaim]
  refine ⟨?_, ?_, ?_, fun hc => ?_⟩
  · rw [State.get_iff_of _ _ _ (sendTable_get _ _ _ _ _ _), hstart.1]
  · rw [State.get_iff_of _ _ _ (sendTable_get _ _ _ _ _ _), hstart.2]
  · rw [← hload]
    cases claims s n
    · rfl
    · rw [State.iff_true, sendTable_wc]
  · rw [hc, State.iff_true]
    exact sendTable_sent _ _ _ _ _

/-- A load that has ended is held no more, and its table is the pen's if it was acknowledged (R133, R272). -/
def loadEnded (n k t : Nat) (bytes : List (BitVec 8)) (ack : Bool) (s : State) : State :=
  s.modWc n fun w => { w with loading := none, tables := if ack then w.tables.insert (4 * k + t) bytes else w.tables }

theorem wsLoadDone_idle {n : Nat} {s : State} (h : (s.writeCh n).loading = none) (ack : Bool) : wsLoadDone n ack s = s := by
  simp only [wsLoadDone, h]

theorem wsLoadDone_ends {n k t : Nat} {bytes : List (BitVec 8)} {s : State} (h : (s.writeCh n).loading = some (k, t, bytes)) (ack : Bool) :
    wsLoadDone n ack s = wsLoadEnd n ack (loadEnded n k t bytes ack s) := by
  simp only [wsLoadDone, h, loadEnded]

theorem wsLoadEnd_wc (n m : Nat) (ok : Bool) (s : State) : (wsLoadEnd n ok s).writeCh m = s.writeCh m := (wsLoadEnd_onlyFields n ok s).wc m

/-- Settles O30: strategy-table loads and their ends, HALT, disabling, and WRITE_HOLD. -/
theorem writeControls : Obligations.WriteControls := by
  unfold Obligations.WriteControls
  refine ⟨fun n v s => ⟨_, rfl, fun h => State.clocked_stopped h _, fun h => ?_, fun h => ?_⟩,
    fun n ack s => ⟨_, rfl, fun h => wsLoadDone_idle h ack, fun k tb bytes h => ?_⟩,
    fun n set s => ⟨_, rfl, fun h => State.clocked_stopped h _, fun h => ?_, fun h => ?_⟩,
    fun n s => ⟨_, rfl, fun h => State.clocked_stopped h _, fun h => ?_⟩, fun n s => ⟨_, rfl, ?_, ?_, ?_⟩⟩
  · rw [State.clocked_running h]
    obtain ⟨hnib, htable⟩ := wsLoad_names n v.toNat s
    refine ⟨hnib, htable, fun hv hs => ?_, fun hv hs hd => ?_⟩
    · obtain ⟨hstart, hdone, hload, hsent⟩ := wsLoad_effect (n := n) hv hs
      exact ⟨hstart, hdone, hload, fun hc => ⟨(hsent hc).sent, (hsent hc).segs, (hsent hc).ten⟩⟩
    · rw [wsLoad_refused hv ⟨hs, hd⟩]
      exact (wsLoadEnd_effect n false _).2
  · exact .clocked (wsLoad_named h ▸ loadNamed_onlyFields n v.toNat s)
  · rw [wsLoadDone_ends h]
    obtain ⟨hstart, hdone, hok, hev⟩ := wsLoadEnd_effect n ack (loadEnded n k tb bytes ack s)
    refine ⟨hstart, hdone, hok, hev, ?_, fun ha => ?_, ?_⟩
    · rw [wsLoadEnd_wc, loadEnded, State.writeCh_modWc]
    · rw [wsLoadEnd_wc, loadEnded, State.writeCh_modWc, ha]
      exact Store.find?_insert_same _ _ _
    · exact SameFields.trans (.of_fld (t := loadEnded n k tb bytes ack s) rfl) (wsLoadEnd_onlyFields n ack _).1
  · rw [State.clocked_running h]
    refine ⟨haltWrite_halt n set s, fun hset => ?_, fun hset hs hb => ?_⟩
    · rw [hset]
      exact haltWrite_set_state n s
    · rw [hset, haltWrite_resumes hs hb]
      exact ⟨State.get_set _ _ _, .set (.set (.refl _ s) (WC_CTRL_HALT n) 0 (by simp)) (WC_STATUS_STATE n) 2 (by simp)⟩
  · rw [h]
    exact .clocked (haltWrite_set_onlyFields n s)
  · rw [State.clocked_running h]
    exact wcDisable_effect n s
  · rw [writeHoldRise, State.get_ev_ne, State.get_set]
    · rfl
    · simp only [Fld.key, WC_STATUS_WRITE_HOLD, WC_EVENT_WRITE_HOLD]
      omega
  · exact State.get_set _ _ _
  · exact .set (.set (.refl _ s) (WC_STATUS_WRITE_HOLD n) 1 (by simp)) (WC_EVENT_WRITE_HOLD n) 1 (by simp)

end Sys2Proof.Machine

/-!
Read channel control, the zone-table directory, and blots (R54, R59, R65 to R67, R69, R74).
-/

namespace Sys2Proof.Machine

/-! ### Notices to the host -/

/-- Only what the host sees of its queues has changed. -/
structure HostOnly (s t : State) : Prop where
  eq : { t with host := s.host } = s

theorem HostOnly.refl (s : State) : HostOnly s s := ⟨rfl⟩

theorem HostOnly.trans {s t u : State} (h : HostOnly s t) (k : HostOnly t u) : HostOnly s u := by
  refine ⟨?_⟩
  calc { u with host := s.host } = { { u with host := t.host } with host := s.host } := rfl
    _ = s := by rw [k.eq, h.eq]

theorem HostOnly.frame : Frame HostOnly := ⟨.refl, .trans⟩

theorem HostOnly.modFn (s : State) (f : Nat) (k : HostFn → HostFn) : HostOnly s (s.modFn f k) := ⟨rfl⟩

theorem HostOnly.fld {s t : State} (h : HostOnly s t) : t.fld = s.fld := (congrArg State.fld h.eq :)

theorem HostOnly.get {s t : State} (h : HostOnly s t) (f : Fld) : t.get f = s.get f := State.get_of_fld h.fld f

theorem postCqe_hostOnly (s : State) (f q : Nat) (e : Cqe) : HostOnly s (postCqe s f q e) := by
  unfold postCqe
  split
  · exact .refl s
  · next c _ =>
    split
    · exact .modFn s f _
    · dsimp only
      exact HostOnly.frame.iff (.modFn s f _) fun _ => .modFn _ f _

theorem asyncEvent_hostOnly (s : State) (f code : Nat) : HostOnly s (asyncEvent s f code) := by
  unfold asyncEvent
  split
  · exact (HostOnly.modFn s f _).trans (postCqe_hostOnly _ _ _ _)
  · exact .modFn s f _

/-- What raises ANA Change leaves all but the host's queues as the change made it (R400). -/
theorem withAna_hostOnly (s : State) (k : State → State) : HostOnly (k s) (withAna s k) := by
  unfold withAna
  dsimp only
  split
  · exact .refl _
  · exact (asyncEvent_hostOnly _ _ _).trans (asyncEvent_hostOnly _ _ _)

theorem channelsChanged_get (s : State) (k : State → State) (f : Fld) : (channelsChanged s k).get f = (k s).get f := by
  rw [channelsChanged, (withAna_hostOnly _ _).get]
  dsimp only
  split <;> rfl

/-! ### The control word -/

/-- Fields of the pen that what follows a control word does not reach: the control word itself and the ruling's state. -/
structure ControlFld (n : Nat) (f : Fld) : Prop where
  pool : notPool f
  offsets : notOffsets n f
  shown : ∀ k < 16, f.key ≠ (RC_NIB_STATUS_FROZEN n k).key ∧ f.key ≠ (RC_NIB_STATUS_BLOT_ACTIVE n k).key
  abandoned : f.key ≠ (RC_EVENT_ABANDONED n).key

theorem controlFld_of_lt {n : Nat} (hn : n < 16) {f : Fld} (hl : rulBase n * 64 ≤ f.key) (hr : f.key < (rcBase n + 0x50) * 64) : ControlFld n f := by
  simp only [rulBase, rcBase, penBase] at hl hr
  have hle : ∀ i, (LE_OFS_OFS n i).key = (0x2001000000 + 0x100000 * n + 0x40000 + (0x40 + 0x4 * i)) * 64 := fun i => by
    simp only [Fld.key, LE_OFS_OFS, leBase, if_pos hn, penBase]
    rfl
  refine ⟨⟨?_, ?_⟩, ⟨?_, fun i _ => ?_⟩, fun k _ => ⟨?_, ?_⟩, ?_⟩
  · simp only [notInk, Fld.block]
    omega
  · simp only [Fld.block]
    omega
  · simp only [Fld.key, SV_STATUS_RETRY_OFS, svBase, penBase] at hr ⊢
    omega
  · rw [hle]
    omega
  all_goals simp only [Fld.key, RC_NIB_STATUS_FROZEN, RC_NIB_STATUS_BLOT_ACTIVE, RC_EVENT_ABANDONED, rcBase, penBase] at hr ⊢; omega

/-- The six fields of a control word are written. -/
def controlWritten (n nibs value : Nat) (s : State) : State :=
  s.set (RC_CTRL_NIB_EN n) nibs
    |>.set (RC_CTRL_EDGE_SRC n) (value / 2 ^ 4)
    |>.set (RC_CTRL_XBLANK n) (value / 2 ^ 3)
    |>.set (RC_CTRL_SLIP_TEST n) (value / 2 ^ 2)
    |>.set (RC_CTRL_FREEZE_ALL n) (value / 2)
    |>.set (RC_CTRL_ENABLE n) value

theorem nibComes_get (s : State) (n k : Nat) (w : Bool) {f : Fld} (h : f.key ≠ (RC_NIB_STATUS_BLOT_ACTIVE n k).key) :
    (nibComes s n k w).get f = s.get f := (State.get_set_ne _ 0 h).trans (State.modNib_get s n k _ f)

/-- The nibs that a control word gives up (R54). -/
def nibsGone (n nibs value : Nat) (s : State) : List Nat :=
  (List.range 16).filter fun k => nibOn s n k && !(decide (k < dataNibs s n) && value.testBit 0 && nibs.testBit k)

/-- The nib bits of a control word that the port of the pen has (R26). -/
def nibBits (n value : Nat) (s : State) : Nat := if isN1 s n then value / 2 ^ 16 % 256 else value / 2 ^ 16

/-- Fields that a control word's consequences do not reach read as it wrote them. -/
theorem rcCtrlWrite_get {n value : Nat} {s : State} {f : Fld} (h : ControlFld n f) : (rcCtrlWrite n value s).get f =
    (controlWritten n (nibBits n value s) value (s.each (nibsGone n (nibBits n value s) value s) fun s k => abandonNib s n k)).get f := by
  unfold rcCtrlWrite
  dsimp only
  rw [refreshFrozenPen_get _ _ fun k hk => (h.shown k hk).1, State.get_each_of, State.get_iff_of, State.get_iff_of]
  · rfl
  · exact cutPending_get _ _ _ h.pool h.offsets
  · exact State.get_each_of _ _ _ fun s k _ => State.modNib_get s n k _ f
  · exact fun s k hk => nibComes_get s n k _ (h.shown k (List.mem_range.1 (List.mem_of_mem_filter hk))).2

theorem controlFld_ctrl {n : Nat} (hn : n < 16) {f : Fld} (ha : f.addr = rcBase n) (hl : f.lo ≤ 16) : ControlFld n f := by
  refine controlFld_of_lt hn ?_ ?_ <;> simp only [Fld.key, ha, rulBase, rcBase, penBase] <;> omega

theorem controlWritten_fields (n nibs value : Nat) (s : State) :
    (controlWritten n nibs value s).get (RC_CTRL_ENABLE n) = value % 2 ∧ (controlWritten n nibs value s).get (RC_CTRL_FREEZE_ALL n) = value / 2 % 2
      ∧ (controlWritten n nibs value s).get (RC_CTRL_SLIP_TEST n) = value / 4 % 2 ∧ (controlWritten n nibs value s).get (RC_CTRL_XBLANK n) = value / 8 % 2
      ∧ (controlWritten n nibs value s).get (RC_CTRL_EDGE_SRC n) = value / 16 % 2
      ∧ (controlWritten n nibs value s).get (RC_CTRL_NIB_EN n) = nibs % 2 ^ 16 := by
  simp (disch := (simp only [Fld.key, RC_CTRL_ENABLE, RC_CTRL_FREEZE_ALL, RC_CTRL_SLIP_TEST, RC_CTRL_XBLANK, RC_CTRL_EDGE_SRC, RC_CTRL_NIB_EN]; omega))
    only [controlWritten, State.get_set_ne, State.get_set]
  exact ⟨rfl, rfl, rfl, rfl, rfl, rfl⟩

/-- What a control word writes. -/
theorem rcCtrlWrite_fields {n : Nat} (hn : n < 16) (value : Nat) (s : State) :
    (rcCtrlWrite n value s).get (RC_CTRL_ENABLE n) = value % 2 ∧ (rcCtrlWrite n value s).get (RC_CTRL_FREEZE_ALL n) = value / 2 % 2
      ∧ (rcCtrlWrite n value s).get (RC_CTRL_SLIP_TEST n) = value / 4 % 2 ∧ (rcCtrlWrite n value s).get (RC_CTRL_XBLANK n) = value / 8 % 2
      ∧ (rcCtrlWrite n value s).get (RC_CTRL_EDGE_SRC n) = value / 16 % 2 ∧ (rcCtrlWrite n value s).get (RC_CTRL_NIB_EN n) = nibBits n value s % 2 ^ 16 := by
  have hc : ∀ {f : Fld}, f.addr = rcBase n → f.lo ≤ 16 → _ := fun ha hl => rcCtrlWrite_get (value := value) (s := s) (controlFld_ctrl hn ha hl)
  rw [hc rfl (Nat.zero_le 16), hc rfl (Nat.le_of_ble_eq_true rfl), hc rfl (Nat.le_of_ble_eq_true rfl), hc rfl (Nat.le_of_ble_eq_true rfl),
    hc rfl (Nat.le_of_ble_eq_true rfl), hc rfl (Nat.le_refl 16)]
  exact controlWritten_fields _ _ _ _

/-- The ruling's state is none of what a control word writes. -/
theorem rcCtrlWrite_state {n : Nat} (hn : n < 16) (value : Nat) (s : State) :
    (rcCtrlWrite n value s).get (RUL_STATUS_STATE n) = s.get (RUL_STATUS_STATE n) := by
  have hc : ControlFld n (RUL_STATUS_STATE n) := by
    refine controlFld_of_lt hn ?_ ?_ <;> simp only [Fld.key, RUL_STATUS_STATE, rulBase, rcBase, penBase] <;> omega
  have hw : ∀ (u : State) (g : Fld) (v : Nat), g.addr = rcBase n → (u.set g v).get (RUL_STATUS_STATE n) = u.get (RUL_STATUS_STATE n) := fun u g v hg =>
    u.get_set_ne v (by simp only [Fld.key, hg, RUL_STATUS_STATE, rulBase, rcBase, penBase]; omega)
  rw [rcCtrlWrite_get hc, controlWritten]
  iterate 6 rw [hw _ _ _ rfl]
  exact State.get_each_of _ _ _ fun s k _ => abandonNib_get s n k hc.pool hc.abandoned

/-! ### The zone-table directory -/

theorem refreshAltPen_onlyFields (s : State) (n : Nat) : OnlyFields ((List.range 16).map (RC_NIB_STATUS_ALT_VALID n)) s (refreshAltPen s n) :=
  (OnlyFields.frame _).each (.refl _ s) fun t _ hk =>
    .set (.refl _ t) _ _ (List.mem_map_of_mem (List.mem_range.2 (lt_of_lt_of_le (List.mem_range.1 hk) (dataNibs_le s n))))

theorem altValid_key (n i : Nat) : ∀ g ∈ (List.range 16).map (RC_NIB_STATUS_ALT_VALID n),
    (RC_ZT_DIR_GEN n i).key ≠ g.key ∧ (RC_ZT_DIR_VALID n i).key ≠ g.key := by
  intro g hg
  obtain ⟨k, hk, rfl⟩ := List.mem_map.1 hg
  have := List.mem_range.1 hk
  simp only [Fld.key, RC_ZT_DIR_GEN, RC_ZT_DIR_VALID, RC_NIB_STATUS_ALT_VALID]
  omega

theorem ztDirWrite_fields (n i value : Nat) (s : State) :
    (ztDirWrite n i value s).get (RC_ZT_DIR_GEN n i) = value / 2 ^ 8 % 2 ^ 8 ∧ (ztDirWrite n i value s).get (RC_ZT_DIR_VALID n i) = value % 2 := by
  have halt := (refreshAltPen_onlyFields ((s.set (RC_ZT_DIR_GEN n i) (value / 2 ^ 8)).set (RC_ZT_DIR_VALID n i) value) n).1
  refine ⟨?_, ?_⟩
  · rw [ztDirWrite, halt.get fun g hg => (altValid_key n i g hg).1, State.get_set_ne, State.get_set]
    · rfl
    · simp only [Fld.key, RC_ZT_DIR_GEN, RC_ZT_DIR_VALID]
      omega
  · rw [ztDirWrite, halt.get fun g hg => (altValid_key n i g hg).2, State.get_set]
    rfl

theorem ztDirWrite_onlyFields (n i value : Nat) (s : State) :
    OnlyFields ([RC_ZT_DIR_GEN n i, RC_ZT_DIR_VALID n i] ++ (List.range 16).map (RC_NIB_STATUS_ALT_VALID n)) s (ztDirWrite n i value s) :=
  .trans (.set (.set (.refl _ s) (RC_ZT_DIR_GEN n i) (value / 2 ^ 8) (by simp)) (RC_ZT_DIR_VALID n i) value (by simp))
    ((refreshAltPen_onlyFields _ n).mono (List.subset_append_right _ _))

/-! ### Blots -/

theorem blotStart_begins {n k : Nat} {crit : BlotCrit} {s : State} (ho : nibOn s n k = true) (hf : blotFires s n k crit = true)
    (hb : (s.nib n k).blotFrom = none) (bit : Nat) : blotStart n k crit bit s = beginBlot s n k bit :=
  if_pos (by rw [ho, hf, hb]; rfl)

theorem blotStart_idle {n k : Nat} {crit : BlotCrit} {s : State} (h : nibOn s n k = false ∨ blotFires s n k crit = false ∨ (s.nib n k).blotFrom ≠ none)
    (bit : Nat) : blotStart n k crit bit s = s := by
  refine if_neg ?_
  rw [Bool.and_eq_true, Bool.and_eq_true, Option.isNone_iff_eq_none]
  rintro ⟨⟨ho, hf⟩, hb⟩
  rcases h with h | h | h
  · simp [ho] at h
  · simp [hf] at h
  · exact h hb

/-- The nib in whose newest codeword a blot has begun, before its registers show it (R67). -/
def blotNoted (s : State) (n k bit : Nat) : State :=
  s.modNib n k fun b => { (b.spanBefore (lagBits s n - bit)) with blotFrom := some (bit - lagBits s n) }

/-- The fields of a nib that show a blot. -/
theorem blot_keys (n k : Nat) : (RC_NIB_STATUS_BLOT_ACTIVE n k).key ≠ (RC_EVENT_BLOT n).key
    ∧ (RC_NIB_STATUS_BLOT_ACTIVE n k).key ≠ (RC_NIB_CNT_BLOT_BLOTS n k).key ∧ (RC_NIB_STATUS_BLOT_ACTIVE n k).key ≠ (RC_NIB_STATUS_FROZEN n k).key
    ∧ (RC_EVENT_BLOT n).key ≠ (RC_NIB_CNT_BLOT_BLOTS n k).key ∧ (RC_EVENT_BLOT n).key ≠ (RC_NIB_STATUS_FROZEN n k).key
    ∧ (RC_NIB_CNT_BLOT_BLOTS n k).key ≠ (RC_NIB_STATUS_FROZEN n k).key := by
  simp only [Fld.key, RC_NIB_STATUS_BLOT_ACTIVE, RC_EVENT_BLOT, RC_NIB_CNT_BLOT_BLOTS, RC_NIB_STATUS_FROZEN]
  omega

theorem beginBlot_eq (s : State) (n k bit : Nat) : beginBlot s n k bit = tellEngineBlot (refreshFrozen
    ((((blotNoted s n k bit).set (RC_NIB_STATUS_BLOT_ACTIVE n k) 1).ev (RC_EVENT_BLOT n)).bump (RC_NIB_CNT_BLOT_BLOTS n k) 1) n k) n := rfl

theorem tellEngineBlot_get (s : State) (n : Nat) (f : Fld) : (tellEngineBlot s n).get f = s.get f := (rfl)

theorem refreshFrozen_get_ne (s : State) (n k : Nat) {f : Fld} (h : f.key ≠ (RC_NIB_STATUS_FROZEN n k).key) :
    (refreshFrozen s n k).get f = s.get f := s.get_set_ne _ h

theorem refreshFrozen_sameFields (s : State) (n k : Nat) : SameFields [RC_NIB_STATUS_FROZEN n k] s (refreshFrozen s n k) :=
  SameFields.set (.refl [RC_NIB_STATUS_FROZEN n k] s) (RC_NIB_STATUS_FROZEN n k) _ (by simp)

theorem refreshFrozen_nib (s : State) (n k m j : Nat) : (refreshFrozen s n k).nib m j = s.nib m j := (rfl)

/-- A nib with a blot in progress is frozen (R59). -/
theorem refreshFrozen_blotted {s : State} {n k : Nat} (h : (s.nib n k).blotFrom.isSome = true) :
    (refreshFrozen s n k).get (RC_NIB_STATUS_FROZEN n k) = 1 := by
  rw [refreshFrozen, State.get_set, h]
  rfl

theorem beginBlot_effect (s : State) (n k bit : Nat) : (beginBlot s n k bit).get (RC_NIB_STATUS_BLOT_ACTIVE n k) = 1
    ∧ (beginBlot s n k bit).get (RC_EVENT_BLOT n) = 1 ∧ (beginBlot s n k bit).get (RC_NIB_STATUS_FROZEN n k) = 1
    ∧ ((beginBlot s n k bit).nib n k).blotFrom = some (bit - lagBits s n)
    ∧ (beginBlot s n k bit).get (RC_NIB_CNT_BLOT_BLOTS n k) = min (s.get (RC_NIB_CNT_BLOT_BLOTS n k) + 1) (2 ^ 16 - 1) := by
  obtain ⟨hae, hac, haf, hec, hef, hcf⟩ := blot_keys n k
  have hnib : ((blotNoted s n k bit).nib n k).blotFrom = some (bit - lagBits s n) := by rw [blotNoted, State.nib_modNib]
  rw [beginBlot_eq]
  refine ⟨?_, ?_, ?_, ?_, ?_⟩
  · rw [tellEngineBlot_get, refreshFrozen_get_ne _ _ _ haf, State.get_bump_ne _ _ hac, State.get_ev_ne _ hae, State.get_set]
    rfl
  · rw [tellEngineBlot_get, refreshFrozen_get_ne _ _ _ hef, State.get_bump_ne _ _ hec, State.get_ev]
    exact Nat.one_pos
  · rw [tellEngineBlot_get]
    exact refreshFrozen_blotted (congrArg Option.isSome hnib)
  · exact hnib
  · rw [tellEngineBlot_get, refreshFrozen_get_ne _ _ _ hcf, State.get_bump, State.get_ev_ne _ hec.symm, State.get_set_ne _ _ hac.symm, blotNoted,
      State.modNib_get]
    rfl

theorem beginBlot_sameFields (s : State) (n k bit : Nat) :
    SameFields [RC_NIB_STATUS_BLOT_ACTIVE n k, RC_EVENT_BLOT n, RC_NIB_STATUS_FROZEN n k, RC_NIB_CNT_BLOT_BLOTS n k] s (beginBlot s n k bit) := by
  rw [beginBlot_eq]
  have h0 : SameFields [RC_NIB_STATUS_BLOT_ACTIVE n k, RC_EVENT_BLOT n, RC_NIB_STATUS_FROZEN n k, RC_NIB_CNT_BLOT_BLOTS n k] s (blotNoted s n k bit) :=
    .of_fld rfl
  have h1 := ((h0.set (RC_NIB_STATUS_BLOT_ACTIVE n k) 1 (by simp)).ev (RC_EVENT_BLOT n) (by simp)).bump (RC_NIB_CNT_BLOT_BLOTS n k) 1 (by simp)
  exact (h1.trans ((refreshFrozen_sameFields _ n k).mono (by simp))).trans (.of_fld rfl)

theorem blotEnd_none {n k : Nat} {s : State} (h : (s.nib n k).blotFrom = none) (clearBit : Int) : blotEnd n k clearBit s = s := by
  simp only [blotEnd, h]

/-- The nib whose blot is over: its span is closed in the newest codeword (R69). -/
def blotClosed (s : State) (n k a : Nat) (clearBit : Int) : State :=
  s.modNib n k fun b => { (b.modNewest fun c => { c with spans := addSpan c.spans a (min 39000 (clearBit + holdSamples s n).toNat) }) with blotFrom := none }

theorem blotEnd_ends {n k a : Nat} {s : State} (h : (s.nib n k).blotFrom = some a) (clearBit : Int) :
    blotEnd n k clearBit s = refreshFrozen ((blotClosed s n k a clearBit).set (RC_NIB_STATUS_BLOT_ACTIVE n k) 0) n k := by
  simp only [blotEnd, h, blotClosed]

theorem Nib.modNewest_cws {b : Nib} {r : List NibCw} {c : NibCw} (h : b.cws = r ++ [c]) (f : NibCw → NibCw) : (b.modNewest f).cws = r ++ [f c] := by
  simp [Nib.modNewest, h]

theorem blotEnd_effect {n k a : Nat} {s : State} (h : (s.nib n k).blotFrom = some a) (clearBit : Int) :
    (blotEnd n k clearBit s).get (RC_NIB_STATUS_BLOT_ACTIVE n k) = 0 ∧ ((blotEnd n k clearBit s).nib n k).blotFrom = none
      ∧ (∀ r c, (s.nib n k).cws = r ++ [c] → ((blotEnd n k clearBit s).nib n k).cws =
          r ++ [{ c with spans := addSpan c.spans a (min 39000 (clearBit + holdSamples s n).toNat) }])
      ∧ SameFields [RC_NIB_STATUS_BLOT_ACTIVE n k, RC_NIB_STATUS_FROZEN n k] s (blotEnd n k clearBit s) := by
  obtain ⟨-, -, haf, -⟩ := blot_keys n k
  rw [blotEnd_ends h]
  refine ⟨?_, ?_, fun r c hc => ?_, ?_⟩
  · rw [refreshFrozen_get_ne _ _ _ haf, State.get_set]
    rfl
  · rw [refreshFrozen_nib, State.nib_set, blotClosed, State.nib_modNib]
  · rw [refreshFrozen_nib, State.nib_set, blotClosed, State.nib_modNib]
    exact Nib.modNewest_cws hc _
  · have h0 : SameFields [RC_NIB_STATUS_BLOT_ACTIVE n k, RC_NIB_STATUS_FROZEN n k] s (blotClosed s n k a clearBit) := .of_fld rfl
    exact (h0.set (RC_NIB_STATUS_BLOT_ACTIVE n k) 0 (by simp)).trans ((refreshFrozen_sameFields _ n k).mono (by simp))

theorem nibBits_written (n : Nat) (v : Word) (s : State) :
    nibBits n v.toNat s % 2 ^ 16 = if s.get (LK_STATUS_GEN n) = 1 then v.toNat / 2 ^ 16 % 2 ^ 8 else v.toNat / 2 ^ 16 := by
  have := v.isLt
  by_cases hg : s.get (LK_STATUS_GEN n) = 1 <;> simp [nibBits, isN1, hg] <;> omega

/-- Settles O16: the control word, the zone-table directory, and a blot's start and end. -/
theorem readControlAndBlots : Obligations.ReadControlAndBlots := by
  unfold Obligations.ReadControlAndBlots
  refine ⟨⟨fun n v s => ⟨_, rfl, fun h => State.clocked_stopped h _, fun h => ?_⟩,
      fun n i v s => ⟨_, rfl, fun h => State.clocked_stopped h _, fun h => ?_⟩⟩,
    fun n k crit bit s => ⟨_, rfl, fun ho hf hb => ?_, fun h => blotStart_idle h bit⟩,
    fun n k clearBit s => ⟨_, rfl, fun h => blotEnd_none h clearBit, fun a h => blotEnd_effect h clearBit⟩⟩
  · rw [State.clocked_running h]
    simp only [channelsChanged_get]
    obtain ⟨hen, hfr, hsl, hxb, hed, hnib⟩ := rcCtrlWrite_fields n.isLt v.toNat s
    exact ⟨hen, hfr, hsl, hxb, hed, hnib.trans (nibBits_written n v s), rcCtrlWrite_state n.isLt v.toNat s⟩
  · rw [State.clocked_running h]
    obtain ⟨hgen, hvalid⟩ := ztDirWrite_fields n i v.toNat s
    exact ⟨hgen, hvalid, ztDirWrite_onlyFields n i v.toNat s⟩
  · rw [blotStart_begins ho hf hb]
    obtain ⟨hactive, hev, hfrozen, hfrom, hcount⟩ := beginBlot_effect s n k bit
    exact ⟨hactive, hev, hfrozen, hfrom, hcount, beginBlot_sameFields s n k bit⟩

end Sys2Proof.Machine

/-!
SUPPORT. Burns in progress: what keeps them, and what a change of the ruling state does to them (R45, R151, R271).
-/

namespace Sys2Proof.Machine

/-! ### Nibs that burn (R45, R151) -/

/-- The nibs that each descriptor of each pen's group burns are as before. -/
structure KeepsBurning (s t : State) : Prop where
  burning : ∀ m, (t.writeCh m).group.map Desc.burning = (s.writeCh m).group.map Desc.burning

namespace KeepsBurning

theorem refl (s : State) : KeepsBurning s s := ⟨fun _ => rfl⟩

theorem trans {s t u : State} (h : KeepsBurning s t) (k : KeepsBurning t u) : KeepsBurning s u := ⟨fun m => (k.burning m).trans (h.burning m)⟩

theorem frame : Frame KeepsBurning := ⟨refl, trans⟩

theorem of_wc {s t : State} (h : t.wc = s.wc) : KeepsBurning s t := ⟨fun m => by rw [State.writeCh, State.writeCh, h]⟩

theorem of_inkHidden {s t : State} (h : InkHidden s t) : KeepsBurning s t := ⟨fun m => by rw [h.writeCh]⟩

/-- A change of a group's descriptors that leaves what each one burns. -/
theorem modGroup (s : State) (n : Nat) (g : Desc → Desc) (hg : ∀ d, (g d).burning = d.burning) :
    KeepsBurning s (s.modWc n fun w => { w with group := w.group.map g }) := by
  refine ⟨fun m => ?_⟩
  by_cases hm : m = n
  · subst hm
    rw [State.writeCh_modWc, List.map_map]
    exact List.map_congr_left fun d _ => hg d
  · rw [State.writeCh_modWc_ne _ _ hm]

theorem nibs {s t : State} (h : KeepsBurning s t) (n : Nat) : burningNibs t n = burningNibs s n := by
  have fold : ∀ (l : List Desc) (m : Nat), l.foldl (fun m d => m ||| d.burning) m = (l.map Desc.burning).foldl (· ||| ·) m := by
    intro l
    induction l with
    | nil => exact fun _ => rfl
    | cons d l ih => exact fun m => ih _
  rw [burningNibs, burningNibs, fold, fold, h.burning]

theorem set {s t : State} (h : KeepsBurning s t) (f : Fld) (v : Nat) : KeepsBurning s (t.set f v) := ⟨h.burning⟩

theorem ev {s t : State} (h : KeepsBurning s t) (f : Fld) : KeepsBurning s (t.ev f) := ⟨h.burning⟩

theorem bump {s t : State} (h : KeepsBurning s t) (f : Fld) (k : Nat) : KeepsBurning s (t.bump f k) := ⟨h.burning⟩

theorem wrap {s t : State} (h : KeepsBurning s t) (f : Fld) (k : Nat) : KeepsBurning s (t.wrap f k) := ⟨h.burning⟩

theorem modLdpc {s t : State} (h : KeepsBurning s t) (f : Ldpc → Ldpc) : KeepsBurning s (t.modLdpc f) := ⟨h.burning⟩

theorem putCw {s t : State} (h : KeepsBurning s t) (id : Nat) (c : Cw) : KeepsBurning s (t.putCw id c) := ⟨h.burning⟩

theorem modNib {s t : State} (h : KeepsBurning s t) (n k : Nat) (f : Nib → Nib) : KeepsBurning s (t.modNib n k f) := ⟨h.burning⟩

end KeepsBurning

theorem noteDesc_keepsBurning (s : State) (c : Cw) (b : Bool) : KeepsBurning s (noteDesc s c b) := by
  refine .modGroup s c.pen _ fun d => ?_
  split
  · split <;> rfl
  · rfl

theorem noteVerify_keepsBurning (s : State) (c : Cw) (b : Bool) (i : Nat) : KeepsBurning s (noteVerify s c b i) := by
  refine .modGroup s c.pen _ fun d => ?_
  split <;> rfl

theorem noteTaken_keepsBurning (s : State) (n k : Nat) (d : Desc) (i : Nat) : KeepsBurning s (noteTaken s n k d i) := by
  refine .modGroup s n _ fun d => ?_
  split <;> rfl

theorem resultEntry_keepsBurning (s : State) (c : Cw) (o : Nat) : KeepsBurning s (resultEntry s c o) := by
  unfold resultEntry
  dsimp only
  split
  · exact ((KeepsBurning.refl s).ev _).bump _ 1
  · exact ((KeepsBurning.of_inkHidden (inkWrite_inkHidden s 35 _ _ _)).wrap _ 1).ev _

theorem poisonCw_keepsBurning (s : State) (id : Nat) (c : Cw) (o : Nat) : KeepsBurning s (poisonCw s id c o) := by
  have hcount : ∀ s : State, KeepsBurning s (if o = 1 then s.bump LDPC_CNT_POISON_EXHAUSTED 1 else s.bump LDPC_CNT_POISON_CUT 1) := fun s => by
    split <;> exact (KeepsBurning.refl s).bump _ 1
  unfold poisonCw
  dsimp only
  refine .modLdpc (.trans (.trans (.trans ?_ (hcount _)) (noteDesc_keepsBurning _ c false)) (resultEntry_keepsBurning _ c o)) _
  exact (KeepsBurning.of_inkHidden (inkWriteZ_inkHidden s _ _ _ _ _)).ev _

theorem toRevisit_keepsBurning (s : State) (id p : Nat) : KeepsBurning s (toRevisit s id p) := by
  have e : ∀ c : Cw, KeepsBurning s (if leftBand s c then poisonCw s id c 2 else noteDesc (s.putCw id c) c false) := fun c => by
    split
    · exact poisonCw_keepsBurning s id c 2
    · exact ((KeepsBurning.refl s).putCw id c).trans (noteDesc_keepsBurning _ c false)
  unfold toRevisit
  split
  · exact .refl s
  · split
    · exact poisonCw_keepsBurning s id _ 1
    · exact e _

theorem newCw_keepsBurning (s : State) (c : Cw) : KeepsBurning s (newCw s c).2 := by
  unfold newCw
  exact ((KeepsBurning.refl s).modLdpc _).putCw _ c

theorem endUnread_keepsBurning (s : State) (n k : Nat) (c : NibCw) (b : Bool) : KeepsBurning s (endUnread s n k c b) := by
  unfold endUnread
  split
  · exact .refl s
  · next d _ =>
    have htaken := noteTaken_keepsBurning s n k d c.idx
    dsimp only
    split
    · exact htaken.trans (KeepsBurning.frame.iff (noteVerify_keepsBurning _ _ _ _) fun _ => resultEntry_keepsBurning _ _ _)
    · split
      · exact htaken.trans ((newCw_keepsBurning _ _).trans (toRevisit_keepsBurning _ _ _))
      · exact htaken.trans ((noteDesc_keepsBurning _ _ _).trans (resultEntry_keepsBurning _ _ _))

theorem refreshLdpc_keepsBurning (s : State) : KeepsBurning s (refreshLdpc s) := by
  unfold refreshLdpc
  dsimp only
  iterate 9 refine KeepsBurning.set ?_ _ _
  exact .refl s

theorem incompletePen_keepsBurning (s : State) (n : Nat) : KeepsBurning s (incompletePen s n) := by
  refine .trans (KeepsBurning.frame.each (.refl s) fun s k _ => ?_) (refreshLdpc_keepsBurning _)
  unfold endCws
  dsimp only
  refine KeepsBurning.frame.each ?_ fun s c _ => endUnread_keepsBurning s n k c true
  exact KeepsBurning.frame.iff ((KeepsBurning.refl s).modNib n k _) fun _ => .ev (.refl _) _

/-! ### Burns that are stopped -/

theorem burningNibs_eq_zero {s : State} {n : Nat} (h : ∀ d ∈ (s.writeCh n).group, d.burning = 0) : burningNibs s n = 0 := by
  have fold : ∀ l : List Desc, (∀ d ∈ l, d.burning = 0) → l.foldl (fun m d => m ||| d.burning) 0 = 0 := by
    intro l
    induction l with
    | nil => exact fun _ => rfl
    | cons d l ih =>
      intro hl
      rw [List.foldl_cons, hl d List.mem_cons_self]
      exact ih fun e he => hl e (List.mem_cons_of_mem d he)
  exact fold _ h

/-- One descriptor of a pen whose burns are stopped: its burns count as failed, and it is to complete ABORTED (R45). -/
def abortDesc (n : Nat) (s : State) (d : Desc) : State :=
  if d.burning = 0 then s else setVerdict (s.bump (WC_CNT_FAIL_ABORTED n) (popcount 16 d.burning)) n d.idx stAborted

/-- Every descriptor that still burns is open, and one of those to be stopped has its index. -/
def StopsAll (s : State) (n : Nat) (l : List Desc) : Prop :=
  ∀ e ∈ (s.writeCh n).group, e.burning ≠ 0 → (e.verdict = none ∧ e.done = false) ∧ ∃ d ∈ l, d.idx = e.idx ∧ d.burning ≠ 0

theorem StopsAll.step {s : State} {n : Nat} {d : Desc} {l : List Desc} (h : StopsAll s n (d :: l)) : StopsAll (abortDesc n s d) n l := by
  unfold abortDesc
  split
  · next hd =>
    intro e he hb
    obtain ⟨ho, x, hx, hi, hxb⟩ := h e he hb
    rcases List.mem_cons.1 hx with rfl | hx
    · exact absurd hd hxb
    · exact ⟨ho, x, hx, hi, hxb⟩
  · intro e he hb
    rw [setVerdict, group_modDesc, State.bump, State.writeCh_set] at he
    obtain ⟨a, ha, rfl⟩ := List.mem_map.1 he
    by_cases hi : a.idx = d.idx
    · rw [if_pos hi] at hb
      by_cases hab : a.burning = 0
      · split at hb
        · exact absurd rfl hb
        · exact absurd hab hb
      · obtain ⟨hv, hd⟩ := (h a ha hab).1
        simp [hv, hd] at hb
    · rw [if_neg hi] at hb ⊢
      obtain ⟨ho, x, hx, hxi, hxb⟩ := h a ha hb
      rcases List.mem_cons.1 hx with rfl | hx
      · exact absurd hxi.symm hi
      · exact ⟨ho, x, hx, hxi, hxb⟩

theorem StopsAll.each {s : State} {n : Nat} {l : List Desc} (h : StopsAll s n l) : StopsAll (s.each l (abortDesc n)) n [] := by
  induction l generalizing s with
  | nil => exact h
  | cons d l ih => exact ih h.step

theorem abortBurns_idle {s : State} {n : Nat} (h : burningNibs s n = 0) : abortBurns s n = s := if_pos h

theorem abortBurns_stops {s : State} {n : Nat} (h : burningNibs s n ≠ 0) : abortBurns s n =
    refreshWc (((sendAbort (s.each (s.writeCh n).group (abortDesc n)) n (burningNibs s n)).ev (WC_EVENT_ABORT n)).ev (RUL_EVENT_WRITE_ABORT n)) n :=
  if_neg h

/-- Once the burns of a pen are stopped none of its nibs burns. -/
theorem abortBurns_burning {s : State} {n : Nat} (h : ∀ d ∈ (s.writeCh n).group, d.burning ≠ 0 → d.verdict = none ∧ d.done = false) :
    burningNibs (abortBurns s n) n = 0 := by
  by_cases hb : burningNibs s n = 0
  · rw [abortBurns_idle hb, hb]
  · have hall : StopsAll (s.each (s.writeCh n).group (abortDesc n)) n [] := StopsAll.each fun e he hn => ⟨h e he hn, e, he, rfl, hn⟩
    have hkept : KeepsBurning (s.each (s.writeCh n).group (abortDesc n)) (abortBurns s n) := by
      rw [abortBurns_stops hb]
      exact .of_wc rfl
    rw [hkept.nibs]
    refine burningNibs_eq_zero fun d hd => ?_
    by_contra hn
    obtain ⟨-, x, hx, -⟩ := hall d hd hn
    exact absurd hx List.not_mem_nil

theorem abortDesc_sameFields (n : Nat) (s : State) (d : Desc) : SameFields (stoppedOf n) s (abortDesc n s d) := by
  unfold abortDesc
  split
  · exact .refl _ s
  · exact ((SameFields.refl _ s).bump (WC_CNT_FAIL_ABORTED n) _ (by simp [stoppedOf])).trans ((modDesc_sameFields _ _ _ _).mono (by simp))

theorem abortBurns_sameFields (s : State) (n : Nat) : SameFields (stoppedOf n) s (abortBurns s n) := by
  by_cases hb : burningNibs s n = 0
  · rw [abortBurns_idle hb]
    exact .refl _ s
  · rw [abortBurns_stops hb]
    have hloop := (SameFields.frame (stoppedOf n)).each (l := (s.writeCh n).group) (.refl _ s) fun s d _ => abortDesc_sameFields n s d
    have hsent : SameFields (stoppedOf n) s (sendAbort (s.each (s.writeCh n).group (abortDesc n)) n (burningNibs s n)) := hloop.trans (.of_fld rfl)
    exact ((hsent.ev (WC_EVENT_ABORT n) (by simp [stoppedOf])).ev (RUL_EVENT_WRITE_ABORT n) (by simp [stoppedOf])).trans
      ((refreshWc_onlyFields _ n).1.mono (by simp [stoppedOf]))

/-! ### Fields that a change of the loop's state reaches -/

namespace SameOrStopped

variable {n : Nat} {but : List Fld}

theorem of_sameFields {s t : State} (h : SameFields but s t) : SameOrStopped n but s t := ⟨h.mono (List.subset_append_left _ _), fun _ => h⟩

theorem mono {l : List Fld} {s t : State} (h : SameOrStopped n but s t) (hs : but ⊆ l) : SameOrStopped n l s t :=
  ⟨h.1.mono (List.append_subset.2 ⟨List.Subset.trans hs (List.subset_append_left _ _), List.subset_append_right _ _⟩), fun hb => (h.2 hb).mono hs⟩

/-- What comes before, and burns nothing more. -/
theorem after {s t u : State} (h : SameFields but s t) (hb : t.writeCh n = s.writeCh n) (k : SameOrStopped n but t u) : SameOrStopped n but s u :=
  ⟨(h.mono (List.subset_append_left _ _)).trans k.1, fun hz => h.trans (k.2 (by rw [burningNibs, hb]; exact hz))⟩

theorem before {s t u : State} (h : SameOrStopped n but s t) (k : SameFields but t u) : SameOrStopped n but s u :=
  ⟨h.1.trans (k.mono (List.subset_append_left _ _)), fun hz => (h.2 hz).trans k⟩

end SameOrStopped

theorem abortBurns_sameOrStopped (s : State) (n : Nat) : SameOrStopped n [] s (abortBurns s n) :=
  ⟨abortBurns_sameFields s n, fun h => by rw [abortBurns_idle h]; exact .refl _ s⟩

theorem refreshWriteOk_sameOrStopped (s : State) (n : Nat) : SameOrStopped n [RUL_STATUS_WRITE_OK n] s (refreshWriteOk s n) := by
  have hset : SameFields [RUL_STATUS_WRITE_OK n] s (s.set (RUL_STATUS_WRITE_OK n) (if writeOk s n then 1 else 0)) := .set (.refl _ s) _ _ (by simp)
  unfold refreshWriteOk State.iff
  dsimp only
  split
  · exact .after hset (s.writeCh_set _ _ n) ((abortBurns_sameOrStopped _ n).mono (by simp))
  · exact .of_sameFields hset

theorem refreshFrozenPen_sameFields (s : State) (n : Nat) : SameFields (frozenOf n) s (refreshFrozenPen s n) :=
  (SameFields.frame _).each (.refl _ s) fun t k hk =>
    (refreshFrozen_sameFields t n k).mono (by
      simpa [frozenOf] using ⟨k, lt_of_lt_of_le (List.mem_range.1 hk) (dataNibs_le s n), rfl⟩)

theorem setRulState_sameOrStopped (s : State) (n st : Nat) :
    SameOrStopped n ([RUL_STATUS_STATE n, RUL_STATUS_WRITE_OK n] ++ frozenOf n) s (setRulState s n st) := by
  have hset : SameFields ([RUL_STATUS_STATE n, RUL_STATUS_WRITE_OK n] ++ frozenOf n) s (s.set (RUL_STATUS_STATE n) st) := .set (.refl _ s) _ _ (by simp)
  refine .before (.after hset (s.writeCh_set _ _ n) ((refreshWriteOk_sameOrStopped _ n).mono (by simp))) ?_
  exact (refreshFrozenPen_sameFields _ n).mono (List.subset_append_right _ _)

theorem refreshFrozenPen_wc (s : State) (n m : Nat) : (refreshFrozenPen s n).writeCh m = s.writeCh m :=
  State.each_keeps (fun s => s.writeCh m) _ _ _ fun _ _ _ => rfl

/-- A loop that enters a state in which nothing is written burns nothing (R45, R151). -/
theorem setRulState_burning {s : State} {n st : Nat} (hst : st % 8 ≠ 4 ∧ st % 8 ≠ 5)
    (h : ∀ d ∈ (s.writeCh n).group, d.burning ≠ 0 → d.verdict = none ∧ d.done = false) : burningNibs (setRulState s n st) n = 0 := by
  have hstate : (s.set (RUL_STATUS_STATE n) st).get (RUL_STATUS_STATE n) = st % 8 := State.get_set _ _ _
  have hok : writeOk (s.set (RUL_STATUS_STATE n) st) n = false := by simp [writeOk, hstate, hst.1]
  have habort : refreshWriteOk (s.set (RUL_STATUS_STATE n) st) n
      = abortBurns ((s.set (RUL_STATUS_STATE n) st).set (RUL_STATUS_WRITE_OK n) 0) n := by
    simp [refreshWriteOk, hok, hstate, hst.1, hst.2, State.iff]
  rw [setRulState, burningNibs, refreshFrozenPen_wc, habort]
  exact abortBurns_burning h

end Sys2Proof.Machine

/-!
Ruling loops: ENABLE, DISABLE, JUMP, and the writes of BAND and PERIODS (R35 to R37, R40, R42, R44, R51).
-/

namespace Sys2Proof.Machine

/-! ### Fields of a ruling block -/

/-- A field of the ruling block of pen n, but for the event that stopping burns sets. -/
structure RulFld (n : Nat) (f : Fld) : Prop where
  pen : n < 16
  low : rulBase n * 64 ≤ f.key
  high : f.key < (rulBase n + 0x200) * 64
  event : f.key ≠ (RUL_EVENT_WRITE_ABORT n).key

theorem rulFld_ctrl {n o : Nat} (hn : n < 16) {f : Fld} (ha : f.addr = rulBase n + o) (ho : o < 0x40) (hl : f.lo < 64) : RulFld n f := by
  refine ⟨hn, ?_, ?_, ?_⟩ <;> simp only [Fld.key, ha, RUL_EVENT_WRITE_ABORT] <;> omega

namespace RulFld

variable {n : Nat} {f : Fld} (h : RulFld n f)
include h

theorem notPool : notPool f := by
  have hl := h.low
  have hr := h.high
  simp only [rulBase, penBase] at hl hr
  simp only [Machine.notPool, notInk, Fld.block]
  omega

theorem notOffsets : notOffsets n f := by
  have hl := h.low
  have hr := h.high
  simp only [rulBase, penBase] at hl hr
  refine ⟨?_, fun i _ => ?_⟩
  · simp only [Fld.key, SV_STATUS_RETRY_OFS, svBase, penBase] at hr ⊢
    omega
  · have hle : (LE_OFS_OFS n i).key = (0x2001000000 + 0x100000 * n + 0x40000 + (0x40 + 0x4 * i)) * 64 := by
      simp only [Fld.key, LE_OFS_OFS, leBase, if_pos h.pen, penBase]
      rfl
    rw [hle]
    omega

theorem readChannel {g : Fld} {o : Nat} (hg : g.addr = rcBase n + o) : f.key ≠ g.key := by
  have hr := h.high
  simp only [Fld.key, hg, rulBase, rcBase, penBase] at hr ⊢
  omega

theorem frozen (k : Nat) : f.key ≠ (RC_NIB_STATUS_FROZEN n k).key := h.readChannel rfl

theorem notBurns : notBurns n f := by
  have hl := h.low
  have hr := h.high
  refine ⟨?_, h.event⟩
  simp only [rulBase, penBase] at hl hr
  simp only [Fld.block, Fld.key, WC_EVENT_ABORT, wcBase, penBase] at hl hr ⊢
  omega

end RulFld

/-! ### Entering a state, and giving up a lock -/

theorem setRulState_get_rul {n : Nat} {f : Fld} (h : RulFld n f) (hs : f.key ≠ (RUL_STATUS_STATE n).key) (hw : f.key ≠ (RUL_STATUS_WRITE_OK n).key)
    (s : State) (st : Nat) : (setRulState s n st).get f = s.get f :=
  setRulState_get s n st (fun k _ => h.frozen k) hs hw h.notBurns

/-- The registers and the record of a loop that gives up its lock, before its state is shown (R36, R40). -/
def unlocked (s : State) (n : Nat) : State :=
  (((s.set (RUL_STATUS_ANGLE_VALID n) 0).set (RUL_STATUS_CLK_SRC n) 0).modRul n fun r =>
    { r with sub := 0, pending := none, miss := 0, prev := [], slipBin := none, slipFrom := none, back := none, holdExpired := false }).set
      (RUL_STATUS_SEARCH_WIDE n) 0

/-- What becomes of codewords where a lock is given up (R57, R107). -/
def unlockCws (n st : Nat) (s : State) : State :=
  State.each (incompletePen (s.iff (st == rulFreq) fun s => cutPending s n (fun _ => true)) n) (List.range 16) fun s k =>
    s.modNib n k fun b => { b with anew := true }

theorem unlock_eq (s : State) (n st : Nat) : unlock s n st = unlockCws n st (setRulState (unlocked s n) n st) := rfl

theorem unlockCws_get {n : Nat} {f : Fld} (h : RulFld n f) (st : Nat) (s : State) : (unlockCws n st s).get f = s.get f := by
  rw [unlockCws, State.get_each_of _ _ _ fun s k _ => State.modNib_get s n k _ f, incompletePen_get _ _ h.notPool (h.readChannel rfl)]
  exact State.get_iff_of _ _ _ (cutPending_get _ _ _ h.notPool h.notOffsets)

/-- Giving up a lock for OFF keeps what burns. -/
theorem unlockCws_off_burning (n : Nat) (s : State) : KeepsBurning s (unlockCws n rulOff s) :=
  KeepsBurning.frame.each (incompletePen_keepsBurning s n) fun s k _ => (KeepsBurning.refl s).modNib n k _

theorem unlock_state {n : Nat} (hn : n < 16) (s : State) (st : Nat) : (unlock s n st).get (RUL_STATUS_STATE n) = st % 8 := by
  rw [unlock_eq, unlockCws_get (rulFld_ctrl (o := 0x10) hn rfl (by decide) (by simp [RUL_STATUS_STATE])), setRulState_state]

theorem unlock_writeOk {n : Nat} (hn : n < 16) (s : State) {st : Nat} (h : st % 8 ≠ 4) : (unlock s n st).get (RUL_STATUS_WRITE_OK n) = 0 := by
  rw [unlock_eq, unlockCws_get (rulFld_ctrl (o := 0x10) hn rfl (by decide) (by simp [RUL_STATUS_WRITE_OK])), setRulState_writeOk _ _ _ h]

/-- The fields that a lock given up reads as 0. -/
theorem unlock_angle {n : Nat} (hn : n < 16) (s : State) (st : Nat) :
    (unlock s n st).get (RUL_STATUS_ANGLE_VALID n) = 0 ∧ (unlock s n st).get (RUL_STATUS_CLK_SRC n) = 0 := by
  have ha : RulFld n (RUL_STATUS_ANGLE_VALID n) := rulFld_ctrl (o := 0x10) hn rfl (by decide) (by simp [RUL_STATUS_ANGLE_VALID])
  have hc : RulFld n (RUL_STATUS_CLK_SRC n) := rulFld_ctrl (o := 0x10) hn rfl (by decide) (by simp [RUL_STATUS_CLK_SRC])
  have key : (RUL_STATUS_ANGLE_VALID n).key ≠ (RUL_STATUS_STATE n).key ∧ (RUL_STATUS_ANGLE_VALID n).key ≠ (RUL_STATUS_WRITE_OK n).key
      ∧ (RUL_STATUS_CLK_SRC n).key ≠ (RUL_STATUS_STATE n).key ∧ (RUL_STATUS_CLK_SRC n).key ≠ (RUL_STATUS_WRITE_OK n).key
      ∧ (RUL_STATUS_ANGLE_VALID n).key ≠ (RUL_STATUS_SEARCH_WIDE n).key ∧ (RUL_STATUS_CLK_SRC n).key ≠ (RUL_STATUS_SEARCH_WIDE n).key
      ∧ (RUL_STATUS_ANGLE_VALID n).key ≠ (RUL_STATUS_CLK_SRC n).key := by
    simp only [Fld.key, RUL_STATUS_ANGLE_VALID, RUL_STATUS_STATE, RUL_STATUS_WRITE_OK, RUL_STATUS_CLK_SRC, RUL_STATUS_SEARCH_WIDE]
    omega
  obtain ⟨has, haw, hcs, hcw, hax, hcx, hac⟩ := key
  refine ⟨?_, ?_⟩
  · rw [unlock_eq, unlockCws_get ha, setRulState_get_rul ha has haw, unlocked, State.get_set_ne _ _ hax, State.modRul_get, State.get_set_ne _ _ hac,
      State.get_set]
    rfl
  · rw [unlock_eq, unlockCws_get hc, setRulState_get_rul hc hcs hcw, unlocked, State.get_set_ne _ _ hcx, State.modRul_get, State.get_set]
    rfl

/-- A field of the ruling's control word is none of what a lock given up changes. -/
theorem unlock_ctrl {n : Nat} (hn : n < 16) {f : Fld} (ha : f.addr = rulBase n) (hl : f.lo ≤ 16) (s : State) (st : Nat) :
    (unlock s n st).get f = s.get f := by
  have h : RulFld n f := rulFld_ctrl (o := 0) hn ha (by decide) (by omega)
  have key : ∀ g : Fld, g.addr = rulBase n + 0x10 → f.key ≠ g.key := fun g hg => by
    simp only [Fld.key, ha, hg]
    omega
  rw [unlock_eq, unlockCws_get h, setRulState_get_rul h (key _ rfl) (key _ rfl), unlocked, State.get_set_ne _ _ (key _ rfl), State.modRul_get,
    State.get_set_ne _ _ (key _ rfl), State.get_set_ne _ _ (key _ rfl)]

theorem unlocked_wc (s : State) (n m : Nat) : (unlocked s n).writeCh m = s.writeCh m := (rfl)

/-- Nothing burns once the loop is OFF (R45, R151). -/
theorem unlock_off_burning {s : State} {n : Nat} (h : ∀ d ∈ (s.writeCh n).group, d.burning ≠ 0 → d.verdict = none ∧ d.done = false) :
    burningNibs (unlock s n rulOff) n = 0 := by
  rw [unlock_eq, (unlockCws_off_burning n _).nibs]
  exact setRulState_burning (by decide) (by rw [unlocked_wc]; exact h)

/-! ### Entering FREQ -/

theorem setNco_sameFields (s : State) (n v : Nat) : SameFields [RUL_FREQ_PERIOD_RATE n] s (setNco s n v) :=
  .set (.of_fld (t := s.modRul n fun r => { r with nco := v }) rfl) (RUL_FREQ_PERIOD_RATE n) _ (by simp)

/-- The NCO is seeded with the rate of the RNI track at the speed measured (R35). -/
theorem seedNco_rate (s : State) (n : Nat) : (seedNco s n).get (RUL_FREQ_PERIOD_RATE n)
    = 1024 * s.get (RUL_PERIODS_M_RNI n) * s.get (MOT_SP_SPEED_MEAS (n / 2)) / 960 % 2 ^ 32 := by
  have hdiv : ∀ x : Nat, x * 2 ^ 19 / 960 / 2 ^ 19 = x / 960 := fun x => by
    rw [Nat.div_div_eq_div_mul, Nat.mul_div_mul_right _ _ (by decide)]
  rw [seedNco, setNco, State.get_set, hdiv]
  rfl

theorem enterFreq_state (s : State) (n : Nat) : (enterFreq s n).get (RUL_STATUS_STATE n) = 1 := setRulState_state _ _ _

theorem enterFreq_writeOk (s : State) (n : Nat) : (enterFreq s n).get (RUL_STATUS_WRITE_OK n) = 0 := setRulState_writeOk _ _ _ (by decide)

theorem enterFreq_sameOrStopped (s : State) (n : Nat) :
    SameOrStopped n ([RUL_FREQ_PERIOD_RATE n, RUL_STATUS_STATE n, RUL_STATUS_WRITE_OK n] ++ frozenOf n) s (enterFreq s n) := by
  refine .after ((setNco_sameFields s n _).mono ?_) rfl ((setRulState_sameOrStopped _ n rulFreq).mono ?_)
  · simp
  · exact List.subset_cons_self _ _

/-- A field of the ruling block that entering FREQ does not reach. -/
theorem enterFreq_get {n : Nat} {f : Fld} (h : RulFld n f) (hr : f.key ≠ (RUL_FREQ_PERIOD_RATE n).key) (hs : f.key ≠ (RUL_STATUS_STATE n).key)
    (hw : f.key ≠ (RUL_STATUS_WRITE_OK n).key) (s : State) : (enterFreq s n).get f = s.get f := by
  rw [enterFreq, setRulState_get_rul h hs hw, seedNco, (setNco_sameFields s n _).get (by simpa using hr)]

theorem enterFreq_rate {n : Nat} (hn : n < 16) (s : State) : (enterFreq s n).get (RUL_FREQ_PERIOD_RATE n)
    = 1024 * s.get (RUL_PERIODS_M_RNI n) * s.get (MOT_SP_SPEED_MEAS (n / 2)) / 960 % 2 ^ 32 := by
  rw [enterFreq, setRulState_get_rul (rulFld_ctrl (o := 0x30) hn rfl (by decide) (by simp [RUL_FREQ_PERIOD_RATE])), seedNco_rate]
  all_goals
    simp only [Fld.key, RUL_FREQ_PERIOD_RATE, RUL_STATUS_STATE, RUL_STATUS_WRITE_OK]
    omega

theorem bothM_eq {s : State} {n : Nat} : bothM s n = true ↔ s.get (RUL_PERIODS_M_RNI n) ≠ 0 ∧ s.get (RUL_PERIODS_M_RNO n) ≠ 0 := by
  simp [bothM]

/-! ### ENABLE -/

/-- Writing the control word leaves what decides on the loop: its state, the period counts, and the spindle's speed. -/
theorem ctrl_set_keeps (s : State) {n : Nat} {f : Fld} (hf : f.addr = rulBase n) (hl : f.lo ≤ 16) (v : Nat) :
    (s.set f v).get (RUL_STATUS_STATE n) = s.get (RUL_STATUS_STATE n) ∧ (s.set f v).get (RUL_PERIODS_M_RNI n) = s.get (RUL_PERIODS_M_RNI n)
      ∧ (s.set f v).get (RUL_PERIODS_M_RNO n) = s.get (RUL_PERIODS_M_RNO n)
      ∧ (s.set f v).get (MOT_SP_SPEED_MEAS (n / 2)) = s.get (MOT_SP_SPEED_MEAS (n / 2)) := by
  refine ⟨?_, ?_, ?_, ?_⟩ <;> refine s.get_set_ne v ?_ <;>
    simp only [Fld.key, hf, RUL_STATUS_STATE, RUL_PERIODS_M_RNI, RUL_PERIODS_M_RNO, MOT_SP_SPEED_MEAS, motBase, rulBase, penBase] <;> omega

theorem rulEnable_starts {n : Nat} {s : State} (h : s.get (RUL_STATUS_STATE n) = 0) (hi : s.get (RUL_PERIODS_M_RNI n) ≠ 0)
    (ho : s.get (RUL_PERIODS_M_RNO n) ≠ 0) : rulEnable n s = enterFreq (s.set (RUL_CTRL_ENABLE n) 1) n := by
  obtain ⟨hs, hri, hro, -⟩ := ctrl_set_keeps s (f := RUL_CTRL_ENABLE n) rfl (Nat.zero_le 16) 1
  simp only [rulEnable, hs, h, if_true]
  exact if_pos (bothM_eq.2 ⟨hri.symm ▸ hi, hro.symm ▸ ho⟩)

theorem rulEnable_refused {n : Nat} {s : State} (h : s.get (RUL_STATUS_STATE n) = 0)
    (hm : s.get (RUL_PERIODS_M_RNI n) = 0 ∨ s.get (RUL_PERIODS_M_RNO n) = 0) :
    rulEnable n s = (s.set (RUL_CTRL_ENABLE n) 1).ev (RUL_EVENT_CFG_ERR n) := by
  obtain ⟨hs, hri, hro, -⟩ := ctrl_set_keeps s (f := RUL_CTRL_ENABLE n) rfl (Nat.zero_le 16) 1
  simp only [rulEnable, hs, h, if_true]
  refine if_neg fun hb => ?_
  rw [bothM_eq, hri, hro] at hb
  exact hm.elim hb.1 hb.2

theorem rulEnable_level {n : Nat} {s : State} (h : s.get (RUL_STATUS_STATE n) ≠ 0) : rulEnable n s = s.set (RUL_CTRL_ENABLE n) 1 := by
  obtain ⟨hs, -⟩ := ctrl_set_keeps s (f := RUL_CTRL_ENABLE n) rfl (Nat.zero_le 16) 1
  simp only [rulEnable, hs]
  exact if_neg h

/-- ENABLE reads as it was written, whatever the loop does. -/
theorem rulEnable_enable {n : Nat} (hn : n < 16) (s : State) : (rulEnable n s).get (RUL_CTRL_ENABLE n) = 1 := by
  have hset : (s.set (RUL_CTRL_ENABLE n) 1).get (RUL_CTRL_ENABLE n) = 1 := State.get_set _ _ _
  by_cases h : s.get (RUL_STATUS_STATE n) = 0
  · by_cases hm : s.get (RUL_PERIODS_M_RNI n) = 0 ∨ s.get (RUL_PERIODS_M_RNO n) = 0
    · rw [rulEnable_refused h hm, State.get_ev_ne, hset]
      simp only [Fld.key, RUL_CTRL_ENABLE, RUL_EVENT_CFG_ERR]
      omega
    · rw [not_or] at hm
      rw [rulEnable_starts h hm.1 hm.2, enterFreq_get (rulFld_ctrl (o := 0) hn rfl (by decide) (by simp [RUL_CTRL_ENABLE])), hset]
      all_goals
        simp only [Fld.key, RUL_CTRL_ENABLE, RUL_FREQ_PERIOD_RATE, RUL_STATUS_STATE, RUL_STATUS_WRITE_OK]
        omega
  · rw [rulEnable_level h, hset]

theorem rulEnable_effect {n : Nat} (hn : n < 16) {s : State} (h : s.get (RUL_STATUS_STATE n) = 0) (hi : s.get (RUL_PERIODS_M_RNI n) ≠ 0)
    (ho : s.get (RUL_PERIODS_M_RNO n) ≠ 0) : (rulEnable n s).get (RUL_STATUS_STATE n) = 1 ∧ (rulEnable n s).get (RUL_STATUS_WRITE_OK n) = 0
      ∧ (rulEnable n s).get (RUL_FREQ_PERIOD_RATE n) = 1024 * s.get (RUL_PERIODS_M_RNI n) * s.get (MOT_SP_SPEED_MEAS (n / 2)) / 960 % 2 ^ 32
      ∧ SameOrStopped n ([RUL_CTRL_ENABLE n, RUL_FREQ_PERIOD_RATE n, RUL_STATUS_STATE n, RUL_STATUS_WRITE_OK n] ++ frozenOf n) s (rulEnable n s) := by
  obtain ⟨-, hri, -, hsp⟩ := ctrl_set_keeps s (f := RUL_CTRL_ENABLE n) rfl (Nat.zero_le 16) 1
  rw [rulEnable_starts h hi ho]
  refine ⟨enterFreq_state _ n, enterFreq_writeOk _ n, ?_, ?_⟩
  · rw [enterFreq_rate hn, hri, hsp]
  · exact .after (.set (.refl _ s) (RUL_CTRL_ENABLE n) 1 (by simp)) rfl ((enterFreq_sameOrStopped _ n).mono (List.subset_cons_self _ _))

/-! ### DISABLE -/

theorem rulDisable_off {n : Nat} {s : State} (h : s.get (RUL_STATUS_STATE n) = 0) : rulDisable n s = s.set (RUL_CTRL_ENABLE n) 0 := by
  obtain ⟨hs, -⟩ := ctrl_set_keeps s (f := RUL_CTRL_ENABLE n) rfl (Nat.zero_le 16) 0
  simp only [rulDisable, hs]
  exact if_pos h

theorem rulDisable_unlocks {n : Nat} {s : State} (h : s.get (RUL_STATUS_STATE n) ≠ 0) :
    rulDisable n s = unlock (s.set (RUL_CTRL_ENABLE n) 0) n rulOff := by
  obtain ⟨hs, -⟩ := ctrl_set_keeps s (f := RUL_CTRL_ENABLE n) rfl (Nat.zero_le 16) 0
  simp only [rulDisable, hs]
  exact if_neg h

theorem rulDisable_shown {n : Nat} (hn : n < 16) (s : State) :
    (rulDisable n s).get (RUL_CTRL_ENABLE n) = 0 ∧ (rulDisable n s).get (RUL_STATUS_STATE n) = 0 := by
  have hset : (s.set (RUL_CTRL_ENABLE n) 0).get (RUL_CTRL_ENABLE n) = 0 := State.get_set _ _ _
  obtain ⟨hs, -⟩ := ctrl_set_keeps s (f := RUL_CTRL_ENABLE n) rfl (Nat.zero_le 16) 0
  by_cases h : s.get (RUL_STATUS_STATE n) = 0
  · rw [rulDisable_off h]
    exact ⟨hset, hs.trans h⟩
  · rw [rulDisable_unlocks h]
    exact ⟨(unlock_ctrl hn rfl (Nat.zero_le 16) _ _).trans hset, unlock_state hn _ _⟩

/-! ### JUMP -/

theorem rulJumpSet_enters {n : Nat} {s : State} (h : s.get (RUL_STATUS_STATE n) ∈ [4, 5, 6]) : rulJumpSet n s =
    setRulState ((s.set (RUL_CTRL_JUMP n) 1).modRul n fun r => { r with holdExpired := false }) n rulJump := by
  obtain ⟨hs, -⟩ := ctrl_set_keeps s (f := RUL_CTRL_JUMP n) rfl (Nat.le_of_ble_eq_true rfl) 1
  simp only [rulJumpSet, hs]
  exact if_pos (by simpa using h)

theorem rulJumpSet_arms {n : Nat} {s : State} (h : s.get (RUL_STATUS_STATE n) ∉ [4, 5, 6]) : rulJumpSet n s = s.set (RUL_CTRL_JUMP n) 1 := by
  obtain ⟨hs, -⟩ := ctrl_set_keeps s (f := RUL_CTRL_JUMP n) rfl (Nat.le_of_ble_eq_true rfl) 1
  simp only [rulJumpSet, hs]
  exact if_neg (by simpa using h)

theorem rulFld_jump {n : Nat} (hn : n < 16) : RulFld n (RUL_CTRL_JUMP n) := rulFld_ctrl (o := 0) hn rfl (by decide) (by simp [RUL_CTRL_JUMP])

/-- JUMP and the loop's status are different fields. -/
theorem jump_ne_status (n : Nat) : (RUL_CTRL_JUMP n).key ≠ (RUL_STATUS_STATE n).key ∧ (RUL_CTRL_JUMP n).key ≠ (RUL_STATUS_WRITE_OK n).key := by
  simp only [Fld.key, RUL_CTRL_JUMP, RUL_STATUS_STATE, RUL_STATUS_WRITE_OK]
  omega

theorem rulJumpSet_jump {n : Nat} (hn : n < 16) (s : State) : (rulJumpSet n s).get (RUL_CTRL_JUMP n) = 1 := by
  have hset : (s.set (RUL_CTRL_JUMP n) 1).get (RUL_CTRL_JUMP n) = 1 := State.get_set _ _ _
  by_cases h : s.get (RUL_STATUS_STATE n) ∈ [4, 5, 6]
  · rw [rulJumpSet_enters h, setRulState_get_rul (rulFld_jump hn) (jump_ne_status n).1 (jump_ne_status n).2, State.modRul_get, hset]
  · rw [rulJumpSet_arms h, hset]

theorem rulJumpSet_effect {n : Nat} {s : State} (h : s.get (RUL_STATUS_STATE n) ∈ [4, 5, 6]) :
    (rulJumpSet n s).get (RUL_STATUS_STATE n) = 7 ∧ (rulJumpSet n s).get (RUL_STATUS_WRITE_OK n) = 0
      ∧ ((rulJumpSet n s).ruling n).holdExpired = false
      ∧ ((∀ d ∈ (s.writeCh n).group, d.burning ≠ 0 → d.verdict = none ∧ d.done = false) → burningNibs (rulJumpSet n s) n = 0)
      ∧ SameOrStopped n ([RUL_CTRL_JUMP n, RUL_STATUS_STATE n, RUL_STATUS_WRITE_OK n] ++ frozenOf n) s (rulJumpSet n s) := by
  rw [rulJumpSet_enters h]
  refine ⟨setRulState_state _ _ _, setRulState_writeOk _ _ _ (by decide), ?_, fun hb => setRulState_burning (by decide) hb, ?_⟩
  · rw [setRulState_ruling, State.ruling_modRul]
  · have hset : SameFields ([RUL_CTRL_JUMP n, RUL_STATUS_STATE n, RUL_STATUS_WRITE_OK n] ++ frozenOf n) s
        ((s.set (RUL_CTRL_JUMP n) 1).modRul n fun r => { r with holdExpired := false }) :=
      SameFields.trans (.set (.refl _ s) (RUL_CTRL_JUMP n) 1 (by simp)) (.of_fld rfl)
    exact .after hset rfl ((setRulState_sameOrStopped _ n rulJump).mono (List.subset_cons_self _ _))

/-- The registers and the record of a loop that begins on address words again (R41). -/
def addrBegun (s : State) (n : Nat) : State :=
  ((s.each (List.range (dataNibs s n)) fun s k =>
    s.set (RUL_NIB_PHASE_RESID n k) (ofSigned 16 (clampInt (-2048) 2048 (toSigned 16 (s.get (RUL_NIB_PHASE_OFFSET n k)))))).set (RUL_REV_REV n) 0).modRul n
      fun r => { r with prev := [], miss := 0, pending := none, slipBin := none, slipFrom := none, back := none, holdExpired := false }

theorem enterAddr_eq (s : State) (n : Nat) : enterAddr s n = setRulState (addrBegun s n) n rulAddr := rfl

theorem addrBegun_get (s : State) (n : Nat) {f : Fld} (hr : f.key ≠ (RUL_REV_REV n).key) (hk : ∀ k, f.key ≠ (RUL_NIB_PHASE_RESID n k).key) :
    (addrBegun s n).get f = s.get f := by
  rw [addrBegun, State.modRul_get, State.get_set_ne _ _ hr, State.get_each_of _ _ _ fun s k _ => s.get_set_ne _ (hk k)]

theorem enterAddr_effect {n : Nat} (hn : n < 16) (s : State) : (enterAddr s n).get (RUL_STATUS_STATE n) = 3 ∧ (enterAddr s n).get (RUL_REV_REV n) = 0
    ∧ (enterAddr s n).get (RUL_STATUS_ANGLE_VALID n) = s.get (RUL_STATUS_ANGLE_VALID n)
    ∧ (enterAddr s n).get (RUL_CTRL_JUMP n) = s.get (RUL_CTRL_JUMP n) := by
  have ha : RulFld n (RUL_STATUS_ANGLE_VALID n) := rulFld_ctrl (o := 0x10) hn rfl (by decide) (by simp [RUL_STATUS_ANGLE_VALID])
  have hr : RulFld n (RUL_REV_REV n) := rulFld_ctrl (o := 0x24) hn rfl (by decide) (by simp [RUL_REV_REV])
  rw [enterAddr_eq]
  refine ⟨setRulState_state _ _ _, ?_, ?_, ?_⟩
  · rw [setRulState_get_rul hr, addrBegun, State.modRul_get, State.get_set]
    · rfl
    all_goals
      simp only [Fld.key, RUL_REV_REV, RUL_STATUS_STATE, RUL_STATUS_WRITE_OK]
      omega
  · rw [setRulState_get_rul ha, addrBegun_get] <;>
      simp only [Fld.key, RUL_STATUS_ANGLE_VALID, RUL_STATUS_STATE, RUL_STATUS_WRITE_OK, RUL_REV_REV, RUL_NIB_PHASE_RESID] <;> omega
  · rw [setRulState_get_rul (rulFld_jump hn) (jump_ne_status n).1 (jump_ne_status n).2, addrBegun_get] <;>
      simp only [Fld.key, RUL_CTRL_JUMP, RUL_REV_REV, RUL_NIB_PHASE_RESID] <;> omega

theorem rulJumpClear_addr {n : Nat} {s : State} (h : s.get (RUL_STATUS_STATE n) = 7) (he : (s.ruling n).holdExpired = false) :
    rulJumpClear n s = enterAddr (s.set (RUL_CTRL_JUMP n) 0) n := by
  obtain ⟨hs, -⟩ := ctrl_set_keeps s (f := RUL_CTRL_JUMP n) rfl (Nat.le_of_ble_eq_true rfl) 0
  simp only [rulJumpClear, hs, h, if_true]
  exact if_neg (by rw [State.ruling_set, he]; exact Bool.false_ne_true)

theorem rulJumpClear_freq {n : Nat} {s : State} (h : s.get (RUL_STATUS_STATE n) = 7) (he : (s.ruling n).holdExpired = true) :
    rulJumpClear n s = fallToFreq (s.set (RUL_CTRL_JUMP n) 0) n := by
  obtain ⟨hs, -⟩ := ctrl_set_keeps s (f := RUL_CTRL_JUMP n) rfl (Nat.le_of_ble_eq_true rfl) 0
  simp only [rulJumpClear, hs, h, if_true]
  exact if_pos he

theorem rulJumpClear_level {n : Nat} {s : State} (h : s.get (RUL_STATUS_STATE n) ≠ 7) : rulJumpClear n s = s.set (RUL_CTRL_JUMP n) 0 := by
  obtain ⟨hs, -⟩ := ctrl_set_keeps s (f := RUL_CTRL_JUMP n) rfl (Nat.le_of_ble_eq_true rfl) 0
  simp only [rulJumpClear, hs]
  exact if_neg h

theorem fallToFreq_jump {n : Nat} (hn : n < 16) (s : State) : (fallToFreq s n).get (RUL_CTRL_JUMP n) = s.get (RUL_CTRL_JUMP n) := by
  rw [fallToFreq, unlock_ctrl hn rfl (Nat.le_of_ble_eq_true rfl), seedNco, (setNco_sameFields s n _).get]
  simp only [List.forall_mem_singleton, Fld.key, RUL_CTRL_JUMP, RUL_FREQ_PERIOD_RATE]
  omega

theorem rulJumpClear_jump {n : Nat} (hn : n < 16) (s : State) : (rulJumpClear n s).get (RUL_CTRL_JUMP n) = 0 := by
  have hset : (s.set (RUL_CTRL_JUMP n) 0).get (RUL_CTRL_JUMP n) = 0 := State.get_set _ _ _
  by_cases h : s.get (RUL_STATUS_STATE n) = 7
  · cases he : (s.ruling n).holdExpired with
    | true => rw [rulJumpClear_freq h he, fallToFreq_jump hn, hset]
    | false => rw [rulJumpClear_addr h he, (enterAddr_effect hn _).2.2.2, hset]
  · rw [rulJumpClear_level h, hset]

theorem angleValid_jump (s : State) (n v : Nat) :
    (s.set (RUL_CTRL_JUMP n) v).get (RUL_STATUS_ANGLE_VALID n) = s.get (RUL_STATUS_ANGLE_VALID n) := by
  refine s.get_set_ne v ?_
  simp only [Fld.key, RUL_STATUS_ANGLE_VALID, RUL_CTRL_JUMP]
  omega

/-- Settles O11: ENABLE, DISABLE, and JUMP set and cleared. -/
theorem rulingEnableAndJump : Obligations.RulingEnableAndJump := by
  unfold Obligations.RulingEnableAndJump
  refine ⟨⟨fun n s hr => ⟨_, rfl, ?_⟩, fun n s hs => ?_, fun n s hr => ⟨_, rfl, ?_⟩⟩, fun n s hr => ⟨_, rfl, ?_⟩, fun n s hr => ⟨_, rfl, ?_⟩⟩
  · rw [State.clocked_running hr]
    refine ⟨rulEnable_enable n.isLt s, fun h hi ho => rulEnable_effect n.isLt h hi ho, fun h hm => ?_, fun h => ?_⟩
    · rw [rulEnable_refused h hm]
      exact ⟨State.get_set _ _ _, .set (.set (.refl _ s) (RUL_CTRL_ENABLE n) 1 (by simp)) (RUL_EVENT_CFG_ERR n) 1 (by simp)⟩
    · rw [rulEnable_level h]
      exact .set (.refl _ s) (RUL_CTRL_ENABLE n) 1 (by simp)
  · exact ⟨_, rfl, State.clocked_stopped hs _, _, rfl, State.clocked_stopped hs _, _, rfl, State.clocked_stopped hs _, _, rfl, State.clocked_stopped hs _⟩
  · rw [State.clocked_running hr]
    obtain ⟨he, hst⟩ := rulDisable_shown n.isLt s
    refine ⟨he, hst, fun h => ?_, fun h => ?_⟩
    · rw [rulDisable_off h]
      exact .set (.refl _ s) (RUL_CTRL_ENABLE n) 0 (by simp)
    · rw [rulDisable_unlocks h]
      obtain ⟨ha, hc⟩ := unlock_angle n.isLt (s.set (RUL_CTRL_ENABLE n) 0) rulOff
      exact ⟨unlock_writeOk n.isLt _ (by decide), ha, hc, fun hb => unlock_off_burning hb⟩
  · rw [State.clocked_running hr]
    refine ⟨rulJumpSet_jump n.isLt s, fun h => rulJumpSet_effect h, fun h => ?_⟩
    rw [rulJumpSet_arms h]
    exact .set (.refl _ s) (RUL_CTRL_JUMP n) 1 (by simp)
  · rw [State.clocked_running hr]
    refine ⟨rulJumpClear_jump n.isLt s, fun h he => ?_, fun h he => ?_, fun h => ?_⟩
    · rw [rulJumpClear_addr h he]
      obtain ⟨hst, hrev, hav, -⟩ := enterAddr_effect n.isLt (s.set (RUL_CTRL_JUMP n) 0)
      exact ⟨hst, hrev, hav.trans (angleValid_jump s n 0)⟩
    · rw [rulJumpClear_freq h he]
      exact ⟨unlock_state n.isLt _ _, unlock_angle n.isLt _ _⟩
    · rw [rulJumpClear_level h]
      exact .set (.refl _ s) (RUL_CTRL_JUMP n) 0 (by simp)

end Sys2Proof.Machine

/-!
Writes of BAND and PERIODS, accepted in OFF and JUMP only (R35, R42, R44, R51).
-/

namespace Sys2Proof.Machine

theorem rulBandWrite_refused {n : Nat} {s : State} (h : s.get (RUL_STATUS_STATE n) ∉ [0, 7]) (reg : BandReg) (value : Nat) :
    rulBandWrite n reg value s = s.ev (RUL_EVENT_CFG_ERR n) := if_neg (by simpa using h)

/-! ### BAND -/

/-- The three fields of a band are written, and it matches no address word yet (R44). -/
def bandWritten (n value : Nat) (s : State) : State :=
  ((((s.set (RUL_BAND_TRACK n) (value / 2 ^ 16)).set (RUL_BAND_LAYER n) (value / 2 ^ 12)).set (RUL_BAND_SIDE n) (value / 2 ^ 11)).set
    (RUL_STATUS_TRACK_MATCH n) 0).set (RUL_STATUS_LAYER_MATCH n) 0

theorem bandWritten_fields (n value : Nat) (s : State) : (bandWritten n value s).get (RUL_BAND_TRACK n) = value / 2 ^ 16 % 2 ^ 16
    ∧ (bandWritten n value s).get (RUL_BAND_LAYER n) = value / 2 ^ 12 % 16 ∧ (bandWritten n value s).get (RUL_BAND_SIDE n) = value / 2 ^ 11 % 2
    ∧ (bandWritten n value s).get (RUL_STATUS_TRACK_MATCH n) = 0 ∧ (bandWritten n value s).get (RUL_STATUS_LAYER_MATCH n) = 0
    ∧ (bandWritten n value s).get (RUL_STATUS_STATE n) = s.get (RUL_STATUS_STATE n) := by
  simp (disch := (simp only [Fld.key, RUL_BAND_TRACK, RUL_BAND_LAYER, RUL_BAND_SIDE, RUL_STATUS_TRACK_MATCH, RUL_STATUS_LAYER_MATCH, RUL_STATUS_STATE]; omega))
    only [bandWritten, State.get_set_ne, State.get_set]
  exact ⟨rfl, rfl, rfl, rfl, rfl, trivial⟩

/-- What follows a new band: the presets it selects, and the pending codewords of the band that is left (R72, R76, R107). -/
def bandFollowed (n : Nat) (jump : Bool) (s : State) : State :=
  let s := refreshPresets (refreshWriteOk s n) n
  (cutPending s n (leftBand s)).iff jump fun s => s.each (List.range 16) fun s k => s.iff (nibOn s n k) fun s => selectPreset s n k

theorem rulBandWrite_band {n : Nat} {s : State} (h : s.get (RUL_STATUS_STATE n) ∈ [0, 7]) (value : Nat) :
    rulBandWrite n .band value s = bandFollowed n (s.get (RUL_STATUS_STATE n) == rulJump) (bandWritten n value s) := if_pos (by simpa using h)

theorem refreshPresets_get {n : Nat} {f : Fld} (h : RulFld n f) (s : State) : (refreshPresets s n).get f = s.get f := by
  rw [refreshPresets, (refreshAltPen_onlyFields _ n).1.get, refreshZone_get _ _ (h.readChannel rfl)]
  intro g hg
  obtain ⟨k, -, rfl⟩ := List.mem_map.1 hg
  exact h.readChannel rfl

theorem bandFollowed_get {n : Nat} {f : Fld} (h : RulFld n f) (hw : f.key ≠ (RUL_STATUS_WRITE_OK n).key) (jump : Bool) (s : State) :
    (bandFollowed n jump s).get f = s.get f := by
  unfold bandFollowed
  dsimp only
  rw [State.get_iff_of, cutPending_get _ _ _ h.notPool h.notOffsets, refreshPresets_get h, refreshWriteOk_get _ _ hw h.notBurns]
  exact State.get_each_of _ _ _ fun s k _ => State.get_iff_of _ _ _ (selectPreset_get s n k (h.readChannel rfl) (h.readChannel rfl))

/-! ### PERIODS -/

/-- The two period counts are written. -/
def periodsWritten (n value : Nat) (s : State) : State := (s.set (RUL_PERIODS_M_RNO n) (value / 2 ^ 16)).set (RUL_PERIODS_M_RNI n) value

/-- The count goes on by the new M_RNI while the angle is valid (R42). -/
def countFollowed (n : Nat) (s : State) : State :=
  s.iff (s.on (RUL_STATUS_ANGLE_VALID n) && s.get (RUL_PERIODS_M_RNI n) != 0) fun s => setCount s n ((s.ruling n).count : Nat)

theorem rulBandWrite_periods {n : Nat} {s : State} (h : s.get (RUL_STATUS_STATE n) ∈ [0, 7]) (value : Nat) :
    rulBandWrite n .periods value s = (countFollowed n (periodsWritten n value s)).iff (s.get (RUL_STATUS_STATE n) == rulOff
      && (countFollowed n (periodsWritten n value s)).on (RUL_CTRL_ENABLE n) && bothM (countFollowed n (periodsWritten n value s)) n)
        fun s => enterFreq s n := if_pos (by simpa using h)

theorem periodsWritten_fields (n value : Nat) (s : State) : (periodsWritten n value s).get (RUL_PERIODS_M_RNO n) = value / 2 ^ 16 % 2 ^ 11
    ∧ (periodsWritten n value s).get (RUL_PERIODS_M_RNI n) = value % 2 ^ 11
    ∧ (periodsWritten n value s).get (RUL_CTRL_ENABLE n) = s.get (RUL_CTRL_ENABLE n)
    ∧ (periodsWritten n value s).get (RUL_STATUS_ANGLE_VALID n) = s.get (RUL_STATUS_ANGLE_VALID n) := by
  simp (disch := (simp only [Fld.key, RUL_PERIODS_M_RNO, RUL_PERIODS_M_RNI, RUL_CTRL_ENABLE, RUL_STATUS_ANGLE_VALID]; omega))
    only [periodsWritten, State.get_set_ne, State.get_set]
  exact ⟨rfl, rfl, trivial, trivial⟩

theorem setCount_get (s : State) (n : Nat) (c : Int) {f : Fld} (hb : f.key ≠ (RUL_ANGLE_BIN n).key) (ho : f.key ≠ (RUL_ANGLE_OFFSET n).key) :
    (setCount s n c).get f = s.get f := by
  unfold setCount
  dsimp only
  rw [State.get_set_ne _ _ ho, State.get_set_ne _ _ hb, State.modRul_get]

/-- A count within the revolution is kept, and the index follows it (R42). -/
theorem setCount_effect {s : State} {n m c : Nat} (hm : s.get (RUL_PERIODS_M_RNI n) = m) (h0 : 0 < m) (hlt : m < 2 ^ 11) (hc : c < 1024 * m) :
    ((setCount s n c).ruling n).count = c ∧ (setCount s n c).get (RUL_ANGLE_BIN n) = c / m ∧ (setCount s n c).get (RUL_ANGLE_OFFSET n) = c % m := by
  have hmod : ((c : Int) % (periodsPerRev s n : Int)).toNat = c := by
    rw [periodsPerRev, hm, ← Int.natCast_emod, Int.toNat_natCast, Nat.mod_eq_of_lt hc]
  have hbin : c / m < 2 ^ 10 := Nat.div_lt_of_lt_mul (by rw [Nat.mul_comm]; exact hc)
  have hoff : c % m < 2 ^ 11 := (Nat.mod_lt c h0).trans hlt
  unfold setCount
  dsimp only
  rw [hmod, hm]
  refine ⟨?_, ?_, ?_⟩
  · rw [State.ruling_set, State.ruling_set, State.ruling_modRul]
  · rw [State.get_set_ne, State.get_set]
    · exact Nat.mod_eq_of_lt hbin
    · simp only [Fld.key, RUL_ANGLE_BIN, RUL_ANGLE_OFFSET]
      omega
  · rw [State.get_set]
    exact Nat.mod_eq_of_lt hoff

/-- The period counts and ENABLE are none of what the count shows. -/
theorem countFollowed_get (n : Nat) (s : State) {f : Fld} (hb : f.key ≠ (RUL_ANGLE_BIN n).key) (ho : f.key ≠ (RUL_ANGLE_OFFSET n).key) :
    (countFollowed n s).get f = s.get f := State.get_iff_of _ _ _ (setCount_get s n _ hb ho)

theorem countFollowed_fields (n value : Nat) (s : State) :
    (countFollowed n (periodsWritten n value s)).get (RUL_PERIODS_M_RNO n) = value / 2 ^ 16 % 2 ^ 11
      ∧ (countFollowed n (periodsWritten n value s)).get (RUL_PERIODS_M_RNI n) = value % 2 ^ 11
      ∧ (countFollowed n (periodsWritten n value s)).get (RUL_CTRL_ENABLE n) = s.get (RUL_CTRL_ENABLE n) := by
  obtain ⟨ho, hi, he, -⟩ := periodsWritten_fields n value s
  rw [countFollowed_get, countFollowed_get, countFollowed_get, ho, hi, he]
  · exact ⟨rfl, rfl, rfl⟩
  all_goals
    simp only [Fld.key, RUL_PERIODS_M_RNO, RUL_PERIODS_M_RNI, RUL_CTRL_ENABLE, RUL_ANGLE_BIN, RUL_ANGLE_OFFSET]
    omega

theorem rulBandWrite_counts {n : Nat} (hn : n < 16) {s : State} (h : s.get (RUL_STATUS_STATE n) ∈ [0, 7]) (value : Nat) :
    (rulBandWrite n .periods value s).get (RUL_PERIODS_M_RNO n) = value / 2 ^ 16 % 2 ^ 11
      ∧ (rulBandWrite n .periods value s).get (RUL_PERIODS_M_RNI n) = value % 2 ^ 11 := by
  obtain ⟨ho, hi, -⟩ := countFollowed_fields n value s
  have hfo : RulFld n (RUL_PERIODS_M_RNO n) := rulFld_ctrl (o := 0x8) hn rfl (by decide) (by simp [RUL_PERIODS_M_RNO])
  have hfi : RulFld n (RUL_PERIODS_M_RNI n) := rulFld_ctrl (o := 0x8) hn rfl (by decide) (by simp [RUL_PERIODS_M_RNI])
  have hkey : ∀ f : Fld, f.addr = rulBase n + 0x8 → ∀ g : Fld, g.addr = rulBase n + 0x30 ∨ g.addr = rulBase n + 0x10 → f.lo < 64 → f.key ≠ g.key := by
    intro f hf g hg hl
    simp only [Fld.key, hf]
    omega
  have hkeep : ∀ {f : Fld}, RulFld n f → f.addr = rulBase n + 0x8 → f.lo < 64 → (rulBandWrite n .periods value s).get f
      = (countFollowed n (periodsWritten n value s)).get f := fun hf ha hl => by
    rw [rulBandWrite_periods h]
    exact State.get_iff_of _ _ _ (enterFreq_get hf (hkey _ ha _ (.inl rfl) hl) (hkey _ ha _ (.inr rfl) hl) (hkey _ ha _ (.inr rfl) hl) _)
  exact ⟨(hkeep hfo rfl (by simp [RUL_PERIODS_M_RNO])).trans ho, (hkeep hfi rfl (by simp [RUL_PERIODS_M_RNI])).trans hi⟩

/-- The write that makes both period counts non-zero starts an enabled loop that is OFF. -/
theorem rulBandWrite_starts {n value : Nat} {s : State} (h : s.get (RUL_STATUS_STATE n) = 0) (he : s.get (RUL_CTRL_ENABLE n) = 1)
    (ho : value / 2 ^ 16 % 2 ^ 11 ≠ 0) (hi : value % 2 ^ 11 ≠ 0) : (rulBandWrite n .periods value s).get (RUL_STATUS_STATE n) = 1 := by
  obtain ⟨hfo, hfi, hfe⟩ := countFollowed_fields n value s
  have hboth : bothM (countFollowed n (periodsWritten n value s)) n = true := bothM_eq.2 ⟨hfi.symm ▸ hi, hfo.symm ▸ ho⟩
  have hon : (countFollowed n (periodsWritten n value s)).on (RUL_CTRL_ENABLE n) = true := by simp [State.on, hfe, he]
  rw [rulBandWrite_periods (by simp [h]), h, hon, hboth]
  exact enterFreq_state _ n

/-- In JUMP the count goes on by the new M_RNI, as the number of periods it is. -/
theorem rulBandWrite_count {n value : Nat} {s : State} (h : s.get (RUL_STATUS_STATE n) = 7) (ha : s.get (RUL_STATUS_ANGLE_VALID n) = 1)
    (hi : value % 2 ^ 11 ≠ 0) (hc : (s.ruling n).count < 1024 * (value % 2 ^ 11)) :
    ((rulBandWrite n .periods value s).ruling n).count = (s.ruling n).count
      ∧ (rulBandWrite n .periods value s).get (RUL_ANGLE_BIN n) = (s.ruling n).count / (value % 2 ^ 11)
      ∧ (rulBandWrite n .periods value s).get (RUL_ANGLE_OFFSET n) = (s.ruling n).count % (value % 2 ^ 11) := by
  obtain ⟨-, hfi, -, hfa⟩ := periodsWritten_fields n value s
  have hcount : countFollowed n (periodsWritten n value s) = setCount (periodsWritten n value s) n (s.ruling n).count := by
    have hon : ((periodsWritten n value s).on (RUL_STATUS_ANGLE_VALID n) && (periodsWritten n value s).get (RUL_PERIODS_M_RNI n) != 0) = true := by
      rw [State.on, hfa, ha, hfi, bne_iff_ne.2 hi]
      rfl
    rw [countFollowed, hon]
    rfl
  rw [rulBandWrite_periods (by simp [h]), h]
  exact hcount ▸ setCount_effect hfi (Nat.pos_of_ne_zero hi) (Nat.mod_lt _ (by decide)) hc

/-- Settles O12: writes of BAND and PERIODS are accepted in OFF and JUMP only. -/
theorem rulingBandWrite : Obligations.RulingBandWrite := by
  unfold Obligations.RulingBandWrite
  refine fun n v s => ⟨fun reg hs => ?_, fun hr => ⟨_, rfl, ?_⟩, fun hr => ⟨_, rfl, ?_⟩⟩
  · exact congrArg Host.Outcome.next (State.clocked_stopped hs _)
  · rw [State.clocked_running hr]
    refine ⟨fun h => ?_, fun h => ?_⟩
    · have hv : v.toNat / 2 ^ 16 % 2 ^ 16 = v.toNat / 2 ^ 16 := Nat.mod_eq_of_lt (Nat.div_lt_of_lt_mul v.isLt)
      have hf : ∀ {f : Fld} {o : Nat}, f.addr = rulBase n + o → o < 0x40 → f.lo < 64 → f.key ≠ (RUL_STATUS_WRITE_OK n).key → _ := fun ha ho hl hw =>
        bandFollowed_get (rulFld_ctrl n.isLt ha ho hl) hw (s.get (RUL_STATUS_STATE n) == rulJump) (bandWritten n v.toNat s)
      obtain ⟨ht, hl, hside, htm, hlm, hst⟩ := bandWritten_fields n v.toNat s
      rw [rulBandWrite_band h, ← hv]
      refine ⟨(hf (o := 0x4) rfl (by decide) ?_ ?_).trans ht, (hf (o := 0x4) rfl (by decide) ?_ ?_).trans hl, (hf (o := 0x4) rfl (by decide) ?_ ?_).trans hside,
        (hf (o := 0x10) rfl (by decide) ?_ ?_).trans htm, (hf (o := 0x10) rfl (by decide) ?_ ?_).trans hlm, (hf (o := 0x10) rfl (by decide) ?_ ?_).trans hst⟩
      all_goals
        simp only [Fld.key, RUL_BAND_TRACK, RUL_BAND_LAYER, RUL_BAND_SIDE, RUL_STATUS_TRACK_MATCH, RUL_STATUS_LAYER_MATCH, RUL_STATUS_STATE,
          RUL_STATUS_WRITE_OK]
        omega
    · rw [rulBandWrite_refused h]
      exact ⟨State.get_set _ _ _, .set (.refl _ s) (RUL_EVENT_CFG_ERR n) 1 (by simp)⟩
  · rw [State.clocked_running hr]
    refine ⟨fun h => rulBandWrite_counts n.isLt h v.toNat, fun h he ho hi => rulBandWrite_starts h he ho hi,
      fun h ha hi hc => rulBandWrite_count h ha hi hc, fun h => ?_⟩
    rw [rulBandWrite_refused h]
    exact ⟨State.get_set _ _ _, .set (.refl _ s) (RUL_EVENT_CFG_ERR n) 1 (by simp)⟩

end Sys2Proof.Machine

/-!
Revisit sequences start, step, park and end (R104 to R107, R188).
-/

namespace Sys2Proof.Machine

/-! ### Retry offsets and the record of a sequence (R105, R188) -/

/-- The fields of a pen's retry offsets. -/
def offsetsOf (n : Nat) : List Fld := SV_STATUS_RETRY_OFS n :: (List.range 8).map (LE_OFS_OFS n)

/-- An offset register that a 3-bit map names is one of the pen's. -/
theorem OnlyFields.setOffset {n : Nat} {s t : State} (h : OnlyFields (offsetsOf n) s t) (u : State) {g : Fld} (hg : g.width = 3) (v : Nat) :
    OnlyFields (offsetsOf n) s (t.set (LE_OFS_OFS n (u.get g)) v) := by
  have hlt : u.get g < 8 := by simpa [hg] using u.get_lt g
  exact h.set _ v (List.mem_cons_of_mem _ (List.mem_map_of_mem (List.mem_range.2 hlt)))

theorem zeroRetryOffsets_onlyFields (s : State) (n : Nat) : OnlyFields (offsetsOf n) s (zeroRetryOffsets s n) :=
  ((((OnlyFields.refl _ s).setOffset s rfl 0).setOffset _ rfl 0).setOffset _ rfl 0).set (SV_STATUS_RETRY_OFS n) 0 List.mem_cons_self

theorem zeroRetryOffsets_retry (s : State) (n : Nat) : (zeroRetryOffsets s n).get (SV_STATUS_RETRY_OFS n) = 0 := State.get_set _ _ _

theorem retryOffsets_onlyFields (s : State) (n rung sub : Nat) : OnlyFields (offsetsOf n) s (retryOffsets s n rung sub) := by
  have hzero := (OnlyFields.frame (offsetsOf n)).iff (c := decide (rung ≤ 6)) (k := fun s => s.set (SV_STATUS_RETRY_OFS n) 1)
    (zeroRetryOffsets_onlyFields s n) fun _ => .set (.refl _ _) _ 1 List.mem_cons_self
  unfold retryOffsets
  dsimp only
  split
  · exact hzero.setOffset _ rfl _
  · split
    · exact hzero.setOffset _ rfl _
    · split
      · exact hzero.setOffset _ rfl _
      · split
        · exact hzero.setOffset _ rfl _
        · split
          · exact hzero.setOffset _ rfl _
          · split
            · exact hzero.setOffset _ rfl _
            · exact hzero

/-- A field outside the Loop Engine's block of a pen is none of its retry offsets. -/
theorem OnlyFields.get_offsets {n : Nat} (hn : n < 16) {s t : State} (h : OnlyFields (offsetsOf n) s t) {f : Fld}
    (hf : f.key < (penBase n + 0x40000) * 64 ∨ (penBase n + 0x50000) * 64 ≤ f.key) : t.get f = s.get f := by
  refine h.1.get ?_
  rw [offsetsOf, List.forall_mem_cons]
  refine ⟨?_, fun g hg => ?_⟩
  · simp only [Fld.key, SV_STATUS_RETRY_OFS, svBase, penBase] at hf ⊢
    omega
  · obtain ⟨i, hi, rfl⟩ := List.mem_map.1 hg
    have := List.mem_range.1 hi
    have hle : (LE_OFS_OFS n i).key = (penBase n + 0x40000 + (0x40 + 0x4 * i)) * 64 := by
      simp only [Fld.key, LE_OFS_OFS, leBase, if_pos hn]
      rfl
    rw [hle]
    simp only [penBase] at hf ⊢
    omega

theorem State.revisit_setRevisit (s : State) (n : Nat) (r : Revisit) : (s.setRevisit n r).revisit n = r := Store.getD_set_same ..

theorem readPower_setReadPower (s : State) (n pct : Nat) : (setReadPower s n pct).readPower.getD n 0 = pct := Store.getD_set_same ..

/-- A sequence's record and its read power are shown by no register, and are no part of the Inkwell. -/
theorem recorded_keeps (s : State) (n pct : Nat) (r : Revisit) : ((setReadPower s n pct).setRevisit n r).fld = s.fld
    ∧ ((setReadPower s n pct).setRevisit n r).mem = s.mem ∧ ((setReadPower s n pct).setRevisit n r).poison = s.poison := ⟨rfl, rfl, rfl⟩

theorem recorded_readPower (s : State) (n pct : Nat) (r : Revisit) : ((setReadPower s n pct).setRevisit n r).readPower.getD n 0 = pct :=
  readPower_setReadPower s n pct

/-- A sequence that is over has no record, and reads at nominal power. -/
theorem endSequence_effect (s : State) (n : Nat) : (endSequence s n).revisit n = {} ∧ (endSequence s n).readPower.getD n 0 = 0 :=
  ⟨State.revisit_setRevisit _ _ _, recorded_readPower _ n 0 _⟩

theorem refreshLdpc_hidden (s : State) : (refreshLdpc s).ldpc = s.ldpc ∧ (refreshLdpc s).readPower = s.readPower := by
  unfold refreshLdpc
  exact ⟨rfl, rfl⟩

theorem revisitEnd_effect (n : Nat) (s : State) : (revisitEnd n s).revisit n = {} ∧ (revisitEnd n s).readPower.getD n 0 = 0 := by
  unfold revisitEnd
  dsimp only
  obtain ⟨hl, hp⟩ := refreshLdpc_hidden (endSequence (s.each s.ldpc.cws fun s e =>
    s.iff (e.2.pen == n && e.2.phase == .pending) fun s => poisonCw s e.1 e.2 1) n)
  rw [State.revisit, hl, hp]
  exact endSequence_effect _ n

/-! ### REVISIT_START -/

theorem revisitReady_of {s : State} {n : Nat} (hq : queueElsewhere s n = true) (hs : s.get (RUL_STATUS_STATE n) = 4)
    (ht : s.get (RUL_STATUS_TRACK_MATCH n) = 1) (hl : s.get (RUL_STATUS_LAYER_MATCH n) = 1) (hp : s.get LDPC_CTRL_PARK = 0)
    (he : ∃ e ∈ s.ldpc.cws, e.2.pen = n) (ha : ∀ e ∈ s.ldpc.cws, e.2.pen = n → e.2.phase = .pending) : revisitReady s n = true := by
  have hall : (s.ldpc.cws.all fun e => e.2.pen != n || e.2.phase == .pending) = true := by
    rw [List.all_eq_true]
    intro e hm
    by_cases hpen : e.2.pen = n
    · simp [ha e hm hpen]
    · simp [hpen]
  have hany : (s.ldpc.cws.any fun e => e.2.pen == n) = true := by
    obtain ⟨e, hm, hpen⟩ := he
    exact List.any_eq_true.2 ⟨e, hm, beq_of_eq hpen⟩
  simp [revisitReady, hq, hall, hany, State.on, hs, ht, hl, hp]

theorem revisitReady_not {s : State} {n : Nat} (h : queueElsewhere s n = false ∨ s.get (RUL_STATUS_STATE n) ≠ 4 ∨ s.get (RUL_STATUS_TRACK_MATCH n) ≠ 1
    ∨ s.get (RUL_STATUS_LAYER_MATCH n) ≠ 1 ∨ s.get LDPC_CTRL_PARK = 1) : revisitReady s n = false := by
  unfold revisitReady State.on
  rcases h with h | h | h | h | h <;> simp [h]

theorem revisitStart_starts {s : State} {n : Nat} (hr : (s.revisit n).running = false) (h : revisitReady s n = true) :
    revisitStart n s = zeroRetryOffsets (s.setRevisit n { (s.revisit n) with running := true }) n := if_pos ⟨hr, h⟩

theorem revisitStart_idle {s : State} {n : Nat} (h : (s.revisit n).running = true ∨ revisitReady s n = false) : revisitStart n s = s := by
  refine if_neg ?_
  rintro ⟨hr, hy⟩
  rcases h with h | h
  · exact Bool.false_ne_true (hr.symm.trans h)
  · exact Bool.false_ne_true (h.symm.trans hy)

/-! ### A step that takes force -/

theorem OnlyFields.ldpc {but : List Fld} {s t : State} (h : OnlyFields but s t) : t.ldpc = s.ldpc := (congrArg State.ldpc h.2 :)

/-- Where a step reads from: past the arc, and, where there is none or the aberration is changed, after a revolution in which to settle. -/
def readFrom (s : State) (n rung sub arc : Nat) : Nat := binPlace s n + arc + if arc = 0 ∨ (rung = 6 ∧ 2 ≤ sub) then 1024 else 0

/-- The record of a sequence as a step takes force. -/
def stepRecord (s : State) (n rung sub arc : Nat) : Revisit :=
  { (s.revisit n) with
    step := (s.revisit n).step + 1, todo := (pendingOf s n).map (·.1), from_ := readFrom s n rung sub arc,
    stop_ := readFrom s n rung sub arc + (1024 - arc), decodes := rungEnabled s rung }

/-- What a step decides by is none of the offsets that it writes. -/
theorem offsets_keep {n : Nat} (hn : n < 16) {s t : State} (h : OnlyFields (offsetsOf n) s t) : binPlace t n = binPlace s n
    ∧ (∀ rung, rungEnabled t rung = rungEnabled s rung) ∧ t.get LDPC_RETRY_CFG_POWER_STEP = s.get LDPC_RETRY_CFG_POWER_STEP := by
  have hrev : t.get (RUL_REV_REV n) = s.get (RUL_REV_REV n) := h.get_offsets hn (.inl (by simp only [Fld.key, RUL_REV_REV, rulBase]; omega))
  have hbin : t.get (RUL_ANGLE_BIN n) = s.get (RUL_ANGLE_BIN n) := h.get_offsets hn (.inl (by simp only [Fld.key, RUL_ANGLE_BIN, rulBase]; omega))
  have hen : t.get LDPC_CTRL_RUNG_EN = s.get LDPC_CTRL_RUNG_EN :=
    h.get_offsets hn (.inl (by simp only [Fld.key, LDPC_CTRL_RUNG_EN, ldpcBase, penBase]; omega))
  have hpow : t.get LDPC_RETRY_CFG_POWER_STEP = s.get LDPC_RETRY_CFG_POWER_STEP :=
    h.get_offsets hn (.inl (by simp only [Fld.key, LDPC_RETRY_CFG_POWER_STEP, ldpcBase, penBase]; omega))
  refine ⟨?_, fun rung => ?_, hpow⟩
  · rw [binPlace, binPlace, hrev, hbin]
  · rw [rungEnabled, rungEnabled, State.bit_eq, State.bit_eq, hen]

theorem applyStep_effect {n : Nat} (hn : n < 16) (s : State) (rung sub arc : Nat) :
    (applyStep s n rung sub arc).revisit n = stepRecord s n rung sub arc ∧ SameMemory s (applyStep s n rung sub arc)
      ∧ (applyStep s n rung sub arc).readPower.getD n 0 = if rung = 7 then s.get LDPC_RETRY_CFG_POWER_STEP else 0 := by
  have hofs := retryOffsets_onlyFields s n rung sub
  obtain ⟨hplace, hrung, hpow⟩ := offsets_keep hn hofs
  have hmem := applyStep_kept memory_kept (a1 := n) (a2 := rung) (a3 := sub) (a4 := arc) (memory_kept.refl s)
  have hpend : pendingOf (retryOffsets s n rung sub) n = pendingOf s n := by rw [pendingOf, pendingOf, hofs.ldpc]
  refine ⟨?_, .of_mem hmem.1 hmem.2, ?_⟩
  · unfold applyStep
    dsimp only
    rw [State.revisit_setRevisit, stepRecord, readFrom, ← hplace, ← hrung rung, ← hpend]
    rfl
  · rw [← hpow]
    exact readPower_setReadPower (retryOffsets s n rung sub) n _

/-! ### REVISIT_STEP -/

theorem revisitStep_rest {s : State} {n : Nat} (h : (s.revisit n).running = false) : revisitStep n s = s := if_pos h

theorem revisitStep_empty {s : State} {n : Nat} (hr : (s.revisit n).running = true) (h : pendingOf s n = []) : revisitStep n s = revisitEnd n s := by
  simp only [revisitStep, hr, h, Bool.true_eq_false, if_false, List.map_nil, List.isEmpty_nil, if_true]

theorem revisitStep_waits {s : State} {n : Nat} (hr : (s.revisit n).running = true) (hp : pendingOf s n ≠ []) (h : stepOver s n = false) :
    revisitStep n s = s := by
  have hne : ((pendingOf s n).map (·.2)).isEmpty = false := by simpa using hp
  simp only [revisitStep, hr, hne, h, Bool.true_eq_false, Bool.false_eq_true, if_false, if_true]

theorem revisitStep_parks {s : State} {n : Nat} (hr : (s.revisit n).running = true) (hp : pendingOf s n ≠ []) (h : stepOver s n = true)
    (hk : s.get LDPC_CTRL_PARK = 1) : revisitStep n s
      = (setReadPower (zeroRetryOffsets s n) n 0).setRevisit n { (s.revisit n) with running := false, todo := [] } := by
  have hne : ((pendingOf s n).map (·.2)).isEmpty = false := by simpa using hp
  have hon : s.on LDPC_CTRL_PARK = true := by simp [State.on, hk]
  simp only [revisitStep, hr, hne, h, hon, Bool.true_eq_false, Bool.false_eq_true, if_false, if_true]

/-- A step is over, and PARK does not hold back the next. -/
theorem revisitStep_next {s : State} {n : Nat} (hr : (s.revisit n).running = true) (hp : pendingOf s n ≠ []) (h : stepOver s n = true)
    (hk : s.get LDPC_CTRL_PARK = 0) : revisitStep n s = match revisitSteps[(s.revisit n).step]? with
      | none => revisitEnd n s
      | some (rung, sub) =>
        match longestArc s n ((pendingOf s n).map (·.2)) with
        | some (b, len) => s.iff (s.get (RUL_ANGLE_BIN n) == b) fun s => applyStep s n rung sub len
        | none => applyStep s n rung sub 0 := by
  have hne : ((pendingOf s n).map (·.2)).isEmpty = false := by simpa using hp
  have hon : s.on LDPC_CTRL_PARK = false := by simp [State.on, hk]
  simp only [revisitStep, hr, hne, h, hon, Bool.true_eq_false, Bool.false_eq_true, if_false] <;> rfl

theorem revisitSteps_none {i : Nat} (h : 7 ≤ i) : revisitSteps[i]? = none := List.getElem?_eq_none h

theorem parked_effect (s : State) (n : Nat) (r : Revisit) :
    ((setReadPower (zeroRetryOffsets s n) n 0).setRevisit n r).revisit n = r
      ∧ ((setReadPower (zeroRetryOffsets s n) n 0).setRevisit n r).readPower.getD n 0 = 0
      ∧ ((setReadPower (zeroRetryOffsets s n) n 0).setRevisit n r).get (SV_STATUS_RETRY_OFS n) = 0
      ∧ SameMemory s ((setReadPower (zeroRetryOffsets s n) n 0).setRevisit n r) := by
  obtain ⟨hfld, hmem, hpoison⟩ := recorded_keeps (zeroRetryOffsets s n) n 0 r
  have hzero := (zeroRetryOffsets_onlyFields s n).sameMemory
  refine ⟨State.revisit_setRevisit _ n r, recorded_readPower _ n 0 r, ?_, hzero.trans (.of_mem hmem hpoison)⟩
  rw [State.get_of_fld hfld, zeroRetryOffsets_retry]

/-! ### PARK -/

theorem park_notInk : notInk LDPC_CTRL_PARK := show LDPC_CTRL_PARK.block ≠ 0x200001 by decide

/-- PARK is none of the fields that an outcome of a codeword sets. -/
theorem resultEntry_park (s : State) (c : Cw) (o : Nat) : (resultEntry s c o).get LDPC_CTRL_PARK = s.get LDPC_CTRL_PARK := by
  unfold resultEntry
  dsimp only
  split
  · rw [State.get_bump_ne _ _ (by decide), State.get_ev_ne _ (by decide)]
  · rw [State.get_ev_ne _ (by decide), State.get_wrap_ne _ _ (by decide)]
    exact State.inkWrite_get _ _ _ _ _ park_notInk

theorem poisonCw_park (s : State) (id : Nat) (c : Cw) (o : Nat) : (poisonCw s id c o).get LDPC_CTRL_PARK = s.get LDPC_CTRL_PARK := by
  have hstore : ∀ l : List (BitVec 8), ((s.inkWriteZ c.pen c.dest 4096 l true).ev LDPC_EVENT_POISON).get LDPC_CTRL_PARK = s.get LDPC_CTRL_PARK := fun l => by
    rw [State.get_ev_ne _ (by decide)]
    exact State.inkWriteZ_get _ _ _ _ _ _ park_notInk
  unfold poisonCw
  dsimp only
  rw [dropCw_get, resultEntry_park, noteDesc_get]
  split
  · rw [State.get_bump_ne _ _ (by decide), hstore]
  · rw [State.get_bump_ne _ _ (by decide), hstore]

theorem refreshLdpc_park (s : State) : (refreshLdpc s).get LDPC_CTRL_PARK = s.get LDPC_CTRL_PARK := by
  unfold refreshLdpc
  dsimp only
  iterate 9 rw [State.get_set_ne _ _ (by decide)]

theorem endSequence_park {n : Nat} (hn : n < 16) (s : State) : (endSequence s n).get LDPC_CTRL_PARK = s.get LDPC_CTRL_PARK := by
  rw [endSequence, State.get_of_fld (recorded_keeps _ n 0 _).1]
  exact (zeroRetryOffsets_onlyFields s n).get_offsets hn (.inl (by simp only [Fld.key, LDPC_CTRL_PARK, ldpcBase, penBase]; omega))

theorem cutPending_park {n : Nat} (hn : n < 16) (s : State) (sel : Cw → Bool) :
    (cutPending s n sel).get LDPC_CTRL_PARK = s.get LDPC_CTRL_PARK := by
  unfold cutPending
  dsimp only
  rw [refreshLdpc_park, State.get_iff_of]
  · exact State.get_each_of _ _ _ fun s e _ => State.get_iff_of _ _ _ (poisonCw_park _ _ _ _)
  · split
    · exact endSequence_park hn _
    · rfl

theorem parkWrite_park (set : Bool) (s : State) : (parkWrite set s).get LDPC_CTRL_PARK = if set then 1 else 0 := by
  cases set with
  | true => exact State.get_set _ _ _
  | false =>
    refine (State.get_each_of (s.set LDPC_CTRL_PARK 0) _ _ fun s n hn => ?_).trans (State.get_set _ _ _)
    exact cutPending_park (List.mem_range.1 hn) s _

/-- Settles O22: revisit sequences start, step, park and end, and PARK is written. -/
theorem revisitSequence : Obligations.RevisitSequence := by
  unfold Obligations.RevisitSequence
  refine ⟨fun n s => ⟨_, rfl, fun hr hq hs ht hl hp he ha => ?_, fun h => ?_⟩,
    fun n s => ⟨_, rfl, revisitStep_rest, fun hr hp => ?_, revisitStep_waits, fun hr hp ho => ⟨fun hk => ?_, fun hk h7 => ?_, fun rung sub hk hstep => ⟨?_, ?_⟩⟩⟩,
    fun set s => ⟨_, rfl, fun h => State.clocked_stopped h _, fun h => ?_, fun h => ?_⟩⟩
  · rw [revisitStart_starts hr (revisitReady_of hq hs ht hl hp he ha)]
    refine ⟨?_, zeroRetryOffsets_retry _ _⟩
    rw [State.revisit, (zeroRetryOffsets_onlyFields _ n).ldpc]
    exact State.revisit_setRevisit _ _ _
  · exact revisitStart_idle (h.imp id revisitReady_not)
  · rw [revisitStep_empty hr hp]
    exact revisitEnd_effect n s
  · rw [revisitStep_parks hr hp ho hk]
    exact parked_effect s n _
  · rw [revisitStep_next hr hp ho hk, revisitSteps_none h7]
    exact revisitEnd_effect n s
  · rintro arc from_ harc rfl
    rw [revisitStep_next hr hp ho hk, hstep]
    dsimp only
    rcases harc with ⟨hnone, rfl⟩ | hsome
    · rw [hnone]
      exact applyStep_effect n.isLt s rung sub 0
    · rw [hsome]
      dsimp only
      rw [beq_self_eq_true, State.iff_true]
      exact applyStep_effect n.isLt s rung sub arc
  · rintro b arc hsome hb
    rw [revisitStep_next hr hp ho hk, hstep]
    dsimp only
    rw [hsome]
    dsimp only
    rw [beq_false_of_ne (Ne.symm hb)]
    rfl
  · rw [State.clocked_running h]
    exact parkWrite_park set s
  · rw [h]
    exact .clocked (.set (.refl _ s) LDPC_CTRL_PARK 1 (by simp))

end Sys2Proof.Machine

/-!
A LATCH asks for a capture, and a capture shadows a block (R20 to R22, R203, R300).
-/

namespace Sys2Proof.Machine

/-! ### Where fields lie in their words -/

/-- The fields of a list begin within a word of at most 64 bits. -/
def inWord (l : List Fld) : Bool := l.all fun f => f.lo.blt 64

theorem inWord_ite {c : Prop} [Decidable c] {l m : List Fld} (hl : inWord l = true) (hm : inWord m = true) : inWord (if c then l else m) = true := by
  split
  · exact hl
  · exact hm

theorem sysAt_inWord (o : Nat) : inWord (sysAt o) = true := by
  unfold sysAt
  repeat refine inWord_ite rfl ?_
  rfl

theorem inkAt_inWord (o : Nat) : inWord (inkAt o) = true := by
  unfold inkAt
  repeat refine inWord_ite rfl ?_
  rfl

theorem cpbAt_inWord (o : Nat) : inWord (cpbAt o) = true := by
  unfold cpbAt
  repeat refine inWord_ite rfl ?_
  rfl

theorem hqAt_inWord (o : Nat) : inWord (hqAt o) = true := by
  unfold hqAt
  repeat refine inWord_ite rfl ?_
  rfl

theorem ldgAt_inWord (o : Nat) : inWord (ldgAt o) = true := by
  unfold ldgAt
  repeat refine inWord_ite rfl ?_
  rfl

theorem mbxAt_inWord (o : Nat) : inWord (mbxAt o) = true := by
  unfold mbxAt
  repeat refine inWord_ite rfl ?_
  rfl

theorem secAt_inWord (o : Nat) : inWord (secAt o) = true := by
  unfold secAt
  repeat refine inWord_ite rfl ?_
  rfl

theorem motAt_inWord (o : Nat) : inWord (motAt o) = true := by
  unfold motAt
  repeat refine inWord_ite rfl ?_
  rfl

theorem ducAt_inWord (o : Nat) : inWord (ducAt o) = true := by
  unfold ducAt
  repeat refine inWord_ite rfl ?_
  rfl

theorem vrsAt_inWord (o : Nat) : inWord (vrsAt o) = true := by
  unfold vrsAt
  repeat refine inWord_ite rfl ?_
  rfl

theorem calAt_inWord (o : Nat) : inWord (calAt o) = true := by
  unfold calAt
  repeat refine inWord_ite rfl ?_
  rfl

theorem ldpcAt_inWord (o : Nat) : inWord (ldpcAt o) = true := by
  unfold ldpcAt
  repeat refine inWord_ite rfl ?_
  rfl

theorem lkAt_inWord (n o : Nat) : inWord (lkAt n o) = true := by
  unfold lkAt
  repeat refine inWord_ite rfl ?_
  rfl

theorem rulAt_inWord (n o : Nat) : inWord (rulAt n o) = true := by
  unfold rulAt
  repeat refine inWord_ite rfl ?_
  rfl

theorem rcAt_inWord (n o : Nat) : inWord (rcAt n o) = true := by
  unfold rcAt
  repeat refine inWord_ite rfl ?_
  rfl

theorem wcAt_inWord (n o : Nat) : inWord (wcAt n o) = true := by
  unfold wcAt
  repeat refine inWord_ite rfl ?_
  rfl

theorem svAt_inWord (n o : Nat) : inWord (svAt n o) = true := by
  unfold svAt
  repeat refine inWord_ite rfl ?_
  rfl

theorem leAt_inWord (n o : Nat) : inWord (leAt n o) = true := by
  unfold leAt
  repeat refine inWord_ite rfl ?_
  rfl

theorem fieldsAt_inWord (a : Nat) : inWord (fieldsAt a) = true := by
  unfold fieldsAt
  dsimp only
  refine inWord_ite rfl (inWord_ite rfl (inWord_ite (sysAt_inWord _) (inWord_ite (inkAt_inWord _) (inWord_ite (cpbAt_inWord _) (inWord_ite (hqAt_inWord _)
    (inWord_ite (ldgAt_inWord _) (inWord_ite (mbxAt_inWord _) (inWord_ite (secAt_inWord _) (inWord_ite (inWord_ite (leAt_inWord _ _) (motAt_inWord _))
    (inWord_ite (ducAt_inWord _) (inWord_ite (vrsAt_inWord _) (inWord_ite (calAt_inWord _) (inWord_ite (ldpcAt_inWord _) (inWord_ite ?_ rfl))))))))))))))
  split
  · exact lkAt_inWord _ _
  · exact rulAt_inWord _ _
  · exact rcAt_inWord _ _
  · exact wcAt_inWord _ _
  · exact inWord_ite (svAt_inWord _ _) (inWord_ite rfl (leAt_inWord _ _))
  · rfl

theorem lo_lt_of_fieldsAt {a : Nat} {f : Fld} (h : f ∈ fieldsAt a) : f.lo < 64 :=
  Nat.le_of_ble_eq_true (List.all_eq_true.1 (fieldsAt_inWord a) f h)

/-! ### The copy a capture makes (R21) -/

theorem Store.find?_eq_none {α : Type} {m : Store α} {k : Nat} (h : ∀ e ∈ m, e.1 ≠ k) : m.find? k = none := by
  induction m with
  | nil => rfl
  | cons e r ih =>
    obtain ⟨j, x⟩ := e
    rw [Store.find?, if_neg (h (j, x) List.mem_cons_self)]
    exact ih fun e he => h e (List.mem_cons_of_mem _ he)

/-- Values inserted one after another. -/
def Store.insertAll {α : Type} (m : Store α) (l : Store α) : Store α := l.foldl (fun m (e : Nat × α) => Store.insert m e.1 e.2) m

/-- Entries put into a store stand there at their keys, beside what stood there before. -/
theorem Store.find?_insertAll {α : Type} {l : Store α} (hl : Store.sorted l = true) (m : Store α) (k : Nat) :
    (m.insertAll l).find? k = (l.find? k).or (m.find? k) := by
  induction l generalizing m with
  | nil => rfl
  | cons e r ih =>
    obtain ⟨j, x⟩ := e
    rw [show Store.insertAll m ((j, x) :: r) = Store.insertAll (Store.insert m j x) r from rfl, ih (Store.sorted_tail hl)]
    by_cases hj : j = k
    · subst hj
      have hnone : Store.find? r j = none := Store.find?_eq_none fun e he => (Store.lt_of_sorted hl e he).ne'
      rw [Store.find?_insert_same, Store.find?, if_pos rfl, hnone]
      rfl
    · rw [Store.find?_insert_ne _ _ (Ne.symm hj), Store.find?, if_neg hj]

/-- A key of the block at base b. -/
def inBlock (b k : Nat) : Prop := b * 64 ≤ k ∧ k < (b + 0x10000) * 64

/-- The shadows of the other blocks. -/
def otherShadows (s : State) (b : Nat) : Store Nat := s.shadow.filter fun e => !(decide (b * 64 ≤ e.1) && decide (e.1 < (b + 0x10000) * 64))

theorem otherShadows_none (s : State) {b k : Nat} (hk : inBlock b k) : (otherShadows s b).find? k = none := by
  refine Store.find?_eq_none fun e he hek => ?_
  have := (List.mem_filter.1 he).2
  simp [hek, hk.1, hk.2] at this

/-- What a block's shadow holds after a capture is what the capture copies. -/
theorem shadow_find (s : State) {b k : Nat} (hk : inBlock b k) {l : Store Nat} (hl : Store.sorted l = true) :
    ((otherShadows s b).insertAll l).find? k = l.find? k := by
  rw [Store.find?_insertAll hl, otherShadows_none s hk, Option.or_none]

/-- The state as a capture has copied the block, and stamped it. -/
def captureStamped (s : State) (b : Nat) : State :=
  let s := { s with shadow := (otherShadows s b).insertAll (captureOf s b), captured := b :: s.captured.filter (· != b) }
  ((s.set (LATCH_LATCH b) 0).wrap (LATCH_SEQ b) 1).set (LATCH_TIME b) s.now

theorem latchCapture_captures {s : State} {b : Nat} (h : s.get (LATCH_LATCH b) = 1) : latchCapture b s = clearOnLatch b (captureStamped s b) := by
  have hon : s.on (LATCH_LATCH b) = true := by simp [State.on, h]
  rw [latchCapture, if_pos hon]
  rfl

theorem latchCapture_idle {s : State} {b : Nat} (h : s.get (LATCH_LATCH b) ≠ 1) : latchCapture b s = s := by
  have hon : ¬ s.on (LATCH_LATCH b) = true := by simpa [State.on] using h
  rw [latchCapture, if_neg hon]

/-- The counts that an INK capture clears. -/
def arbCounts : List Fld := (List.range 40).map INK_ARB_GRANTS_GRANTS ++ (List.range 40).map INK_ARB_WAIT_WAIT

theorem clearOnLatch_onlyFields (b : Nat) (s : State) : OnlyFields arbCounts s (clearOnLatch b s) :=
  (OnlyFields.frame arbCounts).iff (.refl _ s) fun _ => (OnlyFields.frame arbCounts).each (.refl _ _) fun t r hr =>
    .set (.set (.refl _ t) (INK_ARB_GRANTS_GRANTS r) 0 (List.mem_append_left _ (List.mem_map_of_mem hr))) (INK_ARB_WAIT_WAIT r) 0
      (List.mem_append_right _ (List.mem_map_of_mem hr))

/-- Where the counts that an INK capture clears lie. -/
theorem arbCounts_range : ∀ g ∈ arbCounts, (inkBase + 0x1000) * 64 ≤ g.key ∧ g.key < (inkBase + 0x1500) * 64 ∧ g.key % (0x20 * 64) < 0x10 * 64 := by
  intro g hg
  rcases List.mem_append.1 hg with hg | hg <;> obtain ⟨r, hr, rfl⟩ := List.mem_map.1 hg <;> have := List.mem_range.1 hr <;>
    simp only [Fld.key, INK_ARB_GRANTS_GRANTS, INK_ARB_WAIT_WAIT, inkBase] <;> omega

theorem captureStamped_sameFields (s : State) (b : Nat) : SameFields [LATCH_LATCH b, LATCH_SEQ b, LATCH_TIME b] s (captureStamped s b) := by
  have h0 : SameFields [LATCH_LATCH b, LATCH_SEQ b, LATCH_TIME b] s
      { s with shadow := (otherShadows s b).insertAll (captureOf s b), captured := b :: s.captured.filter (· != b) } := .of_fld rfl
  exact ((h0.set (LATCH_LATCH b) 0 (by simp)).set (LATCH_SEQ b) _ (by simp)).set (LATCH_TIME b) _ (by simp)

/-- The registers of a block that show a capture are different ones. -/
theorem latch_keys (b : Nat) : (LATCH_LATCH b).key ≠ (LATCH_SEQ b).key ∧ (LATCH_LATCH b).key ≠ (LATCH_TIME b).key
    ∧ (LATCH_SEQ b).key ≠ (LATCH_TIME b).key := by
  simp only [Fld.key, LATCH_LATCH, LATCH_SEQ, LATCH_TIME]
  omega

theorem captureStamped_fields (s : State) (b : Nat) : (captureStamped s b).get (LATCH_LATCH b) = 0
    ∧ (captureStamped s b).get (LATCH_SEQ b) = (s.get (LATCH_SEQ b) + 1) % 2 ^ 8 ∧ (captureStamped s b).get (LATCH_TIME b) = s.get SYS_TIME_TIME := by
  obtain ⟨hls, hlt, hst⟩ := latch_keys b
  unfold captureStamped
  dsimp only
  refine ⟨?_, ?_, ?_⟩
  · rw [State.get_set_ne _ _ hlt, State.get_wrap_ne _ _ hls, State.get_set]
    rfl
  · rw [State.get_set_ne _ _ hst, State.get_wrap, State.get_set_ne _ _ hls.symm]
    rfl
  · rw [State.get_set]
    exact Nat.mod_eq_of_lt (s.get_lt SYS_TIME_TIME)

/-- The registers that show a capture lie past the counts that it clears. -/
theorem clearOnLatch_get {f : Fld} (h : f.key < (inkBase + 0x1000) * 64 ∨ (inkBase + 0x1500) * 64 ≤ f.key ∨ 0x10 * 64 ≤ f.key % (0x20 * 64)) (b : Nat)
    (s : State) : (clearOnLatch b s).get f = s.get f := by
  refine (clearOnLatch_onlyFields b s).1.get fun g hg he => ?_
  have := arbCounts_range g hg
  omega

/-! ### What reads of the block return -/

theorem visible_captured {t : State} {b : Nat} {f : Fld} (hw : f.acc ≠ .wo) (hl : f.latch = true) (hc : t.captured.contains b = true) :
    t.visible b f = t.shadow.getD f.key f.rst := by
  unfold State.visible
  split
  · exact absurd ‹_› hw
  · rw [hl, hc]
    rfl

theorem OnlyFields.captures {but : List Fld} {s t : State} (h : OnlyFields but s t) : t.shadow = s.shadow ∧ t.captured = s.captured :=
  ⟨(congrArg State.shadow h.2 :), (congrArg State.captured h.2 :)⟩

theorem latchCapture_hidden {s : State} {b : Nat} (h : s.get (LATCH_LATCH b) = 1) : (latchCapture b s).captured.contains b = true
    ∧ (latchCapture b s).shadow = (otherShadows s b).insertAll (captureOf s b) := by
  obtain ⟨hsh, hcap⟩ := (clearOnLatch_onlyFields b (captureStamped s b)).captures
  rw [latchCapture_captures h, hsh, hcap]
  have hlisted : (captureStamped s b).captured = b :: s.captured.filter (· != b) := rfl
  exact ⟨by simp [hlisted], rfl⟩

/-- Between ticks a capture copies the live values of the block. -/
theorem captureOf_live {s : State} {b : Nat} (h : ∀ n : Fin 16, b = leBase n → (s.sup n).sample = none) : captureOf s b = s.fld.filter (captured? b) := by
  have hfind : ((List.range 16).find? fun n => b == leBase n && (s.sup n).sample.isSome) = none := by
    rw [List.find?_eq_none]
    intro n hn hp
    rw [Bool.and_eq_true, beq_iff_eq] at hp
    have := h ⟨n, List.mem_range.1 hn⟩ hp.1
    rw [this] at hp
    exact Bool.false_ne_true hp.2
  rw [captureOf, hfind]

theorem leBase_injective {m n : Nat} (hm : m < 16) (hn : n < 16) (h : leBase n = leBase m) : m = n := by
  simp only [leBase, if_pos hm, if_pos hn, penBase] at h
  omega

/-- In the middle of a tick a capture copies what the engine's block held at the last completed one (R203). -/
theorem captureOf_tick {s : State} {b : Nat} (n : Fin 16) (hb : b = leBase n) (h : (s.sup n).sample ≠ none) : captureOf s b = (s.sup n).before := by
  have hfind : ((List.range 16).find? fun m => b == leBase m && (s.sup m).sample.isSome) = some n.val := by
    obtain ⟨m, hm⟩ : ∃ m, ((List.range 16).find? fun m => b == leBase m && (s.sup m).sample.isSome) = some m := by
      rw [← Option.isSome_iff_exists, List.find?_isSome]
      exact ⟨n, List.mem_range.2 n.isLt, by simp [hb, Option.isSome_iff_ne_none.2 h]⟩
    have hp := List.find?_some hm
    rw [Bool.and_eq_true, beq_iff_eq] at hp
    rw [hm, leBase_injective (List.mem_range.1 (List.mem_of_find?_eq_some hm)) n.isLt (hb.symm.trans hp.1)]
  rw [captureOf, hfind]

/-- A field at an address of the block lies in it. -/
theorem inBlock_of_addr {b a : Nat} {f : Fld} (hf : f ∈ fieldsAt a) (ha : f.addr = a) (hl : b ≤ a) (hr : a < b + 0x10000) : inBlock b f.key := by
  have := lo_lt_of_fieldsAt hf
  simp only [inBlock, Fld.key, ha]
  omega

/-- A latchable field is among those that a capture of its block copies. -/
theorem captured_of_latch {b a : Nat} {f : Fld} (hf : f ∈ fieldsAt a) (ha : f.addr = a) (hl : b ≤ a) (hr : a < b + 0x10000) (hlatch : f.latch = true)
    (x : Nat) : captured? b (f.key, x) = true := by
  have hk := inBlock_of_addr hf ha hl hr
  have hword : f.key / 64 = a := by
    have := lo_lt_of_fieldsAt hf
    simp only [Fld.key, ha]
    omega
  simp only [captured?, hword, Bool.and_eq_true, decide_eq_true_eq, List.any_eq_true]
  exact ⟨⟨hk.1, hk.2⟩, f, hf, by simp [hlatch]⟩

theorem latchCapture_live {s : State} {b a : Nat} {f : Fld} (h : s.get (LATCH_LATCH b) = 1) (hc : Canonical s)
    (htick : ∀ n : Fin 16, b = leBase n → (s.sup n).sample = none) (hl : b ≤ a) (hr : a < b + 0x10000) (hf : f ∈ fieldsAt a) (ha : f.addr = a)
    (hlatch : f.latch = true) (hw : f.acc ≠ .wo) : (latchCapture b s).visible b f % 2 ^ f.width = s.get f := by
  obtain ⟨hcap, hsh⟩ := latchCapture_hidden h
  have hsorted : Store.sorted (s.fld.filter (captured? b)) = true := Store.sorted_filter _ _ hc.fld
  rw [visible_captured hw hlatch hcap, hsh, captureOf_live htick, Store.getD, shadow_find s (inBlock_of_addr hf ha hl hr) hsorted,
    Store.find?_filter _ (captured_of_latch hf ha hl hr hlatch)]
  rfl

theorem latchCapture_tick {s : State} {b : Nat} (h : s.get (LATCH_LATCH b) = 1) (n : Fin 16) (hb : b = leBase n) (hs : (s.sup n).sample ≠ none)
    (hsorted : Store.sorted (s.sup n).before = true) :
    (latchCapture b s).visible b (SV_STATUS_FOCUS_STATE n) = (s.sup n).before.getD (SV_STATUS_FOCUS_STATE n).key 0 := by
  obtain ⟨hcap, hsh⟩ := latchCapture_hidden h
  have hin : inBlock b (SV_STATUS_FOCUS_STATE n).key := by
    simp only [inBlock, Fld.key, SV_STATUS_FOCUS_STATE, svBase, hb, leBase, if_pos n.isLt]
    omega
  rw [visible_captured (by simp [SV_STATUS_FOCUS_STATE]) rfl hcap, hsh, captureOf_tick n hb hs, Store.getD, shadow_find s hin hsorted]
  rfl

/-! ### The counts that an INK capture clears (R300) -/

theorem clearOnLatch_off {b : Nat} {s : State} (h : b ≠ inkBase ∨ s.get INK_ARB_CTRL_CLR_ON_LATCH ≠ 1) : clearOnLatch b s = s := by
  have hc : (b == inkBase && s.on INK_ARB_CTRL_CLR_ON_LATCH) = false := by
    rcases h with h | h
    · simp [h]
    · simp [State.on, h]
  rw [clearOnLatch, hc]
  rfl

theorem clrOnLatch_stamped (s : State) : (captureStamped s inkBase).get INK_ARB_CTRL_CLR_ON_LATCH = s.get INK_ARB_CTRL_CLR_ON_LATCH :=
  (captureStamped_sameFields s inkBase).get (by decide)

theorem clearOnLatch_counts {s : State} (h : s.get INK_ARB_CTRL_CLR_ON_LATCH = 1) {r : Nat} (hr : r < 40) :
    (clearOnLatch inkBase s).get (INK_ARB_GRANTS_GRANTS r) = 0 ∧ (clearOnLatch inkBase s).get (INK_ARB_WAIT_WAIT r) = 0 := by
  have hon : (inkBase == inkBase && s.on INK_ARB_CTRL_CLR_ON_LATCH) = true := by simp [State.on, h]
  have hgw : ∀ i j, (INK_ARB_GRANTS_GRANTS i).key ≠ (INK_ARB_WAIT_WAIT j).key := fun i j => by
    simp only [Fld.key, INK_ARB_GRANTS_GRANTS, INK_ARB_WAIT_WAIT]
    omega
  have hgg : ∀ i j, i ≠ j → (INK_ARB_GRANTS_GRANTS i).key ≠ (INK_ARB_GRANTS_GRANTS j).key := fun i j hij => by
    simp only [Fld.key, INK_ARB_GRANTS_GRANTS]
    omega
  have hww : ∀ i j, i ≠ j → (INK_ARB_WAIT_WAIT i).key ≠ (INK_ARB_WAIT_WAIT j).key := fun i j hij => by
    simp only [Fld.key, INK_ARB_WAIT_WAIT]
    omega
  rw [clearOnLatch, hon, State.iff_true]
  refine State.each_establishes (P := fun u => u.get (INK_ARB_GRANTS_GRANTS r) = 0 ∧ u.get (INK_ARB_WAIT_WAIT r) = 0) (List.mem_range.2 hr) s
    (fun u i _ hu => ?_) fun u => ⟨?_, State.get_set _ _ _⟩
  · by_cases hi : r = i
    · subst hi
      refine ⟨?_, State.get_set _ _ _⟩
      rw [State.get_set_ne _ _ (hgw r r), State.get_set]
      rfl
    · rw [State.get_set_ne _ _ (hgw r i), State.get_set_ne _ _ (hgg r i hi), State.get_set_ne _ _ (hww r i hi), State.get_set_ne _ _ (hgw i r).symm]
      exact hu
  · rw [State.get_set_ne _ _ (hgw r r), State.get_set]
    rfl

theorem longest_stamped (s : State) (r : Nat) :
    (clearOnLatch inkBase (captureStamped s inkBase)).get (INK_ARB_LONGEST_LONGEST r) = s.get (INK_ARB_LONGEST_LONGEST r) := by
  rw [clearOnLatch_get, (captureStamped_sameFields s inkBase).get]
  · simp only [List.forall_mem_cons, Fld.key, INK_ARB_LONGEST_LONGEST, LATCH_LATCH, LATCH_SEQ, LATCH_TIME]
    simp
    omega
  · right
    right
    simp only [Fld.key, INK_ARB_LONGEST_LONGEST, inkBase]
    omega

/-! ### LATCH (R20, R22) -/

theorem latch_block {b : Nat} (h : blockBase b = some b) (s : State) : latch b s = s.set (LATCH_LATCH b) 1 := if_pos h

theorem latch_elsewhere {b : Nat} (h : blockBase b ≠ some b) (s : State) : latch b s = s := if_neg h

/-- The registers of a block that show a capture are none of the counts that one clears. -/
theorem latch_past (b : Nat) (hb : b % 0x10000 = 0) : ∀ f ∈ [LATCH_LATCH b, LATCH_SEQ b, LATCH_TIME b],
    f.key < (inkBase + 0x1000) * 64 ∨ (inkBase + 0x1500) * 64 ≤ f.key ∨ 0x10 * 64 ≤ f.key % (0x20 * 64) := by
  simp only [List.forall_mem_cons, Fld.key, LATCH_LATCH, LATCH_SEQ, LATCH_TIME, inkBase]
  simp
  omega

theorem blockBase_aligned {b : Nat} (h : blockBase b = some b) : b % 0x10000 = 0 := by
  unfold blockBase at h
  split at h
  · simp only [Option.some.injEq] at h
    omega
  · split at h
    · simp only [Option.some.injEq] at h
      omega
    · exact absurd h (by simp)

/-- Settles O10: LATCH asks for a capture, and a capture copies what its block held. -/
theorem captures : Obligations.Captures := by
  unfold Obligations.Captures
  refine ⟨fun b s => ⟨_, rfl, fun h => ?_, fun hb hr => ?_⟩, fun b s => ⟨_, rfl, latchCapture_idle, fun h hc hb => ⟨?_, ?_, ?_, ?_, ?_, ?_, ?_, ?_⟩⟩⟩
  · rcases h with h | h
    · exact State.clocked_of (P := fun t => t = s) rfl (latch_elsewhere h s)
    · exact State.clocked_stopped h _
  · rw [State.clocked_running hr, latch_block hb]
    exact ⟨State.get_set _ _ _, .set (.refl _ s) (LATCH_LATCH b.toNat) 1 (by simp)⟩
  · rw [latchCapture_captures h, clearOnLatch_get (latch_past _ (blockBase_aligned hb) _ (by simp)), (captureStamped_fields s b.toNat).1]
  · rw [latchCapture_captures h, clearOnLatch_get (latch_past _ (blockBase_aligned hb) _ (by simp)), (captureStamped_fields s b.toNat).2.1]
  · rw [latchCapture_captures h, clearOnLatch_get (latch_past _ (blockBase_aligned hb) _ (by simp)), (captureStamped_fields s b.toNat).2.2]
  · exact (latchCapture_hidden h).1
  · exact fun htick a hl hr f hf ha hlatch hw => latchCapture_live h hc htick hl hr hf ha hlatch hw
  · exact fun n hn hs hsorted => latchCapture_tick h n hn hs hsorted
  · intro hclr
    rw [latchCapture_captures h, clearOnLatch_off]
    · exact captureStamped_sameFields s b.toNat
    · by_cases hi : b.toNat = inkBase
      · rw [hi, clrOnLatch_stamped]
        exact hclr.imp (fun hn => absurd hi hn) id
      · exact .inl hi
  · intro hi hclr r
    rw [latchCapture_captures h, hi]
    obtain ⟨hg, hw⟩ := clearOnLatch_counts ((clrOnLatch_stamped s).trans hclr) r.isLt
    exact ⟨hg, hw, longest_stamped s r⟩

end Sys2Proof.Machine

/-!
LOOKUP of a ledger that is not enabled (R295, R363, R392): it answers no request, and still tells the self-diagnosis what it has yet to be told.
-/

namespace Sys2Proof.Machine

theorem lookup_disabled {s : State} (h : s.get LDG_CTRL_ENABLE ≠ 1) : lookup s = s :=
  if_neg fun e => h (beq_iff_eq.1 e)

/-- The self-diagnosis records a cause that it is told of; one that is not enabled does nothing further (R392). -/
theorem tellDiagnosis_recorded {s : State} (h : s.ink.told = true) (he : s.bit VRS_DIAG_EN_EN 4 = false) :
    tellDiagnosis s = { s with ink := { s.ink with told := false } }.setBit VRS_DIAG_CAUSE 4 true := by
  have hkept : (({ s with ink := { s.ink with told := false } } : State).setBit VRS_DIAG_CAUSE 4 true).bit VRS_DIAG_EN_EN 4 = false := by
    rw [State.bit_eq, (State.setBit_sameFields _ VRS_DIAG_CAUSE 4 true).get (by decide)]
    exact he
  rw [tellDiagnosis, if_pos h, diagnose, hkept]
  rfl

/-- Out of reset, with no cause of the self-diagnosis enabled, the uncorrectables of the window have reached UE_LIMIT, of which the self-diagnosis
is still to be told. -/
def ueLimitReached : State := { (State.reset.set VRS_DIAG_EN_EN 0) with ink := { told := true } }

/-- Refutes O54: the clause that LOOKUP changes nothing while the ledger is disabled has no premise that the self-diagnosis has nothing to be told.
In `ueLimitReached` it has, and LOOKUP records the cause and takes the mark back. -/
theorem not_ledgerWork : ¬ Obligations.LedgerWork := by
  unfold Obligations.LedgerWork
  rintro ⟨hlookup, -⟩
  obtain ⟨t, ht, hsame, -⟩ := hlookup ueLimitReached
  have hoff : ueLimitReached.get LDG_CTRL_ENABLE ≠ 1 := by decide
  have hnext : exec .lookup ueLimitReached = .next (tellDiagnosis ueLimitReached) := by
    change execLookup ueLimitReached = _
    rw [execLookup, lookup_disabled hoff]
  have htold : (tellDiagnosis ueLimitReached).ink.told = false := by
    rw [tellDiagnosis_recorded rfl (by decide)]
    rfl
  rw [hnext, hsame (.inl hoff)] at ht
  injection ht with heq
  rw [heq] at htold
  exact absurd htold (by decide)

end Sys2Proof.Machine

/-!
Ruling loops: acquisition through FREQ, PHASE and ADDR, its time limits, and the frequency word (R35, R39, R40, R46).
-/

namespace Sys2Proof.Machine

/-! ### Commands that store nothing -/

/-- A command that stores nothing leaves the Inkwell as it was (R287, R294). -/
theorem exec_sameMemory {c : Instr} {s t : State} (hc : stores c = false) (e : exec c s = .next t) : SameMemory s t :=
  have h := exec_kept_quiet memory_kept hc (memory_kept.refl s) e
  .of_mem h.1 h.2

/-! ### Fields of a ruling block -/

/-- Two fields of one word are different fields where their lowest bits are. -/
theorem Fld.key_ne_of_lo {f g : Fld} (ha : f.addr = g.addr) (hl : f.lo ≠ g.lo) : f.key ≠ g.key := by
  simp only [Fld.key, ha]
  omega

/-- Fields of different words are different fields. -/
theorem Fld.key_ne_of_addr {f g : Fld} (ha : f.addr ≠ g.addr) (hf : f.lo < 64) (hg : g.lo < 64) : f.key ≠ g.key := by
  simp only [Fld.key]
  omega

/-- A field of the ruling block below its masks, in a word without WRITE_ABORT. -/
theorem rulFld_word {n o : Nat} (hn : n < 16) {f : Fld} (ha : f.addr = rulBase n + o) (ho : o < 0x200) (hl : f.lo < 64) (he : o ≠ 0x40) :
    RulFld n f := by
  refine ⟨hn, ?_, ?_, Fld.key_ne_of_addr ?_ hl (Nat.le_of_ble_eq_true rfl)⟩ <;> simp only [Fld.key, ha, RUL_EVENT_WRITE_ABORT] <;> omega

/-- An event of the ruling, but for WRITE_ABORT. -/
theorem rulFld_event {n : Nat} (hn : n < 16) {f : Fld} (ha : f.addr = rulBase n + 0x40) (hl : f.lo < 11) : RulFld n f := by
  refine ⟨hn, ?_, ?_, ?_⟩ <;> simp only [Fld.key, ha, RUL_EVENT_WRITE_ABORT] <;> omega

/-- A field of the ruling block outside its status word reads as before where the loop enters a state. -/
theorem setRulState_get_word {n o : Nat} (hn : n < 16) {f : Fld} (ha : f.addr = rulBase n + o) (ho : o < 0x200) (hl : f.lo < 64) (he : o ≠ 0x40)
    (hs : o ≠ 0x10) (s : State) (st : Nat) : (setRulState s n st).get f = s.get f := by
  have key : ∀ g : Fld, g.addr = rulBase n + 0x10 → g.lo < 64 → f.key ≠ g.key := fun g hg =>
    Fld.key_ne_of_addr (by rw [ha, hg]; omega) hl
  exact setRulState_get_rul (rulFld_word hn ha ho hl he) (key _ rfl (Nat.le_of_ble_eq_true rfl)) (key _ rfl (Nat.le_of_ble_eq_true rfl)) s st

/-- A bit of the loop's status between its state and WRITE_OK reads as before where the loop enters a state. -/
theorem setRulState_get_status {n : Nat} (hn : n < 16) {f : Fld} (ha : f.addr = rulBase n + 0x10) (h0 : 0 < f.lo) (h1 : f.lo < 23) (s : State)
    (st : Nat) : (setRulState s n st).get f = s.get f :=
  setRulState_get_rul (rulFld_ctrl hn ha (by decide) (by omega)) (Fld.key_ne_of_lo ha (Nat.ne_of_gt h0)) (Fld.key_ne_of_lo ha (Nat.ne_of_lt h1)) s st

/-! ### FREQ -/

theorem setNco_rate (s : State) (n v : Nat) : (setNco s n v).get (RUL_FREQ_PERIOD_RATE n) = v / 2 ^ 19 % 2 ^ 32 := State.get_set _ _ _

theorem freqAcquired_acquires {n rate err periods : Nat} {s : State} (hs : s.get (RUL_STATUS_STATE n) = 1) (he : err < 200) (hp : 64 ≤ periods) :
    freqAcquired n rate err periods s = setRulState (setNco s n (rate * 2 ^ 19)) n rulPhase := if_pos ⟨hs, he, hp⟩

theorem freqAcquired_short {n rate err periods : Nat} {s : State} (h : s.get (RUL_STATUS_STATE n) ≠ 1 ∨ 200 ≤ err ∨ periods < 64) :
    freqAcquired n rate err periods s = s := by
  refine if_neg fun ⟨hs, he, hp⟩ => ?_
  rcases h with h | h
  · exact h hs
  · omega

/-! ### PHASE -/

/-- The ruling clock drives the island, and a ruling nib is good only with its USE bit (R37, R40). -/
def rulingDrives (n : Nat) (a b : Bool) (s : State) : State :=
  let s := s.set (RUL_STATUS_CLK_SRC n) 1
  let s := s.set (RUL_STATUS_RNI_OK n) (if a && s.on (RUL_CTRL_USE_RNI n) then 1 else 0)
  s.set (RUL_STATUS_RNO_OK n) (if b && s.on (RUL_CTRL_USE_RNO n) then 1 else 0)

theorem phaseAcquired_acquires {n rms periods : Nat} {s : State} (hs : s.get (RUL_STATUS_STATE n) = 2) (hr : rms < 256) (hp : 256 ≤ periods)
    (a b : Bool) : phaseAcquired n rms periods a b s = enterAddr (rulingDrives n a b s) n := if_pos ⟨hs, hr, hp⟩

theorem phaseAcquired_short {n rms periods : Nat} {s : State} (h : s.get (RUL_STATUS_STATE n) ≠ 2 ∨ 256 ≤ rms ∨ periods < 256) (a b : Bool) :
    phaseAcquired n rms periods a b s = s := by
  refine if_neg fun ⟨hs, hr, hp⟩ => ?_
  rcases h with h | h
  · exact h hs
  · omega

/-- A bit of the loop's status between its state and WRITE_OK reads as before where the loop begins on address words. -/
theorem enterAddr_get_status {n : Nat} (hn : n < 16) {f : Fld} (ha : f.addr = rulBase n + 0x10) (h0 : 0 < f.lo) (h1 : f.lo < 23) (s : State) :
    (enterAddr s n).get f = s.get f := by
  rw [enterAddr_eq, setRulState_get_status hn ha h0 h1, addrBegun_get]
  · exact Fld.key_ne_of_addr (by simp only [ha, RUL_REV_REV]; omega) (by omega) (Nat.le_of_ble_eq_true rfl)
  · exact fun k => Fld.key_ne_of_addr (by simp only [ha, RUL_NIB_PHASE_RESID]; omega) (by omega) (Nat.le_of_ble_eq_true rfl)

theorem rulingDrives_fields (n : Nat) (a b : Bool) (s : State) : (rulingDrives n a b s).get (RUL_STATUS_CLK_SRC n) = 1
    ∧ (rulingDrives n a b s).get (RUL_STATUS_RNI_OK n) = (if a && s.on (RUL_CTRL_USE_RNI n) then 1 else 0)
    ∧ (rulingDrives n a b s).get (RUL_STATUS_RNO_OK n) = (if b && s.on (RUL_CTRL_USE_RNO n) then 1 else 0) := by
  have hbit : ∀ (c : Bool), (if c then 1 else 0 : Nat) % 2 ^ 1 = if c then 1 else 0 := by decide
  simp (disch := (simp only [Fld.key, RUL_STATUS_CLK_SRC, RUL_STATUS_RNI_OK, RUL_STATUS_RNO_OK, RUL_CTRL_USE_RNI, RUL_CTRL_USE_RNO]; omega))
    only [rulingDrives, State.on, State.get_set_ne, State.get_set]
  exact ⟨rfl, hbit _, hbit _⟩

theorem phaseAcquired_effect {n rms periods : Nat} (hn : n < 16) {s : State} (hs : s.get (RUL_STATUS_STATE n) = 2) (hr : rms < 256)
    (hp : 256 ≤ periods) (a b : Bool) : (phaseAcquired n rms periods a b s).get (RUL_STATUS_STATE n) = 3
      ∧ (phaseAcquired n rms periods a b s).get (RUL_STATUS_CLK_SRC n) = 1 ∧ (phaseAcquired n rms periods a b s).get (RUL_REV_REV n) = 0
      ∧ (phaseAcquired n rms periods a b s).get (RUL_STATUS_RNI_OK n) = (if a && s.on (RUL_CTRL_USE_RNI n) then 1 else 0)
      ∧ (phaseAcquired n rms periods a b s).get (RUL_STATUS_RNO_OK n) = (if b && s.on (RUL_CTRL_USE_RNO n) then 1 else 0) := by
  have keep : ∀ {f : Fld}, f.addr = rulBase n + 0x10 → 0 < f.lo → f.lo < 23 → _ := fun ha h0 h1 =>
    enterAddr_get_status hn ha h0 h1 (rulingDrives n a b s)
  obtain ⟨hst, hrev, -⟩ := enterAddr_effect hn (rulingDrives n a b s)
  obtain ⟨hclk, hrni, hrno⟩ := rulingDrives_fields n a b s
  rw [phaseAcquired_acquires hs hr hp]
  exact ⟨hst, (keep rfl (Nat.le_of_ble_eq_true rfl) (Nat.le_of_ble_eq_true rfl)).trans hclk, hrev,
    (keep rfl (Nat.le_of_ble_eq_true rfl) (Nat.le_of_ble_eq_true rfl)).trans hrni,
    (keep rfl (Nat.le_of_ble_eq_true rfl) (Nat.le_of_ble_eq_true rfl)).trans hrno⟩

/-! ### Time limits -/

/-- A time limit of acquisition has passed: 200 µs in FREQ or PHASE, 32 bins in ADDR (R35). -/
def acqOverdue (s : State) (n elapsed : Nat) : Prop :=
  s.get (RUL_STATUS_STATE n) ∈ [1, 2] ∧ 200 ≤ elapsed ∨ s.get (RUL_STATUS_STATE n) = 3 ∧ 32 ≤ elapsed

theorem acqOverdue_iff (s : State) (n elapsed : Nat) : acqOverdue s n elapsed ↔ s.get (RUL_STATUS_STATE n) = rulFreq ∧ 200 ≤ elapsed
    ∨ s.get (RUL_STATUS_STATE n) = rulPhase ∧ 200 ≤ elapsed ∨ s.get (RUL_STATUS_STATE n) = rulAddr ∧ 32 ≤ elapsed := by
  simp only [acqOverdue, List.mem_cons, List.not_mem_nil, or_false]
  tauto

theorem acqTimeout_overdue {n elapsed : Nat} {s : State} (h : acqOverdue s n elapsed) :
    acqTimeout n elapsed s = (fallToFreq s n).ev (RUL_EVENT_ACQ_TIMEOUT n) := if_pos ((acqOverdue_iff s n elapsed).1 h)

theorem acqTimeout_due {n elapsed : Nat} {s : State} (h : ¬ acqOverdue s n elapsed) : acqTimeout n elapsed s = s :=
  if_neg (mt (acqOverdue_iff s n elapsed).2 h)

/-- A fall to FREQ with an event: the loop is in FREQ, its angle no longer valid. -/
theorem fallToFreq_event {n : Nat} (hn : n < 16) {f : Fld} (ha : f.addr = rulBase n + 0x40) (hl : f.lo < 64) (hw : 0 < f.width) (s : State) :
    ((fallToFreq s n).ev f).get (RUL_STATUS_STATE n) = 1 ∧ ((fallToFreq s n).ev f).get f = 1
      ∧ ((fallToFreq s n).ev f).get (RUL_STATUS_ANGLE_VALID n) = 0 := by
  have key : ∀ g : Fld, g.addr = rulBase n + 0x10 → g.lo < 64 → g.key ≠ f.key := fun g hg h =>
    Fld.key_ne_of_addr (by rw [ha, hg]; omega) h hl
  rw [State.get_ev_ne _ (key (RUL_STATUS_STATE n) rfl (Nat.le_of_ble_eq_true rfl)),
    State.get_ev_ne _ (key (RUL_STATUS_ANGLE_VALID n) rfl (Nat.le_of_ble_eq_true rfl))]
  exact ⟨unlock_state hn _ _, State.get_ev _ _ hw, (unlock_angle hn _ _).1⟩

/-! ### The frequency word -/

/-- The NCO stands at the loop's word, or at the rate it is frozen at in HOLDOVER and JUMP (R46). -/
def wordTaken (n word : Nat) (s : State) : State :=
  s.iff (s.get (RUL_STATUS_STATE n) != rulHoldover && s.get (RUL_STATUS_STATE n) != rulJump) fun s => setNco s n word

/-- The word goes to the pen in a FREQ packet (R268). -/
def sendFreq (n : Nat) (s : State) : State := (countDn s n 80).modLink n fun l => { l with freqWord := some (s.ruling n).nco }

theorem freqWordSend_off {n word : Nat} {s : State} (h : s.get (RUL_STATUS_STATE n) = 0) : freqWordSend n word s = s := if_pos h

theorem freqWordSend_on {n word : Nat} {s : State} (h : s.get (RUL_STATUS_STATE n) ≠ 0) : freqWordSend n word s =
    (wordTaken n word s).iff (linkUp (wordTaken n word s) n && claims (wordTaken n word s) n) (sendFreq n) := if_neg h

theorem wordTaken_runs {n word : Nat} {s : State} (h : s.get (RUL_STATUS_STATE n) ∈ [1, 2, 3, 4, 5]) : wordTaken n word s = setNco s n word := by
  simp only [List.mem_cons, List.not_mem_nil, or_false] at h
  rcases h with h | h | h | h | h <;> rw [wordTaken, h] <;> rfl

theorem wordTaken_frozen {n word : Nat} {s : State} (h : s.get (RUL_STATUS_STATE n) ∈ [6, 7]) : wordTaken n word s = s := by
  simp only [List.mem_cons, List.not_mem_nil, or_false] at h
  rcases h with h | h <;> rw [wordTaken, h] <;> rfl

/-- Taking the word reaches the rate of the ruling only. -/
theorem wordTaken_keeps {n : Nat} (hn : n < 16) (word : Nat) (s : State) : linkUp (wordTaken n word s) n = linkUp s n
    ∧ claims (wordTaken n word s) n = claims s n ∧ (wordTaken n word s).link n = s.link n := by
  have hget : SameFields [RUL_FREQ_PERIOD_RATE n] s (wordTaken n word s) :=
    (SameFields.frame _).iff (.refl _ s) fun _ => setNco_sameFields s n word
  refine ⟨?_, ?_, ?_⟩
  · rw [linkUp, linkUp, hget.get]
    simp only [List.forall_mem_singleton, Fld.key, LK_STATUS_STATE, RUL_FREQ_PERIOD_RATE, lkBase, rulBase]
    omega
  · rw [claims, claims, hget.get]
    simp only [List.forall_mem_singleton, Fld.key, VRS_OUT_CLASS, RUL_FREQ_PERIOD_RATE, vrsBase, rulBase, penBase]
    omega
  · unfold wordTaken State.iff
    split <;> rfl

theorem sendFreq_effect (n : Nat) (s : State) : (sendFreq n s).fld = s.fld ∧ (sendFreq n s).ruling n = s.ruling n
    ∧ ((sendFreq n s).link n).freqWord = some (s.ruling n).nco := by
  refine ⟨rfl, rfl, ?_⟩
  rw [sendFreq, State.link_modLink]

/-- What sending a word leaves: the registers and the ruling as the word taken leaves them. -/
theorem freqWordSend_taken {n word : Nat} {s : State} (h : s.get (RUL_STATUS_STATE n) ≠ 0) :
    (freqWordSend n word s).fld = (wordTaken n word s).fld ∧ (freqWordSend n word s).ruling n = (wordTaken n word s).ruling n := by
  rw [freqWordSend_on h, State.iff]
  split
  · exact ⟨rfl, rfl⟩
  · exact ⟨rfl, rfl⟩

theorem freqWordSend_sent {n word : Nat} (hn : n < 16) {s : State} (hl : linkUp s n = true) (hc : claims s n = true)
    (h : s.get (RUL_STATUS_STATE n) ≠ 0) : ((freqWordSend n word s).link n).freqWord = some ((freqWordSend n word s).ruling n).nco := by
  obtain ⟨hl', hc', -⟩ := wordTaken_keeps hn word s
  rw [freqWordSend_on h, hl', hc', hl, hc, Bool.and_self, State.iff_true]
  obtain ⟨-, hr, hw⟩ := sendFreq_effect n (wordTaken n word s)
  rw [hw, hr]

theorem freqWordSend_link {n word : Nat} (hn : n < 16) {s : State} (h : linkUp s n = false ∨ claims s n = false) :
    (freqWordSend n word s).link n = s.link n := by
  by_cases hs : s.get (RUL_STATUS_STATE n) = 0
  · rw [freqWordSend_off hs]
  · obtain ⟨hl', hc', hk⟩ := wordTaken_keeps hn word s
    rw [freqWordSend_on hs, hl', hc', Bool.and_eq_false_iff.2 h, State.iff_false, hk]

/-- Settles O13: each acquisition step takes its threshold, and short of it nothing changes. -/
theorem rulingAcquisition : Obligations.RulingAcquisition := by
  unfold Obligations.RulingAcquisition
  refine ⟨fun n rate err periods s => ⟨_, rfl, fun hs he hp => ?_, freqAcquired_short⟩,
    fun n rms periods a b s => ⟨_, rfl, fun hs hr hp => phaseAcquired_effect n.isLt hs hr hp a b, fun h => phaseAcquired_short h a b⟩,
    fun n elapsed s => ⟨_, rfl, fun h => ?_, acqTimeout_due⟩,
    fun n word s => ⟨_, rfl, exec_sameMemory (c := .freqWordSend n word) rfl rfl, fun h => ?_, fun h => ?_, fun hl hc h => freqWordSend_sent n.isLt hl hc h,
      freqWordSend_link n.isLt, freqWordSend_off⟩⟩
  · rw [freqAcquired_acquires hs he hp]
    refine ⟨setRulState_state _ _ _, ?_, .after ((setNco_sameFields s n _).mono (by simp)) rfl
      ((setRulState_sameOrStopped _ n rulPhase).mono (List.subset_cons_self _ _))⟩
    rw [setRulState_get_word (o := 0x30) n.isLt rfl (by decide) (Nat.le_of_ble_eq_true rfl) (by decide) (by decide), setNco_rate,
      Nat.mul_div_cancel _ (Nat.two_pow_pos 19)]
  · rw [acqTimeout_overdue h]
    obtain ⟨hst, hev, -⟩ := fallToFreq_event n.isLt (f := RUL_EVENT_ACQ_TIMEOUT n) rfl (Nat.le_of_ble_eq_true rfl) (Nat.le_of_ble_eq_true rfl) s
    exact ⟨hst, hev⟩
  · obtain ⟨hf, hr⟩ := freqWordSend_taken (word := word.toNat) (n := n) (s := s) fun h0 => by simp [h0] at h
    rw [hr, State.get_of_fld hf, wordTaken_runs h, setNco_rate]
    refine ⟨?_, rfl, (setNco_sameFields s n _).trans (.of_fld (hf.trans (by rw [wordTaken_runs h])))⟩
    rw [setNco, State.ruling_set, State.ruling_modRul]
  · obtain ⟨hf, hr⟩ := freqWordSend_taken (word := word.toNat) (n := n) (s := s) fun h0 => by simp [h0] at h
    rw [hr, hf, wordTaken_frozen h]
    exact ⟨rfl, rfl⟩

end Sys2Proof.Machine

/-!
Address words: the count at a bin boundary, and what the words of ADDR, LOCKED and SINGLE do (R35, R37, R42, R46, R47, R493).
-/

namespace Sys2Proof.Machine

/-! ### The count (R42) -/

/-- Only a count's place in the revolution matters. -/
theorem setCount_mod (s : State) (n c : Nat) : setCount s n (c : Int) = setCount s n ((c % periodsPerRev s n : Nat) : Int) := by
  unfold setCount
  rw [Int.natCast_mod, Int.emod_emod]

/-- The fields that the count shows in: the index, the revolutions, and the leave of the repetitive controllers to learn (R42, R182). -/
def countedOf (n : Nat) : List Fld :=
  [RUL_ANGLE_BIN n, RUL_ANGLE_OFFSET n, RUL_REV_REV n, LE_RC_STAT_SLIP_BLOCK n 0, LE_RC_STAT_SLIP_BLOCK n 1]

theorem setCount_sameFields (s : State) (n : Nat) (c : Int) : SameFields [RUL_ANGLE_BIN n, RUL_ANGLE_OFFSET n] s (setCount s n c) :=
  fun f hf => setCount_get s n c (fun e => hf (by simp [e])) fun e => hf (by simp [e])

theorem countOn_sameFields (s : State) (n d : Nat) : SameFields (countedOf n) s (countOn s n d) := by
  refine (SameFields.frame _).iff ((setCount_sameFields s n _).mono (by simp [countedOf])) fun _ => ?_
  refine .set (.set ?_ (LE_RC_STAT_SLIP_BLOCK n 0) 0 (by simp [countedOf])) (LE_RC_STAT_SLIP_BLOCK n 1) 0 (by simp [countedOf])
  exact .trans (.set (.refl _ _) (RUL_REV_REV n) _ (by simp [countedOf])) (.of_fld rfl)

/-- A field of the ruling block is none of its pen's Loop Engine. -/
theorem RulFld.notEngine {n o : Nat} {f g : Fld} (h : RulFld n f) (hg : g.addr = leBase n + o) : f.key ≠ g.key := by
  have hr := h.high
  simp only [Fld.key, hg, leBase, if_pos h.pen, rulBase] at hr ⊢
  omega

/-- What the count leaves as it was: the ruling's fields but for the index and the revolutions. -/
theorem countOn_get {n o : Nat} (hn : n < 16) {f : Fld} (ha : f.addr = rulBase n + o) (ho : o < 0x200) (hl : f.lo < 64) (he : o ≠ 0x40)
    (hw : o ≠ 0x20 ∧ o ≠ 0x24) (s : State) (d : Nat) : (countOn s n d).get f = s.get f := by
  refine (countOn_sameFields s n d).get fun g hg => ?_
  have hf : RulFld n f := rulFld_word hn ha ho hl he
  simp only [countedOf, List.mem_cons, List.not_mem_nil, or_false] at hg
  rcases hg with rfl | rfl | rfl | rfl | rfl
  · exact Fld.key_ne_of_addr (by simp only [ha, RUL_ANGLE_BIN]; omega) hl (Nat.le_of_ble_eq_true rfl)
  · exact Fld.key_ne_of_addr (by simp only [ha, RUL_ANGLE_OFFSET]; omega) hl (Nat.le_of_ble_eq_true rfl)
  · exact Fld.key_ne_of_addr (by simp only [ha, RUL_REV_REV]; omega) hl (Nat.le_of_ble_eq_true rfl)
  · exact hf.notEngine rfl
  · exact hf.notEngine rfl

theorem countOn_ruling (s : State) (n d : Nat) : (countOn s n d).ruling n = (setCount s n (((s.ruling n).count + d : Nat) : Int)).ruling n := by
  unfold countOn State.iff
  dsimp only
  split <;> rfl

/-- The count moves on by d periods: modulo the revolution, with the index, and with REV where it passes the last bin (R42). -/
theorem countOn_effect {n m c d : Nat} (hn : n < 16) {s : State} (hm : s.get (RUL_PERIODS_M_RNI n) = m) (h0 : 0 < m) (hc : (s.ruling n).count + d = c) :
    ((countOn s n d).ruling n).count = c % (1024 * m)
      ∧ (countOn s n d).get (RUL_ANGLE_BIN n) = c % (1024 * m) / m ∧ (countOn s n d).get (RUL_ANGLE_OFFSET n) = c % (1024 * m) % m
      ∧ (countOn s n d).get (RUL_REV_REV n) = if 1024 * m ≤ c then (s.get (RUL_REV_REV n) + 1) % 2 ^ 32 else s.get (RUL_REV_REV n) := by
  have hp : periodsPerRev s n = 1024 * m := by rw [periodsPerRev, hm]
  have hlt : m < 2 ^ 11 := hm ▸ s.get_lt (RUL_PERIODS_M_RNI n)
  obtain ⟨hcount, hbin, hoff⟩ := setCount_effect hm h0 hlt (c := c % (1024 * m)) (Nat.mod_lt _ (Nat.mul_pos (by decide) h0))
  rw [← hp, ← setCount_mod] at hcount hbin hoff
  have hindex : RulFld n (RUL_ANGLE_BIN n) ∧ RulFld n (RUL_ANGLE_OFFSET n) ∧ RulFld n (RUL_REV_REV n) :=
    ⟨rulFld_ctrl (o := 0x20) hn rfl (by decide) (Nat.le_of_ble_eq_true rfl), rulFld_ctrl (o := 0x20) hn rfl (by decide) (Nat.le_of_ble_eq_true rfl),
      rulFld_ctrl (o := 0x24) hn rfl (by decide) (Nat.le_of_ble_eq_true rfl)⟩
  obtain ⟨hfb, hfo, hfr⟩ := hindex
  have hrev : (RUL_ANGLE_BIN n).key ≠ (RUL_REV_REV n).key ∧ (RUL_ANGLE_OFFSET n).key ≠ (RUL_REV_REV n).key := by
    simp only [Fld.key, RUL_ANGLE_BIN, RUL_ANGLE_OFFSET, RUL_REV_REV]
    omega
  have hkeep : (setCount s n (c : Int)).get (RUL_REV_REV n) = s.get (RUL_REV_REV n) := setCount_get s n c hrev.1.symm hrev.2.symm
  have hwrap : countOn s n d = (setCount s n (c : Int)).iff (decide (1024 * m ≤ c)) fun s =>
      (((s.wrap (RUL_REV_REV n) 1).modEng n fun g => { g with slipNew := false }).set (LE_RC_STAT_SLIP_BLOCK n 0) 0).set (LE_RC_STAT_SLIP_BLOCK n 1) 0 := by
    rw [← hc, ← hp]
    rfl
  have hlearn : ∀ {f : Fld}, RulFld n f → ∀ u : State, (((u.modEng n fun g => { g with slipNew := false }).set (LE_RC_STAT_SLIP_BLOCK n 0) 0).set
      (LE_RC_STAT_SLIP_BLOCK n 1) 0).get f = u.get f := fun hf u => by
    rw [State.get_set_ne _ _ (hf.notEngine rfl), State.get_set_ne _ _ (hf.notEngine rfl), State.modEng_get]
  refine ⟨?_, ?_, ?_, ?_⟩
  · rw [countOn_ruling, hc, hcount, hp]
  · rw [hwrap, State.get_iff_of _ _ _ ((hlearn hfb _).trans (State.get_wrap_ne _ _ hrev.1)), hbin, hp]
  · rw [hwrap, State.get_iff_of _ _ _ ((hlearn hfo _).trans (State.get_wrap_ne _ _ hrev.2)), hoff, hp]
  · rw [hwrap, State.get_iff, hlearn hfr, State.get_wrap, hkeep]
    exact if_congr (decide_eq_true_iff) rfl rfl

/-- Outside a slip the periods left before the next boundary end the bin in which the count stands (R42). -/
theorem periodsLeft_within {n m : Nat} {s : State} (hm : s.get (RUL_PERIODS_M_RNI n) = m) (h0 : 0 < m) (hc : (s.ruling n).count < 1024 * m)
    (hs : (s.ruling n).slipBin = none) : (s.ruling n).count + periodsLeft s n = (s.ruling n).count / m * m + (m - 1) := by
  have hdiv := Nat.div_add_mod' (s.ruling n).count m
  have hmod := Nat.mod_lt (s.ruling n).count h0
  have hleft : periodsLeft s n = (s.ruling n).count / m * m + (m - 1) - (s.ruling n).count := by
    unfold periodsLeft
    dsimp only
    rw [hs, Option.getD_none, periodsPerRev, hm, Nat.succ_mul]
    rw [show (s.ruling n).count / m * m + m + 1024 * m - 1 - (s.ruling n).count
      = (s.ruling n).count / m * m + (m - 1) - (s.ruling n).count + 1024 * m by omega, Nat.add_mod_right]
    exact Nat.mod_eq_of_lt (by omega)
  omega

/-! ### The next bin boundary -/

/-- The record of the ruling as a boundary passes: a slip is over, and the samples that waited have gone (R42, R47). -/
def boundaryPassed (s : State) (n : Nat) : State :=
  s.modRul n fun r => { r with slipBin := none, slipFrom := none, sub := r.sub - 8 * (periodsLeft s n + 1) }

theorem nextBin_eq (s : State) (n : Nat) : nextBin s n = countOn (boundaryPassed s n) n (periodsLeft s n + 1) := rfl

theorem nextBin_get {n o : Nat} (hn : n < 16) {f : Fld} (ha : f.addr = rulBase n + o) (ho : o < 0x200) (hl : f.lo < 64) (he : o ≠ 0x40)
    (hw : o ≠ 0x20 ∧ o ≠ 0x24) (s : State) : (nextBin s n).get f = s.get f := by
  rw [nextBin_eq, countOn_get hn ha ho hl he hw]
  rfl

/-- A boundary passes: the count stands at the start of the next bin, and past the last one REV counts on (R42). -/
theorem nextBin_effect {n m : Nat} (hn : n < 16) {s : State} (hm : s.get (RUL_PERIODS_M_RNI n) = m) (h0 : 0 < m) (hc : (s.ruling n).count < 1024 * m)
    (hs : (s.ruling n).slipBin = none) :
    ((nextBin s n).ruling n).count = ((s.ruling n).count / m + 1) * m % (1024 * m)
      ∧ (nextBin s n).get (RUL_ANGLE_BIN n) = ((s.ruling n).count / m + 1) % 1024 ∧ (nextBin s n).get (RUL_ANGLE_OFFSET n) = 0
      ∧ (nextBin s n).get (RUL_REV_REV n) =
          if 1024 * m ≤ ((s.ruling n).count / m + 1) * m then (s.get (RUL_REV_REV n) + 1) % 2 ^ 32 else s.get (RUL_REV_REV n) := by
  have hplace : ((boundaryPassed s n).ruling n).count + (periodsLeft s n + 1) = ((s.ruling n).count / m + 1) * m := by
    have hleft := periodsLeft_within hm h0 hc hs
    have hnext := Nat.add_one_mul ((s.ruling n).count / m) m
    rw [boundaryPassed, State.ruling_modRul]
    dsimp only
    omega
  obtain ⟨hcount, hbin, hoff, hrev⟩ := countOn_effect hn (s := boundaryPassed s n) hm h0 hplace
  rw [nextBin_eq]
  rw [Nat.mul_mod_mul_right] at hbin hoff
  exact ⟨hcount, hbin.trans (Nat.mul_div_cancel _ h0), hoff.trans (Nat.mul_mod_left _ _), hrev⟩

/-! ### What the words show (R44, R47) -/

/-- The fields that the last address words show in. -/
def reportedOf (n : Nat) : List Fld :=
  [RUL_ADDR_TRACK n, RUL_ADDR_LAYER n, RUL_ADDR_SIDE n, RUL_ADDR_GEN n, RUL_STATUS_TRACK_MATCH n, RUL_STATUS_LAYER_MATCH n,
    RUL_EVENT_TRACK_MISMATCH n, RUL_EVENT_LAYER_MISMATCH n]

theorem reportWord_onlyFields (s : State) (n : Nat) (nib : RulNib) (w : AddrWord) : OnlyFields (reportedOf n) s (reportWord s n nib w) := by
  unfold reportWord
  dsimp only
  split
  · refine (OnlyFields.frame _).iff (.set (.set (.refl _ s) (RUL_ADDR_TRACK n) _ ?_) (RUL_STATUS_TRACK_MATCH n) _ ?_) fun _ =>
      .set (.refl _ _) (RUL_EVENT_TRACK_MISMATCH n) 1 ?_
    all_goals simp [reportedOf]
  · refine (OnlyFields.frame _).iff (.set (.set (.set (.set (.refl _ s) (RUL_ADDR_LAYER n) _ ?_) (RUL_ADDR_SIDE n) _ ?_) (RUL_ADDR_GEN n) _ ?_)
      (RUL_STATUS_LAYER_MATCH n) _ ?_) fun _ => .set (.refl _ _) (RUL_EVENT_LAYER_MISMATCH n) 1 ?_
    all_goals simp [reportedOf]

theorem reportWords_onlyFields (s : State) (n : Nat) (a b : Option AddrWord) : OnlyFields (reportedOf n) s (reportWords s n a b) := by
  cases a <;> cases b
  · exact .refl _ s
  · exact reportWord_onlyFields _ _ _ _
  · exact reportWord_onlyFields _ _ _ _
  · exact (reportWord_onlyFields _ _ _ _).trans (reportWord_onlyFields _ _ _ _)

/-! ### Words in LOCKED and SINGLE (R47) -/

/-- The fields that judging the words of a boundary reaches: what they show, the count and its index, and slips. -/
def judgedOf (n : Nat) : List Fld :=
  [RUL_STATUS_SEARCH_WIDE n, RUL_STATUS_WRITE_OK n, RUL_COUNTS_ADDR_CRC n, RUL_COUNTS_SLIPS n, RUL_SLIP_SOURCE n, RUL_SLIP_AMOUNT n,
    RUL_EVENT_SLIP n, RUL_EVENT_ADDR_CONFLICT n, RUL_REV_REV n, RUL_ANGLE_BIN n, RUL_ANGLE_OFFSET n] ++ reportedOf n ++ stoppedOf n

theorem confirmSlip_sameFields (s : State) (n : Nat) (e : Int) (bin source : Nat) : SameFields (judgedOf n) s (confirmSlip s n e bin source) := by
  unfold confirmSlip
  extract_lets was c sRev sCount sSlip sTold sShown sLearn
  have hmoved : SameFields (judgedOf n) s sCount :=
    .trans (.set (.refl _ s) (RUL_REV_REV n) _ (by simp [judgedOf])) ((setCount_sameFields sRev n c).mono (by simp [judgedOf]))
  have htold : SameFields (judgedOf n) s sTold :=
    .bump (.ev (hmoved.trans (.of_fld rfl)) (RUL_EVENT_SLIP n) (by simp [judgedOf])) (RUL_COUNTS_SLIPS n) 1 (by simp [judgedOf])
  have hshown : SameFields (judgedOf n) s sShown :=
    .set (.set (.set htold (RUL_SLIP_SOURCE n) _ (by simp [judgedOf])) (RUL_SLIP_AMOUNT n) _ (by simp [judgedOf])) (RUL_STATUS_SEARCH_WIDE n) 0
      (by simp [judgedOf])
  exact (hshown.trans (.of_fld rfl)).trans ((abortBurns_sameFields sLearn n).mono (List.subset_append_right _ _))

theorem judgeWords_sameFields (s : State) (n : Nat) (a b : Option AddrWord) : SameFields (judgedOf n) s (judgeWords s n a b) := by
  have hconflict : ∀ u : State, SameFields (judgedOf n) u (u.ev (RUL_EVENT_ADDR_CONFLICT n)) := fun u => .ev (.refl _ u) _ (by simp [judgedOf])
  unfold judgeWords
  dsimp only
  refine .trans (.trans ((reportWords_onlyFields s n (countedWord s n .rni a) (countedWord s n .rno b)).1.mono ?_) ?_)
    (((refreshWriteOk_sameOrStopped _ n).1).mono ?_)
  · simp [judgedOf, reportedOf]
  · split
    · exact (SameFields.frame _).iff (.trans (.bump (.refl _ _) (RUL_COUNTS_ADDR_CRC n) 1 (by simp [judgedOf])) (.of_fld rfl)) fun _ =>
        .set (.refl _ _) (RUL_STATUS_SEARCH_WIDE n) 1 (by simp [judgedOf])
    · split
      · refine .trans ((SameFields.frame _).iff ((SameFields.frame _).iff ?_ fun _ => hconflict _) fun _ => hconflict _) (.of_fld rfl)
        exact .set (.of_fld rfl) (RUL_STATUS_SEARCH_WIDE n) 0 (by simp [judgedOf])
      · split
        · exact .refl _ _
        · split
          · split
            · exact confirmSlip_sameFields _ _ _ _ _
            · exact .of_fld rfl
          · exact .trans (.of_fld rfl) (hconflict _)
  · exact List.cons_subset.2 ⟨by simp [judgedOf], List.subset_append_right _ _⟩

/-- A boundary has passed with no word that counts: it is counted, and after the fourth the search is wide (R47). -/
def wordMissed (s : State) (n : Nat) : State :=
  let s := (s.bump (RUL_COUNTS_ADDR_CRC n) 1).modRul n fun r => { r with miss := r.miss + 1 }
  s.iff (decide (4 ≤ (s.ruling n).miss) && (inLoop s n .rni || inLoop s n .rno)) fun s => s.set (RUL_STATUS_SEARCH_WIDE n) 1

theorem judgeWords_none (s : State) (n : Nat) : judgeWords s n none none = refreshWriteOk (wordMissed s n) n := rfl

theorem judgeWords_missed {n : Nat} (hn : n < 16) (s : State) : (judgeWords s n none none).get (RUL_COUNTS_ADDR_CRC n)
    = min (s.get (RUL_COUNTS_ADDR_CRC n) + 1) (2 ^ (RUL_COUNTS_ADDR_CRC n).width - 1) := by
  have hf : RulFld n (RUL_COUNTS_ADDR_CRC n) := rulFld_word (o := 0x50) hn rfl (by decide) (Nat.le_of_ble_eq_true rfl) (by decide)
  rw [judgeWords_none, refreshWriteOk_get _ _ (Fld.key_ne_of_addr ?_ ?_ ?_) hf.notBurns, wordMissed, State.get_iff_of, State.modRul_get, State.get_bump]
  · refine State.get_set_ne _ _ (Fld.key_ne_of_addr ?_ ?_ ?_)
    · simp [RUL_COUNTS_ADDR_CRC, RUL_STATUS_SEARCH_WIDE]
    all_goals exact Nat.le_of_ble_eq_true rfl
  · simp [RUL_COUNTS_ADDR_CRC, RUL_STATUS_WRITE_OK]
  all_goals exact Nat.le_of_ble_eq_true rfl

/-! ### Words in ADDR (R35, R37, R493) -/

/-- A ruling nib is in the loop as long as its USE and OK bits read as they did. -/
theorem SameFields.inLoop {but : List Fld} {s t : State} {n : Nat} (h : SameFields but s t) (hb : ∀ g ∈ but, g.addr ≠ rulBase n ∧
    (g.addr = rulBase n + 0x10 → g.lo ≠ 17 ∧ g.lo ≠ 18) ∧ g.lo < 64) (nib : RulNib) : inLoop t n nib = inLoop s n nib := by
  have huse : (useBit n nib).addr = rulBase n ∧ (useBit n nib).lo < 64 := by cases nib <;> exact ⟨rfl, Nat.le_of_ble_eq_true rfl⟩
  have hok : (okBit n nib).addr = rulBase n + 0x10 ∧ ((okBit n nib).lo = 17 ∨ (okBit n nib).lo = 18) := by
    cases nib <;> simp [okBit, RUL_STATUS_RNI_OK, RUL_STATUS_RNO_OK]
  have hget : t.get (useBit n nib) = s.get (useBit n nib) ∧ t.get (okBit n nib) = s.get (okBit n nib) := by
    constructor <;> refine h.get fun g hg => ?_ <;> have hg := hb g hg
    · exact Fld.key_ne_of_addr (huse.1 ▸ hg.1.symm) huse.2 hg.2.2
    · simp only [Fld.key, hok.1]
      omega
  rw [Machine.inLoop, Machine.inLoop, State.on, State.on, State.on, State.on, hget.1, hget.2]

theorem addrObs_congr {s t : State} {n : Nat} (h : ∀ nib, inLoop t n nib = inLoop s n nib) (a b : Option AddrWord) :
    addrObs t n a b = addrObs s n a b := by
  have hgood : ∀ nib w, addrGood t n nib w = addrGood s n nib w := fun nib w => by rw [addrGood, addrGood, h]
  rw [addrObs, addrObs, hgood, hgood]

/-- Two consecutive words with payloads that are acceptable name a bin. -/
theorem addrPair_found {prev now : List (Nat × Nat)} {bin0 p0 bin p : Nat} (h0 : (bin0, p0) ∈ prev) (h : (bin, p) ∈ now)
    (hb : (bin0 + 1) % 1024 = bin) (hp0 : payloadOk bin0 p0 = true) (hp : payloadOk bin p = true) : ∃ x, addrPair prev now = some x := by
  have hfind : (now.find? fun y => payloadOk y.1 y.2 && prev.any fun x => (x.1 + 1) % 1024 == y.1 && payloadOk x.1 x.2).isSome = true :=
    List.find?_isSome.2 ⟨_, h, by
      simp only [hp, Bool.true_and, List.any_eq_true]
      exact ⟨_, h0, by simp [hb, hp0]⟩⟩
  obtain ⟨y, hy⟩ := Option.isSome_iff_exists.1 hfind
  exact ⟨y.1, by rw [addrPair, hy]; rfl⟩

/-- The count and the record of a loop that locks at a bin (R35, R493). -/
def lockedAt (s : State) (n bin : Nat) : State :=
  let s := setCount s n ((bin * s.get (RUL_PERIODS_M_RNI n) : Nat) : Int)
  let kept := s.on (RUL_STATUS_ANGLE_VALID n)
  (s.set (RUL_STATUS_ANGLE_VALID n) 1).modRul n fun r => { r with prev := [], miss := 0, pending := none, sub := if kept then r.sub else 0 }

theorem lockedAt_sameFields (s : State) (n bin : Nat) :
    SameFields [RUL_ANGLE_BIN n, RUL_ANGLE_OFFSET n, RUL_STATUS_ANGLE_VALID n] s (lockedAt s n bin) :=
  .trans (.set ((setCount_sameFields s n _).mono (by simp)) (RUL_STATUS_ANGLE_VALID n) 1 (by simp)) (.of_fld rfl)

/-- The words of a boundary in ADDR, reported. -/
def addrReported (s : State) (n : Nat) (a b : Option AddrWord) : State := reportWords s n (addrGood s n .rni a) (addrGood s n .rno b)

theorem judgeAddr_eq (s : State) (n : Nat) (a b : Option AddrWord) : judgeAddr s n a b =
    match addrPair ((addrReported s n a b).ruling n).prev (addrObs (addrReported s n a b) n a b) with
    | some bin => setRulState (lockedAt (addrReported s n a b) n bin) n
        (if (lockedAt (addrReported s n a b) n bin).on (RUL_CTRL_JUMP n) then rulJump else lockState (lockedAt (addrReported s n a b) n bin) n)
    | none => refreshWriteOk ((addrReported s n a b).modRul n fun r => { r with prev := addrObs (addrReported s n a b) n a b }) n := by
  unfold judgeAddr
  rfl

theorem reportedOf_place (n : Nat) : ∀ g ∈ reportedOf n,
    g.addr ≠ rulBase n ∧ (g.addr = rulBase n + 0x10 → g.lo ≠ 17 ∧ g.lo ≠ 18) ∧ g.lo < 64 := by
  simp [reportedOf, RUL_ADDR_TRACK, RUL_ADDR_LAYER, RUL_ADDR_SIDE, RUL_ADDR_GEN, RUL_STATUS_TRACK_MATCH, RUL_STATUS_LAYER_MATCH,
    RUL_EVENT_TRACK_MISMATCH, RUL_EVENT_LAYER_MISMATCH]

theorem addrReported_inLoop (s : State) (n : Nat) (a b : Option AddrWord) (nib : RulNib) :
    inLoop (addrReported s n a b) n nib = inLoop s n nib := (reportWords_onlyFields s n _ _).1.inLoop (reportedOf_place n) nib

theorem lockedAt_inLoop (s : State) (n bin : Nat) (nib : RulNib) : inLoop (lockedAt s n bin) n nib = inLoop s n nib := by
  refine (lockedAt_sameFields s n bin).inLoop ?_ nib
  simp [RUL_ANGLE_BIN, RUL_ANGLE_OFFSET, RUL_STATUS_ANGLE_VALID]

theorem OnlyFields.ruling {but : List Fld} {s t : State} (h : OnlyFields but s t) (n : Nat) : t.ruling n = s.ruling n :=
  (congrArg (fun u : State => u.ruling n) h.2 :)

/-- Two consecutive words with consistent payloads lock the loop (R35, R37, R493). -/
theorem judgeAddr_locks {n bin bin0 p p0 : Nat} (hn : n < 16) {s : State} {a b : Option AddrWord} (h0 : (bin0, p0) ∈ (s.ruling n).prev)
    (h : (bin, p) ∈ addrObs s n a b) (hb : (bin0 + 1) % 1024 = bin) (hp0 : payloadOk bin0 p0 = true) (hp : payloadOk bin p = true) :
    (judgeAddr s n a b).get (RUL_STATUS_ANGLE_VALID n) = 1
      ∧ (judgeAddr s n a b).get (RUL_STATUS_STATE n) = (if s.get (RUL_CTRL_JUMP n) = 1 then 7
          else if inLoop s n .rni = true ∧ inLoop s n .rno = true then 4 else 5) := by
  have hprev : ((addrReported s n a b).ruling n).prev = (s.ruling n).prev :=
    congrArg Ruling.prev ((reportWords_onlyFields s n (addrGood s n .rni a) (addrGood s n .rno b)).ruling n)
  obtain ⟨x, hx⟩ := addrPair_found h0 h hb hp0 hp
  have hjump : (lockedAt (addrReported s n a b) n x).get (RUL_CTRL_JUMP n) = s.get (RUL_CTRL_JUMP n) := by
    refine ((lockedAt_sameFields _ n x).get ?_).trans ((reportWords_onlyFields s n _ _).1.get fun g hg =>
      Fld.key_ne_of_addr (reportedOf_place n g hg).1.symm (Nat.le_of_ble_eq_true rfl) (reportedOf_place n g hg).2.2)
    simp only [List.forall_mem_cons, List.not_mem_nil, false_imp_iff, implies_true, and_true, Fld.key, RUL_CTRL_JUMP, RUL_ANGLE_BIN, RUL_ANGLE_OFFSET,
      RUL_STATUS_ANGLE_VALID]
    omega
  rw [judgeAddr_eq, hprev, addrObs_congr (addrReported_inLoop s n a b), hx]
  dsimp only
  refine ⟨?_, ?_⟩
  · rw [setRulState_get_status hn rfl (Nat.le_of_ble_eq_true rfl) (Nat.le_of_ble_eq_true rfl), lockedAt, State.modRul_get, State.get_set]
    rfl
  · rw [setRulState_state, State.on, hjump, lockState, lockedAt_inLoop, lockedAt_inLoop, addrReported_inLoop, addrReported_inLoop]
    by_cases hj : s.get (RUL_CTRL_JUMP n) = 1
    · simp [hj]
    · cases inLoop s n .rni <;> cases inLoop s n .rno <;> simp [hj, rulSingle, rulLocked]

/-- The loop's phase errors are none of what the words of ADDR reach. -/
theorem judgeAddr_get {n o : Nat} (hn : n < 16) {f : Fld} (ha : f.addr = rulBase n + o) (ho : o < 0x200) (hl : f.lo < 64)
    (hw : o ≠ 0x10 ∧ o ≠ 0x20 ∧ o ≠ 0x28 ∧ o ≠ 0x40) (s : State) (a b : Option AddrWord) : (judgeAddr s n a b).get f = s.get f := by
  have hf : RulFld n f := rulFld_word hn ha ho hl hw.2.2.2
  have key : ∀ g : Fld, g.addr = rulBase n + 0x10 ∨ g.addr = rulBase n + 0x20 ∨ g.addr = rulBase n + 0x28 ∨ g.addr = rulBase n + 0x40 →
      g.lo < 64 → f.key ≠ g.key := fun g hg => Fld.key_ne_of_addr (by rw [ha]; omega) hl
  have hrep : (addrReported s n a b).get f = s.get f := (reportWords_onlyFields s n _ _).1.get fun g hg => key g (by
    simp only [reportedOf, List.mem_cons, List.not_mem_nil, or_false] at hg
    rcases hg with rfl | rfl | rfl | rfl | rfl | rfl | rfl | rfl <;> simp [RUL_ADDR_TRACK, RUL_ADDR_LAYER, RUL_ADDR_SIDE, RUL_ADDR_GEN,
      RUL_STATUS_TRACK_MATCH, RUL_STATUS_LAYER_MATCH, RUL_EVENT_TRACK_MISMATCH, RUL_EVENT_LAYER_MISMATCH]) (reportedOf_place n g hg).2.2
  rw [judgeAddr_eq]
  split
  · rw [setRulState_get_word hn ha ho hl hw.2.2.2 hw.1, (lockedAt_sameFields _ n _).get, hrep]
    intro g hg
    simp only [List.mem_cons, List.not_mem_nil, or_false] at hg
    rcases hg with rfl | rfl | rfl
    · exact key _ (.inr (.inl rfl)) (Nat.le_of_ble_eq_true rfl)
    · exact key _ (.inr (.inl rfl)) (Nat.le_of_ble_eq_true rfl)
    · exact key _ (.inl rfl) (Nat.le_of_ble_eq_true rfl)
  · rw [refreshWriteOk_get _ _ (key _ (.inl rfl) (Nat.le_of_ble_eq_true rfl)) hf.notBurns, State.modRul_get, hrep]

/-! ### ADDR_WORD -/

/-- The RMS phase errors of the bin are shown. -/
def rmsShown (s : State) (n x y : Nat) : State := (s.set (RUL_PHERR_RNI_RMS n) x).set (RUL_PHERR_RNO_RMS n) y

theorem rmsShown_onlyFields (s : State) (n x y : Nat) : OnlyFields [RUL_PHERR_RNI_RMS n, RUL_PHERR_RNO_RMS n] s (rmsShown s n x y) :=
  .set (.set (.refl _ s) (RUL_PHERR_RNI_RMS n) x (by simp)) (RUL_PHERR_RNO_RMS n) y (by simp)

theorem rmsShown_get {n o : Nat} {f : Fld} (ha : f.addr = rulBase n + o) (ho : o ≠ 0x34) (hl : f.lo < 64) (s : State) (x y : Nat) :
    (rmsShown s n x y).get f = s.get f := by
  refine (rmsShown_onlyFields s n x y).1.get ?_
  simp only [List.forall_mem_cons, List.not_mem_nil, false_imp_iff, implies_true, and_true, Fld.key, RUL_PHERR_RNI_RMS, RUL_PHERR_RNO_RMS, ha]
  omega

theorem rmsShown_fields (s : State) (n : Nat) (x y : BitVec 16) : (rmsShown s n x.toNat y.toNat).get (RUL_PHERR_RNI_RMS n) = x.toNat
    ∧ (rmsShown s n x.toNat y.toNat).get (RUL_PHERR_RNO_RMS n) = y.toNat := by
  refine ⟨?_, ?_⟩
  · rw [rmsShown, State.get_set_ne _ _ (Fld.key_ne_of_lo (f := RUL_PHERR_RNI_RMS n) (g := RUL_PHERR_RNO_RMS n) rfl
      (Nat.ne_of_lt (Nat.le_of_ble_eq_true rfl))), State.get_set]
    exact Nat.mod_eq_of_lt x.isLt
  · rw [rmsShown, State.get_set]
    exact Nat.mod_eq_of_lt y.isLt

theorem reportRms_shown {n : Nat} {s : State} (h : 3 ≤ s.get (RUL_STATUS_STATE n)) (x y : Nat) : reportRms s n x y = rmsShown s n x y := by
  rw [reportRms, decide_eq_true h]
  rfl

theorem addrWord_idle {n : Nat} {s : State} (h : s.get (RUL_STATUS_STATE n) ∈ [0, 1, 2]) (a b : Option AddrWord) (x y : Nat) :
    addrWord n a b x y s = s := by
  simp only [List.mem_cons, List.not_mem_nil, or_false] at h
  have hr : reportRms s n x y = s := by rw [reportRms, decide_eq_false (by rcases h with h | h | h <;> rw [h] <;> decide), State.iff_false]
  unfold addrWord
  dsimp only
  rw [hr]
  rcases h with h | h | h <;> rw [h] <;> rfl

theorem addrWord_addr {n : Nat} {s : State} (h : s.get (RUL_STATUS_STATE n) = 3) (a b : Option AddrWord) (x y : Nat) : addrWord n a b x y s =
    judgeAddr (if (rmsShown s n x y).on (RUL_STATUS_ANGLE_VALID n) then nextBin (rmsShown s n x y) n else rmsShown s n x y) n a b := by
  unfold addrWord
  dsimp only
  rw [reportRms_shown (by omega), rmsShown_get (o := 0x10) rfl (by decide) (Nat.le_of_ble_eq_true rfl), h]
  rfl

theorem addrWord_counted {n : Nat} {s : State} (h : s.get (RUL_STATUS_STATE n) ∈ [4, 5]) (a b : Option AddrWord) (x y : Nat) :
    addrWord n a b x y s = judgeWords (nextBin (rmsShown s n x y) n) n a b := by
  simp only [List.mem_cons, List.not_mem_nil, or_false] at h
  unfold addrWord
  dsimp only
  rw [reportRms_shown (by omega), rmsShown_get (o := 0x10) rfl (by decide) (Nat.le_of_ble_eq_true rfl)]
  rcases h with h | h <;> rw [h] <;> rfl

theorem addrWord_runs {n : Nat} {s : State} (h : s.get (RUL_STATUS_STATE n) ∈ [6, 7]) (a b : Option AddrWord) (x y : Nat) :
    addrWord n a b x y s = nextBin (rmsShown s n x y) n := by
  simp only [List.mem_cons, List.not_mem_nil, or_false] at h
  unfold addrWord
  dsimp only
  rw [reportRms_shown (by omega), rmsShown_get (o := 0x10) rfl (by decide) (Nat.le_of_ble_eq_true rfl)]
  rcases h with h | h <;> rw [h] <;> rfl

/-- Judging the words leaves the phase errors. -/
theorem judgeWords_pherr {n : Nat} {f : Fld} (ha : f.addr = rulBase n + 0x34) (hl : f.lo < 64) (s : State) (a b : Option AddrWord) :
    (judgeWords s n a b).get f = s.get f := by
  refine (judgeWords_sameFields s n a b).get ?_
  simp only [judgedOf, reportedOf, stoppedOf, List.cons_append, List.nil_append, List.forall_mem_cons, List.not_mem_nil, false_imp_iff, implies_true, and_true,
    Fld.key, ha, RUL_STATUS_SEARCH_WIDE, RUL_STATUS_WRITE_OK, RUL_COUNTS_ADDR_CRC, RUL_COUNTS_SLIPS, RUL_SLIP_SOURCE, RUL_SLIP_AMOUNT, RUL_EVENT_SLIP,
    RUL_EVENT_ADDR_CONFLICT, RUL_REV_REV, RUL_ANGLE_BIN, RUL_ANGLE_OFFSET, RUL_ADDR_TRACK, RUL_ADDR_LAYER, RUL_ADDR_SIDE, RUL_ADDR_GEN,
    RUL_STATUS_TRACK_MATCH, RUL_STATUS_LAYER_MATCH, RUL_EVENT_TRACK_MISMATCH, RUL_EVENT_LAYER_MISMATCH, WC_EVENT_ABORT, RUL_EVENT_WRITE_ABORT,
    WC_CNT_FAIL_ABORTED, WC_STATUS_WRITING, WC_STATUS_GROUP_LEFT, wcBase, rulBase]
  omega

theorem addrWord_pherr {n : Nat} (hn : n < 16) {f : Fld} (ha : f.addr = rulBase n + 0x34) (hl : f.lo < 64) {s : State}
    (h : s.get (RUL_STATUS_STATE n) ∈ [3, 4, 5, 6, 7]) (a b : Option AddrWord) (x y : Nat) :
    (addrWord n a b x y s).get f = (rmsShown s n x y).get f := by
  have hnext : (nextBin (rmsShown s n x y) n).get f = (rmsShown s n x y).get f := nextBin_get hn ha (by decide) hl (by decide) (by decide) _
  have hcases : s.get (RUL_STATUS_STATE n) = 3 ∨ s.get (RUL_STATUS_STATE n) ∈ [4, 5] ∨ s.get (RUL_STATUS_STATE n) ∈ [6, 7] := by
    simp only [List.mem_cons, List.not_mem_nil, or_false] at h ⊢
    omega
  rcases hcases with h | h | h
  · rw [addrWord_addr h, judgeAddr_get hn ha (by decide) hl (by decide)]
    split
    · exact hnext
    · rfl
  · rw [addrWord_counted h, judgeWords_pherr ha hl, hnext]
  · rw [addrWord_runs h, hnext]

/-- Settles O14: what an address word does in each state of the loop. -/
theorem rulingAddressWord : Obligations.RulingAddressWord := by
  unfold Obligations.RulingAddressWord
  refine fun n a b x y s => ⟨_, rfl, fun h => addrWord_idle h a b _ _, fun h => ?_, fun h h0 hc hs => ?_, fun h ha hb => ?_,
    fun bin bin0 p p0 h hv h0 hw hb hp0 hp => ?_⟩
  · obtain ⟨hrni, hrno⟩ := rmsShown_fields s n x y
    exact ⟨(addrWord_pherr n.isLt rfl (Nat.le_of_ble_eq_true rfl) h a b _ _).trans hrni,
      (addrWord_pherr n.isLt rfl (Nat.le_of_ble_eq_true rfl) h a b _ _).trans hrno⟩
  · rw [addrWord_runs h]
    have hm : (rmsShown s n x.toNat y.toNat).get (RUL_PERIODS_M_RNI n) = s.get (RUL_PERIODS_M_RNI n) :=
      rmsShown_get (o := 0x8) rfl (by decide) (Nat.le_of_ble_eq_true rfl) s _ _
    have hrev : (rmsShown s n x.toNat y.toNat).get (RUL_REV_REV n) = s.get (RUL_REV_REV n) :=
      rmsShown_get (o := 0x24) rfl (by decide) (Nat.le_of_ble_eq_true rfl) s _ _
    have heffect := nextBin_effect n.isLt hm h0 hc hs
    rw [hrev] at heffect
    exact heffect
  · have hcrc : ∀ u : State, (nextBin (rmsShown u n x.toNat y.toNat) n).get (RUL_COUNTS_ADDR_CRC n) = u.get (RUL_COUNTS_ADDR_CRC n) := fun u => by
      rw [nextBin_get (o := 0x50) n.isLt rfl (by decide) (Nat.le_of_ble_eq_true rfl) (by decide) (by decide),
        rmsShown_get (o := 0x50) rfl (by decide) (Nat.le_of_ble_eq_true rfl)]
    rw [addrWord_counted h, ha, hb, judgeWords_missed n.isLt, hcrc]
  · have hoff : (rmsShown s n x.toNat y.toNat).on (RUL_STATUS_ANGLE_VALID n) = false := by
      rw [State.on, rmsShown_get (o := 0x10) rfl (by decide) (Nat.le_of_ble_eq_true rfl), hv]
      rfl
    have hin : ∀ nib, inLoop (rmsShown s n x.toNat y.toNat) n nib = inLoop s n nib :=
      (rmsShown_onlyFields s n _ _).1.inLoop (by simp [RUL_PHERR_RNI_RMS, RUL_PHERR_RNO_RMS])
    have hlock := judgeAddr_locks n.isLt (s := rmsShown s n x.toNat y.toNat) h0 (addrObs_congr hin a b ▸ hw) hb hp0 hp
    rw [rmsShown_get (o := 0) rfl (by decide) (Nat.le_of_ble_eq_true rfl), hin, hin] at hlock
    rw [addrWord_addr h, hoff]
    exact hlock

end Sys2Proof.Machine

/-!
Ruling nibs: how one leaves the loop and comes back, HOLDOVER, and its limit (R35, R37, R45, R46, R68).
-/

namespace Sys2Proof.Machine

/-! ### Nibs where the loop changes its state -/

theorem abortBurns_nib (s : State) (n m k : Nat) : (abortBurns s n).nib m k = s.nib m k := by
  by_cases hb : burningNibs s n = 0
  · rw [abortBurns_idle hb]
  · rw [abortBurns_stops hb]
    refine State.each_keeps (fun s => s.nib m k) s (s.writeCh n).group (abortDesc n) fun s d _ => ?_
    unfold abortDesc
    split <;> rfl

theorem refreshWriteOk_nib (s : State) (n m k : Nat) : (refreshWriteOk s n).nib m k = s.nib m k := by
  unfold refreshWriteOk State.iff
  dsimp only
  split
  · exact abortBurns_nib _ n m k
  · rfl

theorem refreshFrozenPen_nib (s : State) (n m k : Nat) : (refreshFrozenPen s n).nib m k = s.nib m k :=
  State.each_keeps (fun s => s.nib m k) _ _ _ fun _ _ _ => rfl

theorem setRulState_nib (s : State) (n st m k : Nat) : (setRulState s n st).nib m k = s.nib m k := by
  rw [setRulState, refreshFrozenPen_nib, refreshWriteOk_nib]
  rfl

/-! ### HOLDOVER -/

/-- Where no nib burns no descriptor does. -/
theorem burning_eq_zero {s : State} {n : Nat} (h : burningNibs s n = 0) : ∀ d ∈ (s.writeCh n).group, d.burning = 0 := by
  have fold : ∀ (l : List Desc) (m : Nat), l.foldl (fun m d => m ||| d.burning) m = 0 → m = 0 ∧ ∀ d ∈ l, d.burning = 0 := by
    intro l
    induction l with
    | nil => exact fun m hm => ⟨hm, fun d hd => absurd hd List.not_mem_nil⟩
    | cons d l ih =>
      intro m hm
      obtain ⟨hor, hl⟩ := ih _ hm
      obtain ⟨hm, hd⟩ := Nat.or_eq_zero_iff.1 hor
      exact ⟨hm, List.forall_mem_cons.2 ⟨hd, hl⟩⟩
  exact (fold _ 0 h).2

theorem enterHoldover_get {n : Nat} {f : Fld} (h : RulFld n f) (hs : f.key ≠ (RUL_STATUS_STATE n).key) (hw : f.key ≠ (RUL_STATUS_WRITE_OK n).key)
    (he : f.key ≠ (RUL_EVENT_HOLDOVER n).key) (s : State) : (enterHoldover s n).get f = s.get f := by
  rw [enterHoldover, setRulState_get_rul h hs hw, State.get_ev_ne _ he, abortBurns_get _ _ h.notBurns.1 h.notBurns.2]

/-- HOLDOVER is entered: the event is set, nothing is writable, and nothing burns (R45). -/
theorem enterHoldover_effect {n : Nat} (hn : n < 16) (s : State) : (enterHoldover s n).get (RUL_STATUS_STATE n) = 6
    ∧ (enterHoldover s n).get (RUL_EVENT_HOLDOVER n) = 1 ∧ (enterHoldover s n).get (RUL_STATUS_WRITE_OK n) = 0
    ∧ ((∀ d ∈ (s.writeCh n).group, d.burning ≠ 0 → d.verdict = none ∧ d.done = false) → burningNibs (enterHoldover s n) n = 0) := by
  have hevent : RulFld n (RUL_EVENT_HOLDOVER n) := rulFld_event hn rfl (Nat.le_of_ble_eq_true rfl)
  have hkey : ∀ g : Fld, g.addr = rulBase n + 0x10 → g.lo < 64 → (RUL_EVENT_HOLDOVER n).key ≠ g.key := fun g hg =>
    Fld.key_ne_of_addr (by rw [hg, RUL_EVENT_HOLDOVER]; simp) (Nat.le_of_ble_eq_true rfl)
  refine ⟨setRulState_state _ n 6, ?_, setRulState_writeOk _ n 6 (by decide), fun h => setRulState_burning (by decide) fun d hd hb => ?_⟩
  · rw [enterHoldover, setRulState_get_rul hevent (hkey _ rfl (Nat.le_of_ble_eq_true rfl)) (hkey _ rfl (Nat.le_of_ble_eq_true rfl))]
    exact State.get_ev _ _ (Nat.le_of_ble_eq_true rfl)
  · exact absurd (burning_eq_zero (abortBurns_burning h) d hd) hb

theorem enterHoldover_nib (s : State) (n m k : Nat) : (enterHoldover s n).nib m k = s.nib m k :=
  (setRulState_nib _ n _ m k).trans (abortBurns_nib s n m k)

/-! ### A nib leaves the loop -/

/-- A ruling nib's OK bit stands in the loop's status between its state and WRITE_OK. -/
theorem okBit_place (n : Nat) (nib : RulNib) : (okBit n nib).addr = rulBase n + 0x10 ∧ 0 < (okBit n nib).lo ∧ (okBit n nib).lo < 23 := by
  cases nib <;> exact ⟨rfl, Nat.le_of_ble_eq_true rfl, Nat.le_of_ble_eq_true rfl⟩

theorem lostEvent_place (n : Nat) (nib : RulNib) : (lostEvent n nib).addr = rulBase n + 0x40 ∧ (lostEvent n nib).lo < 4 := by
  cases nib <;> exact ⟨rfl, Nat.le_of_ble_eq_true rfl⟩

theorem useBit_place (n : Nat) (nib : RulNib) : (useBit n nib).addr = rulBase n ∧ (useBit n nib).lo < 64 := by
  cases nib <;> exact ⟨rfl, Nat.le_of_ble_eq_true rfl⟩

theorem okBit_key_ne_state (n : Nat) (nib : RulNib) : (okBit n nib).key ≠ (RUL_STATUS_STATE n).key :=
  Fld.key_ne_of_lo (okBit_place n nib).1 (Nat.ne_of_gt (okBit_place n nib).2.1)

theorem okBit_key_ne_other (n : Nat) (nib : RulNib) : (okBit n (otherNib nib)).key ≠ (okBit n nib).key := by
  cases nib
  · exact Fld.key_ne_of_lo (f := RUL_STATUS_RNO_OK n) (g := RUL_STATUS_RNI_OK n) rfl (Nat.ne_of_gt (Nat.le_of_ble_eq_true rfl))
  · exact Fld.key_ne_of_lo (f := RUL_STATUS_RNI_OK n) (g := RUL_STATUS_RNO_OK n) rfl (Nat.ne_of_lt (Nat.le_of_ble_eq_true rfl))

/-- A ruling nib no longer counts as good, and its event tells (R37). -/
def nibGone (n : Nat) (nib : RulNib) (s : State) : State :=
  ((s.set (okBit n nib) 0).ev (lostEvent n nib)).modRul n fun r => { r with back := if r.back = some nib then none else r.back }

/-- The loop goes on without a nib: with the other one in SINGLE, or in HOLDOVER (R35). -/
theorem nibLeaves_good {n : Nat} {nib : RulNib} {s : State} (h : s.get (okBit n nib) = 1) : nibLeaves n nib s =
    if (nibGone n nib s).get (RUL_STATUS_STATE n) = rulLocked ∨ (nibGone n nib s).get (RUL_STATUS_STATE n) = rulSingle then
      (if (nibGone n nib s).on (okBit n (otherNib nib)) then setRulState (nibGone n nib s) n rulSingle else enterHoldover (nibGone n nib s) n)
    else nibGone n nib s := if_pos (beq_iff_eq.2 h)

theorem nibGone_fields (n : Nat) (nib : RulNib) (s : State) : (nibGone n nib s).get (okBit n nib) = 0 ∧ (nibGone n nib s).get (lostEvent n nib) = 1
    ∧ (nibGone n nib s).get (RUL_STATUS_STATE n) = s.get (RUL_STATUS_STATE n)
    ∧ (nibGone n nib s).get (okBit n (otherNib nib)) = s.get (okBit n (otherNib nib)) := by
  obtain ⟨hea, hel⟩ := lostEvent_place n nib
  have hkey : ∀ g : Fld, g.addr = rulBase n + 0x10 → g.lo < 64 → g.key ≠ (lostEvent n nib).key := fun g hg hl =>
    Fld.key_ne_of_addr (by rw [hea, hg]; simp) hl (by omega)
  have hok : ∀ nib, (okBit n nib).addr = rulBase n + 0x10 ∧ (okBit n nib).lo < 64 := fun nib =>
    ⟨(okBit_place n nib).1, lt_trans (okBit_place n nib).2.2 (by decide)⟩
  have hget : ∀ g : Fld, g.addr = rulBase n + 0x10 → g.lo < 64 → (nibGone n nib s).get g = (s.set (okBit n nib) 0).get g := fun g hg hl =>
    State.get_ev_ne _ (hkey g hg hl)
  refine ⟨?_, State.get_ev _ _ (by cases nib <;> exact Nat.le_of_ble_eq_true rfl), ?_, ?_⟩
  · rw [hget _ (hok nib).1 (hok nib).2, State.get_set, Nat.zero_mod]
  · rw [hget _ rfl (Nat.le_of_ble_eq_true rfl), State.get_set_ne _ _ (okBit_key_ne_state n nib).symm]
  · rw [hget _ (hok _).1 (hok _).2, State.get_set_ne _ _ (okBit_key_ne_other n nib)]

/-- What a nib shows as it leaves stays as the loop enters the state that follows. -/
theorem nibLeaves_get {n : Nat} {nib : RulNib} {f : Fld} (h : RulFld n f) (hs : f.key ≠ (RUL_STATUS_STATE n).key) (hw : f.key ≠ (RUL_STATUS_WRITE_OK n).key)
    (he : f.key ≠ (RUL_EVENT_HOLDOVER n).key) {s : State} (hg : s.get (okBit n nib) = 1) : (nibLeaves n nib s).get f = (nibGone n nib s).get f := by
  rw [nibLeaves_good hg]
  split
  · split
    · exact setRulState_get_rul h hs hw _ _
    · exact enterHoldover_get h hs hw he _
  · rfl

theorem nibLeaves_nib (n : Nat) (nib : RulNib) (s : State) (m k : Nat) : (nibLeaves n nib s).nib m k = s.nib m k := by
  by_cases hg : s.get (okBit n nib) = 1
  · rw [nibLeaves_good hg]
    split
    · split
      · exact setRulState_nib _ n _ m k
      · exact enterHoldover_nib _ n m k
    · rfl
  · rw [nibLeaves, if_neg (by simpa [State.on] using hg)]

/-- A good nib that leaves: it is lost, and the loop goes on in SINGLE, or in HOLDOVER (R35, R37, R45). -/
theorem nibLeaves_effect {n : Nat} (hn : n < 16) {nib : RulNib} {s : State} (hg : s.get (okBit n nib) = 1) :
    (nibLeaves n nib s).get (okBit n nib) = 0 ∧ (nibLeaves n nib s).get (lostEvent n nib) = 1
    ∧ (s.get (RUL_STATUS_STATE n) = 4 → s.get (okBit n (otherNib nib)) = 1 → (nibLeaves n nib s).get (RUL_STATUS_STATE n) = 5)
    ∧ (s.get (RUL_STATUS_STATE n) ∈ [4, 5] → s.get (okBit n (otherNib nib)) ≠ 1 →
        (nibLeaves n nib s).get (RUL_STATUS_STATE n) = 6 ∧ (nibLeaves n nib s).get (RUL_EVENT_HOLDOVER n) = 1
          ∧ (nibLeaves n nib s).get (RUL_STATUS_WRITE_OK n) = 0
          ∧ ((∀ d ∈ (s.writeCh n).group, d.burning ≠ 0 → d.verdict = none ∧ d.done = false) → burningNibs (nibLeaves n nib s) n = 0)) := by
  obtain ⟨hoka, hok0, hok1⟩ := okBit_place n nib
  obtain ⟨hea, hel⟩ := lostEvent_place n nib
  obtain ⟨hok, hev, hst, hother⟩ := nibGone_fields n nib s
  have hstatus : ∀ g : Fld, g.addr = rulBase n + 0x10 → g.lo < 64 → (lostEvent n nib).key ≠ g.key := fun g hg =>
    Fld.key_ne_of_addr (by rw [hea, hg]; simp) (by omega)
  refine ⟨?_, ?_, fun h4 ho => ?_, fun h45 ho => ?_⟩
  · rw [nibLeaves_get (rulFld_ctrl hn hoka (by decide) (by omega)) (okBit_key_ne_state n nib)
      (Fld.key_ne_of_lo (g := RUL_STATUS_WRITE_OK n) hoka (Nat.ne_of_lt hok1))
      (Fld.key_ne_of_addr (by rw [hoka, RUL_EVENT_HOLDOVER]; simp) (by omega) (Nat.le_of_ble_eq_true rfl)) hg, hok]
  · rw [nibLeaves_get (rulFld_event hn hea (by omega)) (hstatus _ rfl (Nat.le_of_ble_eq_true rfl)) (hstatus _ rfl (Nat.le_of_ble_eq_true rfl))
      (Fld.key_ne_of_lo (g := RUL_EVENT_HOLDOVER n) hea (Nat.ne_of_lt hel)) hg, hev]
  · rw [nibLeaves_good hg, if_pos (.inl (hst.trans h4)), if_pos (show State.on _ _ = true from beq_iff_eq.2 (hother.trans ho)), setRulState_state]
    rfl
  · have hin : (nibGone n nib s).get (RUL_STATUS_STATE n) = rulLocked ∨ (nibGone n nib s).get (RUL_STATUS_STATE n) = rulSingle := by
      rw [hst]
      simpa using h45
    rw [nibLeaves_good hg, if_pos hin, if_neg (by rw [State.on, hother, beq_iff_eq]; exact ho)]
    exact enterHoldover_effect hn (nibGone n nib s)

/-! ### RULING_NIB_LOST -/

/-- What is known of a nib before it leaves: a blot is in progress on it, and the engine is told of it (R66, R68, R177). -/
def lossTold (n : Nat) (nib : RulNib) (why : RulLoss) (s : State) : State :=
  match why with
  | .blot => tellEngineBlot (s.modNib n (rulIndex nib) fun b => { b with rulBlot := some 0 }) n
  | _ => s

theorem lossTold_get (n : Nat) (nib : RulNib) (why : RulLoss) (s : State) (f : Fld) : (lossTold n nib why s).get f = s.get f := by
  cases why <;> rfl

theorem lossTold_wc (n : Nat) (nib : RulNib) (why : RulLoss) (s : State) (m : Nat) : (lossTold n nib why s).writeCh m = s.writeCh m := by
  cases why <;> rfl

theorem rulingNibLost_holds {n : Nat} {nib : RulNib} {why : RulLoss} {s : State} (h : lossHolds s n nib why = true) :
    rulingNibLost n nib why s = nibLeaves n nib (lossTold n nib why s) := by
  unfold rulingNibLost
  rw [if_pos h]
  cases why <;> rfl

theorem rulingNibLost_fails {n : Nat} {nib : RulNib} {why : RulLoss} {s : State} (h : lossHolds s n nib why = false) :
    rulingNibLost n nib why s = s := by
  unfold rulingNibLost
  rw [h]
  rfl

/-- The criteria as the manual lists them after R37. -/
theorem lossHolds_of {n : Nat} {nib : RulNib} {why : RulLoss} {s : State} (h : (∃ r k, why = .phase r k ∧ 1024 < r ∧ 64 ≤ k)
    ∨ (∃ p, why = .amplitude p ∧ p < 25) ∨ why = .useBit ∧ s.get (useBit n nib) ≠ 1 ∨ why = .blot ∧ collapsed s n (rulIndex nib) = true) :
    lossHolds s n nib why = true := by
  rcases h with ⟨r, k, rfl, hr, hk⟩ | ⟨p, rfl, hp⟩ | ⟨rfl, hu⟩ | ⟨rfl, hc⟩
  · simp [lossHolds, hr, hk]
  · simp [lossHolds, hp]
  · simp [lossHolds, State.on, hu]
  · exact hc

/-! ### RULING_NIB_GOOD -/

/-- A nib that is good, in SINGLE: it waits for a whole bin, and then the loop is LOCKED again (R35). -/
def singleGood (n : Nat) (nib : RulNib) (was whole : Bool) (s : State) : State :=
  let s := s.iff (!was) fun s => s.modRul n fun r => { r with back := some nib }
  if whole ∧ (s.ruling n).back = some nib ∧ lockState s n = rulLocked then
    setRulState (s.modRul n fun r => { r with back := none }) n rulLocked
  else s

/-- A nib that is good, in HOLDOVER: the loop locks where an address word agrees with the count (R35). -/
def holdoverGood (n : Nat) (w : Option AddrWord) (s : State) : State :=
  match w with
  | some w => if wordGood w ∧ disagreement s n w = 0 then setRulState s n (lockState s n) else s
  | none => s

theorem rulingNibGood_good {n : Nat} {nib : RulNib} {phase periods : Nat} {s : State} (hu : s.get (useBit n nib) = 1) (hp : phase < 256)
    (hk : 256 ≤ periods) (hb : (s.nib n (rulIndex nib)).rulBlot = none) (whole : Bool) (w : Option AddrWord) :
    rulingNibGood n nib phase periods whole w s =
      if s.get (RUL_STATUS_STATE n) = rulSingle then singleGood n nib (s.on (okBit n nib)) whole (s.set (okBit n nib) 1)
      else if s.get (RUL_STATUS_STATE n) = rulHoldover then holdoverGood n w (s.set (okBit n nib) 1)
      else s.set (okBit n nib) 1 :=
  if_pos ⟨beq_iff_eq.2 hu, hp, hk, by rw [hb]; rfl⟩

theorem rulingNibGood_short {n : Nat} {nib : RulNib} {phase periods : Nat} {s : State} (h : s.get (useBit n nib) ≠ 1 ∨ 256 ≤ phase ∨ periods < 256
    ∨ (s.nib n (rulIndex nib)).rulBlot ≠ none) (whole : Bool) (w : Option AddrWord) : rulingNibGood n nib phase periods whole w s = s := by
  refine if_neg fun ⟨hu, hp, hk, hb⟩ => ?_
  rcases h with h | h | h | h
  · exact h (beq_iff_eq.1 hu)
  · omega
  · omega
  · exact h (Option.isNone_iff_eq_none.1 hb)

/-- A nib's OK bit is 1 once it has come back, whatever state the loop enters. -/
theorem setRulState_okBit {n : Nat} (hn : n < 16) (nib : RulNib) (s : State) (st : Nat) :
    (setRulState s n st).get (okBit n nib) = s.get (okBit n nib) :=
  setRulState_get_status hn (okBit_place n nib).1 (okBit_place n nib).2.1 (okBit_place n nib).2.2 s st

theorem okBit_set (n : Nat) (nib : RulNib) (s : State) : (s.set (okBit n nib) 1).get (okBit n nib) = 1 := by
  cases nib <;> exact State.get_set _ _ _

theorem singleGood_ok {n : Nat} (hn : n < 16) (nib : RulNib) (was whole : Bool) (s : State) :
    (singleGood n nib was whole s).get (okBit n nib) = s.get (okBit n nib) := by
  have hback : ∀ s : State, (s.iff (!was) fun s => s.modRul n fun r => { r with back := some nib }).get (okBit n nib) = s.get (okBit n nib) := fun s =>
    State.get_iff_of _ _ _ (State.modRul_get _ _ _ _)
  unfold singleGood
  dsimp only
  split
  · rw [setRulState_okBit hn, State.modRul_get, hback]
  · exact hback s

theorem holdoverGood_ok {n : Nat} (hn : n < 16) (nib : RulNib) (w : Option AddrWord) (s : State) :
    (holdoverGood n w s).get (okBit n nib) = s.get (okBit n nib) := by
  unfold holdoverGood
  split
  · split
    · exact setRulState_okBit hn nib _ _
    · rfl
  · rfl

theorem rulingNibGood_ok {n : Nat} (hn : n < 16) {nib : RulNib} {phase periods : Nat} {s : State} (hu : s.get (useBit n nib) = 1) (hp : phase < 256)
    (hk : 256 ≤ periods) (hb : (s.nib n (rulIndex nib)).rulBlot = none) (whole : Bool) (w : Option AddrWord) :
    (rulingNibGood n nib phase periods whole w s).get (okBit n nib) = 1 := by
  rw [rulingNibGood_good hu hp hk hb]
  split
  · rw [singleGood_ok hn, okBit_set]
  · split
    · rw [holdoverGood_ok hn, okBit_set]
    · exact okBit_set n nib s

theorem okBit_set_sameFields (n : Nat) (nib : RulNib) (s : State) : SameFields [okBit n nib] s (s.set (okBit n nib) 1) :=
  .set (.refl _ s) _ _ (by simp)

/-- With a nib good again, the loop is LOCKED where the other is in the loop too (R35). -/
theorem lockState_back {n : Nat} {nib : RulNib} {s : State} (hu : s.get (useBit n nib) = 1) :
    lockState (s.set (okBit n nib) 1) n = if inLoop s n (otherNib nib) = true then 4 else 5 := by
  have huse : ∀ m, (useBit n m).key ≠ (okBit n nib).key := fun m => Fld.key_ne_of_addr
    (by rw [(useBit_place n m).1, (okBit_place n nib).1]; simp) (useBit_place n m).2 (lt_trans (okBit_place n nib).2.2 (by decide))
  have hin : inLoop (s.set (okBit n nib) 1) n nib = true := by
    rw [inLoop, State.on, State.on, State.get_set_ne _ _ (huse nib), hu, okBit_set]
    rfl
  have hother : inLoop (s.set (okBit n nib) 1) n (otherNib nib) = inLoop s n (otherNib nib) := by
    rw [inLoop, inLoop, State.on, State.on, State.on, State.on, State.get_set_ne _ _ (huse _), State.get_set_ne _ _ (okBit_key_ne_other n nib)]
  cases nib
  · rw [lockState, hin, show inLoop _ n .rno = _ from hother, Bool.true_and]
  · rw [lockState, hin, show inLoop _ n .rni = _ from hother, Bool.and_true]

/-- The loop enters a state with a nib that has come back: what changes, and what stopping the burns may reach. -/
theorem setRulState_back {n : Nat} {nib : RulNib} {s u : State} (hu : SameFields [okBit n nib] s u) (hb : u.writeCh n = s.writeCh n) (st : Nat) :
    SameOrStopped n ([okBit n nib, RUL_STATUS_STATE n, RUL_STATUS_WRITE_OK n] ++ frozenOf n) s (setRulState u n st) :=
  .after (hu.mono (by simp)) hb ((setRulState_sameOrStopped u n st).mono (List.subset_cons_self _ _))

/-- In SINGLE a nib that was lost and has been good for a whole bin makes the loop LOCKED (R35). -/
theorem singleGood_locks {n : Nat} {nib : RulNib} {s : State} (hu : s.get (useBit n nib) = 1) (hin : inLoop s n (otherNib nib) = true) :
    (singleGood n nib false true (s.set (okBit n nib) 1)).get (RUL_STATUS_STATE n) = 4
      ∧ SameOrStopped n ([okBit n nib, RUL_STATUS_STATE n, RUL_STATUS_WRITE_OK n] ++ frozenOf n) s
          (singleGood n nib false true (s.set (okBit n nib) 1)) := by
  have hlock : lockState ((s.set (okBit n nib) 1).modRul n fun r => { r with back := some nib }) n = rulLocked :=
    (lockState_back hu).trans (if_pos hin)
  have hback : (((s.set (okBit n nib) 1).modRul n fun r => { r with back := some nib }).ruling n).back = some nib := by
    rw [State.ruling_modRul]
  have heq : singleGood n nib false true (s.set (okBit n nib) 1) = setRulState (((s.set (okBit n nib) 1).modRul n fun r =>
      { r with back := some nib }).modRul n fun r => { r with back := none }) n rulLocked := if_pos ⟨rfl, hback, hlock⟩
  have hsame : SameFields [okBit n nib] s (((s.set (okBit n nib) 1).modRul n fun r => { r with back := some nib }).modRul n fun r =>
      { r with back := none }) := (okBit_set_sameFields n nib s).trans (.of_fld rfl)
  rw [heq]
  exact ⟨setRulState_state _ n _, setRulState_back hsame rfl _⟩

/-- A word agrees with the count as it did before a nib came back. -/
theorem disagreement_back (s : State) (n : Nat) (nib : RulNib) (x : AddrWord) : disagreement (s.set (okBit n nib) 1) n x = disagreement s n x := by
  have hm : (s.set (okBit n nib) 1).get (RUL_PERIODS_M_RNI n) = s.get (RUL_PERIODS_M_RNI n) :=
    State.get_set_ne _ _ (Fld.key_ne_of_addr (by rw [(okBit_place n nib).1, RUL_PERIODS_M_RNI]; simp) (Nat.le_of_ble_eq_true rfl)
      (lt_trans (okBit_place n nib).2.2 (by decide)))
  unfold disagreement periodsPerRev
  rw [hm]

/-! ### HOLD_LIMIT -/

theorem holdLimit_due {n us : Nat} {s : State} (h : us < holdLimitUs s n) : holdLimit n us s = s := if_pos h

theorem holdLimit_holdover {n us : Nat} {s : State} (h : holdLimitUs s n ≤ us) (hs : s.get (RUL_STATUS_STATE n) = 6) :
    holdLimit n us s = (fallToFreq s n).ev (RUL_EVENT_UNLOCK n) := by
  unfold holdLimit
  dsimp only
  rw [if_neg (Nat.not_lt.2 h), hs]
  rfl

/-- The limit reached in JUMP: the angle is no longer valid, and UNLOCK tells. -/
def angleExpired (s : State) (n : Nat) : State :=
  ((s.set (RUL_STATUS_ANGLE_VALID n) 0).modRul n fun r => { r with holdExpired := true }).ev (RUL_EVENT_UNLOCK n)

theorem holdLimit_jump {n us : Nat} {s : State} (h : holdLimitUs s n ≤ us) (hs : s.get (RUL_STATUS_STATE n) = 7)
    (hx : (s.ruling n).holdExpired = false) : holdLimit n us s = incompletePen (angleExpired s n) n := by
  unfold holdLimit
  dsimp only
  rw [if_neg (Nat.not_lt.2 h), hs, hx]
  rfl

theorem incompletePen_get_rul {n : Nat} {f : Fld} (h : RulFld n f) (s : State) : (incompletePen s n).get f = s.get f :=
  incompletePen_get s n h.notPool (h.readChannel rfl)

theorem angleExpired_fields {n : Nat} (s : State) : (angleExpired s n).get (RUL_STATUS_STATE n) = s.get (RUL_STATUS_STATE n)
    ∧ (angleExpired s n).get (RUL_EVENT_UNLOCK n) = 1 ∧ (angleExpired s n).get (RUL_STATUS_ANGLE_VALID n) = 0 := by
  have hkey : ∀ g : Fld, g.addr = rulBase n + 0x10 → g.lo < 64 → g.key ≠ (RUL_EVENT_UNLOCK n).key := fun g hg hl =>
    Fld.key_ne_of_addr (by rw [hg, RUL_EVENT_UNLOCK]; simp) hl (Nat.le_of_ble_eq_true rfl)
  refine ⟨?_, State.get_ev _ _ (Nat.le_of_ble_eq_true rfl), ?_⟩
  · rw [angleExpired, State.get_ev_ne _ (hkey _ rfl (Nat.le_of_ble_eq_true rfl)), State.modRul_get]
    exact State.get_set_ne _ _ (Fld.key_ne_of_lo rfl (Nat.ne_of_lt (Nat.le_of_ble_eq_true rfl)))
  · rw [angleExpired, State.get_ev_ne _ (hkey _ rfl (Nat.le_of_ble_eq_true rfl)), State.modRul_get, State.get_set, Nat.zero_mod]

/-- Settles O15: nibs lost by each criterion, nibs that come back by the loop's state, and the hold limit by the loop's state. -/
theorem rulingNibs : Obligations.RulingNibs := by
  unfold Obligations.RulingNibs
  refine ⟨fun n nib why s => ⟨_, rfl, fun h hg => ?_, fun hy hc => ?_, rulingNibLost_fails⟩,
    fun n nib phase periods whole w s => ⟨_, rfl, fun hu hp hk hb => ⟨rulingNibGood_ok n.isLt hu hp hk hb whole w,
      exec_sameMemory (c := .rulingNibGood n nib phase periods whole w) rfl rfl, fun h5 hg hw hin => ?_, fun x h6 hw hx hd => ?_, fun h => ?_⟩,
      fun h => rulingNibGood_short h whole w⟩,
    fun n us s => ⟨_, rfl, fun h h6 => ?_, fun h h7 hx => ?_, holdLimit_due⟩⟩
  · rw [rulingNibLost_holds (lossHolds_of h)]
    have heffect := nibLeaves_effect n.isLt (nib := nib) (s := lossTold n nib why s) (by rw [lossTold_get, hg])
    simp only [lossTold_get, lossTold_wc] at heffect
    exact heffect
  · rw [rulingNibLost_holds (lossHolds_of (.inr (.inr (.inr ⟨hy, hc⟩)))), nibLeaves_nib, hy]
    exact congrArg Nib.rulBlot (State.nib_modNib s n (rulIndex nib) fun b => { b with rulBlot := some 0 })
  · rw [rulingNibGood_good hu hp hk hb, if_pos h5, hw, State.on, beq_eq_false_iff_ne.2 hg]
    exact singleGood_locks hu hin
  · rw [rulingNibGood_good hu hp hk hb, if_neg (by rw [h6]; decide), if_pos h6, hw]
    have heq : holdoverGood n (some x) (s.set (okBit n nib) 1) = setRulState (s.set (okBit n nib) 1) n (lockState (s.set (okBit n nib) 1) n) :=
      if_pos ⟨hx, (disagreement_back s n nib x).trans hd⟩
    rw [heq]
    refine ⟨?_, setRulState_back (okBit_set_sameFields n nib s) rfl _⟩
    rw [setRulState_state, lockState_back hu]
    split <;> rfl
  · rw [rulingNibGood_good hu hp hk hb, if_neg (fun h5 => h (by rw [h5]; decide)), if_neg (fun h6 => h (by rw [h6]; decide))]
    exact okBit_set_sameFields n nib s
  · rw [holdLimit_holdover h h6]
    exact fallToFreq_event n.isLt rfl (Nat.le_of_ble_eq_true rfl) (Nat.le_of_ble_eq_true rfl) s
  · have hstatus : ∀ f : Fld, f.addr = rulBase n + 0x10 → f.lo < 64 → RulFld n f := fun f hf => rulFld_ctrl n.isLt hf (by decide)
    rw [holdLimit_jump h h7 hx, incompletePen_get_rul (hstatus _ rfl (Nat.le_of_ble_eq_true rfl)),
      incompletePen_get_rul (rulFld_event n.isLt rfl (Nat.le_of_ble_eq_true rfl)), incompletePen_get_rul (hstatus _ rfl (Nat.le_of_ble_eq_true rfl)), ← h7]
    exact angleExpired_fields s

end Sys2Proof.Machine

/-!
A codeword framed: what its nib shows, flywheels, and the way to the decoder pool (R48, R57, R63, R64, R80, R83, R85, R89, R110, R280).
-/

namespace Sys2Proof.Machine

/-! ### Nibs as codewords go to the pool -/

theorem OnlyFields.inkHidden {but : List Fld} {s t : State} (h : OnlyFields but s t) : InkHidden s t :=
  ⟨(congrArg (fun u : State => ({ u with fld := s.fld, mem := s.mem, poison := s.poison, freeCtr := s.freeCtr, ink := s.ink } : State)) h.2 :)⟩

/-- The read-channel state of every nib is as before. -/
structure KeepsNibs (s t : State) : Prop where
  nibs : t.nibs = s.nibs

namespace KeepsNibs

theorem refl (s : State) : KeepsNibs s s := ⟨rfl⟩

theorem trans {s t u : State} (h : KeepsNibs s t) (k : KeepsNibs t u) : KeepsNibs s u := ⟨k.nibs.trans h.nibs⟩

theorem frame : Frame KeepsNibs := ⟨refl, trans⟩

theorem of_inkHidden {s t : State} (h : InkHidden s t) : KeepsNibs s t := ⟨(congrArg State.nibs h.eq :)⟩

theorem ev {s t : State} (h : KeepsNibs s t) (f : Fld) : KeepsNibs s (t.ev f) := ⟨h.nibs⟩

theorem set {s t : State} (h : KeepsNibs s t) (f : Fld) (v : Nat) : KeepsNibs s (t.set f v) := ⟨h.nibs⟩

theorem bump {s t : State} (h : KeepsNibs s t) (f : Fld) (k : Nat) : KeepsNibs s (t.bump f k) := ⟨h.nibs⟩

theorem wrap {s t : State} (h : KeepsNibs s t) (f : Fld) (k : Nat) : KeepsNibs s (t.wrap f k) := ⟨h.nibs⟩

theorem modLdpc {s t : State} (h : KeepsNibs s t) (f : Ldpc → Ldpc) : KeepsNibs s (t.modLdpc f) := ⟨h.nibs⟩

theorem modWc {s t : State} (h : KeepsNibs s t) (n : Nat) (f : Wc → Wc) : KeepsNibs s (t.modWc n f) := ⟨h.nibs⟩

theorem nib {s t : State} (h : KeepsNibs s t) (n k : Nat) : t.nib n k = s.nib n k := by rw [State.nib, State.nib, h.nibs]

end KeepsNibs

theorem noteDesc_keepsNibs (s : State) (c : Cw) (b : Bool) : KeepsNibs s (noteDesc s c b) := (KeepsNibs.refl s).modWc _ _

theorem noteVerify_keepsNibs (s : State) (c : Cw) (b : Bool) (i : Nat) : KeepsNibs s (noteVerify s c b i) := (KeepsNibs.refl s).modWc _ _

theorem noteTaken_keepsNibs (s : State) (n k : Nat) (d : Desc) (i : Nat) : KeepsNibs s (noteTaken s n k d i) := by
  unfold noteTaken modDesc
  exact (KeepsNibs.refl s).modWc _ _

theorem newCw_keepsNibs (s : State) (c : Cw) : KeepsNibs s (newCw s c).2 := by
  unfold newCw State.putCw
  dsimp only
  exact ((KeepsNibs.refl s).modLdpc _).modLdpc _

theorem inBufOvf_keepsNibs (s : State) : KeepsNibs s (inBufOvf s) := ((KeepsNibs.refl s).ev _).bump _ _

theorem refreshLdpc_keepsNibs (s : State) : KeepsNibs s (refreshLdpc s) := by
  unfold refreshLdpc
  dsimp only
  iterate 9 refine KeepsNibs.set ?_ _ _
  exact .refl s

theorem resultEntry_keepsNibs (s : State) (c : Cw) (o : Nat) : KeepsNibs s (resultEntry s c o) := by
  unfold resultEntry
  dsimp only
  split
  · exact ((KeepsNibs.refl s).ev _).bump _ 1
  · exact ((KeepsNibs.of_inkHidden (inkWrite_inkHidden s 35 _ _ _)).wrap _ 1).ev _

theorem poisonCw_keepsNibs (s : State) (id : Nat) (c : Cw) (o : Nat) : KeepsNibs s (poisonCw s id c o) := by
  have hcount : ∀ s : State, KeepsNibs s (if o = 1 then s.bump LDPC_CNT_POISON_EXHAUSTED 1 else s.bump LDPC_CNT_POISON_CUT 1) := fun s => by
    split <;> exact (KeepsNibs.refl s).bump _ 1
  unfold poisonCw
  dsimp only
  refine .modLdpc (.trans (.trans (.trans ?_ (hcount _)) (noteDesc_keepsNibs _ c false)) (resultEntry_keepsNibs _ c o)) _
  exact (KeepsNibs.of_inkHidden (inkWriteZ_inkHidden s _ _ _ _ _)).ev _

theorem toRevisit_keepsNibs (s : State) (id p : Nat) : KeepsNibs s (toRevisit s id p) := by
  have e : ∀ c : Cw, KeepsNibs s (if leftBand s c then poisonCw s id c 2 else noteDesc (s.putCw id c) c false) := fun c => by
    split
    · exact poisonCw_keepsNibs s id c 2
    · exact ((KeepsNibs.refl s).modLdpc _).trans (noteDesc_keepsNibs _ c false)
  unfold toRevisit
  split
  · exact .refl s
  · split
    · exact poisonCw_keepsNibs s id _ 1
    · exact e _

theorem endUnread_keepsNibs (s : State) (n k : Nat) (c : NibCw) (b : Bool) : KeepsNibs s (endUnread s n k c b) := by
  unfold endUnread
  split
  · exact .refl s
  · next d _ =>
    have htaken := noteTaken_keepsNibs s n k d c.idx
    dsimp only
    split
    · exact htaken.trans (KeepsNibs.frame.iff (noteVerify_keepsNibs _ _ _ _) fun _ => resultEntry_keepsNibs _ _ _)
    · split
      · exact htaken.trans ((newCw_keepsNibs _ _).trans (toRevisit_keepsNibs _ _ _))
      · exact htaken.trans ((noteDesc_keepsNibs _ _ _).trans (resultEntry_keepsNibs _ _ _))

theorem handOff_keepsNibs (s : State) (c : Cw) (b : Bool) : KeepsNibs s (handOff s c b) := by
  unfold handOff
  split
  · exact (KeepsNibs.frame.iff (.refl s) fun _ => inBufOvf_keepsNibs _).trans (noteVerify_keepsNibs _ _ _ _)
  · split
    · exact ((newCw_keepsNibs _ _).trans (poisonCw_keepsNibs _ _ _ _)).trans (refreshLdpc_keepsNibs _)
    · split
      · exact (((inBufOvf_keepsNibs s).trans (newCw_keepsNibs _ _)).trans (toRevisit_keepsNibs _ _ _)).trans (refreshLdpc_keepsNibs _)
      · exact ((newCw_keepsNibs _ _).modLdpc _).trans (refreshLdpc_keepsNibs _)

theorem readInStep_keepsNibs (s : State) (n id : Nat) : KeepsNibs s (readInStep s n id) := by
  unfold readInStep State.setRevisit
  exact (KeepsNibs.refl s).modLdpc _

theorem handOffFresh_keepsNibs (s : State) (id : Nat) (a b : Cw) (p : Bool) : KeepsNibs s (handOffFresh s id a b p) := by
  unfold handOffFresh
  dsimp only
  refine (readInStep_keepsNibs s a.pen id).trans ?_
  split
  · exact .refl _
  · split
    · exact (poisonCw_keepsNibs _ _ _ _).trans (refreshLdpc_keepsNibs _)
    · split
      · exact (((inBufOvf_keepsNibs _).modLdpc _).trans (toRevisit_keepsNibs _ _ _)).trans (refreshLdpc_keepsNibs _)
      · exact ((((KeepsNibs.refl _).modLdpc _).modLdpc _).modLdpc _).trans (refreshLdpc_keepsNibs _)

theorem takeCapture_keepsNibs (s : State) (c : Cw) : KeepsNibs s (takeCapture s c) := by
  unfold takeCapture
  split
  · exact (KeepsNibs.refl s).modLdpc _
  · exact .refl s

/-- A field of a read channel is none of the decoder pool's and the Inkwell's. -/
theorem notPool_rc {n o : Nat} {f : Fld} (ha : f.addr = rcBase n + o) : notPool f := by
  simp only [notPool, notInk, Fld.block, Fld.key, ha, rcBase, penBase]
  omega

/-! ### What the nib shows of a codeword (R64, R85) -/

/-- A quotient whose rounding is free is one of two neighbours, and exact where it is whole. -/
theorem divFree_near (s : State) (e : Nat) {d : Nat} (hd : d ≠ 0) : ((s.divFree (e : Int) d).1.toNat = e / d ∨ (s.divFree (e : Int) d).1.toNat = e / d + 1)
    ∧ (d ∣ e → (s.divFree (e : Int) d).1.toNat = e / d) := by
  have hq : (e : Int) / (d : Int) = ((e / d : Nat) : Int) := (Int.natCast_ediv e d).symm
  unfold State.divFree
  rw [if_neg hd, hq]
  split
  · exact ⟨.inl (Int.toNat_natCast _), fun _ => Int.toNat_natCast _⟩
  · next hr =>
    refine ⟨?_, fun h => absurd (Int.emod_eq_zero_of_dvd (Int.natCast_dvd_natCast.2 h)) hr⟩
    dsimp only
    split
    · exact .inr (Int.toNat_natCast _)
    · exact .inl (Int.toNat_natCast _)

theorem setMse_judged {c : NibCw} (h : c.judged ≠ 0) (s : State) (n k : Nat) : setMse s n k c
    = (s.divFree c.err (2 ^ 114 * c.judged)).2.set (RC_NIB_MSE_MSE n k) (min (s.divFree c.err (2 ^ 114 * c.judged)).1.toNat (2 ^ 16 - 1)) := if_neg h

theorem setMse_get {c : NibCw} (h : c.judged ≠ 0) (s : State) (n k : Nat) :
    (setMse s n k c).get (RC_NIB_MSE_MSE n k) = min (s.divFree c.err (2 ^ 114 * c.judged)).1.toNat (2 ^ 16 - 1) := by
  rw [setMse_judged h, State.get_set]
  exact Nat.mod_eq_of_lt (lt_of_le_of_lt (Nat.min_le_right _ _) (Nat.sub_one_lt (Nat.two_pow_pos 16).ne'))

theorem setMse_sameFields (s : State) (n k : Nat) (c : NibCw) : SameFields [RC_NIB_MSE_MSE n k] s (setMse s n k c) := by
  by_cases h : c.judged = 0
  · rw [setMse, if_pos h]
    exact .refl _ s
  · rw [setMse_judged h]
    exact .set (.of_fld (congrArg State.fld (divFree_freeOnly s _ _).eq :)) _ _ (by simp)

theorem setMse_inkHidden (s : State) (n k : Nat) (c : NibCw) : InkHidden s (setMse s n k c) := by
  by_cases h : c.judged = 0
  · rw [setMse, if_pos h]
    exact .refl s
  · rw [setMse_judged h]
    refine .set ⟨?_⟩ _ _
    exact (congrArg (fun u : State => ({ u with fld := s.fld, mem := s.mem, poison := s.poison, freeCtr := s.freeCtr, ink := s.ink } : State))
      (divFree_freeOnly s _ _).eq :)

/-- The fields that describe the codeword just framed. -/
def syncOf (n k : Nat) : List Fld :=
  [RC_NIB_SYNC_SCORE n k, RC_NIB_SYNC_RSCORE n k, RC_NIB_SYNC_RESYNC_D n k, RC_NIB_SYNC_SHIFT n k, RC_NIB_SYNC_FLYWHEEL n k, RC_NIB_SYNC_SLIPTEST n k,
    RC_NIB_SYNC_ANCHOR_RESYNC n k, RC_NIB_SYNC_NO_PRESET n k]

theorem setNibSync_onlyFields (s : State) (n k : Nat) (c : NibCw) (f : Framing) : OnlyFields (syncOf n k) s (setNibSync s n k c f) := by
  unfold setNibSync
  iterate 8 refine OnlyFields.set ?_ _ _ (by simp [syncOf])
  exact .refl _ s

/-- How the codeword was framed, as PENn_RC_NIB_SYNC shows it. -/
theorem setNibSync_fields (s : State) (n k : Nat) (c : NibCw) (f : Framing) :
    (setNibSync s n k c f).get (RC_NIB_SYNC_FLYWHEEL n k) = (if f.flywheel then 1 else 0)
      ∧ (setNibSync s n k c f).get (RC_NIB_SYNC_ANCHOR_RESYNC n k) = (if f.anchor then 1 else 0)
      ∧ (setNibSync s n k c f).get (RC_NIB_SYNC_NO_PRESET n k) = (if c.noPreset then 1 else 0) := by
  have key : ∀ {f g : Fld}, f.addr = g.addr → g.lo < f.lo → f.key ≠ g.key := fun ha hl => Fld.key_ne_of_lo ha (Nat.ne_of_gt hl)
  have hfn : (RC_NIB_SYNC_FLYWHEEL n k).key ≠ (RC_NIB_SYNC_NO_PRESET n k).key := key rfl (Nat.le_of_ble_eq_true rfl)
  have hfa : (RC_NIB_SYNC_FLYWHEEL n k).key ≠ (RC_NIB_SYNC_ANCHOR_RESYNC n k).key := key rfl (Nat.le_of_ble_eq_true rfl)
  have hfs : (RC_NIB_SYNC_FLYWHEEL n k).key ≠ (RC_NIB_SYNC_SLIPTEST n k).key := key rfl (Nat.le_of_ble_eq_true rfl)
  have han : (RC_NIB_SYNC_ANCHOR_RESYNC n k).key ≠ (RC_NIB_SYNC_NO_PRESET n k).key := key rfl (Nat.le_of_ble_eq_true rfl)
  have bit : ∀ b : Bool, (if b then 1 else 0) % 2 ^ 1 = if b then 1 else 0 := fun b => by cases b <;> rfl
  unfold setNibSync
  refine ⟨?_, ?_, ?_⟩
  · rw [State.get_set_ne _ _ hfn, State.get_set_ne _ _ hfa, State.get_set_ne _ _ hfs, State.get_set]
    exact bit _
  · rw [State.get_set_ne _ _ han, State.get_set]
    exact bit _
  · rw [State.get_set]
    exact bit _

/-! ### Counters and flywheels (R48, R83) -/

/-- Slip tests and missed resyncs are counted. -/
def slipsNoted (s : State) (n k : Nat) (f : Framing) : State :=
  let s := s.iff f.slipTest fun s => s.bump (RC_NIB_CNT_FLY_SLIPTESTS n k) 1
  s.iff f.resyncMiss fun s => s.bump (RC_NIB_CNT_BLOT_RESYNC_MISS n k) 1

/-- A flywheel is counted; the second in a row raises SLIP_SUSPECT and the run counts anew. -/
def flywheelNoted (s : State) (n k : Nat) (f : Framing) : State :=
  if f.flywheel then
    let s := (s.bump (RC_NIB_CNT_FLY_FLYWHEELS n k) 1).ev (RC_EVENT_FLYWHEEL n)
    if s.get (RC_NIB_STATUS_FLY_RUN n k) = 0 then s.set (RC_NIB_STATUS_FLY_RUN n k) 1
    else ((s.set (RC_NIB_STATUS_FLY_RUN n k) 0).ev (RC_EVENT_SLIP_SUSPECT n)).ev (RUL_EVENT_SLIP_SUSPECT n)
  else s.set (RC_NIB_STATUS_FLY_RUN n k) 0

theorem countFraming_eq (s : State) (n k : Nat) (f : Framing) :
    countFraming s n k f = flywheelNoted (slipsNoted (s.bump (RC_NIB_CNT_CW_CODEWORDS n k) 1) n k f) n k f := rfl

theorem slipsNoted_onlyFields (s : State) (n k : Nat) (f : Framing) :
    OnlyFields [RC_NIB_CNT_FLY_SLIPTESTS n k, RC_NIB_CNT_BLOT_RESYNC_MISS n k] s (slipsNoted s n k f) :=
  (OnlyFields.frame _).iff ((OnlyFields.frame _).iff (.refl _ s) fun _ => .set (.refl _ _) (RC_NIB_CNT_FLY_SLIPTESTS n k) _ (by simp)) fun _ =>
    .set (.refl _ _) (RC_NIB_CNT_BLOT_RESYNC_MISS n k) _ (by simp)

/-- The fields that show flywheels. -/
def flywheelOf (n k : Nat) : List Fld :=
  [RC_NIB_CNT_FLY_FLYWHEELS n k, RC_EVENT_FLYWHEEL n, RC_NIB_STATUS_FLY_RUN n k, RC_EVENT_SLIP_SUSPECT n, RUL_EVENT_SLIP_SUSPECT n]

theorem flywheelNoted_onlyFields (s : State) (n k : Nat) (f : Framing) : OnlyFields (flywheelOf n k) s (flywheelNoted s n k f) := by
  have hcount : OnlyFields (flywheelOf n k) s ((s.bump (RC_NIB_CNT_FLY_FLYWHEELS n k) 1).ev (RC_EVENT_FLYWHEEL n)) :=
    .set (.set (.refl _ s) (RC_NIB_CNT_FLY_FLYWHEELS n k) _ (by simp [flywheelOf])) (RC_EVENT_FLYWHEEL n) 1 (by simp [flywheelOf])
  unfold flywheelNoted
  dsimp only
  split
  · split
    · exact .set hcount (RC_NIB_STATUS_FLY_RUN n k) 1 (by simp [flywheelOf])
    · exact .set (.set (.set hcount (RC_NIB_STATUS_FLY_RUN n k) 0 (by simp [flywheelOf])) (RC_EVENT_SLIP_SUSPECT n) 1 (by simp [flywheelOf]))
        (RUL_EVENT_SLIP_SUSPECT n) 1 (by simp [flywheelOf])
  · exact .set (.refl _ s) (RC_NIB_STATUS_FLY_RUN n k) 0 (by simp [flywheelOf])

/-- The run of flywheels of a nib, and the events that it sets (R48, R83). -/
theorem flywheelNoted_fields (s : State) (n k : Nat) (f : Framing) :
    (f.flywheel = false → (flywheelNoted s n k f).get (RC_NIB_STATUS_FLY_RUN n k) = 0)
    ∧ (f.flywheel = true → s.get (RC_NIB_STATUS_FLY_RUN n k) = 0 →
        (flywheelNoted s n k f).get (RC_NIB_STATUS_FLY_RUN n k) = 1 ∧ (flywheelNoted s n k f).get (RC_EVENT_FLYWHEEL n) = 1)
    ∧ (f.flywheel = true → s.get (RC_NIB_STATUS_FLY_RUN n k) ≠ 0 →
        (flywheelNoted s n k f).get (RC_NIB_STATUS_FLY_RUN n k) = 0 ∧ (flywheelNoted s n k f).get (RC_EVENT_SLIP_SUSPECT n) = 1
          ∧ (flywheelNoted s n k f).get (RUL_EVENT_SLIP_SUSPECT n) = 1) := by
  have key : (RC_NIB_STATUS_FLY_RUN n k).key ≠ (RC_EVENT_FLYWHEEL n).key ∧ (RC_NIB_STATUS_FLY_RUN n k).key ≠ (RC_NIB_CNT_FLY_FLYWHEELS n k).key
      ∧ (RC_NIB_STATUS_FLY_RUN n k).key ≠ (RC_EVENT_SLIP_SUSPECT n).key ∧ (RC_NIB_STATUS_FLY_RUN n k).key ≠ (RUL_EVENT_SLIP_SUSPECT n).key
      ∧ (RC_EVENT_SLIP_SUSPECT n).key ≠ (RUL_EVENT_SLIP_SUSPECT n).key := by
    simp only [Fld.key, RC_NIB_STATUS_FLY_RUN, RC_EVENT_FLYWHEEL, RC_NIB_CNT_FLY_FLYWHEELS, RC_EVENT_SLIP_SUSPECT, RUL_EVENT_SLIP_SUSPECT, rcBase, rulBase]
    omega
  obtain ⟨hfe, hfc, hfs, hfr, hsr⟩ := key
  have hrun : ((s.bump (RC_NIB_CNT_FLY_FLYWHEELS n k) 1).ev (RC_EVENT_FLYWHEEL n)).get (RC_NIB_STATUS_FLY_RUN n k) = s.get (RC_NIB_STATUS_FLY_RUN n k) := by
    rw [State.get_ev_ne _ hfe, State.get_bump_ne _ _ hfc]
  unfold flywheelNoted
  dsimp only
  rw [hrun]
  refine ⟨fun h => ?_, fun h h0 => ?_, fun h h0 => ?_⟩
  · rw [h, if_neg (by simp), State.get_set, Nat.zero_mod]
  · rw [if_pos h, if_pos h0, State.get_set, State.get_set_ne _ _ hfe.symm]
    exact ⟨rfl, State.get_ev _ _ (Nat.le_of_ble_eq_true rfl)⟩
  · rw [if_pos h, if_neg h0, State.get_ev_ne _ hfr, State.get_ev_ne _ hfs, State.get_set, State.get_ev_ne _ hsr]
    exact ⟨Nat.zero_mod _, State.get_ev _ _ (Nat.le_of_ble_eq_true rfl), State.get_ev _ _ (Nat.le_of_ble_eq_true rfl)⟩

/-- A codeword without its sync is a flywheel, anchored on the resync if that was found (R80). -/
theorem framingOf_flywheel (on : Bool) (sync resync : Option (Int × Nat)) :
    (framingOf on sync resync).flywheel = sync.isNone ∧ (framingOf on sync resync).anchor = (sync.isNone && resync.isSome) := by
  cases sync with
  | none => cases resync <;> exact ⟨rfl, rfl⟩
  | some p =>
    cases resync with
    | none => exact ⟨rfl, rfl⟩
    | some r =>
      simp only [framingOf]
      split
      · exact ⟨rfl, rfl⟩
      · split <;> exact ⟨rfl, rfl⟩

/-! ### A codeword noted at its nib -/

/-- What a nib shows and counts of a codeword that has been framed. -/
def framingShown (n k : Nat) (c : NibCw) (f : Framing) (s : State) : State := countFraming (setNibSync (setMse s n k c) n k c f) n k f

/-- The fields that a codeword framed shows in at its nib. -/
def framedOf (n k : Nat) : List Fld :=
  [RC_NIB_MSE_MSE n k, RC_NIB_CNT_CW_CODEWORDS n k, RC_NIB_CNT_FLY_SLIPTESTS n k, RC_NIB_CNT_BLOT_RESYNC_MISS n k] ++ syncOf n k ++ flywheelOf n k

theorem framedOf_place (n k : Nat) : ∀ g ∈ framedOf n k, (g.addr = rulBase n + 0x40 ∨ rcBase n + 0x50 ≤ g.addr) ∧ g.lo < 64 := by
  simp only [framedOf, syncOf, flywheelOf, List.cons_append, List.nil_append, List.forall_mem_cons, List.not_mem_nil, false_imp_iff, implies_true,
    and_true, true_or, true_and, RC_NIB_MSE_MSE, RC_NIB_CNT_CW_CODEWORDS, RC_NIB_CNT_FLY_SLIPTESTS, RC_NIB_CNT_BLOT_RESYNC_MISS, RC_NIB_SYNC_SCORE,
    RC_NIB_SYNC_RSCORE,
    RC_NIB_SYNC_RESYNC_D, RC_NIB_SYNC_SHIFT, RC_NIB_SYNC_FLYWHEEL, RC_NIB_SYNC_SLIPTEST, RC_NIB_SYNC_ANCHOR_RESYNC, RC_NIB_SYNC_NO_PRESET,
    RC_NIB_CNT_FLY_FLYWHEELS, RC_EVENT_FLYWHEEL, RC_NIB_STATUS_FLY_RUN, RC_EVENT_SLIP_SUSPECT, RUL_EVENT_SLIP_SUSPECT]
  omega

theorem countFraming_onlyFields (s : State) (n k : Nat) (f : Framing) : OnlyFields (framedOf n k) s (countFraming s n k f) :=
  .trans (.trans (.set (.refl _ s) (RC_NIB_CNT_CW_CODEWORDS n k) _ (by simp [framedOf])) ((slipsNoted_onlyFields _ n k f).mono (by simp [framedOf])))
    ((flywheelNoted_onlyFields _ n k f).mono (List.subset_append_right _ _))

theorem framingShown_sameFields (n k : Nat) (c : NibCw) (f : Framing) (s : State) : SameFields (framedOf n k) s (framingShown n k c f s) :=
  .trans (.trans ((setMse_sameFields s n k c).mono (by simp [framedOf])) ((setNibSync_onlyFields _ n k c f).1.mono
    (List.Subset.trans (List.subset_append_right _ _) (List.subset_append_left _ _))))
    (countFraming_onlyFields _ n k f).1

theorem framingShown_inkHidden (n k : Nat) (c : NibCw) (f : Framing) (s : State) : InkHidden s (framingShown n k c f s) :=
  .trans (.trans (setMse_inkHidden s n k c) (setNibSync_onlyFields _ n k c f).inkHidden) (countFraming_onlyFields _ n k f).inkHidden

/-- A field of another word than the flywheels' and the counters'. -/
theorem countFraming_get {n k : Nat} {f : Fld} {o : Nat} (ha : f.addr = rcBase n + (0x400 + 0x40 * k + o)) (ho : o = 0xC ∨ o = 0x10) (hl : f.lo < 64)
    (s : State) (g : Framing) : (countFraming s n k g).get f = s.get f := by
  have key : ∀ x : Fld, x.addr ≠ f.addr → x.lo < 64 → f.key ≠ x.key := fun x hx => Fld.key_ne_of_addr (Ne.symm hx) hl
  rw [countFraming_eq, (flywheelNoted_onlyFields _ n k g).1.get, (slipsNoted_onlyFields _ n k g).1.get, State.get_bump_ne]
  · exact key _ (by rw [ha, RC_NIB_CNT_CW_CODEWORDS]; simp only; omega) (Nat.le_of_ble_eq_true rfl)
  · simp only [List.forall_mem_cons, List.not_mem_nil, false_imp_iff, implies_true, and_true, Fld.key, ha, RC_NIB_CNT_FLY_SLIPTESTS,
      RC_NIB_CNT_BLOT_RESYNC_MISS]
    omega
  · simp only [flywheelOf, List.forall_mem_cons, List.not_mem_nil, false_imp_iff, implies_true, and_true, Fld.key, ha, RC_NIB_CNT_FLY_FLYWHEELS,
      RC_EVENT_FLYWHEEL, RC_NIB_STATUS_FLY_RUN, RC_EVENT_SLIP_SUSPECT, RUL_EVENT_SLIP_SUSPECT, rcBase, rulBase]
    omega

theorem framingShown_mse {c : NibCw} (h : c.judged ≠ 0) (n k : Nat) (f : Framing) (s : State) :
    (framingShown n k c f s).get (RC_NIB_MSE_MSE n k) = min (s.divFree c.err (2 ^ 114 * c.judged)).1.toNat (2 ^ 16 - 1) := by
  rw [framingShown, countFraming_get (o := 0x10) rfl (.inr rfl) (Nat.le_of_ble_eq_true rfl), (setNibSync_onlyFields _ n k c f).1.get, setMse_get h]
  simp only [syncOf, List.forall_mem_cons, List.not_mem_nil, false_imp_iff, implies_true, and_true, Fld.key, RC_NIB_MSE_MSE, RC_NIB_SYNC_SCORE,
    RC_NIB_SYNC_RSCORE, RC_NIB_SYNC_RESYNC_D, RC_NIB_SYNC_SHIFT, RC_NIB_SYNC_FLYWHEEL, RC_NIB_SYNC_SLIPTEST, RC_NIB_SYNC_ANCHOR_RESYNC,
    RC_NIB_SYNC_NO_PRESET]
  omega

theorem framingShown_sync (n k : Nat) (c : NibCw) (f : Framing) (s : State) :
    (framingShown n k c f s).get (RC_NIB_SYNC_FLYWHEEL n k) = (if f.flywheel then 1 else 0)
      ∧ (framingShown n k c f s).get (RC_NIB_SYNC_ANCHOR_RESYNC n k) = (if f.anchor then 1 else 0)
      ∧ (framingShown n k c f s).get (RC_NIB_SYNC_NO_PRESET n k) = (if c.noPreset then 1 else 0) := by
  rw [framingShown, countFraming_get (o := 0xC) rfl (.inl rfl) (Nat.le_of_ble_eq_true rfl),
    countFraming_get (o := 0xC) rfl (.inl rfl) (Nat.le_of_ble_eq_true rfl), countFraming_get (o := 0xC) rfl (.inl rfl) (Nat.le_of_ble_eq_true rfl)]
  exact setNibSync_fields _ n k c f

/-- Before a codeword is counted its nib shows its mean and its sync alone. -/
theorem syncShown_get {n k o : Nat} {f : Fld} (ha : f.addr = rcBase n + (0x400 + 0x40 * k + o)) (ho : o ≠ 0xC ∧ o ≠ 0x10) (hl : f.lo < 64) (s : State)
    (c : NibCw) (g : Framing) : (setNibSync (setMse s n k c) n k c g).get f = s.get f := by
  rw [(setNibSync_onlyFields _ n k c g).1.get, (setMse_sameFields s n k c).get]
  · simp only [List.forall_mem_cons, List.not_mem_nil, false_imp_iff, implies_true, and_true, Fld.key, ha, RC_NIB_MSE_MSE]
    omega
  · simp only [syncOf, List.forall_mem_cons, List.not_mem_nil, false_imp_iff, implies_true, and_true, Fld.key, ha, RC_NIB_SYNC_SCORE,
      RC_NIB_SYNC_RSCORE, RC_NIB_SYNC_RESYNC_D, RC_NIB_SYNC_SHIFT, RC_NIB_SYNC_FLYWHEEL, RC_NIB_SYNC_SLIPTEST, RC_NIB_SYNC_ANCHOR_RESYNC,
      RC_NIB_SYNC_NO_PRESET]
    omega

theorem framingShown_codewords (n k : Nat) (c : NibCw) (f : Framing) (s : State) : (framingShown n k c f s).get (RC_NIB_CNT_CW_CODEWORDS n k)
    = min (s.get (RC_NIB_CNT_CW_CODEWORDS n k) + 1) (2 ^ 32 - 1) := by
  rw [framingShown, countFraming_eq, (flywheelNoted_onlyFields _ n k f).1.get, (slipsNoted_onlyFields _ n k f).1.get, State.get_bump,
    syncShown_get (o := 0x18) rfl (by decide) (Nat.le_of_ble_eq_true rfl)]
  · rfl
  · simp only [List.forall_mem_cons, List.not_mem_nil, false_imp_iff, implies_true, and_true, Fld.key, RC_NIB_CNT_CW_CODEWORDS,
      RC_NIB_CNT_FLY_SLIPTESTS, RC_NIB_CNT_BLOT_RESYNC_MISS]
    omega
  · simp only [flywheelOf, List.forall_mem_cons, List.not_mem_nil, false_imp_iff, implies_true, and_true, Fld.key, RC_NIB_CNT_CW_CODEWORDS,
      RC_NIB_CNT_FLY_FLYWHEELS, RC_EVENT_FLYWHEEL, RC_NIB_STATUS_FLY_RUN, RC_EVENT_SLIP_SUSPECT, RUL_EVENT_SLIP_SUSPECT, rcBase, rulBase]
    omega

/-- The run of flywheels that a codeword continues is the one its nib showed. -/
theorem slipsNoted_run (n k : Nat) (c : NibCw) (f : Framing) (s : State) :
    (slipsNoted ((setNibSync (setMse s n k c) n k c f).bump (RC_NIB_CNT_CW_CODEWORDS n k) 1) n k f).get (RC_NIB_STATUS_FLY_RUN n k)
      = s.get (RC_NIB_STATUS_FLY_RUN n k) := by
  rw [(slipsNoted_onlyFields _ n k f).1.get, State.get_bump_ne, syncShown_get (o := 0) rfl (by decide) (Nat.le_of_ble_eq_true rfl)]
  · exact Fld.key_ne_of_addr (by simp [RC_NIB_STATUS_FLY_RUN, RC_NIB_CNT_CW_CODEWORDS]) (Nat.le_of_ble_eq_true rfl) (Nat.le_of_ble_eq_true rfl)
  · simp only [List.forall_mem_cons, List.not_mem_nil, false_imp_iff, implies_true, and_true, Fld.key, RC_NIB_STATUS_FLY_RUN,
      RC_NIB_CNT_FLY_SLIPTESTS, RC_NIB_CNT_BLOT_RESYNC_MISS]
    omega

/-! ### The way to the decoder pool (R89, R105, R110) -/

/-- What the choice of a codeword's way depends on: the count, the group, the pool and the revisit. -/
structure WayKept (n k : Nat) (s t : State) : Prop where
  fields : SameFields (framedOf n k) s t
  rul : t.rul = s.rul
  wc : t.wc = s.wc
  cws : t.ldpc.cws = s.ldpc.cws
  queue : t.ldpc.l0q = s.ldpc.l0q
  next : t.ldpc.nextCw = s.ldpc.nextCw
  revisit : t.ldpc.revisit = s.ldpc.revisit

namespace WayKept

variable {n k : Nat} {s t : State} (h : WayKept n k s t)
include h

/-- A field of the ruling that is no event reads as before. -/
theorem get_rul {f : Fld} (hf : RulFld n f) (he : f.addr ≠ rulBase n + 0x40) (hl : f.lo < 64) : t.get f = s.get f := by
  refine h.fields.get fun g hg => ?_
  obtain ⟨hg | hg, hgl⟩ := framedOf_place n k g hg
  · exact Fld.key_ne_of_addr (hg ▸ he) hl hgl
  · have hr := hf.high
    simp only [Fld.key, rulBase, rcBase] at hr hg ⊢
    omega

/-- A field of the read channel's control words reads as before. -/
theorem get_ctrl {f : Fld} {o : Nat} (ha : f.addr = rcBase n + o) (ho : o < 0x50) (hl : f.lo < 64) : t.get f = s.get f := by
  refine h.fields.get fun g hg => ?_
  obtain ⟨hg, hgl⟩ := framedOf_place n k g hg
  refine Fld.key_ne_of_addr ?_ hl hgl
  simp only [ha, rulBase, rcBase] at hg ⊢
  omega

theorem readDescOf (f idx : Nat) : readDescOf t n k f idx = readDescOf s n k f idx := by
  unfold Machine.readDescOf State.writeCh
  rw [h.wc]

theorem freshOf (hn : n < 16) (f idx : Nat) : freshOf t n k f idx = freshOf s n k f idx := by
  have hrev : t.get (RUL_REV_REV n) = s.get (RUL_REV_REV n) :=
    h.get_rul (rulFld_ctrl (o := 0x24) hn rfl (by decide) (Nat.le_of_ble_eq_true rfl)) (by simp [RUL_REV_REV]) (Nat.le_of_ble_eq_true rfl)
  have hbin : t.get (RUL_ANGLE_BIN n) = s.get (RUL_ANGLE_BIN n) :=
    h.get_rul (rulFld_ctrl (o := 0x20) hn rfl (by decide) (Nat.le_of_ble_eq_true rfl)) (by simp [RUL_ANGLE_BIN]) (Nat.le_of_ble_eq_true rfl)
  have hm : t.get (RUL_PERIODS_M_RNI n) = s.get (RUL_PERIODS_M_RNI n) :=
    h.get_rul (rulFld_ctrl (o := 8) hn rfl (by decide) (Nat.le_of_ble_eq_true rfl)) (by simp [RUL_PERIODS_M_RNI]) (Nat.le_of_ble_eq_true rfl)
  have hv : t.get (RUL_STATUS_ANGLE_VALID n) = s.get (RUL_STATUS_ANGLE_VALID n) :=
    h.get_rul (rulFld_ctrl (o := 0x10) hn rfl (by decide) (Nat.le_of_ble_eq_true rfl)) (by simp [RUL_STATUS_ANGLE_VALID]) (Nat.le_of_ble_eq_true rfl)
  unfold Machine.freshOf startPlace binPlace sincePredicted placeOfCw periodsPerRev State.revisit State.ruling State.on
  rw [hrev, hbin, hm, hv, h.rul, h.revisit, h.cws]

theorem inBufClosed : inBufClosed t = inBufClosed s := by
  have he : t.get LDPC_CTRL_ENABLE = s.get LDPC_CTRL_ENABLE := h.fields.get fun g hg => by
    obtain ⟨hg, hgl⟩ := framedOf_place n k g hg
    refine Fld.key_ne_of_addr ?_ (Nat.le_of_ble_eq_true rfl) hgl
    simp only [LDPC_CTRL_ENABLE, ldpcBase, rulBase, rcBase, penBase] at hg ⊢
    omega
  unfold Machine.inBufClosed inBufCount
  rw [he, h.cws]

theorem framedLlrs (c : NibCw) (dm : List Int) : framedLlrs t n c dm = framedLlrs s n c dm := by
  unfold Machine.framedLlrs State.on
  rw [h.get_ctrl (f := RC_CTRL_SLIP_TEST n) (o := 0) rfl (by decide) (Nat.le_of_ble_eq_true rfl),
    h.get_ctrl (f := RC_EQ_CTRL_LLR_SCALE n) (o := 4) rfl (by decide) (Nat.le_of_ble_eq_true rfl)]

theorem takeCapture (c : Cw) : WayKept n k s (takeCapture t c) := by
  obtain ⟨hf, hr, hw, hc, hq, hx, hv⟩ := h
  unfold Machine.takeCapture
  split
  · exact ⟨hf.trans (.of_fld rfl), hr, hw, hc, hq, hx, hv⟩
  · exact ⟨hf, hr, hw, hc, hq, hx, hv⟩

end WayKept

theorem wayKept_framingShown (n k : Nat) (c : NibCw) (f : Framing) (s : State) (g : Nib → Nib) :
    WayKept n k s ((framingShown n k c f s).modNib n k g) :=
  have h := framingShown_inkHidden n k c f s
  have hl : (framingShown n k c f s).ldpc = s.ldpc := (congrArg State.ldpc h.eq :)
  ⟨(framingShown_sameFields n k c f s).trans (.of_fld rfl), (congrArg State.rul h.eq :), (congrArg State.wc h.eq :), congrArg Ldpc.cws hl,
    congrArg Ldpc.l0q hl, congrArg Ldpc.nextCw hl, congrArg Ldpc.revisit hl⟩

/-- A codeword framed goes its way: to the pending codeword that it reads again, or to the descriptor that reads it, or nowhere. -/
def frameHandedOn (n k : Nat) (c : NibCw) (new : Cw) (s : State) : State :=
  match freshOf s n k c.f c.idx, readDescOf s n k c.f c.idx with
  | some (id, old), _ => handOffFresh s id old new c.noPreset
  | none, some d => handOff (noteTaken s n k d c.idx) (new.forDesc d) c.noPreset
  | none, none => s

theorem frameHandedOn_get {f : Fld} (h : notPool f) (n k : Nat) (c : NibCw) (new : Cw) (s : State) : (frameHandedOn n k c new s).get f = s.get f := by
  unfold frameHandedOn
  split
  · exact handOffFresh_get _ _ _ _ _ h
  · exact (handOff_get _ _ _ h).trans (noteTaken_get _ _ _ _ _)
  · rfl

theorem frameHandedOn_keepsNibs (n k : Nat) (c : NibCw) (new : Cw) (s : State) : KeepsNibs s (frameHandedOn n k c new s) := by
  unfold frameHandedOn
  split
  · exact handOffFresh_keepsNibs _ _ _ _ _
  · exact (noteTaken_keepsNibs _ _ _ _ _).trans (handOff_keepsNibs _ _ _)
  · exact .refl s

/-- A codeword that finds a slot of the input buffer is the newest of the L0 queue. -/
theorem handOff_queued {s : State} (h : inBufClosed s = false) (c : Cw) :
    (handOff s c false).ldpc.l0q = s.ldpc.l0q ++ [s.ldpc.nextCw] ∧ (handOff s c false).ldpc.cws.find? s.ldpc.nextCw = some c := by
  have heq : handOff s c false = refreshLdpc ((newCw s c).2.modLdpc fun l => { l with l0q := l.l0q ++ [s.ldpc.nextCw] }) := by
    unfold handOff
    rw [h]
    simp only [Bool.or_false, Bool.and_false, Bool.false_eq_true, if_false]
    rfl
  rw [heq, (refreshLdpc_hidden _).1]
  exact ⟨rfl, Store.find?_insert_same _ _ _⟩

/-! ### CW_FRAMED -/

/-- The codeword under way with its spans as a blot in progress extends them. -/
def blotSpanned (c : NibCw) (rest : List NibCw) (blot : Option Nat) : NibCw :=
  match rest, blot with
  | [], some a => { c with spans := addSpan c.spans a 39000 }
  | _, _ => c

theorem blotSpanned_eq (c : NibCw) (rest : List NibCw) (blot : Option Nat) : ∃ l, blotSpanned c rest blot = { c with spans := l } := by
  unfold blotSpanned
  split
  · exact ⟨_, rfl⟩
  · exact ⟨c.spans, rfl⟩

/-- A codeword noted at its nib, which goes on with the codewords behind it. -/
def frameNoted (n k : Nat) (c : NibCw) (rest : List NibCw) (s : State) : State :=
  (framingShown n k c (framingOf (s.on (RC_CTRL_SLIP_TEST n)) c.sync c.resync) s).modNib n k fun b =>
    { b with cws := rest, blotFrom := if rest.isEmpty then b.blotFrom.map fun _ => 39000 else b.blotFrom }

/-- The codeword as it goes to the pool. -/
def frameMade (n k : Nat) (dm : List Int) (c : NibCw) (rest : List NibCw) (s : State) : Cw :=
  framedCw (frameNoted n k c rest s) n k c (framingOf (s.on (RC_CTRL_SLIP_TEST n)) c.sync c.resync) (framedLlrs (frameNoted n k c rest s) n c dm)

theorem cwFramed_idle {n k : Nat} {s : State} (h : (s.nib n k).cws = [] ∨ nibOn s n k = false ∧ nibUnsent s n k = false) (dm : List Int) :
    cwFramed n k dm s = s := by
  unfold cwFramed
  split
  · rfl
  · next hc =>
    rcases h with h | ⟨ho, hu⟩
    · simp [h] at hc
    · rw [ho, hu]
      rfl

theorem cwFramed_unsent {n k : Nat} {c : NibCw} {r : List NibCw} {s : State} (hc : (s.nib n k).cws = c :: r) (hu : nibUnsent s n k = true)
    (dm : List Int) : cwFramed n k dm s
      = refreshLdpc (endUnread ((s.modNib n k fun b => { b with cws := r }).ev (RC_EVENT_INCOMPLETE n)) n k c true) := by
  unfold cwFramed
  rw [hc]
  dsimp only
  rw [if_pos hu]

theorem cwFramed_framed {n k : Nat} {c : NibCw} {r : List NibCw} {s : State} (hc : (s.nib n k).cws = c :: r) (ho : nibOn s n k = true)
    (hu : nibUnsent s n k = false) (dm : List Int) : ∃ l, cwFramed n k dm s
      = frameHandedOn n k { c with spans := l } (frameMade n k dm { c with spans := l } r s)
      (takeCapture (frameNoted n k { c with spans := l } r s) (frameMade n k dm { c with spans := l } r s)) := by
  obtain ⟨l, hl⟩ := blotSpanned_eq c r (s.nib n k).blotFrom
  refine ⟨l, ?_⟩
  unfold cwFramed
  rw [hc]
  dsimp only
  rw [if_neg (by rw [hu]; simp), if_pos ho, ← hl]
  rfl

/-- A framed codeword's fields, and the codewords behind it, as its nib noted them. -/
theorem frameHandedOn_noted (n k : Nat) (dm : List Int) (c : NibCw) (r : List NibCw) (s : State) :
    (∀ f, notPool f → (frameHandedOn n k c (frameMade n k dm c r s) (takeCapture (frameNoted n k c r s) (frameMade n k dm c r s))).get f
      = (framingShown n k c (framingOf (s.on (RC_CTRL_SLIP_TEST n)) c.sync c.resync) s).get f)
    ∧ ((frameHandedOn n k c (frameMade n k dm c r s) (takeCapture (frameNoted n k c r s) (frameMade n k dm c r s))).nib n k).cws = r := by
  refine ⟨fun f hf => ?_, ?_⟩
  · rw [frameHandedOn_get hf, takeCapture_get, frameNoted, State.modNib_get]
  · rw [((takeCapture_keepsNibs _ _).trans (frameHandedOn_keepsNibs _ _ _ _ _)).nib, frameNoted, State.nib_modNib]

/-- A codeword that a descriptor reads, and no revisit, is queued for its first decode. -/
theorem frameHandedOn_queued {n k : Nat} (hn : n < 16) {dm : List Int} {c : NibCw} {r : List NibCw} {s : State} {d : Desc}
    (hf : freshOf s n k c.f c.idx = none) (hd : readDescOf s n k c.f c.idx = some d) (hp : c.noPreset = false) (hb : inBufClosed s = false) :
    (frameHandedOn n k c (frameMade n k dm c r s) (takeCapture (frameNoted n k c r s) (frameMade n k dm c r s))).ldpc.l0q
        = s.ldpc.l0q ++ [s.ldpc.nextCw]
      ∧ ((frameHandedOn n k c (frameMade n k dm c r s) (takeCapture (frameNoted n k c r s) (frameMade n k dm c r s))).ldpc.cws.find? s.ldpc.nextCw).map
          (fun w => (w.f, w.idx, w.dest, w.key, w.llrs)) = some (c.f, c.idx, d.data + 4096 * c.idx, d.key, framedLlrs s n c dm) := by
  have hnoted : WayKept n k s (frameNoted n k c r s) := wayKept_framingShown n k c _ s _
  have hway : WayKept n k s (takeCapture (frameNoted n k c r s) (frameMade n k dm c r s)) := hnoted.takeCapture _
  have heq : frameHandedOn n k c (frameMade n k dm c r s) (takeCapture (frameNoted n k c r s) (frameMade n k dm c r s))
      = handOff (noteTaken (takeCapture (frameNoted n k c r s) (frameMade n k dm c r s)) n k d c.idx) ((frameMade n k dm c r s).forDesc d) false := by
    rw [frameHandedOn, hway.freshOf hn, hway.readDescOf, hf, hd, hp]
  obtain ⟨hq, hc⟩ := handOff_queued (s := noteTaken (takeCapture (frameNoted n k c r s) (frameMade n k dm c r s)) n k d c.idx)
    (hway.inBufClosed.trans hb) ((frameMade n k dm c r s).forDesc d)
  rw [heq, hq, ← hway.next, ← hway.queue]
  refine ⟨rfl, ?_⟩
  rw [← hnoted.framedLlrs]
  exact congrArg (Option.map fun w => (w.f, w.idx, w.dest, w.key, w.llrs)) hc

/-- Settles O18: a codeword that is idle, unsent, or framed, with its flywheels and its way to the pool. -/
theorem codewordFramed : Obligations.CodewordFramed := by
  unfold Obligations.CodewordFramed
  refine fun n k dm s => ⟨_, rfl, fun h => cwFramed_idle h dm, fun c r hc hu => ?_, fun c r hc ho hu => ?_⟩
  · rw [cwFramed_unsent hc hu]
    refine ⟨?_, ?_⟩
    · rw [refreshLdpc_get _ (notPool_rc rfl), endUnread_get _ _ _ _ _ (notPool_rc rfl)]
      exact State.get_ev _ _ (Nat.le_of_ble_eq_true rfl)
    · rw [((endUnread_keepsNibs _ _ _ _ _).trans (refreshLdpc_keepsNibs _)).nib]
      exact congrArg Nib.cws (State.nib_modNib s n k fun b => { b with cws := r })
  · obtain ⟨l, hl⟩ := cwFramed_framed hc ho hu dm
    obtain ⟨hget, hnib⟩ := frameHandedOn_noted n k dm { c with spans := l } r s
    obtain ⟨hfly, hanchor⟩ := framingOf_flywheel (s.on (RC_CTRL_SLIP_TEST n)) c.sync c.resync
    obtain ⟨hsf, hsa, hsp⟩ := framingShown_sync n k { c with spans := l } (framingOf (s.on (RC_CTRL_SLIP_TEST n)) c.sync c.resync) s
    obtain ⟨hrun, hfirst, hsecond⟩ := flywheelNoted_fields
      (slipsNoted ((setNibSync (setMse s n k { c with spans := l }) n k { c with spans := l }
        (framingOf (s.on (RC_CTRL_SLIP_TEST n)) c.sync c.resync)).bump (RC_NIB_CNT_CW_CODEWORDS n k) 1) n k
          (framingOf (s.on (RC_CTRL_SLIP_TEST n)) c.sync c.resync)) n k (framingOf (s.on (RC_CTRL_SLIP_TEST n)) c.sync c.resync)
    rw [slipsNoted_run] at hfirst hsecond
    have hrul : notPool (RUL_EVENT_SLIP_SUSPECT n) := (rulFld_event n.isLt rfl (Nat.le_of_ble_eq_true rfl)).notPool
    have hmse : c.judged ≠ 0 → (cwFramed n k dm s).get (RC_NIB_MSE_MSE n k) = min (s.divFree c.err (2 ^ 114 * c.judged)).1.toNat (2 ^ 16 - 1) := fun h => by
      rw [hl, hget _ (notPool_rc rfl)]
      exact framingShown_mse (c := { c with spans := l }) h n k _ s
    refine ⟨fun h => ⟨?_, fun hd => ?_⟩, ?_, ?_, ?_, ?_, ?_, fun hs => ?_, fun hs h0 => ?_, fun hs h0 => ?_, fun d hf hd hp hb => ?_⟩
    · have hnear := (divFree_near s c.err (d := 2 ^ 114 * c.judged) (by omega)).1
      rw [hmse h, List.mem_cons, List.mem_singleton]
      exact hnear.imp (fun e => by rw [e]) fun e => by rw [e]
    · rw [hmse h, (divFree_near s c.err (d := 2 ^ 114 * c.judged) (by omega)).2 hd]
    · rw [hl, hnib]
    · rw [hl, hget _ (notPool_rc rfl), framingShown_codewords]
    · rw [hl, hget _ (notPool_rc rfl), hsf, hfly]
      cases c.sync <;> rfl
    · rw [hl, hget _ (notPool_rc rfl), hsa, hanchor]
      cases c.sync <;> cases c.resync <;> rfl
    · rw [hl, hget _ (notPool_rc rfl), hsp]
    · rw [hl, hget _ (notPool_rc rfl)]
      exact hrun (by rw [hfly]; exact Option.isNone_eq_false_iff.2 (Option.isSome_iff_ne_none.2 hs))
    · rw [hl, hget _ (notPool_rc rfl), hget _ (notPool_rc rfl)]
      exact hfirst (by rw [hfly, hs]; rfl) h0
    · rw [hl, hget _ (notPool_rc rfl), hget _ (notPool_rc rfl), hget _ hrul]
      exact hsecond (by rw [hfly, hs]; rfl) h0
    · rw [hl]
      exact frameHandedOn_queued (c := { c with spans := l }) n.isLt hf hd hp hb

end Sys2Proof.Machine

/-!
Packets of samples: what they do to the count of missing packets, to the sample index and to the rings (R42, R55, R60, R262, R263, R279, R280).
-/

namespace Sys2Proof.Machine

/-! ### The arrival of a packet (R262, R263, R279) -/

theorem pktType_header (h : PktHeader) : pktType h.toNat = h.toNat / 2 ^ 28 := Nat.mod_eq_of_lt (by have := h.isLt; omega)

theorem pktNib_lt (h : Nat) : pktNib h < 16 := Nat.mod_lt _ (Nat.le_of_ble_eq_true rfl)

theorem pktSeq_lt (h : Nat) : pktSeq h < 256 := Nat.mod_lt _ (Nat.le_of_ble_eq_true rfl)

/-- The fields that the arrival of a packet of samples reaches. -/
def arrivalOf (n : Nat) : List Fld := [LK_CNT_PKT_LOST n, LK_SIDX_SIDX n]

/-- A packet of samples arrives: what is missing before it is counted, and the sample index moves on. -/
def arrived (s : State) (n key seq len : Nat) : State := advanceSidx (notePkt s n key seq 256) n seq len

theorem notePkt_onlyLost (s : State) (n key seq range : Nat) : SameFields [LK_CNT_PKT_LOST n] s (notePkt s n key seq range) :=
  .trans (.bump (.refl _ s) (LK_CNT_PKT_LOST n) _ (by simp)) (.of_fld rfl)

theorem notePkt_lost (s : State) (n key seq range : Nat) :
    (notePkt s n key seq range).get (LK_CNT_PKT_LOST n) = min (s.get (LK_CNT_PKT_LOST n) + pktGap s n key seq range) (2 ^ 16 - 1) := by
  rw [notePkt, State.modLink_get, State.get_bump]
  rfl

theorem advanceSidx_sameFields (s : State) (n seq len : Nat) : SameFields [LK_SIDX_SIDX n] s (advanceSidx s n seq len) := by
  unfold advanceSidx
  dsimp only
  split
  · exact .refl _ s
  · exact .trans (.set (.refl _ s) (LK_SIDX_SIDX n) _ (by simp)) (.of_fld rfl)

theorem arrived_sameFields (s : State) (n key seq len : Nat) : SameFields (arrivalOf n) s (arrived s n key seq len) :=
  .trans ((notePkt_onlyLost s n key seq 256).mono (by simp [arrivalOf])) ((advanceSidx_sameFields _ n seq len).mono (by simp [arrivalOf]))

theorem arrived_lost (s : State) (n key seq len : Nat) :
    (arrived s n key seq len).get (LK_CNT_PKT_LOST n) = min (s.get (LK_CNT_PKT_LOST n) + pktGap s n key seq 256) (2 ^ 16 - 1) := by
  rw [arrived, (advanceSidx_sameFields _ n seq len).get, notePkt_lost]
  simp [Fld.key, LK_CNT_PKT_LOST, LK_SIDX_SIDX]

theorem arrived_get {n : Nat} {f : Fld} (ha : f.addr ≠ lkBase n + 0x40 ∧ f.addr ≠ lkBase n + 0x14) (hl : f.lo < 64) (s : State) (key seq len : Nat) :
    (arrived s n key seq len).get f = s.get f := by
  refine (arrived_sameFields s n key seq len).get fun g hg => ?_
  simp only [arrivalOf, List.mem_cons, List.not_mem_nil, or_false] at hg
  rcases hg with rfl | rfl
  · exact Fld.key_ne_of_addr ha.1 hl (Nat.le_of_ble_eq_true rfl)
  · exact Fld.key_ne_of_addr ha.2 hl (Nat.le_of_ble_eq_true rfl)

/-- The arrival reaches no nib and no ruling. -/
theorem arrived_hidden (s : State) (n key seq len : Nat) : (arrived s n key seq len).nibs = s.nibs ∧ (arrived s n key seq len).rul = s.rul := by
  unfold arrived advanceSidx
  dsimp only
  split <;> exact ⟨rfl, rfl⟩

theorem arrived_nib (s : State) (n key seq len m k : Nat) : (arrived s n key seq len).nib m k = s.nib m k := by
  rw [State.nib, State.nib, (arrived_hidden s n key seq len).1]

theorem notePkt_newIntervals {n key : Nat} (hk : key ≠ 512) (s : State) (seq range q : Nat) :
    newIntervals (notePkt s n key seq range) n q = newIntervals s n q := by
  have hseqs : ((notePkt s n key seq range).link n).seqs.find? 512 = (s.link n).seqs.find? 512 := by
    rw [notePkt, State.link_modLink]
    exact Store.find?_insert_ne _ _ (Ne.symm hk)
  unfold newIntervals
  rw [hseqs]

theorem newIntervals_known {n p seq : Nat} {s : State} (h : (s.link n).seqs.find? 512 = some p) (hp : p < 256) (hs : seq < 256) :
    newIntervals s n seq = if seq = p ∨ 128 ≤ (seq + 256 - p) % 256 then 0 else (seq + 256 - p) % 256 := by
  unfold newIntervals
  rw [h]
  dsimp only
  split <;> split <;> omega

/-- The last interval known to have closed, with the packet (R263). -/
theorem arrived_closed {n key p seq : Nat} {s : State} (hk : key ≠ 512) (h : (s.link n).seqs.find? 512 = some p) (hp : p < 256) (hs : seq < 256)
    (len : Nat) : ((arrived s n key seq len).link n).closed
      = (s.link n).closed + (if seq = p ∨ 128 ≤ (seq + 256 - p) % 256 then 0 else (seq + 256 - p) % 256 * len) := by
  have hnote : ((notePkt s n key seq 256).link n).closed = (s.link n).closed := by
    rw [notePkt, State.link_modLink]
    rfl
  have hd : newIntervals (notePkt s n key seq 256) n seq = if seq = p ∨ 128 ≤ (seq + 256 - p) % 256 then 0 else (seq + 256 - p) % 256 := by
    rw [notePkt_newIntervals hk, newIntervals_known h hp hs]
  unfold arrived advanceSidx
  dsimp only
  rw [hd, hnote]
  split
  · next h0 => rw [if_pos rfl, hnote]; rfl
  · split
    · omega
    · rw [State.link_modLink]

/-! ### SAMPLES (R55, R279) -/

theorem samples_idle {n h : Nat} {s : State} (hi : pktType h ≠ 1 ∨ receiving s n = false ∨ dataNibs s n ≤ pktNib h ∨ nibUnsent s n (pktNib h) = true)
    (data : List (BitVec 8)) (steps : List ChanStep) : samples n h data steps s = s := by
  refine if_neg fun ⟨ht, hr, hk, hu⟩ => ?_
  rcases hi with h | h | h | h
  · exact h ht
  · simp [h] at hr
  · omega
  · simp [h] at hu

theorem samples_taken {n h : Nat} {s : State} (ht : pktType h = 1) (hr : receiving s n = true) (hk : pktNib h < dataNibs s n)
    (hu : nibUnsent s n (pktNib h) = false) (data : List (BitVec 8)) : samples n h data [] s =
      if nibOn (arrived s n (32 + pktNib h) (pktSeq h) data.length) n (pktNib h) = true
          ∧ (arrived s n (32 + pktNib h) (pktSeq h) data.length).on (RUL_STATUS_CLK_SRC n) = true then
        ringPush (fillTo (arrived s n (32 + pktNib h) (pktSeq h) data.length) n (pktNib h)
            (((arrived s n (32 + pktNib h) (pktSeq h) data.length).link n).closed - data.length)) n (pktNib h) data
          ((arrived s n (32 + pktNib h) (pktSeq h) data.length).link n).closed
      else arrived s n (32 + pktNib h) (pktSeq h) data.length := if_pos ⟨ht, hr, hk, hu⟩

theorem samples_off {n h : Nat} {s : State} (ht : pktType h = 1) (hr : receiving s n = true) (hk : pktNib h < dataNibs s n)
    (hu : nibUnsent s n (pktNib h) = false) (data : List (BitVec 8)) (steps : List ChanStep)
    (ho : nibOn (arrived s n (32 + pktNib h) (pktSeq h) data.length) n (pktNib h) = false) :
    samples n h data steps s = arrived s n (32 + pktNib h) (pktSeq h) data.length := by
  have hneg : ¬ (nibOn (arrived s n (32 + pktNib h) (pktSeq h) data.length) n (pktNib h) = true
      ∧ (arrived s n (32 + pktNib h) (pktSeq h) data.length).on (RUL_STATUS_CLK_SRC n) = true) := fun hon => by
    rw [ho] at hon
    exact Bool.false_ne_true hon.1
  exact (if_pos ⟨ht, hr, hk, hu⟩).trans (if_neg hneg)

theorem arrived_nibOn (s : State) (n key seq len k : Nat) : nibOn (arrived s n key seq len) n k = nibOn s n k := by
  have hgen : (arrived s n key seq len).get (LK_STATUS_GEN n) = s.get (LK_STATUS_GEN n) :=
    arrived_get (by simp [LK_STATUS_GEN]) (Nat.le_of_ble_eq_true rfl) s key seq len
  have hrc : ∀ f : Fld, f.addr = rcBase n → f.lo < 64 → (arrived s n key seq len).get f = s.get f := fun f hf hl =>
    arrived_get (by simp only [hf, rcBase, lkBase]; omega) hl s key seq len
  unfold nibOn dataNibs isN1 State.bit State.on
  rw [hgen, hrc (RC_CTRL_ENABLE n) rfl (Nat.le_of_ble_eq_true rfl), hrc (RC_CTRL_NIB_EN n) rfl (Nat.le_of_ble_eq_true rfl)]

/-- Where nothing is missing before the samples, their ring goes on with them (R55, R263). -/
theorem fillTo_seamless {n k at_ : Nat} {s : State} (ha : (s.nib n k).anew = false) (h : (s.nib n k).ring = [] ∨ at_ ≤ (s.nib n k).at_) :
    fillTo s n k at_ = s.modNib n k fun b => { b with at_ := at_ } := by
  unfold fillTo
  dsimp only
  rw [ha, if_neg (by simp), if_neg]
  rintro ⟨hne, hlt⟩
  rcases h with h | h
  · exact hne h
  · omega

theorem ringPush_nib (s : State) (n k : Nat) (data : List (BitVec 8)) (at_ : Nat) :
    (ringPush s n k data at_).nib n k = { s.nib n k with ring := (data.reverse ++ (s.nib n k).ring).take 81920, at_ := at_ } := State.nib_modNib _ _ _ _

theorem ringPush_fld (s : State) (n k : Nat) (data : List (BitVec 8)) (at_ : Nat) : (ringPush s n k data at_).fld = s.fld := (rfl)

/-- Samples of a nib that is on enter its ring at the sample index of their interval (R55, R263). -/
theorem samples_stored {n h p i : Nat} {data : List (BitVec 8)} {s : State} (hp : (s.link n).seqs.find? 512 = some p)
    (hi : i = (s.link n).closed + (if pktSeq h = p ∨ 128 ≤ (pktSeq h + 256 - p) % 256 then 0 else (pktSeq h + 256 - p) % 256 * data.length))
    (ht : pktType h = 1) (hr : receiving s n = true) (ho : nibOn s n (pktNib h) = true) (hu : nibUnsent s n (pktNib h) = false)
    (hc : s.get (RUL_STATUS_CLK_SRC n) = 1) (h256 : p < 256) (ha : (s.nib n (pktNib h)).anew = false)
    (hring : (s.nib n (pktNib h)).ring = [] ∨ i ≤ (s.nib n (pktNib h)).at_ + data.length) :
    ((samples n h data [] s).nib n (pktNib h)).ring = (data.reverse ++ (s.nib n (pktNib h)).ring).take 81920
      ∧ ((samples n h data [] s).nib n (pktNib h)).at_ = i ∧ SameFields (arrivalOf n) s (samples n h data [] s) := by
  have hk : pktNib h < dataNibs s n := by
    simp only [nibOn, Bool.and_eq_true, decide_eq_true_eq] at ho
    exact ho.1.1
  have hclosed := arrived_closed (key := 32 + pktNib h) (by have := pktNib_lt h; omega) hp h256
    (pktSeq_lt h) data.length
  have hclk : (arrived s n (32 + pktNib h) (pktSeq h) data.length).on (RUL_STATUS_CLK_SRC n) = true := by
    rw [State.on, arrived_get (by simp only [RUL_STATUS_CLK_SRC, rulBase, lkBase]; omega) (Nat.le_of_ble_eq_true rfl), hc]
    rfl
  have hnib := arrived_nib s n (32 + pktNib h) (pktSeq h) data.length n (pktNib h)
  have hfld := arrived_sameFields s n (32 + pktNib h) (pktSeq h) data.length
  rw [samples_taken ht hr hk hu, if_pos ⟨(arrived_nibOn _ _ _ _ _ _).trans ho, hclk⟩, hclosed, ← hi]
  clear hclosed hclk hi
  generalize arrived s n (32 + pktNib h) (pktSeq h) data.length = a at hnib hfld ⊢
  rw [fillTo_seamless (by rw [hnib, ha]) (by rw [hnib]; exact hring.imp_right fun hle => by omega), ringPush_nib, State.nib_modNib, hnib]
  exact ⟨rfl, rfl, hfld.trans (.of_fld (ringPush_fld _ _ _ _ _))⟩

/-! ### RULING (R42, R60) -/

theorem rulingPkt_idle {n h : Nat} {s : State} (hi : pktType h ≠ 2 ∨ receiving s n = false ∨ 1 < pktNib h) (data : List (BitVec 6)) :
    rulingPkt n h data s = s := by
  unfold rulingPkt
  dsimp only
  split
  · rfl
  · next nib hnib =>
    refine if_neg fun ⟨ht, hr⟩ => ?_
    rcases hi with h | h | h
    · exact h ht
    · simp [h] at hr
    · rw [rulNib?, if_neg (by omega), if_neg (by omega)] at hnib
      simp at hnib

/-- The samples of a ruling nib are stored; the periods that they bring move the count later (R60). -/
def rulTaken (n h : Nat) (nib : RulNib) (data : List (BitVec 6)) (s : State) : State :=
  let s := arrived s n (64 + pktNib h) (pktSeq h) data.length
  rulPush (rulLost s n nib ((s.link n).closed - data.length)) n (rulIndex nib) data (s.link n).closed

/-- The samples by which a ruling nib's ring grows (R42). -/
def rulFresh (n h : Nat) (nib : RulNib) (data : List (BitVec 6)) (s : State) : Nat :=
  let s := arrived s n (64 + pktNib h) (pktSeq h) data.length
  if (s.nib n (rulIndex nib)).ring = [] then data.length else (s.link n).closed - (s.nib n (rulIndex nib)).at_

theorem rulingPkt_taken {n h : Nat} {nib : RulNib} {s : State} (ht : pktType h = 2) (hr : receiving s n = true) (hk : rulNib? (pktNib h) = some nib)
    (data : List (BitVec 6)) : rulingPkt n h data s
      = if nib = .rni then advanceCount (rulTaken n h nib data s) n (rulFresh n h nib data s) else rulTaken n h nib data s := by
  unfold rulingPkt
  dsimp only
  rw [hk]
  exact if_pos ⟨ht, hr⟩

/-- A window of the Blotter leaves the ring. -/
theorem pushWindow_ring (b : Nib) (blot : Bool) (v : Int) : (pushWindow b blot v).ring = b.ring ∧ (pushWindow b blot v).at_ = b.at_ := by
  unfold pushWindow
  dsimp only
  split <;> exact ⟨rfl, rfl⟩

theorem foldl_pushWindow_ring (data : List (BitVec 6)) (b : Nib) :
    (data.foldl (fun b x => pushWindow b b.rulBlot.isSome (64 * (x.toNat : Int))) b).ring = b.ring
      ∧ (data.foldl (fun b x => pushWindow b b.rulBlot.isSome (64 * (x.toNat : Int))) b).at_ = b.at_ := by
  induction data generalizing b with
  | nil => exact ⟨rfl, rfl⟩
  | cons x l ih =>
    obtain ⟨hr, ha⟩ := pushWindow_ring b b.rulBlot.isSome (64 * (x.toNat : Int))
    exact ⟨(ih _).1.trans hr, (ih _).2.trans ha⟩

theorem rulPush_ring (s : State) (n r : Nat) (data : List (BitVec 6)) (at_ : Nat) :
    ((rulPush s n r data at_).nib n r).ring = ((data.map fun x => BitVec.ofNat 8 (4 * x.toNat)).reverse ++ (s.nib n r).ring).take 81920
      ∧ ((rulPush s n r data at_).nib n r).at_ = at_ := by
  unfold rulPush
  dsimp only
  rw [State.nib_modNib, ringPush_nib]
  exact foldl_pushWindow_ring data _

theorem rulPush_hidden (s : State) (n r : Nat) (data : List (BitVec 6)) (at_ : Nat) : (rulPush s n r data at_).fld = s.fld
    ∧ (rulPush s n r data at_).rul = s.rul := ⟨rfl, rfl⟩

theorem rulLost_seamless {n at_ : Nat} {nib : RulNib} {s : State} (h : (s.nib n (rulIndex nib)).ring = [] ∨ at_ ≤ (s.nib n (rulIndex nib)).at_) :
    rulLost s n nib at_ = s.modNib n (rulIndex nib) fun b => { b with at_ := at_ } := by
  refine if_neg fun ⟨hne, hlt⟩ => ?_
  rcases h with h | h
  · exact hne h
  · omega

/-- What the count leaves of the nibs: all. -/
theorem countOn_nibs (s : State) (n d : Nat) : (countOn s n d).nibs = s.nibs := by
  unfold countOn State.iff setCount
  dsimp only
  split <;> rfl

theorem advanceCount_nib (s : State) (n count m k : Nat) : (advanceCount s n count).nib m k = s.nib m k := by
  unfold advanceCount
  dsimp only
  split
  · rw [State.nib, countOn_nibs]
    rfl
  · rfl

/-- The periods by which the count moves on with some samples of RNI: no further than to the next boundary (R42). -/
def periodsMoved (s : State) (n new : Nat) : Nat := min (periodsLeft s n) (((s.ruling n).sub + new) / 8)

/-- Samples of RNI move the count on within its bin, eight to a period (R42). -/
theorem advanceCount_effect {n m : Nat} (hn : n < 16) {s : State} (hv : s.get (RUL_STATUS_ANGLE_VALID n) = 1) (hm : s.get (RUL_PERIODS_M_RNI n) = m)
    (h0 : m ≠ 0) (hc : (s.ruling n).count < 1024 * m) (hs : (s.ruling n).slipBin = none) (new : Nat) :
    ((advanceCount s n new).ruling n).count
        = min ((s.ruling n).count / m * m + (m - 1)) ((s.ruling n).count + ((s.ruling n).sub + new) / 8)
      ∧ (advanceCount s n new).get (RUL_ANGLE_BIN n) = (s.ruling n).count / m % 1024 := by
  have hpos : 0 < m := Nat.pos_of_ne_zero h0
  have hleft := periodsLeft_within hm hpos hc hs
  have heq : advanceCount s n new = countOn (s.modRul n fun r =>
      { r with sub := (s.ruling n).sub + new - 8 * periodsMoved s n new }) n (periodsMoved s n new) :=
    if_pos ⟨beq_iff_eq.2 hv, by rw [hm]; exact h0⟩
  obtain ⟨hcount, hbin, -, -⟩ := countOn_effect hn (m := m) (d := periodsMoved s n new)
    (c := (s.ruling n).count + periodsMoved s n new)
    (s := s.modRul n fun r => { r with sub := (s.ruling n).sub + new - 8 * periodsMoved s n new }) hm hpos
    (by rw [State.ruling_modRul])
  have hmin : (s.ruling n).count + periodsMoved s n new
      = min ((s.ruling n).count / m * m + (m - 1)) ((s.ruling n).count + ((s.ruling n).sub + new) / 8) := by
    rw [periodsMoved]
    omega
  have hplace := Nat.div_add_mod' (s.ruling n).count m
  have hbins : (s.ruling n).count / m < 1024 := Nat.div_lt_of_lt_mul (by rwa [Nat.mul_comm])
  have hend : (s.ruling n).count / m * m + m ≤ 1024 * m := by
    rw [← Nat.succ_mul]
    exact Nat.mul_le_mul_right m hbins
  have hin : (s.ruling n).count + periodsMoved s n new < 1024 * m := by omega
  rw [heq, hcount, hbin, Nat.mod_eq_of_lt hin]
  refine ⟨hmin, ?_⟩
  rw [Nat.mod_eq_of_lt hbins]
  refine Nat.div_eq_of_lt_le ?_ ?_
  · omega
  · rw [Nat.succ_mul]
    omega

/-- The samples of a ruling nib enter its ring, and its pen's ruling is as before (R60). -/
theorem rulTaken_ring {n h p i : Nat} {nib : RulNib} {data : List (BitVec 6)} {s : State} (hp : (s.link n).seqs.find? 512 = some p)
    (hi : i = (s.link n).closed + (if pktSeq h = p ∨ 128 ≤ (pktSeq h + 256 - p) % 256 then 0 else (pktSeq h + 256 - p) % 256 * data.length))
    (h256 : p < 256) (hring : (s.nib n (rulIndex nib)).ring = [] ∨ i ≤ (s.nib n (rulIndex nib)).at_ + data.length) :
    ((rulTaken n h nib data s).nib n (rulIndex nib)).ring
        = ((data.map fun x => BitVec.ofNat 8 (4 * x.toNat)).reverse ++ (s.nib n (rulIndex nib)).ring).take 81920
      ∧ ((rulTaken n h nib data s).nib n (rulIndex nib)).at_ = i ∧ (rulTaken n h nib data s).rul = s.rul
      ∧ SameFields (arrivalOf n) s (rulTaken n h nib data s)
      ∧ rulFresh n h nib data s = (if (s.nib n (rulIndex nib)).ring = [] then data.length else i - (s.nib n (rulIndex nib)).at_) := by
  have hclosed := arrived_closed (key := 64 + pktNib h) (by have := pktNib_lt h; omega) hp h256
    (pktSeq_lt h) data.length
  rw [← hi] at hclosed
  have hnib := arrived_nib s n (64 + pktNib h) (pktSeq h) data.length n (rulIndex nib)
  have htaken : rulTaken n h nib data s = rulPush ((arrived s n (64 + pktNib h) (pktSeq h) data.length).modNib n (rulIndex nib) fun b =>
      { b with at_ := i - data.length }) n (rulIndex nib) data i := by
    unfold rulTaken
    dsimp only
    rw [hclosed, rulLost_seamless (by rw [hnib]; exact hring.imp_right fun hle => by omega)]
  obtain ⟨hr, ha⟩ := rulPush_ring ((arrived s n (64 + pktNib h) (pktSeq h) data.length).modNib n (rulIndex nib) fun b =>
      { b with at_ := i - data.length }) n (rulIndex nib) data i
  rw [State.nib_modNib, hnib] at hr
  refine ⟨?_, ?_, ?_, ?_, ?_⟩
  · rw [htaken, hr]
  · rw [htaken, ha]
  · rw [htaken]
    exact (rulPush_hidden _ _ _ _ _).2.trans (arrived_hidden s n _ _ _).2
  · rw [htaken]
    exact (arrived_sameFields s n _ _ _).trans (.of_fld (rulPush_hidden _ _ _ _ _).1)
  · unfold rulFresh
    dsimp only
    rw [hclosed, hnib]

end Sys2Proof.Machine

/-!
Servo packets: the parts of a window gather, and a window that is whole has a sample that waits for its tick (R185, R192, R262, R265).
-/

namespace Sys2Proof.Machine

/-! ### A part of a servo window -/

/-- Element samples reach the Blotters alone (R65). -/
theorem blotSums_hidden (s : State) (n : Nat) (sets : List (List (List Nat))) : (blotSums s n sets).fld = s.fld
    ∧ (blotSums s n sets).links = s.links ∧ (blotSums s n sets).sups = s.sups :=
  ⟨State.each_keeps State.fld _ _ _ fun _ _ _ => rfl, State.each_keeps State.links _ _ _ fun _ _ _ => rfl,
    State.each_keeps State.sups _ _ _ fun _ _ _ => rfl⟩

/-- A part of a servo window is heard: what is missing before it is counted, and its samples reach the Blotters (R65, R279). -/
def servoHeard (n h : Nat) (words : List Nat) (sets : List (List (List Nat))) (s : State) : State :=
  (blotSums (notePkt s n 96 (pktWindow h * servoParts s n + pktPart h) (65536 * servoParts s n)) n sets).iff
    (!isN1 (blotSums (notePkt s n 96 (pktWindow h * servoParts s n + pktPart h) (65536 * servoParts s n)) n sets) n) fun s =>
      s.modLink n fun l => { l with nibWords := words.take 16 }

theorem servoHeard_sameFields (n h : Nat) (words : List Nat) (sets : List (List (List Nat))) (s : State) :
    SameFields [LK_CNT_PKT_LOST n] s (servoHeard n h words sets s) :=
  (SameFields.frame _).iff ((notePkt_onlyLost s n 96 _ _).trans (.of_fld (blotSums_hidden _ n sets).1)) fun _ => .of_fld rfl

theorem servoHeard_sups (n h : Nat) (words : List Nat) (sets : List (List (List Nat))) (s : State) : (servoHeard n h words sets s).sups = s.sups := by
  have hblot := (blotSums_hidden (notePkt s n 96 (pktWindow h * servoParts s n + pktPart h) (65536 * servoParts s n)) n sets).2.2
  unfold servoHeard State.iff
  split <;> exact hblot

theorem servoHeard_suspended (n h : Nat) (words : List Nat) (sets : List (List (List Nat))) (s : State) :
    ((servoHeard n h words sets s).link n).suspended = (s.link n).suspended := by
  have hblot : ((blotSums (notePkt s n 96 (pktWindow h * servoParts s n + pktPart h) (65536 * servoParts s n)) n sets).link n).suspended
      = (s.link n).suspended := by
    rw [State.link, (blotSums_hidden _ n sets).2.1, ← State.link, notePkt, State.link_modLink]
    rfl
  unfold servoHeard State.iff
  split
  · rw [State.link_modLink]
    exact hblot
  · exact hblot

/-- Fields of other words than the link's counters read as before where a part is heard. -/
theorem servoHeard_get {n : Nat} {f : Fld} (ha : f.addr ≠ lkBase n + 0x40) (hl : f.lo < 64) (h : Nat) (words : List Nat)
    (sets : List (List (List Nat))) (s : State) : (servoHeard n h words sets s).get f = s.get f := by
  refine (servoHeard_sameFields n h words sets s).get fun g hg => ?_
  rw [List.mem_singleton.1 hg]
  exact Fld.key_ne_of_addr ha hl (Nat.le_of_ble_eq_true rfl)

theorem servoHeard_receiving (n h : Nat) (words : List Nat) (sets : List (List (List Nat))) (s : State) :
    receiving (servoHeard n h words sets s) n = receiving s n := by
  unfold receiving linkUp
  rw [servoHeard_get (by simp [LK_STATUS_STATE]) (Nat.le_of_ble_eq_true rfl), servoHeard_suspended]

theorem servoHeard_parts (n h : Nat) (words : List Nat) (sets : List (List (List Nat))) (s : State) :
    servoParts (servoHeard n h words sets s) n = servoParts s n := by
  unfold servoParts isN1
  rw [servoHeard_get (by simp [LK_STATUS_GEN]) (Nat.le_of_ble_eq_true rfl)]

theorem servoHeard_enable (n h : Nat) (words : List Nat) (sets : List (List (List Nat))) (s : State) :
    (servoHeard n h words sets s).get (SV_CTRL_ENABLE n) = s.get (SV_CTRL_ENABLE n) :=
  servoHeard_get (by simp only [SV_CTRL_ENABLE, svBase, lkBase]; omega) (Nat.le_of_ble_eq_true rfl) h words sets s

/-! ### The window gathers -/

/-- A part gathers, with those of its window that came before it (R265). -/
def servoGathered (n part window : Nat) (sets : List (List (List Nat))) (s : State) : State :=
  let s := s.iff ((s.sup n).window != window || part == 0) fun s => s.modSup n fun u => { u with window := window, parts := [], acc := [] }
  s.modSup n fun u =>
    { u with parts := u.parts ++ [part]
             acc := (List.range (dataNibs s n)).foldl (fun acc k => addSets acc k (sets.getD k [])) u.acc }

theorem servoGathered_fld (n part window : Nat) (sets : List (List (List Nat))) (s : State) : (servoGathered n part window sets s).fld = s.fld := by
  unfold servoGathered State.iff
  dsimp only
  split <;> rfl

/-- The parts that a window holds, and the sample of the window before, which waits as it did. -/
theorem servoGathered_sup (n part window : Nat) (sets : List (List (List Nat))) (s : State) :
    ((servoGathered n part window sets s).sup n).window = window
      ∧ ((servoGathered n part window sets s).sup n).sample = (s.sup n).sample
      ∧ ((servoGathered n part window sets s).sup n).parts = (if part = 0 ∨ (s.sup n).window ≠ window then [] else (s.sup n).parts) ++ [part] := by
  by_cases h : part = 0 ∨ (s.sup n).window ≠ window
  · have hb : ((s.sup n).window != window || part == 0) = true := by
      rcases h with h | h
      · simp [h]
      · simp [h]
    unfold servoGathered
    dsimp only
    rw [hb, State.iff_true, State.sup_modSup, State.sup_modSup, if_pos h]
    exact ⟨rfl, rfl, rfl⟩
  · obtain ⟨hp, hw⟩ := not_or.1 h
    have hb : ((s.sup n).window != window || part == 0) = false := by simp [hp, not_ne_iff.1 hw]
    unfold servoGathered
    dsimp only
    rw [hb, State.iff_false, State.sup_modSup, if_neg h]
    exact ⟨not_ne_iff.1 hw, rfl, rfl⟩

/-- A window that is whole leaves its sample to wait for the tick (R43, R192). -/
theorem formSample_closes (s : State) (n window : Nat) : ((formSample s n window).sup n).sample ≠ none
    ∧ ((formSample s n window).sup n).lastWindow = some window ∧ ((formSample s n window).sup n).parts = [] := by
  unfold formSample
  dsimp only
  rw [State.sup_modSup]
  exact ⟨Option.some_ne_none _, rfl, rfl⟩

/-! ### SERVO -/

theorem servo_idle {n h : Nat} {s : State} (hi : pktType h ≠ 3 ∨ receiving s n = false ∨ servoParts s n ≤ pktPart h) (words : List Nat)
    (sets : List (List (List Nat))) : servo n h words sets s = s := by
  unfold servo
  dsimp only
  split
  · rfl
  · next ht =>
    have hno : (receiving s n && decide (pktPart h < servoParts s n)) = false := by
      rcases hi with h | h | h
      · exact absurd h ht
      · rw [h, Bool.false_and]
      · rw [decide_eq_false (Nat.not_lt.2 h), Bool.and_false]
    rw [hno, State.iff_false, if_neg]
    rintro ⟨hr, -, hp⟩
    rw [hr, decide_eq_true hp] at hno
    exact absurd hno (by simp)

theorem servo_heard {n h : Nat} {s : State} (ht : pktType h = 3) (hr : receiving s n = true) (hp : pktPart h < servoParts s n) (words : List Nat)
    (sets : List (List (List Nat))) : servo n h words sets s =
      if (servoHeard n h words sets s).on (SV_CTRL_ENABLE n) then
        (if pktPart h + 1 = servoParts (servoGathered n (pktPart h) (pktWindow h) sets (servoHeard n h words sets s)) n then
          (if ((servoGathered n (pktPart h) (pktWindow h) sets (servoHeard n h words sets s)).sup n).parts
              = List.range (servoParts (servoGathered n (pktPart h) (pktWindow h) sets (servoHeard n h words sets s)) n) then
            formSample (servoGathered n (pktPart h) (pktWindow h) sets (servoHeard n h words sets s)) n (pktWindow h)
          else (servoGathered n (pktPart h) (pktWindow h) sets (servoHeard n h words sets s)).modSup n fun u => { u with parts := [], acc := [] })
        else servoGathered n (pktPart h) (pktWindow h) sets (servoHeard n h words sets s))
      else servoHeard n h words sets s := by
  have hyes : (receiving s n && decide (pktPart h < servoParts s n)) = true := by rw [hr, decide_eq_true hp]; rfl
  have hheard : (receiving (servoHeard n h words sets s) n = true ∧ (servoHeard n h words sets s).on (SV_CTRL_ENABLE n) = true
      ∧ pktPart h < servoParts (servoHeard n h words sets s) n) ↔ (servoHeard n h words sets s).on (SV_CTRL_ENABLE n) = true := by
    rw [servoHeard_receiving, servoHeard_parts, hr]
    simp [hp]
  unfold servo
  dsimp only
  rw [if_neg (not_not_intro ht), hyes, State.iff_true]
  exact if_congr hheard rfl rfl

theorem servo_off {n h : Nat} {s : State} (ht : pktType h = 3) (hr : receiving s n = true) (he : s.get (SV_CTRL_ENABLE n) ≠ 1) (words : List Nat)
    (sets : List (List (List Nat))) : (servo n h words sets s).sups = s.sups ∧ SameFields [LK_CNT_PKT_LOST n] s (servo n h words sets s) := by
  by_cases hp : pktPart h < servoParts s n
  · rw [servo_heard ht hr hp, if_neg (by rw [State.on, servoHeard_enable, beq_iff_eq]; exact he)]
    exact ⟨servoHeard_sups n h words sets s, servoHeard_sameFields n h words sets s⟩
  · rw [servo_idle (.inr (.inr (Nat.not_lt.1 hp)))]
    exact ⟨rfl, .refl _ s⟩

/-- A part of a window that is heard with the servo on, and its place in the window. -/
theorem servo_gathers {n h : Nat} {s : State} (ht : pktType h = 3) (hr : receiving s n = true) (he : s.get (SV_CTRL_ENABLE n) = 1)
    (hp : pktPart h + 1 < servoParts s n) (words : List Nat) (sets : List (List (List Nat))) :
    ((servo n h words sets s).sup n).window = pktWindow h ∧ ((servo n h words sets s).sup n).sample = (s.sup n).sample
      ∧ SameFields [LK_CNT_PKT_LOST n] s (servo n h words sets s)
      ∧ ((servo n h words sets s).sup n).parts = (if pktPart h = 0 ∨ (s.sup n).window ≠ pktWindow h then [] else (s.sup n).parts) ++ [pktPart h] := by
  have hparts : servoParts (servoGathered n (pktPart h) (pktWindow h) sets (servoHeard n h words sets s)) n = servoParts s n := by
    rw [servoParts, isN1, State.get_of_fld (servoGathered_fld _ _ _ _ _), ← isN1, ← servoParts, servoHeard_parts]
  have hsup : (servoHeard n h words sets s).sup n = s.sup n := by rw [State.sup, State.sup, servoHeard_sups]
  rw [servo_heard ht hr (by omega), if_pos (by rw [State.on, servoHeard_enable, he]; rfl), hparts, if_neg (by omega)]
  obtain ⟨hw, hs, hg⟩ := servoGathered_sup n (pktPart h) (pktWindow h) sets (servoHeard n h words sets s)
  rw [hsup] at hs hg
  exact ⟨hw, hs, (servoHeard_sameFields n h words sets s).trans (.of_fld (servoGathered_fld _ _ _ _ _)), hg⟩

/-- The last part of a window with all of its parts closes it (R265). -/
theorem servo_closes {n h : Nat} {s : State} (ht : pktType h = 3) (hr : receiving s n = true) (he : s.get (SV_CTRL_ENABLE n) = 1)
    (hp : pktPart h + 1 = servoParts s n) (hw : (s.sup n).window = pktWindow h) (hall : (s.sup n).parts ++ [pktPart h] = List.range (servoParts s n))
    (words : List Nat) (sets : List (List (List Nat))) : ((servo n h words sets s).sup n).sample ≠ none
      ∧ ((servo n h words sets s).sup n).lastWindow = some (pktWindow h) ∧ ((servo n h words sets s).sup n).parts = [] := by
  have hparts : servoParts (servoGathered n (pktPart h) (pktWindow h) sets (servoHeard n h words sets s)) n = servoParts s n := by
    rw [servoParts, isN1, State.get_of_fld (servoGathered_fld _ _ _ _ _), ← isN1, ← servoParts, servoHeard_parts]
  have hsup : (servoHeard n h words sets s).sup n = s.sup n := by rw [State.sup, State.sup, servoHeard_sups]
  have hlast : pktPart h ≠ 0 := by
    unfold servoParts at hp
    split at hp <;> omega
  have hwhole : ((servoGathered n (pktPart h) (pktWindow h) sets (servoHeard n h words sets s)).sup n).parts = List.range (servoParts s n) := by
    rw [(servoGathered_sup _ _ _ _ _).2.2, hsup, if_neg (not_or.2 ⟨hlast, not_not_intro hw⟩), hall]
  rw [servo_heard ht hr (by omega), if_pos (by rw [State.on, servoHeard_enable, he]; rfl), hparts, if_pos hp, if_pos hwhole]
  exact formSample_closes _ n (pktWindow h)

end Sys2Proof.Machine

/-!
A pen's status and its claim status: what they show, and how a link without a valid downlink goes DOWN (R190, R266, R267, R275, R281, R285).
-/

namespace Sys2Proof.Machine

/-! ### A link that goes DOWN (R281) -/

/-- A field of pen n's link or servo registers that cutting short the pen's codewords and descriptors does not reach. -/
structure PenFld (n : Nat) (f : Fld) : Prop where
  pool : notPool f
  offsets : notOffsets n f
  incomplete : f.key ≠ (RC_EVENT_INCOMPLETE n).key
  completed : ∀ g ∈ completedOf n, f.key ≠ g.key

/-- Fields of the link's block, and those of the servo's block past its status, are such fields. -/
theorem penFld_of {n o : Nat} (hn : n < 16) {f : Fld} (ha : f.addr = penBase n + o) (ho : o < 0x1000 ∨ 0x48044 ≤ o ∧ o < 0x49000) (hl : f.lo < 64) :
    PenFld n f := by
  refine ⟨?_, ⟨?_, fun i hi => ?_⟩, ?_, fun g hg => ?_⟩
  · simp only [notPool, notInk, Fld.block, Fld.key, ha, penBase]
    omega
  · simp only [Fld.key, ha, SV_STATUS_RETRY_OFS, svBase]
    omega
  · simp only [Fld.key, ha, LE_OFS_OFS, leBase, if_pos hn]
    omega
  · simp only [Fld.key, ha, RC_EVENT_INCOMPLETE, rcBase]
    omega
  · have hg := completedOf_range g hg
    have hf : f.key = (penBase n + o) * 64 + f.lo := by rw [Fld.key, ha]
    simp only [wcBase, secBase, penBase] at hg hf
    omega

/-- Codewords and descriptors that a lost link cuts short leave the fields of the link and the servo. -/
theorem linkCut_get {n : Nat} {f : Fld} (h : PenFld n f) (s : State) :
    (cutGroup (incompletePen (cutPending s n fun _ => true) n) n).get f = s.get f := by
  rw [(cutGroup_sameBut _ n).get f h.pool.1 h.completed, incompletePen_get _ _ h.pool h.incomplete, cutPending_get _ _ _ h.pool h.offsets]

theorem refreshQuad_get (s : State) (n : Nat) (f : Fld) : (refreshQuad s n).get f = s.get f := State.get_iff_of _ _ _ (State.modLink_get _ _ _ _)

theorem enterDown_state (s : State) (n : Nat) : (enterDown s n).get (LK_STATUS_STATE n) = 0 := by
  rw [enterDown, enterLk, refreshQuad_get, State.get_set]
  rfl

/-- The fields of the link that going DOWN sets. -/
def downOf (n : Nat) : List Fld :=
  [LK_STATUS_STATE n, LK_STATUS_GEN n, LK_STATUS_LANES n, LK_STATUS_DEGRADED n, LK_CTRL_DESKEW n]

theorem enterDown_sameFields (s : State) (n : Nat) :
    SameFields (downOf n) s (enterDown ((s.set (LK_STATUS_DEGRADED n) 0).set (LK_CTRL_DESKEW n) 0) n) := by
  refine .trans (.set (.set (.set (.set (.set (.refl _ s) (LK_STATUS_DEGRADED n) 0 ?_) (LK_CTRL_DESKEW n) 0 ?_) (LK_STATUS_GEN n) 0 ?_)
    (LK_STATUS_LANES n) 0 ?_) (LK_STATUS_STATE n) lkDown ?_) fun f _ => refreshQuad_get _ n f
  all_goals simp [downOf]

/-- The codewords and descriptors of a pen whose link goes down have been cut short. -/
def linkDropped (s : State) (n : Nat) : State :=
  (cutGroup (incompletePen (cutPending ((s.ev (LK_EVENT_LINK_DOWN n)).bump (LK_CNT_LINK_DOWNS n) 1) n fun _ => true) n) n).modLink n fun l =>
    { l with suspended := false, seqs := [], slots := [] }

theorem linkLoss_up {s : State} {n : Nat} (h : linkUp s n = true) :
    linkLoss s n = enterDown (((linkDropped s n).set (LK_STATUS_DEGRADED n) 0).set (LK_CTRL_DESKEW n) 0) n := if_pos h

theorem linkDropped_get {n : Nat} {f : Fld} (h : PenFld n f) (s : State) :
    (linkDropped s n).get f = ((s.ev (LK_EVENT_LINK_DOWN n)).bump (LK_CNT_LINK_DOWNS n) 1).get f := by
  rw [linkDropped, State.modLink_get, linkCut_get h]

/-- A link that goes down is DOWN, and its event tells (R281). -/
theorem linkLoss_effect {n : Nat} (hn : n < 16) {s : State} (h : linkUp s n = true) :
    lkState (linkLoss s n) n = 0 ∧ (linkLoss s n).get (LK_EVENT_LINK_DOWN n) = 1 := by
  rw [linkLoss_up h]
  refine ⟨enterDown_state _ n, ?_⟩
  rw [(enterDown_sameFields _ n).get, linkDropped_get (penFld_of (o := 0x30) hn rfl (.inl (by decide)) (Nat.le_of_ble_eq_true rfl)), State.get_bump_ne]
  · exact State.get_ev _ _ (Nat.le_of_ble_eq_true rfl)
  · simp only [Fld.key, LK_EVENT_LINK_DOWN, LK_CNT_LINK_DOWNS]
    omega
  · simp only [downOf, List.forall_mem_cons, List.not_mem_nil, false_imp_iff, implies_true, and_true, Fld.key, LK_EVENT_LINK_DOWN, LK_STATUS_STATE,
      LK_STATUS_GEN, LK_STATUS_LANES, LK_STATUS_DEGRADED, LK_CTRL_DESKEW]
    omega

/-- What a link that goes down leaves: the pen's fields but for those that show it. -/
theorem linkLoss_get {n : Nat} {f : Fld} (h : PenFld n f) (hd : ∀ g ∈ [LK_EVENT_LINK_DOWN n, LK_CNT_LINK_DOWNS n] ++ downOf n, f.key ≠ g.key)
    (s : State) : (linkLoss s n).get f = s.get f := by
  obtain ⟨hev, hdown⟩ := List.forall_mem_append.1 hd
  by_cases hu : linkUp s n = true
  · rw [linkLoss_up hu, (enterDown_sameFields _ n).get hdown, linkDropped_get h, State.get_bump_ne _ _ (hev _ (by simp)),
      State.get_ev_ne _ (hev _ (by simp))]
  · rw [linkLoss, if_neg hu]

/-! ### PEN_STATUS -/

/-- Word i of a packet, as a number. -/
theorem getD_words (words : List Word) (i : Nat) : (words.map BitVec.toNat).getD i 0 = (words.getD i 0).toNat :=
  List.getD_map words (0 : Word) BitVec.toNat

/-- The flags and the sample index of a pen's status are shown, and its temperatures and lens kept (R263, R266). -/
def statusShown (n window : Nat) (w : List Nat) (s : State) : State :=
  let s := notePkt s n 128 window 65536
  let old := (s.link n).sidx
  let sidx := (old + (toSigned 32 ((w.getD 0 0 + 2 ^ 32 - old % 2 ^ 32) % 2 ^ 32))).toNat
  let flags := w.getD 1 0
  let s := s.modLink n fun l =>
    { l with lens := w.getD 2 0 / 2 ^ 16, burning := flags % 2 ^ 16, penTemp := w.getD 11 0 / 2 ^ 16
             nibWords := if isN1 s n then ((w.drop 12).take 4).flatMap fun x => [x / 2 ^ 16, x % 2 ^ 16] else l.nibWords }
  ((showSidx s n sidx).set (LK_FLAGS_FLAGS n) (flags / 2 ^ 16)).set (LK_FLAGS_LASER_T n) (w.getD 3 0)

/-- WRITE_HOLD follows the pen's flag, and its rise has an event (R136). -/
def holdShown (n : Nat) (hold : Bool) (s : State) : State :=
  if hold = true ∧ s.on (WC_STATUS_WRITE_HOLD n) = false then writeHoldRise n s else s.set (WC_STATUS_WRITE_HOLD n) (if hold then 1 else 0)

/-- What was corrected on the lanes is counted (R285). -/
def lanesCounted (n : Nat) (corrected w : List Nat) (s : State) : State :=
  ((s.each [0, 1, 2, 3] fun s i => s.bump (LK_LANE_CORR_CORR n i) (corrected.getD i 0)).bump (LK_LANE_CORR_CORR n 4) (w.getD 10 0 / 2 ^ 16)).bump
    (LK_LANE_UNC_UNC n 4) (w.getD 10 0 % 2 ^ 16)

/-- All that a pen's status shows, before the link goes down where the downlink is not valid. -/
def statusNoted (n window : Nat) (w corrected : List Nat) (s : State) : State :=
  lanesCounted n corrected w (penEcho (penDelay (holdShown n ((w.getD 1 0).testBit 30) (penState (statusShown n window w s) n (w.getD 1 0))) n
    (w.getD 2 0 % 2 ^ 16)) n (w.getD 3 0 / 2 ^ 16) w)

theorem penStatus_idle {n h : Nat} {s : State} (hi : pktType h ≠ 4 ∨ receiving s n = false) (words : List Word) (corr : List Nat) :
    penStatus n h words corr s = s := by
  refine if_neg fun ⟨ht, hr⟩ => ?_
  rcases hi with h | h
  · exact h ht
  · rw [h] at hr
    exact Bool.false_ne_true hr

theorem penStatus_received {n h : Nat} {s : State} (ht : pktType h = 4) (hr : receiving s n = true) (words : List Word) (corr : List Nat) :
    penStatus n h words corr s = if ((words.map BitVec.toNat).getD 1 0).testBit 27 then statusNoted n (pktWindow h) (words.map BitVec.toNat) corr s
      else linkLoss (statusNoted n (pktWindow h) (words.map BitVec.toNat) corr s) n := if_pos ⟨ht, hr⟩

theorem showSidx_sameFields (s : State) (n i : Nat) : SameFields [LK_SIDX_SIDX n] s (showSidx s n i) := by
  unfold showSidx
  exact .trans (.set (.refl _ s) (LK_SIDX_SIDX n) i (by simp)) (.of_fld (State.modLink_fld _ _ _))

theorem statusShown_sameFields (n window : Nat) (w : List Nat) (s : State) :
    SameFields [LK_CNT_PKT_LOST n, LK_SIDX_SIDX n, LK_FLAGS_FLAGS n, LK_FLAGS_LASER_T n] s (statusShown n window w s) := by
  unfold statusShown
  extract_lets noted old sidx flags kept
  have hnoted : SameFields [LK_CNT_PKT_LOST n, LK_SIDX_SIDX n, LK_FLAGS_FLAGS n, LK_FLAGS_LASER_T n] s noted :=
    (notePkt_onlyLost s n 128 window 65536).mono (by simp)
  have hkept : SameFields [LK_CNT_PKT_LOST n, LK_SIDX_SIDX n, LK_FLAGS_FLAGS n, LK_FLAGS_LASER_T n] noted kept := .of_fld rfl
  have hshown := (hnoted.trans hkept).trans ((showSidx_sameFields kept n sidx).mono (by simp))
  exact .set (.set hshown (LK_FLAGS_FLAGS n) _ (by simp)) (LK_FLAGS_LASER_T n) _ (by simp)

theorem statusShown_flags (n window : Nat) (w : List Nat) (s : State) :
    (statusShown n window w s).get (LK_FLAGS_FLAGS n) = w.getD 1 0 / 2 ^ 16 % 2 ^ 16 := by
  unfold statusShown
  extract_lets noted old sidx flags kept
  rw [State.get_set_ne _ _ (Fld.key_ne_of_lo (f := LK_FLAGS_FLAGS n) (g := LK_FLAGS_LASER_T n) rfl (Nat.ne_of_gt (Nat.le_of_ble_eq_true rfl))),
    State.get_set]
  rfl

/-- The state that a pen's flags report (R275). -/
def stateOf (flags : Nat) : Nat := if flags.testBit 28 then 2 else if flags.testBit 29 then 1 else 0

theorem penState_sameFields (s : State) (n flags : Nat) :
    SameFields [LK_STATUS_PEN_STATE n, LK_EVENT_HOLDING n, LK_EVENT_SAFE n] s (penState s n flags) :=
  (SameFields.frame _).iff ((SameFields.frame _).iff (.set (.refl _ s) (LK_STATUS_PEN_STATE n) _ (by simp)) fun _ =>
    .ev (.refl _ _) (LK_EVENT_HOLDING n) (by simp)) fun _ => .ev (.refl _ _) (LK_EVENT_SAFE n) (by simp)

theorem penState_state (s : State) (n flags : Nat) : (penState s n flags).get (LK_STATUS_PEN_STATE n) = stateOf flags := by
  have hkey : ∀ g : Fld, g.addr = lkBase n + 0x30 → g.lo < 64 → (LK_STATUS_PEN_STATE n).key ≠ g.key := fun g hg =>
    Fld.key_ne_of_addr (by rw [hg, LK_STATUS_PEN_STATE]; simp) (Nat.le_of_ble_eq_true rfl)
  have hlt : stateOf flags < 2 ^ 3 := by
    unfold stateOf
    split
    · decide
    · split <;> decide
  unfold penState
  dsimp only
  rw [State.get_iff_of _ _ _ (State.get_ev_ne _ (hkey _ rfl (Nat.le_of_ble_eq_true rfl))),
    State.get_iff_of _ _ _ (State.get_ev_ne _ (hkey _ rfl (Nat.le_of_ble_eq_true rfl))), State.get_set]
  exact Nat.mod_eq_of_lt hlt

/-- A pen that reports SAFE, and did not before, has its event (R275). -/
theorem penState_safe {s : State} {n flags : Nat} (h : flags.testBit 28 = true) (hw : s.get (LK_STATUS_PEN_STATE n) ≠ 2) :
    (penState s n flags).get (LK_EVENT_SAFE n) = 1 := by
  unfold penState
  dsimp only
  rw [if_pos h]
  have hsafe : ((2 : Nat) == 2 && s.get (LK_STATUS_PEN_STATE n) != 2) = true := by simp [hw]
  rw [hsafe, State.iff_true]
  exact State.get_ev _ _ (Nat.le_of_ble_eq_true rfl)

theorem holdShown_sameFields (n : Nat) (hold : Bool) (s : State) : SameFields [WC_STATUS_WRITE_HOLD n, WC_EVENT_WRITE_HOLD n] s (holdShown n hold s) := by
  unfold holdShown
  split
  · exact .ev (.set (.refl _ s) (WC_STATUS_WRITE_HOLD n) 1 (by simp)) (WC_EVENT_WRITE_HOLD n) (by simp)
  · exact .set (.refl _ s) (WC_STATUS_WRITE_HOLD n) _ (by simp)

theorem penDelay_sameFields (s : State) (n d : Nat) : SameFields [SV_DELAY_LAST_NS n, SV_DELAY_MAX_NS n, SV_EVENT_DELAY_OVER n] s (penDelay s n d) :=
  (SameFields.frame _).iff (.set (.set (.refl _ s) (SV_DELAY_LAST_NS n) _ (by simp)) (SV_DELAY_MAX_NS n) _ (by simp)) fun _ =>
    .ev (.refl _ _) (SV_EVENT_DELAY_OVER n) (by simp)

/-- The loop delay reported, the greatest one, and the event of one over its limit (R190). -/
theorem penDelay_fields (s : State) (n d : Nat) : (penDelay s n d).get (SV_DELAY_LAST_NS n) = min 65535 (4 * d)
    ∧ (penDelay s n d).get (SV_DELAY_MAX_NS n) = max (min 65535 (4 * d)) (s.get (SV_DELAY_MAX_NS n))
    ∧ (s.get (SV_DELAY_CFG_LIMIT_NS n) < min 65535 (4 * d) → (penDelay s n d).get (SV_EVENT_DELAY_OVER n) = 1) := by
  have key : (SV_DELAY_LAST_NS n).key ≠ (SV_DELAY_MAX_NS n).key ∧ (SV_DELAY_LAST_NS n).key ≠ (SV_EVENT_DELAY_OVER n).key
      ∧ (SV_DELAY_MAX_NS n).key ≠ (SV_EVENT_DELAY_OVER n).key ∧ (SV_DELAY_CFG_LIMIT_NS n).key ≠ (SV_DELAY_LAST_NS n).key
      ∧ (SV_DELAY_CFG_LIMIT_NS n).key ≠ (SV_DELAY_MAX_NS n).key := by
    simp only [Fld.key, SV_DELAY_LAST_NS, SV_DELAY_MAX_NS, SV_EVENT_DELAY_OVER, SV_DELAY_CFG_LIMIT_NS]
    omega
  obtain ⟨hlm, hle, hme, hcl, hcm⟩ := key
  have hmax : s.get (SV_DELAY_MAX_NS n) < 2 ^ 16 := s.get_lt (SV_DELAY_MAX_NS n)
  unfold penDelay
  dsimp only
  refine ⟨?_, ?_, fun h => ?_⟩
  · rw [State.get_iff_of _ _ _ (State.get_ev_ne _ hle), State.get_set_ne _ _ hlm, State.get_set]
    exact Nat.mod_eq_of_lt (by simp only [SV_DELAY_LAST_NS]; omega)
  · rw [State.get_iff_of _ _ _ (State.get_ev_ne _ hme), State.get_set]
    exact Nat.mod_eq_of_lt (by simp only [SV_DELAY_MAX_NS] at hmax ⊢; omega)
  · rw [State.get_set_ne _ _ hcm, State.get_set_ne _ _ hcl, decide_eq_true h, State.iff_true]
    exact State.get_ev _ _ (Nat.le_of_ble_eq_true rfl)

theorem penEcho_fld (s : State) (n window : Nat) (w : List Nat) : (penEcho s n window w).fld = s.fld := by
  have hecho : ∀ (l : List Nat) (g : Nat → Nat) (v : Nat → Int) (s : State),
      (s.each l fun s i => echoArrives s n (g i) window (v i)).fld = s.fld := fun l g v s => State.each_keeps State.fld s l _ fun _ _ _ => rfl
  unfold penEcho
  exact (hecho _ _ _ _).trans (hecho _ _ _ _)

/-- Counters of different keys, each raised once: one of them shows its own increment. -/
theorem State.get_each_bump {F : Nat → Fld} (hF : ∀ i j, i ≠ j → (F i).key ≠ (F j).key) (g : Nat → Nat) {l : List Nat} (hl : l.Nodup) {i : Nat}
    (hi : i ∈ l) (s : State) : (s.each l fun s j => s.bump (F j) (g j)).get (F i) = min (s.get (F i) + g i) (2 ^ (F i).width - 1) := by
  have hskip : ∀ (l : List Nat) (s : State), i ∉ l → (s.each l fun s j => s.bump (F j) (g j)).get (F i) = s.get (F i) := fun l s hn =>
    State.get_each_of _ _ _ fun s j hj => State.get_bump_ne _ _ (hF i j fun e => hn (e ▸ hj))
  induction l generalizing s with
  | nil => exact absurd hi List.not_mem_nil
  | cons j l ih =>
    obtain ⟨hj, hl⟩ := List.nodup_cons.1 hl
    rw [State.each_cons]
    rcases List.mem_cons.1 hi with rfl | hi
    · rw [hskip l _ hj, State.get_bump]
    · rw [ih hl hi, State.get_bump_ne _ _ (hF i j fun e => hj (e ▸ hi))]

theorem laneCorr_key {n i j : Nat} (h : i ≠ j) : (LK_LANE_CORR_CORR n i).key ≠ (LK_LANE_CORR_CORR n j).key := by
  simp only [Fld.key, LK_LANE_CORR_CORR]
  omega

theorem lanesCounted_corr (n : Nat) (corrected w : List Nat) (s : State) (i : Fin 4) : (lanesCounted n corrected w s).get (LK_LANE_CORR_CORR n i)
    = min (s.get (LK_LANE_CORR_CORR n i) + corrected.getD i 0) (2 ^ 32 - 1) := by
  rw [lanesCounted, State.get_bump_ne, State.get_bump_ne _ _ (laneCorr_key (Nat.ne_of_lt i.isLt)),
    State.get_each_bump (F := LK_LANE_CORR_CORR n) (fun _ _ => laneCorr_key) (fun j => corrected.getD j 0) (by decide)
      (by have := i.isLt; simp only [List.mem_cons, List.not_mem_nil, or_false]; omega)]
  · rfl
  · simp only [Fld.key, LK_LANE_CORR_CORR, LK_LANE_UNC_UNC]
    omega

/-- Fields outside the lanes' counters read as before where the lanes are counted. -/
theorem lanesCounted_get {n : Nat} {f : Fld} (ha : f.addr < lkBase n + 0x100 ∨ lkBase n + 0x1000 ≤ f.addr) (hl : f.lo < 64) (corrected w : List Nat)
    (s : State) : (lanesCounted n corrected w s).get f = s.get f := by
  have hcorr : ∀ i < 5, f.key ≠ (LK_LANE_CORR_CORR n i).key := fun i hi => by
    simp only [Fld.key, LK_LANE_CORR_CORR]
    omega
  have hunc : f.key ≠ (LK_LANE_UNC_UNC n 4).key := by
    simp only [Fld.key, LK_LANE_UNC_UNC]
    omega
  rw [lanesCounted, State.get_bump_ne _ _ hunc, State.get_bump_ne _ _ (hcorr 4 (by decide))]
  refine State.get_each_of _ _ _ fun s i hi => State.get_bump_ne _ _ (hcorr i ?_)
  simp only [List.mem_cons, List.not_mem_nil, or_false] at hi
  omega

/-- What a pen's status leaves before its loop delay is noted: fields outside the flags, the pen's state and WRITE_HOLD. -/
theorem stateNoted_get {n : Nat} {f : Fld} (hlost : f.key ≠ (LK_CNT_PKT_LOST n).key)
    (hs : f.addr ≠ lkBase n + 0x14 ∧ f.addr ≠ lkBase n + 0x10 ∧ f.addr ≠ lkBase n + 0x30 ∧ f.addr ≠ wcBase n + 0x30 ∧ f.addr ≠ wcBase n + 0x40)
    (hp : f.key ≠ (LK_STATUS_PEN_STATE n).key) (hl : f.lo < 64) (window : Nat) (w : List Nat) (s : State) (hold : Bool) (flags : Nat) :
    (holdShown n hold (penState (statusShown n window w s) n flags)).get f = s.get f := by
  obtain ⟨hx, hf, he, hh, hv⟩ := hs
  rw [(holdShown_sameFields n hold _).get, (penState_sameFields _ n flags).get, (statusShown_sameFields n window w s).get]
  · simp only [List.forall_mem_cons, List.not_mem_nil, false_imp_iff, implies_true, and_true]
    exact ⟨hlost, Fld.key_ne_of_addr hx hl (Nat.le_of_ble_eq_true rfl), Fld.key_ne_of_addr hf hl (Nat.le_of_ble_eq_true rfl),
      Fld.key_ne_of_addr hf hl (Nat.le_of_ble_eq_true rfl)⟩
  · simp only [List.forall_mem_cons, List.not_mem_nil, false_imp_iff, implies_true, and_true]
    exact ⟨hp, Fld.key_ne_of_addr he hl (Nat.le_of_ble_eq_true rfl), Fld.key_ne_of_addr he hl (Nat.le_of_ble_eq_true rfl)⟩
  · simp only [List.forall_mem_cons, List.not_mem_nil, false_imp_iff, implies_true, and_true]
    exact ⟨Fld.key_ne_of_addr hh hl (Nat.le_of_ble_eq_true rfl), Fld.key_ne_of_addr hv hl (Nat.le_of_ble_eq_true rfl)⟩

/-- A field of the link's registers below its lanes reads after a pen's status as the pen's state left it. -/
theorem statusNoted_get_link {n o : Nat} {f : Fld} (ha : f.addr = lkBase n + o) (ho : o < 0x100) (hl : f.lo < 64) (window : Nat) (w corr : List Nat)
    (s : State) : (statusNoted n window w corr s).get f = (penState (statusShown n window w s) n (w.getD 1 0)).get f := by
  rw [statusNoted, lanesCounted_get (by rw [ha]; omega) hl, State.get_of_fld (penEcho_fld _ _ _ _), (penDelay_sameFields _ n _).get,
    (holdShown_sameFields n _ _).get]
  · simp only [List.forall_mem_cons, List.not_mem_nil, false_imp_iff, implies_true, and_true, Fld.key, ha, WC_STATUS_WRITE_HOLD, WC_EVENT_WRITE_HOLD,
      wcBase, lkBase]
    omega
  · simp only [List.forall_mem_cons, List.not_mem_nil, false_imp_iff, implies_true, and_true, Fld.key, ha, SV_DELAY_LAST_NS, SV_DELAY_MAX_NS,
      SV_EVENT_DELAY_OVER, svBase, lkBase]
    omega

/-- What a pen's status shows of its flags, its state, its loop delay and the lanes (R190, R266, R275, R285). -/
theorem statusNoted_fields (n window : Nat) (w corr : List Nat) (s : State) :
    (statusNoted n window w corr s).get (LK_FLAGS_FLAGS n) = w.getD 1 0 / 2 ^ 16 % 2 ^ 16
      ∧ (statusNoted n window w corr s).get (LK_STATUS_PEN_STATE n) = stateOf (w.getD 1 0)
      ∧ (statusNoted n window w corr s).get (SV_DELAY_LAST_NS n) = min 65535 (4 * (w.getD 2 0 % 2 ^ 16))
      ∧ (statusNoted n window w corr s).get (SV_DELAY_MAX_NS n) = max (min 65535 (4 * (w.getD 2 0 % 2 ^ 16))) (s.get (SV_DELAY_MAX_NS n))
      ∧ ((w.getD 1 0).testBit 28 = true → s.get (LK_STATUS_PEN_STATE n) ≠ 2 → (statusNoted n window w corr s).get (LK_EVENT_SAFE n) = 1)
      ∧ (s.get (SV_DELAY_CFG_LIMIT_NS n) < min 65535 (4 * (w.getD 2 0 % 2 ^ 16)) → (statusNoted n window w corr s).get (SV_EVENT_DELAY_OVER n) = 1)
      ∧ (∀ i : Fin 4, (statusNoted n window w corr s).get (LK_LANE_CORR_CORR n i)
          = min (s.get (LK_LANE_CORR_CORR n i) + corr.getD i 0) (2 ^ 32 - 1))
      ∧ (statusNoted n window w corr s).get (LK_STATUS_STATE n) = s.get (LK_STATUS_STATE n) := by
  have hservo : ∀ f : Fld, svBase n ≤ f.addr → f.lo < 64 → (statusNoted n window w corr s).get f
      = (penDelay (holdShown n ((w.getD 1 0).testBit 30) (penState (statusShown n window w s) n (w.getD 1 0))) n (w.getD 2 0 % 2 ^ 16)).get f :=
    fun f ha hl => by
      rw [statusNoted, lanesCounted_get (.inr (by simp only [svBase, lkBase] at ha ⊢; omega)) hl, State.get_of_fld (penEcho_fld _ _ _ _)]
  have hbefore : ∀ f : Fld, svBase n ≤ f.addr → f.lo < 64 →
      (holdShown n ((w.getD 1 0).testBit 30) (penState (statusShown n window w s) n (w.getD 1 0))).get f = s.get f := fun f ha hl => by
    simp only [svBase] at ha
    refine stateNoted_get (Fld.key_ne_of_addr ?_ hl (Nat.le_of_ble_eq_true rfl)) ?_ (Fld.key_ne_of_addr ?_ hl (Nat.le_of_ble_eq_true rfl)) hl _ _ _ _ _
    · simp only [LK_CNT_PKT_LOST, lkBase]
      omega
    · simp only [wcBase, lkBase]
      omega
    · simp only [LK_STATUS_PEN_STATE, lkBase]
      omega
  obtain ⟨hlast, hmax, hover⟩ := penDelay_fields (holdShown n ((w.getD 1 0).testBit 30) (penState (statusShown n window w s) n (w.getD 1 0))) n
    (w.getD 2 0 % 2 ^ 16)
  have hsv : ∀ o, svBase n ≤ svBase n + o := Nat.le_add_right _
  refine ⟨?_, ?_, ?_, ?_, fun hb hw => ?_, fun hd => ?_, fun i => ?_, ?_⟩
  · rw [statusNoted_get_link (o := 0x10) rfl (by decide) (Nat.le_of_ble_eq_true rfl), (penState_sameFields _ n _).get, statusShown_flags]
    simp only [List.forall_mem_cons, List.not_mem_nil, false_imp_iff, implies_true, and_true, Fld.key, LK_FLAGS_FLAGS, LK_STATUS_PEN_STATE,
      LK_EVENT_HOLDING, LK_EVENT_SAFE]
    omega
  · rw [statusNoted_get_link (o := 4) rfl (by decide) (Nat.le_of_ble_eq_true rfl), penState_state]
  · rw [hservo _ (hsv _) (Nat.le_of_ble_eq_true rfl), hlast]
  · rw [hservo _ (hsv _) (Nat.le_of_ble_eq_true rfl), hmax, hbefore _ (hsv _) (Nat.le_of_ble_eq_true rfl)]
  · rw [statusNoted_get_link (o := 0x30) rfl (by decide) (Nat.le_of_ble_eq_true rfl)]
    refine penState_safe hb ?_
    rw [(statusShown_sameFields n window w s).get]
    · exact hw
    · simp only [List.forall_mem_cons, List.not_mem_nil, false_imp_iff, implies_true, and_true, Fld.key, LK_STATUS_PEN_STATE, LK_CNT_PKT_LOST,
        LK_SIDX_SIDX, LK_FLAGS_FLAGS, LK_FLAGS_LASER_T]
      omega
  · rw [hservo _ (hsv _) (Nat.le_of_ble_eq_true rfl)]
    refine hover ?_
    rw [hbefore _ (hsv _) (Nat.le_of_ble_eq_true rfl)]
    exact hd
  · have hi := i.isLt
    rw [statusNoted, lanesCounted_corr, State.get_of_fld (penEcho_fld _ _ _ _), (penDelay_sameFields _ n _).get, stateNoted_get]
    · simp only [Fld.key, LK_LANE_CORR_CORR, LK_CNT_PKT_LOST]
      omega
    · simp only [LK_LANE_CORR_CORR, wcBase, lkBase]
      omega
    · simp only [Fld.key, LK_LANE_CORR_CORR, LK_STATUS_PEN_STATE]
      omega
    · exact Nat.le_of_ble_eq_true rfl
    · simp only [List.forall_mem_cons, List.not_mem_nil, false_imp_iff, implies_true, and_true, Fld.key, LK_LANE_CORR_CORR, SV_DELAY_LAST_NS,
        SV_DELAY_MAX_NS, SV_EVENT_DELAY_OVER, svBase, lkBase]
      omega
  · rw [statusNoted_get_link (o := 4) rfl (by decide) (Nat.le_of_ble_eq_true rfl), (penState_sameFields _ n _).get, (statusShown_sameFields n window w s).get]
    · simp only [List.forall_mem_cons, List.not_mem_nil, false_imp_iff, implies_true, and_true, Fld.key, LK_STATUS_STATE, LK_CNT_PKT_LOST,
        LK_SIDX_SIDX, LK_FLAGS_FLAGS, LK_FLAGS_LASER_T]
      omega
    · simp only [List.forall_mem_cons, List.not_mem_nil, false_imp_iff, implies_true, and_true, Fld.key, LK_STATUS_STATE, LK_STATUS_PEN_STATE,
        LK_EVENT_HOLDING, LK_EVENT_SAFE]
      omega

/-- What a pen's status shows stays where the link goes down with it. -/
theorem penStatus_get {n h : Nat} {f : Fld} (hf : PenFld n f) (hd : ∀ g ∈ [LK_EVENT_LINK_DOWN n, LK_CNT_LINK_DOWNS n] ++ downOf n, f.key ≠ g.key)
    {s : State} (ht : pktType h = 4) (hr : receiving s n = true) (words : List Word) (corr : List Nat) :
    (penStatus n h words corr s).get f = (statusNoted n (pktWindow h) (words.map BitVec.toNat) corr s).get f := by
  rw [penStatus_received ht hr]
  split
  · rfl
  · exact linkLoss_get hf hd _

/-- The fields of a pen's status are none of those that show a link DOWN. -/
theorem notDown_of {n o : Nat} {f : Fld} (ha : f.addr = penBase n + o) (h : (o = 0x4 ∧ f.lo < 20) ∨ (o = 0x30 ∧ f.lo ≠ 1 ∧ f.lo < 64) ∨
    (o ≠ 0 ∧ o ≠ 0x4 ∧ o ≠ 0x30 ∧ o ≠ 0x40 ∧ f.lo < 64)) : ∀ g ∈ [LK_EVENT_LINK_DOWN n, LK_CNT_LINK_DOWNS n] ++ downOf n, f.key ≠ g.key := by
  simp only [downOf, List.cons_append, List.nil_append, List.forall_mem_cons, List.not_mem_nil, false_imp_iff, implies_true, and_true, Fld.key, ha,
    LK_EVENT_LINK_DOWN, LK_CNT_LINK_DOWNS, LK_STATUS_STATE, LK_STATUS_GEN, LK_STATUS_LANES, LK_STATUS_DEGRADED, LK_CTRL_DESKEW, lkBase]
  omega

theorem receiving_linkUp {s : State} {n : Nat} (h : receiving s n = true) : linkUp s n = true := (Bool.and_eq_true_iff.1 h).1

/-- A pen's status: flags, state, loop delay and lanes, and the link's state by the downlink's validity (R190, R266, R275, R281, R285). -/
theorem penStatus_fields {n h : Nat} (hn : n < 16) {s : State} (ht : pktType h = 4) (hr : receiving s n = true) (words : List Word) (corr : List Nat)
    {f d : Nat} (hf : f = (words.getD 1 0).toNat) (hdl : d = min 65535 (4 * ((words.getD 2 0).toNat % 2 ^ 16))) :
    (penStatus n h words corr s).get (LK_FLAGS_FLAGS n) = f / 2 ^ 16
      ∧ (penStatus n h words corr s).get (LK_STATUS_PEN_STATE n) = (if f.testBit 28 then 2 else if f.testBit 29 then 1 else 0)
      ∧ (penStatus n h words corr s).get (SV_DELAY_LAST_NS n) = d
      ∧ (penStatus n h words corr s).get (SV_DELAY_MAX_NS n) = max d (s.get (SV_DELAY_MAX_NS n))
      ∧ (f.testBit 28 = true → s.get (LK_STATUS_PEN_STATE n) ≠ 2 → (penStatus n h words corr s).get (LK_EVENT_SAFE n) = 1)
      ∧ (s.get (SV_DELAY_CFG_LIMIT_NS n) < d → (penStatus n h words corr s).get (SV_EVENT_DELAY_OVER n) = 1)
      ∧ (∀ i : Fin 4, (penStatus n h words corr s).get (LK_LANE_CORR_CORR n i) = min (s.get (LK_LANE_CORR_CORR n i) + corr.getD i 0) (2 ^ 32 - 1))
      ∧ (f.testBit 27 = true → lkState (penStatus n h words corr s) n = 5)
      ∧ (f.testBit 27 = false → lkState (penStatus n h words corr s) n = 0 ∧ (penStatus n h words corr s).get (LK_EVENT_LINK_DOWN n) = 1) := by
  have hget : ∀ {o : Nat} {f : Fld}, f.addr = penBase n + o → (o < 0x1000 ∨ 0x48044 ≤ o ∧ o < 0x49000) → f.lo < 64 →
      ((o = 0x4 ∧ f.lo < 20) ∨ (o = 0x30 ∧ f.lo ≠ 1 ∧ f.lo < 64) ∨ (o ≠ 0 ∧ o ≠ 0x4 ∧ o ≠ 0x30 ∧ o ≠ 0x40 ∧ f.lo < 64)) →
      (penStatus n h words corr s).get f = (statusNoted n (pktWindow h) (words.map BitVec.toNat) corr s).get f := fun ha ho hl hp =>
    penStatus_get (penFld_of hn ha ho hl) (notDown_of ha hp) ht hr words corr
  obtain ⟨hflags, hstate, hlast, hmax, hsafe, hover, hcorr, hup⟩ := statusNoted_fields n (pktWindow h) (words.map BitVec.toNat) corr s
  have hbit : (words.map BitVec.toNat).getD 1 0 = f := (getD_words words 1).trans hf.symm
  have hlt : f < 2 ^ 32 := hf ▸ (words.getD 1 0).isLt
  have hstill : linkUp (statusNoted n (pktWindow h) (words.map BitVec.toNat) corr s) n = true := by
    rw [linkUp, hup]
    exact receiving_linkUp hr
  have hcase := penStatus_received ht hr words corr
  rw [getD_words, ← hdl] at hlast hmax hover
  rw [hbit] at hflags hstate hsafe hcase
  refine ⟨?_, ?_, ?_, ?_, fun hb hw => ?_, fun hd => ?_, fun i => ?_, fun hv => ?_, fun hv => ?_⟩
  · rw [hget (o := 0x10) rfl (.inl (by decide)) (Nat.le_of_ble_eq_true rfl) (by simp [LK_FLAGS_FLAGS]), hflags]
    omega
  · rw [hget (o := 4) rfl (.inl (by decide)) (Nat.le_of_ble_eq_true rfl) (by simp [LK_STATUS_PEN_STATE]), hstate, stateOf]
  · rw [hget (o := 0x48050) (Nat.add_assoc _ 0x40000 0x8050) (.inr (by decide)) (Nat.le_of_ble_eq_true rfl) (by simp [SV_DELAY_LAST_NS]), hlast]
  · rw [hget (o := 0x48050) (Nat.add_assoc _ 0x40000 0x8050) (.inr (by decide)) (Nat.le_of_ble_eq_true rfl) (by simp [SV_DELAY_MAX_NS]), hmax]
  · rw [hget (o := 0x30) rfl (.inl (by decide)) (Nat.le_of_ble_eq_true rfl) (by simp [LK_EVENT_SAFE])]
    exact hsafe hb hw
  · rw [hget (o := 0x48048) (Nat.add_assoc _ 0x40000 0x8048) (.inr (by decide)) (Nat.le_of_ble_eq_true rfl) (by simp [SV_EVENT_DELAY_OVER])]
    exact hover hd
  · have hi := i.isLt
    rw [hget (o := 0x100 + 0x10 * i + 0x0) rfl (.inl (by omega)) (Nat.le_of_ble_eq_true rfl) (by simp only [LK_LANE_CORR_CORR]; omega), hcorr i]
  · rw [hcase, if_pos hv, lkState, hup]
    exact beq_iff_eq.1 (receiving_linkUp hr)
  · rw [hcase, hv]
    exact linkLoss_effect hn hstill

end Sys2Proof.Machine

/-!
Claim status, acknowledgements, uncorrectable codewords, and the CLAIM and WRITE packets of a pen's downlink (R132, R264, R267, R268, R272, R279).
-/

namespace Sys2Proof.Machine

/-! ### CLAIM_STATUS (R267) -/

/-- The port and the claim that a pen names as obeyed are compared with those it named before (R267). -/
def claimHeard (n seq : Nat) (w : List Nat) (s : State) : State :=
  let s := notePkt s n 160 seq 256
  let port := (w.getD 0 0).testBit 31
  let held := (w.getD 0 0).testBit 30
  let changed := match (s.link n).claimSeen with | some q => q != (port, held) | none => false
  let s := s.iff changed fun s => s.ev (LK_EVENT_OBEY_CHANGE n)
  s.modLink n fun l => { l with claimSeen := some (port, held), ages := (w.getD 2 0 / 2 ^ 16, w.getD 2 0 % 2 ^ 16), claimAt := s.now }

/-- What the pen obeys and the claims it has received are shown (R267). -/
def claimShown (n : Nat) (w : List Nat) (s : State) : State :=
  let s := ((s.set (LK_CLAIM_OBEYED_PORT n) (if (w.getD 0 0).testBit 31 then 1 else 0)).set (LK_CLAIM_HELD n) (if (w.getD 0 0).testBit 30 then 1 else 0)).set
    (LK_CLAIM_CLAIM n) (w.getD 0 0)
  (s.set (LK_CLAIM_PORTS_PORT0 n) (w.getD 1 0 / 2 ^ 16)).set (LK_CLAIM_PORTS_PORT1 n) (w.getD 1 0 % 2 ^ 16)

/-- Whether the pen obeys this port, and what its other port claims (R267, R385, R387). -/
def claimObeyed (n : Nat) (here : Bool) (other : Nat) (s : State) : State :=
  let s := (s.set (LK_STATUS_OBEYED n) (if here then 1 else 0)).set (VRS_OUT_HELD_HERE n) (if here then 1 else 0)
  let s := s.set (VRS_OUT_OTHER_CLAIM n) other
  s.set (VRS_OUT_OTHER_HOLDS n) (if other / 4096 = 12 ∧ otherAge s n < 96000 then 1 else 0)

/-- The pen obeys the unit's claim on this port. -/
def obeysHere (n : Nat) (w : List Nat) (s : State) : Bool := (w.getD 0 0).testBit 30 && (w.getD 0 0).testBit 31 == s.on (LK_STATUS_PEN_PORT n)

theorem claimStatus_idle {n h : Nat} {s : State} (hi : pktType h ≠ 5 ∨ receiving s n = false) (words : List Word) : claimStatus n h words s = s := by
  refine if_neg fun ⟨ht, hr⟩ => ?_
  rcases hi with h | h
  · exact h ht
  · rw [h] at hr
    exact Bool.false_ne_true hr

/-- A pen's claim status once its claims are shown: burns end where the pen no longer obeys the port (R151, R267). -/
def claimFollowed (n : Nat) (w : List Nat) (s : State) : State :=
  claimObeyed n (obeysHere n w s) (if s.on (LK_STATUS_PEN_PORT n) then w.getD 1 0 / 2 ^ 16 else w.getD 1 0 % 2 ^ 16)
    (s.iff (s.on (LK_STATUS_OBEYED n) && !obeysHere n w s) fun s => stopGroup s n)

theorem claimStatus_received {n h : Nat} {s : State} (ht : pktType h = 5) (hr : receiving s n = true) (words : List Word) :
    claimStatus n h words s = claimFollowed n (words.map BitVec.toNat)
      (claimShown n (words.map BitVec.toNat) (claimHeard n (pktSeq h) (words.map BitVec.toNat) s)) := if_pos ⟨ht, hr⟩

theorem claimHeard_sameFields (n seq : Nat) (w : List Nat) (s : State) : SameFields [LK_CNT_PKT_LOST n, LK_EVENT_OBEY_CHANGE n] s (claimHeard n seq w s) := by
  unfold claimHeard
  extract_lets noted port held changed told
  have hnoted : SameFields [LK_CNT_PKT_LOST n, LK_EVENT_OBEY_CHANGE n] s noted := (notePkt_onlyLost s n 160 seq 256).mono (by simp)
  have htold : SameFields [LK_CNT_PKT_LOST n, LK_EVENT_OBEY_CHANGE n] noted told :=
    (SameFields.frame _).iff (.refl _ _) fun _ => .ev (.refl _ _) (LK_EVENT_OBEY_CHANGE n) (by simp)
  exact (hnoted.trans htold).trans (.of_fld (State.modLink_fld _ _ _))

/-- A pen that names another port or claim than before has its event (R267). -/
theorem claimHeard_change {n : Nat} {s : State} {q : Bool × Bool} (hq : (s.link n).claimSeen = some q) {w : List Nat}
    (hne : q ≠ ((w.getD 0 0).testBit 31, (w.getD 0 0).testBit 30)) (seq : Nat) : (claimHeard n seq w s).get (LK_EVENT_OBEY_CHANGE n) = 1 := by
  have hseen : ((notePkt s n 160 seq 256).link n).claimSeen = some q := by
    rw [notePkt, State.link_modLink]
    exact hq
  have hch : (q != ((w.getD 0 0).testBit 31, (w.getD 0 0).testBit 30)) = true := bne_iff_ne.2 hne
  unfold claimHeard
  dsimp only
  rw [hseen]
  dsimp only
  rw [hch, State.iff_true, State.modLink_get]
  exact State.get_ev _ _ (Nat.le_of_ble_eq_true rfl)

/-- The fields that show a pen's claims. -/
def claimShownOf (n : Nat) : List Fld :=
  [LK_CLAIM_OBEYED_PORT n, LK_CLAIM_HELD n, LK_CLAIM_CLAIM n, LK_CLAIM_PORTS_PORT0 n, LK_CLAIM_PORTS_PORT1 n]

theorem claimShown_sameFields (n : Nat) (w : List Nat) (s : State) : SameFields (claimShownOf n) s (claimShown n w s) := by
  unfold claimShown
  dsimp only
  iterate 5 refine SameFields.set ?_ _ _ (by simp [claimShownOf])
  exact .refl _ s

theorem claimShown_fields (n : Nat) (w : List Nat) (s : State) :
    (claimShown n w s).get (LK_CLAIM_OBEYED_PORT n) = (if (w.getD 0 0).testBit 31 then 1 else 0)
      ∧ (claimShown n w s).get (LK_CLAIM_HELD n) = (if (w.getD 0 0).testBit 30 then 1 else 0)
      ∧ (claimShown n w s).get (LK_CLAIM_CLAIM n) = w.getD 0 0 % 2 ^ 16
      ∧ (claimShown n w s).get (LK_CLAIM_PORTS_PORT0 n) = w.getD 1 0 / 2 ^ 16 % 2 ^ 16
      ∧ (claimShown n w s).get (LK_CLAIM_PORTS_PORT1 n) = w.getD 1 0 % 2 ^ 16 := by
  have bit : ∀ b : Bool, (if b then 1 else 0) % 2 ^ 1 = if b then 1 else 0 := fun b => by cases b <;> rfl
  have hports : ∀ f : Fld, f.addr = lkBase n + 0x18 → f.lo < 64 → f.key ≠ (LK_CLAIM_PORTS_PORT0 n).key ∧ f.key ≠ (LK_CLAIM_PORTS_PORT1 n).key :=
    fun f ha hl => ⟨Fld.key_ne_of_addr (by rw [ha, LK_CLAIM_PORTS_PORT0]; simp) hl (Nat.le_of_ble_eq_true rfl),
      Fld.key_ne_of_addr (by rw [ha, LK_CLAIM_PORTS_PORT1]; simp) hl (Nat.le_of_ble_eq_true rfl)⟩
  obtain ⟨hp0, hp1⟩ := hports (LK_CLAIM_OBEYED_PORT n) rfl (Nat.le_of_ble_eq_true rfl)
  obtain ⟨hh0, hh1⟩ := hports (LK_CLAIM_HELD n) rfl (Nat.le_of_ble_eq_true rfl)
  obtain ⟨hc0, hc1⟩ := hports (LK_CLAIM_CLAIM n) rfl (Nat.le_of_ble_eq_true rfl)
  have hlo : (LK_CLAIM_OBEYED_PORT n).key ≠ (LK_CLAIM_HELD n).key ∧ (LK_CLAIM_OBEYED_PORT n).key ≠ (LK_CLAIM_CLAIM n).key
      ∧ (LK_CLAIM_HELD n).key ≠ (LK_CLAIM_CLAIM n).key ∧ (LK_CLAIM_PORTS_PORT0 n).key ≠ (LK_CLAIM_PORTS_PORT1 n).key := by
    simp only [Fld.key, LK_CLAIM_OBEYED_PORT, LK_CLAIM_HELD, LK_CLAIM_CLAIM, LK_CLAIM_PORTS_PORT0, LK_CLAIM_PORTS_PORT1]
    omega
  obtain ⟨hph, hpc, hhc, h01⟩ := hlo
  unfold claimShown
  dsimp only
  refine ⟨?_, ?_, ?_, ?_, ?_⟩
  · rw [State.get_set_ne _ _ hp1, State.get_set_ne _ _ hp0, State.get_set_ne _ _ hpc, State.get_set_ne _ _ hph, State.get_set]
    exact bit _
  · rw [State.get_set_ne _ _ hh1, State.get_set_ne _ _ hh0, State.get_set_ne _ _ hhc, State.get_set]
    exact bit _
  · rw [State.get_set_ne _ _ hc1, State.get_set_ne _ _ hc0, State.get_set]
    rfl
  · rw [State.get_set_ne _ _ h01, State.get_set]
    rfl
  · rw [State.get_set]
    exact Nat.mod_mod _ _

/-- The fields that show whether the pen obeys this port, and what its other port claims. -/
def obeyedOf (n : Nat) : List Fld := [LK_STATUS_OBEYED n, VRS_OUT_HELD_HERE n, VRS_OUT_OTHER_CLAIM n, VRS_OUT_OTHER_HOLDS n]

theorem claimObeyed_sameFields (n : Nat) (here : Bool) (other : Nat) (s : State) : SameFields (obeyedOf n) s (claimObeyed n here other s) := by
  unfold claimObeyed
  dsimp only
  iterate 4 refine SameFields.set ?_ _ _ (by simp [obeyedOf])
  exact .refl _ s

theorem claimObeyed_fields {n : Nat} (hn : n < 16) (here : Bool) (other : Nat) (s : State) :
    (claimObeyed n here other s).get (LK_STATUS_OBEYED n) = (if here then 1 else 0)
      ∧ (claimObeyed n here other s).get (VRS_OUT_HELD_HERE n) = (if here then 1 else 0) := by
  have bit : (if here then 1 else 0) % 2 ^ 1 = if here then 1 else 0 := by cases here <;> rfl
  have key : (LK_STATUS_OBEYED n).key ≠ (VRS_OUT_HELD_HERE n).key ∧ (LK_STATUS_OBEYED n).key ≠ (VRS_OUT_OTHER_CLAIM n).key
      ∧ (LK_STATUS_OBEYED n).key ≠ (VRS_OUT_OTHER_HOLDS n).key ∧ (VRS_OUT_HELD_HERE n).key ≠ (VRS_OUT_OTHER_CLAIM n).key
      ∧ (VRS_OUT_HELD_HERE n).key ≠ (VRS_OUT_OTHER_HOLDS n).key := by
    simp only [Fld.key, LK_STATUS_OBEYED, VRS_OUT_HELD_HERE, VRS_OUT_OTHER_CLAIM, VRS_OUT_OTHER_HOLDS, lkBase, penBase, vrsBase]
    omega
  obtain ⟨hoh, hoc, hoo, hhc, hho⟩ := key
  unfold claimObeyed
  dsimp only
  refine ⟨?_, ?_⟩
  · rw [State.get_set_ne _ _ hoo, State.get_set_ne _ _ hoc, State.get_set_ne _ _ hoh, State.get_set]
    exact bit
  · rw [State.get_set_ne _ _ hho, State.get_set_ne _ _ hhc, State.get_set]
    exact bit

/-- A field of the link that does not show what the pen obeys stays as its claims were shown. -/
theorem claimFollowed_get {n o : Nat} (hn : n < 16) {f : Fld} (ha : f.addr = penBase n + o) (ho : o < 0x1000) (h4 : o ≠ 4) (hl : f.lo < 64) (w : List Nat)
    (s : State) : (claimFollowed n w s).get f = s.get f := by
  have hf : PenFld n f := penFld_of hn ha (.inl ho) hl
  have hstop : ∀ b : Bool, (s.iff b fun s => stopGroup s n).get f = s.get f := fun b =>
    State.get_iff_of _ _ _ ((stopGroup_sameBut s n).get f hf.pool.1 hf.completed)
  rw [claimFollowed, (claimObeyed_sameFields n _ _ _).get, hstop]
  simp only [obeyedOf, List.forall_mem_cons, List.not_mem_nil, false_imp_iff, implies_true, and_true, Fld.key, ha, LK_STATUS_OBEYED, VRS_OUT_HELD_HERE,
    VRS_OUT_OTHER_CLAIM, VRS_OUT_OTHER_HOLDS, lkBase, penBase, vrsBase]
  omega

/-- A pen's claim status: the port and the claims it names, and whether it obeys this port (R267). -/
theorem claimStatus_fields {n h : Nat} (hn : n < 16) {s : State} (ht : pktType h = 5) (hr : receiving s n = true) (words : List Word) {w1 w2 : Nat}
    (h1 : w1 = (words.getD 0 0).toNat) (h2 : w2 = (words.getD 1 0).toNat) :
    (claimStatus n h words s).get (LK_CLAIM_OBEYED_PORT n) = (if w1.testBit 31 then 1 else 0)
      ∧ (claimStatus n h words s).get (LK_CLAIM_HELD n) = (if w1.testBit 30 then 1 else 0)
      ∧ (claimStatus n h words s).get (LK_CLAIM_CLAIM n) = w1 % 2 ^ 16 ∧ (claimStatus n h words s).get (LK_CLAIM_PORTS_PORT0 n) = w2 / 2 ^ 16
      ∧ (claimStatus n h words s).get (LK_CLAIM_PORTS_PORT1 n) = w2 % 2 ^ 16
      ∧ (claimStatus n h words s).get (LK_STATUS_OBEYED n) = (if w1.testBit 30 && w1.testBit 31 == s.on (LK_STATUS_PEN_PORT n) then 1 else 0)
      ∧ (claimStatus n h words s).get (VRS_OUT_HELD_HERE n) = (claimStatus n h words s).get (LK_STATUS_OBEYED n)
      ∧ ∀ q, (s.link n).claimSeen = some q → q ≠ (w1.testBit 31, w1.testBit 30) → (claimStatus n h words s).get (LK_EVENT_OBEY_CHANGE n) = 1 := by
  have hw1 : (words.map BitVec.toNat).getD 0 0 = w1 := (getD_words words 0).trans h1.symm
  have hw2 : (words.map BitVec.toNat).getD 1 0 = w2 := (getD_words words 1).trans h2.symm
  have hlt : w2 < 2 ^ 32 := h2 ▸ (words.getD 1 0).isLt
  have hport : (claimShown n (words.map BitVec.toNat) (claimHeard n (pktSeq h) (words.map BitVec.toNat) s)).get (LK_STATUS_PEN_PORT n)
      = s.get (LK_STATUS_PEN_PORT n) := by
    rw [(claimShown_sameFields n _ _).get, (claimHeard_sameFields n _ _ s).get]
    · simp only [List.forall_mem_cons, List.not_mem_nil, false_imp_iff, implies_true, and_true, Fld.key, LK_STATUS_PEN_PORT, LK_CNT_PKT_LOST,
        LK_EVENT_OBEY_CHANGE]
      omega
    · simp only [claimShownOf, List.forall_mem_cons, List.not_mem_nil, false_imp_iff, implies_true, and_true, Fld.key, LK_STATUS_PEN_PORT,
        LK_CLAIM_OBEYED_PORT, LK_CLAIM_HELD, LK_CLAIM_CLAIM, LK_CLAIM_PORTS_PORT0, LK_CLAIM_PORTS_PORT1]
      omega
  have hhere : obeysHere n (words.map BitVec.toNat) (claimShown n (words.map BitVec.toNat) (claimHeard n (pktSeq h) (words.map BitVec.toNat) s))
      = (w1.testBit 30 && w1.testBit 31 == s.on (LK_STATUS_PEN_PORT n)) := by
    rw [obeysHere, hw1, State.on, hport, ← State.on]
  obtain ⟨hp, hh, hc, h0, h1⟩ := claimShown_fields n (words.map BitVec.toNat) (claimHeard n (pktSeq h) (words.map BitVec.toNat) s)
  rw [hw1] at hp hh hc
  rw [hw2] at h0 h1
  rw [claimStatus_received ht hr]
  refine ⟨?_, ?_, ?_, ?_, ?_, ?_, ?_, fun q hq hne => ?_⟩
  · rw [claimFollowed_get (o := 0x18) hn rfl (by decide) (by decide) (Nat.le_of_ble_eq_true rfl), hp]
  · rw [claimFollowed_get (o := 0x18) hn rfl (by decide) (by decide) (Nat.le_of_ble_eq_true rfl), hh]
  · rw [claimFollowed_get (o := 0x18) hn rfl (by decide) (by decide) (Nat.le_of_ble_eq_true rfl), hc]
  · rw [claimFollowed_get (o := 0x1C) hn rfl (by decide) (by decide) (Nat.le_of_ble_eq_true rfl), h0]
    omega
  · rw [claimFollowed_get (o := 0x1C) hn rfl (by decide) (by decide) (Nat.le_of_ble_eq_true rfl), h1]
  · rw [claimFollowed, (claimObeyed_fields hn _ _ _).1, hhere]
  · rw [claimFollowed, (claimObeyed_fields hn _ _ _).1, (claimObeyed_fields hn _ _ _).2]
  · rw [claimFollowed_get (o := 0x30) hn rfl (by decide) (by decide) (Nat.le_of_ble_eq_true rfl), (claimShown_sameFields n _ _).get]
    · exact claimHeard_change hq (by rw [hw1]; exact hne) _
    · simp only [claimShownOf, List.forall_mem_cons, List.not_mem_nil, false_imp_iff, implies_true, and_true, Fld.key, LK_EVENT_OBEY_CHANGE,
        LK_CLAIM_OBEYED_PORT, LK_CLAIM_HELD, LK_CLAIM_CLAIM, LK_CLAIM_PORTS_PORT0, LK_CLAIM_PORTS_PORT1]
      omega

/-! ### ACK (R132, R270, R272) -/

theorem ack_idle {n k h : Nat} {s : State} (hi : pktType h ≠ 6 ∨ receiving s n = false) : ack n k h s = s := by
  refine if_neg fun ⟨ht, hr⟩ => ?_
  rcases hi with h | h
  · exact h ht
  · rw [h] at hr
    exact Bool.false_ne_true hr

/-- The acknowledgement of a table ends the load under way whose last segment it answers, and nothing else (R272). -/
theorem ack_table {n k h : Nat} {s : State} (ht : pktType h = 6) (hr : receiving s n = true) (hk : pktNib h = 1 ∨ pktNib h = 2) :
    ack n k h s = s.iff (acksLoad s n k (pktSeq h)) (wsLoadDone n (decide (pktNib h = 1))) := by
  unfold ack
  rw [if_pos ⟨ht, hr⟩]
  rcases hk with hk | hk <;> rw [hk] <;> rfl

theorem ack_late {n k h : Nat} {s : State} (ht : pktType h = 6) (hr : receiving s n = true) (hk : pktNib h = 3) :
    ack n k h s = slotSkipped (s.ev (LK_EVENT_ACK_LATE n)) n k (pktSeq h) := by
  unfold ack
  rw [if_pos ⟨ht, hr⟩, hk]
  rfl

theorem ack_gap {n k h : Nat} {s : State} (ht : pktType h = 6) (hr : receiving s n = true) (hk : pktNib h = 4) : ack n k h s =
    match burningDesc s n k with
    | none => s.ev (LK_EVENT_WRITE_GAP n)
    | some d => refreshWc (underrun (s.ev (LK_EVENT_WRITE_GAP n)) n d) n := by
  unfold ack
  rw [if_pos ⟨ht, hr⟩, hk]
  rfl

theorem slotSkipped_sameFields (s : State) (n k seq : Nat) : SameFields [WC_STATUS_WRITING n, WC_STATUS_GROUP_LEFT n] s (slotSkipped s n k seq) := by
  unfold slotSkipped
  split
  · split
    · exact .refl _ s
    · exact .trans (.trans ((modDesc_sameFields _ _ _ _).mono (by simp)) (.of_fld (State.modLink_fld _ _ _))) (refreshWc_onlyFields _ n).1
  · exact .refl _ s

theorem underrun_sameFields (s : State) (n : Nat) (d : Desc) : SameFields [WC_CNT_FAIL_ABORTED n, WC_EVENT_UNDERRUN n] s (underrun s n d) :=
  .ev (.bump ((modDesc_sameFields s n d.idx _).mono (by simp)) (WC_CNT_FAIL_ABORTED n) _ (by simp)) (WC_EVENT_UNDERRUN n) (by simp)

/-- Slots answered LATE, and gaps in the write data, are recorded; a gap ends the burns of its descriptor UNDERRUN (R132, R270). -/
theorem ack_events {n k h : Nat} {s : State} (ht : pktType h = 6) (hr : receiving s n = true) :
    (pktNib h = 3 → (ack n k h s).get (LK_EVENT_ACK_LATE n) = 1) ∧ (pktNib h = 4 → (ack n k h s).get (LK_EVENT_WRITE_GAP n) = 1)
      ∧ (pktNib h = 4 → burningDesc s n k = none → OnlyFields [LK_EVENT_WRITE_GAP n] s (ack n k h s))
      ∧ (pktNib h = 4 → burningDesc s n k ≠ none → (ack n k h s).get (WC_EVENT_UNDERRUN n) = 1) := by
  have hwc : ∀ f : Fld, f.addr = lkBase n + 0x30 → f.lo < 64 → ∀ g : Fld, wcBase n ≤ g.addr → g.lo < 64 → f.key ≠ g.key := fun f hf hl g hg hgl =>
    Fld.key_ne_of_addr (by simp only [wcBase, lkBase] at hf hg ⊢; omega) hl hgl
  have hbase : ∀ o, wcBase n ≤ wcBase n + o := Nat.le_add_right _
  refine ⟨fun hk => ?_, fun hk => ?_, fun hk hb => ?_, fun hk hb => ?_⟩
  · rw [ack_late ht hr hk, (slotSkipped_sameFields _ n k _).get]
    · exact State.get_ev _ _ (Nat.le_of_ble_eq_true rfl)
    · simp only [List.forall_mem_cons, List.not_mem_nil, false_imp_iff, implies_true, and_true]
      exact ⟨hwc _ rfl (Nat.le_of_ble_eq_true rfl) _ (hbase _) (Nat.le_of_ble_eq_true rfl),
        hwc _ rfl (Nat.le_of_ble_eq_true rfl) _ (hbase _) (Nat.le_of_ble_eq_true rfl)⟩
  · rw [ack_gap ht hr hk]
    split
    · exact State.get_ev _ _ (Nat.le_of_ble_eq_true rfl)
    · rw [(refreshWc_onlyFields _ n).1.get, (underrun_sameFields _ n _).get]
      · exact State.get_ev _ _ (Nat.le_of_ble_eq_true rfl)
      · simp only [List.forall_mem_cons, List.not_mem_nil, false_imp_iff, implies_true, and_true]
        exact ⟨hwc _ rfl (Nat.le_of_ble_eq_true rfl) _ (hbase _) (Nat.le_of_ble_eq_true rfl),
          hwc _ rfl (Nat.le_of_ble_eq_true rfl) _ (hbase _) (Nat.le_of_ble_eq_true rfl)⟩
      · simp only [List.forall_mem_cons, List.not_mem_nil, false_imp_iff, implies_true, and_true]
        exact ⟨hwc _ rfl (Nat.le_of_ble_eq_true rfl) _ (hbase _) (Nat.le_of_ble_eq_true rfl),
          hwc _ rfl (Nat.le_of_ble_eq_true rfl) _ (hbase _) (Nat.le_of_ble_eq_true rfl)⟩
  · rw [ack_gap ht hr hk, hb]
    exact .set (.refl _ s) (LK_EVENT_WRITE_GAP n) 1 (by simp)
  · obtain ⟨d, hd⟩ := Option.ne_none_iff_exists'.1 hb
    rw [ack_gap ht hr hk, hd]
    dsimp only
    rw [(refreshWc_onlyFields _ n).1.get]
    · exact State.get_ev _ _ (Nat.le_of_ble_eq_true rfl)
    · simp only [List.forall_mem_cons, List.not_mem_nil, false_imp_iff, implies_true, and_true, Fld.key, WC_EVENT_UNDERRUN, WC_STATUS_WRITING,
        WC_STATUS_GROUP_LEFT]
      omega

/-! ### Uncorrectable codewords (R279, R284) -/

theorem uncorrectable_down {n : Nat} {s : State} (h : linkUp s n = false) (lane corrected : Nat) (cut : List Nat) :
    uncorrectable n lane corrected cut s = s := if_neg (by rw [h]; exact Bool.false_ne_true)

/-- An uncorrectable codeword that cuts no packet is counted, with the symbols corrected since the last one (R284). -/
theorem uncorrectable_counts {n : Nat} {s : State} (h : linkUp s n = true) (lane corrected : Nat) :
    (uncorrectable n lane corrected [] s).get (LK_LANE_UNC_UNC n lane) = min (s.get (LK_LANE_UNC_UNC n lane) + 1) (2 ^ 16 - 1)
      ∧ (uncorrectable n lane corrected [] s).get (LK_LANE_CORR_CORR n lane) = min (s.get (LK_LANE_CORR_CORR n lane) + corrected) (2 ^ 32 - 1)
      ∧ OnlyFields [LK_LANE_UNC_UNC n lane, LK_LANE_CORR_CORR n lane] s (uncorrectable n lane corrected [] s) := by
  have heq : uncorrectable n lane corrected [] s = (s.bump (LK_LANE_UNC_UNC n lane) 1).bump (LK_LANE_CORR_CORR n lane) corrected := if_pos h
  have hkey : (LK_LANE_UNC_UNC n lane).key ≠ (LK_LANE_CORR_CORR n lane).key := Fld.key_ne_of_addr
    (by simp [LK_LANE_UNC_UNC, LK_LANE_CORR_CORR]) (Nat.le_of_ble_eq_true rfl) (Nat.le_of_ble_eq_true rfl)
  rw [heq]
  refine ⟨?_, ?_, .set (.set (.refl _ s) (LK_LANE_UNC_UNC n lane) _ (by simp)) (LK_LANE_CORR_CORR n lane) _ (by simp)⟩
  · rw [State.get_bump_ne _ _ hkey, State.get_bump]
    rfl
  · rw [State.get_bump, State.get_bump_ne _ _ hkey.symm]
    rfl

/-! ### CLAIM and WRITE (R268) -/

theorem sendClaim_fld (n : Nat) (s : State) : (sendClaim n s).fld = s.fld := by
  unfold sendClaim
  dsimp only
  split <;> rfl

theorem sendClaim_down {n : Nat} {s : State} (h : linkUp s n = false) : sendClaim n s = s := if_neg (by rw [h]; exact Bool.false_ne_true)

/-- A CLAIM carries class, node, epoch and time (R268). -/
theorem sendClaim_sent {n : Nat} {s : State} (h : linkUp s n = true) : (((sendClaim n s).link n).claimSent.map fun x => x.2)
    = some (s.get (VRS_OUT_CLASS n) * 4096 + s.get VRS_NODE_NODE_ID, s.get VRS_EPOCH_EPOCH, s.now % 2 ^ 32) := by
  unfold sendClaim
  dsimp only
  rw [if_pos h, State.link_modLink]
  rfl

theorem State.writeCh_modLink (s : State) (n : Nat) (f : Link → Link) (m : Nat) : (s.modLink n f).writeCh m = s.writeCh m := (rfl)

/-- Encoded data has entered the FIFO of a nib, which holds at most 32 KiB (R132). -/
def fifoFilled (n k filled : Nat) (s : State) : State :=
  s.modWc n fun w => { w with fifo := w.fifo.set k 0 (min fifoSize (w.fifo.getD k 0 + filled)) }

/-- The next 1,024 channel bits of a burn leave the FIFO of its nib for the pen (R268). -/
def fifoSent (n k : Nat) (d : Desc) (s : State) : State :=
  let sent := (s.writeCh n).sent.getD k 0
  let s := s.modWc n fun w =>
    { w with fifo := w.fifo.set k 0 (w.fifo.getD k 0 - min 128 ((632000 - sent) / 8)), sent := w.sent.set k 0 (sent + 1024) }
  s.modLink n fun l => { l with written := l.written.insert k ((match l.written.find? k with | some (q, _) => (q + 1) % 256 | none => 0), nextBits d k sent) }

theorem writePkt_idle {n : Nat} {s : State} (h : linkUp s n = false ∨ claims s n = false) (k filled : Nat) : writePkt n k filled s = s := by
  refine if_neg fun ⟨hu, hc⟩ => ?_
  rcases h with h | h
  · rw [h] at hu
    exact Bool.false_ne_true hu
  · rw [h] at hc
    exact Bool.false_ne_true hc

theorem writePkt_claimed {n : Nat} {s : State} (hu : linkUp s n = true) (hc : claims s n = true) (k filled : Nat) : writePkt n k filled s =
    match burningDesc (fifoFilled n k filled s) n k with
    | none => fifoFilled n k filled s
    | some d =>
      if 632000 ≤ ((fifoFilled n k filled s).writeCh n).sent.getD k 0 ∨ fifoDry (fifoFilled n k filled s) n k = true then fifoFilled n k filled s
      else fifoSent n k d (fifoFilled n k filled s) := if_pos ⟨hu, hc⟩

theorem writePkt_fld (n k filled : Nat) (s : State) : (writePkt n k filled s).fld = s.fld := by
  by_cases h : linkUp s n = true ∧ claims s n = true
  · rw [writePkt_claimed h.1 h.2]
    split
    · rfl
    · split <;> rfl
  · rw [writePkt, if_neg h]

/-- The FIFO of a nib once it is filled, with the descriptor that it burns and the bits sent as they were. -/
theorem fifoFilled_wc (n k filled : Nat) (s : State) :
    ((fifoFilled n k filled s).writeCh n).fifo.getD k 0 = min 32768 ((s.writeCh n).fifo.getD k 0 + filled)
      ∧ ((fifoFilled n k filled s).writeCh n).sent = (s.writeCh n).sent ∧ burningDesc (fifoFilled n k filled s) n k = burningDesc s n k := by
  unfold burningDesc fifoFilled
  rw [State.writeCh_modWc]
  exact ⟨Store.getD_set_same _ _ _ _, rfl, rfl⟩

/-- The FIFO of a nib that burns nothing, or has sent its folio, or holds less than the next packet, keeps what has entered it (R132). -/
theorem writePkt_waits {n k filled full sent : Nat} {s : State} (hf : full = min 32768 ((s.writeCh n).fifo.getD k 0 + filled))
    (hs : sent = (s.writeCh n).sent.getD k 0) (hu : linkUp s n = true) (hc : claims s n = true)
    (h : burningDesc s n k = none ∨ 632000 ≤ sent ∨ 8 * full < min 1024 (632000 - sent)) :
    ((writePkt n k filled s).writeCh n).fifo.getD k 0 = full ∧ (writePkt n k filled s).links = s.links := by
  obtain ⟨hfifo, hsent, hburn⟩ := fifoFilled_wc n k filled s
  have hwait : writePkt n k filled s = fifoFilled n k filled s := by
    rw [writePkt_claimed hu hc, hburn, hsent, ← hs]
    split
    · rfl
    · next d hd =>
      refine if_pos ?_
      rcases h with h | h | h
      · rw [h] at hd
        exact absurd hd.symm (Option.some_ne_none d)
      · exact .inl h
      · by_cases hle : 632000 ≤ sent
        · exact .inl hle
        · unfold fifoDry
          dsimp only
          rw [hfifo, hsent, ← hs, ← hf, decide_eq_true h, decide_eq_true (Nat.not_le.1 hle)]
          exact .inr rfl
  rw [hwait, hfifo, hf]
  exact ⟨rfl, rfl⟩

/-- The next bits of a burn leave the FIFO that holds them (R268). -/
theorem writePkt_sends {n k filled full sent : Nat} {s : State} {d : Desc} (hf : full = min 32768 ((s.writeCh n).fifo.getD k 0 + filled))
    (hs : sent = (s.writeCh n).sent.getD k 0) (hu : linkUp s n = true) (hc : claims s n = true) (hd : burningDesc s n k = some d)
    (hlt : sent < 632000) (hle : min 1024 (632000 - sent) ≤ 8 * full) :
    (((writePkt n k filled s).link n).written.find? k).map (fun x => x.2) = some (nextBits d k sent)
      ∧ ((writePkt n k filled s).writeCh n).sent.getD k 0 = sent + 1024
      ∧ ((writePkt n k filled s).writeCh n).fifo.getD k 0 = full - min 128 ((632000 - sent) / 8) := by
  obtain ⟨hfifo, hsent, hburn⟩ := fifoFilled_wc n k filled s
  have hdry : fifoDry (fifoFilled n k filled s) n k = false := by
    unfold fifoDry
    dsimp only
    rw [hfifo, hsent, ← hs, ← hf, decide_eq_false (Nat.not_lt.2 hle), Bool.and_false]
  have hsends : writePkt n k filled s = fifoSent n k d (fifoFilled n k filled s) := by
    rw [writePkt_claimed hu hc, hburn, hd]
    dsimp only
    rw [hsent, ← hs, hdry, if_neg]
    rintro (h | h)
    · omega
    · exact Bool.false_ne_true h
  rw [hsends]
  unfold fifoSent
  dsimp only
  refine ⟨?_, ?_, ?_⟩
  · rw [State.link_modLink, Store.find?_insert_same, hsent, ← hs]
    rfl
  · rw [State.writeCh_modLink, State.writeCh_modWc]
    dsimp only
    rw [Store.getD_set_same, hsent, ← hs]
  · rw [State.writeCh_modLink, State.writeCh_modWc]
    dsimp only
    rw [Store.getD_set_same, hsent, ← hs, hfifo, ← hf]

end Sys2Proof.Machine

/-!
The packets of a pen link, by their headers (R42, R55, R60, R262 to R285).
-/

namespace Sys2Proof.Machine

/-- A RULING packet's samples are stored; RNO's leave the count, and RNI's move it on within its bin (R42, R60). -/
theorem rulingPkt_stored {n h p i : Nat} (hn : n < 16) {data : List (BitVec 6)} {s : State} (hp : (s.link n).seqs.find? 512 = some p)
    (hi : i = (s.link n).closed + (if pktSeq h = p ∨ 128 ≤ (pktSeq h + 256 - p) % 256 then 0 else (pktSeq h + 256 - p) % 256 * data.length))
    (ht : pktType h = 2) (hr : receiving s n = true) (hc : pktNib h ≤ 1) (h256 : p < 256)
    (hring : (s.nib n (16 + pktNib h)).ring = [] ∨ i ≤ (s.nib n (16 + pktNib h)).at_ + data.length) :
    ((rulingPkt n h data s).nib n (16 + pktNib h)).ring
        = ((data.map fun x => BitVec.ofNat 8 (4 * x.toNat)).reverse ++ (s.nib n (16 + pktNib h)).ring).take 81920
      ∧ ((rulingPkt n h data s).nib n (16 + pktNib h)).at_ = i
      ∧ (pktNib h = 1 → (rulingPkt n h data s).rul = s.rul ∧ SameFields [LK_CNT_PKT_LOST n, LK_SIDX_SIDX n] s (rulingPkt n h data s))
      ∧ ∀ m new, pktNib h = 0 → m = s.get (RUL_PERIODS_M_RNI n) → s.get (RUL_STATUS_ANGLE_VALID n) = 1 → m ≠ 0 → (s.ruling n).count < 1024 * m →
          (s.ruling n).slipBin = none → new = (if (s.nib n 16).ring = [] then data.length else i - (s.nib n 16).at_) →
          ((rulingPkt n h data s).ruling n).count = min ((s.ruling n).count / m * m + (m - 1)) ((s.ruling n).count + ((s.ruling n).sub + new) / 8)
            ∧ (rulingPkt n h data s).get (RUL_ANGLE_BIN n) = (s.ruling n).count / m % 1024 := by
  have hcases : pktNib h = 0 ∨ pktNib h = 1 := by omega
  rcases hcases with h0 | h1
  · rw [h0] at hring ⊢
    obtain ⟨hrg, hat, hrul, hfld, hfresh⟩ := rulTaken_ring (nib := .rni) hp hi h256 hring
    have heq : rulingPkt n h data s = advanceCount (rulTaken n h .rni data s) n (rulFresh n h .rni data s) := by
      rw [rulingPkt_taken (nib := .rni) ht hr (by rw [h0]; rfl), if_pos rfl]
    rw [heq]
    refine ⟨?_, ?_, fun h => absurd h (by decide), fun m new _ hm hv hm0 hcount hslip hnew => ?_⟩
    · rw [advanceCount_nib]
      exact hrg
    · rw [advanceCount_nib]
      exact hat
    · have hruling : (rulTaken n h .rni data s).ruling n = s.ruling n := by rw [State.ruling, State.ruling, hrul]
      have hget : ∀ f : Fld, rulBase n ≤ f.addr → f.lo < 64 → (rulTaken n h .rni data s).get f = s.get f := fun f ha hl => by
        refine hfld.get ?_
        simp only [arrivalOf, List.forall_mem_cons, List.not_mem_nil, false_imp_iff, implies_true, and_true]
        constructor <;> refine Fld.key_ne_of_addr ?_ hl (Nat.le_of_ble_eq_true rfl)
        · simp only [rulBase, LK_CNT_PKT_LOST, lkBase] at ha ⊢
          omega
        · simp only [rulBase, LK_SIDX_SIDX, lkBase] at ha ⊢
          omega
      have heffect := advanceCount_effect hn (m := m) (s := rulTaken n h .rni data s)
        ((hget _ (Nat.le_add_right _ _) (Nat.le_of_ble_eq_true rfl)).trans hv) ((hget _ (Nat.le_add_right _ _) (Nat.le_of_ble_eq_true rfl)).trans hm.symm)
        hm0 (by rw [hruling]; exact hcount) (by rw [hruling]; exact hslip) (rulFresh n h .rni data s)
      rw [hruling, hfresh] at heffect
      rw [hfresh, hnew]
      exact heffect
  · rw [h1] at hring ⊢
    obtain ⟨hrg, hat, hrul, hfld, -⟩ := rulTaken_ring (nib := .rno) hp hi h256 hring
    have heq : rulingPkt n h data s = rulTaken n h .rno data s := by
      rw [rulingPkt_taken (nib := .rno) ht hr (by rw [h1]; rfl), if_neg (by simp)]
    rw [heq]
    exact ⟨hrg, hat, fun _ => ⟨hrul, hfld⟩, fun m new h => absurd h (by decide)⟩

/-- Settles O42: each packet by the type of its header. -/
theorem linkPackets : Obligations.LinkPackets := by
  unfold Obligations.LinkPackets
  refine ⟨fun n h data steps s => ⟨_, rfl, ?_⟩, fun n h data s => ⟨_, rfl, ?_⟩, fun n h words sets s => ⟨_, rfl, ?_⟩,
    fun n h words corr s => ⟨_, rfl, ?_⟩, fun n h words s => ⟨_, rfl, ?_⟩, fun n k h s => ⟨_, rfl, ?_⟩,
    fun n lane c cut s => ⟨_, rfl, fun hd => uncorrectable_down hd lane c _, fun hu hcut => ?_⟩,
    fun n s => ⟨_, rfl, sendClaim_fld n s, sendClaim_down, sendClaim_sent⟩,
    fun n k filled s => ⟨_, rfl, writePkt_fld n k filled s, fun h => writePkt_idle h k filled, fun full sent hf hs hu hc =>
      ⟨writePkt_waits hf hs hu hc, fun d hd hlt hle => writePkt_sends hf hs hu hc hd hlt hle⟩⟩⟩
  · rw [← pktType_header]
    rintro k seq rfl rfl
    refine ⟨fun hi => samples_idle hi data steps, fun ht hr hk hu ho => ?_, fun p i hp hi ht hr ho hu hclk hsteps h256 ha hring => ?_⟩
    · rw [samples_off ht hr hk hu data steps ((arrived_nibOn _ _ _ _ _ _).trans ho)]
      exact ⟨arrived_sameFields _ _ _ _ _, arrived_lost _ _ _ _ _⟩
    · rw [hsteps]
      exact samples_stored hp hi ht hr ho hu hclk h256 ha hring
  · rw [← pktType_header]
    rintro c seq rfl rfl
    exact ⟨fun hi => rulingPkt_idle hi data, fun p i hp hi ht hr hc h256 hring => rulingPkt_stored n.isLt hp hi ht hr hc h256 hring⟩
  · rw [← pktType_header]
    rintro part w rfl rfl
    exact ⟨fun hi => servo_idle hi _ _, fun ht hr he => servo_off ht hr he _ _, fun ht hr he hp => servo_gathers ht hr he hp _ _,
      fun ht hr he hp hw hall => servo_closes ht hr he hp hw hall _ _⟩
  · rw [← pktType_header]
    exact ⟨fun hi => penStatus_idle hi words corr, fun f d hf hd ht hr => penStatus_fields n.isLt ht hr words corr hf hd⟩
  · rw [← pktType_header]
    exact ⟨fun hi => claimStatus_idle hi words, fun w1 w2 h1 h2 ht hr => claimStatus_fields n.isLt ht hr words h1 h2⟩
  · rw [← pktType_header]
    refine ⟨ack_idle, ?_⟩
    rintro kind rfl ht hr
    refine ⟨fun hk ha => ?_, fun hk ha => ?_, fun hk ha => ?_, ack_events ht hr⟩
    · have hload : ack n k h.toNat s = wsLoadDone n true s := by
        rw [ack_table ht hr (.inl hk), show acksLoad s n k (pktSeq h.toNat) = true from ha, State.iff_true, show pktNib h.toNat = 1 from hk]
        rfl
      rw [hload]
      rfl
    · have hload : ack n k h.toNat s = wsLoadDone n false s := by
        rw [ack_table ht hr (.inr hk), show acksLoad s n k (pktSeq h.toNat) = true from ha, State.iff_true, show pktNib h.toNat = 2 from hk]
        rfl
      rw [hload]
      rfl
    · rw [ack_table ht hr hk, show acksLoad s n k (pktSeq h.toNat) = false from ha, State.iff_false]
  · rw [hcut]
    exact uncorrectable_counts hu lane c

end Sys2Proof.Machine

/-!
Codeword boundaries, preset fetches, the searches for the marks, and the slip test (R62, R70, R72, R76 to R81, R84, R288).
-/

namespace Sys2Proof.Machine

/-! ### Where a codeword is predicted (R77, R84) -/

theorem placeOfCw_steady {s : State} {n : Nat} (h : (s.ruling n).slipFrom = none) (f idx : Nat) :
    placeOfCw s n f idx = predicted f idx % periodsPerRev s n := by
  simp only [placeOfCw, h]

/-- A codeword whose sync window was open as a slip was confirmed keeps its place by the old count. -/
theorem placeOfCw_slipped {s : State} {n c f idx q : Nat} {e : Int} (h : (s.ruling n).slipFrom = some (c, e))
    (h1 : 1 ≤ (predicted f idx % periodsPerRev s n + periodsPerRev s n - c) % periodsPerRev s n)
    (h8 : (predicted f idx % periodsPerRev s n + periodsPerRev s n - c) % periodsPerRev s n ≤ 8)
    (hq : (q : Int) = ((predicted f idx % periodsPerRev s n : Nat) + e) % (periodsPerRev s n : Int)) : placeOfCw s n f idx = q := by
  simp only [placeOfCw, h]
  rw [if_pos ⟨h1, h8⟩, ← hq, Int.toNat_natCast]

theorem sincePredicted_valid {s : State} {n : Nat} (hv : s.get (RUL_STATUS_ANGLE_VALID n) = 1) (hp : periodsPerRev s n ≠ 0) (f idx : Nat) :
    sincePredicted s n f idx = some (((s.ruling n).count + periodsPerRev s n - placeOfCw s n f idx) % periodsPerRev s n) :=
  if_pos (by simp [State.on, hv, hp])

theorem sincePredicted_invalid {s : State} {n : Nat} (hv : s.get (RUL_STATUS_ANGLE_VALID n) ≠ 1) (f idx : Nat) : sincePredicted s n f idx = none :=
  if_neg (by simp [State.on, hv])

/-! ### What the preset of a boundary leaves (R58, R71, R74, R76) -/

/-- The fields that the selection and the application of a nib's preset reach. -/
def presetFlds (n k : Nat) : List Fld :=
  [RC_EVENT_ZT_MISS n, RC_NIB_STATUS_ALT_VALID n k, RC_NIB_STATUS_BANK n k, RC_NIB_STATUS_LAYER n k, RC_NIB_STATUS_ZONE n k, RC_NIB_STATUS_GEN n k,
    RC_NIB_GAIN_GAIN n k, RC_NIB_GAIN_OFFSET n k, RC_NIB_ASYM_ASYM n k]

/-- They lie past the pen's controls and its zone. -/
theorem presetFlds_key (n k : Nat) : ∀ g ∈ presetFlds n k, (rcBase n + 0x50) * 64 ≤ g.key := by
  simp only [presetFlds, List.forall_mem_cons, List.not_mem_nil, false_imp_iff, implies_true, and_true, Fld.key, RC_EVENT_ZT_MISS, RC_NIB_STATUS_ALT_VALID,
    RC_NIB_STATUS_BANK, RC_NIB_STATUS_LAYER, RC_NIB_STATUS_ZONE, RC_NIB_STATUS_GEN, RC_NIB_GAIN_GAIN, RC_NIB_GAIN_OFFSET, RC_NIB_ASYM_ASYM]
  omega

/-- The nib's codewords, the pen's other nibs, its ruling, and the fields that no preset reaches are as before. -/
structure KeepsCws (n k : Nat) (s t : State) : Prop where
  flds : SameFields (presetFlds n k) s t
  cws : (t.nib n k).cws = (s.nib n k).cws
  others : ∀ j, j ≠ k → t.nib n j = s.nib n j
  ruling : t.ruling n = s.ruling n

namespace KeepsCws

variable {n k : Nat}

theorem refl (s : State) : KeepsCws n k s s := ⟨.refl _ s, rfl, fun _ _ => rfl, rfl⟩

theorem trans {s t u : State} (h : KeepsCws n k s t) (g : KeepsCws n k t u) : KeepsCws n k s u :=
  ⟨h.flds.trans g.flds, g.cws.trans h.cws, fun j hj => (g.others j hj).trans (h.others j hj), g.ruling.trans h.ruling⟩

theorem frame : Frame (KeepsCws n k) := ⟨refl, trans⟩

theorem get {s t : State} (h : KeepsCws n k s t) {f : Fld} (hf : f.key < (rcBase n + 0x50) * 64) : t.get f = s.get f :=
  h.flds.get fun g hg => (lt_of_lt_of_le hf (presetFlds_key n k g hg)).ne

theorem set {s t : State} (h : KeepsCws n k s t) (f : Fld) (v : Nat) (hf : f ∈ presetFlds n k) : KeepsCws n k s (t.set f v) :=
  ⟨h.flds.set f v hf, h.cws, h.others, h.ruling⟩

theorem modNib {s t : State} (h : KeepsCws n k s t) {f : Nib → Nib} (hf : ∀ b, (f b).cws = b.cws) : KeepsCws n k s (t.modNib n k f) :=
  h.trans ⟨.of_fld rfl, by rw [State.nib_modNib, hf], fun _ hj => State.nib_modNib_ne _ _ (by omega), rfl⟩

theorem modWc {s t : State} (h : KeepsCws n k s t) (f : Wc → Wc) : KeepsCws n k s (t.modWc n f) :=
  h.trans ⟨.of_fld rfl, rfl, fun _ _ => rfl, rfl⟩

theorem nextFree {s t : State} (h : KeepsCws n k s t) : KeepsCws n k s { t with freeCtr := t.freeCtr + 1 } :=
  h.trans ⟨.of_fld rfl, rfl, fun _ _ => rfl, rfl⟩

end KeepsCws

theorem applyPreset_keepsCws (s : State) (n k : Nat) (p : Preset) (bytes : List (BitVec 8)) : KeepsCws n k s (applyPreset s n k p bytes) := by
  unfold applyPreset loadInitial
  dsimp only
  iterate 7 refine .set ?_ _ _ (by simp [presetFlds])
  exact (KeepsCws.refl s).modNib fun _ => rfl

theorem applyFetched_keepsCws (s : State) (n k ns : Nat) : KeepsCws n k s (applyFetched s n k ns) := by
  unfold applyFetched
  split
  · split
    · exact applyPreset_keepsCws s n k _ _
    · exact .refl s
  · exact .refl s

theorem selectPreset_keepsCws (s : State) (n k : Nat) : KeepsCws n k s (selectPreset s n k) := by
  have htie : ∀ c, KeepsCws n k s (s.iff c fun s => { s with freeCtr := s.freeCtr + 1 }) := fun c =>
    KeepsCws.frame.iff (.refl s) fun _ => (KeepsCws.refl s).nextFree
  unfold selectPreset refreshAlt
  dsimp only
  refine .set ?_ _ _ (by simp [presetFlds])
  split
  · exact (htie _).set _ 1 (by simp [presetFlds])
  · split
    · exact (htie _).modNib fun _ => rfl
    · split
      · exact htie _
      · exact (htie _).modNib fun _ => rfl

theorem beginPass_keepsCws (s : State) (n k f : Nat) : KeepsCws n k s (beginPass s n k f) := by
  unfold beginPass
  split
  · split
    · exact .refl s
    · exact (KeepsCws.refl s).modWc _
  · exact .refl s

/-! ### A codeword begins (R62, R69, R77) -/

/-- The pen as a codeword begins: the nib's preset is applied and selected, and the folio's first codeword begins a reading pass (R74, R127). -/
def presetDue (n k f idx ns : Nat) (s : State) : State :=
  (selectPreset (applyFetched s n k ns) n k).iff (idx == 0) fun s => beginPass s n k f

theorem presetDue_keepsCws (n k f idx ns : Nat) (s : State) : KeepsCws n k s (presetDue n k f idx ns s) :=
  KeepsCws.frame.iff ((applyFetched_keepsCws s n k ns).trans (selectPreset_keepsCws _ n k)) fun _ => beginPass_keepsCws _ n k f

/-- A blot in progress closes its span in the codeword that ends, and goes on from the start of the next (R69). -/
def Nib.carryBlot (b : Nib) : Nib :=
  match b.blotFrom with
  | some a => { (b.modNewest fun c => { c with spans := addSpan c.spans a 39000 }) with blotFrom := some 0 }
  | none => b

theorem Nib.modNewest_length (b : Nib) (f : NibCw → NibCw) : (b.modNewest f).cws.length = b.cws.length := by
  cases h : b.cws using List.reverseRecOn with
  | nil => simp [Nib.modNewest, h]
  | append_singleton r c => simp [Nib.modNewest_cws h]

theorem Nib.carryBlot_length (b : Nib) : b.carryBlot.cws.length = b.cws.length := by
  unfold Nib.carryBlot
  split
  · exact b.modNewest_length _
  · rfl

/-- A codeword is under way at a nib, with the cross terms as they are enabled (R62). -/
def Nib.beginCw (x i : Bool) (f idx : Nat) (start : Int) (b : Nib) : Nib :=
  { b.carryBlot with
    xterm := x, itiOn := i, cws := b.carryBlot.cws ++ [{ f := f, idx := idx, sample := start, noPreset := b.carryBlot.held.isNone }] }

theorem Nib.beginCw_length (x i : Bool) (f idx : Nat) (start : Int) (b : Nib) : (b.beginCw x i f idx start).cws.length = b.cws.length + 1 := by
  rw [Nib.beginCw, List.length_append, b.carryBlot_length]
  rfl

theorem Nib.beginCw_newest (x i : Bool) (f idx : Nat) (start : Int) (b : Nib) :
    (b.beginCw x i f idx start).cws.getLast? = some { f := f, idx := idx, sample := start, noPreset := b.carryBlot.held.isNone } :=
  List.getLast?_concat

/-- A boundary passes: from a pen `t` that is ready for it, a codeword begins at the nib. -/
def cwBegun (n k f idx d : Nat) (t : State) : State :=
  t.modNib n k (Nib.beginCw (t.on (RC_EQ_CTRL_XTERM_EN n)) (t.on (RC_EQ_CTRL_ITI_EN n)) f idx (sampleAgo t n d))

theorem cwBoundary_begins {n k f idx d : Nat} {s : State} (hd : sincePredicted s n f idx = some d) (ho : nibOn s n k = true) (hlt : d < 4875) (ns : Nat) :
    cwBoundary n k f idx ns s = cwBegun n k f idx d (presetDue n k f idx ns (refreshZone s n)) := by
  simp only [cwBoundary, hd]
  exact if_pos ⟨ho, hlt⟩

theorem cwBoundary_idle {n k : Nat} {s : State} (h : nibOn s n k = false ∨ s.get (RUL_STATUS_ANGLE_VALID n) ≠ 1) (f idx ns : Nat) :
    cwBoundary n k f idx ns s = s := by
  rcases h with h | h
  · unfold cwBoundary
    split
    · exact if_neg (by simp [h])
    · rfl
  · simp only [cwBoundary, sincePredicted_invalid h]

theorem refreshZone_zone (s : State) (n : Nat) : (refreshZone s n).get (RC_ZONE_ZONE n) = zoneOf s n := by
  rw [refreshZone, State.get_set]
  exact Nat.mod_eq_of_lt (Nat.lt_succ_of_le (min_le_left 63 _))

/-- A pen ready for a boundary shows its zone, and its band and its enables are as before. -/
theorem presetDue_zoned (n k f idx ns : Nat) (s : State) {t : State} (ht : t = presetDue n k f idx ns (refreshZone s n)) :
    t.get (RC_ZONE_ZONE n) = zoneOf s n ∧ t.get (RUL_BAND_TRACK n) = s.get (RUL_BAND_TRACK n)
      ∧ t.on (RC_EQ_CTRL_XTERM_EN n) = s.on (RC_EQ_CTRL_XTERM_EN n) ∧ t.on (RC_EQ_CTRL_ITI_EN n) = s.on (RC_EQ_CTRL_ITI_EN n) := by
  have hk : KeepsCws n k (refreshZone s n) t := ht ▸ presetDue_keepsCws n k f idx ns (refreshZone s n)
  have hget : ∀ g : Fld, g.key < (rcBase n + 0x50) * 64 → g.key ≠ (RC_ZONE_ZONE n).key → t.get g = s.get g := fun g hg hz =>
    (hk.get hg).trans (refreshZone_get s n hz)
  refine ⟨(hk.get ?_).trans (refreshZone_zone s n), hget _ ?_ ?_, congrArg (· == 1) (hget _ ?_ ?_), congrArg (· == 1) (hget _ ?_ ?_)⟩ <;>
    simp only [Fld.key, RC_EQ_CTRL_XTERM_EN, RC_EQ_CTRL_ITI_EN, RC_ZONE_ZONE, RUL_BAND_TRACK, rcBase, rulBase, penBase] <;> omega

/-- What a boundary brings at a data nib. -/
theorem cwBoundary_effect {n k f idx d : Nat} {s : State} (hk : k < 16) (hd : sincePredicted s n f idx = some d) (ho : nibOn s n k = true)
    (hlt : d < 4875) (ns : Nat) {t : State} (ht : t = cwBoundary n k f idx ns s) :
    (t.nib n k).cws.length = (s.nib n k).cws.length + 1
      ∧ (t.nib n k).cws.getLast?.map (fun c => (c.f, c.idx, c.spans)) = some (f, idx, [])
      ∧ (t.nib n k).cws.getLast?.map (fun c => c.sample) = some (sampleAgo s n d)
      ∧ (t.nib n k).xterm = s.on (RC_EQ_CTRL_XTERM_EN n) ∧ (t.nib n k).itiOn = s.on (RC_EQ_CTRL_ITI_EN n)
      ∧ t.get (RC_ZONE_ZONE n) = zoneOf s n ∧ t.get (RUL_BAND_TRACK n) = s.get (RUL_BAND_TRACK n) := by
  have hkept := presetDue_keepsCws n k f idx ns (refreshZone s n)
  obtain ⟨hzone, htrack, hx, hi⟩ := presetDue_zoned n k f idx ns s rfl
  have hstart : sampleAgo (presetDue n k f idx ns (refreshZone s n)) n d = sampleAgo s n d := by
    rw [sampleAgo, hkept.others 16 (by omega), hkept.ruling]
    rfl
  have hbegun := ht.trans (cwBoundary_begins hd ho hlt ns)
  have hnib : t.nib n k = Nib.beginCw (s.on (RC_EQ_CTRL_XTERM_EN n)) (s.on (RC_EQ_CTRL_ITI_EN n)) f idx (sampleAgo s n d)
      ((presetDue n k f idx ns (refreshZone s n)).nib n k) := by
    rw [hbegun, cwBegun, State.nib_modNib, hx, hi, hstart]
  refine ⟨?_, ?_, ?_, by rw [hnib, Nib.beginCw], by rw [hnib, Nib.beginCw], ?_, ?_⟩
  · rw [hnib, Nib.beginCw_length, hkept.cws]
    rfl
  · rw [hnib, Nib.beginCw_newest]
    rfl
  · rw [hnib, Nib.beginCw_newest]
    rfl
  · rw [hbegun, cwBegun, State.modNib_get, hzone]
  · rw [hbegun, cwBegun, State.modNib_get, htrack]

/-! ### A preset's fetch ends (R70, R74, R76, R288) -/

/-- A read of 64 bytes records an address in the check-region window, and changes nothing else. -/
theorem fetch64_state (s : State) (r a : Nat) : (fetch64 s r a).2 = s.reads r a := by
  rw [fetch64_eq, snd_ite, snd_ite, ite_self, State.reads]
  by_cases h : a < inkLimit
  · rw [if_pos h, if_neg (Nat.not_le.2 h)]
  · rw [if_neg h, if_pos (Nat.not_lt.1 h)]

theorem fetch64_missed {s : State} {r a : Nat} (h : inkLimit ≤ a ∨ s.anyPoison a 64 = true) : (fetch64 s r a).1 = none := by
  rw [fetch64_eq]
  by_cases ha : inkLimit ≤ a
  · rw [if_pos ha]
  · rw [if_neg ha, if_pos (h.resolve_left ha)]

theorem fetch64_read {s : State} {r a : Nat} (ha : a < inkLimit) (hp : s.anyPoison a 64 = false) : fetch64 s r a = (some (s.bytesAt a 64), s) := by
  rw [fetch64_eq, if_neg (Nat.not_le.2 ha), if_neg (by simp [hp])]

theorem State.addrErr_event (s : State) (r a : Nat) : (s.addrErr r a).get INK_EVENT_ADDR_ERR = 1 := by
  unfold State.addrErr
  split <;> exact State.get_ev _ _ Nat.one_pos

/-- A fetch that brought nothing: the nib keeps its preset, and ZT_MISS tells of it (R76). -/
def presetMissed (n k : Nat) (s : State) : State := (s.modNib n k fun b => { b with fetching := none }).ev (RC_EVENT_ZT_MISS n)

theorem takePreset_missed {ue : Bool} {r : Option (List (BitVec 8)) × State} (h : ue = true ∨ r.1 = none) (n k : Nat) (p : Preset) :
    takePreset n k ue p r = presetMissed n k r.2 := by
  have hnone : (if ue then none else r.1) = none := by
    rcases h with h | h
    · exact if_pos h
    · rw [h, ite_self]
  simp only [takePreset, hnone, presetMissed]

/-- A nib holds the bytes fetched for it until a boundary (R74). -/
def presetTaken (n k : Nat) (p : Preset) (bytes : List (BitVec 8)) (s : State) : State :=
  s.modNib n k fun b => { b with fetching := none, fetched := some (p, bytes) }

theorem takePreset_taken (n k : Nat) (p : Preset) (bytes : List (BitVec 8)) (s : State) :
    takePreset n k false p (some bytes, s) = presetTaken n k p bytes s := (rfl)

section
variable {n k : Nat} {p : Preset} {s : State}

theorem presetFetchDone_idle (h : (s.nib n k).fetching = none) (ue : Bool) : presetFetchDone n k ue s = s := by
  simp only [presetFetchDone, h]

variable (h : (s.nib n k).fetching = some p)
include h

theorem presetFetchDone_takes (ue : Bool) : presetFetchDone n k ue s = takePreset n k ue p (fetch64 s (16 + n) (presetAddr s n k p)) := by
  simp only [presetFetchDone, h, fetchPreset]

theorem presetFetchDone_missed {ue : Bool} (hm : ue = true ∨ inkLimit ≤ presetAddr s n k p ∨ s.anyPoison (presetAddr s n k p) 64 = true) :
    presetFetchDone n k ue s = presetMissed n k (s.reads (16 + n) (presetAddr s n k p)) := by
  rw [presetFetchDone_takes h, takePreset_missed (hm.imp_right fetch64_missed), fetch64_state]

theorem presetFetchDone_fetched (ha : presetAddr s n k p < inkLimit) (hp : s.anyPoison (presetAddr s n k p) 64 = false) :
    presetFetchDone n k false s = presetTaken n k p (s.bytesAt (presetAddr s n k p) 64) s := by
  rw [presetFetchDone_takes h, fetch64_read ha hp, takePreset_taken]

end

theorem reads_nib (s : State) (r a n k : Nat) : (s.reads r a).nib n k = s.nib n k :=
  (KeepsNibs.of_inkHidden (s.reads_onlyFields r a).inkHidden).nib n k

theorem presetMissed_sameFields (n k : Nat) (s : State) : SameFields [RC_EVENT_ZT_MISS n] s (presetMissed n k s) :=
  .ev (.of_fld rfl) _ (List.mem_singleton_self _)

/-- What a fetch that brought nothing leaves: the nib's presets, and no field but ZT_MISS and the record of an address error. -/
theorem presetMissed_effect (n k r a : Nat) (s : State) {t : State} (ht : t = presetMissed n k (s.reads r a)) :
    (t.nib n k).fetching = none ∧ (t.nib n k).held = (s.nib n k).held ∧ (t.nib n k).fetched = (s.nib n k).fetched
      ∧ t.get (RC_EVENT_ZT_MISS n) = 1 ∧ (a < inkLimit → SameFields [RC_EVENT_ZT_MISS n] s t) ∧ (inkLimit ≤ a → t.get INK_EVENT_ADDR_ERR = 1) := by
  have hnib : t.nib n k = { s.nib n k with fetching := none } := by
    rw [ht, presetMissed, State.ev, State.nib_set, State.nib_modNib, reads_nib]
  refine ⟨by rw [hnib], by rw [hnib], by rw [hnib], ?_, fun ha => ?_, fun ha => ?_⟩
  · rw [ht, presetMissed, State.get_ev _ _ Nat.one_pos]
  · rw [ht, s.reads_inside r ha]
    exact presetMissed_sameFields n k s
  · rw [ht, (presetMissed_sameFields n k _).get, State.reads, if_neg (Nat.not_lt.2 ha)]
    · exact s.addrErr_event r a
    · simp only [List.forall_mem_singleton, Fld.key, INK_EVENT_ADDR_ERR, RC_EVENT_ZT_MISS, inkBase, rcBase, penBase]
      omega

theorem presetTaken_effect (n k : Nat) (p : Preset) (bytes : List (BitVec 8)) (s : State) {t : State} (ht : t = presetTaken n k p bytes s) :
    (t.nib n k).fetching = none ∧ (t.nib n k).held = (s.nib n k).held ∧ (t.nib n k).fetched = some (p, bytes) ∧ t.fld = s.fld := by
  have hnib : t.nib n k = { s.nib n k with fetching := none, fetched := some (p, bytes) } := by rw [ht, presetTaken, State.nib_modNib]
  exact ⟨by rw [hnib], by rw [hnib], by rw [hnib], by rw [ht]; rfl⟩

/-! ### The searches and the slip test (R78, R79, R81) -/

theorem markScores_length (b : Nib) (mark : List Bool) (half : Nat) (i : Int) : (markScores b mark half i).length = 2 * half + 1 := by
  simp [markScores]

/-- A change of the newest codeword under way at a nib. -/
theorem modNewest_cws {n k : Nat} {s : State} {r : List NibCw} {c : NibCw} (h : (s.nib n k).cws = r ++ [c]) (f : Nib → NibCw → NibCw) :
    ((s.modNib n k fun b => b.modNewest (f b)).nib n k).cws = r ++ [f (s.nib n k) c] := by
  rw [State.nib_modNib, Nib.modNewest_cws h]

theorem slipTest_cws {n k : Nat} {s : State} {c : NibCw} {r : List NibCw} (h : (s.nib n k).cws = c :: r) (w : List Nat) :
    ((slipTest n k w s).nib n k).cws = (if slipDue (s.on (RC_CTRL_SLIP_TEST n)) c.sync c.resync then { c with shift := some (bestShift w) } else c) :: r := by
  simp only [slipTest, State.nib_modNib, h]
  split
  · rfl
  · exact h

theorem slipDue_iff (on : Bool) (sync resync : Option (Int × Nat)) :
    slipDue on sync resync = true ↔ on = true ∧ sync ≠ none ∧ ∃ d v, resync = some (d, v) ∧ 1 ≤ d.natAbs ∧ d.natAbs ≤ 3 := by
  cases resync with
  | none => simp [slipDue]
  | some e => simp [slipDue, Option.isSome_iff_ne_none, Prod.ext_iff, and_assoc]

theorem slipDue_not {on : Bool} {sync resync : Option (Int × Nat)}
    (h : on = false ∨ sync = none ∨ resync = none ∨ ∃ d v, resync = some (d, v) ∧ (d = 0 ∨ 3 < d.natAbs)) : ¬slipDue on sync resync = true := by
  rw [slipDue_iff]
  rintro ⟨hon, hsync, d, v, hresync, h1, h3⟩
  rcases h with h | h | h | ⟨d', v', hd, h⟩
  · simp [hon] at h
  · exact hsync h
  · simp [hresync] at h
  · obtain ⟨rfl, -⟩ : d = d' ∧ v = v' := by simpa [hresync] using hd
    omega

/-- Settles O17: codeword boundaries, preset fetches, the searches, and the slip test. -/
theorem codewordStartAndSearches : Obligations.CodewordStartAndSearches := by
  unfold Obligations.CodewordStartAndSearches
  refine ⟨⟨fun n k f idx ns s => ⟨_, rfl, ?_, fun h => cwBoundary_idle h f idx ns⟩,
      fun n k ue s => ⟨_, rfl, fun h => presetFetchDone_idle h ue, ?_⟩⟩,
    fun n k s => ⟨_, rfl, rfl, ?_⟩, fun n k s => ⟨_, rfl, rfl, ?_⟩, fun n k w s => ⟨_, rfl, rfl, ?_⟩⟩
  · rintro p q d rfl hq hd ho hv hp hlt
    have hplace : placeOfCw s n f idx = q := by
      rcases hq with ⟨hs, rfl⟩ | ⟨c, e, hs, h1, h8, hq⟩
      · exact placeOfCw_steady hs f idx
      · exact placeOfCw_slipped hs h1 h8 hq
    have hsince : sincePredicted s n f idx = some d := by rw [sincePredicted_valid hv hp, hplace, hd]; rfl
    exact cwBoundary_effect k.isLt hsince ho hlt ns rfl
  · rintro p a h (rfl : a = presetAddr s n k p)
    by_cases hm : ue = true ∨ inkLimit ≤ presetAddr s n k p ∨ s.anyPoison (presetAddr s n k p) 64 = true
    · obtain ⟨hfetching, hheld, hfetched, hev, hin, hout⟩ := presetMissed_effect n k _ _ s (presetFetchDone_missed h hm)
      exact ⟨hfetching, hheld, fun hue ha hp => absurd hm (by simp [hue, hp, ha]), fun _ => ⟨hev, hfetched⟩, hin, hout⟩
    · have hread : ue = false ∧ presetAddr s n k p < inkLimit ∧ s.anyPoison (presetAddr s n k p) 64 = false := by simpa using hm
      obtain ⟨rfl, ha, hp⟩ := hread
      obtain ⟨hfetching, hheld, hfetched, hfld⟩ := presetTaken_effect n k p _ s (presetFetchDone_fetched h ha hp)
      exact ⟨hfetching, hheld, fun _ _ _ => ⟨hfetched, hfld⟩, fun hm' => absurd hm' hm, fun _ => .of_fld hfld, fun hout => absurd ha (Nat.not_lt.2 hout)⟩
  · rintro r c scores hc rfl
    exact ⟨markScores_length .., modNewest_cws hc _⟩
  · rintro r c start scores hc rfl rfl
    refine ⟨markScores_length .., (modNewest_cws hc _).trans ?_⟩
    cases c.sync <;> rfl
  · intro c r hc
    refine ⟨fun ht hs hd => (slipTest_cws hc w).trans ?_, fun hnot => (slipTest_cws hc w).trans ?_⟩
    · exact congrArg (· :: r) (if_pos ((slipDue_iff _ _ _).2 ⟨beq_iff_eq.2 ht, hs, hd⟩))
    · exact congrArg (· :: r) (if_neg (slipDue_not (hnot.imp_left fun h => beq_eq_false_iff_ne.2 h)))

end Sys2Proof.Machine

/-!
SUPPORT. What the pool's status registers, and the replays that start, leave of the decoder pool (R89 to R93, R101 to R103, R109).
-/

namespace Sys2Proof.Machine

/-! ### The pool's status registers -/

/-- The fields that follow from the pool's state. -/
def poolShown : List Fld :=
  [LDPC_CAP_EFF_L0, LDPC_CAP_EFF_RETRY, LDPC_STATUS_INBUF, LDPC_STATUS_BUSY, LDPC_STATUS_RETRY_BUSY, LDPC_STATUS_REVISIT, LDPC_REVISIT_LO_REVISIT,
    LDPC_SPILL_STATUS_QUEUED, LDPC_SPILL_STATUS_FREE]

theorem refreshLdpc_onlyFields (s : State) : OnlyFields poolShown s (refreshLdpc s) := by
  unfold refreshLdpc
  dsimp only
  iterate 9 refine OnlyFields.set ?_ _ _ (by decide)
  exact .refl _ s

theorem OnlyFields.cw? {but : List Fld} {s t : State} (h : OnlyFields but s t) (id : Nat) : t.cw? id = s.cw? id := by
  rw [State.cw?, State.cw?, h.ldpc]

/-! ### Codewords of the pool -/

@[simp] theorem State.putCw_cw?_same (s : State) (id : Nat) (c : Cw) : (s.putCw id c).cw? id = some c := Store.find?_insert_same ..

theorem State.putCw_cw?_ne (s : State) {id i : Nat} (c : Cw) (h : i ≠ id) : (s.putCw id c).cw? i = s.cw? i := Store.find?_insert_ne _ _ h

@[simp] theorem State.dropCw_cw?_same (s : State) (id : Nat) : (s.dropCw id).cw? id = none := Store.find?_erase_same ..

/-! ### Replays that start (R101, R102, R109) -/

/-- A codeword without what a replay fetches at its start: its preset, its neighbours' presets, and the status that says whether the alternate
bank had one. -/
def Cw.unfetched (c : Cw) : Cw := { c with replay := none, sides := [], status := 0 }

/-- Replays have started: of what no register shows, the replay queue, the channels and what codewords fetch for a replay have changed; of the
registers, the Inkwell's address error record. -/
structure ReplaysOnly (s t : State) : Prop where
  fields : SameFields addrErrFields s t
  hidden : { t with fld := s.fld, ldpc := s.ldpc } = s
  pool : { t.ldpc with cws := s.ldpc.cws, replayq := s.ldpc.replayq, chans := s.ldpc.chans } = s.ldpc
  cw : ∀ id, (t.cw? id).map Cw.unfetched = (s.cw? id).map Cw.unfetched

namespace ReplaysOnly

theorem refl (s : State) : ReplaysOnly s s := ⟨.refl _ s, rfl, rfl, fun _ => rfl⟩

theorem trans {s t u : State} (h : ReplaysOnly s t) (k : ReplaysOnly t u) : ReplaysOnly s u where
  fields := h.fields.trans k.fields
  hidden := by
    calc { u with fld := s.fld, ldpc := s.ldpc } = { { u with fld := t.fld, ldpc := t.ldpc } with fld := s.fld, ldpc := s.ldpc } := rfl
      _ = s := by rw [k.hidden, h.hidden]
  pool := by
    calc { u.ldpc with cws := s.ldpc.cws, replayq := s.ldpc.replayq, chans := s.ldpc.chans }
        = { { u.ldpc with cws := t.ldpc.cws, replayq := t.ldpc.replayq, chans := t.ldpc.chans } with
            cws := s.ldpc.cws, replayq := s.ldpc.replayq, chans := s.ldpc.chans } := rfl
      _ = s.ldpc := by rw [k.pool, h.pool]
  cw id := (k.cw id).trans (h.cw id)

theorem frame : Frame ReplaysOnly := ⟨refl, trans⟩

theorem of_read {s t : State} (h : OnlyFields addrErrFields s t) : ReplaysOnly s t :=
  ⟨h.1, by rw [← h.ldpc]; exact h.2, by rw [h.ldpc], fun id => by rw [h.cw?]⟩

/-- A codeword of the pool keeps what it has fetched. -/
theorem putCw {s t : State} (h : ReplaysOnly s t) {id : Nat} {c d : Cw} (hc : t.cw? id = some c) (hd : d.unfetched = c.unfetched) :
    ReplaysOnly s (t.putCw id d) := by
  refine h.trans ⟨.of_fld rfl, rfl, rfl, fun i => ?_⟩
  by_cases hi : i = id
  · subst hi
    rw [State.putCw_cw?_same, hc, Option.map_some, Option.map_some, hd]
  · rw [State.putCw_cw?_ne _ _ hi]

theorem mem {s t : State} (h : ReplaysOnly s t) : t.mem = s.mem := (congrArg State.mem h.hidden :)
theorem poison {s t : State} (h : ReplaysOnly s t) : t.poison = s.poison := (congrArg State.poison h.hidden :)
theorem sameMemory {s t : State} (h : ReplaysOnly s t) : SameMemory s t := .of_mem h.mem h.poison
theorem l0q {s t : State} (h : ReplaysOnly s t) : t.ldpc.l0q = s.ldpc.l0q := (congrArg Ldpc.l0q h.pool :)
theorem retryq {s t : State} (h : ReplaysOnly s t) : t.ldpc.retryq = s.ldpc.retryq := (congrArg Ldpc.retryq h.pool :)
theorem busy {s t : State} (h : ReplaysOnly s t) : t.ldpc.busy = s.ldpc.busy := (congrArg Ldpc.busy h.pool :)
theorem spillq {s t : State} (h : ReplaysOnly s t) : t.ldpc.spillq = s.ldpc.spillq := (congrArg Ldpc.spillq h.pool :)

/-- What the start of a replay does not fetch of a codeword is as it was. -/
theorem cw_map {s t : State} (h : ReplaysOnly s t) {α : Type} {f : Cw → α} (hf : ∀ c : Cw, f c.unfetched = f c) (id : Nat) :
    (t.cw? id).map f = (s.cw? id).map f := by
  have hmap := congrArg (Option.map f) (h.cw id)
  simpa only [Option.map_map, Function.comp_def, hf] using hmap

/-- No codeword comes back. -/
theorem cw_none {s t : State} (h : ReplaysOnly s t) {id : Nat} (hs : s.cw? id = none) : t.cw? id = none := by
  simpa [hs] using h.cw id

end ReplaysOnly

theorem fetchPreset_onlyFields (s : State) (n k : Nat) (p : Preset) : OnlyFields addrErrFields s (fetchPreset s n k p).2 := by
  rw [fetchPreset, fetch64_state]
  exact s.reads_onlyFields _ _

theorem fetchPreset_fetched {s t : State} {n k : Nat} {p : Preset} {e : Option (List (BitVec 8))} (h : fetchPreset s n k p = (e, t)) :
    OnlyFields addrErrFields s t := by
  simpa only [h] using fetchPreset_onlyFields s n k p

/-- What every item of a collection keeps, the collection keeps. -/
theorem Frame.collect {R : State → State → Prop} (hR : Frame R) {α β : Type} (s : State) (l : List α) (f : State → α → β × State)
    (hf : ∀ s a b t, f s a = (b, t) → R s t) : R s (s.collect l f).2 := by
  have hfold : ∀ (l : List α) (acc : List β × State), R s acc.2 →
      R s (l.foldl (fun (a : List β × State) x => (a.1 ++ [(f a.2 x).1], (f a.2 x).2)) acc).2 := by
    intro l
    induction l with
    | nil => exact fun _ h => h
    | cons a l ih => exact fun acc h => ih _ (hR.trans h (hf _ _ _ _ rfl))
  exact hfold l ([], s) (hR.refl s)

theorem asOwn_state (c : Cw) (b : Bool) (r : Option (List (BitVec 8)) × State) : (asOwn c b r).2.2 = r.2 := rfl

theorem ownPreset_onlyFields (s : State) (c : Cw) (b : Bool) : OnlyFields addrErrFields s (ownPreset s c b).2.2 := by
  rw [ownPreset, asOwn_state]
  exact fetchPreset_onlyFields s c.pen c.nib c.preset

theorem altPreset_onlyFields (s : State) (c : Cw) : OnlyFields addrErrFields s (altPreset s c).2.2 := by
  have hother := fetchPreset_onlyFields s c.pen c.nib (otherPreset s c)
  unfold altPreset
  split
  · generalize fetchPreset s c.pen c.nib (otherPreset s c) = r at hother
    obtain ⟨e, t⟩ := r
    cases e with
    | some e => exact hother
    | none => exact hother.trans (ownPreset_onlyFields t c true)
  · exact ownPreset_onlyFields s c true

theorem keepPreset_replaysOnly {s : State} {id : Nat} {c : Cw} (hc : s.cw? id = some c) {r : Option (Preset × List (BitVec 8)) × Bool × State}
    (hr : OnlyFields addrErrFields s r.2.2) : ReplaysOnly s (keepPreset id c r) :=
  (ReplaysOnly.of_read hr).putCw ((hr.cw? id).trans hc) rfl

theorem keptSides_replaysOnly {s : State} {id : Nat} {c : Cw} (hc : s.cw? id = some c) {got : List (Option (List (BitVec 8))) × State}
    (hgot : OnlyFields addrErrFields s got.2) : ReplaysOnly s (got.2.putCw id { c with sides := got.1 }) :=
  (ReplaysOnly.of_read hgot).putCw ((hgot.cw? id).trans hc) rfl

theorem keepSides_replaysOnly (s : State) (id : Nat) : ReplaysOnly s (keepSides s id) := by
  rw [keepSides]
  split
  · exact .refl s
  · next c hc =>
    exact keptSides_replaysOnly hc ((OnlyFields.frame addrErrFields).collect s _ _ fun _ _ _ _ h => fetchPreset_fetched h)

theorem openReplay_replaysOnly (s : State) (id : Nat) : ReplaysOnly s (openReplay s id) := by
  unfold openReplay
  split
  · exact .refl s
  · next c hc =>
    split
    · exact (keepPreset_replaysOnly hc (ownPreset_onlyFields s c false)).trans (keepSides_replaysOnly _ id)
    · exact keepPreset_replaysOnly hc (altPreset_onlyFields s c)

theorem startReplay_replaysOnly (s : State) (ch : Nat) : ReplaysOnly s (startReplay s ch) := by
  unfold startReplay
  split
  · next id rest _ _ =>
    have hqueues : ReplaysOnly s (s.modLdpc fun l => { l with chans := l.chans.insert ch id, replayq := rest }) :=
      ⟨.of_fld rfl, rfl, rfl, fun _ => rfl⟩
    exact hqueues.trans (openReplay_replaysOnly _ id)
  · exact .refl s

theorem startReplays_replaysOnly (s : State) : ReplaysOnly s (startReplays s) :=
  ReplaysOnly.frame.each (.refl s) fun s ch _ => startReplay_replaysOnly s ch

end Sys2Proof.Machine

/-!
Cores take work (R90 to R93, R102).
-/

namespace Sys2Proof.Machine

/-- The state in which a core has taken a task. -/
def tookL0 (core id : Nat) (rest : List Nat) (cap : Nat) (s : State) : State :=
  s.modLdpc fun l => { l with l0q := rest, busy := l.busy.insert core { cw := id, kind := .l0, cap := cap } }

/-- The cap of an L0 decode: that of its pen's verify, or the one in force (R91, R140). -/
def l0Cap (s : State) (id : Nat) : Nat :=
  match s.cw? id with
  | some c => if c.verify then capOf (s.get (WC_VERIFY_VFY_ICAP c.pen)) else effL0 s (s.get LDPC_SCHED_STEP)
  | none => effL0 s (s.get LDPC_SCHED_STEP)

theorem l0Cap_verify {s : State} {id : Nat} {c : Cw} (hc : s.cw? id = some c) (hv : c.verify = true) :
    l0Cap s id = capOf (s.get (WC_VERIFY_VFY_ICAP c.pen)) := by simp [l0Cap, hc, hv]

theorem l0Cap_read {s : State} {id : Nat} (h : ∀ c, s.cw? id = some c → c.verify = false) : l0Cap s id = effL0 s (s.get LDPC_SCHED_STEP) := by
  unfold l0Cap
  split
  · next c hc => simp [h c hc]
  · rfl

/-- The cap of a retry task (R91, R102). -/
def retryCap (s : State) (k : TaskKind) : Nat := if k = .neighbour false ∨ k = .neighbour true then 10 else effRetry s (s.get LDPC_SCHED_STEP)

/-- A core takes a retry task; a replay's LLRs leave its channel with it (R101, R103). -/
def tookRetry (core : Nat) (t : Nat × TaskKind) (s : State) : State :=
  s.modLdpc fun l =>
    { l with
      retryq := withoutTask t l.retryq
      busy := l.busy.insert core { cw := t.1, kind := t.2, cap := retryCap s t.2 }
      chans := if takesChannel s t then l.chans.filter (·.2 != t.1) else l.chans }

/-- Cores that may be on retry work (R92). -/
def retryLimit (s : State) : Nat := min (s.get LDPC_SCHED_RETRY_MAX) (onlineCount s - s.get LDPC_SCHED_L0_RESERVE)

section
variable {core : Nat} {s : State}

theorem coreSchedule_rests (h : s.ldpc.busy.find? core ≠ none ∨ s.bit LDPC_CORE_ONLINE_ONLINE core = false) : coreSchedule core s = s :=
  if_pos (h.imp_left Option.isSome_iff_ne_none.2)

variable (hb : s.ldpc.busy.find? core = none) (ho : s.bit LDPC_CORE_ONLINE_ONLINE core = true)
include hb ho

theorem coreSchedule_l0 {id : Nat} {rest : List Nat} (hq : s.ldpc.l0q = id :: rest) :
    coreSchedule core s = refreshLdpc (tookL0 core id rest (l0Cap s id) s) := by
  rw [coreSchedule, if_neg (by simp [hb, ho])]
  simp only [hq]
  rfl

theorem coreSchedule_retry {id : Nat} {k : TaskKind} (hq : s.ldpc.l0q = []) (ht : oldestTask s = some (id, k)) (hl : retryBusy s < retryLimit s) :
    coreSchedule core s = refreshLdpc (startReplays (tookRetry core (id, k) s)) := by
  rw [coreSchedule, if_neg (by simp [hb, ho])]
  simp only [hq, ht]
  rw [if_pos (show retryBusy s < min (s.get LDPC_SCHED_RETRY_MAX) (onlineCount s - s.get LDPC_SCHED_L0_RESERVE) from hl)]
  cases k with
  | l0 | retry => rfl
  | neighbour u => cases u <;> rfl

theorem coreSchedule_limit (hq : s.ldpc.l0q = []) (hl : retryLimit s ≤ retryBusy s) : coreSchedule core s = s := by
  rw [coreSchedule, if_neg (by simp [hb, ho])]
  simp only [hq]
  exact if_neg (Nat.not_lt.2 hl)

theorem coreSchedule_empty (hq : s.ldpc.l0q = []) (hr : s.ldpc.retryq = []) : coreSchedule core s = s := by
  have ht : oldestTask s = none := by simp [oldestTask, hr]
  rw [coreSchedule, if_neg (by simp [hb, ho])]
  simp only [hq, ht, ite_self]

end

/-- Settles O19: a core rests, takes the oldest L0 codeword, or takes the oldest retry task within the limit. -/
theorem poolSchedule : Obligations.PoolSchedule := by
  unfold Obligations.PoolSchedule
  refine fun core s => ⟨_, rfl, coreSchedule_rests, fun hb ho => ⟨fun id rest hq => ?_,
    fun id kind hq ht => ⟨fun hl => ?_, coreSchedule_limit hb ho hq⟩, coreSchedule_empty hb ho⟩⟩
  · rw [coreSchedule_l0 hb ho hq, (refreshLdpc_onlyFields _).ldpc]
    exact ⟨rfl, rfl, l0Cap s id, Store.find?_insert_same .., fun c hc hv => l0Cap_verify hc hv, l0Cap_read⟩
  · have hstart := startReplays_replaysOnly (tookRetry core (id, kind) s)
    rw [coreSchedule_retry hb ho hq ht hl, (refreshLdpc_onlyFields _).ldpc, hstart.retryq, hstart.busy]
    exact ⟨rfl, Store.find?_insert_same ..⟩

end Sys2Proof.Machine

/-!
Captures of a spill slot (R114).
-/

namespace Sys2Proof.Machine

theorem State.get_modLdpc (s : State) (k : Ldpc → Ldpc) (f : Fld) : (s.modLdpc k).get f = s.get f := rfl

/-- The registers name what a written word of LDPC_CAPTURE names. -/
def captureNamed (v : Nat) (s : State) : State :=
  ((s.set LDPC_CAPTURE_SLOT (v / 2 ^ 20)).set LDPC_CAPTURE_PEN (v / 2 ^ 8)).set LDPC_CAPTURE_NIB (v / 2 ^ 4)

/-- A capture is armed in the registers. -/
def captureArmed (s : State) : State :=
  ((s.set LDPC_CAPTURE_ARM 1).set LDPC_CAPTURE_DONE 0).modLdpc fun l => { l with capture := none }

section
variable (v : Nat) (s : State)

theorem captureNamed_onlyFields : OnlyFields [LDPC_CAPTURE_SLOT, LDPC_CAPTURE_PEN, LDPC_CAPTURE_NIB] s (captureNamed v s) :=
  (((OnlyFields.refl _ s).set _ _ (by decide)).set _ _ (by decide)).set _ _ (by decide)

theorem captureNamed_slot : (captureNamed v s).get LDPC_CAPTURE_SLOT = v / 2 ^ 20 % 2 ^ 10 := by
  rw [captureNamed, State.get_set_ne _ _ (by decide), State.get_set_ne _ _ (by decide), State.get_set]
  rfl

theorem captureNamed_pen : (captureNamed v s).get LDPC_CAPTURE_PEN = v / 2 ^ 8 % 16 := by
  rw [captureNamed, State.get_set_ne _ _ (by decide), State.get_set]
  rfl

theorem captureNamed_nib : (captureNamed v s).get LDPC_CAPTURE_NIB = v / 2 ^ 4 % 16 := State.get_set ..

theorem captureNamed_ladderSlots : ladderSlots (captureNamed v s) = ladderSlots s := by
  rw [ladderSlots, ladderSlots, (captureNamed_onlyFields v s).1 _ (by decide)]

end

theorem captureArmed_arm (s : State) : (captureArmed s).get LDPC_CAPTURE_ARM = 1 := by
  rw [captureArmed, State.get_modLdpc, State.get_set_ne _ _ (by decide), State.get_set]
  rfl

theorem captureArmed_done (s : State) : (captureArmed s).get LDPC_CAPTURE_DONE = 0 := by
  rw [captureArmed, State.get_modLdpc, State.get_set]
  rfl

section
variable (ok : Bool) (s : State)

theorem captureEnd_arm : (captureEnd ok s).get LDPC_CAPTURE_ARM = 0 := by
  rw [captureEnd, State.get_modLdpc, State.get_ev_ne _ (by decide), State.get_set_ne _ _ (by decide), State.get_set_ne _ _ (by decide), State.get_set]
  rfl

theorem captureEnd_done : (captureEnd ok s).get LDPC_CAPTURE_DONE = 1 := by
  rw [captureEnd, State.get_modLdpc, State.get_ev_ne _ (by decide), State.get_set_ne _ _ (by decide), State.get_set]
  rfl

theorem captureEnd_ok : (captureEnd ok s).get LDPC_CAPTURE_OK = if ok then 1 else 0 := by
  rw [captureEnd, State.get_modLdpc, State.get_ev_ne _ (by decide), State.get_set]
  cases ok <;> rfl

theorem captureEnd_event : (captureEnd ok s).get LDPC_EVENT_CAPTURE_DONE = 1 := by
  rw [captureEnd, State.get_modLdpc, State.get_ev _ _ (by decide)]

/-- What a capture's end leaves of the registers outside its own. -/
theorem captureEnd_sameFields :
    SameFields [LDPC_CAPTURE_ARM, LDPC_CAPTURE_DONE, LDPC_CAPTURE_OK, LDPC_EVENT_CAPTURE_DONE] s (captureEnd ok s) :=
  have hset : OnlyFields [LDPC_CAPTURE_ARM, LDPC_CAPTURE_DONE, LDPC_CAPTURE_OK, LDPC_EVENT_CAPTURE_DONE] s
      ((((s.set LDPC_CAPTURE_ARM 0).set LDPC_CAPTURE_DONE 1).set LDPC_CAPTURE_OK (if ok then 1 else 0)).ev LDPC_EVENT_CAPTURE_DONE) :=
    ((((OnlyFields.refl _ s).set _ _ (by decide)).set _ _ (by decide)).set _ _ (by decide)).set _ _ (by decide)
  hset.1

theorem captureEnd_sameMemory : SameMemory s (captureEnd ok s) := .of_mem rfl rfl

end

section
variable {v : Nat} {s : State}

theorem captureArm_unarmed (h : v.testBit 30 = false) : captureArm v s = captureNamed v s := if_neg (Bool.eq_false_iff.1 h)

theorem captureArm_refused (h : v.testBit 30 = true) (hs : v / 2 ^ 20 % 2 ^ 10 < ladderSlots s) :
    captureArm v s = captureEnd false (captureNamed v s) := by
  rw [← captureNamed_slot v s, ← captureNamed_ladderSlots v s] at hs
  exact (if_pos h).trans (if_pos hs)

theorem captureArm_armed (h : v.testBit 30 = true) (hs : ladderSlots s ≤ v / 2 ^ 20 % 2 ^ 10) :
    captureArm v s = captureArmed (captureNamed v s) := by
  rw [← captureNamed_slot v s, ← captureNamed_ladderSlots v s] at hs
  exact (if_pos h).trans (if_neg (Nat.not_lt.2 hs))

/-- Arming, a refusal and a write that does neither leave the registers as the word names them. -/
theorem captureArm_sameFields (v : Nat) (s : State) :
    SameFields [LDPC_CAPTURE_ARM, LDPC_CAPTURE_DONE, LDPC_CAPTURE_OK, LDPC_EVENT_CAPTURE_DONE] (captureNamed v s) (captureArm v s) := by
  cases h : v.testBit 30 with
  | false => rw [captureArm_unarmed h]; exact .refl _ _
  | true =>
    rcases Nat.lt_or_ge (v / 2 ^ 20 % 2 ^ 10) (ladderSlots s) with hs | hs
    · rw [captureArm_refused h hs]; exact captureEnd_sameFields _ _
    · rw [captureArm_armed h hs]
      have hset : OnlyFields [LDPC_CAPTURE_ARM, LDPC_CAPTURE_DONE, LDPC_CAPTURE_OK, LDPC_EVENT_CAPTURE_DONE] (captureNamed v s)
          (((captureNamed v s).set LDPC_CAPTURE_ARM 1).set LDPC_CAPTURE_DONE 0) :=
        ((OnlyFields.refl _ _).set _ _ (by decide)).set _ _ (by decide)
      exact hset.1

theorem captureDone_none (h : s.ldpc.capture = none) : captureDone s = s := by rw [captureDone, h]

theorem captureDone_unarmed (h : s.get LDPC_CAPTURE_ARM ≠ 1) : captureDone s = s := by
  have ha : s.on LDPC_CAPTURE_ARM ≠ true := by simpa [State.on] using h
  rw [captureDone]
  split
  · rfl
  · exact if_neg ha

theorem captureDone_lost {c : Cw} (hc : s.ldpc.capture = some c) (h : s.get LDPC_CAPTURE_ARM = 1) (hl : c.status.testBit 7 = true) :
    captureDone s = captureEnd false s := by
  have ha : s.on LDPC_CAPTURE_ARM = true := by simpa [State.on] using h
  simp only [captureDone, hc]
  exact (if_pos ha).trans (if_pos hl)

theorem captureDone_written {c : Cw} (hc : s.ldpc.capture = some c) (h : s.get LDPC_CAPTURE_ARM = 1) (hl : c.status.testBit 7 = false) :
    captureDone s = captureEnd true (writeRecord s (s.get LDPC_CAPTURE_SLOT) c 0) := by
  have ha : s.on LDPC_CAPTURE_ARM = true := by simpa [State.on] using h
  simp only [captureDone, hc]
  exact (if_pos ha).trans (if_neg (by simp [hl]))

end

/-- Settles O24: a write of LDPC_CAPTURE names its slot, and arms or is refused; an armed capture ends, whole or without its samples. -/
theorem poolCapture : Obligations.PoolCapture := by
  unfold Obligations.PoolCapture
  refine ⟨fun v s => ⟨_, rfl, fun h => State.clocked_stopped h _, fun h => ?_, fun h hv hs => ?_, fun h hv hs => ?_, fun hv => ?_⟩,
    fun s => ⟨_, rfl, ?_, fun c hc ha => ?_⟩⟩
  · rw [State.clocked_running h]
    have hkept := captureArm_sameFields v.toNat s
    exact ⟨(hkept _ (by decide)).trans (captureNamed_pen ..), (hkept _ (by decide)).trans (captureNamed_nib ..),
      (hkept _ (by decide)).trans (captureNamed_slot ..)⟩
  · rw [State.clocked_running h, captureArm_armed hv hs]
    exact ⟨captureArmed_arm _, captureArmed_done _, rfl⟩
  · rw [State.clocked_running h, captureArm_refused hv hs]
    exact ⟨captureEnd_arm .., captureEnd_done .., captureEnd_ok .., captureEnd_event ..⟩
  · refine OnlyFields.clocked ?_
    rw [captureArm_unarmed hv]
    exact captureNamed_onlyFields ..
  · exact fun h => h.elim captureDone_none captureDone_unarmed
  · cases hl : c.status.testBit 7 with
    | true =>
      rw [captureDone_lost hc ha hl]
      exact ⟨captureEnd_arm .., captureEnd_done .., captureEnd_event .., rfl, captureEnd_ok .., fun _ => captureEnd_sameMemory ..⟩
    | false =>
      rw [captureDone_written hc ha hl]
      exact ⟨captureEnd_arm .., captureEnd_done .., captureEnd_event .., rfl, captureEnd_ok .., nofun⟩

end Sys2Proof.Machine

/-!
SUPPORT. What a codeword's way along the ladder leaves of the registers and of the busy cores (R94 to R99, R106, R110 to R112).
-/

namespace Sys2Proof.Machine

/-- The fields outside the Inkwell that a codeword reaches which is delivered, poisoned or handed on. -/
def ladderFlds : List Fld :=
  [LDPC_EVENT_RES_OVF, LDPC_CNT_OVF_RES_OVF, LDPC_RES_HEAD_HEAD, LDPC_EVENT_RESULT, LDPC_EVENT_POISON, LDPC_CNT_POISON_EXHAUSTED,
    LDPC_CNT_POISON_CUT, LDPC_EVENT_RELOCATE]
    ++ (List.range 8).map LDPC_CNT_RUNG_DELIVERED ++ poolShown

/-- The fields outside the Inkwell that a decode's failure reaches. -/
def spillFlds : List Fld := LDPC_EVENT_SPILL_FULL :: LDPC_CNT_LOSS_SPILL_FULL :: ladderFlds

theorem ladderFlds_subset_spillFlds : ladderFlds ⊆ spillFlds := fun _ h => List.mem_cons_of_mem _ (List.mem_cons_of_mem _ h)

theorem delivered_mem_ladderFlds (rung : Nat) : LDPC_CNT_RUNG_DELIVERED (rung % 8) ∈ ladderFlds :=
  List.mem_append_left _ (List.mem_append_right _ (List.mem_map_of_mem (List.mem_range.2 (Nat.mod_lt _ (by decide)))))

/-- A codeword has moved along the ladder: register fields outside the Inkwell's block and a list are as before, and so are the busy cores. -/
structure LadderStep (but : List Fld) (s t : State) : Prop where
  fields : SameBut but s t
  busy : t.ldpc.busy = s.ldpc.busy

namespace LadderStep

variable {but : List Fld}

theorem refl (but : List Fld) (s : State) : LadderStep but s s := ⟨.refl but s, rfl⟩

theorem trans {s t u : State} (h : LadderStep but s t) (k : LadderStep but t u) : LadderStep but s u :=
  ⟨h.fields.trans k.fields, k.busy.trans h.busy⟩

theorem frame (but : List Fld) : Frame (LadderStep but) := ⟨refl but, trans⟩

theorem mono {s t : State} {l : List Fld} (h : LadderStep l s t) (hs : l ⊆ but) : LadderStep but s t :=
  ⟨⟨fun f hi hf => h.fields.get f hi fun g hg => hf g (hs hg)⟩, h.busy⟩

theorem of_replays {s t : State} (h : ReplaysOnly s t) : LadderStep but s t where
  fields := ⟨fun f hi _ => h.fields.get fun g hg he => hi <| by
    have hb : ∀ g ∈ addrErrFields, g.block = 0x200001 := by decide
    rw [← hb g hg, Fld.block, he, Fld.block]⟩
  busy := h.busy

theorem of_onlyFields {s t : State} {l : List Fld} (h : OnlyFields l s t) (hs : l ⊆ but) : LadderStep but s t :=
  ⟨h.sameBut hs, congrArg Ldpc.busy h.ldpc⟩

variable {s t : State} (h : LadderStep but s t)
include h

theorem get {f : Fld} (hb : f.block ≠ 0x200001) (hf : ∀ g ∈ but, f.key ≠ g.key) : t.get f = s.get f := h.fields.get f hb hf

theorem set {f : Fld} (v : Nat) (hf : f ∈ but) : LadderStep but s (t.set f v) := ⟨h.fields.set f v hf, h.busy⟩

theorem ev {f : Fld} (hf : f ∈ but) : LadderStep but s (t.ev f) := h.set 1 hf

theorem bump {f : Fld} (k : Nat) (hf : f ∈ but) : LadderStep but s (t.bump f k) := h.set _ hf

theorem modLdpc {k : Ldpc → Ldpc} (hk : ∀ l, (k l).busy = l.busy) : LadderStep but s (t.modLdpc k) :=
  ⟨h.fields.trans (.of_fld rfl), (hk _).trans h.busy⟩

theorem putCw (id : Nat) (c : Cw) : LadderStep but s (t.putCw id c) := h.modLdpc fun _ => rfl

theorem dropCw (id : Nat) : LadderStep but s (t.dropCw id) := h.modLdpc fun _ => rfl

theorem inkWrite (r a : Nat) (l : List (BitVec 8)) (m : Bool) : LadderStep but s (t.inkWrite r a l m) :=
  ⟨h.fields.inkWrite r a l m, (congrArg Ldpc.busy (inkWrite_inkHidden t r a l m).ldpc).trans h.busy⟩

theorem inkWriteZ (r a n : Nat) (l : List (BitVec 8)) (m : Bool) : LadderStep but s (t.inkWriteZ r a n l m) :=
  ⟨h.fields.trans ⟨fun _ hi _ => t.inkWriteZ_get r a n l m hi⟩, (congrArg Ldpc.busy (inkWriteZ_inkHidden t r a n l m).ldpc).trans h.busy⟩

theorem noteDesc (c : Cw) (good : Bool) : LadderStep but s (noteDesc t c good) := ⟨h.fields.modWc _ _, h.busy⟩

theorem noteVerify (c : Cw) (good : Bool) (iters : Nat) : LadderStep but s (noteVerify t c good iters) := ⟨h.fields.modWc _ _, h.busy⟩

theorem startReplays : LadderStep but s (startReplays t) := h.trans (.of_replays (startReplays_replaysOnly t))

theorem resultEntry (c : Cw) (outcome : Nat) (hl : ladderFlds ⊆ but) : LadderStep but s (resultEntry t c outcome) := by
  unfold Machine.resultEntry
  dsimp only
  split
  · exact (h.ev (hl (by decide))).bump _ (hl (by decide))
  · exact ((h.inkWrite _ _ _ _).set _ (hl (by decide))).ev (hl (by decide))

theorem refreshLdpc (hl : ladderFlds ⊆ but) : LadderStep but s (refreshLdpc t) :=
  h.trans (.of_onlyFields (refreshLdpc_onlyFields t) (List.Subset.trans (List.subset_append_right _ _) hl))

end LadderStep

theorem deliver_ladder (s : State) (id : Nat) (c : Cw) (data : List (BitVec 8)) : LadderStep ladderFlds s (deliver s id c data) := by
  unfold deliver
  dsimp only
  refine LadderStep.dropCw ?_ id
  refine (LadderStep.frame _).iff ?_ fun _ => (LadderStep.refl _ _).ev (by decide)
  refine (LadderStep.frame _).iff ?_ fun _ => (LadderStep.refl _ _).resultEntry c 0 (List.Subset.refl _)
  exact (((LadderStep.refl _ s).inkWrite _ _ _ _).bump _ (delivered_mem_ladderFlds _)).noteDesc c true

theorem poisonCw_ladder (s : State) (id : Nat) (c : Cw) (outcome : Nat) : LadderStep ladderFlds s (poisonCw s id c outcome) := by
  unfold poisonCw
  dsimp only
  refine LadderStep.dropCw (LadderStep.resultEntry (LadderStep.noteDesc ?_ c false) c outcome (List.Subset.refl _)) id
  have hdata : ∀ l, LadderStep ladderFlds s ((s.inkWriteZ c.pen c.dest 4096 l true).ev LDPC_EVENT_POISON) :=
    fun l => ((LadderStep.refl _ s).inkWriteZ _ _ _ _ _).ev (by decide)
  split
  · exact (hdata _).bump _ (by decide)
  · exact (hdata _).bump _ (by decide)

theorem toRevisit_ladder (s : State) (id p : Nat) : LadderStep ladderFlds s (toRevisit s id p) := by
  unfold toRevisit
  split
  · exact .refl _ s
  · split
    · exact poisonCw_ladder s id _ 1
    · exact Kept.ite (poisonCw_ladder s id _ 2) (((LadderStep.refl _ s).putCw id _).noteDesc _ false)

theorem joinRevisit_ladder (s : State) (id p : Nat) : LadderStep ladderFlds s (joinRevisit s id p) := by
  unfold joinRevisit
  split
  · exact .refl _ s
  · split
    · exact poisonCw_ladder s id _ 2
    · exact toRevisit_ladder s id p

theorem enterRung_ladder (s : State) (id : Nat) (c : Cw) : LadderStep ladderFlds s (enterRung s id c) :=
  ((LadderStep.refl _ s).putCw id _).modLdpc fun _ => rfl

theorem LadderStep.readyTask {but : List Fld} {s t : State} (h : LadderStep but s t) (id : Nat) (k : TaskKind) :
    LadderStep but s (readyTask t id k) := h.modLdpc fun _ => rfl

theorem advance_ladder (s : State) (id r : Nat) : LadderStep ladderFlds s (advance s id r) := by
  unfold advance
  split
  · exact .refl _ s
  · refine Kept.ite ?_ (Kept.ite ?_ (Kept.ite ?_ ?_))
    · exact (enterRung_ladder s id _).readyTask id _
    · refine Kept.ite ?_ (Kept.ite ?_ ?_)
      · exact (enterRung_ladder s id _).readyTask id _
      · exact enterRung_ladder s id _
      · exact LadderStep.startReplays ((enterRung_ladder s id _).modLdpc fun _ => rfl)
    · exact LadderStep.startReplays ((enterRung_ladder s id _).modLdpc fun _ => rfl)
    · exact joinRevisit_ladder s id _

/-- Where a spilled record goes: a slot that is the codeword's own or a free one, while the queue has room (R98, R99). -/
def spillSlot (s : State) (c : Cw) : Option Nat := if s.ldpc.spillq.length < 32 then c.slot <|> freeSlot? s else none

section
variable {s : State} {id : Nat} {c : Cw} (hc : s.cw? id = some c)
include hc

theorem spillOrFull_queued {sl : Nat} (hs : spillSlot s c = some sl) :
    spillOrFull s id = (s.putCw id { c with phase := .spilling, slot := some sl, windows := windowsNow s c }).modLdpc
      fun l => { l with spillq := l.spillq ++ [id] } := by
  rw [spillSlot] at hs
  simp only [spillOrFull, hc, hs]

theorem spillOrFull_full (hs : spillSlot s c = none) :
    spillOrFull s id = joinRevisit (((s.ev LDPC_EVENT_SPILL_FULL).bump LDPC_CNT_LOSS_SPILL_FULL 1).putCw id
      { c with status := c.status ||| 2 ^ 6, inBuf := false, llrs := [], lost := true }) id (stepPos c.rung c.sub) := by
  rw [spillSlot] at hs
  simp only [spillOrFull, hc, hs]

end

theorem spillOrFull_ladder (s : State) (id : Nat) : LadderStep spillFlds s (spillOrFull s id) := by
  cases hc : s.cw? id with
  | none =>
    rw [spillOrFull, hc]
    exact .refl _ s
  | some c =>
    cases hs : spillSlot s c with
    | some sl =>
      rw [spillOrFull_queued hc hs]
      exact ((LadderStep.refl _ s).putCw id _).modLdpc fun _ => rfl
    | none =>
      rw [spillOrFull_full hc hs]
      exact ((((LadderStep.refl _ s).ev (by decide)).bump _ (by decide)).putCw id _).trans
        ((joinRevisit_ladder _ id _).mono ladderFlds_subset_spillFlds)

theorem decodeFailed_ladder (s : State) (id : Nat) (c : Cw) : LadderStep spillFlds s (decodeFailed s id c) := by
  have hnext : ∀ r, LadderStep spillFlds s (advance s id r) := fun r => (advance_ladder s id r).mono ladderFlds_subset_spillFlds
  unfold decodeFailed
  cases c.phase with
  | l0 | fresh => exact spillOrFull_ladder s id
  | l1 => exact hnext 1
  | l2 => exact hnext 2
  | l3 => exact hnext 3
  | spilling | pending => exact .refl _ s

theorem decodeSucceeds_ladder (s : State) (id : Nat) (c : Cw) (r : DecodeResult) : LadderStep ladderFlds s (decodeSucceeds s id c r) := by
  unfold decodeSucceeds
  dsimp only
  split
  · exact ((LadderStep.refl _ s).putCw id _).trans (poisonCw_ladder _ id _ 5)
  · exact ((LadderStep.refl _ s).putCw id _).trans (deliver_ladder _ id _ _)

/-! ### A neighbour's decode (R102) -/

section
variable (s : State) (id : Nat) (c : Cw) (upper ok : Bool) (r : DecodeResult)

theorem neighbourDone_ladder : LadderStep ladderFlds s (neighbourDone s id c upper ok r) := by
  unfold neighbourDone
  exact (LadderStep.frame _).iff ((LadderStep.refl _ s).putCw id _) fun _ => (LadderStep.refl _ _).modLdpc fun _ => rfl

theorem neighbourDone_neighbours : ((neighbourDone s id c upper ok r).cw? id).map (fun c => c.neighbours) = some (c.neighbours - 1) := by
  have hput : ∀ b : Bool, ((((s.putCw id { c with
      neighbours := c.neighbours - 1
      aids := if ok then Store.insert c.aids (if upper then 1 else 0) (r.user ++ r.header ++ r.crc) else c.aids })).iff b fun s =>
        s.modLdpc fun l => { l with replayq := l.replayq ++ [id] }).cw? id).map (fun c => c.neighbours) = some (c.neighbours - 1) := by
    intro b
    cases b <;> exact congrArg (Option.map _) (State.putCw_cw?_same s id _)
  exact hput _

theorem neighbourDone_sameMemory : SameMemory s (neighbourDone s id c upper ok r) := by
  unfold neighbourDone
  cases c.neighbours == 1 <;> exact .of_mem rfl rfl

end

/-! ### A delivery at L0 stores its bytes (R110) -/

theorem State.inkWrite_stored (s : State) (r a : Nat) (l : List (BitVec 8)) (m : Bool) (h : a + l.length ≤ inkLimit)
    (harm : s.get INK_ECC_TEST_ARM = 0) {i : Nat} (hi : i < l.length) : (s.inkWrite r a l m).byte (a + i) = l[i] := by
  have hready := inkReady_marksOnly s a l.length l m
  rw [State.inkWrite, if_pos h, inkStore, ← inkReady, testHook_unarmed (hready.arm.trans harm)]
  exact State.byte_putBytes _ a l i hi

/-- At L0 no result entry falls due. -/
theorem deliver_mem (s : State) (id : Nat) {c : Cw} (data : List (BitVec 8)) (hr : c.rung = 0) :
    (deliver s id c data).mem = (s.inkWrite c.pen c.dest data false).mem := by
  have hlate : ¬ 4 ≤ c.rung := by omega
  unfold deliver
  rw [decide_eq_false hlate, decide_eq_false (not_not.2 hr)]
  rfl

theorem deliver_cw?_same (s : State) (id : Nat) (c : Cw) (data : List (BitVec 8)) : (deliver s id c data).cw? id = none :=
  State.dropCw_cw?_same _ id

end Sys2Proof.Machine

/-!
A decode ends (R86, R87, R98, R99, R102, R110, R112, R115, R129, R140).
-/

namespace Sys2Proof.Machine

/-! ### The end of a decode, by what its task is and what came of it -/

/-- The fields in which a decode's end is counted, and its core's place in scheduling. -/
def countedFlds : List Fld := [LDPC_CNT_ITER_ITERATIONS, LDPC_CORE_ONLINE_ONLINE, LDPC_EVENT_MISCORRECT, LDPC_CNT_MISC_MISCORRECT]

/-- No core works on a decode that has ended. -/
def coreFreed (core : Nat) (s : State) : State := s.modLdpc fun l => { l with busy := l.busy.erase core }

/-- A core's decode is over: it is free, its iterations are counted, and it leaves scheduling if it is to. -/
def decodeCounted (core iters : Nat) (s : State) : State :=
  let t := (coreFreed core s).wrap LDPC_CNT_ITER_ITERATIONS iters
  t.iff (t.bit LDPC_CORE_OFFLINE_OFFLINE core) fun s => s.setBit LDPC_CORE_ONLINE_ONLINE core false

/-- A miscorrection is recorded. -/
def noteMiscorrect (mis : Bool) (s : State) : State := s.iff mis fun s => (s.ev LDPC_EVENT_MISCORRECT).bump LDPC_CNT_MISC_MISCORRECT 1

/-- Whether a decode has a zero syndrome and the wrong CRC. -/
def miscorrects (k : Task) (r : DecodeResult) : Bool := (decodeVerdict k r).1 && !(decodeVerdict k r).2.2

/-- The state in which what came of a codeword's decode takes effect. -/
def decodeJudged (core : Nat) (k : Task) (r : DecodeResult) (s : State) : State :=
  noteMiscorrect (miscorrects k r) (decodeCounted core (decodeVerdict k r).2.1 s)

/-- A codeword with its decode's iterations, and its status after a miscorrection. -/
def Cw.decoded (c : Cw) (k : Task) (r : DecodeResult) : Cw :=
  { c with iters := (decodeVerdict k r).2.1, status := if miscorrects k r then c.status ||| 2 ^ 9 else c.status }

/-- A codeword with what a failed decode leaves. -/
def Cw.failed (c : Cw) (s : State) (r : DecodeResult) : Cw := { c with weight := r.weight, lastData := clearData s c r.user r.header }

theorem decodeCounted_onlyFields (core iters : Nat) (s : State) : OnlyFields countedFlds (coreFreed core s) (decodeCounted core iters s) :=
  (OnlyFields.frame _).iff ((OnlyFields.refl _ _).set _ _ (by decide)) fun _ => (OnlyFields.refl _ _).set _ _ (by decide)

theorem decodeJudged_onlyFields (core : Nat) (k : Task) (r : DecodeResult) (s : State) :
    OnlyFields countedFlds (coreFreed core s) (decodeJudged core k r s) :=
  (OnlyFields.frame _).iff (decodeCounted_onlyFields ..) fun _ => ((OnlyFields.refl _ _).set _ _ (by decide)).set _ _ (by decide)

theorem decodeCounted_cw? (core iters : Nat) (s : State) (id : Nat) : (decodeCounted core iters s).cw? id = s.cw? id :=
  (decodeCounted_onlyFields core iters s).cw? id

theorem decodeJudged_cw? (core : Nat) (k : Task) (r : DecodeResult) (s : State) (id : Nat) : (decodeJudged core k r s).cw? id = s.cw? id :=
  (decodeJudged_onlyFields core k r s).cw? id

theorem decodeCounted_iterations (core iters : Nat) (s : State) :
    (decodeCounted core iters s).get LDPC_CNT_ITER_ITERATIONS = (s.get LDPC_CNT_ITER_ITERATIONS + iters) % 2 ^ 64 := by
  unfold decodeCounted
  dsimp only
  rw [State.get_iff_of _ _ _ (State.get_set_ne _ _ (by decide)), State.get_wrap]
  rfl

theorem noteMiscorrect_iterations (mis : Bool) (s : State) :
    (noteMiscorrect mis s).get LDPC_CNT_ITER_ITERATIONS = s.get LDPC_CNT_ITER_ITERATIONS := by
  refine State.get_iff_of _ _ _ ?_
  rw [State.get_bump_ne _ _ (by decide), State.get_ev_ne _ (by decide)]

theorem noteMiscorrect_event (s : State) : (noteMiscorrect true s).get LDPC_EVENT_MISCORRECT = 1 := by
  rw [noteMiscorrect, State.iff_true, State.get_bump_ne _ _ (by decide), State.get_ev _ _ (by decide)]

theorem noteMiscorrect_count (s : State) : (noteMiscorrect true s).get LDPC_CNT_MISC_MISCORRECT
    = min (s.get LDPC_CNT_MISC_MISCORRECT + 1) (2 ^ LDPC_CNT_MISC_MISCORRECT.width - 1) := by
  rw [noteMiscorrect, State.iff_true, State.get_bump, State.get_ev_ne _ (by decide)]

theorem decodeCounted_miscorrect (core iters : Nat) (s : State) :
    (decodeCounted core iters s).get LDPC_CNT_MISC_MISCORRECT = s.get LDPC_CNT_MISC_MISCORRECT := by
  unfold decodeCounted
  dsimp only
  rw [State.get_iff_of _ _ _ (State.get_set_ne _ _ (by decide)), State.get_wrap_ne _ _ (by decide)]
  rfl

section
variable {core : Nat} {r : DecodeResult} {s : State}

theorem decodeDone_idle (h : s.ldpc.busy.find? core = none) : decodeDone core r s = s := by rw [decodeDone, h]

variable {k : Task} (hk : s.ldpc.busy.find? core = some k)
include hk

theorem decodeDone_gone (hc : s.cw? k.cw = none) : decodeDone core r s = refreshLdpc (decodeCounted core (decodeVerdict k r).2.1 s) := by
  have hu := (decodeCounted_cw? core (decodeVerdict k r).2.1 s k.cw).trans hc
  simp only [decodeCounted, coreFreed] at hu ⊢
  simp only [decodeDone, hk, hu]

variable {c : Cw} (hc : s.cw? k.cw = some c)
include hc

theorem decodeDone_neighbour {upper : Bool} (hn : k.kind = .neighbour upper) :
    decodeDone core r s = refreshLdpc (startReplays (neighbourDone (decodeJudged core k r s) k.cw c upper (decodeVerdict k r).2.2 r)) := by
  have hu := (decodeCounted_cw? core (decodeVerdict k r).2.1 s k.cw).trans hc
  simp only [decodeJudged, noteMiscorrect, miscorrects, decodeCounted, coreFreed] at hu ⊢
  simp only [decodeDone, hk, hu, hn]

variable (hn : ∀ u, k.kind ≠ .neighbour u)
include hn

theorem decodeDone_verify (hv : c.verify = true) :
    decodeDone core r s = refreshLdpc ((noteVerify (decodeJudged core k r s) (c.decoded k r)
      (verifyPass (decodeJudged core k r s) (c.decoded k r) (decodeVerdict k r).2.2 r) (decodeVerdict k r).2.1).dropCw k.cw) := by
  have hu := (decodeCounted_cw? core (decodeVerdict k r).2.1 s k.cw).trans hc
  simp only [decodeJudged, noteMiscorrect, miscorrects, decodeCounted, coreFreed, Cw.decoded] at hu ⊢
  cases hkind : k.kind with
  | neighbour u => exact absurd hkind (hn u)
  | l0 | retry => simp [decodeDone, hk, hu, hkind, hv]

variable (hv : c.verify = false)
include hv

theorem decodeDone_success (hr : (decodeVerdict k r).2.2 = true) :
    decodeDone core r s = refreshLdpc (startReplays (decodeSucceeds (decodeJudged core k r s) k.cw (c.decoded k r) r)) := by
  have hu := (decodeCounted_cw? core (decodeVerdict k r).2.1 s k.cw).trans hc
  simp only [decodeJudged, noteMiscorrect, miscorrects, decodeCounted, coreFreed, Cw.decoded] at hu ⊢
  cases hkind : k.kind with
  | neighbour u => exact absurd hkind (hn u)
  | l0 | retry => simp [decodeDone, hk, hu, hkind, hv, hr]

theorem decodeDone_failure (hr : (decodeVerdict k r).2.2 = false) :
    decodeDone core r s = refreshLdpc (startReplays (decodeFailed ((decodeJudged core k r s).putCw k.cw
      ((c.decoded k r).failed (decodeJudged core k r s) r)) k.cw ((c.decoded k r).failed (decodeJudged core k r s) r))) := by
  have hu := (decodeCounted_cw? core (decodeVerdict k r).2.1 s k.cw).trans hc
  simp only [decodeJudged, noteMiscorrect, miscorrects, decodeCounted, coreFreed, Cw.decoded, Cw.failed] at hu ⊢
  cases hkind : k.kind with
  | neighbour u => exact absurd hkind (hn u)
  | l0 | retry => simp [decodeDone, hk, hu, hkind, hv, hr]

end

end Sys2Proof.Machine

/-!
What a decode's end comes to (R86, R87, R98, R99, R102, R110, R112, R115).
-/

namespace Sys2Proof.Machine

/-! ### The verdict on a decode (R86, R87) -/

section
variable (k : Task) (r : DecodeResult)

theorem decodeVerdict_iters : (decodeVerdict k r).2.1 = if r.zero = true ∧ r.iters ≤ k.cap then max 1 r.iters else k.cap := by
  simp [decodeVerdict]

theorem decodeVerdict_crc :
    (decodeVerdict k r).2.2 = true ↔ r.zero = true ∧ r.iters ≤ k.cap ∧ leVal r.crc = infoCrc r.user r.header := by
  simp [decodeVerdict, and_assoc]

theorem decodeVerdict_fails (h : r.zero = false ∨ k.cap < r.iters ∨ leVal r.crc ≠ infoCrc r.user r.header) :
    (decodeVerdict k r).2.2 = false := by
  refine Bool.eq_false_iff.2 fun hr => ?_
  obtain ⟨hz, hi, hcrc⟩ := (decodeVerdict_crc k r).1 hr
  rcases h with h | h | h
  · exact absurd (hz.symm.trans h) (by decide)
  · exact absurd hi (Nat.not_le.2 h)
  · exact h hcrc

theorem miscorrects_of (hz : r.zero = true) (hi : r.iters ≤ k.cap) (hcrc : leVal r.crc ≠ infoCrc r.user r.header) : miscorrects k r = true := by
  simp [miscorrects, decodeVerdict, hz, hi, hcrc]

end

/-! ### What every decode's end leaves -/

section
variable {core : Nat} {r : DecodeResult} {s : State} {k : Task} (hk : s.ldpc.busy.find? core = some k)
include hk

theorem decodeDone_ladder {c : Cw} (hc : s.cw? k.cw = some c) : LadderStep spillFlds (decodeJudged core k r s) (decodeDone core r s) := by
  by_cases hn : ∃ u, k.kind = .neighbour u
  · obtain ⟨u, hn⟩ := hn
    rw [decodeDone_neighbour hk hc hn]
    exact ((neighbourDone_ladder _ _ _ _ _ _).mono ladderFlds_subset_spillFlds).startReplays.refreshLdpc ladderFlds_subset_spillFlds
  · rw [not_exists] at hn
    cases hv : c.verify with
    | true =>
      rw [decodeDone_verify hk hc hn hv]
      exact (((LadderStep.refl _ _).noteVerify _ _ _).dropCw _).refreshLdpc ladderFlds_subset_spillFlds
    | false =>
      cases hr : (decodeVerdict k r).2.2 with
      | true =>
        rw [decodeDone_success hk hc hn hv hr]
        exact ((decodeSucceeds_ladder _ _ _ _).mono ladderFlds_subset_spillFlds).startReplays.refreshLdpc ladderFlds_subset_spillFlds
      | false =>
        rw [decodeDone_failure hk hc hn hv hr]
        exact (((LadderStep.refl _ _).putCw _ _).trans (decodeFailed_ladder _ _ _)).startReplays.refreshLdpc ladderFlds_subset_spillFlds

theorem decodeDone_busy : (decodeDone core r s).ldpc.busy.find? core = none := by
  cases hc : s.cw? k.cw with
  | none =>
    rw [decodeDone_gone hk hc, (refreshLdpc_onlyFields _).ldpc, (decodeCounted_onlyFields ..).ldpc]
    exact Store.find?_erase_same ..
  | some c =>
    rw [(decodeDone_ladder hk hc).busy, (decodeJudged_onlyFields ..).ldpc]
    exact Store.find?_erase_same ..

theorem decodeDone_iterations : (decodeDone core r s).get LDPC_CNT_ITER_ITERATIONS
    = (s.get LDPC_CNT_ITER_ITERATIONS + if r.zero = true ∧ r.iters ≤ k.cap then max 1 r.iters else k.cap) % 2 ^ 64 := by
  rw [← decodeVerdict_iters, ← decodeCounted_iterations core]
  cases hc : s.cw? k.cw with
  | none =>
    rw [decodeDone_gone hk hc]
    exact (refreshLdpc_onlyFields _).1 _ (by decide)
  | some c => exact ((decodeDone_ladder hk hc).get (by decide) (by decide)).trans (noteMiscorrect_iterations ..)

theorem decodeDone_miscorrect {c : Cw} (hc : s.cw? k.cw = some c) (hm : miscorrects k r = true) :
    (decodeDone core r s).get LDPC_EVENT_MISCORRECT = 1 ∧ (decodeDone core r s).get LDPC_CNT_MISC_MISCORRECT
      = min (s.get LDPC_CNT_MISC_MISCORRECT + 1) (2 ^ LDPC_CNT_MISC_MISCORRECT.width - 1) := by
  have hstep := decodeDone_ladder (r := r) hk hc
  rw [hstep.get (by decide) (by decide), hstep.get (by decide) (by decide), decodeJudged, hm, noteMiscorrect_event, noteMiscorrect_count,
    decodeCounted_miscorrect]
  exact ⟨rfl, rfl⟩

end

/-! ### A codeword delivered (R110) -/

theorem clearData_decoded {s t : State} (h : t.sec = s.sec) (c : Cw) (k : Task) (r : DecodeResult) :
    clearData t (c.decoded k r) r.user r.header = clearData s c r.user r.header := by
  rw [clearData, clearData, slotKey, slotKey, h]
  rfl

/-- A codeword after a decode that succeeds. -/
def Cw.settled (c : Cw) : Cw := { c with weight := 0 }

/-- A codeword whose data needs no key that its READ lacks is delivered. -/
theorem decodeSucceeds_delivers (s : State) (id : Nat) {c : Cw} {r : DecodeResult}
    (h : hdrEnc r.header = false ∨ c.bypass = true ∨ c.key ≠ 0xFFFF) :
    decodeSucceeds s id c r
      = deliver (s.putCw id c.settled) id c.settled (clearData s c r.user r.header) := by
  refine if_neg ?_
  rw [Bool.and_eq_true, Bool.and_eq_true, beq_iff_eq, Bool.not_eq_true']
  rintro ⟨⟨henc, hkey⟩, hbypass⟩
  rcases h with h | h | h
  · exact absurd (h.symm.trans henc) (by decide)
  · exact absurd (h.symm.trans hbypass) (by decide)
  · exact h hkey

theorem decodeJudged_arm (core : Nat) (k : Task) (r : DecodeResult) (s : State) :
    (decodeJudged core k r s).get INK_ECC_TEST_ARM = s.get INK_ECC_TEST_ARM :=
  (decodeJudged_onlyFields core k r s).1 _ (by decide)

theorem decodeJudged_sameMemory (core : Nat) (k : Task) (r : DecodeResult) (s : State) : SameMemory s (decodeJudged core k r s) :=
  (SameMemory.of_mem rfl rfl).trans (decodeJudged_onlyFields core k r s).sameMemory

theorem decodeJudged_sec (core : Nat) (k : Task) (r : DecodeResult) (s : State) : (decodeJudged core k r s).sec = s.sec :=
  (decodeJudged_onlyFields core k r s).inkHidden.sec

theorem decodeJudged_spillq (core : Nat) (k : Task) (r : DecodeResult) (s : State) : (decodeJudged core k r s).ldpc.spillq = s.ldpc.spillq := by
  rw [(decodeJudged_onlyFields core k r s).ldpc]
  rfl

section
variable {core : Nat} {r : DecodeResult} {s : State} {k : Task} {c : Cw} (hk : s.ldpc.busy.find? core = some k) (hc : s.cw? k.cw = some c)
  (hn : ∀ u, k.kind ≠ .neighbour u) (hv : c.verify = false)
include hk hc hn hv

theorem decodeDone_delivers (hr : (decodeVerdict k r).2.2 = true) (hkey : hdrEnc r.header = false ∨ c.bypass = true ∨ c.key ≠ 0xFFFF) :
    ∃ u, MarksOnly s u ∧ decodeDone core r s = refreshLdpc (startReplays (deliver u k.cw (c.decoded k r).settled (clearData s c r.user r.header))) := by
  have hmem := (decodeJudged_onlyFields core k r s).2
  refine ⟨(decodeJudged core k r s).putCw k.cw (c.decoded k r).settled,
    ⟨(congrArg State.mem hmem :), decodeJudged_arm core k r s⟩, ?_⟩
  rw [decodeDone_success hk hc hn hv hr, decodeSucceeds_delivers _ _ (c := c.decoded k r) hkey, clearData_decoded (decodeJudged_sec core k r s)]

theorem decodeDone_delivered (hr : (decodeVerdict k r).2.2 = true) (hkey : hdrEnc r.header = false ∨ c.bypass = true ∨ c.key ≠ 0xFFFF) :
    (decodeDone core r s).cw? k.cw = none := by
  obtain ⟨u, -, hdone⟩ := decodeDone_delivers hk hc hn hv hr hkey
  rw [hdone, (refreshLdpc_onlyFields _).cw?]
  exact (startReplays_replaysOnly _).cw_none (deliver_cw?_same ..)

/-- The bytes after a delivery at L0 are those of the store alone. -/
theorem decodeDone_bytes (hr : (decodeVerdict k r).2.2 = true) (hkey : hdrEnc r.header = false ∨ c.bypass = true ∨ c.key ≠ 0xFFFF)
    (hrung : c.rung = 0) (a : Nat) : ∃ u, MarksOnly s u ∧
      (decodeDone core r s).byte a = (u.inkWrite c.pen c.dest (clearData s c r.user r.header) false).byte a := by
  obtain ⟨u, hu, hdone⟩ := decodeDone_delivers hk hc hn hv hr hkey
  refine ⟨u, hu, ?_⟩
  have hmem := deliver_mem u k.cw (c := (c.decoded k r).settled) (clearData s c r.user r.header) hrung
  rw [hdone, (refreshLdpc_onlyFields _).sameMemory.1, (startReplays_replaysOnly _).sameMemory.1, State.byte, hmem]
  rfl

end

/-! ### A codeword to spill (R98, R99) -/

/-- Keys whose values show nothing to a test do not change what it collects. -/
theorem Store.filterMap_insert {α β : Type} {g : Nat × α → Option β} {m : Store α} {k : Nat} {v w : α} (hm : m.find? k = some w)
    (hv : g (k, v) = none) (hw : g (k, w) = none) : (Store.insert m k v).filterMap g = m.filterMap g := by
  induction m with
  | nil => exact nomatch hm
  | cons e m ih =>
    obtain ⟨j, x⟩ := e
    rw [Store.insert]
    rw [Store.find?] at hm
    by_cases hj : j = k
    · subst hj
      obtain rfl : x = w := Option.some.inj ((if_pos rfl).symm.trans hm)
      simp [hv, hw]
    · rw [if_neg hj] at hm
      rw [if_neg (Ne.symm hj)]
      by_cases hlt : k < j
      · rw [if_pos hlt, List.filterMap_cons_none hv]
      · rw [if_neg hlt, List.filterMap_cons, List.filterMap_cons, ih hm]

/-- A codeword without a slot that is changed, and has none after, leaves the same slots free. -/
theorem freeSlot?_putCw {s : State} {id : Nat} {c d : Cw} (hc : s.cw? id = some c) (hs : c.slot = none) (hd : d.slot = none) :
    freeSlot? (s.putCw id d) = freeSlot? s := by
  have hused : usedSlots (s.putCw id d) = usedSlots s := Store.filterMap_insert hc hd hs
  rw [freeSlot?, freeSlot?, hused]
  rfl

theorem freeSlot?_decodeJudged (core : Nat) (k : Task) (r : DecodeResult) (s : State) : freeSlot? (decodeJudged core k r s) = freeSlot? s := by
  have hjudged := decodeJudged_onlyFields core k r s
  have hused : usedSlots (decodeJudged core k r s) = usedSlots s := by
    rw [usedSlots, usedSlots, hjudged.ldpc]
    rfl
  have hladder : ladderSlots (decodeJudged core k r s) = ladderSlots s := by
    rw [ladderSlots, ladderSlots, hjudged.1 _ (by decide)]
    rfl
  rw [freeSlot?, freeSlot?, hused, hladder]

theorem spillSlot_some {s : State} {c : Cw} {sl : Nat} (hq : s.ldpc.spillq.length < 32)
    (hs : c.slot = some sl ∨ c.slot = none ∧ freeSlot? s = some sl) : spillSlot s c = some sl := by
  rw [spillSlot, if_pos hq]
  rcases hs with hs | ⟨hs, hf⟩
  · rw [hs]
    rfl
  · rw [hs, hf]
    rfl

theorem spillSlot_none {s : State} {c : Cw} (h : 32 ≤ s.ldpc.spillq.length ∨ c.slot = none ∧ freeSlot? s = none) : spillSlot s c = none := by
  rcases h with hq | ⟨hs, hf⟩
  · exact if_neg (Nat.not_lt.2 hq)
  · rw [spillSlot, hs, hf]
    exact ite_self _

theorem decodeFailed_read (s : State) (id : Nat) {c : Cw} (h : c.phase = .l0 ∨ c.phase = .fresh) : decodeFailed s id c = spillOrFull s id := by
  rcases h with h | h <;> rw [decodeFailed, h]

/-- A spilled record's codeword is queued, with its slot. -/
theorem spillOrFull_spilling {s : State} {id sl : Nat} {c : Cw} (hc : s.cw? id = some c) (hs : spillSlot s c = some sl) :
    (spillOrFull s id).ldpc.spillq = s.ldpc.spillq ++ [id]
      ∧ ((spillOrFull s id).cw? id).map (fun c => (c.phase, c.slot)) = some (.spilling, some sl) := by
  rw [spillOrFull_queued hc hs]
  exact ⟨rfl, congrArg (Option.map _) (State.putCw_cw?_same s id _)⟩

theorem spillOrFull_event {s : State} {id : Nat} {c : Cw} (hc : s.cw? id = some c) (hs : spillSlot s c = none) :
    (spillOrFull s id).get LDPC_EVENT_SPILL_FULL = 1 := by
  rw [spillOrFull_full hc hs, (joinRevisit_ladder _ _ _).get (by decide) (by decide), State.putCw, State.get_modLdpc,
    State.get_bump_ne _ _ (by decide), State.get_ev _ _ (by decide)]

section
variable {core : Nat} {r : DecodeResult} {s : State} {k : Task} {c : Cw} (hk : s.ldpc.busy.find? core = some k) (hc : s.cw? k.cw = some c)
  (hn : ∀ u, k.kind ≠ .neighbour u) (hv : c.verify = false)
include hk hc hn hv

/-- A first or a fresh read that fails is spilled from a state with the same slots free and the same records queued. -/
theorem decodeDone_spills (hr : (decodeVerdict k r).2.2 = false) (hp : c.phase = .l0 ∨ c.phase = .fresh) :
    ∃ u d, u.cw? k.cw = some d ∧ d.slot = c.slot ∧ u.ldpc.spillq = s.ldpc.spillq ∧ (c.slot = none → freeSlot? u = freeSlot? s)
      ∧ decodeDone core r s = refreshLdpc (startReplays (spillOrFull u k.cw)) := by
  refine ⟨(decodeJudged core k r s).putCw k.cw ((c.decoded k r).failed (decodeJudged core k r s) r), _, State.putCw_cw?_same .., rfl,
    decodeJudged_spillq core k r s, fun hs => ?_, ?_⟩
  · have hcw := (decodeJudged_cw? core k r s k.cw).trans hc
    rw [freeSlot?_putCw (d := (c.decoded k r).failed (decodeJudged core k r s) r) hcw hs hs, freeSlot?_decodeJudged]
  · rw [decodeDone_failure hk hc hn hv hr]
    exact congrArg (fun u => refreshLdpc (startReplays u)) (decodeFailed_read _ _ hp)

theorem decodeDone_spilling (hr : (decodeVerdict k r).2.2 = false) (hp : c.phase = .l0 ∨ c.phase = .fresh) (hq : s.ldpc.spillq.length < 32)
    {sl : Nat} (hs : c.slot = some sl ∨ c.slot = none ∧ freeSlot? s = some sl) :
    (decodeDone core r s).ldpc.spillq = s.ldpc.spillq ++ [k.cw]
      ∧ ((decodeDone core r s).cw? k.cw).map (fun c => (c.phase, c.slot)) = some (.spilling, some sl) := by
  obtain ⟨u, d, hd, hslot, hqueue, hfree, hdone⟩ := decodeDone_spills hk hc hn hv hr hp
  have hsl : spillSlot u d = some sl := by
    refine spillSlot_some (by rwa [hqueue]) (hslot.symm ▸ hs.imp_right fun ⟨hnone, hf⟩ => ⟨hnone, (hfree hnone).trans hf⟩)
  obtain ⟨hspillq, hcw⟩ := spillOrFull_spilling hd hsl
  have hstart := startReplays_replaysOnly (spillOrFull u k.cw)
  rw [hdone, (refreshLdpc_onlyFields _).ldpc, (refreshLdpc_onlyFields _).cw?, hstart.spillq, hstart.cw_map (fun _ => rfl), hspillq, hqueue]
  exact ⟨rfl, hcw⟩

theorem decodeDone_spillFull (hr : (decodeVerdict k r).2.2 = false) (hp : c.phase = .l0 ∨ c.phase = .fresh)
    (h : 32 ≤ s.ldpc.spillq.length ∨ c.slot = none ∧ freeSlot? s = none) : (decodeDone core r s).get LDPC_EVENT_SPILL_FULL = 1 := by
  obtain ⟨u, d, hd, hslot, hqueue, hfree, hdone⟩ := decodeDone_spills hk hc hn hv hr hp
  have hsl : spillSlot u d = none := by
    refine spillSlot_none ?_
    rw [hslot, hqueue]
    exact h.imp_right fun ⟨hnone, hf⟩ => ⟨hnone, (hfree hnone).trans hf⟩
  have hshown : LadderStep ladderFlds (spillOrFull u k.cw) (decodeDone core r s) :=
    hdone ▸ (LadderStep.refl _ _).startReplays.refreshLdpc (List.Subset.refl _)
  exact (hshown.get (by decide) (by decide)).trans (spillOrFull_event hd hsl)

end

/-- Settles O20, by the kind of the decode's task and its verdict. -/
theorem poolDecode : Obligations.PoolDecode := by
  unfold Obligations.PoolDecode
  refine fun core r s => ⟨_, rfl, decodeDone_idle, fun k hk => ⟨decodeDone_busy hk, decodeDone_iterations hk, fun c hc =>
    ⟨fun hz hi hcrc => decodeDone_miscorrect hk hc (miscorrects_of k r hz hi hcrc), fun hlow hup hv => ⟨fun hz hi hcrc hkey => ?_, fun hfails hp => ?_⟩,
      fun hl0 hv => ?_, fun u hn => ?_⟩⟩⟩
  · have hn : ∀ u, k.kind ≠ .neighbour u := Bool.forall_bool.2 ⟨hlow, hup⟩
    have hr := (decodeVerdict_crc k r).2 ⟨hz, hi, hcrc⟩
    refine ⟨decodeDone_delivered hk hc hn hv hr hkey, fun hrung hfit harm => ⟨fun i hlt => ?_, fun a ha => ?_⟩⟩
    · obtain ⟨u, hu, hbyte⟩ := decodeDone_bytes hk hc hn hv hr hkey hrung (c.dest + i)
      rw [hbyte, State.inkWrite_stored _ _ _ _ _ hfit (hu.arm.trans harm) hlt, List.getD_eq_getElem _ _ hlt]
    · obtain ⟨u, hu, hbyte⟩ := decodeDone_bytes hk hc hn hv hr hkey hrung a
      rw [hbyte, (State.inkWrite_outside u _ _ _ _ hfit).byte (hu.arm.trans harm) a ha, (hu.outside 0 0).byte harm a (Or.inr (Nat.zero_le a))]
  · have hn : ∀ u, k.kind ≠ .neighbour u := Bool.forall_bool.2 ⟨hlow, hup⟩
    have hr := decodeVerdict_fails k r hfails
    exact ⟨fun hq sl hs => decodeDone_spilling hk hc hn hv hr hp hq hs, decodeDone_spillFull hk hc hn hv hr hp⟩
  · rw [decodeDone_verify hk hc (fun u => hl0 ▸ nofun) hv, (refreshLdpc_onlyFields _).cw?]
    refine ⟨State.dropCw_cw?_same .., .trans ?_ (refreshLdpc_onlyFields _).sameMemory⟩
    exact (decodeJudged_sameMemory core k r s).trans (.of_mem rfl rfl)
  · have hstart := startReplays_replaysOnly (neighbourDone (decodeJudged core k r s) k.cw c u (decodeVerdict k r).2.2 r)
    rw [decodeDone_neighbour hk hc hn, (refreshLdpc_onlyFields _).cw?, hstart.cw_map (f := fun c => c.neighbours) (fun _ => rfl),
      neighbourDone_neighbours]
    refine ⟨rfl, .trans ?_ (refreshLdpc_onlyFields _).sameMemory⟩
    exact ((decodeJudged_sameMemory core k r s).trans (neighbourDone_sameMemory ..)).trans hstart.sameMemory

end Sys2Proof.Machine

/-!
The end of a spill copy (R96, R98): where the record's samples go.
-/

namespace Sys2Proof.Machine

/-- Inkwell address of a spill slot (R96). -/
def slotAddr (s : State) (slot : Nat) : Nat := s.get LDPC_SPILL_BASE_BASE * 2 ^ 20 + slot * 0x40000

/-- A record below the check-region window, without the samples that its codeword kept. -/
def recordCopied (s : State) (slot : Nat) (c : Cw) (rung : Nat) : State :=
  putWindows ((s.inkWriteZ 35 (slotAddr s slot) 0x40000 (spillDesc s c rung) false).putBytes (slotAddr s slot + 0x1000)
    ((c.llrs.take 37440).map fun l => BitVec.ofNat 8 (ofSigned 8 l))) (slotAddr s slot) (windowsNow s c)

section
variable (s : State) (slot rung : Nat) (c : Cw)

theorem writeRecord_inside (ha : slotAddr s slot < inkLimit) (hl : c.lost = false) :
    writeRecord s slot c rung = putWindows (recordCopied s slot c rung) (slotAddr s slot) c.windows := by
  have hin := State.iff_true (s.inkWriteZ 35 (slotAddr s slot) 0x40000 (spillDesc s c rung) false) fun s' =>
    (putWindows (s'.putBytes (slotAddr s slot + 0x1000) ((c.llrs.take 37440).map fun l => BitVec.ofNat 8 (ofSigned 8 l))) (slotAddr s slot)
      (windowsNow s c)).iff (!c.lost) fun u => putWindows u (slotAddr s slot) c.windows
  rw [← decide_eq_true ha, hl] at hin
  refine Eq.trans ?_ hin
  rw [writeRecord, hl]
  rfl

end

theorem putWindows_get (s : State) (a : Nat) (ws : List (Nat × List (BitVec 8))) (f : Fld) : (putWindows s a ws).get f = s.get f := by
  have hframe : Frame fun s t : State => t.get f = s.get f := ⟨fun _ => rfl, fun h k => k.trans h⟩
  exact hframe.each (t := s) rfl fun s w _ => s.putBytes_get _ _

theorem recordCopied_get (s : State) (slot : Nat) (c : Cw) (rung : Nat) {f : Fld} (hf : notInk f) :
    (recordCopied s slot c rung).get f = s.get f := by
  rw [recordCopied, putWindows_get, State.putBytes_get, State.inkWriteZ_get _ _ _ _ _ _ hf]

/-- A first window alone is stored at its offset from the window's place. -/
theorem putWindows_first (s : State) (a : Nat) (w : Nat × List (BitVec 8)) : putWindows s a [w] = s.putBytes (a + 0xB000 + w.1) w.2 := rfl

theorem State.byte_putBytes_singleton (s : State) (a : Nat) (b : BitVec 8) : (s.putBytes a [b]).byte a = b := s.byte_putByte a b

/-- The one sample that a codeword kept is stored at its offset in the window, wherever that is. -/
theorem writeRecord_keptByte (s : State) (slot rung : Nat) {c : Cw} {o : Nat} {b : BitVec 8} (hl : c.lost = false) (hw : c.windows = [(o, [b])])
    (ha : slotAddr s slot < inkLimit) : (writeRecord s slot c rung).byte (slotAddr s slot + 0xB000 + o) = b := by
  rw [writeRecord_inside s slot rung c ha hl, hw, putWindows_first]
  exact State.byte_putBytes_singleton _ _ b

/-! ### The way to L1 -/

/-- The oldest spill record is no longer queued. -/
def spillTaken (rest : List Nat) (s : State) : State := s.modLdpc fun l => { l with spillq := rest }

theorem spillTaken_get (rest : List Nat) (s : State) (f : Fld) : (spillTaken rest s).get f = s.get f := rfl

theorem slotAddr_congr {s t : State} {slot : Nat} (h : t.get LDPC_SPILL_BASE_BASE = s.get LDPC_SPILL_BASE_BASE) :
    slotAddr t slot = slotAddr s slot := by rw [slotAddr, slotAddr, h]

/-- A codeword whose record has been copied. -/
def Cw.copied (c : Cw) : Cw := { c with inBuf := false, replayReady := false, rllrs := [], windows := [] }

theorem State.putCw_sameMemory (s : State) (id : Nat) (c : Cw) : SameMemory s (s.putCw id c) := .of_mem rfl rfl

theorem advance_l1_sameMemory {s : State} {id : Nat} {c : Cw} (hc : s.cw? id = some c) (hr : c.rung < 4) (hen : rungEnabled s 1 = true) :
    SameMemory s (advance s id 0) := by
  simp only [advance, hc]
  rw [if_pos ⟨Nat.one_pos, hr, hen⟩]
  exact .of_mem rfl rfl

theorem rungEnabled_one {s t : State} (h : t.get LDPC_CTRL_RUNG_EN = s.get LDPC_CTRL_RUNG_EN) (hen : s.bit LDPC_CTRL_RUNG_EN 0 = true) :
    rungEnabled t 1 = true := by
  rw [rungEnabled, State.bit, h]
  exact hen

/-- Of the Inkwell, a spill copy that sends its codeword to L1 changes what the record's write does. -/
theorem spillCopyDone_byte {s : State} {id sl : Nat} {rest : List Nat} {c : Cw} (hq : s.ldpc.spillq = id :: rest) (hc : s.cw? id = some c)
    (hs : c.slot = some sl) (hr : c.rung = 0) (hl : c.lost = false) (ha : slotAddr s sl < inkLimit) (hen : s.bit LDPC_CTRL_RUNG_EN 0 = true)
    (a : Nat) : (spillCopyDone s).byte a = (writeRecord (spillTaken rest s) sl c c.rung).byte a := by
  have hearly : ∀ (u : State) (b : Bool),
      SameMemory u (u.iff b fun s => startReplays (s.modLdpc fun l => { l with replayq := l.replayq ++ [id] })) := by
    rintro u (_ | _)
    · exact .refl u
    · exact SameMemory.trans (t := u.modLdpc fun l => { l with replayq := l.replayq ++ [id] }) (.of_mem rfl rfl) (startReplays_replaysOnly _).sameMemory
  have htaken : (s.modLdpc fun l => { l with spillq := rest }).cw? id = some c := hc
  have hin : slotAddr (spillTaken rest s) sl < inkLimit := by rwa [slotAddr_congr (spillTaken_get rest s _)]
  have hkept : ((writeRecord (spillTaken rest s) sl c c.rung).putCw id c.copied).get LDPC_CTRL_RUNG_EN = s.get LDPC_CTRL_RUNG_EN := by
    rw [State.putCw, State.get_modLdpc, writeRecord_inside _ _ _ _ hin hl, putWindows_get, recordCopied_get _ _ _ _ (show Fld.block _ ≠ _ by decide),
      spillTaken_get]
  have hadvance := (State.putCw_sameMemory _ id c.copied).trans
    (advance_l1_sameMemory (State.putCw_cw?_same (writeRecord (spillTaken rest s) sl c c.rung) id c.copied) (show c.rung < 4 by omega)
      (rungEnabled_one hkept hen))
  simp only [Cw.copied, spillTaken, hs] at hadvance
  simp only [spillTaken, spillCopyDone, hq, htaken, hs]
  rw [if_neg (show ¬ 4 ≤ c.rung by omega), (refreshLdpc_onlyFields _).sameMemory.1, (hearly _ _).1]
  exact hadvance.1 a

/-! ### A sample kept past its slot -/

/-- A codeword of slot 0 that has kept one sample, at an offset past the slot's end. -/
def strayCw : Cw where
  pen := 0
  nib := 0
  f := 0
  idx := 0
  dest := 0
  track := 0
  layer := 0
  side := 0
  key := 0xFFFF
  bypass := false
  verify := false
  desc := 0
  status := 0
  spans := []
  syncWord := 0
  sample := 0
  preset := { bank := 0, layer := 0, zone := 0, gen := 0 }
  altValid := false
  llrs := []
  phase := .spilling
  slot := some 0
  windows := [(0x40000 - 0xB000, [1])]

/-- The state after reset with that codeword's spill copy under way. -/
def strayState : State := { State.reset with ldpc := { cws := [(0, strayCw)], spillq := [0] } }

theorem strayState_slotAddr : slotAddr strayState 0 = 0 := by decide

/-- The copy writes the first byte after its slot. -/
theorem strayState_copied : (spillCopyDone strayState).byte 0x40000 = 1 := by
  have hin : slotAddr strayState 0 < inkLimit := by decide
  rw [spillCopyDone_byte (rest := []) (c := strayCw) rfl rfl rfl rfl rfl hin (by decide)]
  have hbyte := writeRecord_keptByte (spillTaken [] strayState) 0 0 (c := strayCw) (o := 0x40000 - 0xB000) (b := 1) rfl rfl hin
  have hplace : slotAddr (spillTaken [] strayState) 0 + 0xB000 + (0x40000 - 0xB000) = 0x40000 := by decide
  rw [hplace] at hbyte
  exact hbyte

theorem strayState_before : strayState.byte 0x40000 = 0 := by decide

/-- Refutes O21: the statement is over every state, and a spill copy stores each sample that its codeword kept at the offset kept with it, which in
a state that no ring gives may lie past the slot; the copy then changes the byte after its slot. -/
theorem not_ladderMoves : ¬ Obligations.LadderMoves := by
  unfold Obligations.LadderMoves
  rintro ⟨hcopy, -, -⟩
  obtain ⟨t, hexec, -, hmoves⟩ := hcopy strayState
  obtain rfl : spillCopyDone strayState = t := Host.Outcome.next.inj hexec
  obtain ⟨-, -, -, -, houtside⟩ := hmoves 0 [] strayCw rfl rfl rfl (by decide)
  have hkept := houtside 0 rfl (by decide) (by decide) 0x40000 (Or.inr (by decide))
  rw [strayState_copied, strayState_before] at hkept
  exact absurd hkept (by decide)

end Sys2Proof.Machine

/-!
A quire's Colophon is applied (R122, R376): a quire listed twice.
-/

namespace Sys2Proof.Machine

/-- The state after reset with a COLOPHON descriptor that pen 0's queue has passed, its record of quire 0 at 0x100, and quire 0, without runs, listed
twice. -/
def twinState : State :=
  { State.reset.set (FQ_TAIL_TAIL 0) 1 with
    mem := [(0x00, 0x03), (0x11, 0x01), (0x100, 0x01), (0x101, 0x0A), (0x102, 0x0F), (0x103, 0x7C), (0x104, 0x01)]
    ledger := { quires := [(0, {}), (0, {})] } }

theorem twinState_descriptor : (readDescriptor twinState 0 0).kind = 3 ∧ (readDescriptor twinState 0 0).data = 0x100
    ∧ twinState.le (descAddr twinState 0 0 + 48) 2 = 0 := by decide

theorem twinState_record : twinState.le 0x100 4 = 0x7C0F0A01 ∧ twinState.le (0x100 + 4) 2 = 1 ∧ twinState.le (0x100 + 0x10) 8 = 0
    ∧ (twinState.le (0x100 + 6) 2).testBit 2 = false := by decide

theorem twinState_passed : 0 < (twinState.get (FQ_TAIL_TAIL 0) + 2 ^ 32 - 0) % 2 ^ 32
    ∧ (twinState.get (FQ_TAIL_TAIL 0) + 2 ^ 32 - 0) % 2 ^ 32 ≤ fqSize twinState 0 := by decide

theorem twinState_spans : (commitSpans twinState (colophonRuns twinState 0x100 0 (dataNibs twinState 0) (!isN1 twinState 0))).length = 0 := by
  decide

/-- The commit marks and frees the first of the two alone. -/
theorem twinState_applied : (commitApply 0 0 0 0 [] twinState).ledger.quires.find? 0 = some {} := by decide

/-- Refutes O50: the statement is over every state, and where a quire stands twice in the list of quires, its Colophon's commit marks and frees the first
alone, so that the quire found under its number afterwards is not committed. -/
theorem not_mediaCommands : ¬ Obligations.MediaCommands := by
  unfold Obligations.MediaCommands
  rintro ⟨-, -, -, -, -, -, -, hcommit⟩
  obtain ⟨hkind, hdata, hopen⟩ := twinState_descriptor
  obtain ⟨hmagic, hversion, hquire, hflag⟩ := twinState_record
  obtain ⟨t, hexec, -, -, -, happly⟩ := hcommit 0 0 0 0 [] twinState
  obtain rfl : commitApply 0 0 0 0 [] twinState = t := Host.Outcome.next.inj hexec
  obtain ⟨-, hwhole⟩ := happly {} rfl
  obtain ⟨hcommitted, -, -⟩ := hwhole rfl hkind hopen twinState_passed.1 twinState_passed.2 (hdata ▸ hmagic) (hdata ▸ hversion) (hdata ▸ hquire)
    (hdata ▸ hflag) (hdata ▸ twinState_spans)
  exact absurd (hcommitted _ twinState_applied) (by decide)

end Sys2Proof.Machine

/-!
SUPPORT. A descriptor of a group by its queue index: what a change of it, and a verdict settled for it, leave (R125, R128).
-/

namespace Sys2Proof.Machine

theorem desc?_of_group {s t : State} {n : Nat} (h : (t.writeCh n).group = (s.writeCh n).group) (i : Nat) : desc? t n i = desc? s n i := by
  rw [desc?, desc?, h]

theorem desc?_idx {s : State} {n i : Nat} {d : Desc} (h : desc? s n i = some d) : d.idx = i := by
  simpa using List.find?_some h

/-- The descriptor found under an index is changed by a change of that index that keeps it. -/
theorem desc?_modDesc {s : State} {n i : Nat} {d : Desc} (h : desc? s n i = some d) {f : Desc → Desc} (hf : ∀ d, (f d).idx = d.idx) :
    desc? (modDesc s n i f) n i = some (f d) := by
  have hidx : ((fun e : Desc => e.idx == i) ∘ fun d => if d.idx = i then f d else d) = fun e => e.idx == i := by
    funext e
    dsimp only [Function.comp]
    split
    · rw [hf]
    · rfl
  have hd := desc?_idx h
  rw [desc?] at h
  rw [desc?, group_modDesc, List.find?_map, hidx, h, Option.map_some, if_pos hd]

/-- A descriptor with a verdict to complete with, whose burns count as ended (R128). -/
def Desc.settled (d : Desc) (v : Nat) : Desc := { d with verdict := some v, burning := 0 }

/-- A descriptor without a verdict takes the one that is settled for it. -/
theorem desc?_setVerdict {s : State} {n i : Nat} {d : Desc} (h : desc? s n i = some d) (hv : d.verdict = none) (hd : d.done = false) (v : Nat) :
    desc? (setVerdict s n i v) n i = some (d.settled v) := by
  rw [setVerdict, desc?_modDesc h fun d => by split <;> rfl]
  exact congrArg some (if_pos (by simp [hv, hd]))

/-- The first descriptor of a group is the one found under its index. -/
theorem desc?_first {s : State} {n : Nat} {d : Desc} {r : List Desc} (h : (s.writeCh n).group = d :: r) : desc? s n d.idx = some d := by
  rw [desc?, h, List.find?_cons_of_pos (by simp)]

end Sys2Proof.Machine

/-!
Verdicts of VERIFY, READ and BLANK, and of a WRITE that is read back (R128, R140, R141, R150).
-/

namespace Sys2Proof.Machine

/-! ### VERIFY_READ (R140, R141) -/

theorem verifyRead_missing {n i : Nat} {s : State} (h : desc? s n i = none) : verifyRead n i s = s := by
  simp only [verifyRead, h]

/-- A descriptor whose slot is read back, with the codewords that it wants (R140, R141). -/
structure Verified (d : Desc) (want : Nat) : Prop where
  verifies : d.verifies = true
  wanted : d.wanted = want

theorem verified_of_verify {d : Desc} (hk : d.kind = 2) : Verified d (d.mask % 2 ^ 16) := by
  constructor <;> simp [Desc.verifies, Desc.wanted, hk]

theorem verified_of_write {d : Desc} (hk : d.kind = 1) (hb : d.burned.testBit d.nib = true) (hr : d.readBack = true) : Verified d 0xFFFF := by
  constructor <;> simp [Desc.verifies, Desc.wanted, hk, hb, hr]

/-- The codewords of a descriptor that pass are noted. -/
def passNoted (s : State) (n i pass : Nat) : State := modDesc s n i fun d => { d with pass := pass }

theorem desc?_passNoted {s : State} {n i : Nat} {d : Desc} (h : desc? s n i = some d) (p : Nat) :
    desc? (passNoted s n i p) n i = some { d with pass := p } := desc?_modDesc h fun _ => rfl

section
variable {n i want : Nat} {s : State} {d : Desc} (h : desc? s n i = some d) (hs : (s.writeCh n).started = true) (hv : d.verdict = none)
  (hd : d.done = false) (hw : Verified d want)
include h hw

theorem verifyRead_waits (hj : d.judged.getD d.nib 0 &&& want ≠ want) : verifyRead n i s = s := by
  simp only [verifyRead, h]
  refine if_neg fun ⟨_, _, _, _, hall⟩ => hj ?_
  rwa [hw.wanted] at hall

include hs hv hd

/-- Every codeword wanted has been judged: the verdict says whether each passes. -/
theorem verifyRead_judged (hj : d.judged.getD d.nib 0 &&& want = want) : verifyRead n i s =
    if d.good.getD d.nib 0 &&& want = want then setVerdict (passNoted s n i (d.good.getD d.nib 0 &&& want)) n i stOk
    else ((setVerdict (passNoted s n i (d.good.getD d.nib 0 &&& want)) n i stVerifyFail).ev (WC_EVENT_VERIFY_FAIL n)).bump (WC_CNT_FAIL_VERIFY_FAIL n) 1 := by
  have hall : d.judgedAt d.nib &&& d.wanted = d.wanted := by rwa [hw.wanted]
  simp only [verifyRead, h]
  rw [if_pos ⟨hs, by rw [hv]; rfl, hd, hw.verifies, hall⟩, hw.wanted]
  rfl

theorem verifyRead_passes (hj : d.judged.getD d.nib 0 &&& want = want) (hg : d.good.getD d.nib 0 &&& want = want) :
    (desc? (verifyRead n i s) n i).map (fun d => (d.verdict, d.pass)) = some (some 0, want) ∧ (verifyRead n i s).fld = s.fld := by
  have hset := desc?_setVerdict (desc?_passNoted h (d.good.getD d.nib 0 &&& want)) hv hd stOk
  rw [verifyRead_judged h hs hv hd hw hj, if_pos hg, hset, hg]
  exact ⟨rfl, rfl⟩

theorem verifyRead_fails (hj : d.judged.getD d.nib 0 &&& want = want) (hg : d.good.getD d.nib 0 &&& want ≠ want) :
    (desc? (verifyRead n i s) n i).map (fun d => (d.verdict, d.pass)) = some (some 1, d.good.getD d.nib 0 &&& want)
      ∧ (verifyRead n i s).get (WC_EVENT_VERIFY_FAIL n) = 1
      ∧ SameFields [WC_EVENT_VERIFY_FAIL n, WC_CNT_FAIL_VERIFY_FAIL n] s (verifyRead n i s) := by
  have hne : (WC_EVENT_VERIFY_FAIL n).key ≠ (WC_CNT_FAIL_VERIFY_FAIL n).key := by
    simp only [Fld.key, WC_EVENT_VERIFY_FAIL, WC_CNT_FAIL_VERIFY_FAIL]
    omega
  have hset := desc?_setVerdict (desc?_passNoted h (d.good.getD d.nib 0 &&& want)) hv hd stVerifyFail
  have hwc : ∀ u : State, ((u.ev (WC_EVENT_VERIFY_FAIL n)).bump (WC_CNT_FAIL_VERIFY_FAIL n) 1).writeCh n = u.writeCh n := fun _ => rfl
  have hsame : SameFields [WC_EVENT_VERIFY_FAIL n, WC_CNT_FAIL_VERIFY_FAIL n] s
      (setVerdict (passNoted s n i (d.good.getD d.nib 0 &&& want)) n i stVerifyFail) := .of_fld rfl
  rw [verifyRead_judged h hs hv hd hw hj, if_neg hg]
  generalize setVerdict _ n i stVerifyFail = u at hset hsame ⊢
  refine ⟨?_, ?_, (hsame.ev _ (by simp)).bump _ 1 (by simp)⟩
  · rw [desc?_of_group (congrArg Wc.group (hwc u)), hset]
    rfl
  · rw [State.get_bump_ne _ _ hne]
    exact u.get_ev _ one_pos

end

/-! ### READ_DESC (R128) -/

theorem readDescDone_fld (n i : Nat) (s : State) : (readDescDone n i s).fld = s.fld := by
  unfold readDescDone
  split
  · split <;> rfl
  · rfl

/-- A READ whose codewords are all settled is OK, or PARTIAL with one bad; until then it waits. -/
theorem readDescDone_effect {n i : Nat} {s : State} {d : Desc} (h : desc? s n i = some d) (hk : d.kind = 0) (hs : (s.writeCh n).started = true)
    (hv : d.verdict = none) (hd : d.done = false) :
    ((d.pass ||| d.bad) &&& d.mask = d.mask → (desc? (readDescDone n i s) n i).map (fun d => d.verdict) = some (some (if d.bad = 0 then 0 else 8)))
      ∧ ((d.pass ||| d.bad) &&& d.mask ≠ d.mask → readDescDone n i s = s) := by
  simp only [readDescDone, h]
  refine ⟨fun hall => ?_, fun hw => if_neg fun ⟨_, _, _, _, hall⟩ => hw hall⟩
  rw [if_pos ⟨hk, hs, by rw [hv]; rfl, hd, hall⟩, desc?_setVerdict h hv hd]
  rfl

/-! ### BLANK_CHECK (R150) -/

theorem blankCheck_fld (n : Nat) (rms : List Nat) (s : State) : (blankCheck n rms s).fld = s.fld := by
  unfold blankCheck
  split
  · dsimp only
    split <;> rfl
  · rfl

theorem blankCheck_empty {n : Nat} {s : State} (h : (s.writeCh n).group = []) (rms : List Nat) : blankCheck n rms s = s := by
  simp only [blankCheck, h]

/-- A list numbered from 0 is the list of its places with what stands there. -/
theorem zip_range_eq_map (m : Nat) (l : List Nat) : (List.range m).zip l = (List.range (min m l.length)).map fun k => (k, l.getD k 0) := by
  refine List.ext_getElem (by simp) fun k hk _ => ?_
  have hl : k < l.length := by
    rw [List.length_zip, List.length_range] at hk
    omega
  simp [hl]

/-- The nibs of a BLANK that are marked: those of its mask with a window above BLANK_LEVEL (R150). -/
def blankMarks (mask level : Nat) (rms : List Nat) : Nat :=
  ((List.range 16).zip rms).foldl (fun m e => if mask.testBit e.1 && decide (level < e.2) then m ||| 2 ^ e.1 else m) 0

theorem blankMarks_testBit (mask level : Nat) {rms : List Nat} {k : Nat} (hk : k < 16) (hl : k < rms.length) :
    (blankMarks mask level rms).testBit k = (mask.testBit k && decide (level < rms.getD k 0)) := by
  have hin : (List.range (min 16 rms.length)).contains k = true := List.contains_iff_mem.2 (List.mem_range.2 (lt_min hk hl))
  rw [blankMarks, zip_range_eq_map, List.foldl_map, testBit_foldl_or fun k => mask.testBit k && decide (level < rms.getD k 0), hin]
  simp

theorem desc?_blankCheck {n : Nat} {s : State} {d : Desc} {r : List Desc} (h : (s.writeCh n).group = d :: r) (hk : d.kind = 5)
    (hs : (s.writeCh n).started = true) (hv : d.verdict = none) (hd : d.done = false) (rms : List Nat) :
    desc? (blankCheck n rms s) n d.idx
      = some ({ d with pass := blankMarks d.mask (s.get (WC_CAL_BLANK_LEVEL n)) rms }.settled stOk) := by
  have heq : blankCheck n rms s
      = setVerdict (passNoted s n d.idx (blankMarks d.mask (s.get (WC_CAL_BLANK_LEVEL n)) rms)) n d.idx stOk := by
    simp only [blankCheck, h]
    rw [if_pos ⟨hk, by rw [hv]; rfl, hd, hs⟩]
    rfl
  have hnoted := desc?_passNoted (desc?_first h) (blankMarks d.mask (s.get (WC_CAL_BLANK_LEVEL n)) rms)
  rw [heq]
  exact desc?_setVerdict hnoted hv hd stOk

/-- Settles O27: VERIFY and a WRITE read back by what the pool has judged, READ by what is settled, BLANK by its level. -/
theorem verdicts : Obligations.Verdicts := by
  unfold Obligations.Verdicts
  refine ⟨fun n i s => ⟨_, rfl, verifyRead_missing, fun d want h hs hv hd hw => ?_⟩,
    fun n i s => ⟨_, rfl, readDescDone_fld n i s, fun d h hk hs hv hd => readDescDone_effect h hk hs hv hd⟩,
    fun n rms s => ⟨_, rfl, blankCheck_fld n rms s, fun h => blankCheck_empty h rms, fun d r h hk hs hv hd => ?_⟩⟩
  · have hver : Verified d want := by
      rcases hw with ⟨hk, rfl⟩ | ⟨hk, hb, hr, rfl⟩
      · exact verified_of_verify hk
      · exact verified_of_write hk hb hr
    exact ⟨verifyRead_waits h hver, verifyRead_passes h hs hv hd hver, verifyRead_fails h hs hv hd hver⟩
  · rw [desc?_blankCheck h hk hs hv hd]
    exact ⟨rfl, fun k hk hl => congrArg some (blankMarks_testBit _ _ hk hl)⟩

end Sys2Proof.Machine

/-!
Burning: a slot's burn begins and ends, and a write FIFO runs empty (R127, R131, R132, R134 to R137, R141, R202, R270, R271).
-/

namespace Sys2Proof.Machine

theorem refreshWc_wc (s : State) (n m : Nat) : (refreshWc s n).writeCh m = s.writeCh m := (refreshWc_onlyFields s n).wc m

theorem refreshWc_link (s : State) (n m : Nat) : (refreshWc s n).link m = s.link m := (rfl)

theorem State.on_eq_false {s : State} {f : Fld} (h : s.get f = 0) : s.on f = false := by simp [State.on, h]

theorem State.on_eq_true {s : State} {f : Fld} (h : s.get f = 1) : s.on f = true := by simp [State.on, h]

/-! ### SLOT_ARRIVAL -/

/-- The level of a nib's FIFO is noted as its slot arrives (R132). -/
def fifoNoted (n k fifo : Nat) (s : State) : State := s.modWc n fun w => { w with fifo := w.fifo.set k 0 (min fifoSize fifo) }

theorem fifoNoted_level (n k fifo : Nat) (s : State) : ((fifoNoted n k fifo s).writeCh n).fifo.getD k 0 = min 32768 fifo := by
  rw [fifoNoted, State.writeCh_modWc]
  exact Store.getD_set_same _ _ _ _

theorem fifoNoted_group (n k fifo : Nat) (s : State) : ((fifoNoted n k fifo s).writeCh n).group = (s.writeCh n).group := by
  rw [fifoNoted, State.writeCh_modWc]

theorem fifoNoted_started (n k fifo : Nat) (s : State) : ((fifoNoted n k fifo s).writeCh n).started = (s.writeCh n).started := by
  rw [fifoNoted, State.writeCh_modWc]

theorem fifoNoted_arrivalDesc (n k fifo f : Nat) (s : State) : arrivalDesc (fifoNoted n k fifo s) n k f = arrivalDesc s n k f := by
  rw [arrivalDesc, arrivalDesc, fifoNoted_group, fifoNoted_started]

theorem arrivalDesc_started {s : State} {n k f : Nat} {d : Desc} (h : arrivalDesc s n k f = some d) : (s.writeCh n).started = true := by
  unfold arrivalDesc at h
  by_contra hs
  rw [if_neg hs] at h
  exact absurd h (by simp)

/-- The conditions under which a slot's burn may begin, but for its group having started (R44, R132, R136, R151, R202, R264, R383). -/
structure BurnAllowed (s : State) (n fifo sidx : Nat) : Prop where
  filled : 16384 ≤ fifo
  enabled : s.get (WC_CTRL_ENABLE n) = 1
  running : s.get (WC_CTRL_HALT n) ≠ 1
  writeOk : s.get (RUL_STATUS_WRITE_OK n) = 1
  notHeld : s.get (WC_STATUS_WRITE_HOLD n) ≠ 1
  focus : s.get (SV_STATUS_FOCUS_STATE n) = 4
  track : s.get (SV_STATUS_TRACK_STATE n) = 3
  claimed : claims s n = true
  inReach : slotInReach s n sidx = true

theorem mayBurn_iff {s : State} {n k fifo sidx : Nat} (hs : (s.writeCh n).started = true) :
    (mayBurn (fifoNoted n k fifo s) n fifo && slotInReach (fifoNoted n k fifo s) n sidx) = true ↔ BurnAllowed s n fifo sidx := by
  have hclaims : claims (fifoNoted n k fifo s) n = claims s n := rfl
  have hreach : slotInReach (fifoNoted n k fifo s) n sidx = slotInReach s n sidx := rfl
  have hstarted : ((fifoNoted n k fifo s).writeCh n).started = true := (fifoNoted_started n k fifo s).trans hs
  have hget : ∀ f, (fifoNoted n k fifo s).get f = s.get f := fun _ => rfl
  simp only [mayBurn, hstarted, hclaims, hreach, servoLocked, State.on, hget, Bool.and_eq_true, Bool.not_eq_true',
    beq_eq_false_iff_ne, beq_iff_eq, decide_eq_true_eq, true_and]
  constructor
  · rintro ⟨⟨⟨⟨⟨⟨⟨hhalt, hen⟩, hfill⟩, hok⟩, hhold⟩, hfocus, htrack⟩, hclaim⟩, hin⟩
    exact ⟨hfill, hen, hhalt, hok, hhold, hfocus, htrack, hclaim, hin⟩
  · rintro ⟨hfill, hen, hhalt, hok, hhold, hfocus, htrack, hclaim, hin⟩
    exact ⟨⟨⟨⟨⟨⟨⟨hhalt, hen⟩, hfill⟩, hok⟩, hhold⟩, hfocus, htrack⟩, hclaim⟩, hin⟩

/-- The burn that a SLOT packet schedules for a descriptor on nib k (R134, R135, R137, R270). -/
def slotOf (s : State) (n k sidx : Nat) (d : Desc) : Slot where
  start := sidx % 2 ^ 32
  bits := 632000
  power := writePower s n k d.layer d.band
  table := s.get (WC_WS_SEL_SEL n) / 4 ^ d.layer % 4
  steps := if d.kind = 4 then (List.range 16).map (calPower (writePower s n k d.layer d.band)) else []
  seq := nextSeq s n (32 + k)

/-- A slot's burn begins: its descriptor burns on nib k, with the power and the table in force, and the SLOT packet is sent. -/
def slotBegun (n k sidx : Nat) (d : Desc) (s : State) : State :=
  (countDn ((modDesc s n d.idx fun e => { e with burning := e.burning ||| 2 ^ k }).modWc n fun w =>
      { w with
        power := w.power.set k 0 (slotOf s n k sidx d).power
        table := w.table.set k 0 (slotOf s n k sidx d).table
        sent := w.sent.set k 0 0 }) n (32 + k)).modLink n
    fun l => { l with slots := l.slots.insert k (slotOf s n k sidx d) }

theorem slotBegun_wc (n k sidx : Nat) (d : Desc) (s : State) : ((slotBegun n k sidx d s).writeCh n).fifo = (s.writeCh n).fifo
    ∧ ((slotBegun n k sidx d s).writeCh n).sent.getD k 0 = 0
    ∧ ((slotBegun n k sidx d s).writeCh n).group
      = (s.writeCh n).group.map fun e => if e.idx = d.idx then { e with burning := e.burning ||| 2 ^ k } else e := by
  simp only [slotBegun, countDn, State.writeCh_modLink, State.writeCh_modWc, modDesc, true_and, and_true]
  exact Store.getD_set_same _ _ _ _

theorem slotBegun_slot (n k sidx : Nat) (d : Desc) (s : State) :
    ((slotBegun n k sidx d s).link n).slots.find? k = some (slotOf s n k sidx d) := by
  rw [slotBegun, State.link_modLink]
  exact Store.find?_insert_same _ _ _

/-- A slot is skipped unburned. -/
theorem slotArrival_skips {n k f fifo sidx : Nat} {s : State} (h : arrivalDesc s n k f = none ∨ ¬ BurnAllowed s n fifo sidx) :
    slotArrival n k f fifo sidx s = fifoNoted n k fifo s := by
  unfold slotArrival
  rw [← fifoNoted]
  dsimp only
  split
  · next d hd =>
    refine if_neg fun hb => ?_
    have harrival : arrivalDesc s n k f = some d := by
      rw [slotDesc, fifoNoted_arrivalDesc] at hd
      exact (Option.filter_eq_some_iff.1 hd).1
    rcases h with h | h
    · exact absurd (h.symm.trans harrival) (by simp)
    · exact h ((mayBurn_iff (arrivalDesc_started harrival)).1 hb)
  · rfl

/-- A slot of a descriptor that has yet to burn there begins its burn. -/
theorem slotArrival_burns {n k f fifo sidx : Nat} {s : State} {d : Desc} (h : arrivalDesc s n k f = some d) (hk : d.burns = true)
    (hb : d.burned.testBit k = false) (hn : d.burning.testBit k = false) (ha : BurnAllowed s n fifo sidx) :
    slotArrival n k f fifo sidx s = refreshWc (slotBegun n k sidx d (fifoNoted n k fifo s)) n := by
  have hslot : slotDesc (fifoNoted n k fifo s) n k f = some d := by
    rw [slotDesc, fifoNoted_arrivalDesc, h, Option.filter_some, hk, hb, hn]
    rfl
  unfold slotArrival
  rw [← fifoNoted]
  dsimp only
  rw [hslot]
  dsimp only
  rw [if_pos ((mayBurn_iff (arrivalDesc_started h)).2 ha)]
  rfl

theorem slotOf_fifoNoted (n k fifo sidx : Nat) (d : Desc) (s : State) : slotOf (fifoNoted n k fifo s) n k sidx d = slotOf s n k sidx d := (rfl)

theorem slotBegun_fld (n k sidx : Nat) (d : Desc) (s : State) : (slotBegun n k sidx d s).fld = s.fld := (rfl)

/-- A slot is skipped, or the burn of a descriptor begins. -/
theorem slotArrival_cases (n k f fifo sidx : Nat) (s : State) : slotArrival n k f fifo sidx s = fifoNoted n k fifo s
    ∨ ∃ d, slotArrival n k f fifo sidx s = refreshWc (slotBegun n k sidx d (fifoNoted n k fifo s)) n := by
  unfold slotArrival
  rw [← fifoNoted]
  dsimp only
  split
  · next d _ =>
    split
    · exact .inr ⟨d, rfl⟩
    · exact .inl rfl
  · exact .inl rfl

theorem slotArrival_level (n k f fifo sidx : Nat) (s : State) : ((slotArrival n k f fifo sidx s).writeCh n).fifo.getD k 0 = min 32768 fifo := by
  rcases slotArrival_cases n k f fifo sidx s with h | ⟨d, h⟩
  · rw [h, fifoNoted_level]
  · rw [h, refreshWc_wc, (slotBegun_wc n k sidx d _).1, fifoNoted_level]

/-! ### BURN_DONE -/

theorem burningDesc_none {s : State} {n k : Nat} (h : ∀ d ∈ (s.writeCh n).group, d.burning.testBit k = false) : burningDesc s n k = none := by
  rw [burningDesc, List.find?_eq_none]
  intro d hd
  rw [h d hd]
  exact Bool.false_ne_true

theorem burnDone_idle {s : State} {n k : Nat} (h : burningDesc s n k = none) : burnDone n k s = s := by
  simp only [burnDone, h]

/-- A descriptor's burn on a nib has ended; `now` says whether it is read back in its group (R141). -/
def Desc.burnEnded (k : Nat) (now : Bool) (d : Desc) : Desc := { d with burning := d.burning ^^^ 2 ^ k, burned := d.burned ||| 2 ^ k, readBack := now }

/-- A burn has ended: its nib burns no more, and it is counted. -/
def burnEnded (n k : Nat) (d : Desc) (s : State) : State :=
  ((modDesc s n d.idx (Desc.burnEnded k (!s.on (WC_CTRL_VMODE n)))).modLink n fun l => { l with slots := l.slots.erase k }).bump (WC_CNT_FOLIO_BURNED n) 1

theorem burnEnded_vmode (n k : Nat) (d : Desc) (s : State) : (burnEnded n k d s).on (WC_CTRL_VMODE n) = s.on (WC_CTRL_VMODE n) := by
  have hne : (WC_CTRL_VMODE n).key ≠ (WC_CNT_FOLIO_BURNED n).key := by
    simp only [Fld.key, WC_CTRL_VMODE, WC_CNT_FOLIO_BURNED]
    omega
  rw [State.on, State.on, burnEnded, State.get_bump_ne _ _ hne]
  rfl

theorem burnEnded_sameFields (n k : Nat) (d : Desc) (s : State) : SameFields [WC_CNT_FOLIO_BURNED n] s (burnEnded n k d s) :=
  SameFields.bump (.of_fld rfl) (WC_CNT_FOLIO_BURNED n) 1 (by simp)

theorem burnEnded_count (n k : Nat) (d : Desc) (s : State) :
    (burnEnded n k d s).get (WC_CNT_FOLIO_BURNED n) = min (s.get (WC_CNT_FOLIO_BURNED n) + 1) (2 ^ (WC_CNT_FOLIO_BURNED n).width - 1) := by
  rw [burnEnded, State.get_bump]
  rfl

theorem burnEnded_slot (n k : Nat) (d : Desc) (s : State) : ((burnEnded n k d s).link n).slots.find? k = none := by
  rw [burnEnded, State.bump, State.link_set, State.link_modLink]
  exact Store.find?_erase_same _ _

theorem burnEnded_group (n k : Nat) (d : Desc) (s : State) : ((burnEnded n k d s).writeCh n).group
    = (s.writeCh n).group.map fun e => if e.idx = d.idx then e.burnEnded k (!s.on (WC_CTRL_VMODE n)) else e := by
  rw [burnEnded, State.bump, State.writeCh_set, State.writeCh_modLink, group_modDesc]

theorem burnDone_ends {s : State} {n k : Nat} {d : Desc} (h : burningDesc s n k = some d) : burnDone n k s =
    refreshWc ((burnEnded n k d s).iff (d.kind == 1 && s.on (WC_CTRL_VMODE n)) fun s => setVerdict s n d.idx stUnverified) n := by
  rw [← burnEnded_vmode n k d s]
  simp only [burnDone, h]
  rfl

/-- A verdict changes the group it is settled in. -/
theorem setVerdict_group (s : State) (n i v : Nat) : ((setVerdict s n i v).writeCh n).group = (s.writeCh n).group.map fun d =>
    if d.idx = i then (if d.verdict.isNone && !d.done then { d with verdict := some v, burning := 0 } else d) else d := group_modDesc _ _ _ _

/-! ### WRITE_UNDERRUN -/

theorem writeUnderrun_idle {s : State} {n k : Nat} (h : burningDesc s n k = none ∨ fifoDry s n k = false) : writeUnderrun n k s = s := by
  unfold writeUnderrun
  split
  · rfl
  · next d hd =>
    refine if_neg fun hdry => ?_
    rcases h with h | h
    · exact absurd (h.symm.trans hd) (by simp)
    · exact Bool.false_ne_true (h.symm.trans hdry)

/-- A FIFO is dry when its folio is not wholly sent and it holds less than the next packet carries (R132). -/
theorem fifoDry_iff (s : State) (n k : Nat) : fifoDry s n k = true ↔ (s.writeCh n).sent.getD k 0 < 632000
    ∧ 8 * (s.writeCh n).fifo.getD k 0 < min 1024 (632000 - (s.writeCh n).sent.getD k 0) := by
  simp [fifoDry]

/-- A nib's FIFO is empty. -/
def fifoEmptied (n k : Nat) (s : State) : State := s.modWc n fun w => { w with fifo := w.fifo.set k 0 0 }

theorem writeUnderrun_aborts {s : State} {n k : Nat} {d : Desc} (h : burningDesc s n k = some d) (hd : fifoDry s n k = true) :
    writeUnderrun n k s = refreshWc (sendAbort (underrun (fifoEmptied n k s) n d) n d.burning) n := by
  simp only [writeUnderrun, h, hd, if_true]
  rfl

theorem sendAbort_wc (s : State) (n mask m : Nat) : (sendAbort s n mask).writeCh m = s.writeCh m := (rfl)

theorem sendAbort_abort (s : State) (n mask : Nat) : ((sendAbort s n mask).link n).abort = mask := by
  rw [sendAbort, State.link_modLink]

theorem sendAbort_get (s : State) (n mask : Nat) (f : Fld) : (sendAbort s n mask).get f = s.get f := (rfl)

theorem underrun_wc (s : State) (n : Nat) (d : Desc) (m : Nat) : (underrun s n d).writeCh m = (setVerdict s n d.idx stUnderrun).writeCh m := (rfl)

theorem underrun_event (s : State) (n : Nat) (d : Desc) : (underrun s n d).get (WC_EVENT_UNDERRUN n) = 1 := State.get_ev _ _ one_pos

theorem setVerdict_fifo (s : State) (n i v : Nat) : ((setVerdict s n i v).writeCh n).fifo = (s.writeCh n).fifo := by
  rw [setVerdict, modDesc, State.writeCh_modWc]

theorem fifoEmptied_wc (n k : Nat) (s : State) :
    ((fifoEmptied n k s).writeCh n).fifo.getD k 0 = 0 ∧ ((fifoEmptied n k s).writeCh n).group = (s.writeCh n).group := by
  rw [fifoEmptied, State.writeCh_modWc]
  exact ⟨Store.getD_set_same (s.writeCh n).fifo k 0 0, rfl⟩

theorem WC_EVENT_UNDERRUN_ne_shown (n : Nat) : ∀ g ∈ [WC_STATUS_WRITING n, WC_STATUS_GROUP_LEFT n], (WC_EVENT_UNDERRUN n).key ≠ g.key := by
  simp only [List.forall_mem_cons, Fld.key, WC_EVENT_UNDERRUN, WC_STATUS_WRITING, WC_STATUS_GROUP_LEFT]
  simp
  omega

theorem WC_CNT_FOLIO_BURNED_ne_shown (n : Nat) : ∀ g ∈ [WC_STATUS_WRITING n, WC_STATUS_GROUP_LEFT n], (WC_CNT_FOLIO_BURNED n).key ≠ g.key := by
  simp only [List.forall_mem_cons, Fld.key, WC_CNT_FOLIO_BURNED, WC_STATUS_WRITING, WC_STATUS_GROUP_LEFT]
  simp
  omega

theorem burnDone_effect {s : State} {n k : Nat} {d : Desc} (h : burningDesc s n k = some d) :
    ((burnDone n k s).link n).slots.find? k = none
      ∧ (burnDone n k s).get (WC_CNT_FOLIO_BURNED n) = min (s.get (WC_CNT_FOLIO_BURNED n) + 1) (2 ^ (WC_CNT_FOLIO_BURNED n).width - 1)
      ∧ SameFields [WC_CNT_FOLIO_BURNED n, WC_STATUS_WRITING n, WC_STATUS_GROUP_LEFT n] s (burnDone n k s) := by
  have hfld : ∀ b : Bool, ((burnEnded n k d s).iff b fun s => setVerdict s n d.idx stUnverified).fld = (burnEnded n k d s).fld := by rintro (_ | _) <;> rfl
  have hlink : ∀ b : Bool, ((burnEnded n k d s).iff b fun s => setVerdict s n d.idx stUnverified).link n = (burnEnded n k d s).link n := by
    rintro (_ | _) <;> rfl
  rw [burnDone_ends h, refreshWc_link, hlink]
  refine ⟨burnEnded_slot n k d s, ?_, ?_⟩
  · rw [(refreshWc_onlyFields _ n).1.get (WC_CNT_FOLIO_BURNED_ne_shown n), State.get_of_fld (hfld _), burnEnded_count]
  · exact (((burnEnded_sameFields n k d s).trans (.of_fld (hfld _))).mono (by simp)).trans ((refreshWc_onlyFields _ n).1.mono (by simp))

/-- What a burn that ends makes of its descriptor: it is read back later, or in its group; a WRITE in deferred mode is UNVERIFIED. -/
theorem burnDone_group {s : State} {n k : Nat} {d : Desc} (h : burningDesc s n k = some d) :
    (d.kind ≠ 1 ∨ s.get (WC_CTRL_VMODE n) = 0 → ((burnDone n k s).writeCh n).group
      = (s.writeCh n).group.map fun e => if e.idx = d.idx then e.burnEnded k (s.get (WC_CTRL_VMODE n) == 0) else e)
    ∧ (d.kind = 1 → s.get (WC_CTRL_VMODE n) = 1 → ((burnDone n k s).writeCh n).group = (s.writeCh n).group.map fun e => if e.idx = d.idx then
        (if e.verdict.isNone && !e.done then { e.burnEnded k false with burning := 0, verdict := some 9 } else e.burnEnded k false) else e) := by
  have hnow : (!s.on (WC_CTRL_VMODE n)) = (s.get (WC_CTRL_VMODE n) == 0) := by
    have hlt : s.get (WC_CTRL_VMODE n) < 2 := s.get_lt _
    rcases (show s.get (WC_CTRL_VMODE n) = 0 ∨ s.get (WC_CTRL_VMODE n) = 1 by omega) with hv | hv <;> simp [State.on, hv]
  rw [burnDone_ends h, refreshWc_wc]
  refine ⟨fun hc => ?_, fun hk hv => ?_⟩
  · have hoff : (d.kind == 1 && s.on (WC_CTRL_VMODE n)) = false := by
      rcases hc with hk | hv
      · rw [beq_false_of_ne hk, Bool.false_and]
      · rw [State.on_eq_false hv, Bool.and_false]
    rw [hoff, State.iff_false, burnEnded_group, hnow]
  · rw [hk, State.on_eq_true hv, BEq.rfl, Bool.and_self, State.iff_true, setVerdict_group, burnEnded_group, State.on_eq_true hv, List.map_map]
    refine List.map_congr_left fun e _ => ?_
    by_cases he : e.idx = d.idx <;> simp [he, Desc.burnEnded]

/-- Settles O26: a slot burns where all the conditions hold, a burn that ends is counted, and a dry FIFO aborts its burn. -/
theorem burns : Obligations.Burns := by
  unfold Obligations.Burns
  refine ⟨fun n k f fifo sidx s => ⟨_, rfl, slotArrival_level n k f fifo sidx s, fun hskip => ?_,
      fun d h hk hb hburning hfill hen hhalt hok hhold hfocus htrack hclaim hin => ?_⟩,
    fun n k s => ⟨_, rfl, fun h => burnDone_idle (burningDesc_none h), fun d h => ?_⟩,
    fun n k s => ⟨_, rfl, fun h => ?_, fun d h hsent hfifo => ?_⟩⟩
  · have hskips : arrivalDesc s n k f = none ∨ ¬ BurnAllowed s n fifo sidx := by
      refine or_iff_not_imp_right.2 fun ha => ?_
      obtain ⟨hfill, hen, hhalt, hok, hhold, hfocus, htrack, hclaim, hin⟩ := not_not.1 ha
      simpa [hen, hhalt, hok, hhold, hfocus, htrack, hclaim, hin, Nat.not_lt.2 hfill] using hskip
    rw [slotArrival_skips hskips]
    exact ⟨rfl, fifoNoted_group n k fifo s, rfl⟩
  · have hburns : d.burns = true := by
      rcases hk with hk | hk | hk <;> simp [Desc.burns, hk]
    obtain ⟨-, hsent, hgroup⟩ := slotBegun_wc n k sidx d (fifoNoted n k fifo s)
    rw [slotArrival_burns h hburns hb hburning ⟨hfill, hen, by simp [hhalt], hok, by simp [hhold], hfocus, htrack, hclaim, hin⟩, refreshWc_wc,
      refreshWc_link, hgroup, fifoNoted_group, slotBegun_slot, slotOf_fifoNoted]
    exact ⟨rfl, hsent, rfl, SameFields.trans (.of_fld (slotBegun_fld n k sidx d _)) (refreshWc_onlyFields _ n).1⟩
  · obtain ⟨hslot, hcount, hsame⟩ := burnDone_effect h
    obtain ⟨hread, hdeferred⟩ := burnDone_group h
    exact ⟨hslot, hcount, hread, hdeferred, hsame⟩
  · refine writeUnderrun_idle ?_
    rcases h with h | h
    · exact .inl (burningDesc_none h)
    · refine .inr (Bool.eq_false_iff.2 fun hdry => ?_)
      obtain ⟨hsent, hfifo⟩ := (fifoDry_iff s n k).1 hdry
      omega
  · obtain ⟨hempty, hgroup⟩ := fifoEmptied_wc n k s
    rw [writeUnderrun_aborts h ((fifoDry_iff s n k).2 ⟨hsent, hfifo⟩), refreshWc_wc, refreshWc_link, sendAbort_wc, sendAbort_abort, underrun_wc,
      setVerdict_fifo, setVerdict_group, hempty, hgroup, (refreshWc_onlyFields _ n).1.get (WC_EVENT_UNDERRUN_ne_shown n), sendAbort_get, underrun_event]
    refine ⟨rfl, rfl, rfl, rfl, ?_⟩
    have hrun : SameFields [WC_CNT_FAIL_ABORTED n, WC_EVENT_UNDERRUN n] s (sendAbort (underrun (fifoEmptied n k s) n d) n d.burning) :=
      (SameFields.of_fld (t := fifoEmptied n k s) rfl).trans ((underrun_sameFields _ n d).trans (.of_fld rfl))
    exact (hrun.mono (by simp)).trans ((refreshWc_onlyFields _ n).1.mono (by simp))

end Sys2Proof.Machine

/-!
A descriptor with a verdict completes: its status bytes, its events and its group (R125, R128, R143).
-/

namespace Sys2Proof.Machine

/-! ### Events -/

/-- An event bit that has been recorded stays so while others are (R6). -/
theorem State.get_ev_of_one {s : State} {f g : Fld} (h : s.get f = 1) (hf : f.width = 1) (hg : g.width = 1 ∧ g.rst = 0) : (s.ev g).get f = 1 := by
  by_cases hk : f.key = g.key
  · rw [State.get, State.ev, State.set, hk, hf, hg.1, hg.2, Store.getD, Store.set, if_neg (by decide), Store.find?_insert_same]
    rfl
  · rw [State.get_ev_ne _ hk, h]

/-- Events are recorded, each on its condition. -/
def eventsRecorded (l : List (Bool × Fld)) (s : State) : State := s.each l fun s e => s.iff e.1 fun s => s.ev e.2

theorem eventsRecorded_get {l : List (Bool × Fld)} (hl : ∀ e ∈ l, e.2.width = 1 ∧ e.2.rst = 0) {f : Fld} (hf : (true, f) ∈ l) (s : State) :
    (eventsRecorded l s).get f = 1 := by
  have hwidth := (hl _ hf).1
  refine State.each_establishes (P := fun s => s.get f = 1) hf s (fun s e he h => ?_) fun s => ?_
  · cases e.1
    · exact h
    · exact State.get_ev_of_one h hwidth (hl e he)
  · exact s.get_ev f (hwidth ▸ one_pos)

theorem eventsRecorded_keeps {α : Type} (π : State → α) (hπ : ∀ s f, π (s.ev f) = π s) (l : List (Bool × Fld)) (s : State) :
    π (eventsRecorded l s) = π s :=
  State.each_keeps π s l _ fun s e _ => by
    cases e.1
    · rfl
    · exact hπ s e.2

/-- The events of a descriptor that completes, with what records each (R125, R128, R139, R145). -/
def completionEvents (n v : Nat) (d : Desc) : List (Bool × Fld) :=
  [(d.irq, WC_EVENT_DESC_DONE n), (v == stCut, WC_EVENT_CUT n), (v == stDescErr, WC_EVENT_DESC_ERR n), (v == stGated, WC_EVENT_GATED n),
    (d.kind == 3 && v == stOk, WC_EVENT_COL_PASS n), (v == stColFail, WC_EVENT_COL_FAIL n), (d.kind == 4, WC_EVENT_CAL_DONE n)]

theorem completionEvents_bits (n v : Nat) (d : Desc) : ∀ e ∈ completionEvents n v d, e.2.width = 1 ∧ e.2.rst = 0 := by
  simp [completionEvents, WC_EVENT_DESC_DONE, WC_EVENT_CUT, WC_EVENT_DESC_ERR, WC_EVENT_GATED, WC_EVENT_COL_PASS, WC_EVENT_COL_FAIL, WC_EVENT_CAL_DONE]

/-- The events of the write channel's word at 0x40 are not what shows the group or the key slots. -/
theorem completionEvents_shown (n v : Nat) (d : Desc) : ∀ e ∈ completionEvents n v d, (∀ g ∈ [WC_STATUS_WRITING n, WC_STATUS_GROUP_LEFT n], e.2.key ≠ g.key)
    ∧ ∀ g ∈ (List.range 128).map SEC_SLOT_IN_USE, e.2.key ≠ g.key := by
  have hplace : ∀ e ∈ completionEvents n v d, e.2.addr = wcBase n + 0x40 ∧ e.2.lo < 64 := by
    simp [completionEvents, WC_EVENT_DESC_DONE, WC_EVENT_CUT, WC_EVENT_DESC_ERR, WC_EVENT_GATED, WC_EVENT_COL_PASS, WC_EVENT_COL_FAIL, WC_EVENT_CAL_DONE]
  intro e he
  obtain ⟨ha, hl⟩ := hplace e he
  refine ⟨fun g hg => Fld.key_ne_of_addr ?_ hl ?_, fun g hg => Fld.key_ne_of_addr ?_ hl ?_⟩
  · rcases List.mem_pair.1 hg with rfl | rfl <;> simp [ha, WC_STATUS_WRITING, WC_STATUS_GROUP_LEFT]
  · rcases List.mem_pair.1 hg with rfl | rfl <;> simp [WC_STATUS_WRITING, WC_STATUS_GROUP_LEFT]
  · obtain ⟨k, hk, rfl⟩ := List.mem_map.1 hg
    have := List.mem_range.1 hk
    simp only [ha, SEC_SLOT_IN_USE, wcBase, penBase, secBase]
    omega
  · obtain ⟨k, -, rfl⟩ := List.mem_map.1 hg
    simp [SEC_SLOT_IN_USE]

/-! ### What completing leaves of the groups (R143) -/

/-- The groups of all pens, and the host's commands, are as before. -/
structure KeepsGroups (s t : State) : Prop where
  group : ∀ m, (t.writeCh m).group = (s.writeCh m).group
  hq : t.hq = s.hq

namespace KeepsGroups

theorem refl (s : State) : KeepsGroups s s := ⟨fun _ => rfl, rfl⟩

theorem trans {s t u : State} (h : KeepsGroups s t) (k : KeepsGroups t u) : KeepsGroups s u :=
  ⟨fun m => (k.group m).trans (h.group m), k.hq.trans h.hq⟩

theorem frame : Frame KeepsGroups := ⟨refl, trans⟩

theorem of_wc {s t : State} (h : t.wc = s.wc) (hq : t.hq = s.hq) : KeepsGroups s t := ⟨fun m => by rw [State.writeCh, State.writeCh, h], hq⟩

theorem of_onlyFields {but : List Fld} {s t : State} (h : OnlyFields but s t) : KeepsGroups s t :=
  ⟨fun m => by rw [h.wc], (congrArg State.hq h.2 :)⟩

theorem set {s t : State} (h : KeepsGroups s t) (f : Fld) (v : Nat) : KeepsGroups s (t.set f v) := ⟨h.group, h.hq⟩

theorem ev {s t : State} (h : KeepsGroups s t) (f : Fld) : KeepsGroups s (t.ev f) := ⟨h.group, h.hq⟩

/-- A change of a write channel that leaves its group. -/
theorem modWc (s : State) (n : Nat) (f : Wc → Wc) (hf : ∀ w, (f w).group = w.group) : KeepsGroups s (s.modWc n f) := by
  refine ⟨fun m => ?_, rfl⟩
  by_cases hm : m = n
  · subst hm
    rw [State.writeCh_modWc, hf]
  · rw [State.writeCh_modWc_ne _ _ hm]

/-- A change of a write channel's gate ledger (R123). -/
theorem ledger (s : State) (n : Nat) (f : Wc → Store Bool) : KeepsGroups s (refreshGate (s.modWc n fun w => { w with ledger := f w }) n) :=
  (modWc s n (fun w => { w with ledger := f w }) fun _ => rfl).set _ _

end KeepsGroups

theorem ledgerAdd_keepsGroups (s : State) (n pfa : Nat) (r : Bool) : KeepsGroups s (ledgerAdd s n pfa r) := by
  unfold ledgerAdd
  dsimp only
  split
  · exact .modWc s n _ fun _ => rfl
  · split
    · exact ((KeepsGroups.refl s).set _ _).ev _
    · exact .ledger s n _

theorem ledgerRemove_keepsGroups (s : State) (n pfa : Nat) : KeepsGroups s (ledgerRemove s n pfa) := .ledger s n _

theorem ledgerEmpty_keepsGroups (s : State) (n : Nat) : KeepsGroups s (ledgerEmpty s n) := .ledger s n _

theorem ledgerUpdate_keepsGroups (s : State) (n : Nat) (d : Desc) (v : Nat) : KeepsGroups s (ledgerUpdate s n d v) := by
  unfold ledgerUpdate
  generalize originalPfa s d = p
  obtain ⟨pfa, copy⟩ := p
  dsimp only
  split
  · split
    · exact ledgerEmpty_keepsGroups s n
    · exact .refl s
  · split
    · split
      · exact ledgerAdd_keepsGroups s n pfa true
      · split
        · exact ledgerAdd_keepsGroups s n pfa false
        · split
          · split
            · exact ledgerRemove_keepsGroups s n pfa
            · split
              · exact ledgerRemove_keepsGroups s n pfa
              · exact .refl s
          · exact .refl s
    · exact .refl s

theorem countRelocation_keepsGroups (s : State) (d : Desc) (p : Bool) : KeepsGroups s (countRelocation s d p) := by
  unfold countRelocation
  dsimp only
  split
  · split
    · exact .of_wc rfl rfl
    · exact .refl s
  · exact .refl s

/-! ### Completing -/

/-- A descriptor that has completed. -/
def Desc.completed (d : Desc) : Desc := { d with done := true, burning := 0 }

theorem completeDesc_missing {s : State} {n i : Nat} (h : desc? s n i = none) : completeDesc s n i = s := by
  simp only [completeDesc, h]

theorem completeDesc_idle {s : State} {n i : Nat} {d : Desc} (h : desc? s n i = some d) (hi : d.verdict = none ∨ d.done = true) :
    completeDesc s n i = s := by
  simp only [completeDesc, h]
  split
  · rfl
  · next v hv =>
    rcases hi with hi | hi
    · exact absurd (hi.symm.trans hv) (by simp)
    · exact if_pos hi

/-- The status of a descriptor that completes: bytes 48 to 63 of its queue entry (R125). -/
def Desc.status (s : State) (d : Desc) (v : Nat) : List (BitVec 8) :=
  leBytes 2 v ++ leBytes 2 d.pass ++ leBytes 2 d.maxIter ++ leBytes 2 0 ++ leBytes 8 s.now

theorem Desc.length_status (s : State) (d : Desc) (v : Nat) : (d.status s v).length = 16 := by
  simp [Desc.status, length_leBytes]

/-- The status of a descriptor is stored in its queue entry. -/
def statusStored (s : State) (n i : Nat) (d : Desc) (v : Nat) : State := s.inkWrite (16 + n) (descAddr s n i + 48) (d.status s v) false

/-- A descriptor of the group is done, and the gate ledger and the relocation list follow (R123, R143). -/
def doneNoted (s : State) (n i : Nat) (d : Desc) (v : Nat) : State :=
  let s := modDesc s n i Desc.completed
  countRelocation (ledgerUpdate s n d v) d (copyPassed s n d v)

section
variable {s : State} {n i v : Nat} {d : Desc} (h : desc? s n i = some d) (hv : d.verdict = some v) (hd : d.done = false)
include h hv hd

theorem completeDesc_completes : completeDesc s n i =
    refreshInUse (refreshWc (eventsRecorded (completionEvents n v d) (doneNoted (statusStored s n i d v) n i d v)) n) d.key := by
  simp only [completeDesc, h, hv]
  rw [if_neg (by rw [hd]; exact Bool.false_ne_true)]
  rfl

/-- Of the groups and the host's commands, completing a descriptor changes that descriptor alone. -/
theorem completeDesc_keepsGroups : KeepsGroups (modDesc s n i Desc.completed) (completeDesc s n i) := by
  have hstored : KeepsGroups (modDesc s n i Desc.completed) (modDesc (statusStored s n i d v) n i Desc.completed) := by
    have hwc := (inkWrite_inkHidden s (16 + n) (descAddr s n i + 48) (d.status s v) false).writeCh
    refine ⟨fun m => ?_, (congrArg State.hq (inkWrite_inkHidden s _ _ (d.status s v) false).eq :)⟩
    by_cases hm : m = n
    · rw [hm, group_modDesc, group_modDesc, statusStored, hwc]
    · rw [modDesc, modDesc, State.writeCh_modWc_ne _ _ hm, State.writeCh_modWc_ne _ _ hm, statusStored, hwc]
  have hnoted : KeepsGroups (modDesc (statusStored s n i d v) n i Desc.completed) (doneNoted (statusStored s n i d v) n i d v) :=
    (ledgerUpdate_keepsGroups _ n d v).trans (countRelocation_keepsGroups _ d _)
  have hevents : ∀ t, KeepsGroups t (eventsRecorded (completionEvents n v d) t) := fun t =>
    ⟨fun m => congrArg Wc.group (eventsRecorded_keeps (fun s => s.writeCh m) (fun _ _ => rfl) _ t), eventsRecorded_keeps State.hq (fun _ _ => rfl) _ t⟩
  rw [completeDesc_completes h hv hd]
  exact (hstored.trans hnoted).trans ((hevents _).trans (.trans (.of_onlyFields (refreshWc_onlyFields _ n)) (.of_onlyFields (refreshInUse_onlyFields _ d.key))))

theorem completeDesc_done : (desc? (completeDesc s n i) n i).map (fun d => d.done) = some true := by
  rw [desc?, (completeDesc_keepsGroups h hv hd).group, ← desc?, desc?_modDesc h (f := Desc.completed) fun _ => rfl]
  rfl

theorem completeDesc_event {f : Fld} (hf : (true, f) ∈ completionEvents n v d) : (completeDesc s n i).get f = 1 := by
  obtain ⟨hshown, huse⟩ := completionEvents_shown n v d _ hf
  rw [completeDesc_completes h hv hd, (refreshInUse_onlyFields _ _).1.get huse, (refreshWc_onlyFields _ n).1.get hshown]
  exact eventsRecorded_get (completionEvents_bits n v d) hf _

/-- Of the Inkwell's bytes, completing changes what its status does. -/
theorem completeDesc_byte (a : Nat) : (completeDesc s n i).byte a = (statusStored s n i d v).byte a := by
  have hnoted : (doneNoted (statusStored s n i d v) n i d v).mem = (statusStored s n i d v).mem :=
    (countRelocation_kept memory_kept (ledgerUpdate_kept memory_kept ⟨rfl, rfl⟩)).1
  rw [State.byte, State.byte, ← hnoted, completeDesc_completes h hv hd, (refreshInUse_kept memory_kept ⟨rfl, rfl⟩).1,
    (refreshWc_kept memory_kept ⟨rfl, rfl⟩).1, eventsRecorded_keeps State.mem fun s f => s.set_mem f 1]

end

/-- Bytes read one by one are the list read. -/
theorem State.bytesAt_eq {t : State} {a : Nat} {l : List (BitVec 8)} (h : ∀ i (hi : i < l.length), t.byte (a + i) = l[i]) : t.bytesAt a l.length = l := by
  induction l generalizing a with
  | nil => rfl
  | cons b l ih =>
    have htail := ih (a := a + 1) fun i hi => by
      rw [show a + 1 + i = a + (i + 1) by omega]
      exact h (i + 1) (Nat.succ_lt_succ hi)
    rw [List.length_cons, State.bytesAt, htail]
    exact congrArg (· :: l) (h 0 (Nat.succ_pos _))

/-- A queue entry that begins below the check region ends there: both are multiples of 64 bytes (R125, R288). -/
theorem descAddr_inside {s : State} {n i : Nat} (h : descAddr s n i + 48 < inkLimit) : descAddr s n i + 64 ≤ inkLimit := by
  unfold descAddr inkLimit at h ⊢
  omega

/-- Settles O29: the status bytes, the group and the events of a descriptor that completes, and that it completes once. -/
theorem descriptorCompletes : Obligations.DescriptorCompletes := by
  unfold Obligations.DescriptorCompletes
  refine fun n i s => ⟨_, rfl, completeDesc_missing, fun d h => ⟨completeDesc_idle h, fun v hv hd => ?_⟩⟩
  have hev := fun f => completeDesc_event h hv hd (f := f)
  refine ⟨completeDesc_done h hv hd, ?_, ?_, ?_, ?_, ?_, fun harm hlim => ?_⟩
  · rintro rfl
    exact hev _ (by simp [completionEvents])
  · rintro rfl
    exact hev _ (by simp [completionEvents])
  · rintro rfl
    exact hev _ (by simp [completionEvents])
  · rintro rfl
    exact hev _ (by simp [completionEvents])
  · intro hirq
    exact hev _ (by simp [completionEvents, hirq])
  · have hlen := Desc.length_status s d v
    have hin : descAddr s n i + 48 + (d.status s v).length ≤ inkLimit := by
      have := descAddr_inside hlim
      omega
    refine ⟨?_, fun a ha => ?_⟩
    · refine (congrArg (State.bytesAt _ _) hlen.symm).trans (State.bytesAt_eq fun j hj => ?_)
      rw [completeDesc_byte h hv hd]
      exact State.inkWrite_stored s _ _ _ _ hin harm hj
    · rw [completeDesc_byte h hv hd]
      exact (State.inkWrite_outside s (16 + n) (descAddr s n i + 48) (d.status s v) false hin).byte harm a (by omega)

end Sys2Proof.Machine

/-!
SUPPORT. What stopping pens and loops leaves: the fields of the Verso block, the modes of loops, and descriptors that are cut already (R128, R151,
R202, R393).
-/

namespace Sys2Proof.Machine

/-! ### Fields -/

/-- Fields with different lowest bits are different fields. -/
theorem Fld.key_ne_of_bit {f g : Fld} (h : f.lo ≠ g.lo) (hf : f.lo < 64) (hg : g.lo < 64) : f.key ≠ g.key := by
  simp only [Fld.key]
  omega

/-- A field that is 0 stays 0 while fields that are alike are set to 0. -/
theorem State.get_set_zero {s : State} {f g : Fld} (h : s.get f = 0) (hg : f.rst = g.rst) : (s.set g 0).get f = 0 := by
  by_cases hk : f.key = g.key
  · have hzero : ((s.set g 0).fld.getD f.key f.rst) = 0 := by
      rw [State.set, hk, hg, Nat.zero_mod]
      exact Store.getD_set_same _ _ _ _
    rw [State.get, hzero, Nat.zero_mod]
  · rw [State.get_set_ne _ _ hk, h]

/-- A field of the Verso block (R382). -/
def inVerso (f : Fld) : Prop := f.block = 0x200009

/-- The fields of the Verso block are as before. -/
structure KeepsVerso (s t : State) : Prop where
  get : ∀ f, inVerso f → t.get f = s.get f

namespace KeepsVerso

theorem refl (s : State) : KeepsVerso s s := ⟨fun _ _ => rfl⟩

theorem trans {s t u : State} (h : KeepsVerso s t) (k : KeepsVerso t u) : KeepsVerso s u := ⟨fun f hf => (k.get f hf).trans (h.get f hf)⟩

theorem frame : Frame KeepsVerso := ⟨refl, trans⟩

theorem of_fld {s t : State} (h : t.fld = s.fld) : KeepsVerso s t := ⟨fun f _ => State.get_of_fld h f⟩

theorem of_sameFields {but : List Fld} {s t : State} (h : SameFields but s t) (hb : ∀ g ∈ but, g.block ≠ 0x200009) : KeepsVerso s t :=
  ⟨fun _ hf => h.get fun g hg he => hb g hg ((congrArg (· / 0x400000) he.symm).trans hf)⟩

theorem set {s t : State} (h : KeepsVerso s t) (g : Fld) (v : Nat) (hg : g.block ≠ 0x200009) : KeepsVerso s (t.set g v) :=
  h.trans ⟨fun _ hf => t.get_set_block v fun e => hg (e.symm.trans hf)⟩

end KeepsVerso

/-- The modes of all loops are as before. -/
structure KeepsModes (s t : State) : Prop where
  mode : ∀ e j, modeOf t e j = modeOf s e j

namespace KeepsModes

theorem refl (s : State) : KeepsModes s s := ⟨fun _ _ => rfl⟩

theorem trans {s t u : State} (h : KeepsModes s t) (k : KeepsModes t u) : KeepsModes s u := ⟨fun e j => (k.mode e j).trans (h.mode e j)⟩

theorem frame : Frame KeepsModes := ⟨refl, trans⟩

theorem of_fld {s t : State} (h : t.fld = s.fld) : KeepsModes s t := ⟨fun _ _ => State.get_of_fld h _⟩

/-- No field with another lowest bit is a mode. -/
theorem of_sameFields {but : List Fld} {s t : State} (h : SameFields but s t) (hb : ∀ g ∈ but, g.lo ≠ 26 ∧ g.lo < 64) : KeepsModes s t :=
  ⟨fun e j => h.get fun g hg => Fld.key_ne_of_bit (Ne.symm (hb g hg).1) (show 26 < 64 by decide) (hb g hg).2⟩

theorem set {s t : State} (h : KeepsModes s t) (g : Fld) (v : Nat) (hg : g.lo ≠ 26 ∧ g.lo < 64) : KeepsModes s (t.set g v) :=
  h.trans (.of_sameFields (.set (.refl [g] t) g v (by simp)) (by simpa using hg))

end KeepsModes

/-! ### A group that is stopped -/

theorem stopGroup_keepsVerso (s : State) (n : Nat) : KeepsVerso s (stopGroup s n) := by
  refine ⟨fun f hf => (stopGroup_sameBut s n).get f ?_ fun g hg => ?_⟩
  · rw [notInk, show f.block = 0x200009 from hf]
    decide
  · have hrange := completedOf_range g hg
    simp only [inVerso, Fld.block] at hf
    simp only [wcBase, penBase, secBase] at hrange
    omega

theorem completedOf_bits (n : Nat) : ∀ g ∈ completedOf n, g.lo ≠ 26 ∧ g.lo < 64 := by
  rw [completedOf, List.forall_mem_append]
  refine ⟨by simp [WC_CNT_FAIL_ABORTED, WC_GATE_GATE_OVF, WC_GATE_ENTRIES, WC_EVENT_GATE_OVF, WC_EVENT_DESC_DONE, WC_EVENT_CUT, WC_EVENT_DESC_ERR,
    WC_EVENT_GATED, WC_EVENT_COL_PASS, WC_EVENT_COL_FAIL, WC_EVENT_CAL_DONE, WC_STATUS_WRITING, WC_STATUS_GROUP_LEFT], fun g hg => ?_⟩
  obtain ⟨k, -, rfl⟩ := List.mem_map.1 hg
  simp [SEC_SLOT_IN_USE]

theorem stopGroup_keepsModes (s : State) (n : Nat) : KeepsModes s (stopGroup s n) := by
  refine ⟨fun e j => (stopGroup_sameBut s n).get _ ?_ fun g hg => ?_⟩
  · simp only [notInk, Fld.block, Fld.key, LE_LOOP_CTRL_MODE_ACT, leBase, penBase]
    split <;> omega
  · obtain ⟨hbit, hlt⟩ := completedOf_bits n g hg
    exact Fld.key_ne_of_bit (Ne.symm hbit) (show 26 < 64 by decide) hlt

/-! ### Loops that go OFF -/

theorem LE_LOOP_CTRL_block {e j : Nat} (hj : j < loopsOf e) :
    (LE_LOOP_CTRL_MODE_ACT e j).block ≠ 0x200009 ∧ (LE_LOOP_CTRL_MODE e j).block ≠ 0x200009 := by
  have hj32 : j < 32 := by
    unfold loopsOf at hj
    split at hj <;> omega
  simp only [Fld.block, Fld.key, LE_LOOP_CTRL_MODE_ACT, LE_LOOP_CTRL_MODE, leBase, penBase]
  split <;> omega

theorem loopOff_keepsVerso (s : State) {e j : Nat} (hj : j < loopsOf e) : KeepsVerso s (loopOff s e j) := by
  obtain ⟨hact, hmode⟩ := LE_LOOP_CTRL_block hj
  exact (((KeepsVerso.refl s).set _ _ hact).set (LE_LOOP_CTRL_MODE e j) _ hmode).trans (.of_fld rfl)

theorem LE_STATUS_FAST_CYCLES_block (e : Nat) : (LE_STATUS_FAST_CYCLES e).block ≠ 0x200009 := by
  simp only [Fld.block, Fld.key, LE_STATUS_FAST_CYCLES, leBase, penBase]
  split <;> omega

theorem allOff_keepsVerso (s : State) (e : Nat) : KeepsVerso s (allOff s e) :=
  (KeepsVerso.frame.each (.refl s) fun s _ hj => loopOff_keepsVerso s (List.mem_range.1 hj)).set _ _ (LE_STATUS_FAST_CYCLES_block e)

/-- Of the modes, a loop that goes OFF sets its own. -/
theorem loopOff_mode (s : State) (e j : Nat) : KeepsModes (s.set (LE_LOOP_CTRL_MODE_ACT e j) mOff) (loopOff s e j) :=
  ((KeepsModes.refl _).set (LE_LOOP_CTRL_MODE e j) _ (by simp [LE_LOOP_CTRL_MODE])).trans (.of_fld rfl)

theorem modeOf_loopOff (s : State) (e j : Nat) : modeOf (loopOff s e j) e j = mOff := by
  rw [(loopOff_mode s e j).mode, modeOf, State.get_set]
  rfl

theorem loopOff_stays {s : State} {e j : Nat} (h : modeOf s e j = mOff) (e' j' : Nat) : modeOf (loopOff s e' j') e j = mOff := by
  rw [(loopOff_mode s e' j').mode]
  exact State.get_set_zero h rfl

theorem refreshFast_keepsModes (s : State) (e : Nat) : KeepsModes s (refreshFast s e) :=
  (KeepsModes.refl s).set (LE_STATUS_FAST_CYCLES e) _ (by simp [LE_STATUS_FAST_CYCLES])

theorem allOff_stays {s : State} {e j : Nat} (h : modeOf s e j = mOff) (e' : Nat) : modeOf (allOff s e') e j = mOff := by
  rw [allOff, (refreshFast_keepsModes _ e').mode]
  exact State.each_inv (P := fun s => modeOf s e j = mOff) h fun _ j' _ h => loopOff_stays h e' j'

theorem modeOf_allOff (s : State) {e j : Nat} (hj : j < loopsOf e) : modeOf (allOff s e) e j = mOff := by
  rw [allOff, (refreshFast_keepsModes _ e).mode]
  exact State.each_establishes (P := fun s => modeOf s e j = mOff) (List.mem_range.2 hj) s (fun _ j' _ h => loopOff_stays h e j')
    fun s => modeOf_loopOff s e j

/-! ### Supervisors that stop -/

/-- The fields that a pen's supervisor presents itself in. -/
def supShown (n : Nat) : List Fld :=
  [SV_STATUS_FOCUS_STATE n, SV_STATUS_F_LOCKED n, SV_STATUS_TRACK_STATE n, SV_STATUS_T_LOCKED n, SV_ACQ_START n, SV_JUMP_START n, SV_TJUMP_START n,
    SV_GAP_GAP n, SV_STATUS_AUX_HOLD n] ++ stoppedOf n

theorem setFocus_sameFields (s : State) (n st : Nat) : SameFields (supShown n) s (setFocus s n st) := by
  refine (SameFields.frame _).iff ?_ fun _ => (abortBurns_sameFields _ n).mono (List.subset_append_right _ _)
  exact ((SameFields.refl _ s).set _ _ (by simp [supShown])).set _ _ (by simp [supShown])

theorem setTrack_sameFields (s : State) (n st : Nat) : SameFields (supShown n) s (setTrack s n st) := by
  refine (SameFields.frame _).iff ?_ fun _ => (abortBurns_sameFields _ n).mono (List.subset_append_right _ _)
  exact ((SameFields.refl _ s).set _ _ (by simp [supShown])).set _ _ (by simp [supShown])

theorem supStop_sameFields (s : State) (n taken : Nat) : SameFields (supShown n) s (supStop s n taken) := by
  have hstates : SameFields (supShown n) s (setTrack (setFocus s n fOff) n tOff) := (setFocus_sameFields s n fOff).trans (setTrack_sameFields _ n tOff)
  have hstarts := ((((hstates.set (SV_ACQ_START n) 0 (by simp [supShown])).set (SV_JUMP_START n) 0 (by simp [supShown])).set (SV_TJUMP_START n) 0
    (by simp [supShown])).set (SV_GAP_GAP n) 0 (by simp [supShown])).set (SV_STATUS_AUX_HOLD n) 0 (by simp [supShown])
  exact hstarts.trans (.of_fld rfl)

theorem supShown_blocks (n : Nat) : ∀ g ∈ supShown n, g.block ≠ 0x200009 := by
  simp only [supShown, stoppedOf, List.cons_append, List.nil_append, List.forall_mem_cons, Fld.block, Fld.key, SV_STATUS_FOCUS_STATE, SV_STATUS_F_LOCKED,
    SV_STATUS_TRACK_STATE, SV_STATUS_T_LOCKED, SV_ACQ_START, SV_JUMP_START, SV_TJUMP_START, SV_GAP_GAP, SV_STATUS_AUX_HOLD, WC_EVENT_ABORT,
    RUL_EVENT_WRITE_ABORT, WC_CNT_FAIL_ABORTED, WC_STATUS_WRITING, WC_STATUS_GROUP_LEFT, svBase, wcBase, rulBase, penBase, List.not_mem_nil]
  simp
  omega

theorem supShown_bits (n : Nat) : ∀ g ∈ supShown n, g.lo ≠ 26 ∧ g.lo < 64 := by
  simp [supShown, stoppedOf, SV_STATUS_FOCUS_STATE, SV_STATUS_F_LOCKED, SV_STATUS_TRACK_STATE, SV_STATUS_T_LOCKED, SV_ACQ_START, SV_JUMP_START,
    SV_TJUMP_START, SV_GAP_GAP, SV_STATUS_AUX_HOLD, WC_EVENT_ABORT, RUL_EVENT_WRITE_ABORT, WC_CNT_FAIL_ABORTED, WC_STATUS_WRITING, WC_STATUS_GROUP_LEFT]

/-- What follows the loops of an engine that go OFF: its supervisor stops. -/
theorem engineStops_after {R : State → State → Prop} (hR : Frame R) (h : ∀ s n taken, R s (supStop s n taken)) (s : State) (e : Nat) :
    R (allOff s e) (engineStops s e) := by
  unfold engineStops
  dsimp only
  split
  · exact hR.iff (hR.refl _) fun _ => h _ e 63
  · exact hR.refl _

theorem engineStops_keepsVerso (s : State) (e : Nat) : KeepsVerso s (engineStops s e) :=
  (allOff_keepsVerso s e).trans
    (engineStops_after KeepsVerso.frame (fun s n taken => .of_sameFields (supStop_sameFields s n taken) (supShown_blocks n)) s e)

theorem engineStops_modes (s : State) (e : Nat) : KeepsModes (allOff s e) (engineStops s e) :=
  engineStops_after KeepsModes.frame (fun s n taken => .of_sameFields (supStop_sameFields s n taken) (supShown_bits n)) s e

/-! ### Descriptors that are cut -/

/-- A descriptor that has completed CUT. -/
def Desc.IsCut (d : Desc) : Prop := d.done = true ∧ d.verdict = some stCut

/-- A descriptor with a queue index has completed CUT. -/
def CutAt (s : State) (n i : Nat) : Prop := ∃ d ∈ (s.writeCh n).group, d.idx = i ∧ d.done = true ∧ d.verdict = some stCut

/-- Groups keep their descriptors, and those that are CUT as they are; the host's commands are as before. -/
structure CutsKept (s t : State) : Prop where
  group : ∀ m, ∃ f : Desc → Desc, (∀ d, (f d).idx = d.idx ∧ (d.IsCut → (f d).IsCut)) ∧ (t.writeCh m).group = (s.writeCh m).group.map f
  hq : t.hq = s.hq

theorem KeepsGroups.cutsKept {s t : State} (h : KeepsGroups s t) : CutsKept s t :=
  ⟨fun m => ⟨id, fun _ => ⟨rfl, id⟩, by rw [h.group, List.map_id]⟩, h.hq⟩

namespace CutsKept

theorem refl (s : State) : CutsKept s s := (KeepsGroups.refl s).cutsKept

theorem trans {s t u : State} (h : CutsKept s t) (k : CutsKept t u) : CutsKept s u := by
  refine ⟨fun m => ?_, k.hq.trans h.hq⟩
  obtain ⟨f, hf, hgroup⟩ := h.group m
  obtain ⟨g, hg, hgroup'⟩ := k.group m
  exact ⟨g ∘ f, fun d => ⟨(hg _).1.trans (hf d).1, fun hd => (hg _).2 ((hf d).2 hd)⟩, by rw [hgroup', hgroup, List.map_map]⟩

theorem frame : Frame CutsKept := ⟨refl, trans⟩

theorem of_wc {s t : State} (h : t.wc = s.wc) (hq : t.hq = s.hq) : CutsKept s t := (KeepsGroups.of_wc h hq).cutsKept

theorem cutAt {s t : State} (h : CutsKept s t) {n i : Nat} (hc : CutAt s n i) : CutAt t n i := by
  obtain ⟨f, hf, hgroup⟩ := h.group n
  obtain ⟨d, hd, hidx, hcut⟩ := hc
  exact ⟨f d, hgroup ▸ List.mem_map_of_mem hd, (hf d).1.trans hidx, (hf d).2 hcut⟩

theorem empty {s t : State} (h : CutsKept s t) {n : Nat} (he : (s.writeCh n).group = []) : (t.writeCh n).group = [] := by
  obtain ⟨f, -, hgroup⟩ := h.group n
  rw [hgroup, he, List.map_nil]

theorem modDesc (s : State) (n i : Nat) {f : Desc → Desc} (hf : ∀ d, (f d).idx = d.idx ∧ (d.IsCut → (f d).IsCut)) : CutsKept s (modDesc s n i f) := by
  refine ⟨fun m => ?_, rfl⟩
  by_cases hm : m = n
  · subst hm
    refine ⟨_, fun d => ?_, group_modDesc s m i f⟩
    split
    · exact hf d
    · exact ⟨rfl, id⟩
  · exact ⟨id, fun _ => ⟨rfl, id⟩, by rw [Machine.modDesc, State.writeCh_modWc_ne _ _ hm, List.map_id]⟩

end CutsKept

/-- Completing a descriptor is, for the groups, a change of that descriptor or none. -/
theorem completeDesc_groups (s : State) (n i : Nat) : KeepsGroups s (completeDesc s n i) ∨ KeepsGroups (modDesc s n i Desc.completed) (completeDesc s n i) := by
  rcases hd : desc? s n i with _ | d
  · exact .inl (by rw [completeDesc_missing hd]; exact .refl s)
  · rcases hv : d.verdict with _ | v
    · exact .inl (by rw [completeDesc_idle hd (.inl hv)]; exact .refl s)
    · rcases hdone : d.done
      · exact .inr (completeDesc_keepsGroups hd hv hdone)
      · exact .inl (by rw [completeDesc_idle hd (.inr hdone)]; exact .refl s)

theorem completeDesc_cutsKept (s : State) (n i : Nat) : CutsKept s (completeDesc s n i) := by
  rcases completeDesc_groups s n i with h | h
  · exact h.cutsKept
  · exact (CutsKept.modDesc s n i (f := Desc.completed) fun d => ⟨rfl, fun hd => ⟨rfl, hd.2⟩⟩).trans h.cutsKept

theorem setVerdict_cutsKept (s : State) (n i v : Nat) : CutsKept s (setVerdict s n i v) :=
  .modDesc s n i fun d => by
    split
    · next hopen => exact ⟨rfl, fun hcut => by simp [hcut.1] at hopen⟩
    · exact ⟨rfl, id⟩

theorem abortBurns_cutsKept (s : State) (n : Nat) : CutsKept s (abortBurns s n) := by
  by_cases hb : burningNibs s n = 0
  · rw [abortBurns_idle hb]
    exact .refl s
  · have hstep : ∀ t d, CutsKept t (abortDesc n t d) := fun t d => by
      unfold abortDesc
      split
      · exact .refl t
      · have hcount : CutsKept t (t.bump (WC_CNT_FAIL_ABORTED n) (popcount 16 d.burning)) := .of_wc rfl rfl
        exact hcount.trans (setVerdict_cutsKept _ n d.idx stAborted)
    have hall : CutsKept s (s.each (s.writeCh n).group (abortDesc n)) := CutsKept.frame.each (.refl s) fun t d _ => hstep t d
    rw [abortBurns_stops hb]
    exact hall.trans (.of_wc rfl rfl)

theorem setFocus_cutsKept (s : State) (n st : Nat) : CutsKept s (setFocus s n st) := by
  unfold setFocus
  dsimp only
  exact CutsKept.frame.iff (.of_wc rfl rfl) fun _ => abortBurns_cutsKept _ n

theorem setTrack_cutsKept (s : State) (n st : Nat) : CutsKept s (setTrack s n st) := by
  unfold setTrack
  dsimp only
  exact CutsKept.frame.iff (.of_wc rfl rfl) fun _ => abortBurns_cutsKept _ n

theorem supStop_cutsKept (s : State) (n taken : Nat) : CutsKept s (supStop s n taken) := by
  have hstates : CutsKept s (setTrack (setFocus s n fOff) n tOff) := (setFocus_cutsKept s n fOff).trans (setTrack_cutsKept _ n tOff)
  unfold supStop
  dsimp only
  generalize setTrack _ n tOff = u at hstates ⊢
  exact hstates.trans (.of_wc rfl rfl)

theorem allOff_keepsGroups (s : State) (e : Nat) : KeepsGroups s (allOff s e) := by
  have hloops : KeepsGroups s (s.each (List.range (loopsOf e)) fun s j => loopOff s e j) := KeepsGroups.frame.each (.refl s) fun _ _ _ => .of_wc rfl rfl
  exact hloops.set (LE_STATUS_FAST_CYCLES e) _

theorem engineStops_cutsKept (s : State) (e : Nat) : CutsKept s (engineStops s e) :=
  (allOff_keepsGroups s e).cutsKept.trans (engineStops_after CutsKept.frame supStop_cutsKept s e)

/-! ### A group that is cut (R128, R151) -/

/-- A descriptor that is not done completes CUT. -/
def cutDesc (n : Nat) (s : State) (d : Desc) : State :=
  if d.done then s
  else completeDesc (modDesc (s.bump (WC_CNT_FAIL_ABORTED n) (popcount 16 d.burning)) n d.idx fun d => d.settled stCut) n d.idx

theorem cutGroup_eq (s : State) (n : Nat) : cutGroup s n = refreshWc (s.each (s.writeCh n).group (cutDesc n)) n := (rfl)

theorem cutDesc_cutsKept (n : Nat) (s : State) (d : Desc) : CutsKept s (cutDesc n s d) := by
  unfold cutDesc
  split
  · exact .refl s
  · have hcount : CutsKept s (s.bump (WC_CNT_FAIL_ABORTED n) (popcount 16 d.burning)) := .of_wc rfl rfl
    exact (hcount.trans (.modDesc _ n d.idx (f := fun e => e.settled stCut) fun e => ⟨rfl, fun he => ⟨he.1, rfl⟩⟩)).trans (completeDesc_cutsKept _ n d.idx)

theorem cutGroup_cutsKept (s : State) (n : Nat) : CutsKept s (cutGroup s n) :=
  (CutsKept.frame.each (.refl s) fun t d _ => cutDesc_cutsKept n t d).trans (KeepsGroups.of_onlyFields (refreshWc_onlyFields _ n)).cutsKept

/-- The burns of a pen are aborted at the pen alone (R271). -/
def abortSent (s : State) (n : Nat) : State := s.iff (burningNibs s n != 0) fun t => sendAbort t n (burningNibs s n)

theorem abortSent_keepsGroups (s : State) (n : Nat) : KeepsGroups s (abortSent s n) := KeepsGroups.frame.iff (.refl s) fun _ => .of_wc rfl rfl

theorem stopGroup_eq (s : State) (n : Nat) : stopGroup s n = cutGroup (abortSent s n) n := (rfl)

theorem stopGroup_cutsKept (s : State) (n : Nat) : CutsKept s (stopGroup s n) := (abortSent_keepsGroups s n).cutsKept.trans (cutGroup_cutsKept _ n)

/-- A descriptor that is changed leaves those found under other indices. -/
theorem desc?_modDesc_ne {s : State} {n i j : Nat} (h : i ≠ j) {f : Desc → Desc} (hf : ∀ d, (f d).idx = d.idx) :
    desc? (modDesc s n j f) n i = desc? s n i := by
  have hidx : ((fun e : Desc => e.idx == i) ∘ fun d => if d.idx = j then f d else d) = fun e => e.idx == i := by
    funext e
    dsimp only [Function.comp]
    split
    · rw [hf]
    · rfl
  rw [desc?, group_modDesc, List.find?_map, hidx, ← desc?]
  rcases hd : desc? s n i with _ | d
  · rfl
  · exact congrArg some (if_neg fun e => h ((desc?_idx hd).symm.trans e))

theorem completeDesc_desc?_ne (s : State) {n i j : Nat} (h : i ≠ j) : desc? (completeDesc s n j) n i = desc? s n i := by
  rcases completeDesc_groups s n j with hg | hg
  · exact desc?_of_group (hg.group n) i
  · exact (desc?_of_group (hg.group n) i).trans (desc?_modDesc_ne h fun _ => rfl)

theorem cutDesc_desc?_ne (n : Nat) (s : State) (d : Desc) {i : Nat} (h : i ≠ d.idx) : desc? (cutDesc n s d) n i = desc? s n i := by
  unfold cutDesc
  split
  · rfl
  · rw [completeDesc_desc?_ne _ h, desc?_modDesc_ne h (f := fun e => e.settled stCut) fun _ => rfl]
    rfl

theorem cutDesc_cuts {n : Nat} {s : State} {d : Desc} (h : desc? s n d.idx = some d) (hd : d.done = false) : CutAt (cutDesc n s d) n d.idx := by
  have hset : desc? (modDesc (s.bump (WC_CNT_FAIL_ABORTED n) (popcount 16 d.burning)) n d.idx fun d => d.settled stCut) n d.idx = some (d.settled stCut) :=
    desc?_modDesc (s := s.bump (WC_CNT_FAIL_ABORTED n) (popcount 16 d.burning)) h fun _ => rfl
  have hgroups := completeDesc_keepsGroups hset (v := stCut) rfl hd
  have hfound : desc? (cutDesc n s d) n d.idx = some (d.settled stCut).completed := by
    rw [cutDesc, if_neg (by rw [hd]; exact Bool.false_ne_true)]
    exact (desc?_of_group (hgroups.group n) _).trans (desc?_modDesc hset (f := Desc.completed) fun _ => rfl)
  exact ⟨_, List.mem_of_find?_eq_some hfound, rfl, rfl, rfl⟩

/-- A loop over two lists is one over each in turn. -/
theorem State.each_append {α : Type} (s : State) (l m : List α) (k : State → α → State) : s.each (l ++ m) k = (s.each l k).each m k := by
  rw [State.each, List.foldl_append]
  rfl

/-- Every descriptor of a group that is not done completes CUT when the group is cut, each with a queue index of its own. -/
theorem cutGroup_cuts {s : State} {n : Nat} (hnd : ((s.writeCh n).group.map fun d => d.idx).Nodup) {d : Desc} (hd : d ∈ (s.writeCh n).group)
    (hopen : d.done = false) : CutAt (cutGroup s n) n d.idx := by
  obtain ⟨l, r, hl⟩ := List.append_of_mem hd
  have hbefore : ∀ e ∈ l, d.idx ≠ e.idx := by
    rw [hl, List.map_append, List.map_cons] at hnd
    exact fun e he heq => (List.nodup_append.1 hnd).2.2 _ (List.mem_map_of_mem he) _ List.mem_cons_self heq.symm
  have hfound : desc? s n d.idx = some d := by
    rw [desc?, hl, List.find?_append, List.find?_eq_none.2 fun e he => by simpa using (hbefore e he).symm]
    simp
  have hreached : desc? (s.each l (cutDesc n)) n d.idx = some d :=
    State.each_inv (P := fun t => desc? t n d.idx = some d) hfound fun t e he h => (cutDesc_desc?_ne n t e (hbefore e he)).trans h
  have hafter := State.each_inv (P := fun t => CutAt t n d.idx) (cutDesc_cuts hreached hopen) (l := r) fun t e _ h => (cutDesc_cutsKept n t e).cutAt h
  rw [cutGroup_eq, hl, State.each_append, State.each_cons]
  exact (KeepsGroups.of_onlyFields (refreshWc_onlyFields _ n)).cutsKept.cutAt hafter

theorem stopGroup_cuts {s : State} {n : Nat} (hnd : ((s.writeCh n).group.map fun d => d.idx).Nodup) {d : Desc} (hd : d ∈ (s.writeCh n).group)
    (hopen : d.done = false) : CutAt (stopGroup s n) n d.idx := by
  have hsent := (abortSent_keepsGroups s n).group n
  exact cutGroup_cuts (hsent.symm ▸ hnd) (hsent.symm ▸ hd) hopen

/-! ### Other pens -/

theorem completeDesc_group_ne (s : State) {n m : Nat} (h : m ≠ n) (i : Nat) : ((completeDesc s n i).writeCh m).group = (s.writeCh m).group := by
  rcases completeDesc_groups s n i with hg | hg
  · exact hg.group m
  · rw [hg.group, modDesc, State.writeCh_modWc_ne _ _ h]

theorem stopGroup_group_ne (s : State) {n m : Nat} (h : m ≠ n) : ((stopGroup s n).writeCh m).group = (s.writeCh m).group := by
  have hstep : ∀ t d, ((cutDesc n t d).writeCh m).group = (t.writeCh m).group := fun t d => by
    unfold cutDesc
    split
    · rfl
    · rw [completeDesc_group_ne _ h, modDesc, State.writeCh_modWc_ne _ _ h]
      rfl
  rw [stopGroup_eq, cutGroup_eq, refreshWc_wc, State.each_keeps (fun t => (t.writeCh m).group) _ _ _ fun t d _ => hstep t d,
    (abortSent_keepsGroups s n).group]

/-! ### Memory -/

/-- A pen without a group stores nothing when it is stopped. -/
theorem stopGroup_memory {s : State} {n : Nat} (h : (s.writeCh n).group = []) : (stopGroup s n).mem = s.mem ∧ (stopGroup s n).poison = s.poison := by
  have hmem : (abortSent s n).mem = s.mem ∧ (abortSent s n).poison = s.poison := State.iff_kept memory_kept ⟨rfl, rfl⟩ fun _ => sendAbort_kept memory_kept
  rw [stopGroup_eq, cutGroup_eq, (abortSent_keepsGroups s n).group, h]
  exact refreshWc_kept memory_kept hmem

end Sys2Proof.Machine

/-!
Claims: the class of an output, and a write of its register (R383, R387, R393, R400, R401).
-/

namespace Sys2Proof.Machine

/-! ### ROLE -/

theorem refreshRole_onlyFields (s : State) : OnlyFields [VRS_STATUS_ROLE] s (refreshRole s) := .set (.refl _ s) _ _ (by simp)

theorem refreshRole_gaveUp {s : State} (h : s.get VRS_DIAG_GAVE_UP = 1) : (refreshRole s).get VRS_STATUS_ROLE = 3 := by
  unfold refreshRole
  dsimp only
  rw [State.get_set, State.on_eq_true h, if_pos rfl]
  rfl

/-- A unit with an active output is active (R382). -/
theorem refreshRole_active {s : State} (h : s.get VRS_DIAG_GAVE_UP ≠ 1) {k : Nat} (hk : k < 40) (hc : s.get (VRS_OUT_CLASS k) = 12) :
    (refreshRole s).get VRS_STATUS_ROLE = 2 := by
  have hany : ((List.range 40).any fun k => s.get (VRS_OUT_CLASS k) == 12) = true := List.any_eq_true.2 ⟨k, List.mem_range.2 hk, beq_iff_eq.2 hc⟩
  have hup : s.on VRS_DIAG_GAVE_UP = false := beq_false_of_ne h
  unfold refreshRole
  dsimp only
  rw [State.get_set, hup, if_neg Bool.false_ne_true, if_pos hany]
  rfl

theorem refreshRole_ne_gaveUp {s : State} (h : s.get VRS_DIAG_GAVE_UP ≠ 1) : (refreshRole s).get VRS_STATUS_ROLE ≠ 3 := by
  have hup : s.on VRS_DIAG_GAVE_UP = false := beq_false_of_ne h
  unfold refreshRole
  dsimp only
  rw [State.get_set, hup, if_neg Bool.false_ne_true]
  split
  · decide
  · split <;> decide

/-! ### The class of an output -/

theorem VRS_OUT_CLASS_inVerso {k : Nat} (hk : k < 40) : inVerso (VRS_OUT_CLASS k) := by
  simp only [inVerso, Fld.block, Fld.key, VRS_OUT_CLASS, vrsBase]
  omega

theorem VRS_OUT_READY_inVerso {k : Nat} (hk : k < 40) : inVerso (VRS_OUT_READY k) := by
  simp only [inVerso, Fld.block, Fld.key, VRS_OUT_READY, vrsBase]
  omega

/-- A field below the registers of the outputs is none of theirs. -/
theorem VRS_ne_output {f g : Fld} {k : Nat} (hg : g.addr = vrsBase + (0x100 + 0x4 * k + 0x0)) (hgl : g.lo < 64) (h : f.addr < vrsBase + 0x100)
    (hl : f.lo < 64) : f.key ≠ g.key := Fld.key_ne_of_addr (by omega) hl hgl

theorem VRS_ne_class {f : Fld} (h : f.addr < vrsBase + 0x100) (hl : f.lo < 64) (k : Nat) : f.key ≠ (VRS_OUT_CLASS k).key :=
  VRS_ne_output (g := VRS_OUT_CLASS k) rfl (show 28 < 64 by decide) h hl

theorem VRS_ne_ready {f : Fld} (h : f.addr < vrsBase + 0x100) (hl : f.lo < 64) (k : Nat) : f.key ≠ (VRS_OUT_READY k).key :=
  VRS_ne_output (g := VRS_OUT_READY k) rfl (show 27 < 64 by decide) h hl

theorem VRS_OUT_ne_role (k : Nat) : (VRS_OUT_CLASS k).key ≠ VRS_STATUS_ROLE.key ∧ (VRS_OUT_READY k).key ≠ VRS_STATUS_ROLE.key :=
  ⟨(VRS_ne_class (by decide) (by decide) k).symm, (VRS_ne_ready (by decide) (by decide) k).symm⟩

theorem VRS_OUT_CLASS_ne {j k : Nat} (h : j ≠ k) : (VRS_OUT_CLASS j).key ≠ (VRS_OUT_CLASS k).key := by
  simp only [Fld.key, VRS_OUT_CLASS]
  omega

/-- An output that a pen of this unit's loses with its class is stopped (R128, R151). -/
def penLost (k : Nat) (s : State) : State := s.iff (decide (k < 16) && claims s k) fun s => stopGroup s k

/-- A class is set, and a pen is told of it (R383). -/
def classSet (k c : Nat) (s : State) : State := (s.set (VRS_OUT_CLASS k) c).iff (decide (k < 16)) (sendClaim k)

theorem setClass_same {s : State} {k c : Nat} (h : s.get (VRS_OUT_CLASS k) = c) : setClass s k c = s := if_pos h

theorem setClass_changes {s : State} {k c : Nat} (h : s.get (VRS_OUT_CLASS k) ≠ c) : setClass s k c = refreshRole (classSet k c (penLost k s)) := if_neg h

theorem classSet_fld (k c : Nat) (s : State) : (classSet k c s).fld = (s.set (VRS_OUT_CLASS k) c).fld := by
  rw [classSet, State.iff]
  split
  · exact sendClaim_fld _ _
  · rfl

theorem classSet_sameFields (k c : Nat) (s : State) : SameFields [VRS_OUT_CLASS k, VRS_STATUS_ROLE] s (classSet k c s) :=
  (SameFields.set (.refl _ s) (VRS_OUT_CLASS k) c (by simp)).trans (.of_fld (classSet_fld k c s))

theorem penLost_keepsVerso (k : Nat) (s : State) : KeepsVerso s (penLost k s) := KeepsVerso.frame.iff (.refl s) fun _ => stopGroup_keepsVerso s k

/-- An output that is no pen, or that the unit does not hold, is lost without more. -/
theorem penLost_idle {k : Nat} {s : State} (h : s.get (VRS_OUT_CLASS k) ≠ 12 ∨ 16 ≤ k) : penLost k s = s := by
  have hoff : (decide (k < 16) && claims s k) = false := by
    rcases h with h | h
    · rw [claims, beq_false_of_ne h, Bool.and_false]
    · rw [decide_eq_false (Nat.not_lt.2 h), Bool.false_and]
  rw [penLost, hoff, State.iff_false]

theorem penLost_held {k : Nat} {s : State} (h : s.get (VRS_OUT_CLASS k) = 12) (hk : k < 16) : penLost k s = stopGroup s k := by
  have hon : claims s k = true := beq_iff_eq.2 h
  rw [penLost, hon, decide_eq_true hk, Bool.and_self, State.iff_true]

/-- Of the fields of the Verso block, setting a class sets that class and ROLE. -/
theorem setClass_get (s : State) (k c : Nat) {f : Fld} (hf : inVerso f) (hc : f.key ≠ (VRS_OUT_CLASS k).key) (hr : f.key ≠ VRS_STATUS_ROLE.key) :
    (setClass s k c).get f = s.get f := by
  by_cases h : s.get (VRS_OUT_CLASS k) = c
  · rw [setClass_same h]
  · rw [setClass_changes h, (refreshRole_onlyFields _).1.get (by simpa using hr), (classSet_sameFields k c _).get (by simpa using ⟨hc, hr⟩),
      (penLost_keepsVerso k s).get f hf]

theorem setClass_class (s : State) {k c : Nat} (hc : c < 16) : (setClass s k c).get (VRS_OUT_CLASS k) = c := by
  by_cases h : s.get (VRS_OUT_CLASS k) = c
  · rw [setClass_same h, h]
  · rw [setClass_changes h, (refreshRole_onlyFields _).1.get (by simpa using (VRS_OUT_ne_role k).1), State.get_of_fld (classSet_fld _ _ _), State.get_set]
    exact Nat.mod_eq_of_lt hc

theorem VRS_OUT_READY_ne_class (j k : Nat) : (VRS_OUT_READY j).key ≠ (VRS_OUT_CLASS k).key :=
  Fld.key_ne_of_bit (by simp [VRS_OUT_READY, VRS_OUT_CLASS]) (by simp [VRS_OUT_READY]) (by simp [VRS_OUT_CLASS])

theorem setClass_class_ne (s : State) {j k : Nat} (c : Nat) (hj : j < 40) (h : j ≠ k) : (setClass s k c).get (VRS_OUT_CLASS j) = s.get (VRS_OUT_CLASS j) :=
  setClass_get s k c (VRS_OUT_CLASS_inVerso hj) (VRS_OUT_CLASS_ne h) (VRS_OUT_ne_role j).1

theorem setClass_ready (s : State) {j : Nat} (k c : Nat) (hj : j < 40) : (setClass s k c).get (VRS_OUT_READY j) = s.get (VRS_OUT_READY j) :=
  setClass_get s k c (VRS_OUT_READY_inVerso hj) (VRS_OUT_READY_ne_class j k) (VRS_OUT_ne_role j).2

/-- The class of an output that the unit does not hold as a pen changes alone, with ROLE. -/
theorem setClass_sameFields {s : State} {k : Nat} (c : Nat) (h : s.get (VRS_OUT_CLASS k) ≠ 12 ∨ 16 ≤ k) :
    SameFields [VRS_OUT_CLASS k, VRS_STATUS_ROLE] s (setClass s k c) := by
  by_cases hc : s.get (VRS_OUT_CLASS k) = c
  · rw [setClass_same hc]
    exact .refl _ s
  · rw [setClass_changes hc, penLost_idle h]
    exact (classSet_sameFields k c s).trans ((refreshRole_onlyFields _).1.mono (by simp))

theorem sendClaim_cutsKept (n : Nat) (s : State) : CutsKept s (sendClaim n s) := by
  unfold sendClaim
  dsimp only
  split
  · exact .of_wc rfl rfl
  · exact .refl s

theorem classSet_cutsKept (k c : Nat) (s : State) : CutsKept s (classSet k c s) :=
  CutsKept.frame.iff (.of_wc rfl rfl) fun _ => sendClaim_cutsKept k _

theorem refreshRole_cutsKept (s : State) : CutsKept s (refreshRole s) := (KeepsGroups.of_onlyFields (refreshRole_onlyFields s)).cutsKept

theorem setClass_cutsKept (s : State) (k c : Nat) : CutsKept s (setClass s k c) := by
  by_cases h : s.get (VRS_OUT_CLASS k) = c
  · rw [setClass_same h]
    exact .refl s
  · rw [setClass_changes h]
    exact (CutsKept.frame.iff (.refl s) fun _ => stopGroup_cutsKept s k).trans ((classSet_cutsKept k c _).trans (refreshRole_cutsKept _))

theorem refreshRole_keepsModes (s : State) : KeepsModes s (refreshRole s) :=
  .of_sameFields (refreshRole_onlyFields s).1 (by simp [VRS_STATUS_ROLE])

theorem setClass_keepsModes (s : State) (k c : Nat) : KeepsModes s (setClass s k c) := by
  by_cases h : s.get (VRS_OUT_CLASS k) = c
  · rw [setClass_same h]
    exact .refl s
  · have hlost : KeepsModes s (penLost k s) := KeepsModes.frame.iff (.refl s) fun _ => stopGroup_keepsModes s k
    rw [setClass_changes h]
    exact (hlost.trans (.of_sameFields (classSet_sameFields k c _) (by simp [VRS_OUT_CLASS, VRS_STATUS_ROLE]))).trans (refreshRole_keepsModes _)

/-- A pen whose class leaves 0xC has its group cut (R128, R151). -/
theorem setClass_cuts {s : State} {n c : Nat} (hn : n < 16) (h : s.get (VRS_OUT_CLASS n) = 12) (hc : c ≠ 12)
    (hnd : ((s.writeCh n).group.map fun d => d.idx).Nodup) {d : Desc} (hd : d ∈ (s.writeCh n).group) (hopen : d.done = false) :
    CutAt (setClass s n c) n d.idx := by
  rw [setClass_changes (h.trans_ne hc.symm), penLost_held h hn]
  exact ((classSet_cutsKept n c _).trans (refreshRole_cutsKept _)).cutAt (stopGroup_cuts hnd hd hopen)

theorem refreshRole_link (s : State) (n : Nat) : (refreshRole s).link n = s.link n := (rfl)

/-- A pen whose class changes to 0xC is told so by a CLAIM packet at once (R383). -/
theorem setClass_claimSent {s : State} {n c : Nat} (hn : n < 16) (h : s.get (VRS_OUT_CLASS n) ≠ c) (h12 : s.get (VRS_OUT_CLASS n) ≠ 12) (hc : c < 16)
    (hup : linkUp s n = true) : (((setClass s n c).link n).claimSent.map fun x => x.2.1) = some (c * 4096 + s.get VRS_NODE_NODE_ID) := by
  have hstate : (LK_STATUS_STATE n).key ≠ (VRS_OUT_CLASS n).key := by
    simp only [Fld.key, LK_STATUS_STATE, VRS_OUT_CLASS, lkBase, penBase, vrsBase]
    omega
  have hnode : VRS_NODE_NODE_ID.key ≠ (VRS_OUT_CLASS n).key := VRS_ne_class (by decide) (by decide) n
  have hup' : linkUp (s.set (VRS_OUT_CLASS n) c) n = true := by rwa [linkUp, State.get_set_ne _ _ hstate]
  have hclass : (s.set (VRS_OUT_CLASS n) c).get (VRS_OUT_CLASS n) = c := (State.get_set ..).trans (Nat.mod_eq_of_lt hc)
  have hsent := congrArg (Option.map Prod.fst) (sendClaim_sent hup')
  rw [hclass, State.get_set_ne _ _ hnode, Option.map_map, Option.map_some] at hsent
  rw [setClass_changes h, penLost_idle (.inl h12), refreshRole_link, classSet, decide_eq_true hn, State.iff_true]
  exact hsent

theorem setClass_active {s : State} {k : Nat} (hk : k < 40) (h : s.get (VRS_OUT_CLASS k) ≠ 12) (hg : s.get VRS_DIAG_GAVE_UP ≠ 1) :
    (setClass s k 12).get VRS_STATUS_ROLE = 2 := by
  have hgave : VRS_DIAG_GAVE_UP.key ≠ (VRS_OUT_CLASS k).key := VRS_ne_class (by decide) (by decide) k
  have hsame := classSet_fld k 12 s
  rw [setClass_changes h, penLost_idle (.inl h)]
  refine refreshRole_active ?_ hk ?_
  · rwa [State.get_of_fld hsame, State.get_set_ne _ _ hgave]
  · rw [State.get_of_fld hsame, State.get_set]
    rfl

/-! ### What raises ANA Change -/

theorem HostOnly.cutsKept {s t : State} (h : HostOnly s t) : CutsKept s t := .of_wc (congrArg State.wc h.eq :) (congrArg State.hq h.eq :)

theorem HostOnly.sameFields {s t : State} (h : HostOnly s t) (but : List Fld) : SameFields but s t := .of_fld h.fld

theorem HostOnly.memory {s t : State} (h : HostOnly s t) : t.mem = s.mem ∧ t.poison = s.poison :=
  ⟨(congrArg State.mem h.eq :), (congrArg State.poison h.eq :)⟩

theorem HostOnly.verso {s t : State} (h : HostOnly s t) : t.verso = s.verso := (congrArg State.verso h.eq :)

theorem HostOnly.link {s t : State} (h : HostOnly s t) (n : Nat) : t.link n = s.link n := (congrArg (fun u : State => u.link n) h.eq :)

/-! ### VRS_OUT_WRITE -/

/-- A class that is asked for does not exist (R387). -/
def classUnknown (c : Nat) : Bool := c != 0 && c != 4 && c != 12

/-- A change of class is refused: after giving up, or a rise to active over another unit in authority (R387, R393). -/
def claimRefused (s : State) (k c : Nat) : Bool := s.on VRS_DIAG_GAVE_UP || (c == 12 && (s.on (VRS_OUT_OTHER_HOLDS k) || s.on VRS_STATUS_NODE_CLASH))

theorem classUnknown_iff {c : Nat} : classUnknown c = true ↔ c ∉ [0, 4, 12] := by simp [classUnknown, and_assoc]

theorem claimRefused_iff {s : State} {k c : Nat} : claimRefused s k c = true ↔ s.get VRS_DIAG_GAVE_UP = 1 ∨ (c = 12
    ∧ (s.get (VRS_OUT_OTHER_HOLDS k) = 1 ∨ s.get VRS_STATUS_NODE_CLASH = 1)) := by simp [claimRefused, State.on]

/-- Short of a rise to active, only a unit that has given up is refused a change. -/
theorem not_claimRefused_of_ne {s : State} {k c : Nat} (hg : s.get VRS_DIAG_GAVE_UP ≠ 1) (hc : c ≠ 12) : ¬ claimRefused s k c = true := fun h =>
  (claimRefused_iff.1 h).elim hg fun h12 => hc h12.1

theorem not_claimRefused_of_free {s : State} {k : Nat} (hg : s.get VRS_DIAG_GAVE_UP ≠ 1) (ho : s.get (VRS_OUT_OTHER_HOLDS k) ≠ 1)
    (hn : s.get VRS_STATUS_NODE_CLASH ≠ 1) (c : Nat) : ¬ claimRefused s k c = true := fun h =>
  (claimRefused_iff.1 h).elim hg fun h12 => h12.2.elim ho hn

/-- A refusal is recorded. -/
def refusalNoted (unknown refused : Bool) (s : State) : State :=
  (s.iff unknown fun s => s.ev VRS_EVENT_CFG_REFUSED).iff refused fun s => s.ev VRS_EVENT_CLAIM_REFUSED

theorem refusalNoted_onlyFields (unknown refused : Bool) (s : State) :
    OnlyFields [VRS_EVENT_CFG_REFUSED, VRS_EVENT_CLAIM_REFUSED] s (refusalNoted unknown refused s) :=
  (OnlyFields.frame _).iff ((OnlyFields.frame _).iff (.refl _ s) fun _ => .set (.refl _ s) _ 1 (by simp)) fun _ => .set (.refl _ _) _ 1 (by simp)

theorem refusalNoted_none (s : State) : refusalNoted false false s = s := (rfl)

theorem refusalNoted_unknown (refused : Bool) (s : State) : (refusalNoted true refused s).get VRS_EVENT_CFG_REFUSED = 1 :=
  (State.get_iff_of _ _ _ (State.get_ev_ne _ (by decide))).trans (s.get_ev _ one_pos)

theorem refusalNoted_refused (unknown : Bool) (s : State) : (refusalNoted unknown true s).get VRS_EVENT_CLAIM_REFUSED = 1 := State.get_ev _ _ one_pos

section
variable {k v : Nat} {s : State} (hv : v < 2 ^ 32)
include hv

theorem class_of_word : v / 2 ^ 28 % 16 = v / 2 ^ 28 := by omega

theorem vrsOutWrite_ready (h : v / 2 ^ 28 = s.get (VRS_OUT_CLASS k)) : vrsOutWrite k v s = s.set (VRS_OUT_READY k) (v / 2 ^ 27 % 2) := by
  unfold vrsOutWrite
  dsimp only
  rw [class_of_word hv, if_pos h]

theorem vrsOutWrite_changes (h : v / 2 ^ 28 ≠ s.get (VRS_OUT_CLASS k)) : vrsOutWrite k v s =
    if classUnknown (v / 2 ^ 28) || claimRefused s k (v / 2 ^ 28) then refusalNoted (classUnknown (v / 2 ^ 28)) (claimRefused s k (v / 2 ^ 28)) s
    else withAna (refusalNoted (classUnknown (v / 2 ^ 28)) (claimRefused s k (v / 2 ^ 28)) s)
      fun s => setClass (s.set (VRS_OUT_READY k) (v / 2 ^ 27 % 2)) k (v / 2 ^ 28) := by
  unfold vrsOutWrite
  dsimp only
  rw [class_of_word hv, if_neg h]
  rfl

/-- A class that does not exist is refused whole (R387). -/
theorem vrsOutWrite_unknown (h : v / 2 ^ 28 ≠ s.get (VRS_OUT_CLASS k)) (hc : v / 2 ^ 28 ∉ [0, 4, 12]) :
    (vrsOutWrite k v s).get VRS_EVENT_CFG_REFUSED = 1 ∧ OnlyFields [VRS_EVENT_CFG_REFUSED, VRS_EVENT_CLAIM_REFUSED] s (vrsOutWrite k v s) := by
  rw [vrsOutWrite_changes hv h, classUnknown_iff.2 hc, Bool.true_or, if_pos rfl]
  exact ⟨refusalNoted_unknown _ s, refusalNoted_onlyFields _ _ s⟩

/-- A claim that may not be taken is refused whole (R387, R393). -/
theorem vrsOutWrite_refused (h : v / 2 ^ 28 ≠ s.get (VRS_OUT_CLASS k)) (hc : claimRefused s k (v / 2 ^ 28) = true) :
    (vrsOutWrite k v s).get VRS_EVENT_CLAIM_REFUSED = 1 ∧ OnlyFields [VRS_EVENT_CFG_REFUSED, VRS_EVENT_CLAIM_REFUSED] s (vrsOutWrite k v s) := by
  rw [vrsOutWrite_changes hv h, hc, Bool.or_true, if_pos rfl]
  exact ⟨refusalNoted_refused _ s, refusalNoted_onlyFields _ _ s⟩

theorem vrsOutWrite_taken (h : v / 2 ^ 28 ≠ s.get (VRS_OUT_CLASS k)) (hc : v / 2 ^ 28 ∈ [0, 4, 12]) (hr : ¬ claimRefused s k (v / 2 ^ 28) = true) :
    HostOnly (setClass (s.set (VRS_OUT_READY k) (v / 2 ^ 27 % 2)) k (v / 2 ^ 28)) (vrsOutWrite k v s) := by
  have hknown : classUnknown (v / 2 ^ 28) = false := Bool.eq_false_iff.2 fun hu => classUnknown_iff.1 hu hc
  rw [vrsOutWrite_changes hv h, hknown, Bool.eq_false_iff.2 hr, Bool.or_self, if_neg Bool.false_ne_true, refusalNoted_none]
  exact withAna_hostOnly s fun s => setClass (s.set (VRS_OUT_READY k) (v / 2 ^ 27 % 2)) k (v / 2 ^ 28)

end

/-- An output is as a write of its register leaves it once its class is taken. -/
theorem readySet_sameFields (s : State) (k r : Nat) :
    SameFields [VRS_OUT_CLASS k, VRS_OUT_READY k, VRS_STATUS_ROLE] s (s.set (VRS_OUT_READY k) r) := .set (.refl _ s) _ _ (by simp)

theorem readySet_class (s : State) (k r j : Nat) : (s.set (VRS_OUT_READY k) r).get (VRS_OUT_CLASS j) = s.get (VRS_OUT_CLASS j) :=
  State.get_set_ne _ _ (VRS_OUT_READY_ne_class k j).symm

section
variable {k v : Nat} {s : State} (hv : v < 2 ^ 32) (h : v / 2 ^ 28 ≠ s.get (VRS_OUT_CLASS k)) (hc : v / 2 ^ 28 ∈ [0, 4, 12])
  (hr : ¬ claimRefused s k (v / 2 ^ 28) = true)
include hv h hc hr

theorem vrsOutWrite_class : (vrsOutWrite k v s).get (VRS_OUT_CLASS k) = v / 2 ^ 28 := by
  rw [(vrsOutWrite_taken hv h hc hr).get, setClass_class _ (by omega)]

theorem vrsOutWrite_readyTaken (hk : k < 40) : (vrsOutWrite k v s).get (VRS_OUT_READY k) = v / 2 ^ 27 % 2 := by
  rw [(vrsOutWrite_taken hv h hc hr).get, setClass_ready _ _ _ hk, State.get_set]
  exact Nat.mod_eq_of_lt (Nat.mod_lt _ two_pos)

theorem vrsOutWrite_sameFields (hquiet : s.get (VRS_OUT_CLASS k) ≠ 12 ∨ 16 ≤ k) :
    SameFields [VRS_OUT_CLASS k, VRS_OUT_READY k, VRS_STATUS_ROLE] s (vrsOutWrite k v s) := by
  have hset : SameFields [VRS_OUT_CLASS k, VRS_STATUS_ROLE] _ _ :=
    setClass_sameFields (s := s.set (VRS_OUT_READY k) (v / 2 ^ 27 % 2)) (v / 2 ^ 28) ((readySet_class s k _ k).symm ▸ hquiet)
  exact ((readySet_sameFields s k _).trans (hset.mono (by simp))).trans ((vrsOutWrite_taken hv h hc hr).sameFields _)

theorem vrsOutWrite_cuts (hn : k < 16) (hheld : s.get (VRS_OUT_CLASS k) = 12) (hnd : ((s.writeCh k).group.map fun d => d.idx).Nodup) {d : Desc}
    (hd : d ∈ (s.writeCh k).group) (hopen : d.done = false) : CutAt (vrsOutWrite k v s) k d.idx :=
  (vrsOutWrite_taken hv h hc hr).cutsKept.cutAt
    (setClass_cuts (s := s.set (VRS_OUT_READY k) _) hn ((readySet_class s k _ k).trans hheld) (fun e => h (e.trans hheld.symm)) hnd hd hopen)

end

/-- A rise to active: the unit is active, and a pen is told (R382, R383). -/
theorem vrsOutWrite_active {k v : Nat} {s : State} (hv : v < 2 ^ 32) (hk : k < 40) (h : v / 2 ^ 28 ≠ s.get (VRS_OUT_CLASS k)) (hc : v / 2 ^ 28 = 12)
    (hr : ¬ claimRefused s k 12 = true) : (vrsOutWrite k v s).get VRS_STATUS_ROLE = 2
      ∧ (k < 16 → linkUp s k = true → (((vrsOutWrite k v s).link k).claimSent.map fun x => x.2.1) = some (12 * 4096 + s.get VRS_NODE_NODE_ID)) := by
  have htaken := vrsOutWrite_taken hv h (by rw [hc]; decide) (hc ▸ hr)
  have hclass : (s.set (VRS_OUT_READY k) (v / 2 ^ 27 % 2)).get (VRS_OUT_CLASS k) ≠ 12 := fun e => h (hc.trans ((readySet_class s k _ k).symm.trans e).symm)
  have hgave : VRS_DIAG_GAVE_UP.key ≠ (VRS_OUT_READY k).key := VRS_ne_ready (by decide) (by decide) k
  have hnode : VRS_NODE_NODE_ID.key ≠ (VRS_OUT_READY k).key := VRS_ne_ready (by decide) (by decide) k
  rw [hc] at htaken
  refine ⟨?_, fun hn hup => ?_⟩
  · rw [htaken.get]
    refine setClass_active hk hclass fun hg => hr (claimRefused_iff.2 (.inl ?_))
    rwa [State.get_set_ne _ _ hgave] at hg
  · have hstate : (LK_STATUS_STATE k).key ≠ (VRS_OUT_READY k).key := by
      simp only [Fld.key, LK_STATUS_STATE, VRS_OUT_READY, lkBase, penBase, vrsBase]
      omega
    have hup' : linkUp (s.set (VRS_OUT_READY k) (v / 2 ^ 27 % 2)) k = true := by rwa [linkUp, State.get_set_ne _ _ hstate]
    rw [htaken.link, setClass_claimSent hn hclass hclass (by decide) hup', State.get_set_ne _ _ hnode]

end Sys2Proof.Machine

/-!
Giving up (R393, R400).
-/

namespace Sys2Proof.Machine

/-! ### The commands of the host that are dropped -/

theorem refreshStall_keepsVerso (s : State) : KeepsVerso s (refreshStall s) := by
  have hblock : ∀ g ∈ [HQ_ADMIT_HELD, HQ_CNT_STALL_LOCK, HQ_CNT_STALL_QUIRE, HQ_EVENT_STALL, HQ_ADMIT_STALL], g.block ≠ 0x200009 := by decide
  have hcount : ∀ (t : State) (c : Bool), ∀ g ∈ [HQ_CNT_STALL_LOCK, HQ_CNT_STALL_QUIRE],
      KeepsVerso t (t.iff c fun s => (s.bump g 1).ev HQ_EVENT_STALL) := fun t c g hg =>
    KeepsVerso.frame.iff (.refl t) fun _ => ((KeepsVerso.refl t).set g _ (hblock g (by simp at hg ⊢; tauto))).set HQ_EVENT_STALL 1 (hblock _ (by simp))
  unfold refreshStall
  dsimp only
  refine KeepsVerso.frame.iff (.set (.trans (.trans (.set (.refl s) _ _ (hblock _ (by simp))) (hcount _ _ _ (by simp))) (hcount _ _ _ (by simp))) _ _
    (hblock _ (by simp))) fun _ => .of_fld rfl

/-- What shows the range locks and the stalls reaches neither groups nor the commands themselves. -/
theorem refreshStall_hidden (s : State) : (refreshStall s).wc = s.wc ∧ (refreshStall s).hq.cmds = s.hq.cmds := by
  have hR : Frame fun s t : State => t.wc = s.wc ∧ t.hq.cmds = s.hq.cmds :=
    ⟨fun _ => ⟨rfl, rfl⟩, fun h k => ⟨k.1.trans h.1, k.2.trans h.2⟩⟩
  unfold refreshStall
  dsimp only
  refine hR.iff (s := s) ?_ fun _ => ⟨rfl, rfl⟩
  exact hR.iff (hR.iff ⟨rfl, rfl⟩ fun _ => ⟨rfl, rfl⟩) fun _ => ⟨rfl, rfl⟩

theorem dropCmds_keepsVerso (s : State) (p : Admitted → Bool) : KeepsVerso s (dropCmds s p) :=
  (KeepsVerso.of_fld (s := s) (t := s.modHq fun h => { h with cmds := h.cmds.filter fun e => !p e.2 }) rfl).trans (refreshStall_keepsVerso _)

theorem dropCmds_wc (s : State) (p : Admitted → Bool) : (dropCmds s p).wc = s.wc := (refreshStall_hidden _).1

theorem dropCmds_cmds (s : State) (p : Admitted → Bool) : (dropCmds s p).hq.cmds = s.hq.cmds.filter fun e => !p e.2 := (refreshStall_hidden _).2

/-! ### The stages of relinquishing (R393) -/

/-- The pens of the unit are stopped. -/
def pensStopped (s : State) : State := s.each (List.range 16) fun s n => s.iff (claims s n || burningNibs s n != 0) fun s => stopGroup s n

/-- The loops of the unit go OFF. -/
def loopsStopped (s : State) : State := s.each (List.range 17) engineStops

/-- Every output is relinquished. -/
def classesCleared (s : State) : State := s.each (List.range 40) fun s k => setClass s k 0

/-- All that relinquishing does before the partner is told. -/
def allStopped (s : State) : State := classesCleared (loopsStopped (pensStopped (dropCmds s fun c => c.sq != 0)))

theorem relinquish_eq (s : State) : relinquish s = refreshRole (sendVerso (allStopped s) (.giveUp ((allStopped s).get VRS_DIAG_CAUSE))) := (rfl)

theorem penStops_keepsVerso (s : State) (n : Nat) (c : Bool) : KeepsVerso s (s.iff c fun s => stopGroup s n) :=
  KeepsVerso.frame.iff (.refl s) fun _ => stopGroup_keepsVerso s n

theorem pensStopped_keepsVerso (s : State) : KeepsVerso s (pensStopped s) := KeepsVerso.frame.each (.refl s) fun s n _ => penStops_keepsVerso s n _

theorem loopsStopped_keepsVerso (s : State) : KeepsVerso s (loopsStopped s) := KeepsVerso.frame.each (.refl s) fun s e _ => engineStops_keepsVerso s e

theorem penStops_cutsKept (s : State) (n : Nat) (c : Bool) : CutsKept s (s.iff c fun s => stopGroup s n) :=
  CutsKept.frame.iff (.refl s) fun _ => stopGroup_cutsKept s n

theorem pensStopped_cutsKept (s : State) : CutsKept s (pensStopped s) := CutsKept.frame.each (.refl s) fun s n _ => penStops_cutsKept s n _

theorem loopsStopped_cutsKept (s : State) : CutsKept s (loopsStopped s) := CutsKept.frame.each (.refl s) fun s e _ => engineStops_cutsKept s e

theorem classesCleared_cutsKept (s : State) : CutsKept s (classesCleared s) := CutsKept.frame.each (.refl s) fun s k _ => setClass_cutsKept s k 0

theorem sendVerso_cutsKept (s : State) (m : VersoMsg) : CutsKept s (sendVerso s m) := CutsKept.frame.iff (.refl s) fun _ => .of_wc rfl rfl

theorem sendVerso_fld (s : State) (m : VersoMsg) : (sendVerso s m).fld = s.fld := by
  unfold sendVerso State.iff
  split <;> rfl

/-- A pen that the unit holds is stopped, with its group as it was, among the other pens (R128, R393). -/
theorem pensStopped_cuts {s : State} {n : Nat} (hn : n < 16) (h : s.get (VRS_OUT_CLASS n) = 12) (hnd : ((s.writeCh n).group.map fun d => d.idx).Nodup)
    {d : Desc} (hd : d ∈ (s.writeCh n).group) (hopen : d.done = false) : CutAt (pensStopped s) n d.idx := by
  obtain ⟨l, r, hl⟩ := List.append_of_mem (List.mem_range.2 hn)
  have hbefore : ∀ m ∈ l, n ≠ m := by
    have hnodup := hl ▸ List.nodup_range (n := 16)
    exact fun m hm heq => (List.nodup_append.1 hnodup).2.2 _ hm _ List.mem_cons_self heq.symm
  have hreached := State.each_inv (P := fun t => (t.writeCh n).group = (s.writeCh n).group ∧ t.get (VRS_OUT_CLASS n) = 12) ⟨rfl, h⟩ (l := l)
    (k := fun s n => s.iff (claims s n || burningNibs s n != 0) fun s => stopGroup s n) fun t m hm ⟨hgroup, hclass⟩ => by
      refine ⟨?_, ((penStops_keepsVerso t m _).get _ (VRS_OUT_CLASS_inVerso (by omega))).trans hclass⟩
      unfold State.iff
      split
      · exact (stopGroup_group_ne t (hbefore m hm)).trans hgroup
      · exact hgroup
  obtain ⟨hgroup, hclass⟩ := hreached
  rw [pensStopped, hl, State.each_append, State.each_cons]
  refine (CutsKept.frame.each (.refl _) fun t m _ => penStops_cutsKept t m _).cutAt ?_
  rw [show claims _ n = true from beq_iff_eq.2 hclass, Bool.true_or, State.iff_true]
  exact stopGroup_cuts (hgroup.symm ▸ hnd) (hgroup.symm ▸ hd) hopen

theorem loopsStopped_modes (s : State) {e j : Nat} (he : e < 17) (hj : j < loopsOf e) : modeOf (loopsStopped s) e j = mOff := by
  refine State.each_establishes (P := fun s => modeOf s e j = mOff) (List.mem_range.2 he) s (fun t e' _ h => ?_) fun t => ?_
  · rw [(engineStops_modes t e').mode]
    exact allOff_stays h e'
  · rw [(engineStops_modes t e).mode]
    exact modeOf_allOff t hj

theorem classesCleared_keepsModes (s : State) : KeepsModes s (classesCleared s) := KeepsModes.frame.each (.refl s) fun s k _ => setClass_keepsModes s k 0

theorem classesCleared_class (s : State) {k : Nat} (hk : k < 40) : (classesCleared s).get (VRS_OUT_CLASS k) = 0 := by
  refine State.each_establishes (P := fun s => s.get (VRS_OUT_CLASS k) = 0) (List.mem_range.2 hk) s (fun t j _ h => ?_) fun t => ?_
  · by_cases hj : k = j
    · rw [hj, setClass_class _ (by decide)]
    · rw [setClass_class_ne t 0 hk hj, h]
  · exact setClass_class t (by decide)

theorem allStopped_get (s : State) {f : Fld} (hf : inVerso f) (hc : ∀ k, f.key ≠ (VRS_OUT_CLASS k).key) (hr : f.key ≠ VRS_STATUS_ROLE.key) :
    (allStopped s).get f = s.get f := by
  have hstopped := ((dropCmds_keepsVerso s fun c => c.sq != 0).trans (pensStopped_keepsVerso _)).trans (loopsStopped_keepsVerso _)
  rw [allStopped, classesCleared, State.get_each_of _ _ _ fun t k _ => setClass_get t k 0 hf (hc k) hr, hstopped.get f hf]

theorem allStopped_cmds (s : State) : ∀ e ∈ (allStopped s).hq.cmds, e.2.sq = 0 := by
  have hkept := ((pensStopped_cutsKept (dropCmds s fun c => c.sq != 0)).trans (loopsStopped_cutsKept _)).trans (classesCleared_cutsKept _)
  intro e he
  rw [allStopped, hkept.hq, dropCmds_cmds] at he
  simpa using (List.mem_filter.1 he).2

theorem allStopped_cuts {s : State} {n : Nat} (hn : n < 16) (h : s.get (VRS_OUT_CLASS n) = 12) (hnd : ((s.writeCh n).group.map fun d => d.idx).Nodup)
    {d : Desc} (hd : d ∈ (s.writeCh n).group) (hopen : d.done = false) : CutAt (allStopped s) n d.idx := by
  have hwc : (dropCmds s fun c => c.sq != 0).writeCh n = s.writeCh n := congrArg (fun w : Store Wc => w.getD n {}) (dropCmds_wc s _)
  have hclass := ((dropCmds_keepsVerso s fun c => c.sq != 0).get _ (VRS_OUT_CLASS_inVerso (by omega))).trans h
  exact ((loopsStopped_cutsKept _).trans (classesCleared_cutsKept _)).cutAt (pensStopped_cuts hn hclass (hwc.symm ▸ hnd) (hwc.symm ▸ hd) hopen)

/-! ### Memory while nothing is to be cut -/

/-- No pen has a group, and the Inkwell is as before. -/
structure NothingStored (s t : State) : Prop where
  groups : ∀ n < 16, (t.writeCh n).group = []
  memory : t.mem = s.mem ∧ t.poison = s.poison

theorem NothingStored.step {s t u : State} (h : NothingStored s t) (hc : CutsKept t u) (hm : u.mem = t.mem ∧ u.poison = t.poison) : NothingStored s u :=
  ⟨fun n hn => hc.empty (h.groups n hn), hm.1.trans h.memory.1, hm.2.trans h.memory.2⟩

theorem NothingStored.stopGroup {s t : State} (h : NothingStored s t) {n : Nat} (hn : n < 16) : NothingStored s (stopGroup t n) :=
  h.step (stopGroup_cutsKept t n) (stopGroup_memory (h.groups n hn))

theorem classSet_memory (k c : Nat) (s : State) : (classSet k c s).mem = s.mem ∧ (classSet k c s).poison = s.poison :=
  State.iff_kept memory_kept ⟨rfl, rfl⟩ fun _ => sendClaim_kept memory_kept

theorem NothingStored.setClass {s t : State} (h : NothingStored s t) (k c : Nat) : NothingStored s (setClass t k c) := by
  by_cases hc : t.get (VRS_OUT_CLASS k) = c
  · rw [setClass_same hc]
    exact h
  · have hlost : NothingStored s (penLost k t) := by
      by_cases hk : k < 16
      · unfold penLost State.iff
        split
        · exact h.stopGroup hk
        · exact h
      · rw [penLost_idle (.inr (Nat.le_of_not_lt hk))]
        exact h
    rw [setClass_changes hc]
    exact (hlost.step (classSet_cutsKept k c _) (classSet_memory k c _)).step (refreshRole_cutsKept _) ⟨rfl, rfl⟩

theorem NothingStored.allStopped {s t : State} (h : NothingStored s t) : NothingStored s (allStopped t) := by
  have hdropped : NothingStored s (dropCmds t fun c => c.sq != 0) :=
    ⟨fun n hn => by rw [State.writeCh, dropCmds_wc]; exact h.groups n hn, dropCmds_kept memory_kept h.memory⟩
  have hpens : NothingStored s (pensStopped (dropCmds t fun c => c.sq != 0)) := State.each_inv hdropped fun u n hn hu => by
    unfold State.iff
    split
    · exact hu.stopGroup (List.mem_range.1 hn)
    · exact hu
  have hloops : NothingStored s (loopsStopped _) := State.each_inv hpens fun u e _ hu =>
    hu.step (engineStops_cutsKept u e) (engineStops_kept memory_kept ⟨rfl, rfl⟩)
  exact State.each_inv hloops fun u k _ hu => hu.setClass k 0

/-! ### GIVE_UP -/

/-- Giving up is recorded (R393). -/
def gaveUpNoted (s : State) : State := (s.set VRS_DIAG_GAVE_UP 1).ev VRS_EVENT_GAVE_UP

theorem giveUp_hostOnly (s : State) : HostOnly (relinquish (gaveUpNoted s)) (giveUp s) :=
  withAna_hostOnly s fun s => relinquish (gaveUpNoted s)

theorem relinquish_get (s : State) {f : Fld} (hf : f.key ≠ VRS_STATUS_ROLE.key) : (relinquish s).get f = (allStopped s).get f := by
  rw [relinquish_eq, (refreshRole_onlyFields _).1.get (by simpa using hf), State.get_of_fld (sendVerso_fld _ _)]

/-- A field of the Verso block that is neither a class nor ROLE reads, once the unit has given up, as when that was recorded. -/
theorem giveUp_get (s : State) {f : Fld} (hf : inVerso f) (hc : ∀ k, f.key ≠ (VRS_OUT_CLASS k).key) (hr : f.key ≠ VRS_STATUS_ROLE.key) :
    (giveUp s).get f = (gaveUpNoted s).get f := by
  rw [(giveUp_hostOnly s).get, relinquish_get _ hr, allStopped_get _ hf hc hr]

theorem gaveUpNoted_gaveUp (s : State) : (gaveUpNoted s).get VRS_DIAG_GAVE_UP = 1 := by
  rw [gaveUpNoted, State.get_ev_ne _ (by decide), State.get_set]
  rfl

theorem giveUp_gaveUp (s : State) : (giveUp s).get VRS_DIAG_GAVE_UP = 1 := by
  rw [giveUp_get s (f := VRS_DIAG_GAVE_UP) rfl (VRS_ne_class (by decide) (by decide)) (by decide), gaveUpNoted_gaveUp]

theorem giveUp_event (s : State) : (giveUp s).get VRS_EVENT_GAVE_UP = 1 := by
  rw [giveUp_get s (f := VRS_EVENT_GAVE_UP) rfl (VRS_ne_class (by decide) (by decide)) (by decide)]
  exact State.get_ev _ _ one_pos

theorem giveUp_role (s : State) : (giveUp s).get VRS_STATUS_ROLE = 3 := by
  rw [(giveUp_hostOnly s).get, relinquish_eq]
  refine refreshRole_gaveUp ?_
  rw [State.get_of_fld (sendVerso_fld _ _), allStopped_get _ (f := VRS_DIAG_GAVE_UP) rfl (VRS_ne_class (by decide) (by decide)) (by decide),
    gaveUpNoted_gaveUp]

theorem giveUp_class (s : State) {k : Nat} (hk : k < 40) : (giveUp s).get (VRS_OUT_CLASS k) = 0 := by
  rw [(giveUp_hostOnly s).get, relinquish_get _ (VRS_OUT_ne_role k).1]
  exact classesCleared_class _ hk

theorem relinquish_keepsModes (s : State) : KeepsModes (allStopped s) (relinquish s) := by
  have hsent : KeepsModes (allStopped s) (sendVerso (allStopped s) (.giveUp ((allStopped s).get VRS_DIAG_CAUSE))) := .of_fld (sendVerso_fld _ _)
  exact hsent.trans (refreshRole_keepsModes _)

theorem giveUp_modes (s : State) {e j : Nat} (he : e < 17) (hj : j < loopsOf e) : (giveUp s).get (LE_LOOP_CTRL_MODE_ACT e j) = mOff := by
  rw [(giveUp_hostOnly s).get, ← modeOf, (relinquish_keepsModes _).mode, allStopped, (classesCleared_keepsModes _).mode]
  exact loopsStopped_modes _ he hj

theorem relinquish_cutsKept (s : State) : CutsKept (allStopped s) (relinquish s) := (sendVerso_cutsKept _ _).trans (refreshRole_cutsKept _)

theorem giveUp_cmds (s : State) : ∀ e ∈ (giveUp s).hq.cmds, e.2.sq = 0 := by
  rw [(giveUp_hostOnly s).cutsKept.hq, (relinquish_cutsKept _).hq]
  exact allStopped_cmds _

theorem giveUp_cuts {s : State} {n : Nat} (hn : n < 16) (h : s.get (VRS_OUT_CLASS n) = 12) (hnd : ((s.writeCh n).group.map fun d => d.idx).Nodup)
    {d : Desc} (hd : d ∈ (s.writeCh n).group) (hopen : d.done = false) : CutAt (giveUp s) n d.idx := by
  have hnoted : (gaveUpNoted s).get (VRS_OUT_CLASS n) = 12 := by
    rw [gaveUpNoted, State.get_ev_ne _ (VRS_ne_class (by decide) (by decide) n).symm, State.get_set_ne _ _ (VRS_ne_class (by decide) (by decide) n).symm, h]
  exact ((relinquish_cutsKept _).trans (giveUp_hostOnly s).cutsKept).cutAt (allStopped_cuts hn hnoted hnd hd hopen)

theorem giveUp_sameMemory {s : State} (h : ∀ n < 16, (s.writeCh n).group = []) : SameMemory s (giveUp s) := by
  have hnoted : NothingStored s (gaveUpNoted s) := ⟨h, rfl, rfl⟩
  have hgone : (relinquish (gaveUpNoted s)).mem = s.mem ∧ (relinquish (gaveUpNoted s)).poison = s.poison :=
    refreshRole_kept memory_kept (sendVerso_kept memory_kept hnoted.allStopped.memory)
  obtain ⟨hmem, hpoison⟩ := (giveUp_hostOnly s).memory
  exact .of_mem (hmem.trans hgone.1) (hpoison.trans hgone.2)

theorem sendVerso_sent {s : State} (h : versoUp s = true) (m : VersoMsg) : (sendVerso s m).verso.sent.getLast?.map Prod.fst = some m := by
  rw [sendVerso, h, State.iff_true]
  simp [State.modVerso]

/-- The partner is told, with the causes (R393). -/
theorem giveUp_sent {s : State} (h : versoUp s = true) : (giveUp s).verso.sent.getLast?.map Prod.fst = some (.giveUp (s.get VRS_DIAG_CAUSE)) := by
  have hkept : ∀ f, inVerso f → f.addr < vrsBase + 0x100 → f.lo < 64 → f.key ≠ VRS_STATUS_ROLE.key → f.key ≠ VRS_DIAG_GAVE_UP.key →
      f.key ≠ VRS_EVENT_GAVE_UP.key → (allStopped (gaveUpNoted s)).get f = s.get f := fun f hf ha hl hr hg he => by
    rw [allStopped_get _ hf (VRS_ne_class ha hl) hr, gaveUpNoted, State.get_ev_ne _ he, State.get_set_ne _ _ hg]
  have hup : versoUp (allStopped (gaveUpNoted s)) = true := by
    rwa [versoUp, hkept VRS_STATUS_LINK rfl (by decide) (by decide) (by decide) (by decide) (by decide)]
  have hrole : ∀ t, (refreshRole t).verso = t.verso := fun _ => rfl
  rw [(giveUp_hostOnly s).verso, relinquish_eq, hrole, sendVerso_sent hup, hkept VRS_DIAG_CAUSE rfl (by decide) (by decide) (by decide) (by decide) (by decide)]

end Sys2Proof.Machine

/-!
Takeover, a stale standby output, the end of giving up, the node ID and DEGRADED (R393, R394, R395, R396, R397, R399, R402).
-/

namespace Sys2Proof.Machine

/-! ### TAKEOVER -/

/-- Whether a standby unit takes over, on the partner's GIVE_UP or not (R394). -/
def takesOver (g : Bool) (s : State) : Bool :=
  (s.on VRS_CTRL_AUTO_TAKE && !(outputs.any fun k => s.get (VRS_OUT_CLASS k) == 12) && outputs.any fun k => s.get (VRS_OUT_CLASS k) == 4)
    && (g || (!versoUp s && outputs.all fun k => s.get (VRS_OUT_CLASS k) != 4 || !s.on (VRS_OUT_OTHER_HOLDS k)))

/-- The partner's GIVE_UP is recorded. -/
def partnerNoted (g : Bool) (s : State) : State := s.iff g fun s => s.ev VRS_EVENT_PARTNER_GAVE_UP

theorem takeover_eq (g : Bool) (s : State) :
    takeover g s = if takesOver g (partnerNoted g s) then withAna (partnerNoted g s) takeOver else partnerNoted g s := (rfl)

theorem partnerNoted_onlyFields (g : Bool) (s : State) : OnlyFields [VRS_EVENT_PARTNER_GAVE_UP] s (partnerNoted g s) :=
  (OnlyFields.frame _).iff (.refl _ s) fun _ => .set (.refl _ s) _ 1 (by simp)

theorem partnerNoted_get (g : Bool) (s : State) {f : Fld} (h : f.key ≠ VRS_EVENT_PARTNER_GAVE_UP.key) : (partnerNoted g s).get f = s.get f :=
  (partnerNoted_onlyFields g s).1.get (by simpa using h)

theorem VRS_OUT_ne_event (k : Nat) : (VRS_OUT_CLASS k).key ≠ VRS_EVENT_PARTNER_GAVE_UP.key ∧ (VRS_OUT_READY k).key ≠ VRS_EVENT_PARTNER_GAVE_UP.key
    ∧ (VRS_OUT_OTHER_HOLDS k).key ≠ VRS_EVENT_PARTNER_GAVE_UP.key :=
  ⟨(VRS_ne_class (by decide) (by decide) k).symm, (VRS_ne_ready (by decide) (by decide) k).symm,
    (VRS_ne_output (g := VRS_OUT_OTHER_HOLDS k) rfl (show 25 < 64 by decide) (by decide) (by decide)).symm⟩

theorem takesOver_partnerNoted (g : Bool) (s : State) : takesOver g (partnerNoted g s) = takesOver g s := by
  have hclass := fun k => partnerNoted_get g s (VRS_OUT_ne_event k).1
  have hholds := fun k => partnerNoted_get g s (VRS_OUT_ne_event k).2.2
  have hauto := partnerNoted_get g s (f := VRS_CTRL_AUTO_TAKE) (by decide)
  have hlink := partnerNoted_get g s (f := VRS_STATUS_LINK) (by decide)
  simp only [takesOver, versoUp, State.on, hclass, hholds, hauto, hlink]

/-- What holds of the 40 outputs holds of the numbers below 40. -/
theorem forall_outputs {p : Nat → Prop} : (∀ k ∈ outputs, p k) ↔ ∀ k : Fin 40, p k :=
  ⟨fun h k => h k (List.mem_range.2 k.isLt), fun h k hk => h ⟨k, List.mem_range.1 hk⟩⟩

theorem takesOver_iff (g : Bool) (s : State) : takesOver g s = true ↔ s.get VRS_CTRL_AUTO_TAKE = 1 ∧ (∀ k : Fin 40, s.get (VRS_OUT_CLASS k) ≠ 12)
    ∧ (∃ k : Fin 40, s.get (VRS_OUT_CLASS k) = 4)
    ∧ (g = true ∨ (versoUp s = false ∧ ∀ k : Fin 40, s.get (VRS_OUT_CLASS k) = 4 → s.get (VRS_OUT_OTHER_HOLDS k) ≠ 1)) := by
  have hnone : (∀ k ∈ outputs, s.get (VRS_OUT_CLASS k) ≠ 12) ↔ _ := forall_outputs
  have hunheld : (∀ k ∈ outputs, s.get (VRS_OUT_CLASS k) = 4 → s.get (VRS_OUT_OTHER_HOLDS k) ≠ 1) ↔ _ := forall_outputs
  have hsome : (∃ k ∈ outputs, s.get (VRS_OUT_CLASS k) = 4) ↔ ∃ k : Fin 40, s.get (VRS_OUT_CLASS k) = 4 :=
    ⟨fun ⟨k, hk, h⟩ => ⟨⟨k, List.mem_range.1 hk⟩, h⟩, fun ⟨k, h⟩ => ⟨k, List.mem_range.2 k.isLt, h⟩⟩
  rw [← hnone, ← hunheld, ← hsome]
  simp [takesOver, State.on, and_assoc, imp_iff_not_or]

/-- A unit that is not a whole standby, or whose partner still has a live claim, takes nothing over (R394). -/
theorem not_takesOver {g : Bool} {s : State} (h : s.get VRS_CTRL_AUTO_TAKE ≠ 1 ∨ (∃ k : Fin 40, s.get (VRS_OUT_CLASS k) = 12)
    ∨ (∀ k : Fin 40, s.get (VRS_OUT_CLASS k) ≠ 4)
    ∨ (g = false ∧ (versoUp s = true ∨ ∃ k : Fin 40, s.get (VRS_OUT_CLASS k) = 4 ∧ s.get (VRS_OUT_OTHER_HOLDS k) = 1))) : ¬ takesOver g s = true := by
  rw [takesOver_iff]
  rintro ⟨hauto, hnone, ⟨k, hk⟩, hwhen⟩
  rcases h with h | ⟨j, hj⟩ | h | ⟨rfl, h⟩
  · exact h hauto
  · exact hnone j hj
  · exact h k hk
  · obtain ⟨hdown, hfree⟩ := hwhen.resolve_left Bool.false_ne_true
    rcases h with h | ⟨j, hj, ho⟩
    · exact Bool.false_ne_true (hdown.symm.trans h)
    · exact hfree j hj ho

/-- A visit of each element of a list without doubles is, for what only its own visit changes, that one visit. -/
theorem State.each_once {α β : Type} (π : State → β) {l : List α} (hl : l.Nodup) {a : α} (ha : a ∈ l) (k : State → α → State)
    (h : ∀ s, ∀ b ∈ l, b ≠ a → π (k s b) = π s) (s : State) : ∃ u, π u = π s ∧ π (s.each l k) = π (k u a) := by
  obtain ⟨l, r, rfl⟩ := List.append_of_mem ha
  obtain ⟨-, hright, hdisjoint⟩ := List.nodup_append.1 hl
  refine ⟨s.each l k, State.each_keeps π s l k fun t b hb => h t b (by simp [hb]) (hdisjoint b hb a List.mem_cons_self), ?_⟩
  rw [State.each_append, State.each_cons]
  exact State.each_keeps π _ r k fun t b hb => h t b (by simp [hb]) fun e => (List.nodup_cons.1 hright).1 (e ▸ hb)

/-- What an output becomes as the unit takes over (R394, R396). -/
def outputTaken (s : State) (k : Nat) : State := s.iff (s.get (VRS_OUT_CLASS k) == 4) fun s => setClass s k (if s.on (VRS_OUT_READY k) then 12 else 0)

/-- A takeover is recorded, and changes the ANA state (R397, R400). -/
def takeoverNoted (s : State) : State := { s with anaChange := true }.ev VRS_EVENT_TAKEOVER

theorem takeoverNoted_event (s : State) : (takeoverNoted s).get VRS_EVENT_TAKEOVER = 1 := State.get_ev _ _ one_pos

theorem takeoverNoted_anaChange (s : State) : (takeoverNoted s).anaChange = true := (rfl)

theorem takeoverNoted_get (s : State) {f : Fld} (h : f.key ≠ VRS_EVENT_TAKEOVER.key) : (takeoverNoted s).get f = s.get f := State.get_ev_ne _ h

theorem takeOver_eq (s : State) : takeOver s = askAuto (takeoverNoted ((noteTakeover s).each outputs outputTaken)) := (rfl)

theorem noteTakeover_fld (s : State) : (noteTakeover s).fld = s.fld := State.each_keeps State.fld s _ _ fun _ _ _ => rfl

theorem requestMode_shown (s : State) (e j m : Nat) : (requestMode s e j m).fld = s.fld ∧ (requestMode s e j m).anaChange = s.anaChange := by
  unfold requestMode
  split <;> exact ⟨rfl, rfl⟩

/-- What asks the loops into AUTO shows nothing yet. -/
theorem askAuto_shown (s : State) : (askAuto s).fld = s.fld ∧ (askAuto s).anaChange = s.anaChange := by
  have hR : Frame fun s t : State => t.fld = s.fld ∧ t.anaChange = s.anaChange := ⟨fun _ => ⟨rfl, rfl⟩, fun h k => ⟨k.1.trans h.1, k.2.trans h.2⟩⟩
  unfold askAuto
  exact hR.each (s := s) (hR.refl s) fun t e _ => hR.each (s := t) (hR.refl t) fun u j _ => hR.iff (s := u) (hR.refl u) fun _ => requestMode_shown u e j mAuto

theorem takeOver_event (s : State) : (takeOver s).get VRS_EVENT_TAKEOVER = 1 ∧ (takeOver s).anaChange = true := by
  rw [takeOver_eq, State.get_of_fld (askAuto_shown _).1, (askAuto_shown _).2]
  exact ⟨takeoverNoted_event _, takeoverNoted_anaChange _⟩

theorem outputTaken_ne (s : State) {j k : Nat} (hj : j < 40) (h : k ≠ j) :
    (outputTaken s k).get (VRS_OUT_CLASS j) = s.get (VRS_OUT_CLASS j) ∧ (outputTaken s k).get (VRS_OUT_READY j) = s.get (VRS_OUT_READY j) := by
  unfold outputTaken State.iff
  split
  · exact ⟨setClass_class_ne s _ hj h.symm, setClass_ready s k _ hj⟩
  · exact ⟨rfl, rfl⟩

theorem outputTaken_class (s : State) (k : Nat) : (outputTaken s k).get (VRS_OUT_CLASS k)
    = if s.get (VRS_OUT_CLASS k) = 4 then (if s.get (VRS_OUT_READY k) = 1 then 12 else 0) else s.get (VRS_OUT_CLASS k) := by
  unfold outputTaken State.iff
  by_cases h4 : s.get (VRS_OUT_CLASS k) = 4
  · rw [if_pos (beq_iff_eq.2 h4), if_pos h4, setClass_class s (by split <;> decide)]
    simp [State.on]
  · rw [if_neg (by simpa using h4), if_neg h4]

theorem takeOver_class (s : State) {k : Nat} (hk : k < 40) : (takeOver s).get (VRS_OUT_CLASS k)
    = if s.get (VRS_OUT_CLASS k) = 4 then (if s.get (VRS_OUT_READY k) = 1 then 12 else 0) else s.get (VRS_OUT_CLASS k) := by
  have hevent : (VRS_OUT_CLASS k).key ≠ VRS_EVENT_TAKEOVER.key := (VRS_ne_class (by decide) (by decide) k).symm
  obtain ⟨u, hu, hvisit⟩ := State.each_once (fun t => (t.get (VRS_OUT_CLASS k), t.get (VRS_OUT_READY k))) List.nodup_range (List.mem_range.2 hk) outputTaken
    (fun t j _ hj => Prod.ext (outputTaken_ne t hk hj).1 (outputTaken_ne t hk hj).2) (noteTakeover s)
  simp only [Prod.mk.injEq] at hu hvisit
  rw [takeOver_eq, State.get_of_fld (askAuto_shown _).1, takeoverNoted_get _ hevent, outputs, hvisit.1, outputTaken_class, hu.1, hu.2,
    State.get_of_fld (noteTakeover_fld s), State.get_of_fld (noteTakeover_fld s)]

theorem takeover_refused {g : Bool} {s : State} (h : ¬ takesOver g s = true) : OnlyFields [VRS_EVENT_PARTNER_GAVE_UP] s (takeover g s) := by
  rw [takeover_eq, takesOver_partnerNoted, if_neg h]
  exact partnerNoted_onlyFields g s

theorem takeover_takes {g : Bool} {s : State} (h : takesOver g s = true) : HostOnly (takeOver (partnerNoted g s)) (takeover g s) := by
  rw [takeover_eq, takesOver_partnerNoted, if_pos h]
  exact withAna_hostOnly _ takeOver

theorem takeOver_partner {s : State} (h : s.get VRS_EVENT_PARTNER_GAVE_UP = 1) : (takeOver s).get VRS_EVENT_PARTNER_GAVE_UP = 1 := by
  have hvisit : ∀ t k, (outputTaken t k).get VRS_EVENT_PARTNER_GAVE_UP = t.get VRS_EVENT_PARTNER_GAVE_UP := fun t k =>
    State.get_iff_of _ _ _ (setClass_get t k _ (f := VRS_EVENT_PARTNER_GAVE_UP) rfl (VRS_ne_class (by decide) (by decide) k) (by decide))
  rw [takeOver_eq, State.get_of_fld (askAuto_shown _).1, takeoverNoted_get _ (by decide), State.get_each_of _ _ _ fun t k _ => hvisit t k,
    State.get_of_fld (noteTakeover_fld s), h]

theorem takeover_partner (s : State) : (takeover true s).get VRS_EVENT_PARTNER_GAVE_UP = 1 := by
  have hnoted : (partnerNoted true s).get VRS_EVENT_PARTNER_GAVE_UP = 1 := s.get_ev _ one_pos
  by_cases h : takesOver true s = true
  · rw [(takeover_takes h).get, takeOver_partner hnoted]
  · rw [takeover_eq, takesOver_partnerNoted, if_neg h, hnoted]

theorem takeover_effect {g : Bool} {s : State} (h : takesOver g s = true) : (takeover g s).get VRS_EVENT_TAKEOVER = 1 ∧ (takeover g s).anaChange = true
    ∧ ∀ k : Fin 40, (takeover g s).get (VRS_OUT_CLASS k)
      = if s.get (VRS_OUT_CLASS k) = 4 then (if s.get (VRS_OUT_READY k) = 1 then 12 else 0) else s.get (VRS_OUT_CLASS k) := by
  have htaken := takeover_takes h
  obtain ⟨hevent, hana⟩ := takeOver_event (partnerNoted g s)
  have hchange : (takeover g s).anaChange = (takeOver (partnerNoted g s)).anaChange := (congrArg State.anaChange htaken.eq :)
  refine ⟨(htaken.get _).trans hevent, hchange.trans hana, fun k => ?_⟩
  obtain ⟨hclass, hready, -⟩ := VRS_OUT_ne_event k
  rw [htaken.get, takeOver_class _ k.isLt, partnerNoted_get g s hclass, partnerNoted_get g s hready]

/-! ### STALE -/

theorem stale_idle {k : Nat} {s : State} (h : s.get (VRS_OUT_CLASS k) ≠ 4 ∨ s.get (VRS_OUT_OTHER_HOLDS k) = 1) : stale k s = s := by
  refine if_neg fun ⟨hclass, hholds⟩ => ?_
  rcases h with h | h
  · exact h hclass
  · exact Bool.false_ne_true (hholds.symm.trans (State.on_eq_true h))

theorem stale_relinquishes {k : Nat} {s : State} (h : s.get (VRS_OUT_CLASS k) = 4) (ho : s.get (VRS_OUT_OTHER_HOLDS k) ≠ 1) :
    (stale k s).get (VRS_OUT_CLASS k) = 0 ∧ (stale k s).get VRS_EVENT_STALE = 1
      ∧ SameFields [VRS_OUT_CLASS k, VRS_EVENT_STALE, VRS_STATUS_ROLE] s (stale k s) := by
  have hhost : HostOnly (setClass (s.ev VRS_EVENT_STALE) k 0) (stale k s) := by
    rw [stale, if_pos ⟨h, beq_false_of_ne ho⟩]
    exact withAna_hostOnly (s.ev VRS_EVENT_STALE) fun s => setClass s k 0
  have hevent := VRS_ne_class (f := VRS_EVENT_STALE) (by decide) (by decide) k
  have hnoted : (s.ev VRS_EVENT_STALE).get (VRS_OUT_CLASS k) ≠ 12 := by
    rw [State.get_ev_ne _ hevent.symm, h]
    decide
  refine ⟨(hhost.get _).trans (setClass_class _ (by decide)), ?_, ?_⟩
  · rw [hhost.get, setClass_get _ _ _ (f := VRS_EVENT_STALE) rfl hevent (by decide)]
    exact s.get_ev _ one_pos
  · have hset := (setClass_sameFields (s := s.ev VRS_EVENT_STALE) 0 (.inl hnoted)).mono (m := [VRS_OUT_CLASS k, VRS_EVENT_STALE, VRS_STATUS_ROLE]) (by simp)
    exact ((SameFields.ev (.refl _ s) _ (by simp)).trans hset).trans (hhost.sameFields _)

/-! ### DIAG_CLEAR, NODE_WRITE and DEG_CLR -/

theorem diagClear_idle {s : State} (h : s.get VRS_DIAG_CAUSE ≠ 0) : diagClear s = s := if_neg h

theorem diagClear_ends {s : State} (h : s.get VRS_DIAG_CAUSE = 0) : (diagClear s).get VRS_DIAG_GAVE_UP = 0 ∧ (diagClear s).get VRS_STATUS_ROLE ≠ 3
    ∧ SameFields [VRS_DIAG_GAVE_UP, VRS_STATUS_ROLE] s (diagClear s) := by
  have hhost : HostOnly (refreshRole (s.set VRS_DIAG_GAVE_UP 0)) (diagClear s) := by
    rw [diagClear, if_pos h]
    exact withAna_hostOnly s fun s => refreshRole (s.set VRS_DIAG_GAVE_UP 0)
  have hgone : (s.set VRS_DIAG_GAVE_UP 0).get VRS_DIAG_GAVE_UP = 0 := (State.get_set ..).trans (Nat.zero_mod _)
  refine ⟨?_, ?_, ?_⟩
  · rw [hhost.get, (refreshRole_onlyFields _).1.get (by decide), hgone]
  · rw [hhost.get]
    exact refreshRole_ne_gaveUp (by rw [hgone]; decide)
  · have hset : SameFields [VRS_DIAG_GAVE_UP, VRS_STATUS_ROLE] s (s.set VRS_DIAG_GAVE_UP 0) := .set (.refl _ s) _ _ (by simp)
    exact (hset.trans ((refreshRole_onlyFields _).1.mono (by simp))).trans (hhost.sameFields _)

theorem nodeWrite_relinquished {v : Nat} {s : State} (hv : v < 2 ^ 12) (h : ∀ k : Fin 40, s.get (VRS_OUT_CLASS k) = 0) :
    (nodeWrite v s).get VRS_NODE_NODE_ID = v ∧ OnlyFields [VRS_NODE_NODE_ID] s (nodeWrite v s) := by
  have hall : (outputs.all fun k => s.get (VRS_OUT_CLASS k) == 0) = true :=
    List.all_eq_true.2 (forall_outputs (p := fun k => (s.get (VRS_OUT_CLASS k) == 0) = true).2 fun k => beq_iff_eq.2 (h k))
  rw [nodeWrite, if_pos hall]
  exact ⟨(State.get_set ..).trans (Nat.mod_eq_of_lt hv), .set (.refl _ s) _ _ (by simp)⟩

theorem nodeWrite_refused {v : Nat} {s : State} (h : ∃ k : Fin 40, s.get (VRS_OUT_CLASS k) ≠ 0) :
    (nodeWrite v s).get VRS_EVENT_CFG_REFUSED = 1 ∧ OnlyFields [VRS_EVENT_CFG_REFUSED] s (nodeWrite v s) := by
  obtain ⟨k, hk⟩ := h
  have hall : ¬ (outputs.all fun k => s.get (VRS_OUT_CLASS k) == 0) = true := fun hall =>
    hk (beq_iff_eq.1 (List.all_eq_true.1 hall k (List.mem_range.2 k.isLt)))
  rw [nodeWrite, if_neg hall]
  exact ⟨s.get_ev _ one_pos, .set (.refl _ s) _ 1 (by simp)⟩

theorem degClr_up {s : State} (h : versoUp s = true) : (degClr s).get VRS_STATUS_DEGRADED = 0 ∧ OnlyFields [VRS_STATUS_DEGRADED] s (degClr s) := by
  rw [degClr, h, State.iff_true]
  exact ⟨(State.get_set ..).trans (Nat.zero_mod _), .set (.refl _ s) _ _ (by simp)⟩

theorem degClr_down {s : State} (h : versoUp s = false) : degClr s = s := by rw [degClr, h, State.iff_false]

end Sys2Proof.Machine

/-!
The health report (R398, R401); and what a unit's claims, giving up, takeover and health do, together.
-/

namespace Sys2Proof.Machine

/-! ### Masks -/

/-- The mask with the bits of a list set. -/
def maskOf (l : List Nat) : Nat := l.foldl (fun m k => m + 2 ^ k) 0

theorem maskOf_range_succ (p : Nat → Bool) (n : Nat) :
    maskOf ((List.range (n + 1)).filter p) = maskOf ((List.range n).filter p) + if p n then 2 ^ n else 0 := by
  rw [maskOf, List.range_succ, List.filter_append, List.foldl_append, ← maskOf]
  by_cases h : p n = true
  · simp [h]
  · simp [h]

theorem maskOf_lt (p : Nat → Bool) (n : Nat) : maskOf ((List.range n).filter p) < 2 ^ n := by
  induction n with
  | zero => exact one_pos
  | succ n ih =>
    rw [maskOf_range_succ, pow_succ]
    split <;> omega

theorem maskOf_testBit (p : Nat → Bool) (n : Nat) {i : Nat} (hi : i < n) : (maskOf ((List.range n).filter p)).testBit i = p i := by
  induction n with
  | zero => omega
  | succ n ih =>
    rw [maskOf_range_succ, Nat.add_comm]
    rcases Nat.lt_succ_iff_lt_or_eq.1 hi with h | rfl
    · rw [← ih h]
      by_cases hp : p n = true
      · rw [if_pos hp, Nat.testBit_two_pow_add_gt h]
      · rw [if_neg hp, Nat.zero_add]
    · by_cases hp : p i = true
      · rw [if_pos hp, Nat.testBit_two_pow_add_eq, Nat.testBit_lt_two_pow (maskOf_lt p i), hp]
        rfl
      · rw [if_neg hp, Nat.zero_add, Nat.testBit_lt_two_pow (maskOf_lt p i)]
        simpa using hp

/-! ### The stages of HEALTH (R398) -/

/-- Pens of the standby unit whose shadows disagree too often. -/
def shadowFails (s : State) : List Nat :=
  (List.range 16).filter fun p => s.get (VRS_OUT_CLASS p) == 4 && decide (s.get VRS_HEALTH_CFG_MISMATCH_MAX < (s.engine p).healthMis)

/-- Pens of the standby unit whose echoes are missing too often. -/
def echoFails (s : State) : List Nat :=
  (List.range 16).filter fun p => s.get (VRS_OUT_CLASS p) == 4 && decide (s.get VRS_HEALTH_CFG_ECHO_MAX < (s.engine p).healthMiss)

/-- Spindles of the standby unit whose commutation disagrees too often. -/
def commFails (s : State) : List Nat :=
  (List.range 8).filter fun k => s.get (VRS_OUT_CLASS (16 + k)) == 4 && decide (s.get VRS_HEALTH_CFG_MISMATCH_MAX < (s.spindle k).disagree)

/-- The health word counts itself, and shows what fails, if anything. -/
def healthWord (mis miss spn : List Nat) (s : State) : State :=
  let flag := fun (b : Bool) => if b then 1 else 0
  let s := (s.wrap VRS_HEALTH_SEQ 1).set VRS_HEALTH_VALID 1
  let s := ((s.set VRS_HEALTH_LINK_OK (flag s.verso.linkOk)).set VRS_HEALTH_COMM_OK (flag spn.isEmpty)).set VRS_HEALTH_ECHO_OK (flag miss.isEmpty)
  let s := (s.set VRS_HEALTH_SHADOW_OK (flag mis.isEmpty)).set VRS_HEALTH_PEN_ECHO_FAIL (maskOf miss)
  (s.set VRS_HEALTH_PEN_SHADOW_FAIL (maskOf mis)).set VRS_HEALTH_SPN_COMM_FAIL (maskOf spn)

/-- The report and its failures are recorded. -/
def healthNoted (failing : List Nat) (s : State) : State := (s.ev VRS_EVENT_HEALTH).iff (!failing.isEmpty) fun s => s.ev VRS_EVENT_HEALTH_FAIL

/-- With HEALTH_AUTO an output that fails is no longer ready. -/
def readinessTaken (failing : List Nat) (s : State) : State := s.iff (s.on VRS_CTRL_HEALTH_AUTO) fun s => s.each failing fun s k => s.set (VRS_OUT_READY k) 0

/-- The engines' counts start anew. -/
def pensRestarted (s : State) : State := s.each (List.range 16) fun s p => s.modEng p fun g => { g with healthMis := 0, healthMiss := 0 }

/-- The spindles' counts start anew. -/
def spindlesRestarted (s : State) : State := s.each (List.range 8) fun s k => s.modSp k fun p => { p with disagree := 0 }

/-- The registers after a health report. -/
def healthShown (s : State) : State :=
  readinessTaken (shadowFails s ++ echoFails s ++ (commFails s).map (16 + ·))
    (healthNoted (shadowFails s ++ echoFails s ++ (commFails s).map (16 + ·)) (healthWord (shadowFails s) (echoFails s) (commFails s) s))

theorem health_eq (s : State) : health s = (spindlesRestarted (pensRestarted (healthShown s))).modVerso fun v =>
    { v with linkOk := versoUp (spindlesRestarted (pensRestarted (healthShown s))) } := (rfl)

theorem pensRestarted_fld (s : State) : (pensRestarted s).fld = s.fld := State.each_keeps State.fld s _ _ fun _ _ _ => rfl

theorem spindlesRestarted_fld (s : State) : (spindlesRestarted s).fld = s.fld := State.each_keeps State.fld s _ _ fun _ _ _ => rfl

theorem restarted_fld (s : State) : (spindlesRestarted (pensRestarted s)).fld = s.fld := (spindlesRestarted_fld _).trans (pensRestarted_fld s)

theorem health_fld (s : State) : (health s).fld = (healthShown s).fld := by
  have hverso : ∀ (t : State) f, (t.modVerso f).fld = t.fld := fun _ _ => rfl
  rw [health_eq, hverso, restarted_fld]

/-! ### The fields of the report -/

theorem readinessTaken_get (l : List Nat) (s : State) {f : Fld} (h : ∀ k, f.key ≠ (VRS_OUT_READY k).key) : (readinessTaken l s).get f = s.get f :=
  State.get_iff_of _ _ _ (State.get_each_of _ _ _ fun t k _ => t.get_set_ne 0 (h k))

theorem healthNoted_get (l : List Nat) (s : State) {f : Fld} (h : f.addr ≠ vrsBase + 0x80) (hl : f.lo < 64) : (healthNoted l s).get f = s.get f := by
  rw [healthNoted, State.get_iff_of _ _ _ (State.get_ev_ne _ (Fld.key_ne_of_addr h hl (by decide))), State.get_ev_ne _ (Fld.key_ne_of_addr h hl (by decide))]

/-- A field in a word below the events is not reached by what follows the health word. -/
theorem healthShown_get (s : State) {f : Fld} (ha : f.addr < vrsBase + 0x80) (hl : f.lo < 64) :
    (healthShown s).get f = (healthWord (shadowFails s) (echoFails s) (commFails s) s).get f := by
  rw [healthShown, readinessTaken_get _ _ (VRS_ne_ready (by omega) hl), healthNoted_get _ _ (by omega) hl]

section
variable (mis miss spn : List Nat) (s : State)

theorem healthWord_seq : (healthWord mis miss spn s).get VRS_HEALTH_SEQ = (s.get VRS_HEALTH_SEQ + 1) % 2 ^ 8 := by
  unfold healthWord
  dsimp only
  iterate 8 rw [State.get_set_ne _ _ (by decide)]
  exact State.get_wrap ..

theorem healthWord_valid : (healthWord mis miss spn s).get VRS_HEALTH_VALID = 1 := by
  unfold healthWord
  dsimp only
  iterate 7 rw [State.get_set_ne _ _ (by decide)]
  exact State.get_set ..

theorem healthWord_linkOk : (healthWord mis miss spn s).get VRS_HEALTH_LINK_OK = if s.verso.linkOk then 1 else 0 := by
  unfold healthWord
  dsimp only
  iterate 6 rw [State.get_set_ne _ _ (by decide)]
  have hverso : ((s.wrap VRS_HEALTH_SEQ 1).set VRS_HEALTH_VALID 1).verso = s.verso := rfl
  rw [State.get_set, hverso]
  cases s.verso.linkOk <;> rfl

theorem healthWord_shadow : (healthWord mis miss spn s).get VRS_HEALTH_PEN_SHADOW_FAIL = maskOf mis % 2 ^ 16 := by
  unfold healthWord
  dsimp only
  rw [State.get_set_ne _ _ (by decide)]
  exact State.get_set ..

/-- A field outside the health words is as before. -/
theorem healthWord_get {f : Fld} (h : f.addr ∉ [vrsBase + 0x40, vrsBase + 0x44, vrsBase + 0x48]) (hl : f.lo < 64) :
    (healthWord mis miss spn s).get f = s.get f := by
  have hne : ∀ g ∈ [VRS_HEALTH_SEQ, VRS_HEALTH_VALID, VRS_HEALTH_LINK_OK, VRS_HEALTH_COMM_OK, VRS_HEALTH_ECHO_OK, VRS_HEALTH_SHADOW_OK,
      VRS_HEALTH_PEN_ECHO_FAIL, VRS_HEALTH_PEN_SHADOW_FAIL, VRS_HEALTH_SPN_COMM_FAIL], f.key ≠ g.key := by
    have hplace : ∀ g ∈ [VRS_HEALTH_SEQ, VRS_HEALTH_VALID, VRS_HEALTH_LINK_OK, VRS_HEALTH_COMM_OK, VRS_HEALTH_ECHO_OK, VRS_HEALTH_SHADOW_OK,
        VRS_HEALTH_PEN_ECHO_FAIL, VRS_HEALTH_PEN_SHADOW_FAIL, VRS_HEALTH_SPN_COMM_FAIL],
        g.addr ∈ [vrsBase + 0x40, vrsBase + 0x44, vrsBase + 0x48] ∧ g.lo < 64 := by decide
    exact fun g hg => Fld.key_ne_of_addr (fun e => h (e ▸ (hplace g hg).1)) hl (hplace g hg).2
  unfold healthWord
  dsimp only
  iterate 8 rw [State.get_set_ne _ _ (hne _ (by simp))]
  exact State.get_wrap_ne _ _ (hne _ (by simp))

end

theorem health_get (s : State) {f : Fld} (ha : f.addr < vrsBase + 0x80) (hl : f.lo < 64) :
    (health s).get f = (healthWord (shadowFails s) (echoFails s) (commFails s) s).get f := by
  rw [State.get_of_fld (health_fld s), healthShown_get s ha hl]

theorem health_shadow (s : State) (p : Fin 16) : (health s).bit VRS_HEALTH_PEN_SHADOW_FAIL p
    = (decide (s.get (VRS_OUT_CLASS p) = 4) && decide (s.get VRS_HEALTH_CFG_MISMATCH_MAX < (s.engine p).healthMis)) := by
  rw [State.bit, health_get s (by decide) (by decide), healthWord_shadow, shadowFails, Nat.mod_eq_of_lt (maskOf_lt _ 16), maskOf_testBit _ 16 p.isLt]
  rfl

theorem health_versoUp (s : State) : (health s).verso.linkOk = versoUp s := by
  have hlink : (spindlesRestarted (pensRestarted (healthShown s))).get VRS_STATUS_LINK = s.get VRS_STATUS_LINK := by
    rw [State.get_of_fld (restarted_fld _), healthShown_get s (by decide) (by decide), healthWord_get _ _ _ s (by decide) (by decide)]
  rw [health_eq]
  exact congrArg (· == 2) hlink

/-! ### Events, readiness and counts -/

theorem health_event (s : State) : (health s).get VRS_EVENT_HEALTH = 1 := by
  rw [State.get_of_fld (health_fld s), healthShown, readinessTaken_get _ _ (VRS_ne_ready (by decide) (by decide)), healthNoted,
    State.get_iff_of _ _ _ (State.get_ev_ne _ (by decide))]
  exact State.get_ev _ _ one_pos

theorem healthNoted_fails {l : List Nat} (h : l ≠ []) (s : State) : (healthNoted l s).get VRS_EVENT_HEALTH_FAIL = 1 := by
  rw [healthNoted, List.isEmpty_eq_false_iff.2 h]
  exact State.get_ev _ _ one_pos

theorem readinessTaken_ready {l : List Nat} {k : Nat} (hk : k ∈ l) {s : State} (h : s.get VRS_CTRL_HEALTH_AUTO = 1) :
    (readinessTaken l s).get (VRS_OUT_READY k) = 0 := by
  rw [readinessTaken, State.on_eq_true h, State.iff_true]
  exact State.each_establishes (P := fun s => s.get (VRS_OUT_READY k) = 0) hk s (fun t j _ ht => State.get_set_zero ht rfl)
    fun t => (State.get_set ..).trans (Nat.zero_mod _)

/-- A pen whose shadow fails is no longer ready with HEALTH_AUTO, and the failure is recorded (R398). -/
theorem health_fails {s : State} {p : Fin 16} (hauto : s.get VRS_CTRL_HEALTH_AUTO = 1) (h : (health s).bit VRS_HEALTH_PEN_SHADOW_FAIL p = true) :
    (health s).get (VRS_OUT_READY p) = 0 ∧ (health s).get VRS_EVENT_HEALTH_FAIL = 1 := by
  have hmem : p.val ∈ shadowFails s ++ echoFails s ++ (commFails s).map (16 + ·) := by
    rw [health_shadow] at h
    exact List.mem_append_left _ (List.mem_append_left _ (List.mem_filter.2 ⟨List.mem_range.2 p.isLt, h⟩))
  rw [State.get_of_fld (health_fld s), State.get_of_fld (health_fld s), healthShown]
  refine ⟨readinessTaken_ready hmem ?_, ?_⟩
  · rw [healthNoted_get _ _ (by decide) (by decide), healthWord_get _ _ _ s (by decide) (by decide), hauto]
  · rw [readinessTaken_get _ _ (VRS_ne_ready (by decide) (by decide)), healthNoted_fails (List.ne_nil_of_mem hmem)]

theorem pensRestarted_counts (s : State) {p : Nat} (hp : p < 16) : ((pensRestarted s).engine p).healthMis = 0 ∧ ((pensRestarted s).engine p).healthMiss = 0 := by
  refine State.each_establishes (P := fun s => (s.engine p).healthMis = 0 ∧ (s.engine p).healthMiss = 0) (List.mem_range.2 hp) s (fun t q _ ht => ?_) fun t => ?_
  · by_cases hq : p = q
    · rw [hq, State.engine_modEng]
      exact ⟨rfl, rfl⟩
    · rwa [State.engine_modEng_ne _ _ hq]
  · rw [State.engine_modEng]
    exact ⟨rfl, rfl⟩

theorem health_counts (s : State) (p : Fin 16) : ((health s).engine p).healthMis = 0 ∧ ((health s).engine p).healthMiss = 0 := by
  have hspindles : ∀ t : State, (spindlesRestarted t).engine p = t.engine p := fun t => State.each_keeps (fun t => t.engine p) t _ _ fun _ _ _ => rfl
  have hverso : ∀ (t : State) f, (t.modVerso f).engine p = t.engine p := fun _ _ => rfl
  rw [health_eq, hverso, hspindles]
  exact pensRestarted_counts _ p.isLt

/-! ### The obligation -/

/-- An island that no power state gates runs out of reset: a write reaches the Verso registers. -/
theorem vrs_clocked {s : State} (h : s.boot.low = false) (k : State → State) : (.next (s.clocked vrsIsland k) : Res) = .next (k s) := by
  rw [State.clocked_running (islandStopped_ungated h (by decide) (by decide))]

/-- Settles O55: each of the rows on claims, giving up, takeover and health by what it does to the state. -/
theorem versoClaims : Obligations.VersoClaims := by
  unfold Obligations.VersoClaims
  refine ⟨fun k v s hlow => ⟨_, vrs_clocked hlow _, fun h => ?_, fun h => ⟨fun hc => ?_, fun hc => ?_, fun hc hg => ?_, fun hc hg ho hn => ?_⟩⟩,
    fun s hlow => ⟨giveUp s, vrs_clocked hlow _, giveUp_gaveUp s, giveUp_event s, giveUp_role s, fun k => giveUp_class s k.isLt,
      fun e j hj => giveUp_modes s e.isLt hj, giveUp_cmds s, fun n h hnd d hd hopen => giveUp_cuts n.isLt h hnd hd hopen,
      fun h => giveUp_sameMemory fun n hn => h ⟨n, hn⟩, giveUp_sent⟩,
    fun g s => ⟨takeover g s, rfl, fun h => h ▸ takeover_partner s, fun h => takeover_refused (not_takesOver h), fun ha hn h4 hg =>
      takeover_effect ((takesOver_iff g s).2 ⟨ha, hn, h4, hg⟩)⟩,
    fun k s => ⟨stale k s, rfl, stale_idle, stale_relinquishes⟩,
    fun s hlow => ⟨diagClear s, vrs_clocked hlow _, diagClear_idle, diagClear_ends⟩,
    fun v s hlow => ⟨nodeWrite v.toNat s, vrs_clocked hlow _, nodeWrite_relinquished v.isLt, nodeWrite_refused⟩,
    fun s hlow => ⟨degClr s, vrs_clocked hlow _, degClr_up, degClr_down⟩,
    fun s => ⟨health s, rfl, ?_, ?_, health_event s, ?_, health_versoUp s, fun p => ?_⟩⟩
  · rw [vrsOutWrite_ready v.isLt h]
    exact ⟨(State.get_set ..).trans (Nat.mod_eq_of_lt (Nat.mod_lt _ two_pos)), .set (.refl _ s) _ _ (by simp)⟩
  · exact vrsOutWrite_unknown v.isLt h hc
  · exact vrsOutWrite_refused v.isLt h (claimRefused_iff.2 hc)
  · have hin : v.toNat / 2 ^ 28 ∈ [0, 4, 12] := List.mem_append_left [12] hc
    have hne : v.toNat / 2 ^ 28 ≠ 12 := fun e => absurd (e ▸ hc) (by decide)
    have hr := not_claimRefused_of_ne (k := k) hg hne
    refine ⟨vrsOutWrite_class v.isLt h hin hr, vrsOutWrite_readyTaken v.isLt h hin hr k.isLt, fun hheld n hn => ?_,
      vrsOutWrite_sameFields v.isLt h hin hr⟩
    rw [hn]
    exact fun hnd d hd hopen => vrsOutWrite_cuts v.isLt h hin hr (hn ▸ n.isLt) hheld hnd hd hopen
  · have hr := not_claimRefused_of_free hg ho hn
    have hin : v.toNat / 2 ^ 28 ∈ [0, 4, 12] := by rw [hc]; decide
    obtain ⟨hrole, hsent⟩ := vrsOutWrite_active v.isLt k.isLt h hc (hr 12)
    refine ⟨(vrsOutWrite_class v.isLt h hin (hr _)).trans hc, hrole, fun n hn hup => ?_,
      vrsOutWrite_sameFields v.isLt h hin (hr _) (.inl fun e => h (hc.trans e.symm))⟩
    rw [hn] at hup ⊢
    exact hsent (hn ▸ n.isLt) hup
  · rw [health_get s (by decide) (by decide), healthWord_seq]
  · rw [health_get s (by decide) (by decide), healthWord_valid]
  · rw [health_get s (by decide) (by decide), healthWord_linkOk]
  · obtain ⟨hmis, hmiss⟩ := health_counts s p
    exact ⟨health_shadow s p, hmis, hmiss, health_fails⟩

end Sys2Proof.Machine
